-- ==== Sys2Proof/Syntax.lean ====
section
/-! DEFINITION. The commands of the block: one constructor of `Instr` per row of spec/opcode_table.json, in the table's
order with those that have no operands last, with the operands the row's rule gives it. Units are named by R25's numbers. What only the outside can know (a
measured value, a signature's verdict, how a medium answered) is an operand. -/

namespace Sys2Proof

abbrev Quarter := Fin 4
abbrev LinkId := Fin 24
abbrev ChanId := Fin 16
abbrev CarrierId := Fin 8
abbrev CoreId := Fin 144
abbrev SliceId := Fin 16
abbrev TenantId := Fin 16

/-- Who sends a command: the BMC through the register mailbox (R286), a fabric endpoint (R263, R337), an endpoint whose command
another device forwards in a CMD_FWD message (R381), a write to RGN_CMD or SLOT_CMD of a quarter (R200, R163), or to HWD_CMD (R368). -/
inductive Issuer where
  | bmc
  | ep (src : W16)
  | fwd (dev : W16) (xid : W32) (src : W16)
  | rgnCmd (q : Quarter)
  | slotCmd (q : Quarter)
  | hwdCmd
deriving DecidableEq, Repr

/-- The header fields of a command block that its meaning reads (R264). -/
structure CmdHdr where
  iss : Issuer
  seq : W32
  handle : W16
  queue : Byte
deriving DecidableEq, Repr

/-- A REQ message as it reaches the ingress router (R147). `rsvd`: some reserved header bit or byte is not 0. -/
structure ReqMsg where
  link : LinkId
  src : W16
  dst : W16
  tag : W16
  handle : W16
  len : Byte
  addr : W64
  fwd : Bool
  near : Bool
  nr : Bool
  wbPending : Bool
  rsvd : Bool
  payload : Bytes
deriving DecidableEq, Repr

/-- A snoop answer or an eviction from a host (R147, R148). -/
structure HostMsg where
  link : LinkId
  src : W16
  tag : W16
  addr : W64
  wbPending : Bool
  payload : Bytes
deriving DecidableEq, Repr

/-- An MGT message as delivered to this device (R268). -/
structure MgtMsg where
  src : W16
  dst : W16
  tag : W16
  payload : Bytes
deriving DecidableEq, Repr

/-- The prefix of a COORD message (R381). -/
structure Coord where
  src : W16
  xid : W32
deriving DecidableEq, Repr

/-- A received flit: the header word of R292, the decrypted MESSAGE bytes, and what the CRC and tag checks of R302 found. -/
structure Flit where
  hdr : W64
  msg : Bytes
  crcOk : Bool
  tagOk : Bool
deriving DecidableEq, Repr

/-- What a CONFIG flit says of the peer (R296 step 3). Rates: bit 0 K100, bit 1 K200. Widths: bits 0 to 2 for x1, x2, x4. -/
structure PeerConfig where
  peerId : W16
  rank : W16
  isHost : Bool
  rates : BitVec 2
  widths : BitVec 3
  depths : List Nat
deriving DecidableEq, Repr

/-- What AUTH flits established (R296 step 4). -/
structure AuthVerdict where
  chainOk : Bool
  anchor : BitVec 384
  sigOk : Bool
deriving DecidableEq, Repr

/-- A signature that verifies: the copy it stands in (0 A, 1 B), the record type and instance; type 0 is the blank's own. -/
abbrev SigRef := Nat × Nat × Nat

/-- What the outside finds while a start-up step runs (R410). -/
structure StepReport where
  ok : Bool
  cause : Byte
  readable : BitVec 2
  sigs : List SigRef
  quartersUp : BitVec 4
deriving DecidableEq, Repr

/-- What the SPD of a channel's DIMMs says (R74). -/
inductive DimmKind where
  | none | rdimm | mrdimm
deriving DecidableEq, Repr

/-- What a training run found (R76): no SPD response; the DIMMs with the step that failed at each speed (0: none failed). -/
structure TrainReport where
  spd : Bool
  spdCrcOk : Bool
  kind : DimmKind
  dimms : Nat
  ranksPerDimm : Nat
  dieGb : Nat
  width : Nat
  checkDevices : Nat
  gibPerDimm : Nat
  fail6400 : Nat
  fail3200 : Nat
  fail12800 : Nat
deriving DecidableEq, Repr

/-- What carrier discovery found (R109, R135): the 256 descriptor bytes, the ONFI check, and the training of each of the
four channels (2: 3,200 MT/s; 1: only 1,600 MT/s; 0: neither). -/
structure CarrierReport where
  desc : Bytes
  onfiOk : Bool
  speeds : List Nat
deriving DecidableEq, Repr

/-- How a page read ended on the ladder of R127: the stage that succeeded, 5 for none; the codewords corrected at stage 1;
the most corrected bits in a codeword. -/
structure PageRead where
  stage : Nat
  cwCorrected : Nat
  worstBits : Nat
deriving DecidableEq, Repr

/-- Which self-test or tamper temperature and so on: a sample of the two lid channels (R356). -/
structure LidPins where
  a : Bool
  b : Bool
deriving DecidableEq, Repr

/-- Cause of a power-on reset from outside (R425, R443 RST_CAUSE). -/
inductive PorCause where
  | powerApplied | porstN
deriving DecidableEq, Repr

/-- Levels of the four straps (R471). -/
structure Straps where
  head : Bool
  hosted : Bool
  refSel : Bool
  srefSel : Bool
deriving DecidableEq, Repr

/-- Which oscillator (R420). -/
inductive Osc where
  | ref25 | xtal32
deriving DecidableEq, Repr

/-- Which clock domain (R37, R423). -/
inductive DomId where
  | eclk (q : Quarter) | nclk (q : Quarter) | qcclk (q : Quarter) | mclk (q : Quarter) | fclk (q : Quarter)
  | hubCclk | hubPclk
deriving DecidableEq, Repr

/-- The kernel-core fault causes of KC_FAULT (R229), as their codes 0x01 to 0x08. -/
abbrev CoreCause := Byte

/-- A JTAG operation (R465). -/
inductive TapOp where
  | bypass | idcode | boundaryScan | debug (source : Fin 7)
deriving DecidableEq, Repr

/-- How a DRAM or page operation of a stripe ended per carrier: true for pass. -/
abbrev PassMask := BitVec 8

/-- Which pair-link or chain path a heartbeat came on (R389). -/
inductive HbPath where
  | chain | link
deriving DecidableEq, Repr

inductive Instr where
  | powerOnReset (cause : PorCause) (straps : Straps) (pufOk : Bool)
  | oscStable (o : Osc)
  | startupStepDone (r : StepReport)
  | ddrTrainDone (c : ChanId) (r : TrainReport)
  | carrierDiscoveryDone (c : CarrierId) (r : CarrierReport)
  | suCmdRun (step : BitVec 4)
  | suCmdRetry (step : BitVec 4)
  | quarterReset (q : Quarter)
  | quarterDrainDone (q : Quarter)
  | qwdogExpire (q : Quarter)
  | pfSequenceDone (mib us : W16)
  | tempReport (celsius : Byte)
  | powerMeasure (watts : W16)
  | clockRampStep (d : DomId)
  | eclkReqWrite (div : BitVec 4)
  | setState (target : BitVec 4)
  | timeSync (m : MgtMsg)
  | timeDreq (m : MgtMsg)
  | timeDresp (m : MgtMsg)
  | ptpMessage (domain : Byte) (locked : Bool) (ptpNs : W64)
  | laneSignalDetect (l : LinkId)
  | linkTrainDone (l : LinkId) (lanes : BitVec 4)
  | linkTrainTimeout (l : LinkId)
  | configFlit (l : LinkId) (p : PeerConfig)
  | configTimeout (l : LinkId)
  | authFlit (l : LinkId) (v : AuthVerdict)
  | authTimeout (l : LinkId)
  | nullFlit (l : LinkId) (f : Flit)
  | msgFlit (l : LinkId) (f : Flit)
  | creditFlit (l : LinkId) (f : Flit)
  | abortFlit (l : LinkId) (f : Flit)
  | keyxFlit (l : LinkId) (f : Flit)
  | replayTimeout (l : LinkId)
  | ackCoalesceTimer (l : LinkId)
  | creditTimer (l : LinkId)
  | linkRekey (l : LinkId)
  | rekeyTimeout (l : LinkId)
  | laneLockLoss (l : LinkId) (lane : Fin 4)
  | laneLockRegain (l : LinkId) (lane : Fin 4)
  | linkDownTimer (l : LinkId)
  | retrainDone (l : LinkId) (p : PeerConfig)
  | retrainTimeout (l : LinkId)
  | linkHoldoffExpire (l : LinkId)
  | linkDisable (l : LinkId)
  | linkDisableDone (l : LinkId)
  | linkEnable (l : LinkId)
  | linkRetrain (l : LinkId) (width rate : BitVec 2)
  | stallTimeout (l : LinkId) (vc : Fin 6)
  | rdOnce (r : ReqMsg)
  | rdShared (r : ReqMsg)
  | rdOwn (r : ReqMsg)
  | upgrade (r : ReqMsg)
  | wrLine (r : ReqMsg)
  | wrPart (r : ReqMsg)
  | atomic (r : ReqMsg)
  | redAdd (r : ReqMsg)
  | redRead (r : ReqMsg)
  | lineLockGranted (line : Nat)
  | victimWayFree (sl : SliceId)
  | victimLimitRelease (sl : SliceId)
  | flashReadDone (block : Nat) (r : PageRead)
  | journalGroupExpire (q : Quarter) (t : TenantId)
  | journalProgramDone (q : Quarter) (t : TenantId) (pseq : Nat) (carrier : CarrierId) (pass : Bool)
  | denseStripeTimeout (q : Quarter) (t : TenantId)
  | denseVerifyDone (q : Quarter) (t : TenantId) (progPass hardOk : PassMask) (worstBits : List Nat)
  | flashEraseDone (carrier : CarrierId) (sblk : Nat) (pass : Bool)
  | wearLevelCheck (c : CarrierId)
  | retentionScan (c : CarrierId) (sblk : Nat) (r : PageRead)
  | carPrsntFall (c : CarrierId)
  | carPrsntRise (c : CarrierId)
  | carOwnFall (c : CarrierId)
  | carOwnRise (c : CarrierId)
  | carOffline (c : CarrierId) (force : Bool)
  | carOfflineDone (c : CarrierId)
  | carAttach (c : CarrierId)
  | rebuildDone (c : CarrierId)
  | invAck (m : HostMsg)
  | shrAck (m : HostMsg)
  | datSnp (m : HostMsg)
  | flushAck (m : HostMsg)
  | wbDirty (m : HostMsg)
  | wbClean (m : HostMsg)
  | snoopTimeout (trk : Nat) (slot : BitVec 9)
  | flushTimeout (sl : SliceId) (slot : BitVec 9)
  | pmicFault (c : ChanId)
  | caParityAlert (c : ChanId) (retryFailed : Bool)
  | snpInvPtReader (m : HostMsg)
  | poolAnswer (src : W16) (tag : W16) (status : Byte) (backoff : BitVec 12) (data : Bytes)
  | dmaRetryTimer (acc : Nat)
  | ptabWriteAck (trk : Nat)
  | tcFlush (q : Quarter)
  | ddrEvacuate (c : ChanId) (force : Bool)
  | ddrEvacuateDone (c : ChanId)
  | ddrRestore (c : ChanId)
  | ddrRestoreDone (c : ChanId) (r : TrainReport)
  | refreshDue (c : ChanId)
  | pdTimerExpire (c : ChanId) (rank : Fin 4)
  | dimmTempPoll (c : ChanId) (celsius : Byte)
  | scrubTick (c : ChanId)
  | ceClear (c : ChanId)
  | tagcWbAll (q : Quarter)
  | tileDone (k : CoreId) (last : Bool)
  | cmpBlockDone (region : BitVec 12) (block : Nat)
  | coreFault (k : CoreId) (cause : CoreCause)
  | kcWatchdogExpire (k : CoreId)
  | kcReset (k : CoreId)
  | kcClearDone (k : CoreId)
  | kcSelftestDone (k : CoreId) (pass : Bool)
  | mbxCmd (m : MgtMsg)
  | doorbell (m : MgtMsg)
  | regRead (m : MgtMsg)
  | regWrite (m : MgtMsg)
  | ctxCreate (h : CmdHdr)
  | ctxStop (h : CmdHdr)
  | ctxStart (h : CmdHdr)
  | ctxDestroy (h : CmdHdr)
  | ctxDestroyDone (handle : W16)
  | segmentWrite (handle : W16) (n : Fin 16) (desc : Bytes)
  | queueCreate (h : CmdHdr) (args : Bytes)
  | queuePause (h : CmdHdr)
  | queueResume (h : CmdHdr)
  | queueDelete (h : CmdHdr)
  | progLoad (h : CmdHdr) (imgCa : W64) (imgLen : W32)
  | progUnload (h : CmdHdr) (prog : W16)
  | taskSubmit (h : CmdHdr) (desc : Bytes)
  | taskCancel (h : CmdHdr) (tag : W32)
  | taskQuery (h : CmdHdr) (tag : W32)
  | trigRaise (h : CmdHdr) (tag : Byte)
  | trigRead (h : CmdHdr) (tag : Byte)
  | regionCreate (h : CmdHdr) (descCa : W64)
  | regionQuiesce (h : CmdHdr) (region : W16)
  | regionQuiesceDone (region : W16)
  | regionResume (h : CmdHdr) (region : W16)
  | regionDelete (h : CmdHdr) (region : W16)
  | regionDeleteDone (region : W16)
  | regionRead (h : CmdHdr) (region : W16) (destCa : W64)
  | redOpen (h : CmdHdr) (region arg : W16)
  | redClose (h : CmdHdr) (region arg : W16)
  | redCloseTimer (region : W16)
  | redNextN (h : CmdHdr) (region arg : W16)
  | srcAdvance (h : CmdHdr) (region arg : W16)
  | matDrop (h : CmdHdr) (region arg : W16)
  | recPrepare (c : Coord) (obj op : Byte) (number : W16) (record : Bytes)
  | recPrepareRetry (xid : W32)
  | recCommit (c : Coord) (obj op : Byte) (number : W16)
  | recAbort (c : Coord) (obj op : Byte) (number : W16)
  | cmdFwd (c : Coord) (issuer : W16) (block : Bytes)
  | trigRaiseMsg (c : Coord) (handle : W16) (tag flags : Byte) (region : W16) (gen : W32)
  | redReport (c : Coord) (region : W16) (gen shortRus : W32) (flags : Byte)
  | redCloseMsg (c : Coord) (region : W16) (gen : W32)
  | redDone (c : Coord) (region : W16) (gen : W32) (nNext : W16) (flags auto : Byte)
  | matInval (c : Coord) (region source : W16) (cgen : W32)
  | coordAck (src : W16) (hint : BitVec 12) (subop status : Byte) (xid : W32) (body : Bytes)
  | jobPrepare (c : Coord)
  | jobCommit (c : Coord) (applyAt : W64)
  | jobAbort (c : Coord)
  | jobBoundary (h : CmdHdr) (applyAt : W64)
  | sliceClearDone (sl : SliceId)
  | slotRejoin (h : CmdHdr) (slot : W16)
  | slotRejoinDone (t : TenantId) (slot : BitVec 9)
  | keySet (h : CmdHdr) (mode : Byte) (envCa : W64) (unwrapOk : Bool)
  | keyDestroy (h : CmdHdr)
  | attest (h : CmdHdr) (nonce : Bytes) (destCa : W64) (destLen : W32) (regions : List W16)
  | attestReportDone (sig : Bytes)
  | ctrInc (h : CmdHdr) (counter : Byte)
  | ctrSet (h : CmdHdr) (counter : Byte) (v : W32)
  | svcWindowOpen (h : CmdHdr) (token : Bytes) (sigOk : Bool)
  | svcWindowClose (h : CmdHdr)
  | lidClear (h : CmdHdr)
  | svnCommit (h : CmdHdr)
  | stackAttest (h : CmdHdr) (nonce : Bytes) (destCa : W64) (destLen : W32)
  | cntRead (h : CmdHdr) (flags : Byte) (addrs : List W32)
  | cntEnable (h : CmdHdr) (en : Byte)
  | evtRead (h : CmdHdr) (start : W32)
  | watchSet (h : CmdHdr) (args : Bytes)
  | watchClear (h : CmdHdr) (prog : W16) (watch : Byte)
  | blkPut (m : MgtMsg)
  | blkAck (m : MgtMsg)
  | stageCommit (readable : Bool) (sigs : List SigRef)
  | unlock (sigOk : Bool)
  | lidSample (p : LidPins)
  | lidDiscExpire (p : LidPins)
  | meshSample (fault : Bool)
  | tempTamperSample (outside : Bool)
  | superFrame (frame : Bytes)
  | enumFrame (frame : Bytes)
  | headClaimFrame (frame : Bytes)
  | spnAlarmSet (bits : Byte)
  | heartbeat (path : HbPath) (hb : Bytes)
  | takeoverStageDone (ok : Bool)
  | epochAnnounce (m : MgtMsg)
  | epochAck (m : MgtMsg)
  | epochAnnounceRetry (watcher : W16)
  | handoverGo (m : MgtMsg)
  | chkCfgWrite (u : Fin 8) (value : W32)
  | chkDataWrite (u : Fin 8) (bytes : Fin 3) (value : W32)
  | chkValueWrite (u : Fin 8) (value : W32)
  | leaseRequest (bucket : Nat) (q : Quarter)
  | leaseGrant (bucket : Nat) (q : Quarter)
  | leaseIdleExpire (bucket : Nat) (q : Quarter)
  | i3cPrivateWrite (addr : W32) (value : Option W32)
  | latchedPairRead (addr : W32)
  | registerWrite (addr : W32) (value : W32)
  | quarterDrainTimeout (q : Quarter)
  | undefinedReqOpcode (opcode : BitVec 5) (r : ReqMsg)
  | undefinedMgtOpcode (opcode : BitVec 5) (m : MgtMsg)
  | reservedFtypeFlit (l : LinkId) (f : Flit)
  | stackMapUpdate (m : MgtMsg)
  | stackAttestMemberTimeout (position : Fin 32)
  | genDoneResend (region : W16) (member : W16)
  | jtagTapAccess (op : TapOp)
  | rootPllLock
  | coreWave
  | warmRstNFall
  | warmReset
  | warmDrainDone
  | warmDrainTimeout
  | sourceFail
  | mainRailLoss
  | pwrfailNFall
  | pfRestartTimeout
  | capStep
  | idleTimerExpire
  | dozeTimerExpire
  | timeSyncPeriod
  | holdoverEntry
  | holdoverExpire
  | rtcSecond
  | calCommit
  | journalSpaceReclaimed
  | checkpointInterval
  | checkpointVerified
  | gcStart
  | carOwnHoldExpire
  | remirrorDone
  | schedStep
  | mbxGo
  | jobApply
  | svcWindowStart
  | svcWindowEnd
  | pairYield
  | stageBegin
  | putWin
  | ownerClaim
  | snap
  | cntClear
  | shvShave
  | shvRelease
  | shvExport
  | shvExportDone
  | challenge
  | dbgNonceExpire
  | vaultReset
  | supplyGlitch
  | clockGlitch
  | superFramePeriod
  | enumRepeat
  | chainBroken
  | originTimeout
  | headstockAbsent
  | headClaimRepeat
  | headClaimWin
  | heartbeatSend
  | hbSlotEnd
  | partnerWaitTimeout
  | recoveryWindowClose
  | handoverStart
  | handoverStageDone
  | tgEntryBoundary
  | pendingPlateStart
  | evtRateSecond
  | traceTimeTick
  | i3cPrivateRead
  | sleepEntryDone
deriving DecidableEq, Repr

end Sys2Proof
end

