-- ==== Sys2Proof/Config.lean ====
section
/-! DEFINITION. The free values: constants without a body that stand for what the spec leaves open. A statement about one holds
whatever its value is. -/

namespace Sys2Proof.Config

/-- A random draw of the DRBG (R343), a nonce or any other value the spec leaves to chance: the n-th draw, 64 bits. -/
opaque random : Nat → BitVec 64

/-- The identity serial by which a pair's carriers are marked, POOL_ID (R109): the spec does not say which serial of the pair it is. -/
opaque pairId : BitVec 64

/-- KAK_TAG (R388): bytes 0 to 3 of the SHA-384 of the key-agreement certificate that belongs to a vault seed (the number by which the seed was
drawn). The spec gives no certificate's bytes. -/
opaque kakTag : Nat → BitVec 32

/-- The lowering of a program (R258, R260): of an image, a number that bounds how many output tiles of an operation run at once, and the
bytes of DIGEST's byte count. The spec leaves both to the lowering. -/
opaque lowering : Bytes → Nat × Nat

/-- The 16-bit random number of a conversion that OPT.ORTHO makes of an intermediate where SR is set (R222, R251): of SEED, the operation's
STREAM, STEP, the stage and the element. R223 numbers the elements of outputs only. -/
opaque orthoRand : Nat → Nat → Nat → Nat → Nat → BitVec 16

/-- Is VBAT above its minimum at a count of NCLK cycles (HWD_STAT.VBAT_OK, R369)? A supply outside the device: no command reports it. -/
opaque vbatOk : Nat → Bool

/-- Is VSTBY above its minimum at a count of NCLK cycles (HWD_STAT.VSTBY_OK, R369)? -/
opaque vstbyOk : Nat → Bool

end Sys2Proof.Config
end

