-- ==== Sys2Proof/Machine/Bits.lean ====
section
/-! DEFINITION. Byte order, bit fields and sparse tables: little-endian bytes (R15), fields of a word, and lists of key and
value pairs in one canonical form (keys strictly rising, no entry equal to what an unlisted key reads as). -/

namespace Sys2Proof.Machine

/-- The number a little-endian byte list spells. -/
def leNat : Bytes → Nat
  | [] => 0
  | b :: bs => b.toNat + 256 * leNat bs

/-- The low `k` bytes of `n`, least significant first. -/
def toLe : Nat → Nat → Bytes
  | 0, _ => []
  | k + 1, n => BitVec.ofNat 8 n :: toLe k (n / 256)

/-- The low `k` bytes of `n`, most significant first. -/
def toBe (k n : Nat) : Bytes := (toLe k n).reverse

/-- The number a big-endian byte list spells. -/
def beNat (b : Bytes) : Nat := leNat b.reverse

/-- `n` bytes from offset `off`; bytes past the end are absent. -/
def cut (b : Bytes) (off n : Nat) : Bytes := (b.drop off).take n

/-- The little-endian field of `n` bytes at `off`; bytes past the end count as 0. -/
def leAt (b : Bytes) (off n : Nat) : Nat := leNat (cut b off n)

/-- Bits hi:lo of a number. -/
def bits (v hi lo : Nat) : Nat := v / 2 ^ lo % 2 ^ (hi + 1 - lo)

/-- Bit i of a number. -/
def bit (v i : Nat) : Bool := v.testBit i

/-- `v` with bits hi:lo replaced by `x`. -/
def setBits (v hi lo x : Nat) : Nat :=
  v - bits v hi lo * 2 ^ lo + x % 2 ^ (hi + 1 - lo) * 2 ^ lo

/-- 1 for true. -/
def b2n (b : Bool) : Nat := if b then 1 else 0

def w32 (n : Nat) : W32 := BitVec.ofNat 32 n
def w16 (n : Nat) : W16 := BitVec.ofNat 16 n
def w64 (n : Nat) : W64 := BitVec.ofNat 64 n
def byte (n : Nat) : Byte := BitVec.ofNat 8 n

/-- Bits hi:lo of a register word. -/
def fld (w : W32) (hi lo : Nat) : Nat := bits w.toNat hi lo

/-- `n` zero bytes. -/
def zeros (n : Nat) : Bytes := List.replicate n 0

/-- `b` padded with zeros, or cut, to `n` bytes. -/
def padTo (n : Nat) (b : Bytes) : Bytes := b.take n ++ zeros (n - b.length)

/-- All bytes zero. -/
def allZero (b : Bytes) : Bool := b.all (· = 0)

/-- `b` with the bytes of `x` written at `off`. -/
def splice (b : Bytes) (off : Nat) (x : Bytes) : Bytes :=
  padTo off b ++ x ++ b.drop (off + x.length)

/-- The position of the lowest set bit below `n`. -/
def lowBit (v : Nat) (n : Nat) : Option Nat := (List.range n).find? v.testBit

/-- How many of the low `n` bits are set. -/
def popCount (v n : Nat) : Nat := ((List.range n).filter v.testBit).length

/-- Ceiling of a quotient. -/
def cdiv (a b : Nat) : Nat := (a + b - 1) / b

/-- A saturating sum at `2 ^ w - 1`. -/
def satAdd (w a b : Nat) : Nat := min (a + b) (2 ^ w - 1)

/-- The value at entry `i` of a fixed table, changed by `f`. -/
def upd {α : Type} {n : Nat} (v : Vector α n) (i : Fin n) (f : α → α) : Vector α n := v.set i (f v[i])

/-- Every index below n, in order. -/
def indices : (n : Nat) → List (Fin n)
  | 0 => []
  | n + 1 => 0 :: (indices n).map Fin.succ

/-- A sparse table: keys strictly rising. -/
abbrev Sparse (α : Type) := List (Nat × α)

namespace Sparse
variable {α : Type}

/-- The entry of key `k`, if listed. -/
def find (m : Sparse α) (k : Nat) : Option α :=
  match m with
  | [] => none
  | (j, v) :: r => if j = k then some v else find r k

/-- The table with `e` as key `k`'s entry: the entries below `k` stand before it. -/
def place (m : Sparse α) (k : Nat) (e : Option α) : Sparse α :=
  match m with
  | [] => match e with | some v => [(k, v)] | none => []
  | (j, w) :: r =>
    if j < k then (j, w) :: place r k e
    else
      let rest := if j = k then r.filter fun x => x.1 ≠ k else (j, w) :: r.filter fun x => x.1 ≠ k
      match e with
      | some v => (k, v) :: rest
      | none => rest

/-- What key `k` reads as, `d` where unlisted. -/
def get (d : α) (m : Sparse α) (k : Nat) : α := (find m k).getD d

/-- Key `k` set to `v`; writing what an unlisted key reads as removes the entry. -/
def put [DecidableEq α] (d : α) (m : Sparse α) (k : Nat) (v : α) : Sparse α :=
  place m k (if v = d then none else some v)

/-- Key `k` listed with `v`. -/
def ins (m : Sparse α) (k : Nat) (v : α) : Sparse α := place m k (some v)

/-- Key `k` removed. -/
def del (m : Sparse α) (k : Nat) : Sparse α := place m k none

/-- Keys strictly rising, all at or above `lo`. -/
def sortedFrom (lo : Nat) : Sparse α → Bool
  | [] => true
  | (j, _) :: r => lo ≤ j && sortedFrom (j + 1) r

/-- The canonical form: keys strictly rising and no entry equal to the default. -/
def wf [DecidableEq α] (d : α) (m : Sparse α) : Bool := sortedFrom 0 m && m.all (fun e => e.2 ≠ d)

end Sparse

end Sys2Proof.Machine
end

