-- ==== Sys2Proof/Machine/Crc.lean ====
section
/-! DEFINITION. The check values the spec names: CRC-32C (R391, R402), CRC-32 (ISO-HDLC), CRC-16/IBM-3740 (R455),
CRC-64/XZ (R391), and SHA-384 (FIPS 180-4), which the digests of the blank, the images and DIGEST use. The polynomials and
constants of a named algorithm are the algorithm's own (PRESUMED, log entry 3). -/

namespace Sys2Proof.Machine

/-- One reflected CRC step of `w` bits. -/
def crcBit (poly v : Nat) : Nat := if v.testBit 0 then (v / 2) ^^^ poly else v / 2

def crcByte (poly v : Nat) (b : Byte) : Nat :=
  (List.range 8).foldl (fun x _ => crcBit poly x) (v ^^^ b.toNat)

/-- One step of a CRC that shifts left through `w` bits. -/
def crcBitL (w poly v : Nat) : Nat :=
  if v.testBit (w - 1) then (v * 2 % 2 ^ w) ^^^ poly else v * 2 % 2 ^ w

def crcByteL (w poly v : Nat) (b : Byte) : Nat :=
  (List.range 8).foldl (fun x _ => crcBitL w poly x) (v ^^^ (b.toNat * 2 ^ (w - 8)))

/-- CRC-32C (Castagnoli), reflected, initial value and final XOR all ones. -/
def crc32c (b : Bytes) : Nat := (b.foldl (crcByte 0x82F63B78) 0xFFFFFFFF) ^^^ 0xFFFFFFFF

/-- CRC-32/ISO-HDLC. -/
def crc32 (b : Bytes) : Nat := (b.foldl (crcByte 0xEDB88320) 0xFFFFFFFF) ^^^ 0xFFFFFFFF

/-- CRC-16/IBM-3740: polynomial 0x1021, initial value 0xFFFF, no reflection, no final XOR. -/
def crc16 (b : Bytes) : Nat := b.foldl (crcByteL 16 0x1021) 0xFFFF

/-- CRC-64/XZ. -/
def crc64 (b : Bytes) : Nat :=
  (b.foldl (crcByte 0xC96C5795D7870F42) 0xFFFFFFFFFFFFFFFF) ^^^ 0xFFFFFFFFFFFFFFFF

/-- The 80 round constants of SHA-384: the first 64 bits of the fractional parts of the cube roots of the first 80 primes. -/
def shaPrimes : List Nat :=
  [2, 3, 5, 7, 11, 13, 17, 19, 23, 29, 31, 37, 41, 43, 47, 53, 59, 61, 67, 71, 73, 79, 83, 89, 97, 101, 103, 107, 109, 113,
   127, 131, 137, 139, 149, 151, 157, 163, 167, 173] ++
  [179, 181, 191, 193, 197, 199, 211, 223, 227, 229, 233, 239, 241, 251, 257, 263, 269, 271, 277, 281, 283, 293, 307, 311,
   313, 317, 331, 337, 347, 349, 353, 359, 367, 373, 379, 383, 389, 397, 401, 409]

/-- The largest `x` below `2 ^ n` with `x ^ k ≤ v`, found bit by bit. -/
def rootBits (k v : Nat) : Nat → Nat → Nat
  | 0, x => x
  | n + 1, x => rootBits k v n (if (x + 2 ^ n) ^ k ≤ v then x + 2 ^ n else x)

def shaK : List W64 := shaPrimes.map fun p => w64 (rootBits 3 (p * 2 ^ 192) 68 0)

/-- The eight initial words: the fractional parts of the square roots of the ninth to sixteenth primes. -/
def shaInit : List W64 :=
  ((shaPrimes.drop 8).take 8).map fun p => w64 (rootBits 2 (p * 2 ^ 128) 69 0)

def rotr (x : W64) (n : Nat) : W64 := x.rotateRight n

structure ShaVars where
  a : W64
  b : W64
  c : W64
  d : W64
  e : W64
  f : W64
  g : W64
  h : W64
deriving DecidableEq, Repr

def shaRound (v : ShaVars) (kw : W64 × W64) : ShaVars :=
  let t1 := v.h + (rotr v.e 14 ^^^ rotr v.e 18 ^^^ rotr v.e 41) + ((v.e &&& v.f) ^^^ (~~~v.e &&& v.g)) + kw.1 + kw.2
  let t2 := (rotr v.a 28 ^^^ rotr v.a 34 ^^^ rotr v.a 39) + ((v.a &&& v.b) ^^^ (v.a &&& v.c) ^^^ (v.b &&& v.c))
  ⟨t1 + t2, v.a, v.b, v.c, v.d + t1, v.e, v.f, v.g⟩

/-- The message schedule, newest word first. -/
def shaSched : Nat → List W64 → List W64
  | 0, w => w
  | n + 1, w =>
    let w2 := w.getD 1 0
    let w7 := w.getD 6 0
    let w15 := w.getD 14 0
    let w16 := w.getD 15 0
    let s1 := rotr w2 19 ^^^ rotr w2 61 ^^^ (w2 >>> 6)
    let s0 := rotr w15 1 ^^^ rotr w15 8 ^^^ (w15 >>> 7)
    shaSched n ((s1 + w7 + s0 + w16) :: w)

def shaWords : Nat → Bytes → List W64
  | 0, _ => []
  | n + 1, b => w64 (beNat (b.take 8)) :: shaWords n (b.drop 8)

def shaBlock (h : ShaVars) (blk : Bytes) : ShaVars :=
  let w := (shaSched 64 (shaWords 16 blk).reverse).reverse
  let r := (shaK.zip w).foldl shaRound h
  ⟨h.a + r.a, h.b + r.b, h.c + r.c, h.d + r.d, h.e + r.e, h.f + r.f, h.g + r.g, h.h + r.h⟩

def shaBlocks : Nat → ShaVars → Bytes → ShaVars
  | 0, h, _ => h
  | n + 1, h, b => shaBlocks n (shaBlock h (b.take 128)) (b.drop 128)

/-- SHA-384 of a byte list, 48 bytes. -/
def sha384 (b : Bytes) : Bytes :=
  let z := (128 - (b.length + 17) % 128) % 128
  let m := b ++ [0x80] ++ zeros z ++ toBe 16 (8 * b.length)
  let i := shaInit
  let h := shaBlocks (m.length / 128)
    ⟨i.getD 0 0, i.getD 1 0, i.getD 2 0, i.getD 3 0, i.getD 4 0, i.getD 5 0, i.getD 6 0, i.getD 7 0⟩ m
  ([h.a, h.b, h.c, h.d, h.e, h.f].map fun x => toBe 8 x.toNat).flatten

end Sys2Proof.Machine
end

