-- ==== Sys2Proof/Machine/Regs.lean ====
section
/-! DEFINITION. The register map: every register the spec's tables give, with its block, offset, element count and stride,
the bits each access code covers (R16), its Reset value, and whether it is a counter (R446). Addresses follow R15 and R26.
Generated from the register tables of the section files named beside each block. -/

namespace Sys2Proof.Machine

/-- The register blocks. `DIRC` is the part of HOME at +0x100 + 0x10 j that slice j of the quarter owns (R173). -/
inductive Blk where
  /-- 00_scope.md R13 -/
  | ID
  /-- 15_clocks_power_time.md R443 -/
  | CLKRST
  /-- 15_clocks_power_time.md R444 -/
  | PWR
  /-- 12_tenancy_security.md R369 -/
  | HWD
  /-- 14_startup_blank.md R419 -/
  | BLANK
  /-- 13_stacks_pairs.md R399 -/
  | SPN
  /-- 13_stacks_pairs.md R399 -/
  | PAIR
  /-- 13_stacks_pairs.md R399 -/
  | CHK
  /-- 11_shaping.md R335 -/
  | SHP
  /-- 11_shaping.md R335 -/
  | TGATE
  /-- 16_observability.md R467 -/
  | EVT
  /-- 16_observability.md R467 -/
  | DBG
  /-- 16_observability.md R467 -/
  | CNT
  /-- 09_queues_firmware.md R286 -/
  | SCHED
  /-- 15_clocks_power_time.md R445 -/
  | RTC
  /-- 11_shaping.md R335, 14_startup_blank.md R419 -/
  | QCTL
  /-- 03_dram_tier.md R105 -/
  | DDR
  /-- 04_flash_tier.md R140 -/
  | FCH
  /-- 04_flash_tier.md R140 -/
  | CAR
  /-- 04_flash_tier.md R140 -/
  | TIER
  /-- 10_fabric_links.md R318 -/
  | LNK
  /-- 10_fabric_links.md R319 -/
  | RTR
  /-- 02_pool_addressing.md R72, 05_coherence.md R173, 06_reduction_computed.md R200 -/
  | HOME
  /-- 05_coherence.md R173 -/
  | DIRC
  /-- 03_dram_tier.md R106 -/
  | TAGC
  /-- 07_kernel_cores_arithmetic.md R229 -/
  | KC
  /-- 16_observability.md R448 -/
  | QCNT
deriving DecidableEq, Repr

/-- One constructor per register, spelled as the spec spells it. -/
inductive Reg where
  | PART | STEPPING | FEATURES | CLK_STAT | ECLK_REQ | RST_CMD | RST_CMD_RESULT | RST_CAUSE | QWDOG
  | GATE_REFUSE_CNT | QRESET_CNT | PWR_STAT | PWR_CMD | PWR_CMD_RESULT | PWR_CAP | PWR_TIMERS | PKG_POWER
  | TEMP_MAX | PF_LAST | CAP_STEP_CNT | PF_CNT | HWD_STAT | TAMPER_STAT | TAMPER_CFG | LID_STAT | CONT_WORD
  | WIN_END_LO | WIN_END_HI | ERASE_CNT | FUSE | NV_HEALTH | CTR_SEL | CTR_VALUE | CTR_OWNER | HWD_CMD
  | HWD_CMD_RESULT | SLICE_STAT | KEY_STAT | BLK_STAT | BLK_SEQ | BLK_STAGED_SEQ | BLK_CMD | BLK_CMD_RESULT
  | BLK_FAIL | BLK_STAGE_OFF | SU_STAT | SU_CMD | SU_CMD_RESULT | BLK_WIN | SPN_STAT | SPN_ALARM | SPN_ALARM_SET
  | MAP_SEQ | SF_CRC_ERR_CNT | SF_MISS_CNT | SPN_MAP | SPN_EPOCH | PAIR_STAT | PAIR_CFG | PAIR_EPOCH | PAIR_CMD
  | PAIR_CMD_RESULT | TAKEOVER_CNT | HANDOVER_CNT | PATH_FAULT_CNT | HB_CRC_ERR_CNT | HB_REPEAT_CNT
  | RECOV_POISON_CNT | CHK_CFG | CHK_VALUE | CHK_D8 | CHK_D16 | CHK_D32 | CHK_RESULT | SHP_CFG | SHP_RETRY
  | HOST_SEL | HOST_RATE | HOST_BURST | HOST_CFG | HOST_TOKENS | HOST_POL_CNT | SVC_SEL | SVC_RATE | SVC_BURST
  | SVC_WEIGHT | SVC_POL_CNT | SVC_GATE_CNT | PORT_SEL | PORT_RATE | PORT_BURST | PORT_POL_CNT | TRANSIT_W
  | TG_STAT | TG_BASE_LO | TG_BASE_HI | TG_CYCLE | TG_LEN | TG_ENTRY | EVT_HEAD | EVT_OVERWRITE | EVT_CFG
  | EVT_SEL | EVT_ENTRY | EVT_SUPP | PLOG_SEL | PLOG_HEAD | PLOG_ENTRY | TRC_CTL | TRC_STAT | TRC_LOST
  | EXP_DEST_IP | EXP_DEST_PORT | SHV_CTL | SHV_CMD | SHV_CMD_RESULT | SHV_STAT | SHV_REFUSE_CNT | SHV_OFF
  | DBG_CMD | DBG_CMD_RESULT | DBG_STAT | DBG_CHAL | DBG_WIN | SHV_WIN | CNT_CTL | CNT_CMD | CNT_CMD_RESULT
  | CNT_VIEW | CNT_SNAP_TIME_LO | CNT_SNAP_TIME_HI | MBX_CTL | MBX_STAT | XPORT_MAP | TASK_SUB_CNT | TASK_DONE_CNT
  | TASK_FAIL_CNT | TASK_CANCEL_CNT | CMD_CONFLICT_CNT | DBELL_BAD_CNT | CQ_FULL_CNT | LIVE_TASKS | MBX_IN
  | MBX_OUT | XFER_OFF | XFER_WIN | RTC_STAT | RTC_SEC_LO | RTC_SEC_HI | UTC_OFFSET | CAL_DATE | CAL_TIME
  | RTC_CMD | RTC_CMD_RESULT | POOL_TIME_LO | POOL_TIME_HI | PTP_CFG | CHAIN_DELAY | TIME_STEP_CNT | Q_STAT
  | TRK_INUSE | TRK_RESV_SUM | TRK_EXH_CNT | TRK_HOST_SEL | TRK_HOST_USE | CH_STAT | CH_CMD | CH_CMD_RESULT
  | DIRSTORE_SIZE | CACHE_SETS | PD_TIMER | SCHED_CFG | SCRUB_INTERVAL | CE_THRESH | CE_SEL | CE_ENTRY0
  | CE_ENTRY1 | CE_ENTRY2 | CE_ENTRY3 | CE_CTL | CE_CNT | UE_CNT | UE_ADDR_CNT | TAG_REPAIR_CNT | INORDER_CNT
  | DDR_BYPASS_CNT | SCRUB_PASS | FCH_STAT | PAGE_RD_CNT | PAGE_PROG_CNT | BLK_ERASE_CNT | CW_CORR_CNT
  | READ_RETRY_CNT | SOFT_DEC_CNT | PROG_FAIL_CNT | ERASE_FAIL_CNT | CAR_STAT | CAR_CMD | CAR_CMD_RESULT
  | REBUILD_DONE | REBUILD_TOTAL | SPARE_MIN | RETIRED_BLK | ERASE_STAT | FLASH_STAT | FLASH_CFG | JGROUP_NS
  | WL_DELTA | RD_LIMIT | RET_PERIOD | RET_THRESH | REBUILD_RATE | CKPT_INTERVAL | USABLE_GRAN | JOURNAL_USED
  | RECON_CNT | LOST_BLK_CNT | RELOC_RET_CNT | RELOC_RD_CNT | RELOC_WL_CNT | GC_SB_CNT | LNK_STAT | LNK_CMD
  | LNK_CMD_RESULT | LNK_PEER | LNK_CFG | LNK_EXPECT | VC_DEPTH0 | VC_DEPTH1 | VC_DEPTH2 | CRC_ERR_CNT
  | AUTH_FAIL_CNT | NAK_TX_CNT | REPLAY_CNT | DUP_FLIT_CNT | LOCK_GLITCH_CNT | LINK_DOWN_CNT | RETRAIN_CNT
  | EDGE_DENY_CNT | STALL_CLOSE_CNT | ORPHAN_CNT | HEAD_OPEN_CNT | EPT_SEL | EPT_ENTRY | RTR_CFG | RT_VERSION
  | RT_SEL | RT_ENTRY_LO | RT_ENTRY_HI | DEV_RANK | ALIVE_SEL | ALIVE_STAT | NOROUTE_CNT | MESH_STALL_CNT
  | MESH_ORPHAN_CNT | HOME_CFG | FLUSH_CFG | SLOT_SEL | SLOT_STAT | SLOT_CMD | SLOT_CMD_RESULT | SNP_CAP_STAT
  | SNP_CAP_DPA_LO | SNP_CAP_DPA_HI | SNP_SENT_CNT | SNP_TIMEOUT_CNT | LATE_RSP_CNT | STRAY_WB_CNT | PROTO_ERR_CNT
  | ATOM_NEAR_CNT | ATOM_FAR_CNT | XLAT_CTL | XLAT_FAULT_STAT | XLAT_FAULT_CA_LO | XLAT_FAULT_CA_HI
  | XLAT_FAULT_SRC | XLAT_FAULT_CNT | XLAT_FWD_CNT | XLAT_TC_MISS | RGN_SEL | RGN_RSTAT | RGN_GEN_OPEN
  | RGN_GEN_DONE | RGN_CGEN | RGN_CMD | RGN_CMD_RESULT | RED_ADD_CNT | RED_DUP_CNT | RED_STALE_CNT
  | RED_SATGRP_CNT | CMP_BLK_CNT | MAT_HIT_CNT | MAT_INVAL_CNT | DIR_HIT | DIR_MISS | DIR_VICTIM_CNT | DIR_LIVE
  | TAGC_CTL | TAGC_HIT | TAGC_MISS | KC_STAT | KC_CMD | KC_CMD_RESULT | KC_FAULT | SPAD_CE_CNT | SPAD_UE_CNT
  | LMEM_CE_CNT | LMEM_UE_CNT | TILE_CNT | KC_RESET_CNT | KC_WDOG | DDR_RD_BYTES | DDR_WR_BYTES | FL_RD_BYTES
  | FL_PROG_BYTES | FL_ERASE_BYTES | LNK_TX_FLITS | LNK_RX_FLITS | LNK_TX_BYTES | LNK_RX_BYTES | MESH_OUT_BYTES
  | MESH_IN_BYTES | ENG_OPS | WHT_FLOPS | SPAD_RD_BYTES | SPAD_WR_BYTES | DMA_IN_BYTES | DMA_OUT_BYTES
deriving DecidableEq, Repr

/-- What the register tables say of a register: `n` elements `st` bytes apart; masks of the writable, RWL, write-one-to-clear
and write-only bits; the Reset value; whether it is a counter. -/
structure RegInfo where
  blk : Blk
  off : Nat
  n : Nat
  st : Nat
  rw : Nat
  rwl : Nat
  w1c : Nat
  wo : Nat
  rst : Nat
  cnt : Bool
deriving DecidableEq, Repr

def Reg.info : Reg → RegInfo
  | .PART => ⟨.ID, 0, 1, 0, 0, 0, 0, 0, 0xd0b09640, false⟩
  | .STEPPING => ⟨.ID, 4, 1, 0, 0, 0, 0, 0, 0xb1, false⟩
  | .FEATURES => ⟨.ID, 8, 1, 0, 0, 0, 0, 0, 0, false⟩
  | .CLK_STAT => ⟨.CLKRST, 0, 1, 0, 0, 0, 0, 0, 0, false⟩
  | .ECLK_REQ => ⟨.CLKRST, 4, 1, 0, 0xf, 0, 0, 0, 4, false⟩
  | .RST_CMD => ⟨.CLKRST, 8, 1, 0, 0, 0, 0, 0x3ff, 0, false⟩
  | .RST_CMD_RESULT => ⟨.CLKRST, 0xc, 1, 0, 0, 0, 0, 0, 0, false⟩
  | .RST_CAUSE => ⟨.CLKRST, 0x10, 1, 0, 0, 0, 0, 0, 1, false⟩
  | .QWDOG => ⟨.CLKRST, 0x14, 1, 0, 0xffff, 0, 0, 0, 0x64, false⟩
  | .GATE_REFUSE_CNT => ⟨.CLKRST, 0x40, 1, 0, 0, 0, 0, 0, 0, true⟩
  | .QRESET_CNT => ⟨.CLKRST, 0x44, 1, 0, 0, 0, 0, 0, 0, true⟩
  | .PWR_STAT => ⟨.PWR, 0, 1, 0, 0, 0, 0, 0, 0, false⟩
  | .PWR_CMD => ⟨.PWR, 4, 1, 0, 0, 0, 0, 0xfff, 0, false⟩
  | .PWR_CMD_RESULT => ⟨.PWR, 8, 1, 0, 0, 0, 0, 0, 0, false⟩
  | .PWR_CAP => ⟨.PWR, 0xc, 1, 0, 0x3ff, 0, 0, 0, 0x3d4, false⟩
  | .PWR_TIMERS => ⟨.PWR, 0x10, 1, 0, 0xffffffff, 0, 0, 0, 0x3e8000a, false⟩
  | .PKG_POWER => ⟨.PWR, 0x14, 1, 0, 0, 0, 0, 0, 0, false⟩
  | .TEMP_MAX => ⟨.PWR, 0x18, 1, 0, 0, 0, 0, 0, 0, false⟩
  | .PF_LAST => ⟨.PWR, 0x1c, 1, 0, 0, 0, 0, 0, 0, false⟩
  | .CAP_STEP_CNT => ⟨.PWR, 0x40, 1, 0, 0, 0, 0, 0, 0, true⟩
  | .PF_CNT => ⟨.PWR, 0x44, 1, 0, 0, 0, 0, 0, 0, true⟩
  | .HWD_STAT => ⟨.HWD, 0, 1, 0, 0, 0, 0, 0, 0, false⟩
  | .TAMPER_STAT => ⟨.HWD, 4, 1, 0, 0, 0, 0xff, 0, 0, false⟩
  | .TAMPER_CFG => ⟨.HWD, 8, 1, 0, 0, 0x3ff3fd, 0, 0, 0x502a4, false⟩
  | .LID_STAT => ⟨.HWD, 0xc, 1, 0, 0, 0, 0, 0, 0, false⟩
  | .CONT_WORD => ⟨.HWD, 0x10, 1, 0, 0, 0, 0, 0, 0, false⟩
  | .WIN_END_LO => ⟨.HWD, 0x18, 1, 0, 0, 0, 0, 0, 0, false⟩
  | .WIN_END_HI => ⟨.HWD, 0x1c, 1, 0, 0, 0, 0, 0, 0, false⟩
  | .ERASE_CNT => ⟨.HWD, 0x20, 1, 0, 0, 0, 0, 0, 0, false⟩
  | .FUSE => ⟨.HWD, 0x24, 1, 0, 0, 0, 0, 0, 0, false⟩
  | .NV_HEALTH => ⟨.HWD, 0x28, 1, 0, 0, 0, 0, 0, 0x10, false⟩
  | .CTR_SEL => ⟨.HWD, 0x30, 1, 0, 7, 0, 0, 0, 0, false⟩
  | .CTR_VALUE => ⟨.HWD, 0x34, 1, 0, 0, 0, 0, 0, 0, false⟩
  | .CTR_OWNER => ⟨.HWD, 0x38, 1, 0, 0, 0, 0, 0, 0x1f, false⟩
  | .HWD_CMD => ⟨.HWD, 0x40, 1, 0, 0, 0, 0, 0xff, 0, false⟩
  | .HWD_CMD_RESULT => ⟨.HWD, 0x44, 1, 0, 0, 0, 0, 0, 0, false⟩
  | .SLICE_STAT => ⟨.HWD, 0x100, 16, 4, 0, 0, 0, 0, 0, false⟩
  | .KEY_STAT => ⟨.HWD, 0x140, 16, 4, 0, 0, 0, 0, 0, false⟩
  | .BLK_STAT => ⟨.BLANK, 0, 1, 0, 0, 0, 0, 0, 0, false⟩
  | .BLK_SEQ => ⟨.BLANK, 4, 1, 0, 0, 0, 0, 0, 0, false⟩
  | .BLK_STAGED_SEQ => ⟨.BLANK, 8, 1, 0, 0, 0, 0, 0, 0, false⟩
  | .BLK_CMD => ⟨.BLANK, 0xc, 1, 0, 0, 0, 0, 0xff, 0, false⟩
  | .BLK_CMD_RESULT => ⟨.BLANK, 0x10, 1, 0, 0, 0, 0, 0, 0, false⟩
  | .BLK_FAIL => ⟨.BLANK, 0x14, 1, 0, 0, 0, 0, 0, 0, false⟩
  | .BLK_STAGE_OFF => ⟨.BLANK, 0x18, 1, 0, 0, 0, 0, 0, 0, false⟩
  | .SU_STAT => ⟨.BLANK, 0x20, 1, 0, 0, 0, 0, 0, 0, false⟩
  | .SU_CMD => ⟨.BLANK, 0x24, 1, 0, 0, 0, 0, 0x10f, 0, false⟩
  | .SU_CMD_RESULT => ⟨.BLANK, 0x28, 1, 0, 0, 0, 0, 0, 0, false⟩
  | .BLK_WIN => ⟨.BLANK, 0x100, 64, 4, 0xffffffff, 0, 0, 0, 0, false⟩
  | .SPN_STAT => ⟨.SPN, 0, 1, 0, 0, 0, 0, 0, 0x3f0000, false⟩
  | .SPN_ALARM => ⟨.SPN, 4, 1, 0, 0, 0, 0xff, 0, 0, false⟩
  | .SPN_ALARM_SET => ⟨.SPN, 8, 1, 0, 0, 0, 0, 0xff, 0, false⟩
  | .MAP_SEQ => ⟨.SPN, 0xc, 1, 0, 0, 0, 0, 0, 0, false⟩
  | .SF_CRC_ERR_CNT => ⟨.SPN, 0x10, 1, 0, 0, 0, 0, 0, 0, true⟩
  | .SF_MISS_CNT => ⟨.SPN, 0x14, 1, 0, 0, 0, 0, 0, 0, true⟩
  | .SPN_MAP => ⟨.SPN, 0x40, 8, 4, 0, 0, 0, 0, 0, false⟩
  | .SPN_EPOCH => ⟨.SPN, 0x60, 16, 4, 0, 0, 0, 0, 0, false⟩
  | .PAIR_STAT => ⟨.PAIR, 0, 1, 0, 0, 0, 0, 0, 0, false⟩
  | .PAIR_CFG => ⟨.PAIR, 4, 1, 0, 0, 0x1f03, 0, 0, 2, false⟩
  | .PAIR_EPOCH => ⟨.PAIR, 8, 1, 0, 0, 0, 0, 0, 0, false⟩
  | .PAIR_CMD => ⟨.PAIR, 0xc, 1, 0, 0, 0, 0, 0xff, 0, false⟩
  | .PAIR_CMD_RESULT => ⟨.PAIR, 0x10, 1, 0, 0, 0, 0, 0, 0, false⟩
  | .TAKEOVER_CNT => ⟨.PAIR, 0x40, 1, 0, 0, 0, 0, 0, 0, true⟩
  | .HANDOVER_CNT => ⟨.PAIR, 0x44, 1, 0, 0, 0, 0, 0, 0, true⟩
  | .PATH_FAULT_CNT => ⟨.PAIR, 0x48, 1, 0, 0, 0, 0, 0, 0, true⟩
  | .HB_CRC_ERR_CNT => ⟨.PAIR, 0x4c, 1, 0, 0, 0, 0, 0, 0, true⟩
  | .HB_REPEAT_CNT => ⟨.PAIR, 0x50, 1, 0, 0, 0, 0, 0, 0, true⟩
  | .RECOV_POISON_CNT => ⟨.PAIR, 0x54, 1, 0, 0, 0, 0, 0, 0, true⟩
  | .CHK_CFG => ⟨.CHK, 0, 1, 0, 6, 0, 0, 1, 0, false⟩
  | .CHK_VALUE => ⟨.CHK, 4, 1, 0, 0xffffffff, 0, 0, 0, 0xffffffff, false⟩
  | .CHK_D8 => ⟨.CHK, 8, 1, 0, 0, 0, 0, 0xff, 0, false⟩
  | .CHK_D16 => ⟨.CHK, 0xc, 1, 0, 0, 0, 0, 0xffff, 0, false⟩
  | .CHK_D32 => ⟨.CHK, 0x10, 1, 0, 0, 0, 0, 0xffffffff, 0, false⟩
  | .CHK_RESULT => ⟨.CHK, 0x14, 1, 0, 0, 0, 0, 0, 0, false⟩
  | .SHP_CFG => ⟨.SHP, 0, 1, 0, 0, 0x1ff, 0, 0, 0x20, false⟩
  | .SHP_RETRY => ⟨.SHP, 4, 1, 0, 0xffff, 0, 0, 0, 0x3e8, false⟩
  | .HOST_SEL => ⟨.SHP, 0x10, 1, 0, 0xfff, 0, 0, 0, 0, false⟩
  | .HOST_RATE => ⟨.SHP, 0x14, 1, 0, 0, 0xfffff, 0, 0, 0, false⟩
  | .HOST_BURST => ⟨.SHP, 0x18, 1, 0, 0, 0xffff, 0, 0, 4, false⟩
  | .HOST_CFG => ⟨.SHP, 0x1c, 1, 0, 0, 0x70007, 0, 0, 0, false⟩
  | .HOST_TOKENS => ⟨.SHP, 0x20, 1, 0, 0, 0, 0, 0, 0, false⟩
  | .HOST_POL_CNT => ⟨.SHP, 0x24, 1, 0, 0, 0, 0, 0, 0, true⟩
  | .SVC_SEL => ⟨.SHP, 0x40, 1, 0, 7, 0, 0, 0, 0, false⟩
  | .SVC_RATE => ⟨.SHP, 0x44, 1, 0, 0, 0xfffff, 0, 0, 0, false⟩
  | .SVC_BURST => ⟨.SHP, 0x48, 1, 0, 0, 0xffff, 0, 0, 4, false⟩
  | .SVC_WEIGHT => ⟨.SHP, 0x4c, 1, 0, 0, 0xff, 0, 0, 1, false⟩
  | .SVC_POL_CNT => ⟨.SHP, 0x50, 1, 0, 0, 0, 0, 0, 0, true⟩
  | .SVC_GATE_CNT => ⟨.SHP, 0x54, 1, 0, 0, 0, 0, 0, 0, true⟩
  | .PORT_SEL => ⟨.SHP, 0x80, 1, 0, 0x1f, 0, 0, 0, 0, false⟩
  | .PORT_RATE => ⟨.SHP, 0x84, 1, 0, 0, 0xfffff, 0, 0, 0, false⟩
  | .PORT_BURST => ⟨.SHP, 0x88, 1, 0, 0, 0xffff, 0, 0, 4, false⟩
  | .PORT_POL_CNT => ⟨.SHP, 0x8c, 1, 0, 0, 0, 0, 0, 0, true⟩
  | .TRANSIT_W => ⟨.SHP, 0x90, 1, 0, 0, 0xff, 0, 0, 8, false⟩
  | .TG_STAT => ⟨.TGATE, 0, 1, 0, 0, 0, 0, 0, 0xff, false⟩
  | .TG_BASE_LO => ⟨.TGATE, 8, 1, 0, 0, 0xffffffff, 0, 0, 0, false⟩
  | .TG_BASE_HI => ⟨.TGATE, 0xc, 1, 0, 0, 0xffffffff, 0, 0, 0, false⟩
  | .TG_CYCLE => ⟨.TGATE, 0x10, 1, 0, 0, 0, 0, 0, 0, false⟩
  | .TG_LEN => ⟨.TGATE, 0x14, 1, 0, 0, 0x7f, 0, 0, 0, false⟩
  | .TG_ENTRY => ⟨.TGATE, 0x100, 64, 4, 0, 0xffffffff, 0, 0, 0, false⟩
  | .EVT_HEAD => ⟨.EVT, 0, 1, 0, 0, 0, 0, 0, 0, false⟩
  | .EVT_OVERWRITE => ⟨.EVT, 4, 1, 0, 0, 0, 0, 0, 0, true⟩
  | .EVT_CFG => ⟨.EVT, 8, 1, 0, 0x103, 0, 0, 0, 2, false⟩
  | .EVT_SEL => ⟨.EVT, 0xc, 1, 0, 0xfff, 0, 0, 0, 0, false⟩
  | .EVT_ENTRY => ⟨.EVT, 0x20, 8, 4, 0, 0, 0, 0, 0, false⟩
  | .EVT_SUPP => ⟨.EVT, 0x40, 16, 4, 0, 0, 0, 0, 0, true⟩
  | .PLOG_SEL => ⟨.EVT, 0x100, 1, 0, 0x3f, 0, 0, 0, 0, false⟩
  | .PLOG_HEAD => ⟨.EVT, 0x104, 1, 0, 0, 0, 0, 0, 0, false⟩
  | .PLOG_ENTRY => ⟨.EVT, 0x110, 4, 4, 0, 0, 0, 0, 0, false⟩
  | .TRC_CTL => ⟨.DBG, 0, 1, 0, 0xffff03ff, 0, 0, 0, 0x3e80000, false⟩
  | .TRC_STAT => ⟨.DBG, 4, 1, 0, 0, 0, 0, 0, 0, false⟩
  | .TRC_LOST => ⟨.DBG, 8, 1, 0, 0, 0, 0, 0, 0, true⟩
  | .EXP_DEST_IP => ⟨.DBG, 0x10, 1, 0, 0xffffffff, 0, 0, 0, 0, false⟩
  | .EXP_DEST_PORT => ⟨.DBG, 0x14, 1, 0, 0xffff, 0, 0, 0, 0, false⟩
  | .SHV_CTL => ⟨.DBG, 0x40, 1, 0, 1, 0, 0, 0, 0, false⟩
  | .SHV_CMD => ⟨.DBG, 0x44, 1, 0, 0, 0, 0, 0xff, 0, false⟩
  | .SHV_CMD_RESULT => ⟨.DBG, 0x48, 1, 0, 0, 0, 0, 0, 0, false⟩
  | .SHV_STAT => ⟨.DBG, 0x4c, 1, 0, 0, 0, 0, 0, 0, false⟩
  | .SHV_REFUSE_CNT => ⟨.DBG, 0x50, 1, 0, 0, 0, 0, 0, 0, true⟩
  | .SHV_OFF => ⟨.DBG, 0x54, 1, 0, 0x1fffff, 0, 0, 0, 0, false⟩
  | .DBG_CMD => ⟨.DBG, 0x80, 1, 0, 0, 0, 0, 0xff, 0, false⟩
  | .DBG_CMD_RESULT => ⟨.DBG, 0x84, 1, 0, 0, 0, 0, 0, 0, false⟩
  | .DBG_STAT => ⟨.DBG, 0x88, 1, 0, 0, 0, 0, 0, 0, false⟩
  | .DBG_CHAL => ⟨.DBG, 0xc0, 8, 4, 0, 0, 0, 0, 0, false⟩
  | .DBG_WIN => ⟨.DBG, 0x100, 64, 4, 0xffffffff, 0, 0, 0, 0, false⟩
  | .SHV_WIN => ⟨.DBG, 0x1000, 1024, 4, 0, 0, 0, 0, 0, false⟩
  | .CNT_CTL => ⟨.CNT, 0, 1, 0, 0x1ffff, 0, 0, 0, 0, false⟩
  | .CNT_CMD => ⟨.CNT, 4, 1, 0, 0, 0, 0, 0xff, 0, false⟩
  | .CNT_CMD_RESULT => ⟨.CNT, 8, 1, 0, 0, 0, 0, 0, 0, false⟩
  | .CNT_VIEW => ⟨.CNT, 0xc, 1, 0, 1, 0, 0, 0, 0, false⟩
  | .CNT_SNAP_TIME_LO => ⟨.CNT, 0x10, 1, 0, 0, 0, 0, 0, 0, false⟩
  | .CNT_SNAP_TIME_HI => ⟨.CNT, 0x14, 1, 0, 0, 0, 0, 0, 0, false⟩
  | .MBX_CTL => ⟨.SCHED, 0, 1, 0, 0, 0, 0, 1, 0, false⟩
  | .MBX_STAT => ⟨.SCHED, 4, 1, 0, 0, 0, 0, 0, 0, false⟩
  | .XPORT_MAP => ⟨.SCHED, 8, 1, 0, 0, 0, 0, 0, 0, false⟩
  | .TASK_SUB_CNT => ⟨.SCHED, 0x40, 1, 0, 0, 0, 0, 0, 0, true⟩
  | .TASK_DONE_CNT => ⟨.SCHED, 0x44, 1, 0, 0, 0, 0, 0, 0, true⟩
  | .TASK_FAIL_CNT => ⟨.SCHED, 0x48, 1, 0, 0, 0, 0, 0, 0, true⟩
  | .TASK_CANCEL_CNT => ⟨.SCHED, 0x4c, 1, 0, 0, 0, 0, 0, 0, true⟩
  | .CMD_CONFLICT_CNT => ⟨.SCHED, 0x50, 1, 0, 0, 0, 0, 0, 0, true⟩
  | .DBELL_BAD_CNT => ⟨.SCHED, 0x54, 1, 0, 0, 0, 0, 0, 0, true⟩
  | .CQ_FULL_CNT => ⟨.SCHED, 0x58, 1, 0, 0, 0, 0, 0, 0, true⟩
  | .LIVE_TASKS => ⟨.SCHED, 0x5c, 1, 0, 0, 0, 0, 0, 0, false⟩
  | .MBX_IN => ⟨.SCHED, 0x100, 48, 4, 0xffffffff, 0, 0, 0, 0, false⟩
  | .MBX_OUT => ⟨.SCHED, 0x200, 48, 4, 0, 0, 0, 0, 0, false⟩
  | .XFER_OFF => ⟨.SCHED, 0x300, 1, 0, 0x7ffff, 0, 0, 0, 0, false⟩
  | .XFER_WIN => ⟨.SCHED, 0x1000, 1024, 4, 0xffffffff, 0, 0, 0, 0, false⟩
  | .RTC_STAT => ⟨.RTC, 0, 1, 0, 0, 0, 2, 0, 0, false⟩
  | .RTC_SEC_LO => ⟨.RTC, 4, 1, 0, 0, 0, 0, 0, 0, false⟩
  | .RTC_SEC_HI => ⟨.RTC, 8, 1, 0, 0, 0, 0, 0, 0, false⟩
  | .UTC_OFFSET => ⟨.RTC, 0xc, 1, 0, 0xff, 0, 0, 0, 0, false⟩
  | .CAL_DATE => ⟨.RTC, 0x10, 1, 0, 0xffffffff, 0, 0, 0, 0x7d00101, false⟩
  | .CAL_TIME => ⟨.RTC, 0x14, 1, 0, 0xffffff, 0, 0, 0, 0, false⟩
  | .RTC_CMD => ⟨.RTC, 0x18, 1, 0, 0, 0, 0, 0xff, 0, false⟩
  | .RTC_CMD_RESULT => ⟨.RTC, 0x1c, 1, 0, 0, 0, 0, 0, 0, false⟩
  | .POOL_TIME_LO => ⟨.RTC, 0x20, 1, 0, 0, 0, 0, 0, 0, false⟩
  | .POOL_TIME_HI => ⟨.RTC, 0x24, 1, 0, 0, 0, 0, 0, 0, false⟩
  | .PTP_CFG => ⟨.RTC, 0x28, 1, 0, 0, 0x1ff, 0, 0, 0, false⟩
  | .CHAIN_DELAY => ⟨.RTC, 0x2c, 1, 0, 0xffff, 0, 0, 0, 0, false⟩
  | .TIME_STEP_CNT => ⟨.RTC, 0x40, 1, 0, 0, 0, 0, 0, 0, true⟩
  | .Q_STAT => ⟨.QCTL, 0, 1, 0, 0, 0, 0, 0, 0, false⟩
  | .TRK_INUSE => ⟨.QCTL, 0x800, 1, 0, 0, 0, 0, 0, 0, false⟩
  | .TRK_RESV_SUM => ⟨.QCTL, 0x804, 1, 0, 0, 0, 0, 0, 0, false⟩
  | .TRK_EXH_CNT => ⟨.QCTL, 0x808, 1, 0, 0, 0, 0, 0, 0, true⟩
  | .TRK_HOST_SEL => ⟨.QCTL, 0x80c, 1, 0, 0xfff, 0, 0, 0, 0, false⟩
  | .TRK_HOST_USE => ⟨.QCTL, 0x810, 1, 0, 0, 0, 0, 0, 0, false⟩
  | .CH_STAT => ⟨.DDR, 0, 1, 0, 0, 0, 0, 0, 0, false⟩
  | .CH_CMD => ⟨.DDR, 4, 1, 0, 0, 0, 0, 0x1ff, 0, false⟩
  | .CH_CMD_RESULT => ⟨.DDR, 8, 1, 0, 0, 0, 0, 0, 0, false⟩
  | .DIRSTORE_SIZE => ⟨.DDR, 0xc, 1, 0, 0, 0xffff, 0, 0, 0, false⟩
  | .CACHE_SETS => ⟨.DDR, 0x10, 1, 0, 0, 0, 0, 0, 0, false⟩
  | .PD_TIMER => ⟨.DDR, 0x14, 1, 0, 0xffff, 0, 0, 0, 0x400, false⟩
  | .SCHED_CFG => ⟨.DDR, 0x18, 1, 0, 0xffffffff, 0, 0, 0, 0x7d03010, false⟩
  | .SCRUB_INTERVAL => ⟨.DDR, 0x1c, 1, 0, 0xffffffff, 0, 0, 0, 0xfb75, false⟩
  | .CE_THRESH => ⟨.DDR, 0x20, 1, 0, 0xffff, 0, 0, 0, 0x100, false⟩
  | .CE_SEL => ⟨.DDR, 0x24, 1, 0, 0x1f, 0, 0, 0, 0, false⟩
  | .CE_ENTRY0 => ⟨.DDR, 0x28, 1, 0, 0, 0, 0, 0, 0, false⟩
  | .CE_ENTRY1 => ⟨.DDR, 0x2c, 1, 0, 0, 0, 0, 0, 0, false⟩
  | .CE_ENTRY2 => ⟨.DDR, 0x30, 1, 0, 0, 0, 0, 0, 0, false⟩
  | .CE_ENTRY3 => ⟨.DDR, 0x34, 1, 0, 0, 0, 0, 0, 0, false⟩
  | .CE_CTL => ⟨.DDR, 0x38, 1, 0, 0, 0, 1, 2, 0, false⟩
  | .CE_CNT => ⟨.DDR, 0x40, 1, 0, 0, 0, 0, 0, 0, true⟩
  | .UE_CNT => ⟨.DDR, 0x44, 1, 0, 0, 0, 0, 0, 0, true⟩
  | .UE_ADDR_CNT => ⟨.DDR, 0x48, 1, 0, 0, 0, 0, 0, 0, true⟩
  | .TAG_REPAIR_CNT => ⟨.DDR, 0x4c, 1, 0, 0, 0, 0, 0, 0, true⟩
  | .INORDER_CNT => ⟨.DDR, 0x50, 1, 0, 0, 0, 0, 0, 0, true⟩
  | .DDR_BYPASS_CNT => ⟨.DDR, 0x54, 1, 0, 0, 0, 0, 0, 0, true⟩
  | .SCRUB_PASS => ⟨.DDR, 0x58, 1, 0, 0, 0, 0, 0, 0, true⟩
  | .FCH_STAT => ⟨.FCH, 0, 1, 0, 0, 0, 0, 0, 0, false⟩
  | .PAGE_RD_CNT => ⟨.FCH, 0x10, 1, 0, 0, 0, 0, 0, 0, true⟩
  | .PAGE_PROG_CNT => ⟨.FCH, 0x14, 1, 0, 0, 0, 0, 0, 0, true⟩
  | .BLK_ERASE_CNT => ⟨.FCH, 0x18, 1, 0, 0, 0, 0, 0, 0, true⟩
  | .CW_CORR_CNT => ⟨.FCH, 0x1c, 1, 0, 0, 0, 0, 0, 0, true⟩
  | .READ_RETRY_CNT => ⟨.FCH, 0x20, 1, 0, 0, 0, 0, 0, 0, true⟩
  | .SOFT_DEC_CNT => ⟨.FCH, 0x24, 1, 0, 0, 0, 0, 0, 0, true⟩
  | .PROG_FAIL_CNT => ⟨.FCH, 0x28, 1, 0, 0, 0, 0, 0, 0, true⟩
  | .ERASE_FAIL_CNT => ⟨.FCH, 0x2c, 1, 0, 0, 0, 0, 0, 0, true⟩
  | .CAR_STAT => ⟨.CAR, 0, 1, 0, 0, 0, 0, 0, 0, false⟩
  | .CAR_CMD => ⟨.CAR, 4, 1, 0, 0, 0, 0, 0x1ff, 0, false⟩
  | .CAR_CMD_RESULT => ⟨.CAR, 8, 1, 0, 0, 0, 0, 0, 0, false⟩
  | .REBUILD_DONE => ⟨.CAR, 0xc, 1, 0, 0, 0, 0, 0, 0, false⟩
  | .REBUILD_TOTAL => ⟨.CAR, 0x10, 1, 0, 0, 0, 0, 0, 0, false⟩
  | .SPARE_MIN => ⟨.CAR, 0x14, 1, 0, 0, 0, 0, 0, 0, false⟩
  | .RETIRED_BLK => ⟨.CAR, 0x18, 1, 0, 0, 0, 0, 0, 0, false⟩
  | .ERASE_STAT => ⟨.CAR, 0x1c, 1, 0, 0, 0, 0, 0, 0, false⟩
  | .FLASH_STAT => ⟨.TIER, 0, 1, 0, 0, 0, 0, 0, 4, false⟩
  | .FLASH_CFG => ⟨.TIER, 4, 1, 0, 1, 0, 0, 0, 1, false⟩
  | .JGROUP_NS => ⟨.TIER, 8, 1, 0, 0xffff, 0, 0, 0, 0x7d0, false⟩
  | .WL_DELTA => ⟨.TIER, 0xc, 1, 0, 0xffff, 0, 0, 0, 0x1f4, false⟩
  | .RD_LIMIT => ⟨.TIER, 0x10, 1, 0, 0xffffffff, 0, 0, 0, 0x30d40, false⟩
  | .RET_PERIOD => ⟨.TIER, 0x14, 1, 0, 0xffff, 0, 0, 0, 0xa8, false⟩
  | .RET_THRESH => ⟨.TIER, 0x18, 1, 0, 0xff, 0, 0, 0, 0x48, false⟩
  | .REBUILD_RATE => ⟨.TIER, 0x1c, 1, 0, 0xffff, 0, 0, 0, 0x3e8, false⟩
  | .CKPT_INTERVAL => ⟨.TIER, 0x20, 1, 0, 0xffff, 0, 0, 0, 0x12c, false⟩
  | .USABLE_GRAN => ⟨.TIER, 0x24, 1, 0, 0, 0, 0, 0, 0, false⟩
  | .JOURNAL_USED => ⟨.TIER, 0x28, 1, 0, 0, 0, 0, 0, 0, false⟩
  | .RECON_CNT => ⟨.TIER, 0x40, 1, 0, 0, 0, 0, 0, 0, true⟩
  | .LOST_BLK_CNT => ⟨.TIER, 0x44, 1, 0, 0, 0, 0, 0, 0, true⟩
  | .RELOC_RET_CNT => ⟨.TIER, 0x48, 1, 0, 0, 0, 0, 0, 0, true⟩
  | .RELOC_RD_CNT => ⟨.TIER, 0x4c, 1, 0, 0, 0, 0, 0, 0, true⟩
  | .RELOC_WL_CNT => ⟨.TIER, 0x50, 1, 0, 0, 0, 0, 0, 0, true⟩
  | .GC_SB_CNT => ⟨.TIER, 0x54, 1, 0, 0, 0, 0, 0, 0, true⟩
  | .LNK_STAT => ⟨.LNK, 0, 1, 0, 0, 0, 0, 0, 9, false⟩
  | .LNK_CMD => ⟨.LNK, 4, 1, 0, 0, 0, 0, 0xfff, 0, false⟩
  | .LNK_CMD_RESULT => ⟨.LNK, 8, 1, 0, 0, 0, 0, 0, 0, false⟩
  | .LNK_PEER => ⟨.LNK, 0xc, 1, 0, 0, 0, 0, 0, 0, false⟩
  | .LNK_CFG => ⟨.LNK, 0x10, 1, 0, 0x3ff0fff, 0xf000, 0, 0, 0xab7d0, false⟩
  | .LNK_EXPECT => ⟨.LNK, 0x14, 1, 0, 0, 0x3ffff, 0, 0, 0xffff, false⟩
  | .VC_DEPTH0 => ⟨.LNK, 0x18, 1, 0, 0, 0xffffffff, 0, 0, 0x400080, false⟩
  | .VC_DEPTH1 => ⟨.LNK, 0x1c, 1, 0, 0, 0xffffffff, 0, 0, 0x800040, false⟩
  | .VC_DEPTH2 => ⟨.LNK, 0x20, 1, 0, 0, 0xffffffff, 0, 0, 0x400240, false⟩
  | .CRC_ERR_CNT => ⟨.LNK, 0x40, 1, 0, 0, 0, 0, 0, 0, true⟩
  | .AUTH_FAIL_CNT => ⟨.LNK, 0x44, 1, 0, 0, 0, 0, 0, 0, true⟩
  | .NAK_TX_CNT => ⟨.LNK, 0x48, 1, 0, 0, 0, 0, 0, 0, true⟩
  | .REPLAY_CNT => ⟨.LNK, 0x4c, 1, 0, 0, 0, 0, 0, 0, true⟩
  | .DUP_FLIT_CNT => ⟨.LNK, 0x50, 1, 0, 0, 0, 0, 0, 0, true⟩
  | .LOCK_GLITCH_CNT => ⟨.LNK, 0x54, 1, 0, 0, 0, 0, 0, 0, true⟩
  | .LINK_DOWN_CNT => ⟨.LNK, 0x58, 1, 0, 0, 0, 0, 0, 0, true⟩
  | .RETRAIN_CNT => ⟨.LNK, 0x5c, 1, 0, 0, 0, 0, 0, 0, true⟩
  | .EDGE_DENY_CNT => ⟨.LNK, 0x60, 1, 0, 0, 0, 0, 0, 0, true⟩
  | .STALL_CLOSE_CNT => ⟨.LNK, 0x64, 1, 0, 0, 0, 0, 0, 0, true⟩
  | .ORPHAN_CNT => ⟨.LNK, 0x68, 1, 0, 0, 0, 0, 0, 0, true⟩
  | .HEAD_OPEN_CNT => ⟨.LNK, 0x6c, 1, 0, 0, 0, 0, 0, 0, true⟩
  | .EPT_SEL => ⟨.LNK, 0x80, 1, 0, 0x1f, 0, 0, 0, 0, false⟩
  | .EPT_ENTRY => ⟨.LNK, 0x84, 1, 0, 0, 0, 0, 0, 0xffff, false⟩
  | .RTR_CFG => ⟨.RTR, 0, 1, 0, 0x3ff, 0, 0, 0, 0x14, false⟩
  | .RT_VERSION => ⟨.RTR, 4, 1, 0, 0, 0, 0, 0, 0, false⟩
  | .RT_SEL => ⟨.RTR, 8, 1, 0, 0xffff, 0, 0, 0, 0, false⟩
  | .RT_ENTRY_LO => ⟨.RTR, 0xc, 1, 0, 0, 0, 0, 0, 0, false⟩
  | .RT_ENTRY_HI => ⟨.RTR, 0x10, 1, 0, 0, 0, 0, 0, 0, false⟩
  | .DEV_RANK => ⟨.RTR, 0x14, 1, 0, 0, 0, 0, 0, 0, false⟩
  | .ALIVE_SEL => ⟨.RTR, 0x18, 1, 0, 0x1fff, 0, 0, 0, 0, false⟩
  | .ALIVE_STAT => ⟨.RTR, 0x1c, 1, 0, 0, 0, 0, 0, 0, false⟩
  | .NOROUTE_CNT => ⟨.RTR, 0x40, 1, 0, 0, 0, 0, 0, 0, true⟩
  | .MESH_STALL_CNT => ⟨.RTR, 0x44, 1, 0, 0, 0, 0, 0, 0, true⟩
  | .MESH_ORPHAN_CNT => ⟨.RTR, 0x48, 1, 0, 0, 0, 0, 0, 0, true⟩
  | .HOME_CFG => ⟨.HOME, 0, 1, 0, 0xffff, 0, 0, 0, 0x32, false⟩
  | .FLUSH_CFG => ⟨.HOME, 4, 1, 0, 0x3ff, 0, 0, 0, 0xa, false⟩
  | .SLOT_SEL => ⟨.HOME, 0x10, 1, 0, 0x1fff, 0, 0, 0, 0, false⟩
  | .SLOT_STAT => ⟨.HOME, 0x14, 1, 0, 0, 0, 0, 0, 0, false⟩
  | .SLOT_CMD => ⟨.HOME, 0x18, 1, 0, 0, 0, 0, 0xff, 0, false⟩
  | .SLOT_CMD_RESULT => ⟨.HOME, 0x1c, 1, 0, 0, 0, 0, 0, 0, false⟩
  | .SNP_CAP_STAT => ⟨.HOME, 0x20, 1, 0, 0, 0, 0xc0000000, 0, 0, false⟩
  | .SNP_CAP_DPA_LO => ⟨.HOME, 0x24, 1, 0, 0, 0, 0, 0, 0, false⟩
  | .SNP_CAP_DPA_HI => ⟨.HOME, 0x28, 1, 0, 0, 0, 0, 0, 0, false⟩
  | .SNP_SENT_CNT => ⟨.HOME, 0x40, 1, 0, 0, 0, 0, 0, 0, true⟩
  | .SNP_TIMEOUT_CNT => ⟨.HOME, 0x44, 1, 0, 0, 0, 0, 0, 0, true⟩
  | .LATE_RSP_CNT => ⟨.HOME, 0x48, 1, 0, 0, 0, 0, 0, 0, true⟩
  | .STRAY_WB_CNT => ⟨.HOME, 0x4c, 1, 0, 0, 0, 0, 0, 0, true⟩
  | .PROTO_ERR_CNT => ⟨.HOME, 0x50, 1, 0, 0, 0, 0, 0, 0, true⟩
  | .ATOM_NEAR_CNT => ⟨.HOME, 0x54, 1, 0, 0, 0, 0, 0, 0, true⟩
  | .ATOM_FAR_CNT => ⟨.HOME, 0x58, 1, 0, 0, 0, 0, 0, 0, true⟩
  | .XLAT_CTL => ⟨.HOME, 0xe00, 1, 0, 1, 0, 0, 2, 1, false⟩
  | .XLAT_FAULT_STAT => ⟨.HOME, 0xe04, 1, 0, 0, 0, 0xc0000000, 0, 0, false⟩
  | .XLAT_FAULT_CA_LO => ⟨.HOME, 0xe08, 1, 0, 0, 0, 0, 0, 0, false⟩
  | .XLAT_FAULT_CA_HI => ⟨.HOME, 0xe0c, 1, 0, 0, 0, 0, 0, 0, false⟩
  | .XLAT_FAULT_SRC => ⟨.HOME, 0xe10, 1, 0, 0, 0, 0, 0, 0, false⟩
  | .XLAT_FAULT_CNT => ⟨.HOME, 0xe14, 1, 0, 0, 0, 0, 0, 0, true⟩
  | .XLAT_FWD_CNT => ⟨.HOME, 0xe18, 1, 0, 0, 0, 0, 0, 0, true⟩
  | .XLAT_TC_MISS => ⟨.HOME, 0xe1c, 1, 0, 0, 0, 0, 0, 0, true⟩
  | .RGN_SEL => ⟨.HOME, 0xf00, 1, 0, 0xfff, 0, 0, 0, 0, false⟩
  | .RGN_RSTAT => ⟨.HOME, 0xf04, 1, 0, 0, 0, 0, 0, 0, false⟩
  | .RGN_GEN_OPEN => ⟨.HOME, 0xf08, 1, 0, 0, 0, 0, 0, 0, false⟩
  | .RGN_GEN_DONE => ⟨.HOME, 0xf0c, 1, 0, 0, 0, 0, 0, 0, false⟩
  | .RGN_CGEN => ⟨.HOME, 0xf10, 1, 0, 0, 0, 0, 0, 0, false⟩
  | .RGN_CMD => ⟨.HOME, 0xf14, 1, 0, 0, 0, 0, 0xffff00ff, 0, false⟩
  | .RGN_CMD_RESULT => ⟨.HOME, 0xf18, 1, 0, 0, 0, 0, 0, 0, false⟩
  | .RED_ADD_CNT => ⟨.HOME, 0xf40, 1, 0, 0, 0, 0, 0, 0, true⟩
  | .RED_DUP_CNT => ⟨.HOME, 0xf44, 1, 0, 0, 0, 0, 0, 0, true⟩
  | .RED_STALE_CNT => ⟨.HOME, 0xf48, 1, 0, 0, 0, 0, 0, 0, true⟩
  | .RED_SATGRP_CNT => ⟨.HOME, 0xf4c, 1, 0, 0, 0, 0, 0, 0, true⟩
  | .CMP_BLK_CNT => ⟨.HOME, 0xf50, 1, 0, 0, 0, 0, 0, 0, true⟩
  | .MAT_HIT_CNT => ⟨.HOME, 0xf54, 1, 0, 0, 0, 0, 0, 0, true⟩
  | .MAT_INVAL_CNT => ⟨.HOME, 0xf58, 1, 0, 0, 0, 0, 0, 0, true⟩
  | .DIR_HIT => ⟨.DIRC, 0, 1, 0, 0, 0, 0, 0, 0, true⟩
  | .DIR_MISS => ⟨.DIRC, 4, 1, 0, 0, 0, 0, 0, 0, true⟩
  | .DIR_VICTIM_CNT => ⟨.DIRC, 8, 1, 0, 0, 0, 0, 0, 0, true⟩
  | .DIR_LIVE => ⟨.DIRC, 0xc, 1, 0, 0, 0, 0, 0, 0, false⟩
  | .TAGC_CTL => ⟨.TAGC, 0, 1, 0, 0, 0, 0, 1, 0, false⟩
  | .TAGC_HIT => ⟨.TAGC, 0x10, 4, 8, 0, 0, 0, 0, 0, true⟩
  | .TAGC_MISS => ⟨.TAGC, 0x14, 4, 8, 0, 0, 0, 0, 0, true⟩
  | .KC_STAT => ⟨.KC, 0, 1, 0, 0, 0, 0, 0, 0, false⟩
  | .KC_CMD => ⟨.KC, 4, 1, 0, 0, 0, 0, 0xff, 0, false⟩
  | .KC_CMD_RESULT => ⟨.KC, 8, 1, 0, 0, 0, 0, 0, 0, false⟩
  | .KC_FAULT => ⟨.KC, 0xc, 1, 0, 0, 0, 0xc0000000, 0, 0, false⟩
  | .SPAD_CE_CNT => ⟨.KC, 0x10, 1, 0, 0, 0, 0, 0, 0, true⟩
  | .SPAD_UE_CNT => ⟨.KC, 0x14, 1, 0, 0, 0, 0, 0, 0, true⟩
  | .LMEM_CE_CNT => ⟨.KC, 0x18, 1, 0, 0, 0, 0, 0, 0, true⟩
  | .LMEM_UE_CNT => ⟨.KC, 0x1c, 1, 0, 0, 0, 0, 0, 0, true⟩
  | .TILE_CNT => ⟨.KC, 0x20, 1, 0, 0, 0, 0, 0, 0, true⟩
  | .KC_RESET_CNT => ⟨.KC, 0x24, 1, 0, 0, 0, 0, 0, 0, true⟩
  | .KC_WDOG => ⟨.KC, 0x28, 1, 0, 0x3fff, 0, 0, 0, 0x64, false⟩
  | .DDR_RD_BYTES => ⟨.QCNT, 0, 4, 16, 0, 0, 0, 0, 0, true⟩
  | .DDR_WR_BYTES => ⟨.QCNT, 8, 4, 16, 0, 0, 0, 0, 0, true⟩
  | .FL_RD_BYTES => ⟨.QCNT, 0x100, 8, 32, 0, 0, 0, 0, 0, true⟩
  | .FL_PROG_BYTES => ⟨.QCNT, 0x108, 8, 32, 0, 0, 0, 0, 0, true⟩
  | .FL_ERASE_BYTES => ⟨.QCNT, 0x110, 8, 32, 0, 0, 0, 0, 0, true⟩
  | .LNK_TX_FLITS => ⟨.QCNT, 0x200, 6, 32, 0, 0, 0, 0, 0, true⟩
  | .LNK_RX_FLITS => ⟨.QCNT, 0x208, 6, 32, 0, 0, 0, 0, 0, true⟩
  | .LNK_TX_BYTES => ⟨.QCNT, 0x210, 6, 32, 0, 0, 0, 0, 0, true⟩
  | .LNK_RX_BYTES => ⟨.QCNT, 0x218, 6, 32, 0, 0, 0, 0, 0, true⟩
  | .MESH_OUT_BYTES => ⟨.QCNT, 0x300, 4, 16, 0, 0, 0, 0, 0, true⟩
  | .MESH_IN_BYTES => ⟨.QCNT, 0x308, 4, 16, 0, 0, 0, 0, 0, true⟩
  | .ENG_OPS => ⟨.QCNT, 0x1000, 36, 64, 0, 0, 0, 0, 0, true⟩
  | .WHT_FLOPS => ⟨.QCNT, 0x1008, 36, 64, 0, 0, 0, 0, 0, true⟩
  | .SPAD_RD_BYTES => ⟨.QCNT, 0x1010, 36, 64, 0, 0, 0, 0, 0, true⟩
  | .SPAD_WR_BYTES => ⟨.QCNT, 0x1018, 36, 64, 0, 0, 0, 0, 0, true⟩
  | .DMA_IN_BYTES => ⟨.QCNT, 0x1020, 36, 64, 0, 0, 0, 0, 0, true⟩
  | .DMA_OUT_BYTES => ⟨.QCNT, 0x1028, 36, 64, 0, 0, 0, 0, 0, true⟩

/-- The registers of each block, in address order. -/
def Blk.regs : Blk → List Reg
  | .ID => [.PART, .STEPPING, .FEATURES]
  | .CLKRST => [.CLK_STAT, .ECLK_REQ, .RST_CMD, .RST_CMD_RESULT, .RST_CAUSE, .QWDOG, .GATE_REFUSE_CNT, .QRESET_CNT]
  | .PWR => [.PWR_STAT, .PWR_CMD, .PWR_CMD_RESULT, .PWR_CAP, .PWR_TIMERS, .PKG_POWER, .TEMP_MAX, .PF_LAST,
      .CAP_STEP_CNT, .PF_CNT]
  | .HWD => [.HWD_STAT, .TAMPER_STAT, .TAMPER_CFG, .LID_STAT, .CONT_WORD, .WIN_END_LO, .WIN_END_HI, .ERASE_CNT,
      .FUSE, .NV_HEALTH, .CTR_SEL, .CTR_VALUE, .CTR_OWNER, .HWD_CMD, .HWD_CMD_RESULT, .SLICE_STAT, .KEY_STAT]
  | .BLANK => [.BLK_STAT, .BLK_SEQ, .BLK_STAGED_SEQ, .BLK_CMD, .BLK_CMD_RESULT, .BLK_FAIL, .BLK_STAGE_OFF, .SU_STAT,
      .SU_CMD, .SU_CMD_RESULT, .BLK_WIN]
  | .SPN => [.SPN_STAT, .SPN_ALARM, .SPN_ALARM_SET, .MAP_SEQ, .SF_CRC_ERR_CNT, .SF_MISS_CNT, .SPN_MAP, .SPN_EPOCH]
  | .PAIR => [.PAIR_STAT, .PAIR_CFG, .PAIR_EPOCH, .PAIR_CMD, .PAIR_CMD_RESULT, .TAKEOVER_CNT, .HANDOVER_CNT,
      .PATH_FAULT_CNT, .HB_CRC_ERR_CNT, .HB_REPEAT_CNT, .RECOV_POISON_CNT]
  | .CHK => [.CHK_CFG, .CHK_VALUE, .CHK_D8, .CHK_D16, .CHK_D32, .CHK_RESULT]
  | .SHP => [.SHP_CFG, .SHP_RETRY, .HOST_SEL, .HOST_RATE, .HOST_BURST, .HOST_CFG, .HOST_TOKENS, .HOST_POL_CNT,
      .SVC_SEL, .SVC_RATE, .SVC_BURST, .SVC_WEIGHT, .SVC_POL_CNT, .SVC_GATE_CNT, .PORT_SEL, .PORT_RATE, .PORT_BURST,
      .PORT_POL_CNT, .TRANSIT_W]
  | .TGATE => [.TG_STAT, .TG_BASE_LO, .TG_BASE_HI, .TG_CYCLE, .TG_LEN, .TG_ENTRY]
  | .EVT => [.EVT_HEAD, .EVT_OVERWRITE, .EVT_CFG, .EVT_SEL, .EVT_ENTRY, .EVT_SUPP, .PLOG_SEL, .PLOG_HEAD, .PLOG_ENTRY]
  | .DBG => [.TRC_CTL, .TRC_STAT, .TRC_LOST, .EXP_DEST_IP, .EXP_DEST_PORT, .SHV_CTL, .SHV_CMD, .SHV_CMD_RESULT,
      .SHV_STAT, .SHV_REFUSE_CNT, .SHV_OFF, .DBG_CMD, .DBG_CMD_RESULT, .DBG_STAT, .DBG_CHAL, .DBG_WIN, .SHV_WIN]
  | .CNT => [.CNT_CTL, .CNT_CMD, .CNT_CMD_RESULT, .CNT_VIEW, .CNT_SNAP_TIME_LO, .CNT_SNAP_TIME_HI]
  | .SCHED => [.MBX_CTL, .MBX_STAT, .XPORT_MAP, .TASK_SUB_CNT, .TASK_DONE_CNT, .TASK_FAIL_CNT, .TASK_CANCEL_CNT,
      .CMD_CONFLICT_CNT, .DBELL_BAD_CNT, .CQ_FULL_CNT, .LIVE_TASKS, .MBX_IN, .MBX_OUT, .XFER_OFF, .XFER_WIN]
  | .RTC => [.RTC_STAT, .RTC_SEC_LO, .RTC_SEC_HI, .UTC_OFFSET, .CAL_DATE, .CAL_TIME, .RTC_CMD, .RTC_CMD_RESULT,
      .POOL_TIME_LO, .POOL_TIME_HI, .PTP_CFG, .CHAIN_DELAY, .TIME_STEP_CNT]
  | .QCTL => [.Q_STAT, .TRK_INUSE, .TRK_RESV_SUM, .TRK_EXH_CNT, .TRK_HOST_SEL, .TRK_HOST_USE]
  | .DDR => [.CH_STAT, .CH_CMD, .CH_CMD_RESULT, .DIRSTORE_SIZE, .CACHE_SETS, .PD_TIMER, .SCHED_CFG, .SCRUB_INTERVAL,
      .CE_THRESH, .CE_SEL, .CE_ENTRY0, .CE_ENTRY1, .CE_ENTRY2, .CE_ENTRY3, .CE_CTL, .CE_CNT, .UE_CNT, .UE_ADDR_CNT,
      .TAG_REPAIR_CNT, .INORDER_CNT, .DDR_BYPASS_CNT, .SCRUB_PASS]
  | .FCH => [.FCH_STAT, .PAGE_RD_CNT, .PAGE_PROG_CNT, .BLK_ERASE_CNT, .CW_CORR_CNT, .READ_RETRY_CNT, .SOFT_DEC_CNT,
      .PROG_FAIL_CNT, .ERASE_FAIL_CNT]
  | .CAR => [.CAR_STAT, .CAR_CMD, .CAR_CMD_RESULT, .REBUILD_DONE, .REBUILD_TOTAL, .SPARE_MIN, .RETIRED_BLK,
      .ERASE_STAT]
  | .TIER => [.FLASH_STAT, .FLASH_CFG, .JGROUP_NS, .WL_DELTA, .RD_LIMIT, .RET_PERIOD, .RET_THRESH, .REBUILD_RATE,
      .CKPT_INTERVAL, .USABLE_GRAN, .JOURNAL_USED, .RECON_CNT, .LOST_BLK_CNT, .RELOC_RET_CNT, .RELOC_RD_CNT,
      .RELOC_WL_CNT, .GC_SB_CNT]
  | .LNK => [.LNK_STAT, .LNK_CMD, .LNK_CMD_RESULT, .LNK_PEER, .LNK_CFG, .LNK_EXPECT, .VC_DEPTH0, .VC_DEPTH1,
      .VC_DEPTH2, .CRC_ERR_CNT, .AUTH_FAIL_CNT, .NAK_TX_CNT, .REPLAY_CNT, .DUP_FLIT_CNT, .LOCK_GLITCH_CNT,
      .LINK_DOWN_CNT, .RETRAIN_CNT, .EDGE_DENY_CNT, .STALL_CLOSE_CNT, .ORPHAN_CNT, .HEAD_OPEN_CNT, .EPT_SEL,
      .EPT_ENTRY]
  | .RTR => [.RTR_CFG, .RT_VERSION, .RT_SEL, .RT_ENTRY_LO, .RT_ENTRY_HI, .DEV_RANK, .ALIVE_SEL, .ALIVE_STAT,
      .NOROUTE_CNT, .MESH_STALL_CNT, .MESH_ORPHAN_CNT]
  | .HOME => [.HOME_CFG, .FLUSH_CFG, .SLOT_SEL, .SLOT_STAT, .SLOT_CMD, .SLOT_CMD_RESULT, .SNP_CAP_STAT,
      .SNP_CAP_DPA_LO, .SNP_CAP_DPA_HI, .SNP_SENT_CNT, .SNP_TIMEOUT_CNT, .LATE_RSP_CNT, .STRAY_WB_CNT,
      .PROTO_ERR_CNT, .ATOM_NEAR_CNT, .ATOM_FAR_CNT, .XLAT_CTL, .XLAT_FAULT_STAT, .XLAT_FAULT_CA_LO,
      .XLAT_FAULT_CA_HI, .XLAT_FAULT_SRC, .XLAT_FAULT_CNT, .XLAT_FWD_CNT, .XLAT_TC_MISS, .RGN_SEL, .RGN_RSTAT,
      .RGN_GEN_OPEN, .RGN_GEN_DONE, .RGN_CGEN, .RGN_CMD, .RGN_CMD_RESULT, .RED_ADD_CNT, .RED_DUP_CNT, .RED_STALE_CNT,
      .RED_SATGRP_CNT, .CMP_BLK_CNT, .MAT_HIT_CNT, .MAT_INVAL_CNT]
  | .DIRC => [.DIR_HIT, .DIR_MISS, .DIR_VICTIM_CNT, .DIR_LIVE]
  | .TAGC => [.TAGC_CTL, .TAGC_HIT, .TAGC_MISS]
  | .KC => [.KC_STAT, .KC_CMD, .KC_CMD_RESULT, .KC_FAULT, .SPAD_CE_CNT, .SPAD_UE_CNT, .LMEM_CE_CNT, .LMEM_UE_CNT,
      .TILE_CNT, .KC_RESET_CNT, .KC_WDOG]
  | .QCNT => [.DDR_RD_BYTES, .DDR_WR_BYTES, .FL_RD_BYTES, .FL_PROG_BYTES, .FL_ERASE_BYTES, .LNK_TX_FLITS,
      .LNK_RX_FLITS, .LNK_TX_BYTES, .LNK_RX_BYTES, .MESH_OUT_BYTES, .MESH_IN_BYTES, .ENG_OPS, .WHT_FLOPS,
      .SPAD_RD_BYTES, .SPAD_WR_BYTES, .DMA_IN_BYTES, .DMA_OUT_BYTES]

def Blk.all : List Blk :=
  [.ID, .CLKRST, .PWR, .HWD, .BLANK, .SPN, .PAIR, .CHK, .SHP, .TGATE, .EVT, .DBG, .CNT, .SCHED, .RTC, .QCTL, .DDR, .FCH, .CAR, .TIER, .LNK, .RTR, .HOME, .DIRC, .TAGC, .KC, .QCNT]

/-- Every register of the device. -/
def Reg.all : List Reg := Blk.all.flatMap Blk.regs

/-- How many instances of a block one quarter holds; hub and Heartwood blocks have 0 (R26; CHK has 8 units, R391). -/
def Blk.perQuarter : Blk → Nat
  | .QCTL | .RTR | .HOME | .TAGC | .QCNT => 1
  | .DDR | .DIRC => 4
  | .FCH => 8
  | .CAR => 2
  | .LNK => 6
  | .KC => 36
  | .TIER | .ID | .CLKRST | .PWR | .HWD | .BLANK | .SPN | .PAIR | .CHK | .SHP | .TGATE | .EVT | .DBG | .CNT | .SCHED | .RTC => 0

/-- How many instances of a block the device holds. -/
def Blk.count (b : Blk) : Nat :=
  match b with
  | .CHK => 8
  | _ => if b.perQuarter = 0 then 1 else 4 * b.perQuarter

/-- Offset of a block's first instance, and the distance between instances of one quarter (R26 and the register chapters). -/
def Blk.place : Blk → Nat × Nat
  | .ID => (0x0, 0) | .CLKRST => (0x10000, 0) | .PWR => (0x20000, 0) | .HWD => (0x30000, 0) | .BLANK => (0x40000, 0)
  | .SPN => (0x50000, 0) | .PAIR => (0x60000, 0) | .CHK => (0x70000, 0x40) | .SHP => (0x80000, 0)
  | .TGATE => (0x90000, 0) | .EVT => (0xA0000, 0) | .DBG => (0xB0000, 0) | .CNT => (0xC0000, 0)
  | .SCHED => (0xD0000, 0) | .RTC => (0xE0000, 0)
  | .TIER => (0x102C000, 0)
  | .QCTL => (0x0, 0) | .DDR => (0x10000, 0x1000) | .FCH => (0x20000, 0x1000) | .CAR => (0x28000, 0x1000)
  | .LNK => (0x30000, 0x2000) | .RTR => (0x3C000, 0) | .HOME => (0x40000, 0) | .DIRC => (0x40100, 0x10)
  | .TAGC => (0x50000, 0) | .KC => (0x60000, 0x400) | .QCNT => (0x80000, 0)

/-- The address of instance `i` of a block. -/
def Blk.addr (b : Blk) (i : Nat) : Nat :=
  let (o, st) := b.place
  if b.perQuarter = 0 then o + st * i
  else 0x1000000 * (i / b.perQuarter + 1) + o + st * (i % b.perQuarter)

/-- The address of element `u` of a register; elements are numbered through the instances of the block (instance × n + e). -/
def Reg.addr (r : Reg) (u : Nat) : Nat :=
  let f := r.info
  f.blk.addr (u / f.n) + f.off + f.st * (u % f.n)

/-- The length of a block instance's own addresses. -/
def Blk.size : Blk → Nat
  | .CHK => 0x40 | .DDR | .FCH | .CAR => 0x1000 | .LNK => 0x2000 | .DIRC => 0x10 | .KC => 0x400
  | .TIER => 0x1000 | .RTR => 0x1000
  | _ => 0x10000

/-- The instances of a block that hold an address. -/
def Blk.instAt (b : Blk) (a : Nat) : Option Nat :=
  (List.range b.count).find? fun i => b.addr i ≤ a && a < b.addr i + b.size

/-- A register location: the register, its element, and whether it is the high half of a 64-bit counter. -/
structure Loc where
  reg : Reg
  u : Nat
  hi : Bool
deriving DecidableEq, Repr

/-- The element of a register of block instance `i` at offset `o`. -/
def Reg.at? (r : Reg) (i o : Nat) : Option Loc :=
  let f := r.info
  let wide := f.blk = .QCNT
  let d := o - f.off
  if o < f.off then none
  else if f.n = 1 then
    if d = 0 then some ⟨r, i, false⟩ else none
  else
    let e := d / f.st
    if e < f.n && (d % f.st = 0) then some ⟨r, i * f.n + e, false⟩
    else if wide && e < f.n && d % f.st = 4 then some ⟨r, i * f.n + e, true⟩
    else none

/-- The register at an address, if a table lists one (R16: others read 0 and ignore writes). -/
def locate (a : Nat) : Option Loc :=
  Blk.all.firstM fun b => do
    let i ← b.instAt a
    b.regs.firstM fun r => r.at? i (a - b.addr i)

end Sys2Proof.Machine
end

