-- ==== Sys2Proof/Machine/StBase.lean ====
section
/-! DEFINITION. State groups of the hub, Heartwood and the package: what the device sends, the event logs, time, clocks,
power, the blank, start-up, Heartwood and the pins. -/

namespace Sys2Proof.Machine

/-- Message classes, in class order (R147, R292): their number is the virtual channel. -/
inductive MClass where
  | req | snp | rsp | wb | dat | mgt
deriving DecidableEq, Repr

/-- A fabric message the device sends or forwards: the fields of the header of R147 and the payload. -/
structure Msg where
  cls : MClass
  op : Nat
  dst : W16
  src : W16
  tag : W16
  handle : W16 := 0
  status : Byte := 0
  load : Nat := 0
  hint : Nat := 0
  addr : Nat := 0
  len : Nat := 0
  flags : Nat := 0
  payload : Bytes := []
deriving DecidableEq, Repr

/-- What leaves the device. The model's own record of it: what an observer outside sees, in order (log entry 2). -/
inductive Out where
  /-- a message routed out of the link port (24: no live port) -/
  | msg (port : Nat) (m : Msg)
  /-- a flit sent on a link: header word and MESSAGE bytes -/
  | flit (l : LinkId) (hdr : W64) (body : Bytes)
  /-- a register read's value, to I3C or a mailbox reader -/
  | readData (v : W32)
  /-- the I3C in-band interrupt with its mandatory byte (R463) -/
  | ibi (cls : Byte)
  /-- a UDP datagram of the management Ethernet port (R464) -/
  | udp (ip : W32) (port : W16) (data : Bytes)
  /-- a frame on the spindle chain (R374) -/
  | chain (frame : Bytes)
  /-- the answer to a segment write, for which the spec gives no transport (R46, R47) -/
  | segAnswer (handle : W16) (n : Nat) (status : Byte)
  /-- the stack map as the headstock sends it to a member (R380); the spec gives the contents and no opcode -/
  | stackMap (dst : W16) (data : Bytes)
  /-- bits shifted out of TDO (R465) -/
  | jtag (data : Bytes)
deriving DecidableEq, Repr

/-- An event-log entry (R452). `sev` is the severity its kind fixes. -/
structure EvEntry where
  time : W64
  seq : W32
  cls : Byte
  kind : Byte
  cause : Byte
  status : Byte
  state : Byte
  tenant : Byte
  unit : W16
  data : Bytes
deriving DecidableEq, Repr

/-- The hub event log: the ring newest first (at most 4,096), the next SEQ, and the per-class rate limit of R453. -/
structure LogSt where
  ring : List EvEntry
  head : W32
  sec : Nat
  rate : Sparse Nat
  drop : Sparse Nat
  ibiAt : Option Nat
  expSeq : Nat
deriving DecidableEq, Repr

/-- A persistent-log entry (R455), its CRC computed when it is read. -/
structure PEntry where
  rtc : Nat
  kind : Byte
  detail : Byte
  epoch : Byte
  data : W32
  seq : W16
deriving DecidableEq, Repr

/-- Heartwood's persistent log: newest first (at most 64), and the next SEQ. -/
structure PLogSt where
  ring : List PEntry
  head : W16
deriving DecidableEq, Repr

/-- A time exchange in progress at a member (R436), stamps in 1/8 ns of pool time. -/
structure TimeXch where
  t1 : Nat
  t2 : Nat
  t3 : Nat
  c1 : Nat
deriving DecidableEq, Repr

/-- Time (R435 to R441). `nclk` is the device's monotonic count in NCLK cycles of 0.625 ns; pool time is held in 1/8 ns, the
RTC in NCLK cycles since the pool epoch. `src`: 0 NONE, 1 RTC, 2 FABRIC, 3 PTP. -/
structure TimeSt where
  nclk : Nat
  pt : Nat
  src : Nat
  holdAt : Option Nat
  lastSync : Nat
  slew : Int
  xch : Option TimeXch
  diverge : Bool
  ptpLocked : Bool
  rtc : Nat
  rtcValid : Bool
  dateInvalid : Bool
  utc : Byte
  stDate : W32
  stTime : W32
  stamps : Sparse Nat
deriving DecidableEq, Repr

/-- A clock domain: its divisor (256: the 25 MHz step; 0: stopped), its target, and when its last ramp step began. -/
structure DomSt where
  div : Nat
  target : Nat
  stepAt : Nat
deriving DecidableEq, Repr

/-- Oscillators, root PLL and clock domains (R420 to R424). Domains: 5 q + (0 ECLK, 1 NCLK, 2 CCLK, 3 MCLK, 4 FCLK) for
quarter q, 20 hub CCLK, 21 hub PCLK. -/
structure ClkSt where
  refStable : Bool
  xtalStable : Bool
  rootLock : Bool
  refSel : Bool
  srefSel : Bool
  dom : Vector DomSt 22
deriving DecidableEq, Repr

/-- Power (R428 to R434). `st` is the state code of R428; `trans`: the state whose entry is running (R429); `steps` the cap steps taken; `outOf` cores out of dispatch per
slice; `pfPhase`: 0 none, 1 sequence running, 2 done; `tripPend`: THERMTRIP_N falls when the sequence
ends. -/
structure PwrSt where
  st : Nat
  trans : Option Nat
  meas : List Nat
  below : Nat
  eSteps : Nat
  outOf : Vector Nat 16
  unmet : Bool
  thermLimit : Bool
  tempMax : Byte
  trip : Bool
  pfPhase : Nat
  tripPend : Bool
  pfMib : W16
  pfUs : W16
  pfAt : Nat
  porHeld : Bool
  lastTile : Nat
  lastDispatch : Nat
deriving DecidableEq, Repr

/-- A record of the blank (R402): its type, instance and payload. -/
structure Rec where
  typ : Nat
  inst : Nat
  data : Bytes
deriving DecidableEq, Repr

/-- Configuration flash and the blank (R400 to R408). A flash byte that nothing wrote reads 0xFF (log entry 6). `bstate`:
R418's code. -/
structure BlankSt where
  a : Sparse Byte
  b : Sparse Byte
  src : Nat
  seq : W32
  inUse : Bool
  validA : Bool
  validB : Bool
  causeA : Nat
  causeB : Nat
  staged : Bool
  stagedSeq : W32
  stageOff : Nat
  failRec : Nat
  failCause : Nat
  restartPending : Bool
  bstate : Nat
  live : List Rec
  digest : Bytes
deriving DecidableEq, Repr

/-- A reset or drain in progress (R426, R427). -/
structure DrainSt where
  cause : Byte
  since : Nat
deriving DecidableEq, Repr

/-- Start-up (R410 to R414). `running`: the steps that have begun and not ended. `warm`: this start-up follows a warm reset.
`wake`: the steps that lead out of SLEEP or
STANDBY-COLD run (R428). `wave`: the next core wave of step 6. `drain`: a warm
reset's drain (R426). -/
structure SuSt where
  step : Nat
  running : List Nat
  doneSteps : List Nat
  hosted : Bool
  failed : Bool
  failStep : Nat
  stopped : Bool
  cause : Byte
  warm : Bool
  wake : Bool
  service : Bool
  locked : Bool
  pllTries : Nat
  wave : Nat
  waveAt : Nat
  held : Bool
  waitRef : Bool
  drain : Option DrainSt
deriving DecidableEq, Repr

/-- A durable key slot in Heartwood NV (R344, R346): its state, key generation and the key (a free value's number). -/
structure KeySlot where
  st : Nat
  gen : W32
  key : Nat
deriving DecidableEq, Repr

/-- The service window (R361): state 0 CLOSED, 1 PENDING, 2 OPEN; start and end in ns of pool time. -/
structure SvcWin where
  st : Nat
  start : Nat
  stop : Nat
deriving DecidableEq, Repr

/-- Heartwood (R341 to R364): NV slots, counters, fuses, policy slot, tamper monitors and lid. `lid`: R359's code.
`nvWrites`: writes to the 26 primary slots (0 to 15 keys, 16 seed, 17 to 24 counters, 25 policy). -/
structure HwSt where
  serial : Bytes
  pufOk : Bool
  seed : Option Nat
  epoch : Nat
  cont : W32
  watchGap : Bool
  tamper : Byte
  pol : W32
  ownerDig : Bytes
  minSeq : W32
  keys : Vector KeySlot 16
  eph : Vector (Option Nat) 16
  ctr : Vector W32 8
  nvWrites : Vector Nat 26
  retired : Nat
  fuse : Nat
  eraseCnt : W32
  erasePending : Bool
  resetPending : Option Byte
  meshBad : Nat
  tempBad : Nat
  lid : Nat
  lidTimer : Option Nat
  lidA : Bool
  lidB : Bool
  prev : Option (Bool × Bool)
  discCnt : Nat
  latchA : Bool
  latchB : Bool
  win : SvcWin
  openRun : Nat
  afterWin : Bool
  kakEpoch : Nat
  secOpen : Bool
deriving DecidableEq, Repr

/-- A slice (R339): state code, tenant; what it becomes when its clearing ends; cleared since it was last in use; what the
metadata checkpoint records of it (R494). -/
structure Slice where
  st : Nat
  tenant : TenantId
  after : Option TenantId
  cleared : Bool
  ckSt : Nat
  ckTenant : TenantId
deriving DecidableEq, Repr

/-- A quarter (R419 Q_STAT, R427): state code; the drain in progress. -/
structure Quart where
  st : Nat
  drain : Option DrainSt
deriving DecidableEq, Repr

/-- Input pins as last sampled (R470 to R473). -/
structure PinsIn where
  carOwn : BitVec 8
  carPrsntN : BitVec 8
  pwrfailN : Bool
  head : Bool
  hosted : Bool
deriving DecidableEq, Repr

/-- Output lands, one field per group of R470 that the device drives by its own state. `txIdle`: links in electrical idle;
`flashHiZ`: carriers whose flash lands are at high impedance; `flashReset`: carriers whose lands hold their reset levels. -/
structure PinsOut where
  txIdle : BitVec 24
  ddrResetN : BitVec 16
  ddrPwrEn : BitVec 16
  carPwrEn : BitVec 8
  flashHiZ : BitVec 8
  flashReset : BitVec 8
  pairSeizeN : Bool
  thermtripN : Bool
  chainBypass : Bool
  cfgRstN : Bool
deriving DecidableEq, Repr

end Sys2Proof.Machine
end

