-- ==== Sys2Proof/Machine/StFab.lean ====
section
/-! DEFINITION. State groups of the fabric: links, virtual channels, the router and the shaper (spec 10, R287 to R319, R492;
11, R320 to R335). -/

namespace Sys2Proof.Machine

/-- A sequenced flit as first sent (R294, R299): its full sequence count, header without ACK and NAK, and MESSAGE. -/
structure TxFlit where
  n : Nat
  hdr : W64
  body : Bytes
deriving DecidableEq, Repr

/-- A flit waiting for a link output (R334): virtual channel, queue (0 to 7 service class, 8 transit), header bits, bytes, and
the link whose ingress buffer it still occupies. -/
structure WaitFlit where
  vc : Nat
  queue : Nat
  head : Bool
  tail : Bool
  abort : Bool
  body : Bytes
  hold : Option LinkId
deriving DecidableEq, Repr

/-- A packet whose head has arrived on an input VC and whose tail has not (R316): its bytes so far, where it goes (a link, 24
LOCAL, 31 nowhere), whether a flit has left, when its last flit came. -/
structure OpenPkt where
  src : W16
  tag : W16
  port : Nat
  left : Bool
  bytes : Bytes
  at_ : Nat
deriving DecidableEq, Repr

/-- A link (R295 to R307). Counts are full counts; SEQ and ACK are their low 12 bits. `keyN`, `keyU`: what the counts of this end's
direction were when it took its present key (R298). -/
structure LinkSt where
  st : Nat
  cause : Nat
  dir : Nat
  rate : Nat
  width : Nat
  laneOk : Nat
  lanes : Nat
  peerId : W16
  peerRank : W16
  peerDepth : List Nat
  trainRate : Nat
  since : Nat
  txN : Nat
  ackN : Nat
  txU : Nat
  rxN : Nat
  rxU : Nat
  advN : Nat
  firstAt : Option Nat
  nakAt : Option Nat
  buf : List TxFlit
  ackAt : Nat
  replays : Nat
  replayOf : Option (Nat × Nat)
  tagFails : List Nat
  sent : List Nat
  peerFreed : List Nat
  got : List Nat
  freed : List Nat
  freedSent : List Nat
  freedAt : Option Nat
  creditAt : Nat
  opens : List (Option OpenPkt)
  drop : List Bool
  txq : List WaitFlit
  rr : Nat
  drr : List (Nat × Nat)
  downAt : Option Nat
  txPhase : Bool
  rxPhase : Bool
  rekeyAt : Option Nat
  keyN : Nat
  keyU : Nat
  target : Option (Nat × Nat)
  disabling : Bool
deriving DecidableEq, Repr

/-- A link as it is in link reset (R295). -/
def LinkSt.init : LinkSt :=
  { st := 9, cause := 0, dir := 0, rate := 0, width := 0, laneOk := 0, lanes := 0, peerId := 0, peerRank := 0,
    peerDepth := [0, 0, 0, 0, 0, 0], trainRate := 0, since := 0, txN := 0, ackN := 0, txU := 0, rxN := 0, rxU := 0, advN := 0,
    firstAt := none, nakAt := none, buf := [], ackAt := 0, replays := 0, replayOf := none, tagFails := [],
    sent := [0, 0, 0, 0, 0, 0], peerFreed := [0, 0, 0, 0, 0, 0], got := [0, 0, 0, 0, 0, 0], freed := [0, 0, 0, 0, 0, 0],
    freedSent := [0, 0, 0, 0, 0, 0], freedAt := none, creditAt := 0, opens := [none, none, none, none, none, none],
    drop := [false, false, false, false, false, false], txq := [], rr := 5,
    drr := [(0, 0), (0, 0), (0, 0), (0, 0), (0, 0), (0, 0)], downAt := none, txPhase := false, rxPhase := false,
    rekeyAt := none, keyN := 0, keyU := 0, target := none, disabling := false }

/-- A token bucket (R323): the balance in units of 1/25,600 byte, in which the refill of one NCLK cycle is 16 × RATE exactly, and
when it was brought up to date. -/
structure Bucket where
  bal : Nat
  at_ : Nat
deriving DecidableEq, Repr

/-- A lease of another quarter (R325): its balance, when last used, whether a request for more is on its way and for what. -/
structure Lease where
  bal : Nat
  used : Nat
  asked : Option Nat
deriving DecidableEq, Repr

/-- A request whose admission waits for leased tokens (R325): its ingress link, counted length, when it arrived, on the monotonic count
and in pool time, and the buckets whose tokens it waits for. -/
structure AdmWait where
  op : Nat
  link : LinkId
  req : ReqMsg
  len : Nat
  since : Nat
  sincePt : Nat
  need : List Nat
deriving DecidableEq, Repr

/-- The shaper (R321 to R328). Buckets: 0 to 4,095 hosts, 4,096 + c classes, 4,104 + l ports. Leases: bucket × 4 + quarter.
The plate in force stands in the TGATE registers; `started`: it has reached its first cycle start; `next`: a pending plate and
its first cycle start (pool ns); `idx`: the entry last entered. -/
structure ShapeSt where
  buckets : Sparse Bucket
  leases : Sparse Lease
  waiting : List AdmWait
  started : Bool
  startAt : Nat
  next : Option (Bytes × Nat)
  idx : Nat
deriving DecidableEq, Repr

end Sys2Proof.Machine
end

