-- ==== Sys2Proof/Machine/StMem.lean ====
section
/-! DEFINITION. State groups of the pool: DRAM channels, tags and pinned extents (spec 03, R74 to R106), the flash tier (04, R107 to
R140, R491, R493), the directory and sharer slots (05, R141 to R173, R486), trackers (11, R329), translation (02, R43 to R73)
and regions (02, R56 to R70; 06, R174 to R200). -/

namespace Sys2Proof.Machine

/-! ### DRAM -/

/-- A DDR channel (R74 to R105). `st`: R101's code; `sets`: S of R78; `dirG`: granules of directory store in effect; `half`: the
refresh interval is halved (R90); `dirNext`: the granules that take effect once the old store is back-invalidated (R78); `pd`: ranks in
power-down (bit per rank); `ueAt`: when lines turned out uncorrectable (R95);
`scrub`: the Rasp's next channel line; `moved`: what an evacuation has still to do is tracked by the flash tier. -/
structure ChanSt where
  st : Nat
  kind : Nat
  ranks : Nat
  speed : Nat
  gib : Nat
  failStep : Nat
  hot : Bool
  degraded : Bool
  half : Bool
  dirG : Nat
  dirNext : Option Nat
  sets : Nat
  pd : Nat
  selfRef : Bool
  refAt : Nat
  ueAt : List Nat
  scrub : Nat
  force : Bool
  rep : Option TrainReport
deriving DecidableEq, Repr

/-- A channel right after reset: ABSENT, nothing known of its DIMMs. -/
def ChanSt.init : ChanSt :=
  { st := 0, kind := 0, ranks := 0, speed := 0, gib := 0, failStep := 0, hot := false, degraded := false, half := false,
    dirG := 0, dirNext := none, sets := 0, pd := 0, selfRef := false, refAt := 0, ueAt := [], scrub := 0, force := false, rep := none }

/-- A tag entry (R80). -/
structure Tag where
  v : Bool
  d : Bool
  e : Bool
  rd : Bool
  age : Nat
  block : Nat
deriving DecidableEq, Repr

/-- A pinned extent of a slice (R82): its first DPA block, the blocks of the range, the entries of its run on this slice, its size
in 16 MiB granules, and the region it belongs to (0: the flash map of R115). -/
structure Ext where
  b0 : Nat
  len : Nat
  run : Nat
  gran : Nat
  region : Nat
deriving DecidableEq, Repr

/-- A tag-cache way: the set it holds and whether it is modified (R81). -/
structure TcWay where
  set_ : Nat
  dirty : Bool
deriving DecidableEq, Repr

/-! ### Flash -/

/-- Where a dense page lies (R114, R116): carrier, the superblock's number, the page. -/
structure PLoc where
  carrier : Nat
  sb : Nat
  page : Nat
deriving DecidableEq, Repr

/-- A flash-map entry (R116): DENSE at a place, or LOST. UNWRITTEN entries are not listed. -/
inductive MapEnt where
  | dense (l : PLoc)
  | lost
deriving DecidableEq, Repr

/-- A data page (R113): its metadata, its bytes other than 0, and its poisoned lines. `typ`: 0 dense, 3 metadata, 4 pad. -/
structure Page where
  seq : Nat
  block : Nat
  region : Nat
  tenant : Nat
  keySlot : Nat
  typ : Nat
  cells : Sparse Byte
  poison : List Nat
deriving DecidableEq, Repr

/-- A superblock (R114, R130, R131): `use` 0 free, 1 open, 2 valid, 3 being erased; `kind` 0 dense, 2 journal, 3 metadata; its open
sequence, its next page, per carrier the erase count, the read count, and the carriers whose member still has to be erased.
`reloc`: R127, R130, R131 or R132 wants it moved; `bad`: the carriers whose member is retired once the contents are gone (R133). -/
structure Sb where
  use : Nat
  kind : Nat
  tenant : Nat
  seq : Nat
  next : Nat
  erases : List Nat
  reads : List Nat
  toErase : List Nat
  reloc : Bool
  bad : List Nat
deriving DecidableEq, Repr

/-- A superblock nothing has used. -/
def Sb.fresh : Sb := ⟨0, 0, 0, 0, 0, List.replicate 8 0, List.replicate 8 0, [], false, []⟩

/-- A journal record (R118): a line as it stands after the write, or the member state line of a reduction region (R186).
`live`: no dense copy covers it. -/
structure JRec where
  line : Nat
  region : Nat
  cells : Sparse Byte
  poison : Bool
  state : Option Bytes
  live : Bool
deriving DecidableEq, Repr

/-- A journal page (R118 to R121): its SEQ, records in order, when the first was added, whether it has closed, its place, the
carriers whose program has passed and those still awaited. -/
structure JPage where
  seq : Nat
  recs : List JRec
  since : Nat
  closed : Bool
  sb : Nat
  page : Nat
  passed : List Nat
  await : List Nat
deriving DecidableEq, Repr

/-- A journal stream of a quarter and a tenant (R118, R123): the next SEQ, and the pages from the reclaim point on. -/
structure Stream where
  next : Nat
  pages : List JPage
deriving DecidableEq, Repr

/-- Why a page is written into a dense stripe: a write-back, a copy of a valid page (collection, relocation, retirement). -/
inductive DWhy where
  | writeBack | copy (src : PLoc)
deriving DecidableEq, Repr

/-- A page of a dense stripe that is being written (R122), with the stream SEQs recorded at its snapshot (by quarter). -/
structure DPage where
  page : Page
  why : DWhy
  upTo : Nat
deriving DecidableEq, Repr

/-- A dense stripe (R122): at most one of a quarter and tenant is open. `okWait`: it has verified and its map changes wait for room
in the delta log (R126). -/
structure DStripe where
  q : Nat
  tenant : Nat
  sb : Nat
  page : Nat
  pages : List DPage
  since : Nat
  closed : Bool
  okWait : Bool
deriving DecidableEq, Repr

/-- A flash carrier (R108 to R111, R135 to R139). `desc`: its descriptor; `speeds`: of its four channels; `recSt`: the state recorded
with the checkpoint; `recLeft`: LEFT_SEQ recorded when it went OFFLINE; `wasFailed`: it passed through FAILED; `holdAt`: when CAR_OWN
fell; `doneSb`: superblocks opened up to this sequence stand on it while it rebuilds, and `wasUp`: those opened after this one;
`waiting`: it is to be attached without a command. -/
structure CarSt where
  st : Nat
  why : Nat
  worn : Bool
  desc : Bytes
  speeds : List Nat
  recSt : Nat
  recLeft : Nat
  wasFailed : Bool
  holdAt : Option Nat
  wasUp : Nat
  doneSb : Nat
  retired : Nat
  spares : Sparse Nat
  waiting : Bool
deriving DecidableEq, Repr

def CarSt.init : CarSt :=
  { st := 0, why := 0, worn := false, desc := [], speeds := [], recSt := 0, recLeft := 0, wasFailed := false, holdAt := none,
    wasUp := 0, doneSb := 0, retired := 0, spares := [], waiting := false }

/-- A checkpoint in progress (R126): of a slice's map (0 to 15) or a carrier's tables (16 to 23), and the log bytes it covers. -/
structure Ckpt where
  what : Nat
  covers : Nat
deriving DecidableEq, Repr

/-- The flash tier (R107 to R140). `geo`: the descriptor of the first carrier that completed discovery (R110), [] none.
`orderly`: an orderly-shutdown record stands (R131). `keyGens`, `keyEnv`, `epoch`: the key generations, the partner's
key envelopes (R346) and the pair epoch (R387) that the metadata checkpoint holds. -/
structure TierSt where
  cars : Vector CarSt 8
  geo : Bytes
  sbs : Sparse Sb
  pages : Sparse Page
  fmap : Sparse MapEnt
  sbSeq : Nat
  streams : Sparse Stream
  dense : List DStripe
  remirror : List (Nat × Nat × Nat)
  full : Bool
  logs : Vector Nat 24
  ckpts : List Ckpt
  gc : Option Nat
  wlAt : Vector Nat 8
  scrubAll : Bool
  orderly : Bool
  ckptPt : Nat
  fenceFirst : Option Nat
  opened : Bool
  keyGens : Vector W32 16
  keyEnv : Vector (Option Nat) 16
  epoch : W32
deriving DecidableEq, Repr

def TierSt.init : TierSt :=
  { cars := Vector.replicate 8 CarSt.init, geo := [], sbs := [], pages := [], fmap := [], sbSeq := 0, streams := [], dense := [],
    remirror := [], full := false, logs := Vector.replicate 24 0, ckpts := [], gc := none, wlAt := Vector.replicate 8 0,
    scrubAll := false, orderly := false, ckptPt := 0, fenceFirst := none, opened := false,
    keyGens := Vector.replicate 16 0, keyEnv := Vector.replicate 16 none, epoch := 0 }

/-! ### Directory, slots, trackers -/

/-- A directory entry (R150): state 0 I, 1 S, 2 O; `sharers` in ascending slot order. -/
structure DirEnt where
  st : Nat
  pred : Nat
  lru : Nat
  laV : Bool
  lastAtom : Nat
  tenant : TenantId
  region : Nat
  owner : Nat
  sharers : List Nat
deriving DecidableEq, Repr

/-- An open snoop (R157 to R160): the slot, when its timer expires, whether it is SNP_INV; whether the acknowledgement came with WB_PENDING and
whether the WB came. -/
structure Snp where
  slot : Nat
  at_ : Nat
  inv : Bool
  ackWb : Bool
  gotWb : Bool
deriving DecidableEq, Repr

/-- Who a request is of: a host; an internal agent's pool access (R208, R194, R265, R53) by its access number; a host's eviction
(R146); a directory victim, for the tracker that needs its way, or for an emptied store (R164, R166). -/
inductive Who where
  | host (entry : Nat)
  | acc (n : Nat)
  | wb (entry : Nat)
  | victim (forTrk : Option Nat)
deriving DecidableEq, Repr

/-- What a request waits for. -/
inductive Wait where
  | lock | snoop | fill | way | dirWay | limit | victim | chan | bypass | flush | space | deltaLog | journal | compute | ptab | ready
deriving DecidableEq, Repr

/-- A tracker (R146, R154, R329): number (quarter × 4,096 + n), what it serves, its line, what it waits for. `locked`: it holds its
line's lock, that of line `lk`. `data`: snoop data to write first; `poisoned`: an owner's snoop timed out. `jwait`: journal pages its answer waits
for, as (stream, SEQ). `ans`: the answer that then goes. `sentInv`: it sent SNP_INV to another slot (R170). `dirPh`: the directory action has not begun
(0), waits for snoops (1), is done (2); `near`: the atomic runs near (R169); `upg`: CMP_E answers (R155); `acks`: WB_ACKs to send
once the data is written (R158); `ptLine`: the SPA of the page-table line it was translated by (R54); `made`: its line's directory entry was made for it (R153). -/
structure Trk where
  id : Nat
  who : Who
  op : Nat
  r : ReqMsg
  slot : Option Nat
  lk : Nat
  dpa : Nat
  region : Nat
  tenant : TenantId
  slice : Nat
  locked : Bool
  wait : Wait
  snoops : List Snp
  data : Option Bytes
  poisoned : Bool
  dirPh : Nat
  near : Bool
  upg : Bool
  acks : List Msg
  ptLine : Nat
  made : Bool
  sentInv : Bool
  jwait : List (Nat × Nat)
  ans : Option Msg
deriving DecidableEq, Repr

/-- A request at its context home that waits for a page-table line (R53, R55): the access that fetches it. -/
structure XWait where
  acc : Nat
  who : Who
  op : Nat
  r : ReqMsg
deriving DecidableEq, Repr

/-- A fill of a block into a way of a set (R83, R117), whose flash read is outstanding; way 8: it waits for a way; way 9: a fetch
into the staging buffer of bypass (R103). -/
structure Fill where
  block : Nat
  slice : Nat
  set_ : Nat
  way : Nat
  region : Nat
deriving DecidableEq, Repr

/-- A flush of a slice's sharers (R167): slots that have not answered, and when it was sent. -/
structure Flush where
  slice : Nat
  tenant : TenantId
  slots : List Nat
  at_ : Nat
deriving DecidableEq, Repr

/-- A translation-cache entry (R53): its tag, the entry, and the SPA of the line it came from. -/
structure TcEnt where
  handle : W16
  seg : Nat
  page : Nat
  pte : Nat
  spaLine : Nat
deriving DecidableEq, Repr

/-- A slot's rejoin sweep (R163): tenant, slot, and the command it answers (none: the SLOT_CMD register of a quarter). -/
structure Sweep where
  tenant : TenantId
  slot : Nat
  reply : Option CmdHdr
  q : Nat
deriving DecidableEq, Repr

/-- The pool's trackers, directory and caches. `pend`: WB_ACKs that wait for journal pages (R168). -/
structure PoolSt where
  trks : List Trk
  xwaits : List XWait
  fills : List Fill
  dir : Sparse DirEnt
  dirc : Sparse (List Nat)
  slots : Sparse Nat
  flushes : List Flush
  sweeps : List Sweep
  tcache : Vector (List TcEnt) 4
  bypass : Vector (Option Nat) 16
  pend : List (List (Nat × Nat) × Msg)
deriving DecidableEq, Repr

def PoolSt.init : PoolSt :=
  { trks := [], xwaits := [], fills := [], dir := [], dirc := [], slots := [], flushes := [], sweeps := [],
    tcache := Vector.replicate 4 [], bypass := Vector.replicate 16 none, pend := [] }

/-! ### Contexts' records and regions -/

/-- The generation state of a reduction region at a member (R180 to R183): `accSat`, `accNan`: of the open generation so far;
`closed`: this member has closed it; `reported`: its report has gone. At the coordinator also: when the generation opened, the
reports as (member, incomplete RUs, flags), who closed it (0 nobody, 1 CLOSE_MS, 2 RED_CLOSE), and a completion under way: its
`phase` (0 none, 1 journalling, 2 invalidating, 3 telling the members), the journal pages it waits for, its generation and flags, the
members that have not acknowledged; `fired`: its trigger has been raised. -/
structure GenSt where
  st : Nat
  gOpen : Nat
  nOpen : Nat
  gDone : Nat
  doneValid : Bool
  incomplete : Bool
  sat : Bool
  nan : Bool
  nNext : Nat
  ruDone : Nat
  accSat : Bool
  accNan : Bool
  closed : Bool
  reported : Bool
  openAt : Nat
  reports : List (Nat × Nat × Nat)
  closeBy : Nat
  phase : Nat
  jw : List (Nat × Nat)
  cGen : Nat
  cFlags : Nat
  doneWait : List Nat
  fired : Bool
deriving DecidableEq, Repr

def GenSt.init : GenSt :=
  { st := 0, gOpen := 0, nOpen := 0, gDone := 0, doneValid := false, incomplete := false, sat := false, nan := false,
    nNext := 0, ruDone := 0, accSat := false, accNan := false, closed := false, reported := false, openAt := 0, reports := [],
    closeBy := 0, phase := 0, jw := [], cGen := 0, cFlags := 0, doneWait := [], fired := true }

/-- A region record (R59 to R66): state code, descriptor (R64), CONTENT_GEN (R196), the DPA of this device's shadow (R177, R197,
R396), generation state with its journalled copy, MAT_EPOCH, and the command that waits for a quiesce or a delete. -/
structure Region where
  st : Nat
  desc : Bytes
  cgen : Nat
  shadow : Nat
  shadowLen : Nat
  gen : GenSt
  genDur : GenSt
  matEpoch : Nat
  reply : Option CmdHdr
deriving DecidableEq, Repr

/-- The region table: records by number; numbers in the order they became free (R45). -/
structure RegionSt where
  tab : Sparse Region
  freed : List Nat
  stamps : Sparse Nat
deriving DecidableEq, Repr

end Sys2Proof.Machine
end

