-- ==== Sys2Proof/Machine/StObs.lean ====
section
/-! DEFINITION. State groups of observability: trace buffers, the shavings dump, debug unlock and tensor watches (spec 16, R456 to
R466). -/

namespace Sys2Proof.Machine

/-- A trace buffer (R456, R458): its frames, oldest first, and the bytes lost since the last LOST frame. -/
structure TraceBuf where
  frames : List Bytes
  lost : Nat
deriving DecidableEq, Repr

/-- A shavings dump (R459): its trigger and bytes. -/
structure Dump where
  trigger : Byte
  data : Bytes
deriving DecidableEq, Repr

/-- The debug nonce (R465): drawn at, bytes. -/
structure Nonce where
  since : Nat
  data : Bytes
deriving DecidableEq, Repr

/-- A tensor watch (R461): its program handle, number, tensor, kind, LO and HI, destination, slots, and the records written. -/
structure Watch where
  prog : Nat
  num : Nat
  tensor : Nat
  digest : Bool
  lo : W32
  hi : W32
  dest : Nat
  slots : Nat
  n : Nat
deriving DecidableEq, Repr

/-- Observability. `down`: sources that wrote a DOWN frame since they last ran. -/
structure ObsSt where
  hub : TraceBuf
  quart : Vector TraceBuf 4
  down : List Nat
  dump : Option Dump
  nonce : Option Nonce
  fails : Nat
  unlocked : Nat
  watches : List Watch
deriving DecidableEq, Repr

end Sys2Proof.Machine
end

