-- ==== Sys2Proof/Machine/StStack.lean ====
section
/-! DEFINITION. State groups of the stack: the spindle chain, the pair and its takeover or handover, the headstock's
transactions, and the job boundary (spec 13, R370 to R399; 14, R415). -/

namespace Sys2Proof.Machine

/-- The spindle chain (R373 to R377). `state`: 0 disabled, 1 enumerating, 2 joined, 3 BROKEN. `pos`: 0x3F none. -/
structure SpnSt where
  state : Nat
  pos : Nat
  members : Nat
  origin : Bool
  mismatch : Bool
  alarmOwn : Byte
  alarmSet : Byte
  alarmLast : Byte
  alarm : Byte
  sfn : Nat
  missed : Nat
  headPos : Nat
  originPos : Nat
  lastSf : Nat
  portAt : Option Nat
  mapSeq : W32
  map : List Byte
  epochs : Vector W32 16
deriving DecidableEq, Repr

/-- One path of the partner's heartbeats (R389): a good one in this slot, the last accepted ALIVE, the miss count, the fault. -/
structure HbPathSt where
  good : Bool
  last : Option Byte
  miss : Nat
  fault : Bool
deriving DecidableEq, Repr

/-- One epoch announcement (R394): its watcher, when it was first sent, whether it is acknowledged. -/
structure Announce where
  dest : W16
  since : Nat
  acked : Bool
deriving DecidableEq, Repr

/-- The pair (R383 to R398). `role`: R383's code. `stage`: the takeover or handover stages completed while it runs.
`window`: when the recovery window opened. `detected`: a partner failure was declared. -/
structure PairSt where
  role : Nat
  partnerRole : Nat
  partnerReady : Bool
  partnerHandback : Bool
  partnerKak : W32
  chain : HbPathSt
  link : HbPathSt
  alive : Byte
  hb : Bytes
  epoch : W32
  ready : Bool
  yielding : Bool
  handback : Bool
  detected : Bool
  stages : List Nat
  handing : Bool
  byCmd : Bool
  window : Option Nat
  announces : List Announce
  seize : Bool
  waitAt : Option Nat
  heldEpochs : Sparse W32
deriving DecidableEq, Repr

/-- The headstock role and its claim (R378). -/
structure HeadSt where
  head : Bool
  absentAt : Option Nat
  claimAt : Option Nat
  claimSent : Nat
  giveBack : Bool
deriving DecidableEq, Repr

/-- A record change the headstock is carrying through the stack (R379): its phase (0 PREPARE, 1 COMMIT, 2 ABORT, 3 held while a pair
is between epochs), the devices still to acknowledge with the XID and the number of sends of their message, and the command it
answers; `late`: the answer waits for the acknowledgements of COMMIT. -/
structure RecTx where
  id : Nat
  phase : Nat
  obj : Nat
  op : Nat
  number : Nat
  body : Bytes
  waits : List (W16 × W32 × Nat)
  since : Nat
  h : CmdHdr
  cmd : Nat
  reply : Bytes
  late : Bool
deriving DecidableEq, Repr

/-- A record prepared and not yet committed at this device (R379). -/
structure PendRec where
  xid : W32
  obj : Nat
  op : Nat
  number : Nat
  body : Bytes
deriving DecidableEq, Repr

/-- A COORD message this device sent (R381) and still expects to be acknowledged; `h`: the command it serves. -/
structure CoordTx where
  xid : W32
  subop : Nat
  dest : W16
  body : Bytes
  since : Nat
  h : Option CmdHdr
  region : Nat
deriving DecidableEq, Repr

/-- An acknowledgement this device sent (R381), kept to answer a repeat. -/
structure CoordAcked where
  src : W16
  xid : W32
  subop : Nat
  status : Byte
  body : Bytes
deriving DecidableEq, Repr

/-- Coordination (R381). `fwdOpen`: forwarded commands being executed; `loop`: messages this device sends to itself, not yet taken (an
acknowledgement, with its hint, where the first is some). -/
structure CoordSt where
  nextXid : W32
  acked : List CoordAcked
  fwdOpen : List (W16 × W32)
  recTx : List RecTx
  pend : List PendRec
  sent : List CoordTx
  loop : List (Option Nat × Bytes)
deriving DecidableEq, Repr

/-- The headstock's job boundary (R415): the command it answers, its phase (0 PREPARE, 1 COMMIT, 2 held while a pair is between epochs),
the devices still to answer with the XID and the number of sends of their message, when it was sent, the failing answer of the lowest
position, and whether LATE is to be reported. -/
structure JobHead where
  h : CmdHdr
  applyAt : Nat
  phase : Nat
  waits : List (W16 × W32 × Nat)
  since : Nat
  fail : Option (Byte × Nat)
  late : Bool
deriving DecidableEq, Repr

/-- The job boundary: at the headstock; and at this member, the pool time at which it applies, the COORD message that it then answers, and
whether that time had passed when it came. -/
structure JobSt where
  head : Option JobHead
  armed : Option Nat
  from_ : Option (W16 × W32)
  late : Bool
deriving DecidableEq, Repr

/-- A stack attestation the headstock is gathering (R382): next offset, the reports by position. -/
structure StackAtt where
  iss : Issuer
  seq : W32
  nonce : Bytes
  dest : Nat
  waits : List Nat
  reports : Sparse (Byte × Bytes)
deriving DecidableEq, Repr

/-- Mailbox commands in progress (source, SEQ, TAG of the MBX_CMD; R269); the replies kept for repeats (R267), newest first; BLK_PUTs sent
on to a member (member, OFFSET, the sender and its TAG; R409). -/
structure MbxSt where
  open_ : List (W16 × W32 × W16)
  replies : List (W16 × W32 × Bytes)
  puts : List (W16 × W32 × W16 × W16)
deriving DecidableEq, Repr

end Sys2Proof.Machine
end

