-- ==== Sys2Proof/Machine/StTask.lean ====
section
/-! DEFINITION. State groups of contexts, queues, tasks, programs and kernel cores (spec 02, R43 to R49; 07, R201 to R229; 08, R230
to R260; 09, R261 to R286) and of the pool accesses that the device's own agents make (R208, R265). -/

namespace Sys2Proof.Machine

/-- The last raise of a trigger (R189, R273). -/
structure Raise where
  count : W32
  gen : W32
  region : W16
  flags : Byte
deriving DecidableEq, Repr

/-- A context's record (R43 to R49, R272, R275): state code 0 FREE, 1 LIVE, 2 STOPPED, 3 DESTROYING; its 16 descriptors of 32
bytes; its triggers. -/
structure Ctx where
  st : Nat
  tenant : TenantId
  segs : List Bytes
  trigs : Sparse Raise
  reply : Option CmdHdr
deriving DecidableEq, Repr

/-- The context table: records by index, the incarnation of each index, the steering entry of each index (R32), indices in the
order they became free (R44). -/
structure CtxSt where
  tab : Sparse Ctx
  incs : Sparse Nat
  steer : Sparse Nat
  freed : List Nat
deriving DecidableEq, Repr

/-- A queue (R271, R272, R277, R278); the ring counts are cumulative. `held`: records waiting for room in the CQ; `reading`: an SQ
entry is being read. -/
structure Queue where
  st : Nat
  prio : Nat
  ordered : Bool
  notify : W16
  sqSpa : Nat
  sqSize : Nat
  cqSpa : Nat
  cqSize : Nat
  sqTail : W32
  sqHead : W32
  cqTail : W32
  cqHead : W32
  held : List Bytes
  full : Bool
  reading : Bool
deriving DecidableEq, Repr

/-- A task (R279 to R285): the context's index and the queue it is in, its descriptor and image, its state code, the operation
under way, whether that operation's last tile has completed, and what its record will say. `seq`: order of submission; `phase`: 0 until
the operation's outputs stand, then 1 + the number of watches that have run for it.
`genAt`: GEN_DONE at the start of a REDUCE.FINISH; `wrote`: regions it wrote. -/
structure Task where
  ctx : Nat
  queue : Nat
  tag : W32
  desc : Bytes
  image : Bytes
  prog : Option Nat
  st : Nat
  seq : Nat
  op : Nat
  begun : Bool
  lastSeen : Bool
  failing : Bool
  late : Bool
  status : Byte
  flags : Nat
  cause : Byte
  opIndex : W16
  startNs : W64
  endNs : W64
  genAt : Nat
  wrote : List Nat
  advancing : List Nat
  phase : Nat
  recDone : Bool
deriving DecidableEq, Repr

/-- A loaded program (R242, R274). -/
structure Prog where
  inc : Nat
  tenant : TenantId
  ctx : Nat
  image : Bytes
  workNeed : Nat
deriving DecidableEq, Repr

/-- What a core's tile belongs to: a task by its submission number, or a computed block (region, output block, MAT_EPOCH). -/
inductive TileOf where
  | task (seq : Nat)
  | block (region blk epoch : Nat)
deriving DecidableEq, Repr

/-- A kernel core (R225 to R228): state code, its tile, when it was dispatched or its reset began, and whether it has been cleared and its self-test runs. -/
structure CoreSt where
  st : Nat
  tile : Option TileOf
  since : Nat
  cleared : Bool
deriving DecidableEq, Repr

/-- Which agent of the device makes a pool access: a translation that misses (R53), a tensor watch of a task (R462), a computed block, a
command that reads by reference, a ring (submission entries read, completion records written), a task, the digests of a report. -/
inductive Agent where
  | xlat
  | watch (task : Nat)
  | block (region blk epoch : Nat)
  | cmd (n : Nat)
  | sq (queue : Nat)
  | task (seq : Nat)
  | digest
deriving DecidableEq, Repr

/-- A pool access of the device's own (R208): its number (the TAG it carries), agent, operation (R148, R184), handle, address as a
CA (or an SPA where `handle` is none), length or data. `st`: 0 at this device, 1 sent to another, 2 waiting for its hint, 3 done.
`status` and `res`: the answer. -/
structure Acc where
  n : Nat
  agent : Agent
  op : Nat
  handle : Option W16
  addr : Nat
  len : Nat
  data : Bytes
  st : Nat
  dest : W16
  dueAt : Nat
  status : Byte
  res : Bytes
deriving DecidableEq, Repr

/-- A command that waits for an argument it reads by reference, or for the outcome of its accesses (R265). -/
structure CmdWait where
  n : Nat
  cmd : Instr
deriving DecidableEq, Repr

/-- A computed block under way (R194, R195, R198): region, output block of this member, its DPA, the MAT_EPOCH it started at,
whether it has been restarted, its bytes once it is computed and has still to be stored, whether a core has taken it, whether that core has
reported it over. -/
structure Comp where
  region : Nat
  blk : Nat
  epoch : Nat
  restarted : Bool
  data : Bytes
  dispatched : Bool
  ended : Bool
  waiters : List Nat
deriving DecidableEq, Repr

/-- An attestation report under way (R365 to R367): the number of its command, the command, the nonce, where it goes, the regions still to
digest, the bytes read of the first of them, the digest entries that stand, the report up to its signature once all do, and whether it has
been signed and is being written. -/
structure Report where
  n : Nat
  h : CmdHdr
  nonce : Bytes
  dest : Nat
  regions : List W16
  cur : Bytes
  ents : Bytes
  body : Bytes
  signed : Bool
deriving DecidableEq, Repr

/-- Compute: tasks in order of submission, cores, accesses, commands that wait, the transfer buffer (R266) by byte. `rr`: per
tenant and priority, the queue served last (R284). `cancels`: cancels received since the last step (R283). -/
structure WorkSt where
  queues : Sparse Queue
  tasks : List Task
  taskSeq : Nat
  progs : Sparse Prog
  progIncs : Sparse Nat
  cores : Vector CoreSt 144
  accs : List Acc
  accSeq : Nat
  cmds : List CmdWait
  xfer : Sparse Byte
  comps : List Comp
  report : Option Report
  rr : Sparse Nat
  cancels : List (Nat × CmdHdr)
deriving DecidableEq, Repr

def WorkSt.init : WorkSt :=
  { queues := [], tasks := [], taskSeq := 0, progs := [], progIncs := [], cores := Vector.replicate 144 ⟨0, none, 0, false⟩,
    accs := [], accSeq := 0, cmds := [], xfer := [], comps := [], report := none, rr := [], cancels := [] }

end Sys2Proof.Machine
end

