-- ==== Sys2Proof/Machine/State.lean ====
section
/-! DEFINITION. The state of the block as plain data, the reasons a step could stop, and the state right after reset. -/

namespace Sys2Proof.Machine

/-- Reasons for a fault. No command of this block ends in one: every command of the table has an effect the spec gives. -/
inductive Fault where
deriving DecidableEq, Repr

/-- Reasons for a refusal. -/
inductive Refusal where
  /-- raised by `exec` for a command that has no meaning yet; safe: it stops where the device goes on -/
  | notModelled (mnemonic : String)
deriving DecidableEq, Repr

structure State where
  /-- commands waiting, first in, first out -/
  pending : List Instr
  /-- registers by `regKey`; an unlisted one holds its Reset value -/
  regs : Sparse W32
  /-- the 64-bit counters of QCNT (R448) -/
  cnt64 : Sparse W64
  /-- snapshots of the counters (R450) -/
  snap : Sparse W32
  snap64 : Sparse W64
  /-- the high half latched by a read of a low half (R15), with the address it answers for -/
  latch : Option (Nat × W32)
  /-- the I3C register address (R463) -/
  i3c : W32
  log : LogSt
  plog : PLogSt
  time : TimeSt
  clk : ClkSt
  pwr : PwrSt
  blank : BlankSt
  su : SuSt
  hw : HwSt
  slices : Vector Slice 16
  quarts : Vector Quart 4
  pin : PinsIn
  lands : PinsOut
  links : Vector LinkSt 24
  /-- the MEMBER bit of each alive index (R311, R372) -/
  alive : Sparse Nat
  shp : ShapeSt
  spn : SpnSt
  pair : PairSt
  head : HeadSt
  coord : CoordSt
  job : JobSt
  satt : Option StackAtt
  mbx : MbxSt
  obs : ObsSt
  /-- the bytes of pool memory that stand in DRAM, by DPA (a list of cells: addresses strictly rising, none 0); an unlisted byte
  reads 0 (R63) -/
  mem : List Host.Cell
  /-- the lines of DRAM that hold the poison marker (R96), by DPA / 128, in ascending order -/
  poison : List Nat
  /-- bits of stored lines that are upset, as 176 symbols (R91 to R94), by channel × 2^41 + channel line -/
  upsets : Sparse Bytes
  chans : Vector ChanSt 16
  /-- tag sets by slice × 2^32 + set (R80); an unlisted set is invalid -/
  tags : Sparse (List Tag)
  /-- tag-cache ways by slice × 2,048 + set, most recently used first (R81) -/
  tagc : Sparse (List TcWay)
  pins : Vector (List Ext) 16
  tier : TierSt
  pool : PoolSt
  rgn : RegionSt
  ctx : CtxSt
  work : WorkSt
  /-- what left the device, oldest first -/
  out : List Out
  /-- the number of free values drawn so far: the model's own field (log entry 1) -/
  free : Nat
deriving DecidableEq, Repr

/-- The state right after reset: power-on reset has just been released, start-up step 1 has not ended, every register holds its
Reset value, every NV and monitor-domain item is as on a device never used (log entry 4). -/
def State.reset : State :=
  { pending := []
    regs := []
    cnt64 := []
    snap := []
    snap64 := []
    latch := none
    i3c := 0
    log := ⟨[], 0, 0, [], [], none, 0⟩
    plog := ⟨[], 0⟩
    time := { nclk := 0, pt := 0, src := 0, holdAt := none, lastSync := 0, slew := 0, xch := none, diverge := false,
              ptpLocked := false, rtc := 0, rtcValid := false, dateInvalid := false, utc := 0, stDate := 0x07D00101#32,
              stTime := 0, stamps := [] }
    clk := { refStable := false, xtalStable := false, rootLock := false, refSel := false, srefSel := false,
             dom := Vector.replicate 22 ⟨0, 0, 0⟩ }
    pwr := { st := 0, trans := none, meas := [], below := 0, eSteps := 0, outOf := Vector.replicate 16 0, unmet := false,
             thermLimit := false, tempMax := 0, trip := false, pfPhase := 0, tripPend := false, pfMib := 0, pfUs := 0,
             pfAt := 0, porHeld := false, lastTile := 0, lastDispatch := 0 }
    blank := { a := [], b := [], src := 0, seq := 0, inUse := false, validA := false, validB := false, causeA := 0,
               causeB := 0, staged := false, stagedSeq := 0, stageOff := 0, failRec := 0, failCause := 0,
               restartPending := false, bstate := 0, live := [], digest := [] }
    su := { step := 0, running := [1], doneSteps := [], hosted := false, failed := false, failStep := 0, stopped := false,
            cause := 0, warm := false, wake := false, service := false, locked := false, pllTries := 0, wave := 0, waveAt := 0,
            held := false, waitRef := false, drain := none }
    hw := { serial := zeros 16, pufOk := true, seed := none, epoch := 0, cont := 0, watchGap := false, tamper := 0,
            pol := 0x000502A4#32, ownerDig := zeros 48, minSeq := 0, keys := Vector.replicate 16 ⟨0, 0, 0⟩,
            eph := Vector.replicate 16 none, ctr := Vector.replicate 8 0, nvWrites := Vector.replicate 26 0, retired := 0,
            fuse := 0, eraseCnt := 0, erasePending := false, resetPending := none,
            meshBad := 0, tempBad := 0, lid := 0, lidTimer := none, lidA := false, lidB := false, prev := none, discCnt := 0,
            latchA := false, latchB := false, win := ⟨0, 0, 0⟩, openRun := 0, afterWin := false, kakEpoch := 0, secOpen := false }
    slices := Vector.replicate 16 ⟨0, 0, none, true, 0, 0⟩
    quarts := Vector.replicate 4 ⟨0, none⟩
    pin := { carOwn := 0, carPrsntN := 0xFF#8, pwrfailN := true, head := false,
             hosted := false }
    lands := { txIdle := 0xFFFFFF#24, ddrResetN := 0, ddrPwrEn := 0, carPwrEn := 0, flashHiZ := 0xFF#8, flashReset := 0xFF#8,
               pairSeizeN := true, thermtripN := true, chainBypass := true, cfgRstN := true }
    links := Vector.replicate 24 LinkSt.init
    alive := []
    shp := ⟨[], [], [], false, 0, none, 0⟩
    spn := { state := 0, pos := 0x3F, members := 0, origin := false, mismatch := false, alarmOwn := 0, alarmSet := 0,
             alarmLast := 0, alarm := 0, sfn := 0, missed := 0, headPos := 0, originPos := 0, lastSf := 0, portAt := none, mapSeq := 0,
             map := [], epochs := Vector.replicate 16 0 }
    pair := { role := 0, partnerRole := 0, partnerReady := false, partnerHandback := false, partnerKak := 0,
              chain := ⟨false, none, 0, false⟩, link := ⟨false, none, 0, false⟩, alive := 0, hb := [], epoch := 0, ready := false,
              yielding := false, handback := false, detected := false, stages := [], handing := false, byCmd := false,
              window := none, announces := [], seize := false, waitAt := none, heldEpochs := [] }
    head := ⟨false, none, none, 0, false⟩
    coord := ⟨0, [], [], [], [], [], []⟩
    job := ⟨none, none, none, false⟩
    satt := none
    mbx := ⟨[], [], []⟩
    obs := { hub := ⟨[], 0⟩, quart := Vector.replicate 4 ⟨[], 0⟩, down := [], dump := none, nonce := none, fails := 0,
             unlocked := 0, watches := [] }
    mem := []
    poison := []
    upsets := []
    chans := Vector.replicate 16 ChanSt.init
    tags := []
    tagc := []
    pins := Vector.replicate 16 []
    tier := TierSt.init
    pool := PoolSt.init
    rgn := ⟨[], [], []⟩
    ctx := ⟨[], [], [], []⟩
    work := WorkSt.init
    out := []
    free := 0 }

end Sys2Proof.Machine
end

