-- ==== Sys2Proof/Machine/Ops.lean ====
section
/-! DEFINITION. The named operations over the state that every family uses: register access (R15, R16), counters (R446, R448),
the monotonic count and pool time (R435, R438), the event log (R452, R453, R463, R485), the persistent log (R455), records
of the blank (R406), command results (R490), and what leaves the device. -/

namespace Sys2Proof.Machine

/-! Status codes of R18. -/
def stOK : Byte := 0x00
def stRETRY_BUSY : Byte := 0x01
def stPOLICED : Byte := 0x02
def stSTATE_CONFLICT : Byte := 0x03
def stNO_ACCESS : Byte := 0x04
def stPOISON : Byte := 0x05
def stFATAL_REGION : Byte := 0x06
def stSTALE_GENERATION : Byte := 0x07
def stDUPLICATE : Byte := 0x08
def stTRUNCATED : Byte := 0x09
def stEPOCH_CHANGED : Byte := 0x0A
def stCOUNTER_EXHAUSTED : Byte := 0x0B
def stUNSUPPORTED : Byte := 0x0C
def stBAD_DESCRIPTOR : Byte := 0x0D
def stLATE : Byte := 0x0E
def stDATE_INVALID : Byte := 0x0F

/-! Durations in NCLK cycles (R37: 1.6 GHz). -/
def usec (n : Nat) : Nat := 1600 * n
def msec (n : Nat) : Nat := 1600000 * n
def secs (n : Nat) : Nat := 1600000000 * n
/-- The least whole number of NCLK cycles that is at least `n` ns. -/
def nsec (n : Nat) : Nat := cdiv (8 * n) 5

/-- What leaves the device is recorded in order. -/
def emit (o : Out) (s : State) : State := { s with out := s.out ++ [o] }

/-- The next free value's number; the counter advances. -/
def draw (s : State) : Nat × State := (s.free, { s with free := s.free + 1 })

/-- `n` random bytes, from fresh draws. -/
def randomBytes : Nat → State → Bytes × State
  | 0, s => ([], s)
  | n + 1, s =>
    let (k, s) := draw s
    let (r, s) := randomBytes n s
    (byte (Config.random k).toNat :: r, s)

/-! ### Numbered units (R25) -/

def State.link (s : State) (l : LinkId) : LinkSt := s.links[l]
def State.chan (s : State) (c : ChanId) : ChanSt := s.chans[c]
/-- The pinned extents of a channel (R79). -/
def State.exts (s : State) (c : ChanId) : List Ext := s.pins[c]
def State.car (s : State) (c : CarrierId) : CarSt := s.tier.cars[c]
def State.slice (s : State) (i : SliceId) : Slice := s.slices[i]
def State.quart (s : State) (q : Quarter) : Quart := s.quarts[q]
def State.core (s : State) (k : CoreId) : CoreSt := s.work.cores[k]
/-- The key slot of a tenant, and a monotonic counter (R344, R363). -/
def State.key (s : State) (t : TenantId) : KeySlot := s.hw.keys[t]
def State.counter (s : State) (i : Fin 8) : W32 := s.hw.ctr[i]

/-! ### Registers -/

/-- The key a register's element has in the register tables. -/
def regKey (r : Reg) (u : Nat) : Nat := r.ctorIdx * 65536 + u

/-- What a register's element holds. -/
def State.reg (s : State) (r : Reg) (u : Nat := 0) : W32 := s.regs.get (w32 r.info.rst) (regKey r u)

/-- A register's element set to `v`. -/
def State.setReg (s : State) (r : Reg) (u : Nat) (v : W32) : State :=
  { s with regs := s.regs.put (w32 r.info.rst) (regKey r u) v }

/-- Bits hi:lo of a register's element. -/
def State.rfld (s : State) (r : Reg) (u hi lo : Nat) : Nat := fld (s.reg r u) hi lo

/-- Bits hi:lo of a register's element set. -/
def State.setFld (s : State) (r : Reg) (u hi lo x : Nat) : State :=
  s.setReg r u (w32 (setBits (s.reg r u).toNat hi lo x))

/-- The command-result register of a unit: BUSY, STATE and STATUS (R490 and the register tables). -/
def State.result (s : State) (r : Reg) (u : Nat) (status : Byte) (state : Nat := 0) : State :=
  s.setReg r u (w32 (state % 16 * 256 + status.toNat))

/-- A command begins: BUSY reads 1. -/
def State.busy (s : State) (r : Reg) (u : Nat) : State := s.setReg r u (w32 0x80000000)

def State.isBusy (s : State) (r : Reg) (u : Nat) : Bool := s.rfld r u 31 31 = 1

/-! ### Records of the blank in force -/

/-- A record's payload; empty if there is none. -/
def State.recOf (s : State) (typ : Nat) (inst : Nat := 0) : Bytes :=
  ((s.blank.live.find? fun r => r.typ = typ && r.inst = inst).map Rec.data).getD []

def State.hasRec (s : State) (typ : Nat) (inst : Nat := 0) : Bool :=
  s.blank.live.any fun r => r.typ = typ && r.inst = inst

def State.policy (s : State) : Bytes := s.recOf 6
def State.cntPerm (s : State) : Nat := leAt s.policy 0x0C 4
def State.tracePerm (s : State) : Nat := leAt s.policy 0x10 4
def State.stackRec (s : State) : Bytes := s.recOf 7

/-! FEATURES (R13). -/
def State.features (s : State) : W32 := s.reg .FEATURES
def State.kcoreEn (s : State) : Bool := bit s.features.toNat 3
def State.flashEn (s : State) : Bool := bit s.features.toNat 6
def State.eclkMax (s : State) : Nat := fld s.features 5 4

/-- Is link l enabled by LINK_SET (R4, R10)? Code 0b001: the first three links of each quarter. -/
def State.linkEnabled (s : State) (l : Nat) : Bool :=
  match fld s.features 2 0 with
  | 1 => l % 6 ≤ 2
  | 2 => true
  | _ => false

/-! ### Counters -/

/-- The tenant of an assigned slice. -/
def State.sliceTenant (s : State) (sl : Nat) : Option TenantId :=
  if h : sl < 16 then
    let x := s.slice ⟨sl, h⟩
    if x.st = 1 then some x.tenant else none
  else none

/-- The slice whose tenant's bit governs a counter, if it is a slice counter (R446). -/
def sliceOfCounter (r : Reg) (u : Nat) : Option Nat :=
  match r with
  | .DDR_RD_BYTES | .DDR_WR_BYTES | .TAGC_HIT | .TAGC_MISS | .DIR_HIT | .DIR_MISS | .DIR_VICTIM_CNT => some u
  | .ENG_OPS | .WHT_FLOPS | .SPAD_RD_BYTES | .SPAD_WR_BYTES | .DMA_IN_BYTES | .DMA_OUT_BYTES => some (u / 9)
  | _ => none

/-- Does the counter count now (R446)? -/
def State.counts (s : State) (r : Reg) (u : Nat) : Bool :=
  let en := s.cntPerm &&& (s.reg .CNT_CTL).toNat
  match sliceOfCounter r u with
  | some sl =>
    match s.sliceTenant sl with
    | some t => en.testBit t
    | none => false
  | none => en.testBit 16

/-- A counter rises by `n`, where it counts, and saturates (R446, R448, R467). -/
def State.count (s : State) (r : Reg) (u : Nat := 0) (n : Nat := 1) : State :=
  if s.counts r u then
    if r.info.blk = .QCNT then
      { s with cnt64 := s.cnt64.put 0 (regKey r u) (w64 (satAdd 64 (s.cnt64.get 0 (regKey r u)).toNat n)) }
    else s.setReg r u (w32 (satAdd 32 (s.reg r u).toNat n))
  else s

/-! ### Time -/

/-- Pool time in ns; meaningful while it is valid. -/
def State.ptNs (s : State) : Nat := s.time.pt / 8

def State.ptValid (s : State) : Bool := s.time.src ≠ 0

/-- Pool time as a 64-bit field: 0 while it is not valid. -/
def State.ptField (s : State) : W64 := if s.ptValid then w64 s.ptNs else 0

/-- How far a slew of at most 100 ppm carries pool time in `d` eighths of a nanosecond (R438). -/
def slewPart (slew : Int) (d : Nat) : Int :=
  let m : Int := d / 10000
  max (-m) (min m slew)

/-- The monotonic count runs on by `n` NCLK cycles; pool time and the RTC with it. -/
def elapse (n : Nat) (s : State) : State :=
  let t := s.time
  let k := slewPart t.slew (5 * n)
  { s with time := { t with nclk := t.nclk + n, pt := ((t.pt : Int) + 5 * n + k).toNat, slew := t.slew - k,
                            rtc := t.rtc + n } }

/-- The clock is moved on to the monotonic time `d`, if that is ahead. -/
def advanceTo (d : Nat) (s : State) : State := if s.time.nclk < d then elapse (d - s.time.nclk) s else s

/-- A periodic activity numbered `k` runs: its next instant is one period after its last, or now if that has passed. -/
def pace (k period : Nat) (s : State) : State :=
  let s := advanceTo (s.time.stamps.get 0 k + period) s
  { s with time := { s.time with stamps := s.time.stamps.put 0 k s.time.nclk } }

/-- A timer numbered `k` is set to expire at the monotonic time `d`. -/
def setTimer (k d : Nat) (s : State) : State :=
  { s with time := { s.time with stamps := s.time.stamps.put 0 k d } }

/-! ### The event log -/

/-- Kinds of event, with the severity each fixes (R452). -/
inductive EvKind where
  | state | fault | refused | threshold | dataLoss | protocol | security | timeout | suppressed
deriving DecidableEq, Repr

def EvKind.code : EvKind → Nat
  | .state => 0 | .fault => 1 | .refused => 2 | .threshold => 3 | .dataLoss => 4 | .protocol => 5 | .security => 6
  | .timeout => 7 | .suppressed => 8

def EvKind.sev : EvKind → Nat
  | .state => 0 | .fault => 2 | .refused => 0 | .threshold => 1 | .dataLoss => 2 | .protocol => 1 | .security => 3
  | .timeout => 2 | .suppressed => 1

/-- What a rule gives of an entry; TIME and SEQ are the log's own. -/
structure Ev where
  cls : Nat
  kind : EvKind
  unit : Nat
  cause : Nat := 0
  status : Byte := 0
  state : Nat := 0
  tenant : Nat := 0xFF
  data : Bytes := []

/-- The 32 bytes of an entry (R452). -/
def EvEntry.bytes (e : EvEntry) : Bytes :=
  toLe 8 e.time.toNat ++ toLe 4 e.seq.toNat ++ [e.cls, e.kind, e.cause, e.status, e.state, e.tenant] ++
    toLe 2 e.unit.toNat ++ padTo 12 e.data

/-- One datagram of an export stream (R464): 1 trace, 2 shavings, 3 events. Nothing is sent to 0.0.0.0. -/
def sendUdp (stream : Nat) (body : Bytes) (s : State) : State :=
  if s.reg .EXP_DEST_IP = 0 then s
  else
    let hdr := [byte stream, 0, 0, 0] ++ toLe 4 s.log.expSeq
    emit (.udp (s.reg .EXP_DEST_IP) (w16 (s.rfld .EXP_DEST_PORT 0 15 0)) (hdr ++ body))
      { s with log := { s.log with expSeq := s.log.expSeq + 1 } }

/-- An entry is written: the oldest of 4,096 is overwritten; an in-band interrupt follows where R463 calls for it, and the
entry is exported where EVT_CFG.EXPORT is 1. -/
def putEv (e : Ev) (s : State) : State :=
  let entry : EvEntry :=
    { time := s.ptField, seq := s.log.head, cls := byte e.cls, kind := byte (e.kind.code + 16 * e.kind.sev),
      cause := byte e.cause, status := e.status, state := byte e.state, tenant := byte e.tenant,
      unit := w16 e.unit, data := padTo 12 e.data }
  let full := 4096 ≤ s.log.ring.length
  let s := { s with log := { s.log with ring := entry :: s.log.ring.take 4095, head := s.log.head + 1 } }
  let s := if full then s.count .EVT_OVERWRITE else s
  let due := match s.log.ibiAt with | some t => t + msec 1 ≤ s.time.nclk | none => true
  let s := if s.rfld .EVT_CFG 0 1 0 ≤ e.kind.sev && due then
      emit (.ibi (byte e.cls)) { s with log := { s.log with ibiAt := some s.time.nclk } }
    else s
  if s.rfld .EVT_CFG 0 8 8 = 1 then sendUdp 3 entry.bytes s else s

/-- A new second of the monotonic count: one SUPPRESSED entry for each class that dropped entries (R453). -/
def rollSecond (s : State) : State :=
  let now := s.time.nclk / secs 1
  if s.log.sec = now then s
  else
    let drops := s.log.drop
    let s := { s with log := { s.log with sec := now, rate := [], drop := [] } }
    drops.foldl (fun s d => putEv ⟨d.1, .suppressed, 0, 0, 0, 0, 0xFF, toLe 4 d.2⟩ s) s

/-- A rule calls for an entry: at most 256 per class and second, severity 3 never dropped (R452, R453). Nothing is recorded
while the hub is held in reset. -/
def logEv (e : Ev) (s : State) : State :=
  if s.su.held then s
  else
    let s := rollSecond s
    let n := s.log.rate.get 0 e.cls
    if n < 256 ∨ e.kind.sev = 3 then
      putEv e { s with log := { s.log with rate := s.log.rate.put 0 e.cls (n + 1) } }
    else
      ({ s with log := { s.log with drop := s.log.drop.put 0 e.cls (s.log.drop.get 0 e.cls + 1) } }).count .EVT_SUPP e.cls

/-! ### The persistent log -/

/-- A persistent-log entry (R455): the ring keeps 64. -/
def plogEv (kind detail : Nat) (data : Nat) (s : State) : State :=
  let e : PEntry :=
    { rtc := if s.time.rtcValid then s.time.rtc / secs 1 else 0, kind := byte kind, detail := byte detail,
      epoch := byte s.hw.epoch, data := w32 data, seq := s.plog.head }
  { s with plog := { ring := e :: s.plog.ring.take 63, head := s.plog.head + 1 } }

/-- The 16 bytes of a persistent-log entry. -/
def PEntry.bytes (e : PEntry) : Bytes :=
  let b := toLe 5 e.rtc ++ [e.kind, e.detail, e.epoch] ++ toLe 4 e.data.toNat ++ toLe 2 e.seq.toNat
  b ++ toLe 2 (crc16 b)

/-! ### Command registers -/

/-- A write to a command register while its unit is BUSY (R490): ignored, with one entry. -/
def refusedBusy (cls unit cmd state : Nat) (s : State) : State := logEv ⟨cls, .refused, unit, cmd, 0, state, 0xFF, []⟩ s

/-- A register command answered STATE_CONFLICT (R19): the state code, no side effect, one entry. -/
def conflict (r : Reg) (u cls unit code : Nat) (s : State) : State :=
  (logEv ⟨cls, .refused, unit, 0, stSTATE_CONFLICT, code, 0xFF, []⟩ s).result r u stSTATE_CONFLICT code

/-- A register command refused with another status: one entry of kind REFUSED where the rule calls for one is the caller's. -/
def answered (r : Reg) (u : Nat) (st : Byte) (s : State) : State := s.result r u st

/-- Apply `f` over a list, in order. -/
def eachOf {α : Type} (l : List α) (f : α → State → State) (s : State) : State := l.foldl (fun s a => f a s) s

/-- `f` where the condition holds. -/
def when (c : Bool) (f : State → State) (s : State) : State := if c then f s else s

end Sys2Proof.Machine
end

