-- ==== Sys2Proof/Machine/Route.lean ====
section
/-! DEFINITION. Messages and routing: the header of R147, load level and back-off hint (R330, R331), the route table (R309 to
R315), and the sending of flits with sequence numbers, replay buffer and credits (R292, R299, R307, R334). -/

namespace Sys2Proof.Machine

def MClass.num : MClass → Nat
  | .req => 0 | .snp => 1 | .rsp => 2 | .wb => 3 | .dat => 4 | .mgt => 5

def MClass.ofNum : Nat → Option MClass
  | 0 => some .req | 1 => some .snp | 2 => some .rsp | 3 => some .wb | 4 => some .dat | 5 => some .mgt
  | _ => none

/-- The bytes of a message: the 32-byte header of R147, then the payload. `flags`: byte 1. -/
def Msg.enc (m : Msg) : Bytes :=
  [byte (m.cls.num * 32 + m.op % 32), byte m.flags] ++ toLe 2 m.src.toNat ++ toLe 2 m.dst.toNat ++ toLe 2 m.tag.toNat ++
    toLe 2 m.handle.toNat ++ [byte m.len, m.status] ++ toLe 2 (m.load % 16 * 4096 + m.hint % 4096) ++ zeros 2 ++
    toLe 8 m.addr ++ zeros 8 ++ m.payload

/-- The message a packet's bytes spell; none for a reserved class. -/
def Msg.dec (b : Bytes) : Option Msg :=
  match MClass.ofNum (leAt b 0 1 / 32) with
  | none => none
  | some c =>
    some { cls := c, op := leAt b 0 1 % 32, flags := leAt b 1 1, src := w16 (leAt b 2 2), dst := w16 (leAt b 4 2),
           tag := w16 (leAt b 6 2), handle := w16 (leAt b 8 2), len := leAt b 10 1, status := byte (leAt b 11 1),
           load := leAt b 12 2 / 4096, hint := leAt b 12 2 % 4096, addr := leAt b 16 8, payload := b.drop 32 }

/-- Do the reserved parts of the header hold something (R147, R486 check 2)? -/
def hdrReserved (b : Bytes) : Bool := leAt b 1 1 / 16 ≠ 0 || leAt b 14 2 ≠ 0 || leAt b 24 8 ≠ 0

/-- A wait in eighths of a nanosecond as a 12-bit hint: the smallest unit whose count holds it, rounded up (R331). -/
def hint8 (w : Nat) : Nat :=
  if cdiv w 80 ≤ 1023 then cdiv w 80
  else if cdiv w 8000 ≤ 1023 then 0x400 + cdiv w 8000
  else if cdiv w 800000 ≤ 1023 then 0x800 + cdiv w 800000
  else if cdiv w 80000000 ≤ 1023 then 0xC00 + cdiv w 80000000
  else 0xFFF

/-- A wait in ns as a hint. -/
def hintNs (n : Nat) : Nat := hint8 (8 * n)

/-- The wait a hint stands for, in ns (R331). -/
def hintWait (h : Nat) : Nat :=
  h % 1024 * (match h / 1024 with | 0 => 10 | 1 => 1000 | 2 => 100000 | _ => 10000000)

/-! ### The route table -/

def State.routeRec (s : State) : Bytes := s.recOf 12
def State.rank (s : State) : Nat := leAt s.routeRec 4 2
def State.nAlive (s : State) : Nat := leAt s.routeRec 6 2
def State.tableOff (s : State) : Nat := 16 * cdiv (8 + 2 * s.nAlive) 16
/-- The route entry of a destination (R310). -/
def State.route (s : State) (d : Nat) : Nat := leAt s.routeRec (s.tableOff + 8 * d) 8

/-- Is a port live (R311): LOCAL, or a link in ACTIVE or RETRAIN that no LINK_DISABLE has taken from route selection? -/
def State.portLive (s : State) (p : Nat) : Bool :=
  if h : p < 24 then
    let l := s.link ⟨p, h⟩
    (l.st = 5 || l.st = 6) && !l.disabling
  else p = 24

/-- The port a packet takes: the first live one of its set (R309, R311); `down`: it arrived on an UP link. -/
def State.pickPort (s : State) (d : Nat) (down : Bool) : Option Nat :=
  let e := s.route d
  let kind := bits e 63 62
  if kind = 1 ∨ kind = 2 then
    let member := if kind = 2 then s.alive.get 0 (bits e 61 49) else 0
    let base := if member = 0 then 20 else 0
    let (hi, lo) := if down then (bits e (base + 9) (base + 5), bits e (base + 4) base)
      else (bits e (base + 19) (base + 15), bits e (base + 14) (base + 10))
    if s.portLive hi then some hi else if s.portLive lo then some lo else none
  else none

/-! ### This device's fabric IDs (R371) -/

def State.stackId (s : State) : Nat := leAt s.stackRec 0 2
def State.myId (s : State) : W16 := w16 (s.stackId * 64 + s.spn.pos)
def State.myAlias (s : State) : W16 := w16 (s.stackId * 64 + 0x20 + s.spn.pos / 2)
def State.idOf (s : State) (pos : Nat) : W16 := w16 (s.stackId * 64 + pos)

/-- Is an ID that of a device of this stack (R371)? -/
def State.isDevice (s : State) (id : W16) : Bool := id.toNat / 64 = s.stackId && id.toNat % 64 < 0x20

/-! ### Flits out -/

/-- One link changed. -/
def State.updLink (s : State) (l : LinkId) (f : LinkSt → LinkSt) : State := { s with links := upd s.links l f }

/-- The header word of a flit (R292). -/
def flitHdr (ftype seq ack : Nat) (nak phase : Bool) (vc : Nat) (head tail : Bool) (mlen : Nat) : W64 :=
  w64 (ftype * 2 ^ 60 + seq % 4096 * 2 ^ 48 + ack % 4096 * 2 ^ 36 + b2n nak * 2 ^ 35 + b2n phase * 2 ^ 34 +
    vc * 2 ^ 31 + b2n head * 2 ^ 30 + b2n tail * 2 ^ 29 + mlen * 2 ^ 21)

/-- An unsequenced flit: 0 NULL, 2 CREDIT. It carries the advertised ACK. -/
def sendUnseq (l : LinkId) (ftype : Nat) (nak : Bool) (body : Bytes) (s : State) : State :=
  let k := s.link l
  let ack := if nak then k.rxN else k.advN
  emit (.flit l (flitHdr ftype 0 ack nak k.txPhase 0 false false 0) (padTo 224 body))
    (s.updLink l fun k => { k with txU := k.txU + 1 })

/-- A sequenced flit leaves for the first time and enters the replay buffer (R294, R299, R448). -/
def sendSeq (l : LinkId) (ftype vc : Nat) (head tail : Bool) (body : Bytes) (s : State) : State :=
  let k := s.link l
  let mlen := if ftype = 1 then body.length - 1 else 0
  let h := flitHdr ftype k.txN k.advN false k.txPhase vc head tail mlen
  let s := s.updLink l fun k =>
    { k with txN := k.txN + 1, buf := k.buf ++ [⟨k.txN, h, body⟩],
             ackAt := if k.buf = [] then s.time.nclk else k.ackAt }
  let s := emit (.flit l h body) s
  let s := s.count .LNK_TX_FLITS l.val
  if ftype = 1 then s.count .LNK_TX_BYTES l.val body.length else s

/-- Flits of an input VC leave its buffer: FREED rises, and a CREDIT flit follows once a count has advanced by 16 (R307). -/
def freeFlit (l : LinkId) (vc : Nat) (s : State) : State :=
  let s := s.updLink l fun k =>
    { k with freed := k.freed.set vc (k.freed.getD vc 0 + 1), freedAt := some (k.freedAt.getD s.time.nclk) }
  let k := s.link l
  if k.freed.getD vc 0 ≥ k.freedSent.getD vc 0 + 16 then
    let s := s.updLink l fun k => { k with freedSent := k.freed, freedAt := none, creditAt := s.time.nclk }
    sendUnseq l 2 false ((k.freed.map fun n => toLe 4 n).flatten) s
  else s

/-- May a flit go on VC vc: credit left at the peer (R307) and room in the replay buffer (R299)? -/
def LinkSt.mayTx (k : LinkSt) (vc : Nat) : Bool :=
  k.st = 5 && k.buf.length < 1024 &&
    (k.sent.getD vc 0 + 2 ^ 32 - k.peerFreed.getD vc 0) % 2 ^ 32 < k.peerDepth.getD vc 0

/-- The weight of a queue of the RSP and DAT channels (R334). -/
def State.weight (s : State) (queue : Nat) : Nat :=
  max 1 (if queue < 8 then s.rfld .SVC_WEIGHT queue 7 0 else s.rfld .TRANSIT_W 0 7 0)

/-- The waiting flit that goes next on VC vc: the first of the channel, but in RSP and DAT the first of the queue whose turn it
is by deficit round-robin (R334); with the round-robin state after it. A packet's flits keep their order within a queue. -/
def pickWait (s : State) (k : LinkSt) (vc : Nat) : Option (WaitFlit × (Nat × Nat)) :=
  let cur := k.drr.getD vc (0, 0)
  if vc = 2 ∨ vc = 4 then
    let order := (List.range 9).map fun i => (cur.1 + i) % 9
    let first := if cur.2 = 0 then order.drop 1 ++ order.take 1 else order
    match first.find? fun q => k.txq.any fun w => w.vc = vc && w.queue = q with
    | none => none
    | some q =>
      let left := if q = cur.1 ∧ cur.2 ≠ 0 then cur.2 else s.weight q
      (k.txq.find? fun w => w.vc = vc && w.queue = q).map fun w => (w, (q, left - 1))
  else (k.txq.find? fun w => w.vc = vc).map fun w => (w, (0, 0))

/-- One round-robin turn of a link output: the first VC after the last served that has a flit and credit (R334). -/
def serveOne (l : LinkId) (s : State) : Option State :=
  let k := s.link l
  let vcs := (List.range 6).map fun i => (k.rr + 1 + i) % 6
  match vcs.find? fun vc => k.mayTx vc && (pickWait s k vc).isSome with
  | none => none
  | some vc =>
    match pickWait s k vc with
    | none => none
    | some (w, d) =>
      let s := s.updLink l fun k =>
        { k with txq := k.txq.erase w, rr := vc, drr := k.drr.set vc d, sent := k.sent.set vc ((k.sent.getD vc 0 + 1) % 2 ^ 32) }
      let s := sendSeq l (if w.abort then 3 else 1) vc w.head w.tail w.body s
      some (match w.hold with | some i => freeFlit i vc s | none => s)

/-- Waiting flits leave while they may. -/
def serveLink (l : LinkId) : Nat → State → State
  | 0, s => s
  | n + 1, s => match serveOne l s with | some s' => serveLink l n s' | none => s

/-- A flit joins a link's output. -/
def putFlit (l : LinkId) (w : WaitFlit) (s : State) : State :=
  let s := s.updLink l fun k => { k with txq := k.txq ++ [w] }
  serveLink l ((s.link l).txq.length) s

/-- Message bytes in pieces of one flit's MESSAGE field. -/
def pieces : Nat → Bytes → List Bytes
  | 0, _ => []
  | n + 1, b => if b.length ≤ 224 then [b] else b.take 224 :: pieces n (b.drop 224)

/-- A message's flits join a link's output. -/
def putMsg (l : LinkId) (queue : Nat) (m : Msg) (s : State) : State :=
  let ps := pieces 17 m.enc
  let n := ps.length
  (List.range n).foldl (fun s i =>
    putFlit l ⟨m.cls.num, queue, i = 0, i + 1 = n, false, ps.getD i [], none⟩ s) s

/-- The host-table entries (R406): the bytes of the entry of a source, with its index. -/
def hostScan (src : Nat) : Nat → Nat → Bytes → Option (Nat × Bytes)
  | 0, _, _ => none
  | n + 1, i, b =>
    if b = [] then none
    else if leAt b 0 2 = src then some (i, b.take 32) else hostScan src n (i + 1) (b.drop 32)

def State.hostEntry (s : State) (src : W16) : Option (Nat × Bytes) := hostScan src.toNat 4096 0 (s.recOf 10)

/-- The service class of an answer's destination, from its host-table entry (R334). -/
def State.svcOf (s : State) (dst : W16) : Nat :=
  match s.hostEntry dst with
  | some (i, _) => s.rfld .HOST_CFG i 18 16
  | none => 0

/-- A message this device originates goes out by its up set (R309); what leaves is recorded with its port. A message to a
port that is not live is discarded and NOROUTE_CNT of quarter 0 rises (R312). -/
def send (m : Msg) (s : State) : State :=
  match s.pickPort m.dst.toNat false with
  | none => emit (.msg 31 m) (s.count .NOROUTE_CNT 0)
  | some p =>
    let s := emit (.msg p m) s
    if h : p < 24 then putMsg ⟨p, h⟩ (s.svcOf m.dst) m s else s

/-- An MGT message from this device. -/
def sendMgt (dst : W16) (op : Nat) (payload : Bytes) (s : State) : State :=
  send { cls := .mgt, op := op, dst := dst, src := s.myId, tag := 0, payload := payload } s

/-- CMP to a source (R148): status, load level and hint; `src` is the ID it answers as. -/
def sendCmp (src dst tag : W16) (status : Byte) (load hint : Nat) (s : State) : State :=
  send { cls := .rsp, op := 1, dst := dst, src := src, tag := tag, status := status, load := load, hint := hint } s

end Sys2Proof.Machine
end

