-- ==== Sys2Proof/Machine/Link.lean ====
section
/-! DEFINITION. Kyine links: training (R296), receiving flits (R299 to R302), replay (R301), lock loss and retraining (R303,
R304, R492), link down (R305), credits (R307), stalled packets (R316, R317) and the link commands (R318). -/

namespace Sys2Proof.Machine

/-- Entries about a link (class 0x08): the link, LNK_STAT.CAUSE and the peer (R452). -/
def linkEv (l : LinkId) (k : EvKind) (cause state : Nat) (s : State) : State :=
  logEv ⟨8, k, l.val, cause, 0, state, 0xFF, toLe 2 (s.link l).peerId.toNat⟩ s

/-- The quarter of a link (R25). -/
def linkQuarter (l : LinkId) : Nat := l.val / 6

/-- An open packet of an input VC is closed (R316): an ABORT flit follows flits that have left toward another router; otherwise
this router is, or is treated as, the destination, and the source is answered CMP with TRUNCATED. A packet that is being discarded (port 31)
has been answered. -/
def closePkt (l : LinkId) (vc : Nat) (s : State) : State :=
  match (s.link l).opens.getD vc none with
  | none => s
  | some p =>
    let s := s.updLink l fun k => { k with opens := k.opens.set vc none, drop := k.drop.set vc true }
    if h : p.port < 24 ∧ p.left then putFlit ⟨p.port, h.1⟩ ⟨vc, 8, false, true, true, [], none⟩ s
    else if p.port = 31 then s
    else sendCmp s.myId p.src p.tag stTRUNCATED 0 0 s

/-- Packets whose head was committed to output `l` lose their remaining flits (R305, R317). -/
def orphanOut (l : LinkId) (s : State) : State :=
  (indices 24).foldl (fun s i =>
    s.updLink i fun k =>
      { k with
        drop := (List.range 6).map fun vc =>
          k.drop.getD vc false || (match k.opens.getD vc none with | some p => p.port = l.val | none => false),
        opens := k.opens.map fun o => match o with | some p => if p.port = l.val then none else some p | none => none }) s

/-- What waits for output `l` goes, and frees the input buffers it stands in; what came in on `l` and waits elsewhere no longer holds `l`'s
buffer. -/
def freeOut (l : LinkId) (s : State) : State :=
  let s := (s.link l).txq.foldl (fun s w => match w.hold with | some i => if i = l then s else freeFlit i w.vc s | none => s) s
  (indices 24).foldl (fun s i =>
    s.updLink i fun k => { k with txq := k.txq.map fun w => if w.hold = some l then { w with hold := none } else w }) s

/-- A link leaves service: its buffers, counts, keys and credit counts are discarded, its input packets closed and its output
packets orphaned (R305). -/
def dropLink (l : LinkId) (st cause : Nat) (s : State) : State :=
  let s := (List.range 6).foldl (fun s vc => closePkt l vc s) s
  let s := freeOut l (orphanOut l s)
  s.updLink l fun k => { LinkSt.init with st := st, cause := cause, dir := k.dir, since := s.time.nclk }

/-- The result of the link's running command, where one is running. -/
def linkDone (l : LinkId) (status : Byte) (s : State) : State :=
  if s.isBusy .LNK_CMD_RESULT l.val then s.result .LNK_CMD_RESULT l.val status else s

/-- The link goes DOWN (R305). A link command that was running ends RETRY_BUSY (DESIGN CHOICE, log entry 20). -/
def linkDown (l : LinkId) (cause : Nat) (s : State) : State :=
  let s := linkEv l .fault cause 7 s
  let s := dropLink l 7 cause s
  linkDone l stRETRY_BUSY (s.count .LINK_DOWN_CNT l.val)

/-- A check of training fails: REFUSED with its cause (R296). -/
def linkRefuse (l : LinkId) (cause : Nat) (s : State) : State :=
  let s := linkEv l .refused cause 8 s
  s.updLink l fun k => { k with st := 8, cause := cause, since := s.time.nclk }

/-- The link waits for signal (R296 step 1). -/
def enterDetect (l : LinkId) (s : State) : State :=
  s.updLink l fun k => { LinkSt.init with st := 1, cause := k.cause, since := s.time.nclk }

def State.maxRate (s : State) (l : LinkId) : Nat := s.rfld .LNK_CFG l.val 15 14
def State.maxWidth (s : State) (l : LinkId) : Nat := s.rfld .LNK_CFG l.val 13 12
def State.expectDir (s : State) (l : LinkId) : Nat := s.rfld .LNK_EXPECT l.val 17 16
def State.expectId (s : State) (l : LinkId) : Nat := s.rfld .LNK_EXPECT l.val 15 0

/-- The edge permission table of a link: 32 ranges, from its LINK record (R315). -/
def State.eptRange (s : State) (l i : Nat) : Nat × Nat :=
  let b := s.recOf 11 l
  if b = [] then (0xFFFF, 0) else (leAt b (0x10 + 4 * i) 2, leAt b (0x12 + 4 * i) 2)

/-- Does an ID lie in the link's edge permission table? A range with ID_LO above ID_HI is empty. -/
def State.eptHas (s : State) (l : Nat) (id : Nat) : Bool :=
  (List.range 32).any fun i => (s.eptRange l i).1 ≤ id && id ≤ (s.eptRange l i).2

/-- LANE_SIGNAL_DETECT: DETECT becomes TRAIN at the highest allowed rate (R296). -/
def signalDetect (l : LinkId) (s : State) : State :=
  if (s.link l).st = 1 then
    s.updLink l fun k => { k with st := 2, trainRate := s.maxRate l, since := s.time.nclk }
  else s

/-- This end's CONFIG flit (R296 step 3): fabric ID, rank, rates, widths, VC depths. Its layout is the model's (log entry 21). -/
def sendConfig (l : LinkId) (s : State) : State :=
  let d (r : Reg) : Bytes := toLe 4 (s.reg r l.val).toNat
  emit (.flit l (flitHdr 8 0 0 false false 0 false false 0)
    (padTo 224 (toLe 2 s.myId.toNat ++ toLe 2 s.rank ++ [byte (s.maxRate l), byte (s.maxWidth l)] ++
      d .VC_DEPTH0 ++ d .VC_DEPTH1 ++ d .VC_DEPTH2))) s

/-- LINK_TRAIN_DONE: TRAIN becomes CONFIG (R296 step 2). -/
def trainDone (l : LinkId) (lanes : BitVec 4) (s : State) : State :=
  if (s.link l).st = 2 then
    sendConfig l (s.updLink l fun k => { k with st := 3, laneOk := lanes.toNat, since := s.time.nclk })
  else s

/-- LINK_TRAIN_TIMEOUT: one fallback from K200 to K100, then DOWN with cause 0x1 (R296 step 2). -/
def trainTimeout (l : LinkId) (s : State) : State :=
  let k := s.link l
  if k.st = 2 then
    let s := advanceTo (k.since + msec 500) s
    if k.trainRate = 2 then s.updLink l fun k => { k with trainRate := 1, since := s.time.nclk }
    else linkDown l 1 s
  else s

/-- The widest width both ends, the blank and the locked lanes allow: 1 ×1, 2 ×2, 3 ×4; 0 none. -/
def bestWidth (peer maxW lanes : Nat) : Nat :=
  if peer.testBit 2 ∧ 3 ≤ maxW ∧ lanes % 16 = 15 then 3
  else if peer.testBit 1 ∧ 2 ≤ maxW ∧ (lanes % 4 = 3 ∨ lanes / 4 % 4 = 3) then 2
  else if peer.testBit 0 ∧ 1 ≤ maxW ∧ lanes ≠ 0 then 1 else 0

/-- The lanes a width uses, of those that hold lock: all four, the pair 0–1 before 2–3, the lowest lane. -/
def lanesOf (width lanes : Nat) : Nat :=
  match width with
  | 3 => 15
  | 2 => if lanes % 4 = 3 then 3 else 12
  | 1 => match lowBit lanes 4 with | some i => 2 ^ i | none => 0
  | _ => 0

/-- CONFIG_FLIT: the checks of R296 step 3, in order; the link goes to AUTH or is REFUSED with the first failing cause. -/
def configFlitRx (l : LinkId) (p : PeerConfig) (s : State) : State :=
  let k := s.link l
  if k.st ≠ 3 then s
  else
    let dir := s.expectDir l
    let kindOk := match dir with
      | 1 => !p.isHost && s.rank < p.rank.toNat
      | 2 => !p.isHost && p.rank.toNat < s.rank
      | 3 => p.isHost
      | _ => false
    let ex := s.expectId l
    let isDev := p.peerId.toNat % 64 < 0x20
    let w := bestWidth p.widths.toNat (s.maxWidth l) k.laneOk
    let s := s.updLink l fun k =>
      { k with peerId := p.peerId, peerRank := if p.isHost then 0 else p.rank, peerDepth := p.depths }
    if !kindOk then linkRefuse l 0xA s
    else if dir ≠ 3 ∧ (if ex = 0xFFFF then !isDev else ex ≠ p.peerId.toNat) then linkRefuse l 0x9 s
    else if dir = 3 ∧ !s.eptHas l.val p.peerId.toNat then linkRefuse l 0xD s
    else if dir = 3 ∧ ex ≠ 0xFFFF ∧ ex ≠ p.peerId.toNat then linkRefuse l 0x9 s
    else if !(p.rates.toNat.testBit (k.trainRate - 1) ∧ 1 ≤ k.trainRate ∧ k.trainRate ≤ s.maxRate l) ∨ w = 0 then
      linkRefuse l 0xB s
    else
      s.updLink l fun k =>
        { k with st := 4, dir := dir, width := w, rate := k.trainRate, lanes := lanesOf w k.laneOk, since := s.time.nclk }

/-- CONFIG_TIMEOUT (R296 step 3). No CONFIG flit has passed a check; the cause is that of the first one (log entry 22). -/
def configTimeoutRun (l : LinkId) (s : State) : State :=
  if (s.link l).st = 3 then linkRefuse l 0xA (advanceTo ((s.link l).since + msec 1) s) else s

/-- Trust anchors for host chains: the TRUST record (R406). -/
def State.trusts (s : State) (a : BitVec 384) : Bool :=
  let b := s.recOf 15
  (List.range (b.length / 48)).any fun i => beNat (cut b (48 * i) 48) = a.toNat

/-- AUTH_FLIT: the link becomes ACTIVE with every count at 0, or is REFUSED with cause 0x8 (R296 steps 4 and 5). While the
security core is open to debug, step 4 cannot be passed (R466). -/
def authFlitRx (l : LinkId) (v : AuthVerdict) (s : State) : State :=
  let k := s.link l
  if k.st ≠ 4 then s
  else if v.chainOk && v.sigOk && !s.hw.secOpen && (k.dir ≠ 3 || s.trusts v.anchor) then
    s.updLink l fun k =>
      { LinkSt.init with st := 5, dir := k.dir, rate := k.rate, width := k.width, laneOk := k.laneOk, lanes := k.lanes,
                         peerId := k.peerId, peerRank := k.peerRank, peerDepth := k.peerDepth, since := s.time.nclk,
                         creditAt := s.time.nclk, ackAt := s.time.nclk }
  else linkRefuse l 8 s

def authTimeoutRun (l : LinkId) (s : State) : State :=
  if (s.link l).st = 4 then linkRefuse l 8 (advanceTo ((s.link l).since + msec 50) s) else s

/-! ### Receiving -/

def State.replayNs (s : State) (l : LinkId) : Nat := nsec (max 500 (min 4000 (s.rfld .LNK_CFG l.val 11 0)))

/-- A go-back-N replay from the oldest unacknowledged flit (R301). The 16th from one point takes the link DOWN. -/
def replay (l : LinkId) (s : State) : State :=
  let k := s.link l
  if k.buf = [] then s
  else if k.replays + 1 = 16 then linkDown l 2 s
  else
    let s := s.updLink l fun k =>
      { k with replays := k.replays + 1, replayOf := some (k.ackN, s.time.nclk), ackAt := s.time.nclk }
    let s := k.buf.foldl (fun s f => emit (.flit l f.hdr f.body) s) s
    s.count .REPLAY_CNT l.val k.buf.length

/-- May a NAK be sent: none is standing, or REPLAY_NS has passed since it (R302)? -/
def State.nakFree (s : State) (l : LinkId) : Bool :=
  match (s.link l).nakAt with
  | some t => decide (t + s.replayNs l ≤ s.time.nclk)
  | none => true

/-- Is a replay from the oldest unacknowledged flit in progress (R301)? It is held to last REPLAY_NS (log entry 23). -/
def State.replayBusy (s : State) (l : LinkId) : Bool :=
  match (s.link l).replayOf with
  | some (p, t) => decide (p = (s.link l).ackN ∧ s.time.nclk < t + s.replayNs l)
  | none => false

/-- A NAK is sent, unless one is standing and REPLAY_NS has not passed since (R302). -/
def sendNak (l : LinkId) (s : State) : State :=
  if s.nakFree l then
    let s := sendUnseq l 0 true [] (s.updLink l fun k => { k with nakAt := some s.time.nclk })
    s.count .NAK_TX_CNT l.val
  else s

/-- ACK and NAK of a flit that passed both checks: every flit before ACK is freed (R300); a NAK starts a replay unless it names
the point of one in progress (R301). -/
def takeAck (l : LinkId) (hdr : W64) (s : State) : State :=
  let k := s.link l
  let d := (bits hdr.toNat 47 36 + 4096 - k.ackN % 4096) % 4096
  let n := k.ackN + d
  let s := if d = 0 ∨ k.txN < n then s
    else s.updLink l fun k =>
      { k with ackN := n, buf := k.buf.filter (fun f => n ≤ f.n), ackAt := s.time.nclk, replays := 0, replayOf := none }
  let s := serveLink l (s.link l).txq.length s
  if bit hdr.toNat 35 then
    if s.replayBusy l then s else replay l s
  else s

/-- What a received flit is, after the checks of R302 and R299. -/
inductive Rx where
  | none
  | unseq
  | seq
deriving DecidableEq, Repr

/-- A flit arrives on a link that carries traffic: CRC, type, tag (R302, R293), ACK (R300), then sequence (R299). -/
def rxFlit (l : LinkId) (f : Flit) (s : State) : Rx × State :=
  let k := s.link l
  let ty := bits f.hdr.toNat 63 60
  if k.st ≠ 5 then (.none, s)
  else if !f.crcOk then (.none, sendNak l (s.count .CRC_ERR_CNT l.val))
  else if 5 ≤ ty then (.none, s.count .AUTH_FAIL_CNT l.val)
  else if !f.tagOk then
    let times := (k.tagFails ++ [s.time.nclk]).filter fun t => s.time.nclk < t + msec 1
    let s := (s.updLink l fun k => { k with tagFails := times }).count .AUTH_FAIL_CNT l.val
    if 4 ≤ times.length then (.none, linkDown l 3 s) else (.none, sendNak l s)
  else
    let s := takeAck l f.hdr s
    if (s.link l).st ≠ 5 then (.none, s)
    else if ty = 0 ∨ ty = 2 then (.unseq, s.updLink l fun k => { k with rxU := k.rxU + 1 })
    else
      let seq := bits f.hdr.toNat 59 48
      let k := s.link l
      let behind := (k.rxN + 4096 - seq) % 4096
      if behind = 0 then
        let s := s.updLink l fun k => { k with rxN := k.rxN + 1, nakAt := none, firstAt := some (k.firstAt.getD s.time.nclk) }
        let s := s.count .LNK_RX_FLITS l.val
        let s := if (s.link l).advN + 32 ≤ (s.link l).rxN then
            sendUnseq l 0 false [] (s.updLink l fun k => { k with advN := k.rxN, firstAt := none })
          else s
        (.seq, s)
      else if behind ≤ 1024 then (.none, s.count .DUP_FLIT_CNT l.val)
      else (.none, sendNak l s)

/-- CREDIT flit: the peer's six FREED counts; waiting flits may go (R307). -/
def creditRx (l : LinkId) (f : Flit) (s : State) : State :=
  match rxFlit l f s with
  | (.unseq, s) =>
    let s := s.updLink l fun k => { k with peerFreed := (List.range 6).map fun v => leAt f.msg (4 * v) 4 }
    serveLink l (s.link l).txq.length s
  | (_, s) => s

/-- The depth of this end's input buffer of a VC (R306). -/
def State.vcDepth (s : State) (l : LinkId) (vc : Nat) : Nat :=
  let r : Reg := if vc < 2 then .VC_DEPTH0 else if vc < 4 then .VC_DEPTH1 else .VC_DEPTH2
  if vc % 2 = 0 then s.rfld r l.val 15 0 else s.rfld r l.val 31 16

/-- Has the input buffer of a VC no space left (R307)? -/
def State.vcFull (s : State) (l : LinkId) (vc : Nat) : Bool :=
  let k := s.link l
  decide (s.vcDepth l vc ≤ k.got.getD vc 0 - k.freed.getD vc 0)

/-- A flit enters the input buffer of its VC; one for a VC with no space left is discarded, and the link goes DOWN with cause 0x4
(R307). -/
def takeFlit (l : LinkId) (vc : Nat) (f : State → State) (s : State) : State :=
  if s.vcFull l vc then linkDown l 4 s
  else f (s.updLink l fun k => { k with got := k.got.set vc (k.got.getD vc 0 + 1) })

/-- ABORT flit: it closes the open packet of its VC and goes on along the packet's path, or the destination answers TRUNCATED
(R316). The flit leaves the ingress buffer. -/
def abortRx (l : LinkId) (f : Flit) (s : State) : State :=
  match rxFlit l f s with
  | (.seq, s) =>
    let vc := bits f.hdr.toNat 33 31
    takeFlit l vc (fun s =>
      let s := freeFlit l vc s
      match (s.link l).opens.getD vc none with
      | some _ =>
        let s := closePkt l vc s
        s.updLink l fun k => { k with drop := k.drop.set vc false }
      | none => s.count .ORPHAN_CNT l.val) s
  | (_, s) => s

/-- Both directions take the keys of an exchange that has completed (R298). -/
def newKeys (l : LinkId) (s : State) : State :=
  s.updLink l fun k => { k with txPhase := !k.txPhase, rxPhase := !k.rxPhase, keyN := k.txN, keyU := k.txU }

/-- This end begins a key exchange: a KEYX flit with a fresh public key (R298). -/
def rekeyBegin (l : LinkId) (s : State) : State :=
  let (key, s) := randomBytes 97 s
  (sendSeq l 4 5 false false key s).updLink l fun k => { k with rekeyAt := some s.time.nclk }

/-- KEYX flit: it completes an exchange this end began, or answers the peer's; both directions take the new keys (R298). -/
def keyxRx (l : LinkId) (f : Flit) (s : State) : State :=
  match rxFlit l f s with
  | (.seq, s) =>
    match (s.link l).rekeyAt with
    | some _ =>
      linkDone l stOK (newKeys l (s.updLink l fun k => { k with rekeyAt := none }))
    | none =>
      let (key, s) := randomBytes 97 s
      newKeys l (sendSeq l 4 5 false false key s)
  | (_, s) => s

/-- REPLAY_TIMEOUT (R301). -/
def replayTimeoutRun (l : LinkId) (s : State) : State :=
  let k := s.link l
  if k.st = 5 ∧ k.buf ≠ [] then replay l (advanceTo (k.ackAt + s.replayNs l) s) else s

/-- ACK_COALESCE_TIMER: 200 ns after the first flit accepted, the new value goes in a NULL flit (R300). -/
def ackTimer (l : LinkId) (s : State) : State :=
  let k := s.link l
  match k.firstAt with
  | some t =>
    if k.st = 5 then
      let s := advanceTo (t + nsec 200) s
      sendUnseq l 0 false [] (s.updLink l fun k => { k with advN := k.rxN, firstAt := none })
    else s
  | none => s

/-- Has a count of this end's direction reached 2^36 under its present key, no exchange running (R298)? -/
def LinkSt.rekeyDue (k : LinkSt) : Bool := k.rekeyAt = none && (2 ^ 36 ≤ k.txN - k.keyN || 2 ^ 36 ≤ k.txU - k.keyU)

/-- CREDIT_TIMER: 100 ns after an advance, and at least every 1 µs while ACTIVE (R307). A rekeying that a count calls for begins here
(log entry 39). -/
def creditTimerRun (l : LinkId) (s : State) : State :=
  let k := s.link l
  if k.st = 5 then
    let d := match k.freedAt with | some t => min (t + nsec 100) (k.creditAt + usec 1) | none => k.creditAt + usec 1
    let s := advanceTo d s
    let s := s.updLink l fun k => { k with freedSent := k.freed, freedAt := none, creditAt := s.time.nclk }
    let s := sendUnseq l 2 false ((s.link l).freed.map fun n => toLe 4 n).flatten s
    if (s.link l).rekeyDue then rekeyBegin l s else s
  else s

/-! ### Lock loss and retraining -/

/-- RETRAIN begins at a target width and rate (R304). -/
def enterRetrain (l : LinkId) (width rate : Nat) (s : State) : State :=
  (s.updLink l fun k => { k with st := 6, target := some (width, rate), downAt := none, since := s.time.nclk }).count
    .RETRAIN_CNT l.val

def State.tDown (s : State) (l : LinkId) : Nat := usec (max 1 (min 1000 (s.rfld .LNK_CFG l.val 25 16)))

/-- LANE_LOCK_LOSS (R303, R492). -/
def lockLoss (l : LinkId) (lane : Fin 4) (s : State) : State :=
  let k := s.link l
  let s := s.updLink l fun k => { k with laneOk := setBits k.laneOk lane.val lane.val 0 }
  if k.st = 5 ∧ k.lanes.testBit lane.val ∧ k.downAt = none then
    s.updLink l fun k => { k with downAt := some s.time.nclk }
  else s

/-- LANE_LOCK_REGAIN (R303): the timer stops when every active lane holds lock again before, or at, the limit. -/
def lockRegain (l : LinkId) (lane : Fin 4) (s : State) : State :=
  let s := s.updLink l fun k => { k with laneOk := setBits k.laneOk lane.val lane.val 1 }
  let k := s.link l
  match k.downAt with
  | some t =>
    if k.lanes &&& k.laneOk = k.lanes ∧ s.time.nclk ≤ t + s.tDown l then
      (s.updLink l fun k => { k with downAt := none }).count .LOCK_GLITCH_CNT l.val
    else s
  | none => s

/-- LINK_DOWN_TIMER: at the limit the lanes that hold lock decide (R303, R492). -/
def downTimer (l : LinkId) (s : State) : State :=
  let k := s.link l
  match k.downAt with
  | some t =>
    let s := advanceTo (t + s.tDown l) s
    let held := k.lanes &&& k.laneOk
    if held = k.lanes then (s.updLink l fun k => { k with downAt := none }).count .LOCK_GLITCH_CNT l.val
    else if k.width = 3 ∧ (held % 4 = 3 ∨ held / 4 = 3) then enterRetrain l 2 k.rate s
    else if 2 ≤ k.width ∧ held ≠ 0 then enterRetrain l 1 k.rate s
    else linkDown l 1 s
  | none => s

/-- RETRAIN_DONE: the link resumes at the target with a replay from the last ACK (R304). -/
def retrainDoneRun (l : LinkId) (p : PeerConfig) (s : State) : State :=
  let k := s.link l
  match k.target with
  | some (w, r) =>
    if k.st = 6 ∧ p.widths.toNat.testBit (w - 1) ∧ p.rates.toNat.testBit (r - 1) then
      let lanes := lanesOf w (if k.laneOk = 0 then 15 else k.laneOk)
      let s := s.updLink l fun k =>
        { k with st := 5, width := w, rate := r, target := none, lanes := lanes, laneOk := k.laneOk ||| lanes,
                 since := s.time.nclk, replayOf := none }
      linkDone l stOK (replay l s)
    else s
  | none => s

/-- RETRAIN_TIMEOUT (R304). -/
def retrainTimeoutRun (l : LinkId) (s : State) : State :=
  if (s.link l).st = 6 then linkDown l 6 (advanceTo ((s.link l).since + msec 1) s) else s

/-- LINK_HOLDOFF_EXPIRE: DOWN restarts at DETECT after 1 ms (R295). -/
def holdoffExpire (l : LinkId) (s : State) : State :=
  if (s.link l).st = 7 then enterDetect l (advanceTo ((s.link l).since + msec 1) s) else s

/-! ### Link commands (R318) -/

def linkConflict (l : LinkId) (s : State) : State := conflict .LNK_CMD_RESULT l.val 8 l.val (s.link l).st s

/-- A link command under R490: ignored while one is running. -/
def linkCmd (l : LinkId) (code : Nat) (f : State → State) (s : State) : State :=
  if s.isBusy .LNK_CMD_RESULT l.val then refusedBusy 8 l.val code (s.link l).st s else f s

/-- LINK_DISABLE: routes stop choosing the link; it drains. -/
def linkDisableRun (l : LinkId) (s : State) : State :=
  linkCmd l 1 (fun s =>
    let st := (s.link l).st
    if st = 0 ∨ st = 9 then linkConflict l s
    else (s.updLink l fun k => { k with disabling := true }).busy .LNK_CMD_RESULT l.val) s

/-- LINK_DISABLE_DONE: nothing is left unacknowledged; DISABLED with cause 0x5. -/
def linkDisableDoneRun (l : LinkId) (s : State) : State :=
  let k := s.link l
  if k.disabling ∧ k.buf = [] ∧ k.txq = [] then
    let s := linkEv l .state 5 0 (dropLink l 0 5 s)
    linkDone l stOK s
  else s

def linkEnableRun (l : LinkId) (s : State) : State :=
  linkCmd l 2 (fun s =>
    let st := (s.link l).st
    if st = 0 ∨ st = 8 then (enterDetect l s).result .LNK_CMD_RESULT l.val stOK else linkConflict l s) s

/-- LINK_RETRAIN: 0 keeps; a target above the blank's limits, or the reserved rate, is UNSUPPORTED (R304, R318). -/
def linkRetrainRun (l : LinkId) (width rate : BitVec 2) (s : State) : State :=
  linkCmd l 3 (fun s =>
    let k := s.link l
    if k.st ≠ 5 then linkConflict l s
    else
      let w := if width = 0 then k.width else width.toNat
      let r := if rate = 0 then k.rate else rate.toNat
      if s.maxWidth l < w ∨ s.maxRate l < r ∨ r = 3 then s.result .LNK_CMD_RESULT l.val stUNSUPPORTED
      else (enterRetrain l w r s).busy .LNK_CMD_RESULT l.val) s

/-- LINK_REKEY: a fresh exchange of step 4 in KEYX flits (R298). -/
def linkRekeyRun (l : LinkId) (s : State) : State :=
  linkCmd l 4 (fun s =>
    if (s.link l).st ≠ 5 then linkConflict l s
    else
      rekeyBegin l (s.busy .LNK_CMD_RESULT l.val)) s

/-- REKEY_TIMEOUT: DOWN with cause 0x3 after 50 ms (R298). -/
def rekeyTimeoutRun (l : LinkId) (s : State) : State :=
  match (s.link l).rekeyAt with
  | some t => linkDown l 3 (advanceTo (t + msec 50) s)
  | none => s

/-- STALL_TIMEOUT (R316): the timer runs only while the link is ACTIVE with lock on every lane in use. -/
def stallTimeoutRun (l : LinkId) (vc : Fin 6) (s : State) : State :=
  let k := s.link l
  match k.opens.getD vc.val none with
  | some p =>
    if k.st = 5 ∧ k.downAt = none then
      let t := usec (max 1 (min 1000 (s.rfld .RTR_CFG (linkQuarter l) 9 0)))
      let s := advanceTo (p.at_ + t) s
      closePkt l vc.val (s.count .STALL_CLOSE_CNT l.val)
    else s
  | none => s

end Sys2Proof.Machine
end

