-- ==== Sys2Proof/Machine/Ecc.lean ====
section
/-! DEFINITION. The symbol code of a stored line (R91 to R96). The code is linear, so what a read decodes to depends only on the
error pattern: the 22 symbols of each of the 8 codewords by which what is read differs from what the encoder gives, the two
address symbols included. -/

namespace Sys2Proof.Machine

/-- Multiplication by α = 0x02 in GF(2^8) with x^8 + x^4 + x^3 + x^2 + 1 (R92). -/
def gfDouble (a : Nat) : Nat := if a < 128 then 2 * a else (2 * a - 256) ^^^ 0x1D

/-- The product in GF(2^8), over the low `n` bits of b. -/
def gfMulN : Nat → Nat → Nat → Nat
  | 0, _, _ => 0
  | n + 1, a, b => (if b % 2 = 1 then a else 0) ^^^ gfMulN n (gfDouble a) (b / 2)

def gfMul (a b : Nat) : Nat := gfMulN 8 a b

/-- α^n. -/
def gfPow : Nat → Nat
  | 0 => 1
  | n + 1 => gfDouble (gfPow n)

/-- Symbol p of codeword j of an error pattern: byte 22 j + p. -/
def symAt (e : Bytes) (j p : Nat) : Nat := leAt e (22 * j + p) 1

/-- The syndrome S_k of codeword j (R94). -/
def syndrome (e : Bytes) (j k : Nat) : Nat :=
  (List.range 22).foldl (fun s p => s ^^^ gfMul (symAt e j p) (gfPow (k * p))) 0

/-- The four syndromes of codeword j. -/
def syndromes (e : Bytes) (j : Nat) : List Nat := (List.range 4).map (syndrome e j)

/-- The position of a single error with these syndromes, if there is one. -/
def locateErr (s : List Nat) : Option Nat :=
  let s0 := s.getD 0 0
  if s0 = 0 then none
  else (List.range 22).find? fun p => (List.range 4).all fun k => s.getD k 0 = gfMul s0 (gfPow (k * p))

/-- What a decode finds (R94). -/
inductive EccOut where
  | good
  | corrected (pos : Nat)
  | poisoned
  | addrErr
  | bad
deriving DecidableEq, Repr

/-- The error pattern of the poison marker: the four check symbols of every codeword XORed with 0xA5 (R96). -/
def markerErr : Bytes := ((List.range 8).map fun _ => List.replicate 4 0xA5#8 ++ zeros 18).flatten

def xorBytes (a b : Bytes) : Bytes := a.zipWith (· ^^^ ·) b

/-- The decoder of R94, in the order of its table. -/
def decodeErr (e : Bytes) : EccOut :=
  let ss := (List.range 8).map (syndromes e)
  let bad := ss.filter fun s => s.any (· ≠ 0)
  if bad = [] then .good
  else
    let locs := bad.map locateErr
    match locs with
    | some p :: _ =>
      if locs.all (· = some p) && p < 20 then .corrected p
      else if locs.any (fun l => l = some 20 || l = some 21) then .addrErr
      else .bad
    | _ =>
      if ss.all (· = syndromes markerErr 0) then .poisoned
      else if locs.any (fun l => l = some 20 || l = some 21) then .addrErr
      else .bad

/-- The device number of a position in a correctable-error entry (R92, R98): 0 to 9 subchannel A, 10 to 19 B. -/
def eccDevice (p : Nat) : Nat :=
  if p < 2 then 8 + p else if p < 4 then 16 + p else if p < 12 then p - 4 else p - 2

end Sys2Proof.Machine
end

