-- ==== Sys2Proof/Machine/Mem.lean ====
section
/-! DEFINITION. Pool memory in DRAM: a list of cells (address, byte) with addresses strictly rising and no byte 0, since a byte that
nothing has written reads 0 (R63); and ascending lists of line numbers. -/

namespace Sys2Proof.Machine

abbrev Memory := List Host.Cell

/-- The canonical form: addresses strictly rising, no byte equal to what an unlisted address reads as. -/
def Memory.wf (m : Memory) : Bool := Sparse.wf (0 : Byte) m

/-- The byte at an address. -/
def Memory.read (m : Memory) (a : Nat) : Byte := Sparse.get 0 m a

/-- One byte written. -/
def Memory.write (m : Memory) (a : Nat) (b : Byte) : Memory := Sparse.put 0 m a b

/-- `n` bytes from an address. -/
def Memory.readN (m : Memory) (a : Nat) : Nat → Bytes
  | 0 => []
  | n + 1 => Memory.read m a :: Memory.readN m (a + 1) n

/-- Bytes written from an address. -/
def Memory.writeN (m : Memory) (a : Nat) : Bytes → Memory
  | [] => m
  | b :: r => Memory.writeN (Memory.write m a b) (a + 1) r

/-- The `n` bytes from `lo` on read 0. -/
def Memory.clear (m : Memory) (lo n : Nat) : Memory := m.filter fun c => c.1 < lo || lo + n ≤ c.1

/-- The cells of the `n` bytes from `lo` on, their addresses counted from `lo`. -/
def Memory.cells (m : Memory) (lo n : Nat) : Sparse Byte :=
  (m.filter fun c => lo ≤ c.1 && c.1 < lo + n).map fun c => (c.1 - lo, c.2)

/-- The `n` bytes from `lo` on become those cells. -/
def Memory.paste (m : Memory) (lo n : Nat) (cells : Sparse Byte) : Memory :=
  cells.foldl (fun m c => Memory.write m (lo + c.1) c.2) (Memory.clear m lo n)

/-- A number joins an ascending list. -/
def insUp (x : Nat) : List Nat → List Nat
  | [] => [x]
  | y :: r => if x < y then x :: y :: r else if x = y then y :: r else y :: insUp x r

/-- A number leaves a list. -/
def delUp (x : Nat) (l : List Nat) : List Nat := l.filter (· ≠ x)

end Sys2Proof.Machine
end

