-- ==== Sys2Proof/Machine/Region.lean ====
section
/-! DEFINITION. Regions: the fields of a descriptor (R64, R191, R192), where a byte of a region lies (R56, R149), and the layout of the
shadows (R177, R197, R396). -/

namespace Sys2Proof.Machine

namespace Region
variable (g : Region)

def word0 : Nat := leAt g.desc 0 4
def tenantNo : Nat := bits g.word0 19 16
def tenant : TenantId := ⟨g.word0 / 65536 % 16, Nat.mod_lt _ (by decide)⟩
/-- 0 plain, 1 tracked, 2 reduction, 3 computed. -/
def kind : Nat := bits g.word0 13 12
def durable : Bool := bit g.word0 14
def pinned : Bool := bit g.word0 15
def keySlot : Nat := bits g.word0 24 20
def mode : Nat := bits g.word0 26 25
def ptab : Bool := bit g.word0 27
def members : Nat := leAt g.desc 4 4 % 32
def spa : Nat := leAt g.desc 8 8
def len : Nat := leAt g.desc 0x10 8
def memberId (m : Nat) : Nat := leAt g.desc (0x40 + 16 * m) 2
def extent (m : Nat) : Nat := leAt g.desc (0x44 + 16 * m) 4 % 2 ^ 20
def dpaBase (m : Nat) : Nat := leAt g.desc (0x48 + 16 * m) 8

/-- A member's part of the region in bytes (R57). -/
def share (m : Nat) : Nat :=
  match g.mode with
  | 0 => g.len
  | 1 => g.len / max 1 g.members
  | _ => g.extent m * 2 ^ 28

/-! Reduction parameters (R191). -/
def nMax : Nat := bits (leAt g.desc 0x18 4) 31 16
def frac : Nat := bits (leAt g.desc 0x18 4) 15 10
def cfmt : Nat := bits (leAt g.desc 0x18 4) 9 8
def auto : Bool := bit (leAt g.desc 0x18 4) 7
def trigEn : Bool := bit (leAt g.desc 0x18 4) 6
def nFirst : Nat := bits (leAt g.desc 0x1C 4) 31 16
def closeMs : Nat := leAt g.desc 0x1C 2
def genFirst : Nat := leAt g.desc 0x20 4
def trigCtx : Nat := bits (leAt g.desc 0x24 4) 31 16
def trigTag : Nat := leAt g.desc 0x24 2

/-! Recipe parameters (R192). -/
def recipe : Nat := bits (leAt g.desc 0x18 4) 31 28
def mat : Bool := bit (leAt g.desc 0x18 4) 27
def src (i : Nat) : Nat :=
  match i with
  | 0 => bits (leAt g.desc 0x18 4) 23 12
  | 1 => bits (leAt g.desc 0x18 4) 11 0
  | _ => bits (leAt g.desc 0x1C 4) 27 16
def rank : Nat := leAt g.desc 0x1C 2
def rows : Nat := leAt g.desc 0x20 4
def cols : Nat := leAt g.desc 0x24 4
def ifmt : Nat := leAt g.desc 0x2B 1
def ffmt : Nat := leAt g.desc 0x2A 1
def ofmt : Nat := leAt g.desc 0x29 1
def opt : Nat := leAt g.desc 0x28 1
/-- Byte offset of a source's tensor. -/
def srcOff (i : Nat) : Nat := leAt g.desc (0x2C + 4 * i) 4 * 16384
def outRows : Nat := if g.recipe = 3 then leAt g.desc 0x38 4 else g.rows

/-- Record lines per RU, R of R177. -/
def recLines : Nat := 1 + cdiv (g.nMax - 896) 1024
/-- K of R177. -/
def shadowK : Nat := 1 + cdiv g.recLines 2

end Region

/-- DEEPEN: the member that holds offset `off` and the offset in it (R56). -/
def deepen (g : Region) : Nat → Nat → Nat → Nat × Nat
  | 0, m, off => (m, off)
  | n + 1, m, off => if g.extent m * 2 ^ 28 ≤ off then deepen g n (m + 1) (off - g.extent m * 2 ^ 28) else (m, off)

/-- The member and DPA of an SPA of the region (R56). -/
def spaToDpa (g : Region) (a : Nat) : Nat × Nat :=
  let off := a - g.spa
  match g.mode with
  | 0 => (0, g.dpaBase 0 + off)
  | 1 =>
    let b := off / 16384
    let m := b % max 1 g.members
    (m, g.dpaBase m + b / max 1 g.members * 16384 + off % 16384)
  | _ =>
    let (m, o) := deepen g 16 0 off
    (m, g.dpaBase m + o)

/-- The SPA of a DPA of member m (R149). -/
def dpaToSpa (g : Region) (m dpa : Nat) : Nat :=
  let d := dpa - g.dpaBase m
  match g.mode with
  | 0 => g.spa + d
  | 1 => g.spa + (d / 16384 * g.members + m) * 16384 + d % 16384
  | _ => g.spa + ((List.range m).map g.extent).sum * 2 ^ 28 + d

/-- Does this device answer for its pair's alias: ACTIVE or SOLO, HANDING until it has handed over (R383)? -/
def State.answersAlias (s : State) : Bool := s.pair.role = 1 || s.pair.role = 7 || s.pair.role = 5

/-- Does an endpoint ID name this device: its own, or the alias it answers for? -/
def State.isMe (s : State) (id : Nat) : Bool :=
  id = s.myId.toNat || (s.answersAlias && id = s.myAlias.toNat)

/-- The ID under which an ID belongs to this device or its partner (a member entry of the pair names either). -/
def State.isPair (s : State) (id : Nat) : Bool := id = s.myId.toNat || id = s.myAlias.toNat

/-- This device's member entry of a region, the first that names it. -/
def State.memberOf (s : State) (g : Region) : Option Nat := (List.range g.members).find? fun m => s.isPair (g.memberId m)

def State.region (s : State) (n : Nat) : Option Region := s.rgn.tab.find n

/-- The state code of a region number: FREE where there is no record (R65). -/
def State.regionSt (s : State) (n : Nat) : Nat := match s.region n with | some g => g.st | none => 0

def State.setRegion (s : State) (n : Nat) (g : Region) : State := { s with rgn := { s.rgn with tab := s.rgn.tab.ins n g } }

def State.updRegion (s : State) (n : Nat) (f : Region → Region) : State :=
  match s.region n with | some g => s.setRegion n (f g) | none => s

/-- The slices of a tenant on this device, ascending (R28, R33). -/
def State.sliceList (s : State) (t : TenantId) : List Nat :=
  ((indices 16).filter fun i => (s.slice i).st = 1 && (s.slice i).tenant = t).map Fin.val

/-- The line-home slice of a block number (R33). -/
def State.homeSlice (s : State) (t : TenantId) (b : Nat) : Nat :=
  let l := s.sliceList t
  l.getD (b % max 1 l.length) 0

/-- Entries of a run: blocks b0 to b0 + len − 1 over n slices (R116). -/
def runLen (b0 len n : Nat) : Nat := if len = 0 then 0 else (b0 + len - 1) / n - b0 / n + 1

/-- Bytes rounded up to 16 MiB granules. -/
def granules (bytes : Nat) : Nat := cdiv bytes (2 ^ 24)

/-- Size in granules of the shadow a member of a region takes; `n`: the tenant's slices. Reduction: R177. Computed with MAT: R197.
Durable tracked: the owner map, 16 B per block in runs that start on a 128 B line (R396). -/
def shadowGran (g : Region) (m n : Nat) : Nat :=
  match g.kind with
  | 2 => granules (16384 + g.share m / 16384 * g.shadowK * 16384)
  | 3 =>
    if g.mat then
      let b0 := g.dpaBase m / 16384
      granules (16384 + n * (128 * cdiv (4 * runLen b0 (g.share m / 16384) n) 128))
    else 0
  | 1 => if g.durable then granules (n * (128 * cdiv (16 * runLen (g.dpaBase m / 16384) (g.share m / 16384) n) 128)) else 0
  | _ => 0

/-- The bytes of the runs before slice index i in a shadow laid out in runs of `per` bytes a block (R197, R396). -/
def runStart (per b0 len n i : Nat) : Nat := i * (128 * cdiv (per * runLen b0 len n) 128)

/-- The DPA of the byte that holds line l's bit of block b in the owner map, and the bit (R396). -/
def ownerBit (g : Region) (m n b l : Nat) : Nat × Nat :=
  let b0 := g.dpaBase m / 16384
  (g.shadow + runStart 16 b0 (g.share m / 16384) n (b % n) + 16 * (b / n - b0 / n) + l / 8, l % 8)

/-- Entries of the host table, as sparse records of 32 bytes. -/
def hostRecs : Nat → Nat → Bytes → List (Nat × Bytes)
  | 0, _, _ => []
  | n + 1, i, b => if b = [] then [] else (i, b.take 32) :: hostRecs n (i + 1) (b.drop 32)

def State.hostList (s : State) : List (Nat × Bytes) := hostRecs 4096 0 (s.recOf 10)

/-- The slot of a host-table entry, if it holds a valid one (R141). -/
def slotOf (e : Bytes) : Option Nat := if leAt e 2 1 ≠ 0 ∧ bit (leAt e 4 2) 15 then some (leAt e 4 2 % 512) else none

/-- The tenant of a host-table entry; none for a device administrator. -/
def tenantOfHost (e : Bytes) : Option TenantId :=
  if leAt e 2 1 = 0 then none else some ⟨leAt e 3 1 % 16, Nat.mod_lt _ (by decide)⟩

/-- The endpoint that holds a tenant's slot. -/
def State.slotHost (s : State) (t : TenantId) (slot : Nat) : Option W16 :=
  (s.hostList.find? fun e => tenantOfHost e.2 = some t && slotOf e.2 = some slot).map fun e => w16 (leAt e.2 0 2)

/-- The valid slots of a tenant, ascending by host entry (R167). -/
def State.slotsOf (s : State) (t : TenantId) : List Nat :=
  s.hostList.filterMap fun e => if tenantOfHost e.2 = some t then slotOf e.2 else none

def slotKey (t : TenantId) (slot : Nat) : Nat := t.val * 512 + slot

/-- A slot's state code (R163). -/
def State.slotSt (s : State) (t : TenantId) (slot : Nat) : Nat := s.pool.slots.get 0 (slotKey t slot)

def State.setSlot (s : State) (t : TenantId) (slot st : Nat) : State :=
  { s with pool := { s.pool with slots := s.pool.slots.put 0 (slotKey t slot) st } }

end Sys2Proof.Machine
end

