-- ==== Sys2Proof/Machine/Dram.lean ====
section
/-! DEFINITION. The DRAM tier (R78 to R104): the layout of a channel, tags and tag cache, pinned extents, reading a line through the
symbol code, correctable errors, and the failure of a channel. -/

namespace Sys2Proof.Machine

def State.updChan (s : State) (c : ChanId) (f : ChanSt → ChanSt) : State := { s with chans := upd s.chans c f }

/-- The channel of a slice (R25). -/
def chanOf (sl : Nat) : ChanId := ⟨sl % 16, Nat.mod_lt _ (by decide)⟩

/-! ### Layout (R78) -/

def ChanSt.cap (c : ChanSt) : Nat := c.gib * 2 ^ 30
def ChanSt.tagGran (c : ChanSt) : Nat := granules (c.cap / 1024)
def State.pinGran (s : State) (c : ChanId) : Nat := ((s.exts c).map Ext.gran).sum
def State.pinBase (s : State) (c : ChanId) : Nat := ((s.chan c).tagGran + (s.chan c).dirG) * 2 ^ 24
def State.cacheBase (s : State) (c : ChanId) : Nat := s.pinBase c + s.pinGran c * 2 ^ 24

/-- S: the sets of the cache area, a multiple of 1,024. -/
def State.setsOf (s : State) (c : ChanId) : Nat := ((s.chan c).cap - s.cacheBase c) / 131072 / 1024 * 1024

def State.resize (s : State) (c : ChanId) : State := s.updChan c fun k => { k with sets := s.setsOf c }
/-- The number of sets is about to change: the cache area empties first (R78). -/
def State.resizing (s : State) (c : ChanId) : Bool := (s.chan c).st = 2 && (s.chan c).sets ≠ s.setsOf c

/-- The pinned extent of a slice that maps a block, with its offset in granules. -/
def findExt (b : Nat) : Nat → List Ext → Option (Ext × Nat)
  | _, [] => none
  | off, e :: r => if e.b0 ≤ b ∧ b < e.b0 + e.len then some (e, off) else findExt b (off + e.gran) r

def State.pinned (s : State) (sl b : Nat) : Bool := (findExt b 0 (s.exts (chanOf sl))).isSome

/-! ### Tags (R80, R81) -/

def tagKey (sl set_ : Nat) : Nat := sl * 2 ^ 32 + set_

/-- An invalid set: ages 0 to 7 in way order. -/
def emptySet : List Tag := (List.range 8).map fun w => ⟨false, false, false, false, w, 0⟩

def State.tagSet (s : State) (sl set_ : Nat) : List Tag := s.tags.get emptySet (tagKey sl set_)

def State.setTags (s : State) (sl set_ : Nat) (l : List Tag) : State :=
  { s with tags := s.tags.put emptySet (tagKey sl set_) l }

/-- The set of a block on a slice of n (R80). -/
def State.setIndex (s : State) (sl n b : Nat) : Nat := b / max 1 n % max 1 (s.chan (chanOf sl)).sets

def wayOf (l : List Tag) (b : Nat) : Option Nat := l.findIdx? fun t => t.v && t.block = b

/-- Way w becomes most recently used: ages below its own rise by 1. -/
def touchWay (l : List Tag) (w : Nat) : List Tag :=
  let a := (l.getD w ⟨false, false, false, false, 0, 0⟩).age
  ((List.range l.length).zip l).map fun x => if x.1 = w then { x.2 with age := 0 } else if x.2.age < a then { x.2 with age := x.2.age + 1 } else x.2

def updWay (l : List Tag) (w : Nat) (f : Tag → Tag) : List Tag :=
  ((List.range l.length).zip l).map fun x => if x.1 = w then f x.2 else x.2

/-- A use of set s of a slice in the tag cache (R81, R106): hit or miss counts, the way moves to the front, the least recently used
of four leaves and, where it was modified, is written to both copies. -/
def tagcUse (sl set_ : Nat) (dirty : Bool) (s : State) : State :=
  let k := sl * 2048 + set_ % 2048
  let l := s.tagc.get [] k
  let hit := l.find? fun w => w.set_ = set_
  let s := if hit.isSome then s.count .TAGC_HIT sl else s.count .TAGC_MISS sl
  let w : TcWay := ⟨set_, dirty || (match hit with | some w => w.dirty | none => false)⟩
  let l := w :: l.filter fun w => w.set_ ≠ set_
  let s := s.count .DDR_WR_BYTES sl (256 * ((l.drop 4).filter fun w => w.dirty).length)
  { s with tagc := s.tagc.put [] k (l.take 4) }

/-- Every entry of a slice leaves the tag cache; its modified entries are written to the store. -/
def tagcDrop (sl : Nat) (s : State) : State := { s with tagc := s.tagc.filter fun e => e.1 / 2048 ≠ sl }

/-- A slice's tag store becomes invalid. -/
def tagsInvalid (sl : Nat) (s : State) : State :=
  tagcDrop sl { s with tags := s.tags.filter fun e => e.1 / 2 ^ 32 ≠ sl }

/-! ### Coordinates (R93) -/

structure Coord4 where
  rank : Nat
  bg : Nat
  bank : Nat
  row : Nat
  col : Nat
deriving DecidableEq, Repr

/-- Where a line of a channel with `ranks` ranks lies: channel line = channel address / 128. -/
def coordOf (ranks line : Nat) : Coord4 :=
  let bc := line / 128
  let r := if ranks = 4 then 4 else if ranks = 2 then 2 else 1
  ⟨bc / 32 % r, bc % 8, bc / 8 % 4, bc / 32 / r % 2 ^ 18, line % 128 * 16⟩

def Coord4.data (c : Coord4) : Bytes := [byte c.rank, byte c.bg, byte c.bank] ++ toLe 4 c.row ++ toLe 2 c.col

def upsetKey (c line : Nat) : Nat := c * 2 ^ 41 + line

/-- The error pattern with which a line reads. -/
def State.lineErr (s : State) (c line : Nat) (poisoned : Bool) : Bytes :=
  let e := s.upsets.get (zeros 176) (upsetKey c line)
  if poisoned then xorBytes e markerErr else e

/-- A line is written anew: its upsets are gone. -/
def cleanLine (c line : Nat) (s : State) : State := { s with upsets := s.upsets.del (upsetKey c line) }

/-! ### Correctable errors (R98, R99) -/

def State.poolSec (s : State) : W32 := if s.ptValid then w32 (s.ptNs / 1000000000) else 0

def ceU (c i : Nat) : Nat := c + 16 * i

/-- The valid entries of the channel that name a device of a rank, their counts added up (R99). -/
def State.ceSum (s : State) (c rank dev : Nat) : Nat :=
  ((List.range 32).map fun i =>
    let w := (s.reg .CE_ENTRY0 (ceU c i)).toNat
    if bit w 31 ∧ bits w 29 25 = dev ∧ bits w 24 23 = rank then (s.reg .CE_ENTRY1 (ceU c i)).toNat % 65536 else 0).sum

/-- The entry with the lowest COUNT, the oldest FIRST_S breaking ties. -/
def State.ceVictim (s : State) (c : Nat) : Nat :=
  (List.range 32).foldl (fun best i =>
    let n (j : Nat) : Nat := (s.reg .CE_ENTRY1 (ceU c j)).toNat % 65536
    let f (j : Nat) : Nat := (s.reg .CE_ENTRY2 (ceU c j)).toNat
    if n i < n best ∨ (n i = n best ∧ f i < f best) then i else best) 0

/-- A correctable error is merged into the channel's table; a device that passes CE_THRESH marks the channel (R98, R99). -/
def ceMerge (c : ChanId) (k : Coord4) (dev : Nat) (rasp : Bool) (s : State) : State :=
  let c' := c.val
  let w0 (src : Nat) : Nat := 2 ^ 31 + src * 2 ^ 30 + dev * 2 ^ 25 + k.rank * 2 ^ 23 + k.bg * 2 ^ 20 + k.bank * 2 ^ 18 + k.row
  let same (i : Nat) : Bool := let w := (s.reg .CE_ENTRY0 (ceU c' i)).toNat; w = w0 0 || w = w0 1
  let now := s.poolSec
  let s :=
    match (List.range 32).find? same with
    | some i =>
      let n := min 0xFFFF ((s.reg .CE_ENTRY1 (ceU c' i)).toNat % 65536 + 1)
      (s.setReg .CE_ENTRY1 (ceU c' i) (w32 (k.col * 65536 + n))).setReg .CE_ENTRY3 (ceU c' i) now
    | none =>
      let free := (List.range 32).find? fun i => !bit (s.reg .CE_ENTRY0 (ceU c' i)).toNat 31
      let i := free.getD (s.ceVictim c')
      let s := if free.isNone then s.setFld .CE_CTL c' 0 0 1 else s
      let s := s.setReg .CE_ENTRY0 (ceU c' i) (w32 (w0 (b2n rasp)))
      let s := s.setReg .CE_ENTRY1 (ceU c' i) (w32 (k.col * 65536 + 1))
      (s.setReg .CE_ENTRY2 (ceU c' i) now).setReg .CE_ENTRY3 (ceU c' i) now
  if s.rfld .CE_THRESH c' 15 0 ≤ s.ceSum c' k.rank dev ∧ !(s.chan c).degraded then
    logEv ⟨3, .threshold, c', 0, 0, (s.chan c).st, 0xFF, k.data⟩ (s.updChan c fun x => { x with degraded := true })
  else s

/-! ### A channel that fails (R95, R104) -/

/-- SNP_FLUSH to every valid slot of the slice's tenant that is not UNRESPONSIVE (R161, R167). -/
def sendFlush (sl : Nat) (t : TenantId) (s : State) : State :=
  let list := s.sliceList t
  let slots := (s.slotsOf t).filter fun x => s.slotSt t x ≠ 1
  let i := (list.findIdx? (· = sl)).getD 0
  let s := slots.foldl (fun s x =>
    match s.slotHost t x with
    | some a => (send { cls := .snp, op := 3, dst := a, src := s.myId, tag := w16 sl, addr := i + 256 * list.length } s).count
        .SNP_SENT_CNT (sl / 4)
    | none => s) s
  if slots = [] then s
  else { s with pool := { s.pool with flushes := s.pool.flushes ++ [⟨sl, t, slots, s.time.nclk⟩] } }

/-- The blocks of a member's share of a region that a slice is home to. -/
def State.blocksOn (s : State) (g : Region) (m sl : Nat) : List Nat :=
  let b0 := g.dpaBase m / 16384
  ((List.range (g.share m / 16384)).map (b0 + ·)).filter fun b => s.homeSlice g.tenant b = sl

/-- A block of memory leaves DRAM: its bytes and markers go. -/
def dropBlock (b : Nat) (s : State) : State :=
  { s with mem := Memory.clear s.mem (b * 16384) 16384, poison := s.poison.filter fun l => l / 128 ≠ b }

/-- Every line of a block held in DRAM reads POISON until it is fully written. -/
def poisonBlock (b : Nat) (s : State) : State :=
  let s := dropBlock b s
  { s with poison := (List.range 128).foldl (fun p i => insUp (b * 128 + i) p) s.poison }

/-- The volatile blocks of a slice are lost: LOST in flash translation where tiered, markers where pinned (R104). -/
def loseVolatile (sl : Nat) (t : TenantId) (s : State) : State :=
  s.rgn.tab.foldl (fun s e =>
    let g := e.2
    if g.tenant = t ∧ !g.durable ∧ g.st ≠ 0 then
      match s.memberOf g with
      | some m =>
        (s.blocksOn g m sl).foldl (fun s b =>
          if g.pinned then poisonBlock b s
          else { dropBlock b s with tier := { s.tier with fmap := s.tier.fmap.ins b .lost } }) s
      | none => s
    else s) s

/-- What a slice loses with its DRAM: volatile blocks; its durable blocks stand in flash (R85, R104). -/
def loseSlice (sl : Nat) (s : State) : State :=
  match s.sliceTenant sl with
  | some t =>
    let s := loseVolatile sl t (tagsInvalid sl s)
    s.rgn.tab.foldl (fun s e =>
      let g := e.2
      if g.tenant = t ∧ g.durable then
        match s.memberOf g with
        | some m => (s.blocksOn g m sl).foldl (fun s b => dropBlock b s) s
        | none => s
      else s) s
  | none => s

/-- The directory entries of a slice go without snoops. -/
def dirDrop (sl : Nat) (s : State) : State :=
  { s with pool := { s.pool with dir := s.pool.dir.filter (fun e => s.homeSlice e.2.tenant (e.1 / 128) ≠ sl),
                                 dirc := s.pool.dirc.filter fun e => e.1 / 4096 ≠ sl } }

/-- A channel is set FAILED: power off; while ONLINE or EVACUATING the slice is recovered (R95, R104, R166, R167). `step`: the failing
training step, 0 none. -/
def chanFail (c : ChanId) (step : Nat) (s : State) : State :=
  let was := (s.chan c).st
  let s := s.updChan c fun k => { k with st := 5, failStep := step, dirG := 0, dirNext := none, hot := false }
  let s := logEv ⟨3, .fault, c.val, 0, 0, 5, 0xFF, []⟩ s
  if was = 2 ∨ was = 3 then
    match s.sliceTenant c.val with
    | some t => sendFlush c.val t (dirDrop c.val (loseSlice c.val s))
    | none => s
  else s

/-- A running channel command ends. -/
def chanDone (c : ChanId) (st : Byte) (s : State) : State :=
  if s.isBusy .CH_CMD_RESULT c.val then s.result .CH_CMD_RESULT c.val st else s

/-- An uncorrectable line (R95): the marker is written, one entry, UE_CNT; eight within 1 s set the channel FAILED. `dl`: the line's
DPA / 128, none for a line of the tag or directory store. -/
def uncorrectable (c : ChanId) (line : Nat) (dl : Option Nat) (addr : Bool) (s : State) : State :=
  let k := coordOf (s.chan c).ranks line
  let s := s.count .UE_CNT c.val
  let s := (if addr then s.count .UE_ADDR_CNT c.val else s).count .DDR_WR_BYTES c.val 128
  let s := logEv ⟨3, .dataLoss, c.val, 0, stPOISON, (s.chan c).st, 0xFF, k.data⟩ (cleanLine c.val line s)
  let s : State := match dl with | some l => { s with poison := insUp l s.poison } | none => s
  let times : List Nat := ((s.chan c).ueAt ++ [s.time.nclk]).filter fun t => decide (s.time.nclk < t + secs 1)
  let s := s.updChan c fun x => { x with ueAt := times }
  if 8 ≤ times.length ∧ ((s.chan c).st = 2 ∨ (s.chan c).st = 3) then chanDone c stRETRY_BUSY (chanFail c 0 s) else s

/-- A line is read and decoded (R94): does it read POISON? A corrected line is rewritten. -/
def readLine (c : ChanId) (line : Nat) (dl : Nat) (rasp : Bool) (s : State) : Bool × State :=
  let s := s.count .DDR_RD_BYTES c.val 128
  let p := s.poison.contains dl
  match decodeErr (s.lineErr c.val line p) with
  | .good => (false, s)
  | .corrected pos =>
    let s := cleanLine c.val line ((s.count .CE_CNT c.val).count .DDR_WR_BYTES c.val 128)
    (false, ceMerge c (coordOf (s.chan c).ranks line) (eccDevice pos) rasp s)
  | .poisoned => (true, s)
  | .addrErr => (true, uncorrectable c line (some dl) true s)
  | .bad => (true, uncorrectable c line (some dl) false s)

/-- A tag line is read from copy 0, or from copy 1 with a repair; both bad fail the channel (R79). -/
def readTagLine (c : ChanId) (set_ : Nat) (rasp : Bool) (s : State) : State :=
  let one (copy : Nat) : Nat := copy * ((s.chan c).cap / 2048 / 128) + set_ / 2
  let out (copy : Nat) : EccOut := decodeErr (s.lineErr c.val (one copy) false)
  let s := s.count .DDR_RD_BYTES c.val 128
  let fixed (copy pos : Nat) (s : State) : State :=
    let s := (s.count .CE_CNT c.val).count .DDR_WR_BYTES c.val 128
    ceMerge c (coordOf (s.chan c).ranks (one copy)) (eccDevice pos) rasp (cleanLine c.val (one copy) s)
  let repaired (s : State) : State := (cleanLine c.val (one 0) (s.count .TAG_REPAIR_CNT c.val)).count .DDR_WR_BYTES c.val 128
  match out 0 with
  | .good => s
  | .corrected pos => fixed 0 pos s
  | .poisoned | .addrErr | .bad =>
    let s := s.count .DDR_RD_BYTES c.val 128
    match out 1 with
    | .good => repaired s
    | .corrected pos => repaired (fixed 1 pos s)
    | .poisoned | .addrErr | .bad => chanDone c stRETRY_BUSY (chanFail c 0 s)

/-- The channel line of a block's line l: in its pinned extent, or in its way of the cache area (R78, R80, R82). -/
def State.chanLine (s : State) (sl n b l : Nat) : Option Nat :=
  let c := chanOf sl
  match findExt b 0 (s.exts c) with
  | some (e, off) => some ((s.pinBase c + off * 2 ^ 24) / 128 + (b / max 1 n - e.b0 / max 1 n) * 128 + l)
  | none =>
    let set_ := s.setIndex sl n b
    match wayOf (s.tagSet sl set_) b with
    | some w => some (s.cacheBase c / 128 + (8 * set_ + w) * 128 + l)
    | none => none

end Sys2Proof.Machine
end

