-- ==== Sys2Proof/Machine/Flash.lean ====
section
/-! DEFINITION. The flash tier (R107 to R134): geometry, superblocks, dense stripes, the map and what a block's flash image is,
journal streams, checkpoints, and a carrier that leaves service. -/

namespace Sys2Proof.Machine

/-! ### Geometry (R109, R110, R114) -/

structure Geo where
  pkg : Nat
  dies : Nat
  planes : Nat
  blocks : Nat
  spares : Nat
  pages : Nat
  cell : Nat
  endur : Nat
  endurSlc : Nat
deriving DecidableEq, Repr

def geoOf (d : Bytes) : Geo :=
  ⟨leAt d 0x18 2, leAt d 0x1A 1, leAt d 0x1B 1, leAt d 0x1C 2, leAt d 0x1E 2, leAt d 0x20 2, leAt d 0x24 1, leAt d 0x26 2,
    leAt d 0x28 2⟩

def State.geo (s : State) : Geo := geoOf s.tier.geo

/-- Superblocks of the device. -/
def Geo.sbs (g : Geo) : Nat := popCount g.pkg 16 * g.dies * g.planes * g.blocks
/-- SBLK of superblock number i; superblocks are numbered package by package, die, plane, logical block. -/
def Geo.sblk (g : Geo) (i : Nat) : Nat := i % max 1 g.blocks
/-- The plane a superblock lies in. -/
def Geo.plane (g : Geo) (i : Nat) : Nat := i / max 1 g.blocks
/-- The local channel of a superblock. -/
def Geo.fch (g : Geo) (i : Nat) : Nat :=
  ((List.range 16).filter fun b => bit g.pkg b).getD (i / max 1 (g.dies * g.planes * g.blocks)) 0 / 4
/-- Pages of an erase block in SLC mode. -/
def Geo.slcPages (g : Geo) : Nat := max 1 (g.pages / max 1 g.cell)
/-- Usable 16 MiB granules (R110). -/
def Geo.usable (g : Geo) : Nat := 8 * g.sbs * g.pages * 16384 * 49 / 64 / 2 ^ 24

def State.updTier (s : State) (f : TierSt → TierSt) : State := { s with tier := f s.tier }
def State.updCar (s : State) (c : CarrierId) (f : CarSt → CarSt) : State :=
  { s with tier := { s.tier with cars := upd s.tier.cars c f } }

/-- Is an ONLINE carrier being taken out of service by CAR_OFFLINE: it takes no new pages (R138)? -/
def State.leaving (s : State) (c : CarrierId) : Bool := (s.car c).st = 5 && s.isBusy .CAR_CMD_RESULT c.val

/-- The carriers that pages are written to. -/
def State.inServ (s : State) : List CarrierId :=
  (indices 8).filter fun c => ((s.car c).st = 4 || (s.car c).st = 5) && !s.leaving c
def State.online (s : State) : List CarrierId := (indices 8).filter fun c => (s.car c).st = 5

/-- The tier state (R136). -/
def State.tierCode (s : State) : Nat :=
  let n := s.online.length
  let r := ((indices 8).filter fun c => (s.car c).st = 4).length
  if s.tier.geo = [] then 4 else if n = 8 then 0 else if n = 7 ∧ r = 1 then 2 else if n = 7 then 1 else 3

/-- A flash-channel counter of a superblock's member. -/
def flCount (r : Reg) (c : CarrierId) (sb n : Nat) (s : State) : State := s.count r (4 * c.val + s.geo.fch sb) n

def tenOf (n : Nat) : TenantId := ⟨n % 16, Nat.mod_lt _ (by decide)⟩

/-! ### Delta logs and checkpoints (R126) -/

/-- Bytes that one change takes in a delta log. -/
def logEntry : Nat := 16

/-- Is there room for a change in the log of a slice (0 to 15) or a carrier (16 to 23)? -/
def State.logRoom (s : State) (w : Nat) : Bool :=
  s.tier.logs.toList.getD w 0 + logEntry ≤ (if w < 16 then 7 * 2 ^ 19 else 2 ^ 20)

/-- A change is appended; at 3 MiB, or 0.75 MiB for a carrier, a checkpoint begins. -/
def logAppend (w : Nat) (s : State) : State :=
  if h : w < 24 then
    let n := s.tier.logs[w] + logEntry
    let s := s.updTier fun t => { t with logs := t.logs.set w n }
    if (if w < 16 then 3 * 2 ^ 20 else 3 * 2 ^ 18) ≤ n ∧ !(s.tier.ckpts.any fun k => k.what = w) then
      s.updTier fun t => { t with ckpts := t.ckpts ++ [⟨w, n⟩] }
    else s
  else s

/-! ### Superblocks -/

def State.sb (s : State) (i : Nat) : Sb := s.tier.sbs.get Sb.fresh i
def State.setSb (s : State) (i : Nat) (b : Sb) : State := s.updTier fun t => { t with sbs := t.sbs.put Sb.fresh i b }

def Sb.worst (b : Sb) : Nat := b.erases.foldl max 0

def State.sbsUsed (s : State) : Nat := (s.tier.sbs.filter fun e => e.2.use ≠ 0).length
def State.sbsFree (s : State) : Nat := s.geo.sbs - s.sbsUsed

/-- FULL sets below 0.5 % free and clears above 1 % (R129). -/
def updFull (s : State) : State :=
  let tot := s.geo.sbs
  if tot = 0 then s
  else if s.sbsFree * 200 < tot then s.updTier fun t => { t with full := true }
  else if tot < s.sbsFree * 100 then s.updTier fun t => { t with full := false }
  else s

/-- A free superblock, lowest highest-member count first (R130). -/
def State.pickSb (s : State) : Option Nat :=
  let fresh := (List.range (min s.geo.sbs (s.tier.sbs.length + 1))).find? fun i => (s.tier.sbs.find i).isNone
  match fresh with
  | some i => some i
  | none =>
    (s.tier.sbs.filter fun e => e.2.use = 0).foldl (fun (best : Option Nat) e =>
      match best with
      | none => some e.1
      | some b => if e.2.worst < (s.sb b).worst then some e.1 else some b) none

/-- A superblock is opened for a tenant; opens are numbered in order. -/
def openSb (kind : Nat) (t : TenantId) (s : State) : Option Nat × State :=
  match s.pickSb with
  | none => (none, s)
  | some i =>
    let n := s.tier.sbSeq + 1
    let s := s.setSb i { s.sb i with use := 1, kind := kind, tenant := t.val, seq := n, next := 0, reloc := false }
    (some i, updFull (s.updTier fun x => { x with sbSeq := n }))

/-- The next stripe position in a superblock of a tenant. -/
def takePage (kind : Nat) (t : TenantId) (pages : Nat) (s : State) : Option (Nat × Nat) × State :=
  let cur := (s.tier.sbs.find? fun e => e.2.use = 1 && e.2.kind = kind && e.2.tenant = t.val && !e.2.reloc).map Prod.fst
  let (i, s) := match cur with | some i => (some i, s) | none => openSb kind t s
  match i with
  | none => (none, s)
  | some i =>
    let b := s.sb i
    (some (i, b.next), s.setSb i { b with next := b.next + 1, use := if pages ≤ b.next + 1 then 2 else 1 })

/-- Blocks whose map entry points into a superblock, with their places. -/
def State.validIn (s : State) (sb : Nat) : List (Nat × PLoc) :=
  s.tier.fmap.filterMap fun e => match e.2 with | .dense l => if l.sb = sb then some (e.1, l) else none | .lost => none

/-! ### Carriers that leave service, and retirement (R121, R133, R134, R136) -/

def carEv (c : CarrierId) (k : EvKind) (cause : Nat) (s : State) : State :=
  logEv ⟨4, k, c.val, cause, 0, (s.car c).st, 0xFF, []⟩ s

/-- The ONLINE carriers in the order of R118: C(2q) on, wrapping. -/
def State.mirrorOrder (s : State) (q : Nat) : List CarrierId :=
  ((List.range 8).map fun i => (⟨(2 * q + i) % 8, Nat.mod_lt _ (by decide)⟩ : CarrierId)).filter fun c => (s.car c).st = 5 && !s.leaving c

/-- A journal page loses its copies on carrier c: another ONLINE carrier takes each (R121). -/
def pageOff (c : CarrierId) (q : Nat) (key : Nat) (p : JPage) (s : State) : JPage × State :=
  let other := (s.mirrorOrder q).find? fun d => d ≠ c && !p.passed.contains d.val && !p.await.contains d.val
  if p.await.contains c.val then
    ({ p with await := (p.await.filter (· ≠ c.val)) ++ (other.map Fin.val).toList }, s)
  else if p.passed.contains c.val then
    match other with
    | some d => ({ p with passed := p.passed.filter (· ≠ c.val) }, s.updTier fun t => { t with remirror := t.remirror ++ [(key, p.seq, d.val)] })
    | none => ({ p with passed := p.passed.filter (· ≠ c.val) }, s)
  else (p, s)

/-- Every unreclaimed journal page with a copy on the carrier is copied again (R121). -/
def remirrorFrom (c : CarrierId) (s : State) : State :=
  let s := s.updTier fun t => { t with remirror := t.remirror.filter fun x => x.2.2 ≠ c.val }
  s.tier.streams.foldl (fun s e =>
    let (ps, s) := e.2.pages.foldl (fun (a : List JPage × State) p =>
      let (p', s') := pageOff c (e.1 / 16) e.1 p a.2
      (a.1 ++ [p'], s')) ([], s)
    s.updTier fun t => { t with streams := t.streams.ins e.1 { e.2 with pages := ps } }) s

/-- A carrier takes no part in the erases that wait. -/
def dropErase (c : CarrierId) (s : State) : State :=
  updFull (s.updTier fun t => { t with sbs := t.sbs.map fun e =>
    let l := e.2.toErase.filter (· ≠ c.val)
    (e.1, { e.2 with toErase := l, use := if e.2.use = 3 ∧ l = [] then 0 else e.2.use }) })

/-- A running carrier command ends. -/
def carDone (c : CarrierId) (st : Byte) (s : State) : State :=
  if s.isBusy .CAR_CMD_RESULT c.val then s.result .CAR_CMD_RESULT c.val st else s

/-- A carrier is set FAILED: out of service, powered off (R135, R136). -/
def carFail (c : CarrierId) (cause : Nat) (s : State) : State :=
  let was := (s.car c).st
  if was = 7 then s
  else
    let s := carEv c .fault cause (s.updCar c fun k => { k with st := 7, wasFailed := true, waiting := false, holdAt := none })
    let s := carDone c stRETRY_BUSY s
    if was = 4 ∨ was = 5 then
      remirrorFrom c (dropErase c s)
    else s

/-- Spares left in the plane that has fewest. -/
def State.spareMin (s : State) (c : CarrierId) : Nat :=
  s.geo.spares - ((s.car c).spares.map Prod.snd).foldl max 0

/-- Dense erase counts of a carrier: of the superblocks that have been used. -/
def State.eraseList (s : State) (c : CarrierId) : List Nat :=
  (s.tier.sbs.filter fun e => e.2.kind = 0).map fun e => e.2.erases.getD c.val 0

/-- The mean over all dense erase blocks. -/
def State.eraseAvg (s : State) (c : CarrierId) : Nat := (s.eraseList c).sum / max 1 s.geo.sbs

/-- WORN sets when spares run low or wear is high (R134). -/
def checkWorn (c : CarrierId) (s : State) : State :=
  let g := s.geo
  let low := s.spareMin c * 100 < 2 * g.blocks || (g.endur ≠ 0xFFFF && 9 * g.endur ≤ 10 * s.eraseAvg c)
  if low ∧ !(s.car c).worn then carEv c .threshold 0 (s.updCar c fun k => { k with worn := true }) else s

/-- A member of a superblock is retired: a spare of its plane takes its place; with no spare the carrier fails (R133, R134). -/
def retire (c : CarrierId) (sb : Nat) (s : State) : State :=
  let k := s.geo.plane sb
  let used := (s.car c).spares.get 0 k
  if s.geo.spares ≤ used then carFail c 0 s
  else
    let s := s.updCar c fun x => { x with spares := x.spares.ins k (used + 1), retired := x.retired + 1 }
    let s := s.setSb sb { s.sb sb with erases := (s.sb sb).erases.set c.val 0, reads := (s.sb sb).reads.set c.val 0 }
    checkWorn c (logAppend (16 + c.val) s)

/-- A superblock's contents are released (R129): its worn and failing members are retired (R130, R133), the others wait to be erased. -/
def releaseSb (i : Nat) (s : State) : State :=
  let b := s.sb i
  if b.use = 0 ∨ b.use = 3 then s
  else
    let limit := if b.kind = 2 then s.geo.endurSlc else s.geo.endur
    let out := s.inServ.filter fun c => b.bad.contains c.val || (limit ≠ 0xFFFF && limit ≤ b.erases.getD c.val 0)
    let s := s.updTier fun t => { t with pages := t.pages.filter fun e => e.1 / 8 / 4096 ≠ i }
    let s := if s.tier.gc = some i then (s.updTier fun t => { t with gc := none }).count .GC_SB_CNT else s
    let er := (s.inServ.filter fun c => !out.contains c).map Fin.val
    let s := s.setSb i { b with use := if er = [] then 0 else 3, toErase := er, bad := [] }
    updFull (out.foldl (fun s c => retire c i s) s)

/-- A superblock that has no valid page left and takes no more is released. -/
def releaseEmpty (i : Nat) (s : State) : State :=
  let b := s.sb i
  let writing := s.tier.dense.any fun d => d.sb = i
  if (b.use = 2 ∨ (b.use = 1 ∧ b.reloc)) ∧ b.kind = 0 ∧ !writing ∧ s.validIn i = [] then releaseSb i s else s

/-! ### The flash image of a block (R117, R124) -/

def State.liveRecs (s : State) (b : Nat) (region : Nat) (t : TenantId) : List JRec :=
  (s.tier.streams.filter fun e => e.1 % 16 = t.val).flatMap fun e =>
    e.2.pages.flatMap fun p => p.recs.filter fun r => r.live && r.state.isNone && r.line / 128 = b && r.region = region

/-- A record is applied onto a block's cells and poisoned lines (both counted from the block's start). -/
def applyRec (a : Sparse Byte × List Nat) (r : JRec) : Sparse Byte × List Nat :=
  let l := r.line % 128
  (Memory.paste a.1 (128 * l) 128 r.cells, if r.poison then insUp l a.2 else delUp l a.2)

/-- What flash holds of a block: its dense copy with the live journal records on top. The flag says that records were applied, so
the block is newer than its dense copy. -/
def State.tierImage (s : State) (b region : Nat) (t : TenantId) : Sparse Byte × List Nat × Bool :=
  let base : Sparse Byte × List Nat :=
    match s.tier.fmap.find b with
    | none => ([], [])
    | some .lost => ([], List.range 128)
    | some (.dense l) =>
      match s.tier.pages.find ((l.sb * 4096 + l.page) * 8 + l.carrier) with
      | some p => (p.cells, p.poison)
      | none => ([], List.range 128)
  let rs := s.liveRecs b region t
  let r := rs.foldl applyRec base
  (r.1, r.2, !rs.isEmpty)

/-- Can a page position be read: directly; by the other seven; not at all (R136, R137, R493)? 0, 1, 2. -/
def State.readWay (s : State) (l : PLoc) : Nat :=
  let good (c : Nat) : Bool :=
    if h : c < 8 then
      let k := s.car ⟨c, h⟩
      k.st = 5 || (k.st = 4 && ((s.sb l.sb).seq ≤ k.doneSb || k.wasUp < (s.sb l.sb).seq))
    else false
  if good l.carrier then 0 else if ((List.range 8).filter fun c => c ≠ l.carrier && !good c) = [] then 1 else 2

/-! ### Dense stripes (R122) -/

/-- Parity's carrier in a stripe (R114). -/
def State.parity (s : State) (sb page : Nat) : Nat := (s.geo.sblk sb + page) % 8

/-- The carrier of the i-th data page. -/
def State.dataCar (s : State) (sb page i : Nat) : Nat :=
  ((List.range 8).filter fun c => c ≠ s.parity sb page).getD i 0

/-- A stripe closes: pad and parity pages, eight programs (R122). -/
def programStripe (d : DStripe) (s : State) : State :=
  s.inServ.foldl (fun s c => flCount .FL_PROG_BYTES c d.sb 18432 (flCount .PAGE_PROG_CNT c d.sb 1 s)) s

/-- A page joins the open dense stripe of a quarter and tenant; none where no superblock is free. -/
def denseAdd (q : Nat) (pg : DPage) (s : State) : Option State :=
  let t := tenOf pg.page.tenant
  if s.pwr.pfPhase ≠ 0 then none
  else match s.tier.dense.find? fun d => d.q = q && d.tenant = t.val && !d.closed with
  | some d =>
    let d' := { d with pages := d.pages ++ [pg], closed := 7 ≤ d.pages.length + 1 }
    let s := s.updTier fun x => { x with dense := x.dense.map fun e => if e = d then d' else e }
    some (if d'.closed then programStripe d' s else s)
  | none =>
    match takePage 0 t s.geo.pages s with
    | (none, _) => none
    | (some (sb, p), s) =>
      some (s.updTier fun x => { x with dense := x.dense ++ [⟨q, t.val, sb, p, [pg], s.time.nclk, false, false⟩] })

def wbQuarter (sl : Nat) : Nat := sl / 4

/-- Blocks of a valid superblock are copied into new stripes of their tenant, ciphertext unchanged (R129 to R132). -/
def relocate (i : Nat) (s : State) : State :=
  let b := s.sb i
  if (b.use ≠ 1 ∧ b.use ≠ 2) ∨ b.reloc then s
  else
    let s := s.setSb i { b with reloc := true }
    let s := (s.validIn i).foldl (fun s e =>
      match s.tier.pages.find ((e.2.sb * 4096 + e.2.page) * 8 + e.2.carrier) with
      | some p => (denseAdd (wbQuarter (s.homeSlice (tenOf p.tenant) e.1)) ⟨p, .copy e.2, 0⟩ s).getD s
      | none => s) s
    releaseEmpty i s

/-! ### Journal streams (R118 to R123) -/

def streamKey (q : Nat) (t : TenantId) : Nat := q * 16 + t.val
def State.stream (s : State) (k : Nat) : Stream := s.tier.streams.get ⟨0, []⟩ k
def State.setStream (s : State) (k : Nat) (x : Stream) : State := s.updTier fun t => { t with streams := t.streams.ins k x }

/-- Unreclaimed journal in bytes: 16 KiB a page. -/
def State.journalBytes (s : State) : Nat := (s.tier.streams.map fun e => e.2.pages.length).sum * 16384

/-- A journal page closes and its mirror programs start (R118, R119). -/
def closeJPage (k : Nat) (s : State) : State :=
  let x := s.stream k
  match x.pages.getLast? with
  | some p =>
    if p.closed then s
    else
      let (pos, s) := takePage 2 (tenOf (k % 16)) s.geo.slcPages s
      let cs := (s.mirrorOrder (k / 16)).take 2
      let (sb, pg) := pos.getD (0, 0)
      let p' := { p with closed := true, sb := sb, page := pg, await := cs.map Fin.val }
      let s := s.setStream k { x with pages := x.pages.dropLast ++ [p'] }
      cs.foldl (fun s c => flCount .FL_PROG_BYTES c sb 18432 (flCount .PAGE_PROG_CNT c sb 1 s)) s
  | none => s

/-- The free entries of the open page. -/
def Stream.free (x : Stream) : Nat :=
  match x.pages.getLast? with | some p => if p.closed then 0 else 120 - p.recs.length | none => 0

/-- A later record overrides an earlier one of its line within a page (R119). -/
def addRec (rs : List JRec) (r : JRec) : List JRec :=
  if r.state.isSome then rs ++ [r]
  else (rs.map fun o => if o.line = r.line && o.state.isNone then { o with live := false } else o) ++ [r]

/-- Records join the open page of a stream, all in one page (R118, R186); the page they stand in. -/
def journalAdd (q : Nat) (t : TenantId) (rs : List JRec) (s : State) : (Nat × Nat) × State :=
  let k := streamKey q t
  let s := if (s.stream k).free < rs.length then closeJPage k s else s
  let x := s.stream k
  let (x, p) : Stream × JPage :=
    match x.pages.getLast? with
    | some p => if p.closed then (⟨x.next + 1, x.pages ++ [⟨x.next, [], s.time.nclk, false, 0, 0, [], []⟩]⟩, ⟨x.next, [], s.time.nclk, false, 0, 0, [], []⟩)
      else (x, p)
    | none => (⟨x.next + 1, [⟨x.next, [], s.time.nclk, false, 0, 0, [], []⟩]⟩, ⟨x.next, [], s.time.nclk, false, 0, 0, [], []⟩)
  let p' := { p with recs := rs.foldl addRec p.recs }
  let s := s.setStream k { x with pages := x.pages.dropLast ++ [p'] }
  let s := if 120 ≤ p'.recs.length ∨ s.rfld .JGROUP_NS 0 15 0 = 0 then closeJPage k s else s
  ((k, p'.seq), s)

def JPage.ok (p : JPage) : Bool := p.closed && p.await.isEmpty

/-- R120: the page has met its condition and every earlier page of the stream has. A reclaimed page has. -/
def State.pageOk (s : State) (k seq : Nat) : Bool := ((s.stream k).pages.filter fun p => p.seq ≤ seq).all JPage.ok

/-- The pages of a journal superblock are all reclaimed: it is erased (R123). -/
def journalErase (s : State) : State :=
  s.tier.sbs.foldl (fun s e =>
    if e.2.kind = 2 ∧ e.2.use = 2 ∧ !(s.tier.streams.any fun x => x.2.pages.any fun p => p.closed && p.sb = e.1) then releaseSb e.1 s
    else s) s

/-- Pages at the reclaim point whose records are all obsolete are reclaimed, in stream order (R123). -/
def reclaim (k : Nat) (s : State) : State :=
  let x := s.stream k
  let rest := x.pages.dropWhile fun p => p.ok && p.recs.all fun r => !r.live
  if rest.length < x.pages.length then journalErase (logAppend (16 + 2 * (k / 16)) (s.setStream k { x with pages := rest })) else s

/-- The records of a block in the pages of a stream before a SEQ become obsolete (R122). -/
def obsolete (k b upTo : Nat) (s : State) : State :=
  let x := s.stream k
  reclaim k (s.setStream k { x with pages := x.pages.map fun p =>
    if p.seq < upTo then { p with recs := p.recs.map fun r => if r.state.isNone && r.line / 128 = b then { r with live := false } else r }
    else p })

/-- The record of a line as it stands in DRAM (R118). -/
def State.lineRec (s : State) (line region : Nat) : JRec :=
  ⟨line, region, Memory.cells s.mem (line * 128) 128, s.poison.contains line, none, true⟩

/-! ### Write-back (R84, R85, R122, R125) -/

/-- The region that a DPA block belongs to: a member's share or a shadow. -/
def State.regionOfBlock (s : State) (b : Nat) : Option (Nat × Region) :=
  s.rgn.tab.find? fun e =>
    e.2.st ≠ 0 &&
    (match s.memberOf e.2 with
    | some m => (e.2.dpaBase m ≤ b * 16384 && b * 16384 < e.2.dpaBase m + e.2.share m) ||
        (e.2.shadow ≤ b * 16384 && b * 16384 < e.2.shadow + e.2.shadowLen)
    | none => false)

/-- Line home of a block of a region: its own, or for a reduction shadow that of the element block it serves (R33, R178). -/
def State.blockHome (s : State) (g : Region) (m b : Nat) : Nat :=
  let b0 := g.dpaBase m / 16384
  let sh := g.shadow / 16384
  if b0 ≤ b ∧ b < b0 + g.share m / 16384 then s.homeSlice g.tenant b
  else if g.kind = 2 then s.homeSlice g.tenant (b0 + (if b = sh then 0 else (b - sh - 1) / g.shadowK))
  else s.homeSlice g.tenant b0

/-- A snapshot of a block as a page. -/
def State.snapPage (s : State) (b region : Nat) (g : Region) : Page :=
  ⟨s.tier.sbSeq, b, region, g.tenant.val, g.keySlot, 0, Memory.cells s.mem (b * 16384) 16384,
    (s.poison.filter fun l => l / 128 = b).map fun l => l % 128⟩

/-- Can lines of the slice be read from DRAM: is its channel ONLINE or EVACUATING (R101)? -/
def State.dramUp (s : State) (sl : Nat) : Bool := (s.chan (chanOf sl)).st = 2 || (s.chan (chanOf sl)).st = 3

/-- The lines of a block that DRAM holds are read for its write-back, through the symbol code (R94, R95). -/
def readBlock (sl n b : Nat) (s : State) : State :=
  if !s.dramUp sl ∨ (s.chanLine sl n b 0).isNone then s
  else
    let upset := (List.range 128).filter fun l => (s.chanLine sl n b l).any fun p => (s.upsets.find (upsetKey (chanOf sl).val p)).isSome
    let s := s.count .DDR_RD_BYTES sl (128 * (128 - upset.length))
    upset.foldl (fun s l => match s.chanLine sl n b l with | some p => (readLine (chanOf sl) p (b * 128 + l) false s).2 | none => s) s

/-- A block's write-back starts: its page joins the stripe, with the stream SEQ recorded (R122). -/
def writeBack (sl b : Nat) (s : State) : Option State :=
  match s.regionOfBlock b with
  | some (n, g) =>
    let up := s.dramUp sl
    let s := readBlock sl (s.sliceList g.tenant).length b s
    if up ∧ !s.dramUp sl then some s
    else denseAdd (wbQuarter sl) ⟨s.snapPage b n g, .writeBack, (s.stream (streamKey (wbQuarter sl) g.tenant)).next⟩ s
  | none => some s

/-- A way of a set begins its write-back: E sets. -/
def evict (sl set_ way : Nat) (s : State) : Option State :=
  let l := s.tagSet sl set_
  match l[way]? with
  | some t => (writeBack sl t.block s).map fun s => if s.dramUp sl then s.setTags sl set_ (updWay l way fun t => { t with e := true }) else s
  | none => none

/-- Under journal pressure each stream writes back the blocks of its oldest live records (R123); those of an owner map, which no tag names, too. -/
def pressure (k : Nat) (s : State) : State :=
  if s.journalBytes < 12 * 2 ^ 30 then s
  else
    let bs := ((s.stream k).pages.head?.map fun p => ((p.recs.filter fun r => r.live && r.state.isNone).map fun r => r.line / 128).dedup).getD []
    bs.foldl (fun s b =>
      match s.regionOfBlock b with
      | some (_, g) =>
        match s.memberOf g with
        | some m =>
          let sl := s.blockHome g m b
          let n := (s.sliceList g.tenant).length
          if s.pinned sl b then (writeBack sl b s).getD s
          else
            let st := s.setIndex sl n b
            match wayOf (s.tagSet sl st) b with
            | some w => if ((s.tagSet sl st).getD w ⟨false, false, true, false, 0, 0⟩).e then s else (evict sl st w s).getD s
            | none => if g.kind = 1 ∧ g.shadow ≤ b * 16384 ∧ !(s.tier.dense.any fun d => d.pages.any fun p => p.page.block = b) then (writeBack sl b s).getD s else s
        | none => s
      | none => s) s

/-- The dense copy of a block has verified (R122): the map points to it; E clears, D clears unless RD is set; the block's records up to
the recorded SEQ are obsolete. -/
def wbVerified (sl b upTo : Nat) (l : PLoc) (t : TenantId) (s : State) : State :=
  let old := s.tier.fmap.find b
  let s := logAppend sl (s.updTier fun x => { x with fmap := x.fmap.ins b (.dense l) })
  let st := s.setIndex sl (s.sliceList t).length b
  let tg := s.tagSet sl st
  let rd := match wayOf tg b with | some w => (tg.getD w ⟨false, false, false, false, 0, 0⟩).rd | none => true
  let s := match wayOf tg b with
    | some w => s.setTags sl st (updWay tg w fun x => { x with e := false, d := x.rd, rd := false })
    | none => s
  let s := obsolete (streamKey (wbQuarter sl) t) b (if rd then upTo - 1 else upTo) s
  match old with | some (.dense o) => releaseEmpty o.sb s | some .lost | none => s

end Sys2Proof.Machine
end

