-- ==== Sys2Proof/Machine/Xlat.lean ====
section
/-! DEFINITION. Translation (R43 to R55, R69, R71, R489): live handles, segments, page-table entries, the translation cache, the checks
of R69 and their capture (R72). -/

namespace Sys2Proof.Machine

def ctxIndex (h : W16) : Nat := h.toNat % 4096

/-- The context of a live handle (R43). -/
def State.liveCtx (s : State) (h : W16) : Option Ctx :=
  match s.ctx.tab.find (ctxIndex h) with
  | some c => if c.st ≠ 0 ∧ s.ctx.incs.get 0 (ctxIndex h) = h.toNat / 4096 then some c else none
  | none => none

/-- The context home quarter of a live handle with a steering entry (R32). -/
def State.homeOf (s : State) (h : W16) : Option Nat :=
  match s.liveCtx h with | some _ => s.ctx.steer.find (ctxIndex h) | none => none

/-! ### Segments and entries -/

structure Seg where
  v : Bool
  r : Bool
  w : Bool
  huge : Bool
  atom : Bool
  base : Nat
  limit : Nat
  pt : Nat
deriving DecidableEq, Repr

def segOf (d : Bytes) : Seg :=
  let w := leAt d 0 4
  ⟨bit w 0, bit w 1, bit w 2, bit w 3, bit w 4, leAt d 8 8, leAt d 16 8, leAt d 24 8⟩

def Seg.page (g : Seg) : Nat := if g.huge then 2 ^ 33 else 2 ^ 28

/-- The valid segment that contains a CA, with its number (R46). -/
def findSeg (ca : Nat) : Nat → List Bytes → Option (Nat × Seg)
  | _, [] => none
  | n, d :: r =>
    let g := segOf d
    if g.v ∧ g.base ≤ ca ∧ ca < g.base + g.limit then some (n, g) else findSeg ca (n + 1) r

/-- Does an operation need read permission, write permission, ATOM (R489)? Operations are numbered as REQ opcodes. -/
def needR (op : Nat) (nr : Bool) : Bool := op = 1 || op = 2 || op = 3 || op = 4 || op = 0x11 || (op = 7 && !nr)
def needW (op : Nat) : Bool := op = 3 || op = 4 || op = 5 || op = 6 || op = 7 || op = 0x10

/-- Is an operation allowed on a region kind (R489)? -/
def kindAllows (op kind : Nat) : Bool :=
  match op with
  | 1 => true
  | 2 | 3 | 4 => kind = 1
  | 5 | 6 | 7 => kind = 0 || kind = 1
  | 0x10 | 0x11 => kind = 2
  | _ => false

/-! ### Translation cache (R53) -/

def State.tcFind (s : State) (q : Nat) (h : W16) (seg page : Nat) : Option TcEnt :=
  (s.pool.tcache.toList.getD q []).find? fun e => e.handle = h && e.seg = seg && e.page = page

def State.setTc (s : State) (q : Nat) (l : List TcEnt) : State :=
  if h : q < 4 then { s with pool := { s.pool with tcache := s.pool.tcache.set q l } } else s

/-- An entry becomes most recently used; at most 4,096 stay. -/
def tcUse (q : Nat) (e : TcEnt) (s : State) : State :=
  s.setTc q ((e :: (s.pool.tcache.toList.getD q []).filter fun x => !(x.handle = e.handle && x.seg = e.seg && x.page = e.page)).take 4096)

/-- Every quarter drops the entries taken from a page-table line (R54). -/
def tcDropLine (spaLine : Nat) (s : State) : State :=
  { s with pool := { s.pool with tcache := s.pool.tcache.map fun l => l.filter fun e => e.spaLine ≠ spaLine } }

/-! ### Lines that can be read at once -/

/-- The region that holds an SPA. -/
def State.regionOfSpa (s : State) (a : Nat) : Option (Nat × Region) :=
  s.rgn.tab.find? fun e => e.2.st ≠ 0 && e.2.spa ≤ a && a < e.2.spa + e.2.len

/-- Channel state of a slice. -/
def State.chanSt (s : State) (sl : Nat) : Nat := (s.chan (chanOf sl)).st

/-- Does a block stand in DRAM: pinned, or in a way of its set, on a channel in use? -/
def State.resident (s : State) (sl : Nat) (t : TenantId) (b : Nat) : Bool :=
  (s.chanSt sl = 2 || s.chanSt sl = 3) &&
    (s.pinned sl b || (wayOf (s.tagSet sl (s.setIndex sl (s.sliceList t).length b)) b).isSome)

/-- The line of which a tracker's lock is the lock. -/
def State.lockHeld (s : State) (line : Nat) : Bool := s.pool.trks.any fun t => t.locked && t.lk = line

/-- Can a line of this device be read at once: resident, not held in O, not locked? -/
def State.directLine (s : State) (sl : Nat) (t : TenantId) (dpa : Nat) : Bool :=
  s.resident sl t (dpa / 16384) && !s.lockHeld (dpa / 128) &&
    (match s.pool.dir.find (dpa / 128) with | some e => e.st ≠ 2 | none => true)

/-- A page-table line is read (R53, R69 check 0x04): its bytes, a refusal with its hint, or nothing yet. -/
inductive PtRead where
  | line (b : Bytes)
  | refused (st : Byte) (hint : Nat)
  | wait
deriving DecidableEq, Repr

def State.ptRead (s : State) (a : Nat) : PtRead :=
  match s.regionOfSpa a with
  | none => .refused stBAD_DESCRIPTOR 0
  | some (_, g) =>
    if g.st = 2 then .refused stRETRY_BUSY (hintNs 100000)
    else if g.st ≠ 1 then .refused stFATAL_REGION 0
    else
      let (m, dpa) := spaToDpa g a
      if s.isMe (g.memberId m) then
        if s.directLine (s.homeSlice g.tenant (dpa / 16384)) g.tenant dpa then
          if s.poison.contains (dpa / 128) then .refused stPOISON 0 else .line (Memory.readN s.mem (dpa / 128 * 128) 128)
        else .wait
      else .wait

/-! ### The checks of R69 -/

inductive Xl where
  | ok (region : Nat) (g : Region) (m dpa ptLine : Nat)
  | fail (code : Nat) (st : Byte) (hint : Nat)
  | miss (spaLine : Nat)
deriving DecidableEq, Repr

/-- Checks 0x05 to 0x0D on an entry. `src`: the requester's tenant in the host table; `slot`: it holds a sharer slot. -/
def State.checkPte (s : State) (g : Seg) (off pte spaLine op : Nat) (nr fwd : Bool) (src : Option TenantId) (ct : TenantId) (slot : Bool) :
    Xl :=
  let frame := bits pte 55 28
  let n := bits pte 27 16
  if !bit pte 0 then .fail 5 stNO_ACCESS 0
  else if bits pte 63 56 ≠ 0 ∨ bits pte 15 3 ≠ 0 ∨ (g.huge ∧ frame % 32 ≠ 0) then .fail 6 stBAD_DESCRIPTOR 0
  else if (needR op nr ∧ !bit pte 1) ∨ (needW op ∧ !bit pte 2) then .fail 7 stNO_ACCESS 0
  else
    match s.region n with
    | none => .fail 8 stBAD_DESCRIPTOR 0
    | some r =>
      let a := frame * 2 ^ 28
      if r.st = 0 ∨ a < r.spa ∨ r.spa + r.len < a + g.page then .fail 8 stBAD_DESCRIPTOR 0
      else if r.st = 3 ∨ r.st = 4 then .fail 9 stFATAL_REGION 0
      else if r.st = 2 then .fail 0xA stRETRY_BUSY (hintNs 100000)
      else if src ≠ some r.tenant ∨ ct ≠ r.tenant then .fail 0xB stNO_ACCESS 0
      else if !kindAllows op r.kind ∨ (r.kind = 1 ∧ (op = 2 ∨ op = 3 ∨ op = 4) ∧ !slot) then .fail 0xC stNO_ACCESS 0
      else
        let (m, dpa) := spaToDpa r (a + off % g.page)
        if fwd ∧ !s.isMe (r.memberId m) then .fail 0xD stBAD_DESCRIPTOR 0 else .ok n r m dpa spaLine

/-- CA to region, member and DPA (R69), with the translation-cache state after it. `len`: bytes. -/
def xlate (q : Nat) (h : W16) (c : Ctx) (op ca len : Nat) (nr fwd : Bool) (src : Option TenantId) (slot : Bool) (s : State) : Xl × State :=
  match findSeg ca 0 c.segs with
  | none => (.fail 1 stNO_ACCESS 0, s)
  | some (n, g) =>
    if (needR op nr ∧ !g.r) ∨ (needW op ∧ !g.w) ∨ (op = 7 ∧ !g.atom) then (.fail 2 stNO_ACCESS 0, s)
    else if ca / 16384 ≠ (ca + len - 1) / 16384 then (.fail 3 stBAD_DESCRIPTOR 0, s)
    else
      let off := ca - g.base
      let page := off / g.page
      let spa := g.pt + 8 * page
      let line := spa / 128 * 128
      match s.tcFind q h n page with
      | some e => (s.checkPte g off e.pte line op nr fwd src c.tenant slot, tcUse q e s)
      | none =>
        match s.ptRead line with
        | .line b =>
          let pte := leAt b (spa - line) 8
          let s := tcUse q ⟨h, n, page, pte, line⟩ (s.count .XLAT_TC_MISS q)
          (s.checkPte g off pte line op nr fwd src c.tenant slot, s)
        | .refused st hint => (.fail 4 st hint, s.count .XLAT_TC_MISS q)
        | .wait => (.miss line, s.count .XLAT_TC_MISS q)

/-- A line of page-table entries read through an access is installed: the entry that the request needs (R53). -/
def tcInstall (q : Nat) (h : W16) (c : Ctx) (ca line : Nat) (b : Bytes) (s : State) : State :=
  match findSeg ca 0 c.segs with
  | none => s
  | some (n, g) =>
    let page := (ca - g.base) / g.page
    let spa := g.pt + 8 * page
    if spa / 128 * 128 = line then tcUse q ⟨h, n, page, leAt b (spa - line) 8, line⟩ s else s

/-- An event of class 5 at a slice: DPA, slot, source and handle in DATA. -/
def homeEv (k : EvKind) (sl cause : Nat) (st : Byte) (t : Nat) (dpa slot : Nat) (src h : W16) (s : State) : State :=
  logEv ⟨5, k, sl, cause, st, 0, t, toLe 6 dpa ++ toLe 2 slot ++ toLe 2 src.toNat ++ toLe 2 h.toNat⟩ s

/-- A failed check counts and is captured (R69, R72, R36). -/
def xlatFault (q code : Nat) (h src : W16) (ca : Nat) (s : State) : State :=
  let s := s.count .XLAT_FAULT_CNT q
  let s :=
    if s.rfld .XLAT_CTL q 0 0 = 1 then
      if s.rfld .XLAT_FAULT_STAT q 31 31 = 1 then s.setFld .XLAT_FAULT_STAT q 30 30 1
      else
        let s := s.setReg .XLAT_FAULT_STAT q (w32 (2 ^ 31 + code * 65536 + h.toNat))
        let s := s.setReg .XLAT_FAULT_CA_LO q (w32 ca)
        (s.setReg .XLAT_FAULT_CA_HI q (w32 (ca / 2 ^ 32))).setReg .XLAT_FAULT_SRC q (w32 src.toNat)
    else s
  if code = 0xB then
    let t := match s.liveCtx h with | some c => c.tenant.val | none => 0xFF
    homeEv .security (4 * q) code stNO_ACCESS t 0 0 src h s
  else s

end Sys2Proof.Machine
end

