-- ==== Sys2Proof/Machine/Home.lean ====
section
/-! DEFINITION. The line home (R31 steps 9 to 12): trackers (R146, R329, R330), residency of a block (R83, R84, R103, R117), line reads
and writes with their journal records (R97, R118), the directory (R150 to R165) and the snoops it sends. -/

namespace Sys2Proof.Machine

/-! ### Trackers -/

def State.trk (s : State) (id : Nat) : Option Trk := s.pool.trks.find? fun t => t.id = id

def State.updTrk (s : State) (id : Nat) (f : Trk → Trk) : State :=
  { s with pool := { s.pool with trks := s.pool.trks.map fun t => if t.id = id then f t else t } }

def State.waitTrk (s : State) (id : Nat) (w : Wait) : State := s.updTrk id fun t => { t with wait := w }

/-- Trackers that wait for `w` and satisfy `p` run again. -/
def wake (w : Wait) (p : Trk → Bool) (s : State) : State :=
  { s with pool := { s.pool with trks := s.pool.trks.map fun t => if t.wait = w && t.ans.isNone && p t then { t with wait := .ready } else t } }

/-- Trackers of a quarter that hosts hold, those of internal work, and in all. WB and victim entries take none (R146). -/
def Trk.quarter (t : Trk) : Nat := t.id / 4096
def State.heldBy (s : State) (q e : Nat) : Nat :=
  (s.pool.trks.filter fun t => t.quarter = q && (match t.who with | .host x => x = e | .acc _ | .wb _ | .victim _ => false)).length
def State.internalIn (s : State) (q : Nat) : Nat :=
  (s.pool.trks.filter fun t => t.quarter = q && (match t.who with | .acc _ => true | .host _ | .wb _ | .victim _ => false)).length
def State.inUse (s : State) (q : Nat) : Nat :=
  (s.pool.trks.filter fun t => t.quarter = q && (match t.who with | .acc _ | .host _ => true | .wb _ | .victim _ => false)).length

def State.resv (s : State) (e : Nat) : Nat := s.rfld .HOST_CFG e 2 0

/-- Σ over hosts of max(RESV, held): each host's reservation, and what it holds beyond it (R329). -/
def State.hostSum (s : State) (q : Nat) : Nat :=
  ((s.hostList.map fun h => max (s.resv h.1) (s.heldBy q h.1)).sum)

/-- May this requester take a tracker of the quarter (R329)? -/
def State.mayTrack (s : State) (q : Nat) (w : Who) : Bool :=
  let room := 256 + s.hostSum q + (s.internalIn q - 256) < 4096
  match w with
  | .host e => s.heldBy q e < s.resv e || room
  | .acc _ => s.internalIn q < 256 || room
  | .wb _ | .victim _ => true

/-- The lowest number of the quarter that is free. -/
def State.freeTrk (s : State) (q : Nat) : Nat :=
  let used := (s.pool.trks.filter fun t => t.quarter = q).map Trk.id
  ((List.range (used.length + 1)).map (q * 4096 + ·)).find? (fun i => !used.contains i) |>.getD (q * 4096)

/-- The load level of an answer (R330). -/
def State.loadLevel (s : State) (q : Nat) (durable : Bool) : Nat :=
  let t := min 15 (16 * s.inUse q / 4096)
  if durable then max t (min 15 (16 * s.journalBytes / 2 ^ 34)) else t

/-! ### Answers -/

def cmpMsg (r : ReqMsg) (st : Byte) (hint : Nat := 0) : Msg :=
  { cls := .rsp, op := 1, dst := r.src, src := r.dst, tag := r.tag, status := st, hint := hint }

def datMsg (op : Nat) (r : ReqMsg) (data : Bytes) (len : Nat := 0) (near : Bool := false) : Msg :=
  { cls := .dat, op := op, dst := r.src, src := r.dst, tag := r.tag, len := len, flags := b2n near * 4, payload := data }

/-! ### Lines of DRAM -/

def State.updAcc (s : State) (n : Nat) (f : Acc → Acc) : State :=
  { s with work := { s.work with accs := s.work.accs.map fun a => if a.n = n then f a else a } }

/-- The channel line of line `dl` (DPA / 128) of a tenant's block on a slice; 0 where it has none. -/
def State.chLine (s : State) (sl : Nat) (t : TenantId) (dl : Nat) : Nat :=
  (s.chanLine sl (s.sliceList t).length (dl / 128) (dl % 128)).getD 0

/-- Does the block stand in the slice's staging buffer (R103)? -/
def State.inBypass (s : State) (sl b : Nat) : Bool := s.pool.bypass.toList.getD sl none = some b

/-- An access takes its rank out of power-down (R89). -/
def wakeRank (sl line : Nat) (s : State) : State :=
  let c := chanOf sl
  let r := (coordOf (s.chan c).ranks line).rank
  if bit (s.chan c).pd r then s.updChan c fun k => { k with pd := setBits k.pd r r 0 } else s

/-- A line is read: does it read POISON? Through the symbol code where it stands in DRAM. -/
def loadLine (sl : Nat) (t : TenantId) (dl : Nat) (s : State) : Bool × State :=
  if s.chanSt sl = 2 ∨ (s.chanSt sl = 3 ∧ !s.inBypass sl (dl / 128)) then
    readLine (chanOf sl) (s.chLine sl t dl) dl false (wakeRank sl (s.chLine sl t dl) s)
  else (s.poison.contains dl, s)

/-- A block in the cache area becomes newer than its flash copy: D, or RD where a write-back is in progress (R80, R84). -/
def markDirty (sl : Nat) (t : TenantId) (b : Nat) (s : State) : State :=
  let st := s.setIndex sl (s.sliceList t).length b
  let l := s.tagSet sl st
  match wayOf l b with
  | some w =>
    if s.pinned sl b then s
    else tagcUse sl st true (s.setTags sl st (updWay l w fun x => if x.e then { x with rd := true } else { x with d := true }))
  | none => s

/-- Bytes are written from a DPA within one line; a whole line replaces the marker. -/
def storeBytes (sl : Nat) (t : TenantId) (dpa : Nat) (b : Bytes) (s : State) : State :=
  let dl := dpa / 128
  let s := (wakeRank sl (s.chLine sl t dl) (cleanLine (chanOf sl).val (s.chLine sl t dl) s)).count .DDR_WR_BYTES sl 128
  let s := markDirty sl t (dl / 128) { s with mem := Memory.writeN s.mem dpa b }
  if b.length = 128 then { s with poison := delUp dl s.poison } else s

/-- The poison marker is written into a line. -/
def storeMarker (sl : Nat) (t : TenantId) (dl : Nat) (s : State) : State :=
  let s := (cleanLine (chanOf sl).val (s.chLine sl t dl) s).count .DDR_WR_BYTES sl 128
  markDirty sl t (dl / 128) { s with poison := insUp dl s.poison }

/-- The changed lines of a durable region are journalled (R118, R186); the page they wait for. -/
def journalLines (sl : Nat) (n : Nat) (g : Region) (lines : List Nat) (extra : List JRec) (s : State) : List (Nat × Nat) × State :=
  if !g.durable ∨ (lines = [] ∧ extra = []) then ([], s)
  else
    let (p, s) := journalAdd (sl / 4) g.tenant (lines.map (fun l => s.lineRec l n) ++ extra) s
    ([p], pressure p.1 s)

/-! ### Residency (R83, R84, R103, R117) -/

inductive Res where
  | ok
  | wait (w : Wait)
  | refuse (st : Byte) (hint : Nat)
deriving DecidableEq, Repr

/-- A block's image takes its place in DRAM, or in the staging buffer. -/
def putImage (b region : Nat) (t : TenantId) (s : State) : Bool × State :=
  let (cells, bad, newer) := s.tierImage b region t
  (newer, { s with mem := Memory.paste s.mem (b * 16384) 16384 cells,
                   poison := bad.foldl (fun p l => insUp (b * 128 + l) p) (s.poison.filter fun l => l / 128 ≠ b) })

/-- The fill of a block into a way completes. -/
def install (sl set_ w b region : Nat) (t : TenantId) (s : State) : State :=
  let (newer, s) := putImage b region t s
  let s := s.count .DDR_WR_BYTES sl 16384
  tagcUse sl set_ true (s.setTags sl set_ (touchWay (updWay (s.tagSet sl set_) w fun x =>
    { x with v := true, d := newer, e := false, rd := false, block := b }) w))

/-- A block is unrecoverable (R128). -/
def blockLost (sl b region car : Nat) (t : TenantId) (s : State) : State :=
  let s := s.updTier fun x => { x with fmap := x.fmap.ins b .lost }
  let s := (logAppend sl s).count .LOST_BLK_CNT
  logEv ⟨4, .dataLoss, car, 0, stPOISON, 0, t.val, toLe 5 b ++ toLe 2 region⟩ s

/-- The fetch of a block begins: at once where no flash read is needed, else a read goes out (R117, R493). True: the image can be
put now. -/
def fetch (sl b region : Nat) (t : TenantId) (s : State) : Bool × State :=
  match s.tier.fmap.find b with
  | none | some .lost => (true, s)
  | some (.dense l) => if s.readWay l = 2 then (true, blockLost sl b region l.carrier t s) else (false, s)

/-- The way with the highest AGE that has no write-back and no fill in progress (R84). -/
def State.victimWay (s : State) (sl set_ : Nat) : Option Nat :=
  let l := (List.range 8).zip (s.tagSet sl set_)
  let busy (w : Nat) : Bool := s.pool.fills.any fun f => f.slice = sl && f.set_ = set_ && f.way = w
  (l.filter fun x => !x.2.e && !busy x.1).foldl (fun (best : Option (Nat × Nat)) x =>
    match best with | none => some (x.1, x.2.age) | some (_, a) => if a < x.2.age then some (x.1, x.2.age) else best) none
    |>.map Prod.fst

def State.putFill (s : State) (f : Fill) : State :=
  { s with pool := { s.pool with fills := (s.pool.fills.filter fun x => !(x.block = f.block && x.slice = f.slice)) ++ [f] } }
def State.dropFill (s : State) (b sl : Nat) : State :=
  { s with pool := { s.pool with fills := s.pool.fills.filter fun x => !(x.block = b && x.slice = sl) } }

/-- A fill looks for a way (R84): a clean victim makes room at once, a dirty one is first written back. -/
def startFill (sl set_ b region : Nat) (t : TenantId) (s : State) : Res × State :=
  match s.victimWay sl set_ with
  | none => (.wait .way, s.putFill ⟨b, sl, set_, 8, region⟩)
  | some w =>
    let tg := (s.tagSet sl set_).getD w ⟨false, false, false, false, 0, 0⟩
    if tg.v ∧ tg.d then
      if s.tierCode = 3 ∨ s.tierCode = 4 then (.refuse stRETRY_BUSY (hintNs 1000000000), s.dropFill b sl)
      else (.wait .way, ((evict sl set_ w s).getD s).putFill ⟨b, sl, set_, 8, region⟩)
    else
      let s := if tg.v then dropBlock tg.block s else s
      let s := s.setTags sl set_ (updWay (s.tagSet sl set_) w fun x => { x with v := false, d := false })
      match fetch sl b region t s with
      | (true, s) => (.ok, (install sl set_ w b region t s).dropFill b sl)
      | (false, s) => (.wait .fill, s.putFill ⟨b, sl, set_, w, region⟩)

def State.setBypass (s : State) (sl : Nat) (b : Option Nat) : State :=
  if h : sl < 16 then { s with pool := { s.pool with bypass := s.pool.bypass.set sl b } } else s

/-- One block of the slice is fetched into the staging buffer (R103). -/
def bypassFetch (sl b region : Nat) (t : TenantId) (s : State) : Res × State :=
  match s.pool.bypass.toList.getD sl none with
  | some x => if x ≠ b then (.wait .bypass, s) else if s.pool.fills.any (fun f => f.block = b && f.slice = sl) then (.wait .fill, s) else (.ok, s)
  | none =>
    let s := (s.setBypass sl (some b)).count .DDR_BYPASS_CNT sl
    match fetch sl b region t s with
    | (true, s) => (.ok, (putImage b region t s).2)
    | (false, s) => (.wait .fill, s.putFill ⟨b, sl, 0, 9, region⟩)

/-- A block is brought to where the home can serve it (R82, R83, R101, R103). -/
def ensure (sl b region : Nat) (g : Region) (s : State) : Res × State :=
  let t := g.tenant
  let c := s.chanSt sl
  if c = 1 then (.wait .chan, s)
  else if c = 2 ∨ c = 3 then
    if s.pinned sl b then (.ok, s)
    else
      let set_ := s.setIndex sl (s.sliceList t).length b
      let known := (s.tagc.get [] (sl * 2048 + set_ % 2048)).any fun w => w.set_ = set_
      let s := tagcUse sl set_ false (if known then s else readTagLine (chanOf sl) set_ false s)
      let l := s.tagSet sl set_
      match wayOf l b with
      | some w => (.ok, s.setTags sl set_ (touchWay l w))
      | none =>
        if c = 3 then bypassFetch sl b region t s
        else if s.resizing (chanOf sl) then (.wait .way, s)
        else if s.inBypass sl b then (.wait .bypass, s)
        else
          match s.pool.fills.find? fun f => f.block = b && f.slice = sl with
          | some f => (.wait (if f.way = 8 then .way else .fill), s)
          | none => startFill sl set_ b region t s
  else if g.pinned ∧ !g.durable then (.refuse stPOISON 0, s)
  else bypassFetch sl b region t s

/-- Blocks are brought in one by one. -/
def ensureAll (sl region : Nat) (g : Region) : List Nat → State → Res × State
  | [], s => (.ok, s)
  | b :: r, s =>
    match ensure sl b region g s with
    | (.ok, s) => ensureAll sl region g r s
    | (.wait w, s) => (.wait w, s)
    | (.refuse st h, s) => (.refuse st h, s)

/-- The staging buffer's block leaves it: what was written goes the way of its region's durability (R103): a durable block's records
stand in the journal; a volatile one's page joins a dense stripe and stays until that has verified. -/
def bypassEnd (sl b : Nat) (g : Region) (wrote : Bool) (s : State) : State :=
  if s.pool.bypass.toList.getD sl none ≠ some b then s
  else if wrote ∧ !g.durable then (writeBack sl b s).getD s
  else wake .bypass (fun t => t.slice = sl) (dropBlock b (s.setBypass sl none))

/-! ### Directory (R150 to R153, R164, R165) -/

/-- Sets and ways of a slice's directory in effect (R151, R152, R166). -/
def State.dirGeom (s : State) (sl : Nat) : Nat × Nat :=
  let c := (s.chan (chanOf sl))
  if (c.st = 2 ∨ c.st = 3) ∧ c.dirG ≠ 0 then (min 32 c.dirG * 8192, 16) else (4096, 4)

def State.dirIdx (s : State) (sl : Nat) (t : TenantId) (line : Nat) : Nat :=
  (line / 128 / max 1 (s.sliceList t).length * 128 + line % 128) % (s.dirGeom sl).1

/-- Entries of a slice's set, with their lines. -/
def State.dirSet (s : State) (sl : Nat) (t : TenantId) (set_ : Nat) : List (Nat × DirEnt) :=
  s.pool.dir.filter fun e => e.2.tenant = t && s.homeSlice t (e.1 / 128) = sl && s.dirIdx sl t e.1 = set_

def State.updDir (s : State) (f : Sparse DirEnt → Sparse DirEnt) : State := { s with pool := { s.pool with dir := f s.pool.dir } }

def State.setEnt (s : State) (line : Nat) (e : DirEnt) : State := s.updDir fun d => d.ins line e

/-- A lookup in the directory cache: hit or miss counts, the line becomes most recently used (R152). A miss reads the store, and the
entry that leaves, whose LRU its use changed, is written to it (R448). -/
def dirUse (sl : Nat) (t : TenantId) (line : Nat) (s : State) : State :=
  let k := sl * 4096 + s.dirIdx sl t line % 4096
  let l := s.pool.dirc.get [] k
  let hit := l.contains line
  let s := s.count (if hit then .DIR_HIT else .DIR_MISS) sl
  let l := line :: l.filter (· ≠ line)
  let s := if (s.chan (chanOf sl)).dirG = 0 then s
    else (s.count .DDR_RD_BYTES sl (if hit then 0 else 128)).count .DDR_WR_BYTES sl
      (128 * ((l.drop 4).filter fun x => (s.pool.dir.find x).isSome).length)
  { s with pool := { s.pool with dirc := s.pool.dirc.put [] k (l.take 4) } }

/-- An entry becomes the most recently used of its set: those below it age by one (R150). -/
def dirTouch (sl : Nat) (t : TenantId) (line : Nat) (s : State) : State :=
  match s.pool.dir.find line with
  | none => s
  | some e =>
    let set_ := s.dirIdx sl t line
    let ls := (s.dirSet sl t set_).map Prod.fst
    s.updDir fun d => d.map fun x =>
      if x.1 = line then (x.1, { x.2 with lru := 0 })
      else if ls.contains x.1 ∧ x.2.lru < e.lru then (x.1, { x.2 with lru := x.2.lru + 1 }) else x

def DirEnt.fresh (t : TenantId) (region n : Nat) : DirEnt :=
  { st := 0, pred := 1, lru := n, laV := false, lastAtom := 0, tenant := t, region := region, owner := 0, sharers := [] }

/-- The victim of a full set: unlocked, in I first, then the highest LRU (R164). -/
def State.dirVictim (s : State) (es : List (Nat × DirEnt)) : Option (Nat × DirEnt) :=
  let free := es.filter fun e => !s.lockHeld e.1
  let pick (l : List (Nat × DirEnt)) : Option (Nat × DirEnt) :=
    l.foldl (fun b e => match b with | none => some e | some x => if x.2.lru < e.2.lru then some e else some x) none
  match pick (free.filter fun e => e.2.st = 0) with
  | some e => some e
  | none => pick free

/-- Does slot r hold the line? -/
def DirEnt.holds (e : DirEnt) (r : Nat) : Bool := if e.st = 2 then e.owner = r else e.st = 1 && e.sharers.contains r

def DirEnt.holders (e : DirEnt) : List Nat := if e.st = 2 then [e.owner] else if e.st = 1 then e.sharers else []

/-- A slot leaves an entry. -/
def DirEnt.leave (e : DirEnt) (r : Nat) : DirEnt :=
  if e.st = 2 ∧ e.owner = r then { e with st := 0, sharers := [] }
  else
    let l := e.sharers.filter (· ≠ r)
    if e.st = 1 then { e with sharers := l, st := if l = [] then 0 else 1 } else e

/-! ### Owner map (R396) -/

/-- A line's bit of the owner map changes; the record of the map's line. -/
def ownerMark (n : Nat) (g : Region) (line : Nat) (val : Bool) (s : State) : List JRec × State :=
  if g.kind = 1 ∧ g.durable then
    match s.memberOf g with
    | some m =>
      let (a, i) := ownerBit g m (s.sliceList g.tenant).length (line / 128) (line % 128)
      let old := (Memory.read s.mem a).toNat
      if bit old i = val then ([], s)
      else
        let s := { s with mem := Memory.write s.mem a (byte (setBits old i i (b2n val))) }
        ([s.lineRec (a / 128) n], s)
    | none => ([], s)
  else ([], s)

/-! ### Snoops (R149, R155, R159 to R161) -/

/-- A snoop to a slot expires, or is taken as expired: the owner's line will hold the marker, a sharer's bit clears; the slot is
UNRESPONSIVE, with one event the first time (R160). -/
def snoopExpired (id slot : Nat) (s : State) : State :=
  match s.trk id with
  | none => s
  | some t =>
    let line := t.dpa / 128
    let own := match s.pool.dir.find line with | some e => e.st = 2 && e.owner = slot | none => false
    let s : State := match s.pool.dir.find line with | some e => s.setEnt line (e.leave slot) | none => s
    let s := s.updTrk id fun t => { t with poisoned := t.poisoned || own, snoops := t.snoops.filter fun x => x.slot ≠ slot }
    let q := t.slice / 4
    let s := s.count .SNP_TIMEOUT_CNT q
    let s : State :=
      if s.rfld .SNP_CAP_STAT q 31 31 = 1 then s.setFld .SNP_CAP_STAT q 30 30 1
      else
        let s := s.setReg .SNP_CAP_STAT q (w32 (2 ^ 31 + t.tenant.val * 512 + slot))
        (s.setReg .SNP_CAP_DPA_LO q (w32 t.dpa)).setReg .SNP_CAP_DPA_HI q (w32 (t.dpa / 2 ^ 32))
    if s.slotSt t.tenant slot = 1 then s
    else homeEv .timeout t.slice 0 0 t.tenant.val t.dpa slot 0 0 (s.setSlot t.tenant slot 1)

/-- One snoop goes out; a slot that is UNRESPONSIVE counts as expired at once (R161). -/
def sendSnoop (id : Nat) (inv : Bool) (slot : Nat) (s : State) : State :=
  match s.trk id with
  | none => s
  | some t =>
    if s.slotSt t.tenant slot = 1 then snoopExpired id slot s
    else
      match s.slotHost t.tenant slot, s.region t.region with
      | some a, some g =>
        let spa := dpaToSpa g ((s.memberOf g).getD 0) (t.dpa / 128 * 128)
        let s := (send { cls := .snp, op := if inv then 1 else 2, dst := a, src := s.myId, tag := w16 id, handle := w16 t.region,
                         addr := spa } s).count .SNP_SENT_CNT (t.slice / 4)
        s.updTrk id fun t => { t with snoops := t.snoops ++ [⟨slot, s.time.nclk + usec (max 1 (min 10000 (s.rfld .HOME_CFG (t.slice / 4) 15 0))), inv, false, false⟩],
                                      sentInv := t.sentInv || (inv && t.slot ≠ some slot) }
      | _, _ => snoopExpired id slot s

/-- Snoops in ascending slot order. -/
def sendSnoops (id : Nat) (inv : Bool) (slots : List Nat) (s : State) : State :=
  slots.foldl (fun s x => sendSnoop id inv x s) s

end Sys2Proof.Machine
end

