-- ==== Sys2Proof/Machine/Num.lean ====
section
/-! DEFINITION. Binary floating-point values as exact dyadic numbers: decoding, round to nearest even, encoding (IEEE 754 formats as
R171, R175 and the kernel formats use them). -/

namespace Sys2Proof.Machine

/-- A value of a binary format: NaN, an infinity, or (−1)^neg × m × 2^e exactly. -/
inductive FVal where
  | nan
  | inf (neg : Bool)
  | fin (neg : Bool) (m : Nat) (e : Int)
deriving DecidableEq, Repr

/-- A format: exponent bits, mantissa bits. -/
structure Fmt where
  eb : Nat
  mb : Nat
deriving DecidableEq, Repr

def f32 : Fmt := ⟨8, 23⟩
def bf16 : Fmt := ⟨8, 7⟩
def f16 : Fmt := ⟨5, 10⟩

def Fmt.bias (f : Fmt) : Nat := 2 ^ (f.eb - 1) - 1
def Fmt.width (f : Fmt) : Nat := 1 + f.eb + f.mb

/-- The value a pattern stands for. -/
def Fmt.dec (f : Fmt) (w : Nat) : FVal :=
  let neg := w.testBit (f.eb + f.mb)
  let e := w / 2 ^ f.mb % 2 ^ f.eb
  let m := w % 2 ^ f.mb
  if e = 2 ^ f.eb - 1 then (if m = 0 then .inf neg else .nan)
  else if e = 0 then .fin neg m (1 - (f.bias : Int) - f.mb)
  else .fin neg (2 ^ f.mb + m) ((e : Int) - f.bias - f.mb)

/-- m / 2^k rounded to nearest, ties to even. -/
def rneShift (m k : Nat) : Nat :=
  let q := m / 2 ^ k
  let r := m % 2 ^ k
  if 2 * r > 2 ^ k ∨ (2 * r = 2 ^ k ∧ q % 2 = 1) then q + 1 else q

/-- m × 2^e as an integer, rounded to nearest even. -/
def rneInt (m : Nat) (e : Int) : Nat := if e < 0 then rneShift m (-e).toNat else m * 2 ^ e.toNat

/-- The sign bit of a format. -/
def Fmt.sign (f : Fmt) (neg : Bool) : Nat := b2n neg * 2 ^ (f.eb + f.mb)
def Fmt.infBits (f : Fmt) (neg : Bool) : Nat := f.sign neg + (2 ^ f.eb - 1) * 2 ^ f.mb
/-- The quiet NaN: 0x7FC0_0000 in binary32. -/
def Fmt.nanBits (f : Fmt) : Nat := (2 ^ f.eb - 1) * 2 ^ f.mb + 2 ^ (f.mb - 1)

/-- A value in a format, rounded to nearest even, subnormals kept, overflow to infinity. -/
def Fmt.enc (f : Fmt) (v : FVal) : Nat :=
  match v with
  | .nan => f.nanBits
  | .inf neg => f.infBits neg
  | .fin neg m e =>
    if m = 0 then f.sign neg
    else
      let top : Int := e + Nat.log2 m
      let lsb : Int := max top (1 - (f.bias : Int)) - f.mb
      let mant := rneInt m (e - lsb)
      let b := ((lsb + f.mb + f.bias - 1) * (2 : Int) ^ f.mb).toNat + mant
      if (2 ^ f.eb - 1) * 2 ^ f.mb ≤ b then f.infBits neg else f.sign neg + b

/-- The exact integer numerator over 2^−e. -/
def signed (neg : Bool) (m : Nat) : Int := if neg then -(m : Int) else m

/-- The exact sum of two finite values: a zero sum is +0 unless both are negative. -/
def FVal.add (a b : FVal) : FVal :=
  match a, b with
  | .nan, _ => .nan
  | _, .nan => .nan
  | .inf x, .inf y => if x = y then .inf x else .nan
  | .inf x, .fin _ _ _ => .inf x
  | .fin _ _ _, .inf y => .inf y
  | .fin x m e, .fin y n d =>
    let lo := min e d
    let s := signed x (m * 2 ^ (e - lo).toNat) + signed y (n * 2 ^ (d - lo).toNat)
    if s = 0 then .fin (x && y) 0 lo else .fin (s < 0) s.natAbs lo

/-- The exact product. -/
def FVal.mul (a b : FVal) : FVal :=
  match a, b with
  | .nan, _ => .nan
  | _, .nan => .nan
  | .inf x, .inf y => .inf (x != y)
  | .inf x, .fin y n _ => if n = 0 then .nan else .inf (x != y)
  | .fin x m _, .inf y => if m = 0 then .nan else .inf (x != y)
  | .fin x m e, .fin y n d => .fin (x != y) (m * n) (e + d)

def FVal.neg (a : FVal) : FVal :=
  match a with | .nan => .nan | .inf x => .inf (!x) | .fin x m e => .fin (!x) m e

def FVal.isNan (a : FVal) : Bool := match a with | .nan => true | .inf _ | .fin _ _ _ => false
def FVal.isInf (a : FVal) : Bool := match a with | .inf _ => true | .nan | .fin _ _ _ => false

/-- Order of two values that are not NaN: is a below b? -/
def FVal.lt (a b : FVal) : Bool :=
  match a.add b.neg with
  | .fin n m _ => n && m ≠ 0
  | .inf n => n
  | .nan => false

/-- A signed field of n bits. -/
def sint (n w : Nat) : Int := if w % 2 ^ n < 2 ^ (n - 1) then (w % 2 ^ n : Nat) else ((w % 2 ^ n : Nat) : Int) - 2 ^ n

/-- An integer in n bits, two's complement. -/
def uint (n : Nat) (i : Int) : Nat := (i % (2 : Int) ^ n).toNat

end Sys2Proof.Machine
end

