-- ==== Sys2Proof/Machine/Red.lean ====
section
/-! DEFINITION. Reduction regions at the line home (R174 to R188): where banks and records lie, conversion of contributed values,
contributions and their checks, and reads of results. -/

namespace Sys2Proof.Machine

/-! ### Places (R174, R177, R179) -/

/-- First block of a member's share. -/
def Region.b0 (g : Region) (m : Nat) : Nat := g.dpaBase m / 16384

/-- DPA of the RU that holds an element's DPA. -/
def ruOf (dpa : Nat) : Nat := dpa / 256 * 256

/-- DPA of the bank data at an element DPA. -/
def Region.bankAt (g : Region) (m bank dpa : Nat) : Nat :=
  if bank = 0 then dpa else g.shadow + (1 + (dpa / 16384 - g.b0 m) * g.shadowK) * 16384 + dpa % 16384

/-- DPA of an RU's record line 0. -/
def Region.recordAt (g : Region) (m dpa : Nat) : Nat :=
  g.shadow + (2 + (dpa / 16384 - g.b0 m) * g.shadowK) * 16384 + dpa % 16384 / 256 * g.recLines * 128

/-- The bitmap byte and bit of a contributor within an RU's record lines (R179). -/
def bitmapAt (c : Nat) : Nat × Nat := (if c < 896 then 16 + c / 8 else 128 + (c - 896) / 8, c % 8)

/-- RUs of a member. -/
def Region.ruCount (g : Region) (m : Nat) : Nat := g.share m / 256

/-- The blocks that an RU's record and a bank of it lie in. -/
def Region.redBlocks (g : Region) (m dpa bank : Nat) : List Nat :=
  let r := g.recordAt m dpa
  ([g.bankAt m bank dpa / 16384, r / 16384, (r + g.recLines * 128 - 1) / 16384]).dedup

/-! ### Generation numbers (R180) -/

/-- Is generation a older than b? -/
def older (a b : Nat) : Bool :=
  let d := (b + 2 ^ 32 - a % 2 ^ 32) % 2 ^ 32
  1 ≤ d && d ≤ 2 ^ 31 - 1

def nextGen (a : Nat) : Nat := (a + 1) % 2 ^ 32

/-- The member state line as the journal holds it. -/
def GenSt.bytes (x : GenSt) : Bytes :=
  toLe 1 x.st ++ toLe 4 x.gOpen ++ toLe 4 x.nOpen ++ toLe 4 x.gDone ++
    toLe 1 (b2n x.doneValid + 2 * b2n x.incomplete + 4 * b2n x.sat + 8 * b2n x.nan + 16 * b2n x.accSat + 32 * b2n x.accNan +
      64 * b2n x.closed + 128 * b2n x.fired) ++ toLe 4 x.nNext ++ toLe 4 x.ruDone

def GenSt.ofBytes (b : Bytes) : GenSt :=
  let f := leAt b 13 1
  { GenSt.init with st := leAt b 0 1, gOpen := leAt b 1 4, nOpen := leAt b 5 4, gDone := leAt b 9 4, doneValid := bit f 0,
                    incomplete := bit f 1, sat := bit f 2, nan := bit f 3, accSat := bit f 4, accNan := bit f 5, closed := bit f 6,
                    fired := bit f 7, nNext := leAt b 14 4, ruDone := leAt b 18 4 }

/-- The record of the member state line. -/
def stateRec (n : Nat) (x : GenSt) : JRec := ⟨0, n, [], false, some x.bytes, false⟩

/-- The flags of R180 as byte 11 of R188. -/
def GenSt.flags (x : GenSt) : Nat := b2n x.doneValid + 2 * b2n x.incomplete + 4 * b2n x.sat + 8 * b2n x.nan

/-! ### Contributed values (R175) -/

def vMax : Int := 2 ^ 47 - 1
def vMin : Int := -(2 ^ 47)

/-- One contributed value as an integer, with the SAT and NAN it sets. -/
def convert (cfmt frac w : Nat) : Int × Bool × Bool :=
  if cfmt = 3 then (sint 32 w, false, false)
  else
    match (if cfmt = 0 then f32 else if cfmt = 1 then bf16 else f16).dec w with
    | .nan => (0, false, true)
    | .inf neg => (if neg then vMin else vMax, true, false)
    | .fin neg m e =>
      let v := signed neg (rneInt m (e + frac))
      if v < vMin then (vMin, true, false) else if vMax < v then (vMax, true, false) else (v, false, false)

/-- Bytes per value of a contribution. -/
def cfmtBytes (cfmt : Nat) : Nat := if cfmt = 1 ∨ cfmt = 2 then 2 else 4

/-- The 32 values of a contribution; zeros where Z is set. -/
def contribution (g : Region) (p : Bytes) : List (Int × Bool × Bool) :=
  let z := bit (leAt p 6 1) 0
  let w := cfmtBytes g.cfmt
  (List.range 32).map fun i => if z then (0, false, false) else convert g.cfmt g.frac (leAt p (8 + w * i) w)

/-! ### RED_ADD (R185, R186) -/

/-- What the home has to do after an operation: its answer, the lines it changed, and journal records beside them. -/
structure Done where
  ans : Msg
  lines : List Nat := []
  extra : List JRec := []

/-- Checks 1 to 5 of R185. -/
def redCheck (g : Region) (p : Bytes) : Option (Byte × Nat) :=
  let x := g.gen
  let gen := leAt p 0 4
  let z := bit (leAt p 6 1) 0
  if p.length ≠ (if z then 8 else 8 + 32 * cfmtBytes g.cfmt) ∨ leAt p 6 1 / 2 ≠ 0 ∨ leAt p 7 1 ≠ 0 then some (stBAD_DESCRIPTOR, 0)
  else if older gen x.gOpen ∨ (gen = x.gOpen ∧ (x.closed ∨ x.st = 0xA)) then some (stSTALE_GENERATION, 0)
  else if gen = nextGen x.gOpen ∨ (x.st = 0xA ∧ gen = nextGen x.gDone) then some (stRETRY_BUSY, hintNs 10000)
  else if gen ≠ x.gOpen then some (stBAD_DESCRIPTOR, 0)
  else if x.nOpen ≤ leAt p 4 2 then some (stBAD_DESCRIPTOR, 0)
  else none

/-- The stamp of a bank of an RU. -/
def State.stamp (s : State) (g : Region) (m dpa bank : Nat) : Nat := leNat (Memory.readN s.mem (g.recordAt m dpa + 4 * bank) 4)

/-- Lines of an RU's record. -/
def Region.recordLines (g : Region) (m dpa : Nat) : List Nat := (List.range g.recLines).map (g.recordAt m dpa / 128 + ·)

/-- Lines are read in turn: does any read POISON? -/
def anyPoison (sl : Nat) (t : TenantId) : List Nat → State → Bool × State
  | [], s => (false, s)
  | l :: r, s =>
    let (p, s) := loadLine sl t l s
    if p then (true, s) else anyPoison sl t r s

/-- A contribution that has passed checks 1 to 5 meets checks 6 and 7 and is applied whole (R176, R181, R182, R185). -/
def redAdd (sl n : Nat) (g : Region) (m : Nat) (t : Trk) (s : State) : Done × State :=
  let p := t.r.payload
  let x := g.gen
  let gen := leAt p 0 4
  let c := leAt p 4 2
  let bank := gen % 2
  let ru := ruOf t.dpa
  let ra := g.recordAt m ru
  let q := sl / 4
  let (by_, bi) := bitmapAt c
  let data := g.bankAt m bank ru
  let lines := [data / 128, data / 128 + 1]
  let (noRec, s) := loadLine sl g.tenant (ra / 128) s
  let first := s.stamp g m ru bank ≠ gen
  let (noMap, s) := if noRec ∨ first ∨ by_ < 128 then (noRec, s) else loadLine sl g.tenant ((ra + by_) / 128) s
  if !noMap ∧ !first ∧ bit (Memory.read s.mem (ra + by_)).toNat bi then
    (⟨cmpMsg t.r stDUPLICATE 0, [], []⟩, s.count .RED_DUP_CNT q)
  else
  let (bad, s) :=
    if noMap ∨ first then (noMap, s)
    else if (g.recordLines m ru).any fun l => s.poison.contains l then (true, s)
    else anyPoison sl g.tenant lines s
  if bad then (⟨cmpMsg t.r stPOISON 0, [], []⟩, s)
  else
    let vals := contribution g p
    let sat := vals.any fun v => v.2.1
    let nan := vals.any fun v => v.2.2
    let s :=
      if first then
        let s := (g.recordLines m ru).foldl (fun s l => if l = ra / 128 then s else storeBytes sl g.tenant (l * 128) (zeros 128) s) s
        let r0 := Memory.readN s.mem ra 128
        let r0 := splice (splice (splice (splice r0 (4 * bank) (toLe 4 gen)) 8 [0, 0]) (10 + bank) [0]) 16 (zeros 112)
        storeBytes sl g.tenant ra r0 s
      else s
    let old (i : Nat) : Int := if first then 0 else sint 64 (leNat (Memory.readN s.mem (data + 8 * i) 8))
    let words := ((List.range 32).zip vals).flatMap fun v => toLe 8 (uint 64 (old v.1 + v.2.1))
    let s := storeBytes sl g.tenant data (words.take 128) s
    let s := storeBytes sl g.tenant (data + 128) (words.drop 128) s
    let cnt := leNat (Memory.readN s.mem (ra + 8) 2) + 1
    let fl := (Memory.read s.mem (ra + 10 + bank)).toNat ||| (b2n sat + 2 * b2n nan)
    let s := storeBytes sl g.tenant (ra + 8) (toLe 2 cnt) s
    let s := storeBytes sl g.tenant (ra + 10 + bank) [byte fl] s
    let s := storeBytes sl g.tenant (ra + by_) [byte (setBits (Memory.read s.mem (ra + by_)).toNat bi bi 1)] s
    let full := cnt = x.nOpen
    let x' := { x with accSat := x.accSat || sat, accNan := x.accNan || nan, ruDone := if full then x.ruDone + 1 else x.ruDone }
    let x' := if x'.ruDone = g.ruCount m ∧ x'.st = 8 then { x' with st := 9, reported := false } else x'
    let s := s.setRegion n { g with gen := x' }
    let s := s.count .RED_ADD_CNT q
    let s := if sat ∨ nan then s.count .RED_SATGRP_CNT q else s
    let rec_ := if first then g.recordLines m ru else [ra / 128, (ra + by_) / 128].dedup
    (⟨cmpMsg t.r stOK 0, rec_ ++ lines, if full then [stateRec n x'] else []⟩, s)

/-! ### Reads (R187, R188) -/

/-- The data of generation GEN_DONE at a DPA: the bank's where its stamp says so, else zeros. -/
def redData (sl : Nat) (g : Region) (m dpa len : Nat) (s : State) : Option Bytes × State :=
  let x := g.gen
  let bank := x.gDone % 2
  if !x.doneValid then (some (zeros len), s)
  else
    let (p, s) := loadLine sl g.tenant (g.recordAt m dpa / 128) s
    if p then (none, s)
    else if s.stamp g m dpa bank ≠ x.gDone then (some (zeros len), s)
    else
      let a := g.bankAt m bank dpa
      let (p, s) := loadLine sl g.tenant (a / 128) s
      if p then (none, s) else (some (Memory.readN s.mem a len), s)

/-- RED_READ (R188). -/
def redRead (sl : Nat) (g : Region) (m : Nat) (t : Trk) (s : State) : Done × State :=
  let x := g.gen
  let gen := leAt t.r.payload 0 4
  let dat (b : Bytes) : Done := ⟨datMsg 1 t.r b t.r.len.toNat, [], []⟩
  match bits (leAt t.r.payload 6 1) 1 0 with
  | 0 =>
    if x.doneValid ∧ gen = x.gDone then
      match redData sl g m t.dpa (t.r.len.toNat + 1) s with
      | (some b, s) => (dat b, s)
      | (none, s) => (⟨cmpMsg t.r stPOISON 0, [], []⟩, s)
    else if gen = x.gOpen ∨ (older gen x.gOpen ∧ (!x.doneValid ∨ older x.gDone gen)) then
      (⟨cmpMsg t.r stRETRY_BUSY (hintNs 10000), [], []⟩, s)
    else if x.doneValid ∧ older gen x.gDone then (⟨cmpMsg t.r stSTALE_GENERATION 0, [], []⟩, s)
    else (⟨cmpMsg t.r stBAD_DESCRIPTOR 0, [], []⟩, s)
  | 1 =>
    let (p, s) := loadLine sl g.tenant (g.recordAt m t.dpa / 128) s
    if p then (⟨cmpMsg t.r stPOISON 0, [], []⟩, s) else (dat (Memory.readN s.mem (g.recordAt m t.dpa) 128), s)
  | 2 =>
    (dat (padTo 32 (toLe 4 x.gOpen ++ toLe 4 x.gDone ++ toLe 2 x.nOpen ++ [byte x.st, byte x.flags])), s)
  | _ => (⟨cmpMsg t.r stBAD_DESCRIPTOR 0, [], []⟩, s)

end Sys2Proof.Machine
end

