-- ==== Sys2Proof/Machine/Calendar.lean ====
section
/-! DEFINITION. The calendar view of the RTC (R439 to R441): the Gregorian rule, the staged date's checks, and the range. -/

namespace Sys2Proof.Machine

def leap (y : Nat) : Bool := (y % 4 = 0 && y % 100 ≠ 0) || y % 400 = 0

def monthLen (y m : Nat) : Nat :=
  match m with
  | 2 => if leap y then 29 else 28
  | 4 | 6 | 9 | 11 => 30
  | _ => 31

def yearLen (y : Nat) : Nat := if leap y then 366 else 365

/-- Days before 1 January of year 2000 + n. -/
def daysToYear : Nat → Nat
  | 0 => 0
  | n + 1 => daysToYear n + yearLen (2000 + n)

/-- Days of year y before month 1 + m. -/
def daysToMonth (y : Nat) : Nat → Nat
  | 0 => 0
  | m + 1 => daysToMonth y m + monthLen y (m + 1)

structure Civil where
  year : Nat
  month : Nat
  day : Nat
  hour : Nat
  minute : Nat
  second : Nat
deriving DecidableEq, Repr

/-- The checks of R440 on a staged date as a whole. -/
def Civil.valid (c : Civil) : Bool :=
  2000 ≤ c.year && c.year ≤ 2399 && 1 ≤ c.month && c.month ≤ 12 && 1 ≤ c.day && c.day ≤ monthLen c.year c.month &&
    c.hour ≤ 23 && c.minute ≤ 59 && c.second ≤ 59

/-- Seconds since 2000-01-01 00:00:00 (R439). -/
def Civil.secs (c : Civil) : Nat :=
  (daysToYear (c.year - 2000) + daysToMonth c.year (c.month - 1) + (c.day - 1)) * 86400 +
    c.hour * 3600 + c.minute * 60 + c.second

/-- The last second of the calendar (R441). -/
def calEnd : Nat := 12622780799

/-- The year that holds day `d`, and the day within it; `n` years at most. -/
def findYear : Nat → Nat → Nat → Nat × Nat
  | 0, y, d => (y, d)
  | n + 1, y, d => if d < yearLen y then (y, d) else findYear n (y + 1) (d - yearLen y)

def findMonth (y : Nat) : Nat → Nat → Nat → Nat × Nat
  | 0, m, d => (m, d)
  | n + 1, m, d => if d < monthLen y m then (m, d) else findMonth y n (m + 1) (d - monthLen y m)

/-- The date of second `c`, saturated at the end (R441). -/
def civilOf (c : Nat) : Civil :=
  let c := min c calEnd
  let (y, d) := findYear 400 2000 (c / 86400)
  let (m, d) := findMonth y 11 1 d
  ⟨y, m, d + 1, c % 86400 / 3600, c % 3600 / 60, c % 60⟩

/-- RTC seconds (R439). -/
def State.rtcSec (s : State) : Nat := s.time.rtc / secs 1

/-- c = RTC seconds less UTC_OFFSET; below 0 the calendar shows 0 (R441). -/
def State.calC (s : State) : Nat := s.rtcSec - s.time.utc.toNat

/-- RANGE: the calendar saturates (R441). -/
def State.calRange (s : State) : Bool := s.rtcSec < s.time.utc.toNat || calEnd < s.calC

def State.calDate (s : State) : W32 :=
  let c := civilOf s.calC
  w32 (c.year * 65536 + c.month * 256 + c.day)

def State.calTime (s : State) : W32 :=
  let c := civilOf s.calC
  w32 (c.hour * 65536 + c.minute * 256 + c.second)

/-- The staged date (R440). -/
def State.staged (s : State) : Civil :=
  ⟨fld s.time.stDate 31 16, fld s.time.stDate 15 8, fld s.time.stDate 7 0, fld s.time.stTime 23 16, fld s.time.stTime 15 8,
    fld s.time.stTime 7 0⟩

/-- RTC_STAT (R445). -/
def State.rtcStat (s : State) : W32 :=
  let t := s.time
  w32 (b2n t.diverge * 256 + t.src * 64 + b2n s.ptValid * 32 + b2n t.holdAt.isSome * 16 + b2n s.calRange * 4 +
    b2n t.dateInvalid * 2 + b2n t.rtcValid)

/-- An offset of pool time is corrected: more than 1 µs by a step, less by a slew (R438). Eighths of a nanosecond. -/
def correct (off : Int) (s : State) : State :=
  if 8000 < off.natAbs then
    ({ s with time := { s.time with pt := ((s.time.pt : Int) - off).toNat, slew := 0 } }).count .TIME_STEP_CNT
  else { s with time := { s.time with slew := -off } }

/-- Pool time runs on to `t` ns, if that is ahead, by as many cycles as that takes under the slew of R438. -/
def advancePool (t : Nat) (s : State) : State :=
  let d := 8 * t - s.time.pt
  elapse (cdiv (min (d + (-s.time.slew).toNat) (cdiv (10000 * d) 9999)) 5) s

/-- CAL_COMMIT (R440). -/
def calCommit (s : State) : State :=
  if s.time.src ≠ 0 ∧ s.time.src ≠ 1 then
    conflict .RTC_CMD_RESULT 0 0x0C 0xFFFF s.time.src s
  else
    let d := s.staged
    if d.valid then
      let r := secs 1 * (d.secs + s.time.utc.toNat)
      let s := { s with time := { s.time with rtc := r, rtcValid := true } }
      let s := if s.time.src = 1 then correct ((s.time.pt : Int) - 5 * r) s
        else if s.head.head || s.time.lastSync = 0 then { s with time := { s.time with src := 1, pt := 5 * r } }
        else s
      s.result .RTC_CMD_RESULT 0 stOK
    else
      let s := { s with time := { s.time with dateInvalid := true } }
      (logEv ⟨0x0C, .refused, 0xFFFF, 0, stDATE_INVALID, 0, 0xFF, []⟩ s).result .RTC_CMD_RESULT 0 stDATE_INVALID

end Sys2Proof.Machine
end

