-- ==== Sys2Proof/Machine/Shaper.lean ====
section
/-! DEFINITION. Admission control (R320 to R325), the index plate (R326 to R328) and its registers' computed values. -/

namespace Sys2Proof.Machine

/-! ### Buckets -/

def hostBucket (e : Nat) : Nat := e
def classBucket (c : Nat) : Nat := 4096 + c
def portBucket (l : Nat) : Nat := 4104 + l

def State.bRate (s : State) (b : Nat) : Nat :=
  if b < 4096 then s.rfld .HOST_RATE b 19 0
  else if b < 4104 then s.rfld .SVC_RATE (b - 4096) 19 0 else s.rfld .PORT_RATE (b - 4104) 19 0

/-- The depth in 256 B units, within 4 to 65,535 (R323). -/
def State.bBurst (s : State) (b : Nat) : Nat :=
  max 4 (if b < 4096 then s.rfld .HOST_BURST b 15 0
    else if b < 4104 then s.rfld .SVC_BURST (b - 4096) 15 0 else s.rfld .PORT_BURST (b - 4104) 15 0)

/-- One byte in bucket units. -/
def tok : Nat := 25600

/-- A full balance. -/
def State.bCap (s : State) (b : Nat) : Nat := s.bBurst b * 256 * tok

/-- The quarter that holds a bucket (R324). -/
def State.bHolder (s : State) (b : Nat) : Nat :=
  if b < 4096 then (lowBit (leAt (s.recOf 10) (32 * b + 0x10) 4) 24).getD 0 / 6
  else if b < 4104 then (b - 4096) % 4 else (b - 4104) / 6

/-- The balance brought up to date (R323). -/
def State.bNow (s : State) (b : Nat) : Nat :=
  let x := s.shp.buckets.get ⟨0, 0⟩ b
  min (s.bCap b) (x.bal + 16 * s.bRate b * (s.time.nclk - x.at_))

def State.setBucket (s : State) (b bal : Nat) : State :=
  { s with shp := { s.shp with buckets := s.shp.buckets.ins b ⟨bal, max (s.shp.buckets.get ⟨0, 0⟩ b).at_ s.time.nclk⟩ } }

def State.lease (s : State) (b q : Nat) : Lease := s.shp.leases.get ⟨0, 0, none⟩ (b * 4 + q)

def State.setLease (s : State) (b q : Nat) (x : Lease) : State :=
  { s with shp := { s.shp with leases := s.shp.leases.put ⟨0, 0, none⟩ (b * 4 + q) x } }

/-- Tokens a quarter admits against: the bucket at its holder, a lease elsewhere (R325). -/
def State.tokens (s : State) (b q : Nat) : Nat := if s.bHolder b = q then s.bNow b else (s.lease b q).bal

def State.debit (s : State) (b q n : Nat) : State :=
  if s.bRate b = 0 then s
  else if s.bHolder b = q then s.setBucket b (s.bNow b - n * tok)
  else
    let x := s.lease b q
    s.setLease b q { x with bal := x.bal - n * tok, used := s.time.nclk }

/-- The wait until a bucket holds `n` bytes, in eighths of a nanosecond: (L − balance) / RATE, the balance in whole 1/1,024 B
(R321, R323). -/
def State.bWait (s : State) (b q n : Nat) : Nat :=
  cdiv (8 * 1000 * (n * 1024 - s.tokens b q / 25)) (1024 * max 1 (s.bRate b))

/-! ### Counted length (R322) -/

/-- Answer bytes charged; `op`: the REQ opcode of R148 and of R184. -/
def answerBytes (op : Nat) (r : ReqMsg) : Nat :=
  match op with
  | 0x01 => 32 + r.len.toNat + 1
  | 0x02 | 0x03 | 0x04 => 160
  | 0x07 => if r.nr then 32 else 32 + 4 * 2 ^ (r.len.toNat % 4)
  | 0x11 =>
    match bits (leAt r.payload 6 1) 1 0 with
    | 0 => 32 + r.len.toNat + 1
    | 1 => 160
    | 2 => 64
    | _ => 32
  | _ => 32

def flitsOf (bytes : Nat) : Nat := cdiv bytes 224

def State.countedLen (s : State) (op : Nat) (r : ReqMsg) : Nat :=
  let req := 32 + r.payload.length
  let ans := answerBytes op r
  if s.rfld .SHP_CFG 0 8 8 = 1 then 256 * (flitsOf req + flitsOf ans)
  else req + ans + 2 * s.rfld .SHP_CFG 0 7 0

/-! ### The index plate -/

/-- A plate: base in ns, and its entries as gates and duration. -/
structure Plate where
  base : Nat
  entries : List (Nat × Nat)
deriving DecidableEq, Repr

def entryOf (w : Nat) : Nat × Nat := (bits w 31 24, max 1 (bits w 23 0))

/-- The plate the TGATE registers hold. -/
def State.plate (s : State) : Plate :=
  let n := min 64 (s.rfld .TG_LEN 0 6 0)
  ⟨(s.reg .TG_BASE_LO).toNat + 2 ^ 32 * (s.reg .TG_BASE_HI).toNat,
    (List.range n).map fun i => entryOf (s.reg .TG_ENTRY i).toNat⟩

/-- The plate of a PLATE record (R406). -/
def plateOf (b : Bytes) : Plate :=
  ⟨leAt b 0 8, (List.range (min 64 (leAt b 8 1))).map fun i => entryOf (leAt b (0x10 + 4 * i) 4)⟩

/-- CYCLE in 100 ns units. -/
def Plate.cycle (p : Plate) : Nat := (p.entries.map Prod.snd).sum

/-- The first cycle start at or after `now` (R442: periodic). -/
def Plate.firstStart (p : Plate) (now : Nat) : Nat :=
  let c := 100 * p.cycle
  if c = 0 ∨ now ≤ p.base then p.base else p.base + cdiv (now - p.base) c * c

/-- The offset of pool time `t` in the cycle, in ns. A TG_BASE that a step has put ahead counts backwards (R326). -/
def Plate.offset (p : Plate) (t : Nat) : Nat :=
  let c : Int := 100 * p.cycle
  (((t : Int) - p.base) % c).toNat

/-- The entry that covers offset `o` ns, with the offset of its end: a boundary belongs to the later entry (R326). -/
def entryAt (o : Nat) : List (Nat × Nat) → Nat → Nat → Option (Nat × Nat × Nat)
  | [], _, _ => none
  | (g, d) :: r, i, start =>
    if o < start + 100 * d then some (i, g, start + 100 * d) else entryAt o r (i + 1) (start + 100 * d)

/-- Does the plate run: it has started, it has entries, and pool time is valid (R326, R328)? -/
def State.plateRuns (s : State) : Bool := s.shp.started && s.ptValid && !s.plate.entries.isEmpty

/-- The gates at this pool time. -/
def State.gates (s : State) : Nat :=
  if s.plateRuns then
    match entryAt (s.plate.offset s.ptNs) s.plate.entries 0 0 with
    | some (_, g, _) => g
    | none => 0xFF
  else 0xFF

/-- The time in ns from offset `o` of a plate until an entry that opens class c begins; 0 if one covers `o`. -/
def Plate.openIn (p : Plate) (c o : Nat) : Option Nat :=
  let starts := p.entries.foldl (fun (a : List (Nat × Nat) × Nat) e => (a.1 ++ [(e.1, a.2)], a.2 + 100 * e.2)) ([], 0)
  let cyc := 100 * p.cycle
  match entryAt o p.entries 0 0 with
  | none => some 0
  | some (_, g, _) =>
    if g.testBit c then some 0
    else
      let waits := (starts.1.filter fun x => x.1.testBit c).map fun x => (x.2 + cyc - o) % cyc
      match waits with
      | [] => none
      | w :: ws => some (ws.foldl min w)

/-- Time in ns until class c's gate next opens, on the schedule that will run (R321); none if it never does (R327). -/
def State.gateWait (s : State) (c : Nat) : Option Nat :=
  let t := s.ptNs
  let w := s.plate.openIn c (s.plate.offset t)
  match s.shp.next with
  | none => w
  | some (b, at_) =>
    match w with
    | some w => if t + w < at_ then some w else ((plateOf b).openIn c 0).map fun v => at_ - t + v
    | none => ((plateOf b).openIn c 0).map fun v => at_ - t + v

/-- TG_STAT (R335). -/
def State.tgStat (s : State) : W32 :=
  let i := if s.plateRuns then (match entryAt (s.plate.offset s.ptNs) s.plate.entries 0 0 with | some (i, _, _) => i | none => 0) else 0
  let pend := s.shp.next.isSome || (!s.shp.started && !s.plate.entries.isEmpty)
  w32 (b2n s.plateRuns * 2 ^ 31 + b2n pend * 2 ^ 30 + i * 256 + s.gates)

/-! ### The checks of R321 -/

/-- What step 4 decides. -/
inductive Adm where
  | pass
  | policed (hint : Nat)
deriving DecidableEq, Repr

/-- The buckets a request is checked against, in the order of R321: host, class, port. -/
def admBuckets (host svc : Nat) (l : LinkId) : List Nat := [hostBucket host, classBucket svc, portBucket l.val]

/-- Buckets whose lease must first be asked for (R325). -/
def State.leaseNeeds (s : State) (host svc : Nat) (l : LinkId) (n : Nat) : List Nat :=
  (admBuckets host svc l).filter fun b =>
    s.bRate b ≠ 0 ∧ s.bHolder b ≠ linkQuarter' l ∧ (s.lease b (linkQuarter' l)).bal < n * tok
where
  linkQuarter' (l : LinkId) : Nat := l.val / 6

/-- The decision: every check passes and the buckets are debited, or the first failing one counts and the hint is the largest
wait of those that failed (R321). -/
def decideAdm (host svc : Nat) (l : LinkId) (n : Nat) (s : State) : Adm × State :=
  let q := l.val / 6
  let gate := s.gates.testBit svc
  let fails (b : Nat) : Bool := s.bRate b ≠ 0 && s.tokens b q < n * tok
  let h := hostBucket host
  let c := classBucket svc
  let p := portBucket l.val
  if gate && !fails h && !fails c && !fails p then
    (.pass, ((s.debit h q n).debit c q n).debit p q n)
  else
    let hint :=
      if !gate && (s.gateWait svc).isNone then 0xFFF
      else
        let w0 := if gate then 0 else 8 * (s.gateWait svc).getD 0
        let w (b : Nat) : Nat := if fails b then s.bWait b q n else 0
        hint8 (max w0 (max (w h) (max (w c) (w p))))
    let s := if !gate then s.count .SVC_GATE_CNT svc
      else if fails h then s.count .HOST_POL_CNT host
      else if fails c then s.count .SVC_POL_CNT svc
      else s.count .PORT_POL_CNT l.val
    (.policed hint, s)

/-- LEASE_REQUEST: the holder moves min(G, balance) toward the quarter that asked (R325). -/
def leaseServe (b : Nat) (q : Quarter) (s : State) : State :=
  let x := s.lease b q.val
  match x.asked with
  | some 0 =>
    let g := min (min 4096 (s.bBurst b * 64) * tok) (s.bNow b)
    (s.setBucket b (s.bNow b - g)).setLease b q.val { x with asked := some g }
  | _ => s

/-- LEASE_GRANT: the tokens arrive (R325). -/
def leaseArrive (b : Nat) (q : Quarter) (s : State) : State :=
  let x := s.lease b q.val
  match x.asked with
  | some g => s.setLease b q.val { bal := x.bal + g, used := s.time.nclk, asked := none }
  | none => s

/-- LEASE_IDLE_EXPIRE: a lease unused for 10 µs returns; what passes the depth is dropped (R325). -/
def leaseReturn (b : Nat) (q : Quarter) (s : State) : State :=
  let x := s.lease b q.val
  if x.bal = 0 then s
  else
    let s := advanceTo (x.used + usec 10) s
    (s.setBucket b (min (s.bCap b) (s.bNow b + x.bal))).setLease b q.val { x with bal := 0 }

/-- TG_ENTRY_BOUNDARY: the plate moves to its next entry (R326). -/
def entryBoundary (s : State) : State :=
  if s.plateRuns then
    let o := s.plate.offset s.ptNs
    match entryAt o s.plate.entries 0 0 with
    | some (i, _, e) =>
      let s := advancePool (s.ptNs + (e - o)) s
      { s with shp := { s.shp with idx := (i + 1) % s.plate.entries.length } }
    | none => s
  else s

/-- A plate is put into the TGATE registers. -/
def loadPlate (b : Bytes) (s : State) : State :=
  let s := s.setReg .TG_BASE_LO 0 (w32 (leAt b 0 4))
  let s := s.setReg .TG_BASE_HI 0 (w32 (leAt b 4 4))
  let n := min 64 (leAt b 8 1)
  let s := s.setReg .TG_LEN 0 (w32 n)
  (List.range 64).foldl (fun s i => s.setReg .TG_ENTRY i (w32 (if i < n then leAt b (0x10 + 4 * i) 4 else 0))) s

/-- PENDING_PLATE_START: at its first cycle start a pending plate replaces the plate in force (R328). -/
def plateStart (s : State) : State :=
  if !s.ptValid then s
  else
    match s.shp.next with
    | some (b, at_) =>
      let s := loadPlate b (advancePool at_ s)
      { s with shp := { s.shp with next := none, started := true, idx := 0 } }
    | none =>
      if !s.shp.started && !s.plate.entries.isEmpty then
        let s := advancePool s.shp.startAt s
        { s with shp := { s.shp with started := true, idx := 0 } }
      else s

end Sys2Proof.Machine
end

