-- ==== Sys2Proof/Machine/Serve.lean ====
section
/-! DEFINITION. Serving requests: the home state table (R154 to R156), grants, atomics (R169 to R171), the end of a request (R120, R146),
and the steps of R31 that lead to the line home. -/

namespace Sys2Proof.Machine

/-! ### The end of a request -/

/-- Is RETRY_BUSY taken as an answer: by a translation read (R69), by the read of a reduction source of a computed block (R195)? -/
def Acc.takesBusy (a : Acc) : Bool :=
  match a.agent with | .xlat => true | .block _ _ _ => a.op = 0x11 | .watch _ | .cmd _ | .sq _ | .task _ | .digest => false

/-- An access of the device's own is answered: RETRY_BUSY makes it wait for its hint, where its agent does not take that as its answer
(R208). -/
def accAnswer (n : Nat) (status : Byte) (hint : Nat) (data : Bytes) (s : State) : State :=
  s.updAcc n fun a =>
    if status = stRETRY_BUSY ∧ !a.takesBusy then { a with st := 2, dueAt := s.time.nclk + nsec (hintWait hint), status := status }
    else { a with st := 3, status := status, res := data }

/-- A requester is answered before it has a tracker. -/
def refuseReq (who : Who) (r : ReqMsg) (q : Nat) (st : Byte) (hint : Nat) (full : Bool) (s : State) : State :=
  match who with
  | .host _ => send { cmpMsg r st hint with load := if full then 15 else s.loadLevel q false } s
  | .acc n => accAnswer n st hint [] s
  | .wb _ | .victim _ => s

def isWrite (op : Nat) : Bool := op = 5 || op = 6 || op = 7 || op = 0x10

/-- A tracker's answer goes and the tracker is free (R329). -/
def finishTrk (id : Nat) (s : State) : State :=
  match s.trk id with
  | none => s
  | some t =>
    match t.ans with
    | none => s
    | some m =>
      let dur := match s.region t.region with | some g => g.durable && isWrite t.op | none => false
      let load := s.loadLevel t.quarter dur
      let s := { s with pool := { s.pool with trks := s.pool.trks.filter fun x => x.id ≠ id } }
      match t.who with
      | .host _ => send { m with load := load } s
      | .wb _ => send m s
      | .acc n => accAnswer n m.status m.hint m.payload s
      | .victim _ => s

/-- Is a tracker's answer ready to go (R54, R120)? -/
def State.mayFinish (s : State) (t : Trk) : Bool := t.ans.isSome && t.wait ≠ .ptab && t.jwait.all fun p => s.pageOk p.1 p.2

/-- Answers that waited for journal pages go, in order (R120); WB_ACKs too (R168). -/
def finishReady (s : State) : State :=
  let s := ((s.pool.trks.filter s.mayFinish).map Trk.id).foldl (fun s i => finishTrk i s) s
  let go := s.pool.pend.filter fun p => p.1.all fun x => s.pageOk x.1 x.2
  go.foldl (fun s p => send p.2 s) { s with pool := { s.pool with pend := s.pool.pend.filter fun p => !(p.1.all fun x => s.pageOk x.1 x.2) } }

/-- The operation is done: its records are journalled, its answer waits for them or goes. -/
def complete (id sl n : Nat) (g : Region) (d : Done) (s : State) : State :=
  let (pages, s) := journalLines sl n g d.lines d.extra s
  let s := s.updTrk id fun t => { t with ans := some d.ans, jwait := pages, wait := if t.wait = .ptab then .ptab else .journal }
  match s.trk id with
  | some t => if s.mayFinish t then finishTrk id s else s
  | none => s

/-- An answer that changes nothing. -/
def answer (id : Nat) (m : Msg) (s : State) : State :=
  finishTrk id (s.updTrk id fun t => { t with ans := some m, jwait := [], wait := .journal })

def refuse (id : Nat) (st : Byte) (hint : Nat) (s : State) : State :=
  match s.trk id with
  | some t => answer id { cmpMsg t.r st hint with op := match t.who with | .wb _ => 3 | .host _ | .acc _ | .victim _ => 1 } s
  | none => s

/-! ### Atomics (R171) -/

/-- SIZE and OP of an ATOMIC's LEN field. -/
def atomSize (len : Nat) : Nat := 4 * 2 ^ (len % 4)
def atomOp (len : Nat) : Nat := len / 16

/-- Is OP and SIZE a combination of R171? -/
def atomOk (len : Nat) : Bool :=
  let o := atomOp len
  let z := len % 4
  if z = 3 then false else if o ≤ 7 then z ≤ 1 else if o = 8 ∨ o = 9 then true else o = 10 && z = 0

/-- The new value of an atomic; `c`: the compare operand of CAS. -/
def atomNew (o bytes old x c : Nat) : Nat :=
  let n := 8 * bytes
  match o with
  | 0 => (old + x) % 2 ^ n
  | 1 => old &&& x
  | 2 => old ||| x
  | 3 => old ^^^ x
  | 4 => if sint n old ≤ sint n x then old else x
  | 5 => if sint n old ≤ sint n x then x else old
  | 6 => min old x
  | 7 => max old x
  | 8 => x
  | 9 => if old = c then x else old
  | _ => f32.enc ((f32.dec old).add (f32.dec x))

/-- An atomic's operands from its payload: the operand, and for CAS the compare operand, which comes first. -/
def atomArgs (o bytes : Nat) (p : Bytes) : Nat × Nat :=
  if o = 9 then (leNat (cut p bytes bytes), leNat (cut p 0 bytes)) else (leNat (cut p 0 bytes), 0)

/-! ### Directory action (R153 to R156, R164, R169, R170) -/

/-- Back-invalidations of victims in progress on a slice (R165). -/
def State.victimsOf (s : State) (sl : Nat) : Nat :=
  (s.pool.trks.filter fun t => t.slice = sl && (match t.who with | .victim _ => true | .host _ | .acc _ | .wb _ => false)).length

/-- A victim's back-invalidation begins under its line lock (R164). -/
def startVictim (sl vl : Nat) (e : DirEnt) (forTrk : Option Nat) (s : State) : State :=
  let id := s.freeTrk (sl / 4)
  let r : ReqMsg := ⟨⟨0, by decide⟩, s.myId, s.myId, 0, 0, 0, 0, false, false, false, false, false, []⟩
  let t : Trk :=
    { id := id, who := .victim forTrk, op := 0x50, r := r, slot := none, lk := vl, dpa := vl * 128, region := e.region, tenant := e.tenant,
      slice := sl, locked := true, wait := .ready, snoops := [], data := none, poisoned := false, dirPh := 0,
      near := false, upg := false, acks := [], ptLine := 0, made := false, sentInv := false, jwait := [], ans := none }
  ({ s with pool := { s.pool with trks := s.pool.trks ++ [t] } }).count .DIR_VICTIM_CNT sl

/-- The least LRU value that no entry of a set has (R150). -/
def freeLru (es : List (Nat × DirEnt)) : Nat :=
  ((List.range (es.length + 1)).find? fun n => !(es.any fun e => e.2.lru = n)).getD 0

/-- A request that read POISON leaves no entry that was made for it (R153, R155). -/
def unmake (t : Trk) (s : State) : State := if t.made then s.updDir fun d => d.del (t.dpa / 128) else s

/-- A line's entry is found or made (R153, R164); false: the tracker waits. -/
def needEntry (id : Nat) (t : Trk) (s : State) : Bool × State :=
  let line := t.dpa / 128
  if (s.pool.dir.find line).isSome then (true, s)
  else
    let set_ := s.dirIdx t.slice t.tenant line
    let es := s.dirSet t.slice t.tenant set_
    let made (s : State) : State := s.updTrk id fun t => { t with made := true }
    if es.length < (s.dirGeom t.slice).2 then (true, made (s.setEnt line (.fresh t.tenant t.region (freeLru es))))
    else
      match s.dirVictim es with
      | none => (false, s.waitTrk id .dirWay)
      | some (vl, e) =>
        if e.st = 0 then
          (true, made (((s.updDir fun d => d.del vl).setEnt line (.fresh t.tenant t.region e.lru)).count .DIR_VICTIM_CNT t.slice))
        else if 64 ≤ s.victimsOf t.slice then (false, s.waitTrk id .limit)
        else (false, (startVictim t.slice vl e (some id) s).waitTrk id .victim)

/-- The snoops of R155 for an operation: SNP_INV or SNP_SHR, and to whom. -/
def snoopPlan (e : DirEnt) (op : Nat) (slot : Option Nat) : Option (Bool × List Nat) :=
  match e.st with
  | 1 =>
    if op = 4 ∧ slot.isSome ∧ e.holds (slot.getD 0) then some (true, e.sharers.filter fun x => some x ≠ slot)
    else if op = 3 ∨ op = 4 ∨ op = 5 ∨ op = 6 ∨ op = 7 ∨ op = 0x50 then some (true, e.sharers)
    else none
  | 2 => if op = 1 ∨ op = 2 then some (false, [e.owner]) else if op = 0x40 ∨ op = 0x41 then none else some (true, [e.owner])
  | _ => none

/-- R170's first matching row. -/
def newPred (e : DirEnt) (op : Nat) (sentInv : Bool) (r : Nat) : Nat :=
  if sentInv then min (e.pred + 1) 3
  else if op = 7 ∧ e.laV ∧ e.lastAtom ≠ r then min (e.pred + 1) 3
  else e.pred - 1

/-- The predictor and LAST_ATOM after a request (R170). -/
def predUpdate (t : Trk) (s : State) : State :=
  match t.slot, s.pool.dir.find (t.dpa / 128) with
  | some r, some e =>
    if t.op = 3 ∨ t.op = 4 ∨ t.op = 7 then
      s.setEnt (t.dpa / 128) { e with pred := newPred e t.op t.sentInv r, laV := true, lastAtom := r }
    else s
  | _, _ => s

/-- A slot is granted the line: S, or O with the owner map's bit (R155, R396). -/
def grant (n : Nat) (g : Region) (t : Trk) (own : Bool) (s : State) : State :=
  let line := t.dpa / 128
  match t.slot, s.pool.dir.find line with
  | some r, some e =>
    if own then
      let s := s.setEnt line { e with st := 2, owner := r, sharers := [r] }
      let (rs, s) := ownerMark n g line true s
      (journalLines t.slice n g [] rs s).2
    else s.setEnt line { e with st := 1, sharers := insUp r (if e.st = 1 then e.sharers else []) }
  | _, _ => s

/-- Snoop data, or the marker of a snoop that expired, is written under the lock; the WB_ACKs it owes follow (R155, R158, R168). -/
def applySnoop (id n : Nat) (g : Region) (s : State) : State :=
  match s.trk id with
  | none => s
  | some t =>
    let dl := t.dpa / 128
    let own : Bool := (s.pool.dir.find dl).any fun e => e.st = 2
    let (rs, s) := if own then ([], s) else ownerMark n g dl false s
    let s := match t.data with | some b => storeBytes t.slice g.tenant (dl * 128) b s | none => s
    let s := if t.poisoned then storeMarker t.slice g.tenant dl s else s
    let wrote := t.data.isSome || t.poisoned
    let (pages, s) := journalLines t.slice n g (if wrote then [dl] else []) rs s
    let s := s.updTrk id fun t => { t with data := none, poisoned := false, acks := [] }
    if pages = [] then t.acks.foldl (fun s m => send m s) s
    else { s with pool := { s.pool with pend := s.pool.pend ++ t.acks.map fun m => (pages, m) } }

/-! ### Operations on a plain or tracked line -/

/-- A page-table line has been written: translations taken from it go, and the answer waits for R54. -/
def ptabWrite (id : Nat) (g : Region) (t : Trk) (s : State) : State :=
  if g.ptab then (tcDropLine (dpaToSpa g ((s.memberOf g).getD 0) (t.dpa / 128 * 128)) s).waitTrk id .ptab else s

/-- The operation itself, its blocks in place and its snoops answered (R97, R155, R171). -/
def performLine (id n : Nat) (g : Region) (t : Trk) (s : State) : State :=
  let sl := t.slice
  let dl := t.dpa / 128
  let (bad, s) := if t.op = 5 ∨ (t.op = 6 ∧ t.r.len = 127) then (false, s) else loadLine sl g.tenant dl s
  let line : Bytes := Memory.readN s.mem (dl * 128) 128
  let off := t.dpa % 128
  let fin (d : Done) (wrote : Bool) (s : State) : State := complete id sl n g d (bypassEnd sl (dl / 128) g wrote s)
  if bad then fin ⟨cmpMsg t.r stPOISON 0, [], []⟩ false (unmake t s)
  else
    match t.op with
    | 1 => fin ⟨datMsg 1 t.r (cut line off (t.r.len.toNat + 1)) t.r.len.toNat, [], []⟩ false s
    | 2 => fin ⟨datMsg 2 t.r line, [], []⟩ false (dirTouch sl g.tenant dl (grant n g t false s))
    | 3 | 4 =>
      let s := dirTouch sl g.tenant dl (grant n g t true (predUpdate t s))
      fin ⟨if t.upg then { cmpMsg t.r stOK 0 with op := 2 } else datMsg 3 t.r line, [], []⟩ false s
    | 5 | 6 =>
      let s := ptabWrite id g t (storeBytes sl g.tenant t.dpa t.r.payload s)
      fin ⟨cmpMsg t.r stOK 0, [dl], []⟩ true s
    | _ =>
      let s := dirTouch sl g.tenant dl (predUpdate t s)
      if t.near then
        fin ⟨datMsg 3 t.r line 0 true, [], []⟩ false ((grant n g t true s).count .ATOM_NEAR_CNT (sl / 4))
      else
        let o := atomOp t.r.len.toNat
        let z := atomSize t.r.len.toNat
        let old := leNat (cut line off z)
        let (x, c) := atomArgs o z t.r.payload
        let s := s.count .ATOM_FAR_CNT (sl / 4)
        let wr := o ≠ 9 || old = c
        let s := if wr then ptabWrite id g t (storeBytes sl g.tenant t.dpa (toLe z (atomNew o z old x c)) s) else s
        fin ⟨if t.r.nr then cmpMsg t.r stOK 0 else datMsg 4 t.r (toLe z old), if wr then [dl] else [], []⟩ wr s

/-- A WB of a slot that its entry records is taken (R155): its data is written, the slot leaves. -/
def performWb (id n : Nat) (g : Region) (t : Trk) (s : State) : State :=
  let dl := t.dpa / 128
  let s := match s.pool.dir.find dl with | some e => s.setEnt dl (e.leave (t.slot.getD 0)) | none => s
  let (rs, s) := ownerMark n g dl false s
  let s := if t.op = 0x40 then storeBytes t.slice g.tenant (dl * 128) t.r.payload s else s
  complete id t.slice n g ⟨{ cmpMsg t.r stOK 0 with op := 3 }, if t.op = 0x40 then [dl] else [], rs⟩
    (bypassEnd t.slice (dl / 128) g (t.op = 0x40) s)

/-- A victim's entry is freed, and the request that needs its way goes on (R164). -/
def endVictim (id : Nat) (t : Trk) (s : State) : State :=
  let s := s.updDir fun d => d.del (t.dpa / 128)
  let s := { s with pool := { s.pool with trks := s.pool.trks.filter fun x => x.id ≠ id } }
  match t.who with
  | .victim (some i) => wake .victim (fun x => x.id = i) s
  | .victim none => wake .lock (fun x => x.lk = t.lk) s
  | .host _ | .acc _ | .wb _ => s

/-! ### Computed blocks (R194, R197) -/

/-- The stamp of an output block. -/
def stampKey (n b : Nat) : Nat := n * 2 ^ 34 + b

/-- A read of a computed region: a kept result is served, else the block is computed once for all who wait. -/
def serveComputed (id n : Nat) (g : Region) (t : Trk) (s : State) : State :=
  let b := t.dpa / 16384
  if g.mat ∧ s.rgn.stamps.get 0 (stampKey n b) = g.matEpoch + 1 then
    match ensure t.slice b n g s with
    | (.wait w, s) => s.waitTrk id w
    | (.refuse st h, s) => refuse id st h s
    | (.ok, s) =>
      let (bad, s) := loadLine t.slice g.tenant (t.dpa / 128) (s.count .MAT_HIT_CNT (t.slice / 4))
      let s := bypassEnd t.slice b g false s
      if bad then refuse id stPOISON 0 s
      else answer id (datMsg 1 t.r (Memory.readN s.mem t.dpa (t.r.len.toNat + 1)) t.r.len.toNat) s
  else
    let mine (c : Comp) : Bool := c.region = n && c.blk = b && c.epoch = g.matEpoch
    let s := s.waitTrk id .compute
    if s.work.comps.any mine then
      { s with work := { s.work with comps := s.work.comps.map fun c => if mine c then { c with waiters := c.waiters ++ [id] } else c } }
    else { s with work := { s.work with comps := s.work.comps ++ [⟨n, b, g.matEpoch, false, [], false, false, [id]⟩] } }

/-! ### One tracker runs until it waits -/

/-- May a durable write begin (R129, R137, R123)? -/
def State.durableGate (s : State) (g : Region) (op : Nat) : Res :=
  if !g.durable ∨ !isWrite op then .ok
  else if s.tierCode = 3 ∨ s.tierCode = 4 then .refuse stRETRY_BUSY (hintNs 1000000000)
  else if s.tier.full then .refuse stRETRY_BUSY (hintNs 1000000)
  else if 2 ^ 34 ≤ s.journalBytes then .wait .journal
  else .ok

/-- Is this another device's read of a page-table line (R55)? R53 has it read a line again for each entry it needs, so that it may hold the line
already; R156 does not turn it away (DEDUCED, log entry 54). -/
def Trk.readsTable (t : Trk) : Bool := t.op = 2 && t.r.fwd && t.r.handle = 0

/-- The directory's part of a request on a tracked line; false: it waits or has been answered. -/
def directory (id : Nat) (t : Trk) (s : State) : Bool × State :=
  let line := t.dpa / 128
  let s := if t.dirPh = 0 then dirUse t.slice t.tenant line s else s
  if t.dirPh = 0 then
    let e := s.pool.dir.find line
    let held : Bool := e.any fun e => t.slot.any fun r => e.holds r
    if held ∧ t.op ≠ 4 ∧ t.op < 0x40 ∧ !t.readsTable then
      let s := homeEv .protocol t.slice 0 stBAD_DESCRIPTOR t.tenant.val t.dpa (t.slot.getD 0) t.r.src t.r.handle
        (s.count .PROTO_ERR_CNT (t.slice / 4))
      (false, refuse id stBAD_DESCRIPTOR 0 s)
    else
      let grants := t.op = 2 || t.op = 3 || t.op = 4 || t.op = 7
      match (if grants then needEntry id t s else (true, s)) with
      | (false, s) => (false, s)
      | (true, s) =>
        match s.pool.dir.find line with
        | none => (true, s.updTrk id fun t => { t with dirPh := 2 })
        | some e =>
          let near := t.op = 7 && t.slot.isSome && e.pred < 2
          let upg := t.op = 4 && e.st = 1 && e.holds (t.slot.getD 0)
          let s := s.updTrk id fun t => { t with dirPh := 1, near := near, upg := upg }
          let s := match snoopPlan e t.op t.slot with | some (inv, l) => sendSnoops id inv l s | none => s
          match s.trk id with
          | some t => if t.snoops = [] then (true, s.updTrk id fun t => { t with dirPh := 2 }) else (false, s.waitTrk id .snoop)
          | none => (false, s)
  else if t.dirPh = 1 then
    if t.snoops = [] then (true, s.updTrk id fun t => { t with dirPh := 2 }) else (false, s.waitTrk id .snoop)
  else (true, s)

/-- Blocks an operation needs in place. -/
def needBlocks (g : Region) (m : Nat) (t : Trk) : List Nat :=
  if g.kind = 2 then
    if t.op = 0x10 then g.redBlocks m (ruOf t.dpa) (leAt t.r.payload 0 4 % 2) else (g.redBlocks m (ruOf t.dpa) (g.gen.gDone % 2))
  else [t.dpa / 16384]

/-- The operation, once the directory has acted and the blocks are there. -/
def perform (id n : Nat) (g : Region) (m : Nat) (s : State) : State :=
  match s.trk id with
  | none => s
  | some t =>
    let b := t.dpa / 16384
    if t.op = 0x50 then endVictim id t (bypassEnd t.slice b g false s)
    else if t.op = 0x40 ∨ t.op = 0x41 then performWb id n g t s
    else if t.op = 0x10 then
      let (d, s) := redAdd t.slice n g m t s
      complete id t.slice n g d (bypassEnd t.slice b g (d.lines ≠ []) s)
    else if t.op = 0x11 then
      let (d, s) := redRead t.slice g m t s
      complete id t.slice n g d (bypassEnd t.slice b g false s)
    else if g.kind = 2 then
      match redData t.slice g m t.dpa (t.r.len.toNat + 1) s with
      | (some d, s) => complete id t.slice n g ⟨datMsg 1 t.r d t.r.len.toNat, [], []⟩ (bypassEnd t.slice b g false s)
      | (none, s) => complete id t.slice n g ⟨cmpMsg t.r stPOISON 0, [], []⟩ (bypassEnd t.slice b g false s)
    else performLine id n g t s

/-- A tracker runs: line lock, directory, blocks, operation (R154). -/
def serve (id : Nat) (s : State) : State :=
  match s.trk id with
  | none => s
  | some t =>
    if t.ans.isSome then s
    else
      match s.region t.region with
      | none => refuse id stFATAL_REGION 0 s
      | some g =>
        if g.kind = 3 then serveComputed id t.region g t s
        else
          let ahead := (s.pool.trks.takeWhile fun x => x.id ≠ id).any fun x => x.lk = t.lk && x.wait = .lock
          let early := if t.op = 0x10 then redCheck g t.r.payload else none
          if !t.locked ∧ early.isSome then let (st, h) := early.getD (0, 0); refuse id st h (if st = stSTALE_GENERATION then s.count .RED_STALE_CNT (t.slice / 4) else s)
          else if g.kind = 1 ∧ t.op < 0x40 ∧ s.pool.flushes.any (fun f => f.slice = t.slice) then s.waitTrk id .flush
          else if !t.locked ∧ (s.lockHeld t.lk ∨ ahead) then s.waitTrk id .lock
          else
            let s := s.updTrk id fun t => { t with locked := true }
            match (if t.dirPh = 0 then s.durableGate g t.op else .ok) with
            | .refuse st h => refuse id st h s
            | .wait w => s.waitTrk id w
            | .ok =>
              match (if g.kind = 1 then directory id t s else (true, s)) with
              | (false, s) => s
              | (true, s) =>
                let t' := (s.trk id).getD t
                let m := (s.memberOf g).getD 0
                let dry := t'.op = 0x41 ∨ (t'.op = 0x50 ∧ t'.data.isNone ∧ !t'.poisoned)
                match (if dry then (Res.ok, s) else ensureAll t.slice t.region g (needBlocks g m t) s) with
                | (.wait w, s) => s.waitTrk id w
                | (.refuse st h, s) =>
                  if t'.op = 0x50 then endVictim id t' s else refuse id st h s
                | (.ok, s) => perform id t.region g m (if g.kind = 1 then applySnoop id t.region g s else s)

/-- Trackers that are ready run, in order of arrival. -/
def runReady : Nat → State → State
  | 0, s => s
  | n + 1, s =>
    match s.pool.trks.find? fun t => t.wait = .ready with
    | some t => runReady n (serve t.id (s.waitTrk t.id .flush))
    | none => s

/-- Enough turns for every tracker to run several times. -/
def settleTrks (s : State) : State := runReady (8 * s.pool.trks.length + 64) s

/-! ### Steps 6 to 9 of R31 -/

/-- The form checks of R486. -/
def formCheck (op : Nat) (r : ReqMsg) : Option Byte :=
  let len := r.len.toNat
  let n := r.payload.length
  let known := (1 ≤ op && op ≤ 7) || op = 0x10 || op = 0x11
  let sel0 := op = 0x11 && bits (leAt r.payload 6 1) 1 0 = 0
  let usesLen := op = 1 || op = 6 || op = 7 || op = 0x11
  let want : Bool :=
    match op with
    | 1 | 2 | 3 | 4 => n = 0
    | 5 => n = 128
    | 6 => n = len + 1
    | 7 => n = if atomOp len = 9 then 2 * atomSize len else atomSize len
    | 0x11 => n = 8
    | _ => n = 8 || n = 72 || n = 136
  let a := r.addr.toNat
  let aligned : Bool :=
    match op with
    | 2 | 3 | 4 | 5 => a % 128 = 0
    | 7 => a % atomSize len = 0
    | 0x10 => a % 256 = 0
    | _ => true
  if !known then some stUNSUPPORTED
  else if r.rsvd ∨ (op = 7 ∧ len / 4 % 4 ≠ 0) ∨ (!usesLen ∧ len ≠ 0) ∨ (op = 0x11 ∧ !sel0 ∧ len ≠ 0) ∨ r.near ∨ r.wbPending ∨ (r.nr ∧ op ≠ 7) then
    some stBAD_DESCRIPTOR
  else if op = 7 ∧ !atomOk len then some stUNSUPPORTED
  else if !want then some stBAD_DESCRIPTOR
  else if !aligned then some stBAD_DESCRIPTOR
  else if (op = 1 ∨ op = 6 ∨ sel0) ∧ 128 < a % 128 + len + 1 then some stBAD_DESCRIPTOR
  else none

/-- Is a quarter under quarter reset or draining toward one, or without power (R23, R427)? -/
def State.quarterShut (s : State) (q : Nat) : Bool :=
  match s.quarts.toList[q]? with
  | some x => x.st ≠ 2 || x.drain.isSome
  | none => true

/-- Steps 8 and 9: the line home, and a tracker there (R23, R329, R161, R395). -/
def toHome (who : Who) (op : Nat) (r : ReqMsg) (q n : Nat) (g : Region) (m dpa pt : Nat) (slot : Option Nat) (s : State) : State :=
  let sl := s.blockHome g m (dpa / 16384)
  let hq := sl / 4
  if s.quarterShut hq then
    let (k, s) := draw s
    refuseReq who r q stRETRY_BUSY ((Config.random k).toNat % 4096) true s
  else if !s.mayTrack hq who then
    refuseReq who r q stRETRY_BUSY (hintNs (s.rfld .SHP_RETRY 0 15 0)) true (s.count .TRK_EXH_CNT hq)
  else if g.kind = 1 ∧ s.pair.window.isSome then
    refuseReq who r q stRETRY_BUSY (hint8 ((s.pair.window.getD 0 + msec 2 - s.time.nclk) * 5)) false s
  else if g.kind = 1 ∧ (slot.any fun x => s.slotSt g.tenant x = 1) then refuseReq who r q stNO_ACCESS 0 false s
  else
    let id := s.freeTrk hq
    let t : Trk :=
      { id := id, who := who, op := op, r := r, slot := if g.kind = 1 then slot else none,
        lk := if op = 0x10 then g.recordAt m (ruOf dpa) / 128 else dpa / 128, dpa := dpa, region := n, tenant := g.tenant, slice := sl,
        locked := false, wait := .ready, snoops := [], data := none, poisoned := false, dirPh := 0, near := false,
        upg := false, acks := [], ptLine := pt, made := false, sentInv := false, jwait := [], ans := none }
    { s with pool := { s.pool with trks := s.pool.trks ++ [t] } }

/-- The REQ that carries a request on to its member (R71). -/
def fwdMsg (op : Nat) (r : ReqMsg) (dst : W16) : Msg :=
  { cls := .req, op := op, dst := dst, src := r.src, tag := r.tag, handle := r.handle, addr := r.addr.toNat, len := r.len.toNat,
    flags := 8 + b2n r.nr * 2, payload := r.payload }

/-- An access of the device's own to an SPA begins (R53, R55): at this device, or as RD_SHARED to the member that holds the line. -/
def accSpa (a : Acc) (s : State) : State :=
  let r : ReqMsg := ⟨⟨0, by decide⟩, s.myId, s.myId, w16 a.n, 0, byte (a.len - 1), w64 a.addr, false, false, false, false, false, a.data⟩
  match s.regionOfSpa a.addr with
  | none => accAnswer a.n stBAD_DESCRIPTOR 0 [] s
  | some (n, g) =>
    if g.st = 2 then accAnswer a.n stRETRY_BUSY (hintNs 100000) [] s
    else if g.st ≠ 1 then accAnswer a.n stFATAL_REGION 0 [] s
    else
      let (m, dpa) := spaToDpa g a.addr
      if s.isMe (g.memberId m) then toHome (.acc a.n) a.op r 0 n g m dpa 0 none s
      else
        let dst := w16 (g.memberId m)
        let op := if a.op = 1 ∧ g.kind = 1 ∧ a.len = 128 then 2 else a.op
        send { cls := .req, op := op, dst := dst, src := s.myId, tag := w16 a.n, addr := a.addr, len := if op = 2 then 0 else a.len - 1,
               flags := 8, payload := a.data } (s.updAcc a.n fun a => { a with st := 1, dest := dst })

/-- An access is made (R208): its number, and the state with it begun. -/
def newAcc (agent : Agent) (op : Nat) (h : Option W16) (addr len : Nat) (data : Bytes) (s : State) : Acc × State :=
  let n := s.work.accSeq + 1
  let a : Acc := { n := n, agent := agent, op := op, handle := h, addr := addr, len := len, data := data, st := 0, dest := 0, dueAt := 0,
                   status := 0, res := [] }
  (a, { s with work := { s.work with accSeq := n, accs := s.work.accs ++ [a] } })

/-- Step 6 on: form, translation, forwarding (R69, R71, R486). -/
def request (who : Who) (op : Nat) (r : ReqMsg) (q : Nat) (src : Option TenantId) (slot : Option Nat) (s : State) : State :=
  let isAcc := match who with | .acc _ => true | .host _ | .wb _ | .victim _ => false
  match (if isAcc then none else formCheck op r) with
  | some st => refuseReq who r q st 0 false s
  | none =>
    match s.liveCtx r.handle with
    | none => refuseReq who r q stNO_ACCESS 0 false s
    | some c =>
      let ca := r.addr.toNat
      let len := if op = 5 ∨ op = 2 ∨ op = 3 ∨ op = 4 then 128 else if op = 7 then atomSize r.len.toNat else if op = 0x10 then 256 else r.len.toNat + 1
      match xlate q r.handle c op ca len r.nr r.fwd src slot.isSome s with
      | (.fail code st h, s) => refuseReq who r q st h false (xlatFault q code r.handle r.src ca s)
      | (.miss line, s) =>
        let (a, s) := newAcc .xlat 1 none line 128 [] s
        let s := { s with pool := { s.pool with xwaits := s.pool.xwaits ++ [⟨a.n, who, op, r⟩] } }
        accSpa a s
      | (.ok n g m dpa pt, s) =>
        if s.isMe (g.memberId m) then toHome who op r q n g m dpa pt slot s
        else
          let dst := w16 (g.memberId m)
          let s := s.count .XLAT_FWD_CNT q
          match who with
          | .acc i => send { fwdMsg op { r with src := s.myId } dst with tag := w16 i } (s.updAcc i fun a => { a with st := 1, dest := dst })
          | .host _ | .wb _ | .victim _ => send (fwdMsg op r dst) s

/-- The REQ form of an access with a handle. -/
def accReq (a : Acc) (s : State) : ReqMsg :=
  ⟨⟨0, by decide⟩, s.myId, s.myId, w16 a.n, a.handle.getD 0, byte (a.len - 1), w64 a.addr, false, false, false, false, false, a.data⟩

/-- An access of the device's own enters the request path at step 6 (R208). -/
def startAcc (a : Acc) (s : State) : State :=
  match a.handle with
  | none => accSpa a s
  | some h =>
    match s.liveCtx h with
    | none => accAnswer a.n stNO_ACCESS 0 [] s
    | some c => request (.acc a.n) a.op (accReq a s) ((s.homeOf h).getD 0) (some c.tenant) none s

/-! ### Steps 2 to 5 of R31 -/

/-- The switch-side check of a link for a source (R315). -/
def State.edgeOk (s : State) (l : LinkId) (src : W16) : Bool :=
  let k := s.link l
  if k.dir = 3 then src = k.peerId else if k.dir = 1 ∨ k.dir = 2 then s.eptHas l.val src.toNat else false

/-- A packet fails the switch-side check: discarded, counted; a REQ or MGT on a HOST link is answered on the link (R315). -/
def edgeDeny (l : LinkId) (src dst tag : W16) (ans : Bool) (s : State) : State :=
  let s := s.count .EDGE_DENY_CNT l.val
  if (s.link l).dir = 3 ∧ ans then
    let m : Msg := { cls := .rsp, op := 1, dst := src, src := dst, tag := tag, status := stNO_ACCESS, load := s.loadLevel (l.val / 6) false }
    putMsg l (s.svcOf src) m (emit (.msg l.val m) s)
  else s

/-- An event for a source the host table does not know (R321, R36). -/
def strangerEv (src h : W16) (s : State) : State := homeEv .security 0xFFFF 0 stNO_ACCESS 0xFF 0 0 src h s

/-- Does a packet that came on a link end at this device (R31 step 3, R311): it names the device, or its alias while the device is active, or the
alias of a device that has been fenced (R386), or the route table says LOCAL? -/
def State.hears (s : State) (l : LinkId) (dst : W16) : Bool :=
  s.isMe dst.toNat || (s.pair.role = 6 && dst = s.myAlias) || s.pickPort dst.toNat ((s.link l).dir = 1) = some 24

/-- A packet for another endpoint leaves by the route table; with no live port, a REQ or MGT is answered (R309, R312). -/
def transit (l : LinkId) (m : Msg) (s : State) : State :=
  match s.pickPort m.dst.toNat ((s.link l).dir = 1) with
  | some p => let s := emit (.msg p m) s; if h : p < 24 then putMsg ⟨p, h⟩ 8 m s else s
  | none =>
    let s := s.count .NOROUTE_CNT (l.val / 6)
    if m.cls = .req ∨ m.cls = .mgt then
      let pair := bits (s.route m.dst.toNat) 63 62 = 2
      sendCmp m.dst m.src m.tag (if pair then stEPOCH_CHANGED else stRETRY_BUSY) (s.loadLevel (l.val / 6) false)
        (if pair then 0 else hintNs 100000) s
    else s

/-- Is pool service open here (R410 step 12)? -/
def State.serving (s : State) : Bool := s.su.doneSteps.contains 12 && (s.pair.role = 1 || s.pair.role = 7 || s.pair.role = 5)

/-- Refusals of every new REQ and MGT at the ingress while the device drains, loses power or does not serve (R426, R433): load
15, with the hint. -/
def State.closedHint (s : State) : Option Nat :=
  if s.pwr.pfPhase ≠ 0 then some (hintNs 1000000000)
  else if s.su.drain.isSome || s.pwr.trans.isSome then some (hintNs 100000000)
  else none

/-- Step 5: the context home, and on from there. -/
def steer (op : Nat) (r : ReqMsg) (entry : Nat × Bytes) (s : State) : State :=
  let q0 := r.link.val / 6
  match s.homeOf r.handle with
  | none => send { cmpMsg r stNO_ACCESS 0 with load := s.loadLevel q0 false } (s.count .EDGE_DENY_CNT r.link.val)
  | some q => request (.host entry.1) op r q (tenantOfHost entry.2) (slotOf entry.2) s

/-- A page-table read of another device of the stack names the line by SPA (R55). -/
def deviceRead (op : Nat) (r : ReqMsg) (entry : Nat × Bytes) (s : State) : State :=
  let q0 := r.link.val / 6
  match s.regionOfSpa r.addr.toNat with
  | some (n, g) =>
    let (m, dpa) := spaToDpa g r.addr.toNat
    if g.st = 2 then refuseReq (.host entry.1) r q0 stRETRY_BUSY (hintNs 100000) false s
    else if g.st ≠ 1 then refuseReq (.host entry.1) r q0 stFATAL_REGION 0 false s
    else if !s.isMe (g.memberId m) ∨ !kindAllows op g.kind then refuseReq (.host entry.1) r q0 stBAD_DESCRIPTOR 0 false s
    else toHome (.host entry.1) op r q0 n g m dpa 0 (slotOf entry.2) s
  | none => refuseReq (.host entry.1) r q0 stBAD_DESCRIPTOR 0 false s

/-- Step 4 has been passed. -/
def admitted (op : Nat) (r : ReqMsg) (entry : Nat × Bytes) (s : State) : State :=
  if r.fwd ∧ r.handle = 0 ∧ s.isDevice r.src then deviceRead op r entry s else steer op r entry s

/-- Steps 2 to 5 for a REQ (R31, R320, R321, R325). -/
def reqArrive (op : Nat) (r : ReqMsg) (s : State) : State :=
  let l := r.link
  let q0 := l.val / 6
  let say (st : Byte) (hint load : Nat) (s : State) : State := send { cmpMsg r st hint with load := load } s
  if !s.edgeOk l r.src then edgeDeny l r.src r.dst r.tag true s
  else if !s.hears l r.dst then
    transit l { fwdMsg op r r.dst with flags := b2n r.fwd * 8 + b2n r.near * 4 + b2n r.nr * 2 + b2n r.wbPending } s
  else
    match s.closedHint with
    | some h => say stRETRY_BUSY h 15 s
    | none =>
      if s.pair.role = 6 ∧ r.dst = s.myAlias then say stEPOCH_CHANGED 0 (s.loadLevel q0 false) s
      else if !s.serving then say stRETRY_BUSY (hintNs 100000000) 15 s
      else if s.pair.role = 5 ∧ r.dst = s.myAlias then say stRETRY_BUSY (hintNs 10000000) (s.loadLevel q0 false) s
      else
        match s.hostEntry r.src with
        | none => strangerEv r.src r.handle (say stNO_ACCESS 0 (s.loadLevel q0 false) (s.count .EDGE_DENY_CNT l.val))
        | some e =>
          if r.fwd then admitted op r e s
          else
            let n := s.countedLen op r
            let svc := s.rfld .HOST_CFG e.1 18 16
            let need := s.leaseNeeds e.1 svc l n
            if need ≠ [] then
              let s := need.foldl (fun s b => let x := s.lease b q0; s.setLease b q0 { x with asked := some (x.asked.getD 0) }) s
              { s with shp := { s.shp with waiting := s.shp.waiting ++ [⟨op, l, r, n, s.time.nclk, s.time.pt, need⟩] } }
            else
              match decideAdm e.1 svc l n s with
              | (.policed h, s) => say stPOLICED h (s.loadLevel q0 false) s
              | (.pass, s) => admitted op r e s

/-- `f` as of the time at which a waiting request arrived. -/
def asOf {α : Type} (w : AdmWait) (f : State → α × State) (s : State) : α × State :=
  let now := s.time
  let (a, s) := f { s with time := { now with nclk := w.since, pt := w.sincePt } }
  (a, { s with time := now })

/-- An admission that waited for leased tokens is decided, on the time at which the request arrived (R325). -/
def admitWaiting (w : AdmWait) (s : State) : State :=
  match s.hostEntry w.req.src with
  | none => s
  | some e =>
    match asOf w (decideAdm e.1 (s.rfld .HOST_CFG e.1 18 16) w.link w.len) s with
    | (.policed h, s) => send { cmpMsg w.req stPOLICED h with load := s.loadLevel (w.link.val / 6) false } s
    | (.pass, s) => admitted w.op w.req e s

/-- Fills of a slice whose channel is no longer in use are given up; their requests go on in bypass (R103, R104). -/
def fixFills (s : State) : State :=
  let off (sl : Nat) : Bool := s.chanSt sl ≠ 2 && s.chanSt sl ≠ 3
  if s.pool.fills.any fun f => off f.slice && f.way ≠ 9 then
    let s := { s with pool := { s.pool with fills := s.pool.fills.filter fun f => !(off f.slice && f.way ≠ 9) } }
    wake .way (fun t => off t.slice) (wake .fill (fun t => off t.slice) s)
  else s

/-- Dirty ways of a slice, as sets and ways. -/
def State.dirtyWays (s : State) (sl : Nat) : List (Nat × Nat) :=
  (s.tags.filter fun e => e.1 / 2 ^ 32 = sl).flatMap fun e =>
    (((List.range 8).zip e.2).filter fun w => w.2.v && w.2.d).map fun w => (e.1 % 2 ^ 32, w.1)

/-- Write-backs of every dirty block that has none in progress begin. -/
def flushDirty (sl : Nat) (s : State) : State :=
  (s.dirtyWays sl).foldl (fun s x =>
    if ((s.tagSet sl x.1).getD x.2 ⟨false, false, true, false, 0, 0⟩).e then s else (evict sl x.1 x.2 s).getD s) s

/-- Blocks of a slice that stand in ways. -/
def State.cachedBlocks (s : State) (sl : Nat) : List Nat :=
  (s.tags.filter fun e => e.1 / 2 ^ 32 = sl).flatMap fun e => (e.2.filter fun t => t.v).map Tag.block

/-- A slice whose number of sets is to change: its clean blocks go, its dirty ones are written back, and once the cache area is empty
the new number takes effect (R78). -/
def emptyCache (sl : Nat) (s : State) : State :=
  let c := chanOf sl
  if !s.resizing c then s
  else
    let s := flushDirty sl { s with pool := { s.pool with fills := s.pool.fills.filter fun f => !(f.slice = sl && f.way = 8) } }
    let clean := (s.tags.filter fun e => e.1 / 2 ^ 32 = sl).flatMap fun e =>
      (((List.range 8).zip e.2).filter fun w => w.2.v && !w.2.d && !w.2.e).map fun w => (e.1 % 2 ^ 32, w.1, w.2.block)
    let s := clean.foldl (fun s x =>
      dropBlock x.2.2 (s.setTags sl x.1 (updWay (s.tagSet sl x.1) x.2.1 fun w => { w with v := false }))) s
    if s.cachedBlocks sl = [] ∧ !(s.pool.fills.any fun f => f.slice = sl && f.way < 8) then
      wake .way (fun t => t.slice = sl) (tagsInvalid sl (s.resize c))
    else s

/-- Back-invalidation of a slice's directory goes on (R166): entries in I go, and one line that slots hold is taken as a victim. -/
def evacNext (sl : Nat) (s : State) : State :=
  if s.victimsOf sl ≠ 0 then s
  else
    let mine (e : Nat × DirEnt) : Bool := s.homeSlice e.2.tenant (e.1 / 128) = sl && !s.lockHeld e.1
    let gone := s.pool.dir.filter fun e => mine e && e.2.st = 0
    let s' := if gone = [] then s else s.updDir fun d => d.filter fun e => !(gone.any fun g => g.1 = e.1)
    match s'.pool.dir.find? mine with
    | some (l, e) => startVictim sl l e none s'
    | none => s'

/-- Has a slice a directory entry? -/
def State.hasEntries (s : State) (sl : Nat) : Bool := s.pool.dir.any fun e => s.homeSlice e.2.tenant (e.1 / 128) = sl

/-- Directories that are being emptied go on: of an EVACUATING channel once its dirty blocks are written back (R102, R166), and of one whose
directory store changes its size, which takes effect with the store empty (R78). -/
def fixDirs (s : State) : State :=
  (indices 16).foldl (fun s c =>
    let k := s.chan c
    if k.st = 3 then (if s.dirtyWays c.val = [] then evacNext c.val s else s)
    else
      match k.dirNext with
      | some g =>
        if s.hasEntries c.val ∨ s.victimsOf c.val ≠ 0 then evacNext c.val s
        else s.updChan c fun k => { k with dirG := g, dirNext := none }
      | none => s) s

/-- Is a directory being emptied? -/
def State.emptying (s : State) (c : ChanId) : Bool := (s.chan c).st = 3 || (s.chan c).dirNext.isSome

/-- Can the directory of a channel that is being emptied go on now? -/
def State.dirTurn (s : State) (c : ChanId) : Bool :=
  let open_ := s.pool.dir.any fun e => s.homeSlice e.2.tenant (e.1 / 128) = c.val && !s.lockHeld e.1
  s.emptying c && s.victimsOf c.val = 0 &&
    (if (s.chan c).st = 3 then s.dirtyWays c.val = [] && open_ else open_ || !s.hasEntries c.val)

/-- Every slice whose number of sets is to change goes on towards it. -/
def fixSets (s : State) : State :=
  let s := if (indices 16).any fun c => s.emptying c then fixDirs s else s
  if (indices 16).any fun c => s.resizing c then (List.range 16).foldl (fun s sl => emptyCache sl s) s else s

/-- A command that moves requests is over: every tracker that can run has run, every answer that can go has gone. -/
def memDone (s : State) : State := finishReady (settleTrks (fixSets (fixFills s)))

end Sys2Proof.Machine
end

