-- ==== Sys2Proof/Machine/Coh.lean ====
section
/-! DEFINITION. What hosts answer and send on their own (R157, R158, R162, R163, R167), the timers of snoops and flushes (R160, R167),
page-table readers (R53 to R55), answers to the device's own accesses (R208), and the requests that waited for a translation. -/

namespace Sys2Proof.Machine

/-! ### Who sends -/

/-- The tenant and slot that a source's host-table entry gives (R141). -/
def State.slotOfSrc (s : State) (src : W16) : Option (TenantId × Nat) :=
  match s.hostEntry src with
  | some (_, b) => match tenantOfHost b, slotOf b with | some t, some x => some (t, x) | _, _ => none
  | none => none

/-- A host message that has passed steps 2 and 3; others are discarded (R315, R31). -/
def fromHost (m : HostMsg) (f : TenantId → Nat → State → State) (s : State) : State :=
  if !s.edgeOk m.link m.src then edgeDeny m.link m.src 0 m.tag false s
  else match s.slotOfSrc m.src with | some (t, x) => f t x s | none => s

/-! ### Snoop answers (R155, R157, R158, R162) -/

/-- The open snoop that an answer names. -/
def State.openSnoop (s : State) (tag : W16) (t : TenantId) (slot : Nat) : Option (Trk × Snp) :=
  match s.trk tag.toNat with
  | some k => if k.tenant = t then (k.snoops.find? fun x => x.slot = slot).map fun x => (k, x) else none
  | none => none

def updSnp (id slot : Nat) (f : Snp → Snp) (s : State) : State :=
  s.updTrk id fun t => { t with snoops := t.snoops.map fun x => if x.slot = slot then f x else x }

/-- A snoop closes; its request goes on once the last has. -/
def closeSnoop (id slot : Nat) (s : State) : State :=
  let s := s.updTrk id fun t => { t with snoops := t.snoops.filter fun x => x.slot ≠ slot }
  wake .snoop (fun t => t.id = id && t.snoops.isEmpty) s

/-- A slot leaves the entry of a line, or its ownership becomes a share. -/
def leaveLine (line slot : Nat) (keep : Bool) (s : State) : State :=
  match s.pool.dir.find line with
  | some e =>
    s.setEnt line (if keep then (if e.st = 2 ∧ e.owner = slot then { e with st := 1, sharers := [slot] } else e) else e.leave slot)
  | none => s

/-- An answer to no open snoop is discarded (R162). -/
def lateAnswer (tag : W16) (s : State) : State := s.count .LATE_RSP_CNT (tag.toNat / 4096 % 4)

def invAckRun (m : HostMsg) (s : State) : State :=
  fromHost m (fun t slot s =>
    match s.openSnoop m.tag t slot with
    | none => lateAnswer m.tag s
    | some (k, x) =>
      if m.wbPending ∧ !x.gotWb then updSnp k.id slot (fun x => { x with ackWb := true }) s
      else closeSnoop k.id slot (leaveLine (k.dpa / 128) slot false s)) s

def shrAckRun (m : HostMsg) (s : State) : State :=
  fromHost m (fun t slot s =>
    match s.openSnoop m.tag t slot with
    | none => lateAnswer m.tag s
    | some (k, _) => closeSnoop k.id slot (leaveLine (k.dpa / 128) slot true s)) s

def datSnpRun (m : HostMsg) (s : State) : State :=
  fromHost m (fun t slot s =>
    match s.openSnoop m.tag t slot with
    | none => lateAnswer m.tag s
    | some (k, x) =>
      let s := s.updTrk k.id fun t => { t with data := some (padTo 128 m.payload) }
      closeSnoop k.id slot (leaveLine (k.dpa / 128) slot (!x.inv) s)) s

/-! ### Evictions (R155, R158, R162, R167, R395) -/

def wbAck (m : HostMsg) (me : W16) (st : Byte) : Msg := { cls := .rsp, op := 3, dst := m.src, src := me, tag := m.tag, status := st }

/-- A stray WB: acknowledged, a dirty one as poisoned (R162). -/
def strayWb (m : HostMsg) (dirty : Bool) (q : Nat) (s : State) : State :=
  send (wbAck m s.myId (if dirty then stPOISON else stOK)) (s.count .STRAY_WB_CNT q)

/-- A WB answers the open snoop to its slot: its data is written at once where the block is in place (R158). -/
def wbSnoop (m : HostMsg) (dirty : Bool) (k : Trk) (x : Snp) (n : Nat) (g : Region) (s : State) : State :=
  let ack := wbAck m s.myId stOK
  let s := s.updTrk k.id fun t => { t with data := if dirty then some (padTo 128 m.payload) else t.data, acks := t.acks ++ [ack] }
  let s :=
    if dirty then
      match ensure k.slice (k.dpa / 16384) n g s with
      | (.ok, s) => applySnoop k.id n g s
      | (_, s) => s
    else applySnoop k.id n g s
  let s := if x.ackWb then s else updSnp k.id x.slot (fun x => { x with gotWb := true }) s
  if x.ackWb then closeSnoop k.id x.slot (leaveLine (k.dpa / 128) x.slot false s) else s

/-- A WB that takes its turn on the line. -/
def wbRequest (m : HostMsg) (dirty : Bool) (t : TenantId) (slot n : Nat) (dpa sl : Nat) (s : State) : State :=
  let r : ReqMsg := ⟨m.link, m.src, s.myId, m.tag, 0, 0, m.addr, false, false, false, false, false, padTo 128 m.payload⟩
  let id := s.freeTrk (sl / 4)
  let k : Trk :=
    { id := id, who := .wb 0, op := if dirty then 0x40 else 0x41, r := r, slot := some slot, lk := dpa / 128, dpa := dpa / 128 * 128,
      region := n, tenant := t, slice := sl, locked := false, wait := .ready, snoops := [], data := none,
      poisoned := false, dirPh := 2, near := false, upg := false, acks := [], ptLine := 0, made := false, sentInv := false, jwait := [], ans := none }
  { s with pool := { s.pool with trks := s.pool.trks ++ [k] } }

/-- WB_DIRTY and WB_CLEAN name their line by SPA. -/
def wbRun (m : HostMsg) (dirty : Bool) (s : State) : State :=
  fromHost m (fun t slot s =>
    match s.regionOfSpa m.addr.toNat with
    | none => strayWb m dirty 0 s
    | some (n, g) =>
      let (mi, dpa) := spaToDpa g m.addr.toNat
      let line := dpa / 128
      let sl := s.homeSlice g.tenant (dpa / 16384)
      if g.kind ≠ 1 ∨ g.tenant ≠ t ∨ !s.isMe (g.memberId mi) ∨ s.slotSt t slot = 1 then strayWb m dirty (sl / 4) s
      else
        match s.pool.trks.find? fun k => k.dpa / 128 = line && k.tenant = t && k.snoops.any fun x => x.slot = slot with
        | some k =>
          match k.snoops.find? fun x => x.slot = slot with
          | some x => wbSnoop m dirty k x n g s
          | none => s
        | none =>
          let known : Bool := (s.pool.dir.find line).any fun e => e.holds slot
          let flushing := s.pool.flushes.any fun f => f.slice = sl && f.slots.contains slot
          if known ∨ flushing ∨ (s.pair.window.isSome ∧ g.durable) then wbRequest m dirty t slot n dpa sl s
          else strayWb m dirty (sl / 4) s) s

/-! ### Flushes and timers (R159, R160, R167) -/

/-- A slot has answered a flush, or never will; the slice serves again when none is left. -/
def flushLeave (sl slot : Nat) (s : State) : State :=
  let fl := (s.pool.flushes.map fun f => if f.slice = sl then { f with slots := f.slots.filter (· ≠ slot) } else f).filter fun f => f.slots ≠ []
  let s := { s with pool := { s.pool with flushes := fl } }
  if fl.any fun f => f.slice = sl then s else wake .flush (fun t => t.slice = sl) s

def flushAckRun (m : HostMsg) (s : State) : State :=
  fromHost m (fun t slot s =>
    if s.pool.flushes.any fun f => f.slice = m.tag.toNat && f.tenant = t && f.slots.contains slot then flushLeave m.tag.toNat slot s
    else lateAnswer m.tag s) s

def snoopTimeoutRun (id slot : Nat) (s : State) : State :=
  match s.trk id with
  | some t =>
    match t.snoops.find? fun x => x.slot = slot with
    | some x => closeSnoop id slot (snoopExpired id slot (advanceTo x.at_ s))
    | none => s
  | none => s

def flushTimeoutRun (sl : SliceId) (slot : Nat) (s : State) : State :=
  match s.pool.flushes.find? fun f => f.slice = sl.val && f.slots.contains slot with
  | some f =>
    let s := advanceTo (f.at_ + msec (max 1 (min 1000 (s.rfld .FLUSH_CFG (sl.val / 4) 9 0)))) s
    let s := if s.slotSt f.tenant slot = 1 then s else homeEv .timeout sl.val 0 0 f.tenant.val 0 slot 0 0 (s.setSlot f.tenant slot 1)
    flushLeave sl.val slot s
  | none => s

/-! ### Locks, ways, limits (R84, R154, R164, R165) -/

/-- The first request that waits for a line receives its lock; requests that wait for any lock of the slice's set look again. -/
def lockGranted (line : Nat) (s : State) : State :=
  if s.lockHeld line then s
  else
    match s.pool.trks.find? fun t => t.wait = .lock && t.lk = line with
    | some t => s.waitTrk t.id .ready
    | none => wake .dirWay (fun _ => true) s

/-- Fills of a slice that wait for a way choose again. -/
def victimFree (sl : SliceId) (s : State) : State :=
  let s := (s.pool.fills.filter fun f => f.slice = sl.val && f.way = 8).foldl (fun s f =>
    match s.region f.region with
    | some g => (startFill sl.val f.set_ f.block f.region g.tenant s).2
    | none => s.dropFill f.block sl.val) s
  wake .fill (fun t => t.slice = sl.val) (wake .way (fun t => t.slice = sl.val) s)

def limitRelease (sl : SliceId) (s : State) : State :=
  if s.victimsOf sl.val < 64 then
    match s.pool.trks.find? fun t => t.wait = .limit && t.slice = sl.val with
    | some t => s.waitTrk t.id .ready
    | none => s
  else s

/-! ### Page tables (R54, R55, R72) -/

/-- A page-table write is acknowledged once no request translated by the line's old contents is left (R54). -/
def ptabAck (id : Nat) (s : State) : State :=
  match s.trk id with
  | some t =>
    if t.wait ≠ .ptab then s
    else
      match s.region t.region with
      | some g =>
        let line := dpaToSpa g ((s.memberOf g).getD 0) (t.dpa / 128 * 128)
        if s.pool.trks.any fun x => x.id ≠ id && x.ptLine = line then s else s.waitTrk id .journal
      | none => s.waitTrk id .journal
  | none => s

/-- TC_FLUSH: every entry of the quarter's translation cache goes (R72). -/
def tcFlushRun (q : Quarter) (s : State) : State := s.setTc q.val []

def invAckMsg (dst tag : W16) (me : W16) (addr : Nat) : Msg := { cls := .rsp, op := 8, dst := dst, src := me, tag := tag, addr := addr }

/-- SNP_INV for a page-table line of another device: its translations go, and INV_ACK answers; a read of the line that is on its way is
first completed (R55, R157). -/
def snpInvReader (m : HostMsg) (s : State) : State :=
  if !s.edgeOk m.link m.src then edgeDeny m.link m.src 0 m.tag false s
  else
    let line := m.addr.toNat / 128 * 128
    match s.work.accs.find? fun a => a.agent = .xlat && a.st = 1 && a.addr = line with
    | some a => s.updAcc a.n fun a => { a with data := toLe 2 m.src.toNat ++ toLe 2 m.tag.toNat }
    | none => send (invAckMsg m.src m.tag s.myId line) (tcDropLine line s)

/-! ### Answers to the device's own accesses (R208) -/

def poolAnswerRun (src tag : W16) (status : Byte) (backoff : BitVec 12) (data : Bytes) (s : State) : State :=
  match s.work.accs.find? fun a => a.n % 65536 = tag.toNat && a.st = 1 && a.dest = src with
  | some a => accAnswer a.n status backoff.toNat data s
  | none => s

def dmaRetry (n : Nat) (s : State) : State :=
  match s.work.accs.find? fun a => a.n = n && a.st = 2 with
  | some a => startAcc a ((advanceTo a.dueAt s).updAcc n fun a => { a with st := 0 })
  | none => s

def State.dropAcc (s : State) (n : Nat) : State := { s with work := { s.work with accs := s.work.accs.filter fun a => a.n ≠ n } }

/-- A request whose translation waited goes on: the entry it needs is installed, or the failing read is its answer (R53, R69). -/
def xresume (w : XWait) (a : Acc) (s : State) : State :=
  let s := ({ s with pool := { s.pool with xwaits := s.pool.xwaits.filter fun x => x.acc ≠ w.acc } }).dropAcc a.n
  let q := (s.homeOf w.r.handle).getD 0
  let src : Option TenantId × Option Nat :=
    match w.who with
    | .host _ => match s.hostEntry w.r.src with | some (_, b) => (tenantOfHost b, slotOf b) | none => (none, none)
    | .acc _ | .wb _ | .victim _ => ((s.liveCtx w.r.handle).map Ctx.tenant, none)
  if a.status = stOK then
    let s := match s.liveCtx w.r.handle with | some c => tcInstall q w.r.handle c w.r.addr.toNat a.addr a.res s | none => s
    let s := request w.who w.op w.r q src.1 src.2 s
    if a.data = [] then s
    else send (invAckMsg (w16 (leAt a.data 0 2)) (w16 (leAt a.data 2 2)) s.myId a.addr) (tcDropLine a.addr s)
  else
    let hint := if a.status = stRETRY_BUSY then hintNs 100000 else 0
    refuseReq w.who w.r q a.status hint false (xlatFault q 4 w.r.handle w.r.src w.r.addr.toNat s)

/-- Everything of the pool that can go on goes on. -/
def memPump : Nat → State → State
  | 0, s => s
  | n + 1, s =>
    let s := memDone s
    match s.pool.xwaits.find? fun w => s.work.accs.any fun a => a.n = w.acc && a.st = 3 with
    | some w =>
      match s.work.accs.find? fun a => a.n = w.acc with
      | some a => memPump n (xresume w a s)
      | none => s
    | none => if (indices 16).any fun c => s.dirTurn c then memPump n s else s

/-! ### SLOT_REJOIN's sweep (R163) -/

/-- A line of a block that stands in flash alone takes the marker. -/
def poisonFlash (line : Nat) (s : State) : State :=
  match s.tier.fmap.find (line / 128) with
  | some (.dense l) =>
    let k := (l.sb * 4096 + l.page) * 8 + l.carrier
    match s.tier.pages.find k with
    | some p => s.updTier fun t => { t with pages := t.pages.ins k { p with poison := insUp (line % 128) p.poison } }
    | none => s
  | some .lost | none => s

/-- The sweep of a slot: lines it owns are poisoned, its bits clear. -/
def sweepSlot (t : TenantId) (slot : Nat) (s : State) : State :=
  s.pool.dir.foldl (fun s e =>
    if e.2.tenant ≠ t ∨ !e.2.holds slot then s
    else
      let own := e.2.st = 2
      let s := s.setEnt e.1 (e.2.leave slot)
      if own then
        match s.region e.2.region with
        | some g =>
          let sl := s.homeSlice t (e.1 / 128)
          let (rs, s) := ownerMark e.2.region g e.1 false s
          match ensure sl (e.1 / 128) e.2.region g s with
          | (.ok, s) => (journalLines sl e.2.region g [e.1] rs (storeMarker sl t e.1 s)).2
          | (_, s) => poisonFlash e.1 s
        | none => s
      else s) s

end Sys2Proof.Machine
end

