-- ==== Sys2Proof/Machine/FlashCmds.lean ====
section
/-! DEFINITION. The flash tier over time (R118 to R134): page reads, journal programs, dense stripes and their verification, checkpoints,
collection, erases, wear and retention. -/

namespace Sys2Proof.Machine

/-! ### Reads (R117, R127, R128, R131, R493) -/

def pageKey (l : PLoc) : Nat := (l.sb * 4096 + l.page) * 8 + l.carrier

/-- A page of a superblock's member is read: it counts, and at RD_LIMIT the superblock is relocated (R131). -/
def readCount (c : CarrierId) (i n : Nat) (s : State) : State :=
  let s := flCount .FL_RD_BYTES c i (18432 * n) (flCount .PAGE_RD_CNT c i n s)
  let b := s.sb i
  let r := satAdd 32 (b.reads.getD c.val 0) n
  let s := s.setSb i { b with reads := b.reads.set c.val r }
  if (s.reg .RD_LIMIT).toNat ≤ r ∧ !b.reloc ∧ (b.use = 1 ∨ b.use = 2) then relocate i (s.count .RELOC_RD_CNT) else s

/-- A superblock is relocated because a page of it reads badly (R132). -/
def relocWeak (i : Nat) (s : State) : State :=
  let b := s.sb i
  if b.reloc ∨ (b.use ≠ 1 ∧ b.use ≠ 2) then s else relocate i (s.count .RELOC_RET_CNT)

/-- A member of a superblock is marked to be retired when the contents have moved; at once where nothing is left to move (R133). -/
def badMember (c : CarrierId) (i : Nat) (s : State) : State :=
  let b := s.sb i
  if b.use = 0 ∨ b.use = 3 then retire c i s
  else if b.bad.contains c.val then s
  else s.setSb i { b with bad := b.bad ++ [c.val] }

/-- The ladder's counters for a page read on its own carrier (R127); stage 4 retires the member. -/
def ladder (c : CarrierId) (i : Nat) (r : PageRead) (s : State) : State :=
  let s := readCount c i 1 s
  match r.stage with
  | 1 => flCount .CW_CORR_CNT c i r.cwCorrected s
  | 2 => relocWeak i (flCount .READ_RETRY_CNT c i 1 s)
  | 3 => relocWeak i (flCount .SOFT_DEC_CNT c i 1 s)
  | 4 => relocWeak i (badMember c i ((s.inServ.filter (· ≠ c)).foldl (fun s d => readCount d i 1 s) (s.count .RECON_CNT)))
  | _ => s

/-- FLASH_READ_DONE: the fill that waits for a block's page goes on (R117, R127, R128, R493). -/
def flashReadRun (block : Nat) (r : PageRead) (s : State) : State :=
  match s.pool.fills.find? fun f => f.block = block && f.way ≠ 8 with
  | none => s
  | some f =>
    match s.region f.region with
    | none => memPump 64 (s.dropFill f.block f.slice)
    | some g =>
      let t := g.tenant
      let s : State :=
        match s.tier.fmap.find block with
        | some (.dense l) =>
          let c : CarrierId := ⟨l.carrier % 8, Nat.mod_lt _ (by decide)⟩
          let way := s.readWay l
          let others := s.inServ.filter (· ≠ c)
          let ok := 1 ≤ r.stage && r.stage ≤ (if way = 0 then (if others.length = 7 then 4 else 3) else if way = 1 then 3 else 0)
          let fits := match s.tier.pages.find (pageKey l) with
            | some p => p.block = block && p.region = f.region && p.tenant = t.val
            | none => false
          let s := if way = 0 then ladder c l.sb r s else others.foldl (fun s d => readCount d l.sb 1 s) s
          if ok && fits then s else blockLost f.slice block f.region l.carrier t s
        | some .lost | none => s
      let s := if f.way = 9 then (putImage block f.region t s).2 else install f.slice f.set_ f.way block f.region t s
      memPump 64 (wake .fill (fun x => x.slice = f.slice) (s.dropFill f.block f.slice))

/-! ### The journal (R118 to R121, R123, R186) -/

/-- The member state lines that a page holds take effect: they are durable (R186, R190). -/
def stateDurable (p : JPage) (s : State) : State :=
  p.recs.foldl (fun s r =>
    match r.state with
    | some b => s.updRegion r.region fun g => { g with genDur := GenSt.ofBytes b }
    | none => s) s

/-- Pages of a stream that meet R120. -/
def Stream.okSeqs (x : Stream) : List JPage := x.pages.takeWhile JPage.ok

/-- A stream changes: the pages that now meet R120 make their state lines durable, and what can be reclaimed is (R120, R123). -/
def journalStep (k : Nat) (f : Stream → Stream) (s : State) : State :=
  let x := s.stream k
  let y := f x
  let new := y.okSeqs.filter fun p => !(x.okSeqs.any fun o => o.seq = p.seq)
  reclaim k (new.foldl (fun s p => stateDurable p s) (s.setStream k y))

def updPage (seq : Nat) (f : JPage → JPage) (x : Stream) : Stream :=
  { x with pages := x.pages.map fun p => if p.seq = seq then f p else p }

/-- JOURNAL_GROUP_EXPIRE: JGROUP_NS after its first record an open page closes. -/
def journalExpireRun (q : Quarter) (t : TenantId) (s : State) : State :=
  let k := streamKey q.val t
  match (s.stream k).pages.getLast? with
  | some p => if p.closed then s else memPump 64 (closeJPage k (advanceTo (p.since + nsec (s.rfld .JGROUP_NS 0 15 0)) s))
  | none => s

/-- JOURNAL_PROGRAM_DONE: a mirror program of a page has returned its status (R120, R121). -/
def journalProgramRun (q : Quarter) (t : TenantId) (seq : Nat) (c : CarrierId) (pass : Bool) (s : State) : State :=
  let k := streamKey q.val t
  match (s.stream k).pages.find? fun p => p.seq = seq with
  | none => s
  | some p =>
    if s.tier.remirror.any fun x => x.1 = k && x.2.1 = seq && x.2.2 = c.val then
      if pass then
        memPump 64 (journalStep k (updPage seq fun p => { p with passed := p.passed ++ [c.val] })
          (s.updTier fun x => { x with remirror := x.remirror.filter fun e => !(e.1 = k && e.2.1 = seq && e.2.2 = c.val) }))
      else
        let dests := (s.tier.remirror.filter fun e => e.1 = k && e.2.1 = seq).map fun e => e.2.2
        let other := (s.mirrorOrder q.val).find? fun d => !dests.contains d.val && !p.passed.contains d.val && !p.await.contains d.val
        let s : State := match other with
          | some d => s.updTier fun x =>
            { x with remirror := x.remirror.map fun e => if e.1 = k && e.2.1 = seq && e.2.2 = c.val then (k, seq, d.val) else e }
          | none => s
        badMember c p.sb (flCount .PROG_FAIL_CNT c p.sb 1 s)
    else if !p.await.contains c.val then s
    else if pass then
      memPump 64 (journalStep k (updPage seq fun p => { p with await := p.await.filter (· ≠ c.val), passed := p.passed ++ [c.val] }) s)
    else
      let s := flCount .PROG_FAIL_CNT c p.sb 1 s
      let other := (s.mirrorOrder q.val).find? fun d => d ≠ c && !p.passed.contains d.val && !p.await.contains d.val
      let s := journalStep k (updPage seq fun p => { p with await := p.await.filter (· ≠ c.val) ++ (other.map Fin.val).toList }) s
      let s : State := match other with
        | some d => flCount .FL_PROG_BYTES d p.sb 18432 (flCount .PAGE_PROG_CNT d p.sb 1 s)
        | none => s
      memPump 64 (badMember c p.sb (s.setSb p.sb { s.sb p.sb with use := if (s.sb p.sb).use = 1 then 2 else (s.sb p.sb).use }))

/-- JOURNAL_SPACE_RECLAIMED: durable writes that waited at the cap proceed (R123). -/
def journalSpaceRun (s : State) : State :=
  let s := s.tier.streams.foldl (fun s e => reclaim e.1 s) s
  if s.journalBytes < 2 ^ 34 then memPump 64 (wake .journal (fun _ => true) s) else s

/-- REMIRROR_DONE: every page copied from a carrier that left is safe again (R121). -/
def remirrorRun (s : State) : State :=
  let l := s.tier.remirror
  let s := s.updTier fun t => { t with remirror := [] }
  memPump 64 (l.foldl (fun s x => journalStep x.1 (updPage x.2.1 fun p => { p with passed := p.passed ++ [x.2.2] }) s) s)

/-! ### Dense stripes (R122, R125, R126) -/

def denseTimeoutRun (q : Quarter) (t : TenantId) (s : State) : State :=
  match s.tier.dense.find? fun d => d.q = q.val && d.tenant = t.val && !d.closed with
  | some d =>
    let s := advanceTo (d.since + usec 20) s
    programStripe d (s.updTier fun x => { x with dense := x.dense.map fun e => if e = d then { d with closed := true } else e })
  | none => s

/-- The line-home slice of a page's block. -/
def State.pageSlice (s : State) (p : Page) : Nat :=
  match s.region p.region with
  | some g => s.blockHome g ((s.memberOf g).getD 0) p.block
  | none => s.homeSlice (tenOf p.tenant) p.block

/-- Does a page still stand for a block of its region? -/
def State.pageLive (s : State) (p : Page) : Bool :=
  match s.regionOfBlock p.block with | some (n, _) => n = p.region | none => false

/-- A block in the staging buffer whose page has verified leaves it (R103). -/
def bypassVerified (sl b : Nat) (s : State) : State :=
  if s.inBypass sl b then wake .bypass (fun t => t.slice = sl) (dropBlock b (s.setBypass sl none)) else s

/-- A verified page takes effect: the map points to it (R122, R129). -/
def pageVerified (d : DStripe) (i : Nat) (pg : DPage) (s : State) : State :=
  let l : PLoc := ⟨s.dataCar d.sb d.page i, d.sb, d.page⟩
  let sl := s.pageSlice pg.page
  let t := tenOf pg.page.tenant
  if !s.pageLive pg.page then s
  else
    let put (s : State) : State := s.updTier fun x => { x with pages := x.pages.ins (pageKey l) { pg.page with seq := (s.sb d.sb).seq } }
    match pg.why with
    | .writeBack => bypassVerified sl pg.page.block (wbVerified sl pg.page.block pg.upTo l t (put s))
    | .copy src =>
      if s.tier.fmap.find pg.page.block = some (.dense src) then
        let s := logAppend sl ((put s).updTier fun x => { x with fmap := x.fmap.ins pg.page.block (.dense l) })
        releaseEmpty src.sb s
      else s

/-- The pages of a stripe with their positions. -/
def DStripe.placed (d : DStripe) : List (Nat × DPage) := (List.range d.pages.length).zip d.pages

/-- A verified stripe's changes enter the map where every delta log has room for them, else they wait (R126). -/
def applyStripe (d : DStripe) (s : State) : State :=
  if d.pages.all fun pg => s.logRoom (s.pageSlice pg.page) then
    let s := s.updTier fun x => { x with dense := x.dense.filter fun e => e ≠ d }
    releaseEmpty d.sb (d.placed.foldl (fun s e => pageVerified d e.1 e.2 s) s)
  else s.updTier fun x => { x with dense := x.dense.map fun e => if e = d then { d with okWait := true } else e }

/-- A write-back is given up for want of a superblock: the block stays dirty (R122). -/
def dropWriteBack (pg : DPage) (s : State) : State :=
  let sl := s.pageSlice pg.page
  let n := (s.sliceList (tenOf pg.page.tenant)).length
  let st := s.setIndex sl n pg.page.block
  match pg.why, wayOf (s.tagSet sl st) pg.page.block with
  | .writeBack, some w => s.setTags sl st (updWay (s.tagSet sl st) w fun x => { x with e := false, d := true, rd := false })
  | _, _ => s

/-- A stripe that failed is written again elsewhere and its failing members are retired (R122, R133). -/
def redoStripe (d : DStripe) (bad : List CarrierId) (s : State) : State :=
  let s := s.updTier fun x => { x with dense := x.dense.filter fun e => e ≠ d }
  let s := bad.foldl (fun s c => badMember c d.sb s) s
  let s := if bad = [] then s else relocate d.sb s
  let s := d.pages.foldl (fun s pg =>
    match pg.why with
    | .copy _ => (denseAdd d.q pg s).getD s
    | .writeBack => match denseAdd d.q pg s with | some s => s | none => dropWriteBack pg s) s
  releaseEmpty d.sb s

/-- DENSE_VERIFY_DONE: the oldest closed stripe of the quarter and tenant has been programmed and read back. -/
def denseVerifyRun (q : Quarter) (t : TenantId) (prog hard : PassMask) (worst : List Nat) (s : State) : State :=
  match s.tier.dense.find? fun d => d.q = q.val && d.tenant = t.val && d.closed && !d.okWait with
  | none => s
  | some d =>
    let pf := s.inServ.filter fun c => !bit prog.toNat c.val
    let vf := s.inServ.filter fun c => !bit hard.toNat c.val || s.rfld .RET_THRESH 0 7 0 ≤ worst.getD c.val 0
    let s := pf.foldl (fun s c => flCount .PROG_FAIL_CNT c d.sb 1 s) s
    let s := s.inServ.foldl (fun s c => readCount c d.sb 1 s) s
    let bad := s.inServ.filter fun c => pf.contains c || vf.contains c
    memPump 64 (if bad = [] then applyStripe d s else redoStripe d bad s)

/-! ### Checkpoints (R126, R494) -/

def State.ckptSecs (s : State) : Nat := s.rfld .CKPT_INTERVAL 0 15 0

/-- CHECKPOINT_INTERVAL: every map and every carrier's tables are checkpointed. -/
def ckptIntervalRun (s : State) : State :=
  let s := pace 0x140 (secs s.ckptSecs) s
  if s.tier.geo = [] then s
  else
    let new := (List.range 24).filter fun w => !(s.tier.ckpts.any fun k => k.what = w)
    s.updTier fun t => { t with ckpts := t.ckpts ++ new.map fun w => ⟨w, t.logs.toList.getD w 0⟩ }

/-- CHECKPOINT_VERIFIED: the oldest checkpoint in progress verifies; waiting changes proceed. -/
def ckptVerifiedRun (s : State) : State :=
  match s.tier.ckpts with
  | [] => s
  | k :: r =>
    let s := s.updTier fun t =>
      { t with ckpts := r, ckptPt := s.ptNs,
               logs := if h : k.what < 24 then t.logs.set k.what (t.logs[k.what] - k.covers) else t.logs,
               cars := t.cars.map fun c => { c with recSt := c.st } }
    let s := (s.tier.dense.filter fun d => d.okWait).foldl (fun s d => applyStripe d s) s
    memPump 64 (wake .deltaLog (fun _ => true) s)

/-! ### Space, wear, disturb and retention (R129 to R134) -/

/-- The superblock with the fewest valid pages, the lower erase count breaking ties (R129). -/
def State.gcPick (s : State) : Option Nat :=
  let c := s.tier.sbs.filter fun e => e.2.use = 2 && e.2.kind = 0 && !e.2.reloc
  (c.foldl (fun (best : Option (Nat × Nat × Nat)) e =>
    let v := (s.validIn e.1).length
    let w := min e.2.worst 0xFFFF
    match best with
    | none => some (e.1, v, w)
    | some (_, bv, bw) => if v < bv ∨ (v = bv ∧ w < bw) then some (e.1, v, w) else best) none).map fun x => x.1

/-- GC_START: below 3 % free a superblock is collected. -/
def gcRun (s : State) : State :=
  if s.geo.sbs ≠ 0 ∧ s.sbsFree * 100 < 3 * s.geo.sbs ∧ s.tier.gc.isNone ∧ s.tierCode ≠ 3 ∧ s.tierCode ≠ 4 then
    match s.gcPick with
    | some i => memPump 64 (relocate i (s.updTier fun t => { t with gc := some i }))
    | none => s
  else s

/-- FLASH_ERASE_DONE: an erase block of a released superblock has been erased, or failed and is retired (R129, R130, R133). -/
def eraseRun (c : CarrierId) (i : Nat) (pass : Bool) (s : State) : State :=
  let b := s.sb i
  if b.use ≠ 3 ∨ !b.toErase.contains c.val then s
  else
    let s :=
      if pass then
        let s := flCount .FL_ERASE_BYTES c i (s.geo.pages * 16384) (flCount .BLK_ERASE_CNT c i 1 s)
        checkWorn c (logAppend (16 + c.val) (s.setSb i { b with erases := b.erases.set c.val (satAdd 16 (b.erases.getD c.val 0) 1),
                                                                 reads := b.reads.set c.val 0 }))
      else retire c i (flCount .ERASE_FAIL_CNT c i 1 s)
    let b := s.sb i
    let rest := b.toErase.filter (· ≠ c.val)
    updFull (s.setSb i { b with toErase := rest, use := if rest = [] then 0 else 3 })

/-- The spread of the dense erase counts of a carrier: blocks never used count 0. -/
def State.eraseSpread (s : State) (c : CarrierId) : Nat :=
  let l := s.eraseList c
  l.foldl max 0 - (if l.length < s.geo.sbs then 0 else l.foldl min 0xFFFF)

/-- The valid superblock that holds a carrier's lowest erase count. -/
def State.coldest (s : State) (c : CarrierId) : Option Nat :=
  let l := s.tier.sbs.filter fun e => e.2.use = 2 && e.2.kind = 0 && !e.2.reloc
  (l.foldl (fun (best : Option (Nat × Nat)) e =>
    let n := e.2.erases.getD c.val 0
    match best with | none => some (e.1, n) | some (_, b) => if n < b then some (e.1, n) else best) none).map Prod.fst

/-- WEAR_LEVEL_CHECK: a spread above WL_DELTA relocates the coldest superblock, at most once in 10 s (R130, R132). -/
def wearRun (c : CarrierId) (s : State) : State :=
  let last := s.tier.wlAt[c]
  let s := if last = 0 then s else advanceTo (last + secs 10) s
  if s.tier.scrubAll ∨ s.eraseSpread c ≤ s.rfld .WL_DELTA 0 15 0 ∨ ((s.car c).st ≠ 4 ∧ (s.car c).st ≠ 5) then s
  else
    match s.coldest c with
    | some i => memPump 64 (relocate i ((s.updTier fun t => { t with wlAt := t.wlAt.set c s.time.nclk }).count .RELOC_WL_CNT))
    | none => s

/-- RETENTION_SCAN: the Rasp has read page 0 and the last programmed page of a superblock's member (R132). -/
def retentionRun (c : CarrierId) (i : Nat) (r : PageRead) (s : State) : State :=
  let b := s.sb i
  if (b.use ≠ 1 ∧ b.use ≠ 2) ∨ ((s.car c).st ≠ 4 ∧ (s.car c).st ≠ 5) then s
  else
    let valid := s.tier.sbs.filter fun e => e.2.use = 2
    let lastOne := (valid.getLast?.map Prod.fst) = some i && s.inServ.getLast? = some c
    let s := ladder c i r (readCount c i (if b.next ≤ 1 then 0 else 1) s)
    let s := if r.stage = 1 ∧ s.rfld .RET_THRESH 0 7 0 ≤ r.worstBits then relocWeak i s else s
    let s := if r.stage = 5 then relocWeak i s else s
    memPump 64 (if lastOne then s.updTier fun t => { t with scrubAll := false } else s)

end Sys2Proof.Machine
end

