-- ==== Sys2Proof/Machine/Carriers.lean ====
section
/-! DEFINITION. Flash carriers (R108 to R111, R135 to R140, R491): descriptors, discovery, ownership, leaving and coming back. -/

namespace Sys2Proof.Machine

/-! ### Descriptors (R109, R110, R139) -/

def descPool (d : Bytes) : Nat := leAt d 0x30 8
def descSlot (d : Bytes) : Nat := leAt d 0x38 1
def descLeft (d : Bytes) : Nat := leAt d 0x40 8
def descFormatted (d : Bytes) : Bool := bit (leAt d 6 2) 0

/-- The bytes of the geometry that all carriers share: PKG_MASK, DIES, PLANES, BLOCKS, PAGES, CELL (R110). -/
def descGeo (d : Bytes) : Bytes := cut d 0x18 6 ++ cut d 0x20 2 ++ cut d 0x24 1

def descMalformed (d : Bytes) : Bool :=
  d.length ≠ 256 || leAt d 0 4 ≠ 0xD0B0CA00 || leAt d 0xFC 4 ≠ crc32c (cut d 0 0xFC) || leAt d 4 2 ≠ 1 || 2 ≤ leAt d 6 2 ||
    !allZero (cut d 0x48 180) || (descFormatted d && 7 < descSlot d)

def descOutOfRange (d : Bytes) : Bool :=
  let g := geoOf d
  g.dies < 1 || 16 < g.dies || !(g.planes = 1 || g.planes = 2 || g.planes = 4) || g.blocks < 64 || 4095 < g.blocks ||
    4096 < g.blocks + g.spares || g.pages < 64 || 4096 < g.pages || leAt d 0x22 2 < 18432 || !(g.cell = 3 || g.cell = 4)

/-- Does the carrier bear this pair's POOL_ID? -/
def descOurs (d : Bytes) : Bool := descFormatted d && descPool d = Config.pairId.toNat

/-- REFUSE_WHY for a descriptor (R109, R110, R139, R107); 0: accepted. -/
def State.refuseWhy (s : State) (c : CarrierId) (r : CarrierReport) : Nat :=
  let d := r.desc
  if descMalformed d then 1
  else if descOutOfRange d ∨ (s.tier.geo ≠ [] ∧ descGeo d ≠ descGeo s.tier.geo) then 2
  else if descOurs d ∧ descSlot d ≠ c.val then 3
  else if leAt d 0x25 1 ≠ 1 ∧ leAt d 0x25 1 ≠ 2 then 4
  else if !r.onfiOk then 5
  else 0

/-- A descriptor rewritten: FORMATTED, POOL_ID, SLOT, LEFT_SEQ (R138, R139, R491). -/
def descWrite (d : Bytes) (c : CarrierId) (left : Nat) : Bytes :=
  let d := splice (splice (splice (splice (padTo 256 d) 6 [1, 0]) 0x30 (toLe 8 Config.pairId.toNat)) 0x38 [byte c.val]) 0x40 (toLe 8 left)
  splice d 0xFC (toLe 4 (crc32c (cut d 0 0xFC)))

/-! ### Attaching (R138, R139) -/

/-- Would CAR_ATTACH be accepted (R138, R491)? -/
def State.mayAttach (s : State) (c : CarrierId) : Bool :=
  ((s.car c).st = 3 || (s.car c).st = 6) && s.tier.opened && ((indices 8).all fun d => (s.car d).st ≠ 4)

/-- Superblocks that hold something and were opened after a sequence. -/
def State.sbsAfter (s : State) (n : Nat) : Nat := (s.tier.sbs.filter fun e => (e.2.use = 1 || e.2.use = 2) && n < e.2.seq).length

/-- A carrier is attached: its rebuild begins, in part or in full (R139). -/
def attach (c : CarrierId) (s : State) : State :=
  let k : CarSt := s.car c
  let d := k.desc
  let part := descOurs d && descSlot d = c.val && k.recLeft ≠ 0 && descLeft d = k.recLeft && !k.wasFailed
  let from_ := if part then k.recLeft else 0
  let s := s.updCar c fun k =>
    { k with st := 4, waiting := false, doneSb := from_, wasUp := s.tier.sbSeq, why := 0, desc := if part then d else descWrite d c (descLeft d) }
  carEv c .state 0 ((s.setReg .REBUILD_DONE c.val 0).setReg .REBUILD_TOTAL c.val (w32 (s.sbsAfter from_)))

/-- With AUTO_ATTACH, carriers that wait are attached one at a time, in ascending number. -/
def autoAttach (s : State) : State :=
  match (indices 8).find? fun c => (s.car c).waiting && s.mayAttach c with
  | some c => if s.rfld .FLASH_CFG 0 0 0 = 1 then attach c s else s
  | none => s

def carRefused (c : CarrierId) (cmd : Nat) (s : State) : State := refusedBusy 4 c.val cmd (s.car c).st s

def carAttachRun (c : CarrierId) (s : State) : State :=
  if s.isBusy .CAR_CMD_RESULT c.val then carRefused c 2 s
  else if !s.flashEn then s.result .CAR_CMD_RESULT c.val stUNSUPPORTED
  else if (s.car c).st ≠ 3 ∧ (s.car c).st ≠ 6 then conflict .CAR_CMD_RESULT c.val 4 c.val (s.car c).st s
  else if !s.tier.opened then conflict .CAR_CMD_RESULT c.val 4 c.val (s.car c).st s
  else if !s.mayAttach c then conflict .CAR_CMD_RESULT c.val 4 c.val s.tierCode s
  else memPump 64 ((attach c s).result .CAR_CMD_RESULT c.val stOK)

/-- REBUILD_DONE: the carrier is ONLINE, its LEFT_SEQ is rewritten as 0 (R139, R491). -/
def rebuildRun (c : CarrierId) (s : State) : State :=
  if (s.car c).st ≠ 4 then s
  else
    let s := s.updCar c fun k =>
      { k with st := 5, desc := descWrite k.desc c 0, recLeft := 0, wasFailed := false, recSt := 5, doneSb := 0, wasUp := 0 }
    let s := s.setReg .REBUILD_DONE c.val (s.reg .REBUILD_TOTAL c.val)
    memPump 64 (autoAttach (carEv c .state 0 s))

/-! ### Discovery (R108, R135, R491) -/

/-- Is the flash tier powered here (R10, R410 step 8, R385)? -/
def State.tierOn (s : State) : Bool :=
  s.flashEn && s.pwr.st < 3 && (s.su.running.contains 8 || s.su.doneSteps.contains 8) && s.pair.role ≠ 2 && s.pair.role ≠ 6

def State.owned (s : State) (c : CarrierId) : Bool := bit s.pin.carOwn.toNat c.val
def State.present (s : State) (c : CarrierId) : Bool := !bit s.pin.carPrsntN.toNat c.val

/-- A present carrier starts discovery where it is owned and the tier is powered; where it is not owned it reads NOT_OWNED (R111). -/
def carEnter (c : CarrierId) (s : State) : State :=
  s.updCar c fun k =>
    { k with st := if !s.present c then 0 else if !s.owned c then 1 else if s.tierOn then 2 else 0, why := 0, waiting := false, holdAt := none }

/-- Has local channel i a package fitted (R109 PKG_MASK)? Only such a channel is trained. -/
def chanFitted (d : Bytes) (i : Nat) : Bool := bits (leAt d 0x18 2) (4 * i + 3) (4 * i) ≠ 0

/-- The channels of an accepted carrier: 3,200 MT/s, or 1,600 MT/s with an event where 3,200 was tried and failed (R108). -/
def chanSpeeds (c : CarrierId) (r : CarrierReport) (s : State) : State :=
  let slow := leAt r.desc 0x25 1 = 1
  let sp := (List.range 4).map fun i => if r.speeds.getD i 0 = 0 then 0 else if slow then 1 else r.speeds.getD i 0
  let s := s.updCar c fun k => { k with speeds := sp }
  (List.range 4).foldl (fun s i =>
    if !slow ∧ sp.getD i 0 = 1 then logEv ⟨4, .state, 0x100 + 4 * c.val + i, 0, 0, 2, 0xFF, []⟩ s else s) s

/-- CARRIER_DISCOVERY_DONE. The first carrier to complete sets the geometry of the tier. -/
def discoveryRun (c : CarrierId) (r : CarrierReport) (s : State) : State :=
  if (s.car c).st ≠ 2 then s
  else
    let why := s.refuseWhy c r
    if why ≠ 0 then
      carEv c .refused why (s.updCar c fun k => { k with st := 8, why := why, desc := r.desc })
    else
      let same := cut r.desc 8 16 = cut (s.car c).desc 8 16
      let s := s.updCar c fun k =>
        { k with desc := r.desc, why := 0, spares := if same then k.spares else [], retired := if same then k.retired else 0,
                 worn := same && k.worn }
      let s := if same then s else s.updTier fun t => { t with sbs := t.sbs.map fun e =>
        (e.1, { e.2 with erases := e.2.erases.set c.val 0, reads := e.2.reads.set c.val 0 }) }
      let s := chanSpeeds c r s
      if ((List.range 4).any fun i => chanFitted r.desc i && (s.car c).speeds.getD i 0 = 0) then memPump 64 (carFail c 0 s)
      else
        let s := if s.tier.geo = [] then
            let s := s.updTier fun t => { t with geo := r.desc }
            s.setReg .USABLE_GRAN 0 (w32 s.geo.usable)
          else s
        let s := s.updCar c fun k => { k with st := 3, waiting := s.rfld .FLASH_CFG 0 0 0 = 1 }
        memPump 64 (if s.tier.opened then autoAttach s else s)

/-- Pool time is not valid, or more than RET_PERIOD hours past the last checkpoint: every valid superblock is to be scanned before wear
levelling goes on (R132). -/
def State.scanDue (s : State) : Bool :=
  (!s.ptValid || s.tier.ckptPt + s.rfld .RET_PERIOD 0 15 0 * 3600000000000 < s.ptNs) && s.tier.sbs.any fun e => e.2.use = 2

/-- Start-up step 12 or takeover stage 6: every accepted carrier is placed (R491). -/
def placeCarriers (s : State) : State :=
  let acc := (indices 8).filter fun c => (s.car c).st = 3
  let s :=
    if acc = [] then s
    else if acc.all fun c => !descOurs (s.car c).desc then
      let s := s.updTier fun t =>
        { TierSt.init with cars := t.cars, geo := t.geo, logs := t.logs }
      acc.foldl (fun s c => s.updCar c fun k =>
        { k with st := 5, desc := descWrite k.desc c 0, recSt := 5, recLeft := 0, wasFailed := false, waiting := false, spares := k.spares }) s
    else
      acc.foldl (fun s c =>
        let k : CarSt := s.car c
        if descOurs k.desc ∧ descSlot k.desc = c.val ∧ descLeft k.desc = 0 ∧ k.recSt = 5 then
          s.updCar c fun k => { k with st := 5, waiting := false }
        else s) s
  let s := s.updTier fun t => { t with opened := true, scrubAll := s.scanDue }
  let s := match (indices 8).find? fun c => (s.car c).st = 3 && (s.car c).recSt = 4 && s.mayAttach c with
    | some c => attach c s
    | none => s
  autoAttach s

/-! ### Presence and ownership (R111, R135, R136) -/

def setBitV {n : Nat} (v : BitVec n) (i : Nat) (x : Bool) : BitVec n := BitVec.ofNat n (setBits v.toNat i i (b2n x))

/-- A carrier is inserted. -/
def presentRun (c : CarrierId) (s : State) : State :=
  let s : State := { s with pin := { s.pin with carPrsntN := setBitV s.pin.carPrsntN c.val false } }
  carEnter c s

/-- A carrier is pulled: in service it is FAILED, else ABSENT. -/
def absentRun (c : CarrierId) (s : State) : State :=
  let s : State := { s with pin := { s.pin with carPrsntN := setBitV s.pin.carPrsntN c.val true } }
  let st : Nat := (s.car c).st
  if st = 4 ∨ st = 5 then memPump 64 (autoAttach (carFail c 0 s))
  else if st = 7 then s
  else carDone c stRETRY_BUSY (s.updCar c fun k => { k with st := 0, why := 0, waiting := false })

/-- CAR_OWN falls: in service, the carrier's 1 ms begins; else it reads NOT_OWNED. -/
def ownFall (c : CarrierId) (s : State) : State :=
  let s : State := { s with pin := { s.pin with carOwn := setBitV s.pin.carOwn c.val false } }
  let st : Nat := (s.car c).st
  if s.pair.role = 5 ∧ !s.pair.seize ∧ st ≠ 7 ∧ s.present c then s.updCar c fun k => { k with st := 1, why := 0, waiting := false }
  else if st = 4 ∨ st = 5 then
    let now := s.time.nclk
    let s := s.updCar c fun k => { k with holdAt := some now }
    s.updTier fun t => { t with fenceFirst := some (match t.fenceFirst with | some f => if now ≤ f + msec 1 then f else now | none => now) }
  else if st = 7 ∨ !s.present c then s
  else carDone c stRETRY_BUSY (s.updCar c fun k => { k with st := 1, why := 0, waiting := false })

/-- CAR_OWN rises: a carrier within its 1 ms goes on; a carrier that was not owned is discovered. -/
def ownRise (c : CarrierId) (s : State) : State :=
  let s : State := { s with pin := { s.pin with carOwn := setBitV s.pin.carOwn c.val true } }
  let k : CarSt := s.car c
  if k.holdAt.isSome then s.updCar c (fun k => { k with holdAt := none })
  else if k.st = 1 ∨ (k.st = 0 ∧ s.present c) then carEnter c s
  else s

/-- A carrier whose lines have all fallen together: NOT_OWNED, not FAILED. -/
def disown (c : CarrierId) (s : State) : State := s.updCar c fun k => { k with holdAt := none, st := 1, why := 0, waiting := false }

/-- Have all eight lines fallen within 1 ms of one another, the first at `f` (R111)? -/
def State.allFell (f : Nat) (s : State) : Bool :=
  s.pin.carOwn = 0 && (indices 8).all fun c => match (s.car c).holdAt with | some x => f ≤ x | none => true

/-- The 1 ms ends: carriers still not owned are treated as pulled, unless all eight fell within it (R111). -/
def carHoldRun (s : State) : State :=
  match s.tier.fenceFirst with
  | none => s
  | some f =>
    let s := advanceTo (f + msec 1) s
    let l := (indices 8).filter fun c => (s.car c).holdAt.isSome && !s.owned c
    let s := s.updTier fun t => { t with fenceFirst := none }
    if s.allFell f then l.foldl (fun s c => disown c s) s
    else memPump 64 (autoAttach (l.foldl (fun s c => carFail c 0 s) s))

/-! ### CAR_OFFLINE (R138) -/

/-- Open superblocks close: what is written from now on goes to superblocks opened after LEFT_SEQ. -/
def closeOpenSbs (s : State) : State :=
  s.updTier fun t => { t with sbs := t.sbs.map fun e => (e.1, { e.2 with use := if e.2.use = 1 then 2 else e.2.use }) }

def carOfflineRun (c : CarrierId) (force : Bool) (s : State) : State :=
  if s.isBusy .CAR_CMD_RESULT c.val then carRefused c 1 s
  else if !s.flashEn then s.result .CAR_CMD_RESULT c.val stUNSUPPORTED
  else if (s.car c).st ≠ 5 then conflict .CAR_CMD_RESULT c.val 4 c.val (s.car c).st s
  else if s.tierCode ≠ 0 ∧ !(force && s.tierCode = 1) then conflict .CAR_CMD_RESULT c.val 4 c.val s.tierCode s
  else
    let s := closeOpenSbs (s.busy .CAR_CMD_RESULT c.val)
    let s := s.updCar c fun k => { k with recLeft := s.tier.sbSeq }
    memPump 64 (remirrorFrom c (dropErase c s))

def carOfflineDoneRun (c : CarrierId) (s : State) : State :=
  if !s.leaving c then s
  else
    let s := s.updCar c fun k => { k with st := 6, desc := descWrite k.desc c k.recLeft, recSt := 6, wasFailed := false }
    memPump 64 ((carEv c .state 0 s).result .CAR_CMD_RESULT c.val stOK)

/-- CAR_CMD codes other than the two commands are answered UNSUPPORTED (R140). -/
def carCmdOther (c : CarrierId) (code : Nat) (s : State) : State :=
  if s.isBusy .CAR_CMD_RESULT c.val then carRefused c code s else s.result .CAR_CMD_RESULT c.val stUNSUPPORTED

end Sys2Proof.Machine
end

