-- ==== Sys2Proof/Machine/Cmd.lean ====
section
/-! DEFINITION. Coordination messages (R381), commands and their replies: issuer classes (R263), reply blocks (R264, R265), stored replies (R267), the
register mailbox (R286) and STATE_CONFLICT entries (R19). -/

namespace Sys2Proof.Machine

/-- Issuer classes of R263; a TA or H belongs to a tenant. -/
inductive IClass where
  | da
  | ta (t : TenantId)
  | host (t : TenantId)
  | nobody
deriving DecidableEq, Repr

/-- The class of a fabric endpoint (R263, R337). -/
def State.classOfEp (s : State) (src : W16) : IClass :=
  match s.hostEntry src with
  | none => .nobody
  | some (_, b) =>
    let t : TenantId := ⟨leAt b 3 1 % 16, Nat.mod_lt _ (by decide)⟩
    match leAt b 2 1 with
    | 0 => .da
    | 1 => .ta t
    | _ => .host t

/-- The class of an issuer: the BMC is a device administrator, an endpoint is what its host-table entry says; a command that another
device forwards for itself is its administrator's. -/
def State.classOf (s : State) (i : Issuer) : IClass :=
  match i with
  | .bmc | .rgnCmd _ | .slotCmd _ | .hwdCmd => .da
  | .ep src => s.classOfEp src
  | .fwd _ _ src => if s.isDevice src then .da else s.classOfEp src

/-- The endpoint a command comes from; 0 for the BMC. -/
def issuerSrc (i : Issuer) : Nat :=
  match i with | .ep a => a.toNat | .fwd _ _ a => a.toNat | .bmc | .rgnCmd _ | .slotCmd _ | .hwdCmd => 0

/-- The tenant number for an event entry. -/
def IClass.tenantNo : IClass → Nat
  | .ta t | .host t => t.val
  | .da | .nobody => 0xFF

/-- A reply block (R264), version 1.0 (R265). -/
def replyBlock (cmd : Nat) (seq : W32) (status : Byte) (state : Nat) (res : Bytes) : Bytes :=
  [0, 0, 1, 0] ++ toLe 2 cmd ++ toLe 2 res.length ++ toLe 4 seq.toNat ++ [status, byte state, 0, 0] ++ res

/-- A block is put into MBX_OUT and MBX_STAT (R286). -/
def putMbxOut (b : Bytes) (s : State) : State :=
  let s := (List.range 48).foldl (fun s i => s.setReg .MBX_OUT i (w32 (leAt b (4 * i) 4))) s
  s.setReg .MBX_STAT 0 (w32 (leAt b 0x0D 1 % 16 * 256 + leAt b 0x0C 1))

/-- The replies of the last 16 commands of each endpoint are kept (R267). -/
def keepReply (src : W16) (seq : W32) (b : Bytes) (l : List (W16 × W32 × Bytes)) : List (W16 × W32 × Bytes) :=
  let mine := (l.filter fun e => e.1 = src).take 15
  (src, seq, b) :: (mine ++ l.filter fun e => e.1 ≠ src)

/-! ### COORD and COORD_ACK (R381) -/

/-- A coordination message goes to a device; one to this device itself is taken by it at once. -/
def coordOut (dst : W16) (ack : Option Nat) (payload : Bytes) (s : State) : State :=
  if s.isMe dst.toNat then { s with coord := { s.coord with loop := s.coord.loop ++ [(ack, payload)] } }
  else send { cls := .mgt, op := if ack.isSome then 0x1A else 0x19, dst := dst, src := s.myId, tag := 0, hint := ack.getD 0,
              payload := payload } s

/-- A COORD message is sent under a new XID, and its acknowledgement expected. -/
def coordSend (dst : W16) (subop : Nat) (body : Bytes) (h : Option CmdHdr) (region : Nat) (s : State) : State :=
  let x := s.coord.nextXid + 1
  let tx : CoordTx := ⟨x, subop, dst, body, s.time.nclk, h, region⟩
  coordOut dst none ([byte subop, 0, 0, 0] ++ toLe 4 x.toNat ++ body)
    { s with coord := { s.coord with nextXid := x, sent := s.coord.sent ++ [tx] } }

/-- A COORD message is acknowledged, and the acknowledgement kept for repeats. -/
def coordAckSend (src : W16) (xid : W32) (subop : Nat) (st : Byte) (hint : Nat) (body : Bytes) (s : State) : State :=
  coordOut src (some hint) ([byte subop, st, 0, 0] ++ toLe 4 xid.toNat ++ body)
    { s with coord := { s.coord with acked := ⟨src, xid, subop, st, body⟩ :: s.coord.acked,
                                     fwdOpen := s.coord.fwdOpen.filter fun e => !(e.1 = src && e.2 = xid) } }

/-! ### Replies -/

/-- LID_STAT (R369). -/
def State.lidStat (s : State) : W32 :=
  let h := s.hw
  w32 (h.discCnt * 65536 + b2n h.latchB * 8 + b2n h.latchA * 4 + b2n h.lidB * 2 + b2n h.lidA)

/-- The entry of a command answered STATE_CONFLICT (R19, R485, R286). -/
def conflictEv (h : CmdHdr) (cmd state : Nat) (s : State) : State :=
  let t := (s.classOf h.iss).tenantNo
  match h.iss with
  | .hwdCmd => logEv ⟨9, .refused, 0, 0, stSTATE_CONFLICT, state, t, toLe 4 s.lidStat.toNat⟩ s
  | .slotCmd q => logEv ⟨5, .refused, 4 * q.val, 0, stSTATE_CONFLICT, state, t, []⟩ s
  | .rgnCmd q => logEv ⟨6, .refused, s.rfld .RGN_SEL q.val 11 0, 0, stSTATE_CONFLICT, state, t, []⟩ s
  | .bmc | .ep _ | .fwd _ _ _ =>
    (logEv ⟨0x0B, .refused, cmd, 0, stSTATE_CONFLICT, state, t, toLe 2 (issuerSrc h.iss) ++ toLe 4 h.seq.toNat⟩ s).count .CMD_CONFLICT_CNT

/-- The RESULT of a command that is not answered OK (R273): PROG_LOAD carries FAIL_INDEX, JOB_BOUNDARY POSITION; TASK_QUERY its full
result, whose STATE is a free value where the reply names no task. -/
def failResult (cmd : Nat) (s : State) : Bytes × State :=
  if cmd = 0x121 then ([0, 0, 0xFF, 0xFF] ++ zeros 12, s)
  else if cmd = 0x502 then ([0xFF, 0, 0, 0], s)
  else if cmd = 0x133 then
    let (k, s) := draw s
    ([byte (Config.random k).toNat, 0, 0, 0], s)
  else ([], s)

/-- The command is answered. -/
def reply (h : CmdHdr) (cmd : Nat) (status : Byte) (state hint : Nat) (res : Bytes) (s : State) : State :=
  let (res, s) := if status ≠ stOK ∧ res = [] then failResult cmd s else (res, s)
  let s := if status = stSTATE_CONFLICT then conflictEv h cmd state s else s
  let code := if status = stSTATE_CONFLICT then state else 0
  let b := replyBlock cmd h.seq status code res
  match h.iss with
  | .bmc => putMbxOut b s
  | .ep a =>
    let tag := ((s.mbx.open_.find? fun o => o.1 = a && o.2.1 = h.seq).map fun o => o.2.2).getD 0
    let left := s.mbx.open_.filter fun o => !(o.1 = a && o.2.1 = h.seq)
    let s := { s with mbx := { s.mbx with open_ := left, replies := keepReply a h.seq b s.mbx.replies } }
    send { cls := .mgt, op := 2, dst := a, src := s.myId, tag := tag, status := status, hint := hint, payload := b } s
  | .fwd dev xid _ => coordAckSend dev xid 4 status hint b s
  | .rgnCmd _ => (List.range 4).foldl (fun s q => s.result .RGN_CMD_RESULT q status code) s
  | .slotCmd q => s.result .SLOT_CMD_RESULT q.val status code
  | .hwdCmd => s.result .HWD_CMD_RESULT 0 status code

/-- Answered with a status alone. -/
def replySt (h : CmdHdr) (cmd : Nat) (status : Byte) (s : State) : State := reply h cmd status 0 0 [] s

/-- Answered OK with a result. -/
def replyOk (h : CmdHdr) (cmd : Nat) (res : Bytes) (s : State) : State := reply h cmd stOK 0 0 res s

/-- Answered RETRY_BUSY with a back-off hint in ns. -/
def replyBusy (h : CmdHdr) (cmd hintNsec : Nat) (s : State) : State := reply h cmd stRETRY_BUSY 0 (hintNs hintNsec) [] s

/-- Answered STATE_CONFLICT with a state code. -/
def replyConflict (h : CmdHdr) (cmd code : Nat) (s : State) : State := reply h cmd stSTATE_CONFLICT code 0 [] s

/-- Only a device administrator may issue the command (R263). -/
def onlyDA (h : CmdHdr) (cmd : Nat) (f : State → State) (s : State) : State :=
  match s.classOf h.iss with
  | .da => f s
  | .ta _ | .host _ | .nobody => replySt h cmd stNO_ACCESS s

/-- Only a tenant administrator may issue the command (R263). -/
def onlyTA (h : CmdHdr) (cmd : Nat) (f : TenantId → State → State) (s : State) : State :=
  match s.classOf h.iss with
  | .ta t => f t s
  | .da | .host _ | .nobody => replySt h cmd stNO_ACCESS s

/-- Any host of a tenant, its administrator included, may issue the command (R263). -/
def tenantHost (h : CmdHdr) (cmd : Nat) (f : TenantId → State → State) (s : State) : State :=
  match s.classOf h.iss with
  | .ta t | .host t => f t s
  | .da | .nobody => replySt h cmd stNO_ACCESS s

end Sys2Proof.Machine
end

