-- ==== Sys2Proof/Machine/Lands.lean ====
section
/-! DEFINITION. The output lands as functions of the state (R424, R470, R472), and the end of every command: the lands take
their levels. -/

namespace Sys2Proof.Machine

/-- A bit vector from a predicate on its indices. -/
def ofBits (n : Nat) (f : Nat → Bool) : BitVec n :=
  (List.range n).foldl (fun v i => bif f i then v ||| BitVec.ofNat n (2 ^ i) else v) 0

/-- Are the outputs in their reset states: the hub held in reset (R424), or waiting after PF_DONE (R433)? -/
def State.outputsOff (s : State) : Bool := s.su.held || s.pwr.pfPhase = 2

/-- Is link l's transmitter at electrical idle: its die in reset, or DISABLED, RESET (R295, R470)? -/
def State.linkIdle (s : State) (l : Nat) : Bool :=
  if h : l < 24 then s.outputsOff || (s.link ⟨l, h⟩).st = 0 || (s.link ⟨l, h⟩).st = 9 else true

/-- Are channel c's DIMMs powered, their RESET_N high: training or in service (R101, R102, R429, R472)? -/
def State.dimmPowered (s : State) (c : Nat) : Bool :=
  if h : c < 16 then !s.outputsOff && s.pwr.st < 4 && 1 ≤ (s.chan ⟨c, h⟩).st && (s.chan ⟨c, h⟩).st ≤ 3 else false

/-- Is carrier c powered: discovering, accepted, in service or refused (R135, R429)? -/
def State.carPowered (s : State) (c : Nat) : Bool :=
  if h : c < 8 then
    !s.outputsOff && s.pwr.st < 3 && ((2 ≤ (s.car ⟨c, h⟩).st && (s.car ⟨c, h⟩).st ≤ 5) || (s.car ⟨c, h⟩).st = 8)
  else false

/-- The levels the output lands hold. -/
def State.landLevels (s : State) : PinsOut :=
  { txIdle := ofBits 24 s.linkIdle
    ddrResetN := ofBits 16 s.dimmPowered
    ddrPwrEn := ofBits 16 s.dimmPowered
    carPwrEn := ofBits 8 s.carPowered
    flashHiZ := ofBits 8 fun c => !bit s.pin.carOwn.toNat c
    flashReset := ofBits 8 fun c => !s.carPowered c
    pairSeizeN := s.outputsOff || !s.pair.seize
    thermtripN := !s.pwr.trip
    chainBypass := s.outputsOff || s.spn.state = 0
    cfgRstN := !s.outputsOff }

/-- The lands take their levels. -/
def settle (s : State) : State := { s with lands := s.landLevels }

/-- A command ends in a next state. -/
def done (s : State) : Host.Outcome State Fault Refusal := .next (settle s)

/-- A command that only a running hub takes: while the hub is held in reset nothing of it comes about (R424, R476). -/
def live (f : State → State) (s : State) : Host.Outcome State Fault Refusal := done (if s.su.held then s else f s)

end Sys2Proof.Machine
end

