-- ==== Sys2Proof/Machine/Reset.lean ====
section
/-! DEFINITION. Resets of the hub and the quarters: what each keeps and loses (R424 to R427, R430, R476). -/

namespace Sys2Proof.Machine

/-- Is a register kept through every reset of the hub: PLOG_HEAD (R467)? The monitor domain's and Heartwood's other registers
are computed from Heartwood's own state. -/
def keptReg (r : Reg) : Bool := r = .PLOG_HEAD

/-- Some registers' elements lose what they hold. -/
def clearRegs (p : Reg → Nat → Bool) (s : State) : State :=
  let hit (k : Nat) : Bool := match Reg.all[k / 65536]? with | some r => p r (k % 65536) && !keptReg r | none => false
  { s with regs := s.regs.filter (fun e => !hit e.1), cnt64 := s.cnt64.filter (fun e => !hit e.1),
           snap := s.snap.filter (fun e => !hit e.1), snap64 := s.snap64.filter (fun e => !hit e.1) }

/-- A carrier after its device has restarted: what stands on it and what the checkpoint records of it (R126, R135 to R139). -/
def CarSt.kept (c : CarSt) : CarSt :=
  { CarSt.init with recSt := c.recSt, recLeft := c.recLeft, wasFailed := c.wasFailed, retired := c.retired, spares := c.spares }

/-- What stands on the carriers: pages, superblocks, the map and journal as the checkpoint and delta log hold them (R124, R126, R430).
A stripe or a journal page that had not been verified is not among it. -/
def TierSt.kept (t : TierSt) : TierSt :=
  { t with cars := t.cars.map CarSt.kept, geo := [], dense := [], remirror := [], full := false, ckpts := [], gc := none, fenceFirst := none,
           opened := false }

/-- The records of a region as they stand after a restart: a volatile one is FATAL (R68, R430), a reduction region has the state that was
journalled (R190). -/
def Region.kept (g : Region) : Region :=
  { g with st := if g.st ≠ 0 ∧ !g.durable then 4 else g.st, gen := { g.genDur with reported := false, reports := [], doneWait := [], jw := [] },
           reply := none }

/-- A context as it stands after a restart: its descriptors (R379); triggers start again. -/
def Ctx.kept (c : Ctx) : Ctx := { c with trigs := [], reply := none }

/-- The hub and the quarters in power-on reset: everything of theirs takes its Reset value; Heartwood, the monitor domain, the
RTC, the monotonic count, the configuration flash, the pins, the records and what stands on the carriers are kept (R22, R425, R430). -/
def porState (s : State) : State :=
  { State.reset with
    pending := s.pending
    plog := s.plog
    time := { State.reset.time with nclk := s.time.nclk, rtc := s.time.rtc, rtcValid := s.time.rtcValid,
                                    dateInvalid := s.time.dateInvalid, utc := s.time.utc, stDate := s.time.stDate,
                                    stTime := s.time.stTime }
    blank := { State.reset.blank with a := s.blank.a, b := s.blank.b }
    hw := s.hw
    pwr := { State.reset.pwr with pfMib := s.pwr.pfMib, pfUs := s.pwr.pfUs }
    slices := s.slices.map fun x => { x with st := 0, after := none, cleared := true }
    pin := s.pin
    tier := s.tier.kept
    pins := s.pins
    rgn := { s.rgn with tab := s.rgn.tab.map (fun e => (e.1, e.2.kept)), stamps := [] }
    ctx := { s.ctx with tab := s.ctx.tab.map fun e => (e.1, e.2.kept) }
    out := s.out
    free := s.free }

end Sys2Proof.Machine
end

