-- ==== Sys2Proof/Machine/Time.lean ====
section
/-! DEFINITION. Time commands: fabric synchronisation (R436), holdover, PTP (R435), the RTC and the calendar (R439, R440). The
payloads of the time messages are CORR (8 B) and one stamp (8 B), both in ns: the spec gives CORR and names the stamps, not
their places (log entry 10). -/

namespace Sys2Proof.Machine

/-- Periodic activities of `pace`. -/
def paceSync : Nat := 1
def paceTemp : Nat := 2
def pacePower : Nat := 3
def paceCap : Nat := 4
def paceSuper : Nat := 5
def paceBeat : Nat := 6
def paceSlot : Nat := 7
def paceLid : Nat := 8
def paceMesh : Nat := 9
def paceTamperT : Nat := 10
def paceTick : Nat := 11
def paceTrace : Nat := 12
def paceCkpt : Nat := 13
def paceEnum : Nat := 14
def paceSched : Nat := 15

/-- TIME_SYNC_PERIOD: every 125 ms the headstock starts an exchange with each member of the map, ascending (R436, R314). -/
def syncPeriod (s : State) : State :=
  if s.head.head then
    let s := pace paceSync (msec 125) s
    let members := (List.range 32).filter fun p => (s.spn.map.getD p 0).toNat % 4 ≠ 0 ∧ p ≠ s.spn.pos
    members.foldl (fun s p => sendMgt (s.idOf p) 0x16 (toLe 8 0 ++ toLe 8 s.ptNs) s) s
  else s

/-- TIME_SYNC at a member: t2 is stamped and TIME_DREQ sent with t3 (R436). Holdover ends. -/
def timeSyncRx (m : MgtMsg) (s : State) : State :=
  let c1 := 8 * leAt m.payload 0 8
  let t1 := 8 * leAt m.payload 8 8
  let s := { s with time := { s.time with lastSync := s.time.nclk + 1, holdAt := none,
                                          xch := some ⟨t1, s.time.pt, s.time.pt, c1⟩ } }
  sendMgt m.src 0x17 (toLe 8 0 ++ toLe 8 s.ptNs) s

/-- TIME_DREQ at the headstock: TIME_DRESP returns t4 and the CORR of the return path (R436). -/
def timeDreqRx (m : MgtMsg) (s : State) : State :=
  if s.head.head then sendMgt m.src 0x18 (cut m.payload 0 8 ++ toLe 8 s.ptNs) s else s

/-- TIME_DRESP at a member: the offset, its correction, and SRC FABRIC (R436, R438). -/
def timeDrespRx (m : MgtMsg) (s : State) : State :=
  match s.time.xch with
  | none => s
  | some x =>
    let c2 : Int := 8 * leAt m.payload 0 8
    let t4 : Int := 8 * leAt m.payload 8 8
    let off := (((x.t2 : Int) - x.t1 - x.c1) - (t4 - x.t3 - c2)) / 2
    let s := { s with time := { s.time with xch := none } }
    let s := correct off s
    { s with time := { s.time with src := 2 } }

/-- HOLDOVER_ENTRY: no TIME_SYNC for 2 s at a member that follows the fabric (R436). -/
def holdEnter (s : State) : State :=
  if s.time.src = 2 ∧ s.time.holdAt = none then
    let s := advanceTo (s.time.lastSync + secs 2) s
    { s with time := { s.time with holdAt := some s.time.nclk } }
  else s

/-- HOLDOVER_EXPIRE: after 60 s of holdover SRC becomes NONE (R436). -/
def holdExpire (s : State) : State :=
  match s.time.holdAt with
  | some t =>
    let s := advanceTo (t + secs 60) s
    { s with time := { s.time with src := 0 } }
  | none => s

/-- PTP_MESSAGE (R435): a headstock with PTP enabled, in its domain, follows PTP once locked, and its RTC otherwise. -/
def ptpRx (domain : Byte) (locked : Bool) (ptpNs : W64) (s : State) : State :=
  if s.head.head ∧ s.rfld .PTP_CFG 0 8 8 = 1 ∧ s.rfld .PTP_CFG 0 7 0 = domain.toNat then
    if locked then
      let target : Int := 8 * ((ptpNs.toNat : Int) - 946684800000000000)
      let s := correct ((s.time.pt : Int) - target) s
      { s with time := { s.time with src := 3, ptpLocked := true } }
    else
      { s with time := { s.time with ptpLocked := false, src := if s.time.rtcValid then 1 else 0 } }
  else s

/-- RTC_SECOND: at a whole second of pool time the RTC is set from it if they differ by 1 s or more (R439). -/
def rtcSecondRun (s : State) : State :=
  if s.time.src = 2 ∨ s.time.src = 3 then
    let s := advancePool (1000000000 * (s.ptNs / 1000000000 + 1)) s
    let d : Int := (5 * s.time.rtc : Int) - s.time.pt
    if 8000000000 ≤ d.natAbs then
      { s with time := { s.time with rtc := s.time.pt / 5, rtcValid := true } }
    else s
  else s

/-- An RTC_CMD under R490. -/
def rtcCmdRun (code : Nat) (f : State → State) (s : State) : State :=
  if s.isBusy .RTC_CMD_RESULT 0 then refusedBusy 0x0C 0xFFFF code s.time.src s else f s

def execTimeSyncPeriod (s : State) : Host.Outcome State Fault Refusal := live syncPeriod s
def execTimeSync (m : MgtMsg) (s : State) : Host.Outcome State Fault Refusal := live (timeSyncRx m) s
def execTimeDreq (m : MgtMsg) (s : State) : Host.Outcome State Fault Refusal := live (timeDreqRx m) s
def execTimeDresp (m : MgtMsg) (s : State) : Host.Outcome State Fault Refusal := live (timeDrespRx m) s
def execHoldoverEntry (s : State) : Host.Outcome State Fault Refusal := live holdEnter s
def execHoldoverExpire (s : State) : Host.Outcome State Fault Refusal := live holdExpire s
def execPtpMessage (domain : Byte) (locked : Bool) (ptpNs : W64) (s : State) : Host.Outcome State Fault Refusal :=
  live (ptpRx domain locked ptpNs) s
def execRtcSecond (s : State) : Host.Outcome State Fault Refusal := done (rtcSecondRun s)
def execCalCommit (s : State) : Host.Outcome State Fault Refusal := live (rtcCmdRun 1 calCommit) s

end Sys2Proof.Machine
end

