-- ==== Sys2Proof/Machine/Tamper.lean ====
section
/-! DEFINITION. Heartwood (R341 to R364): NV slots, the vault, ERASE, the tamper sources and lid channels, the service window,
and the start of the hub (R350, R425). -/

namespace Sys2Proof.Machine

/-- A write to NV slot k (R352): at 10^6 writes it moves to a spare; false when no spare is left. -/
def nvWrite (k : Fin 26) (s : State) : Bool × State :=
  let n := s.hw.nvWrites[k]
  if n < 1000000 then (true, { s with hw := { s.hw with nvWrites := upd s.hw.nvWrites k fun n => n + 1 } })
  else if s.hw.retired < 16 then
    (true, plogEv 8 k.val 0
      { s with hw := { s.hw with nvWrites := upd s.hw.nvWrites k fun _ => 1, retired := s.hw.retired + 1 } })
  else (false, s)

/-- The NV slot of durable key t. -/
def keySlotNo (t : TenantId) : Fin 26 := ⟨t.val, by omega⟩
/-- The NV slot of counter i. -/
def ctrSlotNo (i : Fin 8) : Fin 26 := ⟨17 + i.val, by omega⟩

/-- TAMPER_CFG fields, from the policy slot in force (R353). -/
def State.tDisc (s : State) : Nat := max 10 (min 1000 (fld s.hw.pol 21 12))

/-- Entries of class 0x09: the TAMPER_STAT bit and LID_STAT (R452). -/
def tamperEv (k : EvKind) (b : Nat) (s : State) : State :=
  logEv ⟨9, k, 0, b, 0, 0, 0xFF, toLe 4 s.lidStat.toNat⟩ s

/-- A detected source records: its TAMPER_STAT bit, one persistent-log entry and one event-log entry (R354). -/
def record (b : Nat) (s : State) : State :=
  let s := { s with hw := { s.hw with tamper := s.hw.tamper ||| byte (2 ^ b) } }
  tamperEv .security b (plogEv 2 b 0 s)

/-- The vault is overwritten: seed, durable slots and ephemeral store (R355). -/
def eraseVault (s : State) : State :=
  plogEv 3 0 0 { s with hw := { s.hw with seed := none, keys := s.hw.keys.map fun k => { k with key := 0 },
                                          eph := Vector.replicate 16 none, eraseCnt := s.hw.eraseCnt + 1,
                                          erasePending := true } }

/-- The expected continuity word (R350). -/
def contWord (epoch : Nat) : W32 := w32 (0x6B000000 + epoch % 2 ^ 24)

/-- Step 1 of start-up: an ERASE that has taken place shows and turns LIVE slots LOST; a vault without a seed draws one (R341,
R355). -/
def vaultStart (s : State) : State :=
  let s := if s.hw.erasePending then
      { s with hw := { s.hw with erasePending := false, tamper := s.hw.tamper ||| 0x80#8,
                                 keys := s.hw.keys.map fun k => if k.st = 1 then { k with st := 2 } else k },
               spn := { s.spn with alarmOwn := s.spn.alarmOwn ||| 2#8 } }
    else s
  match s.hw.seed with
  | some _ => s
  | none =>
    let (n, s) := draw s
    let s := (nvWrite 16 s).2
    { s with hw := { s.hw with seed := some n, kakEpoch := s.hw.kakEpoch + 1 } }

/-- Pool time at step 1: from the RTC where it is valid (R439). -/
def rtcStart (s : State) : State :=
  if s.time.rtcValid then { s with time := { s.time with src := 1, pt := 5 * s.time.rtc } } else s

/-- The hub starts (R425): the reset state, the START entry with its cause, ephemeral keys gone, the continuity check (R350).
With VAULT_GAP_POLICY 1 a gap is an ERASE before step 2 (R351). -/
def startHub (cause : Byte) (s : State) : State :=
  let s := porState s
  let s := { s with hw := { s.hw with eph := Vector.replicate 16 none, resetPending := none, secOpen := false },
                    su := { s.su with hosted := s.pin.hosted } }
  let s := rtcStart (plogEv 1 cause.toNat 0 s)
  let found := s.hw.cont
  if found = contWord s.hw.epoch then vaultStart { s with hw := { s.hw with watchGap := false } }
  else
    let s := { s with hw := { s.hw with watchGap := true, tamper := s.hw.tamper ||| 0x40#8 } }
    let s := tamperEv .state 6 (plogEv 4 0 found.toNat s)
    let s := { s with hw := { s.hw with epoch := s.hw.epoch + 1, cont := contWord (s.hw.epoch + 1) } }
    let s := if fld s.hw.pol 0 0 = 1 then plogEv 1 7 0 (eraseVault s) else s
    vaultStart s

/-- Power-on reset of the hub and the quarters with a cause; while main power is absent it waits (R354). -/
def powerOnReset (cause : Byte) (s : State) : State :=
  if s.su.held then { s with hw := { s.hw with resetPending := some cause } } else startHub cause s

/-- A response: 0 RECORD, 1 RESET, 2 ERASE (R354); the reserved code is never held (R369). -/
def respond (b resp : Nat) (s : State) : State :=
  let s := record b s
  match resp with
  | 0 => s
  | 1 => powerOnReset 7 s
  | _ => powerOnReset 7 (eraseVault s)

/-! ### Sources -/

/-- Lid open (R358): ERASE, or recorded only in an open service window (R362). -/
def lidOpen (s : State) : State := respond 1 (if s.hw.win.st = 2 then 0 else 2) s

/-- A consistent sample is judged (R358, R362). -/
def judgeLid (a b : Bool) (s : State) : State :=
  if a && !b then
    let after := s.hw.afterWin
    let s := { s with hw := { s.hw with lid := 1, openRun := s.hw.openRun + 1, afterWin := false } }
    if s.hw.openRun = 2 ∨ after then lidOpen s else s
  else { s with hw := { s.hw with lid := 0, openRun := 0, afterWin := false } }

/-- A lid sample (R356 to R358). -/
def lidSampleRun (a b : Bool) (s : State) : State :=
  let s := { s with hw := { s.hw with lidA := a, lidB := b, prev := some (s.hw.lidA, s.hw.lidB) } }
  let ok := a != b
  if s.hw.lid = 3 then
    let s := { s with hw := { s.hw with afterWin := false } }
    if a = s.hw.latchA ∧ b = s.hw.latchB then s else lidOpen s
  else
    match s.hw.lidTimer with
    | none =>
      if ok then judgeLid a b s
      else { s with hw := { s.hw with lidTimer := some 0, lid := 2, openRun := 0, afterWin := false } }
    | some t =>
      if ok then
        judgeLid a b { s with hw := { s.hw with lidTimer := none, discCnt := satAdd 16 s.hw.discCnt 1 } }
      else if s.tDisc ≤ t + 1 then
        respond 2 (min 2 (fld s.hw.pol 3 2))
          { s with hw := { s.hw with lidTimer := none, lid := 3, latchA := a, latchB := b } }
      else { s with hw := { s.hw with lidTimer := some (t + 1) } }

/-- LID_DISC_EXPIRE: the sample at timer value T_DISC (R357). -/
def discExpire (a b : Bool) (s : State) : State :=
  match s.hw.lidTimer with
  | some t =>
    let n := s.tDisc - 1
    lidSampleRun a b (elapse (msec (n - t)) { s with hw := { s.hw with lidTimer := some n } })
  | none => s

def meshRun (bad : Bool) (s : State) : State :=
  let n := if bad then s.hw.meshBad + 1 else 0
  let s := { s with hw := { s.hw with meshBad := n } }
  if n = 2 then respond 0 2 s else s

def tempTamperRun (out : Bool) (s : State) : State :=
  let n := if out then s.hw.tempBad + 1 else 0
  let s := { s with hw := { s.hw with tempBad := n } }
  if n = 2 then respond 5 (min 2 (fld s.hw.pol 9 8)) s else s

/-- VAULT_RESET: the monitor domain's volatile state is lost; NV stays (R349, R350, R445). Main power is absent by then. -/
def vaultResetRun (s : State) : State :=
  let z := State.reset.hw
  { s with
    hw := { s.hw with eph := Vector.replicate 16 none, cont := 0, watchGap := false, tamper := 0, meshBad := 0, tempBad := 0,
                      lid := 0, lidTimer := none, lidA := z.lidA, lidB := z.lidB, prev := none, discCnt := 0,
                      latchA := false, latchB := false, win := ⟨0, 0, 0⟩, openRun := 0, afterWin := false }
    time := { s.time with rtc := 0, rtcValid := false, dateInvalid := false, utc := 0, stDate := State.reset.time.stDate,
                          stTime := 0, src := if s.time.src = 1 then 0 else s.time.src } }

/-! ### The service window, lid clear, counters, fuses -/

/-- SVC_WINDOW_OPEN (R360, R361), in the order of R487: form and signature, then the state of pool time, counter and window. -/
def svcOpen (h : CmdHdr) (token : Bytes) (sigOk : Bool) (s : State) : State :=
  onlyDA h 0x0406 (fun s =>
    let mins := leAt token 0x14 2
    let start := leAt token 0x18 8
    let stop := start + mins * 60000000000
    let w := s.hw.win
    if !sigOk ∨ cut token 0 16 ≠ s.hw.serial ∨ leAt token 0x16 2 ≠ 0 ∨ mins = 0 ∨ 240 < mins then
      replySt h 0x0406 stBAD_DESCRIPTOR s
    else if !s.ptValid then replySt h 0x0406 stDATE_INVALID s
    else if leAt token 0x10 4 ≠ (s.counter 0).toNat ∨ w.st ≠ 0 ∨ stop ≤ s.ptNs then replyConflict h 0x0406 w.st s
    else
      if (s.counter 0) = 0xFFFFFFFF#32 then replySt h 0x0406 stCOUNTER_EXHAUSTED s
      else
        match nvWrite (ctrSlotNo 0) s with
        | (false, s) => replySt h 0x0406 stCOUNTER_EXHAUSTED s
        | (true, s) =>
          let now := start ≤ s.ptNs
          let s := { s with hw := { s.hw with ctr := upd s.hw.ctr 0 fun c => c + 1,
                                              win := ⟨if now then 2 else 1, start, stop⟩, afterWin := false } }
          replyOk h 0x0406 [] (if now then plogEv 10 0 0 s else s)) s

def winClose (s : State) : State :=
  plogEv 10 1 0 { s with hw := { s.hw with win := ⟨0, s.hw.win.start, s.hw.win.stop⟩, afterWin := true } }

def svcStart (s : State) : State :=
  if s.hw.win.st = 1 then
    let s := advancePool s.hw.win.start s
    plogEv 10 0 0 { s with hw := { s.hw with win := { s.hw.win with st := 2 } } }
  else s

def svcEnd (s : State) : State :=
  if s.hw.win.st = 0 then s else winClose (advancePool s.hw.win.stop s)

/-- SVC_WINDOW_CLOSE: in PENDING or OPEN (R362, R368). -/
def svcClose (h : CmdHdr) (s : State) : State :=
  onlyDA h 0x0407 (fun s =>
    if s.hw.win.st = 0 then replyConflict h 0x0407 0 s else replyOk h 0x0407 [] (winClose s)) s

/-- Were the last two samples CLOSED (R359)? -/
def State.lidClosed (s : State) : Bool := !s.hw.lidA && s.hw.lidB && s.hw.prev = some (false, true)

/-- The latch is released (R359). -/
def lidRelease (s : State) : State := plogEv 9 0 0 { s with hw := { s.hw with lid := 0, lidTimer := none, openRun := 0 } }

def lidClearRun (h : CmdHdr) (s : State) : State :=
  onlyDA h 0x0408 (fun s => if s.lidClosed then replyOk h 0x0408 [] (lidRelease s) else replyConflict h 0x0408 s.hw.lid s) s

/-- The owner of counter i, from the policy record (R363, R406). -/
def State.ctrOwner (s : State) (i : Nat) : Nat := if s.hasRec 6 then leAt s.policy (4 + i) 1 else 0x1F

def ownsCtr (c : IClass) (owner : Nat) : Bool :=
  match c with
  | .da => owner = 0x10
  | .ta t | .host t => owner = t.val
  | .nobody => false

/-- A counter command (R363): `f` gives the new value, or none where V is not above the present one. -/
def ctrCmd (h : CmdHdr) (cmd : Nat) (k : Byte) (f : W32 → Option W32) (s : State) : State :=
  if hk : k.toNat < 8 then
    let i : Fin 8 := ⟨k.toNat, hk⟩
    if !ownsCtr (s.classOf h.iss) (s.ctrOwner i.val) then replySt h cmd stNO_ACCESS s
    else if (s.counter i) = 0xFFFFFFFF#32 then replySt h cmd stCOUNTER_EXHAUSTED s
    else
      match f (s.counter i) with
      | none => replySt h cmd stBAD_DESCRIPTOR s
      | some v =>
        match nvWrite (ctrSlotNo i) s with
        | (false, s) => replySt h cmd stCOUNTER_EXHAUSTED s
        | (true, s) => replyOk h cmd (toLe 4 v.toNat) { s with hw := { s.hw with ctr := upd s.hw.ctr i fun _ => v } }
  else replySt h cmd stBAD_DESCRIPTOR s

/-- The smallest SVN of the running images: FW records 0 to 4 (R364). -/
def State.minSvn (s : State) : Nat := (List.range 5).foldl (fun m i => min m (leAt (s.recOf 5 i) 1 1)) 64

/-- Fuses are blown up to the smallest running SVN (R364). -/
def svnBlow (s : State) : State :=
  let m := s.minSvn
  if s.hw.fuse < m then plogEv 12 0 m { s with hw := { s.hw with fuse := m } } else s

def svnCommitRun (h : CmdHdr) (s : State) : State := onlyDA h 0x0409 (fun s =>
    let s := svnBlow s
    replyOk h 0x0409 [byte s.hw.fuse, 0, 0, 0] s) s

/-! ### Meanings -/

def execVaultReset (s : State) : Host.Outcome State Fault Refusal := done (vaultResetRun s)
def execLidSample (p : LidPins) (s : State) : Host.Outcome State Fault Refusal :=
  done (lidSampleRun p.a p.b (pace paceLid (msec 1) s))
def execLidDiscExpire (p : LidPins) (s : State) : Host.Outcome State Fault Refusal := done (discExpire p.a p.b s)
def execMeshSample (fault : Bool) (s : State) : Host.Outcome State Fault Refusal :=
  done (meshRun fault (pace paceMesh (msec 1) s))
def execTempTamperSample (outside : Bool) (s : State) : Host.Outcome State Fault Refusal :=
  done (tempTamperRun outside (pace paceTamperT (secs 1) s))
def execSupplyGlitch (s : State) : Host.Outcome State Fault Refusal := done (respond 3 (min 2 (fld s.hw.pol 5 4)) s)
def execClockGlitch (s : State) : Host.Outcome State Fault Refusal := done (respond 4 (min 2 (fld s.hw.pol 7 6)) s)
def execSvcWindowOpen (h : CmdHdr) (token : Bytes) (sigOk : Bool) (s : State) : Host.Outcome State Fault Refusal :=
  live (svcOpen h token sigOk) s
def execSvcWindowStart (s : State) : Host.Outcome State Fault Refusal := done (svcStart s)
def execSvcWindowEnd (s : State) : Host.Outcome State Fault Refusal := done (svcEnd s)
def execSvcWindowClose (h : CmdHdr) (s : State) : Host.Outcome State Fault Refusal := live (svcClose h) s
def execLidClear (h : CmdHdr) (s : State) : Host.Outcome State Fault Refusal := live (lidClearRun h) s
def execSvnCommit (h : CmdHdr) (s : State) : Host.Outcome State Fault Refusal := live (svnCommitRun h) s
def execCtrInc (h : CmdHdr) (counter : Byte) (s : State) : Host.Outcome State Fault Refusal :=
  live (fun s => ctrCmd h 0x0404 counter (fun c => some (c + 1)) s) s
def execCtrSet (h : CmdHdr) (counter : Byte) (v : W32) (s : State) : Host.Outcome State Fault Refusal :=
  live (fun s => ctrCmd h 0x0405 counter (fun c => if c < v then some v else none) s) s

end Sys2Proof.Machine
end

