-- ==== Sys2Proof/Machine/Clock.lean ====
section
/-! DEFINITION. Clocks (R11, R420 to R422), package power, the cap (R431) and the thermal limit's steps (R432). -/

namespace Sys2Proof.Machine

/-- Clock domains by number (R423): 5 q + (0 ECLK, 1 NCLK, 2 CCLK, 3 MCLK, 4 FCLK), 20 hub CCLK, 21 hub PCLK. -/
def domNo : DomId → Fin 22
  | .eclk q => ⟨5 * q.val, by omega⟩
  | .nclk q => ⟨5 * q.val + 1, by omega⟩
  | .qcclk q => ⟨5 * q.val + 2, by omega⟩
  | .mclk q => ⟨5 * q.val + 3, by omega⟩
  | .fclk q => ⟨5 * q.val + 4, by omega⟩
  | .hubCclk => 20
  | .hubPclk => 21

/-- Is the domain an ECLK domain? -/
def isEclk (d : Fin 22) : Bool := d.val < 20 && d.val % 5 = 0

/-- The divisor of each domain in service (R37). -/
def domDiv (d : Fin 22) : Nat :=
  if d.val = 20 then 5 else if d.val = 21 then 64
  else match d.val % 5 with | 1 => 4 | 2 => 5 | 3 => 8 | 4 => 4 | _ => 4

def State.updDom (s : State) (d : Fin 22) (f : DomSt → DomSt) : State := { s with clk := { s.clk with dom := upd s.clk.dom d f } }

/-- A domain starts on the root divided by 256 and ramps toward a divisor (R421, R422). -/
def startDom (d : Fin 22) (target : Nat) (s : State) : State := s.updDom d fun _ => ⟨256, target, s.time.nclk⟩

def stopDom (d : Fin 22) (s : State) : State := s.updDom d fun _ => ⟨0, 0, s.time.nclk⟩

/-- The next divisor of the ramp from `d` toward `t` (R422): 128, 64, 32, 16, 8, then the target in one step; ECLK goes
through 5, 4 and 3 in turn, and moves only between adjacent settings of 8, 5, 4, 3. -/
def rampNext (ecl : Bool) (d t : Nat) : Nat :=
  if d = t ∨ d = 0 then d
  else if 8 < d then (if t = d / 2 ∨ 8 ≤ d / 2 then d / 2 else t)
  else if ecl then
    match d with
    | 8 => 5
    | 5 => if t < 5 then 4 else 8
    | 4 => if t < 4 then 3 else 5
    | _ => 4
  else t

/-- CLOCK_RAMP_STEP: at least 10 µs after the step before (R422). -/
def rampStep (d : Fin 22) (s : State) : State :=
  let x := s.clk.dom[d]
  if x.div = x.target ∨ x.div = 0 then s
  else
    let s := advanceTo (x.stepAt + usec 10) s
    s.updDom d fun x => { x with div := rampNext (isEclk d) x.div x.target, stepAt := s.time.nclk }

/-- The slowest divisor code above the ceiling (R11, R13): ECLK_MAX 0b01 allows 4 and slower, 0b10 allows 3 and slower. -/
def aboveCeiling (maxCode div : Nat) : Bool :=
  match maxCode with
  | 0 => true
  | 1 => div < 4
  | _ => div < 3

/-- The divisor of the highest setting allowed: the slowest of ECLK_REQ, POLICY ECLK_DIV and the ceiling (R431). -/
def State.eclkAllowed (s : State) : Nat :=
  let pol := if s.hasRec 6 then leAt s.policy 0xB0 1 else 3
  let ceil := if s.eclkMax = 2 then 3 else 4
  max (s.rfld .ECLK_REQ 0 3 0) (max pol ceil)

/-- The setting `n` steps below `d` in the order 3, 4, 5, 8. -/
def eclkLower : Nat → Nat → Nat
  | 0, d => d
  | n + 1, d => eclkLower n (match d with | 3 => 4 | 4 => 5 | _ => 8)

/-- The target of the ECLK domains. -/
def State.eclkTarget (s : State) : Nat := eclkLower s.pwr.eSteps s.eclkAllowed

/-- Running ECLK domains take their target; they move by CLOCK_RAMP_STEP. -/
def retarget (s : State) : State :=
  let t := s.eclkTarget
  (indices 22).foldl (fun s d => if isEclk d ∧ (s.clk.dom[d]).div ≠ 0 then s.updDom d fun x => { x with target := t } else s) s

/-- A write to ECLK_REQ (R11, R443): other values than 3, 4, 5 and 8 are UNSUPPORTED; so is a setting above the ceiling, which
adds an entry. A register write has no reply; it is ignored (log entry 30). -/
def eclkReq (div : BitVec 4) (s : State) : State :=
  let d := div.toNat
  if d ≠ 3 ∧ d ≠ 4 ∧ d ≠ 5 ∧ d ≠ 8 then s
  else if aboveCeiling s.eclkMax d then logEv ⟨2, .refused, 0xFFFF, 0, stUNSUPPORTED, 0, 0xFF, []⟩ s
  else retarget (s.setReg .ECLK_REQ 0 (w32 d))

/-- OSC_STABLE (R420). After a source failure the device restarts once the reference is stable again (R424). -/
def oscStableRun (o : Osc) (s : State) : State :=
  match o with
  | .xtal32 => { s with clk := { s.clk with xtalStable := true } }
  | .ref25 =>
    let straps := s.clk
    let s := { s with clk := { s.clk with refStable := true } }
    if s.su.waitRef then
      let s := startHub (s.hw.resetPending.getD 6) { s with su := { s.su with held := false, waitRef := false } }
      { s with clk := { s.clk with refStable := true, refSel := straps.refSel, srefSel := straps.srefSel } }
    else s

/-- ROOT_PLL_LOCK (R421): needs the reference stable. -/
def pllLock (s : State) : State :=
  if s.clk.refStable then { s with clk := { s.clk with rootLock := true } } else s

/-! ### The cap -/

def State.meanPower (s : State) : Nat := s.pwr.meas.sum / max 1 s.pwr.meas.length

def State.capWatts (s : State) : Nat := max 450 (min 980 (s.rfld .PWR_CAP 0 9 0))

/-- DATA of entries of class 0x02: PKG_POWER and TEMP_MAX. -/
def State.pwrData (s : State) : Bytes := toLe 2 s.meanPower ++ [s.pwr.tempMax]

/-- May one more core of some assigned slice leave dispatch? At least one of its nine always stays (R431). -/
def State.mayGate (s : State) (i : Fin 16) : Bool := (s.slice i).st = 1 && s.pwr.outOf[i] < 8

def gateCores (s : State) : State :=
  (indices 16).foldl (fun s i =>
    if s.mayGate i then { s with pwr := { s.pwr with outOf := upd s.pwr.outOf i fun n => n + 1 } } else s) s

def ungateCores (m : Nat) (s : State) : State :=
  (indices 16).foldl (fun s i =>
    if s.pwr.outOf[i] = m ∧ 0 < m then { s with pwr := { s.pwr with outOf := upd s.pwr.outOf i fun n => n - 1 } } else s) s

/-- The most cores out of dispatch in any slice: the core steps taken. -/
def State.coreSteps (s : State) : Nat := (indices 16).foldl (fun m i => max m s.pwr.outOf[i]) 0

/-- Is a step down left? -/
def State.stepLeft (s : State) : Bool := s.eclkTarget < 8 || (indices 16).any s.mayGate

/-- The mean exceeds the cap with every step taken: CAP_UNMET sets, and one event is logged (R431). -/
def capJudge (s : State) : State :=
  if s.capWatts < s.meanPower ∧ !s.stepLeft ∧ !s.pwr.unmet then
    logEv ⟨2, .threshold, 0xFFFF, 0, 0, s.pwr.st, 0xFF, s.pwrData⟩ { s with pwr := { s.pwr with unmet := true } }
  else s

/-- POWER_MEASURE (R431): every 1 ms; the mean of the last 10, held against the cap. -/
def powerRun (w : W16) (s : State) : State :=
  let s := pace pacePower (msec 1) s
  let s := { s with pwr := { s.pwr with meas := w.toNat :: s.pwr.meas.take 9 } }
  capJudge { s with pwr := { s.pwr with below := if s.meanPower + 25 ≤ s.capWatts then s.pwr.below + 1 else 0 } }

/-- One step down (R431): ECLK first, then one more core of each assigned slice. -/
def capDown (s : State) : State :=
  if s.eclkTarget < 8 then
    retarget (({ s with pwr := { s.pwr with eSteps := s.pwr.eSteps + 1 } }).count .CAP_STEP_CNT)
  else if (indices 16).any s.mayGate then (gateCores s).count .CAP_STEP_CNT
  else capJudge s

/-- One step up, in the reverse order (R431). -/
def capUp (s : State) : State :=
  let s := { s with pwr := { s.pwr with below := 0, unmet := false } }
  if 0 < s.coreSteps then (ungateCores s.coreSteps s).count .CAP_STEP_CNT
  else if 0 < s.pwr.eSteps then
    retarget (({ s with pwr := { s.pwr with eSteps := s.pwr.eSteps - 1 } }).count .CAP_STEP_CNT)
  else s

/-- CAP_STEP: every 10 ms, down while the mean exceeds the cap or the thermal limit holds, up after 100 measurements at least
25 W below (R431, R432). -/
def capRun (s : State) : State :=
  let s := pace paceCap (msec 10) s
  if s.capWatts < s.meanPower ∨ s.pwr.thermLimit then capDown s
  else
    let s := { s with pwr := { s.pwr with unmet := false } }
    if 100 ≤ s.pwr.below then capUp s else s

/-- Cores out of dispatch, all slices (PWR_STAT.CORES_GATED). -/
def State.coresGated (s : State) : Nat := ((indices 16).map fun i => s.pwr.outOf[i]).sum

def execOscStable (o : Osc) (s : State) : Host.Outcome State Fault Refusal := done (oscStableRun o s)
def execRootPllLock (s : State) : Host.Outcome State Fault Refusal := live pllLock s
def execClockRampStep (d : DomId) (s : State) : Host.Outcome State Fault Refusal := live (fun s => rampStep (domNo d) s) s
def execEclkReqWrite (div : BitVec 4) (s : State) : Host.Outcome State Fault Refusal := live (eclkReq div) s
def execPowerMeasure (watts : W16) (s : State) : Host.Outcome State Fault Refusal := live (powerRun watts) s
def execCapStep (s : State) : Host.Outcome State Fault Refusal := live capRun s

end Sys2Proof.Machine
end

