-- ==== Sys2Proof/Machine/Observe.lean ====
section
/-! DEFINITION. Counters' snapshots (R450), the tenant's counter and event commands (R451, R454), trace buffers and frames (R456
to R458), export (R464) and debug unlock (R465, R466). -/

namespace Sys2Proof.Machine

/-- Does a key of the register tables name a counter? -/
def keyIsCounter (k : Nat) : Bool := match Reg.all[k / 65536]? with | some r => r.info.cnt | none => false

/-- A CNT_CMD under R490. -/
def cntCmd (code : Nat) (f : State → State) (s : State) : State :=
  if s.isBusy .CNT_CMD_RESULT 0 then refusedBusy 0x0D 0 code 0 s else f s

/-- The counters of events that the commands do not carry: the entries of a channel's in-order mode (R88), corrected bits of scratchpad
and local memory (R205), closed and orphaned packets of mesh inputs (R316, R317), bytes on mesh bridges. -/
def openCounters : List (Reg × Nat) :=
  ((List.range 16).map fun c => (Reg.INORDER_CNT, c)) ++
    ((List.range 144).flatMap fun k => [(Reg.SPAD_CE_CNT, k), (Reg.LMEM_CE_CNT, k)]) ++
    ((List.range 4).flatMap fun q => [(Reg.MESH_STALL_CNT, q), (Reg.MESH_ORPHAN_CNT, q)]) ++
    (List.range 16).flatMap fun b => [(Reg.MESH_OUT_BYTES, b), (Reg.MESH_IN_BYTES, b)]

/-- Such a counter rises by a free amount, while it counts (log entry 62). -/
def openCount (r : Reg) (u : Nat) (s : State) : State :=
  let (k, s) := draw s
  s.count r u (Config.random k).toNat

/-- All of them, before they are snapshotted or an enable bit changes. -/
def openCountAll (s : State) : State := openCounters.foldl (fun s e => openCount e.1 e.2 s) s

def isOpenCount (r : Reg) : Bool :=
  r = .INORDER_CNT || r = .SPAD_CE_CNT || r = .LMEM_CE_CNT || r = .MESH_STALL_CNT || r = .MESH_ORPHAN_CNT || r = .MESH_OUT_BYTES ||
    r = .MESH_IN_BYTES

/-- SNAP: every counter into its snapshot at one edge, at least 1 µs after the write (R450). -/
def snapRun (s : State) : State :=
  let s := openCountAll (elapse (usec 1) s)
  let s := { s with snap := s.regs.filter (fun e => keyIsCounter e.1), snap64 := s.cnt64 }
  let s := s.setReg .CNT_SNAP_TIME_LO 0 (w32 s.ptField.toNat)
  let s := s.setReg .CNT_SNAP_TIME_HI 0 (w32 (s.ptField.toNat / 2 ^ 32))
  s.result .CNT_CMD_RESULT 0 stOK

/-- CLEAR: every counter and snapshot at 0 at one edge (R450). -/
def cntClearRun (s : State) : State :=
  let s := elapse (usec 1) s
  ({ s with regs := s.regs.filter (fun e => !keyIsCounter e.1), cnt64 := [], snap := [], snap64 := [] }).result
    .CNT_CMD_RESULT 0 stOK

/-- CNT_ENABLE: the issuer's TEN_EN bit; NO_ACCESS where its CNT_PERM bit is 0 (R451). -/
def cntEnableRun (h : CmdHdr) (en : Byte) (s : State) : State :=
  onlyTA h 0x0602 (fun t s =>
    if 1 < en.toNat then replySt h 0x0602 stBAD_DESCRIPTOR s
    else if s.cntPerm.testBit t.val then replyOk h 0x0602 [] ((openCountAll s).setFld .CNT_CTL 0 t.val t.val en.toNat)
    else replySt h 0x0602 stNO_ACCESS s) s

/-- The oldest SEQ the ring holds (R454). -/
def State.evOldest (s : State) : Nat := s.log.head.toNat - s.log.ring.length

/-- EVT_READ: up to five entries of the issuer's tenant from START on, oldest first; where to continue; the oldest held (R454). -/
def evtReadRun (h : CmdHdr) (start : W32) (s : State) : State :=
  onlyTA h 0x0603 (fun t s =>
    let from_ := max start.toNat s.evOldest
    let mine := s.log.ring.reverse.filter fun e => e.tenant.toNat = t.val ∧ from_ ≤ e.seq.toNat
    let five := mine.take 5
    let next := match (mine.drop 5).head? with | some e => e.seq.toNat | none => s.log.head.toNat
    replyOk h 0x0603 (toLe 4 next ++ toLe 4 s.evOldest ++ [byte five.length, 0, 0, 0] ++ (five.map EvEntry.bytes).flatten) s) s

/-- EVT_RATE_SECOND: a second of the monotonic count ends (R453). -/
def rateSecond (s : State) : State := rollSecond (advanceTo ((s.time.nclk / secs 1 + 1) * secs 1) s)

/-! ### Trace -/

/-- Is source i traced: enabled, and TRACE_PERM bit 16 is 1 (R456)? -/
def State.traced (s : State) (i : Nat) : Bool :=
  (s.reg .TRC_CTL).toNat.testBit i && s.tracePerm.testBit 16 && i ≠ 3 && i < 8

def TraceBuf.used (b : TraceBuf) : Nat := (b.frames.map List.length).sum

/-- The oldest frames go until the rest fits (R458, wrap). -/
def TraceBuf.dropTo (cap : Nat) : Nat → TraceBuf → TraceBuf
  | 0, b => b
  | n + 1, b =>
    if b.used ≤ cap then b
    else match b.frames with
      | [] => b
      | f :: r => TraceBuf.dropTo cap n ⟨r, b.lost + f.length⟩

/-- A frame is written (R458): after a loss a LOST frame comes first; with MODE 1 a frame that finds no room is dropped. -/
def TraceBuf.put (cap : Nat) (stop : Bool) (src : Nat) (f : Bytes) (b : TraceBuf) : TraceBuf :=
  let lost := if b.lost = 0 then [] else [byte (0x40 + src) :: toLe 4 b.lost]
  let need := f.length + (lost.map List.length).sum
  if stop then
    if cap < b.used + need then ⟨b.frames, b.lost + f.length⟩ else ⟨b.frames ++ lost ++ [f], 0⟩
  else
    let c := b.dropTo (cap - need) b.frames.length
    ⟨c.frames ++ lost ++ [f], c.lost - b.lost⟩

/-- SRC in bits 3:0 of a frame's byte 0 (R456). -/
def frameSrc (src : Nat) : Bytes → Bytes
  | b :: r => byte (b.toNat / 16 * 16 + src) :: r
  | [] => []

/-- The bytes a LOST frame reported when `b` became `c`. -/
def lostShown (b c : TraceBuf) : Nat := if b.frames.length < c.frames.length ∨ c.lost < b.lost then b.lost else 0

def State.traceStop (s : State) : Bool := s.rfld .TRC_CTL 0 8 8 = 1

def putHub (src : Nat) (f : Bytes) (s : State) : State :=
  let b := s.obs.hub
  let c := b.put 1048576 s.traceStop src f
  ({ s with obs := { s.obs with hub := c } }).count .TRC_LOST 0 (lostShown b c)

def putQuart (q : Quarter) (src : Nat) (f : Bytes) (s : State) : State :=
  let b := s.obs.quart[q]
  let c := b.put 262144 s.traceStop src f
  ({ s with obs := { s.obs with quart := upd s.obs.quart q fun _ => c } }).count .TRC_LOST 0 (lostShown b c)

/-- A frame of a source goes into its buffer: 1 MiB at the hub, 256 KiB in each quarter (R456); exported where EXPORT is 1 (R464);
TRC_LOST adds what a LOST frame reports (R458). -/
def traceFrame (src : Nat) (f : Bytes) (s : State) : State :=
  let f := frameSrc src f
  let s := if h : 4 ≤ src ∧ src < 8 then putQuart ⟨src - 4, by omega⟩ src f s else putHub src f s
  if s.rfld .TRC_CTL 0 9 9 = 1 then sendUdp 1 f s else s

def traceSources : List Nat := [0, 1, 2, 4, 5, 6, 7]

/-- TRACE_TIME_TICK: a TIME frame for every traced source, every TS_US (R456). -/
def traceTick (s : State) : State :=
  let s := pace paceTrace (usec (max 1 (s.rfld .TRC_CTL 0 31 16))) s
  eachOf (traceSources.filter s.traced) (fun i s => traceFrame i (0x50#8 :: toLe 8 s.ptField.toNat) s) s

/-- Before its core stops, an encoder writes DOWN with a reason (R456, R457). -/
def traceDown (src reason : Nat) (s : State) : State :=
  if s.traced src then
    let s := traceFrame src (0x20#8 :: (toLe 8 s.ptField.toNat ++ [byte reason])) s
    { s with obs := { s.obs with down := src :: s.obs.down.filter (· ≠ src) } }
  else s

/-- When a core next executes: RESUME, UNMARKED where no DOWN preceded (R457). The program counter of a firmware core is a free
value: no image's entry point is given (log entry 31). -/
def traceResume (src : Nat) (s : State) : State :=
  if s.traced src then
    let (pc, s) := randomBytes 8 s
    let un := b2n (!s.obs.down.contains src)
    traceFrame src (0x30#8 :: (toLe 8 s.ptField.toNat ++ pc ++ [byte un]))
      { s with obs := { s.obs with down := s.obs.down.filter (· ≠ src) } }
  else s

/-- A quarter's buffer moves into the hub buffer before the quarter powers off or resets in order (R458). -/
def traceMove (q : Quarter) (s : State) : State :=
  let b := s.obs.quart[q]
  let s := b.frames.foldl (fun s f => putHub (4 + q.val) f s) s
  { s with obs := { s.obs with quart := upd s.obs.quart q fun _ => ⟨[], b.lost⟩ } }

/-- A write of TRC_CTL, `f`: a source that is no longer traced ends with DOWN, reason 5 (trace disabled); a source that becomes traced
while its core executes begins with RESUME (R456, R457). -/
def traceSwitch (f : State → State) (s : State) : State :=
  let old := traceSources.filter s.traced
  let s := eachOf (old.filter fun i => !(f s).traced i) (fun i s => traceDown i 5 s) s
  let s := f s
  eachOf (traceSources.filter fun i => s.traced i && !old.contains i && (i < 4 || (s.quarts.toList.map Quart.st).getD (i - 4) 0 = 2)) traceResume s

/-! ### Debug unlock -/

/-- A DBG_CMD under R490. -/
def dbgCmd (code : Nat) (f : State → State) (s : State) : State :=
  if s.isBusy .DBG_CMD_RESULT 0 then refusedBusy 0x0D 0 code 0 s else f s

/-- CHALLENGE: a 32-byte nonce from the DRBG, valid for 60 s and one UNLOCK (R465). -/
def challengeRun (s : State) : State :=
  let (n, s) := randomBytes 32 s
  let s := { s with obs := { s.obs with nonce := some ⟨s.time.nclk, n⟩ } }
  let s := (List.range 8).foldl (fun s i => s.setReg .DBG_CHAL i (w32 (leAt n (4 * i) 4))) s
  s.result .DBG_CMD_RESULT 0 stOK

/-- DBG_NONCE_EXPIRE: 60 s after it was drawn. -/
def nonceExpire (s : State) : State :=
  match s.obs.nonce with
  | some n =>
    let s := advanceTo (n.since + secs 60) s
    { s with obs := { s.obs with nonce := none } }
  | none => s

/-- The bytes of DBG_WIN. -/
def State.dbgWin (s : State) : Bytes := ((List.range 64).map fun i => toLe 4 (s.reg .DBG_WIN i).toNat).flatten

/-- The lowest slice that is ASSIGNED or CLEARING, by its state code (R466). -/
def State.busySlice (s : State) : Option Nat := ((indices 16).map fun i => (s.slice i).st).find? (· ≠ 0)

/-- UNLOCK (R466). -/
def unlockRun (sigOk : Bool) (s : State) : State :=
  let w := s.dbgWin
  let dig := cut s.policy 0x80 48
  let scope := leAt w 104 4
  if allZero dig then s.result .DBG_CMD_RESULT 0 stUNSUPPORTED
  else if 8 ≤ s.obs.fails then s.result .DBG_CMD_RESULT 0 stNO_ACCESS
  else
    let fresh : Bool := match s.obs.nonce with | some n => decide (s.time.nclk < n.since + secs 60) | none => false
    let good := sha384 (cut w 0 97) = dig && sigOk && fresh
    let s := { s with obs := { s.obs with nonce := none } }
    if !good then
      ({ s with obs := { s.obs with fails := min 8 (s.obs.fails + 1) } }).result .DBG_CMD_RESULT 0 stBAD_DESCRIPTOR
    else
      match s.busySlice with
      | some c => conflict .DBG_CMD_RESULT 0 0x0D 0 c s
      | none =>
        let s := { s with obs := { s.obs with unlocked := s.obs.unlocked ||| scope % 256 },
                          hw := { s.hw with secOpen := s.hw.secOpen || scope.testBit 0 } }
        let s := logEv ⟨0x0D, .security, 0, 0, 0, 0, 0xFF, toLe 4 scope⟩ (plogEv 11 scope 0 s)
        s.result .DBG_CMD_RESULT 0 stOK

/-- JTAG_TAP_ACCESS (R465): BYPASS and boundary scan shift bits the pins decide, IDCODE shifts 0x1964_00B3; RISC-V debug of a core
is reached only once the core is open, and what it shifts is the core's (free values, log entry 32). -/
def tapRun (op : TapOp) (s : State) : State :=
  match op with
  | .bypass => emit (.jtag [0]) s
  | .idcode => emit (.jtag (toLe 4 0x196400B3)) s
  | .boundaryScan => let (b, s) := randomBytes 1 s; emit (.jtag b) s
  | .debug src =>
    let i := traceSources.getD src.val 0
    if s.obs.unlocked.testBit i then let (b, s) := randomBytes 4 s; emit (.jtag b) s else emit (.jtag [0]) s

def execCntClear (s : State) : Host.Outcome State Fault Refusal := live (cntCmd 2 cntClearRun) s
def execCntEnable (h : CmdHdr) (en : Byte) (s : State) : Host.Outcome State Fault Refusal := live (cntEnableRun h en) s
def execEvtRead (h : CmdHdr) (start : W32) (s : State) : Host.Outcome State Fault Refusal := live (evtReadRun h start) s
def execEvtRateSecond (s : State) : Host.Outcome State Fault Refusal := live rateSecond s
def execTraceTimeTick (s : State) : Host.Outcome State Fault Refusal := live traceTick s
def execChallenge (s : State) : Host.Outcome State Fault Refusal := live (dbgCmd 1 challengeRun) s
def execDbgNonceExpire (s : State) : Host.Outcome State Fault Refusal := live nonceExpire s
def execUnlock (sigOk : Bool) (s : State) : Host.Outcome State Fault Refusal := live (fun s => dbgCmd 2 (unlockRun sigOk) s) s
def execJtagTapAccess (op : TapOp) (s : State) : Host.Outcome State Fault Refusal := live (tapRun op) s

end Sys2Proof.Machine
end

