-- ==== Sys2Proof/Machine/Blank.lean ====
section
/-! DEFINITION. The configuration blank (R400 to R408, R416): reading a copy, its validity checks, staging, adoption, and the
loading of its records into the device. -/

namespace Sys2Proof.Machine

/-- Bytes of a configuration flash from an offset; unwritten flash reads 0xFF (log entry 6). -/
def flashRead (m : Sparse Byte) (off : Nat) : Nat → Bytes
  | 0 => []
  | n + 1 => m.get 0xFF off :: flashRead m (off + 1) n

/-- A copy's bytes: 0 A, 1 B. -/
def State.copy (s : State) (c : Nat) : Sparse Byte := if c = 0 then s.blank.a else s.blank.b

def State.setCopy (s : State) (c : Nat) (m : Sparse Byte) : State :=
  if c = 0 then { s with blank := { s.blank with a := m } } else { s with blank := { s.blank with b := m } }

/-- Instances of each record type (R406); none for a type not listed. -/
def instances : Nat → Option Nat
  | 3 => some 16 | 5 => some 5 | 9 => some 16 | 11 => some 24
  | 1 | 2 | 4 | 6 | 7 | 8 | 10 | 12 | 13 | 14 | 15 => some 1
  | _ => none

/-- The records of a copy from an offset: each with whether its CRC holds; none where one runs past the end or is malformed
(R402). `last`: the TYPE and INSTANCE before, as one number. -/
def readRecs (m : Sparse Byte) (stop : Nat) : Nat → Nat → Nat → Option (List (Rec × Bool))
  | 0, off, _ => if off = stop then some [] else none
  | n + 1, off, last =>
    let h := flashRead m off 16
    let typ := leAt h 0 2
    let inst := leAt h 2 2
    let len := leAt h 4 4
    let key := typ * 65536 + inst + 1
    let next := off + 16 + 16 * cdiv len 16
    if stop < next ∨ key ≤ last ∨ leAt h 8 4 ≠ 0 then none
    else
      match instances typ with
      | none => none
      | some k =>
        if k ≤ inst then none
        else
          let data := flashRead m (off + 16) len
          (readRecs m stop n next key).map fun r => (⟨typ, inst, data⟩, leAt h 12 4 = crc32c (h.take 12 ++ data)) :: r

/-- The header fields of R401. -/
structure BlankHdr where
  nRec : Nat
  total : Nat
  seq : Nat
  floor : Nat
  serial : Bytes
  stack : Nat
deriving DecidableEq, Repr

/-- The header, if MAGIC, VERSION, lengths, SEQ, FLOOR and the reserved fields are right (R401, R404 cause 0x2). -/
def readHdr (h : Bytes) : Option BlankHdr :=
  let x : BlankHdr := ⟨leAt h 6 2, leAt h 8 4, leAt h 0xC 4, leAt h 0x10 4, cut h 0x20 16, leAt h 0x30 2⟩
  if leAt h 0 4 = 0xD0B0B1A0 ∧ leAt h 4 2 = 1 ∧ 1 ≤ x.nRec ∧ x.nRec ≤ 4096 ∧ x.total % 16 = 0 ∧ x.total ≤ 2 ^ 24 ∧
      160 ≤ x.total ∧ x.seq ≠ 0 ∧ x.floor ≠ 0 ∧ x.stack ≤ 1023 ∧ allZero (cut h 0x14 12) ∧ allZero (cut h 0x32 14) then some x
  else none

def recIn (l : List Rec) (typ inst : Nat) : Option Bytes := (l.find? fun r => r.typ = typ && r.inst = inst).map Rec.data

/-! ### Load rules (R404 cause 0x9) -/

def rateBad (rate burst : Nat) : Bool := 1048575 < rate || (rate ≠ 0 && burst < 4)

def hostOk (e : Bytes) : Bool :=
  let cls := leAt e 2 1
  cls ≤ 2 && (cls = 0 || leAt e 3 1 ≤ 15) && bits (leAt e 4 2) 14 9 = 0 && leAt e 6 1 ≤ 7 && leAt e 7 1 ≤ 4 &&
    !rateBad (leAt e 8 4) (leAt e 0xC 2) && leAt e 0xE 2 = 0 && leAt e 0x10 4 < 2 ^ 24 && allZero (cut e 0x14 12) &&
    (cls = 0 || leAt e 0x10 4 ≠ 0)

def splitEvery (n : Nat) : Nat → Bytes → List Bytes
  | 0, _ => []
  | k + 1, b => if b = [] then [] else b.take n :: splitEvery n k (b.drop n)

def noDup : List Nat → Bool
  | [] => true
  | x :: xs => !xs.contains x && noDup xs

/-- The HOST record: each entry in range; no source twice (R337); RESV sums to at most 2,816 (R329); no tenant slot twice
(R141). -/
def hostsOk (d : Bytes) : Bool :=
  let es := splitEvery 32 4096 d
  let slots := (es.filter fun e => leAt e 2 1 ≠ 0 ∧ bit (leAt e 4 2) 15).map fun e => leAt e 3 1 * 512 + leAt e 4 2 % 512
  d.length % 32 = 0 && d.length ≤ 131072 && es.all hostOk && noDup (es.map fun e => leAt e 0 2) &&
    (es.map fun e => leAt e 7 1).sum ≤ 2816 && noDup slots

/-- A route entry's failings (R313). `up p`: port p is an UP link. -/
def routeBad (up : Nat → Bool) (e : Nat) : Bool :=
  let kind := bits e 63 62
  let ports := (List.range 8).map fun i => bits e (5 * i + 4) (5 * i)
  let code (p : Nat) : Bool := p ≤ 0x18 || p = 0x1F
  let down := [5, 4, 1, 0].map fun i => ports.getD i 0
  kind = 3 || !(ports.all code) || down.any (fun p => p < 24 && up p) ||
    (kind = 1 && !([3, 2, 1, 0].all fun i => ports.getD i 0 = 0x1F)) || (kind ≠ 2 && bits e 61 49 ≠ 0)

/-- The index of the first failing entry of a route table of `n` entries, from entry i (R313). -/
def routeFail (up : Nat → Bool) : Nat → Nat → Bytes → Option Nat
  | 0, _, _ => none
  | n + 1, i, b => if routeBad up (leAt b 0 8) then some i else routeFail up n (i + 1) (b.drop 8)

def tableAt (d : Bytes) : Bytes := d.drop (16 * cdiv (8 + 2 * leAt d 6 2) 16)

def linkIsUp (l : List Rec) (p : Nat) : Bool :=
  match recIn l 11 p with | some d => bits (leAt d 0 1) 5 4 = 1 | none => false

/-- Does a record break its load rule or hold a field outside its range (R404 cause 0x9)? Marks and the knot map do not affect
validity. -/
def recBad (all : List Rec) (stackId : Nat) (r : Rec) : Bool :=
  let d := r.data
  match r.typ with
  | 1 => d.length ≠ 0x98 || !allZero (cut d 0x61 7)
  | 5 => leAt d 0 1 ≠ r.inst || 64 < leAt d 1 1 || leAt d 2 2 ≠ 0 || (if r.inst = 4 then 65536 else 2 ^ 22) < leAt d 4 4 ||
      d.length ≠ 0x98 + leAt d 4 4
  | 6 =>
    let resp := leAt d 1 1
    d.length ≠ 0xB4 || 1 < leAt d 0 1 || [bits resp 1 0, bits resp 3 2, bits resp 5 4, bits resp 7 6].contains 3 ||
      leAt d 2 2 < 10 || 1000 < leAt d 2 2 || leAt d 4 1 ≠ 0x10 ||
      !((List.range 8).all fun i => leAt d (4 + i) 1 ≤ 0x10 || leAt d (4 + i) 1 = 0x1F) ||
      !([3, 4, 5, 8].contains (leAt d 0xB0 1)) || !allZero (cut d 0x75 11) || leAt d 0xB1 1 ≠ 0 || leAt d 0xB2 2 < 450 || 980 < leAt d 0xB2 2
  | 7 => leAt d 0 2 ≠ stackId || 31 < leAt d 2 1 || 7 < leAt d 3 1 || 23 < leAt d 4 1 || leAt d 5 1 ≠ 0 ||
      16384 < leAt d 6 2 || d.length ≠ 8 + 2 * leAt d 6 2
  | 8 => d.length ≠ 16 || !(d.all fun b => bits b.toNat 6 4 = 0)
  | 9 => d.length ≠ 16 || 1 < leAt d 0 1 || 32 < leAt d 1 1 || !allZero (cut d 2 6) || leAt d 8 8 % 2 ^ 24 ≠ 0
  | 10 => !hostsOk d
  | 11 =>
    let vc := (List.range 6).map fun v => leAt d (4 + 2 * v) 2
    d.length ≠ 0x90 || bits (leAt d 0 1) 1 0 = 3 || 63 < leAt d 0 1 || leAt d 1 1 ≠ 0 || !(vc.all fun n => 16 ≤ n) || 1024 < vc.sum
  | 12 => leAt d 4 2 = 0 || 8192 < leAt d 6 2 || (tableAt d).length ≠ 524288 || (routeFail (linkIsUp all) 65536 0 (tableAt d)).isSome
  | 13 => d.length ≠ 0x104 || leAt d 2 1 = 0 || 1 < leAt d 1 1 || leAt d 3 1 ≠ 0 ||
      (List.range 8).any (fun c => rateBad (leAt d (4 + 8 * c) 4) (leAt d (8 + 8 * c) 2) || leAt d (10 + 8 * c) 1 = 0 ||
        leAt d (11 + 8 * c) 1 ≠ 0) ||
      (List.range 24).any (fun l => rateBad (leAt d (0x44 + 8 * l) 4) (leAt d (0x48 + 8 * l) 2) || leAt d (0x4A + 8 * l) 2 ≠ 0)
  | 14 => d.length ≠ 0x10 + 4 * leAt d 8 1 || 64 < leAt d 8 1 || !allZero (cut d 9 7) ||
      (List.range (leAt d 8 1)).any (fun i => bits (leAt d (0x10 + 4 * i) 4) 23 0 = 0)
  | 15 => d.length % 48 ≠ 0 || 32 * 48 < d.length
  | _ => false

/-- The required kinds (R406): OWNER, CERTS, FW 0 to 4, POLICY, STACK, ROUTE. -/
def required : List (Nat × Nat) := [(1, 0), (2, 0), (5, 0), (5, 1), (5, 2), (5, 3), (5, 4), (6, 0), (7, 0), (12, 0)]

/-- Is a firmware image refused (R407, R364)? -/
def fwBad (copy : Nat) (sigs : List SigRef) (fuse : Nat) (r : Rec) : Bool :=
  r.typ = 5 && (!sigs.contains (copy, 5, r.inst) || sha384 (r.data.drop 0x98) ≠ cut r.data 8 48 || leAt r.data 1 1 < fuse ||
    64 < leAt r.data 1 1)

def firstIdx {α : Type} (p : α → Bool) (l : List α) : Option Nat := l.findIdx? p

/-- What the checks of R404 find of a copy: the header and records, or the first failing check's cause and record. `claim`: in
hosted mode with OWNER_DIG zero, a staged blank's owner is still to be claimed (R403, R414; log entry 33). -/
def checkCopy (s : State) (copy : Nat) (readable : Bool) (sigs : List SigRef) (claim : Bool) :
    (Nat × Nat) ⊕ (BlankHdr × List Rec) :=
  let m := s.copy copy
  if !readable then .inl (1, 0)
  else
    match readHdr (flashRead m 0 64) with
    | none => .inl (2, 0)
    | some h =>
      match readRecs m (h.total - 96) h.nRec 64 0 with
      | none => .inl (2, 0)
      | some rs =>
        match firstIdx (fun r => !r.2) rs with
        | some i => .inl (3, i)
        | none =>
          let recs := rs.map Prod.fst
          match recIn recs 1 0 with
          | none => .inl (4, 0)
          | some owner =>
            let zero := allZero s.hw.ownerDig
            if !sigs.contains (copy, 0, 0) then .inl (4, 0)
            else if !(claim && zero) && (zero || sha384 (cut owner 0 97) ≠ s.hw.ownerDig) then .inl (5, 0)
            else if h.serial ≠ s.hw.serial then .inl (6, 0)
            else if h.seq < s.hw.minSeq.toNat ∨ h.seq < h.floor then .inl (7, 0)
            else if !(required.all fun k => (recIn recs k.1 k.2).isSome) then .inl (8, 0)
            else
              match firstIdx (fwBad copy sigs s.hw.fuse) recs with
              | some i => .inl (8, i)
              | none =>
                match firstIdx (recBad recs h.stack) recs with
                | some i => .inl (9, i)
                | none => .inr (h, recs)

/-- The whole bytes of a valid copy. -/
def State.copyBytes (s : State) (c total : Nat) : Bytes := flashRead (s.copy c) 0 total

/-- Adoption (R403): MIN_SEQ rises to FLOOR; a NEXT_DIG that is not zero becomes OWNER_DIG. -/
def adopt (h : BlankHdr) (recs : List Rec) (s : State) : State :=
  let next := cut ((recIn recs 1 0).getD []) 0x68 48
  { s with hw := { s.hw with minSeq := if s.hw.minSeq.toNat < h.floor then w32 h.floor else s.hw.minSeq,
                             ownerDig := if allZero next then s.hw.ownerDig else next } }

def setCause (c cause : Nat) (s : State) : State :=
  if c = 0 then { s with blank := { s.blank with causeA := cause, validA := cause = 0 } }
  else { s with blank := { s.blank with causeB := cause, validB := cause = 0 } }

/-- An entry about a copy of the blank (class 0x01, R452). -/
def blankEv (step cause record copy : Nat) (s : State) : State :=
  logEv ⟨1, .refused, step, cause, 0, 0, 0xFF, toLe 2 record ++ [byte copy]⟩ s

/-- The order in which start-up tries the copies (R405): descending SEQ, A first when equal, an unreadable header last. -/
def tryOrder (s : State) (readable : BitVec 2) : List Nat :=
  let ra := readable.toNat.testBit 0
  let rb := readable.toNat.testBit 1
  let sa := leAt (flashRead s.blank.a 0 64) 0xC 4
  let sb := leAt (flashRead s.blank.b 0 64) 0xC 4
  if rb ∧ (!ra ∨ sa < sb) then [1, 0] else [0, 1]

/-- Step 2 (R405): the first valid copy is used and adopted; each failing copy sets its cause and adds an entry. -/
def selectCopy (readable : BitVec 2) (sigs : List SigRef) : List Nat → State → Option State × State
  | [], s => (none, s)
  | c :: r, s =>
    match checkCopy s c (readable.toNat.testBit c) sigs false with
    | .inl (cause, i) => selectCopy readable sigs r (blankEv 2 cause i c (setCause c cause s))
    | .inr (h, recs) =>
      let s := adopt h recs (setCause c 0 s)
      (some { s with blank := { s.blank with src := c, seq := w32 h.seq, inUse := true, live := recs,
                                             digest := sha384 (s.copyBytes c h.total) } }, s)

/-! ### Loading records into registers -/

/-- HOST entries into the shaper's host registers (R323, R406). -/
def loadHosts (d : Bytes) (s : State) : State :=
  let es := splitEvery 32 4096 d
  ((List.range es.length).zip es).foldl (fun s x =>
    let s := s.setReg .HOST_RATE x.1 (w32 (leAt x.2 8 4))
    let s := s.setReg .HOST_BURST x.1 (w32 (max 4 (leAt x.2 0xC 2)))
    s.setReg .HOST_CFG x.1 (w32 (leAt x.2 6 1 * 65536 + leAt x.2 7 1))) s

/-- SHAPER (R406): overheads, class and port buckets. -/
def loadShaper (d : Bytes) (s : State) : State :=
  let s := s.setReg .SHP_CFG 0 (w32 (leAt d 1 1 % 2 * 256 + leAt d 0 1))
  let s := s.setReg .TRANSIT_W 0 (w32 (leAt d 2 1))
  let s := (List.range 8).foldl (fun s c =>
    let s := s.setReg .SVC_RATE c (w32 (leAt d (4 + 8 * c) 4))
    let s := s.setReg .SVC_BURST c (w32 (max 4 (leAt d (8 + 8 * c) 2)))
    s.setReg .SVC_WEIGHT c (w32 (leAt d (10 + 8 * c) 1))) s
  (List.range 24).foldl (fun s l =>
    let s := s.setReg .PORT_RATE l (w32 (leAt d (0x44 + 8 * l) 4))
    s.setReg .PORT_BURST l (w32 (max 4 (leAt d (0x48 + 8 * l) 2)))) s

/-- LINK record l: rate, width, direction, expected peer, VC depths (R406). `start`: all fields; otherwise EXPECT_ID only. -/
def loadLink (start : Bool) (l : Nat) (d : Bytes) (s : State) : State :=
  let sh := leAt d 0 1
  let s := if start then
      let s := (s.setFld .LNK_CFG l 15 14 (bits sh 1 0)).setFld .LNK_CFG l 13 12 (bits sh 3 2)
      let s := s.setFld .LNK_EXPECT l 17 16 (bits sh 5 4)
      let s := s.setReg .VC_DEPTH0 l (w32 (leAt d 4 4))
      let s := s.setReg .VC_DEPTH1 l (w32 (leAt d 8 4))
      s.setReg .VC_DEPTH2 l (w32 (leAt d 12 4))
    else s
  s.setFld .LNK_EXPECT l 15 0 (leAt d 2 2)

/-- POLICY at step 3: ECLK_REQ and PWR_CAP (R443, R444), and the Heartwood policy slot where it differs (R353). -/
def loadPolicy (d : Bytes) (s : State) : State :=
  let s := s.setReg .ECLK_REQ 0 (w32 (leAt d 0xB0 1))
  let s := s.setReg .PWR_CAP 0 (w32 (leAt d 0xB2 2))
  let r := leAt d 1 1
  let pol := w32 (leAt d 2 2 * 4096 + bits r 7 6 * 256 + bits r 5 4 * 64 + bits r 3 2 * 16 + bits r 1 0 * 4 + leAt d 0 1 % 2)
  if s.hw.pol = pol then s
  else
    match nvWrite 25 s with
    | (true, s) => { s with hw := { s.hw with pol := pol } }
    | (false, s) => tamperEv .refused 0 s

/-- XPORT_MAP and DIRSTORE_SIZE from the TENANT and PARTITION records (R270, R406). -/
def loadTenants (s : State) : State :=
  let map := (List.range 16).foldl (fun v t => v + b2n (leAt (s.recOf 9 t) 0 1 = 1) * 2 ^ t) 0
  let s := s.setReg .XPORT_MAP 0 (w32 map)
  let part := s.recOf 8
  (List.range 16).foldl (fun s i =>
    let b := leAt part i 1
    s.setReg .DIRSTORE_SIZE i (w32 (if b.testBit 7 then leAt (s.recOf 9 (b % 16)) 1 1 else 0))) s

/-- STACK at step 3: the pair's settings (R399, R406). -/
def loadStack (d : Bytes) (s : State) : State :=
  s.setReg .PAIR_CFG 0 (w32 (leAt d 4 1 * 256 + leAt d 3 1 % 4))

/-- Every bucket of the shaper that is in use is full at load (R323). -/
def fillBuckets (s : State) : State :=
  let hosts := (s.recOf 10).length / 32
  let ids := (List.range hosts).map hostBucket ++ (List.range 8).map classBucket ++ (List.range 24).map portBucket
  ids.foldl (fun s b => if s.bRate b = 0 then s else s.setBucket b (s.bCap b)) s

end Sys2Proof.Machine
end

