-- ==== Sys2Proof/Machine/Chan.lean ====
section
/-! DEFINITION. DRAM channels over time (R74 to R77, R89, R90, R95, R98 to R104): training, evacuation and restore, refresh, power-down,
temperature, the Rasp, and the faults that a channel's sideband and parity report. -/

namespace Sys2Proof.Machine

/-! ### Training (R74 to R76) -/

/-- KIND of CH_STAT. -/
def dimmCode (k : DimmKind) : Nat := match k with | .none => 0 | .rdimm => 1 | .mrdimm => 2

/-- Is a configuration one that R74 allows? -/
def dimmOk (r : TrainReport) : Bool :=
  (match r.kind with | .none => false | .rdimm => r.dimms = 1 || r.dimms = 2 | .mrdimm => r.dimms = 1) &&
    (r.ranksPerDimm = 1 || r.ranksPerDimm = 2) && (r.dieGb = 16 || r.dieGb = 32) && r.width = 4 && r.checkDevices = 2 &&
    32 ≤ r.gibPerDimm && r.gibPerDimm ≤ 128

/-- The device's DIMM kind: that of the lowest-numbered channel that has passed step 1 (R74). -/
def State.devKind (s : State) : Nat := (((indices 16).map fun i => (s.chan i).kind).find? (· ≠ 0)).getD 0

def chanEv (c : ChanId) (k : EvKind) (data : Bytes) (s : State) : State :=
  logEv ⟨3, k, c.val, 0, 0, (s.chan c).st, 0xFF, data⟩ s

/-- A training step fails: FAILED with FAIL_STEP, and an event (R76). -/
def trainFail (c : ChanId) (step : Nat) (s : State) : State :=
  chanEv c .fault [] (s.updChan c fun k => { k with st := 5, failStep := step, speed := 0 })

/-- A trained channel is ONLINE with its layout. -/
def trainOk (c : ChanId) (r : TrainReport) (speed : Nat) (s : State) : State :=
  let s := s.updChan c fun k =>
    { k with st := 2, speed := speed, ranks := r.dimms * r.ranksPerDimm, gib := r.dimms * r.gibPerDimm, failStep := 0, degraded := false,
             hot := false, half := false, pd := 0, selfRef := false, ueAt := [], scrub := 0, dirG := min 32 (s.rfld .DIRSTORE_SIZE c.val 15 0), dirNext := none }
  tagsInvalid c.val (s.resize c)

/-- What a training run leads to (R74, R75, R76). -/
def trainChan (c : ChanId) (r : TrainReport) (s : State) : State :=
  if !r.spd then s.updChan c fun k => { k with st := 0, failStep := 0, speed := 0, ranks := 0 }
  else if !r.spdCrcOk ∨ !dimmOk r then trainFail c 1 s
  else
    let kind := dimmCode r.kind
    let s := if s.devKind = 0 ∨ s.devKind = kind then s.updChan c fun k => { k with kind := kind } else s
    if s.devKind ≠ kind then trainFail c 1 s
    else
      match r.kind with
      | .mrdimm => if r.fail12800 = 0 then trainOk c r 3 s else trainFail c r.fail12800 s
      | .rdimm | .none =>
        if r.fail6400 = 0 then trainOk c r 2 s
        else if r.fail3200 = 0 then
          logEv ⟨3, .state, c.val, 0, 0, 2, 0xFF, [1, byte r.fail6400]⟩ (trainOk c r 1 s)
        else trainFail c r.fail3200 s

/-- DDR_TRAIN_DONE at start-up step 7. A lower-numbered channel that reports later sets the kind: channels of another kind fail, and
those that the earlier kind had turned away are trained by their own reports. -/
def ddrTrainRun (c : ChanId) (r : TrainReport) (s : State) : State :=
  if (s.chan c).st ≠ 1 ∨ s.isBusy .CH_CMD_RESULT c.val then s
  else
    let lower := (indices 16).all fun i => i.val < c.val || (s.chan i).kind = 0
    let first := r.spd && r.spdCrcOk && dimmOk r && ((indices 16).all fun i => !(i.val < c.val) || (s.chan i).kind = 0)
    let s := s.updChan c fun k => { k with rep := some r }
    if first ∧ !lower then
      let kind := dimmCode r.kind
      let other := (indices 16).filter fun i => c.val < i.val && (s.chan i).kind ≠ 0 && (s.chan i).kind ≠ kind
      let turned := (indices 16).filter fun i => c.val < i.val && (s.chan i).st = 5 && (s.chan i).failStep = 1 &&
        ((s.chan i).rep.any fun x => x.spd && x.spdCrcOk && dimmOk x && dimmCode x.kind = kind)
      let s := other.foldl (fun s i => (trainFail i 1 s).updChan i fun k => { k with kind := 0 }) (s.updChan c fun k => { k with kind := kind })
      let s := trainChan c r s
      let s := if other = [] then s
        else turned.foldl (fun s i => match (s.chan i).rep with | some x => trainChan i x s | none => s) s
      memPump 64 (wake .chan (fun _ => true) s)
    else memPump 64 (wake .chan (fun _ => true) (trainChan c r s))

/-! ### Evacuation and restore (R101, R102, R166) -/

def chanConflict (c : ChanId) (code : Nat) (s : State) : State := conflict .CH_CMD_RESULT c.val 3 c.val code s

def chanCmd (c : ChanId) (code : Nat) (f : State → State) (s : State) : State :=
  if s.isBusy .CH_CMD_RESULT c.val then refusedBusy 3 c.val code (s.chan c).st s else f s

/-- Does the slice hold pinned volatile bytes? -/
def State.pinnedVolatile (s : State) (c : ChanId) : Bool :=
  (s.exts c).any fun e => e.region ≠ 0 && ((s.region e.region).any fun g => !g.durable)

def ddrEvacuateRun (c : ChanId) (force : Bool) (s : State) : State :=
  chanCmd c 1 (fun s =>
    let k := s.chan c
    if k.st ≠ 2 then chanConflict c k.st s
    else if !force ∧ s.pinnedVolatile c then chanConflict c 2 s
    else if (s.tierCode = 3 ∨ s.tierCode = 4) ∧ s.dirtyWays c.val ≠ [] then s.result .CH_CMD_RESULT c.val stRETRY_BUSY
    else
      let s := (s.busy .CH_CMD_RESULT c.val).updChan c fun k => { k with st := 3, force := force }
      memPump 64 (flushDirty c.val s)) s

/-- Pinned blocks of a slice, by extent: the region and the block. -/
def State.pinnedBlocks (s : State) (c : ChanId) : List (Nat × Nat) :=
  (s.exts c).flatMap fun e =>
    if e.region = 0 then []
    else
      match s.region e.region with
      | some g => (((List.range e.len).map (e.b0 + ·)).filter fun b => s.blockHome g ((s.memberOf g).getD 0) b = c.val).map fun b => (e.region, b)
      | none => []

/-- DDR_EVACUATE_DONE: nothing dirty and no directory entry left, the DIMMs lose power (R102). -/
def ddrEvacuateDoneRun (c : ChanId) (s : State) : State :=
  let sl := c.val
  if (s.chan c).st ≠ 3 then s
  else if s.dirtyWays sl ≠ [] ∨ s.victimsOf sl ≠ 0 ∨ s.pool.fills.any (fun f => f.slice = sl && f.way ≠ 9) ∨ s.hasEntries sl then
    memPump 64 (flushDirty sl s)
  else
    let s := (s.cachedBlocks sl).foldl (fun s b => dropBlock b s) s
    let s := (s.pinnedBlocks c).foldl (fun s x =>
      match s.region x.1 with
      | some g => if g.durable then dropBlock x.2 s else poisonBlock x.2 s
      | none => s) s
    let s := tagsInvalid sl s
    let s := s.updChan c fun k => { k with st := 4, dirNext := none, pd := 0, hot := false, half := false }
    let s := (chanEv c .state [] s).result .CH_CMD_RESULT sl stOK
    memPump 64 s

def ddrRestoreRun (c : ChanId) (s : State) : State :=
  chanCmd c 2 (fun s =>
    let k := s.chan c
    if k.st ≠ 0 ∧ k.st ≠ 4 ∧ k.st ≠ 5 then chanConflict c k.st s
    else (s.busy .CH_CMD_RESULT c.val).updChan c fun k => { k with st := 1, rep := none }) s

/-- Pinned blocks come back: durable ones from flash, volatile ones as markers (R102). -/
def restorePinned (c : ChanId) (s : State) : State :=
  (s.pinnedBlocks c).foldl (fun s x =>
    match s.region x.1 with
    | some g => if g.durable then (putImage x.2 x.1 g.tenant s).2 else poisonBlock x.2 s
    | none => s) s

def ddrRestoreDoneRun (c : ChanId) (r : TrainReport) (s : State) : State :=
  if (s.chan c).st ≠ 1 ∨ !s.isBusy .CH_CMD_RESULT c.val then s
  else
    let s := trainChan c r s
    let s :=
      if (s.chan c).st = 2 then chanEv c .state [] ((restorePinned c s).result .CH_CMD_RESULT c.val stOK)
      else s.result .CH_CMD_RESULT c.val stUNSUPPORTED
    memPump 64 (wake .bypass (fun t => t.slice = c.val) (wake .chan (fun t => t.slice = c.val) s))

/-! ### Refresh, power-down, temperature (R87, R89, R90) -/

def ChanSt.up (k : ChanSt) : Bool := k.st = 2 || k.st = 3

/-- A refresh is due and is issued first (R87). -/
def refreshRun (c : ChanId) (s : State) : State :=
  let k := s.chan c
  if k.up ∧ !k.selfRef then s.updChan c fun k => { k with refAt := s.time.nclk } else s

/-- An idle rank goes into power-down (R89). -/
def pdExpire (c : ChanId) (rank : Fin 4) (s : State) : State :=
  let k := s.chan c
  let n := s.rfld .PD_TIMER c.val 15 0
  if k.up ∧ n ≠ 0 ∧ rank.val < k.ranks ∧ !bit k.pd rank.val then
    (elapse (2 * n) s).updChan c fun k => { k with pd := setBits k.pd rank.val rank.val 1 }
  else s

/-- The DIMM temperature is read (R90): measures start at 85 and 95 °C and lift 3 °C below. -/
def tempPoll (c : ChanId) (celsius : Nat) (s : State) : State :=
  let k := s.chan c
  if !k.up then s
  else
    let s := pace (0x100 + c.val) (msec 16) s
    let half := if 85 ≤ celsius then true else if celsius ≤ 82 then false else k.half
    let hot := if 95 ≤ celsius then true else if celsius ≤ 92 then false else k.hot
    let s := s.updChan c fun k => { k with half := half, hot := hot }
    if hot ∧ !k.hot then chanEv c .threshold [] s else s

/-! ### The Rasp (R100) -/

/-- The block of the pinned area's channel block k. -/
def State.pinnedAt (s : State) (c : ChanId) (k : Nat) : Option (Nat × Nat) :=
  ((s.exts c).foldl (fun (a : Nat × Option (Nat × Nat)) e =>
    if a.2.isSome ∨ k < a.1 then a
    else if k < a.1 + e.gran * 1024 then
      match s.region e.region with
      | some g =>
        let l := s.sliceList g.tenant
        let n := max 1 l.length
        let i := (l.findIdx? (· = c.val)).getD 0
        (a.1 + e.gran * 1024, some (e.region, (e.b0 / n + (k - a.1)) * n + i))
      | none => (a.1 + e.gran * 1024, none)
    else (a.1 + e.gran * 1024, a.2)) (0, none)).2

/-- The next line the Rasp reads at or after channel line p: every line below the cache area, and the lines of valid ways; none at the
end of the pass. The second part is the line of DPA space it holds. -/
def State.scrubNext (s : State) (c : ChanId) (p : Nat) : Option (Nat × Option Nat) :=
  let base := s.cacheBase c / 128
  if p < base then
    let pin := s.pinBase c / 128
    if p < pin then some (p, none)
    else some (p, (s.pinnedAt c ((p - pin) / 128)).map fun x => x.2 * 128 + (p - pin) % 128)
  else
    let k := (p - base) / 128
    let ways := (s.tags.filter fun e => e.1 / 2 ^ 32 = c.val).flatMap fun e =>
      (((List.range 8).zip e.2).filter fun w => w.2.v).map fun w => (8 * (e.1 % 2 ^ 32) + w.1, w.2.block)
    match ways.find? fun w => k ≤ w.1 with
    | some (w, b) =>
      let q := max p (base + w * 128)
      some (q, some (b * 128 + (q - base) % 128))
    | none => none

/-- One scrub read. -/
def scrubRun (c : ChanId) (s : State) : State :=
  let k := s.chan c
  let iv := (s.reg .SCRUB_INTERVAL c.val).toNat
  if !k.up ∨ k.selfRef ∨ iv = 0 then s
  else
    let s := pace (0x120 + c.val) (2 * max 256 iv) s
    match s.scrubNext c k.scrub with
    | none => (s.updChan c fun k => { k with scrub := 0 }).count .SCRUB_PASS c.val
    | some (p, dl) =>
      if (dl.any fun l => s.lockHeld l) then s
      else
        let s := s.updChan c fun k => { k with scrub := p + 1 }
        match dl with
        | some l => memPump 64 (readLine c p l true (wakeRank c.val p s)).2
        | none =>
          let s := wakeRank c.val p s
          if p < k.cap / 2048 / 128 then memPump 64 (readTagLine c (2 * p) true s)
          else
            let s := s.count .DDR_RD_BYTES c.val 128
            match decodeErr (s.lineErr c.val p false) with
            | .good => s
            | .corrected pos =>
              ceMerge c (coordOf k.ranks p) (eccDevice pos) true (cleanLine c.val p ((s.count .CE_CNT c.val).count .DDR_WR_BYTES c.val 128))
            | .addrErr => memPump 64 (uncorrectable c p none true s)
            | .poisoned | .bad => memPump 64 (uncorrectable c p none false s)

/-- CE_CTL.CLEAR: every entry becomes invalid (R98). -/
def ceClearRun (c : ChanId) (s : State) : State :=
  (List.range 32).foldl (fun s i =>
    (((s.setReg .CE_ENTRY0 (ceU c.val i) 0).setReg .CE_ENTRY1 (ceU c.val i) 0).setReg .CE_ENTRY2 (ceU c.val i) 0).setReg .CE_ENTRY3
      (ceU c.val i) 0) s

/-- TAGC_CTL.WB_ALL: modified entries are written to both copies and stay valid (R81, R106). -/
def tagcWbRun (q : Quarter) (s : State) : State :=
  let s := s.tagc.foldl (fun s e =>
    let sl := e.1 / 2048
    if sl / 4 = q.val then s.count .DDR_WR_BYTES sl (256 * (e.2.filter fun w => w.dirty).length) else s) s
  { s with tagc := s.tagc.map fun e => if e.1 / 2048 / 4 = q.val then (e.1, e.2.map fun w => { w with dirty := false }) else e }

/-! ### Faults from the sideband and from parity (R95) -/

def chanFault (c : ChanId) (s : State) : State :=
  let k := s.chan c
  if k.st = 1 ∨ k.st = 2 ∨ k.st = 3 then memPump 64 (wake .chan (fun t => t.slice = c.val) (chanDone c stRETRY_BUSY (chanFail c 0 s)))
  else s

/-- A parity error is retried once; a second one fails the channel. -/
def parityRun (c : ChanId) (retryFailed : Bool) (s : State) : State := if retryFailed then chanFault c s else s

end Sys2Proof.Machine
end

