-- ==== Sys2Proof/Machine/Arith.lean ====
section
/-! DEFINITION. The arithmetic of the kernel cores (spec 07): number formats and block scaling (R209 to R215), rounding and special
values (R216, R217), stochastic rounding (R222, R223), chunked and long sums (R218, R219, R240), and the named functions of R241. -/

namespace Sys2Proof.Machine

/-! ### Format codes (R234) -/

def isBlock (c : Nat) : Bool := 1 ≤ c && c ≤ 7
def isFloat (c : Nat) : Bool := isBlock c || c = 0x10 || c = 0x11 || c = 0x12
def isNumeric (c : Nat) : Bool := isFloat c || c = 0x20
def is16 (c : Nat) : Bool := c = 0x10 || c = 0x11
def isWide (c : Nat) : Bool := is16 c || c = 0x12
def fmtDefined (c : Nat) : Bool := isNumeric c || c = 0x21 || c = 0x22 || c = 0x23

/-- Bits of an element. -/
def elemBits (c : Nat) : Nat :=
  match c with
  | 1 => 2 | 2 => 4 | 3 => 6 | 4 => 6 | 5 => 8 | 6 => 8 | 7 => 8 | 0x10 => 16 | 0x11 => 16 | 0x22 => 8 | 0x23 => 64
  | _ => 32

/-- Bytes of a block of 32 elements. -/
def blockBytes (c : Nat) : Nat := 1 + 4 * elemBits c

/-- Bytes of a row of n elements (R212). -/
def rowBytes (c n : Nat) : Nat := if isBlock c then n / 32 * blockBytes c else n * elemBits c / 8

/-! ### Values -/

def FVal.zero : FVal := .fin false 0 0
def FVal.one : FVal := .fin false 1 0
def FVal.ofInt (i : Int) : FVal := .fin (i < 0) i.natAbs 0
def FVal.scale (v : FVal) (k : Int) : FVal := match v with | .fin n m e => .fin n m (e + k) | .nan => .nan | .inf n => .inf n
def FVal.isNeg (v : FVal) : Bool := match v with | .fin n _ _ => n | .inf n => n | .nan => false
def FVal.isZero (v : FVal) : Bool := match v with | .fin _ m _ => m = 0 | .inf _ | .nan => false
def FVal.abs (v : FVal) : FVal := match v with | .fin _ m e => .fin false m e | .inf _ => .inf false | .nan => .nan
/-- a ≤ b for values that are not NaN. -/
def FVal.le (a b : FVal) : Bool := !b.lt a

/-- Sign, exponent and mantissa bits and bias of a block format's floating-point element (R209). -/
def mxFmt (c : Nat) : Nat × Nat × Nat :=
  match c with
  | 2 => (2, 1, 1) | 3 => (2, 3, 1) | 4 => (3, 2, 3) | 5 => (4, 3, 7) | _ => (5, 2, 15)

/-- An MX floating-point element code (R209). -/
def mxElem (c w : Nat) : FVal :=
  let (eb, mb, bias) := mxFmt c
  let neg := w.testBit (eb + mb)
  let e := w / 2 ^ mb % 2 ^ eb
  let m := w % 2 ^ mb
  if c = 5 ∧ w % 128 = 127 then .nan
  else if c = 6 ∧ e = 31 then (if m = 0 then .inf neg else .nan)
  else if e = 0 then .fin neg m (1 - (bias : Int) - mb)
  else .fin neg (2 ^ mb + m) ((e : Int) - bias - mb)

/-- An element code's value before block scaling (R209, R210). -/
def elemVal (c w : Nat) : FVal :=
  match c with
  | 1 => (match w % 4 with | 0 => .fin true 3 0 | 1 => .fin true 1 0 | 2 => .fin false 1 0 | _ => .fin false 3 0)
  | 7 => (FVal.ofInt (sint 8 w)).scale (-6)
  | _ => mxElem c w

/-- Largest element exponent (R209). -/
def emax (c : Nat) : Int :=
  match c with | 1 => 1 | 2 => 2 | 3 => 2 | 4 => 4 | 5 => 8 | 6 => 15 | _ => 0

/-- The 32 exact values of a block (R211, R215). -/
def decodeBlock (c : Nat) (b : Bytes) : List FVal :=
  let x := leAt b 0 1
  if x = 255 then List.replicate 32 .nan
  else
    let body := leNat (b.drop 1)
    (List.range 32).map fun e => (elemVal c (body / 2 ^ (elemBits c * e) % 2 ^ elemBits c)).scale ((x : Int) - 127)

/-- An element of a format that is not a block format; index and byte formats as integers, FX64 as its stored integer. -/
def decodeElem (c w : Nat) : FVal :=
  match c with
  | 0x10 => bf16.dec w
  | 0x11 => f16.dec w
  | 0x12 => f32.dec w
  | 0x20 => FVal.ofInt (sint 32 w)
  | 0x23 => FVal.ofInt (sint 64 w)
  | _ => FVal.ofInt w

/-- Pieces of k bytes. -/
def chunksOf (k : Nat) : Nat → Bytes → List Bytes
  | 0, _ => []
  | n + 1, b => b.take k :: chunksOf k n (b.drop k)

/-- The exact values of n elements stored densely. -/
def decodeVals (c n : Nat) (b : Bytes) : List FVal :=
  if isBlock c then (chunksOf (blockBytes c) (n / 32) b).flatMap (decodeBlock c)
  else (chunksOf (elemBits c / 8) n b).map fun x => decodeElem c (leNat x)

/-- A value rounded to binary32 (R216, R239). -/
def r32 (v : FVal) : FVal := f32.dec (f32.enc v)

/-! ### Stochastic rounding (R222, R223) -/

def mulHiLo (a b : Nat) : Nat × Nat := (a * b / 2 ^ 32, a * b % 2 ^ 32)

/-- One round of Philox4×32. -/
def philoxRound (c : Nat × Nat × Nat × Nat) (k : Nat × Nat) : Nat × Nat × Nat × Nat :=
  let (h0, l0) := mulHiLo 0xD2511F53 c.1
  let (h1, l1) := mulHiLo 0xCD9E8D57 c.2.2.1
  (h1 ^^^ c.2.1 ^^^ k.1, l1, h0 ^^^ c.2.2.2 ^^^ k.2, l0)

def philoxN : Nat → Nat × Nat × Nat × Nat → Nat × Nat → Nat × Nat × Nat × Nat
  | 0, c, _ => c
  | n + 1, c, k => philoxN n (philoxRound c k) ((k.1 + 0x9E3779B9) % 2 ^ 32, (k.2 + 0xBB67AE85) % 2 ^ 32)

/-- The four words of a counter under a seed. -/
def philox (seed ctr stream step : Nat) : List Nat :=
  let c := philoxN 10 (ctr % 2 ^ 32, ctr / 2 ^ 32 % 2 ^ 32, stream % 2 ^ 32, step % 2 ^ 32) (seed % 2 ^ 32, seed / 2 ^ 32 % 2 ^ 32)
  [c.1, c.2.1, c.2.2.1, c.2.2.2]

/-- The 16-bit random number of output element e (R223). -/
def srand (seed stream step e : Nat) : Nat :=
  let w := (philox seed (e / 8) stream step).getD (e % 8 / 2) 0
  w / 2 ^ (16 * (e % 2)) % 65536

/-- The distance of y from lo over that of hi from lo, in 65,536ths, rounded down; lo < hi, all finite. -/
def fracOf (y lo hi : FVal) : Nat :=
  match y.add lo.neg, hi.add lo.neg with
  | .fin _ m e, .fin _ n d =>
    let k := min e d
    65536 * (m * 2 ^ (e - k).toNat) / max 1 (n * 2 ^ (d - k).toNat)
  | _, _ => 0

/-- Which of the neighbours lo < hi of a magnitude's signed value is taken: true for hi's magnitude. `r`: the element's random number. -/
def srUp (neg : Bool) (y lo hi : FVal) (r : Nat) : Bool :=
  if neg then !decide (r < fracOf y.neg hi.neg lo.neg) else r < fracOf y lo hi

/-! ### Flags (R217) -/

structure Flags where
  nan : Bool
  inf : Bool
  sat : Bool
deriving DecidableEq, Repr

def Flags.none : Flags := ⟨false, false, false⟩
def Flags.or (a b : Flags) : Flags := ⟨a.nan || b.nan, a.inf || b.inf, a.sat || b.sat⟩
def Flags.of (v : FVal) : Flags := ⟨v.isNan, v.isInf, false⟩

/-! ### Rounding of elements (R213, R214) -/

/-- Number of finite magnitude codes of an MX floating-point element. -/
def mxCodes (c : Nat) : Nat :=
  match c with | 2 => 8 | 3 => 32 | 4 => 32 | 5 => 127 | _ => 124

/-- A magnitude among the codes of an MX format: the largest code not above it. -/
def mxFloor (c : Nat) (y : FVal) : Nat :=
  (List.range (mxCodes c)).foldl (fun best k => if (mxElem c k).le y then k else best) 0

/-- round_element: the code of an exact scaled value, and whether it saturated; `r`: the random number where SR is set. -/
def roundElem (c : Nat) (y : FVal) (r : Option Nat) : Nat × Bool :=
  let neg := y.isNeg
  let a := y.abs
  match c with
  | 1 =>
    if (FVal.fin false 3 0).lt a then (if neg then 0 else 3, true)
    else if a.lt .one then
      match r with
      | none => (if neg then 1 else 2, false)
      | some x => (if x < fracOf y (.fin true 1 0) .one then 2 else 1, false)
    else
      let up : Bool := match r with
        | none => (FVal.fin false 2 0).lt a
        | some x => !a.le .one && srUp neg a .one (.fin false 3 0) x
      (if neg then (if up then 0 else 1) else (if up then 3 else 2), false)
  | 7 =>
    match y.scale 6 with
    | .fin _ m e =>
      let lo := if e < 0 then m / 2 ^ (-e).toNat else m * 2 ^ e.toNat
      let exact := e ≥ 0 ∨ m % 2 ^ (-e).toNat = 0
      let k := match r with
        | none => rneInt m e
        | some x => if exact then lo else if srUp neg (.fin false m e) (.fin false lo 0) (.fin false (lo + 1) 0) x then lo + 1 else lo
      let s := 127 < k
      (uint 8 (signed neg (min k 127)), s)
    | .nan | .inf _ => (0, false)
  | _ =>
    let (eb, mb, _) := mxFmt c
    let top := mxCodes c - 1
    let sg := b2n neg * 2 ^ (eb + mb)
    if (mxElem c top).lt a then (sg + top, true)
    else
      let k := mxFloor c a
      let lo := mxElem c k
      let hi := mxElem c (k + 1)
      if !lo.lt a then (sg + k, false)
      else
        let up : Bool := match r with
          | some x => srUp neg a lo hi x
          | none =>
            let dl := a.add lo.neg
            let dh := hi.add a.neg
            dh.lt dl || (!dl.lt dh && k % 2 = 1)
        (sg + (if up then k + 1 else k), false)

/-- The binary exponent of a nonzero magnitude. -/
def floorLog2 (v : FVal) : Int := match v with | .fin _ m e => e + Nat.log2 m | .nan | .inf _ => 0

/-- 32 values quantised into a block (R213). `r`: the random number of element i of the block. -/
def quantBlock (c : Nat) (vs : List FVal) (r : Nat → Option Nat) : Bytes × Flags :=
  if vs.any fun v => v.isNan || v.isInf then (0xFF#8 :: zeros (4 * elemBits c), ⟨true, false, false⟩)
  else
    let amax := vs.foldl (fun a v => if a.lt v.abs then v.abs else a) .zero
    let x : Nat := if amax.isZero then 0 else (max 0 (min 254 (floorLog2 amax - emax c + 127))).toNat
    let qs := ((List.range 32).zip vs).map fun p => roundElem c (p.2.scale (127 - (x : Int))) (r p.1)
    let body := ((List.range 32).zip qs).foldl (fun n p => n + p.2.1 * 2 ^ (elemBits c * p.1)) 0
    (byte x :: toLe (4 * elemBits c) body, ⟨false, false, qs.any fun q => q.2⟩)

/-- A magnitude truncated to a format: its pattern without sign. -/
def Fmt.trunc (f : Fmt) (m : Nat) (e : Int) : Nat :=
  if m = 0 then 0
  else
    let top : Int := e + Nat.log2 m
    let lsb : Int := max top (1 - (f.bias : Int)) - f.mb
    let mant := if e - lsb < 0 then m / 2 ^ (lsb - e).toNat else m * 2 ^ (e - lsb).toNat
    ((lsb + f.mb + f.bias - 1) * (2 : Int) ^ f.mb).toNat + mant

/-- A value in a 16-bit or 32-bit format (R216); above the largest finite value stochastic rounding is not asked for. -/
def roundFmt (f : Fmt) (v : FVal) (r : Option Nat) : Nat :=
  match r, v with
  | some x, .fin neg m e =>
    let k := f.trunc m e
    if (2 ^ f.eb - 1) * 2 ^ f.mb ≤ k + 1 then f.enc v
    else
      let lo := f.dec k
      let a : FVal := .fin false m e
      if !lo.lt a then f.sign neg + k
      else f.sign neg + (if srUp neg a lo (f.dec (k + 1)) x then k + 1 else k)
  | _, _ => f.enc v

/-- n values converted to a format and stored densely. `r`: the random number of flat element e, where SR is set. -/
def encodeVals (c : Nat) (vs : List FVal) (r : Nat → Option Nat) : Bytes × Flags :=
  if isBlock c then
    (List.range (vs.length / 32)).foldl (fun a j =>
      let (b, f) := quantBlock c ((vs.drop (32 * j)).take 32) (fun i => r (32 * j + i))
      (a.1 ++ b, a.2.or f)) ([], Flags.none)
  else
    ((List.range vs.length).zip vs).foldl (fun a p =>
      let f := if c = 0x10 then bf16 else if c = 0x11 then f16 else f32
      let w := roundFmt f p.2 (if c = 0x12 then none else r p.1)
      (a.1 ++ toLe (elemBits c / 8) w, a.2.or (Flags.of (f.dec w)))) ([], Flags.none)

/-! ### Sums (R219, R240) -/

/-- An exact sum of terms; NaN and infinities as R219 has them. -/
def exactSum : List FVal → FVal
  | [] => .zero
  | [x] => x
  | x :: y :: r => exactSum' (x.add y) r
where
  exactSum' : FVal → List FVal → FVal
    | a, [] => a
    | a, x :: r => exactSum' (a.add x) r

def chunkFold : Nat → FVal → List FVal → FVal
  | 0, c, _ => c
  | n + 1, c, l => if l = [] then c else chunkFold n (r32 (c.add (exactSum (l.take 32)))) (l.drop 32)

/-- The chunked sum from c. -/
def chunkedSum (c : FVal) (l : List FVal) : FVal := chunkFold (l.length / 32 + 1) c l

def segments : Nat → List FVal → List (List FVal)
  | 0, _ => []
  | n + 1, l => if l = [] then [] else l.take 4096 :: segments n (l.drop 4096)

/-- The long sum; at most 5 levels, since an operand has fewer than 4096^5 elements. -/
def longSumN : Nat → List FVal → FVal
  | 0, l => chunkedSum .zero l
  | n + 1, l =>
    if l.length ≤ 4096 then chunkedSum .zero l
    else longSumN n ((segments (l.length / 4096 + 1) l).map (chunkedSum .zero))

def longSum (l : List FVal) : FVal := longSumN 11 l

/-! ### Binary32 operations (R239, R241) -/

def addF (a b : FVal) : FVal := r32 (a.add b)
def subF (a b : FVal) : FVal := r32 (a.add b.neg)
def mulF (a b : FVal) : FVal := r32 (a.mul b)
def fmaF (a b c : FVal) : FVal := r32 ((a.mul b).add c)

/-- n / d × 2^e with a sticky bit below: exact for rounding to any format of at most 60 mantissa bits. -/
def quotVal (neg : Bool) (n d : Nat) (e : Int) : FVal :=
  let k := 64 + Nat.log2 d
  let q := n * 2 ^ k / max 1 d
  .fin neg (2 * q + b2n (n * 2 ^ k % max 1 d ≠ 0)) (e - k - 1)

/-- The exact quotient for rounding. -/
def FVal.div (a b : FVal) : FVal :=
  match a, b with
  | .nan, _ => .nan
  | _, .nan => .nan
  | .inf x, .inf _ => let _ := x; .nan
  | .inf x, .fin y _ _ => .inf (x != y)
  | .fin x _ _, .inf y => .fin (x != y) 0 0
  | .fin x m e, .fin y n d =>
    if n = 0 then (if m = 0 then .nan else .inf (x != y))
    else if m = 0 then .fin (x != y) 0 0
    else quotVal (x != y) m n (e - d)

def divF (a b : FVal) : FVal := r32 (a.div b)

/-- The integer square root, bit by bit from bit k. -/
def isqrtFrom : Nat → Nat → Nat → Nat
  | 0, n, r => if (r + 1) * (r + 1) ≤ n then r + 1 else r
  | k + 1, n, r => isqrtFrom k n (if (r + 2 ^ (k + 1)) * (r + 2 ^ (k + 1)) ≤ n then r + 2 ^ (k + 1) else r)

def isqrt (n : Nat) : Nat := isqrtFrom (Nat.log2 n / 2 + 1) n 0

/-- The square root of n / d × 2^(2 h), with a sticky bit. -/
def rootVal (n d : Nat) (h : Int) : FVal :=
  let k := 64 + Nat.log2 d
  let q := n * 4 ^ k / max 1 d
  let s := isqrt q
  .fin false (2 * s + b2n (s * s * max 1 d ≠ n * 4 ^ k)) (h - k - 1)

/-- m × 2^e as n × 2^(2 h). -/
def evenExp (m : Nat) (e : Int) : Nat × Int := if e % 2 = 0 then (m, e / 2) else (2 * m, (e - 1) / 2)

def sqrtF (v : FVal) : FVal :=
  match v with
  | .nan => .nan
  | .inf n => if n then .nan else .inf false
  | .fin n m e =>
    if m = 0 then .fin n 0 0 else if n then .nan
    else let (a, h) := evenExp m e; r32 (rootVal a 1 h)

def rsqrtF (v : FVal) : FVal :=
  match v with
  | .nan => .nan
  | .inf n => if n then .nan else .zero
  | .fin n m e =>
    if m = 0 then .inf n else if n then .nan
    else let (a, h) := evenExp m e; r32 (rootVal 1 a (-h))

def recipF (v : FVal) : FVal := divF .one v

/-- MAX and MIN: −0 below +0, NaN if either is NaN. -/
def maxF (a b : FVal) : FVal :=
  if a.isNan || b.isNan then .nan
  else if a.isZero && b.isZero then (if a.isNeg then b else a)
  else if a.lt b then b else a
def minF (a b : FVal) : FVal :=
  if a.isNan || b.isNan then .nan
  else if a.isZero && b.isZero then (if a.isNeg then a else b)
  else if a.lt b then a else b
def signF (v : FVal) : FVal :=
  if v.isNan then .nan else if v.isZero then .zero else if v.isNeg then .fin true 1 0 else .one

/-! #### EXP, LOG, TANH: fixed point with 384 fraction bits, far beyond what rounding to binary32 needs -/

def fpBits : Nat := 384
def fpOne : Nat := 2 ^ fpBits
def fpMul (a b : Nat) : Nat := a * b / fpOne

/-- Σ x^i / i! from term i on. -/
def expSeries : Nat → Nat → Nat → Nat → Nat
  | 0, _, _, acc => acc
  | n + 1, x, t, acc => expSeries n x (fpMul t x / (65 - n)) (acc + fpMul t x / (65 - n))

def squareN : Nat → Nat → Nat
  | 0, x => x
  | n + 1, x => squareN n (fpMul x x)

/-- e^x for a fixed-point x ≥ 0: the series at x / 2^16, squared 16 times. -/
def fpExp (x : Nat) : Nat := squareN 16 (expSeries 65 (x / 65536) fpOne fpOne)

/-- 2 Σ z^(2i+1) / (2i+1), i from 0. -/
def atanhSeries : Nat → Nat → Nat → Nat → Nat → Nat
  | 0, _, _, _, acc => acc
  | n + 1, z2, t, i, acc => atanhSeries n z2 (fpMul t z2) (i + 2) (acc + 2 * (t / i))

/-- ln y for 1 ≤ y < 2 as a fraction n / d. -/
def fpLn (n d : Nat) : Nat :=
  let z := (n - d) * fpOne / (n + d)
  atanhSeries 130 (fpMul z z) z 1 0

def ln2 : Nat := fpLn 2 1

/-- A finite magnitude in fixed point. -/
def toFp (m : Nat) (e : Int) : Nat := if e + fpBits < 0 then m / 2 ^ (-(e + fpBits)).toNat else m * 2 ^ (e + fpBits).toNat

def expF (v : FVal) : FVal :=
  match v with
  | .nan => .nan
  | .inf n => if n then .zero else .inf false
  | .fin n m e =>
    if m = 0 then .one
    else if 8 ≤ floorLog2 v then (if n then .zero else .inf false)
    else
      let y := fpExp (toFp m e)
      if n then r32 (quotVal false fpOne y 0) else r32 (.fin false y (-(fpBits : Int)))

def logF (v : FVal) : FVal :=
  match v with
  | .nan => .nan
  | .inf n => if n then .nan else .inf false
  | .fin n m e =>
    if m = 0 then .inf true
    else if n then .nan
    else
      let k := floorLog2 v
      let s : Int := fpLn m (2 ^ Nat.log2 m) + k * ln2
      let _ := e
      if s = 0 then .zero else r32 (.fin (s < 0) s.natAbs (-(fpBits : Int)))

def tanhF (v : FVal) : FVal :=
  match v with
  | .nan => .nan
  | .inf n => .fin n 1 0
  | .fin n m e =>
    if m = 0 then .fin n 0 0
    else if 7 ≤ floorLog2 v then .fin n 1 0
    else
      let y := fpExp (toFp (2 * m) e)
      r32 (quotVal n (y - fpOne) (y + fpOne) 0)

/-- SIGMOID, SILU and GELU_TANH (R243). -/
def sigmoidF (x : FVal) : FVal := recipF (addF .one (expF x.neg))
def siluF (x : FVal) : FVal := mulF x (sigmoidF x)
def geluF (x : FVal) : FVal :=
  let v := mulF (f32.dec 0x3F4C422A) (addF x (mulF (f32.dec 0x3D372713) (mulF (mulF x x) x)))
  mulF (mulF (f32.dec 0x3F000000) x) (addF .one (tanhF v))

end Sys2Proof.Machine
end

