-- ==== Sys2Proof/Machine/Dkf.lean ====
section
/-! DEFINITION. Program images of the Dorob Kernel Form (spec 08): the header, tensor descriptors and operation records (R232 to R234), the
shapes and formats each opcode asks for (R243 to R257), and the load checks (R242). -/

namespace Sys2Proof.Machine

/-! ### Tensor descriptors (R234) -/

structure TDesc where
  fmt : Nat
  rank : Nat
  kind : Nat
  arg : Nat
  base : Nat
  dims : List Nat
  pitch : List Nat
deriving DecidableEq, Repr

def tdescOf (b : Bytes) : TDesc :=
  ⟨leAt b 0 1, leAt b 1 1, leAt b 2 1, leAt b 3 1, leAt b 8 8, (List.range 4).map fun i => leAt b (0x10 + 4 * i) 4,
    (List.range 3).map fun i => leAt b (0x20 + 8 * i) 8⟩

namespace TDesc
variable (d : TDesc)

def shape : List Nat := d.dims.take d.rank
def count : Nat := d.shape.foldl (· * ·) 1
/-- Size of the last dimension. -/
def last : Nat := d.dims.getD (d.rank - 1) 1
def rows : Nat := d.count / max 1 d.last
def rowLen : Nat := rowBytes d.fmt d.last

/-- Bytes between consecutive indices of each dimension but the last, outermost first, built from the innermost. -/
def stridesFrom (dims pitch : List Nat) (inner : Nat) : List Nat :=
  match dims, pitch with
  | _ :: ds, p :: ps =>
    match ds with
    | [] => []
    | e :: _ =>
      let r := stridesFrom ds ps inner
      let below := match r with | [] => inner | s :: _ => e * s
      (if p ≠ 0 then p else below) :: r
  | _, _ => []

def strides : List Nat := stridesFrom d.shape d.pitch d.rowLen

/-- The offset of row number r, rows counted in row-major order. -/
def rowOff (r : Nat) : Nat :=
  let f := ((d.shape.take (d.rank - 1)).zip d.strides).reverse.foldl
    (fun (a : Nat × Nat) x => (a.1 / max 1 x.1, a.2 + a.1 % max 1 x.1 * x.2)) (r, 0)
  f.2

/-- Every row as a piece of the tensor's bytes. -/
def pieces : List (Nat × Nat) := (List.range d.rows).map fun r => (d.rowOff r, d.rowLen)

/-- Bytes from the base to the end of the last row. -/
def extent : Nat := d.rowOff (d.rows - 1) + d.rowLen

/-- The rules of R234. -/
def ok : Bool :=
  fmtDefined d.fmt && 1 ≤ d.rank && d.rank ≤ 4 && d.kind ≤ 2 && (if d.kind = 1 then d.arg ≤ 15 else d.arg = 0) &&
    d.base % 64 = 0 && (d.shape.all fun n => 1 ≤ n && n ≤ 2 ^ 31) && ((d.dims.drop d.rank).all (· = 1)) &&
    ((d.pitch.drop (d.rank - 1)).all (· = 0)) &&
    (!isBlock d.fmt || d.last % 32 = 0) &&
    (((List.range (d.rank - 1)).all fun i =>
      let p := d.pitch.getD i 0
      let e := { d with rank := d.rank - 1 - i, dims := d.dims.drop (i + 1), pitch := [0, 0, 0] : TDesc }
      p = 0 || (p % 64 = 0 && e.extent ≤ p)))

end TDesc

/-! ### Operation records (R232) -/

structure OpRec where
  code : Nat
  flags : Nat
  ins : List Nat
  outs : List Nat
  attrOff : Nat
  attrLen : Nat
  stream : Nat
deriving DecidableEq, Repr

def opRecOf (b : Bytes) : OpRec :=
  ⟨leAt b 0 2, leAt b 2 2, (List.range 4).map fun i => leAt b (4 + 2 * i) 2, (List.range 2).map fun i => leAt b (0xC + 2 * i) 2,
    leAt b 0x10 4, leAt b 0x14 4, leAt b 0x18 4⟩

def OpRec.sr (o : OpRec) : Bool := bit o.flags 0

/-- Least and most inputs, listed outputs, attribute words of an opcode (R243). OPT.ADAMW's third output, Va, is written in place and has
no place among the two of the record. -/
def opSig (code : Nat) : Option (Nat × Nat × Nat × Nat) :=
  match code with
  | 0x001 => some (2, 3, 1, 0) | 0x002 => some (1, 1, 1, 1) | 0x003 => some (2, 2, 1, 1) | 0x004 => some (3, 3, 1, 0)
  | 0x005 => some (3, 3, 1, 0) | 0x006 => some (1, 1, 1, 0) | 0x007 => some (1, 1, 1, 1) | 0x008 => some (1, 2, 1, 2)
  | 0x009 => some (2, 2, 1, 0) | 0x00A => some (3, 3, 1, 1) | 0x00B => some (0, 0, 1, 1) | 0x00C => some (1, 1, 1, 0)
  | 0x00D => some (0, 0, 0, 2) | 0x100 => some (1, 1, 1, 2) | 0x101 => some (4, 4, 2, 5) | 0x102 => some (3, 3, 2, 4)
  | 0x103 => some (3, 3, 2, 10) | 0x104 => some (1, 1, 1, 0) | 0x105 => some (1, 1, 1, 0) | 0x106 => some (3, 3, 1, 0)
  | 0x107 => some (3, 3, 1, 3) | 0x108 => some (2, 2, 1, 1) | 0x109 => some (1, 1, 1, 0) | 0x10A => some (1, 1, 1, 2)
  | _ => none

def OpRec.used (l : List Nat) : List Nat := l.takeWhile (· ≠ 0xFFFF)
def OpRec.inputs (o : OpRec) : List Nat := OpRec.used o.ins

/-- Every tensor the operation writes, in the order of its outputs. -/
def OpRec.writes (o : OpRec) : List Nat := OpRec.used o.outs ++ (if o.code = 0x101 then [o.ins.getD 3 0xFFFF] else [])

/-! ### The image (R232) -/

structure Image where
  raw : Bytes
  nT : Nat
  nO : Nat
  constBytes : Nat
  workBytes : Nat
deriving DecidableEq, Repr

def imageOf (b : Bytes) : Image := ⟨b, leAt b 8 2, leAt b 0xA 2, leAt b 0x10 4, leAt b 0x18 8⟩

namespace Image
variable (p : Image)

def tensor (i : Nat) : TDesc := tdescOf (cut p.raw (64 + 64 * i) 64)
def opBytes (i : Nat) : Bytes := cut p.raw (64 + 64 * p.nT + 32 * i) 32
def op (i : Nat) : OpRec := opRecOf (p.opBytes i)
def ops : List OpRec := (List.range p.nO).map p.op
def attr (o : OpRec) (i : Nat) : Nat := leAt p.raw (64 + 64 * p.nT + 32 * p.nO + o.attrOff + 4 * i) 4

/-- Check 2: MAGIC, counts, CONST_BYTES, reserved fields, the length. -/
def headerOk : Bool :=
  64 ≤ p.raw.length && leAt p.raw 0 4 = 0xD0B0DF00 && 1 ≤ p.nT && p.nT ≤ 1024 && 1 ≤ p.nO && p.nO ≤ 1024 &&
    p.constBytes ≤ 65536 && p.constBytes % 4 = 0 && p.workBytes ≤ 2 ^ 40 &&
    leAt p.raw 0xC 4 = 0 && leAt p.raw 0x14 4 = 0 && allZero (cut p.raw 0x20 32) &&
    p.raw.length = 64 + 64 * p.nT + 32 * p.nO + p.constBytes &&
    ((List.range p.nT).all fun i => leAt p.raw (64 + 64 * i + 4) 4 = 0 && leAt p.raw (64 + 64 * i + 0x38) 8 = 0) &&
    ((List.range p.nO).all fun i => leAt (p.opBytes i) 0x1C 4 = 0)

end Image

/-! ### Shapes (R243) -/

/-- Two shapes broadcast, aligned at the last dimension. -/
def broadcastRev : List Nat → List Nat → Option (List Nat)
  | [], b => some b
  | a, [] => some a
  | x :: a, y :: b =>
    if x = y ∨ x = 1 ∨ y = 1 then (broadcastRev a b).map fun r => max x y :: r else none

def broadcast (a b : List Nat) : Option (List Nat) := (broadcastRev a.reverse b.reverse).map List.reverse

def broadcastAll (l : List (List Nat)) : Option (List Nat) :=
  l.foldl (fun (a : Option (List Nat)) s => a.bind fun x => broadcast x s) (some [])

/-- Is a binary32 pattern finite? -/
def finite32 (w : Nat) : Bool := match f32.dec w with | .fin _ _ _ => true | .nan | .inf _ => false

/-- Formats, ranks, shapes and attribute values that an opcode requires of its inputs `x`, its outputs `y` and its attribute words `a`. -/
def opShapeOk (code : Nat) (x y : List TDesc) (a : List Nat) : Bool :=
  let e : TDesc := ⟨0, 0, 0, 0, 0, [], []⟩
  let x0 := x.getD 0 e
  let x1 := x.getD 1 e
  let x2 := x.getD 2 e
  let y0 := y.getD 0 e
  let s0 := x0.shape
  let same (d : TDesc) : Bool := d.shape = s0
  let num (l : List TDesc) : Bool := l.all fun d => isNumeric d.fmt
  let fl : Bool := y.all fun d => isFloat d.fmt
  let opt (d : TDesc) : Bool := d.fmt = 0x12 || d.fmt = 0x10
  let narrow (d : TDesc) : Bool := isBlock d.fmt || is16 d.fmt
  match code with
  | 0x001 =>
    let mk : Option (List Nat × List Nat × List Nat) :=
      match x0.shape, x1.shape with
      | [m, k], [k', n] => if k = k' then some ([m, n], [], [k]) else none
      | [b, m, k], [b', k', n] => if k = k' ∧ b = b' then some ([b, m, n], [], [k]) else none
      | _, _ => none
    (match mk with
     | some (s, _, k) => y0.shape = s && (x.length < 3 || (x2.shape = s && x2.fmt = 0x12)) &&
        ((!isBlock x0.fmt && !isBlock x1.fmt) || k.getD 0 1 % 32 = 0)
     | none => false) && num (x.take 2) && fl
  | 0x002 => num x && fl && same y0 && a.getD 0 99 ≤ 11
  | 0x003 => num x && fl && broadcastAll (x.map TDesc.shape) = some y0.shape && a.getD 0 99 ≤ 5
  | 0x004 => num x && fl && broadcastAll (x.map TDesc.shape) = some y0.shape
  | 0x005 => num x && fl && broadcastAll (x.map TDesc.shape) = some y0.shape
  | 0x006 => num x && isWide y0.fmt && same y0
  | 0x007 => num x && fl && y0.shape = s0.take (x0.rank - 1) ++ [1] && a.getD 0 99 ≤ 4
  | 0x008 => num x && fl && same y0 && (x.length < 2 || same x1) && a.getD 0 99 ≤ 1
  | 0x009 => isNumeric x0.fmt && x1.fmt = 0x21 && fl && x0.rank = 2 && x1.rank = 1 && y0.shape = [x1.last, x0.last]
  | 0x00A => isNumeric x0.fmt && x1.fmt = 0x21 && fl && x0.rank = 2 && x2.rank = 2 && x1.shape = [s0.getD 0 0] && x2.last = x0.last &&
      a.getD 0 99 ≤ 1
  | 0x00B => (a.getD 0 99 = 0 && y0.fmt = 0x12) || (a.getD 0 99 = 1 && y0.fmt = 0x21)
  | 0x00C => num x && fl && 2 ≤ x0.rank &&
      y0.shape = s0.take (x0.rank - 2) ++ [x0.last, s0.getD (x0.rank - 2) 0]
  | 0x00D => a.getD 0 (2 ^ 16) < 2 ^ 16 && a.getD 1 64 ≤ 63
  | 0x100 => x0.fmt = 0x23 && fl && same y0
  | 0x101 => x.all same && opt x0 && opt x2 && opt (x.getD 3 e) && isFloat x1.fmt
  | 0x102 => x.all same && opt x0 && opt x2 && isFloat x1.fmt
  | 0x103 => x.all same && x.all opt && x0.rank = 2 && min (s0.getD 0 0) (s0.getD 1 0) ≤ 8192 && max (s0.getD 0 0) (s0.getD 1 0) ≤ 65536 &&
      a.getD 8 99 ≤ 16 && a.getD 9 99 < 8
  | 0x104 => isWide x0.fmt && isBlock y0.fmt && same y0
  | 0x105 => narrow x0 && isWide y0.fmt && same y0
  | 0x106 => narrow x0 && is16 x1.fmt && x1.fmt = x2.fmt && isWide y0.fmt && same y0 && x0.rank = 2 && x1.rank = 2 && x2.rank = 2 &&
      x1.shape.getD 0 0 = s0.getD 0 0 && x2.last = x0.last && x1.last = x2.shape.getD 0 0 && x1.last ≤ 1024
  | 0x107 => isWide x0.fmt && narrow x1 && narrow x2 && isWide y0.fmt && same y0 && x0.rank = 3 && x1.rank = 4 && x2.shape = x1.shape &&
      x1.shape.getD 0 0 = s0.getD 0 1 && x1.last = x0.last && x0.last ≤ 512 && x0.last % 32 = 0 && s0.getD 0 0 ≤ 4096 &&
      1 ≤ a.getD 1 0 && a.getD 1 0 ≤ x1.shape.getD 2 0 && s0.getD 1 0 = a.getD 2 0 * x1.shape.getD 1 0
  | 0x108 => isFloat x0.fmt && x1.fmt = 0x21 && isWide y0.fmt && x0.rank = 2 && x1.rank = 2 && x1.last ≤ 256 &&
      y0.shape = [x1.shape.getD 0 0, x0.last] && a.getD 0 99 < 2
  | 0x109 => y0.fmt = 0x22 && y0.count = 48
  | 0x10A => num x && y0.fmt = 0x22 && y0.count = 320 && finite32 (a.getD 0 0) && finite32 (a.getD 1 0) &&
      (f32.dec (a.getD 0 0)).lt (f32.dec (a.getD 1 0))
  | _ => false

/-- Where an output stands that is written in place (R237, R243): the outputs' inputs, if the opcode fixes them; anywhere among the
inputs; nowhere. -/
def inPlaceOk (o : OpRec) : Bool :=
  let outs := OpRec.used o.outs
  match o.code with
  | 0x002 | 0x003 | 0x004 => true
  | 0x00A => outs = [o.ins.getD 2 0]
  | 0x101 | 0x102 | 0x103 => outs = [o.ins.getD 0 0, o.ins.getD 2 0]
  | _ => outs.all fun y => !o.inputs.contains y

/-- Check 6 of one record. -/
def opOk (p : Image) (o : OpRec) : Bool :=
  match opSig o.code with
  | none => false
  | some (lo, hi, no, na) =>
    let xs := o.inputs
    let ys := OpRec.used o.outs
    o.flags < 2 && o.stream ≤ 2 ^ 32 - 2 ^ 16 && (o.ins.drop xs.length).all (· = 0xFFFF) && (o.outs.drop ys.length).all (· = 0xFFFF) &&
      (xs ++ ys).all (· < p.nT) && lo ≤ xs.length && xs.length ≤ hi && ys.length = no && o.attrLen = 4 * na && o.attrOff % 4 = 0 &&
      o.attrOff + o.attrLen ≤ p.constBytes && inPlaceOk o &&
      opShapeOk o.code (xs.map p.tensor) (ys.map p.tensor) ((List.range na).map (p.attr o))

/-! ### Order, writers, overlap (R236, R237) -/

/-- Do two tensors at these bases share a byte? -/
def tensorsMeet (a : TDesc) (ba : Nat) (b : TDesc) (bb : Nat) : Bool :=
  ba < bb + b.extent && bb < ba + a.extent &&
    (a.pieces.any fun x => b.pieces.any fun y => ba + x.1 < bb + y.1 + y.2 && bb + y.1 < ba + x.1 + x.2)

/-- The operation that writes a tensor. -/
def Image.writer (p : Image) (t : Nat) : Option Nat := p.ops.findIdx? fun o => o.writes.contains t

/-- The first record that breaks R236. -/
def Image.badOrder (p : Image) : Option Nat :=
  (List.range p.nO).find? fun i =>
    let o := p.op i
    (o.writes.any fun t => p.writer t ≠ some i) || o.writes.eraseDups.length ≠ o.writes.length ||
      (o.inputs.any fun t => match p.writer t with | some w => i < w | none => false)

/-- The tensors that some operation writes. -/
def Image.written (p : Image) : List Nat := (p.ops.flatMap OpRec.writes).eraseDups

/-- The first WORK tensor that leaves WORK_BYTES or lies under a written one (R237). -/
def Image.badWork (p : Image) : Option Nat :=
  let ws := (List.range p.nT).filter fun i => (p.tensor i).kind = 2
  let wr := p.written
  ws.find? fun i =>
    let d := p.tensor i
    p.workBytes < d.base + d.extent ||
      ws.any fun j => j ≠ i && (wr.contains i || wr.contains j) && tensorsMeet d d.base (p.tensor j) (p.tensor j).base

/-- The stream numbers an operation draws on, where it draws. -/
def OpRec.streams (o : OpRec) : Option (Nat × Nat) :=
  if o.sr ∨ o.code = 0x00B then some (o.stream, o.stream + o.writes.length) else none

/-- The first record whose streams overlap an earlier one's. -/
def Image.badStream (p : Image) : Option Nat :=
  (List.range p.nO).find? fun i =>
    match (p.op i).streams with
    | none => false
    | some (a, b) =>
      (List.range i).any fun j => match (p.op j).streams with | some (c, d) => a < d && c < b | none => false

/-! ### Load checks (R242) -/

inductive LoadFail where
  | unsupported (index : Nat)
  | bad (index : Nat)
deriving DecidableEq, Repr

/-- Checks 2 to 8, with the index of the failing descriptor or record; 0xFFFF for none. -/
def loadCheck (b : Bytes) : Option LoadFail :=
  let p := imageOf b
  if !p.headerOk then some (.bad 0xFFFF)
  else if leAt b 6 2 ≠ 1 ∨ leAt b 4 2 ≠ 0 then some (.unsupported 0xFFFF)
  else
    match (List.range p.nT).find? fun i => !(p.tensor i).ok with
    | some i => some (.bad i)
    | none =>
      match (List.range p.nO).find? fun i => (opSig (p.op i).code).isNone with
      | some i => some (.unsupported i)
      | none =>
        match (List.range p.nO).find? fun i => !opOk p (p.op i) with
        | some i => some (.bad i)
        | none =>
          match p.badOrder with
          | some i => some (.bad i)
          | none =>
            match p.badWork with
            | some i => some (.bad i)
            | none => p.badStream.map fun i => .bad i

/-- May the image be submitted as a built-in on its own (R279)? -/
def isBuiltin (b : Bytes) : Bool :=
  let p := imageOf b
  p.nO = 1 && 0x100 ≤ (p.op 0).code

/-! ### Workspace (R260) -/

/-- Output tiles of an operation: 128 × 128 tiles of a matrix product, else one per row or 16 KiB of output. -/
def outTiles (p : Image) (o : OpRec) : Nat :=
  ((OpRec.used o.outs).map fun t =>
    let d := p.tensor t
    let n := d.last
    let m := (d.shape.getD (d.rank - 2) 1)
    if o.code = 0x001 ∨ o.code = 0x103 ∨ o.code = 0x106 then d.count / max 1 (m * n) * cdiv m 128 * cdiv n 128
    else max d.rows (cdiv (d.rows * d.rowLen) 16384)).foldl max 1

/-- Spill space of an operation with `c` output tiles running at once; `k`: bytes that DIGEST's byte count takes. -/
def opSpill (p : Image) (o : OpRec) (c k : Nat) : Nat :=
  let d := p.tensor (o.ins.getD 0 0)
  let m := d.shape.getD 0 0
  let n := d.shape.getD 1 0
  65536 * c +
    (match o.code with
     | 0x103 => (2 * min m n * min m n + 2 * m * n) * (if bit (p.attr o 9) 2 then 2 else 1)
     | 0x109 => 64 + k
     | _ => 0)

/-- WORK_NEED, where at most `r` tiles beyond one run at once. -/
def workNeed (p : Image) (r k : Nat) : Nat :=
  cdiv p.workBytes 64 * 64 + (p.ops.map fun o => opSpill p o (1 + r % outTiles p o) k).foldl max 0

end Sys2Proof.Machine
end

