-- ==== Sys2Proof/Machine/DkfOps.lean ====
section
/-! DEFINITION. What each operation of DKF 1.0 computes (R239 to R257), on the dense bytes of its tensors, and which rows of them it
reads and writes. -/

namespace Sys2Proof.Machine

/-- SEED and STEP of the task, FRAC of the region that REDUCE.FINISH reads. -/
structure OpEnv where
  seed : Nat
  step : Nat
  frac : Nat
deriving DecidableEq, Repr

/-- What an operation did: bytes written per output and row offset, and flags; or the task fails with BAD_DESCRIPTOR. -/
inductive OpOut where
  | ok (writes : List (Nat × List (Nat × Bytes))) (f : Flags)
  | bad
deriving DecidableEq, Repr

/-- An operation with its tensors, attributes and the dense bytes read. -/
structure OpCall where
  rec_ : OpRec
  x : List TDesc
  y : List TDesc
  a : List Nat
  inp : List Bytes
  env : OpEnv
deriving DecidableEq, Repr

namespace OpCall
variable (k : OpCall)

def nil : TDesc := ⟨0, 0, 0, 0, 0, [], []⟩
def tx (i : Nat) : TDesc := k.x.getD i nil
def ty (i : Nat) : TDesc := k.y.getD i nil
def attr (i : Nat) : Nat := k.a.getD i 0
/-- An attribute word marked binary32. -/
def attrF (i : Nat) : FVal := f32.dec (k.attr i)
/-- An input's values, exact. -/
def exact (i : Nat) : List FVal := decodeVals (k.tx i).fmt (k.tx i).count (k.inp.getD i [])
/-- An input's values in binary32 (R239). -/
def vals (i : Nat) : List FVal := (k.exact i).map r32
/-- An input's elements as unsigned 32-bit indices. -/
def index (i : Nat) : List Nat := (chunksOf 4 (k.tx i).count (k.inp.getD i [])).map leNat

/-- The random number of element e of output j, where SR is set. -/
def rnd (j e : Nat) : Option Nat := if k.rec_.sr then some (srand k.env.seed (k.rec_.stream + j) k.env.step e) else none

/-- Dense bytes laid out at the rows of a tensor. -/
def lay (d : TDesc) (b : Bytes) : List (Nat × Bytes) :=
  (List.range d.rows).map fun r => (d.rowOff r, cut b (r * d.rowLen) d.rowLen)

/-- Output j is these values, converted. -/
def out (j : Nat) (d : TDesc) (v : List FVal) : List (Nat × Bytes) × Flags :=
  let (b, f) := encodeVals d.fmt v (k.rnd j)
  (lay d b, f)

/-- Outputs in order. -/
def outs (l : List (TDesc × List FVal)) : OpOut :=
  let r := ((List.range l.length).zip l).map fun p => (p.1, k.out p.1 p.2.1 p.2.2)
  .ok (r.map fun p => (p.1, p.2.1)) ((r.map fun p => p.2.2).foldl Flags.or Flags.none)

end OpCall

/-! ### Indexing -/

/-- The element of `v`, of shape `s`, that stands at flat position `e` of the broadcast shape `t`. -/
def bcastIdx : List Nat → List Nat → Nat → Nat
  | [], _, _ => 0
  | _, [], _ => 0
  | n :: s, m :: t, e => (if n = 1 then 0 else e % max 1 m) + n * bcastIdx s t (e / max 1 m)

/-- Values broadcast to a shape. -/
def bcast (s t : List Nat) (v : List FVal) : List FVal :=
  (List.range (t.foldl (· * ·) 1)).map fun e => v.getD (bcastIdx s.reverse t.reverse e) .nan

/-- Rows of n values. -/
def rowsOf (n : Nat) (v : List FVal) : List (List FVal) := (List.range (v.length / max 1 n)).map fun r => (v.drop (r * n)).take n

/-! ### Matrix products (R218, R220, R244) -/

/-- Do the operands run on the engine? -/
def onEngine (fa fb : Nat) : Bool := (isBlock fa || is16 fa) && (isBlock fb || is16 fb)

/-- C = A × B + C0 for A [m, k] and B [k, n]. -/
def matmul (engine : Bool) (m kk n : Nat) (a b c : List FVal) : List FVal :=
  (List.range (m * n)).map fun e =>
    let r := e / max 1 n
    let q := e % max 1 n
    let terms := (List.range kk).map fun i => (a.getD (r * kk + i) .nan, b.getD (i * n + q) .nan)
    let c0 := c.getD e .zero
    if engine then chunkedSum c0 (terms.map fun t => t.1.mul t.2)
    else terms.foldl (fun c t => fmaF t.1 t.2 c) c0

def transpose (m n : Nat) (v : List FVal) : List FVal := (List.range (m * n)).map fun e => v.getD (e % max 1 m * n + e / max 1 m) .nan

def matmulOp (k : OpCall) : OpOut :=
  let a := k.tx 0
  let b := k.tx 1
  let n := b.last
  let kk := a.last
  let m := a.shape.getD (a.rank - 2) 1
  let bt := if a.rank = 3 then a.shape.getD 0 1 else 1
  let eng := onEngine a.fmt b.fmt
  let va := if eng then k.exact 0 else k.vals 0
  let vb := if eng then k.exact 1 else k.vals 1
  let vc := if k.x.length < 3 then [] else k.vals 2
  let v := (List.range bt).flatMap fun i =>
    matmul eng m kk n ((va.drop (i * m * kk)).take (m * kk)) ((vb.drop (i * kk * n)).take (kk * n)) ((vc.drop (i * m * n)).take (m * n))
  k.outs [(k.ty 0, v)]

/-! ### Elementwise (R243) -/

def unaryFn (fn : Nat) (x : FVal) : FVal :=
  match fn with
  | 0 => x.neg | 1 => x.abs | 2 => sqrtF x | 3 => rsqrtF x | 4 => recipF x | 5 => expF x | 6 => logF x | 7 => tanhF x
  | 8 => sigmoidF x | 9 => siluF x | 10 => geluF x
  | _ => signF x

def binaryFn (fn : Nat) (a b : FVal) : FVal :=
  match fn with
  | 0 => addF a b | 1 => subF a b | 2 => mulF a b | 3 => divF a b | 4 => maxF a b
  | _ => minF a b

def bvals (k : OpCall) (i : Nat) : List FVal := bcast (k.tx i).shape (k.ty 0).shape (k.vals i)

def binaryOp (k : OpCall) : OpOut := k.outs [(k.ty 0, ((bvals k 0).zip (bvals k 1)).map fun p => binaryFn (k.attr 0) p.1 p.2)]

def fmaOp (k : OpCall) : OpOut :=
  k.outs [(k.ty 0, ((bvals k 0).zip ((bvals k 1).zip (bvals k 2))).map fun p => fmaF p.1 p.2.1 p.2.2)]

def selectOp (k : OpCall) : OpOut :=
  k.outs [(k.ty 0, ((bvals k 0).zip ((bvals k 1).zip (bvals k 2))).map fun p =>
    if p.1.isZero || p.1.isNan then p.2.2 else p.2.1)]

def reduceFn (fn : Nat) (l : List FVal) : FVal :=
  match fn with
  | 0 => longSum l
  | 1 => longSum (l.map fun x => x.mul x)
  | 2 => l.tail.foldl maxF (l.headD .nan)
  | 3 => l.tail.foldl minF (l.headD .nan)
  | _ => (l.map FVal.abs).tail.foldl maxF ((l.headD .nan).abs)

def reduceOp (k : OpCall) : OpOut := k.outs [(k.ty 0, (rowsOf (k.tx 0).last (k.vals 0)).map (reduceFn (k.attr 0)))]

/-- One row of SOFTMAX or LOGSOFTMAX (R245). -/
def softmaxRow (fn : Nat) (scale : FVal) (x mk : List FVal) : List FVal :=
  let z := ((List.range x.length).zip x).map fun p =>
    if (mk.getD p.1 .one).isZero then FVal.inf true else mulF scale p.2
  let m := z.foldl maxF (.inf true)
  let e := z.map fun v => if v = .inf true then .zero else expF (subF v m)
  let s := longSum e
  if fn = 0 then e.map fun v => divF v s else z.map fun v => subF (subF v m) (logF s)

def softmaxOp (k : OpCall) : OpOut :=
  let n := (k.tx 0).last
  let xs := rowsOf n (k.vals 0)
  let ms := if k.x.length < 2 then [] else rowsOf n (k.vals 1)
  k.outs [(k.ty 0, ((List.range xs.length).zip xs).flatMap fun p => softmaxRow (k.attr 0) (k.attrF 1) p.2 (ms.getD p.1 []))]

/-! ### Rows (R243, R255) -/

def gatherRowsOp (k : OpCall) : OpOut :=
  let n := (k.tx 0).last
  let r := (k.tx 0).shape.getD 0 0
  let ix := k.index 1
  let t := rowsOf n (k.vals 0)
  if ix.any (r ≤ ·) then .bad else k.outs [(k.ty 0, ix.flatMap fun i => t.getD i [])]

def scatterRowsOp (k : OpCall) : OpOut :=
  let n := (k.tx 0).last
  let d := k.tx 2
  let r := d.shape.getD 0 0
  let ix := k.index 1
  let xs := rowsOf n (k.vals 0)
  if ix.any (r ≤ ·) then .bad
  else
    let old := rowsOf n (k.vals 2)
    let rows := (List.range r).filter ix.contains
    let val (i : Nat) : List FVal :=
      let mine := (ix.zip xs).filter fun p => p.1 = i
      if k.attr 0 = 0 then (mine.getLast?.map Prod.snd).getD []
      else (List.range n).map fun c => chunkedSum ((old.getD i []).getD c .zero) (mine.map fun p => p.2.getD c .zero)
    let es := rows.map fun i =>
      let (b, f) := encodeVals d.fmt (val i) (fun e => k.rnd 0 (i * n + e))
      ((d.rowOff i, b), f)
    .ok [(0, es.map Prod.fst)] ((es.map Prod.snd).foldl Flags.or Flags.none)

/-- A row of GATHER (R255): the indices that are not padding. -/
def gatherRow (mean : Bool) (n : Nat) (t : List (List FVal)) (ix : List Nat) : List FVal :=
  let l := ix.filter (· ≠ 0xFFFFFFFF)
  (List.range n).map fun c =>
    let s := chunkedSum .zero (l.map fun i => (t.getD i []).getD c .zero)
    if mean ∧ l ≠ [] then divF s (r32 (.ofInt l.length)) else s

def gatherOp (k : OpCall) : OpOut :=
  let n := (k.tx 0).last
  let r := (k.tx 0).shape.getD 0 0
  let m := (k.tx 1).last
  let ix := k.index 1
  let t := rowsOf n (k.vals 0)
  if ix.any fun i => r ≤ i && i ≠ 0xFFFFFFFF then .bad
  else
    k.outs [(k.ty 0, (List.range (ix.length / max 1 m)).flatMap fun o => gatherRow (bit (k.attr 0) 0) n t ((ix.drop (o * m)).take m))]

/-! ### RNG (R246) -/

def rngOp (k : OpCall) : OpOut :=
  let d := k.ty 0
  let w (e : Nat) : Nat := (philox k.env.seed (e / 4) k.rec_.stream k.env.step).getD (e % 4) 0
  if k.attr 0 = 0 then k.outs [(d, (List.range d.count).map fun e => .fin false (w e / 256) (-24))]
  else .ok [(0, OpCall.lay d ((List.range d.count).flatMap fun e => toLe 4 (w e)))] Flags.none

def transposeOp (k : OpCall) : OpOut :=
  let d := k.tx 0
  let n := d.last
  let m := d.shape.getD (d.rank - 2) 1
  k.outs [(k.ty 0, (rowsOf (m * n) (k.vals 0)).flatMap (transpose m n))]

/-! ### Built-in kernels -/

/-- REDUCE.FINISH (R248). -/
def finishOp (k : OpCall) : OpOut :=
  k.outs [(k.ty 0, (k.exact 0).map fun x => r32 ((x.scale (-(k.env.frac : Int))).mul (k.attrF 0)))]

def f64 : Fmt := ⟨11, 52⟩
def r64 (v : FVal) : FVal := f64.dec (f64.enc v)

/-- bias(b, t) of R249. -/
def biasPow (b : FVal) : List Bool → FVal → FVal
  | [], r => r
  | x :: l, r =>
    let r := r64 (r.mul r)
    biasPow b l (if x then r64 (r.mul b) else r)

def biasF (b : FVal) (t : Nat) : FVal :=
  let bs := (List.range (Nat.log2 t + 1)).reverse.map t.testBit
  r32 (r64 (FVal.one.add (biasPow b bs .one).neg))

/-- OPT.ADAMW (R249). -/
def adamwOp (k : OpCall) : OpOut :=
  if k.env.step = 0 then .bad
  else
    let lr := k.attrF 0
    let b1 := k.attrF 1
    let b2 := k.attrF 2
    let eps := k.attrF 3
    let wd := k.attrF 4
    let c1 := biasF b1 k.env.step
    let c2 := biasF b2 k.env.step
    let r := ((k.vals 0).zip (k.vals 1)).zip ((k.vals 2).zip (k.vals 3)) |>.map fun q =>
      let p := q.1.1
      let g := q.1.2
      let m := addF (mulF b1 q.2.1) (mulF (subF .one b1) g)
      let v := addF (mulF b2 q.2.2) (mulF (mulF (subF .one b2) g) g)
      let d := divF (divF m c1) (addF (sqrtF (divF v c2)) eps)
      (subF p (mulF lr (addF d (mulF wd p))), m, v)
    k.outs [(k.tx 0, r.map fun x => x.1), (k.tx 2, r.map fun x => x.2.1), (k.tx 3, r.map fun x => x.2.2)]

/-- OPT.SIGN (R250). -/
def signOp (k : OpCall) : OpOut :=
  let lr := k.attrF 0
  let b1 := k.attrF 1
  let b2 := k.attrF 2
  let wd := k.attrF 3
  let r := ((k.vals 0).zip ((k.vals 1).zip (k.vals 2))).map fun q =>
    let p := q.1
    let g := q.2.1
    let mo := q.2.2
    let c := addF (mulF b1 mo) (mulF (subF .one b1) g)
    (subF p (mulF lr (addF (signF c) (mulF wd p))), addF (mulF b2 mo) (mulF (subF .one b2) g))
  k.outs [(k.tx 0, r.map Prod.fst), (k.tx 2, r.map Prod.snd)]

/-- One step of the iteration of R251 on x [m, n]. `w`: conversion to W, by stage. -/
def orthoStep (eng : Bool) (w : Nat → List FVal → List FVal) (ca cb cc : FVal) (m n i : Nat) (x : List FVal) : List FVal :=
  let a := w (5 * i + 1) (matmul eng m n m x (transpose m n x) [])
  let aa := w (5 * i + 2) (matmul eng m m m a a [])
  let q := w (5 * i + 3) ((a.zip aa).map fun p => addF (mulF cb p.1) (mulF cc p.2))
  let qx := w (5 * i + 4) (matmul eng m m n q x [])
  w (5 * i + 5) ((x.zip qx).map fun p => addF (mulF ca p.1) p.2)

/-- Values converted to W: binary32, or bfloat16, stochastically where SR is set (R222; log entry 63). -/
def OpCall.orthoConv (k : OpCall) (wide : Bool) (stage : Nat) (l : List FVal) : List FVal :=
  ((List.range l.length).zip l).map fun p =>
    if wide then r32 p.2
    else bf16.dec (roundFmt bf16 p.2
      (if k.rec_.sr then some (Config.orthoRand k.env.seed k.rec_.stream k.env.step stage p.1).toNat else none))

/-- OPT.ORTHO (R251). -/
def orthoOp (k : OpCall) : OpOut :=
  let m := (k.tx 0).shape.getD 0 0
  let n := (k.tx 0).last
  let lr := k.attrF 0
  let mu := k.attrF 1
  let wd := k.attrF 2
  let eps := k.attrF 3
  let sc := k.attrF 4
  let fl := k.attr 9
  let co (i d : Nat) : FVal := if bit fl 1 then f32.dec d else k.attrF i
  let ca := co 5 0x3FF00000
  let cb := co 6 0xBFA00000
  let cc := co 7 0x3EC00000
  let steps := if k.attr 8 = 0 then 5 else k.attr 8
  let wide := bit fl 2
  let w := k.orthoConv wide
  let b := ((k.vals 2).zip (k.vals 1)).map fun p => addF (mulF mu p.1) p.2
  let u := if bit fl 0 then ((k.vals 1).zip b).map fun p => addF p.1 (mulF mu p.2) else b
  let nrm := addF (sqrtF (longSum (u.map fun x => x.mul x))) eps
  let x := w 0 (u.map fun v => divF v nrm)
  let tr := n < m
  let x := if tr then transpose m n x else x
  let x := (List.range steps).foldl (fun x i => orthoStep (!wide) w ca cb cc (min m n) (max m n) i x) x
  let x := if tr then transpose n m x else x
  let p := ((k.vals 0).zip x).map fun q => subF q.1 (mulF lr (addF (mulF sc q.2) (mulF wd q.1)))
  k.outs [(k.tx 0, p), (k.tx 2, b)]

/-- QUANT and DEQUANT (R252): conversion of the exact values. -/
def quantOp (k : OpCall) : OpOut := k.outs [(k.ty 0, k.exact 0)]

/-- EXPAND (R253). -/
def expandOp (k : OpCall) : OpOut :=
  let r := (k.tx 0).shape.getD 0 0
  k.outs [(k.ty 0, matmul true r (k.tx 1).last (k.tx 0).last (k.exact 1) (k.exact 2) (k.vals 0))]

/-- State of a query head in ATTEND (R254): m, l, acc. -/
def attendChunk (scale : FVal) (q : List FVal) (ks vs : List (List FVal)) (st : FVal × FVal × List FVal) : FVal × FVal × List FVal :=
  let (m, l, acc) := st
  let s := ks.map fun kt => mulF scale (chunkedSum .zero ((q.zip kt).map fun p => p.1.mul p.2))
  let mj := maxF m (s.tail.foldl maxF (s.headD .nan))
  let alpha := if m = .inf true then FVal.zero else expF (subF m mj)
  let p := s.map fun v => expF (subF v mj)
  let l := addF (mulF alpha l) (chunkedSum .zero p)
  let acc := ((List.range acc.length).zip acc).map fun a =>
    addF (mulF alpha a.2) (chunkedSum .zero ((p.zip vs).map fun x => x.1.mul (x.2.getD a.1 .zero)))
  (mj, l, acc)

def attendLoop (scale : FVal) (q : List FVal) : Nat → List (List FVal) → List (List FVal) → FVal × FVal × List FVal → FVal × FVal × List FVal
  | 0, _, _, st => st
  | n + 1, ks, vs, st => attendLoop scale q n (ks.drop 32) (vs.drop 32) (attendChunk scale q (ks.take 32) (vs.take 32) st)

def attendOp (k : OpCall) : OpOut :=
  let d := (k.tx 0).last
  let hq := (k.tx 0).shape.getD 1 0
  let bt := (k.tx 0).shape.getD 0 0
  let hkv := (k.tx 1).shape.getD 1 0
  let t := (k.tx 1).shape.getD 2 0
  let tl := k.attr 1
  let g := k.attr 2
  let qs := rowsOf d (k.vals 0)
  let ks := rowsOf d (k.vals 1)
  let vs := rowsOf d (k.vals 2)
  let v := (List.range (bt * hq)).flatMap fun i =>
    let at_ := (i / max 1 hq * hkv + i % max 1 hq / max 1 g) * t
    let r := attendLoop (k.attrF 0) (qs.getD i []) (cdiv tl 32) ((ks.drop at_).take tl) ((vs.drop at_).take tl)
      (.inf true, .zero, List.replicate d .zero)
    r.2.2.map fun a => divF a r.2.1
  k.outs [(k.ty 0, v)]

/-- DIGEST (R256). -/
def digestOp (k : OpCall) : OpOut := .ok [(0, OpCall.lay (k.ty 0) (sha384 (k.inp.getD 0 [])))] Flags.none

/-- The bin of a finite value (R257). -/
def statBin (lo hi x : FVal) : Nat :=
  let d := x.add lo.neg
  if d.isNeg then 0
  else
    match d, hi.add lo.neg with
    | .fin _ m e, .fin _ n f =>
      let z := min e f
      min 63 (64 * (m * 2 ^ (e - z).toNat) / max 1 (n * 2 ^ (f - z).toNat))
    | _, _ => 0

/-- The 320 bytes of a STATS record. -/
def statsRecord (lo hi : FVal) (v : List FVal) : Bytes :=
  let real := v.filter fun x => !x.isNan
  let fin := real.filter fun x => !x.isInf
  let e (x : FVal) : Bytes := toLe 4 (f32.enc x)
  let mean := if fin = [] then .nan else divF (longSum fin) (r32 (.ofInt fin.length))
  let amax := fin.foldl (fun a x => maxF a x.abs) .zero
  let bins := fin.map (statBin lo hi)
  let cnt (n : Nat) : Bytes := toLe 8 (min n (2 ^ 64 - 1))
  e (real.foldl minF (.inf false)) ++ e (real.foldl maxF (.inf true)) ++ e mean ++ e amax ++ cnt v.length ++
    cnt (v.filter FVal.isNan).length ++ cnt (v.filter (· = .inf false)).length ++ cnt (v.filter (· = .inf true)).length ++ zeros 16 ++
    (List.range 64).flatMap fun b => toLe 4 (min (bins.filter (· = b)).length (2 ^ 32 - 1))

def statsOp (k : OpCall) : OpOut := .ok [(0, OpCall.lay (k.ty 0) (statsRecord (k.attrF 0) (k.attrF 1) (k.vals 0)))] Flags.none

/-! ### Evaluation -/

def evalOp (k : OpCall) : OpOut :=
  match k.rec_.code with
  | 0x001 => matmulOp k
  | 0x002 => k.outs [(k.ty 0, (k.vals 0).map (unaryFn (k.attr 0)))]
  | 0x003 => binaryOp k
  | 0x004 => fmaOp k
  | 0x005 => selectOp k
  | 0x006 => k.outs [(k.ty 0, k.vals 0)]
  | 0x007 => reduceOp k
  | 0x008 => softmaxOp k
  | 0x009 => gatherRowsOp k
  | 0x00A => scatterRowsOp k
  | 0x00B => rngOp k
  | 0x00C => transposeOp k
  | 0x00D => .ok [] Flags.none
  | 0x100 => finishOp k
  | 0x101 => adamwOp k
  | 0x102 => signOp k
  | 0x103 => orthoOp k
  | 0x104 => quantOp k
  | 0x105 => quantOp k
  | 0x106 => expandOp k
  | 0x107 => attendOp k
  | 0x108 => gatherOp k
  | 0x109 => digestOp k
  | 0x10A => statsOp k
  | _ => .bad

/-- The rows of input i that an operation reads; `ix`: the index tensor's values, where the rows depend on them. None: not known yet. -/
def rowsRead (o : OpRec) (x : List TDesc) (a : List Nat) (i : Nat) (ix : Option (List Nat)) : Option (List Nat) :=
  let d := x.getD i OpCall.nil
  let all := List.range d.rows
  match o.code, i with
  | 0x009, 0 | 0x108, 0 => ix.map fun l => all.filter l.contains
  | 0x00A, 2 => ix.map fun l => if a.getD 0 0 = 0 then [] else all.filter l.contains
  | 0x107, 1 | 0x107, 2 => some (all.filter fun r => r % max 1 (d.shape.getD 2 1) < a.getD 1 0)
  | _, _ => some all

/-- Which input holds the indices that choose rows of another. -/
def indexInput (code : Nat) : Option Nat := if code = 0x009 ∨ code = 0x00A ∨ code = 0x108 then some 1 else none

end Sys2Proof.Machine
end

