-- ==== Sys2Proof/Machine/Access.lean ====
section
/-! DEFINITION. The device's own pool accesses (R208, R265, R266): reading and writing a range of a context line by line, the transfer
buffer, and arguments and results by reference. -/

namespace Sys2Proof.Machine

/-! ### Ranges, line by line -/

/-- The pieces of a byte range that lie each in one line: address and length. -/
def linePieces : Nat → Nat → Nat → List (Nat × Nat)
  | 0, _, _ => []
  | n + 1, a, len =>
    if len = 0 then []
    else
      let k := min len (128 - a % 128)
      (a, k) :: linePieces n (a + k) (len - k)

def rangePieces (a len : Nat) : List (Nat × Nat) := linePieces (len / 128 + 2) a len

/-- The access of an agent at an address. -/
def State.accAt (s : State) (ag : Agent) (op a : Nat) : Option Acc :=
  s.work.accs.find? fun x => x.agent = ag && x.op = op && x.addr = a

/-- An access is begun and runs as far as it can. -/
def beginAcc (ag : Agent) (op : Nat) (h : Option W16) (a len : Nat) (data : Bytes) (s : State) : State :=
  let (x, s) := newAcc ag op h a len data s
  memPump 8 (startAcc x s)

/-- What became of a set of accesses: nothing yet, or the status of the first that failed and the data of all. -/
abbrev Gathered := Option (Byte × Bytes)

/-- The accesses of an agent at these places: their outcome once all are done. -/
def State.outcome (s : State) (ag : Agent) (op : Nat) (l : List (Nat × Nat)) : Gathered :=
  let xs := l.map fun p => s.accAt ag op p.1
  if xs.all fun x => x.any fun a => a.st = 3 then
    let as := xs.filterMap id
    match as.find? fun a => a.status ≠ stOK with
    | some a => some (a.status, [])
    | none => some (stOK, as.flatMap fun a => padTo a.len a.res)
  else none

/-- The finished accesses of an agent are dropped. -/
def dropAccs (ag : Agent) (s : State) : State :=
  { s with work := { s.work with accs := s.work.accs.filter fun a => a.agent ≠ ag || a.st ≠ 3 } }

/-- Every access of an agent is forgotten; answers still to come find nothing. -/
def killAccs (ag : Agent) (s : State) : State :=
  { s with work := { s.work with accs := s.work.accs.filter fun a => a.agent ≠ ag } }

/-- A range is read with operation `op`; the outcome once every line has answered. -/
def gather (ag : Agent) (op : Nat) (h : Option W16) (a len : Nat) (s : State) : Gathered × State :=
  let l := rangePieces a len
  let s := l.foldl (fun s p => if (s.accAt ag op p.1).isSome then s else beginAcc ag op h p.1 p.2 [] s) s
  (s.outcome ag op l, s)

/-- The operation that writes a piece of a line: WR_LINE for a whole line, else WR_PART. -/
def writeOp (len : Nat) : Nat := if len = 128 then 5 else 6

/-- Bytes are written to a range of a context; the outcome once every line has answered. -/
def scatter (ag : Agent) (h : Option W16) (a : Nat) (b : Bytes) (s : State) : Gathered × State :=
  let l := rangePieces a b.length
  let s := l.foldl (fun s p =>
    if (s.accAt ag (writeOp p.2) p.1).isSome then s else beginAcc ag (writeOp p.2) h p.1 p.2 (cut b (p.1 - a) p.2) s) s
  let r5 := s.outcome ag 5 (l.filter fun p => p.2 = 128)
  let r6 := s.outcome ag 6 (l.filter fun p => p.2 ≠ 128)
  (match r5, r6 with
   | some (x, _), some (y, _) => some (if x ≠ stOK then x else y, [])
   | _, _ => none, s)

/-! ### The transfer buffer (R266) -/

def xferSize : Nat := 524288

/-- The bytes a by-reference field of a device administrator names, if they lie inside the buffer. -/
def xferRange (ca len : Nat) : Option Nat :=
  let off := ca % 2 ^ 19
  if bit ca 63 ∧ off + len ≤ xferSize then some off else none

def State.xferGet (s : State) (off len : Nat) : Bytes := (List.range len).map fun i => s.work.xfer.get 0 (off + i)

def xferPut (off : Nat) (b : Bytes) (s : State) : State :=
  { s with work := { s.work with xfer := ((List.range b.length).zip b).foldl (fun m x => m.put 0 (off + x.1) x.2) s.work.xfer } }

/-! ### Arguments and results by reference (R265, R266) -/

/-- A by-reference argument of a command: from the transfer buffer for an administrator, from the issuer's context otherwise. -/
def argRead (n : Nat) (h : CmdHdr) (ca len : Nat) (s : State) : Gathered × State :=
  match s.classOf h.iss with
  | .da =>
    match xferRange ca len with
    | some off => (some (stOK, s.xferGet off len), s)
    | none => (some (stBAD_DESCRIPTOR, []), s)
  | .ta _ | .host _ | .nobody => gather (.cmd n) 1 (some h.handle) ca len s

/-- A by-reference result of a command. -/
def resWrite (n : Nat) (h : CmdHdr) (ca : Nat) (b : Bytes) (s : State) : Gathered × State :=
  match s.classOf h.iss with
  | .da =>
    match xferRange ca b.length with
    | some off => (some (stOK, []), xferPut off b s)
    | none => (some (stBAD_DESCRIPTOR, []), s)
  | .ta _ | .host _ | .nobody => scatter (.cmd n) (some h.handle) ca b s

/-- A command that works by reference is taken up, under a number of its own. -/
def cmdOpen (c : Instr) (s : State) : Nat × State :=
  let n := (s.work.cmds.map fun w => w.n).foldl max 0 + 1
  (n, { s with work := { s.work with cmds := s.work.cmds ++ [⟨n, c⟩] } })

/-- The command is over. -/
def cmdClose (n : Nat) (s : State) : State :=
  dropAccs (.cmd n) { s with work := { s.work with cmds := s.work.cmds.filter fun w => w.n ≠ n } }

/-! ### Common checks of commands (R43, R263, R487) -/

/-- The context that HANDLE names, for a tenant's command: another tenant's is NO_ACCESS, none at all conflicts with FREE. -/
def ownCtx (h : CmdHdr) (cmd : Nat) (t : TenantId) (f : Ctx → State → State) (s : State) : State :=
  match s.liveCtx h.handle with
  | none => replyConflict h cmd 0 s
  | some c => if c.tenant ≠ t then replySt h cmd stNO_ACCESS s else f c s

/-- May a by-reference command read and write through HANDLE: the context is the issuer's tenant's. -/
def State.refOk (s : State) (h : CmdHdr) : Bool :=
  match s.classOf h.iss with
  | .da => true
  | .ta t | .host t => (s.liveCtx h.handle).any fun c => c.tenant = t
  | .nobody => false

end Sys2Proof.Machine
end

