-- ==== Sys2Proof/Machine/RedCmds.lean ====
section
/-! DEFINITION. Generations of a reduction region across its members (R180 to R183, R189, R190), materialised results and their
invalidation (R196 to R198), triggers (R275, R276), and the commands of R199. -/

namespace Sys2Proof.Machine

/-! ### Who is active (R379, R380) -/

/-- The active devices of the stack: this one, and those the stack map shows active. -/
def State.activeIds (s : State) : List W16 :=
  s.myId :: ((List.range 32).filter fun p => p ≠ s.spn.pos && (s.spn.map.getD p 0).toNat % 4 = 1).map s.idOf

/-- Is a source the device of member entry m: by its ID or as a member of the pair the entry names? -/
def State.isMemberSrc (s : State) (g : Region) (m : Nat) (src : W16) : Bool :=
  let id := g.memberId m
  id = src.toNat || (s.isDevice src && id = s.stackId * 64 + 0x20 + src.toNat % 64 / 2) || (s.isMe src.toNat && s.isPair id)

def State.memberIdx (s : State) (g : Region) (src : W16) : Option Nat := (List.range g.members).find? fun m => s.isMemberSrc g m src

/-- Is this device the coordinator, or member 0, of a region (R180, R199)? -/
def State.coordinates (s : State) (g : Region) : Bool := s.isMe (g.memberId 0)

/-! ### State lines (R180, R186) -/

/-- The member state line of a durable region is journalled; the page it stands in. -/
def journalState (n : Nat) (s : State) : List (Nat × Nat) × State :=
  match s.region n with
  | some g =>
    match s.memberOf g with
    | some m => journalLines (s.homeSlice g.tenant (g.b0 m)) n g [] [stateRec n g.gen] s
    | none => ([], s)
  | none => ([], s)

def State.updGen (s : State) (n : Nat) (f : GenSt → GenSt) : State := s.updRegion n fun g => { g with gen := f g.gen }

/-! ### Reports and closes at a member (R182, R183) -/

/-- The completion report of a member goes to the coordinator. -/
def sendReport (n : Nat) (g : Region) (m : Nat) (s : State) : State :=
  let x := g.gen
  let short := if x.closed then g.ruCount m - x.ruDone else 0
  let body := toLe 2 n ++ [0, 0] ++ toLe 4 x.gOpen ++ toLe 4 short ++ [byte (b2n x.accSat + 2 * b2n x.accNan), 0, 0, 0]
  coordSend (w16 (g.memberId 0)) 6 body none n (s.updGen n fun x => { x with reported := true })

/-- Every member generation that has completed or closed and has not been reported is reported. -/
def sendReports (s : State) : State :=
  s.rgn.tab.foldl (fun s e =>
    if e.2.kind = 2 ∧ e.2.gen.st = 9 ∧ !e.2.gen.reported then
      match s.region e.1, s.memberOf e.2 with
      | some g, some m => sendReport e.1 g m s
      | _, _ => s
    else s) s

/-- RED_CLOSE at a member: later contributions of the generation are stale, and it reports (R183). -/
def closeRx (n gen : Nat) (s : State) : State :=
  match s.region n with
  | some g =>
    if g.kind = 2 ∧ g.gen.gOpen = gen ∧ g.gen.st = 8 then
      (journalState n (s.updGen n fun x => { x with closed := true, st := 9, reported := false })).2
    else s
  | none => s

/-! ### Completion at the coordinator (R182, R183, R189) -/

/-- The incomplete RUs of all reports. -/
def GenSt.short (x : GenSt) : Nat := (x.reports.map fun r => r.2.1).sum

/-- A report reaches the coordinator; the last one begins the completion. -/
def reportRx (n : Nat) (src : W16) (gen short flags : Nat) (s : State) : State :=
  match s.region n with
  | none => s
  | some g =>
    let x := g.gen
    match s.memberIdx g src with
    | none => s
    | some m =>
      if g.kind ≠ 2 ∨ !s.coordinates g ∨ gen ≠ x.gOpen ∨ x.phase ≠ 0 ∨ x.st = 0xA then s
      else
        let x := { x with reports := (x.reports.filter fun r => r.1 ≠ m) ++ [(m, short, flags)] }
        if x.reports.length < g.members then s.setRegion n { g with gen := x }
        else
          let inc := x.short ≠ 0
          let or_ (i : Nat) : Bool := x.reports.any fun r => bit r.2.2 i
          let fl := 1 + 2 * b2n inc + 4 * b2n (or_ 0) + 8 * b2n (or_ 1)
          let s := s.setRegion n { g with gen := { x with phase := 1, cGen := gen, cFlags := fl, fired := false,
                                                          doneWait := List.range g.members } }
          let s := if inc then
              logEv ⟨6, if x.closeBy = 1 then .timeout else .state, n, 0, 0, 9, g.tenant.val, toLe 4 gen ++ toLe 4 x.short⟩ s
            else s
          let (p, s) := if g.durable then
              journalLines (s.homeSlice g.tenant (g.b0 ((s.memberOf g).getD 0))) n g []
                [stateRec n { x with gDone := gen, doneValid := true, incomplete := inc, sat := or_ 0, nan := or_ 1, fired := false }] s
            else ([], s)
          s.updGen n fun x => { x with jw := p }

/-- The computed regions that name a region as a source their recipe needs (R198). -/
def State.dependents (s : State) (n : Nat) : List (Nat × Region) :=
  s.rgn.tab.filter fun e => e.2.st ≠ 0 && e.2.kind = 3 && (e.2.src 0 = n || e.2.src 1 = n || e.2.src 2 = n)

/-- A source's content has advanced: every member of every dependent computed region is told (R198). -/
def sendInval (n : Nat) (h : Option CmdHdr) (s : State) : State :=
  let cgen := match s.region n with | some g => g.cgen | none => 0
  (s.dependents n).foldl (fun s e =>
    (List.range e.2.members).foldl (fun s m =>
      coordSend (w16 (e.2.memberId m)) 9 (toLe 2 e.1 ++ toLe 2 n ++ toLe 4 cgen) h n s) s) s

/-- Is something sent under a subop for a region still unacknowledged? -/
def State.unacked (s : State) (subop n : Nat) (h : Option CmdHdr) : Bool :=
  s.coord.sent.any fun t => t.subop = subop && t.region = n && t.h = h

def advanceGen (n : Nat) (s : State) : State := s.updRegion n fun g => { g with cgen := (g.cgen + 1) % 2 ^ 32 }

/-- The raise of a generation's trigger goes to every active device; a trigger whose context is gone is dropped (R189). -/
def fireTrigger (n : Nat) (g : Region) (gen fl : Nat) (s : State) : State :=
  if !g.trigEn then s
  else if (s.liveCtx (w16 g.trigCtx)).isNone then logEv ⟨6, .refused, n, 0, 0, 0, g.tenant.val, toLe 4 gen⟩ s
  else
    s.activeIds.foldl (fun s d =>
      coordSend d 5 (toLe 2 g.trigCtx ++ [byte g.trigTag, byte fl] ++ toLe 2 n ++ [0, 0] ++ toLe 4 gen) none n s) s

/-- One region's completion takes its next step, if what it waits for has come (R182). -/
def genStep (n : Nat) (s : State) : State :=
  match s.region n with
  | none => s
  | some g =>
    let x := g.gen
    match x.phase with
    | 1 =>
      if x.jw.all fun p => s.pageOk p.1 p.2 then sendInval n none (advanceGen n (s.updGen n fun x => { x with phase := 2, jw := [] })) else s
    | 2 =>
      if s.unacked 9 n none then s
      else
        let s := s.updGen n fun x => { x with phase := 3 }
        (List.range g.members).foldl (fun s m =>
          coordSend (w16 (g.memberId m)) 8
            (toLe 2 n ++ [0, 0] ++ toLe 4 x.cGen ++ toLe 2 x.nNext ++ [byte x.cFlags, byte (b2n g.auto)]) none n s) s
    | 3 =>
      if x.doneWait = [] then
        let s := fireTrigger n g x.cGen x.cFlags (s.updGen n fun x => { x with phase := 0, fired := true })
        (journalState n s).2
      else s
    | _ => s

def genSteps (s : State) : State := s.rgn.tab.foldl (fun s e => if e.2.gen.phase ≠ 0 then genStep e.1 s else s) s

/-- A generation opens at a member (R181, R182, R199). -/
def openGen (gen n : Nat) (now : Nat) (x : GenSt) : GenSt :=
  { x with st := 8, gOpen := gen, nOpen := n, nNext := n, ruDone := 0, accSat := false, accNan := false, closed := false,
           reported := false, openAt := now, reports := [], closeBy := 0 }

/-- RED_DONE at a member: the generation is done, and the next opens or none does (R182). -/
def doneRx (n gen nNext flags auto : Nat) (s : State) : State :=
  match s.region n with
  | none => s
  | some g =>
    if g.kind ≠ 2 ∨ gen ≠ g.gen.gOpen ∨ g.gen.st = 0xA then s
    else
      let s := if s.coordinates g then s else advanceGen n s
      let s := s.updGen n fun x =>
        let x := { x with gDone := gen, doneValid := bit flags 0, incomplete := bit flags 1, sat := bit flags 2, nan := bit flags 3,
                          nNext := nNext }
        if auto = 1 then openGen (nextGen gen) nNext s.time.nclk x else { x with st := 0xA, reports := [], closeBy := 0 }
      (journalState n s).2

/-- GEN_DONE_RESEND: the done message goes again, as it was, to a member that has not acknowledged it (R182, R381). -/
def doneResend (n : Nat) (member : W16) (s : State) : State :=
  match s.coord.sent.find? fun t => t.subop = 8 && t.region = n && t.dest = member with
  | some t => coordOut t.dest none ([8, 0, 0, 0] ++ toLe 4 t.xid.toNat ++ t.body) s
  | none => s

/-- A member acknowledges RED_DONE. -/
def doneAcked (n : Nat) (dest : W16) (s : State) : State :=
  match s.region n with
  | some g => s.updGen n fun x => { x with doneWait := x.doneWait.filter fun m => g.memberId m ≠ dest.toNat }
  | none => s

/-- The coordinator closes the open generation (R183). -/
def sendClose (n : Nat) (g : Region) (h : Option CmdHdr) (by_ : Nat) (s : State) : State :=
  let s := s.updGen n fun x => { x with closeBy := if x.closeBy = 0 then by_ else x.closeBy }
  (List.range g.members).foldl (fun s m =>
    coordSend (w16 (g.memberId m)) 7 (toLe 2 n ++ [0, 0] ++ toLe 4 g.gen.gOpen) h n s) s

/-- RED_CLOSE_TIMER: CLOSE_MS has passed since the generation opened at the coordinator. -/
def closeTimer (n : Nat) (s : State) : State :=
  match s.region n with
  | some g =>
    if g.kind = 2 ∧ g.st = 1 ∧ s.coordinates g ∧ g.closeMs ≠ 0 ∧ (g.gen.st = 8 ∨ g.gen.st = 9) ∧ g.gen.phase = 0 ∧ g.gen.closeBy = 0 then
      sendClose n g none 1 (advanceTo (g.gen.openAt + msec g.closeMs) s)
    else s
  | none => s

/-! ### Triggers (R275, R276) -/

/-- A raise is applied at this device. -/
def raiseRx (handle : W16) (tag flags : Nat) (region : W16) (gen : W32) (s : State) : State :=
  match s.liveCtx handle with
  | some c =>
    let old := (c.trigs.get ⟨0, 0, 0, 0⟩ tag).count
    let c := { c with trigs := c.trigs.put ⟨0, 0, 0, 0⟩ tag ⟨old + 1, gen, region, byte flags⟩ }
    { s with ctx := { s.ctx with tab := s.ctx.tab.ins (ctxIndex handle) c } }
  | none => s

/-! ### Materialised results (R197, R198) -/

/-- MAT_EPOCH of a computed region rises at this member. -/
def matBump (n : Nat) (s : State) : State := s.updRegion n fun g => { g with matEpoch := (g.matEpoch + 1) % 2 ^ 32 }

/-- MAT_INVAL at a member (R198); the counter is that of the quarter homing output block 0 of its share. -/
def matInvalRx (n source cgen : Nat) (s : State) : State :=
  match s.region n with
  | some g =>
    match s.memberOf g with
    | some m =>
      let s := (matBump n s).count .MAT_INVAL_CNT (s.homeSlice g.tenant (g.b0 m) / 4)
      s.updRegion source fun x => { x with cgen := cgen }
    | none => s
  | none => s

/-! ### Forwarding (R199, R379, R381) -/

/-- A command block of R264. -/
def cmdBlock (cmd : Nat) (h : CmdHdr) (args : Bytes) : Bytes :=
  [0, 0, 1, 0] ++ toLe 2 cmd ++ toLe 2 args.length ++ toLe 4 h.seq.toNat ++ toLe 2 h.handle.toNat ++ [h.queue, 0] ++ args

/-- A command goes on in a CMD_FWD message. `region`: 0 to be executed there, else the region whose members are to apply it. -/
def forwardCmd (dst : W16) (cmd : Nat) (h : CmdHdr) (args : Bytes) (region : Nat) (s : State) : State :=
  let src := match h.iss with | .ep a => a | .fwd _ _ a => a | .bmc | .rgnCmd _ | .slotCmd _ | .hwdCmd => s.myId
  coordSend dst 4 (toLe 2 src.toNat ++ [0, 0] ++ cmdBlock cmd h args) (some h) region s

/-! ### The commands of R199 -/

/-- The status that refuses a command of R199 at its coordinator, with a state code: form, kind, states, in the order of R487. -/
def State.redRefuse (s : State) (code n arg : Nat) : Option (Byte × Nat) :=
  if 4095 < n then some (stBAD_DESCRIPTOR, 0)
  else
    match s.region n with
    | none => some (stSTATE_CONFLICT, 0)
    | some g =>
      let x := g.gen
      let kindOk := if code = 4 then g.kind ≤ 1 else if code = 5 then g.kind = 3 else g.kind = 2
      if g.st = 0 then some (stSTATE_CONFLICT, 0)
      else if !kindOk then some (stBAD_DESCRIPTOR, 0)
      else if (code = 1 ∨ code = 3) ∧ (arg = 0 ∨ g.nMax < arg) then some (stBAD_DESCRIPTOR, 0)
      else if !(g.st = 1 ∨ (4 ≤ code ∧ g.st = 2)) then some (stSTATE_CONFLICT, g.st)
      else if code = 1 ∧ x.st ≠ 0xA then some (stSTATE_CONFLICT, x.st)
      else if code = 2 ∧ x.st ≠ 8 then some (stSTATE_CONFLICT, x.st)
      else if code = 3 ∧ x.st = 0xA then some (stSTATE_CONFLICT, x.st)
      else none

/-- RED_OPEN, RED_NEXT_N and MAT_DROP take effect at a member. -/
def redApply (code n arg : Nat) (s : State) : State :=
  match s.region n with
  | none => s
  | some g =>
    match code with
    | 1 =>
      if g.gen.st ≠ 0xA then s
      else
        let gen := if g.gen.doneValid then nextGen g.gen.gDone else g.genFirst
        (journalState n (s.updGen n (openGen gen arg s.time.nclk))).2
    | 3 => (journalState n (s.updGen n fun x => { x with nNext := arg })).2
    | 5 => if (s.memberOf g).isSome then matBump n s else s
    | _ => s

/-- A command of R199 is executed by the coordinator; it is answered once every member has applied it. -/
def redExec (h : CmdHdr) (code n arg : Nat) (s : State) : State :=
  let cmd := 0x210 + code
  match s.redRefuse code n arg with
  | some (st, c) => reply h cmd st c 0 [] s
  | none =>
    match s.region n with
    | none => replyConflict h cmd 0 s
    | some g =>
      match code with
      | 2 => sendClose n g (some h) 2 s
      | 4 =>
        let s := sendInval n (some h) (advanceGen n s)
        if s.unacked 9 n (some h) then s else replyOk h cmd [] s
      | _ =>
        let s := redApply code n arg s
        let others := (List.range g.members).filter fun m => !s.isMe (g.memberId m)
        if others = [] then replyOk h cmd [] s
        else others.foldl (fun s m => forwardCmd (w16 (g.memberId m)) cmd h (toLe 2 n ++ toLe 2 arg) n s) s

/-- A command of R199 as it arrives: executed at the coordinator, applied where the coordinator sends it, else forwarded. -/
def redCmd (h : CmdHdr) (code : Nat) (region arg : W16) (s : State) : State :=
  let n := region.toNat
  let cmd := 0x210 + code
  let body (s : State) : State :=
    match s.region n with
    | none => reply h cmd (if 4095 < n then stBAD_DESCRIPTOR else stSTATE_CONFLICT) 0 0 [] s
    | some g =>
      if s.coordinates g then redExec h code n arg.toNat s
      else
        match h.iss with
        | .fwd dev _ _ =>
          if s.isMemberSrc g 0 dev then replyOk h cmd [] (redApply code n arg.toNat s)
          else forwardCmd (w16 (g.memberId 0)) cmd h (toLe 2 n ++ toLe 2 arg.toNat) 0 s
        | .ep _ | .bmc | .rgnCmd _ | .slotCmd _ | .hwdCmd => forwardCmd (w16 (g.memberId 0)) cmd h (toLe 2 n ++ toLe 2 arg.toNat) 0 s
  match h.iss, s.classOf h.iss with
  | .rgnCmd _, _ => body s
  | .fwd _ _ _, .da => body s
  | _, .ta t => if (s.region n).any fun g => g.tenant ≠ t then replySt h cmd stNO_ACCESS s else body s
  | _, _ => replySt h cmd stNO_ACCESS s

/-- An acknowledgement of what served a command of R199 has come: with the last, the command is answered. -/
def redAcked (t : CoordTx) (s : State) : State :=
  match t.h with
  | none => s
  | some h =>
    if s.coord.sent.any fun x => x.subop = t.subop && x.region = t.region && x.h = t.h then s
    else
      match t.subop with
      | 7 => replyOk h 0x212 [] s
      | 9 => replyOk h 0x214 [] s
      | _ => replyOk h (leAt t.body 8 2) [] s

end Sys2Proof.Machine
end

