-- ==== Sys2Proof/Machine/Place.lean ====
section
/-! DEFINITION. What a region descriptor has to obey (R52, R57, R60, R64, R189, R191, R193), where a member places a region's shadow, and
what a region may take (R58, R62, R82, R115, R488). -/

namespace Sys2Proof.Machine

/-- The DPA range of flash-map extents (R57). -/
def mapBase : Nat := 0xFF0000000000

/-! ### Descriptor checks -/

/-- A member entry in use holds what it may; an entry at or above MEMBERS is zero (R57, R64). -/
def memberOk (g : Region) (m : Nat) : Bool :=
  let e := cut g.desc (0x40 + 16 * m) 16
  if g.members ≤ m then allZero e
  else
    leAt e 2 2 = 0 && leAt e 4 4 / 2 ^ 20 = 0 && leAt e 8 8 / 2 ^ 48 = 0 && g.dpaBase m % 2 ^ 24 = 0 &&
      (g.mode = 2 || leAt e 4 4 = 0) && g.dpaBase m + g.share m ≤ mapBase

/-- The layout rules of R52, R57, R60 and R64. -/
def layoutOk (g : Region) : Bool :=
  g.word0 / 2 ^ 28 = 0 && leAt g.desc 4 4 / 32 = 0 &&
    (match g.mode with
     | 0 => g.members = 1
     | 1 => g.members = 2 || g.members = 4 || g.members = 8 || g.members = 16
     | 2 => 2 ≤ g.members && g.members ≤ 16
     | _ => false) &&
    g.spa % 2 ^ 28 = 0 && g.len % 2 ^ 28 = 0 && g.len ≠ 0 && g.spa + g.len ≤ 2 ^ 56 &&
    (List.range 16).all (memberOk g) &&
    (g.mode ≠ 2 || ((List.range g.members).map g.extent).sum * 2 ^ 28 = g.len) &&
    g.keySlot = (if g.durable then g.tenantNo else 16 + g.tenantNo) &&
    (g.kind ≠ 3 || (!g.durable && !g.ptab)) &&
    (!g.ptab || (g.kind = 1 && g.pinned && g.mode = 0))

/-- KIND_PARAM of a reduction region (R191, R275); its trigger's context is the tenant's and live (R189). -/
def State.redParamOk (s : State) (g : Region) : Bool :=
  !g.ptab && leAt g.desc 0x18 1 % 64 = 0 && g.nMax ≠ 0 && g.frac ≠ 63 && 1 ≤ g.nFirst && g.nFirst ≤ g.nMax && g.trigTag < 64 &&
    allZero (cut g.desc 0x28 24) &&
    (!g.trigEn || (s.liveCtx (w16 g.trigCtx)).any fun c => c.tenant = g.tenant)

/-- The format and shape of each source tensor of a recipe (R192): format, rows, columns. -/
def Region.srcTensors (g : Region) : List (Nat × Nat × Nat) :=
  match g.recipe with
  | 1 => [(g.ifmt, g.rows, g.cols), (g.ffmt, g.rows, g.rank), (g.ffmt, g.rank, g.cols)]
  | 2 => [(g.ifmt, g.rows, g.cols)]
  | _ => [(g.ifmt, g.rows, g.cols), (0x21, g.outRows, g.rank)]

/-- KIND_PARAM of a computed region (R192) and its sources (R193). -/
def State.recipeOk (s : State) (g : Region) : Bool :=
  let narrow := isBlock g.ifmt || is16 g.ifmt
  let srcOk (i : Nat) : Bool :=
    match s.region (g.src i), g.srcTensors[i]? with
    | some r, some (f, m, n) => r.st ≠ 0 && r.kind ≠ 3 && !r.ptab && r.tenant = g.tenant && g.srcOff i + m * rowBytes f n ≤ r.len
    | _, _ => false
  leAt g.desc 0x18 4 / 2 ^ 24 % 8 = 0 && leAt g.desc 0x1C 4 / 2 ^ 28 = 0 && leAt g.desc 0x3C 4 = 0 &&
    1 ≤ g.rows && g.rows ≤ 2 ^ 31 && 1 ≤ g.cols && g.cols ≤ 2 ^ 31 && (!isBlock g.ifmt || g.cols % 32 = 0) && isWide g.ofmt &&
    (match g.recipe with
     | 1 => narrow && is16 g.ffmt && 1 ≤ g.rank && g.rank ≤ 1024 && g.opt = 0 && leAt g.desc 0x38 4 = 0
     | 2 => narrow && g.ffmt = 0 && g.rank = 0 && g.src 1 = 0 && g.src 2 = 0 && g.opt = 0 && leAt g.desc 0x38 4 = 0
     | 3 => isFloat g.ifmt && g.ffmt = 0 && 1 ≤ g.rank && g.rank ≤ 256 && g.src 2 = 0 && g.opt < 2 && 1 ≤ g.outRows && g.outRows ≤ 2 ^ 31
     | _ => false) &&
    ((List.range g.srcTensors.length).all srcOk) && g.outRows * rowBytes g.ofmt g.cols ≤ g.len

/-- The rules of the kind (R64, R191, R193). -/
def State.kindOk (s : State) (g : Region) : Bool :=
  match g.kind with
  | 2 => s.redParamOk g
  | 3 => s.recipeOk g
  | _ => allZero (cut g.desc 0x18 40)

/-! ### Overlaps (R57) -/

/-- Do two member IDs name one device: the same ID, or a device and its pair's alias? -/
def State.sameDevice (s : State) (a b : Nat) : Bool :=
  let al (x : Nat) : Nat := s.stackId * 64 + 0x20 + x % 64 / 2
  a = b || (s.isDevice (w16 a) && al a = b) || (s.isDevice (w16 b) && al b = a)

def meet (a la b lb : Nat) : Bool := a < b + lb && b < a + la

/-- Do two regions overlap in SPA, or in DPA on some device? -/
def State.regionsMeet (s : State) (g r : Region) : Bool :=
  meet g.spa g.len r.spa r.len ||
    ((List.range g.members).any fun m => (List.range r.members).any fun k =>
      s.sameDevice (g.memberId m) (r.memberId k) && meet (g.dpaBase m) (g.share m) (r.dpaBase k) (r.share k))

/-- Two members of one region that share DPA on a device. -/
def State.selfMeet (s : State) (g : Region) : Bool :=
  (List.range g.members).any fun m => (List.range m).any fun k =>
    s.sameDevice (g.memberId m) (g.memberId k) && meet (g.dpaBase m) (g.share m) (g.dpaBase k) (g.share k)

/-- A region with no state but its descriptor. -/
def regionOf (desc : Bytes) (shadow shadowLen : Nat) : Region :=
  { st := 1, desc := desc, cgen := 0, shadow := shadow, shadowLen := shadowLen, gen := GenSt.init, genDur := GenSt.init, matEpoch := 0,
    reply := none }

/-- The regions of creations that are prepared and not yet committed at this device, with their shadows. -/
def State.pendRegions (s : State) : List (Nat × Region) :=
  (s.coord.pend.filter fun p => p.obj = 1 && p.op = 0 && (s.region p.number).isNone).map fun p =>
    (p.number, regionOf (cut p.body 4 320) (leAt p.body 324 8) (leAt p.body 332 8))

/-- Regions that take space, pending creations among them. -/
def State.takenRegions (s : State) : List (Nat × Region) := s.rgn.tab.filter (fun e => e.2.st ≠ 0) ++ s.pendRegions

/-- Check 3's overlaps: with another region, within itself, with a shadow placed here. -/
def State.overlaps (s : State) (g : Region) : Bool :=
  s.selfMeet g || (s.takenRegions.any fun e => s.regionsMeet g e.2) ||
    ((List.range g.members).any fun m => s.isPair (g.memberId m) &&
      s.takenRegions.any fun e => meet (g.dpaBase m) (g.share m) e.2.shadow e.2.shadowLen)

/-- Check 3 of R488. -/
def State.descOk (s : State) (g : Region) : Bool := layoutOk g && s.kindOk g && !s.overlaps g

/-- Check 2 of R488: the kernel-core feature is missing for what the descriptor asks. -/
def State.lacksCores (s : State) (g : Region) : Bool := !s.kcoreEn && (g.kind = 3 || (g.kind = 2 && g.trigEn))

/-! ### A member's own checks (R488, 4 and 6 to 8) -/

/-- Slices that a tenant owns on this device, those still being cleared for it among them. -/
def State.ownedSlices (s : State) (t : TenantId) : List (Fin 16) :=
  (indices 16).filter fun i =>
    let x := s.slice i
    (x.st = 1 && x.tenant = t) || (x.st = 2 && x.after = some t)

def State.clearingFor (s : State) (t : TenantId) : Bool :=
  (indices 16).any fun i => (s.slice i).st = 2 && (s.slice i).after = some t

/-- A tenant's flash quota from its blank record (R115, R406). -/
def State.quota (s : State) (t : TenantId) : Nat := leAt (s.recOf 9 t.val) 8 8

/-- Granules of the flash map of a tenant on one of its n slices (R115): 8 × quota / (16 KiB × n) exactly, 32 KiB and 4 MiB, rounded up
once to 16 MiB. -/
def mapGran (quota n : Nat) : Nat := cdiv (8 * quota + (2 ^ 15 + 2 ^ 22) * (16384 * n)) (2 ^ 24 * (16384 * n))

/-- The highest run of `n` free granules below the flash-map range: its first granule. -/
def placeHigh (used : List (Nat × Nat)) (n : Nat) : Option Nat :=
  let tops := (mapBase / 2 ^ 24) :: used.map Prod.fst
  let fits (a : Nat) : Bool := used.all fun u => !meet a n u.1 u.2
  (tops.filterMap fun t => if n ≤ t ∧ fits (t - n) then some (t - n) else none).foldl
    (fun (b : Option Nat) a => match b with | none => some a | some x => some (max x a)) none

/-- Granule ranges of this device's DPA space in use: members' shares and shadows. -/
def State.usedGran (s : State) (l : List Region) : List (Nat × Nat) :=
  l.flatMap fun r =>
    ((List.range r.members).filterMap fun m =>
      if s.isPair (r.memberId m) then some (r.dpaBase m / 2 ^ 24, cdiv (r.share m) (2 ^ 24)) else none) ++
      (if r.shadowLen = 0 then [] else [(r.shadow / 2 ^ 24, r.shadowLen / 2 ^ 24)])

/-- Bytes a region takes on this device, shadow included. -/
def State.takes (s : State) (r : Region) : Nat :=
  ((List.range r.members).map fun m => if s.isPair (r.memberId m) then r.share m else 0).sum + r.shadowLen

/-- The shadow of a region at this device: first DPA and length; none where it finds no run (R58). -/
def State.planShadow (s : State) (g : Region) : Option (Nat × Nat) :=
  match s.memberOf g with
  | none => some (0, 0)
  | some m =>
    let n := shadowGran g m (s.sliceList g.tenant).length
    if n = 0 then some (0, 0)
    else (placeHigh (s.usedGran (g :: s.takenRegions.map Prod.snd)) n).map fun a => (a * 2 ^ 24, n * 2 ^ 24)

/-- Space and budgets (R58, R62, R82, R115), the region counted with its shadow. -/
def State.budgetsOk (s : State) (g : Region) : Bool :=
  let t := g.tenant
  let sls := s.sliceList t
  let n := sls.length
  let all := g :: s.takenRegions.map Prod.snd
  let sum (p : Region → Bool) : Nat := ((all.filter p).map s.takes).sum
  let dram := (sls.map fun sl => (s.chan (chanOf sl)).cap).sum
  let ext := 1 + b2n (g.shadowLen ≠ 0)
  (g.pinned || sum (fun r => !r.pinned) / 2 ^ 24 ≤ s.geo.usable) &&
    (!g.pinned ||
      (4 * (sum (fun r => r.pinned && r.tenant = t) + n * (mapGran (s.quota t) n * 2 ^ 24)) ≤ 3 * dram &&
        sls.all fun sl => (s.exts (chanOf sl)).length + ext ≤ 64)) &&
    ((g.pinned && !g.durable) || sum (fun r => r.tenant = t && (!r.pinned || r.durable)) ≤ s.quota t)

/-- A member's answer to a creation: the shadow it placed, or a status with a state code. -/
inductive Placed where
  | at_ (base len : Nat)
  | refused (st : Byte) (code : Nat)
deriving DecidableEq, Repr

def State.placeRegion (s : State) (g : Region) : Placed :=
  if (s.memberOf g).isNone then .at_ 0 0
  else if s.overlaps g ∨ s.ownedSlices g.tenant = [] then .refused stBAD_DESCRIPTOR 0
  else
    let k := (s.key (g.tenant)).st
    if g.durable ∧ k ≠ 1 then .refused stSTATE_CONFLICT k
    else if s.clearingFor g.tenant then .refused stRETRY_BUSY 0
    else
      match s.planShadow g with
      | none => .refused stBAD_DESCRIPTOR 0
      | some (b, l) => if s.budgetsOk { g with shadow := b, shadowLen := l } then .at_ b l else .refused stBAD_DESCRIPTOR 0

end Sys2Proof.Machine
end

