-- ==== Sys2Proof/Machine/Records.lean ====
section
/-! DEFINITION. Context and region records across the stack (R44, R45, R379): the headstock's transactions, what a member does with PREPARE,
COMMIT and ABORT, and how a committed record takes force (R32, R63, R66, R181, R272). -/

namespace Sys2Proof.Machine

/-! ### The headstock (R378 to R380) -/

/-- The headstock, as this device knows it. -/
def State.headId (s : State) : Option W16 :=
  if s.head.head then some s.myId
  else
    match (List.range 32).find? fun p => bit (s.spn.map.getD p 0).toNat 2 with
    | some p => some (s.idOf p)
    | none => if s.spn.state = 2 then some (s.idOf s.spn.headPos) else none

/-- Is some pair of the stack between epochs: a member is there and none is active (R379)? -/
def State.pairGap (s : State) : Bool :=
  let b (p : Nat) : Nat := if p = s.spn.pos then (if s.answersAlias then 1 else 2) else (s.spn.map.getD p 0).toNat % 4
  (List.range 16).any fun k => (b (2 * k) ≠ 0 || b (2 * k + 1) ≠ 0) && b (2 * k) ≠ 1 && b (2 * k + 1) ≠ 1 && s.spn.map ≠ []

/-- A command that only the headstock executes: here, forwarded, or answered RETRY_BUSY while no headstock is known. -/
def atHead (h : CmdHdr) (cmd : Nat) (args : Bytes) (f : State → State) (s : State) : State :=
  match s.headId with
  | some d => if s.head.head then f s else forwardCmd d cmd h args 0 s
  | none => replyBusy h cmd 100000000 s

/-! ### Free handles and numbers (R44, R45) -/

/-- Object numbers that a transaction of the headstock is about to create. -/
def State.beingMade (s : State) (obj : Nat) : List Nat := (s.coord.recTx.filter fun x => x.obj = obj && x.op = 0).map RecTx.number

/-- The free number that has been free longest: one not freed since the role was taken first, in ascending order. -/
def pickFree (lo hi : Nat) (used : Nat → Bool) (freed : List Nat) : Option Nat :=
  match ((List.range hi).drop lo).find? fun i => !used i && !freed.contains i with
  | some i => some i
  | none => freed.find? fun i => !used i

def State.freeRegion (s : State) : Option Nat :=
  pickFree 1 4096 (fun i => s.regionSt i ≠ 0 || (s.beingMade 1).contains i) s.rgn.freed

def State.freeCtx (s : State) : Option Nat :=
  pickFree 0 4096 (fun i => (s.ctx.tab.find i).isSome || (s.beingMade 0).any fun h => h % 4096 = i) s.ctx.freed

/-! ### Records' bodies (R381) -/

def objBody (obj op number : Nat) (rec_ : Bytes) : Bytes := [byte obj, byte op] ++ toLe 2 number ++ rec_

def ctxRecord (c : Ctx) : Bytes := [byte c.tenant.val, 0, 0, 0] ++ (List.range 16).flatMap fun i => padTo 32 (c.segs.getD i [])

def regionRecord (st : Nat) (desc : Bytes) : Bytes := [byte st, 0, 0, 0] ++ padTo 320 desc

/-! ### A committed record takes force -/

def State.setCtx (s : State) (i : Nat) (c : Ctx) : State := { s with ctx := { s.ctx with tab := s.ctx.tab.ins i c } }

/-- The context home quarter a new context takes (R32). -/
def State.steerPick (s : State) (t : TenantId) : Option Nat :=
  let n (q : Nat) : Nat := (s.ctx.tab.filter fun e => e.2.st ≠ 0 && e.2.tenant = t && s.ctx.steer.find e.1 = some q).length
  ((List.range 4).filter fun q => (s.sliceList t).any fun sl => sl / 4 = q).foldl
    (fun (b : Option Nat) q => match b with | none => some q | some x => if n q < n x then some q else some x) none

/-- A context record is created or replaced (R32, R44, R49, R275). -/
def ctxInstall (handle : Nat) (rec_ : Bytes) (s : State) : State :=
  let i := handle % 4096
  let segs := (List.range 16).map fun n => cut rec_ (4 + 32 * n) 32
  match s.liveCtx (w16 handle) with
  | some c => s.setCtx i { c with segs := segs }
  | none =>
    let t := tenOf (leAt rec_ 0 1)
    let st := s.steerPick t
    let s := s.setCtx i ⟨1, t, segs, [], none⟩
    { s with ctx := { s.ctx with incs := s.ctx.incs.put 0 i (handle / 4096), freed := s.ctx.freed.filter (· ≠ i),
                                 steer := match st with | some q => s.ctx.steer.ins i q | none => s.ctx.steer.del i } }

/-- A range of DPA blocks takes an extent on each of the tenant's slices (R82). -/
def pinRange (t : TenantId) (region dpa len : Nat) (s : State) : State :=
  let sls := s.sliceList t
  let b0 := dpa / 16384
  let k := len / 16384
  let run := runLen b0 k sls.length
  if len = 0 then s
  else sls.foldl (fun s sl =>
    { s with pins := upd s.pins (chanOf sl) fun l => l ++ [⟨b0, k, run, cdiv (run * 16384) (2 ^ 24), region⟩] }) s

/-- A region becomes ACTIVE, or the state its record has, at this device (R59 to R66, R82, R116, R181). -/
def regionInstall (n st : Nat) (desc : Bytes) (shadow shadowLen : Nat) (s : State) : State :=
  let d := splice desc 0 (toLe 4 (setBits (leAt desc 0 4) 11 0 n))
  let g : Region := { regionOf d shadow shadowLen with st := st }
  let g := if g.kind = 2 then { g with gen := openGen g.genFirst g.nFirst s.time.nclk g.gen } else g
  let g := { g with genDur := g.gen }
  let s := { s.setRegion n g with rgn := { (s.setRegion n g).rgn with freed := s.rgn.freed.filter (· ≠ n) } }
  if !g.pinned then s
  else
    match s.memberOf g with
    | some m => pinRange g.tenant n shadow shadowLen (pinRange g.tenant n (g.dpaBase m) (g.share m) s)
    | none => s

/-- A prepared record is committed: created, modified, or on its way out. True: the acknowledgement waits for a quiesce or for the context
to become FREE. -/
def recApply (p : PendRec) (src : W16) (xid : W32) (s : State) : Bool × State :=
  let h : CmdHdr := ⟨.fwd src xid src, 0, 0, 0⟩
  if p.obj = 0 then
    if p.op = 0 then (false, ctxInstall p.number p.body s)
    else
      match s.liveCtx (w16 p.number) with
      | some c => (true, s.setCtx (p.number % 4096) { c with st := 3, reply := some h })
      | none => (false, s)
  else
    match s.region p.number with
    | none =>
      (false, if p.op = 0 then regionInstall p.number (leAt p.body 0 1) (cut p.body 4 320) (leAt p.body 324 8) (leAt p.body 332 8) s else s)
    | some g =>
      if p.op = 1 then (false, s.setRegion p.number { g with st := 3 })
      else if leAt p.body 0 1 = 2 then (true, s.setRegion p.number { g with st := 2, reply := some h })
      else (false, s.setRegion p.number { g with st := leAt p.body 0 1 })

/-! ### A member (R379) -/

def State.dropPend (s : State) (obj number : Nat) : State :=
  { s with coord := { s.coord with pend := s.coord.pend.filter fun p => !(p.obj = obj && p.number = number) } }

/-- A COORD message already acknowledged is acknowledged again, and nothing else (R381); one still being worked on stays so. -/
def coordOnce (c : Coord) (f : State → State) (s : State) : State :=
  match s.coord.acked.find? fun a => a.src = c.src && a.xid = c.xid with
  | some a => coordOut c.src (some 0) ([byte a.subop, a.status, 0, 0] ++ toLe 4 a.xid.toNat ++ a.body) s
  | none => if s.coord.fwdOpen.contains (c.src, c.xid) then s else f s

def recPrepareRx (c : Coord) (obj op : Nat) (number : Nat) (rec_ : Bytes) (s : State) : State :=
  coordOnce c (fun s =>
    let keep (body : Bytes) (s : State) : State :=
      let s := s.dropPend obj number
      coordAckSend c.src c.xid 1 stOK 0 []
        { s with coord := { s.coord with pend := s.coord.pend ++ [⟨c.xid, obj, op, number, body⟩] } }
    if 1 < obj ∨ 1 < op then coordAckSend c.src c.xid 1 stBAD_DESCRIPTOR 0 [] s
    else if obj = 1 ∧ op = 0 ∧ (s.region number).isNone then
      let d := cut rec_ 4 320
      match (s.dropPend obj number).placeRegion (regionOf d 0 0) with
      | .refused st _ => coordAckSend c.src c.xid 1 st (if st = stRETRY_BUSY then hintNs 1000000 else 0) [] s
      | .at_ b l => keep (padTo 324 rec_ ++ toLe 8 b ++ toLe 8 l) s
    else keep rec_ s) s

def recCommitRx (c : Coord) (obj number : Nat) (s : State) : State :=
  coordOnce c (fun s =>
    match s.coord.pend.find? fun p => p.obj = obj && p.number = number with
    | none => coordAckSend c.src c.xid 2 stOK 0 [] s
    | some p =>
      let (later, s) := recApply p c.src c.xid (s.dropPend obj number)
      if later then { s with coord := { s.coord with fwdOpen := s.coord.fwdOpen ++ [(c.src, c.xid)] } }
      else coordAckSend c.src c.xid 2 stOK 0 [] s) s

def recAbortRx (c : Coord) (obj number : Nat) (s : State) : State :=
  coordOnce c (fun s => coordAckSend c.src c.xid 3 stOK 0 [] (s.dropPend obj number)) s

/-- A commit that waited is acknowledged. -/
def commitDone (r : Option CmdHdr) (s : State) : State :=
  match r with
  | some h => (match h.iss with | .fwd d x _ => coordAckSend d x 2 stOK 0 [] s | .bmc | .ep _ | .rgnCmd _ | .slotCmd _ | .hwdCmd => s)
  | none => s

/-! ### The headstock's transaction (R379) -/

def State.updTx (s : State) (id : Nat) (f : RecTx → RecTx) : State :=
  { s with coord := { s.coord with recTx := s.coord.recTx.map fun x => if x.id = id then f x else x } }

def State.dropTx (s : State) (id : Nat) : State :=
  { s with coord := { s.coord with recTx := s.coord.recTx.filter fun x => x.id ≠ id } }

/-- A message of a transaction goes to these devices, each under an XID of its own. -/
def txSend (id subop : Nat) (body : Bytes) (to_ : List W16) (s : State) : State :=
  let s := s.updTx id fun x => { x with waits := [], since := s.time.nclk }
  to_.foldl (fun s d =>
    let x := s.coord.nextXid + 1
    let s := { s with coord := { s.coord with nextXid := x } }
    let s := s.updTx id fun t => { t with waits := t.waits ++ [(d, x, 1)] }
    coordOut d none ([byte subop, 0, 0, 0] ++ toLe 4 x.toNat ++ body) s) s

/-- A record change begins: PREPARE goes to every active device, or waits while a pair is between epochs. `cmd` 0: it answers nobody. -/
def txStart (obj op number : Nat) (rec_ : Bytes) (h : CmdHdr) (cmd : Nat) (res : Bytes) (late : Bool) (to_ : List W16) (s : State) : State :=
  let id := (s.coord.recTx.map RecTx.id).foldl max 0 + 1
  let held := s.pairGap
  let tx : RecTx := ⟨id, if held then 3 else 0, obj, op, number, rec_, [], s.time.nclk, h, cmd, res, late⟩
  let s := { s with coord := { s.coord with recTx := s.coord.recTx ++ [tx] } }
  if held then s else txSend id 1 (objBody obj op number rec_) to_ s

/-- The command of a transaction is answered. -/
def txAnswer (x : RecTx) (st : Byte) (code hint : Nat) (s : State) : State :=
  if x.cmd = 0 then s else reply x.h x.cmd st code hint (if st = stOK then x.reply else []) s

/-- The change is given up: ABORT everywhere, and the status to the issuer. -/
def txAbort (x : RecTx) (st : Byte) (code hint : Nat) (s : State) : State :=
  let s := txAnswer x st code hint (s.updTx x.id fun t => { t with phase := 2 })
  txSend x.id 3 (objBody x.obj x.op x.number []) s.activeIds s

/-- Every device has acknowledged PREPARE: COMMIT, and the answer. -/
def txCommit (x : RecTx) (s : State) : State :=
  let s := s.updTx x.id fun t => { t with phase := 1 }
  let s := txSend x.id 2 (objBody x.obj x.op x.number []) (if x.cmd = 0 then x.waits.map Prod.fst else s.activeIds) s
  if x.late then s else txAnswer x stOK 0 0 s

/-- An acknowledgement of PREPARE, COMMIT or ABORT reaches the headstock. A status of STATE_CONFLICT brings no state code with it. -/
def txAcked (src : W16) (xid : W32) (st : Byte) (hint : Nat) (s : State) : State :=
  match s.coord.recTx.find? fun x => x.waits.any fun w => w.1 = src && w.2.1 = xid with
  | none => s
  | some x =>
    let rest := x.waits.filter fun w => !(w.1 = src && w.2.1 = xid)
    if x.phase = 0 ∧ st ≠ stOK then
      if st = stSTATE_CONFLICT then
        let (k, s) := draw s
        txAbort x st ((Config.random k).toNat % 16) 0 s
      else txAbort x st 0 hint s
    else
      let x' := { x with waits := rest }
      let s := s.updTx x.id fun t => { t with waits := rest }
      if rest ≠ [] then s
      else
        match x.phase with
        | 0 => txCommit { x' with waits := x.waits } s
        | 1 => (if x.late then txAnswer x stOK 0 0 s else s).dropTx x.id
        | _ => s.dropTx x.id

/-- REC_PREPARE_RETRY: 10 ms have passed for a device that has not acknowledged; the fifth time, or after 2 s between epochs, the change is
given up. -/
def recRetry (xid : W32) (s : State) : State :=
  match s.coord.recTx.find? fun x => x.phase = 0 && x.waits.any fun w => w.2.1 = xid with
  | some x =>
    match x.waits.find? fun w => w.2.1 = xid with
    | some (d, _, n) =>
      let s := advanceTo (x.since + msec (10 * n)) s
      if 5 ≤ n then txAbort x stRETRY_BUSY 0 (hintNs 100000000) s
      else
        let s := s.updTx x.id fun t => { t with waits := t.waits.map fun w => if w.2.1 = xid then (w.1, w.2.1, n + 1) else w }
        coordOut d none ([1, 0, 0, 0] ++ toLe 4 xid.toNat ++ objBody x.obj x.op x.number x.body) s
    | none => s
  | none =>
    match s.coord.recTx.find? fun x => x.phase = 3 with
    | some x =>
      let s := advanceTo (x.since + secs 2) s
      if s.pairGap then (txAnswer x stRETRY_BUSY 0 (hintNs 100000000) s).dropTx x.id else s
    | none => s

/-- Transactions held for a pair between epochs begin once there is none. -/
def txRelease (s : State) : State :=
  if s.pairGap then s
  else
    (s.coord.recTx.filter fun x => x.phase = 3).foldl (fun s x =>
      txSend x.id 1 (objBody x.obj x.op x.number x.body) s.activeIds (s.updTx x.id fun t => { t with phase := 0 })) s

/-- A device that joins or becomes active receives every record (R379). -/
def sendRecords (d : W16) (s : State) : State :=
  let h : CmdHdr := ⟨.bmc, 0, 0, 0⟩
  let s := s.ctx.tab.foldl (fun s e =>
    if e.2.st = 0 then s
    else txStart 0 0 (s.ctx.incs.get 0 e.1 * 4096 + e.1) (ctxRecord e.2) h 0 [] false [d] s) s
  s.rgn.tab.foldl (fun s e => if e.2.st = 0 then s else txStart 1 0 e.1 (regionRecord e.2.st e.2.desc) h 0 [] false [d] s) s

end Sys2Proof.Machine
end

