-- ==== Sys2Proof/Machine/RegionCmds.lean ====
section
/-! DEFINITION. Region commands (R45, R63, R66, R67, R193, R273, R488), context records (R44, R45, R272), segment writes (R46 to R49). -/

namespace Sys2Proof.Machine

/-! ### REGION_CREATE (R488) -/

/-- Does a member ID name an active or present device of the stack, or a pair of it? -/
def State.knownMember (s : State) (id : Nat) : Bool :=
  let b (p : Nat) : Nat := (s.spn.map.getD p 0).toNat % 4
  s.isPair id ||
    (id / 64 = s.stackId && (if id % 64 < 0x20 then b (id % 64) ≠ 0 else b (2 * (id % 32)) ≠ 0 || b (2 * (id % 32) + 1) ≠ 0))

/-- The checks on a descriptor that has been read, in R488's order, as far as the headstock makes them; then the record goes out. -/
def createWith (h : CmdHdr) (t : TenantId) (desc : Bytes) (s : State) : State :=
  let g := regionOf desc 0 0
  let cmd := 0x201
  if g.tenant ≠ t then replySt h cmd stNO_ACCESS s
  else if s.lacksCores g then replySt h cmd stUNSUPPORTED s
  else if !s.descOk g then replySt h cmd stBAD_DESCRIPTOR s
  else if (List.range g.members).any fun m =>
      !s.knownMember (g.memberId m) || (s.isPair (g.memberId m) && s.ownedSlices t = []) then replySt h cmd stBAD_DESCRIPTOR s
  else
    match s.freeRegion with
    | none => replyBusy h cmd 1000000 s
    | some n =>
      match s.placeRegion g with
      | .refused st code => reply h cmd st code (if st = stRETRY_BUSY then hintNs 1000000 else 0) [] s
      | .at_ _ _ =>
        let d := splice desc 0 (toLe 4 (setBits (leAt desc 0 4) 11 0 n))
        txStart 1 0 n (regionRecord 1 d) h cmd (toLe 2 n ++ [0, 0]) false s.activeIds s

/-- REGION_CREATE's descriptor is read; once it is, the rest follows. -/
def regionCreateGo (n : Nat) (h : CmdHdr) (ca : Nat) (s : State) : State :=
  match argRead n h ca 320 s with
  | (none, s) => s
  | (some (st, b), s) =>
    let s := cmdClose n s
    if st ≠ stOK then replySt h 0x201 st s
    else
      match s.classOf h.iss with
      | .ta t => createWith h t b s
      | .da | .host _ | .nobody => replySt h 0x201 stNO_ACCESS s

def regionCreateRun (h : CmdHdr) (ca : W64) (s : State) : State :=
  onlyTA h 0x201 (fun _ s =>
    if !s.refOk h then replySt h 0x201 stNO_ACCESS s
    else
      atHead h 0x201 (toLe 8 ca.toNat) (fun s =>
        let (n, s) := cmdOpen (.regionCreate h ca) s
        regionCreateGo n h ca.toNat s) s) s

/-! ### REGION_QUIESCE, REGION_RESUME, REGION_DELETE (R66, R67, R193) -/

/-- Does some live context's valid segment take its page table from the region (R67)? -/
def State.ptInUse (s : State) (g : Region) : Bool :=
  s.ctx.tab.any fun e => e.2.st ≠ 0 && e.2.segs.any fun d => (segOf d).v && g.spa ≤ (segOf d).pt && (segOf d).pt < g.spa + g.len

/-- The checks every region command shares: the number, the tenant, the record. -/
def withRegion (h : CmdHdr) (cmd : Nat) (n : Nat) (f : Region → State → State) (s : State) : State :=
  onlyTA h cmd (fun t s =>
    match s.region n with
    | some g =>
      if g.tenant ≠ t then replySt h cmd stNO_ACCESS s
      else f g s
    | none => if 4095 < n then replySt h cmd stBAD_DESCRIPTOR s else replyConflict h cmd 0 s) s

/-- A change of a region's state, through the headstock. -/
def regionChange (h : CmdHdr) (cmd n : Nat) (ok : Nat → Bool) (op st : Nat) (late : Bool) (bad : Region → State → Bool) (s : State) : State :=
  withRegion h cmd n (fun _ s =>
    atHead h cmd (toLe 2 n ++ [0, 0]) (fun s =>
      match s.region n with
      | none => replyConflict h cmd 0 s
      | some g =>
        if !ok g.st || bad g s then replyConflict h cmd g.st s
        else txStart 1 op n (regionRecord st g.desc) h cmd [] late s.activeIds s) s) s

def regionQuiesceRun (h : CmdHdr) (n : W16) (s : State) : State :=
  regionChange h 0x202 n.toNat (· = 1) 0 2 true (fun _ _ => false) s

def regionResumeRun (h : CmdHdr) (n : W16) (s : State) : State :=
  regionChange h 0x203 n.toNat (· = 2) 0 1 false (fun _ _ => false) s

def regionDeleteRun (h : CmdHdr) (n : W16) (s : State) : State :=
  regionChange h 0x204 n.toNat (fun c => c = 2 || c = 4) 1 3 false
    (fun g s => (g.ptab && s.ptInUse g) || s.dependents n.toNat ≠ []) s

/-- Is no admitted request to the region left here? -/
def State.drained (s : State) (n : Nat) : Bool := s.pool.trks.all fun t => t.region ≠ n

/-- REGION_QUIESCE_DONE: every admitted request has completed here, and COMMIT is acknowledged. -/
def quiesceDone (n : Nat) (s : State) : State :=
  match s.region n with
  | some g => if g.st = 2 ∧ s.drained n then commitDone g.reply (s.setRegion n { g with reply := none }) else s
  | none => s

/-- A range of blocks leaves DRAM, flash translation and the journal (R63). -/
def unmapRange (t : TenantId) (dpa len : Nat) (s : State) : State :=
  let lo := dpa / 16384
  let hi := lo + len / 16384
  let in_ (b : Nat) : Bool := lo ≤ b && b < hi
  let sbs := ((s.tier.fmap.filter fun e => in_ e.1).filterMap fun e => match e.2 with | .dense l => some l.sb | .lost => none).eraseDups
  let s := { s with
    mem := Memory.clear s.mem dpa len,
    poison := s.poison.filter (fun l => !in_ (l / 128)),
    tags := s.tags.filterMap (fun e =>
      let l := e.2.map fun w => if w.v && in_ w.block && (s.sliceTenant (e.1 / 2 ^ 32) = some t) then { w with v := false, d := false, e := false, rd := false } else w
      if l = emptySet then none else some (e.1, l)),
    tier := { s.tier with
      fmap := s.tier.fmap.filter (fun e => !in_ e.1),
      streams := s.tier.streams.map fun e =>
        if e.1 % 16 = t.val then
          (e.1, { e.2 with pages := e.2.pages.map fun p => { p with recs := p.recs.map fun r => if r.state.isNone && in_ (r.line / 128) then { r with live := false } else r } })
        else e },
    pool := { s.pool with dir := s.pool.dir.filter (fun e => !in_ (e.1 / 128)), fills := s.pool.fills.filter fun f => !in_ f.block } }
  sbs.foldl (fun s i => releaseEmpty i s) s

/-- REGION_DELETE_DONE: the region's blocks and its shadow's are unmapped and its extents freed; it becomes FREE (R58, R63, R82). -/
def deleteDone (n : Nat) (s : State) : State :=
  match s.region n with
  | some g =>
    if g.st ≠ 3 then s
    else
      let s : State :=
        match s.memberOf g with
        | some m => unmapRange g.tenant g.shadow g.shadowLen (unmapRange g.tenant (g.dpaBase m) (g.share m) s)
        | none => s
      let s := { s with pins := s.pins.map fun l => l.filter fun e => e.region ≠ n,
                        rgn := { tab := s.rgn.tab.del n, freed := s.rgn.freed ++ [n],
                                 stamps := s.rgn.stamps.filter fun e => e.1 / 2 ^ 34 ≠ n } }
      (List.range 64).foldl (fun s k => reclaim k s) s
  | none => s

/-! ### REGION_READ (R273) -/

def regionReadGo (n : Nat) (h : CmdHdr) (rn ca : Nat) (s : State) : State :=
  let (d, st) := match s.region rn with | some g => (padTo 320 g.desc, g.st) | none => (zeros 320, 0)
  match resWrite n h ca d s with
  | (none, s) => s
  | (some (x, _), s) =>
    let s := cmdClose n s
    if x = stOK then replyOk h 0x205 [byte st, 0, 0, 0] s else replySt h 0x205 x s

def regionReadRun (h : CmdHdr) (rn : W16) (ca : W64) (s : State) : State :=
  onlyTA h 0x205 (fun t s =>
    if !s.refOk h ∨ ((s.region rn.toNat).any fun g => g.tenant ≠ t) then replySt h 0x205 stNO_ACCESS s
    else if 4095 < rn.toNat then replySt h 0x205 stBAD_DESCRIPTOR s
    else
      let (n, s) := cmdOpen (.regionRead h rn ca) s
      regionReadGo n h rn.toNat ca.toNat s) s

/-! ### Contexts (R44, R45, R272) -/

def ctxCreateRun (h : CmdHdr) (s : State) : State :=
  onlyTA h 0x101 (fun t s =>
    atHead h 0x101 [] (fun s =>
      match s.freeCtx with
      | none => replyBusy h 0x101 1000000 s
      | some i =>
        let hd := s.ctx.incs.get 0 i * 4096 + i
        let c : Ctx := ⟨1, t, List.replicate 16 (zeros 32), [], none⟩
        txStart 0 0 hd (ctxRecord c) h 0x101 (toLe 2 hd ++ [0, 0]) false s.activeIds s) s) s

/-- CTX_STOP and CTX_START: the state of the context's record at this device. -/
def ctxSwitch (h : CmdHdr) (cmd from_ to_ : Nat) (s : State) : State :=
  onlyTA h cmd (fun t s =>
    ownCtx h cmd t (fun c s =>
      if c.st ≠ from_ then replyConflict h cmd c.st s
      else replyOk h cmd [] (s.setCtx (ctxIndex h.handle) { c with st := to_ })) s) s

def ctxDestroyRun (h : CmdHdr) (s : State) : State :=
  onlyTA h 0x104 (fun t s =>
    ownCtx h 0x104 t (fun c s =>
      if c.st ≠ 1 ∧ c.st ≠ 2 then replyConflict h 0x104 c.st s
      else atHead h 0x104 [] (fun s => txStart 0 1 h.handle.toNat [] h 0x104 [] true s.activeIds s) s) s) s

/-- Tasks of a context that are not final, or whose record is not delivered. -/
def State.openTasks (s : State) (i : Nat) : List Task := s.work.tasks.filter fun t => t.ctx = i && !(4 ≤ t.st && t.recDone)

/-- CTX_DESTROY_DONE: with every completion record delivered the context becomes FREE (R44, R272). -/
def ctxDestroyDoneRun (handle : W16) (s : State) : State :=
  match s.liveCtx handle with
  | some c =>
    let i := ctxIndex handle
    if c.st ≠ 3 ∨ s.openTasks i ≠ [] then s
    else
      let s := { s with
        ctx := { s.ctx with tab := s.ctx.tab.del i, incs := s.ctx.incs.put 0 i ((s.ctx.incs.get 0 i + 1) % 16),
                            steer := s.ctx.steer.del i, freed := s.ctx.freed ++ [i] },
        work := { s.work with queues := s.work.queues.filter (fun e => e.1 / 8 ≠ i), tasks := s.work.tasks.filter fun t => t.ctx ≠ i },
        pool := { s.pool with tcache := s.pool.tcache.map fun l => l.filter fun e => e.handle ≠ handle } }
      commitDone c.reply s
  | none => s

/-! ### Segment writes (R46 to R48) -/

/-- The rules of R47 and R48 for a descriptor; V = 0 asks only for the reserved bits. -/
def State.segOk (s : State) (t : TenantId) (d : Bytes) : Bool :=
  let g := segOf d
  d.length = 32 && leAt d 0 4 < 32 && leAt d 4 4 = 0 &&
    (!g.v ||
      (g.base % g.page = 0 && g.limit % g.page = 0 && g.page ≤ g.limit && g.limit ≤ 2 ^ 24 * g.page && g.base + g.limit ≤ 2 ^ 64 &&
        g.pt < 2 ^ 56 && g.pt % 128 = 0 &&
        (match s.regionOfSpa g.pt with
         | some (_, r) => r.ptab && r.tenant = t && g.pt + 8 * (g.limit / g.page) ≤ r.spa + r.len
         | none => false)))

/-- Does a valid descriptor overlap another of the context's (R46)? -/
def segOverlap (segs : List Bytes) (n : Nat) (d : Bytes) : Bool :=
  let g := segOf d
  g.v && (List.range 16).any fun i =>
    i ≠ n && (segOf (segs.getD i [])).v && meet g.base g.limit (segOf (segs.getD i [])).base (segOf (segs.getD i [])).limit

/-- SEGMENT_WRITE: the descriptor is replaced in a single step, or refused and the context keeps what it had. -/
def segmentWriteRun (handle : W16) (n : Fin 16) (d : Bytes) (s : State) : State :=
  let ans (st : Byte) (s : State) : State := emit (.segAnswer handle n.val st) s
  match s.liveCtx handle with
  | none => ans stNO_ACCESS s
  | some c =>
    if !s.segOk c.tenant d ∨ segOverlap c.segs n.val d then ans stBAD_DESCRIPTOR s
    else
      let s := s.setCtx (ctxIndex handle) { c with segs := c.segs.set n.val d }
      ans stOK { s with pool := { s.pool with tcache := s.pool.tcache.map fun l => l.filter fun e => !(e.handle = handle && e.seg = n.val) } }

end Sys2Proof.Machine
end

