-- ==== Sys2Proof/Machine/Pieces.lean ====
section
/-! DEFINITION. Lists of byte ranges that a task or a computed block reads and writes (R208, R235), and translations that it asks for
(R53, R280). -/

namespace Sys2Proof.Machine

/-- Adjoining ranges joined. -/
def coalesce (l : List (Nat × Nat)) : List (Nat × Nat) :=
  l.foldr (fun x acc => match acc with | y :: r => if x.1 + x.2 = y.1 then (x.1, x.2 + y.2) :: r else x :: acc | [] => [x]) []

def coalesceW (l : List (Nat × Bytes)) : List (Nat × Bytes) :=
  l.foldr (fun x acc => match acc with | y :: r => if x.1 + x.2.length = y.1 then (x.1, x.2 ++ y.2) :: r else x :: acc | [] => [x]) []

/-- The lines that byte ranges lie in, each once. -/
def linesOf (l : List (Nat × Nat)) : List Nat :=
  ((coalesce l).flatMap fun p => if p.2 = 0 then [] else (List.range ((p.1 + p.2 - 1) / 128 - p.1 / 128 + 1)).map fun i => (p.1 / 128 + i) * 128).eraseDups

/-- The outcome of an agent's accesses to whole lines, once all are done: the bytes of each range in turn. -/
def State.linesDone (s : State) (ag : Agent) (op : Nat) (l : List (Nat × Nat)) : Gathered :=
  let xs := (linesOf l).map fun a => s.accAt ag op a
  if xs.all fun x => x.any fun a => a.st = 3 then
    match (xs.filterMap id).find? fun a => a.status ≠ stOK with
    | some a => some (a.status, [])
    | none =>
      some (stOK, l.flatMap fun p =>
        (rangePieces p.1 p.2).flatMap fun q =>
          match s.accAt ag op (q.1 / 128 * 128) with | some a => cut (padTo 128 a.res) (q.1 % 128) q.2 | none => [])
  else none

/-- Ranges are read with operation `op`, whole lines each; `data`: the payload of a read that has one. -/
def gatherLines (ag : Agent) (op : Nat) (h : Option W16) (data : Bytes) (l : List (Nat × Nat)) (s : State) : Gathered × State :=
  let s := (linesOf l).foldl (fun s a => if (s.accAt ag op a).isSome then s else beginAcc ag op h a 128 data s) s
  (s.linesDone ag op l, s)

/-- Ranges are written; the first failing status, once every piece has been answered. -/
def scatterAll (ag : Agent) (h : Option W16) (l : List (Nat × Bytes)) (s : State) : Option Byte × State :=
  (coalesceW l).foldl (fun a p =>
    let (r, s) := scatter ag h p.1 p.2 a.2
    (match a.1, r with
     | some x, some (y, _) => some (if x ≠ stOK then x else y)
     | _, _ => none, s)) (some stOK, s)

/-- Finished accesses of an agent by one operation are dropped. -/
def dropOps (ag : Agent) (op : Nat) (s : State) : State :=
  { s with work := { s.work with accs := s.work.accs.filter fun a => a.agent ≠ ag || a.op ≠ op || a.st ≠ 3 } }

/-- The region that a CA is translated into, or the status of the failing check; nothing while a page-table line is on its way. -/
abbrev Translated := Option (Sum Byte (Nat × Region))

def transStep (h : W16) (op ca : Nat) (s : State) : Translated × State :=
  match s.liveCtx h with
  | none => (some (.inl stNO_ACCESS), s)
  | some c =>
    let q := (s.homeOf h).getD 0
    let go (s : State) : Xl × State := xlate q h c op ca 1 false false (some c.tenant) false s
    let res (x : Xl × State) : Translated × State :=
      match x with
      | (.ok n g _ _ _, s) => (some (.inr (n, g)), s)
      | (.fail code st _, s) => (some (.inl st), xlatFault q code h s.myId ca s)
      | (.miss _, s) => (none, s)
    match go s with
    | (.ok n g _ _ _, s) => (some (.inr (n, g)), s)
    | (.fail code st _, s) => (some (.inl st), xlatFault q code h s.myId ca s)
    | (.miss line, s) =>
      match s.work.accs.find? fun a => a.agent = .xlat && a.addr = line && !(s.pool.xwaits.any fun w => w.acc = a.n) with
      | none => (none, beginAcc .xlat 1 none line 128 [] s)
      | some a =>
        if a.st ≠ 3 then (none, s)
        else
          let s := s.dropAcc a.n
          if a.status ≠ stOK then (some (.inl a.status), xlatFault q 4 h s.myId ca s)
          else
            let (r, s) := res (go (tcInstall q h c ca line a.res s))
            (r, if a.data = [] then s
              else send (invAckMsg (w16 (leAt a.data 0 2)) (w16 (leAt a.data 2 2)) s.myId line) (tcDropLine line s))

/-- The region of a CA as the translation cache has it. -/
def State.caRegion (s : State) (h : W16) (ca : Nat) : Option Nat :=
  match s.liveCtx h with
  | none => none
  | some c =>
    match findSeg ca 0 c.segs with
    | none => none
    | some (n, g) => (s.tcFind ((s.homeOf h).getD 0) h n ((ca - g.base) / g.page)).map fun e => bits e.pte 27 16

end Sys2Proof.Machine
end

