-- ==== Sys2Proof/Machine/Tasks.lean ====
section
/-! DEFINITION. Tasks (spec 09, R274 to R285): submission checks, waits, the operations of a program one after another with their reads and
writes, tensor watches (R462), completion records, rings. -/

namespace Sys2Proof.Machine

/-! ### Names -/

def queueKey (i qn : Nat) : Nat := i * 8 + qn
def State.queue (s : State) (k : Nat) : Option Queue := s.work.queues.find k
def State.setQueue (s : State) (k : Nat) (q : Queue) : State := { s with work := { s.work with queues := s.work.queues.ins k q } }
def Task.key (t : Task) : Nat := queueKey t.ctx t.queue
def Task.final (t : Task) : Bool := 4 ≤ t.st
def State.taskBy (s : State) (seq : Nat) : Option Task := s.work.tasks.find? fun t => t.seq = seq
def State.updTask (s : State) (seq : Nat) (f : Task → Task) : State :=
  { s with work := { s.work with tasks := s.work.tasks.map fun t => if t.seq = seq then f t else t } }
def State.ctxBy (s : State) (i : Nat) : Option Ctx := s.ctx.tab.find i
/-- The live handle of a context index. -/
def State.handleOf (s : State) (i : Nat) : W16 := w16 (s.ctx.incs.get 0 i * 4096 + i)
/-- The task a context, queue and TAG name: the latest (R272). -/
def State.taskNamed (s : State) (i qn : Nat) (tag : W32) : Option Task :=
  (s.work.tasks.filter fun t => t.ctx = i && t.queue = qn && t.tag = tag).getLast?
/-- The program of a live handle (R274). -/
def State.prog (s : State) (h : Nat) : Option Prog :=
  match s.work.progs.find (h % 256) with
  | some p => if p.inc = h / 4096 ∧ h / 256 % 16 = 0 then some p else none
  | none => none

/-! Fields of a task descriptor (R279); the bound argument table follows its 128 bytes. -/
def Task.form (t : Task) : Nat := leAt t.desc 6 1
def Task.wait (t : Task) : Nat := leAt t.desc 7 1
def Task.seed (t : Task) : Nat := leAt t.desc 8 8
def Task.step (t : Task) : Nat := leAt t.desc 0x10 4
def Task.argCa (t : Task) (i : Nat) : Nat := leAt t.desc (128 + 8 * i) 8

/-- The CA of a tensor of the task's program (R234, R235). -/
def Task.tensorCa (t : Task) (d : TDesc) : Nat :=
  (match d.kind with | 1 => t.argCa d.arg + d.base | 2 => leAt t.desc 0x38 8 + d.base | _ => d.base) % 2 ^ 64

/-! ### Completion records (R278, R285) -/

def taskRecord (t : Task) (q : Queue) (phase : Bool) : Bytes :=
  toLe 4 t.tag.toNat ++ [byte t.queue, byte t.st, t.status, byte (t.flags % 16 + 128 * b2n phase), t.cause, 0] ++ toLe 2 t.opIndex.toNat ++
    toLe 4 (if q.sqSize = 0 then 0 else q.sqHead.toNat) ++ toLe 8 t.startNs.toNat ++ toLe 8 t.endNs.toNat

/-- The record of a final task is sent, or joins those for the completion ring. -/
def deliver (t : Task) (s : State) : State :=
  match s.queue t.key with
  | none => s.updTask t.seq fun t => { t with recDone := true }
  | some q =>
    if q.sqSize = 0 then
      send { cls := .mgt, op := 4, dst := q.notify, src := s.myId, tag := 0, payload := taskRecord t q false }
        (s.updTask t.seq fun t => { t with recDone := true })
    else s.setQueue t.key { q with held := q.held ++ [taskRecord t q false] }

/-- A task becomes final (R281). -/
def finalise (seq st : Nat) (status : Byte) (s : State) : State :=
  match s.taskBy seq with
  | none => s
  | some t =>
    if t.final then s
    else
      let t := { t with st := st, status := status, endNs := s.ptField }
      let s := killAccs (.watch seq) (killAccs (.task seq) (s.updTask seq fun _ => t))
      deliver t (s.count (if st = 4 then .TASK_DONE_CNT else if st = 5 then .TASK_FAIL_CNT else .TASK_CANCEL_CNT))

/-- The next waiting record goes into the completion ring when there is room (R278). -/
def cqStep (k : Nat) (s : State) : State :=
  match s.queue k with
  | none => s
  | some q =>
    match q.held with
    | [] => s
    | r :: rest =>
      if (q.cqTail - q.cqHead).toNat = q.cqSize then
        if q.full then s else (s.setQueue k { q with full := true }).count .CQ_FULL_CNT
      else
        let c := q.cqTail.toNat
        let phase := (c / max 1 q.cqSize + 1) % 2
        let b := splice (splice r 7 [byte (leAt r 7 1 % 128 + 128 * phase)]) 0xC (toLe 4 q.sqHead.toNat)
        match scatterAll (.sq k) none [(q.cqSpa + c % max 1 q.cqSize * 32, b)] s with
        | (none, s) => s
        | (some _, s) =>
          let s := dropOps (.sq k) 6 s
          let s := s.setQueue k { q with held := rest, cqTail := q.cqTail + 1, full := false }
          match s.work.tasks.find? fun t => t.key = k && t.final && !t.recDone && t.tag = w32 (leAt r 0 4) with
          | some t => s.updTask t.seq fun t => { t with recDone := true }
          | none => s

/-! ### Waits (R282) -/

/-- Serial order (R180): is a not older than b? -/
def notOlder (a b : W32) : Bool := a = b || older b.toNat a.toNat

/-- The task submitted before another in its queue. -/
def State.prevTask (s : State) (t : Task) : Option Task :=
  (s.work.tasks.filter fun x => x.key = t.key && x.seq < t.seq).getLast?

/-- The task that a dependency names: the latest before this one with the TAG. -/
def State.depTask (s : State) (t : Task) (off : Nat) : Option Task :=
  (s.work.tasks.filter fun x => x.ctx = t.ctx && x.seq < t.seq && x.tag.toNat = leAt t.desc off 4).getLast?

def State.depMet (s : State) (t : Task) (bitNo off : Nat) : Bool :=
  !bit t.wait bitNo || (match s.depTask t off with | some d => d.st = 4 | none => true)

/-- A dependency has failed or been cancelled. -/
def State.depLost (s : State) (t : Task) : Bool :=
  let lost (bitNo off : Nat) : Bool := bit t.wait bitNo && (s.depTask t off).any fun d => d.st = 5 || d.st = 6
  lost 2 0x28 || lost 3 0x2C

def State.waitsMet (s : State) (t : Task) : Bool :=
  let trig := !bit t.wait 0 ||
    (match s.ctxBy t.ctx with
     | some c => notOlder (c.trigs.get ⟨0, 0, 0, 0⟩ (leAt t.desc 0x14 1)).count (w32 (leAt t.desc 0x18 4))
     | none => false)
  let time := !bit t.wait 1 || (s.ptValid && leAt t.desc 0x20 8 ≤ s.ptNs)
  let order := match s.queue t.key with
    | some q => !q.ordered || (match s.prevTask t with | some p => p.final | none => true)
    | none => true
  trig && time && s.depMet t 2 0x28 && s.depMet t 3 0x2C && order

/-- Wait updates of every WAITING task, oldest first (R281, R283). -/
def waitUpdate (s : State) : State :=
  s.work.tasks.foldl (fun s x =>
    match s.taskBy x.seq with
    | some t =>
      if t.st ≠ 1 then s
      else if s.depLost t then finalise t.seq 6 stOK (s.updTask t.seq fun t => { t with flags := t.flags ||| 8 })
      else if s.waitsMet t then s.updTask t.seq fun t => { t with st := 2 }
      else s
    | none => s) s

/-! ### Submission (R280) -/

/-- Is some core of the tenant in service on this device (R227)? -/
def State.liveCore (s : State) (t : TenantId) : Bool :=
  (indices 144).any fun k => s.sliceTenant (k.val / 9) = some t && (s.core k).st ≠ 5

/-- The program's tensors that overlap in a way R237 forbids, at the addresses bound. -/
def boundOverlap (t : Task) (p : Image) : Bool :=
  let wr := p.written
  let l := List.range p.nT
  l.any fun i => wr.contains i && l.any fun j => j ≠ i && tensorsMeet (p.tensor i) (t.tensorCa (p.tensor i)) (p.tensor j) (t.tensorCa (p.tensor j))

/-- What the checks came to: nothing yet, a failing status, or the task with image and bound arguments. -/
inductive Sub where
  | wait
  | fail (st : Byte)
  | ok (t : Task)

/-- Check 4's translations, one argument after another. -/
def bindArgs (h : W16) (t : Task) (p : Image) : List Nat → State → Option Byte × State
  | [], s => (some stOK, s)
  | i :: r, s =>
    let d := p.tensor i
    if d.kind ≠ 1 then bindArgs h t p r s
    else
      match transStep h (if p.written.contains i then 5 else 1) (t.tensorCa d) s with
      | (none, s) => (none, s)
      | (some (.inl st), s) => (some st, s)
      | (some (.inr _), s) => bindArgs h t p r s

/-- Checks 4 to 6, the image known. -/
def submitRest (t : Task) (need : Nat) (s : State) : Sub × State :=
  let h := s.handleOf t.ctx
  let p := imageOf t.image
  match gatherLines (.task t.seq) 1 (some h) [] [(leAt t.desc 0x30 8, 128)] s with
  | (none, s) => (.wait, s)
  | (some (st, b), s) =>
    if st ≠ stOK then (.fail st, s)
    else
      let t := { t with desc := t.desc.take 128 ++ b }
      match bindArgs h t p (List.range p.nT) s with
      | (none, s) => (.wait, s)
      | (some st, s) =>
        if st ≠ stOK then (.fail st, s)
        else if leAt t.desc 0x40 8 < need ∨ boundOverlap t p then (.fail stBAD_DESCRIPTOR, s)
        else
          match s.ctxBy t.ctx with
          | some c => if s.liveCore c.tenant then (.ok t, s) else (.fail stUNSUPPORTED, s)
          | none => (.fail stNO_ACCESS, s)

/-- The checks of R280 in order. -/
def submitChecks (t : Task) (s : State) : Sub × State :=
  let d := t.desc
  if !s.kcoreEn then (.fail stUNSUPPORTED, s)
  else if leAt d 0x15 3 ≠ 0 ∨ leAt d 0x1C 4 ≠ 0 ∨ !allZero (cut d 0x54 44) ∨ 1 < t.form ∨ 16 ≤ t.wait ∨ 63 < leAt d 0x14 1 ∨
      leAt d 0x38 8 % 64 ≠ 0 ∨ (s.work.tasks.any fun x => x.ctx = t.ctx && x.tag = t.tag && x.seq ≠ t.seq && !x.final) then
    (.fail stBAD_DESCRIPTOR, s)
  else if t.form = 0 then
    let tn := (s.ctxBy t.ctx).map Ctx.tenant
    match s.prog (leAt d 4 2) with
    | some p =>
      if tn = some p.tenant then submitRest { t with prog := some (leAt d 4 2), image := p.image } p.workNeed s else (.fail stBAD_DESCRIPTOR, s)
    | none => (.fail stBAD_DESCRIPTOR, s)
  else if 163904 < leAt d 0x50 4 then (.fail stBAD_DESCRIPTOR, s)
  else
    match gatherLines (.task t.seq) 1 (some (s.handleOf t.ctx)) [] [(leAt d 0x48 8, leAt d 0x50 4)] s with
    | (none, s) => (.wait, s)
    | (some (st, b), s) =>
      if st ≠ stOK then (.fail st, s)
      else
        match loadCheck b with
        | some (.unsupported _) => (.fail stUNSUPPORTED, s)
        | some (.bad _) => (.fail stBAD_DESCRIPTOR, s)
        | none =>
          if isBuiltin b then
            let l := Config.lowering b
            submitRest { t with image := b } (workNeed (imageOf b) l.1 l.2) s
          else (.fail stBAD_DESCRIPTOR, s)

/-- The command that submitted a task by mailbox. -/
def State.submitCmd (s : State) (t : Task) : Option (Nat × CmdHdr) :=
  s.work.cmds.findSome? fun w =>
    match w.cmd with
    | .taskSubmit h d => if ctxIndex h.handle = t.ctx ∧ h.queue.toNat = t.queue ∧ w32 (leAt d 0 4) = t.tag then some (w.n, h) else none
    | _ => none

/-- A dependency that names no task that is not final is met for good; a time already past too, and the record will say LATE (R282). -/
def settleWaits (t : Task) (s : State) : Task :=
  let gone (off : Nat) : Bool := match s.depTask t off with | some d => d.final | none => true
  let late := bit t.wait 1 && s.ptValid && leAt t.desc 0x20 8 ≤ s.ptNs
  let clr (c : Bool) (i w : Nat) : Nat := if c then setBits w i i 0 else w
  let w := clr (gone 0x28) 2 (clr (gone 0x2C) 3 (clr late 1 t.wait))
  { t with desc := splice t.desc 7 [byte w], late := late }

/-- A task in SUBMITTED goes on with its checks. -/
def submitStep (seq : Nat) (s : State) : State :=
  match s.taskBy seq with
  | none => s
  | some t =>
    if t.st ≠ 0 then s
    else
      match submitChecks t s with
      | (.wait, s) => s
      | (.fail st, s) =>
        match s.submitCmd t with
        | some (n, h) =>
          let s := replySt h 0x131 st (cmdClose n s)
          (dropAccs (.task seq) { s with work := { s.work with tasks := s.work.tasks.filter fun x => x.seq ≠ seq } }).count .TASK_FAIL_CNT
        | none => finalise seq 5 st s
      | (.ok t, s) =>
        let t := settleWaits t s
        let s := dropAccs (.task seq) (s.updTask seq fun _ => { t with st := if s.waitsMet t then 2 else 1 })
        match s.submitCmd t with
        | some (n, h) => replyOk h 0x131 [] (cmdClose n s)
        | none => s

/-- Tasks of a context, and all, that are not final (R274). -/
def State.liveIn (s : State) (i : Nat) : Nat := (s.work.tasks.filter fun t => t.ctx = i && !t.final).length
def State.liveTasks (s : State) : Nat := (s.work.tasks.filter fun t => !t.final).length
def State.taskRoom (s : State) (i : Nat) : Bool := s.liveIn i < 256 && s.liveTasks < 16384

/-- A task enters SUBMITTED; a retained final task with its TAG is forgotten once the waits that look at it have been
updated, unless it is the last of its queue, which an ORDERED queue's wait looks at. -/
def newTask (i qn : Nat) (desc : Bytes) (s : State) : Nat × State :=
  let s := waitUpdate s
  let tag := w32 (leAt desc 0 4)
  let n := s.work.taskSeq + 1
  let t : Task :=
    { ctx := i, queue := qn, tag := tag, desc := desc, image := [], prog := none, st := 0, seq := n, op := 0, begun := false, lastSeen := false,
      failing := false, late := false, status := 0, flags := 0, cause := 0, opIndex := 0xFFFF, startNs := 0, endNs := 0, genAt := 0, wrote := [],
      advancing := [], recDone := false, phase := 0 }
  let last := ((s.work.tasks.filter fun x => x.ctx = i && x.queue = qn).getLast?.map Task.seq).getD 0
  let keep := s.work.tasks.filter fun x => !(x.ctx = i && x.queue = qn && x.tag = tag && x.final && x.recDone && x.seq ≠ last)
  (n, { s with work := { s.work with tasks := keep ++ [t], taskSeq := n } }.count .TASK_SUB_CNT)

/-! ### Submission rings (R277, R278) -/

def sqStep (k : Nat) (s : State) : State :=
  match s.queue k with
  | none => s
  | some q =>
    let i := k / 8
    let busy := s.work.tasks.any fun t => t.key = k && t.st = 0
    let open_ := (s.ctxBy i).any fun c => c.st = 1 || c.st = 2
    if q.sqSize = 0 ∨ q.held ≠ [] ∨ q.sqTail = q.sqHead ∨ busy ∨ !open_ ∨ !s.taskRoom i then s
    else
      match gatherLines (.sq k) 1 none [] [(q.sqSpa + q.sqHead.toNat % q.sqSize * 128, 128)] s with
      | (none, s) => s
      | (some (st, b), s) =>
        let s := (dropOps (.sq k) 1 s).setQueue k { q with sqHead := q.sqHead + 1 }
        if st = stOK then
          let (n, s) := newTask i (k % 8) b s
          submitStep n s
        else
          let (r, s) := draw s
          let (n, s) := newTask i (k % 8) (toLe 4 (Config.random r).toNat ++ zeros 124) s
          finalise n 5 st s

/-! ### The operation under way (R236) -/

def Task.img (t : Task) : Image := imageOf t.image
def Task.rec_ (t : Task) : OpRec := t.img.op t.op
def Task.done (t : Task) : Bool := t.img.nO ≤ t.op

/-- Is some core running a tile of the task? -/
def State.tilesOf (s : State) (seq : Nat) : Bool := (indices 144).any fun k => (s.core k).tile = some (.task seq)

/-- The task fails; it is FAILED once its running tiles have stopped (R226, R281). -/
def taskFail (t : Task) (st cause : Byte) (s : State) : State :=
  s.updTask t.seq fun t => if t.failing then t else { t with failing := true, status := st, cause := cause, opIndex := w16 t.op }

/-- Rows of a tensor as ranges of CAs. -/
def rowRanges (ca : Nat) (d : TDesc) (rows : List Nat) : List (Nat × Nat) := rows.map fun r => (ca + d.rowOff r, d.rowLen)

/-- The dense bytes of a tensor of which only some rows were read: the others are not used. -/
def assemble (d : TDesc) (rows : List Nat) (b : Bytes) : Bytes :=
  (List.range d.rows).flatMap fun r =>
    match rows.findIdx? (· = r) with | some i => cut b (i * d.rowLen) d.rowLen | none => zeros d.rowLen

/-- The operation's call, inputs and environment filled in. -/
def Task.call (t : Task) (frac : Nat) (inp : List Bytes) : OpCall :=
  let p := t.img
  let o := t.rec_
  ⟨o, o.inputs.map p.tensor, o.writes.map p.tensor, (List.range (o.attrLen / 4)).map (p.attr o), inp, ⟨t.seed, t.step, frac⟩⟩

/-- One input's needed rows are read. -/
def readInput (t : Task) (i : Nat) (ix : Option (List Nat)) (s : State) : Gathered × State :=
  let o := t.rec_
  let k := t.call 0 []
  let d := k.tx i
  match rowsRead o k.x k.a i ix with
  | none => (none, s)
  | some rows =>
    match gatherLines (.task t.seq) 1 (some (s.handleOf t.ctx)) [] (rowRanges (t.tensorCa d) d rows) s with
    | (some (st, b), s) => (some (st, if st = stOK then assemble d rows b else []), s)
    | (none, s) => (none, s)

/-- Every input is read, those that choose rows by an index after it. -/
def readInputs (t : Task) (s : State) : Option (Byte × List Bytes) × State :=
  let n := t.rec_.inputs.length
  let (ix, s) : Gathered × State := match indexInput t.rec_.code with
    | some i => readInput t i none s
    | none => (some (stOK, []), s)
  match ix with
  | none => (none, s)
  | some (st, b) =>
    if st ≠ stOK then (some (st, []), s)
    else
      let l := (chunksOf 4 (b.length / 4) b).map leNat
      (List.range n).foldl (fun a i =>
        let (r, s) := readInput t i (some l) a.2
        (match a.1, r with
         | some (x, bs), some (y, b) => some (if x ≠ stOK then x else y, bs ++ [b])
         | _, _ => none, s)) (some (stOK, []), s)

/-! REDUCE.FINISH (R248): the region's status, asked for at the start and at the end. -/

/-- The 32 bytes of region status at a CA, by RED_READ with SEL = 0b10. -/
def regionStatus (t : Task) (s : State) : Gathered × State :=
  let ca := t.tensorCa (t.img.tensor (t.rec_.ins.getD 0 0))
  let pl : Bytes := [0, 0, 0, 0, 0, 0, 2, 0]
  let s := if (s.accAt (.task t.seq) 0x11 ca).isSome then s else beginAcc (.task t.seq) 0x11 (some (s.handleOf t.ctx)) ca 32 pl s
  match s.accAt (.task t.seq) 0x11 ca with
  | some a => if a.st = 3 then (some (a.status, a.res), dropOps (.task t.seq) 0x11 s) else (none, s)
  | none => (none, s)

/-- The check at the start: the generation that is read, or the status that fails the task. -/
def finishStart (gen : Nat) (b : Bytes) : Sum Byte Nat :=
  let gDone := leAt b 4 4
  if !bit (leAt b 11 1) 0 then .inl stRETRY_BUSY
  else if gen = 0xFFFFFFFF ∨ gen = gDone then .inr gDone
  else if older gen gDone then .inl stSTALE_GENERATION
  else .inl stBAD_DESCRIPTOR

/-- What precedes the inputs: nothing, but for REDUCE.FINISH the region and its status. FRAC of the region; or the failing status. -/
def opEnter (t : Task) (s : State) : Option (Sum Byte Nat) × State :=
  if t.rec_.code ≠ 0x100 then (some (.inr 0), s)
  else
    match transStep (s.handleOf t.ctx) 1 (t.tensorCa (t.img.tensor (t.rec_.ins.getD 0 0))) s with
    | (none, s) => (none, s)
    | (some (.inl st), s) => (some (.inl st), s)
    | (some (.inr (_, g)), s) =>
      if g.kind ≠ 2 then (some (.inl stBAD_DESCRIPTOR), s)
      else if t.genAt ≠ 0 then (some (.inr g.frac), s)
      else
        match regionStatus t s with
        | (none, s) => (none, s)
        | (some (st, b), s) =>
          if st ≠ stOK then (some (.inl st), s)
          else
            match finishStart (t.img.attr t.rec_ 1) b with
            | .inl st => (some (.inl st), s)
            | .inr gen => (some (.inr g.frac), s.updTask t.seq fun t => { t with genAt := gen + 1 })

/-- What follows the last tile of REDUCE.FINISH: GEN_DONE unchanged, and the flags of the generation. -/
def opLeave (t : Task) (s : State) : Option (Sum Byte Nat) × State :=
  if t.rec_.code ≠ 0x100 then (some (.inr 0), s)
  else
    match regionStatus t s with
    | (none, s) => (none, s)
    | (some (st, b), s) =>
      if st ≠ stOK then (some (.inl st), s)
      else if leAt b 4 4 + 1 ≠ t.genAt then (some (.inl stSTALE_GENERATION), s)
      else (some (.inr (4 * b2n (bit (leAt b 11 1) 2) + b2n (bit (leAt b 11 1) 3))), s)

def Flags.code (f : Flags) : Nat := b2n f.nan + 2 * b2n f.inf + 4 * b2n f.sat

/-- The operation is over: the next begins. -/
def nextOp (t : Task) (s : State) : State :=
  dropAccs (.watch t.seq) (dropAccs (.task t.seq) (s.updTask t.seq fun t =>
    { t with op := t.op + 1, begun := false, lastSeen := false, genAt := 0, phase := 0 }))

/-- The plain and tracked regions that an operation's outputs lie in (R196). -/
def State.regionsAt (s : State) (h : W16) (cas : List Nat) : List Nat :=
  ((cas.filterMap fun a => s.caRegion h a).filter fun n => (s.region n).any fun g => g.kind ≤ 1).eraseDups

/-- The operation's reads, result and writes. -/
def opStep (t : Task) (s : State) : State :=
  match opEnter t s with
  | (none, s) => s
  | (some (.inl st), s) => taskFail t st 0 s
  | (some (.inr frac), s) =>
    let t := (s.taskBy t.seq).getD t
    match readInputs t s with
    | (none, s) => s
    | (some (st, inp), s) =>
      if st ≠ stOK then taskFail t st 0 s
      else if !t.lastSeen ∨ s.tilesOf t.seq then s
      else
        match evalOp (t.call frac inp) with
        | .bad => taskFail t stBAD_DESCRIPTOR 0 s
        | .ok ws f =>
          let o := t.rec_
          let l := ws.flatMap fun w =>
            let ca := t.tensorCa (t.img.tensor (o.writes.getD w.1 0))
            w.2.map fun r => (ca + r.1, r.2)
          match scatterAll (.task t.seq) (some (s.handleOf t.ctx)) l s with
          | (none, s) => s
          | (some st, s) =>
            if st ≠ stOK then taskFail t st 0 s
            else
              match opLeave t s with
              | (none, s) => s
              | (some (.inl st), s) => taskFail t st 0 s
              | (some (.inr fl), s) =>
                let rs := s.regionsAt (s.handleOf t.ctx) (l.map Prod.fst)
                s.updTask t.seq fun t =>
                  { t with flags := t.flags ||| f.code ||| fl, wrote := (t.wrote ++ rs).eraseDups, phase := 1 }

/-! ### Tensor watches (R461, R462) -/

/-- The watches that an operation's outputs call for, in order. -/
def State.watchesOf (s : State) (t : Task) : List Watch :=
  match t.prog with
  | some h => s.obs.watches.filter fun w => w.prog = h && t.rec_.writes.contains w.tensor
  | none => []

def State.updWatch (s : State) (w : Watch) (f : Watch → Watch) : State :=
  { s with obs := { s.obs with watches := s.obs.watches.map fun x => if x.prog = w.prog && x.num = w.num then f x else x } }

/-- One watch runs over the tensor, and its record is written. -/
def watchStep (t : Task) (w : Watch) (s : State) : State :=
  let h := s.handleOf t.ctx
  let d := t.img.tensor w.tensor
  let next (s : State) : State := dropAccs (.watch t.seq) (s.updTask t.seq fun t => { t with phase := t.phase + 1 })
  match gatherLines (.watch t.seq) 1 (some h) [] (rowRanges (t.tensorCa d) d (List.range d.rows)) s with
  | (none, s) => s
  | (some (st, b), s) =>
    let body := if st ≠ stOK then zeros (if w.digest then 48 else 320)
      else if w.digest then sha384 b
      else statsRecord (f32.dec w.lo.toNat) (f32.dec w.hi.toNat) ((decodeVals d.fmt d.count b).map r32)
    let r := toLe 4 t.tag.toNat ++ toLe 4 t.step ++ toLe 2 t.op ++ [byte w.num, byte (b2n w.digest), st, 0, 0, 0] ++ toLe 8 w.n ++
      toLe 8 s.ptField.toNat
    match scatterAll (.watch t.seq) (some h) [(w.dest + 512 * (w.n % max 1 w.slots), padTo 64 r ++ body)] s with
    | (none, s) => s
    | (some x, s) =>
      if x = stOK then next (s.updWatch w fun w => { w with n := w.n + 1 })
      else
        let s := logEv ⟨7, .fault, w.num, 0, x, 0, ((s.ctxBy t.ctx).map fun c => c.tenant.val).getD 0xFF, toLe 2 w.prog⟩ s
        next { s with obs := { s.obs with watches := s.obs.watches.filter fun x => !(x.prog = w.prog && x.num = w.num) } }

/-! ### TRIG_RAISE (R243, R276) -/

/-- A raise goes to every active device. -/
def raiseAll (handle : W16) (tag : Nat) (s : State) : State :=
  s.activeIds.foldl (fun s d =>
    coordSend d 5 (toLe 2 handle.toNat ++ [byte tag, 0] ++ zeros 8) none 0 s) s

def trigOp (t : Task) (s : State) : State :=
  let h := w16 (t.img.attr t.rec_ 0)
  let tag := t.img.attr t.rec_ 1
  let mine := (s.ctxBy t.ctx).map Ctx.tenant
  let s := if (s.liveCtx h).map Ctx.tenant = mine ∧ mine.isSome then raiseAll h tag s
    else logEv ⟨7, .refused, t.op, 0, 0, 0, (mine.map Fin.val).getD 0xFF, toLe 2 h.toNat⟩ s
  nextOp t s

/-! ### One task goes on -/

/-- The last operation is complete: contents advance (R196, R198), then DONE. -/
def taskEnd (t : Task) (s : State) : State :=
  let new := t.wrote.filter fun n => !t.advancing.contains n
  if new ≠ [] then
    let s := new.foldl (fun s n => sendInval n none (advanceGen n s)) s
    s.updTask t.seq fun t => { t with advancing := t.wrote }
  else if t.advancing.any fun n => s.unacked 9 n none then s
  else finalise t.seq 4 (if t.late then stLATE else stOK) s

def taskStep (seq : Nat) (s : State) : State :=
  match s.taskBy seq with
  | none => s
  | some t =>
    match t.st with
    | 0 => submitStep seq s
    | 3 =>
      if t.failing then (if s.tilesOf seq then s else finalise seq 5 t.status s)
      else if t.done then taskEnd t s
      else if t.rec_.code = 0x00D then trigOp t s
      else if t.phase = 0 then (if t.begun then opStep t s else s)
      else
        match (s.watchesOf t)[t.phase - 1]? with
        | some w => watchStep t w s
        | none => nextOp t s
    | _ => s

end Sys2Proof.Machine
end

