-- ==== Sys2Proof/Machine/Compute.lean ====
section
/-! DEFINITION. Computed blocks (spec 06, R192 to R198): which bytes of the sources a block needs, the block's bytes, and how its computation
ends. -/

namespace Sys2Proof.Machine

/-! ### What a block needs of its sources -/

/-- Columns c0 to c1 − 1 of a row of a source. -/
structure Piece where
  row : Nat
  c0 : Nat
  c1 : Nat
deriving DecidableEq, Repr

/-- The elements of the output that a block at offset `off` holds: the first, and one past the last. -/
def Region.blkElems (g : Region) (off : Nat) : Nat × Nat :=
  let z := rowBytes g.ofmt 1
  let e := off / z
  (e, min (e + 16384 / z) (g.outRows * g.cols))

/-- The rows that elements e0 to e1 − 1 lie in, with the columns of each. -/
def spansOf (cols e0 e1 : Nat) : List Piece :=
  if e1 ≤ e0 then []
  else
    let m0 := e0 / max 1 cols
    let m1 := (e1 - 1) / max 1 cols
    (List.range (m1 - m0 + 1)).map fun i =>
      ⟨m0 + i, if i = 0 then e0 - m0 * cols else 0, if m0 + i = m1 then e1 - m1 * cols else cols⟩

/-- The columns that some span touches. -/
def colsOf (cols : Nat) (l : List Piece) : List (Nat × Nat) :=
  match l with
  | [] => []
  | [p] => [(p.c0, p.c1)]
  | [p, q] => if q.c1 < p.c0 then [(0, q.c1), (p.c0, cols)] else [(0, cols)]
  | _ => [(0, cols)]

/-- A block format is read in whole blocks of 32 (R212). -/
def widen (fmt : Nat) (p : Piece) : Piece := if isBlock fmt then ⟨p.row, p.c0 / 32 * 32, cdiv p.c1 32 * 32⟩ else p

/-- The pieces of a source that do not depend on another's contents; `l`: the output's rows and columns. -/
def Region.piecesOf (g : Region) (l : List Piece) (i : Nat) : List Piece :=
  match g.recipe, i with
  | 1, 1 => l.map fun p => ⟨p.row, 0, g.rank⟩
  | 1, 2 => (List.range g.rank).flatMap fun k => (colsOf g.cols l).map fun c => ⟨k, c.1, c.2⟩
  | 3, 1 => l.map fun p => ⟨p.row, 0, g.rank⟩
  | _, _ => l.map (widen g.ifmt)

/-- The byte range of a piece of a source tensor, as SPAs. -/
def pieceRange (base fmt cols : Nat) (p : Piece) : Nat × Nat :=
  (base + p.row * rowBytes fmt cols + rowBytes fmt p.c0, rowBytes fmt (p.c1 - p.c0))

/-! ### Reading a source (R194, R195) -/

/-- How far the computation of a block is: not there yet; it begins again; it fails, or answers RETRY_BUSY with a hint; its bytes. -/
inductive Calc where
  | wait
  | again
  | fail (st : Byte) (hint : Nat)
  | ok (b : Bytes)

/-- What reading one source came to. -/
inductive SrcRead where
  | wait
  | again
  | fail (st : Byte) (hint : Nat)
  | ok (b : Bytes)

/-- The status of a reduction source: RED_READ with SEL = 0b10, at the middle of the first line that is read, which no other access of the
block names. -/
def srcStatus (ag : Agent) (a : Nat) (s : State) : Gathered × State :=
  let a := a / 128 * 128 + 64
  let s := if (s.accAt ag 0x11 a).isSome then s else beginAcc ag 0x11 none a 32 [0, 0, 0, 0, 0, 0, 2, 0] s
  match s.accAt ag 0x11 a with
  | some x => (if x.st = 3 then some (x.status, x.res) else none, s)
  | none => (none, s)

/-- Pieces of a source are read with the operation its kind asks for. -/
def readSource (ag : Agent) (r : Region) (l : List (Nat × Nat)) (s : State) : SrcRead × State :=
  if r.st = 2 then (.fail stRETRY_BUSY (hintNs 100000), s)
  else if r.st ≠ 1 then (.fail stFATAL_REGION 0, s)
  else
    let judge (x : Gathered × State) : SrcRead × State :=
      match x with
      | (none, s) => (.wait, s)
      | (some (st, b), s) =>
        if st = stOK then (.ok b, s)
        else if r.kind = 2 ∧ (st = stSTALE_GENERATION ∨ st = stRETRY_BUSY) then (.again, s)
        else (.fail st 0, s)
    if r.kind ≠ 2 then judge (gatherLines ag 1 none [] l s)
    else
      match srcStatus ag (l.headD (r.spa, 0)).1 s with
      | (none, s) => (.wait, s)
      | (some (st, b), s) =>
        if st = stSTALE_GENERATION ∨ st = stRETRY_BUSY then (.again, s)
        else if st ≠ stOK then (.fail st 0, s)
        else if !bit (leAt b 11 1) 0 then (.fail stRETRY_BUSY (hintNs 100000), s)
        else judge (gatherLines ag 0x11 none (cut b 4 4 ++ [0, 0, 0, 0]) l s)

/-- Values of a source by row and column. -/
abbrev SrcVals := List (Piece × List FVal)

def valsOf (fmt : Nat) : List Piece → Bytes → SrcVals
  | [], _ => []
  | p :: r, b =>
    let n := rowBytes fmt (p.c1 - p.c0)
    (p, decodeVals fmt (p.c1 - p.c0) (b.take n)) :: valsOf fmt r (b.drop n)

def SrcVals.val (v : SrcVals) (r c : Nat) : FVal :=
  match v.find? fun e => e.1.row = r && e.1.c0 ≤ c && c < e.1.c1 with
  | some e => e.2.getD (c - e.1.c0) .nan
  | none => .nan

/-- One output element (R252, R253, R255). -/
def Region.element (g : Region) (v0 v1 v2 : SrcVals) (ix : List (Nat × List Nat)) (m c : Nat) : FVal :=
  match g.recipe with
  | 1 => chunkedSum (r32 (v0.val m c)) ((List.range g.rank).map fun k => (v1.val m k).mul (v2.val k c))
  | 2 => v0.val m c
  | _ =>
    let l := (((ix.find? fun e => e.1 = m).map Prod.snd).getD []).filter (· ≠ 0xFFFFFFFF)
    let x := chunkedSum .zero (l.map fun i => r32 (v0.val i c))
    if bit g.opt 0 ∧ l ≠ [] then divF x (r32 (.ofInt l.length)) else x

/-- Sources of the recipe read one after another; a GATHER's indices come before its table. -/
def readSources (ag : Agent) (g : Region) (l : List Piece) : List Nat → List (Nat × List Piece × Bytes) → State →
    (Option (Calc ⊕ List (Nat × List Piece × Bytes))) × State
  | [], acc, s => (some (.inr acc), s)
  | i :: rest, acc, s =>
    match s.region (g.src i), g.srcTensors[i]? with
    | some r, some (fmt, rows, cols) =>
      let ps : List Piece :=
        if g.recipe = 3 ∧ i = 0 then
          let ix := ((acc.find? fun x => x.1 = 1).map fun x => (chunksOf 4 (x.2.2.length / 4) x.2.2).map leNat).getD []
          let used := (List.range rows).filter ix.contains
          used.flatMap fun k => (colsOf g.cols l).map fun c => widen fmt ⟨k, c.1, c.2⟩
        else g.piecesOf l i
      match readSource ag r (ps.map (pieceRange (r.spa + g.srcOff i) fmt cols)) s with
      | (.wait, s) => (none, s)
      | (.again, s) => (some (.inl .again), s)
      | (.fail st h, s) => (some (.inl (.fail st h)), s)
      | (.ok b, s) => readSources ag g l rest (acc ++ [(i, ps, b)]) s
    | _, _ => (some (.inl (.fail stFATAL_REGION 0)), s)

/-- The bytes of a block from what was read of its sources (R192). -/
def Region.blockBytes (g : Region) (e0 e1 : Nat) (got : List (Nat × List Piece × Bytes)) : Calc :=
  let src (i : Nat) : List Piece × Bytes := ((got.find? fun x => x.1 = i).map Prod.snd).getD ([], [])
  let fmt (i : Nat) : Nat := (g.srcTensors.getD i (0, 0, 0)).1
  let v (i : Nat) : SrcVals := valsOf (fmt i) (src i).1 (src i).2
  let words := (chunksOf 4 ((src 1).2.length / 4) (src 1).2).map leNat
  let ix : List (Nat × List Nat) :=
    if g.recipe = 3 then
      ((List.range (src 1).1.length).zip (src 1).1).map fun p => (p.2.row, (words.drop (p.1 * g.rank)).take g.rank)
    else []
  if ix.any fun e => e.2.any fun i => g.rows ≤ i && i ≠ 0xFFFFFFFF then .fail stBAD_DESCRIPTOR 0
  else
    let v1 : SrcVals := if g.recipe = 1 then v 1 else []
    let v2 : SrcVals := if g.recipe = 1 then v 2 else []
    let v0 := v 0
    let vals := (List.range (e1 - e0)).map fun i => g.element v0 v1 v2 ix ((e0 + i) / max 1 g.cols) ((e0 + i) % max 1 g.cols)
    .ok (padTo 16384 (encodeVals g.ofmt vals (fun _ => none)).1)

def Comp.agent (c : Comp) : Agent := .block c.region c.blk c.epoch
def Comp.tile (c : Comp) : TileOf := .block c.region c.blk c.epoch
def Comp.same (c d : Comp) : Bool := c.region = d.region && c.blk = d.blk && c.epoch = d.epoch

def State.updComp (s : State) (c : Comp) (f : Comp → Comp) : State :=
  { s with work := { s.work with comps := s.work.comps.map fun d => if d.same c then f d else d } }

/-- The block's reads go on; what they come to. -/
def calcBlock (c : Comp) (g : Region) (s : State) : Calc × State :=
  let m := (s.memberOf g).getD 0
  let (e0, e1) := g.blkElems (dpaToSpa g m (c.blk * 16384) - g.spa)
  let l := spansOf g.cols e0 e1
  let order := if g.recipe = 3 then [1, 0] else List.range g.srcTensors.length
  if l = [] then (.ok (zeros 16384), s)
  else
    match readSources c.agent g l order [] s with
    | (none, s) => (.wait, s)
    | (some (.inl x), s) => (x, s)
    | (some (.inr got), s) => (if c.ended then g.blockBytes e0 e1 got else .wait, s)

/-! ### The end of a computation -/

/-- The core that runs the block's tile is free. -/
def freeCore (t : TileOf) (s : State) : State :=
  (indices 144).foldl (fun s k =>
    if (s.core k).tile = some t then
      ({ s with work := { s.work with cores := upd s.work.cores k fun x => { x with st := if x.st = 2 then 1 else x.st, tile := none } },
                pwr := { s.pwr with lastTile := s.time.nclk } }).count .TILE_CNT k.val
    else s) s

/-- Every request that waits on the block is answered with a status; nothing is kept. -/
def compFail (c : Comp) (st : Byte) (hint : Nat) (s : State) : State :=
  let s := killAccs c.agent (freeCore c.tile s)
  let s := { s with work := { s.work with comps := s.work.comps.filter fun d => !d.same c } }
  c.waiters.foldl (fun s id => refuse id st hint s) s

/-- Waiting requests are answered from the block's bytes. -/
def compAnswer (c : Comp) (s : State) : State :=
  c.waiters.foldl (fun s id =>
    match s.trk id with
    | some t => answer id (datMsg 1 t.r (cut c.data (t.dpa % 16384) (t.r.len.toNat + 1)) t.r.len.toNat) s
    | none => s) (s.updComp c fun d => { d with waiters := [] })

/-- With MAT, a result whose epoch still holds is stored and stamped (R197, R198); otherwise it is discarded. -/
def compStore (c : Comp) (g : Region) (s : State) : State :=
  let drop (s : State) : State := { s with work := { s.work with comps := s.work.comps.filter fun d => !d.same c } }
  if !g.mat ∨ g.matEpoch ≠ c.epoch then drop s
  else
    let sl := s.blockHome g ((s.memberOf g).getD 0) c.blk
    match ensure sl c.blk c.region g s with
    | (.wait _, s) => s
    | (.refuse _ _, s) => drop s
    | (.ok, s) =>
      let s := (List.range 128).foldl (fun s i => storeBytes sl g.tenant (c.blk * 16384 + 128 * i) (cut c.data (128 * i) 128) s) s
      let s := bypassEnd sl c.blk g true s
      drop { s with rgn := { s.rgn with stamps := s.rgn.stamps.put 0 (stampKey c.region c.blk) (c.epoch + 1) } }

/-- A computed block goes on. -/
def compStep (c : Comp) (s : State) : State :=
  match s.region c.region with
  | none => compFail c stFATAL_REGION 0 s
  | some g =>
    if c.data ≠ [] then compStore c g (compAnswer c s)
    else if !c.dispatched then s
    else
      match calcBlock c g s with
      | (.wait, s) => s
      | (.again, s) =>
        if c.restarted then
          if c.ended then
            let (k, s) := draw s
            compFail c stRETRY_BUSY ((Config.random k).toNat % 4096) s
          else s
        else (killAccs c.agent s).updComp c fun d => { d with restarted := true }
      | (.fail st h, s) => if c.ended then compFail c st h s else s
      | (.ok b, s) =>
        let q := s.blockHome g ((s.memberOf g).getD 0) c.blk / 4
        let s := killAccs c.agent (freeCore c.tile (s.count .CMP_BLK_CNT q))
        let c := { c with data := b }
        compStore c g (compAnswer c (s.updComp c fun _ => c))

/-- CMP_BLOCK_DONE: the core reports the block over. -/
def cmpBlockDoneRun (region blk : Nat) (s : State) : State :=
  match s.work.comps.find? fun c => c.region = region && c.blk = blk && c.dispatched && !c.ended with
  | some c => s.updComp c fun d => { d with ended := true }
  | none => s

end Sys2Proof.Machine
end

