-- ==== Sys2Proof/Machine/Sched.lean ====
section
/-! DEFINITION. Kernel cores (spec 07, R225 to R229; R411) and the scheduler core's step (09, R283, R284). -/

namespace Sys2Proof.Machine

def State.updCore (s : State) (k : CoreId) (f : CoreSt → CoreSt) : State :=
  { s with work := { s.work with cores := upd s.work.cores k f } }

def State.coreSt (s : State) (k : CoreId) : CoreSt := s.core k

def coreSlice (k : CoreId) : Fin 16 := ⟨k.val / 9, by omega⟩

/-- The tenant of a core's slice. -/
def State.coreTenant (s : State) (k : CoreId) : Option TenantId := s.sliceTenant (k.val / 9)

/-! ### Candidates (R284) -/

/-- Is the core ready for a tile: IDLE, not held out of dispatch by the cap (R431; the highest cores of a slice go first)? -/
def State.coreReady (s : State) (k : CoreId) : Bool :=
  (s.coreSt k).st = 1 && k.val % 9 + s.pwr.outOf[coreSlice k] < 9 && s.pwr.pfPhase = 0 &&
    s.su.drain.isNone && (s.quarts.toList.getD (k.val / 36) ⟨0, none⟩).drain.isNone

/-- How many tiles of a task's operation may run at once: what its lowering allows (R258). -/
def Task.width (t : Task) : Nat := 1 + (Config.lowering t.image).1 % outTiles t.img t.rec_

def State.running (s : State) (seq : Nat) : Nat := ((indices 144).filter fun k => (s.coreSt k).tile = some (.task seq)).length

/-- Does a READY or RUNNING task have a tile not yet dispatched? -/
def State.hasTile (s : State) (t : Task) : Bool :=
  (t.st = 2 || t.st = 3) && !t.failing && !t.done && t.rec_.code ≠ 0x00D && t.phase = 0 && !t.lastSeen && s.running t.seq < t.width

/-- The oldest task of a queue with a tile to dispatch. -/
def State.nextTask (s : State) (k : Nat) : Option Task := s.work.tasks.find? fun t => t.key = k && s.hasTile t

/-- May tiles of the queue be dispatched: it is OPEN and its context LIVE? -/
def State.queueRuns (s : State) (k : Nat) (q : Queue) : Bool := q.st = 1 && (s.ctxBy (k / 8)).any fun c => c.st = 1

/-- The oldest computed block of a slice that no core has taken. -/
def State.nextBlock (s : State) (sl : Nat) : Option Comp :=
  s.work.comps.find? fun c => !c.dispatched && c.data = [] &&
    (match s.region c.region with | some g => s.blockHome g ((s.memberOf g).getD 0) c.blk = sl | none => false)

/-- The number under which block work stands among a tenant's queues: after them all. -/
def blockKey : Nat := 2 ^ 20

/-- What a core may take: priority and queue, block work among them. -/
def State.candidates (s : State) (sl : Nat) (t : TenantId) : List (Nat × Nat) :=
  (s.work.queues.filterMap fun e =>
    if s.queueRuns e.1 e.2 && ((s.ctxBy (e.1 / 8)).any fun c => c.tenant = t) && (s.nextTask e.1).isSome then some (e.2.prio, e.1) else none) ++
    (if (s.nextBlock sl).isSome then [(0, blockKey)] else [])

/-- The next of a list of rising queue numbers after the one served last. -/
def roundRobin (last : Nat) (l : List Nat) : Option Nat :=
  match l.find? fun k => last < k with | some k => some k | none => l.head?

/-- The queue a core takes from: the highest priority, round-robin within it. -/
def State.pickQueue (s : State) (sl : Nat) (t : TenantId) : Option (Nat × Nat) :=
  let l := s.candidates sl t
  match (List.range 4).find? fun p => l.any fun e => e.1 = p with
  | none => none
  | some p =>
    let last := s.work.rr.get 0 (t.val * 4 + p)
    (roundRobin last ((l.filter fun e => e.1 = p).map fun e => e.2 + 1)).map fun k => (p, k - 1)

/-! ### Dispatch -/

/-- A core takes a tile: the device leaves IDLE at its first (R428). -/
def giveTile (k : CoreId) (w : TileOf) (s : State) : State :=
  let s := s.updCore k fun c => { c with st := 2, tile := some w, since := s.time.nclk }
  { s with pwr := { s.pwr with st := if s.pwr.st = 1 then 0 else s.pwr.st, lastTile := s.time.nclk, lastDispatch := s.time.nclk } }

/-- A task's next tile goes to a core; its first one dates START_NS (R285), TRIG_RAISE operations before it having none (R243). -/
def giveTask (k : CoreId) (t : Task) (s : State) : State :=
  let first := !t.begun && (List.range t.op).all fun i => (t.img.op i).code = 0x00D
  let s := s.updTask t.seq fun t =>
    { t with st := 3, begun := true, startNs := if first then s.ptField else t.startNs }
  giveTile k (.task t.seq) s

def dispatchOne (k : CoreId) (s : State) : State :=
  match s.coreTenant k with
  | none => s
  | some t =>
    if !s.coreReady k then s
    else
      match s.pickQueue (k.val / 9) t with
      | none => s
      | some (p, q) =>
        let s := { s with work := { s.work with rr := s.work.rr.put 0 (t.val * 4 + p) (q + 1) } }
        if q = blockKey then
          match s.nextBlock (k.val / 9) with
          | some c => giveTile k c.tile (s.updComp c fun d => { d with dispatched := true })
          | none => s
        else
          match s.nextTask q with
          | some t => giveTask k t s
          | none => s

/-- Is there a tile that some core would take? -/
def State.tileWaits (s : State) : Bool :=
  (indices 16).any fun sl => match s.sliceTenant sl with | some t => (s.pickQueue sl t).isSome | none => false

/-- In DOZE a tile brings the cores back in waves (R411, R428). -/
def wakeDoze (s : State) : State :=
  if s.pwr.st = 2 ∧ s.tileWaits then { s with pwr := { s.pwr with st := 0 }, su := { s.su with wave := 0, waveAt := s.time.nclk } } else s

/-! ### Before dispatch -/

/-- A cancel that was received: a final task conflicts, any other is CANCELLED (R283). -/
def cancelOne (x : Nat × CmdHdr) (s : State) : State :=
  match s.taskBy x.1 with
  | none => replySt x.2 0x132 stBAD_DESCRIPTOR s
  | some t => if t.final then replyConflict x.2 0x132 t.st s else replyOk x.2 0x132 [] (finalise t.seq 6 stOK s)

def cancelAll (s : State) : State :=
  let l := s.work.cancels
  l.foldl (fun s x => cancelOne x s) { s with work := { s.work with cancels := [] } }

/-- Tasks of a context that is being destroyed are cancelled (R272). -/
def cancelDestroyed (s : State) : State :=
  s.work.tasks.foldl (fun s t => if !t.final && ((s.ctxBy t.ctx).any fun c => c.st = 3) then finalise t.seq 6 stOK s else s) s

/-- Tasks whose tenant has no core in service fail (R227). -/
def failCoreless (s : State) : State :=
  s.work.tasks.foldl (fun s t =>
    match s.ctxBy t.ctx with
    | some c =>
      if (t.st = 2 ∨ t.st = 3) ∧ !s.liveCore c.tenant then
        if t.st = 2 then finalise t.seq 5 stUNSUPPORTED s else taskFail t stUNSUPPORTED 0 s
      else s
    | none => s) s

/-- A READY task that begins with TRIG_RAISE runs without a tile (R243). -/
def startTriggers (s : State) : State :=
  s.work.tasks.foldl (fun s t =>
    let runs : Bool := (s.queue t.key).any fun q => s.queueRuns t.key q
    if t.st = 2 ∧ runs ∧ !t.done ∧ t.rec_.code = 0x00D then s.updTask t.seq fun t => { t with st := 3 } else s) s

/-- The order of R283: completions have been applied when they came; cancels; waits; dispatch. -/
def schedRun (s : State) : State :=
  let s := cancelDestroyed (cancelAll s)
  let s := wakeDoze (startTriggers (failCoreless (waitUpdate s)))
  (indices 144).foldl (fun s k => dispatchOne k s) s

/-- SCHED_STEP, every 100 ns. -/
def schedStepRun (s : State) : State := schedRun (pace paceSched (nsec 100) s)

/-! ### Tiles end (R281, R448, R449) -/

/-- What a tile did on its core's engine, whittlers, scratchpad and mover: how much follows from the lowering, which the spec leaves open. -/
def tileCounters (k : CoreId) (s : State) : State :=
  [Reg.ENG_OPS, .WHT_FLOPS, .SPAD_RD_BYTES, .SPAD_WR_BYTES, .DMA_IN_BYTES, .DMA_OUT_BYTES].foldl (fun s r =>
    let (n, s) := draw s
    s.count r k.val (Config.random n).toNat) (s.count .TILE_CNT k.val)

def tileDoneRun (k : CoreId) (last : Bool) (s : State) : State :=
  let c := s.coreSt k
  if c.st ≠ 2 then s
  else
    let s := tileCounters k (s.updCore k fun c => { c with st := 1, tile := none })
    let s := { s with pwr := { s.pwr with lastTile := s.time.nclk } }
    match c.tile with
    | some (.task seq) => if last then s.updTask seq fun t => { t with lastSeen := true } else s
    | some (.block _ _ _) | none => s

/-! ### Faults and resets (R226 to R229) -/

/-- A fault is captured (R229). -/
def kcCapture (k : CoreId) (cause : Nat) (s : State) : State :=
  let v := (s.reg .KC_FAULT k.val).toNat
  s.setReg .KC_FAULT k.val (w32 (if v.testBit 31 then setBits v 30 30 1 else 2 ^ 31 + cause % 256))

/-- Tenant, context, queue and TAG of what a core was running, for its event. -/
def State.tileData (s : State) (w : Option TileOf) : Nat × Bytes :=
  match w with
  | some (.task seq) =>
    match s.taskBy seq with
    | some t => (((s.ctxBy t.ctx).map fun c => c.tenant.val).getD 0xFF,
        toLe 2 (s.handleOf t.ctx).toNat ++ [byte t.queue, 0] ++ toLe 4 t.tag.toNat)
    | none => (0xFF, [])
  | some (.block _ _ _) | none => (0xFF, [])

/-- A kernel core reset begins: everything in the core is cleared. -/
def kcStart (k : CoreId) (s : State) : State :=
  (s.updCore k fun c => { c with st := 4, tile := none, since := s.time.nclk, cleared := false }).count .KC_RESET_CNT k.val

/-- A core fault: the core stops, its tile's task fails with POISON, and the core is reset. -/
def coreFail (k : CoreId) (cause : Nat) (s : State) : State :=
  let c := s.coreSt k
  if c.st = 0 ∨ c.st = 5 then s
  else
    let (tn, d) := s.tileData c.tile
    let s := logEv ⟨7, .fault, k.val, cause, stPOISON, 3, tn, d⟩ (kcCapture k cause s)
    let s := if cause = 1 then s.count .SPAD_UE_CNT k.val else if cause = 2 then s.count .LMEM_UE_CNT k.val else s
    let s : State := match c.tile with
      | some (.task seq) => (match s.taskBy seq with | some t => taskFail t stPOISON cause s | none => s)
      | some (.block r b e) =>
        (match s.work.comps.find? fun x => x.region = r && x.blk = b && x.epoch = e with | some x => compFail x stPOISON 0 s | none => s)
      | none => s
    kcStart k ((s.updCore k fun c => { c with st := 3, tile := none }).busy .KC_CMD_RESULT k.val)

/-- The watchdog counts from the tile's dispatch (R228). -/
def kcWatchdogRun (k : CoreId) (s : State) : State :=
  let c := s.coreSt k
  if c.st ≠ 2 then s else coreFail k 8 (advanceTo (c.since + msec (s.rfld .KC_WDOG k.val 13 0)) s)

def kcConflict (k : CoreId) (code : Nat) (s : State) : State := conflict .KC_CMD_RESULT k.val 7 k.val code s

/-- A write to KC_CMD: 0x01 KC_RESET; while a reset or self-test runs, BUSY reads 1 (R229, R490). -/
def kcCmdRun (k : CoreId) (cmd : Nat) (s : State) : State :=
  let st := (s.coreSt k).st
  if s.isBusy .KC_CMD_RESULT k.val ∨ st = 4 then refusedBusy 7 k.val cmd st s
  else if cmd ≠ 1 then answered .KC_CMD_RESULT k.val stUNSUPPORTED s
  else if st = 1 ∨ st = 3 ∨ st = 5 then kcStart k (s.busy .KC_CMD_RESULT k.val)
  else kcConflict k st s

/-- The clearing, of 26 µs, ends; the self-test begins. -/
def kcClearDoneRun (k : CoreId) (s : State) : State :=
  let c := s.coreSt k
  if c.st ≠ 4 ∨ c.cleared then s
  else (advanceTo (c.since + usec 26) s).updCore k fun c => { c with cleared := true }

/-- The self-test ends. The spec names no status for a KC_RESET whose self-test fails: the STATUS is a free value. -/
def kcSelftestRun (k : CoreId) (pass : Bool) (s : State) : State :=
  let c := s.coreSt k
  if c.st ≠ 4 ∨ !c.cleared then s
  else
    let cmd := s.isBusy .KC_CMD_RESULT k.val
    let s := s.updCore k fun c => { c with st := if pass then 1 else 5, cleared := false }
    if pass then (if cmd then answered .KC_CMD_RESULT k.val stOK s else s)
    else
      let s := logEv ⟨7, .fault, k.val, 7, 0, 5, 0xFF, []⟩ (kcCapture k 7 s)
      if cmd then
        let (n, s) := draw s
        answered .KC_CMD_RESULT k.val (byte (Config.random n).toNat) s
      else s

/-! ### Core waves (R411) -/

/-- Is a slice in use, or to be: assigned, being cleared for a tenant, or assigned by the PARTITION record before step 12 has opened
service (R339, R340, R494)? -/
def State.sliceInUse (s : State) (i : Fin 16) : Bool :=
  (s.slice i).st = 1 || ((s.slice i).st = 2 && (s.slice i).after.isSome) || (!s.su.doneSteps.contains 12 && bit (leAt (s.recOf 8) i.val 1) 7)

/-- The next wave of six cores: those that are OFF, of slices in use and in quarters that are on, are powered and run their self-test. -/
def coreWaveRun (s : State) : State :=
  let w := s.su.wave
  if 24 ≤ w ∨ !s.kcoreEn ∨ !(s.su.running.contains 6 || s.su.doneSteps.contains 6) ∨ 2 ≤ s.pwr.st then s
  else
    let s := if w = 0 then s else advanceTo (s.su.waveAt + usec 60) s
    let on : Bool := (s.quarts.toList.map Quart.st).getD (w / 6) 0 = 2
    let s := { s with su := { s.su with wave := w + 1, waveAt := s.time.nclk } }
    if !on then s
    else
      (indices 144).foldl (fun s k =>
        if k.val / 6 = w ∧ (s.coreSt k).st = 0 ∧ s.sliceInUse (coreSlice k) then s.updCore k fun c => { c with st := 4, tile := none, since := s.time.nclk, cleared := true }
        else s) s

end Sys2Proof.Machine
end

