-- ==== Sys2Proof/Machine/TaskCmds.lean ====
section
/-! DEFINITION. Commands on queues, programs, tasks, triggers, watches and slots (spec 09, R271 to R277; 05, R163; 16, R461), each with the
checks of R487 in order. -/

namespace Sys2Proof.Machine

/-- RETRY_BUSY where the spec gives no hint: the hint is a free value. -/
def replyRetry (h : CmdHdr) (cmd : Nat) (s : State) : State :=
  let (k, s) := draw s
  reply h cmd stRETRY_BUSY 0 ((Config.random k).toNat % 4096) [] s

/-- Does the tenant use RINGS (R270)? -/
def State.rings (s : State) (t : TenantId) : Bool := bit (s.reg .XPORT_MAP).toNat t.val

/-- A command on a context of the issuer's tenant: another tenant's is NO_ACCESS, a bad form BAD_DESCRIPTOR, none at all conflicts with
FREE. -/
def onCtx (h : CmdHdr) (cmd : Nat) (t : TenantId) (form : Bool) (f : Ctx → State → State) (s : State) : State :=
  match s.liveCtx h.handle with
  | none => if form then replyConflict h cmd 0 s else replySt h cmd stBAD_DESCRIPTOR s
  | some c =>
    if c.tenant ≠ t then replySt h cmd stNO_ACCESS s
    else if !form then replySt h cmd stBAD_DESCRIPTOR s
    else f c s

/-- The queue a command names; those of a context that is being destroyed are ABSENT (R272). -/
def State.cmdQueue (s : State) (h : CmdHdr) (c : Ctx) : Option Queue :=
  if c.st = 3 then none else s.queue (queueKey (ctxIndex h.handle) h.queue.toNat)

/-- A command on a queue. -/
def onQueue (h : CmdHdr) (cmd : Nat) (t : TenantId) (f : Queue → State → State) (s : State) : State :=
  onCtx h cmd t (h.queue.toNat < 8) (fun c s =>
    match s.cmdQueue h c with
    | none => replyConflict h cmd 0 s
    | some q => f q s) s

/-! ### Queues (R271, R272) -/

/-- A ring lies in a region that meets R271. -/
def State.ringOk (s : State) (t : TenantId) (spa bytes : Nat) : Bool :=
  match s.regionOfSpa spa with
  | some (_, g) => spa + bytes ≤ g.spa + g.len && g.pinned && g.mode = 0 && s.isMe (g.memberId 0) && g.kind ≤ 1 && !g.ptab && g.tenant = t
  | none => false

def ringSize (n : Nat) : Bool := 16 ≤ n && n ≤ 4096 && n = 2 ^ Nat.log2 n

/-- The form of QUEUE_CREATE's arguments under each transport (R273). -/
def queueForm (rings : Bool) (a : Bytes) : Bool :=
  leAt a 0 1 ≤ 3 && leAt a 1 1 ≤ 1 && leAt a 2 2 = 0 &&
    (if rings then
      a.length = 40 && leAt a 4 4 = 0 && leAt a 0x14 4 = 0 && leAt a 0x24 4 = 0 && ringSize (leAt a 0x10 4) && ringSize (leAt a 0x20 4)
     else a.length = 8 && leAt a 6 2 = 0)

def queueOf (rings : Bool) (a : Bytes) : Queue :=
  let f (off n : Nat) : Nat := if rings then leAt a off n else 0
  { st := 1, prio := leAt a 0 1, ordered := leAt a 1 1 = 1, notify := if rings then 0 else w16 (leAt a 4 2), sqSpa := f 8 8, sqSize := f 0x10 4,
    cqSpa := f 0x18 8, cqSize := f 0x20 4, sqTail := 0, sqHead := 0, cqTail := 0, cqHead := 0, held := [], full := false, reading := false }

def queueCreateRun (h : CmdHdr) (a : Bytes) (s : State) : State :=
  onlyTA h 0x111 (fun t s =>
    let r := s.rings t
    onCtx h 0x111 t (queueForm r a && h.queue.toNat < 8) (fun c s =>
      if c.st ≠ 1 ∧ c.st ≠ 2 then replyConflict h 0x111 c.st s
      else
        match s.cmdQueue h c with
        | some q => replyConflict h 0x111 q.st s
        | none =>
          let q := queueOf r a
          if r ∧ !(s.ringOk t q.sqSpa (128 * q.sqSize) && s.ringOk t q.cqSpa (32 * q.cqSize)) then replySt h 0x111 stBAD_DESCRIPTOR s
          else replyOk h 0x111 [] (s.setQueue (queueKey (ctxIndex h.handle) h.queue.toNat) q)) s) s

/-- QUEUE_PAUSE and QUEUE_RESUME. -/
def queueSwitch (h : CmdHdr) (cmd from_ to_ : Nat) (s : State) : State :=
  tenantHost h cmd (fun t s =>
    onQueue h cmd t (fun q s =>
      if q.st ≠ from_ then replyConflict h cmd q.st s
      else replyOk h cmd [] (s.setQueue (queueKey (ctxIndex h.handle) h.queue.toNat) { q with st := to_ })) s) s

/-- The queue is ABSENT, and its retained tasks are forgotten. -/
def queueGone (h : CmdHdr) (k : Nat) (s : State) : State :=
  let s := killAccs (.sq k) s
  replyOk h 0x114 [] { s with work := { s.work with queues := s.work.queues.del k, tasks := s.work.tasks.filter fun x => x.key ≠ k } }

/-- Does the queue hold a task that is not final; one whose completion record is not delivered? -/
def State.liveOn (s : State) (k : Nat) : Bool := s.work.tasks.any fun x => x.key = k && !x.final
def State.owes (s : State) (k : Nat) : Bool := s.work.tasks.any fun x => x.key = k && !x.recDone

/-- A QUEUE_DELETE that waits for the queue's completion records goes on: none of them is lost (R278, R285; log entry 55). -/
def queueDeleteGo (n : Nat) (h : CmdHdr) (s : State) : State :=
  let k := queueKey (ctxIndex h.handle) h.queue.toNat
  match s.queue k with
  | none => replyConflict h 0x114 0 (cmdClose n s)
  | some q =>
    if q.st ≠ 2 ∨ s.liveOn k then replyConflict h 0x114 q.st (cmdClose n s)
    else if s.owes k then s
    else queueGone h k (cmdClose n s)

def queueDeleteRun (h : CmdHdr) (s : State) : State :=
  onlyTA h 0x114 (fun t s =>
    onQueue h 0x114 t (fun q s =>
      let k := queueKey (ctxIndex h.handle) h.queue.toNat
      if q.st ≠ 2 ∨ s.liveOn k then replyConflict h 0x114 q.st s
      else if s.owes k then (cmdOpen (.queueDelete h) s).2
      else queueGone h k s) s) s

/-! ### Programs (R242, R274) -/

/-- PROG_LOAD's result: handle, failing index, WORK_NEED. -/
def progResult (p idx need : Nat) : Bytes := toLe 2 p ++ toLe 2 idx ++ zeros 4 ++ toLe 8 need

/-- The image has been read: checks 2 to 8, lowering, and the program is LOADED. -/
def progInstall (h : CmdHdr) (t : TenantId) (b : Bytes) (s : State) : State :=
  match loadCheck b with
  | some (.unsupported i) => reply h 0x121 stUNSUPPORTED 0 0 (progResult 0 i 0) s
  | some (.bad i) => reply h 0x121 stBAD_DESCRIPTOR 0 0 (progResult 0 i 0) s
  | none =>
    match (List.range 256).find? fun i => (s.work.progs.find i).isNone with
    | none => replyRetry h 0x121 s
    | some i =>
      let l := Config.lowering b
      let need := workNeed (imageOf b) l.1 l.2
      let inc := s.work.progIncs.get 0 i
      let s := { s with work := { s.work with progs := s.work.progs.ins i ⟨inc, t, ctxIndex h.handle, b, need⟩ } }
      replyOk h 0x121 (progResult (inc * 4096 + i) 0xFFFF need) s

def progLoadGo (n : Nat) (h : CmdHdr) (ca len : Nat) (s : State) : State :=
  match argRead n h ca len s with
  | (none, s) => s
  | (some (st, b), s) =>
    let s := cmdClose n s
    if st ≠ stOK then replySt h 0x121 st s
    else
      match s.classOf h.iss with
      | .ta t => progInstall h t b s
      | .da | .host _ | .nobody => replySt h 0x121 stNO_ACCESS s

def progLoadRun (h : CmdHdr) (ca : W64) (len : W32) (s : State) : State :=
  onlyTA h 0x121 (fun _ s =>
    if !s.refOk h then replySt h 0x121 stNO_ACCESS s
    else if !s.kcoreEn then replySt h 0x121 stUNSUPPORTED s
    else if 163904 < len.toNat then replySt h 0x121 stBAD_DESCRIPTOR s
    else if 256 ≤ s.work.progs.length then replyRetry h 0x121 s
    else
      let (n, s) := cmdOpen (.progLoad h ca len) s
      progLoadGo n h ca.toNat len.toNat s) s

/-- A command on a program of the tenant's. -/
def onProg (h : CmdHdr) (cmd : Nat) (t : TenantId) (p : Nat) (f : Prog → State → State) (s : State) : State :=
  match s.prog p with
  | none => replyConflict h cmd 0 s
  | some g => if g.tenant ≠ t then replySt h cmd stNO_ACCESS s else f g s

def progUnloadRun (h : CmdHdr) (p : W16) (s : State) : State :=
  onlyTA h 0x122 (fun t s =>
    onProg h 0x122 t p.toNat (fun _ s =>
      if s.work.tasks.any fun x => x.prog = some p.toNat && !x.final then replyConflict h 0x122 2 s
      else
        let i := p.toNat % 256
        let s := { s with
          work := { s.work with progs := s.work.progs.del i, progIncs := s.work.progIncs.put 0 i ((s.work.progIncs.get 0 i + 1) % 16) },
          obs := { s.obs with watches := s.obs.watches.filter fun w => w.prog ≠ p.toNat } }
        replyOk h 0x122 [] s) s) s

/-! ### Tasks (R272, R274, R280, R283) -/

def taskSubmitRun (h : CmdHdr) (d : Bytes) (s : State) : State :=
  tenantHost h 0x131 (fun t s =>
    match s.liveCtx h.handle with
    | some c =>
      if c.tenant ≠ t then replySt h 0x131 stNO_ACCESS s
      else if !s.kcoreEn ∨ s.rings t then replySt h 0x131 stUNSUPPORTED s
      else if d.length ≠ 128 ∨ 8 ≤ h.queue.toNat then replySt h 0x131 stBAD_DESCRIPTOR s
      else
        match s.cmdQueue h c with
        | none => replyConflict h 0x131 0 s
        | some _ =>
          if !s.taskRoom (ctxIndex h.handle) then replyBusy h 0x131 100000 s
          else
            let (_, s) := cmdOpen (.taskSubmit h d) s
            let (n, s) := newTask (ctxIndex h.handle) h.queue.toNat d s
            submitStep n s
    | none => if s.kcoreEn then replyConflict h 0x131 0 s else replySt h 0x131 stUNSUPPORTED s) s

/-- TASK_CANCEL is applied at the scheduler's next step (R283); a final task conflicts. -/
def taskCancelRun (h : CmdHdr) (tag : W32) (s : State) : State :=
  tenantHost h 0x132 (fun t s =>
    onCtx h 0x132 t (h.queue.toNat < 8) (fun _ s =>
      match s.taskNamed (ctxIndex h.handle) h.queue.toNat tag with
      | none => replySt h 0x132 stBAD_DESCRIPTOR s
      | some x =>
        if x.final then replyConflict h 0x132 x.st s
        else { s with work := { s.work with cancels := s.work.cancels ++ [(x.seq, h)] } }) s) s

def taskQueryRun (h : CmdHdr) (tag : W32) (s : State) : State :=
  tenantHost h 0x133 (fun t s =>
    onCtx h 0x133 t (h.queue.toNat < 8) (fun _ s =>
      match s.taskNamed (ctxIndex h.handle) h.queue.toNat tag with
      | none => replySt h 0x133 stBAD_DESCRIPTOR s
      | some x =>
        let r : Bytes := match s.queue x.key with | some q => (if x.final then taskRecord x q false else []) | none => []
        replyOk h 0x133 ([byte x.st, 0, 0, 0] ++ r) s) s) s

/-! ### Triggers (R275, R276) -/

def trigRaiseRun (h : CmdHdr) (tag : Byte) (s : State) : State :=
  tenantHost h 0x141 (fun t s =>
    onCtx h 0x141 t (tag.toNat < 64) (fun c s =>
      if c.st ≠ 1 ∧ c.st ≠ 2 then replyConflict h 0x141 c.st s
      else replyOk h 0x141 [] (raiseAll h.handle tag.toNat s)) s) s

def trigReadRun (h : CmdHdr) (tag : Byte) (s : State) : State :=
  tenantHost h 0x142 (fun t s =>
    onCtx h 0x142 t (tag.toNat < 64) (fun c s =>
      if c.st ≠ 1 ∧ c.st ≠ 2 then replyConflict h 0x142 c.st s
      else
        let r := c.trigs.get ⟨0, 0, 0, 0⟩ tag.toNat
        replyOk h 0x142 (toLe 4 r.count.toNat ++ toLe 4 r.gen.toNat ++ toLe 2 r.region.toNat ++ [r.flags, 0]) s) s) s

/-! ### Doorbells (R277) -/

/-- A new count, if it lies ahead of the held one by at most the ring's size. -/
def ahead (held new : W32) (size : Nat) : Bool := 0 < (new - held).toNat && (new - held).toNat ≤ size

def doorbellRun (m : MgtMsg) (s : State) : State :=
  let bad (s : State) : State := s.count .DBELL_BAD_CNT
  let hd := w16 (leAt m.payload 0 2)
  let qn := leAt m.payload 2 1
  let new := w32 (leAt m.payload 4 4)
  let mine : Option TenantId := match s.classOfEp m.src with | .ta t | .host t => some t | .da | .nobody => none
  match s.liveCtx hd with
  | none => bad s
  | some c =>
    let k := queueKey (ctxIndex hd) qn
    match (if qn < 8 then s.queue k else none) with
    | none => bad s
    | some q =>
      if m.payload.length ≠ 8 ∨ mine ≠ some c.tenant ∨ q.sqSize = 0 then bad s
      else
        match leAt m.payload 3 1 with
        | 0 => if ahead q.sqTail new q.sqSize then s.setQueue k { q with sqTail := new } else bad s
        | 1 => if ahead q.cqHead new q.cqSize then s.setQueue k { q with cqHead := new } else bad s
        | _ => bad s

/-! ### Watches (R461) -/

def finiteF (w : Nat) : Bool := match f32.dec w with | .fin _ _ _ => true | .nan | .inf _ => false

/-- Does a watch's tensor and range obey R461: an output of the program; for STATS numeric, LO and HI finite with LO below HI? -/
def watchOk (p : Image) (i : Nat) (digest : Bool) (lo hi : Nat) : Bool :=
  p.written.contains i &&
    (digest || (isNumeric (p.tensor i).fmt && finiteF lo && finiteF hi && (f32.dec lo).lt (f32.dec hi)))

def watchSetRun (h : CmdHdr) (a : Bytes) (s : State) : State :=
  onlyTA h 0x604 (fun t s =>
    let p := leAt a 0 2
    if (s.prog p).any fun g => g.tenant ≠ t then replySt h 0x604 stNO_ACCESS s
    else if !s.kcoreEn then replySt h 0x604 stUNSUPPORTED s
    else if !bit s.tracePerm t.val then replySt h 0x604 stNO_ACCESS s
    else if a.length ≠ 28 ∨ 1 < leAt a 4 1 ∨ leAt a 5 3 ≠ 0 ∨ leAt a 0x10 8 % 512 ≠ 0 ∨ leAt a 0x18 4 = 0 ∨ 4096 < leAt a 0x18 4 then
      replySt h 0x604 stBAD_DESCRIPTOR s
    else
      onProg h 0x604 t p (fun g s =>
        let dg := leAt a 4 1 = 1
        if !watchOk (imageOf g.image) (leAt a 2 2) dg (leAt a 8 4) (leAt a 0xC 4) then replySt h 0x604 stBAD_DESCRIPTOR s
        else
          let mine := s.obs.watches.filter fun w => w.prog = p
          match (List.range 16).find? fun i => !(mine.any fun w => w.num = i) with
          | none => replyRetry h 0x604 s
          | some i =>
            let w : Watch := ⟨p, i, leAt a 2 2, dg, w32 (leAt a 8 4), w32 (leAt a 0xC 4), leAt a 0x10 8, leAt a 0x18 4, 0⟩
            replyOk h 0x604 [byte i, 0, 0, 0] { s with obs := { s.obs with watches := s.obs.watches ++ [w] } }) s) s

def watchClearRun (h : CmdHdr) (p : W16) (n : Byte) (s : State) : State :=
  onlyTA h 0x605 (fun t s =>
    onProg h 0x605 t p.toNat (fun _ s =>
      if !(s.obs.watches.any fun w => w.prog = p.toNat && w.num = n.toNat) then replySt h 0x605 stBAD_DESCRIPTOR s
      else replyOk h 0x605 [] { s with obs := { s.obs with watches := s.obs.watches.filter fun w => !(w.prog = p.toNat && w.num = n.toNat) } }) s) s

/-! ### SLOT_REJOIN (R163, R173) -/

/-- The slot is swept, and a sweep under way is recorded. -/
def rejoinStart (h : CmdHdr) (t : TenantId) (slot : Nat) (s : State) : State :=
  if s.slotSt t slot ≠ 1 then replyConflict h 0x301 (s.slotSt t slot) s
  else
    let q : Nat := match h.iss with | .slotCmd q => q.val | .bmc | .ep _ | .fwd _ _ _ | .rgnCmd _ | .hwdCmd => 0
    let s : State := { s with pool := { s.pool with sweeps := s.pool.sweeps ++ [⟨t, slot, some h, q⟩] } }
    sweepSlot t slot (s.setSlot t slot 2)

/-- Does the issuing endpoint hold the slot? -/
def State.holdsSlot (s : State) (h : CmdHdr) (t : TenantId) (slot : Nat) : Bool :=
  match s.slotHost t slot with | some a => issuerSrc h.iss = a.toNat && a ≠ 0 | none => false

def slotRejoinRun (h : CmdHdr) (slot : W16) (s : State) : State :=
  match h.iss with
  | .slotCmd q =>
    let v := (s.reg .SLOT_SEL q.val).toNat
    rejoinStart h ⟨v / 512 % 16, Nat.mod_lt _ (by decide)⟩ (v % 512) (s.busy .SLOT_CMD_RESULT q.val)
  | .bmc | .ep _ | .fwd _ _ _ | .rgnCmd _ | .hwdCmd =>
    let go (t : TenantId) (s : State) : State :=
      if 511 < slot.toNat then replySt h 0x301 stBAD_DESCRIPTOR s else rejoinStart h t slot.toNat s
    match s.classOf h.iss with
    | .ta t => go t s
    | .host t => if s.holdsSlot h t (slot.toNat % 512) then go t s else replySt h 0x301 stNO_ACCESS s
    | .da | .nobody => replySt h 0x301 stNO_ACCESS s

/-- The sweep of a slot ends: it is NORMAL again. -/
def slotRejoinDoneRun (t : TenantId) (slot : Nat) (s : State) : State :=
  match s.pool.sweeps.find? fun w => w.tenant = t && w.slot = slot with
  | none => s
  | some w =>
    let s := { s with pool := { s.pool with sweeps := s.pool.sweeps.filter fun x => !(x.tenant = t && x.slot = slot) } }
    let s := s.setSlot t slot 0
    match w.reply with | some h => replyOk h 0x301 [] s | none => s

end Sys2Proof.Machine
end

