-- ==== Sys2Proof/Machine/Security.lean ====
section
/-! DEFINITION. Durable keys (R344 to R348), attestation of a device (R365 to R367) and of a stack (R382). -/

namespace Sys2Proof.Machine

/-! ### Durable keys -/

def State.setKey (s : State) (t : TenantId) (k : KeySlot) : State :=
  { s with hw := { s.hw with keys := upd s.hw.keys t fun _ => k } }

/-- The metadata checkpoint records a tenant's key generation and, once the partner's certificate is known, the key's envelope for the
partner; only the device that drives the carriers writes it (R346). -/
def keyCheckpoint (t : TenantId) (s : State) : State :=
  if s.pair.role = 1 ∨ s.pair.role = 5 ∨ s.pair.role = 7 then
    let k : KeySlot := s.key t
    s.updTier fun x => { x with keyGens := upd x.keyGens t fun _ => k.gen,
                                keyEnv := upd x.keyEnv t fun _ => if k.st = 1 ∧ s.pair.partnerKak ≠ 0 then some k.key else none }
  else s

/-- A write that the key's NV slot refuses: the slot keeps its value, and an event is logged (R352). -/
def keySlotFull (s : State) : State := logEv ⟨9, .refused, 0, 0, stUNSUPPORTED, 0, 0xFF, toLe 4 s.lidStat.toNat⟩ s

def nvRefused (h : CmdHdr) (cmd : Nat) (s : State) : State := replySt h cmd stUNSUPPORTED (keySlotFull s)

/-- An EMPTY slot is filled and becomes LIVE (R345). -/
def keyFill (h : CmdHdr) (t : TenantId) (s : State) : State :=
  match nvWrite (keySlotNo t) s with
  | (false, s) => nvRefused h 0x401 s
  | (true, s) =>
    let (k, s) := draw s
    replyOk h 0x401 [] (keyCheckpoint t (s.setKey t ⟨1, (s.key t).gen, k⟩))

/-- KEY_SET once its envelope, if any, can be read (R345, R487). -/
def keySetGo (n : Nat) (h : CmdHdr) (envCa : Nat) (unwrapOk : Bool) (s : State) : State :=
  match argRead n h envCa 176 s with
  | (none, s) => s
  | (some (st, b), s) =>
    let s := cmdClose n s
    match s.classOf h.iss with
    | .ta t =>
      let k : KeySlot := s.key t
      if k.st ≠ 0 then replyConflict h 0x401 k.st s
      else if st ≠ stOK then replySt h 0x401 st s
      else if !unwrapOk ∨ !allZero (cut b 0x61 7) then replySt h 0x401 stBAD_DESCRIPTOR s
      else keyFill h t s
    | .da | .host _ | .nobody => replySt h 0x401 stNO_ACCESS s

/-- KEY_SET (R345); with the security core open it has no keys to work with (R466). `unwrapOk`: the envelope's key agreement and unwrapping succeed, and the key's halves differ (R343). -/
def keySetRun (h : CmdHdr) (mode : Byte) (envCa : W64) (unwrapOk : Bool) (s : State) : State :=
  onlyTA h 0x401 (fun t s =>
    let k : KeySlot := s.key t
    if s.hw.secOpen then replySt h 0x401 stUNSUPPORTED s
    else if mode = 1 ∧ !s.refOk h then replySt h 0x401 stNO_ACCESS s
    else if 1 < mode.toNat then replySt h 0x401 stBAD_DESCRIPTOR s
    else if k.st ≠ 0 then replyConflict h 0x401 k.st s
    else if mode = 0 then keyFill h t s
    else
      let (n, s) := cmdOpen (.keySet h mode envCa unwrapOk) s
      keySetGo n h envCa.toNat unwrapOk s) s

/-- Has the tenant a durable region with a member on this device (R347)? -/
def State.durableHere (s : State) (t : TenantId) : Bool :=
  s.rgn.tab.any fun e => e.2.st ≠ 0 && e.2.durable && e.2.tenant = t && (s.memberOf e.2).isSome

/-- A key is destroyed: the slot zero and EMPTY, its generation advanced, its envelope gone (R347). -/
def destroyKey (t : TenantId) (s : State) : State :=
  keyCheckpoint t (s.setKey t ⟨0, (s.key t).gen + 1, 0⟩)

def keyDestroyRun (h : CmdHdr) (s : State) : State :=
  onlyTA h 0x402 (fun t s =>
    let k : KeySlot := s.key t
    if k.st = 0 ∨ s.durableHere t then replyConflict h 0x402 k.st s
    else
      match nvWrite (keySlotNo t) s with
      | (false, s) => nvRefused h 0x402 s
      | (true, s) => replyOk h 0x402 [] (destroyKey t s)) s

/-! ### The report (R367) -/

/-- The tenants with an assigned slice, ascending. -/
def State.assigned (s : State) : List TenantId := (indices 16).filter fun t => (s.sliceList t) ≠ []

/-- The images of a tenant's loaded programs, in ascending order of their handles. -/
def State.progsOf (s : State) (t : TenantId) : List Bytes :=
  let hs := (s.work.progs.filter fun e => e.2.tenant = t).foldl (fun l e => insUp (e.2.inc * 4096 + e.1) l) []
  hs.filterMap fun h => (s.prog h).map Prog.image

def State.sliceMask (s : State) (t : TenantId) : Nat := (s.sliceList t).foldl (fun v i => v + 2 ^ i) 0

/-- A tenant section; `ents`: the region digests' entries, 56 bytes each. -/
def State.section_ (s : State) (t : TenantId) (ents : Bytes) : Bytes :=
  let ps := s.progsOf t
  toLe 2 t.val ++ toLe 2 (s.sliceMask t) ++ toLe 2 ps.length ++ toLe 2 (ents.length / 56) ++ ps.flatMap sha384 ++ ents

/-- The valid marks (those among the records in force), concatenated in the blank's order. -/
def State.marks (s : State) : Bytes := (s.blank.live.filter fun r => r.typ = 3).flatMap Rec.data

/-- The report up to its signature. -/
def State.reportBody (s : State) (r : Report) : Bytes :=
  let (scope, sects) := match s.classOf r.h.iss with
    | .ta t | .host t => (t.val, [s.section_ t r.ents])
    | .da | .nobody => (0xFFFF, s.assigned.map fun t => s.section_ t [])
  let h := s.hw
  let sect := sects.flatten
  toLe 4 0xD0B0A7E5 ++ toLe 2 1 ++ toLe 2 scope ++ toLe 4 (528 + sect.length + 96) ++ toLe 4 sects.length ++ padTo 32 r.nonce ++
    toLe 8 s.ptField.toNat ++ [byte (b2n s.ptValid)] ++ zeros 7 ++
    toLe 4 (s.reg .PART).toNat ++ toLe 4 (s.reg .STEPPING).toNat ++ toLe 4 s.features.toNat ++ zeros 4 ++
    padTo 16 h.serial ++ padTo 48 s.blank.digest ++ sha384 s.marks ++
    ((List.range 5).flatMap fun i => padTo 48 (cut (s.recOf 5 i) 8 48)) ++
    ((List.range 5).map fun i => byte (leAt (s.recOf 5 i) 1 1)) ++ [byte h.fuse, 0, 0] ++ zeros 8 ++
    ((indices 16).map fun i =>
      let x : Slice := s.slice i
      byte (x.st * 16 + (if x.st = 0 then 0 else x.tenant.val))) ++
    ((indices 16).map fun i => byte (h.keys[i]).st) ++ ((indices 8).flatMap fun i => toLe 4 (h.ctr[i]).toNat) ++
    toLe 4 h.tamper.toNat ++ toLe 4 s.lidStat.toNat ++ toLe 4 h.eraseCnt.toNat ++ toLe 4 h.epoch ++ sect

/-- A region's entry. -/
def digestEntry (n : W16) (st : Byte) (dig : Bytes) : Bytes := toLe 2 n.toNat ++ [st] ++ zeros 5 ++ padTo 48 dig

/-- The status that ends a region's digest before it reads, or the region (R366). -/
def State.digestable (s : State) (t : TenantId) (n : W16) : Sum Byte Region :=
  match s.region n.toNat with
  | some g =>
    if g.tenant ≠ t then .inl stNO_ACCESS
    else if !s.kcoreEn then .inl stUNSUPPORTED
    else if !s.liveCore t then .inl stUNSUPPORTED
    else .inr g
  | none => .inl (if s.kcoreEn then stBAD_DESCRIPTOR else stUNSUPPORTED)

def State.setReport (s : State) (r : Option Report) : State := { s with work := { s.work with report := r } }

/-- The region digests go on, one line after the other, as far as answers have come; with the last the report stands but for its
signature (R366). -/
def digestGo : Nat → State → State
  | 0, s => s
  | k + 1, s =>
    match s.work.report with
    | none => s
    | some r =>
      if r.body ≠ [] then s
      else
        match r.regions with
        | [] => s.setReport (some { r with body := s.reportBody r })
        | n :: rest =>
          let t := match s.classOf r.h.iss with | .ta t | .host t => t | .da | .nobody => 0
          let over_ (st : Byte) (d : Bytes) (s : State) : State :=
            digestGo k (s.setReport (some { r with regions := rest, cur := [], ents := r.ents ++ digestEntry n st d }))
          match s.digestable t n with
          | .inl st => over_ st [] s
          | .inr g =>
            if g.len ≤ r.cur.length then over_ stOK (sha384 r.cur) s
            else
              match gather .digest 1 none (g.spa + r.cur.length) 128 s with
              | (none, s) => s
              | (some (st, b), s) =>
                let s := dropAccs .digest s
                if st = stOK then digestGo k (s.setReport (some { r with cur := r.cur ++ b })) else over_ st [] s

/-- Lines that the digests of a report may still read. -/
def State.digestFuel (s : State) (r : Report) : Nat :=
  (r.regions.map fun n => match s.region n.toNat with | some g => g.len / 128 + 4 | none => 4).sum + 4

/-- Is an ATTEST that of a stack's headstock: its report goes back in the acknowledgement (R382)? -/
def State.forStack (s : State) (h : CmdHdr) : Bool :=
  match h.iss with | .fwd _ _ src => s.isDevice src | .bmc | .ep _ | .rgnCmd _ | .slotCmd _ | .hwdCmd => false

/-- The signed report is written, and the command answered with its length (R365). -/
def reportWrite (r : Report) (s : State) : State :=
  let fin (st : Byte) (res : Bytes) (s : State) : State :=
    let s := (cmdClose r.n s).setReport none
    if st = stOK then replyOk r.h 0x403 res s else replySt r.h 0x403 st s
  if s.forStack r.h then fin stOK (toLe 4 r.body.length ++ r.body) s
  else
    match resWrite r.n r.h r.dest r.body s with
    | (none, s) => s
    | (some (st, _), s) => fin st (toLe 4 r.body.length) s

/-- A report under way takes its next step. -/
def reportStep (s : State) : State :=
  match s.work.report with
  | some r => if r.signed then reportWrite r s else digestGo (s.digestFuel r) s
  | none => s

/-- ATTEST_REPORT_DONE: with its digests finished the report is signed (R367). -/
def attestDoneRun (sig : Bytes) (s : State) : State :=
  match s.work.report with
  | some r =>
    if r.body = [] ∨ r.signed then s
    else
      let r := { r with signed := true, body := r.body ++ padTo 96 sig }
      reportWrite r (s.setReport (some r))
  | none => s

/-- An ATTEST begins once no other report is under way. -/
def attestGo (n : Nat) (h : CmdHdr) (nonce : Bytes) (dest : Nat) (regions : List W16) (s : State) : State :=
  match s.work.report with
  | some _ => s
  | none =>
    let rs := match s.classOf h.iss with | .ta _ | .host _ => regions | .da | .nobody => []
    reportStep (s.setReport (some ⟨n, h, nonce, dest, rs, [], [], [], false⟩))

def attestRun (h : CmdHdr) (nonce : Bytes) (destCa : W64) (destLen : W32) (regions : List W16) (s : State) : State :=
  let go (s : State) : State :=
    let (n, s) := cmdOpen (.attest h nonce destCa destLen regions) s
    attestGo n h nonce destCa.toNat regions s
  let formOk : Bool := regions.length ≤ 8 && nonce.length = 32 && 16384 ≤ destLen.toNat
  match s.classOf h.iss with
  | .da =>
    if s.hw.secOpen then replySt h 0x403 stUNSUPPORTED s
    else if s.forStack h then go s
    else if formOk ∧ (xferRange destCa.toNat destLen.toNat).isSome then go s
    else replySt h 0x403 stBAD_DESCRIPTOR s
  | .ta _ =>
    if s.hw.secOpen then replySt h 0x403 stUNSUPPORTED s
    else if !s.refOk h then replySt h 0x403 stNO_ACCESS s
    else if formOk then go s
    else replySt h 0x403 stBAD_DESCRIPTOR s
  | .host _ | .nobody => replySt h 0x403 stNO_ACCESS s

/-! ### The stack's report (R382) -/

/-- The joined positions, ascending. -/
def State.joined (s : State) : List Nat :=
  (List.range 32).filter fun p => p = s.spn.pos || (s.spn.map.getD p 0).toNat % 4 ≠ 0

/-- One member's part: position, status, its report. -/
def stackPart (reports : Sparse (Byte × Bytes)) (p : Nat) : Bytes :=
  let x := reports.get (stRETRY_BUSY, []) p
  [byte p, x.1, 0, 0] ++ toLe 4 x.2.length ++ x.2

/-- With the last member's answer the reports are written and the command is answered. -/
def stackAttFinish (s : State) : State :=
  match s.satt with
  | some x =>
    if x.waits ≠ [] then s
    else
      let b := x.reports.flatMap fun e => stackPart x.reports e.1
      let s := match xferRange x.dest b.length with | some off => xferPut off b s | none => s
      replyOk ⟨x.iss, x.seq, 0, 0⟩ 0x501 (toLe 4 b.length) { s with satt := none }
  | none => s

/-- A member's answer, or that none came. -/
def stackAttMember (p : Nat) (st : Byte) (rep : Bytes) (s : State) : State :=
  match s.satt with
  | some x =>
    if x.waits.contains p then
      stackAttFinish { s with satt := some { x with waits := x.waits.filter (· ≠ p), reports := x.reports.ins p (st, rep) } }
    else s
  | none => s

/-- An acknowledged CMD_FWD of an ATTEST: the reply block's status, and the report behind LENGTH. -/
def stackAttAcked (t : CoordTx) (b : Bytes) (s : State) : State :=
  let st := byte (leAt b 0x0C 1)
  stackAttMember (t.dest.toNat % 64) st (if st = stOK then b.drop 0x14 else []) s

/-- Is a CMD_FWD of this device an ATTEST for a stack's report? -/
def CoordTx.attests (t : CoordTx) : Bool := t.subop = 4 && leAt t.body 8 2 = 0x403

/-- STACK_ATTEST_MEMBER_TIMEOUT: 1 s without an answer. -/
def stackAttTimeout (position : Nat) (s : State) : State :=
  match s.coord.sent.find? fun t => t.attests && t.dest.toNat % 64 = position with
  | some t =>
    if (s.satt.any fun x => x.waits.contains position) then
      let s := advanceTo (t.since + secs 1) s
      stackAttMember position stRETRY_BUSY [] { s with coord := { s.coord with sent := s.coord.sent.filter fun x => x.xid ≠ t.xid } }
    else s
  | none => s

/-- A STACK_ATTEST begins once no other is under way. -/
def stackAttestGo (n : Nat) (h : CmdHdr) (nonce : Bytes) (dest : Nat) (s : State) : State :=
  match s.satt with
  | some _ => s
  | none =>
    let ps := s.joined
    let s := cmdClose n { s with satt := some ⟨h.iss, h.seq, nonce, dest, ps, []⟩ }
    let args := padTo 32 nonce ++ toLe 8 dest ++ toLe 4 16384 ++ zeros 20
    ps.foldl (fun s p =>
      coordSend (s.idOf p) 4 (toLe 2 s.myId.toNat ++ [0, 0] ++ cmdBlock 0x403 ⟨h.iss, h.seq, 0, 0⟩ args) none 0 s) s

def stackAttestRun (h : CmdHdr) (nonce : Bytes) (destCa : W64) (destLen : W32) (s : State) : State :=
  onlyDA h 0x501 (fun s =>
    let need := (8 + 13040) * s.joined.length
    if !s.head.head ∨ s.hw.secOpen then replySt h 0x501 stUNSUPPORTED s
    else if nonce.length ≠ 32 ∨ destLen.toNat < need ∨ (xferRange destCa.toNat destLen.toNat).isNone then
      replySt h 0x501 stBAD_DESCRIPTOR s
    else
      let (n, s) := cmdOpen (.stackAttest h nonce destCa destLen) s
      stackAttestGo n h nonce destCa.toNat s) s

end Sys2Proof.Machine
end

