-- ==== Sys2Proof/Machine/Slices.lean ====
section
/-! DEFINITION. Slices and their tenants (R336 to R340, R494): release, clearing, assignment, and what a start decides. -/

namespace Sys2Proof.Machine

/-- A slice changes; the metadata checkpoint records its state and tenant (R126, R494). -/
def State.updSlice (s : State) (i : Fin 16) (f : Slice → Slice) : State :=
  { s with slices := upd s.slices i fun x => let y := f x; { y with ckSt := y.st, ckTenant := y.tenant } }

/-- The tenant a PARTITION payload assigns a slice to (R406). -/
def partOf (d : Bytes) (i : Nat) : Option TenantId := if bit (leAt d i 1) 7 then some (tenOf (leAt d i 1)) else none

def partSet (d : Bytes) (t : TenantId) : List (Fin 16) := (indices 16).filter fun i => partOf d i.val = some t

/-- The tenant a slice is held for: its own, or the one it is being cleared for. -/
def State.heldFor (s : State) (i : Fin 16) : Option TenantId :=
  let x : Slice := s.slice i
  match x.st with
  | 1 => some x.tenant
  | 2 => x.after
  | _ => none

def State.heldSet (s : State) (t : TenantId) : List (Fin 16) := (indices 16).filter fun i => s.heldFor i = some t

/-- Does a partition change the set of a tenant that keeps a slice (R336)? -/
def State.partChanges (s : State) (d : Bytes) : Bool :=
  (indices 16).any fun t => s.heldSet t ≠ [] && partSet d t ≠ [] && s.heldSet t ≠ partSet d t

/-- The tenants that a partition releases. -/
def State.released (s : State) (d : Bytes) : List TenantId := (indices 16).filter fun t => s.heldSet t ≠ [] && partSet d t = []

/-- May a tenant be released: each region of it with a member here FREE, each task final (R338)? -/
def State.mayRelease (s : State) (t : TenantId) : Bool :=
  !(s.rgn.tab.any fun e => e.2.st ≠ 0 && e.2.tenant = t && (s.memberOf e.2).isSome) &&
    !(s.work.tasks.any fun k => !k.final && (s.ctxBy k.ctx).any fun c => c.tenant = t)

/-! ### Clearing (R340) -/

/-- The byte and operation counters of a slice are set to 0 as it enters CLEARING (R447). -/
def clearCounters (i : Nat) (s : State) : State :=
  let mine (k : Nat) : Bool := match Reg.all[k / 65536]? with | some r => sliceOfCounter r (k % 65536) = some i | none => false
  { s with regs := s.regs.filter (fun e => !mine e.1), cnt64 := s.cnt64.filter fun e => !mine e.1 }

/-- The waves of R411 begin again for a slice whose cores are off. -/
def wavesFor (i : Fin 16) (s : State) : State :=
  if (indices 144).any fun k => coreSlice k = i && (s.coreSt k).st = 0 then
    { s with su := { s.su with wave := 0, waveAt := s.time.nclk } }
  else s

/-- Phases 1, 2 and 4 begin: the cores are cleared, the slice's caches, stores and pinned map are emptied. -/
def clearSlice (i : Fin 16) (after : Option TenantId) (s : State) : State :=
  let owner : TenantId := after.getD (s.slice i).tenant
  let live := s.kcoreEn && s.pwr.st < 2 && (s.quarts.toList.map Quart.st).getD (i.val / 4) 0 = 2
  let s := clearCounters i.val (dirDrop i.val s)
  let s := { tagcDrop i.val s with
    tags := s.tags.filter (fun e => e.1 / 2 ^ 32 ≠ i.val)
    pins := upd s.pins i fun _ => []
    pool := { s.pool with
      tcache := upd s.pool.tcache ⟨i.val / 4, by omega⟩ fun l => l.filter fun e => !((s.liveCtx e.handle).any fun (c : Ctx) => c.tenant = owner)
      flushes := s.pool.flushes.filter (fun f => f.slice ≠ i.val)
      fills := s.pool.fills.filter (fun f => f.slice ≠ i.val)
      bypass := upd s.pool.bypass i fun _ => none } }
  let s := s.updChan (chanOf i.val) fun k => { k with sets := 0 }
  let s := (indices 144).foldl (fun s k =>
    if coreSlice k = i ∧ (s.coreSt k).st ≠ 0 ∧ live then
      s.updCore k fun c => { c with st := 4, tile := none, since := s.time.nclk, cleared := after.isSome }
    else s) s
  let s := s.updSlice i fun x => { x with st := 2, after := after, cleared := false }
  if after.isSome then wavesFor i s else s

/-- The superblocks and journal of a tenant that leaves are released (R129, R340 phase 5). -/
def dropTier (t : TenantId) (s : State) : State :=
  let s := s.updTier fun x => { x with streams := x.streams.filter (fun e => e.1 % 16 ≠ t.val),
                                       dense := x.dense.filter fun d => d.tenant ≠ t.val }
  ((s.tier.sbs.filter fun e => e.2.tenant = t.val && (e.2.kind = 0 || e.2.kind = 2)).map Prod.fst).foldl (fun s i => releaseSb i s) s

/-- Phase 3, on the release of the tenant's last slice: its keys are destroyed. -/
def dropKeys (t : TenantId) (s : State) : State :=
  let s : State := if (s.key t).st = 0 then s
    else match nvWrite (keySlotNo t) s with | (true, s) => destroyKey t s | (false, s) => keySlotFull s
  { s with hw := { s.hw with eph := upd s.hw.eph t fun _ => none } }

/-- A tenant is released: each of its slices is cleared. -/
def releaseTenant (t : TenantId) (s : State) : State :=
  let s := (s.heldSet t).foldl (fun s i => clearSlice i none s) s
  let s : State := { s with pool := { s.pool with slots := s.pool.slots.filter fun e => e.1 / 512 ≠ t.val } }
  dropTier t (dropKeys t s)

/-! ### Assignment (R339, R340, R115) -/

/-- An ephemeral key is generated for a tenant that is being assigned (R343). -/
def ephKey (t : TenantId) (s : State) : State :=
  match s.hw.eph[t] with
  | some _ => s
  | none =>
    let (k, s) := draw s
    { s with hw := { s.hw with eph := upd s.hw.eph t fun _ => some k } }

/-- A slice is ASSIGNED: its channel takes the tenant's directory store, its pinned map the flash-map extent. -/
def assignSlice (i : Fin 16) (t : TenantId) (s : State) : State :=
  let n := max 1 (partSet (s.recOf 8) t).length
  let ext : Ext := ⟨mapBase / 16384, 0, 0, mapGran (s.quota t) n, 0⟩
  let s : State := { ephKey t s with pins := upd s.pins i fun _ => [ext] }
  let s := s.updSlice i fun x => { x with st := 1, tenant := t, after := none, cleared := false }
  let c := chanOf i.val
  let s := s.updChan c fun k => { k with dirG := min 32 (s.rfld .DIRSTORE_SIZE c.val 15 0), dirNext := none }
  wavesFor i (if (s.chan c).up then s.resize c else s)

/-- A slice is to be a tenant's: at once where it stands cleared and unused, else once it has been cleared (R340). -/
def takeSlice (i : Fin 16) (t : TenantId) (s : State) : State :=
  let x : Slice := s.slice i
  match x.st with
  | 0 => if x.cleared then assignSlice i t s else clearSlice i (some t) (ephKey t s)
  | 2 => wavesFor i ((ephKey t s).updSlice i fun x => { x with after := some t })
  | _ => s

/-- SLICE_CLEAR_DONE: the phases and self-tests of a slice are complete. -/
def sliceClearDoneRun (i : SliceId) (s : State) : State :=
  let x : Slice := s.slice i
  if x.st ≠ 2 then s
  else
    let s := (indices 144).foldl (fun s k =>
      if coreSlice k = i ∧ (s.coreSt k).st ≠ 0 then
        s.updCore k fun c => { c with st := if x.after.isNone then 0 else if c.st = 5 then 5 else 1, tile := none, cleared := false }
      else s) s
    match x.after with
    | some t => assignSlice i t s
    | none => s.updSlice i fun x => { x with st := 0, tenant := 0, cleared := true }

/-! ### A partition takes force (R338, R415) -/

/-- The releases of a partition: all of them, or none where one may not be released. -/
def partReleases (d : Bytes) (s : State) : Bool × State :=
  let ts := s.released d
  if s.partChanges d ∨ ts.any (fun t => !s.mayRelease t) then
    (false, logEv ⟨5, .refused, ((ts.head?.bind fun t => (s.heldSet t).head?).map Fin.val).getD 0, 0, stSTATE_CONFLICT, 1,
      (ts.head?.map Fin.val).getD 0xFF, []⟩ s)
  else (true, ts.foldl (fun s t => releaseTenant t s) s)

/-- The assignments of a partition. -/
def partAssigns (d : Bytes) (s : State) : State :=
  (indices 16).foldl (fun s i =>
    match partOf d i.val with
    | some t => takeSlice i t s
    | none => s) s

/-- While a core is open to debug no assignment is applied, and each is logged (R466). -/
def partHeld (d : Bytes) (s : State) : State :=
  (indices 16).foldl (fun s i =>
    match partOf d i.val with
    | some t => logEv ⟨5, .refused, i.val, 0, 0, (s.slice i).st, t.val, []⟩ s
    | none => s) s

/-- What start-up step 12 does with a slice (R494): `keep`: its tenant's set is the recorded one. -/
def startSlice (i : Fin 16) (s : State) : State :=
  let x : Slice := s.slice i
  let want := partOf (s.recOf 8) i.val
  if x.ckSt = 1 ∧ want = some x.ckTenant then
    (ephKey x.ckTenant s).updSlice i fun y => { y with st := 1, tenant := x.ckTenant, cleared := false }
  else
    match want with
    | some t => clearSlice i (some t) (ephKey t s)
    | none => if x.ckSt = 0 then s else clearSlice i none s

/-- The tenants whose recorded slices the partition in use takes away, in whole or in part, and whose release R338 refuses; a change of
part of a set is refused as R336 refuses it. -/
def State.startRefuses (s : State) (t : TenantId) : Bool :=
  let had := (indices 16).filter fun i => (s.slice i).ckSt = 1 && (s.slice i).ckTenant = t
  let want := partSet (s.recOf 8) t
  had ≠ [] && had ≠ want && (want ≠ [] || !s.mayRelease t)

/-- Start-up step 12 for all slices: a refused tenant keeps what the checkpoint records, with an entry; a released one loses its keys. -/
def startSlices (s : State) : State :=
  let refused := (indices 16).filter s.startRefuses
  let gone := (indices 16).filter fun t =>
    !refused.contains t && partSet (s.recOf 8) t = [] && (indices 16).any fun i => (s.slice i).ckSt = 1 && (s.slice i).ckTenant = t
  let s := refused.foldl (fun s t =>
    logEv ⟨5, .refused, (((indices 16).find? fun i => (s.slice i).ckTenant = t && (s.slice i).ckSt = 1).map Fin.val).getD 0, 0,
      stSTATE_CONFLICT, 1, t.val, []⟩ s) s
  let s := (indices 16).foldl (fun s i =>
    let x : Slice := s.slice i
    if x.ckSt = 1 ∧ refused.contains x.ckTenant then
      (ephKey x.ckTenant s).updSlice i fun y => { y with st := 1, tenant := x.ckTenant, cleared := false }
    else if (partOf (s.recOf 8) i.val).any fun t => refused.contains t then s
    else startSlice i s) s
  gone.foldl (fun s t => dropTier t (dropKeys t s)) s

end Sys2Proof.Machine
end

