-- ==== Sys2Proof/Machine/PairRole.lean ====
section
/-! DEFINITION. Pair roles and the headstock role (R378, R383 to R387), the pair epoch and its announcement (R394), and what becoming
ACTIVE or STEADY does to the device. -/

namespace Sys2Proof.Machine

def State.updPair (s : State) (f : PairSt → PairSt) : State := { s with pair := f s.pair }

/-- This device's member number, its pair's index, and its partner's position (R370). -/
def State.member (s : State) : Nat := s.spn.pos % 2
def State.pairNo (s : State) : Nat := s.spn.pos / 2
def State.partnerPos (s : State) : Nat := if s.spn.pos % 2 = 0 then s.spn.pos + 1 else s.spn.pos - 1
def State.partnerId (s : State) : W16 := s.idOf s.partnerPos

/-- Does the blank give the device no partner (R383, R406)? -/
def State.soloRec (s : State) : Bool := bit (leAt s.stackRec 3 1) 2

/-- Is this the preferred member: PREF names the pair's preferred member (R370, R387)? -/
def State.preferred (s : State) : Bool := s.rfld .PAIR_CFG 0 0 0 = s.member

def State.revert (s : State) : Bool := s.rfld .PAIR_CFG 0 1 1 = 1

/-- Entries of class 0x0A. -/
def pairEv (k : EvKind) (unit cause state : Nat) (s : State) : State :=
  logEv ⟨0x0A, k, unit, cause, 0, state, 0xFF, toLe 4 s.pair.epoch.toNat⟩ s

/-! ### The epoch (R394) -/

/-- The watchers of the pair's epoch, from the STACK record. -/
def State.watchers (s : State) : List W16 :=
  (List.range (leAt s.stackRec 6 2)).map fun i => w16 (leAt s.stackRec (8 + 2 * i) 2)

def State.announcePayload (s : State) (handover : Bool) : Bytes :=
  toLe 2 s.myAlias.toNat ++ [byte s.member, byte (b2n handover)] ++ toLe 4 s.pair.epoch.toNat ++ toLe 4 2000

/-- The announcement goes to each watcher, and the recovery window opens (R394, R395). -/
def announceEpoch (handover : Bool) (s : State) : State :=
  let p := s.announcePayload handover
  let s := s.watchers.foldl (fun s w =>
    (sendMgt w 0x10 p s).updPair fun x => { x with announces := x.announces ++ [⟨w, s.time.nclk, false⟩] }) (s.updPair fun x => { x with announces := [] })
  s.updPair fun x => { x with window := some s.time.nclk, handing := handover }

/-- The epoch that follows the one in the checkpoint is opened (R387, R394). -/
def openEpoch (handover : Bool) (s : State) : State :=
  let e := s.tier.epoch + 1
  announceEpoch handover ((s.updTier fun t => { t with epoch := e }).updPair fun x => { x with epoch := e })

/-! ### Keys of a device that becomes active (R346) -/

/-- Slots whose generation differs from the checkpoint's are destroyed, and the envelopes for its generation installed. -/
def installKeys (s : State) : State :=
  (indices 16).foldl (fun s t =>
    let k : KeySlot := s.key t
    let g : W32 := s.tier.keyGens[t]
    if k.gen = g ∧ k.st = 1 then s
    else
      match s.tier.keyEnv[t] with
      | some x => (nvWrite (keySlotNo t) s).2.setKey t ⟨1, g, x⟩
      | none => if k.gen = g then s else (nvWrite (keySlotNo t) s).2.setKey t ⟨0, g, 0⟩) s

/-! ### The stack map (R380) -/

def State.setMapByte (s : State) (p : Nat) (b : Byte) : State :=
  let l := padTo 32 s.spn.map
  { s with spn := { s.spn with map := l.set p b } }

/-- The body of the map message: MAP_SEQ, the member bytes, the pair epochs (R380). -/
def State.mapPayload (s : State) : Bytes :=
  toLe 4 s.spn.mapSeq.toNat ++ padTo 32 s.spn.map ++ (indices 16).flatMap fun p => toLe 4 (s.spn.epochs[p]).toNat

/-- The headstock sends the map, as changed, to every other member of it, each send its own; a member that became active receives the
records (R379, R380). -/
def publishMap (o : SpnSt) (s : State) : State :=
  let before := padTo 32 o.map
  if !s.head.head ∨ (before = padTo 32 s.spn.map ∧ o.epochs = s.spn.epochs) then s
  else
    let s := { s with spn := { s.spn with mapSeq := s.spn.mapSeq + 1 } }
    let others := (List.range 32).filter fun p => p ≠ s.spn.pos && (s.spn.map.getD p 0).toNat % 4 ≠ 0
    let s := others.foldl (fun s p => emit (.stackMap (s.idOf p) s.mapPayload) s) s
    (others.filter fun p => (s.spn.map.getD p 0).toNat % 4 = 1 && (before.getD p 0).toNat % 4 ≠ 1).foldl
      (fun s p => sendRecords (s.idOf p) s) s

/-- The role code of a member byte (R380) for a pair role: active, steady, or fenced. -/
def mapRole (role : Nat) : Nat :=
  match role with
  | 1 | 5 | 7 => 1
  | 2 | 3 | 4 => 2
  | 6 => 3
  | _ => 0

/-- This device's own member byte follows its role; the headstock publishes the change. -/
def ownMapByte (s : State) : State :=
  if s.spn.pos < 32 then
    let before := s.spn
    let b := mapRole s.pair.role + 4 * b2n s.head.head + 8 * b2n (bit s.features.toNat 9)
    let s := s.setMapByte s.spn.pos (byte b)
    let s : State := if h : s.pairNo < 16 then
        { s with spn := { s.spn with epochs := if mapRole s.pair.role = 1 then s.spn.epochs.set s.pairNo s.pair.epoch else s.spn.epochs } }
      else s
    publishMap before s
  else s

/-! ### Roles -/

/-- A role is taken. -/
def setRole (r : Nat) (s : State) : State := ownMapByte (s.updPair fun p => { p with role := r })

/-- The headstock role is taken (R378). -/
def takeHead (s : State) : State :=
  ownMapByte { s with head := ⟨true, none, none, 0, false⟩, spn := { s.spn with headPos := s.spn.pos } }

/-- A HEAD_CLAIM frame (R374). -/
def State.claimFrame (s : State) : Bytes :=
  let b := toLe 2 s.stackId ++ [3, byte s.pairNo] ++ toLe 2 s.myId.toNat ++ zeros 6
  b ++ toLe 4 (crc32c b)

/-- The active member of pair 0 is the headstock; where another pair has taken the role meanwhile, it announces itself and takes the role at
the next job boundary (R378). -/
def headOnActive (s : State) : State :=
  if s.pairNo ≠ 0 ∨ s.head.head then s
  else if s.spn.headPos < 2 ∨ !((s.spn.map.getD s.spn.headPos 0).toNat % 4 = 1) then takeHead s
  else emit (.chain s.claimFrame) { s with head := { s.head with giveBack := true } }

/-! ### Powering down to STEADY (R385, R386, R398) -/

def State.pairLink (s : State) : Nat := s.rfld .PAIR_CFG 0 12 8

/-- The registers of a quarter die take their Reset values, and the blank's values are loaded again (R430); the tier registers stand in
quarter 0 (R140). `keep`: a link whose port stays powered. -/
def quarterRegs (keep : Option Nat) (q : Quarter) (s : State) : State :=
  let s := clearRegs (fun r u =>
    if r.info.blk = .TIER then q.val = 0 && r ≠ .USABLE_GRAN
    else r.info.blk.perQuarter ≠ 0 && u / max 1 r.info.n / max 1 r.info.blk.perQuarter = q.val &&
      !(r.info.blk = .LNK && keep = some (u / max 1 r.info.n))) s
  let s := loadTenants (s.setReg .RT_VERSION 0 (w32 (leAt s.routeRec 0 4)))
  ((indices 24).filter fun l => l.val / 6 = q.val && keep ≠ some l.val).foldl (fun s l =>
    if s.hasRec 11 l.val then loadLink true l.val (s.recOf 11 l.val) s else s) s

/-- The quarters, DIMMs and carriers lose power; the pair link's port stays (R385); cores, tasks, queues and programs are gone (R430). -/
def powerDown (keepLink : Bool) (s : State) : State :=
  let s := (indices 24).foldl (fun s l => if keepLink ∧ l.val = s.pairLink then s else dropLink l 9 0 s) s
  let s := (indices 20).foldl (fun s d => stopDom ⟨d.val, by omega⟩ s) s
  let s := (indices 16).foldl (fun s c => s.updChan c fun _ => ChanSt.init) s
  let s := (indices 8).foldl (fun s c => s.updCar c fun k => { k.kept with desc := k.desc, st := if !s.present c then 0 else if !s.owned c then 1 else 0 }) s
  let s := (indices 4).foldl (fun s q => quarterRegs (if keepLink then some s.pairLink else none) q s) s
  { s with
    quarts := s.quarts.map fun q => { q with st := 0, drain := none }
    slices := s.slices.map fun x => { x with st := 0, after := none, cleared := true }
    mem := [], poison := [], upsets := [], tags := [], tagc := []
    pool := PoolSt.init
    tier := { s.tier with dense := [], remirror := [], ckpts := [], gc := none, opened := false }
    work := { WorkSt.init with progIncs := s.work.progIncs, accSeq := s.work.accSeq, taskSeq := s.work.taskSeq }
    rgn := { s.rgn with tab := s.rgn.tab.map fun e => (e.1, e.2.kept) }
    obs := { s.obs with watches := [] } }

/-- The device becomes STEADY: its power state is STANDBY-COLD (R428). -/
def becomeSteady (s : State) : State :=
  let s := setRole 2 (powerDown true s)
  { s with pwr := { s.pwr with st := 4, trans := none }, pair := { s.pair with seize := false, window := none, handback := false },
           head := ⟨false, none, none, 0, false⟩ }

/-- The device takes the role ACTIVE with a new epoch (R387, R393 stage 9). -/
def becomeActive (handover : Bool) (s : State) : State :=
  headOnActive (setRole 1 (openEpoch handover s))

end Sys2Proof.Machine
end

