-- ==== Sys2Proof/Machine/Startup.lean ====
section
/-! DEFINITION. Start-up (R410 to R416): what each step does when it begins and when it ends, hosted start-up, and the opening of pool
service (R379, R387, R393 stages 6 to 8, R491, R494). -/

namespace Sys2Proof.Machine

/-- The stamp of the instant a start-up step began. -/
def paceStep : Nat := 16

def State.qOn (s : State) (q : Nat) : Bool := (s.quarts.toList.map Quart.st).getD q 0 = 2

def suEv (k : EvKind) (step cause : Nat) (st : Byte) (s : State) : State := logEv ⟨1, k, step, cause, st, 0, 0xFF, []⟩ s

/-! ### Step 3: marks, knot map, records (R5 to R7, R416) -/

/-- Is a mark valid (R5)? `copy`: the copy in use. -/
def markOk (serial : Bytes) (copy : Nat) (sigs : List SigRef) (r : Rec) : Bool :=
  let g := leAt r.data 0x10 4
  r.data.length = 0x80 && sigs.contains (copy, 3, r.inst) && cut r.data 0 16 = serial && g < 256 && bits g 5 4 ≠ 3 && bits g 2 0 ≤ 2

/-- The combined grants of the valid marks (R5). -/
def grants (marks : List Rec) : Nat :=
  let gs := marks.map fun r => leAt r.data 0x10 4
  let or_ (i : Nat) : Nat := b2n (gs.any fun g => bit g i) * 2 ^ i
  or_ 7 + or_ 6 + or_ 3 + 16 * (gs.map fun g => bits g 5 4).foldl max 0 + (gs.map fun g => bits g 2 0).foldl max 0

/-- The knot map's physical cores of a quarter, and whether the whole map names no core and no bank twice (R416). -/
def knotCores (d : Bytes) (q : Nat) : List Nat := (List.range 36).map fun k => leAt d (0x10 + 0x80 * q + k) 1

def knotOk (serial : Bytes) (copy : Nat) (sigs : List SigRef) (d : Bytes) : Bool :=
  d.length = 0x270 && sigs.contains (copy, 4, 0) && cut d 0 16 = serial &&
    (List.range 4).all fun q =>
      noDup (knotCores d q) && (knotCores d q).all (fun c => c < 40) &&
        (List.range 36).all fun k =>
          let a := leAt d (0x34 + 0x80 * q + 2 * k) 1
          let b := leAt d (0x35 + 0x80 * q + 2 * k) 1
          a ≠ b && a < 34 && b < 34

/-- SPARES_USED of Q_STAT: physical cores above P35 that the knot map in force uses (R416). -/
def State.sparesUsed (s : State) (q : Nat) : Nat :=
  if s.hasRec 4 then ((knotCores (s.recOf 4) q).filter fun c => 36 ≤ c).length else 0

/-- Marks are verified and FEATURES is loaded; ignored marks and an ignored knot map leave the records in force. False: no valid mark. -/
def loadMarks (sigs : List SigRef) (s : State) : Bool × State :=
  let ok (r : Rec) : Bool := markOk s.hw.serial s.blank.src sigs r
  let all_ := s.blank.live.filter fun r => r.typ = 3
  let good := all_.filter ok
  let s := (all_.filter fun r => !ok r).foldl (fun s _ => suEv .refused 3 0 stBAD_DESCRIPTOR s) s
  let badKnot := s.hasRec 4 && !knotOk s.hw.serial s.blank.src sigs (s.recOf 4)
  let s := if badKnot then suEv .refused 3 0 stBAD_DESCRIPTOR s else s
  let s : State := { s with blank := { s.blank with live := s.blank.live.filter fun r => (r.typ ≠ 3 || ok r) && (r.typ ≠ 4 || !badKnot) } }
  if good = [] then (false, s.setReg .FEATURES 0 0)
  else (true, s.setReg .FEATURES 0 (w32 (grants good + 256 * b2n (good.length < all_.length))))

/-- The records that step 3 loads into the device. -/
def loadAll (s : State) : State :=
  let s := loadTenants (loadStack s.stackRec (loadPolicy s.policy s))
  let s := if s.hasRec 10 then loadHosts (s.recOf 10) s else s
  let s := if s.hasRec 13 then loadShaper (s.recOf 13) s else s
  let s := (List.range 24).foldl (fun s l => if s.hasRec 11 l then loadLink true l (s.recOf 11 l) s else s) s
  let s := s.setReg .RT_VERSION 0 (w32 (leAt s.routeRec 0 4))
  let s := if s.hasRec 14 then
      let s := loadPlate (s.recOf 14) s
      { s with shp := { s.shp with startAt := s.plate.firstStart s.ptNs } }
    else s
  fillBuckets s

/-! ### Steps 5 to 9: quarters, cores, channels, carriers, links -/

/-- A quarter is powered, its domains started (R421); or it is held in quarter reset (R410 step 5). -/
def startQuarter (up : Bool) (q : Quarter) (s : State) : State :=
  if up then
    let s := [DomId.nclk q, .qcclk q, .mclk q, .fclk q].foldl (fun s d => startDom (domNo d) (domDiv (domNo d)) s) s
    traceResume (4 + q.val) { s with quarts := upd s.quarts q fun x => { x with st := 2, drain := none } }
  else { s with quarts := upd s.quarts q fun x => { x with st := 3, drain := none } }

/-- Step 6 begins: ECLK runs in the quarters that are on, and the waves start (R411, R421). -/
def startCores (qs : List Quarter) (s : State) : State :=
  if !s.kcoreEn then s
  else
    let s := qs.foldl (fun s q => if s.qOn q.val then startDom (domNo (.eclk q)) s.eclkTarget s else s) s
    let w := ((qs.map Fin.val).head?).getD 0
    { s with su := { s.su with wave := 6 * w, waveAt := s.time.nclk } }

/-- Step 7 begins on the channels of these quarters: training, or with `warm` the end of self-refresh (R76, R77). -/
def startChans (qs : List Quarter) (warm : Bool) (s : State) : State :=
  (indices 16).foldl (fun s c =>
    if !((qs.map Fin.val).contains (c.val / 4) && s.qOn (c.val / 4)) then s
    else if warm ∧ (s.chan c).st ≠ 0 then s.updChan c fun k => { k with selfRef := false, st := if k.st = 3 then 2 else k.st }
    else s.updChan c fun _ => { ChanSt.init with st := 1 }) s

/-- Step 8 begins: discovery on every owned carrier (R135). -/
def startCars (s : State) : State := if s.flashEn then (indices 8).foldl (fun s c => carEnter c s) s else s

/-- Step 9 begins: each enabled link of these quarters that has a LINK record trains; without one it stays DISABLED (R406, R410). -/
def startLinks (qs : List Quarter) (s : State) : State :=
  (indices 24).foldl (fun s l =>
    if !((qs.map Fin.val).contains (l.val / 6) && s.qOn (l.val / 6)) || !s.linkEnabled l.val then s
    else if s.hasRec 11 l.val then (if (s.link l).st = 9 then enterDetect l s else s)
    else s.updLink l fun k => { k with st := 0, cause := 0 }) s

/-- Is some link between DETECT's end and ACTIVE (R410 step 9)? -/
def State.linksTraining (s : State) : Bool := (indices 24).any fun l => 2 ≤ (s.link l).st && (s.link l).st ≤ 4

/-! ### Step 10: the chain (R375, R376) -/

/-- An ENUM frame (R374). -/
def State.enumFrameOf (s : State) (token : Nat) : Bytes :=
  let b := toLe 2 s.stackId ++ [2, byte token] ++ zeros 8
  b ++ toLe 4 (crc32c b)

/-- This device originates enumeration from position p. -/
def originate (p : Nat) (s : State) : State :=
  setTimer paceEnum s.time.nclk (emit (.chain (s.enumFrameOf (p + 1))) { s with spn := { s.spn with origin := true, pos := p } })

def startChain (s : State) : State :=
  let s := { s with spn := { s.spn with state := 1, portAt := some s.time.nclk } }
  if s.pin.head then originate 0 s else s

/-! ### Step 11: the pair role (R387) -/

def State.ownAll (s : State) : Bool := s.pin.carOwn = 0xFF#8

/-- Step 11 begins. A device with a LOST slot yields (R355). -/
def startPair (s : State) : State :=
  let s := s.updPair fun p => { p with yielding := p.yielding || s.hw.keys.any fun k => k.st = 2 }
  if s.soloRec ∨ s.pair.partnerRole = 1 then s
  else if s.preferred ∧ !s.pair.yielding then s.updPair fun p => { p with seize := true }
  else s.updPair fun p => { p with waitAt := some s.time.nclk }

/-- Step 11 ends with a role. -/
def endPair (s : State) : State :=
  let s := s.updPair fun p => { p with waitAt := none }
  if s.pair.role ≠ 0 then s
  else if s.soloRec then headOnActive (setRole 7 s)
  else if s.pair.partnerRole = 1 then
    setRole (if s.preferred ∧ s.revert ∧ !s.pair.yielding then 3 else 2) (s.updPair fun p => { p with seize := false })
  else if s.pair.seize ∧ s.ownAll then setRole 1 s
  else setRole 2 (s.updPair fun p => { p with seize := false })

/-! ### Step 12: pool service (R393 stages 6 to 8, R494) -/

/-- Journal streams end where replay ends: at the first page that is not wholly programmed (R124). -/
def cutStreams (s : State) : State :=
  s.updTier fun t => { t with streams := t.streams.map fun e => (e.1, { e.2 with pages := e.2.pages.takeWhile JPage.ok }) }

/-- Map entries of volatile regions are gone with their data (R68, R430). -/
def dropVolatile (s : State) : State :=
  let gone (b : Nat) : Bool := (s.regionOfBlock b).any fun e => !e.2.durable
  s.updTier fun t => { t with fmap := t.fmap.filter fun e => !gone e.1 }

/-- Without an orderly-shutdown record every read counter rises by RD_LIMIT / 8; the record is used up (R131). -/
def raiseReads (s : State) : State :=
  let n := (s.reg .RD_LIMIT).toNat / 8
  s.updTier fun t =>
    { t with orderly := false, sbs := if t.orderly then t.sbs else t.sbs.map fun e => (e.1, { e.2 with reads := e.2.reads.map fun r => satAdd 32 r n }) }

/-- A coordinated generation whose done messages or trigger are not recorded as over: they go again, with REPLAY (R190). -/
def resumeGens (s : State) : State :=
  s.rgn.tab.foldl (fun s e =>
    let g := e.2
    let x := g.gen
    if g.kind = 2 ∧ g.st = 1 ∧ s.coordinates g ∧ x.doneValid ∧ !x.fired then
      s.updGen e.1 fun x => { x with phase := 2, cGen := x.gDone, cFlags := x.flags + 16, doneWait := List.range g.members }
    else s) s

/-- Owner maps stand in DRAM as the replay leaves them (R396). -/
def loadOwnerMaps (s : State) : State :=
  s.rgn.tab.foldl (fun s e =>
    let g := e.2
    if g.kind = 1 ∧ g.durable ∧ g.st ≠ 0 ∧ (s.memberOf g).isSome then
      (List.range (g.shadowLen / 16384)).foldl (fun s i => (putImage (g.shadow / 16384 + i) e.1 g.tenant s).2) s
    else s) s

/-- The checkpoint and the journal are read: carriers placed, streams cut, the device ready to serve from flash. `warm`: from DRAM. -/
def readCheckpoint (warm : Bool) (s : State) : State :=
  let s := if s.flashEn then placeCarriers (if warm then s else if s.su.wake then cutStreams s else raiseReads (cutStreams s)) else s
  if warm then s else loadOwnerMaps (dropVolatile s)

/-- Pinned blocks are restored on every ONLINE channel. -/
def restoreAll (s : State) : State :=
  (indices 16).foldl (fun s c => if (s.chan c).st = 2 then restorePinned c s else s) s

/-- A STEADY or WARM device that could not serve its tenants' keys yields instead of being READY (R392). -/
def judgeReady (s : State) : State :=
  let lost := s.hw.keys.any fun k => k.st = 2
  let env := s.tier.keyEnv.any Option.isSome
  if lost ∧ !env then pairEv .state s.spn.pos 0 s.pair.role (s.updPair fun p => { p with ready := false, yielding := true })
  else s.updPair fun p => { p with ready := true }

/-- What stands in DRAM is not used (R426, R430). -/
def loseDram (s : State) : State :=
  let s := (indices 16).foldl (fun s c => dirDrop c.val (tagsInvalid c.val s)) s
  { s with mem := [], poison := [], upsets := [], rgn := { s.rgn with tab := s.rgn.tab.map fun e => (e.1, e.2.kept) } }

/-- Step 12 (R410): pool service opens, or the device stands by. -/
def openService (s : State) : State :=
  let warm := s.su.warm
  let s := { s with su := { s.su with locked := true, service := true, warm := false } }
  match s.pair.role with
  | 2 => becomeSteady (judgeReady s)
  | 3 => (judgeReady (if warm then loseDram s else s)).updPair fun p => { p with handback := true }
  | _ =>
    let s := readCheckpoint warm (if s.su.wake then s else startSlices s)
    let s := if warm then s else restoreAll s
    let s := resumeGens (s.updPair fun p => { p with ready := true })
    let s := if s.pair.role = 1 then headOnActive (ownMapByte (openEpoch false (installKeys s))) else s
    if s.su.wake then
      ({ s with su := { s.su with wake := false }, pwr := { s.pwr with lastTile := s.time.nclk, lastDispatch := s.time.nclk } }).result
        .PWR_CMD_RESULT 0 stOK
    else s

/-! ### The course of the steps -/

/-- What a step does when it begins. -/
def beginStep (n : Nat) (s : State) : State :=
  let s := setTimer paceStep s.time.nclk { s with su := { s.su with running := s.su.running ++ [n], failed := false, pllTries := 0 } }
  let qs := indices 4
  match n with
  | 5 => { s with quarts := s.quarts.map fun q => { q with st := 1 } }
  | 6 => startCores qs s
  | 7 => startChans qs s.su.warm s
  | 8 => startCars s
  | 9 => startLinks qs s
  | 10 => startChain s
  | 11 => startPair s
  | _ => s

/-- A step has ended. -/
def markDone (n : Nat) (s : State) : State :=
  let s := { s with su := { s.su with running := s.su.running.filter (· ≠ n), doneSteps := s.su.doneSteps.filter (· ≠ n) ++ [n],
                                      step := max s.su.step n, failed := false, cause := 0 } }
  if s.isBusy .SU_CMD_RESULT 0 then s.result .SU_CMD_RESULT 0 stOK else s

/-- Does start-up go on by itself (R410, R414)? -/
def State.autonomous (s : State) : Bool := s.su.wake || (!s.su.hosted && !s.su.stopped)

/-- The step after step n begins, where start-up goes on by itself: 8 runs alongside 7, and 6 is passed over without the kernel-core
feature, and the way out of SLEEP or STANDBY-COLD has no steps 10, or 10 and 11 (R428). -/
def nextStep (n : Nat) (s : State) : State :=
  if !s.autonomous ∨ 12 ≤ n then s
  else if s.su.wake ∧ n = 9 then beginStep (if s.su.doneSteps.contains 11 then 12 else 11) s
  else
    match n with
    | 5 => if s.kcoreEn then beginStep 6 s else beginStep 8 (beginStep 7 (markDone 6 s))
    | 6 => beginStep 8 (beginStep 7 s)
    | 7 => if s.su.running.contains 8 then s else if s.su.doneSteps.contains 8 then beginStep 9 s else beginStep 8 s
    | 8 => if s.su.running.contains 7 then s else beginStep 9 s
    | _ => beginStep (n + 1) s

/-- A step fails: autonomous start-up stops, hosted start-up waits (R410, R414). The spec names no status for a step that fails under SU_CMD:
it is a free value. -/
def failStep (n : Nat) (cause : Byte) (s : State) : State :=
  let s := suEv .fault n cause.toNat 0 { s with su := { s.su with running := s.su.running.filter (· ≠ n), failed := true, failStep := n, cause := cause,
                                                                  stopped := s.su.stopped || !s.su.hosted } }
  if s.isBusy .SU_CMD_RESULT 0 then
    let (k, s) := draw s
    s.result .SU_CMD_RESULT 0 (byte (Config.random k).toNat)
  else s

def stepOver (n : Nat) (s : State) : State := nextStep n (markDone n s)

/-- The limit of a step that ends by its limit at the latest passes. -/
def stepLimit (n : Nat) (s : State) : State := advanceTo (s.time.stamps.get 0 paceStep + n) s

/-- A step ends, with what the outside found while it ran (R410). Steps 1, 6, 7 and 8 are not over before what they wait for is. -/
def endStep (n : Nat) (r : StepReport) (s : State) : State :=
  match n with
  | 1 => if !s.clk.refStable ∨ !s.pin.pwrfailN then s else if s.hw.pufOk && r.ok then stepOver 1 s else failStep 1 r.cause s
  | 2 =>
    match selectCopy r.readable r.sigs (tryOrder s r.readable) s with
    | (some t, _) => stepOver 2 t
    | (none, t) => failStep 2 r.cause t
  | 3 =>
    match loadMarks r.sigs s with
    | (true, t) => stepOver 3 (loadAll t)
    | (false, t) => failStep 3 r.cause t
  | 4 =>
    if r.ok && s.clk.rootLock then stepOver 4 (startDom 21 (domDiv 21) (startDom 20 (domDiv 20) s))
    else if s.su.pllTries < 2 then { s with su := { s.su with pllTries := s.su.pllTries + 1 } }
    else failStep 4 r.cause s
  | 5 => stepOver 5 ((indices 4).foldl (fun s q => startQuarter (bit r.quartersUp.toNat q.val) q s) s)
  | 6 => if s.kcoreEn && s.su.wave < 24 then s else stepOver 6 s
  | 7 => if (indices 16).any fun c => (s.chan c).st = 1 then s else stepOver 7 s
  | 8 => if (indices 8).any fun c => (s.car c).st = 2 then s else stepOver 8 s
  | 9 => stepOver 9 (if s.linksTraining then stepLimit (msec 1100) s else s)
  | 10 => stepOver 10 (if s.spn.state = 2 then s else stepLimit (secs 2) s)
  | 11 => stepOver 11 (endPair s)
  | 12 => markDone 12 (openService { s with su := { s.su with doneSteps := s.su.doneSteps ++ [12] } })
  | _ => s

/-- STARTUP_STEP_DONE: the first of the steps that run ends. -/
def stepDoneRun (r : StepReport) (s : State) : State :=
  match s.su.running with
  | n :: _ => endStep n r s
  | [] => s

/-! ### Hosted start-up (R414) -/

def suConflict (s : State) : State := conflict .SU_CMD_RESULT 0 1 s.su.step s.su.step s

/-- SU_CMD under R490. -/
def suCmd (op : Nat) (f : State → State) (s : State) : State :=
  if s.isBusy .SU_CMD_RESULT 0 then refusedBusy 1 s.su.step op s.su.step s
  else if s.autonomous then suConflict s
  else f s

/-- A step begins by command; step 6 without the kernel-core feature is over at once. -/
def cmdStep (n : Nat) (s : State) : State :=
  let s := s.busy .SU_CMD_RESULT 0
  if n = 6 ∧ !s.kcoreEn then markDone 6 s else beginStep n s

def suRun (step : BitVec 4) (s : State) : State :=
  suCmd 0 (fun s =>
    let n := step.toNat
    if n = s.su.step + 1 ∧ n ≤ 12 ∧ s.su.running = [] then cmdStep n s else suConflict s) s

def suRetry (step : BitVec 4) (s : State) : State :=
  suCmd 1 (fun s => if s.su.failed ∧ step.toNat = s.su.failStep then cmdStep step.toNat s else suConflict s) s

end Sys2Proof.Machine
end

