-- ==== Sys2Proof/Machine/Chain.lean ====
section
/-! DEFINITION. The spindle chain (R373 to R378, R437, R12), heartbeats (R388, R389) and claims of the headstock role. -/

namespace Sys2Proof.Machine

/-! ### Heartbeats (R388, R389) -/

def State.kakTag (s : State) : W32 := match s.hw.seed with | some n => Config.kakTag n | none => 0

/-- The 12 bytes of a heartbeat before its CRC. -/
def State.hbBody (s : State) : Bytes :=
  let p := s.pair
  toLe 2 s.myId.toNat ++
    [p.alive, byte (p.role % 16 + 16 * b2n p.ready + 32 * b2n s.head.head + 64 * b2n p.yielding + 128 * b2n p.handback)] ++
    toLe 4 p.epoch.toNat ++ toLe 4 s.kakTag.toNat

/-- An ACTIVE member stops its heartbeats during a warm reset (R426). -/
def State.hbStopped (s : State) : Bool := s.su.drain.isSome && s.pair.role = 1

/-- A message out of the pair link's port (R385). -/
def sendPair (op : Nat) (payload : Bytes) (s : State) : State :=
  if h : s.pairLink < 24 then
    if s.portLive s.pairLink then
      let m : Msg := { cls := .mgt, op := op, dst := s.partnerId, src := s.myId, tag := 0, payload := payload }
      putMsg ⟨s.pairLink, h⟩ (s.svcOf m.dst) m (emit (.msg s.pairLink m) s)
    else s
  else s

/-- HEARTBEAT_SEND: ALIVE rises, check-value unit 0 appends the CRC, and the heartbeat goes on the pair link; the next SUPER frame takes the
same one. -/
def hbSendRun (s : State) : State :=
  let s := pace paceBeat (usec 100) s
  if s.spn.pos = 0x3F ∨ s.hbStopped then s
  else
    let s := s.updPair fun p => { p with alive := p.alive + 1 }
    let b := s.hbBody
    let c := crc32c b
    let hb := b ++ toLe 4 c
    let s := (s.updPair fun p => { p with hb := hb }).setReg .CHK_VALUE 0 (w32 (c ^^^ 0xFFFFFFFF))
    if s.soloRec then s else sendPair 0x12 hb s

def State.hbPath (s : State) (p : HbPath) : HbPathSt := match p with | .chain => s.pair.chain | .link => s.pair.link
def setHbPath (p : HbPath) (x : HbPathSt) (s : State) : State :=
  match p with
  | .chain => s.updPair fun y => { y with chain := x }
  | .link => s.updPair fun y => { y with link := x }

/-- A partner's heartbeat arrives on a path: unit 1 checks it; an accepted one counts in its slot and shows the partner's state. -/
def hbRx (p : HbPath) (hb : Bytes) (s : State) : State :=
  let s := s.setReg .CHK_VALUE 1 (w32 (crc32c (cut hb 0 12) ^^^ 0xFFFFFFFF))
  if hb.length < 16 ∨ crc32c (cut hb 0 12) ≠ leAt hb 12 4 then s.count .HB_CRC_ERR_CNT
  else if s.soloRec ∨ leAt hb 0 2 ≠ s.partnerId.toNat then s
  else
    let a := byte (leAt hb 2 1)
    let x := s.hbPath p
    if x.last = some a then s.count .HB_REPEAT_CNT
    else
      let r := leAt hb 3 1
      (setHbPath p { x with good := true, last := some a } s).updPair fun y =>
        { y with partnerRole := r % 16, partnerReady := bit r 4, partnerHandback := bit r 7, partnerKak := w32 (leAt hb 8 4) }

/-! ### SUPER frames (R374, R377, R437) -/

/-- A chain frame's first 12 bytes with their CRC. -/
def chainHdr (b : Bytes) : Bytes := b ++ toLe 4 (crc32c b)

def chainOk (f : Bytes) : Bool := 16 ≤ f.length && crc32c (cut f 0 12) = leAt f 12 4

/-- The heartbeat and the alarms of this member go into a frame that passes; the headstock's position too (R378). -/
def State.fillFrame (s : State) (f : Bytes) : Bytes :=
  let now := leAt f 8 1 ||| s.spn.alarmOwn.toNat ||| s.spn.alarmSet.toNat
  let hp := if s.head.head then s.spn.pos else leAt f 11 1
  let h := chainHdr (cut f 0 8 ++ [byte now] ++ cut f 9 2 ++ [byte hp])
  let slots := f.drop 16
  h ++ (if s.spn.pos < 32 ∧ !s.hbStopped then splice slots (16 * s.spn.pos) s.pair.hb else slots)

/-- ALARM_LAST is latched, with one entry per newly set bit (R377). -/
def latchAlarm (last : Nat) (s : State) : State :=
  let new := (List.range 8).filter fun b => bit last b && !bit s.spn.alarm.toNat b
  new.foldl (fun s b => pairEv .state s.spn.pos b 0 s) { s with spn := { s.spn with alarm := s.spn.alarm ||| byte last } }

/-- Role and epoch of each member that shows in the frame: for the headstock's map (R380), and when pair 0 was last without an active member
(R378). -/
def readSlots (slots : Bytes) (s : State) : State :=
  let hbOf (p : Nat) : Bytes := cut slots (16 * p) 16
  let good (p : Nat) : Bool := crc32c (cut (hbOf p) 0 12) = leAt (hbOf p) 12 4 && leAt (hbOf p) 0 2 = (s.idOf p).toNat
  let active (p : Nat) : Bool := good p && mapRole (leAt (hbOf p) 3 1 % 16) = 1
  let there : Bool := active 0 || active 1 || (s.pairNo = 0 && mapRole s.pair.role = 1)
  let gone := if there then none else some (s.head.absentAt.getD s.time.nclk)
  let s : State := { s with head := { s.head with absentAt := gone } }
  if !s.head.head then s
  else
    let old := s.spn
    let before := padTo 32 old.map
    let s := ((List.range 32).filter fun p => good p && p ≠ s.spn.pos).foldl (fun (s : State) p =>
      let r := leAt (hbOf p) 3 1
      let s := s.setMapByte p (byte (mapRole (r % 16) + 4 * b2n (bit r 5) + 8 * b2n (bit (before.getD p 0).toNat 3)))
      if h : p / 2 < 16 then
        if mapRole (r % 16) = 1 then { s with spn := { s.spn with epochs := s.spn.epochs.set (p / 2) (w32 (leAt (hbOf p) 4 4)) } } else s
      else s) s
    publishMap old s

/-- The PPS frame's edge, less the chain's delay, is compared with pool time; in holdover it is the phase reference (R437). -/
def ppsCheck (s : State) : State :=
  if !s.ptValid then s
  else
    let m := max 1 s.spn.members
    let hops := (s.spn.pos + m - s.spn.originPos % m) % m
    let cfg := s.rfld .CHAIN_DELAY 0 15 0
    let delay := 8 * (if cfg = 0 then 200 * hops else cfg)
    let sec := 8000000000
    let r := (s.time.pt + sec - delay % sec) % sec
    let off : Int := if 2 * r < sec then r else (r : Int) - sec
    let s := if 8000 < off.natAbs then
        logEv ⟨0x0C, .threshold, 0xFFFF, 0, 0, 0, 0xFF, toLe 8 (off / 8 % 2 ^ 64).toNat⟩ { s with time := { s.time with diverge := true } }
      else s
    if s.time.holdAt.isSome then correct off s else s

/-- SUPER_FRAME_PERIOD: the origin starts a frame, at a whole multiple of 100 µs of its pool time (R374, R437). -/
def superStart (s : State) : State :=
  if !s.spn.origin ∨ s.spn.state < 2 then s
  else
    let s := if s.ptValid then advancePool ((s.ptNs / 100000 + 1) * 100000) s else pace paceSuper (usec 100) s
    let pps := s.ptValid && s.ptNs % 1000000000 < 100
    let n := s.spn.sfn + 1
    let f := chainHdr (toLe 2 s.stackId ++ [1, byte (b2n pps)] ++ toLe 4 n ++
      [0, s.spn.alarmLast, byte s.spn.members, byte s.spn.headPos]) ++ zeros 512
    emit (.chain (s.fillFrame f)) { s with spn := { s.spn with sfn := n, alarmSet := 0 } }

/-- A frame has come: periods missed before it are counted, the chain is joined again. -/
def frameSeen (s : State) : State :=
  let n := (s.time.nclk - s.spn.lastSf) / usec 100 - 1
  let s := if s.spn.lastSf = 0 then s else s.count .SF_MISS_CNT 0 (n - s.spn.missed)
  { s with spn := { s.spn with lastSf := s.time.nclk, missed := 0, state := if s.spn.state = 3 then 2 else s.spn.state } }

/-- SUPER_FRAME: the origin takes back its own frame; a member uses the frame, fills it and passes it on. An origin that is not HEAD-strapped
yields to another's frames; the HEAD-strapped origin neither uses nor forwards them (R376). -/
def superRx (f : Bytes) (s : State) : State :=
  if !chainOk f then emit (.chain f) (s.count .SF_CRC_ERR_CNT)
  else if s.spn.pos = 0x3F ∨ leAt f 0 2 ≠ s.stackId then emit (.chain f) s
  else
    let own := s.spn.origin && leAt f 4 4 = s.spn.sfn % 2 ^ 32
    if s.spn.origin ∧ !own ∧ s.pin.head then s
    else
      let last := if own then leAt f 8 1 else leAt f 9 1
      let s := latchAlarm last (frameSeen s)
      let slots := f.drop 16
      let s := if s.soloRec then s else hbRx .chain (cut slots (16 * s.partnerPos) 16) s
      let s := readSlots slots { s with spn := { s.spn with headPos := leAt f 11 1 } }
      if own then { s with spn := { s.spn with alarmLast := byte last } }
      else
        let s := { s with spn := { s.spn with origin := false, originPos := if s.spn.origin then 0 else s.spn.originPos, sfn := leAt f 4 4,
                                              members := leAt f 10 1, state := if s.spn.state = 1 then 2 else s.spn.state } }
        let s := if bit (leAt f 3 1) 0 then ppsCheck s else s
        emit (.chain (s.fillFrame f)) { s with spn := { s.spn with alarmSet := 0 } }

/-! ### Enumeration (R12, R375, R376) -/

def State.expectPos (s : State) : Nat := leAt s.stackRec 2 1

/-- ENUM_FRAME. -/
def enumRx (f : Bytes) (s : State) : State :=
  if !chainOk f then emit (.chain f) (s.count .SF_CRC_ERR_CNT)
  else if leAt f 0 2 ≠ s.stackId ∨ s.spn.state = 0 then emit (.chain f) s
  else
    let v := leAt f 3 1
    if s.spn.origin ∧ s.spn.state = 1 then { s with spn := { s.spn with state := 2, members := v, lastSf := s.time.nclk } }
    else if s.spn.pos ≠ 0x3F then emit (.chain f) s
    else if 16 ≤ v ∧ !bit s.features.toNat 7 then
      let s := s.setReg .FEATURES 0 (w32 (setBits s.features.toNat 9 9 1))
      let s := if v = s.expectPos then s else { s with spn := { s.spn with mismatch := true } }
      emit (.chain f) (pairEv .refused v 0 0 s)
    else if v ≠ s.expectPos then
      emit (.chain f) (pairEv .refused v 0 0 { s with spn := { s.spn with mismatch := true } })
    else emit (.chain (s.enumFrameOf (v + 1))) { s with spn := { s.spn with pos := v, state := 2, lastSf := s.time.nclk } }

/-- ENUM_REPEAT: every 10 ms until the token returns. -/
def enumAgain (s : State) : State :=
  if s.spn.origin ∧ s.spn.state = 1 then
    let s := pace paceEnum (msec 10) s
    emit (.chain (s.enumFrameOf (s.spn.pos + 1))) s
  else s

/-- CHAIN_BROKEN: eight periods without a SUPER frame; position 1 originates. -/
def chainBreak (s : State) : State :=
  if s.spn.state ≠ 2 then s
  else
    let s := advanceTo (s.spn.lastSf + usec 800) s
    let s : State := s.count .SF_MISS_CNT 0 (8 - s.spn.missed)
    let s : State := { s with spn := { s.spn with state := 3, missed := 8 } }
    if s.spn.pos = 1 then { s with spn := { s.spn with origin := true, originPos := 1 } }
    else { s with spn := { s.spn with originPos := 1 } }

/-- ORIGIN_TIMEOUT: 2 s after its chain port was enabled at a cold start, position 1 originates. -/
def originLate (s : State) : State :=
  match s.spn.portAt with
  | some t =>
    if s.spn.state = 1 ∧ s.spn.pos = 0x3F ∧ !s.spn.origin ∧ s.expectPos = 1 ∧ !s.su.warm then
      let s := originate 1 (advanceTo (t + secs 2) s)
      { s with spn := { s.spn with originPos := 1, portAt := none } }
    else s
  | none => s

/-! ### Claims (R378) -/

/-- HEAD_CLAIM_FRAME. The device's own claim that returns is taken off the chain. -/
def claimRx (f : Bytes) (s : State) : State :=
  if !chainOk f then emit (.chain f) (s.count .SF_CRC_ERR_CNT)
  else if s.spn.pos = 0x3F ∨ leAt f 0 2 ≠ s.stackId then emit (.chain f) s
  else if leAt f 4 2 = s.myId.toNat then s
  else
    let p := leAt f 3 1
    let s := if p < s.pairNo then { s with head := { s.head with claimAt := none } } else s
    let s := if p = 0 ∧ s.pairNo ≠ 0 ∧ s.head.head then { s with head := { s.head with giveBack := true } } else s
    emit (.chain f) s

/-- HEADSTOCK_ABSENT: pair 0 has had no active member for 2 s. -/
def headAbsent (s : State) : State :=
  match s.head.absentAt with
  | some t =>
    if s.pairNo ≠ 0 ∧ mapRole s.pair.role = 1 ∧ !s.head.head ∧ s.head.claimAt.isNone ∧ s.spn.pos ≠ 0x3F then
      let s := advanceTo (t + secs 2) s
      emit (.chain s.claimFrame) { s with head := { s.head with claimAt := some s.time.nclk, claimSent := s.time.nclk } }
    else s
  | none => s

def claimAgain (s : State) : State :=
  if s.head.claimAt.isSome then
    let s := advanceTo (s.head.claimSent + msec 10) s
    emit (.chain s.claimFrame) { s with head := { s.head with claimSent := s.time.nclk } }
  else s

/-- HEAD_CLAIM_WIN: the claim has returned unopposed for 100 ms. -/
def claimWin (s : State) : State :=
  match s.head.claimAt with
  | some t => takeHead (advanceTo (t + msec 100) s)
  | none => s

/-- SPN_ALARM_SET: bits for the next SUPER frame. -/
def alarmSetRun (b : Byte) (s : State) : State := { s with spn := { s.spn with alarmSet := s.spn.alarmSet ||| b } }

/-- STACK_MAP_UPDATE: a member takes the headstock's map, if it is newer (R380). The spec gives the map's content and no opcode: the payload is MAP_SEQ,
the member bytes and the pair epochs. -/
def mapRx (m : MgtMsg) (s : State) : State :=
  let q := leAt m.payload 0 4
  if s.head.head ∨ !s.isDevice m.src ∨ !(older s.spn.mapSeq.toNat q) then s
  else { s with spn := { s.spn with mapSeq := w32 q, map := padTo 32 (cut m.payload 4 32),
                                    epochs := Vector.ofFn fun i : Fin 16 => w32 (leAt m.payload (36 + 4 * i.val) 4) } }

/-- A frame that reaches a hub held in reset, or one whose chain port is not enabled, passes by the bypass (R373). -/
def onChain (f : Bytes → State → State) (frame : Bytes) (s : State) : Host.Outcome State Fault Refusal :=
  done (if s.su.held ∨ s.spn.state = 0 then emit (.chain frame) s else f frame s)

def execSuperFramePeriod (s : State) : Host.Outcome State Fault Refusal := live superStart s
def execSuperFrame (frame : Bytes) (s : State) : Host.Outcome State Fault Refusal := onChain superRx frame s
def execEnumFrame (frame : Bytes) (s : State) : Host.Outcome State Fault Refusal := onChain enumRx frame s
def execEnumRepeat (s : State) : Host.Outcome State Fault Refusal := live enumAgain s
def execChainBroken (s : State) : Host.Outcome State Fault Refusal := live chainBreak s
def execOriginTimeout (s : State) : Host.Outcome State Fault Refusal := live originLate s
def execHeadClaimFrame (frame : Bytes) (s : State) : Host.Outcome State Fault Refusal := onChain claimRx frame s
def execHeadstockAbsent (s : State) : Host.Outcome State Fault Refusal := live headAbsent s
def execHeadClaimRepeat (s : State) : Host.Outcome State Fault Refusal := live claimAgain s
def execHeadClaimWin (s : State) : Host.Outcome State Fault Refusal := live claimWin s
def execSpnAlarmSet (bits : Byte) (s : State) : Host.Outcome State Fault Refusal := live (alarmSetRun bits) s
def execHeartbeatSend (s : State) : Host.Outcome State Fault Refusal := live hbSendRun s
def execHeartbeat (path : HbPath) (hb : Bytes) (s : State) : Host.Outcome State Fault Refusal := live (hbRx path hb) s
def execStackMapUpdate (m : MgtMsg) (s : State) : Host.Outcome State Fault Refusal := live (mapRx m) s

end Sys2Proof.Machine
end

