-- ==== Sys2Proof/Machine/Shave.lean ====
section
/-! DEFINITION. The shavings dump (R459, R460, R464): its sections, its triggers, its release and its export. What an implementation's pipelines hold
beside the architectural state (mesh inputs, DDR queues, ages of trackers, semaphores) is a free value in each entry. -/

namespace Sys2Proof.Machine

/-- The WAIT code of a tracker (R460). -/
def Trk.waitCode (t : Trk) : Nat :=
  if t.ans.isSome ∧ t.jwait ≠ [] then 5
  else
    match t.wait with
    | .lock => 1
    | .snoop | .flush => 2
    | .fill => 3
    | .way => 4
    | .journal | .deltaLog => 6
    | .bypass => 7
    | .dirWay | .limit | .victim => 8
    | .chan => 10
    | .compute => 11
    | .space | .ptab | .ready => 0

/-- The opcode byte of a tracker: CLASS in bits 7:5, OPCODE in bits 4:0. -/
def Trk.opByte (t : Trk) : Nat :=
  match t.who with
  | .wb _ => 3 * 32 + (if t.op = 0x40 then 1 else 2)
  | .victim _ => 32
  | .host _ | .acc _ => t.op % 32

/-- A section: its 16-byte header and its entries; DT is a free value. -/
def shvSection (typ unit : Nat) (esize : Nat) (entries : List Bytes) (s : State) : Bytes × State :=
  let (dt, s) := randomBytes 4 s
  (toLe 2 typ ++ toLe 2 unit ++ toLe 4 entries.length ++ toLe 2 esize ++ zeros 2 ++ dt ++ entries.flatten, s)

/-- Entries made one after another. -/
def shvEntries {α : Type} (f : α → State → Bytes × State) : List α → State → List Bytes × State
  | [], s => ([], s)
  | a :: r, s =>
    let (b, s) := f a s
    let (l, s) := shvEntries f r s
    (b :: l, s)

def shvTracker (id : Nat) (s : State) : Bytes × State :=
  match s.trk id with
  | none => (zeros 16, s)
  | some t =>
    let (age, s) := randomBytes 2 s
    ([1, byte t.waitCode, byte t.opByte, byte t.slice] ++ toLe 2 t.r.src.toNat ++ toLe 2 t.r.handle.toNat ++ toLe 6 t.dpa ++ age, s)

def shvLinkVc (k : LinkSt) (vc : Nat) : Bytes :=
  toLe 4 (k.sent.getD vc 0) ++ toLe 4 (k.peerFreed.getD vc 0) ++ toLe 2 (k.peerDepth.getD vc 0) ++
    toLe 2 (k.got.getD vc 0 - k.freed.getD vc 0) ++ [byte (b2n ((k.opens.getD vc none).isSome)), byte k.st, 0, 0]

def shvMesh (_ : Nat) (s : State) : Bytes × State :=
  let (a, s) := randomBytes 3 s
  let (b, s) := randomBytes 4 s
  (a ++ [0] ++ b, s)

def shvDdr (c : ChanId) (s : State) : Bytes × State :=
  let (a, s) := randomBytes 3 s
  let (b, s) := randomBytes 4 s
  (a ++ [byte (s.chan c).st] ++ b, s)

def shvStream (x : Stream) : Bytes :=
  let open_ := x.pages.find? fun p => !p.closed
  let last := ((x.pages.filter JPage.ok).getLast?.map JPage.seq).getD 0
  toLe 8 ((open_.map JPage.seq).getD x.next) ++ toLe 2 ((open_.map fun p => p.recs.length).getD 0) ++
    toLe 2 (x.pages.filter fun p => p.closed && p.await ≠ []).length ++ toLe 4 last

/-- An existing queue: its oldest task that is not final, and the counter which that task awaits. -/
def shvQueue (s : State) (k : Nat) (q : Queue) : Bytes :=
  let live := s.work.tasks.filter fun t => t.key = k && !t.final
  let hd := toLe 2 (s.handleOf (k / 8)).toNat ++ [byte (k % 8), byte q.st]
  match live.head? with
  | none => hd ++ zeros 12
  | some t => hd ++ toLe 4 t.tag.toNat ++ [byte t.st, byte t.wait] ++ toLe 2 live.length ++ cut t.desc 0x18 4

def shvCore (k : CoreId) (s : State) : Bytes × State :=
  let c := s.coreSt k
  let ten := match s.coreTenant k with | some t => t.val | none => 0xFF
  let us := if c.tile.isSome then (s.time.nclk - c.since) / 1600 else 0
  let (sem, s) := randomBytes 2 s
  ([byte c.st, byte ten] ++ (if c.st = 2 then sem else zeros 2) ++ toLe 4 us, s)

/-- One die's sections of a type after another. -/
def shvQuarts (f : Quarter → State → Bytes × State) (s : State) : Bytes × State :=
  (indices 4).foldl (fun (a : Bytes × State) q => let (b, s) := f q a.2; (a.1 ++ b, s)) ([], s)

/-- The whole dump (R460). -/
def shvDump (trigger : Nat) (s : State) : Bytes × State :=
  let hdr := padTo 64 (toLe 4 0xD0B05A5A ++ toLe 2 1 ++ [byte trigger, 0] ++ toLe 4 25 ++ toLe 8 s.ptField.toNat ++ padTo 16 s.hw.serial)
  let (t1, s) := shvQuarts (fun q s =>
    let (l, s) := shvEntries shvTracker ((List.range 4096).map (q.val * 4096 + ·)) s
    shvSection 1 q.val 16 l s) s
  let (t2, s) := shvQuarts (fun q s =>
    let l := ((indices 24).filter fun l => l.val / 6 = q.val).flatMap fun l => (List.range 6).map (shvLinkVc (s.link l))
    shvSection 2 q.val 16 l s) s
  let (t3, s) := shvQuarts (fun q s => let (l, s) := shvEntries shvMesh (List.range 24) s; shvSection 3 q.val 8 l s) s
  let (t4, s) := shvQuarts (fun q s =>
    let (l, s) := shvEntries shvDdr ((indices 16).filter fun c => c.val / 4 = q.val) s
    shvSection 4 q.val 8 l s) s
  let (t5, s) := shvQuarts (fun q s => shvSection 5 q.val 16 ((indices 16).map fun t => shvStream (s.stream (streamKey q.val t))) s) s
  let (t6, s) := shvSection 6 0xFFFF 16 (s.work.queues.map fun e => shvQueue s e.1 e.2) s
  let (t7, s) := shvQuarts (fun q s =>
    let (l, s) := shvEntries shvCore ((indices 144).filter fun k => k.val / 36 = q.val) s
    shvSection 7 q.val 8 l s) s
  (hdr ++ t1 ++ t2 ++ t3 ++ t4 ++ t5 ++ t6 ++ t7, s)

/-- A dump is taken and HELD. -/
def shvTake (trigger : Nat) (s : State) : State :=
  let (b, s) := shvDump trigger s
  { s with obs := { s.obs with dump := some ⟨byte trigger, b⟩ } }

def State.shvState (s : State) : Nat := b2n s.obs.dump.isSome

def shvConflict (code : Nat) (s : State) : State := conflict .SHV_CMD_RESULT 0 0x0D 0 code s

/-- A SHV_CMD under R490. -/
def shvCmd (code : Nat) (f : State → State) (s : State) : State :=
  if s.isBusy .SHV_CMD_RESULT 0 then refusedBusy 0x0D 0 code s.shvState s else f s

/-- SHAVE: needs TRACE_PERM bit 16; the spec names no status where the permission is missing: NO_ACCESS. -/
def shaveRun (s : State) : State :=
  if !s.tracePerm.testBit 16 then s.result .SHV_CMD_RESULT 0 stNO_ACCESS
  else if s.obs.dump.isSome then shvConflict 1 s
  else (shvTake 1 s).result .SHV_CMD_RESULT 0 stOK

/-- The automatic trigger: dropped while a dump is HELD. -/
def shaveAuto (s : State) : State :=
  if s.rfld .SHV_CTL 0 0 0 = 0 ∨ !s.tracePerm.testBit 16 then s
  else if s.obs.dump.isSome then s.count .SHV_REFUSE_CNT
  else shvTake 2 s

/-- RELEASE, and EXPORT of a dump: with none HELD the state is EMPTY, code 0. -/
def shvReleaseRun (s : State) : State :=
  if s.obs.dump.isNone then shvConflict 0 s
  else ({ s with obs := { s.obs with dump := none } }).result .SHV_CMD_RESULT 0 stOK

def shvExportRun (s : State) : State := if s.obs.dump.isNone then shvConflict 0 s else s.busy .SHV_CMD_RESULT 0

/-- The datagrams of a dump: up to 1,400 bytes each. -/
def shvChunks : Nat → Bytes → List Bytes
  | 0, _ => []
  | n + 1, b => if b = [] then [] else b.take 1400 :: shvChunks n (b.drop 1400)

/-- EXPORT_DONE: the last datagram has left; the dump is released. -/
def shvExportDoneRun (s : State) : State :=
  match s.obs.dump with
  | some d =>
    if s.isBusy .SHV_CMD_RESULT 0 then
      let s := (shvChunks (d.data.length / 1400 + 1) d.data).foldl (fun s b => sendUdp 2 b s) s
      ({ s with obs := { s.obs with dump := none } }).result .SHV_CMD_RESULT 0 stOK
    else s
  | none => s

def execShvShave (s : State) : Host.Outcome State Fault Refusal := live (shvCmd 1 shaveRun) s
def execShvRelease (s : State) : Host.Outcome State Fault Refusal := live (shvCmd 2 shvReleaseRun) s
def execShvExport (s : State) : Host.Outcome State Fault Refusal := live (shvCmd 3 shvExportRun) s
def execShvExportDone (s : State) : Host.Outcome State Fault Refusal := live shvExportDoneRun s

end Sys2Proof.Machine
end

