-- ==== Sys2Proof/Machine/Resets.lean ====
section
/-! DEFINITION. Resets of the hub and of a quarter (R424 to R427, R476, R477), power states (R423, R428 to R430), the thermal limit (R432) and
the power-loss sequence (R433, R434). -/

namespace Sys2Proof.Machine

/-! ### Power-on reset, source failure, loss of a rail -/

/-- An ALARM bit of this member rises or lifts (R377). -/
def setAlarm (b : Nat) (on : Bool) (s : State) : State :=
  { s with spn := { s.spn with alarmOwn := byte (setBits s.spn.alarmOwn.toNat b b (b2n on)) } }

/-- The hub starts and the straps are sampled (R471). -/
def startWith (cause : Byte) (x : Straps) (pufOk : Bool) (s : State) : State :=
  let s := { s with pin := { s.pin with head := x.head, hosted := x.hosted }, hw := { s.hw with pufOk := pufOk },
                    su := { s.su with held := false, waitRef := false } }
  let s := startHub cause s
  { s with clk := { s.clk with refSel := x.refSel, srefSel := x.srefSel } }

/-- POWER_ON_RESET from outside. After a thermal trip RST_CAUSE reads 0x08 (R432); a RESET or ERASE that waited for main power takes effect
(R354). PORST_N during the power-loss sequence waits for its end (R477). -/
def powerOnRun (cause : PorCause) (x : Straps) (pufOk : Bool) (s : State) : State :=
  match cause with
  | .porstN =>
    if s.pwr.pfPhase = 1 ∧ !s.su.held then
      { s with pwr := { s.pwr with porHeld := true }, pin := { s.pin with head := x.head, hosted := x.hosted },
               hw := { s.hw with pufOk := pufOk }, clk := { s.clk with refSel := x.refSel, srefSel := x.srefSel } }
    else if s.pwr.st = 5 then s
    else startWith (if s.pwr.trip then 8 else 2) x pufOk s
  | .powerApplied =>
    startWith (s.hw.resetPending.getD (if s.pwr.trip then 8 else 1)) x pufOk { s with pin := { s.pin with pwrfailN := true } }

/-- The hub and the quarters are held in reset: asynchronous logic acts at once (R424). -/
def holdHub (s : State) : State :=
  let s := porState s
  { s with su := { s.su with running := [], held := true } }

/-- SOURCE_FAIL: the device waits for the reference to be stable again (R424). -/
def sourceFailRun (s : State) : State :=
  if s.su.held then s
  else
    let k := s.clk
    let s := holdHub (plogEv 5 0 0 s)
    { s with su := { s.su with waitRef := true },
             clk := { s.clk with refStable := false, rootLock := false, xtalStable := k.xtalStable, refSel := k.refSel, srefSel := k.srefSel } }

/-- MAIN_RAIL_LOSS: as a source failure, until every rail is back (R476, R477). -/
def railLossRun (s : State) : State :=
  let trip := s.pwr.trip
  let s := holdHub s
  { s with pwr := { s.pwr with st := 5, trip := trip }, clk := { s.clk with refStable := false, rootLock := false } }

/-! ### The drain (R426, R427) -/

/-- Every open journal page of some streams closes. -/
def closeJournals (p : Nat → Bool) (s : State) : State :=
  (s.tier.streams.map Prod.fst).foldl (fun s k => if p k then closeJPage k s else s) s

def State.streamsOk (s : State) (p : Nat → Bool) : Bool := s.tier.streams.all fun e => !p e.1 || e.2.pages.all JPage.ok

/-- Has everything admitted completed, every journal page been programmed? -/
def State.isDrained (s : State) : Bool := s.pool.trks.isEmpty && s.pool.xwaits.isEmpty && s.streamsOk fun _ => true

def State.quartDrained (s : State) (q : Quarter) : Bool :=
  s.pool.trks.all (fun t => t.quarter ≠ q.val) && s.streamsOk (fun k => k / 16 = q.val) &&
    (indices 144).all fun k => k.val / 36 ≠ q.val || (s.coreSt k).st ≠ 2

/-! ### Warm reset (R426, R413, R430) -/

/-- A warm reset is triggered; ignored during the power-loss sequence (R477). -/
def warmStart (cause : Byte) (s : State) : State :=
  if s.pwr.pfPhase ≠ 0 ∨ s.su.drain.isSome then s
  else closeJournals (fun _ => true) { s with su := { s.su with drain := some ⟨cause, s.time.nclk⟩ } }

/-- What a warm reset leaves: what a power-on reset leaves, and DRAM with its training, the directory store, region state, ephemeral keys,
the oscillators (R77, R430) and an unlock (R466). -/
def warmState (s : State) : State :=
  let s := s.tier.dense.foldl (fun s d => d.pages.foldl (fun s pg => dropWriteBack pg s) s) s
  let k := porState s
  { k with
    mem := s.mem, poison := s.poison, upsets := s.upsets, tags := s.tags
    chans := s.chans.map fun c => { c with selfRef := true, pd := 0 }
    clk := { k.clk with refStable := s.clk.refStable, xtalStable := s.clk.xtalStable, rootLock := s.clk.rootLock,
                        refSel := s.clk.refSel, srefSel := s.clk.srefSel }
    pool := { PoolSt.init with dir := s.pool.dir, slots := s.pool.slots, flushes := s.pool.flushes }
    rgn := { s.rgn with tab := s.rgn.tab.map fun e => (e.1, { e.2 with reply := none }) }
    work := { WorkSt.init with progIncs := s.work.progIncs, accSeq := s.work.accSeq, taskSeq := s.work.taskSeq }
    obs := { k.obs with hub := s.obs.hub, down := s.obs.down, unlocked := s.obs.unlocked, fails := s.obs.fails }
    pwr := { k.pwr with trip := s.pwr.trip } }

/-- The warm reset itself, and start-up from step 2 (R413). -/
def warmReset (cause : Byte) (s : State) : State :=
  let s := traceSources.foldl (fun s i => traceDown i 4 s) s
  let s := (indices 4).foldl (fun s q => traceMove q s) s
  let s := rtcStart (plogEv 1 cause.toNat 0 (warmState s))
  let s := { s with su := { s.su with step := 1, doneSteps := [1], running := [], warm := true, hosted := s.pin.hosted } }
  if s.autonomous then beginStep 2 s else s

def warmDrainDoneRun (s : State) : State :=
  match s.su.drain with
  | some d => if s.isDrained then warmReset d.cause s else s
  | none => s

/-- The drain passes 20 ms: a power-on reset (R426). -/
def warmDrainLimit (s : State) : State :=
  match s.su.drain with
  | some d => startHub 5 (advanceTo (d.since + msec 20) s)
  | none => s

/-- RST_CMD under R490. -/
def rstCmd (unit code : Nat) (f : State → State) (s : State) : State :=
  if s.pwr.pfPhase ≠ 0 then s
  else if s.isBusy .RST_CMD_RESULT 0 then refusedBusy 2 unit code s.pwr.st s
  else f s

def warmResetCmd (s : State) : State := rstCmd 0xFFFF 1 (fun s => warmStart 4 (s.busy .RST_CMD_RESULT 0)) s

/-! ### Quarter reset (R427, R430) -/

/-- A quarter stops: links into RESET, clocks stopped, cores off (a tile that was under way is given out anew), caches empty, DRAM in
self-refresh, registers reset. -/
def quarterOff (q : Quarter) (s : State) : State :=
  let mine (sl : Nat) : Bool := sl / 4 = q.val
  let s := ((indices 24).filter fun l => l.val / 6 = q.val).foldl (fun s l => dropLink l 9 0 s) s
  let s := [DomId.eclk q, .nclk q, .qcclk q, .mclk q, .fclk q].foldl (fun s d => stopDom (domNo d) s) s
  let s := ((indices 144).filter fun k => k.val / 36 = q.val).foldl (fun s k =>
    let s : State := match (s.coreSt k).tile with
      | some (.block r b e) =>
        { s with work := { s.work with comps := s.work.comps.map fun c => if c.region = r ∧ c.blk = b ∧ c.epoch = e then { c with dispatched := false, ended := false } else c } }
      | some (.task _) | none => s
    s.updCore k fun c => { c with st := if c.st = 5 then 5 else 0, tile := none, cleared := false }) s
  let s := ((indices 16).filter fun c => mine c.val).foldl (fun s c => s.updChan c fun k => { k with selfRef := k.up, pd := 0 }) s
  let s := { s with
    tagc := s.tagc.filter (fun e => !mine (e.1 / 2048))
    pool := { s.pool with dirc := s.pool.dirc.filter (fun e => !mine (e.1 / 4096)), tcache := s.pool.tcache.set q [],
                          fills := s.pool.fills.filter (fun f => !mine f.slice) } }
  quarterRegs none q s

/-- Steps 5 to 9 for one quarter (R427): power and clocks, cores by waves, channels out of self-refresh, links by training. -/
def quarterBack (q : Quarter) (s : State) : State := startLinks [q] (startChans [q] true (startCores [q] (startQuarter true q s)))

/-- RST_CMD_RESULT of a quarter reset that a command began. -/
def quarterAnswer (s : State) : State :=
  if s.isBusy .RST_CMD_RESULT 0 ∧ s.su.drain.isNone then s.result .RST_CMD_RESULT 0 stOK else s

def quarterResetRun (q : Quarter) (s : State) : State :=
  rstCmd q.val 2 (fun s =>
    if (s.quart q).st ≠ 2 then conflict .RST_CMD_RESULT 0 2 q.val (s.quart q).st s
    else
      let s := s.busy .RST_CMD_RESULT 0
      closeJournals (fun k => k / 16 = q.val) { s with quarts := upd s.quarts q fun x => { x with drain := some ⟨0, s.time.nclk⟩ } }) s

/-- An orderly quarter reset. -/
def quarterOrderly (q : Quarter) (s : State) : State :=
  let s := traceMove q (traceDown (4 + q.val) 3 s)
  quarterAnswer ((quarterBack q (quarterOff q s)).count .QRESET_CNT)

def quarterDrainDoneRun (q : Quarter) (s : State) : State :=
  if (s.quart q).drain.isSome ∧ s.quartDrained q then quarterOrderly q s else s

/-- The quarter's work is abandoned: requests at it are gone, agents of this device ask again, its write-backs and unprogrammed journal pages are
given up. -/
def abandon (q : Quarter) (s : State) : State :=
  let gone := s.pool.trks.filter fun t => t.quarter = q.val
  let s := { s with pool := { s.pool with trks := s.pool.trks.filter (fun t => t.quarter ≠ q.val),
                                          fills := s.pool.fills.filter (fun f => f.slice / 4 ≠ q.val) } }
  let s := gone.foldl (fun s t => match t.who with
    | .acc n => accAnswer n stRETRY_BUSY 0 [] s
    | .host _ | .wb _ | .victim _ => s) s
  let old := s.tier.dense.filter fun d => d.q = q.val
  let s := s.updTier fun t =>
    { t with dense := t.dense.filter (fun d => d.q ≠ q.val)
             streams := t.streams.map fun e => if e.1 / 16 = q.val then (e.1, { e.2 with pages := e.2.pages.takeWhile JPage.ok }) else e }
  old.foldl (fun s d =>
    releaseEmpty d.sb (d.pages.foldl (fun s pg => match pg.why with
      | .copy _ => (denseAdd d.q pg s).getD s
      | .writeBack => s) s)) s

/-- A slice after a disorderly reset: its tag store invalid, durable blocks from flash and journal, volatile blocks lost, the directory recovered by
SNP_FLUSH (R104, R124, R167). -/
def recoverSlice (sl : Fin 16) (s : State) : State :=
  match s.sliceTenant sl.val with
  | some t =>
    let s := { s with pool := { s.pool with flushes := s.pool.flushes.filter (fun f => f.slice ≠ sl.val), bypass := upd s.pool.bypass sl fun _ => none } }
    restorePinned (chanOf sl.val) (sendFlush sl.val t (dirDrop sl.val (loseSlice sl.val s)))
  | none => s

/-- A disorderly quarter reset (R427); no DOWN frame is written (R457). -/
def quarterDisorderly (q : Quarter) (s : State) : State :=
  let s := { s with obs := { s.obs with quart := upd s.obs.quart q fun _ => ⟨[], 0⟩ } }
  let s := quarterBack q (quarterOff q (abandon q s))
  let s := ((indices 16).filter fun sl => sl.val / 4 = q.val).foldl (fun s sl => recoverSlice sl s) s
  memPump 64 (quarterAnswer (s.count .QRESET_CNT))

def quarterDrainLimit (q : Quarter) (s : State) : State :=
  match (s.quart q).drain with
  | some d => quarterDisorderly q (advanceTo (d.since + msec 20) s)
  | none => s

/-- QWDOG_EXPIRE: with AUTO a dump is taken first (R459). -/
def qwdogRun (q : Quarter) (s : State) : State :=
  if (s.quart q).st = 2 ∧ s.pwr.pfPhase = 0 then quarterDisorderly q (shaveAuto s) else s

/-! ### The power-loss sequence (R433, R434, R477) -/

/-- The sequence begins: drains stop, every open journal page closes, ALARM PWRFAIL is raised. The command whose drain stops is answered by a free
status: the spec names none. -/
def pfStart (s : State) : State :=
  let busy := s.isBusy .RST_CMD_RESULT 0
  let s := (s.count .PF_CNT)
  let s := { s with pwr := { s.pwr with pfPhase := 1, pfAt := s.time.nclk, trans := none }, su := { s.su with drain := none },
                    quarts := s.quarts.map fun x => { x with drain := none } }
  let s := if busy then (let (k, s) := draw s; s.result .RST_CMD_RESULT 0 (byte (Config.random k).toNat)) else s
  closeJournals (fun _ => true) (setAlarm 0 true s)

def pwrfailRun (s : State) : State :=
  let s := { s with pin := { s.pin with pwrfailN := false } }
  if s.su.held ∨ s.pwr.pfPhase ≠ 0 then s else pfStart (advanceTo (s.time.nclk + usec 2) s)

/-- PF_SEQUENCE_DONE: the delta logs and the orderly-shutdown record are written; what has not been answered never is; links and the chain
port stop with the outputs. -/
def pfDoneRun (mib us : W16) (s : State) : State :=
  if s.pwr.pfPhase ≠ 1 then s
  else
    let s := advanceTo (s.pwr.pfAt + usec us.toNat) s
    let s := if s.tier.geo = [] then s else s.updTier fun t => { t with orderly := true }
    let s := plogEv 6 0 (mib.toNat * 65536 + us.toNat)
      { s with pool := { s.pool with trks := [], xwaits := [] },
               pwr := { s.pwr with pfPhase := 2, pfMib := mib, pfUs := us, pfAt := s.time.nclk, trip := s.pwr.trip || s.pwr.tripPend, tripPend := false } }
    let s := (indices 24).foldl (fun s l => dropLink l 9 0 s) s
    let s : State := { s with spn := { s.spn with state := 0, origin := false }, head := { s.head with claimAt := none } }
    if s.pwr.porHeld then
      let k := s.clk
      let s := startHub (if s.pwr.trip then 8 else 2) s
      { s with clk := { s.clk with refSel := k.refSel, srefSel := k.srefSel } }
    else s

/-- PF_RESTART_TIMEOUT: PWRFAIL_N has been high for 10 ms: after PF_DONE the device restarts (R434); a start that waited for it at step 1 goes on
(R477). -/
def pfRestartRun (s : State) : State :=
  if s.su.held then s
  else if s.pwr.pfPhase = 2 then
    let k := s.clk
    let s := advanceTo (s.pwr.pfAt + msec 10) { s with pin := { s.pin with pwrfailN := true } }
    let s := startHub (if s.pwr.trip then 8 else 9) s
    { s with clk := { s.clk with refSel := k.refSel, srefSel := k.srefSel } }
  else if s.pwr.pfPhase = 0 then { s with pin := { s.pin with pwrfailN := true } }
  else s

/-! ### Temperatures (R432) -/

def tempRun (c : Byte) (s : State) : State :=
  let s := pace paceTemp (msec 1) s
  let t := c.toNat
  let lim := if 100 ≤ t then true else if t < 95 then false else s.pwr.thermLimit
  let s := setAlarm 2 lim { s with pwr := { s.pwr with tempMax := c, thermLimit := lim } }
  if 115 ≤ t ∧ !s.pwr.trip ∧ !s.pwr.tripPend then
    let s := plogEv 7 0 t { s with pwr := { s.pwr with tripPend := true } }
    if s.pwr.pfPhase = 0 then pfStart s
    else if s.pwr.pfPhase = 2 then { s with pwr := { s.pwr with trip := true, tripPend := false } }
    else s
  else s

/-! ### Power states (R423, R428 to R430) -/

/-- A request to gate a node beneath which something runs is refused (R423). -/
def gateRefuse (s : State) : State :=
  logEv ⟨2, .refused, 0xFFFF, 0, stSTATE_CONFLICT, s.pwr.st, 0xFF, s.pwrData⟩ (s.count .GATE_REFUSE_CNT)

/-- Does a core run, or is one being cleared or tested? -/
def State.coresRun (s : State) : Bool := (indices 144).any fun k => (s.coreSt k).st = 2 || (s.coreSt k).st = 4

def pwrConflict (s : State) : State := conflict .PWR_CMD_RESULT 0 2 0xFFFF s.pwr.st s

/-- Is a DDR channel, carrier or link command running? -/
def State.unitBusy (s : State) : Bool :=
  ((List.range 16).any fun c => s.isBusy .CH_CMD_RESULT c) || ((List.range 8).any fun c => s.isBusy .CAR_CMD_RESULT c) ||
    (List.range 24).any fun l => s.isBusy .LNK_CMD_RESULT l

/-- Entry to SLEEP or STANDBY-COLD is accepted: the drain of R426 begins and every flash map is checkpointed. -/
def sleepStart (t : Nat) (s : State) : State :=
  let new := if s.tier.geo = [] then [] else (List.range 16).filter fun w => !(s.tier.ckpts.any fun k => k.what = w)
  let s := (s.busy .PWR_CMD_RESULT 0).updTier fun x => { x with ckpts := x.ckpts ++ new.map fun w => ⟨w, x.logs.toList.getD w 0⟩ }
  closeJournals (fun _ => true) { s with pwr := { s.pwr with trans := some t } }

/-- The steps that lead out of SLEEP or STANDBY-COLD begin (R428). -/
def wakeUp (s : State) : State :=
  let cold := s.pwr.st = 4
  let s := { s.busy .PWR_CMD_RESULT 0 with
    pwr := { s.pwr with st := 0 }
    su := { s.su with wake := true, warm := !cold, running := [], doneSteps := if cold then [1, 2, 3, 10] else [1, 2, 3, 4, 10, 11] } }
  beginStep (if cold then 4 else 5) s

/-- SET_STATE (R429). -/
def setStateRun (target : BitVec 4) (s : State) : State :=
  if s.isBusy .PWR_CMD_RESULT 0 then refusedBusy 2 0xFFFF 1 s.pwr.st s
  else
    match target.toNat, s.pwr.st with
    | 0, 3 => wakeUp s
    | 0, 4 => if s.pair.role = 2 then pwrConflict s else wakeUp s
    | 0, _ => pwrConflict s
    | 4, 3 => sleepStart 4 s
    | 3, st | 4, st =>
      if 2 < st ∨ s.pair.role ≠ 7 ∨ s.liveTasks ≠ 0 ∨ s.unitBusy ∨ s.pwr.pfPhase ≠ 0 ∨ s.su.drain.isSome then pwrConflict s
      else if s.coresRun then pwrConflict (gateRefuse s)
      else sleepStart target.toNat s
    | _, _ => s.result .PWR_CMD_RESULT 0 stUNSUPPORTED

/-- The quarters and the carriers lose power; DRAM goes into self-refresh, or with STANDBY-COLD loses power too, and volatile regions with it. -/
def sleepEnter (t : Nat) (s : State) : State :=
  let s := (indices 4).foldl (fun s q => traceMove q (traceDown (4 + q.val) (if t = 3 then 1 else 2) s)) s
  let s := (indices 4).foldl (fun s q => quarterOff q s) s
  let s := { s with quarts := s.quarts.map fun x => { x with st := 0, drain := none } }
  let s := (indices 8).foldl (fun (s : State) c => s.updCar c fun (k : CarSt) =>
    { k.kept with desc := k.desc, recSt := if k.st = 5 ∨ k.st = 6 ∨ k.st = 4 then k.st else k.recSt, st := if !s.present c then 0 else if !s.owned c then 1 else 0 }) s
  let s : State := s.tier.dense.foldl (fun s (d : DStripe) => d.pages.foldl (fun s pg => dropWriteBack pg s) s) s
  let s := s.updTier fun x => { x with dense := [], remirror := [], gc := none, opened := false }
  if t = 3 then s
  else
    let s := loseDram s
    (indices 16).foldl (fun s c => s.updChan c fun _ => ChanSt.init) (s.updDom 20 fun _ => ⟨256, 256, s.time.nclk⟩)

/-- SLEEP_ENTRY_DONE: once drained and checkpointed the state is entered (R429). -/
def sleepDoneRun (s : State) : State :=
  match s.pwr.trans with
  | some t =>
    if !s.isDrained ∨ s.tier.ckpts ≠ [] then s
    else
      let s := sleepEnter t s
      let s := { s with pwr := { s.pwr with st := t, trans := none },
                        su := { s.su with doneSteps := s.su.doneSteps.filter (· ≠ 12), service := false } }
      s.result .PWR_CMD_RESULT 0 stOK
  | none => s

/-- IDLE_TIMER_EXPIRE: no tile on any core for IDLE_US (R428). -/
def idleRun (s : State) : State :=
  if s.pwr.st ≠ 0 ∨ !s.su.service then s
  else
    let s := advanceTo (s.pwr.lastTile + usec (max 1 (s.rfld .PWR_TIMERS 0 15 0))) s
    if s.coresRun then gateRefuse s else { s with pwr := { s.pwr with st := 1 } }

/-- DOZE_TIMER_EXPIRE: no tile dispatched for DOZE_MS: cores off, every rank in power-down (R89, R428). -/
def dozeRun (s : State) : State :=
  let ms := s.rfld .PWR_TIMERS 0 31 16
  if 2 ≤ s.pwr.st ∨ ms = 0 ∨ !s.su.service then s
  else
    let s := advanceTo (s.pwr.lastDispatch + msec ms) s
    if s.coresRun then gateRefuse s
    else
      let s := (indices 144).foldl (fun s k => if (s.coreSt k).st = 1 then s.updCore k fun c => { c with st := 0, cleared := false } else s) s
      let s := (indices 16).foldl (fun s c => if (s.chan c).up then s.updChan c fun k => { k with pd := 2 ^ k.ranks - 1 } else s) s
      { s with pwr := { s.pwr with st := 2 } }

/-! ### Commands -/

def execPowerOnReset (cause : PorCause) (straps : Straps) (pufOk : Bool) (s : State) : Host.Outcome State Fault Refusal :=
  done (powerOnRun cause straps pufOk s)
def execSourceFail (s : State) : Host.Outcome State Fault Refusal := done (sourceFailRun s)
def execMainRailLoss (s : State) : Host.Outcome State Fault Refusal := done (railLossRun s)
def execWarmRstNFall (s : State) : Host.Outcome State Fault Refusal := live (warmStart 3) s
def execWarmReset (s : State) : Host.Outcome State Fault Refusal := live warmResetCmd s
def execWarmDrainDone (s : State) : Host.Outcome State Fault Refusal := live warmDrainDoneRun s
def execWarmDrainTimeout (s : State) : Host.Outcome State Fault Refusal := live warmDrainLimit s
def execQuarterReset (q : Quarter) (s : State) : Host.Outcome State Fault Refusal := live (quarterResetRun q) s
def execQuarterDrainDone (q : Quarter) (s : State) : Host.Outcome State Fault Refusal := live (quarterDrainDoneRun q) s
def execQuarterDrainTimeout (q : Quarter) (s : State) : Host.Outcome State Fault Refusal := live (quarterDrainLimit q) s
def execQwdogExpire (q : Quarter) (s : State) : Host.Outcome State Fault Refusal := live (qwdogRun q) s
def execPwrfailNFall (s : State) : Host.Outcome State Fault Refusal := done (pwrfailRun s)
def execPfSequenceDone (mib us : W16) (s : State) : Host.Outcome State Fault Refusal := live (pfDoneRun mib us) s
def execPfRestartTimeout (s : State) : Host.Outcome State Fault Refusal := live pfRestartRun s
def execTempReport (celsius : Byte) (s : State) : Host.Outcome State Fault Refusal := live (tempRun celsius) s
def execSetState (target : BitVec 4) (s : State) : Host.Outcome State Fault Refusal := live (setStateRun target) s
def execSleepEntryDone (s : State) : Host.Outcome State Fault Refusal := live sleepDoneRun s
def execIdleTimerExpire (s : State) : Host.Outcome State Fault Refusal := live idleRun s
def execDozeTimerExpire (s : State) : Host.Outcome State Fault Refusal := live dozeRun s

end Sys2Proof.Machine
end

