-- ==== Sys2Proof/Machine/Pair.lean ====
section
/-! DEFINITION. The pair (R384 to R398): failure detection, takeover, fencing, epochs and their recovery window, and handover. -/

namespace Sys2Proof.Machine

/-! ### Fencing (R111, R386) -/

/-- Does a request depend on the carriers, which the device has lost? -/
def Trk.onFlash (t : Trk) : Bool :=
  t.jwait ≠ [] ||
    match t.wait with
    | .fill | .way | .space | .deltaLog | .journal | .bypass => true
    | .lock | .snoop | .dirWay | .limit | .victim | .chan | .flush | .compute | .ptab | .ready => false

/-- FENCED: no carrier is set FAILED, requests that cannot end without the carriers are answered EPOCH_CHANGED, one entry. The power-down to STEADY
follows when every admitted request has been answered. -/
def fence (s : State) : State :=
  let s := (indices 8).foldl (fun s c => s.updCar c fun k => { k with holdAt := none, st := if k.st = 0 ∨ k.st = 7 then k.st else 1, waiting := false }) s
  let s := s.updTier fun t => { t with fenceFirst := none }
  let s := pairEv .state s.spn.pos 0 6 (setRole 6 s)
  ((s.pool.trks.filter fun t => t.onFlash && t.ans.isNone || t.jwait ≠ []).map Trk.id).foldl (fun s id => refuse id stEPOCH_CHANGED 0 s) s

def carOwnFallRun (c : CarrierId) (s : State) : State :=
  let s := ownFall c s
  match s.tier.fenceFirst with
  | some f => if s.pair.role = 1 ∧ s.allFell f ∧ s.time.nclk ≤ f + msec 1 then fence s else s
  | none => s

/-- CAR_OWN_HOLD_EXPIRE: an ACTIVE device that finds all eight lines fallen is fenced. -/
def ownHoldRun (s : State) : State :=
  match s.tier.fenceFirst with
  | some f => if s.pair.role = 1 ∧ s.allFell f then fence (advanceTo (f + msec 1) s) else carHoldRun s
  | none => s

/-- The power-down that follows FENCED. -/
def fenceStep (s : State) : State := if s.pair.role = 6 ∧ s.pool.trks = [] then becomeSteady s else s

/-! ### Detection (R389, R390) -/

/-- A path's slot ends. -/
def HbPathSt.slotEnd (x : HbPathSt) : HbPathSt :=
  if x.good then { x with good := false, miss := 0, fault := false } else { x with miss := min 15 (x.miss + 1) }

/-- A path fault begins: the path's count has just reached 8 while the other's is below 8. -/
def pathFault (p : HbPath) (was : Nat) (other : Nat) (s : State) : State :=
  let x := s.hbPath p
  if x.miss = 8 ∧ was = 7 ∧ other < 8 then
    pairEv .fault s.spn.pos 0 s.pair.role ((setHbPath p { x with fault := true } s).count .PATH_FAULT_CNT)
  else s

/-- Takeover begins (R393 stage 1). -/
def takeoverStart (s : State) : State :=
  let s := setRole 4 ((setAlarm 3 true s).count .TAKEOVER_CNT)
  s.updPair fun p => { p with seize := true, stages := [], handing := false }

/-- HB_SLOT_END. -/
def hbSlotRun (s : State) : State :=
  let s := pace paceSlot (usec 100) s
  if s.soloRec ∨ s.spn.pos = 0x3F then s
  else
    let c0 := s.pair.chain.miss
    let l0 := s.pair.link.miss
    let s := s.updPair fun p => { p with chain := p.chain.slotEnd, link := p.link.slotEnd }
    let c1 := s.pair.chain.miss
    let l1 := s.pair.link.miss
    if 8 ≤ c1 ∧ 8 ≤ l1 then
      if s.pair.detected then s
      else
        let s := s.updPair fun p => { p with detected := true }
        if s.pair.role = 2 ∧ s.pair.ready then takeoverStart s
        else pairEv .timeout s.partnerPos 0 s.pair.partnerRole s
    else
      let s := pathFault .link l0 c1 (pathFault .chain c0 l1 s)
      if s.pair.role = 4 then s else s.updPair fun p => { p with detected := false }

/-! ### Takeover (R393, R397) -/

/-- The stages of becoming active, in the order in which they are run. -/
def takeStages : List Nat := [1, 2, 3, 4, 5, 6, 7, 8, 9, 10]

def State.stageNow (s : State) : Option Nat := takeStages.find? fun n => !s.pair.stages.contains n

def stageMark (n : Nat) (s : State) : State := s.updPair fun p => { p with stages := p.stages ++ [n] }

/-- A stage begins. -/
def stageBegin (n : Nat) (s : State) : State :=
  match n with
  | 3 => startDom 21 (domDiv 21) (startDom 20 (domDiv 20)
      { s with pwr := { s.pwr with st := 0, trans := none }, quarts := s.quarts.map fun x => { x with st := 1 } })
  | 4 => startCars (startLinks (indices 4) (startChans (indices 4) false s))
  | _ => s

/-- Is what a stage waits for over? -/
def State.stageOver (s : State) (n : Nat) : Bool :=
  match n with
  | 2 => s.ownAll
  | 4 => !((indices 16).any fun c => (s.chan c).st = 1)
  | 5 => !((indices 8).any fun c => (s.car c).st = 2)
  | 10 => s.pair.window.isNone
  | _ => true

/-- What the end of a stage brings about. -/
def stageEnd (n : Nat) (s : State) : State :=
  match n with
  | 3 => (indices 4).foldl (fun s q => startQuarter true q s) s
  | 6 => placeCarriers (raiseReads (cutStreams (startSlices s)))
  | 7 => loadOwnerMaps (dropVolatile s)
  | 8 => resumeGens (restoreAll (installKeys s))
  | 9 =>
    let s := { s with pool := { s.pool with dir := [], dirc := [], slots := [] },
                      su := { s.su with doneSteps := if s.su.doneSteps.contains 12 then s.su.doneSteps else s.su.doneSteps ++ [12], service := true } }
    becomeActive s.pair.handing s
  | 10 =>
    let s := startCores (indices 4) (setAlarm 3 false s)
    (s.updPair fun p => { p with handing := false, stages := [], detected := false })
  | _ => s

/-- TAKEOVER_STAGE_DONE: the stage under way is over and the next begins; 4 and 5 run together. A report that it is not (ok false) changes nothing. -/
def takeStageRun (ok : Bool) (s : State) : State :=
  let running := s.pair.role = 4 || (s.pair.role = 1 && s.pair.stages.length = 9)
  match s.stageNow with
  | some n =>
    if !ok ∨ !running ∨ !s.stageOver n then s
    else
      let s := stageEnd n (stageMark n s)
      match s.stageNow with | some k => if n = 10 then s else stageBegin k s | none => s
  | none => s

/-- PARTNER_WAIT_TIMEOUT: no ACTIVE partner for 2 s (R387). -/
def partnerWaitRun (s : State) : State :=
  match s.pair.waitAt with
  | some t =>
    if s.pair.role = 0 ∧ s.pair.partnerRole ≠ 1 then
      (advanceTo (t + secs 2) s).updPair fun p => { p with waitAt := none, seize := true }
    else s.updPair fun p => { p with waitAt := none }
  | none => s

/-! ### Epochs (R394, R395) -/

/-- The alias's index in the alive table, if the table lists it (R372). -/
def State.aliveIdx (s : State) (al : Nat) : Option Nat := (List.range s.nAlive).find? fun i => leAt s.routeRec (8 + 2 * i) 2 = al

/-- EPOCH_ANNOUNCE. -/
def epochRx (m : MgtMsg) (s : State) : State :=
  let al := leAt m.payload 0 2
  let src := m.src.toNat
  let isMember := al / 64 = src / 64 && 0x20 ≤ al % 64 && al % 64 < 0x30 && src % 64 < 0x20 && src % 64 / 2 = al % 64 - 0x20
  let e := w32 (leAt m.payload 4 4)
  if !isMember then s
  else
    let held := s.pair.heldEpochs.get 0 al
    let s := if older held.toNat e.toNat then
        let s := s.updPair fun p => { p with heldEpochs := p.heldEpochs.ins al e }
        match s.aliveIdx al with
        | some i => { s with alive := s.alive.put 0 i (leAt m.payload 2 1 % 2) }
        | none => s
      else s
    sendMgt m.src 0x11 (toLe 2 al ++ toLe 4 e.toNat) s

/-- EPOCH_ACK: of the epoch announced. -/
def epochAckRx (m : MgtMsg) (s : State) : State :=
  if leAt m.payload 0 2 = s.myAlias.toNat ∧ w32 (leAt m.payload 2 4) = s.pair.epoch then
    s.updPair fun p => { p with announces := p.announces.map fun a => if a.dest = m.src then { a with acked := true } else a }
  else s

/-- EPOCH_ANNOUNCE_RETRY: 1 ms after the last sending; after 1 s an entry. -/
def epochRetryRun (w : W16) (s : State) : State :=
  match s.pair.announces.find? fun a => a.dest = w && !a.acked with
  | some a =>
    let s := advanceTo (a.since + ((s.time.nclk - a.since) / msec 1 + 1) * msec 1) s
    if a.since + secs 1 < s.time.nclk then
      pairEv .timeout s.spn.pos 0 s.pair.role (s.updPair fun p => { p with announces := p.announces.filter fun x => x.dest ≠ w })
    else sendMgt w 0x10 (s.announcePayload s.pair.handing) s
  | none => s

/-- A line whose owner bit is still set takes the marker; its bit clears (R395). -/
def recoverLine (n : Nat) (g : Region) (line : Nat) (s : State) : State :=
  let sl := s.homeSlice g.tenant (line / 128)
  let (rs, s) := ownerMark n g line false s
  let s := storeMarker sl g.tenant line s
  let (p, s) := journalAdd (sl / 4) g.tenant (⟨line, n, [], true, none, true⟩ :: rs) s
  (pressure p.1 s).count .RECOV_POISON_CNT

/-- The lines of a durable tracked region whose owner bit is set. -/
def State.ownedLines (s : State) (g : Region) : List Nat :=
  match s.memberOf g with
  | some m =>
    let n := (s.sliceList g.tenant).length
    let b0 := g.dpaBase m / 16384
    if Memory.cells s.mem g.shadow g.shadowLen = [] then []
    else ((List.range (g.share m / 16384)).flatMap fun i => (List.range 128).map fun l => (b0 + i) * 128 + l).filter fun x =>
      let (a, b) := ownerBit g m n (x / 128) (x % 128)
      bit (Memory.read s.mem a).toNat b
  | none => []

/-- RECOVERY_WINDOW_CLOSE: 2 ms after the window opened. -/
def windowClose (s : State) : State :=
  match s.pair.window with
  | none => s
  | some t =>
    let s := advanceTo (t + msec 2) s
    let s := s.rgn.tab.foldl (fun s e =>
      if e.2.kind = 1 ∧ e.2.durable ∧ e.2.st ≠ 0 then (s.ownedLines e.2).foldl (fun s l => recoverLine e.1 e.2 l s) s else s) s
    let silent (a : W16) : Bool := s.pair.announces.any fun x => x.dest = a && !x.acked
    let s := (indices 16).foldl (fun s t =>
      (s.slotsOf t).foldl (fun s k =>
        match s.slotHost t k with
        | some a => s.setSlot t k (if silent a then 1 else 0)
        | none => s) s) { s with pool := { s.pool with dir := [], dirc := [] } }
    s.updPair fun p => { p with window := none }

/-! ### Handover (R398) -/

/-- The outgoing side begins: role HANDING. -/
def handStart (s : State) : State :=
  (setRole 5 (s.count .HANDOVER_CNT)).updPair fun p => { p with stages := [], handing := true }

/-- May the device hand over at this point: the first quiet point (R398)? -/
def State.quiet (s : State) : Bool :=
  (s.job.armed.isSome || s.job.head.isSome) && s.tierCode = 0 && !s.unitBusy && s.journalBytes < 1024 * 2 ^ 20

def handoverStartRun (s : State) : State :=
  if s.pair.role = 1 ∧ s.pair.partnerHandback ∧ s.quiet ∧ !s.pair.handing then handStart s else s

/-- PAIR_YIELD: at once with a WARM partner; a STEADY one is warmed first. -/
def pairYieldRun (s : State) : State :=
  if s.isBusy .PAIR_CMD_RESULT 0 then refusedBusy 0x0A s.spn.pos 1 s.pair.role s
  else if s.pair.role ≠ 1 ∨ !s.pair.partnerReady ∨ (s.pair.partnerRole ≠ 2 ∧ s.pair.partnerRole ≠ 3) then
    conflict .PAIR_CMD_RESULT 0 0x0A s.spn.pos s.pair.role s
  else
    let s := (s.busy .PAIR_CMD_RESULT 0).updPair fun p => { p with byCmd := true }
    if s.pair.partnerRole = 3 then handStart s else s

/-- The delta logs begin to be checkpointed. -/
def handCkpt (s : State) : State :=
  let new := if s.tier.geo = [] then [] else (List.range 24).filter fun w => !(s.tier.ckpts.any fun k => k.what = w)
  closeJournals (fun _ => true) (s.updTier fun x => { x with ckpts := x.ckpts ++ new.map fun w => ⟨w, x.logs.toList.getD w 0⟩ })

/-- HANDOVER_STAGE_DONE: the partner is warm (by command); every admitted request is answered; journal and delta logs are on flash; HANDOVER_GO has
gone, and the device powers down to STEADY. -/
def handStageRun (s : State) : State :=
  if s.pair.role = 1 ∧ s.pair.byCmd then (if s.pair.partnerRole = 3 then handStart s else s)
  else if s.pair.role ≠ 5 then s
  else
    match s.pair.stages with
    | [] => if s.pool.trks = [] ∧ s.pool.xwaits = [] then handCkpt (stageMark 1 s) else s
    | [_] =>
      if s.isDrained ∧ s.tier.ckpts = [] then sendPair 0x13 [] ((stageMark 2 s).updPair fun p => { p with seize := false }) else s
    | _ =>
      let s := becomeSteady s
      let s := s.updPair fun p => { p with stages := [], handing := false, byCmd := false }
      if s.isBusy .PAIR_CMD_RESULT 0 then s.result .PAIR_CMD_RESULT 0 stOK else s

/-- HANDOVER_GO: the incoming member seizes the carriers. A WARM one has its quarters and channels; a STEADY one runs every stage. -/
def handGoRx (m : MgtMsg) (s : State) : State :=
  if m.src ≠ s.partnerId ∨ s.soloRec ∨ (s.pair.role ≠ 2 ∧ s.pair.role ≠ 3) then s
  else
    let warm := s.pair.role = 3
    let s := setRole 4 (s.count .HANDOVER_CNT)
    s.updPair fun p => { p with seize := true, handback := false, handing := true, stages := if warm then [1, 3, 4] else [1] }

def execHbSlotEnd (s : State) : Host.Outcome State Fault Refusal := live hbSlotRun s
def execPartnerWaitTimeout (s : State) : Host.Outcome State Fault Refusal := live partnerWaitRun s
def execEpochAnnounce (m : MgtMsg) (s : State) : Host.Outcome State Fault Refusal := live (epochRx m) s
def execEpochAck (m : MgtMsg) (s : State) : Host.Outcome State Fault Refusal := live (epochAckRx m) s
def execEpochAnnounceRetry (watcher : W16) (s : State) : Host.Outcome State Fault Refusal := live (epochRetryRun watcher) s
def execPairYield (s : State) : Host.Outcome State Fault Refusal := live pairYieldRun s
def execHandoverStart (s : State) : Host.Outcome State Fault Refusal := live handoverStartRun s
def execHandoverGo (m : MgtMsg) (s : State) : Host.Outcome State Fault Refusal := live (handGoRx m) s

end Sys2Proof.Machine
end

