-- ==== Sys2Proof/Machine/RegRead.lean ====
section
/-! DEFINITION. Reading registers (R15, R16 and the register tables): what each shows, the elements that selectors name, snapshots (R450),
latched pairs, and CNT_READ (R451). -/

namespace Sys2Proof.Machine

/-- An ECLK divisor as CLK_STAT shows it: that of the lowest quarter whose ECLK runs at a setting, 0 if none does (R443). -/
def State.eclkShown (s : State) : Nat :=
  (((indices 4).map fun q => (s.clk.dom[5 * q.val]).div).find? fun d => [3, 4, 5, 8].contains d).getD 0

/-- Bytes of a buffer window of 4 KiB (R286, R467). -/
def winWord (off i : Nat) (b : Nat → Nat → Bytes) : W32 := w32 (leNat (b (off / 4096 * 4096 + 4 * i) 4))

/-- The final XOR of a check-value algorithm, and its initial value (R391). -/
def chkXor (alg : Nat) : Nat := if alg = 2 then 0 else 0xFFFFFFFF
def chkInit (alg : Nat) : Nat := if alg = 2 then 0xFFFF else 0xFFFFFFFF

/-- The element that a register shows: that of the host, class, link or error that its selector names. -/
def State.shownU (s : State) (r : Reg) (u : Nat) : Nat :=
  match r with
  | .HOST_RATE | .HOST_BURST | .HOST_CFG | .HOST_POL_CNT => s.rfld .HOST_SEL 0 11 0
  | .SVC_RATE | .SVC_BURST | .SVC_WEIGHT | .SVC_POL_CNT | .SVC_GATE_CNT => s.rfld .SVC_SEL 0 2 0
  | .PORT_RATE | .PORT_BURST | .PORT_POL_CNT => s.rfld .PORT_SEL 0 4 0
  | .CE_ENTRY0 | .CE_ENTRY1 | .CE_ENTRY2 | .CE_ENTRY3 => ceU u (s.rfld .CE_SEL u 4 0)
  | .TRK_HOST_USE => u * 4096 + s.rfld .TRK_HOST_SEL u 11 0
  | _ => u

/-- The region a quarter's window shows. -/
def State.shownRegion (s : State) (q : Nat) : Option Region := s.region (s.rfld .RGN_SEL q 11 0)

def State.rgnStat (s : State) (q : Nat) : W32 :=
  match s.shownRegion q with
  | some g =>
    if g.kind = 2 then
      w32 (g.gen.st * 2 ^ 28 + b2n g.gen.incomplete * 2 ^ 27 + b2n g.gen.sat * 2 ^ 26 + b2n g.gen.nan * 2 ^ 25 +
        b2n g.gen.doneValid * 2 ^ 24 + g.gen.nOpen)
    else 0
  | none => 0

def State.genShown (s : State) (q : Nat) (f : Region → Nat) : W32 := match s.shownRegion q with | some g => w32 (f g) | none => 0

def hiHalf (n : Nat) : W32 := w32 (n / 2 ^ 32)

def State.carShown (s : State) (u : Nat) (f : CarrierId → CarSt → Nat) : W32 :=
  if h : u < 8 then w32 (f ⟨u, h⟩ (s.car ⟨u, h⟩)) else 0

def State.chanShown (s : State) (u : Nat) (f : ChanSt → Nat) : W32 := if h : u < 16 then w32 (f (s.chan ⟨u, h⟩)) else 0
def State.linkShown (s : State) (u : Nat) (f : LinkSt → Nat) : W32 := if h : u < 24 then w32 (f (s.link ⟨u, h⟩)) else 0
def State.coreShown (s : State) (u : Nat) (f : CoreId → CoreSt → Nat) : W32 := if h : u < 144 then w32 (f ⟨u, h⟩ (s.core ⟨u, h⟩)) else 0

/-- Cores of a quarter that are IDLE or BUSY. -/
def State.coresLive (s : State) (q : Nat) : Nat :=
  ((indices 144).filter fun k => k.val / 36 = q && ((s.coreSt k).st = 1 || (s.coreSt k).st = 2)).length

def State.dumpByte (s : State) (off n : Nat) : Bytes := match s.obs.dump with | some d => cut d.data off n | none => []

/-- The event entry at an index of the ring, and the persistent entry (R452, R455). -/
def State.evAt (s : State) (i : Nat) : Bytes := match s.log.ring.find? fun e => e.seq.toNat % 4096 = i with | some e => e.bytes | none => []
def State.plogAt (s : State) (i : Nat) : Bytes := match s.plog.ring.find? fun e => e.seq.toNat % 64 = i with | some e => e.bytes | none => []

/-- What a register's element `u` shows, snapshots apart: the state that stands elsewhere, or the stored word. -/
def State.liveReg (s : State) (r : Reg) (u : Nat) : W32 :=
  let t := s.hw
  let sel := s.rfld .CTR_SEL 0 2 0
  match r with
  | .CLK_STAT => w32 (s.eclkShown * 4096 + b2n s.clk.refSel * 4 + b2n s.clk.rootLock * 2 + b2n s.clk.refStable)
  | .RST_CAUSE => w32 (((s.plog.ring.find? fun e => e.kind = 1).map fun e => e.detail.toNat).getD 1)
  | .PWR_STAT =>
    w32 (s.coresGated * 65536 + b2n (s.pwr.pfPhase = 2) * 32768 + b2n (s.pwr.pfPhase = 1) * 16384 + b2n s.pwr.thermLimit * 8192 +
      b2n s.pwr.unmet * 4096 + b2n (s.pwr.eSteps ≠ 0 || s.coreSteps ≠ 0) * 2048 + s.pwr.st)
  | .PKG_POWER => w32 s.meanPower
  | .TEMP_MAX => w32 s.pwr.tempMax.toNat
  | .PF_LAST => w32 (s.pwr.pfMib.toNat * 65536 + s.pwr.pfUs.toNat)
  | .HWD_STAT => w32 (t.win.st * 256 + t.lid * 16 + b2n t.watchGap * 8 + b2n (Config.vbatOk s.time.nclk) * 4 + b2n (Config.vstbyOk s.time.nclk) * 2 + b2n t.seed.isSome)
  | .TAMPER_STAT => w32 t.tamper.toNat
  | .TAMPER_CFG => t.pol
  | .LID_STAT => s.lidStat
  | .CONT_WORD => t.cont
  | .WIN_END_LO => w32 t.win.stop
  | .WIN_END_HI => hiHalf t.win.stop
  | .ERASE_CNT => t.eraseCnt
  | .FUSE => w32 t.fuse
  | .NV_HEALTH => w32 (t.retired * 256 + (16 - t.retired))
  | .CTR_VALUE => t.ctr.toList.getD sel 0
  | .CTR_OWNER => w32 (s.ctrOwner sel)
  | .SLICE_STAT => if h : u < 16 then w32 ((s.slice ⟨u, h⟩).st * 256 + (s.slice ⟨u, h⟩).tenant.val) else 0
  | .KEY_STAT => if h : u < 16 then w32 (t.keys[u]).st else 0
  | .BLK_STAT =>
    let b := s.blank
    w32 (b.bstate * 65536 + b.causeB * 4096 + b.causeA * 256 + b2n b.restartPending * 16 + b2n b.staged * 8 + b2n b.validB * 4 +
      b2n b.validA * 2 + b.src)
  | .BLK_SEQ => s.blank.seq
  | .BLK_STAGED_SEQ => s.blank.stagedSeq
  | .BLK_FAIL => w32 (s.blank.failRec * 65536 + s.blank.failCause)
  | .BLK_STAGE_OFF => w32 s.blank.stageOff
  | .SU_STAT => w32 (s.su.cause.toNat * 65536 + b2n s.su.hosted * 512 + b2n s.su.failed * 256 + s.su.step)
  | .SPN_STAT =>
    let p := s.spn
    w32 (s.stackId * 2 ^ 22 + p.pos * 65536 + p.members * 256 + b2n p.origin * 128 + b2n s.head.head * 64 + b2n p.mismatch * 32 + p.state)
  | .SPN_ALARM => w32 s.spn.alarm.toNat
  | .MAP_SEQ => s.spn.mapSeq
  | .SPN_MAP => w32 (leNat (padTo 4 (cut s.spn.map (4 * u) 4)))
  | .SPN_EPOCH => s.spn.epochs.toList.getD u 0
  | .PAIR_STAT =>
    let p := s.pair
    w32 (p.role * 2 ^ 24 + p.partnerRole * 2 ^ 20 + min 15 p.chain.miss * 65536 + min 15 p.link.miss * 4096 + b2n p.chain.fault * 2048 +
      b2n p.link.fault * 1024 + b2n s.ownAll * 512 + (if s.spn.pos = 0x3F then 0 else s.member) * 256)
  | .PAIR_EPOCH => s.pair.epoch
  | .CHK_VALUE => if s.rfld .CHK_CFG u 2 1 = 2 then w32 (s.rfld .CHK_VALUE u 15 0) else s.reg .CHK_VALUE u
  | .CHK_RESULT =>
    let a := s.rfld .CHK_CFG u 2 1
    if a = 2 then w32 (s.rfld .CHK_VALUE u 15 0) else s.reg .CHK_VALUE u ^^^ w32 (chkXor a)
  | .HOST_TOKENS => w32 (s.bNow (hostBucket (s.rfld .HOST_SEL 0 11 0)) / tok)
  | .TG_STAT => s.tgStat
  | .TG_CYCLE => w32 s.plate.cycle
  | .EVT_HEAD => s.log.head
  | .EVT_ENTRY => w32 (leAt (s.evAt (s.rfld .EVT_SEL 0 11 0)) (4 * u) 4)
  | .PLOG_HEAD => w32 s.plog.head.toNat
  | .PLOG_ENTRY => w32 (leAt (s.plogAt (s.rfld .PLOG_SEL 0 5 0)) (4 * u) 4)
  | .TRC_STAT => w32 s.obs.hub.used
  | .SHV_STAT =>
    match s.obs.dump with
    | some d => w32 (2 ^ 31 + d.trigger.toNat % 16 * 2 ^ 24 + d.data.length)
    | none => 0
  | .SHV_WIN => winWord (s.rfld .SHV_OFF 0 20 0) u s.dumpByte
  | .DBG_STAT => w32 (min 8 s.obs.fails * 256 + s.obs.unlocked)
  | .CNT_CTL => w32 ((s.reg .CNT_CTL).toNat &&& s.cntPerm)
  | .LIVE_TASKS => w32 s.liveTasks
  | .XFER_WIN => winWord (s.rfld .XFER_OFF 0 18 0) u s.xferGet
  | .RTC_STAT => s.rtcStat
  | .RTC_SEC_LO => w32 s.rtcSec
  | .RTC_SEC_HI => w32 (s.rtcSec / 2 ^ 32 % 256)
  | .UTC_OFFSET => w32 s.time.utc.toNat
  | .CAL_DATE => s.calDate
  | .CAL_TIME => s.calTime
  | .POOL_TIME_LO => w32 s.ptField.toNat
  | .POOL_TIME_HI => hiHalf s.ptField.toNat
  | .Q_STAT => w32 (s.coresLive u * 65536 + s.sparesUsed u % 8 * 256 + (s.quarts.toList.map Quart.st).getD u 0)
  | .TRK_INUSE => w32 (s.inUse u)
  | .TRK_RESV_SUM => w32 (s.hostList.map fun e => s.resv e.1).sum
  | .TRK_HOST_USE => w32 (s.heldBy (u / 4096) (u % 4096))
  | .CH_STAT =>
    s.chanShown u fun c =>
      c.failStep * 65536 + b2n c.hot * 32768 + b2n c.degraded * 16384 + c.ranks * 1024 + c.kind * 256 + c.speed * 64 + c.st
  | .CACHE_SETS => s.chanShown u fun c => c.sets
  | .FCH_STAT =>
    s.carShown (u / 4) fun _ c =>
      let sp := c.speeds.getD (u % 4) 0
      (if sp = 0 then 0 else bits s.geo.pkg (4 * (u % 4) + 3) (4 * (u % 4))) * 16 + sp
  | .CAR_STAT => s.carShown u fun i c => c.why * 65536 + b2n c.worn * 128 + b2n (s.owned i) * 64 + b2n (s.present i) * 32 + c.st
  | .SPARE_MIN => s.carShown u fun i _ => s.spareMin i
  | .RETIRED_BLK => s.carShown u fun _ c => c.retired
  | .ERASE_STAT => s.carShown u fun i _ => (s.eraseList i).foldl max 0 * 65536 + s.eraseAvg i
  | .FLASH_STAT => w32 (b2n (s.tier.remirror ≠ []) * 512 + b2n s.tier.full * 256 + s.tierCode)
  | .JOURNAL_USED => w32 (s.journalBytes / 2 ^ 20)
  | .LNK_STAT =>
    s.linkShown u fun k => k.cause * 2 ^ 24 + k.laneOk * 2 ^ 20 + k.dir * 2 ^ 18 + k.rate * 65536 + k.width * 16384 + k.st
  | .LNK_PEER => s.linkShown u fun k => k.peerRank.toNat * 65536 + k.peerId.toNat
  | .EPT_ENTRY => let p := s.eptRange u (s.rfld .EPT_SEL u 4 0); w32 (p.2 * 65536 + p.1)
  | .RT_ENTRY_LO => w32 (s.route (s.rfld .RT_SEL u 15 0))
  | .RT_ENTRY_HI => hiHalf (s.route (s.rfld .RT_SEL u 15 0))
  | .DEV_RANK => w32 s.rank
  | .ALIVE_STAT => w32 (s.alive.get 0 (s.rfld .ALIVE_SEL u 12 0))
  | .SLOT_STAT => let v := s.rfld .SLOT_SEL u 12 0; w32 (s.slotSt (tenOf (v / 512)) (v % 512))
  | .RGN_RSTAT => s.rgnStat u
  | .RGN_GEN_OPEN => s.genShown u fun g => if g.kind = 2 then g.gen.gOpen else 0
  | .RGN_GEN_DONE => s.genShown u fun g => if g.kind = 2 then g.gen.gDone else 0
  | .RGN_CGEN => s.genShown u fun g => if g.kind = 3 then g.matEpoch else g.cgen
  | .DIR_LIVE => w32 (s.pool.dir.filter fun e => e.2.st ≠ 0 && s.homeSlice e.2.tenant (e.1 / 128) = u).length
  | .KC_STAT => s.coreShown u fun k c => (s.slice (coreSlice k)).tenant.val * 256 + c.st
  | .KC_CMD_RESULT => w32 (setBits (s.reg .KC_CMD_RESULT u).toNat 31 31
      (b2n (bit (s.reg .KC_CMD_RESULT u).toNat 31 || (s.work.cores.toList.map CoreSt.st).getD u 0 = 4)))
  | _ => s.reg r u

/-! ### Snapshots (R450) -/

/-- Registers that show a present count: SNAP takes them with the counters. -/
def isGauge (r : Reg) : Bool :=
  r = .LIVE_TASKS || r = .TRK_INUSE || r = .TRK_RESV_SUM || r = .TRK_HOST_USE || r = .DIR_LIVE ||
    r = .CE_ENTRY0 || r = .CE_ENTRY1 || r = .CE_ENTRY2 || r = .CE_ENTRY3

/-- The present counts, for every unit that a selector can name. -/
def State.gauges (s : State) : List (Reg × Nat) :=
  (Reg.LIVE_TASKS, 0) :: (List.range 4).flatMap (fun q =>
    (Reg.TRK_INUSE, q) :: (Reg.TRK_RESV_SUM, q) :: s.hostList.map fun e => (Reg.TRK_HOST_USE, q * 4096 + e.1)) ++
  (List.range 16).flatMap fun c =>
    (Reg.DIR_LIVE, c) :: (List.range 32).flatMap fun i =>
      [(Reg.CE_ENTRY0, ceU c i), (Reg.CE_ENTRY1, ceU c i), (Reg.CE_ENTRY2, ceU c i), (Reg.CE_ENTRY3, ceU c i)]

/-- The present counts join a snapshot. -/
def snapGauges (s : State) : State :=
  { s with snap := s.gauges.foldl (fun m g => m.put (w32 g.1.info.rst) (regKey g.1 g.2) (s.liveReg g.1 g.2)) s.snap }

/-- What a register's element shows: a counter's snapshot where the reader asks for it. -/
def State.readReg (s : State) (view : Bool) (r : Reg) (u : Nat) : W32 :=
  let k := s.shownU r u
  if view && (r.info.cnt || isGauge r) then s.snap.get (w32 r.info.rst) (regKey r k) else s.liveReg r k

/-- A 64-bit counter of QCNT. -/
def State.read64 (s : State) (view : Bool) (r : Reg) (u : Nat) : Nat :=
  ((if view then s.snap64 else s.cnt64).get 0 (regKey r u)).toNat

/-- The high halves of the 64-bit pairs among the 32-bit registers (R15). -/
def Reg.high? (r : Reg) : Option Reg :=
  match r with
  | .WIN_END_LO => some .WIN_END_HI
  | .TG_BASE_LO => some .TG_BASE_HI
  | .CNT_SNAP_TIME_LO => some .CNT_SNAP_TIME_HI
  | .RTC_SEC_LO => some .RTC_SEC_HI
  | .POOL_TIME_LO => some .POOL_TIME_HI
  | .RT_ENTRY_LO => some .RT_ENTRY_HI
  | .SNP_CAP_DPA_LO => some .SNP_CAP_DPA_HI
  | .XLAT_FAULT_CA_LO => some .XLAT_FAULT_CA_HI
  | _ => none

/-- A register's value without a latch; write-only bits read 0 (R16). The in-order bit of a DDR channel is free: its queues are not held. -/
def readNow (view : Bool) (l : Loc) (s : State) : W32 × State :=
  let s := if isOpenCount l.reg ∧ !view ∧ !l.hi then openCount l.reg l.u s else s
  if l.reg.info.blk = .QCNT then
    let v := s.read64 view l.reg l.u
    (if l.hi then hiHalf v else w32 v, s)
  else if l.reg = .CH_STAT ∧ (s.chans.toList.map ChanSt.st).getD l.u 0 = 2 then
    let (k, s) := draw s
    (w32 (setBits (s.readReg view l.reg l.u).toNat 13 13 (Config.random k).toNat), s)
  else (w32 ((s.readReg view l.reg l.u).toNat &&& (0xFFFFFFFF - l.reg.info.wo)), s)

/-- The high half that a read of a low half latches. -/
def State.highOf (s : State) (view : Bool) (l : Loc) : Option W32 :=
  if l.reg.info.blk = .QCNT then (if l.hi then none else some (hiHalf (s.read64 view l.reg l.u)))
  else l.reg.high?.map fun h => s.readReg view h l.u

/-- A read of a management address (R15, R16). -/
def readAddr (a : Nat) (s : State) : W32 × State :=
  let view := s.rfld .CNT_VIEW 0 0 0 = 1
  match locate a with
  | none => (0, s)
  | some l =>
    match s.latch with
    | some (x, v) =>
      if x = a then (v, { s with latch := none })
      else
        let (w, s) := readNow view l s
        (w, match s.highOf view l with | some h => { s with latch := some (a + 4, h) } | none => s)
    | none =>
      let (w, s) := readNow view l s
      (w, match s.highOf view l with | some h => { s with latch := some (a + 4, h) } | none => s)

/-! ### CNT_READ (R451) -/

/-- Does this manual open the register to the tenant (R73, R105, R106, R173, R200, R229, R446)? -/
def State.opens (s : State) (t : TenantId) (l : Loc) : Bool :=
  let mine (sl : Nat) : Bool := s.sliceTenant sl = some t
  match l.reg with
  | .XLAT_FAULT_CNT | .XLAT_FWD_CNT | .XLAT_TC_MISS => (List.range 4).any fun j => mine (4 * l.u + j)
  | .SLOT_SEL | .SLOT_STAT | .SLOT_CMD | .SLOT_CMD_RESULT => s.rfld .SLOT_SEL l.u 12 9 = t.val
  | .RGN_SEL | .RGN_RSTAT | .RGN_GEN_OPEN | .RGN_GEN_DONE | .RGN_CGEN | .RGN_CMD | .RGN_CMD_RESULT => true
  | r =>
    match r.info.blk with
    | .DDR | .DIRC => mine l.u
    | .KC => mine (l.u / 9)
    | _ => match sliceOfCounter r l.u with | some sl => mine sl | none => false

/-- A tenant's region window shows zeros for another tenant's region (R200). -/
def State.hidden (s : State) (t : TenantId) (l : Loc) : Bool :=
  (l.reg = .RGN_RSTAT || l.reg = .RGN_GEN_OPEN || l.reg = .RGN_GEN_DONE || l.reg = .RGN_CGEN) &&
    (s.shownRegion l.u).any fun g => g.tenant ≠ t

/-- One address of CNT_READ: denied, or its value; a pair is read whole. -/
def cntOne (t : TenantId) (view : Bool) (a : Nat) (s : State) : Option Nat × State :=
  match (if a % 4 = 0 then locate a else none) with
  | none => (none, s)
  | some l =>
    if !s.opens t l then (none, s)
    else if s.hidden t l then (some 0, s)
    else
      let (v, s) := readNow view l s
      (some (v.toNat + ((s.highOf view l).map fun h => h.toNat * 2 ^ 32).getD 0), s)

/-- The values of CNT_READ, in order. -/
def cntAll (t : TenantId) (view : Bool) : List W32 → State → List (Option Nat) × State
  | [], s => ([], s)
  | a :: r, s =>
    let (v, s) := cntOne t view a.toNat s
    let (l, s) := cntAll t view r s
    (v :: l, s)

def deniedMask : Nat → List (Option Nat) → Nat
  | _, [] => 0
  | i, v :: r => (if v.isNone then 2 ^ i else 0) + deniedMask (i + 1) r

def cntReadRun (h : CmdHdr) (flags : Byte) (addrs : List W32) (s : State) : State :=
  tenantHost h 0x601 (fun t s =>
    if 1 < flags.toNat ∨ addrs = [] ∨ 21 < addrs.length then replySt h 0x601 stBAD_DESCRIPTOR s
    else
      let (vs, s) := cntAll t (flags = 1) addrs s
      replyOk h 0x601 (toLe 4 (deniedMask 0 vs) ++ vs.flatMap fun v => toLe 8 (v.getD 0)) s) s

/-! ### Meanings -/

def execSnap (s : State) : Host.Outcome State Fault Refusal := live (cntCmd 1 fun s => snapGauges (snapRun s)) s
def execCntRead (h : CmdHdr) (flags : Byte) (addrs : List W32) (s : State) : Host.Outcome State Fault Refusal :=
  live (cntReadRun h flags addrs) s

end Sys2Proof.Machine
end

