-- ==== Sys2Proof/Machine/BlankCmds.lean ====
section
/-! DEFINITION. Writing a new blank: staging, its checks, BLK_PUT through the headstock, and OWNER_CLAIM (R336, R403, R404, R408, R409,
R418). -/

namespace Sys2Proof.Machine

/-- The copy that is not in use. -/
def State.spareCopy (s : State) : Nat := 1 - s.blank.src

/-- BLK_CMD answered STATE_CONFLICT with the boundary state (R418). -/
def blkConflict (s : State) : State := conflict .BLK_CMD_RESULT 0 1 s.su.step s.blank.bstate s

/-- A BLK_CMD under R490. -/
def blkCmd (code : Nat) (f : State → State) (s : State) : State :=
  if s.isBusy .BLK_CMD_RESULT 0 then refusedBusy 1 s.su.step code s.blank.bstate s else f s

/-- STAGE_BEGIN: the spare copy is erased and staging starts at 0 (R408). -/
def stageBeginRun (s : State) : State :=
  if 2 ≤ s.blank.bstate then blkConflict s
  else
    let c := s.spareCopy
    let s := s.setCopy c []
    let s : State := { s with blank := { s.blank with
      validA := s.blank.validA && c ≠ 0, validB := s.blank.validB && c ≠ 1,
      causeA := if c = 0 then 0 else s.blank.causeA, causeB := if c = 1 then 0 else s.blank.causeB,
      staged := false, stagedSeq := 0, stageOff := 0, failRec := 0, failCause := 0, bstate := 1 } }
    s.result .BLK_CMD_RESULT 0 stOK

/-- Pages are written into the spare copy at the staging offset, which moves past them. -/
def putPages (b : Bytes) (s : State) : State :=
  let c := s.spareCopy
  let o := s.blank.stageOff
  let s := s.setCopy c (((List.range b.length).zip b).foldl (fun m x => m.put 0xFF (o + x.1) x.2) (s.copy c))
  { s with blank := { s.blank with stageOff := o + b.length } }

/-- PUT_WIN: the page in BLK_WIN (R408). -/
def putWinRun (s : State) : State :=
  if s.blank.bstate ≠ 1 then blkConflict s
  else (putPages ((List.range 64).flatMap fun i => toLe 4 (s.reg .BLK_WIN i).toNat) s).result .BLK_CMD_RESULT 0 stOK

/-- Staging fails: the cause, the record, and one entry (R404, R408). -/
def stageFail (cause i : Nat) (s : State) : State :=
  let c := s.spareCopy
  let s := blankEv (max 1 s.su.step) cause i c (setCause c cause s)
  { s with blank := { s.blank with failRec := i, failCause := cause, bstate := 0 } }

/-- STAGE_COMMIT: the checks of R404, SEQ against the SEQ in use, the partition against R336. -/
def stageCommitRun (readable : Bool) (sigs : List SigRef) (s : State) : State :=
  if s.blank.bstate ≠ 1 then blkConflict s
  else
    match checkCopy s s.spareCopy readable sigs s.su.hosted with
    | .inl (cause, i) => (stageFail cause i s).result .BLK_CMD_RESULT 0 stBAD_DESCRIPTOR
    | .inr (h, recs) =>
      if s.blank.inUse ∧ h.seq ≤ s.blank.seq.toNat then
        ({ s with blank := { s.blank with bstate := 0 } }).result .BLK_CMD_RESULT 0 stSTALE_GENERATION
      else if s.partChanges ((recIn recs 8 0).getD []) then
        (stageFail 9 ((firstIdx (fun r => r.typ = 8) recs).getD 0) s).result .BLK_CMD_RESULT 0 stBAD_DESCRIPTOR
      else
        let s := setCause s.spareCopy 0 s
        ({ s with blank := { s.blank with staged := true, stagedSeq := w32 h.seq, bstate := 0 } }).result .BLK_CMD_RESULT 0 stOK

/-- The records of a copy, unchecked: what the staged copy holds once it has been committed. -/
def State.copyRecs (s : State) (c : Nat) : Option (BlankHdr × List Rec) :=
  match readHdr (flashRead (s.copy c) 0 64) with
  | none => none
  | some h => (readRecs (s.copy c) (h.total - 96) h.nRec 64 0).map fun l => (h, l.map Prod.fst)

/-- OWNER_CLAIM: in hosted mode, with OWNER_DIG zero and a blank verified, its OWNER key becomes the owner (R403, R419). -/
def ownerClaimRun (s : State) : State :=
  if !s.su.hosted ∨ !allZero s.hw.ownerDig ∨ !s.blank.staged then blkConflict s
  else
    match s.copyRecs s.spareCopy with
    | none => blkConflict s
    | some (_, recs) =>
      match nvWrite 25 s with
      | (false, s) => (tamperEv .refused 0 s).result .BLK_CMD_RESULT 0 stUNSUPPORTED
      | (true, s) =>
        let dig := sha384 (cut ((recIn recs 1 0).getD []) 0 97)
        ({ s with hw := { s.hw with ownerDig := dig } }).result .BLK_CMD_RESULT 0 stOK

/-! ### BLK_PUT and BLK_ACK (R409) -/

/-- A BLK_PUT is acknowledged: OFFSET, the status, the boundary state where it conflicts. -/
def blkAckSend (m : MgtMsg) (st : Byte) (state : Nat) (s : State) : State :=
  send { cls := .mgt, op := 0x15, dst := m.src, src := s.myId, tag := m.tag, status := st,
         payload := padTo 4 (cut m.payload 4 4) ++ [st, byte state, 0, 0] } s

/-- May an endpoint send BLK_PUT: a device administrator, or a device of the stack that passes one on? -/
def State.mayPut (s : State) (src : W16) : Bool := s.isDevice src || s.classOfEp src = .da

def blkPutHere (m : MgtMsg) (s : State) : State :=
  if s.blank.bstate ≠ 1 ∨ leAt m.payload 4 4 ≠ s.blank.stageOff then
    let st := s.blank.bstate
    blkAckSend m stSTATE_CONFLICT st (logEv ⟨1, .refused, max 1 s.su.step, 0, stSTATE_CONFLICT, st, 0xFF, []⟩ s)
  else blkAckSend m stOK 0 (putPages (m.payload.drop 8) s)

def blkPutRx (m : MgtMsg) (s : State) : State :=
  let p := m.payload
  let target := leAt p 0 1
  let n := p.length - 8
  if !s.mayPut m.src then blkAckSend m stNO_ACCESS 0 s
  else if leAt p 1 3 ≠ 0 ∨ n < 256 ∨ 3072 < n ∨ n % 256 ≠ 0 then blkAckSend m stBAD_DESCRIPTOR 0 s
  else if target = 0x3F ∨ target = s.spn.pos then blkPutHere m s
  else if s.head.head ∧ target < 32 then
    let d := s.idOf target
    let s : State := { s with mbx := { s.mbx with puts := s.mbx.puts ++ [(d, w32 (leAt p 4 4), m.src, m.tag)] } }
    send { cls := .mgt, op := 0x14, dst := d, src := s.myId, tag := m.tag, payload := p } s
  else blkAckSend m stBAD_DESCRIPTOR 0 s

/-- BLK_ACK: the acknowledgement of a BLK_PUT that was sent on goes back to its sender. -/
def blkAckRx (m : MgtMsg) (s : State) : State :=
  let off := w32 (leAt m.payload 0 4)
  match s.mbx.puts.find? fun x => x.1 = m.src && x.2.1 = off with
  | some x =>
    let s : State := { s with mbx := { s.mbx with puts := s.mbx.puts.erase x } }
    send { cls := .mgt, op := 0x15, dst := x.2.2.1, src := s.myId, tag := x.2.2.2, status := byte (leAt m.payload 4 1), payload := m.payload } s
  | none => s

/-! ### Meanings -/

def execStageBegin (s : State) : Host.Outcome State Fault Refusal := live (blkCmd 1 stageBeginRun) s
def execPutWin (s : State) : Host.Outcome State Fault Refusal := live (blkCmd 4 putWinRun) s
def execStageCommit (readable : Bool) (sigs : List SigRef) (s : State) : Host.Outcome State Fault Refusal :=
  live (blkCmd 2 (stageCommitRun readable sigs)) s
def execOwnerClaim (s : State) : Host.Outcome State Fault Refusal := live (blkCmd 3 ownerClaimRun) s
def execBlkPut (m : MgtMsg) (s : State) : Host.Outcome State Fault Refusal := live (blkPutRx m) s
def execBlkAck (m : MgtMsg) (s : State) : Host.Outcome State Fault Refusal := live (blkAckRx m) s

end Sys2Proof.Machine
end

