-- ==== Sys2Proof/Machine/Job.lean ====
section
/-! DEFINITION. Job boundaries (R415 to R418): the headstock's transaction, what a member does at PREPARE, COMMIT and ABORT, and how the live
records of a staged blank are applied (R313, R323, R328, R336, R338, R378, R403). -/

namespace Sys2Proof.Machine

/-! ### Applying a blank (R415 step 3) -/

/-- The fields of a LINK record that take effect at a start only. -/
def linkStart (d : Bytes) : Bytes := cut d 0 2 ++ cut d 4 12

/-- A LINK record in force takes EXPECT_ID and EPT of a new one. -/
def linkMerge (old new : Bytes) : Bytes := cut old 0 2 ++ cut new 2 2 ++ cut old 4 12 ++ new.drop 16

/-- The records in force once a blank has been applied: kinds marked Start stay as they are; the partition changes where it was not refused. -/
def mergeRecs (part : Bool) (old new : List Rec) : List Rec :=
  (old.filter fun r => r.typ ≤ 7) ++ ((if part then new else old).filter fun r => r.typ = 8) ++ (new.filter fun r => r.typ = 9 || r.typ = 10) ++
    ((old.filter fun r => r.typ = 11).map fun r => match recIn new 11 r.inst with | some d => { r with data := linkMerge r.data d } | none => r) ++
    new.filter fun r => 12 ≤ r.typ

/-- Do kinds marked Start differ (R417)? -/
def startDiffers (old new : List Rec) : Bool :=
  (old.filter fun r => r.typ ≤ 7) ≠ (new.filter fun r => r.typ ≤ 7) ||
    ((old.filter fun r => r.typ = 11).map fun r => (r.inst, linkStart r.data)) ≠ (new.filter fun r => r.typ = 11).map fun r => (r.inst, linkStart r.data)

/-- Slots whose host entry goes, or changes its tenant or slot, are swept (R418, R163). -/
def sweepMoved (new : Bytes) (s : State) : State :=
  s.hostList.foldl (fun s e =>
    match tenantOfHost e.2, slotOf e.2 with
    | some t, some sl =>
      if (hostScan (leAt e.2 0 2) 4096 0 new).any fun x => tenantOfHost x.2 = some t && slotOf x.2 = some sl then s
      else (sweepSlot t sl (s.setSlot t sl 2)).setSlot t sl 0
    | _, _ => s) s

/-- Host registers of entries that a shorter table no longer has return to their Reset values. -/
def dropHosts (lo hi : Nat) (s : State) : State :=
  ((List.range hi).drop lo).foldl (fun s i => ((s.setReg .HOST_RATE i 0).setReg .HOST_BURST i 4).setReg .HOST_CFG i 0) s

/-- Balances after a change of RATE or BURST: clamped to the new depth, full where the bucket comes into use (R323). -/
def rebucket (old : State) (s : State) : State :=
  let hosts := max (old.recOf 10).length (s.recOf 10).length / 32
  let ids := (List.range hosts).map hostBucket ++ (List.range 8).map classBucket ++ (List.range 24).map portBucket
  ids.foldl (fun s b =>
    if s.bRate b = 0 then s else s.setBucket b (if old.bRate b = 0 then s.bCap b else min (old.bNow b) (s.bCap b))) s

/-- A plate of a new blank waits for its first cycle start; no plate at all ends the one that runs (R328). -/
def applyPlate (d : Bytes) (s : State) : State :=
  if d = [] then { loadPlate [] s with shp := { s.shp with next := none, started := false } }
  else { s with shp := { s.shp with next := some (d, (plateOf d).firstStart s.ptNs) } }

/-- A changed directory store of a slice in use takes effect once the old store has been back-invalidated; its cache area follows (R78,
R151). -/
def applyStores (s : State) : State :=
  (indices 16).foldl (fun (s : State) (i : Fin 16) =>
    let g := min 32 (s.rfld .DIRSTORE_SIZE i.val 15 0)
    let k : ChanSt := (s.chan (chanOf i.val))
    if (s.slice i).st = 1 ∧ (k.st = 2 ∨ k.st = 3) ∧ k.dirG ≠ g then s.updChan (chanOf i.val) fun k => { k with dirNext := some g } else s) s

/-- The live kinds of the staged blank are applied, in R415's order, and it is adopted. False: its partition was refused (R338). -/
def applyBlank (s : State) : Bool × State :=
  match s.copyRecs s.spareCopy with
  | none => (true, s)
  | some (h, new) =>
    let old := s
    let part := (recIn new 8 0).getD (zeros 16)
    let (ok, s) := partReleases part s
    let s := sweepMoved ((recIn new 10 0).getD []) s
    let c := s.spareCopy
    let opened : Bool := s.obs.unlocked ≠ 0
    let live := mergeRecs (ok && !opened) s.blank.live new
    let s : State := { s with blank := { s.blank with live := live } }
    let s := applyStores (loadTenants s)
    let s := loadHosts (s.recOf 10) (dropHosts ((s.recOf 10).length / 32) ((old.recOf 10).length / 32) s)
    let s := (List.range 24).foldl (fun s l => if s.hasRec 11 l then loadLink false l (s.recOf 11 l) s else s) s
    let s := rebucket old (if s.hasRec 13 then loadShaper (s.recOf 13) s else s)
    let s := s.setReg .RT_VERSION 0 (w32 (leAt s.routeRec 0 4))
    let s := applyPlate (s.recOf 14) s
    let s := if !ok then s else if opened then partHeld part s else partAssigns part s
    let pend := s.blank.restartPending || startDiffers old.blank.live new
    let s := adopt h new s
    (ok, { s with blank := { s.blank with src := c, seq := w32 h.seq, inUse := true, staged := false, stagedSeq := 0, restartPending := pend,
                                          digest := sha384 (s.copyBytes c h.total) } })

/-- The headstock's role returns to pair 0 (R378). -/
def giveBackHead (s : State) : State :=
  if !s.head.giveBack then s
  else if s.pairNo = 0 then takeHead s
  else ownMapByte { s with head := ⟨false, none, none, 0, false⟩ }

/-! ### A member (R415) -/

def jobAns (c : Coord) (a : Nat) (st : Byte) (s : State) : State := coordAckSend c.src c.xid 0xA st 0 [byte a, 0, 0, 0] s

def jobPrepareRx (c : Coord) (s : State) : State :=
  coordOnce c (fun s =>
    if s.job.armed.isSome ∨ s.blank.bstate = 3 then jobAns c 2 stSTATE_CONFLICT s
    else
      let ready (s : State) : State := { s with blank := { s.blank with bstate := 2 } }
      match (if s.blank.staged then s.copyRecs s.spareCopy else none) with
      | none => jobAns c 1 stOK (ready s)
      | some (h, recs) =>
        let part := (recIn recs 8 0).getD (zeros 16)
        if h.seq ≤ s.blank.seq.toNat ∧ s.blank.inUse then jobAns c 2 stSTALE_GENERATION s
        else if s.partChanges part then jobAns c 2 stBAD_DESCRIPTOR s
        else if (s.released part).any fun t => !s.mayRelease t then jobAns c 2 stSTATE_CONFLICT s
        else jobAns c 0 stOK (ready s)) s

def jobAbortRx (c : Coord) (s : State) : State :=
  coordOnce c (fun s =>
    let s : State := if s.job.armed.isNone ∧ s.blank.bstate = 2 then { s with blank := { s.blank with bstate := 0 } } else s
    coordAckSend c.src c.xid 0xC stOK 0 [] s) s

/-- JOB_APPLY: at APPLY_AT the staged blank is applied and the COMMIT acknowledged; with no valid pool time, 10 ms after it. -/
def jobApplyRun (s : State) : State :=
  match s.job.armed with
  | none => s
  | some t =>
    let s := if t = 0 then elapse (msec 10) s else advancePool t s
    let late := s.job.late
    let (ok, s) := if s.blank.staged then applyBlank s else (true, s)
    let s := giveBackHead { s with blank := { s.blank with bstate := 0 } }
    let f := s.job.from_
    let s : State := { s with job := { s.job with armed := none, from_ := none, late := false } }
    match f with
    | some (src, xid) => coordAckSend src xid 0xB (if !ok then stSTATE_CONFLICT else if late then stLATE else stOK) 0 [] s
    | none => s

def jobCommitRx (c : Coord) (applyAt : Nat) (s : State) : State :=
  coordOnce c (fun s =>
    if s.blank.bstate ≠ 2 then coordAckSend c.src c.xid 0xB stOK 0 [] s
    else
      let t := if applyAt = 0 then (if s.ptValid then s.ptNs + 10000000 else 0) else applyAt
      let late := applyAt ≠ 0 && s.ptValid && applyAt ≤ s.ptNs
      let s : State := { s with
        coord := { s.coord with fwdOpen := s.coord.fwdOpen ++ [(c.src, c.xid)] },
        job := { s.job with armed := some t, from_ := some (c.src, c.xid), late := late },
        blank := { s.blank with bstate := if late then 3 else 2 } }
      if late then jobApplyRun s else s) s

/-! ### The headstock (R415) -/

def State.setJobHead (s : State) (j : Option JobHead) : State := { s with job := { s.job with head := j } }

def State.updJobHead (s : State) (f : JobHead → JobHead) : State := s.setJobHead (s.job.head.map f)

/-- A message of the boundary goes to these devices, each under an XID of its own. -/
def jobSend (subop : Nat) (body : Bytes) (to_ : List W16) (s : State) : State :=
  let s := s.updJobHead fun j => { j with waits := [], since := s.time.nclk }
  to_.foldl (fun s d =>
    let x := s.coord.nextXid + 1
    let s : State := { s with coord := { s.coord with nextXid := x } }
    let s := s.updJobHead fun j => { j with waits := j.waits ++ [(d, x, 1)] }
    coordOut d none ([byte subop, 0, 0, 0] ++ toLe 4 x.toNat ++ body) s) s

/-- The command is answered, with the failing position. -/
def jobReply (j : JobHead) (st : Byte) (pos hint : Nat) (s : State) : State :=
  reply j.h 0x502 st (if st = stSTATE_CONFLICT then 1 else 0) hint [byte pos, 0, 0, 0] (s.setJobHead none)

/-- The boundary is given up: ABORT goes out and the command is answered. -/
def jobGiveUp (j : JobHead) (st : Byte) (pos hint : Nat) (s : State) : State :=
  jobReply j st pos hint (jobSend 0xC [] s.activeIds s)

def jobBoundaryRun (h : CmdHdr) (applyAt : W64) (s : State) : State :=
  onlyDA h 0x502 (fun s =>
    if !s.head.head then replySt h 0x502 stUNSUPPORTED s
    else if s.job.head.isSome ∨ 2 ≤ s.blank.bstate then replyConflict h 0x502 s.blank.bstate s
    else if applyAt ≠ 0 ∧ !s.ptValid then replySt h 0x502 stDATE_INVALID s
    else
      let late := applyAt ≠ 0 && applyAt.toNat ≤ s.ptNs
      let s := s.setJobHead (some ⟨h, applyAt.toNat, if s.pairGap then 2 else 0, [], s.time.nclk, none, late⟩)
      if s.pairGap then s else jobSend 0xA [] s.activeIds s) s

/-- The first failing answer is that of the lowest position. -/
def worse (a : Option (Byte × Nat)) (st : Byte) (pos : Nat) : Option (Byte × Nat) :=
  match a with
  | some (x, p) => if pos < p then some (st, pos) else some (x, p)
  | none => some (st, pos)

/-- Every answer to PREPARE, or to COMMIT, has come. -/
def jobNext (j : JobHead) (s : State) : State :=
  if j.phase = 0 then
    match j.fail with
    | some (st, p) => jobGiveUp j st p 0 s
    | none =>
      let t := if j.applyAt = 0 then (if s.ptValid then s.ptNs + 10000000 else 0) else j.applyAt
      jobSend 0xB (toLe 8 t) s.activeIds (s.updJobHead fun j => { j with phase := 1 })
  else
    match j.fail with
    | some (st, p) => jobReply j st p 0 s
    | none => jobReply j (if j.late then stLATE else stOK) 0xFF 0 s

/-- An acknowledgement of the boundary's messages. -/
def jobAcked (src : W16) (xid : W32) (st : Byte) (body : Bytes) (s : State) : State :=
  match s.job.head with
  | none => s
  | some j =>
    if !(j.waits.any fun w => w.1 = src && w.2.1 = xid) then s
    else
      let bad := if j.phase = 0 then st ≠ stOK || leAt body 0 1 = 2 else st ≠ stOK && st ≠ stLATE
      let j := { j with waits := j.waits.filter fun w => !(w.1 = src && w.2.1 = xid),
                        fail := if bad then worse j.fail st (src.toNat % 64) else j.fail, late := j.late || st = stLATE }
      let s := s.setJobHead (some j)
      if j.waits = [] then jobNext j s else s

/-- A PREPARE goes again after 10 ms, at most four times; a boundary held for a pair between epochs waits at most 2 s (R379). -/
def jobRetry (xid : W32) (s : State) : State :=
  match s.job.head with
  | some j =>
    if j.phase = 2 then
      let s := advanceTo (j.since + secs 2) s
      if s.pairGap then jobReply j stRETRY_BUSY 0xFF (hintNs 100000000) s else s
    else
      match (if j.phase = 0 then j.waits.find? fun w => w.2.1 = xid else none) with
      | some (d, _, n) =>
        let s := advanceTo (j.since + msec (10 * n)) s
        if 5 ≤ n then jobGiveUp j stRETRY_BUSY (d.toNat % 64) (hintNs 100000000) s
        else
          let s := s.updJobHead fun j => { j with waits := j.waits.map fun w => if w.2.1 = xid then (w.1, w.2.1, n + 1) else w }
          coordOut d none ([0xA, 0, 0, 0] ++ toLe 4 xid.toNat) s
      | none => s
  | none => s

/-- A boundary that was held begins once no pair is between epochs. -/
def jobRelease (s : State) : State :=
  match s.job.head with
  | some j =>
    if j.phase = 2 ∧ !s.pairGap then jobSend 0xA [] s.activeIds (s.updJobHead fun j => { j with phase := 0 }) else s
  | none => s

/-- REC_PREPARE_RETRY: of a record change, or of a boundary. -/
def prepareRetryRun (xid : W32) (s : State) : State :=
  if s.coord.recTx.any fun x => x.phase = 3 || x.waits.any fun w => w.2.1 = xid then recRetry xid s else jobRetry xid s

end Sys2Proof.Machine
end

