-- ==== Sys2Proof/Machine/CmdExec.lean ====
section
/-! DEFINITION. A command block is taken apart and its command executed (R264, R265, R272, R273, R487), from the mailbox of an endpoint
(R267, R269), the register mailbox (R286), or another device (R381). -/

namespace Sys2Proof.Machine

/-- Who may issue a command (R263): a device administrator, a tenant administrator, any host of the tenant, either administrator, or whom
the command's own rule names. -/
inductive May where
  | da | ta | host | admin | own
deriving DecidableEq, Repr

def May.allows (m : May) (c : IClass) : Bool :=
  match m, c with
  | _, .nobody => false
  | .da, .da => true
  | .ta, .ta _ => true
  | .host, .ta _ => true
  | .host, .host _ => true
  | .admin, .da => true
  | .admin, .ta _ => true
  | .own, _ => true
  | _, _ => false

/-- The layout of a command's ARGS (R273): who may issue it, whether a length is right, the ranges that must be zero, whether HANDLE names
an object of its tenant, where ARGS names a region or a program. -/
structure CmdForm where
  may : May
  len : Nat → Bool
  zero : List (Nat × Nat)
  ctx : Bool
  region : Bool
  prog : Bool

/-- The commands the transports carry (R272); no other code names one. -/
def cmdForm (code : Nat) : Option CmdForm :=
  match code with
  | 0x101 => some ⟨.ta, (· = 0), [], false, false, false⟩
  | 0x102 => some ⟨.ta, (· = 0), [], true, false, false⟩
  | 0x103 => some ⟨.ta, (· = 0), [], true, false, false⟩
  | 0x104 => some ⟨.ta, (· = 0), [], true, false, false⟩
  | 0x111 => some ⟨.ta, fun n => n = 8 || n = 40, [], true, false, false⟩
  | 0x112 => some ⟨.host, (· = 0), [], true, false, false⟩
  | 0x113 => some ⟨.host, (· = 0), [], true, false, false⟩
  | 0x114 => some ⟨.ta, (· = 0), [], true, false, false⟩
  | 0x121 => some ⟨.ta, (· = 16), [(12, 4)], true, false, false⟩
  | 0x122 => some ⟨.ta, (· = 4), [(2, 2)], false, false, true⟩
  | 0x131 => some ⟨.host, (· = 128), [], true, false, false⟩
  | 0x132 => some ⟨.host, (· = 4), [], true, false, false⟩
  | 0x133 => some ⟨.host, (· = 4), [], true, false, false⟩
  | 0x141 => some ⟨.host, (· = 4), [(1, 3)], true, false, false⟩
  | 0x142 => some ⟨.host, (· = 4), [(1, 3)], true, false, false⟩
  | 0x201 => some ⟨.ta, (· = 8), [], true, false, false⟩
  | 0x202 => some ⟨.ta, (· = 4), [(2, 2)], false, true, false⟩
  | 0x203 => some ⟨.ta, (· = 4), [(2, 2)], false, true, false⟩
  | 0x204 => some ⟨.ta, (· = 4), [(2, 2)], false, true, false⟩
  | 0x205 => some ⟨.ta, (· = 16), [(2, 6)], true, true, false⟩
  | 0x211 => some ⟨.ta, (· = 4), [], false, true, false⟩
  | 0x212 => some ⟨.ta, (· = 4), [], false, true, false⟩
  | 0x213 => some ⟨.ta, (· = 4), [], false, true, false⟩
  | 0x214 => some ⟨.ta, (· = 4), [], false, true, false⟩
  | 0x215 => some ⟨.ta, (· = 4), [], false, true, false⟩
  | 0x301 => some ⟨.host, (· = 4), [(2, 2)], false, false, false⟩
  | 0x401 => some ⟨.ta, (· = 16), [(1, 7)], false, false, false⟩
  | 0x402 => some ⟨.ta, (· = 0), [], false, false, false⟩
  | 0x403 => some ⟨.admin, (· = 64), [(0x2D, 3)], false, false, false⟩
  | 0x404 => some ⟨.own, (· = 4), [(1, 3)], false, false, false⟩
  | 0x405 => some ⟨.own, (· = 8), [(1, 3)], false, false, false⟩
  | 0x406 => some ⟨.da, (· = 128), [], false, false, false⟩
  | 0x407 => some ⟨.da, (· = 0), [], false, false, false⟩
  | 0x408 => some ⟨.da, (· = 0), [], false, false, false⟩
  | 0x409 => some ⟨.da, (· = 0), [], false, false, false⟩
  | 0x501 => some ⟨.da, (· = 48), [(0x2C, 4)], false, false, false⟩
  | 0x502 => some ⟨.da, (· = 8), [], false, false, false⟩
  | 0x601 => some ⟨.ta, fun n => 4 ≤ n && n % 4 = 0, [(1, 3)], false, false, false⟩
  | 0x602 => some ⟨.ta, (· = 1), [], false, false, false⟩
  | 0x603 => some ⟨.ta, (· = 4), [], false, false, false⟩
  | 0x604 => some ⟨.ta, (· = 28), [], false, false, true⟩
  | 0x605 => some ⟨.ta, (· = 4), [(3, 1)], false, false, true⟩
  | _ => none

/-- A signature's or an unwrapping's verdict that no operand gives: a free value. -/
def verdict (s : State) : Bool × State :=
  let (k, s) := draw s
  ((Config.random k).getLsbD 0, s)

/-- The command of a code, with its arguments, by its own rule. -/
def cmdRun (h : CmdHdr) (code : Nat) (a : Bytes) (s : State) : State :=
  let w16At (o : Nat) : W16 := w16 (leAt a o 2)
  let w32At (o : Nat) : W32 := w32 (leAt a o 4)
  let w64At (o : Nat) : W64 := w64 (leAt a o 8)
  let b (o : Nat) : Byte := byte (leAt a o 1)
  match code with
  | 0x101 => ctxCreateRun h s
  | 0x102 => ctxSwitch h 0x102 1 2 s
  | 0x103 => ctxSwitch h 0x103 2 1 s
  | 0x104 => ctxDestroyRun h s
  | 0x111 => queueCreateRun h a s
  | 0x112 => queueSwitch h 0x112 1 2 s
  | 0x113 => queueSwitch h 0x113 2 1 s
  | 0x114 => queueDeleteRun h s
  | 0x121 => progLoadRun h (w64At 0) (w32At 8) s
  | 0x122 => progUnloadRun h (w16At 0) s
  | 0x131 => taskSubmitRun h a s
  | 0x132 => taskCancelRun h (w32At 0) s
  | 0x133 => taskQueryRun h (w32At 0) s
  | 0x141 => trigRaiseRun h (b 0) s
  | 0x142 => trigReadRun h (b 0) s
  | 0x201 => regionCreateRun h (w64At 0) s
  | 0x202 => regionQuiesceRun h (w16At 0) s
  | 0x203 => regionResumeRun h (w16At 0) s
  | 0x204 => regionDeleteRun h (w16At 0) s
  | 0x205 => regionReadRun h (w16At 0) (w64At 8) s
  | 0x211 => redCmd h 1 (w16At 0) (w16At 2) s
  | 0x212 => redCmd h 2 (w16At 0) (w16At 2) s
  | 0x213 => redCmd h 3 (w16At 0) (w16At 2) s
  | 0x214 => redCmd h 4 (w16At 0) (w16At 2) s
  | 0x215 => redCmd h 5 (w16At 0) (w16At 2) s
  | 0x301 => slotRejoinRun h (w16At 0) s
  | 0x401 =>
    let (v, s) := verdict s
    keySetRun h (b 0) (w64At 8) v s
  | 0x402 => keyDestroyRun h s
  | 0x403 => attestRun h (a.take 32) (w64At 0x20) (w32At 0x28) ((List.range (leAt a 0x2C 1)).map fun i => w16At (0x30 + 2 * i)) s
  | 0x404 => ctrCmd h 0x0404 (b 0) (fun c => some (c + 1)) s
  | 0x405 => ctrCmd h 0x0405 (b 0) (fun c => if c < w32At 4 then some (w32At 4) else none) s
  | 0x406 =>
    let (v, s) := verdict s
    svcOpen h a v s
  | 0x407 => svcClose h s
  | 0x408 => lidClearRun h s
  | 0x409 => svnCommitRun h s
  | 0x501 => stackAttestRun h (a.take 32) (w64At 0x20) (w32At 0x28) s
  | 0x502 => jobBoundaryRun h (w64At 0) s
  | 0x601 => cntReadRun h (b 0) ((List.range (a.length / 4 - 1)).map fun i => w32At (4 + 4 * i)) s
  | 0x602 => cntEnableRun h (b 0) s
  | 0x603 => evtReadRun h (w32At 0) s
  | 0x604 => watchSetRun h a s
  | 0x605 => watchClearRun h (w16At 0) (b 2) s
  | _ => replySt h code stUNSUPPORTED s

/-- Does the command name an object of another tenant (check 3 of R487)? -/
def State.othersObject (s : State) (h : CmdHdr) (f : CmdForm) (a : Bytes) : Bool :=
  match s.classOf h.iss with
  | .ta t | .host t =>
    (f.ctx && ((s.liveCtx h.handle).any fun c => c.tenant ≠ t)) ||
    (f.region && ((s.region (leAt a 0 2)).any fun g => g.tenant ≠ t)) ||
    (f.prog && ((s.prog (leAt a 0 2)).any fun g => g.tenant ≠ t))
  | .da | .nobody => false

/-- A command block is executed: checks 1 to 5 of R487 that every command shares, then its own rule. Only the byte at 0x0F must be zero of
the header; HANDLE and QUEUE are ignored where the command names neither (log entry 34). -/
def cmdExec (iss : Issuer) (blk : Bytes) (s : State) : State :=
  let h : CmdHdr := ⟨iss, w32 (leAt blk 8 4), w16 (leAt blk 0xC 2), byte (leAt blk 0xE 1)⟩
  let code := leAt blk 4 2
  let n := leAt blk 6 2
  let a := cut blk 16 n
  if leAt blk 2 2 ≠ 1 ∨ leAt blk 0 2 ≠ 0 then replySt h code stUNSUPPORTED s
  else
    match cmdForm code with
    | none => replySt h code stUNSUPPORTED s
    | some f =>
      if !f.may.allows (s.classOf iss) ∨ s.othersObject h f a then
        if (iss matches .fwd _ _ _) ∧ s.classOf iss = .da then cmdRun h code a s else replySt h code stNO_ACCESS s
      else if (code = 0x121 ∨ code = 0x131) ∧ !s.kcoreEn then replySt h code stUNSUPPORTED s
      else if !f.len n ∨ a.length ≠ n ∨ leAt blk 0xF 1 ≠ 0 ∨ !(f.zero.all fun z => leAt a z.1 z.2 = 0) ∨
        (code = 0x403 ∧ 8 < leAt a 0x2C 1) then replySt h code stBAD_DESCRIPTOR s
      else cmdRun h code a s

/-! ### MBX_CMD (R267, R269, R426) -/

/-- An MBX_CMD from an endpoint: a stored reply answers a repeat; a repeat of one that is running is not executed again; a fifth outstanding
command is turned away, a device that drains turns every new one away; the turned-away reply is not kept (log entry 35). -/
def mbxRx (m : MgtMsg) (s : State) : State :=
  let b := m.payload
  let seq : W32 := w32 (leAt b 8 4)
  let say (r : Bytes) (hint : Nat) (s : State) : State :=
    send { cls := .mgt, op := 2, dst := m.src, src := s.myId, tag := m.tag, status := byte (leAt r 0xC 1), hint := hint, payload := r } s
  match s.mbx.replies.find? fun e => e.1 = m.src && e.2.1 = seq with
  | some (_, _, r) => say r 0 s
  | none =>
    if s.mbx.open_.any fun o => o.1 = m.src && o.2.1 = seq then s
    else
    let busy (hint : Nat) (s : State) : State :=
      let (res, s) := failResult (leAt b 4 2) s
      say (replyBlock (leAt b 4 2) seq stRETRY_BUSY 0 res) hint s
    match s.closedHint with
    | some x => busy x s
    | none =>
      if 4 ≤ (s.mbx.open_.filter fun o => o.1 = m.src).length then busy (hintNs 10000) s
      else
        cmdExec (.ep m.src) b { s with mbx := { s.mbx with open_ := s.mbx.open_ ++ [(m.src, seq, m.tag)] } }

/-! ### The register mailbox (R286, R490) -/

/-- MBX_GO: the block in MBX_IN is issued as a device administrator's command; while one runs the write is ignored, and logged. -/
def mbxGoRun (s : State) : State :=
  let b := (List.range 48).flatMap fun i => toLe 4 (s.reg .MBX_IN i).toNat
  if s.isBusy .MBX_STAT 0 then refusedBusy 0xB (leAt b 4 2) 1 0 s
  else cmdExec .bmc b (s.busy .MBX_STAT 0)

end Sys2Proof.Machine
end

