-- ==== Sys2Proof/Machine/Coord.lean ====
section
/-! DEFINITION. Coordination messages at their receiver (R381), and what follows by itself from what has come: finished accesses, waiting
commands, tasks, rings, computed blocks, reports and transactions go on (`pump`). -/

namespace Sys2Proof.Machine

/-! ### COORD (R381) -/

/-- A COORD message is taken from devices of the stack only (log entry 36), and turned away while the device drains (R426). -/
def coordFrom (c : Coord) (subop : Nat) (f : State → State) (s : State) : State :=
  let say (st : Byte) (hint : Nat) (s : State) : State := coordOut c.src (some hint) ([byte subop, st, 0, 0] ++ toLe 4 c.xid.toNat) s
  if !s.isDevice c.src then say stNO_ACCESS 0 s
  else
    coordOnce c (fun s =>
      match s.closedHint with
      | some h => say stRETRY_BUSY h s
      | none => f s) s

/-- A message whose effect is at once over: done, and acknowledged. -/
def coordPlain (c : Coord) (subop : Nat) (f : State → State) (s : State) : State :=
  coordFrom c subop (fun s => coordAckSend c.src c.xid subop stOK 0 [] (f s)) s

/-- CMD_FWD: the command is executed for its issuer; its reply travels in the acknowledgement. -/
def cmdFwdRx (c : Coord) (issuer : W16) (block : Bytes) (s : State) : State :=
  coordFrom c 4 (fun s =>
    cmdExec (.fwd c.src c.xid issuer) block { s with coord := { s.coord with fwdOpen := s.coord.fwdOpen ++ [(c.src, c.xid)] } }) s

/-- A COORD message by its subop; `b` is its body. -/
def coordRx (c : Coord) (subop : Nat) (b : Bytes) (s : State) : State :=
  let n := leAt b 0 2
  match subop with
  | 1 => coordFrom c 1 (recPrepareRx c (leAt b 0 1) (leAt b 1 1) (leAt b 2 2) (b.drop 4)) s
  | 2 => coordFrom c 2 (recCommitRx c (leAt b 0 1) (leAt b 2 2)) s
  | 3 => coordFrom c 3 (recAbortRx c (leAt b 0 1) (leAt b 2 2)) s
  | 4 => cmdFwdRx c (w16 n) (b.drop 4) s
  | 5 => coordPlain c 5 (raiseRx (w16 n) (leAt b 2 1) (leAt b 3 1) (w16 (leAt b 4 2)) (w32 (leAt b 8 4))) s
  | 6 => coordPlain c 6 (reportRx n c.src (leAt b 4 4) (leAt b 8 4) (leAt b 12 1)) s
  | 7 => coordPlain c 7 (closeRx n (leAt b 4 4)) s
  | 8 => coordPlain c 8 (doneRx n (leAt b 4 4) (leAt b 8 2) (leAt b 10 1) (leAt b 11 1)) s
  | 9 => coordPlain c 9 (matInvalRx n (leAt b 2 2) (leAt b 4 4)) s
  | 0xA => coordFrom c 0xA (jobPrepareRx c) s
  | 0xB => coordFrom c 0xB (jobCommitRx c (leAt b 0 8)) s
  | 0xC => coordFrom c 0xC (jobAbortRx c) s
  | _ => coordFrom c subop (fun s => coordAckSend c.src c.xid subop stUNSUPPORTED 0 [] s) s

/-- COORD_ACK: what the message it answers was sent for goes on. An acknowledgement nothing waits for has no effect. -/
def coordAckRx (src : W16) (hint subop : Nat) (st : Byte) (xid : W32) (b : Bytes) (s : State) : State :=
  match subop with
  | 1 | 2 | 3 => txAcked src xid st hint s
  | 0xA | 0xB | 0xC => jobAcked src xid st b s
  | _ =>
    match s.coord.sent.find? fun t => t.xid = xid && t.dest = src && t.subop = subop with
    | none => s
    | some t =>
      if subop = 8 ∧ st ≠ stOK then s
      else
        let s := { s with coord := { s.coord with sent := s.coord.sent.filter fun x => x.xid ≠ xid } }
        match subop with
        | 4 =>
          if t.attests then stackAttAcked t b s
          else if t.region ≠ 0 then redAcked t s
          else
            match t.h with
            | some h => reply h (leAt t.body 8 2) st (leAt b 0xD 1) hint (cut b 16 (leAt b 6 2)) s
            | none => s
        | 7 | 9 => redAcked t s
        | 8 => doneAcked t.region src s
        | _ => s

/-! ### What follows by itself -/

/-- A command that waits on its accesses goes on. -/
def cmdGo (w : CmdWait) (s : State) : State :=
  match w.cmd with
  | .regionCreate h ca => regionCreateGo w.n h ca.toNat s
  | .regionRead h rn ca => regionReadGo w.n h rn.toNat ca.toNat s
  | .progLoad h ca len => progLoadGo w.n h ca.toNat len.toNat s
  | .queueDelete h => queueDeleteGo w.n h s
  | .keySet h _ ca ok => keySetGo w.n h ca.toNat ok s
  | .attest h nonce ca _ rs => attestGo w.n h nonce ca.toNat rs s
  | .stackAttest h nonce ca _ => stackAttestGo w.n h nonce ca.toNat s
  | _ => s

/-- The messages this device sent to itself are taken. -/
def loopBack (s : State) : State :=
  let l := s.coord.loop
  l.foldl (fun s m =>
    let b := m.2
    let xid : W32 := w32 (leAt b 4 4)
    match m.1 with
    | some hint => coordAckRx s.myId hint (leAt b 0 1) (byte (leAt b 1 1)) xid (b.drop 8) s
    | none => coordRx ⟨s.myId, xid⟩ (leAt b 0 1) (b.drop 8) s) { s with coord := { s.coord with loop := [] } }

/-- One round over everything that may be able to go on. -/
def round (s : State) : State :=
  let s := loopBack (memPump 64 s)
  let s := s.work.cmds.foldl (fun s w => if s.work.cmds.any fun x => x.n = w.n then cmdGo w s else s) s
  let s := s.work.tasks.foldl (fun s t => taskStep t.seq s) s
  let s := s.work.queues.foldl (fun s e => cqStep e.1 (sqStep e.1 s)) s
  let s := s.work.comps.foldl (fun s c =>
    match s.work.comps.find? c.same with
    | some d => compStep d s
    | none => s) s
  jobRelease (txRelease (fenceStep (reportStep (genSteps (sendReports s)))))

/-- Rounds go on while one changes something. -/
def pumpN : Nat → State → State
  | 0, s => s
  | n + 1, s => if round s = s then s else pumpN n (round s)

/-- Everything that what has just happened lets go on goes on. -/
def pump (s : State) : State := pumpN 1024 s

/-- A command that comes about, and what follows from it. -/
def pumped (f : State → State) (s : State) : Host.Outcome State Fault Refusal := live (fun s => pump (f s)) s

end Sys2Proof.Machine
end

