-- ==== Sys2Proof/Machine/RegWrite.lean ====
section
/-! DEFINITION. Writes of registers (R16), from the I3C target (R463) and from REG_WRITE messages (R268), and their reads (R15): a write to a
command register issues its command. -/

namespace Sys2Proof.Machine

/-! ### The CRC engines (R391) -/

/-- One byte into the running value of an algorithm. -/
def chkByte (alg v : Nat) (b : Byte) : Nat :=
  match alg with
  | 0 => crcByte 0x82F63B78 v b
  | 1 => crcByte 0xEDB88320 v b
  | _ => crcByteL 16 0x1021 v b

/-- CHK_CFG: the algorithm, and with INIT its initial value. Units 0 and 1 ignore writes. -/
def chkCfgRun (u : Fin 8) (v : W32) (s : State) : State :=
  if u.val < 2 then s
  else
    let alg := fld v 2 1
    let s := s.setReg .CHK_CFG u.val (w32 (2 * alg))
    if bit v.toNat 0 then s.setReg .CHK_VALUE u.val (w32 (chkInit alg)) else s

/-- CHK_D8, CHK_D16, CHK_D32: the low byte first. -/
def chkDataRun (u : Fin 8) (bytes : Nat) (v : W32) (s : State) : State :=
  if u.val < 2 then s
  else
    let alg := s.rfld .CHK_CFG u.val 2 1
    s.setReg .CHK_VALUE u.val (w32 ((toLe bytes v.toNat).foldl (chkByte alg) (s.reg .CHK_VALUE u.val).toNat))

def chkValueRun (u : Fin 8) (v : W32) (s : State) : State := if u.val < 2 then s else s.setReg .CHK_VALUE u.val v

/-! ### Command registers (R490) -/

/-- A number as an index, where it is in range. -/
def onIdx (n u : Nat) (f : Fin n → State → State) (s : State) : State := if h : u < n then f ⟨u, h⟩ s else s

/-- A command code without a command: UNSUPPORTED, unless a command runs. -/
def noCmd (r : Reg) (u cls unit code state : Nat) (s : State) : State :=
  if s.isBusy r u then refusedBusy cls unit code state s else s.result r u stUNSUPPORTED

/-- The header of a command that a register issues. -/
def regHdr (i : Issuer) : CmdHdr := ⟨i, 0, 0, 0⟩

def hwdWrite (code : Nat) (s : State) : State :=
  if s.isBusy .HWD_CMD_RESULT 0 then refusedBusy 9 0 code s.lidStat.toNat s
  else
    match code with
    | 1 => svcClose (regHdr .hwdCmd) s
    | 2 => lidClearRun (regHdr .hwdCmd) s
    | 3 => svnCommitRun (regHdr .hwdCmd) s
    | _ => s.result .HWD_CMD_RESULT 0 stUNSUPPORTED

/-- STAGE_COMMIT by a register write: what the outside finds of the staged copy, its readability and its signatures' verdicts, is free. -/
def stageCommitWrite (s : State) : State :=
  let c := s.spareCopy
  let (ok, s) := verdict s
  let refs : List SigRef := match s.copyRecs c with
    | some (_, rs) => (c, 0, 0) :: rs.map fun r => (c, r.typ, r.inst)
    | none => [(c, 0, 0)]
  let (sigs, s) := refs.foldl (fun (p : List SigRef × State) r =>
    let (v, t) := verdict p.2
    (if v then p.1 ++ [r] else p.1, t)) ([], s)
  stageCommitRun ok sigs s

/-- A command of R199 through RGN_CMD: the region that the window shows; the result stands in every quarter's register. -/
def rgnWrite (q : Quarter) (v : W32) (s : State) : State :=
  let code := fld v 7 0
  let n := s.rfld .RGN_SEL q.val 11 0
  if s.isBusy .RGN_CMD_RESULT q.val then refusedBusy 6 n code ((s.region n).elim 0 Region.st) s
  else if code = 0 ∨ 5 < code then (List.range 4).foldl (fun s k => s.result .RGN_CMD_RESULT k stUNSUPPORTED) s
  else
    redCmd (regHdr (.rgnCmd q)) code (w16 n) (w16 (fld v 31 16)) ((List.range 4).foldl (fun s k => s.busy .RGN_CMD_RESULT k) s)

def slotWrite (q : Quarter) (code : Nat) (s : State) : State :=
  if code = 1 ∧ !s.isBusy .SLOT_CMD_RESULT q.val then slotRejoinRun (regHdr (.slotCmd q)) 0 s
  else
    let v := s.rfld .SLOT_SEL q.val 12 0
    noCmd .SLOT_CMD_RESULT q.val 5 (4 * q.val) code (s.slotSt (tenOf (v / 512)) (v % 512)) s

/-- A write to a command register or to a register with a write-only bit; none: the register has neither. -/
def writeCmd (r : Reg) (u : Nat) (v : W32) : Option (State → State) :=
  let code := fld v 7 0
  match r with
  | .RST_CMD => some fun s =>
    match code with
    | 1 => warmResetCmd s
    | 2 => quarterResetRun ⟨fld v 9 8 % 4, Nat.mod_lt _ (by decide)⟩ s
    | _ => rstCmd 0xFFFF code (fun s => s.result .RST_CMD_RESULT 0 stUNSUPPORTED) s
  | .PWR_CMD => some fun s =>
    if code = 1 then setStateRun (BitVec.ofNat 4 (fld v 11 8)) s else noCmd .PWR_CMD_RESULT 0 2 0xFFFF code s.pwr.st s
  | .HWD_CMD => some (hwdWrite code)
  | .BLK_CMD => some fun s =>
    blkCmd code (fun s =>
      match code with
      | 1 => stageBeginRun s
      | 2 => stageCommitWrite s
      | 3 => ownerClaimRun s
      | 4 => putWinRun s
      | _ => s.result .BLK_CMD_RESULT 0 stUNSUPPORTED) s
  | .SU_CMD => some fun s => if bit v.toNat 8 then suRetry (BitVec.ofNat 4 (fld v 3 0)) s else suRun (BitVec.ofNat 4 (fld v 3 0)) s
  | .PAIR_CMD => some fun s =>
    if code = 1 then pairYieldRun s else noCmd .PAIR_CMD_RESULT 0 0x0A s.spn.pos code s.pair.role s
  | .SHV_CMD => some fun s =>
    shvCmd code (fun s =>
      match code with
      | 1 => shaveRun s
      | 2 => shvReleaseRun s
      | 3 => shvExportRun s
      | _ => s.result .SHV_CMD_RESULT 0 stUNSUPPORTED) s
  | .DBG_CMD => some fun s =>
    dbgCmd code (fun s =>
      match code with
      | 1 => challengeRun s
      | 2 =>
        let (ok, s) := verdict s
        unlockRun ok s
      | _ => s.result .DBG_CMD_RESULT 0 stUNSUPPORTED) s
  | .CNT_CMD => some fun s =>
    cntCmd code (fun s =>
      match code with
      | 1 => snapGauges (snapRun s)
      | 2 => cntClearRun s
      | _ => s.result .CNT_CMD_RESULT 0 stUNSUPPORTED) s
  | .MBX_CTL => some fun s => if bit v.toNat 0 then mbxGoRun s else s
  | .RTC_CMD => some fun s =>
    rtcCmdRun code (fun s => if code = 1 then calCommit s else s.result .RTC_CMD_RESULT 0 stUNSUPPORTED) s
  | .CH_CMD => some fun s => onIdx 16 u (fun c s =>
    match code with
    | 1 => ddrEvacuateRun c (bit v.toNat 8) s
    | 2 => ddrRestoreRun c s
    | _ => chanCmd c code (fun s => s.result .CH_CMD_RESULT c.val stUNSUPPORTED) s) s
  | .CAR_CMD => some fun s => onIdx 8 u (fun c s =>
    match code with
    | 1 => carOfflineRun c (bit v.toNat 8) s
    | 2 => carAttachRun c s
    | _ => carCmdOther c code s) s
  | .LNK_CMD => some fun s => onIdx 24 u (fun l s =>
    match code with
    | 1 => linkDisableRun l s
    | 2 => linkEnableRun l s
    | 3 => linkRetrainRun l (BitVec.ofNat 2 (fld v 11 10)) (BitVec.ofNat 2 (fld v 9 8)) s
    | 4 => linkRekeyRun l s
    | _ => linkCmd l code (fun s => s.result .LNK_CMD_RESULT l.val stUNSUPPORTED) s) s
  | .SLOT_CMD => some fun s => onIdx 4 u (fun q s => slotWrite q code s) s
  | .RGN_CMD => some fun s => onIdx 4 u (fun q s => rgnWrite q v s) s
  | .KC_CMD => some fun s => onIdx 144 u (fun k s => kcCmdRun k code s) s
  | .TAGC_CTL => some fun s => if bit v.toNat 0 then onIdx 4 u (fun q s => tagcWbRun q s) s else s
  | .CHK_CFG => some fun s => onIdx 8 u (fun k s => chkCfgRun k v s) s
  | .CHK_VALUE => some fun s => onIdx 8 u (fun k s => chkValueRun k v s) s
  | .CHK_D8 => some fun s => onIdx 8 u (fun k s => chkDataRun k 1 v s) s
  | .CHK_D16 => some fun s => onIdx 8 u (fun k s => chkDataRun k 2 v s) s
  | .CHK_D32 => some fun s => onIdx 8 u (fun k s => chkDataRun k 4 v s) s
  | .SPN_ALARM_SET => some (alarmSetRun (byte v.toNat))
  | _ => none

/-! ### Other registers, by access code (R16) -/

/-- The entry of a write to an RWL register after start-up (R485). -/
def rwlRefused (a : Nat) (v : W32) (s : State) : State := logEv ⟨1, .refused, 12, 0, 0, 0, 0xFF, toLe 4 a ++ toLe 4 v.toNat⟩ s

/-- The bits of a masked write. -/
def mixed (mask : Nat) (old new : W32) : W32 := w32 ((old.toNat &&& (0xFFFFFFFF - mask)) ||| (new.toNat &&& mask))

/-- The fields with a stated range, of the blocks whose writes outside it are replaced by the nearest limit (R140, R173, R229, R318, R335,
R369, R443, R467): high and low bit, least and greatest value. -/
def Reg.ranges : Reg → List (Nat × Nat × Nat × Nat)
  | .QWDOG | .KC_WDOG => [(15, 0, 1, 10000)]
  | .PWR_CAP => [(9, 0, 450, 980)]
  | .PWR_TIMERS => [(15, 0, 1, 65535)]
  | .TAMPER_CFG => [(21, 12, 10, 1000)]
  | .SHP_RETRY => [(15, 0, 100, 65535)]
  | .HOST_BURST | .SVC_BURST | .PORT_BURST => [(15, 0, 4, 65535)]
  | .HOST_CFG => [(2, 0, 0, 4)]
  | .SVC_WEIGHT | .TRANSIT_W => [(7, 0, 1, 255)]
  | .PORT_SEL => [(4, 0, 0, 23)]
  | .TG_LEN => [(6, 0, 0, 64)]
  | .TG_ENTRY => [(23, 0, 1, 0xFFFFFF)]
  | .TRC_CTL => [(31, 16, 1, 65535)]
  | .JGROUP_NS => [(15, 0, 0, 20000)]
  | .WL_DELTA => [(15, 0, 50, 5000)]
  | .RD_LIMIT => [(31, 0, 10000, 10000000)]
  | .RET_PERIOD => [(15, 0, 1, 8760)]
  | .RET_THRESH => [(7, 0, 8, 119)]
  | .REBUILD_RATE => [(15, 0, 100, 4000)]
  | .CKPT_INTERVAL => [(15, 0, 10, 3600)]
  | .LNK_CFG => [(25, 16, 1, 1000), (11, 0, 500, 4000)]
  | .HOME_CFG => [(15, 0, 1, 10000)]
  | .FLUSH_CFG => [(9, 0, 1, 1000)]
  | _ => []

/-- A register's value with each such field at the nearest limit of its range. -/
def nearest (r : Reg) (v : W32) : W32 :=
  r.ranges.foldl (fun v x => w32 (setBits v.toNat x.1 x.2.1 (max x.2.2.1 (min x.2.2.2 (fld v x.1 x.2.1))))) v

/-- The plain effect of a write: writable bits take their value, RWL bits while they may, W1C bits clear where 1 is written. A register
with RW and RWL fields is reported only where an RWL field would change (log entry 37). -/
def writePlain (a : Nat) (r : Reg) (u : Nat) (v : W32) (s : State) : State :=
  let f := r.info
  let old := s.reg r u
  let s := if s.su.locked ∧ f.rwl ≠ 0 ∧ (f.rw = 0 ∨ old.toNat &&& f.rwl ≠ v.toNat &&& f.rwl) then rwlRefused a v s else s
  let m := f.rw ||| (if s.su.locked then 0 else f.rwl)
  let new := mixed m old (nearest r (mixed m old v))
  s.setReg r u (mixed (v.toNat &&& f.w1c) new 0)

/-- VALID and OVERFLOW of a capture register: clearing VALID clears both. -/
def writeCapture (r : Reg) (u : Nat) (v : W32) (s : State) : State :=
  let m := v.toNat &&& r.info.w1c
  s.setReg r u (mixed (if bit m 31 then r.info.w1c else m) (s.reg r u) 0)

/-- A write to a register's element. Some registers stand for state that lies elsewhere. -/
def writeReg (a : Nat) (l : Loc) (v : W32) (s : State) : State :=
  let r := l.reg
  let u := s.shownU r l.u
  match writeCmd r u v with
  | some f => f s
  | none =>
    match r with
    | .ECLK_REQ => eclkReq (BitVec.ofNat 4 (fld v 3 0)) s
    | .TAMPER_STAT => { s with hw := { s.hw with tamper := s.hw.tamper &&& ~~~(byte v.toNat) } }
    | .TAMPER_CFG =>
      if s.su.locked then rwlRefused a v s else { s with hw := { s.hw with pol := nearest r (mixed r.info.rwl s.hw.pol v) } }
    | .SPN_ALARM => { s with spn := { s.spn with alarm := s.spn.alarm &&& ~~~(byte v.toNat) } }
    | .RTC_STAT => if bit v.toNat 1 then { s with time := { s.time with dateInvalid := false } } else s
    | .UTC_OFFSET => { s with time := { s.time with utc := byte v.toNat } }
    | .CAL_DATE => { s with time := { s.time with stDate := v } }
    | .CAL_TIME => { s with time := { s.time with stTime := w32 (fld v 23 0) } }
    | .PWR_CAP => capJudge (writePlain a r u v s)
    | .TRC_CTL => traceSwitch (writePlain a r u v) s
    | .CNT_CTL => (openCountAll s).setReg .CNT_CTL 0 (w32 (v.toNat &&& r.info.rw &&& s.cntPerm))
    | .RGN_SEL => (List.range 4).foldl (fun s q => writePlain a .RGN_SEL q v s) s
    | .XFER_WIN => xferPut (s.rfld .XFER_OFF 0 18 0 / 4096 * 4096 + 4 * l.u) (toLe 4 v.toNat) s
    | .XLAT_FAULT_STAT | .SNP_CAP_STAT | .KC_FAULT => writeCapture r u v s
    | .XLAT_CTL =>
      let s := writePlain a r u v s
      if bit v.toNat 1 then onIdx 4 u (fun q s => tcFlushRun q s) s else s
    | .CE_CTL =>
      let s := writePlain a r u v s
      if bit v.toNat 1 then onIdx 16 u (fun c s => ceClearRun c s) s else s
    | _ => writePlain a r u v s

/-- A write of a management address; one that no table lists has no effect (R16). -/
def writeAddr (a : Nat) (v : W32) (s : State) : State :=
  match locate a with
  | some l => if l.hi then s else writeReg a l v s
  | none => s

/-! ### REG_READ and REG_WRITE (R268) -/

/-- REG_DATA: the value and the status. -/
def regData (m : MgtMsg) (v : W32) (st : Byte) (hint : Nat) (s : State) : State :=
  send { cls := .mgt, op := 7, dst := m.src, src := s.myId, tag := m.tag, status := st, hint := hint,
         payload := toLe 4 v.toNat ++ [st, 0, 0, 0] } s

/-- A register access from a device administrator; others are answered NO_ACCESS (R263), a draining device turns it away (R426). -/
def regAccess (m : MgtMsg) (len : Nat) (f : State → W32 × State) (s : State) : State :=
  if s.classOfEp m.src ≠ .da then regData m 0 stNO_ACCESS 0 s
  else
    match s.closedHint with
    | some h => regData m 0 stRETRY_BUSY h s
    | none =>
      if m.payload.length ≠ len then regData m 0 stBAD_DESCRIPTOR 0 s
      else
        let (v, s) := f s
        regData m v stOK 0 s

def regReadRx (m : MgtMsg) (s : State) : State := regAccess m 4 (readAddr (leAt m.payload 0 4)) s

def regWriteRx (m : MgtMsg) (s : State) : State :=
  regAccess m 8 (fun s => (0, writeAddr (leAt m.payload 0 4) (w32 (leAt m.payload 4 4)) s)) s

/-! ### The I3C target (R463) -/

/-- A private write: the address, and with four more bytes the register. -/
def i3cWrite (addr : W32) (value : Option W32) (s : State) : State :=
  let s := { s with i3c := addr }
  match value with
  | some v => writeAddr addr.toNat v s
  | none => s

/-- A private read: the register's value, and the address advances by 4. -/
def i3cRead (s : State) : State :=
  let (v, s) := readAddr s.i3c.toNat s
  emit (.readData v) { s with i3c := s.i3c + 4 }

/-- A read of a pair's half by a device administrator (R15). -/
def pairRead (addr : W32) (s : State) : State :=
  let (v, s) := readAddr addr.toNat s
  emit (.readData v) s

/-! ### Meanings -/

def execMbxGo (s : State) : Host.Outcome State Fault Refusal := pumped mbxGoRun s
def execRegRead (m : MgtMsg) (s : State) : Host.Outcome State Fault Refusal := pumped (regReadRx m) s
def execRegWrite (m : MgtMsg) (s : State) : Host.Outcome State Fault Refusal := pumped (regWriteRx m) s
def execI3cPrivateWrite (addr : W32) (value : Option W32) (s : State) : Host.Outcome State Fault Refusal := pumped (i3cWrite addr value) s
def execI3cPrivateRead (s : State) : Host.Outcome State Fault Refusal := live i3cRead s
def execLatchedPairRead (addr : W32) (s : State) : Host.Outcome State Fault Refusal := live (pairRead addr) s
def execRegisterWrite (addr value : W32) (s : State) : Host.Outcome State Fault Refusal := pumped (writeAddr addr.toNat value) s
def execChkCfgWrite (u : Fin 8) (value : W32) (s : State) : Host.Outcome State Fault Refusal := live (chkCfgRun u value) s
def execChkDataWrite (u : Fin 8) (bytes : Fin 3) (value : W32) (s : State) : Host.Outcome State Fault Refusal :=
  live (chkDataRun u (2 ^ bytes.val) value) s
def execChkValueWrite (u : Fin 8) (value : W32) (s : State) : Host.Outcome State Fault Refusal := live (chkValueRun u value) s

end Sys2Proof.Machine
end

