-- ==== Sys2Proof/Machine/Deliver.lean ====
section
/-! DEFINITION. Messages that have reached this device, by class and opcode (R147, R148, R268), and the flits that carry them (R299, R308 to
R317). -/

namespace Sys2Proof.Machine

/-! ### MGT (R268) -/

/-- An opcode that names no MGT message: MBX_REPLY with UNSUPPORTED, CMD and SEQ as they stand in the payload. -/
def mgtUnknown (m : MgtMsg) (s : State) : State :=
  let b := m.payload
  send { cls := .mgt, op := 2, dst := m.src, src := s.myId, tag := m.tag, status := stUNSUPPORTED,
         payload := replyBlock (leAt b 4 2) (w32 (leAt b 8 4)) stUNSUPPORTED 0 [] } s

/-- An MGT message by its opcode. A message of the table that runs from device to host has no effect here (log entry 38). -/
def mgtRx (op : Nat) (m : MgtMsg) (hint : Nat) (s : State) : State :=
  let b := m.payload
  let xid : W32 := w32 (leAt b 4 4)
  match op with
  | 0x01 => mbxRx m s
  | 0x02 | 0x04 | 0x07 => s
  | 0x03 => doorbellRun m s
  | 0x05 => regReadRx m s
  | 0x06 => regWriteRx m s
  | 0x10 => epochRx m s
  | 0x11 => epochAckRx m s
  | 0x12 => if m.src = s.partnerId then hbRx .link b s else s
  | 0x13 => handGoRx m s
  | 0x14 => blkPutRx m s
  | 0x15 => blkAckRx m s
  | 0x16 => timeSyncRx m s
  | 0x17 => timeDreqRx m s
  | 0x18 => timeDrespRx m s
  | 0x19 => coordRx ⟨m.src, xid⟩ (leAt b 0 1) (b.drop 8) s
  | 0x1A => coordAckRx m.src hint (leAt b 0 1) (byte (leAt b 1 1)) xid (b.drop 8) s
  | _ => mgtUnknown m s

/-! ### A packet for this device -/

/-- A REQ's fields (R147). -/
def reqOf (l : LinkId) (b : Bytes) : ReqMsg :=
  let f := leAt b 1 1
  { link := l, src := w16 (leAt b 2 2), dst := w16 (leAt b 4 2), tag := w16 (leAt b 6 2), handle := w16 (leAt b 8 2),
    len := byte (leAt b 10 1), addr := w64 (leAt b 16 8), fwd := bit f 3, near := bit f 2, nr := bit f 1, wbPending := bit f 0,
    rsvd := hdrReserved b, payload := b.drop 32 }

/-- The fields of a snoop answer or an eviction. -/
def hostOf (l : LinkId) (b : Bytes) : HostMsg :=
  { link := l, src := w16 (leAt b 2 2), tag := w16 (leAt b 6 2), addr := w64 (leAt b 16 8), wbPending := bit (leAt b 1 1) 0,
    payload := b.drop 32 }

/-- A whole packet is delivered to this device. -/
def deliverPkt (l : LinkId) (b : Bytes) (s : State) : State :=
  match Msg.dec b with
  | none => s
  | some m =>
    let x := hostOf l b
    match m.cls, m.op with
    | .req, op => reqArrive op (reqOf l b) s
    | .snp, 1 => snpInvReader x s
    | .rsp, 1 => poolAnswerRun m.src m.tag m.status (BitVec.ofNat 12 m.hint) [] s
    | .rsp, 8 => invAckRun x s
    | .rsp, 9 => shrAckRun x s
    | .rsp, 10 => flushAckRun x s
    | .wb, 1 => wbRun x true s
    | .wb, 2 => wbRun x false s
    | .dat, 8 => datSnpRun x s
    | .dat, _ => poolAnswerRun m.src m.tag m.status (BitVec.ofNat 12 m.hint) m.payload s
    | .mgt, op => mgtRx op ⟨m.src, m.dst, m.tag, m.payload⟩ m.hint s
    | .snp, _ => s
    | .rsp, _ => s
    | .wb, _ => s

/-! ### MSG flits (R299, R308 to R317) -/

def setOpen (l : LinkId) (vc : Nat) (o : Option OpenPkt) (s : State) : State := s.updLink l fun k => { k with opens := k.opens.set vc o }

/-- The rest of a discarded packet is discarded with it. -/
def discardPkt (l : LinkId) (vc : Nat) (tail : Bool) (b : Bytes) (s : State) : State :=
  let s := freeFlit l vc s
  if tail then s else setOpen l vc (some ⟨w16 (leAt b 2 2), w16 (leAt b 6 2), 31, false, [], s.time.nclk⟩) s

/-- A head flit: the switch-side check, then this device or a port of the route entry. -/
def headFlit (l : LinkId) (vc : Nat) (tail : Bool) (b : Bytes) (s : State) : State :=
  let src : W16 := w16 (leAt b 2 2)
  let dst : W16 := w16 (leAt b 4 2)
  let tag : W16 := w16 (leAt b 6 2)
  let cls := leAt b 0 1 / 32
  let asks : Bool := cls = 0 || cls = 5
  let keep (port : Nat) (bytes : Bytes) (s : State) : State :=
    if tail then s else setOpen l vc (some ⟨src, tag, port, port < 24, bytes, s.time.nclk⟩) s
  if !s.edgeOk l src then edgeDeny l src dst tag asks (discardPkt l vc tail b s)
  else if s.hears l dst then
    let s := keep 24 b (freeFlit l vc s)
    if tail then deliverPkt l b s else s
  else
    match s.pickPort dst.toNat ((s.link l).dir = 1) with
    | some p => keep p [] (if h : p < 24 then putFlit ⟨p, h⟩ ⟨vc, 8, true, tail, false, b, some l⟩ s else freeFlit l vc s)
    | none =>
      let s := (discardPkt l vc tail b s).count .NOROUTE_CNT (linkQuarter l)
      if asks then
        let pair := bits (s.route dst.toNat) 63 62 = 2
        sendCmp dst src tag (if pair then stEPOCH_CHANGED else stRETRY_BUSY) (s.loadLevel (linkQuarter l) false)
          (if pair then 0 else hintNs 100000) s
      else s

/-- A later flit of an open packet follows its head. -/
def bodyFlit (l : LinkId) (vc : Nat) (tail : Bool) (b : Bytes) (p : OpenPkt) (s : State) : State :=
  let p := { p with at_ := s.time.nclk, bytes := if p.port = 24 then p.bytes ++ b else p.bytes }
  let s := setOpen l vc (if tail then none else some p) s
  if h : p.port < 24 then putFlit ⟨p.port, h⟩ ⟨vc, 8, false, tail, false, b, some l⟩ s
  else
    let s := freeFlit l vc s
    if p.port = 24 ∧ tail then deliverPkt l p.bytes s else s

/-- MSG_FLIT: checked and sequenced, then routed. -/
def msgFlitRx (l : LinkId) (f : Flit) (s : State) : State :=
  match rxFlit l f s with
  | (.seq, s) =>
    let h := f.hdr.toNat
    let vc := bits h 33 31
    let head := bit h 30
    let tail := bit h 29
    let b := f.msg.take (bits h 28 21 + 1)
    if bits h 63 60 ≠ 1 ∨ 6 ≤ vc then s
    else
      takeFlit l vc (fun s =>
        let s := s.count .LNK_RX_BYTES l.val (bits h 28 21 + 1)
        if head then
          let s := if ((s.link l).opens.getD vc none).isSome then (closePkt l vc s).count .HEAD_OPEN_CNT l.val else s
          headFlit l vc tail b (s.updLink l fun k => { k with drop := k.drop.set vc false })
        else
          match (s.link l).opens.getD vc none with
          | some p => bodyFlit l vc tail b p s
          | none => freeFlit l vc (s.count .ORPHAN_CNT l.val)) s
  | (_, s) => s

/-! ### Meanings -/

def execMsgFlit (l : LinkId) (f : Flit) (s : State) : Host.Outcome State Fault Refusal := pumped (msgFlitRx l f) s
def execRdOnce (r : ReqMsg) (s : State) : Host.Outcome State Fault Refusal := pumped (reqArrive 1 r) s
def execRdShared (r : ReqMsg) (s : State) : Host.Outcome State Fault Refusal := pumped (reqArrive 2 r) s
def execRdOwn (r : ReqMsg) (s : State) : Host.Outcome State Fault Refusal := pumped (reqArrive 3 r) s
def execUpgrade (r : ReqMsg) (s : State) : Host.Outcome State Fault Refusal := pumped (reqArrive 4 r) s
def execWrLine (r : ReqMsg) (s : State) : Host.Outcome State Fault Refusal := pumped (reqArrive 5 r) s
def execWrPart (r : ReqMsg) (s : State) : Host.Outcome State Fault Refusal := pumped (reqArrive 6 r) s
def execAtomic (r : ReqMsg) (s : State) : Host.Outcome State Fault Refusal := pumped (reqArrive 7 r) s
def execRedAdd (r : ReqMsg) (s : State) : Host.Outcome State Fault Refusal := pumped (reqArrive 0x10 r) s
def execRedRead (r : ReqMsg) (s : State) : Host.Outcome State Fault Refusal := pumped (reqArrive 0x11 r) s
/-- REQ opcodes without a message of their own fail the first check of R486 and end UNSUPPORTED. -/
def execUndefinedReqOpcode (opcode : BitVec 5) (r : ReqMsg) (s : State) : Host.Outcome State Fault Refusal :=
  pumped (reqArrive opcode.toNat r) s
def execUndefinedMgtOpcode (opcode : BitVec 5) (m : MgtMsg) (s : State) : Host.Outcome State Fault Refusal :=
  pumped (mgtRx opcode.toNat m 0) s
def execInvAck (m : HostMsg) (s : State) : Host.Outcome State Fault Refusal := pumped (invAckRun m) s
def execShrAck (m : HostMsg) (s : State) : Host.Outcome State Fault Refusal := pumped (shrAckRun m) s
def execDatSnp (m : HostMsg) (s : State) : Host.Outcome State Fault Refusal := pumped (datSnpRun m) s
def execFlushAck (m : HostMsg) (s : State) : Host.Outcome State Fault Refusal := pumped (flushAckRun m) s
def execWbDirty (m : HostMsg) (s : State) : Host.Outcome State Fault Refusal := pumped (wbRun m true) s
def execWbClean (m : HostMsg) (s : State) : Host.Outcome State Fault Refusal := pumped (wbRun m false) s
def execSnoopTimeout (trk : Nat) (slot : BitVec 9) (s : State) : Host.Outcome State Fault Refusal :=
  pumped (snoopTimeoutRun trk slot.toNat) s
def execFlushTimeout (sl : SliceId) (slot : BitVec 9) (s : State) : Host.Outcome State Fault Refusal :=
  pumped (flushTimeoutRun sl slot.toNat) s
def execSnpInvPtReader (m : HostMsg) (s : State) : Host.Outcome State Fault Refusal := pumped (snpInvReader m) s
def execPoolAnswer (src tag : W16) (status : Byte) (backoff : BitVec 12) (data : Bytes) (s : State) : Host.Outcome State Fault Refusal :=
  pumped (poolAnswerRun src tag status backoff data) s
def execDmaRetryTimer (acc : Nat) (s : State) : Host.Outcome State Fault Refusal := pumped (dmaRetry acc) s
def execPtabWriteAck (trk : Nat) (s : State) : Host.Outcome State Fault Refusal := pumped (ptabAck trk) s
def execTcFlush (q : Quarter) (s : State) : Host.Outcome State Fault Refusal := live (tcFlushRun q) s
def execLineLockGranted (line : Nat) (s : State) : Host.Outcome State Fault Refusal := pumped (lockGranted line) s
def execVictimWayFree (sl : SliceId) (s : State) : Host.Outcome State Fault Refusal := pumped (victimFree sl) s
def execVictimLimitRelease (sl : SliceId) (s : State) : Host.Outcome State Fault Refusal := pumped (limitRelease sl) s
def execMbxCmd (m : MgtMsg) (s : State) : Host.Outcome State Fault Refusal := pumped (mbxRx m) s
def execDoorbell (m : MgtMsg) (s : State) : Host.Outcome State Fault Refusal := pumped (doorbellRun m) s

end Sys2Proof.Machine
end

