-- ==== Sys2Proof/Machine/Units.lean ====
section
/-! DEFINITION. The meanings of the commands by which the units of the device report what happens in them: start-up, DRAM, flash, carriers,
kernel cores, slices and the pair. -/

namespace Sys2Proof.Machine

/-! ### Start-up (R410 to R414, R426) -/

def execStartupStepDone (r : StepReport) (s : State) : Host.Outcome State Fault Refusal := pumped (stepDoneRun r) s
def execCoreWave (s : State) : Host.Outcome State Fault Refusal := pumped coreWaveRun s
def execSuCmdRun (step : BitVec 4) (s : State) : Host.Outcome State Fault Refusal := pumped (suRun step) s
def execSuCmdRetry (step : BitVec 4) (s : State) : Host.Outcome State Fault Refusal := pumped (suRetry step) s

/-! ### DRAM channels (R74 to R106) -/

def execDdrTrainDone (c : ChanId) (r : TrainReport) (s : State) : Host.Outcome State Fault Refusal := pumped (ddrTrainRun c r) s
def execPmicFault (c : ChanId) (s : State) : Host.Outcome State Fault Refusal := pumped (chanFault c) s
def execCaParityAlert (c : ChanId) (retryFailed : Bool) (s : State) : Host.Outcome State Fault Refusal :=
  pumped (parityRun c retryFailed) s
def execDdrEvacuate (c : ChanId) (force : Bool) (s : State) : Host.Outcome State Fault Refusal := pumped (ddrEvacuateRun c force) s
def execDdrEvacuateDone (c : ChanId) (s : State) : Host.Outcome State Fault Refusal := pumped (ddrEvacuateDoneRun c) s
def execDdrRestore (c : ChanId) (s : State) : Host.Outcome State Fault Refusal := pumped (ddrRestoreRun c) s
def execDdrRestoreDone (c : ChanId) (r : TrainReport) (s : State) : Host.Outcome State Fault Refusal := pumped (ddrRestoreDoneRun c r) s
def execRefreshDue (c : ChanId) (s : State) : Host.Outcome State Fault Refusal := live (refreshRun c) s
def execPdTimerExpire (c : ChanId) (rank : Fin 4) (s : State) : Host.Outcome State Fault Refusal := live (pdExpire c rank) s
def execDimmTempPoll (c : ChanId) (celsius : Byte) (s : State) : Host.Outcome State Fault Refusal := live (tempPoll c celsius.toNat) s
def execScrubTick (c : ChanId) (s : State) : Host.Outcome State Fault Refusal := pumped (scrubRun c) s
def execCeClear (c : ChanId) (s : State) : Host.Outcome State Fault Refusal := live (ceClearRun c) s
def execTagcWbAll (q : Quarter) (s : State) : Host.Outcome State Fault Refusal := live (tagcWbRun q) s

/-! ### The flash tier (R112 to R134, R491) -/

def execFlashReadDone (block : Nat) (r : PageRead) (s : State) : Host.Outcome State Fault Refusal := pumped (flashReadRun block r) s
def execJournalGroupExpire (q : Quarter) (t : TenantId) (s : State) : Host.Outcome State Fault Refusal := pumped (journalExpireRun q t) s
def execJournalProgramDone (q : Quarter) (t : TenantId) (pseq : Nat) (carrier : CarrierId) (pass : Bool) (s : State) : Host.Outcome State Fault Refusal :=
  pumped (journalProgramRun q t pseq carrier pass) s
def execJournalSpaceReclaimed (s : State) : Host.Outcome State Fault Refusal := pumped journalSpaceRun s
def execDenseStripeTimeout (q : Quarter) (t : TenantId) (s : State) : Host.Outcome State Fault Refusal := pumped (denseTimeoutRun q t) s
def execDenseVerifyDone (q : Quarter) (t : TenantId) (progPass hardOk : PassMask) (worstBits : List Nat) (s : State) : Host.Outcome State Fault Refusal :=
  pumped (denseVerifyRun q t progPass hardOk worstBits) s
def execCheckpointInterval (s : State) : Host.Outcome State Fault Refusal := pumped ckptIntervalRun s
def execCheckpointVerified (s : State) : Host.Outcome State Fault Refusal := pumped ckptVerifiedRun s
def execGcStart (s : State) : Host.Outcome State Fault Refusal := pumped gcRun s
def execFlashEraseDone (carrier : CarrierId) (sblk : Nat) (pass : Bool) (s : State) : Host.Outcome State Fault Refusal :=
  pumped (eraseRun carrier sblk pass) s
def execWearLevelCheck (c : CarrierId) (s : State) : Host.Outcome State Fault Refusal := pumped (wearRun c) s
def execRetentionScan (c : CarrierId) (sblk : Nat) (r : PageRead) (s : State) : Host.Outcome State Fault Refusal :=
  pumped (retentionRun c sblk r) s
def execRemirrorDone (s : State) : Host.Outcome State Fault Refusal := pumped remirrorRun s

/-! ### Carriers (R108 to R111, R135 to R139) -/

def execCarrierDiscoveryDone (c : CarrierId) (r : CarrierReport) (s : State) : Host.Outcome State Fault Refusal :=
  pumped (discoveryRun c r) s
/-- CAR_PRSNT_N falls: a carrier has been put in. -/
def execCarPrsntFall (c : CarrierId) (s : State) : Host.Outcome State Fault Refusal := pumped (presentRun c) s
/-- CAR_PRSNT_N rises: the carrier has gone. -/
def execCarPrsntRise (c : CarrierId) (s : State) : Host.Outcome State Fault Refusal := pumped (absentRun c) s
def execCarOwnFall (c : CarrierId) (s : State) : Host.Outcome State Fault Refusal := pumped (carOwnFallRun c) s
def execCarOwnHoldExpire (s : State) : Host.Outcome State Fault Refusal := pumped ownHoldRun s
def execCarOwnRise (c : CarrierId) (s : State) : Host.Outcome State Fault Refusal := pumped (ownRise c) s
def execCarOffline (c : CarrierId) (force : Bool) (s : State) : Host.Outcome State Fault Refusal := pumped (carOfflineRun c force) s
def execCarOfflineDone (c : CarrierId) (s : State) : Host.Outcome State Fault Refusal := pumped (carOfflineDoneRun c) s
def execCarAttach (c : CarrierId) (s : State) : Host.Outcome State Fault Refusal := pumped (carAttachRun c) s
def execRebuildDone (c : CarrierId) (s : State) : Host.Outcome State Fault Refusal := pumped (rebuildRun c) s

/-! ### Kernel cores and computed blocks (R194, R225 to R229, R283) -/

def execSchedStep (s : State) : Host.Outcome State Fault Refusal := pumped schedStepRun s
def execTileDone (k : CoreId) (last : Bool) (s : State) : Host.Outcome State Fault Refusal := pumped (tileDoneRun k last) s
def execCmpBlockDone (region : BitVec 12) (block : Nat) (s : State) : Host.Outcome State Fault Refusal :=
  pumped (cmpBlockDoneRun region.toNat block) s
def execCoreFault (k : CoreId) (cause : CoreCause) (s : State) : Host.Outcome State Fault Refusal := pumped (coreFail k cause.toNat) s
def execKcWatchdogExpire (k : CoreId) (s : State) : Host.Outcome State Fault Refusal := pumped (kcWatchdogRun k) s
def execKcReset (k : CoreId) (s : State) : Host.Outcome State Fault Refusal := pumped (kcCmdRun k 1) s
def execKcClearDone (k : CoreId) (s : State) : Host.Outcome State Fault Refusal := pumped (kcClearDoneRun k) s
def execKcSelftestDone (k : CoreId) (pass : Bool) (s : State) : Host.Outcome State Fault Refusal := pumped (kcSelftestRun k pass) s

/-! ### Slices, slots, the pair (R163, R339, R393, R395, R398) -/

def execSliceClearDone (sl : SliceId) (s : State) : Host.Outcome State Fault Refusal := pumped (sliceClearDoneRun sl) s
def execSlotRejoinDone (t : TenantId) (slot : BitVec 9) (s : State) : Host.Outcome State Fault Refusal :=
  pumped (slotRejoinDoneRun t slot.toNat) s
def execTakeoverStageDone (ok : Bool) (s : State) : Host.Outcome State Fault Refusal := pumped (takeStageRun ok) s
def execRecoveryWindowClose (s : State) : Host.Outcome State Fault Refusal := pumped windowClose s
def execHandoverStageDone (s : State) : Host.Outcome State Fault Refusal := pumped handStageRun s

end Sys2Proof.Machine
end

