-- ==== Sys2Proof/Machine/Commands.lean ====
section
/-! DEFINITION. The meanings of the commands that hosts, administrators and other devices send, and of the shaper's. -/

namespace Sys2Proof.Machine

/-- SLOT_REJOIN; by SLOT_CMD under R490. -/
def slotRejoinCmd (h : CmdHdr) (slot : W16) (s : State) : State :=
  match h.iss with
  | .slotCmd q => slotWrite q 1 s
  | .bmc | .ep _ | .fwd _ _ _ | .rgnCmd _ | .hwdCmd => slotRejoinRun h slot s

/-- A command of R199; by RGN_CMD under R490. -/
def redIssue (h : CmdHdr) (code : Nat) (region arg : W16) (s : State) : State :=
  match h.iss with
  | .rgnCmd q =>
    if s.isBusy .RGN_CMD_RESULT q.val then refusedBusy 6 region.toNat code ((s.region region.toNat).elim 0 Region.st) s
    else redCmd h code region arg ((List.range 4).foldl (fun s k => s.busy .RGN_CMD_RESULT k) s)
  | .bmc | .ep _ | .fwd _ _ _ | .slotCmd _ | .hwdCmd => redCmd h code region arg s

/-! ### Contexts and segments (R44 to R48, R272) -/

def execCtxCreate (h : CmdHdr) (s : State) : Host.Outcome State Fault Refusal := pumped (ctxCreateRun h) s
def execCtxStop (h : CmdHdr) (s : State) : Host.Outcome State Fault Refusal := pumped (ctxSwitch h 0x102 1 2) s
def execCtxStart (h : CmdHdr) (s : State) : Host.Outcome State Fault Refusal := pumped (ctxSwitch h 0x103 2 1) s
def execCtxDestroy (h : CmdHdr) (s : State) : Host.Outcome State Fault Refusal := pumped (ctxDestroyRun h) s
def execCtxDestroyDone (handle : W16) (s : State) : Host.Outcome State Fault Refusal := pumped (ctxDestroyDoneRun handle) s
def execSegmentWrite (handle : W16) (n : Fin 16) (desc : Bytes) (s : State) : Host.Outcome State Fault Refusal :=
  pumped (segmentWriteRun handle n desc) s

/-! ### Queues, programs, tasks, triggers (R271 to R285) -/

def execQueueCreate (h : CmdHdr) (args : Bytes) (s : State) : Host.Outcome State Fault Refusal := pumped (queueCreateRun h args) s
def execQueuePause (h : CmdHdr) (s : State) : Host.Outcome State Fault Refusal := pumped (queueSwitch h 0x112 1 2) s
def execQueueResume (h : CmdHdr) (s : State) : Host.Outcome State Fault Refusal := pumped (queueSwitch h 0x113 2 1) s
def execQueueDelete (h : CmdHdr) (s : State) : Host.Outcome State Fault Refusal := pumped (queueDeleteRun h) s
def execProgLoad (h : CmdHdr) (imgCa : W64) (imgLen : W32) (s : State) : Host.Outcome State Fault Refusal :=
  pumped (progLoadRun h imgCa imgLen) s
def execProgUnload (h : CmdHdr) (prog : W16) (s : State) : Host.Outcome State Fault Refusal := pumped (progUnloadRun h prog) s
def execTaskSubmit (h : CmdHdr) (desc : Bytes) (s : State) : Host.Outcome State Fault Refusal := pumped (taskSubmitRun h desc) s
def execTaskCancel (h : CmdHdr) (tag : W32) (s : State) : Host.Outcome State Fault Refusal := pumped (taskCancelRun h tag) s
def execTaskQuery (h : CmdHdr) (tag : W32) (s : State) : Host.Outcome State Fault Refusal := pumped (taskQueryRun h tag) s
def execTrigRaise (h : CmdHdr) (tag : Byte) (s : State) : Host.Outcome State Fault Refusal := pumped (trigRaiseRun h tag) s
def execTrigRead (h : CmdHdr) (tag : Byte) (s : State) : Host.Outcome State Fault Refusal := pumped (trigReadRun h tag) s

/-! ### Regions (R45, R59 to R66, R180 to R200) -/

def execRegionCreate (h : CmdHdr) (descCa : W64) (s : State) : Host.Outcome State Fault Refusal := pumped (regionCreateRun h descCa) s
def execRegionQuiesce (h : CmdHdr) (region : W16) (s : State) : Host.Outcome State Fault Refusal := pumped (regionQuiesceRun h region) s
def execRegionQuiesceDone (region : W16) (s : State) : Host.Outcome State Fault Refusal := pumped (quiesceDone region.toNat) s
def execRegionResume (h : CmdHdr) (region : W16) (s : State) : Host.Outcome State Fault Refusal := pumped (regionResumeRun h region) s
def execRegionDelete (h : CmdHdr) (region : W16) (s : State) : Host.Outcome State Fault Refusal := pumped (regionDeleteRun h region) s
def execRegionDeleteDone (region : W16) (s : State) : Host.Outcome State Fault Refusal := pumped (deleteDone region.toNat) s
def execRegionRead (h : CmdHdr) (region : W16) (destCa : W64) (s : State) : Host.Outcome State Fault Refusal :=
  pumped (regionReadRun h region destCa) s
def execRedOpen (h : CmdHdr) (region arg : W16) (s : State) : Host.Outcome State Fault Refusal := pumped (redIssue h 1 region arg) s
def execRedClose (h : CmdHdr) (region arg : W16) (s : State) : Host.Outcome State Fault Refusal := pumped (redIssue h 2 region arg) s
def execRedCloseTimer (region : W16) (s : State) : Host.Outcome State Fault Refusal := pumped (closeTimer region.toNat) s
def execRedNextN (h : CmdHdr) (region arg : W16) (s : State) : Host.Outcome State Fault Refusal := pumped (redIssue h 3 region arg) s
def execSrcAdvance (h : CmdHdr) (region arg : W16) (s : State) : Host.Outcome State Fault Refusal := pumped (redIssue h 4 region arg) s
def execMatDrop (h : CmdHdr) (region arg : W16) (s : State) : Host.Outcome State Fault Refusal := pumped (redIssue h 5 region arg) s
def execGenDoneResend (region member : W16) (s : State) : Host.Outcome State Fault Refusal := pumped (doneResend region.toNat member) s

/-! ### Coordination between devices (R379, R381) -/

def execRecPrepare (c : Coord) (obj op : Byte) (number : W16) (record : Bytes) (s : State) : Host.Outcome State Fault Refusal :=
  pumped (coordFrom c 1 (recPrepareRx c obj.toNat op.toNat number.toNat record)) s
def execRecPrepareRetry (xid : W32) (s : State) : Host.Outcome State Fault Refusal := pumped (prepareRetryRun xid) s
/-- REC_COMMIT. The record names its object; OP is the prepared one's. -/
def execRecCommit (c : Coord) (obj _op : Byte) (number : W16) (s : State) : Host.Outcome State Fault Refusal :=
  pumped (coordFrom c 2 (recCommitRx c obj.toNat number.toNat)) s
def execRecAbort (c : Coord) (obj _op : Byte) (number : W16) (s : State) : Host.Outcome State Fault Refusal :=
  pumped (coordFrom c 3 (recAbortRx c obj.toNat number.toNat)) s
def execCmdFwd (c : Coord) (issuer : W16) (block : Bytes) (s : State) : Host.Outcome State Fault Refusal :=
  pumped (cmdFwdRx c issuer block) s
def execTrigRaiseMsg (c : Coord) (handle : W16) (tag flags : Byte) (region : W16) (gen : W32) (s : State) : Host.Outcome State Fault Refusal :=
  pumped (coordPlain c 5 (raiseRx handle tag.toNat flags.toNat region gen)) s
def execRedReport (c : Coord) (region : W16) (gen shortRus : W32) (flags : Byte) (s : State) : Host.Outcome State Fault Refusal :=
  pumped (coordPlain c 6 (reportRx region.toNat c.src gen.toNat shortRus.toNat flags.toNat)) s
def execRedCloseMsg (c : Coord) (region : W16) (gen : W32) (s : State) : Host.Outcome State Fault Refusal :=
  pumped (coordPlain c 7 (closeRx region.toNat gen.toNat)) s
def execRedDone (c : Coord) (region : W16) (gen : W32) (nNext : W16) (flags auto : Byte) (s : State) : Host.Outcome State Fault Refusal :=
  pumped (coordPlain c 8 (doneRx region.toNat gen.toNat nNext.toNat flags.toNat auto.toNat)) s
def execMatInval (c : Coord) (region source : W16) (cgen : W32) (s : State) : Host.Outcome State Fault Refusal :=
  pumped (coordPlain c 9 (matInvalRx region.toNat source.toNat cgen.toNat)) s
def execCoordAck (src : W16) (hint : BitVec 12) (subop status : Byte) (xid : W32) (body : Bytes) (s : State) : Host.Outcome State Fault Refusal :=
  pumped (coordAckRx src hint.toNat subop.toNat status xid body) s

/-! ### The job boundary (R415 to R418) -/

def execJobPrepare (c : Coord) (s : State) : Host.Outcome State Fault Refusal := pumped (coordFrom c 0xA (jobPrepareRx c)) s
def execJobCommit (c : Coord) (applyAt : W64) (s : State) : Host.Outcome State Fault Refusal :=
  pumped (coordFrom c 0xB (jobCommitRx c applyAt.toNat)) s
def execJobAbort (c : Coord) (s : State) : Host.Outcome State Fault Refusal := pumped (coordFrom c 0xC (jobAbortRx c)) s
def execJobBoundary (h : CmdHdr) (applyAt : W64) (s : State) : Host.Outcome State Fault Refusal := pumped (jobBoundaryRun h applyAt) s
def execJobApply (s : State) : Host.Outcome State Fault Refusal := pumped jobApplyRun s

/-! ### Slots, keys, reports, watches (R163, R344 to R346, R365 to R367, R382, R461) -/

def execSlotRejoin (h : CmdHdr) (slot : W16) (s : State) : Host.Outcome State Fault Refusal := pumped (slotRejoinCmd h slot) s
def execKeySet (h : CmdHdr) (mode : Byte) (envCa : W64) (unwrapOk : Bool) (s : State) : Host.Outcome State Fault Refusal :=
  pumped (keySetRun h mode envCa unwrapOk) s
def execKeyDestroy (h : CmdHdr) (s : State) : Host.Outcome State Fault Refusal := pumped (keyDestroyRun h) s
def execAttest (h : CmdHdr) (nonce : Bytes) (destCa : W64) (destLen : W32) (regions : List W16) (s : State) : Host.Outcome State Fault Refusal :=
  pumped (attestRun h nonce destCa destLen regions) s
def execAttestReportDone (sig : Bytes) (s : State) : Host.Outcome State Fault Refusal := pumped (attestDoneRun sig) s
def execStackAttest (h : CmdHdr) (nonce : Bytes) (destCa : W64) (destLen : W32) (s : State) : Host.Outcome State Fault Refusal :=
  pumped (stackAttestRun h nonce destCa destLen) s
def execStackAttestMemberTimeout (position : Fin 32) (s : State) : Host.Outcome State Fault Refusal :=
  pumped (stackAttTimeout position.val) s
def execWatchSet (h : CmdHdr) (args : Bytes) (s : State) : Host.Outcome State Fault Refusal := pumped (watchSetRun h args) s
def execWatchClear (h : CmdHdr) (prog : W16) (watch : Byte) (s : State) : Host.Outcome State Fault Refusal :=
  pumped (watchClearRun h prog watch) s

/-! ### Admission (R325 to R328) -/

/-- LEASE_GRANT: the tokens arrive; admissions that have all they asked for are decided, in order of arrival (R325). -/
def leaseGrantRun (b : Nat) (q : Quarter) (s : State) : State :=
  let mine (w : AdmWait) : Bool := w.link.val / 6 = q.val && w.need.contains b
  let go := s.shp.waiting.filter fun w => mine w && w.need.all (· = b)
  let left := (s.shp.waiting.filter fun w => !(mine w && w.need.all (· = b))).map fun w =>
    if mine w then { w with need := w.need.filter (· ≠ b) } else w
  let s := leaseArrive b q s
  go.foldl (fun s w => admitWaiting w s) { s with shp := { s.shp with waiting := left } }

def execLeaseRequest (bucket : Nat) (q : Quarter) (s : State) : Host.Outcome State Fault Refusal := pumped (leaseServe bucket q) s
def execLeaseGrant (bucket : Nat) (q : Quarter) (s : State) : Host.Outcome State Fault Refusal := pumped (leaseGrantRun bucket q) s
def execLeaseIdleExpire (bucket : Nat) (q : Quarter) (s : State) : Host.Outcome State Fault Refusal := live (leaseReturn bucket q) s
def execTgEntryBoundary (s : State) : Host.Outcome State Fault Refusal := live entryBoundary s
def execPendingPlateStart (s : State) : Host.Outcome State Fault Refusal := live plateStart s

end Sys2Proof.Machine
end

