-- ==== Sys2Proof/Machine/LinkCmds.lean ====
section
/-! DEFINITION. The meanings of the link commands and events (R295 to R307, R316, R318, R492). NULL, CREDIT, ABORT and KEYX
flits are here; a MSG flit can deliver a message and is with the deliveries. -/

namespace Sys2Proof.Machine

def execLaneSignalDetect (l : LinkId) (s : State) : Host.Outcome State Fault Refusal := live (signalDetect l) s
def execLinkTrainDone (l : LinkId) (lanes : BitVec 4) (s : State) : Host.Outcome State Fault Refusal :=
  live (trainDone l lanes) s
def execLinkTrainTimeout (l : LinkId) (s : State) : Host.Outcome State Fault Refusal := live (trainTimeout l) s
def execConfigFlit (l : LinkId) (p : PeerConfig) (s : State) : Host.Outcome State Fault Refusal := live (configFlitRx l p) s
def execConfigTimeout (l : LinkId) (s : State) : Host.Outcome State Fault Refusal := live (configTimeoutRun l) s
def execAuthFlit (l : LinkId) (v : AuthVerdict) (s : State) : Host.Outcome State Fault Refusal := live (authFlitRx l v) s
def execAuthTimeout (l : LinkId) (s : State) : Host.Outcome State Fault Refusal := live (authTimeoutRun l) s
def execNullFlit (l : LinkId) (f : Flit) (s : State) : Host.Outcome State Fault Refusal := live (fun s => (rxFlit l f s).2) s
def execCreditFlit (l : LinkId) (f : Flit) (s : State) : Host.Outcome State Fault Refusal := live (creditRx l f) s
def execAbortFlit (l : LinkId) (f : Flit) (s : State) : Host.Outcome State Fault Refusal := live (abortRx l f) s
def execKeyxFlit (l : LinkId) (f : Flit) (s : State) : Host.Outcome State Fault Refusal := live (keyxRx l f) s
def execReservedFtypeFlit (l : LinkId) (f : Flit) (s : State) : Host.Outcome State Fault Refusal := live (fun s => (rxFlit l f s).2) s
def execReplayTimeout (l : LinkId) (s : State) : Host.Outcome State Fault Refusal := live (replayTimeoutRun l) s
def execAckCoalesceTimer (l : LinkId) (s : State) : Host.Outcome State Fault Refusal := live (ackTimer l) s
def execCreditTimer (l : LinkId) (s : State) : Host.Outcome State Fault Refusal := live (creditTimerRun l) s
def execLinkRekey (l : LinkId) (s : State) : Host.Outcome State Fault Refusal := live (linkRekeyRun l) s
def execRekeyTimeout (l : LinkId) (s : State) : Host.Outcome State Fault Refusal := live (rekeyTimeoutRun l) s
def execLaneLockLoss (l : LinkId) (lane : Fin 4) (s : State) : Host.Outcome State Fault Refusal := live (lockLoss l lane) s
def execLaneLockRegain (l : LinkId) (lane : Fin 4) (s : State) : Host.Outcome State Fault Refusal :=
  live (lockRegain l lane) s
def execLinkDownTimer (l : LinkId) (s : State) : Host.Outcome State Fault Refusal := live (downTimer l) s
def execRetrainDone (l : LinkId) (p : PeerConfig) (s : State) : Host.Outcome State Fault Refusal :=
  live (retrainDoneRun l p) s
def execRetrainTimeout (l : LinkId) (s : State) : Host.Outcome State Fault Refusal := live (retrainTimeoutRun l) s
def execLinkHoldoffExpire (l : LinkId) (s : State) : Host.Outcome State Fault Refusal := live (holdoffExpire l) s
def execLinkDisable (l : LinkId) (s : State) : Host.Outcome State Fault Refusal := live (linkDisableRun l) s
def execLinkDisableDone (l : LinkId) (s : State) : Host.Outcome State Fault Refusal := live (linkDisableDoneRun l) s
def execLinkEnable (l : LinkId) (s : State) : Host.Outcome State Fault Refusal := live (linkEnableRun l) s
def execLinkRetrain (l : LinkId) (width rate : BitVec 2) (s : State) : Host.Outcome State Fault Refusal :=
  live (linkRetrainRun l width rate) s
def execStallTimeout (l : LinkId) (vc : Fin 6) (s : State) : Host.Outcome State Fault Refusal :=
  live (stallTimeoutRun l vc) s

end Sys2Proof.Machine
end

