-- ==== Sys2Proof/Machine/Dispatch.lean ====
section
/-! DEFINITION. The dispatch of commands to their meanings, one arm per constructor of Instr. -/

namespace Sys2Proof.Machine

def exec (i : Instr) (s : State) : Host.Outcome State Fault Refusal :=
  match i with
  | .powerOnReset cause straps pufOk => Sys2Proof.Machine.execPowerOnReset cause straps pufOk s
  | .oscStable o => Sys2Proof.Machine.execOscStable o s
  | .startupStepDone r => Sys2Proof.Machine.execStartupStepDone r s
  | .ddrTrainDone c r => Sys2Proof.Machine.execDdrTrainDone c r s
  | .carrierDiscoveryDone c r => Sys2Proof.Machine.execCarrierDiscoveryDone c r s
  | .suCmdRun step => Sys2Proof.Machine.execSuCmdRun step s
  | .suCmdRetry step => Sys2Proof.Machine.execSuCmdRetry step s
  | .quarterReset q => Sys2Proof.Machine.execQuarterReset q s
  | .quarterDrainDone q => Sys2Proof.Machine.execQuarterDrainDone q s
  | .qwdogExpire q => Sys2Proof.Machine.execQwdogExpire q s
  | .pfSequenceDone mib us => Sys2Proof.Machine.execPfSequenceDone mib us s
  | .tempReport celsius => Sys2Proof.Machine.execTempReport celsius s
  | .powerMeasure watts => Sys2Proof.Machine.execPowerMeasure watts s
  | .clockRampStep d => Sys2Proof.Machine.execClockRampStep d s
  | .eclkReqWrite div => Sys2Proof.Machine.execEclkReqWrite div s
  | .setState target => Sys2Proof.Machine.execSetState target s
  | .timeSync m => Sys2Proof.Machine.execTimeSync m s
  | .timeDreq m => Sys2Proof.Machine.execTimeDreq m s
  | .timeDresp m => Sys2Proof.Machine.execTimeDresp m s
  | .ptpMessage domain locked ptpNs => Sys2Proof.Machine.execPtpMessage domain locked ptpNs s
  | .laneSignalDetect l => Sys2Proof.Machine.execLaneSignalDetect l s
  | .linkTrainDone l lanes => Sys2Proof.Machine.execLinkTrainDone l lanes s
  | .linkTrainTimeout l => Sys2Proof.Machine.execLinkTrainTimeout l s
  | .configFlit l p => Sys2Proof.Machine.execConfigFlit l p s
  | .configTimeout l => Sys2Proof.Machine.execConfigTimeout l s
  | .authFlit l v => Sys2Proof.Machine.execAuthFlit l v s
  | .authTimeout l => Sys2Proof.Machine.execAuthTimeout l s
  | .nullFlit l f => Sys2Proof.Machine.execNullFlit l f s
  | .msgFlit l f => Sys2Proof.Machine.execMsgFlit l f s
  | .creditFlit l f => Sys2Proof.Machine.execCreditFlit l f s
  | .abortFlit l f => Sys2Proof.Machine.execAbortFlit l f s
  | .keyxFlit l f => Sys2Proof.Machine.execKeyxFlit l f s
  | .replayTimeout l => Sys2Proof.Machine.execReplayTimeout l s
  | .ackCoalesceTimer l => Sys2Proof.Machine.execAckCoalesceTimer l s
  | .creditTimer l => Sys2Proof.Machine.execCreditTimer l s
  | .linkRekey l => Sys2Proof.Machine.execLinkRekey l s
  | .rekeyTimeout l => Sys2Proof.Machine.execRekeyTimeout l s
  | .laneLockLoss l lane => Sys2Proof.Machine.execLaneLockLoss l lane s
  | .laneLockRegain l lane => Sys2Proof.Machine.execLaneLockRegain l lane s
  | .linkDownTimer l => Sys2Proof.Machine.execLinkDownTimer l s
  | .retrainDone l p => Sys2Proof.Machine.execRetrainDone l p s
  | .retrainTimeout l => Sys2Proof.Machine.execRetrainTimeout l s
  | .linkHoldoffExpire l => Sys2Proof.Machine.execLinkHoldoffExpire l s
  | .linkDisable l => Sys2Proof.Machine.execLinkDisable l s
  | .linkDisableDone l => Sys2Proof.Machine.execLinkDisableDone l s
  | .linkEnable l => Sys2Proof.Machine.execLinkEnable l s
  | .linkRetrain l width rate => Sys2Proof.Machine.execLinkRetrain l width rate s
  | .stallTimeout l vc => Sys2Proof.Machine.execStallTimeout l vc s
  | .rdOnce r => Sys2Proof.Machine.execRdOnce r s
  | .rdShared r => Sys2Proof.Machine.execRdShared r s
  | .rdOwn r => Sys2Proof.Machine.execRdOwn r s
  | .upgrade r => Sys2Proof.Machine.execUpgrade r s
  | .wrLine r => Sys2Proof.Machine.execWrLine r s
  | .wrPart r => Sys2Proof.Machine.execWrPart r s
  | .atomic r => Sys2Proof.Machine.execAtomic r s
  | .redAdd r => Sys2Proof.Machine.execRedAdd r s
  | .redRead r => Sys2Proof.Machine.execRedRead r s
  | .lineLockGranted line => Sys2Proof.Machine.execLineLockGranted line s
  | .victimWayFree sl => Sys2Proof.Machine.execVictimWayFree sl s
  | .victimLimitRelease sl => Sys2Proof.Machine.execVictimLimitRelease sl s
  | .flashReadDone block r => Sys2Proof.Machine.execFlashReadDone block r s
  | .journalGroupExpire q t => Sys2Proof.Machine.execJournalGroupExpire q t s
  | .journalProgramDone q t pseq carrier pass => Sys2Proof.Machine.execJournalProgramDone q t pseq carrier pass s
  | .denseStripeTimeout q t => Sys2Proof.Machine.execDenseStripeTimeout q t s
  | .denseVerifyDone q t progPass hardOk worstBits => Sys2Proof.Machine.execDenseVerifyDone q t progPass hardOk worstBits s
  | .flashEraseDone carrier sblk pass => Sys2Proof.Machine.execFlashEraseDone carrier sblk pass s
  | .wearLevelCheck c => Sys2Proof.Machine.execWearLevelCheck c s
  | .retentionScan c sblk r => Sys2Proof.Machine.execRetentionScan c sblk r s
  | .carPrsntFall c => Sys2Proof.Machine.execCarPrsntFall c s
  | .carPrsntRise c => Sys2Proof.Machine.execCarPrsntRise c s
  | .carOwnFall c => Sys2Proof.Machine.execCarOwnFall c s
  | .carOwnRise c => Sys2Proof.Machine.execCarOwnRise c s
  | .carOffline c force => Sys2Proof.Machine.execCarOffline c force s
  | .carOfflineDone c => Sys2Proof.Machine.execCarOfflineDone c s
  | .carAttach c => Sys2Proof.Machine.execCarAttach c s
  | .rebuildDone c => Sys2Proof.Machine.execRebuildDone c s
  | .invAck m => Sys2Proof.Machine.execInvAck m s
  | .shrAck m => Sys2Proof.Machine.execShrAck m s
  | .datSnp m => Sys2Proof.Machine.execDatSnp m s
  | .flushAck m => Sys2Proof.Machine.execFlushAck m s
  | .wbDirty m => Sys2Proof.Machine.execWbDirty m s
  | .wbClean m => Sys2Proof.Machine.execWbClean m s
  | .snoopTimeout trk slot => Sys2Proof.Machine.execSnoopTimeout trk slot s
  | .flushTimeout sl slot => Sys2Proof.Machine.execFlushTimeout sl slot s
  | .pmicFault c => Sys2Proof.Machine.execPmicFault c s
  | .caParityAlert c retryFailed => Sys2Proof.Machine.execCaParityAlert c retryFailed s
  | .snpInvPtReader m => Sys2Proof.Machine.execSnpInvPtReader m s
  | .poolAnswer src tag status backoff data => Sys2Proof.Machine.execPoolAnswer src tag status backoff data s
  | .dmaRetryTimer acc => Sys2Proof.Machine.execDmaRetryTimer acc s
  | .ptabWriteAck trk => Sys2Proof.Machine.execPtabWriteAck trk s
  | .tcFlush q => Sys2Proof.Machine.execTcFlush q s
  | .ddrEvacuate c force => Sys2Proof.Machine.execDdrEvacuate c force s
  | .ddrEvacuateDone c => Sys2Proof.Machine.execDdrEvacuateDone c s
  | .ddrRestore c => Sys2Proof.Machine.execDdrRestore c s
  | .ddrRestoreDone c r => Sys2Proof.Machine.execDdrRestoreDone c r s
  | .refreshDue c => Sys2Proof.Machine.execRefreshDue c s
  | .pdTimerExpire c rank => Sys2Proof.Machine.execPdTimerExpire c rank s
  | .dimmTempPoll c celsius => Sys2Proof.Machine.execDimmTempPoll c celsius s
  | .scrubTick c => Sys2Proof.Machine.execScrubTick c s
  | .ceClear c => Sys2Proof.Machine.execCeClear c s
  | .tagcWbAll q => Sys2Proof.Machine.execTagcWbAll q s
  | .tileDone k last => Sys2Proof.Machine.execTileDone k last s
  | .cmpBlockDone region block => Sys2Proof.Machine.execCmpBlockDone region block s
  | .coreFault k cause => Sys2Proof.Machine.execCoreFault k cause s
  | .kcWatchdogExpire k => Sys2Proof.Machine.execKcWatchdogExpire k s
  | .kcReset k => Sys2Proof.Machine.execKcReset k s
  | .kcClearDone k => Sys2Proof.Machine.execKcClearDone k s
  | .kcSelftestDone k pass => Sys2Proof.Machine.execKcSelftestDone k pass s
  | .mbxCmd m => Sys2Proof.Machine.execMbxCmd m s
  | .doorbell m => Sys2Proof.Machine.execDoorbell m s
  | .regRead m => Sys2Proof.Machine.execRegRead m s
  | .regWrite m => Sys2Proof.Machine.execRegWrite m s
  | .ctxCreate h => Sys2Proof.Machine.execCtxCreate h s
  | .ctxStop h => Sys2Proof.Machine.execCtxStop h s
  | .ctxStart h => Sys2Proof.Machine.execCtxStart h s
  | .ctxDestroy h => Sys2Proof.Machine.execCtxDestroy h s
  | .ctxDestroyDone handle => Sys2Proof.Machine.execCtxDestroyDone handle s
  | .segmentWrite handle n desc => Sys2Proof.Machine.execSegmentWrite handle n desc s
  | .queueCreate h args => Sys2Proof.Machine.execQueueCreate h args s
  | .queuePause h => Sys2Proof.Machine.execQueuePause h s
  | .queueResume h => Sys2Proof.Machine.execQueueResume h s
  | .queueDelete h => Sys2Proof.Machine.execQueueDelete h s
  | .progLoad h imgCa imgLen => Sys2Proof.Machine.execProgLoad h imgCa imgLen s
  | .progUnload h prog => Sys2Proof.Machine.execProgUnload h prog s
  | .taskSubmit h desc => Sys2Proof.Machine.execTaskSubmit h desc s
  | .taskCancel h tag => Sys2Proof.Machine.execTaskCancel h tag s
  | .taskQuery h tag => Sys2Proof.Machine.execTaskQuery h tag s
  | .trigRaise h tag => Sys2Proof.Machine.execTrigRaise h tag s
  | .trigRead h tag => Sys2Proof.Machine.execTrigRead h tag s
  | .regionCreate h descCa => Sys2Proof.Machine.execRegionCreate h descCa s
  | .regionQuiesce h region => Sys2Proof.Machine.execRegionQuiesce h region s
  | .regionQuiesceDone region => Sys2Proof.Machine.execRegionQuiesceDone region s
  | .regionResume h region => Sys2Proof.Machine.execRegionResume h region s
  | .regionDelete h region => Sys2Proof.Machine.execRegionDelete h region s
  | .regionDeleteDone region => Sys2Proof.Machine.execRegionDeleteDone region s
  | .regionRead h region destCa => Sys2Proof.Machine.execRegionRead h region destCa s
  | .redOpen h region arg => Sys2Proof.Machine.execRedOpen h region arg s
  | .redClose h region arg => Sys2Proof.Machine.execRedClose h region arg s
  | .redCloseTimer region => Sys2Proof.Machine.execRedCloseTimer region s
  | .redNextN h region arg => Sys2Proof.Machine.execRedNextN h region arg s
  | .srcAdvance h region arg => Sys2Proof.Machine.execSrcAdvance h region arg s
  | .matDrop h region arg => Sys2Proof.Machine.execMatDrop h region arg s
  | .recPrepare c obj op number record => Sys2Proof.Machine.execRecPrepare c obj op number record s
  | .recPrepareRetry xid => Sys2Proof.Machine.execRecPrepareRetry xid s
  | .recCommit c obj op number => Sys2Proof.Machine.execRecCommit c obj op number s
  | .recAbort c obj op number => Sys2Proof.Machine.execRecAbort c obj op number s
  | .cmdFwd c issuer block => Sys2Proof.Machine.execCmdFwd c issuer block s
  | .trigRaiseMsg c handle tag flags region gen => Sys2Proof.Machine.execTrigRaiseMsg c handle tag flags region gen s
  | .redReport c region gen shortRus flags => Sys2Proof.Machine.execRedReport c region gen shortRus flags s
  | .redCloseMsg c region gen => Sys2Proof.Machine.execRedCloseMsg c region gen s
  | .redDone c region gen nNext flags auto => Sys2Proof.Machine.execRedDone c region gen nNext flags auto s
  | .matInval c region source cgen => Sys2Proof.Machine.execMatInval c region source cgen s
  | .coordAck src hint subop status xid body => Sys2Proof.Machine.execCoordAck src hint subop status xid body s
  | .jobPrepare c => Sys2Proof.Machine.execJobPrepare c s
  | .jobCommit c applyAt => Sys2Proof.Machine.execJobCommit c applyAt s
  | .jobAbort c => Sys2Proof.Machine.execJobAbort c s
  | .jobBoundary h applyAt => Sys2Proof.Machine.execJobBoundary h applyAt s
  | .sliceClearDone sl => Sys2Proof.Machine.execSliceClearDone sl s
  | .slotRejoin h slot => Sys2Proof.Machine.execSlotRejoin h slot s
  | .slotRejoinDone t slot => Sys2Proof.Machine.execSlotRejoinDone t slot s
  | .keySet h mode envCa unwrapOk => Sys2Proof.Machine.execKeySet h mode envCa unwrapOk s
  | .keyDestroy h => Sys2Proof.Machine.execKeyDestroy h s
  | .attest h nonce destCa destLen regions => Sys2Proof.Machine.execAttest h nonce destCa destLen regions s
  | .attestReportDone sig => Sys2Proof.Machine.execAttestReportDone sig s
  | .ctrInc h counter => Sys2Proof.Machine.execCtrInc h counter s
  | .ctrSet h counter v => Sys2Proof.Machine.execCtrSet h counter v s
  | .svcWindowOpen h token sigOk => Sys2Proof.Machine.execSvcWindowOpen h token sigOk s
  | .svcWindowClose h => Sys2Proof.Machine.execSvcWindowClose h s
  | .lidClear h => Sys2Proof.Machine.execLidClear h s
  | .svnCommit h => Sys2Proof.Machine.execSvnCommit h s
  | .stackAttest h nonce destCa destLen => Sys2Proof.Machine.execStackAttest h nonce destCa destLen s
  | .cntRead h flags addrs => Sys2Proof.Machine.execCntRead h flags addrs s
  | .cntEnable h en => Sys2Proof.Machine.execCntEnable h en s
  | .evtRead h start => Sys2Proof.Machine.execEvtRead h start s
  | .watchSet h args => Sys2Proof.Machine.execWatchSet h args s
  | .watchClear h prog watch => Sys2Proof.Machine.execWatchClear h prog watch s
  | .blkPut m => Sys2Proof.Machine.execBlkPut m s
  | .blkAck m => Sys2Proof.Machine.execBlkAck m s
  | .stageCommit readable sigs => Sys2Proof.Machine.execStageCommit readable sigs s
  | .unlock sigOk => Sys2Proof.Machine.execUnlock sigOk s
  | .lidSample p => Sys2Proof.Machine.execLidSample p s
  | .lidDiscExpire p => Sys2Proof.Machine.execLidDiscExpire p s
  | .meshSample fault => Sys2Proof.Machine.execMeshSample fault s
  | .tempTamperSample outside => Sys2Proof.Machine.execTempTamperSample outside s
  | .superFrame frame => Sys2Proof.Machine.execSuperFrame frame s
  | .enumFrame frame => Sys2Proof.Machine.execEnumFrame frame s
  | .headClaimFrame frame => Sys2Proof.Machine.execHeadClaimFrame frame s
  | .spnAlarmSet bits => Sys2Proof.Machine.execSpnAlarmSet bits s
  | .heartbeat path hb => Sys2Proof.Machine.execHeartbeat path hb s
  | .takeoverStageDone ok => Sys2Proof.Machine.execTakeoverStageDone ok s
  | .epochAnnounce m => Sys2Proof.Machine.execEpochAnnounce m s
  | .epochAck m => Sys2Proof.Machine.execEpochAck m s
  | .epochAnnounceRetry watcher => Sys2Proof.Machine.execEpochAnnounceRetry watcher s
  | .handoverGo m => Sys2Proof.Machine.execHandoverGo m s
  | .chkCfgWrite u value => Sys2Proof.Machine.execChkCfgWrite u value s
  | .chkDataWrite u bytes value => Sys2Proof.Machine.execChkDataWrite u bytes value s
  | .chkValueWrite u value => Sys2Proof.Machine.execChkValueWrite u value s
  | .leaseRequest bucket q => Sys2Proof.Machine.execLeaseRequest bucket q s
  | .leaseGrant bucket q => Sys2Proof.Machine.execLeaseGrant bucket q s
  | .leaseIdleExpire bucket q => Sys2Proof.Machine.execLeaseIdleExpire bucket q s
  | .i3cPrivateWrite addr value => Sys2Proof.Machine.execI3cPrivateWrite addr value s
  | .latchedPairRead addr => Sys2Proof.Machine.execLatchedPairRead addr s
  | .registerWrite addr value => Sys2Proof.Machine.execRegisterWrite addr value s
  | .quarterDrainTimeout q => Sys2Proof.Machine.execQuarterDrainTimeout q s
  | .undefinedReqOpcode opcode r => Sys2Proof.Machine.execUndefinedReqOpcode opcode r s
  | .undefinedMgtOpcode opcode m => Sys2Proof.Machine.execUndefinedMgtOpcode opcode m s
  | .reservedFtypeFlit l f => Sys2Proof.Machine.execReservedFtypeFlit l f s
  | .stackMapUpdate m => Sys2Proof.Machine.execStackMapUpdate m s
  | .stackAttestMemberTimeout position => Sys2Proof.Machine.execStackAttestMemberTimeout position s
  | .genDoneResend region member => Sys2Proof.Machine.execGenDoneResend region member s
  | .jtagTapAccess op => Sys2Proof.Machine.execJtagTapAccess op s
  | .rootPllLock => Sys2Proof.Machine.execRootPllLock s
  | .coreWave => Sys2Proof.Machine.execCoreWave s
  | .warmRstNFall => Sys2Proof.Machine.execWarmRstNFall s
  | .warmReset => Sys2Proof.Machine.execWarmReset s
  | .warmDrainDone => Sys2Proof.Machine.execWarmDrainDone s
  | .warmDrainTimeout => Sys2Proof.Machine.execWarmDrainTimeout s
  | .sourceFail => Sys2Proof.Machine.execSourceFail s
  | .mainRailLoss => Sys2Proof.Machine.execMainRailLoss s
  | .pwrfailNFall => Sys2Proof.Machine.execPwrfailNFall s
  | .pfRestartTimeout => Sys2Proof.Machine.execPfRestartTimeout s
  | .capStep => Sys2Proof.Machine.execCapStep s
  | .idleTimerExpire => Sys2Proof.Machine.execIdleTimerExpire s
  | .dozeTimerExpire => Sys2Proof.Machine.execDozeTimerExpire s
  | .timeSyncPeriod => Sys2Proof.Machine.execTimeSyncPeriod s
  | .holdoverEntry => Sys2Proof.Machine.execHoldoverEntry s
  | .holdoverExpire => Sys2Proof.Machine.execHoldoverExpire s
  | .rtcSecond => Sys2Proof.Machine.execRtcSecond s
  | .calCommit => Sys2Proof.Machine.execCalCommit s
  | .journalSpaceReclaimed => Sys2Proof.Machine.execJournalSpaceReclaimed s
  | .checkpointInterval => Sys2Proof.Machine.execCheckpointInterval s
  | .checkpointVerified => Sys2Proof.Machine.execCheckpointVerified s
  | .gcStart => Sys2Proof.Machine.execGcStart s
  | .carOwnHoldExpire => Sys2Proof.Machine.execCarOwnHoldExpire s
  | .remirrorDone => Sys2Proof.Machine.execRemirrorDone s
  | .schedStep => Sys2Proof.Machine.execSchedStep s
  | .mbxGo => Sys2Proof.Machine.execMbxGo s
  | .jobApply => Sys2Proof.Machine.execJobApply s
  | .svcWindowStart => Sys2Proof.Machine.execSvcWindowStart s
  | .svcWindowEnd => Sys2Proof.Machine.execSvcWindowEnd s
  | .pairYield => Sys2Proof.Machine.execPairYield s
  | .stageBegin => Sys2Proof.Machine.execStageBegin s
  | .putWin => Sys2Proof.Machine.execPutWin s
  | .ownerClaim => Sys2Proof.Machine.execOwnerClaim s
  | .snap => Sys2Proof.Machine.execSnap s
  | .cntClear => Sys2Proof.Machine.execCntClear s
  | .shvShave => Sys2Proof.Machine.execShvShave s
  | .shvRelease => Sys2Proof.Machine.execShvRelease s
  | .shvExport => Sys2Proof.Machine.execShvExport s
  | .shvExportDone => Sys2Proof.Machine.execShvExportDone s
  | .challenge => Sys2Proof.Machine.execChallenge s
  | .dbgNonceExpire => Sys2Proof.Machine.execDbgNonceExpire s
  | .vaultReset => Sys2Proof.Machine.execVaultReset s
  | .supplyGlitch => Sys2Proof.Machine.execSupplyGlitch s
  | .clockGlitch => Sys2Proof.Machine.execClockGlitch s
  | .superFramePeriod => Sys2Proof.Machine.execSuperFramePeriod s
  | .enumRepeat => Sys2Proof.Machine.execEnumRepeat s
  | .chainBroken => Sys2Proof.Machine.execChainBroken s
  | .originTimeout => Sys2Proof.Machine.execOriginTimeout s
  | .headstockAbsent => Sys2Proof.Machine.execHeadstockAbsent s
  | .headClaimRepeat => Sys2Proof.Machine.execHeadClaimRepeat s
  | .headClaimWin => Sys2Proof.Machine.execHeadClaimWin s
  | .heartbeatSend => Sys2Proof.Machine.execHeartbeatSend s
  | .hbSlotEnd => Sys2Proof.Machine.execHbSlotEnd s
  | .partnerWaitTimeout => Sys2Proof.Machine.execPartnerWaitTimeout s
  | .recoveryWindowClose => Sys2Proof.Machine.execRecoveryWindowClose s
  | .handoverStart => Sys2Proof.Machine.execHandoverStart s
  | .handoverStageDone => Sys2Proof.Machine.execHandoverStageDone s
  | .tgEntryBoundary => Sys2Proof.Machine.execTgEntryBoundary s
  | .pendingPlateStart => Sys2Proof.Machine.execPendingPlateStart s
  | .evtRateSecond => Sys2Proof.Machine.execEvtRateSecond s
  | .traceTimeTick => Sys2Proof.Machine.execTraceTimeTick s
  | .i3cPrivateRead => Sys2Proof.Machine.execI3cPrivateRead s
  | .sleepEntryDone => Sys2Proof.Machine.execSleepEntryDone s

end Sys2Proof.Machine
end

