-- ==== Sys2Proof/WellFormed.lean ====
section
/-! DEFINITION. Which operands a command can have on this hardware: the lengths and ranges that the spec gives what arrives. The
meanings are total all the same; a test names, for each check, a command that the check refuses. -/

namespace Sys2Proof

/-- A coherence message's header and payload never exceed 224 bytes (R147). -/
def ReqMsg.wf (r : ReqMsg) : Bool := r.payload.length ≤ 192
def HostMsg.wf (m : HostMsg) : Bool := m.payload.length ≤ 192

/-- An MGT message is at most 3,584 bytes, its header of 32 among them (R308). -/
def MgtMsg.wf (m : MgtMsg) : Bool := m.payload.length ≤ 3552

/-- MESSAGE of a flit (R291). -/
def Flit.wf (f : Flit) : Bool := f.msg.length ≤ 224

/-- QUEUE names queues 0 to 7 (R264). -/
def CmdHdr.wf (h : CmdHdr) : Bool := h.queue.toNat ≤ 7

/-- A CONFIG flit gives six depths, of 16 bits (R306). -/
def PeerConfig.wf (p : PeerConfig) : Bool := p.depths.length = 6 && p.depths.all fun n => n < 65536

/-- A carrier descriptor is 256 bytes (R109), and a carrier has four channels (R108). -/
def CarrierReport.wf (r : CarrierReport) : Bool := r.desc.length = 256 && r.speeds.length = 4 && r.speeds.all fun n => n ≤ 2

/-- There are two copies of the blank (R400). -/
def StepReport.wf (r : StepReport) : Bool := r.sigs.all fun x => x.1 ≤ 1

/-- Training has eight steps (R76). -/
def TrainReport.wf (r : TrainReport) : Bool := r.fail3200 ≤ 8 && r.fail6400 ≤ 8 && r.fail12800 ≤ 8

/-- The ladder of R127 has four stages; 5 says that none succeeded. -/
def PageRead.wf (r : PageRead) : Bool := 1 ≤ r.stage && r.stage ≤ 5

/-- Is the command one that can arrive? A record is at most a context's 516 bytes (R381), a command block 16 to 192 (R264); the longest body of an
acknowledgement is a member's report behind its reply block and length (R366, R382, log entry 47). -/
def Instr.wf (i : Instr) : Bool :=
  match i with
  | .startupStepDone r => r.wf
  | .ddrTrainDone _ r => r.wf
  | .carrierDiscoveryDone _ r => r.wf
  | .timeSync m => m.wf
  | .timeDreq m => m.wf
  | .timeDresp m => m.wf
  | .configFlit _ p => p.wf
  | .nullFlit _ f => f.wf
  | .msgFlit _ f => f.wf
  | .creditFlit _ f => f.wf
  | .abortFlit _ f => f.wf
  | .keyxFlit _ f => f.wf
  | .retrainDone _ p => p.wf
  | .rdOnce r => r.wf
  | .rdShared r => r.wf
  | .rdOwn r => r.wf
  | .upgrade r => r.wf
  | .wrLine r => r.wf
  | .wrPart r => r.wf
  | .atomic r => r.wf
  | .redAdd r => r.wf
  | .redRead r => r.wf
  | .lineLockGranted line => line < 2 ^ 41
  | .flashReadDone _ r => r.wf
  | .denseVerifyDone _ _ _ _ worstBits => worstBits.length = 8
  | .retentionScan _ _ r => r.wf
  | .invAck m => m.wf
  | .shrAck m => m.wf
  | .datSnp m => m.wf
  | .flushAck m => m.wf
  | .wbDirty m => m.wf
  | .wbClean m => m.wf
  | .snoopTimeout trk _ => trk < 16384
  | .snpInvPtReader m => m.wf
  | .poolAnswer _ _ _ _ data => data.length ≤ 192
  | .ptabWriteAck trk => trk < 16384
  | .ddrRestoreDone _ r => r.wf
  | .cmpBlockDone _ block => block < 2 ^ 34
  | .coreFault _ cause => 1 ≤ cause.toNat && cause.toNat ≤ 8
  | .mbxCmd m => m.wf
  | .doorbell m => m.wf
  | .regRead m => m.wf
  | .regWrite m => m.wf
  | .ctxCreate h => h.wf
  | .ctxStop h => h.wf
  | .ctxStart h => h.wf
  | .ctxDestroy h => h.wf
  | .segmentWrite _ _ desc => desc.length = 32
  | .queueCreate h args => h.wf && (args.length = 8 || args.length = 40)
  | .queuePause h => h.wf
  | .queueResume h => h.wf
  | .queueDelete h => h.wf
  | .progLoad h _ _ => h.wf
  | .progUnload h _ => h.wf
  | .taskSubmit h desc => h.wf && desc.length = 128
  | .taskCancel h _ => h.wf
  | .taskQuery h _ => h.wf
  | .trigRaise h _ => h.wf
  | .trigRead h _ => h.wf
  | .regionCreate h _ => h.wf
  | .regionQuiesce h _ => h.wf
  | .regionResume h _ => h.wf
  | .regionDelete h _ => h.wf
  | .regionRead h _ _ => h.wf
  | .redOpen h _ _ => h.wf
  | .redClose h _ _ => h.wf
  | .redNextN h _ _ => h.wf
  | .srcAdvance h _ _ => h.wf
  | .matDrop h _ _ => h.wf
  | .recPrepare _ _ _ _ record => record.length ≤ 516
  | .cmdFwd _ _ block => 16 ≤ block.length && block.length ≤ 192
  | .coordAck _ _ _ _ _ body => body.length ≤ 13060
  | .jobBoundary h _ => h.wf
  | .slotRejoin h _ => h.wf
  | .keySet h _ _ _ => h.wf
  | .keyDestroy h => h.wf
  | .attest h nonce _ _ regions => h.wf && nonce.length = 32 && regions.length ≤ 8
  | .attestReportDone sig => sig.length = 96
  | .ctrInc h _ => h.wf
  | .ctrSet h _ _ => h.wf
  | .svcWindowOpen h token _ => h.wf && token.length = 128
  | .svcWindowClose h => h.wf
  | .lidClear h => h.wf
  | .svnCommit h => h.wf
  | .stackAttest h nonce _ _ => h.wf && nonce.length = 32
  | .cntRead h _ addrs => h.wf && 1 ≤ addrs.length && addrs.length ≤ 21
  | .cntEnable h _ => h.wf
  | .evtRead h _ => h.wf
  | .watchSet h args => h.wf && args.length = 28
  | .watchClear h _ _ => h.wf
  | .blkPut m => m.wf
  | .blkAck m => m.wf
  | .stageCommit _ sigs => sigs.all fun x => x.1 ≤ 1
  | .superFrame frame => frame.length = 528
  | .enumFrame frame => frame.length = 16
  | .headClaimFrame frame => frame.length = 16
  | .heartbeat _ hb => hb.length = 16
  | .epochAnnounce m => m.wf
  | .epochAck m => m.wf
  | .handoverGo m => m.wf
  | .leaseRequest bucket _ => bucket < 4128
  | .leaseGrant bucket _ => bucket < 4128
  | .leaseIdleExpire bucket _ => bucket < 4128
  | .undefinedReqOpcode _ r => r.wf
  | .undefinedMgtOpcode _ m => m.wf
  | .reservedFtypeFlit _ f => f.wf
  | .stackMapUpdate m => m.wf
  | .powerOnReset _ _ _ | .oscStable _ | .suCmdRun _ | .suCmdRetry _ | .quarterReset _ | .quarterDrainDone _ | .qwdogExpire _
    | .pfSequenceDone _ _ | .tempReport _ | .powerMeasure _ | .clockRampStep _ | .eclkReqWrite _ | .setState _
    | .ptpMessage _ _ _ | .laneSignalDetect _ | .linkTrainDone _ _ | .linkTrainTimeout _ | .configTimeout _ | .authFlit _ _
    | .authTimeout _ | .replayTimeout _ | .ackCoalesceTimer _ | .creditTimer _ | .linkRekey _ | .rekeyTimeout _
    | .laneLockLoss _ _ | .laneLockRegain _ _ | .linkDownTimer _ | .retrainTimeout _ | .linkHoldoffExpire _ | .linkDisable _
    | .linkDisableDone _ | .linkEnable _ | .linkRetrain _ _ _ | .stallTimeout _ _ | .victimWayFree _ | .victimLimitRelease _
    | .journalGroupExpire _ _ | .journalProgramDone _ _ _ _ _ | .denseStripeTimeout _ _ | .flashEraseDone _ _ _
    | .wearLevelCheck _ | .carPrsntFall _ | .carPrsntRise _ | .carOwnFall _ | .carOwnRise _ | .carOffline _ _
    | .carOfflineDone _ | .carAttach _ | .rebuildDone _ | .flushTimeout _ _ | .pmicFault _ | .caParityAlert _ _
    | .dmaRetryTimer _ | .tcFlush _ | .ddrEvacuate _ _ | .ddrEvacuateDone _ | .ddrRestore _ | .refreshDue _ | .pdTimerExpire _ _
    | .dimmTempPoll _ _ | .scrubTick _ | .ceClear _ | .tagcWbAll _ | .tileDone _ _ | .kcWatchdogExpire _ | .kcReset _
    | .kcClearDone _ | .kcSelftestDone _ _ | .ctxDestroyDone _ | .regionQuiesceDone _ | .regionDeleteDone _ | .redCloseTimer _
    | .recPrepareRetry _ | .recCommit _ _ _ _ | .recAbort _ _ _ _ | .trigRaiseMsg _ _ _ _ _ _ | .redReport _ _ _ _ _
    | .redCloseMsg _ _ _ | .redDone _ _ _ _ _ _ | .matInval _ _ _ _ | .jobPrepare _ | .jobCommit _ _ | .jobAbort _
    | .sliceClearDone _ | .slotRejoinDone _ _ | .unlock _ | .lidSample _ | .lidDiscExpire _ | .meshSample _
    | .tempTamperSample _ | .spnAlarmSet _ | .takeoverStageDone _ | .epochAnnounceRetry _ | .chkCfgWrite _ _
    | .chkDataWrite _ _ _ | .chkValueWrite _ _ | .i3cPrivateWrite _ _ | .latchedPairRead _ | .registerWrite _ _
    | .quarterDrainTimeout _ | .stackAttestMemberTimeout _ | .genDoneResend _ _ | .jtagTapAccess _ | .rootPllLock | .coreWave
    | .warmRstNFall | .warmReset | .warmDrainDone | .warmDrainTimeout | .sourceFail | .mainRailLoss | .pwrfailNFall
    | .pfRestartTimeout | .capStep | .idleTimerExpire | .dozeTimerExpire | .timeSyncPeriod | .holdoverEntry | .holdoverExpire
    | .rtcSecond | .calCommit | .journalSpaceReclaimed | .checkpointInterval | .checkpointVerified | .gcStart
    | .carOwnHoldExpire | .remirrorDone | .schedStep | .mbxGo | .jobApply | .svcWindowStart | .svcWindowEnd | .pairYield
    | .stageBegin | .putWin | .ownerClaim | .snap | .cntClear | .shvShave | .shvRelease | .shvExport | .shvExportDone
    | .challenge | .dbgNonceExpire | .vaultReset | .supplyGlitch | .clockGlitch | .superFramePeriod | .enumRepeat | .chainBroken
    | .originTimeout | .headstockAbsent | .headClaimRepeat | .headClaimWin | .heartbeatSend | .hbSlotEnd | .partnerWaitTimeout
    | .recoveryWindowClose | .handoverStart | .handoverStageDone | .tgEntryBoundary | .pendingPlateStart | .evtRateSecond
    | .traceTimeTick | .i3cPrivateRead | .sleepEntryDone => true

end Sys2Proof
end

