-- ==== Sys2Proof/Safety.lean ====
section
/-! DEFINITION. The terms in which claims are stated: what a command answers, what the device sends, when nothing waits, what
every step keeps, and runs. -/

namespace Sys2Proof.Machine

/-- The command answers a next state of which `P` holds. -/
def Answers (c : Instr) (s : State) (P : State → Prop) : Prop := ∃ t, exec c s = .next t ∧ P t

/-- Nothing of the memory side waits to go on: no request, translation or fill is under way, no answer waits to go, and no cache or
directory is changing its size or being emptied. -/
def State.Still (s : State) : Prop :=
  s.pool.trks = [] ∧ s.pool.xwaits = [] ∧ s.pool.fills = [] ∧ s.pool.pend = [] ∧
    (indices 16).all (fun c => !s.resizing c && !s.emptying c) = true

/-- Nothing waits to go on: no request, access, command, task, ring, computed block, report, transaction or message to the device itself
is under way, no generation is closing, and no cache or directory is changing its size. -/
def State.Idle (s : State) : Prop :=
  s.Still ∧ s.coord.loop = [] ∧ s.coord.recTx = [] ∧ s.work.cmds = [] ∧ s.work.tasks = [] ∧ s.work.queues = [] ∧ s.work.comps = [] ∧
    s.work.report = none ∧ s.job.head = none ∧ s.pair.role ≠ 6 ∧ s.rgn.tab.all (fun e => e.2.gen.phase = 0 && e.2.gen.st ≠ 9) = true

/-- The command answers a next state: its own effect leads to a state of which `P` holds, and what waited for that goes on from there
(`pump`); where nothing waits, that state itself, its lands settled, is the next state. -/
def Completes (c : Instr) (s : State) (P : State → Prop) : Prop :=
  ∃ u, P u ∧ exec c s = .next (settle (pump u)) ∧ (u.Idle → exec c s = .next (settle u))

/-- The message has been sent. -/
def State.Sent (s : State) (m : Msg) : Prop := ∃ p, Out.msg p m ∈ s.out

/-- The command block has been answered where its issuer reads the answer (R264, R286, R381, R200, R163, R368). -/
def State.Replied (s : State) (h : CmdHdr) (cmd : Nat) (status : Byte) (code : Nat) (res : Bytes) : Prop :=
  match h.iss with
  | .bmc => s.reg .MBX_STAT = w32 (code % 16 * 256 + status.toNat) ∧
      ∀ i < 48, s.reg .MBX_OUT i = w32 (leAt (replyBlock cmd h.seq status code res) (4 * i) 4)
  | .ep a => ∃ p tag hint, Out.msg p { cls := .mgt, op := 2, dst := a, src := s.myId, tag := tag, status := status, hint := hint,
                                       payload := replyBlock cmd h.seq status code res } ∈ s.out
  | .fwd dev xid _ => ⟨dev, xid, 4, status, replyBlock cmd h.seq status code res⟩ ∈ s.coord.acked
  | .rgnCmd _ => ∀ q < 4, s.reg .RGN_CMD_RESULT q = w32 (code % 16 * 256 + status.toNat)
  | .slotCmd q => s.reg .SLOT_CMD_RESULT q = w32 (code % 16 * 256 + status.toNat)
  | .hwdCmd => s.reg .HWD_CMD_RESULT = w32 (code % 16 * 256 + status.toNat)

/-- The output lands hold the levels that the rest of the state calls for (R470, R472). -/
def State.Settled (s : State) : Prop := s.lands = s.landLevels

/-- A coordination message (R381) has gone to a device, or waits for this device itself to take it. -/
def State.Told (s : State) (d : W16) (ack : Option Nat) (b : Bytes) : Prop :=
  if s.isMe d.toNat then (ack, b) ∈ s.coord.loop
  else s.Sent { cls := .mgt, op := if ack.isSome then 0x1A else 0x19, dst := d, src := s.myId, tag := 0, hint := ack.getD 0, payload := b }

/-- A coordination message has been acknowledged with this status. -/
def State.Acked (s : State) (c : Coord) (subop : Nat) (status : Byte) : Prop :=
  ∃ body, (⟨c.src, c.xid, subop, status, body⟩ : CoordAcked) ∈ s.coord.acked

/-- From `s` to `u`, the headstock has begun a record change for a command: PREPARE has gone to every active device, and no record, and no
byte of memory, has changed (R379). -/
def Begun (s u : State) (obj op number : Nat) (body : Bytes) (h : CmdHdr) : Prop :=
  (∃ x ∈ u.coord.recTx, x.phase = 0 ∧ x.obj = obj ∧ x.op = op ∧ x.number = number ∧ x.body = body ∧ x.h = h ∧
    x.waits.map Prod.fst = s.activeIds ∧
    ∀ w ∈ x.waits, u.Told w.1 none ([1, 0, 0, 0] ++ toLe 4 w.2.1.toNat ++ objBody obj op number body)) ∧
  u.rgn = s.rgn ∧ u.ctx = s.ctx ∧ u.mem = s.mem

/-- From `s` to `t`, a detected tamper source has erased the vault and the hub has started anew (R341, R354, R355, R425): its bit and the ERASED bit
are set, every key is gone, LIVE slots are LOST, and a new seed has been drawn. -/
def Erased (s t : State) (b : Nat) : Prop :=
  t.hw.tamper = s.hw.tamper ||| byte (2 ^ b) ||| 0x80 ∧ t.hw.eraseCnt = s.hw.eraseCnt + 1 ∧ t.hw.kakEpoch = s.hw.kakEpoch + 1 ∧ t.hw.seed ≠ none ∧
  (∀ i : TenantId, t.hw.eph[i] = none ∧ t.key i = ⟨if (s.key i).st = 1 then 2 else (s.key i).st, (s.key i).gen, 0⟩) ∧
  t.mem = [] ∧ t.links = State.reset.links

/-- The first of R296's checks on a CONFIG flit that fails, as a cause of LNK_STAT; 0 where every check passes. -/
def State.configCause (s : State) (l : LinkId) (p : PeerConfig) : Nat :=
  let dir := s.expectDir l
  let ex := s.expectId l
  let kindOk : Bool :=
    (dir = 1 && !p.isHost && s.rank < p.rank.toNat) || (dir = 2 && !p.isHost && p.rank.toNat < s.rank) || (dir = 3 && p.isHost)
  if !kindOk then 0xA
  else if dir ≠ 3 ∧ (if ex = 0xFFFF then 0x20 ≤ p.peerId.toNat % 64 else ex ≠ p.peerId.toNat) then 0x9
  else if dir = 3 ∧ !s.eptHas l.val p.peerId.toNat then 0xD
  else if dir = 3 ∧ ex ≠ 0xFFFF ∧ ex ≠ p.peerId.toNat then 0x9
  else if ¬(1 ≤ (s.link l).trainRate ∧ (s.link l).trainRate ≤ s.maxRate l ∧ p.rates.toNat.testBit ((s.link l).trainRate - 1) = true) ∨
      bestWidth p.widths.toNat (s.maxWidth l) (s.link l).laneOk = 0 then 0xB
  else 0

/-- Heartwood has watched without a gap, holds a seed, and no ERASE waits to show (R341, R350, R355). -/
def State.Intact (s : State) : Prop := s.hw.cont = contWord s.hw.epoch ∧ s.hw.erasePending = false ∧ s.hw.seed ≠ none

/-- From `s` to `t`, the hub has started with a cause (R425, R430, R455): one START entry, start-up at step 1, registers at their Reset values,
DRAM and ephemeral keys gone, and what stands in NV, on the carriers and in the configuration flash kept. -/
def Started (s t : State) (cause : Byte) : Prop :=
  (∃ e, t.plog.ring = e :: s.plog.ring.take 63 ∧ e.kind = 1 ∧ e.detail = cause) ∧ t.plog.head = s.plog.head + 1 ∧
  t.su = { State.reset.su with hosted := t.pin.hosted } ∧ t.regs = [] ∧ t.mem = [] ∧ t.links = State.reset.links ∧ t.chans = State.reset.chans ∧
  t.pool = State.reset.pool ∧ t.tier = s.tier.kept ∧ t.hw.keys = s.hw.keys ∧ t.hw.ctr = s.hw.ctr ∧ (∀ i : TenantId, t.hw.eph[i] = none) ∧
  t.blank.a = s.blank.a ∧ t.blank.b = s.blank.b

/-- The requests, with their opcodes (R147). -/
def requestOps (r : ReqMsg) : List (Instr × Nat) :=
  [(.rdOnce r, 1), (.rdShared r, 2), (.rdOwn r, 3), (.upgrade r, 4), (.wrLine r, 5), (.wrPart r, 6), (.atomic r, 7), (.redAdd r, 0x10), (.redRead r, 0x11)]

/-- A block of a tenant stands in DRAM where a request for it is served: pinned or in a way, its channel ONLINE, and not in the staging buffer. -/
def State.InPlace (s : State) (t : TenantId) (sl b : Nat) : Prop :=
  s.chanSt sl = 2 ∧ s.inBypass sl b = false ∧
    (s.pinned sl b = true ∨ (wayOf (s.tagSet sl (s.setIndex sl (s.sliceList t).length b)) b).isSome = true)

/-- A request for this device is taken at its ingress: it passes steps 2 to 4 of R31; `e` is its source's host-table entry, `a` the state with
the tokens taken. -/
def Enters (op : Nat) (r : ReqMsg) (s a : State) (e : Nat × Bytes) : Prop :=
  s.edgeOk r.link r.src = true ∧ s.isMe r.dst.toNat = true ∧ s.closedHint = none ∧ s.serving = true ∧ (s.pair.role = 5 → r.dst ≠ s.myAlias) ∧
    r.fwd = false ∧ s.hostEntry r.src = some e ∧ s.leaseNeeds e.1 (s.rfld .HOST_CFG e.1 18 16) r.link (s.countedLen op r) = [] ∧
    decideAdm e.1 (s.rfld .HOST_CFG e.1 18 16) r.link (s.countedLen op r) s = (.pass, a)

/-- Bytes an operation touches at its address. -/
def reqBytes (op : Nat) (r : ReqMsg) : Nat :=
  if op = 5 ∨ op = 2 ∨ op = 3 ∨ op = 4 then 128 else if op = 7 then atomSize r.len.toNat else if op = 0x10 then 256 else r.len.toNat + 1

/-- A request has passed steps 2 to 7 of R31 too: its line is that at `dpa` of member `m` of region `n`; `v` is the state there, `slot` the
requester's sharer slot. -/
def Located (op : Nat) (r : ReqMsg) (s v : State) (e : Nat × Bytes) (n : Nat) (g : Region) (m dpa : Nat) : Prop :=
  formCheck op r = none ∧ ∃ (a : State) (c : Ctx) (q pt : Nat),
    Enters op r s a e ∧ a.liveCtx r.handle = some c ∧ a.homeOf r.handle = some q ∧
    xlate q r.handle c op r.addr.toNat (reqBytes op r) r.nr r.fwd (tenantOfHost e.2) (slotOf e.2).isSome a = (.ok n g m dpa pt, v)

/-- A request reaches its line home, which is here, and finds a tracker (R31 steps 8 and 9, R23, R161, R329). -/
def Reaches (op : Nat) (r : ReqMsg) (s v : State) (e : Nat × Bytes) (n : Nat) (g : Region) (m dpa : Nat) : Prop :=
  Located op r s v e n g m dpa ∧ v.isMe (g.memberId m) = true ∧ v.quarterShut (v.blockHome g m (dpa / 16384) / 4) = false ∧
    v.mayTrack (v.blockHome g m (dpa / 16384) / 4) (.host e.1) = true ∧ (g.kind = 1 → v.pair.window = none) ∧
    (g.kind = 1 → ∀ x : Nat, slotOf e.2 = some x → v.slotSt g.tenant x ≠ 1)

/-- An answer goes, with some load level (R330). -/
def State.Ans (s : State) (m : Msg) : Prop := ∃ l : Nat, s.Sent { m with load := l }

/-- As `Still`, but channel `c` may be on its way from one size, or out of service, to another. -/
def State.StillBut (s : State) (c : ChanId) : Prop :=
  s.pool.trks = [] ∧ s.pool.xwaits = [] ∧ s.pool.fills = [] ∧ s.pool.pend = [] ∧ ∀ i : ChanId, i ≠ c → s.resizing i = false ∧ s.emptying i = false

/-- What training leaves of a channel whose configuration R74 allows and whose kind is the device's (R75, R76). -/
def Trained (r : TrainReport) (k : ChanSt) : Prop :=
  let f (n : Nat) : Prop := k.st = 5 ∧ k.failStep = n ∧ k.speed = 0
  let ok (v : Nat) : Prop := k.st = 2 ∧ k.speed = v ∧ k.ranks = r.dimms * r.ranksPerDimm ∧ k.gib = r.dimms * r.gibPerDimm ∧ k.failStep = 0 ∧ k.degraded = false
  match r.kind with
  | .mrdimm => if r.fail12800 = 0 then ok 3 else f r.fail12800
  | .rdimm | .none => if r.fail6400 = 0 then ok 2 else if r.fail3200 = 0 then ok 1 else f r.fail3200

/-- Every step keeps `P`. -/
def StepKeeps (P : State → Prop) : Prop := ∀ s t, step s = .next t → P s → P t

/-- The state after the commands, each taken by one step from an empty queue; none if a step answers no next state. -/
def run : List Instr → State → Option State
  | [], s => some s
  | c :: r, s =>
    match step { s with pending := [c] } with
    | .next t => run r t
    | .fault _ | .refused _ => none

end Sys2Proof.Machine
end

