-- ==== Sys2Proof/Certificates/Slice0/Obligations.lean ====
section
/-! DEFINITION. The statements for the provers, in the order of the specification's files. A hypothesis names the state a rule speaks of; `Answers` and
`Completes` say that the command answers a next state. -/

open Sys2Proof Sys2Proof.Machine

/-! ### The block: its queue, its reset, its steps (R424, R470, R472, R476; log entry 5) -/

/-- A step takes the command at the front of the queue and is that command on the queue's rest; on an empty queue one cycle of NCLK passes, and nothing but time and the
lands that follow it changes (log entry 5). -/
def Obligations.StepTakesTheFront : Prop :=
  (∀ (c : Instr) (s : State), step { s with pending := c :: s.pending } = exec c s) ∧
  ∀ s : State, s.pending = [] → ∃ t, step s = .next t ∧ s.time.nclk < t.time.nclk ∧ t = { s with time := t.time, lands := t.lands }

/-- R65, R76, R135, R163, R270, R284, R295, R340, R365, R384, R410, R424, R470: after reset nothing waits, the lands are quiet, links are in RESET,
channels and carriers ABSENT, slices UNASSIGNED, cores OFF, keys EMPTY, the pair STARTING; start-up step 1 runs, no region, context, task or entry stands, and the memory
lists nothing. -/
def Obligations.ResetState : Prop :=
  State.reset.pending = [] ∧ State.reset.Settled ∧ State.reset.mem = [] ∧ State.reset.rgn.tab = [] ∧ State.reset.ctx.tab = [] ∧ State.reset.work.tasks = [] ∧
  State.reset.log.ring = [] ∧ State.reset.plog.ring = [] ∧ State.reset.su.running = [1] ∧ State.reset.su.doneSteps = [] ∧ State.reset.pair.role = 0 ∧
  State.reset.spn.state = 0 ∧ State.reset.spn.pos = 0x3F ∧ State.reset.blank.inUse = false ∧
  (∀ l : LinkId, (State.reset.link l).st = 9) ∧ (∀ c : ChanId, (State.reset.chan c).st = 0) ∧ (∀ c : CarrierId, (State.reset.car c).st = 0) ∧
  (∀ i : SliceId, (State.reset.slice i).st = 0) ∧ (∀ q : Quarter, (State.reset.quart q).st = 0) ∧ (∀ k : CoreId, (State.reset.coreSt k).st = 0) ∧
  (∀ t : TenantId, (State.reset.key t).st = 0) ∧ State.reset.lands.txIdle = 0xFFFFFF ∧ State.reset.lands.ddrResetN = 0 ∧ State.reset.lands.ddrPwrEn = 0 ∧
  State.reset.lands.carPwrEn = 0 ∧ State.reset.lands.pairSeizeN = true ∧ State.reset.lands.thermtripN = true ∧ State.reset.lands.chainBypass = true

/-- R424, R470, R472: in every state every command answers a next state, in which every output land holds the level that the rest of the state calls for; so every step keeps
the lands at those levels, and no command waits for ever at the front of the queue. -/
def Obligations.EveryStepSettlesTheLands : Prop :=
  (∀ (c : Instr) (s : State), ∃ t, exec c s = .next t ∧ t.Settled) ∧ StepKeeps State.Settled

/-! ### Context and region records (02, 13: R44, R45, R49, R63, R66, R379, R488) -/

/-- R44, R45, R66, R379: a command of a tenant's administrator that changes a record begins a transaction at the headstock: PREPARE with the
record goes to every active device, and no record changes yet. -/
def Obligations.RecordChangesBeginWithPrepare : Prop :=
  ∀ (s : State) (h : CmdHdr) (t : TenantId), s.su.held = false → s.classOf h.iss = .ta t → s.head.head = true → s.pairGap = false →
    (∀ i : Nat, s.freeCtx = some i → Completes (.ctxCreate h) s fun u =>
      Begun s u 0 0 (s.ctx.incs.get 0 i * 4096 + i) (ctxRecord ⟨1, t, List.replicate 16 (zeros 32), [], none⟩) h) ∧
    (∀ c : Ctx, s.liveCtx h.handle = some c → c.tenant = t → (c.st = 1 ∨ c.st = 2) → Completes (.ctxDestroy h) s fun u =>
      Begun s u 0 1 h.handle.toNat [] h) ∧
    (∀ (n : W16) (g : Region), s.region n.toNat = some g → g.tenant = t →
      (g.st = 1 → Completes (.regionQuiesce h n) s fun u => Begun s u 1 0 n.toNat (regionRecord 2 g.desc) h) ∧
      (g.st = 2 → Completes (.regionResume h n) s fun u => Begun s u 1 0 n.toNat (regionRecord 1 g.desc) h) ∧
      ((g.st = 2 ∨ g.st = 4) → (g.ptab = true → s.ptInUse g = false) → s.dependents n.toNat = [] →
        Completes (.regionDelete h n) s fun u => Begun s u 1 1 n.toNat (regionRecord 3 g.desc) h))

/-- R379, R381, R44, R45: a device of the stack prepares a record, commits it or drops it, and acknowledges each. -/
def Obligations.MembersPrepareCommitAbort : Prop :=
  ∀ (s : State) (c : Coord) (number : W16), s.su.held = false → s.isDevice c.src = true → s.closedHint = none →
    (∀ a ∈ s.coord.acked, ¬(a.src = c.src ∧ a.xid = c.xid)) → (c.src, c.xid) ∉ s.coord.fwdOpen →
    (∀ (rec_ : Bytes) (b l : Nat), s.region number.toNat = none →
      (s.dropPend 1 number.toNat).placeRegion (regionOf (cut rec_ 4 320) 0 0) = .at_ b l →
      Completes (.recPrepare c 1 0 number rec_) s fun u =>
        ⟨c.xid, 1, 0, number.toNat, padTo 324 rec_ ++ toLe 8 b ++ toLe 8 l⟩ ∈ u.coord.pend ∧ u.Acked c 1 0 ∧ u.rgn = s.rgn ∧ u.mem = s.mem) ∧
    (∀ rec_ : Bytes, Completes (.recPrepare c 0 0 number rec_) s fun u =>
      ⟨c.xid, 0, 0, number.toNat, rec_⟩ ∈ u.coord.pend ∧ u.Acked c 1 0 ∧ u.ctx = s.ctx) ∧
    (∀ (op : Byte) (p : PendRec), (s.coord.pend.find? fun p => p.obj = 0 && p.number = number.toNat) = some p → p.op = 0 →
      p.number = number.toNat → s.liveCtx number = none → Completes (.recCommit c 0 op number) s fun u =>
        (∃ x, u.liveCtx number = some x ∧ x.st = 1 ∧ x.tenant = tenOf (leAt p.body 0 1) ∧
          x.segs = (List.range 16).map fun i => cut p.body (4 + 32 * i) 32) ∧ u.Acked c 2 0 ∧ u.mem = s.mem ∧ u.rgn = s.rgn) ∧
    (∀ (obj op : Byte), Completes (.recAbort c obj op number) s fun u =>
      (∀ p ∈ u.coord.pend, ¬(p.obj = obj.toNat ∧ p.number = number.toNat)) ∧ u.Acked c 3 0 ∧ u.ctx = s.ctx ∧ u.rgn = s.rgn)

/-- R379: the last acknowledgement of PREPARE commits the change everywhere and answers its command; an unacknowledged PREPARE goes again
after 10 ms, and the fifth time the change is given up with RETRY_BUSY. -/
def Obligations.HeadstockCarriesChangesThrough : Prop :=
  ∀ (s : State) (x : RecTx) (d : W16) (xid : W32) (n : Nat), s.su.held = false → x ∈ s.coord.recTx → x.phase = 0 → x.cmd ≠ 0 →
    (∀ y ∈ s.coord.recTx, y.id = x.id → y = x) → (∀ y ∈ s.coord.recTx, ∀ w ∈ y.waits, w.2.1 = xid → y = x) → x.waits = [(d, xid, n)] →
    (x.late = false → Completes (.coordAck d 0 1 0 xid []) s fun u =>
      u.Replied x.h x.cmd 0 0 x.reply ∧
      ∃ y ∈ u.coord.recTx, y.id = x.id ∧ y.phase = 1 ∧ y.waits.map Prod.fst = s.activeIds) ∧
    (n < 5 → Completes (.recPrepareRetry xid) s fun u =>
      u.Told d none ([1, 0, 0, 0] ++ toLe 4 xid.toNat ++ objBody x.obj x.op x.number x.body) ∧
      x.since + msec 10 * n ≤ u.time.nclk ∧ ∃ y ∈ u.coord.recTx, y.id = x.id ∧ y.phase = 0 ∧ y.waits = [(d, xid, n + 1)]) ∧
    (5 ≤ n → x.cmd ≠ 0x121 → x.cmd ≠ 0x502 → x.cmd ≠ 0x133 → Completes (.recPrepareRetry xid) s fun u =>
      u.Replied x.h x.cmd 1 0 [] ∧ ∃ y ∈ u.coord.recTx, y.id = x.id ∧ y.phase = 2)

/-- R63, R66, R44: a region whose requests have completed acknowledges its quiesce; one that is deleted gives up its blocks, which
read zero, and becomes FREE, last of the free numbers; a context whose tasks are over becomes FREE with the next incarnation. -/
def Obligations.RecordsReachFree : Prop :=
  ∀ s : State, s.su.held = false →
    (∀ (n : W16) (g : Region) (d : W16) (xid : W32) (a : W16) (q : W32) (hd : W16) (qu : Byte), s.region n.toNat = some g → g.st = 2 →
      s.drained n.toNat = true → g.reply = some ⟨.fwd d xid a, q, hd, qu⟩ → Completes (.regionQuiesceDone n) s fun u =>
        u.Acked ⟨d, xid⟩ 2 0 ∧ u.mem = s.mem ∧ ∃ x, u.region n.toNat = some x ∧ x.st = 2 ∧ x.reply = none ∧ x.desc = g.desc) ∧
    (∀ (n : W16) (g : Region) (m : Nat), s.region n.toNat = some g → g.st = 3 → s.memberOf g = some m → Completes (.regionDeleteDone n) s fun u =>
      u.region n.toNat = none ∧ u.rgn.freed = s.rgn.freed ++ [n.toNat] ∧
      (∀ a : Nat, g.dpaBase m ≤ a → a < g.dpaBase m + g.share m → Memory.read u.mem a = 0) ∧
      (∀ a : Nat, ¬(g.dpaBase m ≤ a ∧ a < g.dpaBase m + g.share m) → ¬(g.shadow ≤ a ∧ a < g.shadow + g.shadowLen) →
        Memory.read u.mem a = Memory.read s.mem a) ∧
      u.ctx = s.ctx) ∧
    (∀ (handle : W16) (c : Ctx), s.liveCtx handle = some c → c.st = 3 → s.openTasks (ctxIndex handle) = [] →
      Completes (.ctxDestroyDone handle) s fun u =>
        u.liveCtx handle = none ∧ u.ctx.incs.get 0 (ctxIndex handle) = (s.ctx.incs.get 0 (ctxIndex handle) + 1) % 16 ∧
        u.ctx.freed = s.ctx.freed ++ [ctxIndex handle] ∧ u.mem = s.mem ∧ u.rgn = s.rgn)

/-- R46, R48; 02 and 09 (R47, R49, R272, R53, R72): a CA belongs to the valid segment whose range holds it; a segment write replaces the descriptor in a
single step and leaves no two valid segments that overlap; one that would overlap, or whose page table is not in a PTAB region of the context's tenant or
does not fit it, is answered BAD_DESCRIPTOR and changes nothing; contexts stop and start; a flush empties a quarter's translation cache. -/
def Obligations.ContextsSegmentsAndTranslations : Prop :=
  ∀ s : State, s.su.held = false →
    (∀ (handle : W16) (n : Fin 16) (d : Bytes) (c : Ctx), s.liveCtx handle = some c → s.segOk c.tenant d = true →
      segOverlap c.segs n.val d = false → Completes (.segmentWrite handle n d) s fun u =>
        u.liveCtx handle = some { c with segs := c.segs.set n.val d } ∧ Out.segAnswer handle n.val 0 ∈ u.out ∧
        u = { s with ctx := u.ctx, out := u.out, pool := u.pool } ∧ u.pool.trks = s.pool.trks) ∧
    (∀ (handle : W16) (n : Fin 16) (d : Bytes) (c : Ctx), s.liveCtx handle = some c →
      (s.segOk c.tenant d = false ∨ segOverlap c.segs n.val d = true) → Completes (.segmentWrite handle n d) s fun u =>
        u = { s with out := s.out ++ [.segAnswer handle n.val 0x0D] }) ∧
    (let belongs (l : List Bytes) (i ca : Nat) : Prop :=
      (segOf (l.getD i [])).v = true ∧ (segOf (l.getD i [])).base ≤ ca ∧ ca < (segOf (l.getD i [])).base + (segOf (l.getD i [])).limit
     (∀ (l : List Bytes) (ca i : Nat), belongs l i ca → (∀ j, belongs l j ca → j = i) → findSeg ca 0 l = some (i, segOf (l.getD i []))) ∧
     (∀ (l : List Bytes) (ca : Nat), (∀ j, ¬belongs l j ca) → findSeg ca 0 l = none) ∧
     (∀ (handle : W16) (n : Fin 16) (d : Bytes) (c : Ctx), s.liveCtx handle = some c → c.segs.length = 16 →
       (∀ i j ca : Nat, belongs c.segs i ca → belongs c.segs j ca → i = j) →
       (∀ i ca : Nat, i ≠ n.val → belongs c.segs i ca → belongs (c.segs.set n.val d) n.val ca → Completes (.segmentWrite handle n d) s fun u =>
         u = { s with out := s.out ++ [.segAnswer handle n.val 0x0D] }) ∧
       Completes (.segmentWrite handle n d) s fun u =>
         ∃ k, u.liveCtx handle = some k ∧ ∀ i j ca : Nat, belongs k.segs i ca → belongs k.segs j ca → i = j)) ∧
    (∀ (handle : W16) (n : Fin 16) (d : Bytes) (c : Ctx), s.liveCtx handle = some c → (segOf d).v = true →
      (∀ (i : Nat) (g : Region), s.regionOfSpa (segOf d).pt = some (i, g) →
        g.ptab = false ∨ g.tenant ≠ c.tenant ∨ g.spa + g.len < (segOf d).pt + 8 * ((segOf d).limit / (segOf d).page)) →
      Completes (.segmentWrite handle n d) s fun u => u = { s with out := s.out ++ [.segAnswer handle n.val 0x0D] }) ∧
    (∀ (h : CmdHdr) (t : TenantId) (c : Ctx), s.classOf h.iss = .ta t → s.liveCtx h.handle = some c → c.tenant = t →
      (c.st = 1 → Completes (.ctxStop h) s fun u => u.liveCtx h.handle = some { c with st := 2 } ∧ u.Replied h 0x102 0 0 [] ∧ u.mem = s.mem) ∧
      (c.st = 2 → Completes (.ctxStart h) s fun u => u.liveCtx h.handle = some { c with st := 1 } ∧ u.Replied h 0x103 0 0 [] ∧ u.mem = s.mem)) ∧
    (∀ q : Quarter, Answers (.tcFlush q) s fun t =>
      t.pool.tcache[q] = [] ∧ (∀ p : Quarter, p ≠ q → t.pool.tcache[p] = s.pool.tcache[p]) ∧
      t = { s with pool := { s.pool with tcache := t.pool.tcache }, lands := t.lands })

/-- R265, R488, R273: REGION_CREATE and REGION_READ work by reference: what their descriptor's read, or their result's write, comes to
decides them. -/
def Obligations.RegionCommandsByReference : Prop :=
  ∀ (s : State) (h : CmdHdr) (t : TenantId), s.su.held = false → s.classOf h.iss = .ta t → s.refOk h = true →
    (∀ ca : W64, s.head.head = true → Completes (.regionCreate h ca) s fun u =>
      let p := cmdOpen (.regionCreate h ca) s
      let q := argRead p.1 h ca.toNat 320 p.2
      match q.1 with
      | none => u = q.2
      | some (st, b) =>
        let v := cmdClose p.1 q.2
        let g := regionOf b 0 0
        (st ≠ 0 → u.Replied h 0x201 st 0 []) ∧
        (st = 0 → v.classOf h.iss = .ta t → g.tenant = t → v.lacksCores g = false → v.descOk g = false → u.Replied h 0x201 0x0D 0 []) ∧
        (∀ (n x y : Nat), st = 0 → v.classOf h.iss = .ta t → v.pairGap = false → g.tenant = t → v.lacksCores g = false → v.descOk g = true →
          (∀ m < g.members, v.knownMember (g.memberId m) = true) → v.ownedSlices t ≠ [] → v.freeRegion = some n → v.placeRegion g = .at_ x y →
          Begun v u 1 0 n (regionRecord 1 (splice b 0 (toLe 4 (setBits (leAt b 0 4) 11 0 n)))) h)) ∧
    (∀ (n : W16) (ca : W64) (g : Region), s.region n.toNat = some g → g.tenant = t → n.toNat ≤ 4095 → Completes (.regionRead h n ca) s fun u =>
      let p := cmdOpen (.regionRead h n ca) s
      let q := resWrite p.1 h ca.toNat (padTo 320 g.desc) p.2
      match q.1 with
      | none => u = q.2
      | some (st, _) => u.Replied h 0x205 st 0 (if st = 0 then [byte g.st, 0, 0, 0] else []))

/-! ### DRAM channels (03: R74 to R106) -/

/-- R74 to R76, R81, R87, R89, R90, R95, R98, R100 to R102, R104, R106, R167: a channel trains, is evacuated, restored and set FAILED as its reports say, its commands
are refused in the wrong state, and its refreshes, power-downs, temperatures, scrub reads and tables change just what they name. -/
def Obligations.ChannelsRunTheirCourse : Prop :=
  ∀ (s : State) (c : ChanId), s.su.held = false →
    (∀ r : TrainReport, s.StillBut c → (s.chan c).st = 1 → (s.chan c).dirNext = none →
      (s.isBusy .CH_CMD_RESULT c.val = false →
        (r.spd = false → Completes (.ddrTrainDone c r) s fun u => (u.chan c).st = 0 ∧ u.mem = s.mem) ∧
        (r.spd = true → r.spdCrcOk = false ∨ dimmOk r = false → Completes (.ddrTrainDone c r) s fun u =>
          (u.chan c).st = 5 ∧ (u.chan c).failStep = 1 ∧ u.mem = s.mem) ∧
        (r.spd = true → r.spdCrcOk = true → dimmOk r = true → (∀ i : ChanId, (s.chan i).kind = 0 ∨ (s.chan i).kind = dimmCode r.kind) →
          Completes (.ddrTrainDone c r) s fun u => Trained r (u.chan c) ∧ u.mem = s.mem ∧ ∀ i : ChanId, i ≠ c → (u.chan i).st = (s.chan i).st)) ∧
      (s.isBusy .CH_CMD_RESULT c.val = true → r.spd = true → r.spdCrcOk = true → dimmOk r = true →
        (∀ i : ChanId, (s.chan i).kind = 0 ∨ (s.chan i).kind = dimmCode r.kind) → Completes (.ddrRestoreDone c r) s fun u =>
          Trained r (u.chan c) ∧ u.reg .CH_CMD_RESULT c.val = w32 (if (u.chan c).st = 2 then 0 else stUNSUPPORTED.toNat))) ∧
    (∀ force : Bool, s.isBusy .CH_CMD_RESULT c.val = false →
      ((s.chan c).st ≠ 2 → Completes (.ddrEvacuate c force) s fun u =>
        u.chan c = s.chan c ∧ u.mem = s.mem ∧ u.reg .CH_CMD_RESULT c.val = w32 ((s.chan c).st % 16 * 256 + 3)) ∧
      ((s.chan c).st = 2 → force = false → s.pinnedVolatile c = true → Completes (.ddrEvacuate c force) s fun u =>
        u.chan c = s.chan c ∧ u.mem = s.mem ∧ u.reg .CH_CMD_RESULT c.val = w32 (2 * 256 + 3)) ∧
      ((s.chan c).st = 2 → (force = true ∨ s.pinnedVolatile c = false) → s.tierCode ≠ 3 → s.tierCode ≠ 4 → s.StillBut c → s.hasEntries c.val = false →
        s.resizing c = false → Completes (.ddrEvacuate c force) s fun u =>
          u = flushDirty c.val ((s.busy .CH_CMD_RESULT c.val).updChan c fun k => { k with st := 3, force := force }) ∧ (u.chan c).st = 3 ∧
          u.isBusy .CH_CMD_RESULT c.val = true) ∧
      ((s.chan c).st = 0 ∨ (s.chan c).st = 4 ∨ (s.chan c).st = 5 → Completes (.ddrRestore c) s fun u =>
        (u.chan c).st = 1 ∧ u.isBusy .CH_CMD_RESULT c.val = true ∧ u.mem = s.mem) ∧
      ((s.chan c).st = 1 ∨ (s.chan c).st = 2 ∨ (s.chan c).st = 3 → Completes (.ddrRestore c) s fun u =>
        u.chan c = s.chan c ∧ u.mem = s.mem ∧ u.reg .CH_CMD_RESULT c.val = w32 ((s.chan c).st * 256 + 3))) ∧
    (s.StillBut c → (s.chan c).st = 3 → s.dirtyWays c.val = [] → s.hasEntries c.val = false → Completes (.ddrEvacuateDone c) s fun u =>
      (u.chan c).st = 4 ∧ u.reg .CH_CMD_RESULT c.val = 0 ∧ u.cachedBlocks c.val = [] ∧
      (∀ b ∈ s.cachedBlocks c.val, ∀ i : Nat, i < 16384 → Memory.read u.mem (b * 16384 + i) = 0) ∧
      ∀ x ∈ s.pinnedBlocks c, ∀ g : Region, s.region x.1 = some g → g.durable = false → ∀ i : Nat, i < 128 → x.2 ∉ s.cachedBlocks c.val →
        (∀ y ∈ s.pinnedBlocks c, y.2 = x.2 → y = x) → u.poison.contains (x.2 * 128 + i) = true) ∧
    (s.StillBut c → (s.chan c).st = 1 ∨ (s.chan c).st = 2 ∨ (s.chan c).st = 3 →
      (∀ i ∈ [Instr.pmicFault c, .caParityAlert c true], Completes i s fun u =>
        (u.chan c).st = 5 ∧ (u.chan c).failStep = 0 ∧ (s.isBusy .CH_CMD_RESULT c.val = true → u.reg .CH_CMD_RESULT c.val = w32 stRETRY_BUSY.toNat) ∧
        ∀ (t : TenantId) (x : Nat) (a : W16), (s.chan c).st ≠ 1 → s.sliceTenant c.val = some t → x ∈ s.slotsOf t → s.slotSt t x ≠ 1 →
          s.slotHost t x = some a → ∃ d : Nat, u.Sent { cls := .snp, op := 3, dst := a, src := s.myId, tag := w16 c.val, addr := d })) ∧
    (Completes (.caParityAlert c false) s fun u => u = s) ∧
    ((s.chan c).up = true →
      ((s.chan c).selfRef = false → Answers (.refreshDue c) s fun t => t = settle (s.updChan c fun k => { k with refAt := s.time.nclk })) ∧
      (∀ rank : Fin 4, s.rfld .PD_TIMER c.val 15 0 ≠ 0 → rank.val < (s.chan c).ranks → bit (s.chan c).pd rank.val = false → Answers (.pdTimerExpire c rank) s fun t =>
        bit (t.chan c).pd rank.val = true ∧ s.time.nclk + 2 * s.rfld .PD_TIMER c.val 15 0 ≤ t.time.nclk ∧ t.mem = s.mem) ∧
      (∀ x : Byte, Answers (.dimmTempPoll c x) s fun t =>
        (t.chan c).half = (if 85 ≤ x.toNat then true else if x.toNat ≤ 82 then false else (s.chan c).half) ∧
        (t.chan c).hot = (if 95 ≤ x.toNat then true else if x.toNat ≤ 92 then false else (s.chan c).hot) ∧ t.mem = s.mem ∧
        ∀ i : ChanId, i ≠ c → t.chan i = s.chan i)) ∧
    (Answers (.ceClear c) s fun t => (∀ i : Nat, i < 32 → t.reg .CE_ENTRY0 (ceU c.val i) = 0 ∧ t.reg .CE_ENTRY1 (ceU c.val i) = 0) ∧
      t.mem = s.mem ∧ t.chans = s.chans) ∧
    (∀ q : Quarter, Answers (.tagcWbAll q) s fun t => t.mem = s.mem ∧ t.tags = s.tags ∧
      ∀ e ∈ t.tagc, e.1 / 2048 / 4 = q.val → ∀ w ∈ e.2, w.dirty = false) ∧
    (s.StillBut c → (s.chan c).st = 2 → s.resizing c = false → s.emptying c = false → (s.chan c).selfRef = false → s.reg .SCRUB_INTERVAL c.val ≠ 0 →
      (s.scrubNext c (s.chan c).scrub = none → Completes (.scrubTick c) s fun u => (u.chan c).scrub = 0 ∧ u.mem = s.mem) ∧
      (∀ p l : Nat, s.scrubNext c (s.chan c).scrub = some (p, some l) →
        (s.lockHeld l = false → decodeErr (s.lineErr c.val p (s.poison.contains l)) = .good → Completes (.scrubTick c) s fun u =>
          (u.chan c).scrub = p + 1 ∧ u.mem = s.mem ∧ u.poison = s.poison ∧ u.upsets = s.upsets) ∧
        (∀ pos : Nat, s.lockHeld l = false → decodeErr (s.lineErr c.val p (s.poison.contains l)) = .corrected pos → Completes (.scrubTick c) s fun u =>
          (u.chan c).scrub = p + 1 ∧ u.mem = s.mem ∧ u.poison = s.poison ∧ u.upsets.find (upsetKey c.val p) = none) ∧
        (s.lockHeld l = false → decodeErr (s.lineErr c.val p (s.poison.contains l)) = .bad → (s.chan c).ueAt.length < 7 → Completes (.scrubTick c) s fun u =>
          (u.chan c).scrub = p + 1 ∧ u.mem = s.mem ∧ u.poison.contains l = true ∧ u.upsets.find (upsetKey c.val p) = none)))

/-! ### Requests, coherence and reductions (03 to 05: R23, R31, R53 to R55, R69, R120, R141, R153 to R171, R175 to R188, R486) -/

/-- R31, R147, R309, R315, R321, R426, R486, R161: a request that fails a check on its way is answered with that check's status and changes no line, no
directory entry and no tracker; one for another device goes on by the route table; one that passes takes a tracker at its line home. -/
def Obligations.RequestsAreChecked : Prop :=
  ∀ (s : State) (r : ReqMsg) (o : BitVec 5), s.su.held = false →
    (∀ c ∈ (Instr.undefinedReqOpcode o r, o.toNat) :: requestOps r,
      (s.edgeOk r.link r.src = false → Completes c.1 s fun u =>
        u.pool = s.pool ∧ u.mem = s.mem ∧ ((s.link r.link).dir = 3 → ∃ l : Nat, Out.msg r.link.val { cmpMsg r stNO_ACCESS 0 with load := l } ∈ u.out)) ∧
      (∀ p : Nat, s.edgeOk r.link r.src = true → s.hears r.link r.dst = false → s.pickPort r.dst.toNat ((s.link r.link).dir = 1) = some p →
        Completes c.1 s fun u => u.pool = s.pool ∧ u.mem = s.mem ∧ ∃ m : Msg, Out.msg p m ∈ u.out ∧ m.cls = .req ∧ m.op = c.2 ∧ m.src = r.src ∧
          m.dst = r.dst ∧ m.tag = r.tag ∧ m.handle = r.handle ∧ m.addr = r.addr.toNat ∧ m.len = r.len.toNat ∧ m.payload = r.payload) ∧
      (s.edgeOk r.link r.src = true → s.hears r.link r.dst = true →
        (∀ h : Nat, s.closedHint = some h → Completes c.1 s fun u =>
          u.Sent { cmpMsg r stRETRY_BUSY h with load := 15 } ∧ u.pool = s.pool ∧ u.mem = s.mem) ∧
        (s.closedHint = none →
          (s.pair.role = 6 → r.dst = s.myAlias → Completes c.1 s fun u => u.Ans (cmpMsg r stEPOCH_CHANGED 0) ∧ u.pool = s.pool ∧ u.mem = s.mem) ∧
          (s.serving = false → (s.pair.role = 6 → r.dst ≠ s.myAlias) → Completes c.1 s fun u =>
            (∃ h : Nat, u.Sent { cmpMsg r stRETRY_BUSY h with load := 15 }) ∧ u.pool = s.pool ∧ u.mem = s.mem) ∧
          (s.serving = true → (s.pair.role = 5 → r.dst ≠ s.myAlias) → s.hostEntry r.src = none → Completes c.1 s fun u =>
            u.Ans (cmpMsg r stNO_ACCESS 0) ∧ u.pool = s.pool ∧ u.mem = s.mem) ∧
          (∀ (e : Nat × Bytes) (h : Nat) (a : State), s.serving = true → (s.pair.role = 5 → r.dst ≠ s.myAlias) → s.hostEntry r.src = some e →
            r.fwd = false → s.leaseNeeds e.1 (s.rfld .HOST_CFG e.1 18 16) r.link (s.countedLen c.2 r) = [] →
            decideAdm e.1 (s.rfld .HOST_CFG e.1 18 16) r.link (s.countedLen c.2 r) s = (.policed h, a) → Completes c.1 s fun u =>
              u.Ans (cmpMsg r stPOLICED h) ∧ u.pool = s.pool ∧ u.mem = s.mem))) ∧
      (∀ (a : State) (e : Nat × Bytes), Enters c.2 r s a e →
        (a.homeOf r.handle = none → Completes c.1 s fun u => u.Ans (cmpMsg r stNO_ACCESS 0) ∧ u.pool = s.pool ∧ u.mem = s.mem) ∧
        (∀ (q : Nat) (st : Byte), a.homeOf r.handle = some q → formCheck c.2 r = some st → Completes c.1 s fun u =>
          u.Ans (cmpMsg r st 0) ∧ u.pool = s.pool ∧ u.mem = s.mem) ∧
        (∀ (q code h : Nat) (st : Byte) (x : Ctx) (v : State), a.homeOf r.handle = some q → formCheck c.2 r = none → a.liveCtx r.handle = some x →
          xlate q r.handle x c.2 r.addr.toNat (reqBytes c.2 r) r.nr r.fwd (tenantOfHost e.2) (slotOf e.2).isSome a = (.fail code st h, v) →
          Completes c.1 s fun u => u.Ans (cmpMsg r st h) ∧ u.pool.trks = s.pool.trks ∧ u.pool.dir = s.pool.dir ∧ u.mem = s.mem))) ∧
    (o = 0 ∨ 8 ≤ o.toNat → o ≠ 0x10 → o ≠ 0x11 → formCheck o.toNat r = some stUNSUPPORTED) ∧
    (∀ c ∈ requestOps r, ∀ (v : State) (e : Nat × Bytes) (n : Nat) (g : Region) (m dpa : Nat),
      (∀ x : Nat, Located c.2 r s v e n g m dpa → v.isMe (g.memberId m) = true → v.quarterShut (v.blockHome g m (dpa / 16384) / 4) = false →
        v.mayTrack (v.blockHome g m (dpa / 16384) / 4) (.host e.1) = true → g.kind = 1 → v.pair.window = none → slotOf e.2 = some x →
        v.slotSt g.tenant x = 1 → Completes c.1 s fun u => u.Ans (cmpMsg r stNO_ACCESS 0) ∧ u.pool.trks = s.pool.trks ∧ u.mem = s.mem) ∧
      (Reaches c.2 r s v e n g m dpa → Completes c.1 s fun u =>
        u.mem = s.mem ∧ u.pool.dir = s.pool.dir ∧ u.rgn = s.rgn ∧ ∃ x : Trk, u.pool.trks = s.pool.trks ++ [x] ∧ x.op = c.2 ∧ x.r = r ∧ x.dpa = dpa ∧
          x.region = n ∧ x.tenant = g.tenant ∧ x.slice = v.blockHome g m (dpa / 16384) ∧ x.wait = .ready ∧ x.locked = false ∧ x.ans = none ∧
          (g.kind = 1 → x.slot = slotOf e.2)))

/-- R31 steps 10 to 13, R97, R120, R171, R176, R181, R182, R185, R187, R188: where nothing else waits, a request whose block stands in DRAM is served at once:
reads answer with the line's bytes, writes and atomics change just theirs, and a contribution adds to its unit, once. -/
def Obligations.RequestsAreServed : Prop :=
  ∀ (s v : State) (r : ReqMsg) (e : Nat × Bytes) (n : Nat) (g : Region) (m dpa : Nat), s.su.held = false → s.Idle → v.upsets = [] →
    (g.durable = true → v.tierCode ≠ 3 ∧ v.tierCode ≠ 4 ∧ v.tier.full = false ∧ v.journalBytes + 2 ^ 20 < 12 * 2 ^ 30) → v.InPlace g.tenant (v.blockHome g m (dpa / 16384)) (dpa / 16384) →
    (g.kind = 0 →
      (Reaches 1 r s v e n g m dpa →
        (v.poison.contains (dpa / 128) = false → Answers (.rdOnce r) s fun t =>
          t.Ans (datMsg 1 r (cut (Memory.readN s.mem (dpa / 128 * 128) 128) (dpa % 128) (r.len.toNat + 1)) r.len.toNat) ∧ t.mem = s.mem ∧ t.pool.trks = []) ∧
        (v.poison.contains (dpa / 128) = true → Answers (.rdOnce r) s fun t => t.Ans (cmpMsg r stPOISON 0) ∧ t.mem = s.mem ∧ t.pool.trks = [])) ∧
      (g.ptab = false →
        (Reaches 5 r s v e n g m dpa → Answers (.wrLine r) s fun t =>
          t.mem = Memory.writeN s.mem dpa r.payload ∧ t.poison.contains (dpa / 128) = false ∧
          ((t.Ans (cmpMsg r stOK 0) ∧ t.pool.trks = []) ∨
            (g.durable = true ∧ ∃ x ∈ t.pool.trks, x.ans = some (cmpMsg r stOK 0) ∧ (x.jwait.all fun p => t.pageOk p.1 p.2) = false))) ∧
        (Reaches 6 r s v e n g m dpa → v.poison.contains (dpa / 128) = false → Answers (.wrPart r) s fun t =>
          t.mem = Memory.writeN s.mem dpa r.payload ∧
          (∀ a : Nat, a < dpa ∨ dpa + r.payload.length ≤ a → Memory.read t.mem a = Memory.read s.mem a) ∧
          ((t.Ans (cmpMsg r stOK 0) ∧ t.pool.trks = []) ∨
            (g.durable = true ∧ ∃ x ∈ t.pool.trks, x.ans = some (cmpMsg r stOK 0) ∧ (x.jwait.all fun p => t.pageOk p.1 p.2) = false))) ∧
        (Reaches 7 r s v e n g m dpa → g.durable = false → v.poison.contains (dpa / 128) = false → Answers (.atomic r) s fun t =>
          let o := atomOp r.len.toNat
          let z := atomSize r.len.toNat
          let old := leNat (cut (Memory.readN s.mem (dpa / 128 * 128) 128) (dpa % 128) z)
          let x := atomArgs o z r.payload
          t.mem = (if o ≠ 9 ∨ old = x.2 then Memory.writeN s.mem dpa (toLe z (atomNew o z old x.1 x.2)) else s.mem) ∧
          t.Ans (if r.nr then cmpMsg r stOK 0 else datMsg 4 r (toLe z old)) ∧ t.pool.trks = []))) ∧
    (g.kind = 2 → g.durable = false →
      (∀ (gen c bank data ra by_ bi : Nat) (first : Bool), Reaches 0x10 r s v e n g m dpa → redCheck g r.payload = none → gen = leAt r.payload 0 4 →
        c = leAt r.payload 4 2 → bank = gen % 2 → data = g.bankAt m bank (ruOf dpa) → ra = g.recordAt m (ruOf dpa) → (by_, bi) = bitmapAt c →
        first = decide (leNat (Memory.readN s.mem (ra + 4 * bank) 4) ≠ gen) → v.memberOf g = some m → ra % 128 = 0 → data % 128 = 0 →
        by_ < g.recLines * 128 → 1 ≤ g.recLines → data + 256 ≤ ra ∨ ra + g.recLines * 128 ≤ data →
        (∀ b ∈ g.redBlocks m (ruOf dpa) bank, v.InPlace g.tenant (v.blockHome g m (dpa / 16384)) b) → v.poison = [] →
        (first = false → bit (Memory.read s.mem (ra + by_)).toNat bi = true → Answers (.redAdd r) s fun t =>
          t.Ans (cmpMsg r stDUPLICATE 0) ∧ t.mem = s.mem ∧ t.rgn = s.rgn) ∧
        (first = true ∨ bit (Memory.read s.mem (ra + by_)).toNat bi = false →
          ∀ cnt : Nat, cnt = (if first then 1 else (leNat (Memory.readN s.mem (ra + 8) 2) + 1)) → (cnt = g.gen.nOpen → g.gen.ruDone + 1 ≠ g.ruCount m) →
          g.gen.ruDone ≠ g.ruCount m → cnt < 65536 → Answers (.redAdd r) s fun t =>
            t.Ans (cmpMsg r stOK 0) ∧
            (∀ i : Nat, i < 32 → leNat (Memory.readN t.mem (data + 8 * i) 8) =
              uint 64 ((if first then 0 else sint 64 (leNat (Memory.readN s.mem (data + 8 * i) 8))) + ((contribution g r.payload).getD i (0, false, false)).1)) ∧
            leNat (Memory.readN t.mem (ra + 4 * bank) 4) = gen ∧ leNat (Memory.readN t.mem (ra + 8) 2) = cnt ∧
            bit (Memory.read t.mem (ra + by_)).toNat bi = true ∧
            (∀ x : Nat, x < ra ∨ ra + g.recLines * 128 ≤ x → x < data ∨ data + 256 ≤ x → Memory.read t.mem x = Memory.read s.mem x) ∧
            ∃ y : Region, t.region n = some y ∧ y.gen.ruDone = (if cnt = g.gen.nOpen then g.gen.ruDone + 1 else g.gen.ruDone) ∧ y.gen.st = g.gen.st)) ∧
      (Reaches 0x11 r s v e n g m dpa → v.poison = [] → v.memberOf g = some m →
        (∀ b ∈ g.redBlocks m (ruOf dpa) (g.gen.gDone % 2), v.InPlace g.tenant (v.blockHome g m (dpa / 16384)) b) →
        (leAt r.payload 6 1 % 4 = 2 → Answers (.redRead r) s fun t =>
          t.Ans (datMsg 1 r (padTo 32 (toLe 4 g.gen.gOpen ++ toLe 4 g.gen.gDone ++ toLe 2 g.gen.nOpen ++ [byte g.gen.st, byte g.gen.flags])) r.len.toNat) ∧
          t.mem = s.mem) ∧
        (leAt r.payload 6 1 % 4 = 0 → g.gen.doneValid = true → leAt r.payload 0 4 = g.gen.gDone → Answers (.redRead r) s fun t =>
          t.Ans (datMsg 1 r (if s.stamp g m dpa (g.gen.gDone % 2) = g.gen.gDone then Memory.readN s.mem (g.bankAt m (g.gen.gDone % 2) dpa) (r.len.toNat + 1)
            else zeros (r.len.toNat + 1)) r.len.toNat) ∧ t.mem = s.mem) ∧
        (leAt r.payload 6 1 % 4 = 0 → leAt r.payload 0 4 = g.gen.gOpen → (g.gen.doneValid = true → leAt r.payload 0 4 ≠ g.gen.gDone) →
          Answers (.redRead r) s fun t => t.Ans (cmpMsg r stRETRY_BUSY (hintNs 10000)) ∧ t.mem = s.mem)))

/-- R153, R155, R161, R164, R170, R330: where nothing else waits, a request of a slot for a tracked line in DRAM that nobody owns and nobody else must give up is
granted at once; where a holder must answer first it is snooped, and the request waits with its line locked. -/
def Obligations.TrackedLinesAreGranted : Prop :=
  ∀ (s v : State) (r : ReqMsg) (e : Nat × Bytes) (n : Nat) (g : Region) (m dpa x : Nat), s.su.held = false → s.Idle → s.pool.flushes = [] → v.upsets = [] →
    v.InPlace g.tenant (v.blockHome g m (dpa / 16384)) (dpa / 16384) → v.poison.contains (dpa / 128) = false → g.kind = 1 → g.durable = false →
    slotOf e.2 = some x →
    (s.pool.dir.find (dpa / 128) = none →
      (v.dirSet (v.blockHome g m (dpa / 16384)) g.tenant (v.dirIdx (v.blockHome g m (dpa / 16384)) g.tenant (dpa / 128))).length <
        (v.dirGeom (v.blockHome g m (dpa / 16384))).2) →
    (∀ y : DirEnt, s.pool.dir.find (dpa / 128) = some y → y.holds x = false ∧ (y.st = 0 ∨ y.st = 1)) →
    (Reaches 2 r s v e n g m dpa → Answers (.rdShared r) s fun t =>
      t.Ans (datMsg 2 r (Memory.readN s.mem (dpa / 128 * 128) 128)) ∧ t.mem = s.mem ∧ t.pool.trks = [] ∧
      ∃ y : DirEnt, t.pool.dir.find (dpa / 128) = some y ∧ y.st = 1 ∧
        y.sharers = insUp x (match s.pool.dir.find (dpa / 128) with | some z => if z.st = 1 then z.sharers else [] | none => [])) ∧
    ((∀ y : DirEnt, s.pool.dir.find (dpa / 128) = some y → y.st = 0) →
      (Reaches 3 r s v e n g m dpa → Answers (.rdOwn r) s fun t =>
        t.Ans (datMsg 3 r (Memory.readN s.mem (dpa / 128 * 128) 128)) ∧ t.mem = s.mem ∧ t.pool.trks = [] ∧
        ∃ y : DirEnt, t.pool.dir.find (dpa / 128) = some y ∧ y.st = 2 ∧ y.owner = x ∧ y.laV = true ∧ y.lastAtom = x) ∧
      (Reaches 4 r s v e n g m dpa → Answers (.upgrade r) s fun t =>
        t.Ans (datMsg 3 r (Memory.readN s.mem (dpa / 128 * 128) 128)) ∧ t.mem = s.mem ∧ t.pool.trks = [] ∧
        ∃ y : DirEnt, t.pool.dir.find (dpa / 128) = some y ∧ y.st = 2 ∧ y.owner = x) ∧
      (Reaches 7 r s v e n g m dpa → (∀ y : DirEnt, s.pool.dir.find (dpa / 128) = some y → y.pred < 2) → Answers (.atomic r) s fun t =>
        t.Ans (datMsg 3 r (Memory.readN s.mem (dpa / 128 * 128) 128) 0 true) ∧ t.mem = s.mem ∧ t.pool.trks = [] ∧
        ∃ y : DirEnt, t.pool.dir.find (dpa / 128) = some y ∧ y.st = 2 ∧ y.owner = x)) ∧
    (∀ (y : DirEnt) (k : Nat) (a : W16), s.pool.dir.find (dpa / 128) = some y → y.st = 1 → y.sharers = [k] → s.slotSt g.tenant k ≠ 1 →
      s.slotHost g.tenant k = some a → Reaches 3 r s v e n g m dpa → Answers (.rdOwn r) s fun t =>
        (∃ id : W16, t.Sent { cls := .snp, op := 1, dst := a, src := s.myId, tag := id, handle := w16 n,
                              addr := dpaToSpa g ((s.memberOf g).getD 0) (dpa / 128 * 128) }) ∧ t.mem = s.mem ∧ t.pool.dir.find (dpa / 128) = some y ∧
        ∃ z : Trk, t.pool.trks = [z] ∧ z.locked = true ∧ z.wait = .snoop ∧ z.ans = none ∧ z.snoops.map Snp.slot = [k] ∧
          ∀ w ∈ z.snoops, w.at_ = t.time.nclk + usec (max 1 (min 10000 (t.rfld .HOME_CFG (z.slice / 4) 15 0))))

/-- R53 to R55, R104, R154, R155, R157, R158, R160 to R165, R167, R208: answers to snoops and flushes, evictions and their timers change the line's entry and let
its request go on; what waited for a lock, a way or an answer goes on when it comes; an answer that nothing waits for changes nothing but a count. -/
def Obligations.HoldersAnswer : Prop :=
  ∀ (s : State) (h : HostMsg) (t : TenantId) (x : Nat), s.su.held = false → s.edgeOk h.link h.src = true → s.slotOfSrc h.src = some (t, x) →
    (∀ (k : Trk) (w : Snp) (y : DirEnt), s.openSnoop h.tag t x = some (k, w) → s.pool.dir.find (k.dpa / 128) = some y → k.wait = .snoop → k.ans = none →
      (∀ j ∈ s.pool.trks, j.id = k.id → j = k) →
      (h.wbPending = false → Completes (.invAck h) s fun u =>
        u.pool.dir.find (k.dpa / 128) = some (y.leave x) ∧ u.mem = s.mem ∧ ∀ j ∈ u.pool.trks, j.id = k.id →
          j.snoops = (k.snoops.filter fun z => z.slot ≠ x) ∧ (j.snoops = [] → j.wait = .ready) ∧ (j.snoops ≠ [] → j.wait = .snoop)) ∧
      (h.wbPending = true → w.gotWb = false → Completes (.invAck h) s fun u =>
        u.pool.dir = s.pool.dir ∧ u.mem = s.mem ∧ ∀ j ∈ u.pool.trks, j.id = k.id → j.wait = .snoop ∧ ∃ z ∈ j.snoops, z.slot = x ∧ z.ackWb = true) ∧
      (Completes (.shrAck h) s fun u =>
        u.pool.dir.find (k.dpa / 128) = some (if y.st = 2 ∧ y.owner = x then { y with st := 1, sharers := [x] } else y) ∧ u.mem = s.mem) ∧
      (Completes (.datSnp h) s fun u =>
        (u.pool.dir.find (k.dpa / 128) = some (if w.inv then y.leave x else if y.st = 2 ∧ y.owner = x then { y with st := 1, sharers := [x] } else y)) ∧
        ∀ j ∈ u.pool.trks, j.id = k.id → j.data = some (padTo 128 h.payload) ∧ (j.snoops = [] → j.wait = .ready)) ∧
      (∀ (i : BitVec 9), i.toNat = x → k.id = h.tag.toNat → Completes (.snoopTimeout k.id i) s fun u =>
        w.at_ ≤ u.time.nclk ∧ u.slotSt k.tenant x = 1 ∧ u.pool.dir.find (k.dpa / 128) = some (y.leave x) ∧
        ∀ j ∈ u.pool.trks, j.id = k.id → j.poisoned = (k.poisoned || (decide (y.st = 2) && decide (y.owner = x))) ∧ (j.snoops = [] → j.wait = .ready))) ∧
    (s.openSnoop h.tag t x = none →
      (Completes (.invAck h) s fun u => u = s.count .LATE_RSP_CNT (h.tag.toNat / 4096 % 4)) ∧
      (Completes (.shrAck h) s fun u => u = s.count .LATE_RSP_CNT (h.tag.toNat / 4096 % 4)) ∧
      (Completes (.datSnp h) s fun u => u = s.count .LATE_RSP_CNT (h.tag.toNat / 4096 % 4))) ∧
    (∀ (n : Nat) (g : Region) (m dpa : Nat), s.regionOfSpa h.addr.toNat = some (n, g) → spaToDpa g h.addr.toNat = (m, dpa) → g.kind = 1 → g.tenant = t →
      s.isMe (g.memberId m) = true → (s.pool.trks.any fun k => k.dpa / 128 = dpa / 128 && k.tenant = t && k.snoops.any fun z => z.slot = x) = false →
      (∀ y : DirEnt, s.slotSt t x ≠ 1 → s.pool.dir.find (dpa / 128) = some y → y.holds x = true →
        (Completes (.wbDirty h) s fun u => u.mem = s.mem ∧ ∃ k : Trk, u.pool.trks = s.pool.trks ++ [k] ∧ k.op = 0x40 ∧ k.dpa / 128 = dpa / 128 ∧
          k.slot = some x ∧ k.wait = .ready ∧ k.r.payload = padTo 128 h.payload) ∧
        (Completes (.wbClean h) s fun u => u.mem = s.mem ∧ ∃ k : Trk, u.pool.trks = s.pool.trks ++ [k] ∧ k.op = 0x41 ∧ k.dpa / 128 = dpa / 128 ∧
          k.slot = some x ∧ k.wait = .ready)) ∧
      (s.slotSt t x = 1 →
        (Completes (.wbDirty h) s fun u => u.Sent { cls := .rsp, op := 3, dst := h.src, src := s.myId, tag := h.tag, status := stPOISON } ∧
          u.mem = s.mem ∧ u.pool = s.pool) ∧
        (Completes (.wbClean h) s fun u => u.Sent { cls := .rsp, op := 3, dst := h.src, src := s.myId, tag := h.tag, status := stOK } ∧
          u.mem = s.mem ∧ u.pool = s.pool))) ∧
    (∀ f : Flush, s.pool.flushes = [f] → f.slice = h.tag.toNat → f.tenant = t →
      (f.slots = [x] → Completes (.flushAck h) s fun u => u.pool.flushes = [] ∧ u.mem = s.mem ∧
        ∀ k ∈ u.pool.trks, k.slice = h.tag.toNat → k.ans = none → k.wait ≠ .flush) ∧
      (∀ (sl : SliceId) (i : BitVec 9), f.slice = sl.val → f.slots = [i.toNat] → s.slotSt t i.toNat ≠ 1 → Completes (.flushTimeout sl i) s fun u =>
        f.at_ ≤ u.time.nclk ∧ u.pool.flushes = [] ∧ u.slotSt t i.toNat = 1 ∧ u.mem = s.mem)) ∧
    ((s.work.accs.any fun a => a.agent = .xlat && a.st = 1 && a.addr = h.addr.toNat / 128 * 128) = false → Completes (.snpInvPtReader h) s fun u =>
      u.Sent { cls := .rsp, op := 8, dst := h.src, src := s.myId, tag := h.tag, addr := h.addr.toNat / 128 * 128 } ∧
      ∀ q : Quarter, ∀ z ∈ u.pool.tcache[q], z.spaLine ≠ h.addr.toNat / 128 * 128)

/-- R54, R84, R154, R163 to R165, R208: what waits for a lock, a way, the limit of victims, an answer to the device's own access, a page-table line's readers or a
rejoining slot's sweep goes on when that comes. -/
def Obligations.WhatWaitsGoesOn : Prop :=
  ∀ s : State, s.su.held = false →
    (∀ (l : Nat) (k : Trk), s.lockHeld l = false → (s.pool.trks.find? fun j => j.wait = .lock && j.lk = l) = some k → Completes (.lineLockGranted l) s fun u =>
      u = s.waitTrk k.id .ready) ∧
    (∀ l : Nat, s.lockHeld l = true → Completes (.lineLockGranted l) s fun u => u = s) ∧
    (∀ sl : SliceId, s.pool.fills.any (fun f => f.slice = sl.val && f.way = 8) = false → Completes (.victimWayFree sl) s fun u =>
      u.mem = s.mem ∧ ∀ k ∈ u.pool.trks, k.slice = sl.val → k.ans = none → k.wait ≠ .way ∧ k.wait ≠ .fill) ∧
    (∀ (sl : SliceId) (k : Trk), s.victimsOf sl.val < 64 → (s.pool.trks.find? fun j => j.wait = .limit && j.slice = sl.val) = some k →
      Completes (.victimLimitRelease sl) s fun u => u = s.waitTrk k.id .ready) ∧
    (∀ (a : Acc) (src tag : W16) (st : Byte) (b : BitVec 12) (d : Bytes),
      (s.work.accs.find? fun y => y.n % 65536 = tag.toNat && y.st = 1 && y.dest = src) = some a →
      (st ≠ stRETRY_BUSY → Completes (.poolAnswer src tag st b d) s fun u =>
        (∀ y ∈ u.work.accs, y.n = a.n → y.st = 3 ∧ y.status = st ∧ y.res = d) ∧ u.mem = s.mem) ∧
      (st = stRETRY_BUSY → a.takesBusy = false → (∀ y ∈ s.work.accs, y.n = a.n → y = a) → Completes (.poolAnswer src tag st b d) s fun u =>
        (∀ y ∈ u.work.accs, y.n = a.n → y.st = 2 ∧ y.dueAt = s.time.nclk + nsec (hintWait b.toNat)) ∧ u.mem = s.mem)) ∧
    (∀ a : Acc, (s.work.accs.find? fun y => y.n = a.n && y.st = 2) = some a → Completes (.dmaRetryTimer a.n) s fun u =>
      a.dueAt ≤ u.time.nclk ∧ u = startAcc a ((advanceTo a.dueAt s).updAcc a.n fun y => { y with st := 0 })) ∧
    (∀ (k : Trk) (g : Region), s.trk k.id = some k → k.wait = .ptab → s.region k.region = some g →
      ((s.pool.trks.any fun y => y.id ≠ k.id && y.ptLine = dpaToSpa g ((s.memberOf g).getD 0) (k.dpa / 128 * 128)) = false →
        Completes (.ptabWriteAck k.id) s fun u => u = s.waitTrk k.id .journal) ∧
      ((s.pool.trks.any fun y => y.id ≠ k.id && y.ptLine = dpaToSpa g ((s.memberOf g).getD 0) (k.dpa / 128 * 128)) = true →
        Completes (.ptabWriteAck k.id) s fun u => u = s)) ∧
    (∀ (h : CmdHdr) (t : TenantId) (x : W16), s.classOf h.iss = .ta t → (∀ q : Quarter, h.iss ≠ .slotCmd q) → x.toNat ≤ 511 →
      (s.slotSt t x.toNat = 1 → Completes (.slotRejoin h x) s fun u =>
        u.slotSt t x.toNat = 2 ∧ (∃ w ∈ u.pool.sweeps, w.tenant = t ∧ w.slot = x.toNat ∧ w.reply = some h) ∧
        ∀ (l : Nat) (y : DirEnt), u.pool.dir.find l = some y → y.tenant = t → y.holds x.toNat = false) ∧
      (s.slotSt t x.toNat ≠ 1 → Completes (.slotRejoin h x) s fun u =>
        u.pool = s.pool ∧ u.Replied h 0x301 3 (s.slotSt t x.toNat) [])) ∧
    (∀ (h : CmdHdr) (t : TenantId) (i : BitVec 9) (q : Nat), (s.pool.sweeps.find? fun w => w.tenant = t && w.slot = i.toNat) = some ⟨t, i.toNat, some h, q⟩ →
      Completes (.slotRejoinDone t i) s fun u =>
        u.slotSt t i.toNat = 0 ∧ u.Replied h 0x301 0 0 [] ∧ u.mem = s.mem ∧ ∀ w ∈ u.pool.sweeps, ¬(w.tenant = t ∧ w.slot = i.toNat))

/-! ### Reduction regions and materialised results (05: R180 to R183, R189, R196 to R199) -/

/-- R180, R183, R196 to R199: the commands of a region's administrator at its coordinator open a generation, close it, set the next count, advance a
source and drop materialised results; each is answered once every member has it, and refused with its state; elsewhere it is carried to the coordinator. -/
def Obligations.GenerationsOpenAndClose : Prop :=
  ∀ (s : State) (h : CmdHdr) (t : TenantId) (r arg : W16) (g : Region), s.su.held = false → s.classOf h.iss = .ta t → (∀ q : Quarter, h.iss ≠ .rgnCmd q) →
    s.region r.toNat = some g → g.tenant = t → r.toNat ≤ 4095 →
    (s.coordinates g = true → g.st = 1 → g.kind = 2 →
      (1 ≤ arg.toNat → arg.toNat ≤ g.nMax →
        (g.gen.st = 0xA → Completes (.redOpen h r arg) s fun u =>
          (∃ x : Region, u.region r.toNat = some x ∧ x.gen.st = 8 ∧ x.gen.gOpen = (if g.gen.doneValid then (g.gen.gDone + 1) % 2 ^ 32 else g.genFirst) ∧
            x.gen.nOpen = arg.toNat ∧ x.gen.nNext = arg.toNat ∧ x.gen.ruDone = 0 ∧ x.gen.gDone = g.gen.gDone ∧ x.gen.openAt = s.time.nclk) ∧
          ((∀ m : Nat, m < g.members → s.isMe (g.memberId m) = true) → u.Replied h 0x211 0 0 []) ∧
          (∀ m : Nat, m < g.members → s.isMe (g.memberId m) = false →
            ∃ x ∈ u.coord.sent, x.subop = 4 ∧ x.dest = w16 (g.memberId m) ∧ x.h = some h ∧ x.region = r.toNat)) ∧
        (g.gen.st ≠ 0xA → Completes (.redOpen h r arg) s fun u => u.rgn = s.rgn ∧ u.Replied h 0x211 3 g.gen.st []) ∧
        (g.gen.st ≠ 0xA → Completes (.redNextN h r arg) s fun u =>
          u.region r.toNat = some { g with gen := { g.gen with nNext := arg.toNat } } ∧
          ((∀ m : Nat, m < g.members → s.isMe (g.memberId m) = true) → u.Replied h 0x213 0 0 []) ∧
          (∀ m : Nat, m < g.members → s.isMe (g.memberId m) = false →
            ∃ x ∈ u.coord.sent, x.subop = 4 ∧ x.dest = w16 (g.memberId m) ∧ x.h = some h ∧ x.region = r.toNat)) ∧
        (g.gen.st = 0xA → Completes (.redNextN h r arg) s fun u => u.rgn = s.rgn ∧ u.Replied h 0x213 3 0xA [])) ∧
      (g.gen.st = 8 → Completes (.redClose h r arg) s fun u =>
        (∃ x : Region, u.region r.toNat = some x ∧ x.gen.closeBy = (if g.gen.closeBy = 0 then 2 else g.gen.closeBy) ∧ x.gen.st = 8) ∧
        ∀ m : Nat, m < g.members → ∃ x ∈ u.coord.sent, x.subop = 7 ∧ x.dest = w16 (g.memberId m) ∧ x.h = some h ∧ x.region = r.toNat ∧
          x.body = toLe 2 r.toNat ++ [0, 0] ++ toLe 4 g.gen.gOpen) ∧
      (g.gen.st ≠ 8 → Completes (.redClose h r arg) s fun u => u.rgn = s.rgn ∧ u.Replied h 0x212 3 g.gen.st []) ∧
      (g.closeMs ≠ 0 → g.gen.st = 8 ∨ g.gen.st = 9 → g.gen.phase = 0 → g.gen.closeBy = 0 → Completes (.redCloseTimer r) s fun u =>
        g.gen.openAt + msec g.closeMs ≤ u.time.nclk ∧ (∃ x : Region, u.region r.toNat = some x ∧ x.gen.closeBy = 1) ∧
        ∀ m : Nat, m < g.members → ∃ x ∈ u.coord.sent, x.subop = 7 ∧ x.dest = w16 (g.memberId m) ∧ x.h = none ∧ x.region = r.toNat)) ∧
    (s.coordinates g = true → g.st = 1 ∨ g.st = 2 →
      (g.kind ≤ 1 → Completes (.srcAdvance h r arg) s fun u =>
        u.region r.toNat = some { g with cgen := (g.cgen + 1) % 2 ^ 32 } ∧
        (∀ e ∈ s.dependents r.toNat, ∀ m : Nat, m < e.2.members → ∃ x ∈ u.coord.sent, x.subop = 9 ∧ x.dest = w16 (e.2.memberId m) ∧ x.h = some h ∧
          x.body = toLe 2 e.1 ++ toLe 2 r.toNat ++ toLe 4 ((g.cgen + 1) % 2 ^ 32)) ∧
        (s.dependents r.toNat = [] → s.unacked 9 r.toNat (some h) = false → u.Replied h 0x214 0 0 [])) ∧
      (g.kind = 3 → (s.memberOf g).isSome = true → Completes (.matDrop h r arg) s fun u =>
        u.region r.toNat = some { g with matEpoch := (g.matEpoch + 1) % 2 ^ 32 } ∧ u.mem = s.mem ∧
        ((∀ m : Nat, m < g.members → s.isMe (g.memberId m) = true) → u.Replied h 0x215 0 0 []))) ∧
    (s.coordinates g = true → g.st ≠ 0 → g.kind ≠ 2 →
      (Completes (.redOpen h r arg) s fun u => u.rgn = s.rgn ∧ u.Replied h 0x211 stBAD_DESCRIPTOR 0 []) ∧
      (Completes (.redClose h r arg) s fun u => u.rgn = s.rgn ∧ u.Replied h 0x212 stBAD_DESCRIPTOR 0 []) ∧
      (Completes (.redNextN h r arg) s fun u => u.rgn = s.rgn ∧ u.Replied h 0x213 stBAD_DESCRIPTOR 0 [])) ∧
    (∀ a : W16, s.coordinates g = false → h.iss = .ep a → ∀ c ∈ [(Instr.redOpen h r arg, 0x211), (.redClose h r arg, 0x212), (.redNextN h r arg, 0x213),
        (.srcAdvance h r arg, 0x214), (.matDrop h r arg, 0x215)], Completes c.1 s fun u =>
      u.rgn = s.rgn ∧ ∃ x ∈ u.coord.sent, x.subop = 4 ∧ x.dest = w16 (g.memberId 0) ∧ x.h = some h ∧
        x.body = toLe 2 a.toNat ++ [0, 0] ++ cmdBlock c.2 h (toLe 2 r.toNat ++ toLe 2 arg.toNat))

/-- R182, R183, R189, R198: a member's report is kept until all have come, and the last begins the completion; its steps follow one another as what
each waits for comes, and the trigger fires last; a member closes, is done and opens the next as it is told, and drops materialised results. -/
def Obligations.GenerationsCompleteAcrossMembers : Prop :=
  ∀ (s : State) (c : Coord) (r : W16) (g : Region) (gen : W32), s.su.held = false → s.isDevice c.src = true → s.closedHint = none →
    (∀ a ∈ s.coord.acked, ¬(a.src = c.src ∧ a.xid = c.xid)) → (c.src, c.xid) ∉ s.coord.fwdOpen → s.region r.toNat = some g →
    (∀ (m : Nat) (short : W32) (fl : Byte), g.kind = 2 → s.coordinates g = true → s.memberIdx g c.src = some m → gen.toNat = g.gen.gOpen → g.gen.phase = 0 →
      g.gen.st ≠ 0xA →
      ((g.gen.reports.filter fun x => x.1 ≠ m).length + 1 < g.members → Completes (.redReport c r gen short fl) s fun u =>
        u.region r.toNat = some { g with gen := { g.gen with
          reports := (g.gen.reports.filter fun x => x.1 ≠ m) ++ [(m, short.toNat, fl.toNat)] } } ∧ u.Acked c 6 0) ∧
      (g.members ≤ (g.gen.reports.filter fun x => x.1 ≠ m).length + 1 → Completes (.redReport c r gen short fl) s fun u =>
        (∃ x : Region, u.region r.toNat = some x ∧ x.gen.phase = 1 ∧ x.gen.cGen = gen.toNat ∧ bit x.gen.cFlags 0 = true ∧
          bit x.gen.cFlags 1 = (((g.gen.reports.filter fun y => y.1 ≠ m).any fun y => y.2.1 ≠ 0) || short ≠ 0) ∧
          bit x.gen.cFlags 2 = (((g.gen.reports.filter fun y => y.1 ≠ m).any fun y => bit y.2.2 0) || bit fl.toNat 0) ∧
          x.gen.doneWait = List.range g.members) ∧ u.Acked c 6 0)) ∧
    ((g.gen.phase = 1 → (g.gen.jw.all fun p => s.pageOk p.1 p.2) = false → genStep r.toNat s = s) ∧
      (g.gen.phase = 2 → s.unacked 9 r.toNat none = true → genStep r.toNat s = s) ∧
      (g.gen.phase = 3 → g.gen.doneWait ≠ [] → genStep r.toNat s = s) ∧
      (g.gen.phase = 3 → g.gen.doneWait = [] → g.trigEn = true → (s.liveCtx (w16 g.trigCtx)).isSome = true → ∀ d ∈ s.activeIds,
        ∃ x : W32, (genStep r.toNat s).Told d none ([5, 0, 0, 0] ++ toLe 4 x.toNat ++
          (toLe 2 g.trigCtx ++ [byte g.trigTag, byte g.gen.cFlags] ++ toLe 2 r.toNat ++ [0, 0] ++ toLe 4 g.gen.cGen)))) ∧
    (g.kind = 2 → gen.toNat = g.gen.gOpen → g.gen.st = 8 → Completes (.redCloseMsg c r gen) s fun u =>
      u.region r.toNat = some { g with gen := { g.gen with closed := true, st := 9, reported := false } } ∧ u.Acked c 7 0) ∧
    (∀ (nNext : W16) (fl auto : Byte), g.kind = 2 → gen.toNat = g.gen.gOpen → g.gen.st ≠ 0xA →
      (auto = 1 → Completes (.redDone c r gen nNext fl auto) s fun u =>
        (∃ x : Region, u.region r.toNat = some x ∧ x.gen.gDone = gen.toNat ∧ x.gen.doneValid = bit fl.toNat 0 ∧ x.gen.incomplete = bit fl.toNat 1 ∧
          x.gen.sat = bit fl.toNat 2 ∧ x.gen.nan = bit fl.toNat 3 ∧ x.gen.st = 8 ∧ x.gen.gOpen = (gen.toNat + 1) % 2 ^ 32 ∧
          x.gen.nOpen = nNext.toNat ∧ x.gen.ruDone = 0 ∧
          x.cgen = (if s.coordinates g then g.cgen else (g.cgen + 1) % 2 ^ 32)) ∧ u.Acked c 8 0) ∧
      (auto ≠ 1 → Completes (.redDone c r gen nNext fl auto) s fun u =>
        (∃ x : Region, u.region r.toNat = some x ∧ x.gen.gDone = gen.toNat ∧ x.gen.st = 0xA ∧ x.gen.gOpen = g.gen.gOpen) ∧ u.Acked c 8 0)) ∧
    (∀ (src : W16) (cgen : W32), (s.memberOf g).isSome = true → src ≠ r → Completes (.matInval c r src cgen) s fun u =>
      u.region r.toNat = some { g with matEpoch := (g.matEpoch + 1) % 2 ^ 32 } ∧ u.Acked c 9 0 ∧ u.mem = s.mem ∧
      ∀ x : Region, s.region src.toNat = some x → u.region src.toNat = some { x with cgen := cgen.toNat }) ∧
    (∀ (d : W16) (x : CoordTx), (s.coord.sent.find? fun y => y.subop = 8 && y.region = r.toNat && y.dest = d) = some x →
      Completes (.genDoneResend r d) s fun u =>
        u.Told d none ([8, 0, 0, 0] ++ toLe 4 x.xid.toNat ++ x.body) ∧ u.coord.sent = s.coord.sent ∧ u.rgn = s.rgn)

/-! ### The flash tier and its carriers (04: R107 to R140, R491, R493) -/

/-- R117, R119 to R123, R126, R128 to R132: what the flash tier's reads, programs, verifications, checkpoints, erases and scans report takes effect as each rule says; a
durable write is answered once its journal page and every earlier one stand on their mirrors, and the map points to a dense copy once that has verified. -/
def Obligations.FlashWorkCompletes : Prop :=
  ∀ (s : State) (q : Quarter) (t : TenantId) (c : CarrierId) (i : Nat), s.su.held = false →
    (∀ (f : Fill) (g : Region) (l : PLoc) (r : PageRead), s.pool.trks = [] → s.pool.xwaits = [] → s.pool.pend = [] →
      (indices 16).all (fun k => !s.resizing k && !s.emptying k) = true → s.pool.fills = [f] → f.way < 8 → s.region f.region = some g →
      s.tier.fmap.find f.block = some (.dense l) → l.carrier < 8 → s.readWay l = 0 →
      satAdd 32 ((s.sb l.sb).reads.getD l.carrier 0) 1 < (s.reg .RD_LIMIT).toNat →
      (∀ (p : Page) (cells : Sparse Byte) (bad : List Nat) (newer : Bool), s.tier.pages.find (pageKey l) = some p → p.block = f.block → p.region = f.region →
        p.tenant = g.tenant.val → s.tierImage f.block f.region g.tenant = (cells, bad, newer) → r.stage = 1 → Completes (.flashReadDone f.block r) s fun u =>
          u.mem = Memory.paste s.mem (f.block * 16384) 16384 cells ∧ u.pool.fills = [] ∧ u.tier.fmap = s.tier.fmap) ∧
      (r.stage = 5 → Completes (.flashReadDone f.block r) s fun u => u.tier.fmap.find f.block = some .lost ∧ u.pool.fills = [])) ∧
    (∀ p : JPage, s.Still → (s.stream (streamKey q.val t)).pages.getLast? = some p → p.closed = false → Completes (.journalGroupExpire q t) s fun u =>
      p.since + nsec (s.rfld .JGROUP_NS 0 15 0) ≤ u.time.nclk ∧ u.mem = s.mem ∧ ∃ y : JPage, (u.stream (streamKey q.val t)).pages.getLast? = some y ∧ y.closed = true ∧
        y.seq = p.seq ∧ y.recs = p.recs ∧ y.await = ((s.mirrorOrder q.val).take 2).map Fin.val) ∧
    (∀ p : JPage, (s.stream (streamKey q.val t)).pages.find? (fun y => y.seq = i) = some p → (∀ y ∈ (s.stream (streamKey q.val t)).pages, y.seq = i → y = p) →
      p.await.contains c.val = true → c.val ∉ p.passed → (s.tier.remirror.any fun x => x.1 = streamKey q.val t && x.2.1 = i && x.2.2 = c.val) = false →
      (s.tier.sbs.any fun e => e.2.kind = 2 && e.2.use = 2) = false →
      (s.Still → Completes (.journalProgramDone q t i c true) s fun u =>
        u.mem = s.mem ∧ ∀ y ∈ (u.stream (streamKey q.val t)).pages, y.seq = i → y.await = (p.await.filter (· ≠ c.val)) ∧ y.passed = p.passed ++ [c.val]) ∧
      (∀ d : CarrierId, s.Still → ((s.mirrorOrder q.val).find? fun d => d ≠ c && !p.passed.contains d.val && !p.await.contains d.val) = some d →
        Completes (.journalProgramDone q t i c false) s fun u =>
          u.mem = s.mem ∧ ∀ y ∈ (u.stream (streamKey q.val t)).pages, y.seq = i → d.val ∈ y.await ∧ c.val ∉ y.await) ∧
      (∀ (x : Trk) (m : Msg) (e : Nat), s.pool.trks = [x] → s.pool.xwaits = [] → s.pool.fills = [] → s.pool.pend = [] →
        (indices 16).all (fun k => !s.resizing k && !s.emptying k) = true → x.who = .host e → x.ans = some m → x.wait = .journal →
        x.jwait = [(streamKey q.val t, i)] → p.closed = true →
        (∀ y ∈ (s.stream (streamKey q.val t)).pages, y.seq < i → y.ok = true) →
        (p.await = [c.val] → Completes (.journalProgramDone q t i c true) s fun u => u.Ans m ∧ u.pool.trks = []) ∧
        (∀ d : Nat, d ∈ p.await → d ≠ c.val → Completes (.journalProgramDone q t i c true) s fun u => u.out = s.out ∧ u.pool.trks = [x]))) ∧
    (s.Still → (s.tier.sbs.any fun e => e.2.kind = 2 && e.2.use = 2) = false → Completes .journalSpaceReclaimed s fun u =>
      u.mem = s.mem ∧ ∀ k : Nat, (u.stream k).pages = (s.stream k).pages.dropWhile fun p => p.ok && p.recs.all fun r => !r.live) ∧
    (∀ d : DStripe, (s.tier.dense.find? fun d => d.q = q.val && d.tenant = t.val && !d.closed) = some d → Completes (.denseStripeTimeout q t) s fun u =>
      { d with closed := true } ∈ u.tier.dense ∧ d.since + usec 20 ≤ u.time.nclk ∧ u.mem = s.mem ∧ u.tier.fmap = s.tier.fmap) ∧
    (∀ (d : DStripe) (pg : DPage) (prog hard : PassMask) (worst : List Nat), s.Still →
      (s.tier.dense.find? fun d => d.q = q.val && d.tenant = t.val && d.closed && !d.okWait) = some d →
      (d.pages = [pg] → pg.why = .writeBack → s.pageLive pg.page = true → s.logRoom (s.pageSlice pg.page) = true →
        s.inBypass (s.pageSlice pg.page) pg.page.block = false →
        (∀ k ∈ s.inServ, bit prog.toNat k.val = true ∧ bit hard.toNat k.val = true ∧ worst.getD k.val 0 < s.rfld .RET_THRESH 0 7 0) →
        Completes (.denseVerifyDone q t prog hard worst) s fun u =>
          u.tier.fmap.find pg.page.block = some (.dense ⟨s.dataCar d.sb d.page 0, d.sb, d.page⟩) ∧ d ∉ u.tier.dense ∧ u.mem = s.mem) ∧
      (∀ k ∈ s.inServ, bit prog.toNat k.val = false → Completes (.denseVerifyDone q t prog hard worst) s fun u =>
        u.tier.fmap = s.tier.fmap ∧ u.mem = s.mem)) ∧
    (s.tier.geo ≠ [] → Completes .checkpointInterval s fun u => (∀ w : Nat, w < 24 → ∃ k ∈ u.tier.ckpts, k.what = w) ∧ u.tier.fmap = s.tier.fmap ∧ u.mem = s.mem) ∧
    (∀ (k : Ckpt) (r : List Ckpt), s.Still → s.tier.ckpts = k :: r → k.what < 24 → (s.tier.dense.filter fun d => d.okWait) = [] →
      Completes .checkpointVerified s fun u =>
        u.tier.ckpts = r ∧ u.tier.logs.toList.getD k.what 0 = s.tier.logs.toList.getD k.what 0 - k.covers ∧ u.tier.ckptPt = s.ptNs ∧
        (∀ d : CarrierId, (u.car d).recSt = (s.car d).st) ∧ u.mem = s.mem) ∧
    (s.Still → (∀ e ∈ s.tier.sbs, e.1 = i → e.2 = s.sb i) → s.gcPick = some i → s.validIn i ≠ [] → s.geo.sbs ≠ 0 → s.tier.gc = none → s.tierCode ≠ 3 → s.tierCode ≠ 4 →
      (s.sbsFree * 100 < 3 * s.geo.sbs → Completes .gcStart s fun u => u.tier.gc = some i ∧ (u.sb i).reloc = true ∧ u.tier.fmap = s.tier.fmap ∧ u.mem = s.mem) ∧
      (3 * s.geo.sbs ≤ s.sbsFree * 100 → Completes .gcStart s fun u => u = s)) ∧
    (∀ pass : Bool, (s.sb i).use = 3 → (s.sb i).toErase.contains c.val = true → (s.sb i).erases.length = 8 → (s.sb i).reads.length = 8 →
      Completes (.flashEraseDone c i pass) s fun u =>
        (u.sb i).toErase = ((s.sb i).toErase.filter (· ≠ c.val)) ∧ (u.sb i).use = (if ((s.sb i).toErase.filter (· ≠ c.val)) = [] then 0 else 3) ∧ u.mem = s.mem ∧
        (pass = true → (u.sb i).erases.getD c.val 0 = satAdd 16 ((s.sb i).erases.getD c.val 0) 1 ∧ (u.sb i).reads.getD c.val 0 = 0)) ∧
    (s.Still → (∀ e ∈ s.tier.sbs, e.1 = i → e.2 = s.sb i) → s.tier.scrubAll = false → (s.car c).st = 4 ∨ (s.car c).st = 5 →
      (s.rfld .WL_DELTA 0 15 0 < s.eraseSpread c → s.coldest c = some i → s.validIn i ≠ [] → Completes (.wearLevelCheck c) s fun u =>
        (u.sb i).reloc = true ∧ u.tier.wlAt[c] = u.time.nclk ∧ (s.tier.wlAt[c] ≠ 0 → s.tier.wlAt[c] + secs 10 ≤ u.time.nclk) ∧ u.mem = s.mem) ∧
      (s.eraseSpread c ≤ s.rfld .WL_DELTA 0 15 0 → Completes (.wearLevelCheck c) s fun u => u.tier = s.tier ∧ u.mem = s.mem)) ∧
    (∀ r : PageRead, s.Still → (∀ e ∈ s.tier.sbs, e.1 = i → e.2 = s.sb i) → (s.sb i).use = 1 ∨ (s.sb i).use = 2 → (s.car c).st = 4 ∨ (s.car c).st = 5 → s.validIn i ≠ [] →
      r.stage = 2 ∨ r.stage = 3 ∨ r.stage = 5 ∨ (r.stage = 1 ∧ s.rfld .RET_THRESH 0 7 0 ≤ r.worstBits) → Completes (.retentionScan c i r) s fun u =>
        (u.sb i).reloc = true ∧ u.tier.fmap = s.tier.fmap ∧ u.mem = s.mem) ∧
    (s.Still → (s.tier.sbs.any fun e => e.2.kind = 2 && e.2.use = 2) = false → Completes .remirrorDone s fun u =>
      u.tier.remirror = [] ∧ u.mem = s.mem ∧ ∀ x ∈ s.tier.remirror, ∀ p ∈ (u.stream x.1).pages, p.seq = x.2.1 → x.2.2 ∈ p.passed)

/-- R108 to R111, R135, R136, R138, R139, R386, R491: carriers are inserted, pulled, owned and disowned by their lands, discovered and refused by their descriptors, and taken
out of service and back by commands, which are refused in the wrong state. Where all eight lines fall within 1 ms, no carrier is FAILED and an ACTIVE
device is FENCED (how the others stand then: log entry 64). -/
def Obligations.CarriersComeAndGo : Prop :=
  ∀ (s : State) (c : CarrierId), s.su.held = false →
    (Completes (.carPrsntFall c) s fun u => u.present c = true ∧ (u.car c).st = (if !s.owned c then 1 else if s.tierOn then 2 else 0) ∧
      ∀ d : CarrierId, d ≠ c → u.car d = s.car d) ∧
    (s.Still → (s.car c).st = 4 ∨ (s.car c).st = 5 → Completes (.carPrsntRise c) s fun u => u.present c = false ∧ (u.car c).st = 7 ∧ (u.car c).wasFailed = true ∧ u.mem = s.mem) ∧
    ((s.car c).st ≠ 4 → (s.car c).st ≠ 5 → (s.car c).st ≠ 7 → Completes (.carPrsntRise c) s fun u =>
      u.present c = false ∧ (u.car c).st = 0 ∧ ∀ d : CarrierId, d ≠ c → u.car d = s.car d) ∧
    (s.pair.role ≠ 1 → s.pair.role ≠ 5 →
      ((s.car c).st = 4 ∨ (s.car c).st = 5 → Completes (.carOwnFall c) s fun u =>
        u.owned c = false ∧ (u.car c).st = (s.car c).st ∧ (u.car c).holdAt = some s.time.nclk ∧ u.tier.fenceFirst.isSome = true) ∧
      ((s.car c).st ≠ 4 → (s.car c).st ≠ 5 → (s.car c).st ≠ 7 → s.present c = true → Completes (.carOwnFall c) s fun u =>
        u.owned c = false ∧ (u.car c).st = 1)) ∧
    (∀ f : Nat, s.Still → s.tier.fenceFirst = some f → (s.car c).st = 4 ∨ (s.car c).st = 5 → (s.car c).holdAt.isSome = true → s.owned c = false →
      (s.pin.carOwn ≠ 0 → Completes .carOwnHoldExpire s fun u => (u.car c).st = 7 ∧ f + msec 1 ≤ u.time.nclk ∧ u.tier.fenceFirst = none ∧ u.mem = s.mem) ∧
      (s.pin.carOwn = 0 → (∀ (d : CarrierId) (x : Nat), (s.car d).holdAt = some x → f ≤ x) → Completes .carOwnHoldExpire s fun u =>
        (u.car c).st = 1 ∧ (∀ d : CarrierId, (s.car d).st ≠ 7 → (u.car d).st ≠ 7) ∧ u.tier.fenceFirst = none ∧
        (s.pair.role = 1 → u.pair.role = 6) ∧ (s.pair.role ≠ 1 → u.pair = s.pair ∧ u.mem = s.mem))) ∧
    (∀ f : Nat, s.pair.role = 1 → s.tier.fenceFirst = some f → s.time.nclk ≤ f + msec 1 → (s.car c).st = 4 ∨ (s.car c).st = 5 →
      (∀ d : CarrierId, d ≠ c → s.owned d = false) → (∀ (d : CarrierId) (x : Nat), d ≠ c → (s.car d).holdAt = some x → f ≤ x) → f ≤ s.time.nclk →
      Completes (.carOwnFall c) s fun u => u.pair.role = 6 ∧ (∀ d : CarrierId, (u.car d).st = (if (s.car d).st = 0 ∨ (s.car d).st = 7 then (s.car d).st else 1)) ∧
        u.tier.fenceFirst = none) ∧
    ((s.car c).holdAt.isSome = true → Completes (.carOwnRise c) s fun u =>
      u.owned c = true ∧ (u.car c).holdAt = none ∧ (u.car c).st = (s.car c).st) ∧
    ((s.car c).holdAt = none → (s.car c).st = 1 → s.present c = true → Completes (.carOwnRise c) s fun u =>
      u.owned c = true ∧ (u.car c).st = (if s.tierOn then 2 else 0)) ∧
    (∀ r : CarrierReport, (s.car c).st = 2 →
      (s.refuseWhy c r ≠ 0 → Completes (.carrierDiscoveryDone c r) s fun u => (u.car c).st = 8 ∧ (u.car c).why = s.refuseWhy c r ∧ u.tier.geo = s.tier.geo) ∧
      (s.Still → s.refuseWhy c r = 0 → (∀ i : Nat, i < 4 → r.speeds.getD i 0 ≠ 0) → s.tier.opened = false → Completes (.carrierDiscoveryDone c r) s fun u =>
        (u.car c).st = 3 ∧ (u.car c).desc = r.desc ∧ u.tier.geo = (if s.tier.geo = [] then r.desc else s.tier.geo) ∧
        ∀ i : Nat, i < 4 → (u.car c).speeds.getD i 0 = (if leAt r.desc 0x25 1 = 1 then 1 else r.speeds.getD i 0)) ∧
      (s.Still → s.refuseWhy c r = 0 → chanFitted r.desc 0 = true → r.speeds.getD 0 0 = 0 → Completes (.carrierDiscoveryDone c r) s fun u => (u.car c).st = 7)) ∧
    (s.isBusy .CAR_CMD_RESULT c.val = false → s.flashEn = true →
      (∀ force : Bool, (s.car c).st ≠ 5 → Completes (.carOffline c force) s fun u =>
        u.tier = s.tier ∧ u.reg .CAR_CMD_RESULT c.val = w32 ((s.car c).st % 16 * 256 + 3)) ∧
      (∀ force : Bool, (s.car c).st = 5 → s.tierCode ≠ 0 → (force = false ∨ s.tierCode ≠ 1) → Completes (.carOffline c force) s fun u =>
        u.tier = s.tier ∧ u.reg .CAR_CMD_RESULT c.val = w32 (s.tierCode % 16 * 256 + 3)) ∧
      (∀ force : Bool, s.Still → (s.car c).st = 5 → s.tierCode = 0 ∨ (force = true ∧ s.tierCode = 1) → Completes (.carOffline c force) s fun u =>
        u.isBusy .CAR_CMD_RESULT c.val = true ∧ (u.car c).recLeft = s.tier.sbSeq ∧ (∀ e ∈ u.tier.sbs, e.2.use ≠ 1) ∧ u.mem = s.mem ∧
        ∀ (k : Nat) (p : JPage), p ∈ (u.stream k).pages → c.val ∉ p.await) ∧
      (s.Still → s.mayAttach c = true → Completes (.carAttach c) s fun u =>
        (u.car c).st = 4 ∧ u.reg .CAR_CMD_RESULT c.val = 0 ∧ u.reg .REBUILD_DONE c.val = 0 ∧ u.mem = s.mem ∧
        (u.car c).doneSb = (if descOurs (s.car c).desc && descSlot (s.car c).desc = c.val && (s.car c).recLeft ≠ 0 &&
          descLeft (s.car c).desc = (s.car c).recLeft && !(s.car c).wasFailed then (s.car c).recLeft else 0)) ∧
      ((s.car c).st ≠ 3 → (s.car c).st ≠ 6 → Completes (.carAttach c) s fun u =>
        u.tier = s.tier ∧ u.reg .CAR_CMD_RESULT c.val = w32 ((s.car c).st % 16 * 256 + 3)) ∧
      ((s.car c).st = 3 ∨ (s.car c).st = 6 → s.tier.opened = true → s.mayAttach c = false → Completes (.carAttach c) s fun u =>
        u.tier = s.tier ∧ u.reg .CAR_CMD_RESULT c.val = w32 (s.tierCode % 16 * 256 + 3))) ∧
    (s.Still → s.leaving c = true → Completes (.carOfflineDone c) s fun u =>
      (u.car c).st = 6 ∧ (u.car c).desc = descWrite (s.car c).desc c (s.car c).recLeft ∧ u.reg .CAR_CMD_RESULT c.val = 0 ∧ u.mem = s.mem) ∧
    (s.leaving c = false → Completes (.carOfflineDone c) s fun u => u = s) ∧
    (s.Still → (s.car c).st = 4 → Completes (.rebuildDone c) s fun u =>
      (u.car c).st = 5 ∧ (u.car c).recLeft = 0 ∧ (u.car c).desc = descWrite (s.car c).desc c 0 ∧ u.reg .REBUILD_DONE c.val = s.reg .REBUILD_TOTAL c.val ∧ u.mem = s.mem)

/-! ### Queues, programs, tasks, triggers and kernel cores (07, 09: R225 to R229, R242, R270 to R284) -/

/-- R271, R272, R273, R277: a tenant's administrator creates a queue that is absent and deletes one that is paused and has no task left; its hosts pause
and resume it; a doorbell that moves a ring's count ahead by at most its size moves it, any other only counts. -/
def Obligations.QueuesAreManaged : Prop :=
  ∀ (s : State) (h : CmdHdr) (t : TenantId) (c : Ctx), s.su.held = false → s.liveCtx h.handle = some c → c.tenant = t → h.queue.toNat < 8 →
    (s.classOf h.iss = .ta t →
      (∀ a : Bytes, queueForm (s.rings t) a = true → c.st = 1 ∨ c.st = 2 → s.queue (queueKey (ctxIndex h.handle) h.queue.toNat) = none →
        (s.rings t = true → s.ringOk t (queueOf true a).sqSpa (128 * (queueOf true a).sqSize) = true ∧
          s.ringOk t (queueOf true a).cqSpa (32 * (queueOf true a).cqSize) = true) →
        Completes (.queueCreate h a) s fun u =>
          u.queue (queueKey (ctxIndex h.handle) h.queue.toNat) = some (queueOf (s.rings t) a) ∧ u.Replied h 0x111 0 0 [] ∧
          (∀ k : Nat, k ≠ queueKey (ctxIndex h.handle) h.queue.toNat → u.queue k = s.queue k) ∧ u.work.tasks = s.work.tasks ∧ u.mem = s.mem) ∧
      (∀ (a : Bytes) (q : Queue), queueForm (s.rings t) a = true → c.st = 1 ∨ c.st = 2 →
        s.queue (queueKey (ctxIndex h.handle) h.queue.toNat) = some q → Completes (.queueCreate h a) s fun u =>
          u.work = s.work ∧ u.Replied h 0x111 3 q.st []) ∧
      (∀ q : Queue, s.cmdQueue h c = some q → q.st = 2 →
        s.liveOn (queueKey (ctxIndex h.handle) h.queue.toNat) = false →
        s.owes (queueKey (ctxIndex h.handle) h.queue.toNat) = false → Completes (.queueDelete h) s fun u =>
          u.queue (queueKey (ctxIndex h.handle) h.queue.toNat) = none ∧ u.Replied h 0x114 0 0 [] ∧ u.mem = s.mem ∧
          ∀ k : Nat, k ≠ queueKey (ctxIndex h.handle) h.queue.toNat → u.queue k = s.queue k)) ∧
    (s.classOf h.iss = .ta t ∨ s.classOf h.iss = .host t → ∀ q : Queue, s.cmdQueue h c = some q →
      (q.st = 1 → Completes (.queuePause h) s fun u =>
        u.queue (queueKey (ctxIndex h.handle) h.queue.toNat) = some { q with st := 2 } ∧ u.Replied h 0x112 0 0 [] ∧ u.work.tasks = s.work.tasks) ∧
      (q.st ≠ 1 → Completes (.queuePause h) s fun u => u.work = s.work ∧ u.Replied h 0x112 3 q.st []) ∧
      (q.st = 2 → Completes (.queueResume h) s fun u =>
        u.queue (queueKey (ctxIndex h.handle) h.queue.toNat) = some { q with st := 1 } ∧ u.Replied h 0x113 0 0 [] ∧ u.work.tasks = s.work.tasks)) ∧
    (∀ (m : MgtMsg) (q : Queue) (new : W32), leAt m.payload 0 2 = h.handle.toNat → leAt m.payload 2 1 = h.queue.toNat → leAt m.payload 4 4 = new.toNat →
      m.payload.length = 8 → s.queue (queueKey (ctxIndex h.handle) h.queue.toNat) = some q → q.sqSize ≠ 0 →
      s.classOfEp m.src = .ta t ∨ s.classOfEp m.src = .host t →
      (leAt m.payload 3 1 = 0 → ahead q.sqTail new q.sqSize = true → Completes (.doorbell m) s fun u =>
        u.queue (queueKey (ctxIndex h.handle) h.queue.toNat) = some { q with sqTail := new } ∧ u.work.tasks = s.work.tasks) ∧
      (leAt m.payload 3 1 = 0 → ahead q.sqTail new q.sqSize = false → Completes (.doorbell m) s fun u =>
        u = s.count .DBELL_BAD_CNT) ∧
      (leAt m.payload 3 1 = 1 → ahead q.cqHead new q.cqSize = true → Completes (.doorbell m) s fun u =>
        u.queue (queueKey (ctxIndex h.handle) h.queue.toNat) = some { q with cqHead := new }))

/-- R242, R274, R275, R276: an image that is read and passes its checks becomes a program with the lowest free index; it is unloaded when no task uses
it; a trigger is raised by a message to every active device, where its count rises by one, and read back. -/
def Obligations.ProgramsAndTriggers : Prop :=
  ∀ (s : State) (h : CmdHdr) (t : TenantId), s.su.held = false →
    (∀ (ca : W64) (len : W32), s.classOf h.iss = .ta t → s.refOk h = true → s.kcoreEn = true → len.toNat ≤ 163904 → s.work.progs.length < 256 →
      Completes (.progLoad h ca len) s fun u =>
        let p := cmdOpen (.progLoad h ca len) s
        let q := argRead p.1 h ca.toNat len.toNat p.2
        match q.1 with
        | none => u = q.2
        | some (st, b) =>
          let v := cmdClose p.1 q.2
          (st ≠ 0 → st ≠ 3 → u.Replied h 0x121 st 0 ([0, 0, 0xFF, 0xFF] ++ zeros 12)) ∧
          (st = 0 → v.classOf h.iss = .ta t →
            (∀ i : Nat, loadCheck b = some (.bad i) → u.Replied h 0x121 0x0D 0 (progResult 0 i 0) ∧ u.work.progs = v.work.progs) ∧
            (∀ i : Nat, loadCheck b = some (.unsupported i) → u.Replied h 0x121 stUNSUPPORTED 0 (progResult 0 i 0) ∧ u.work.progs = v.work.progs) ∧
            (∀ i : Nat, loadCheck b = none → ((List.range 256).find? fun i => (v.work.progs.find i).isNone) = some i → ∃ need : Nat,
              u.work.progs.find i = some ⟨v.work.progIncs.get 0 i, t, ctxIndex h.handle, b, need⟩ ∧
              u.Replied h 0x121 0 0 (progResult (v.work.progIncs.get 0 i * 4096 + i) 0xFFFF need)))) ∧
    (∀ (p : W16) (g : Prog), s.classOf h.iss = .ta t → s.prog p.toNat = some g → g.tenant = t →
      ((s.work.tasks.any fun x => x.prog = some p.toNat && !x.final) = false → Completes (.progUnload h p) s fun u =>
        u.prog p.toNat = none ∧ u.work.progIncs.get 0 (p.toNat % 256) = (s.work.progIncs.get 0 (p.toNat % 256) + 1) % 16 ∧
        (∀ w ∈ u.obs.watches, w.prog ≠ p.toNat) ∧ u.Replied h 0x122 0 0 [] ∧ u.mem = s.mem) ∧
      ((s.work.tasks.any fun x => x.prog = some p.toNat && !x.final) = true → Completes (.progUnload h p) s fun u =>
        u.work = s.work ∧ u.Replied h 0x122 3 2 [])) ∧
    (∀ (tag : Byte) (c : Ctx), s.classOf h.iss = .ta t ∨ s.classOf h.iss = .host t → s.liveCtx h.handle = some c → c.tenant = t → tag.toNat < 64 →
      c.st = 1 ∨ c.st = 2 →
      (Completes (.trigRaise h tag) s fun u =>
        u.Replied h 0x141 0 0 [] ∧ u.mem = s.mem ∧
        ∀ d ∈ s.activeIds, ∃ x : W32, u.Told d none ([5, 0, 0, 0] ++ toLe 4 x.toNat ++ (toLe 2 h.handle.toNat ++ [tag, 0] ++ zeros 8))) ∧
      (Completes (.trigRead h tag) s fun u =>
        let r := c.trigs.get ⟨0, 0, 0, 0⟩ tag.toNat
        u.Replied h 0x142 0 0 (toLe 4 r.count.toNat ++ toLe 4 r.gen.toNat ++ toLe 2 r.region.toNat ++ [r.flags, 0]) ∧ u.ctx = s.ctx)) ∧
    (∀ (k : Coord) (handle region : W16) (tag flags : Byte) (gen : W32) (c : Ctx), s.isDevice k.src = true → s.closedHint = none →
      (∀ a ∈ s.coord.acked, ¬(a.src = k.src ∧ a.xid = k.xid)) → (k.src, k.xid) ∉ s.coord.fwdOpen → s.liveCtx handle = some c →
      Completes (.trigRaiseMsg k handle tag flags region gen) s fun u =>
        u.liveCtx handle = some { c with
          trigs := c.trigs.put ⟨0, 0, 0, 0⟩ tag.toNat ⟨(c.trigs.get ⟨0, 0, 0, 0⟩ tag.toNat).count + 1, gen, region, flags⟩ } ∧
        u.Acked k 5 0 ∧ u.mem = s.mem)

/-- R272, R279 to R283: a task that is submitted passes its checks, and waits or is ready, or is refused with its check's status; one that is named is
cancelled at the scheduler's next step, and its state read back; a final one conflicts. -/
def Obligations.TasksAreSubmitted : Prop :=
  ∀ (s : State) (h : CmdHdr) (t : TenantId) (c : Ctx), s.su.held = false → s.classOf h.iss = .ta t ∨ s.classOf h.iss = .host t →
    s.liveCtx h.handle = some c → c.tenant = t → h.queue.toNat < 8 →
    (∀ (d : Bytes) (q : Queue), s.kcoreEn = true → s.rings t = false → d.length = 128 → s.cmdQueue h c = some q →
      (s.taskRoom (ctxIndex h.handle) = false → Completes (.taskSubmit h d) s fun u =>
        u.work = s.work ∧ u.Replied h 0x131 stRETRY_BUSY 0 []) ∧
      (s.taskRoom (ctxIndex h.handle) = true → (∀ w ∈ s.work.cmds, ∀ (k : CmdHdr) (b : Bytes), w.cmd ≠ .taskSubmit k b) →
        (∀ y ∈ s.work.tasks, y.seq ≤ s.work.taskSeq) → Completes (.taskSubmit h d) s fun u =>
          let v := newTask (ctxIndex h.handle) h.queue.toNat d (cmdOpen (.taskSubmit h d) s).2
          u.work.taskSeq = s.work.taskSeq + 1 ∧ ∃ x : Task, v.2.taskBy v.1 = some x ∧ x.st = 0 ∧ x.desc = d ∧
            match (submitChecks x v.2).1 with
            | .wait => ∃ y ∈ u.work.tasks, y.seq = v.1 ∧ y.st = 0
            | .fail st => u.Replied h 0x131 st 0 [] ∧ ∀ y ∈ u.work.tasks, y.seq ≠ v.1
            | .ok _ => u.Replied h 0x131 0 0 [] ∧ ∃ y ∈ u.work.tasks, y.seq = v.1 ∧ (y.st = 1 ∨ y.st = 2))) ∧
    (∀ (d : Bytes), s.kcoreEn = true → s.rings t = false → d.length = 128 → s.cmdQueue h c = none → Completes (.taskSubmit h d) s fun u =>
      u.work = s.work ∧ u.Replied h 0x131 3 0 []) ∧
    (∀ (tag : W32) (x : Task), s.taskNamed (ctxIndex h.handle) h.queue.toNat tag = some x →
      (x.final = false → Completes (.taskCancel h tag) s fun u => u = { s with work := { s.work with cancels := s.work.cancels ++ [(x.seq, h)] } }) ∧
      (x.final = true → Completes (.taskCancel h tag) s fun u => u.work = s.work ∧ u.Replied h 0x132 3 x.st []) ∧
      (x.final = false → Completes (.taskQuery h tag) s fun u => u.work = s.work ∧ u.Replied h 0x133 0 0 [byte x.st, 0, 0, 0]) ∧
      (∀ q : Queue, x.final = true → s.queue x.key = some q → Completes (.taskQuery h tag) s fun u =>
        u.work = s.work ∧ u.Replied h 0x133 0 0 ([byte x.st, 0, 0, 0] ++ taskRecord x q false))) ∧
    (∀ tag : W32, s.taskNamed (ctxIndex h.handle) h.queue.toNat tag = none →
      (Completes (.taskCancel h tag) s fun u => u.work = s.work ∧ u.Replied h 0x132 0x0D 0 []))

/-- R225 to R229, R281 to R284, R194: at each step of the scheduler cancelled tasks become final and a ready core takes a tile of a task that is ready;
a tile's end frees its core; a core that faults, or runs past its watchdog, fails its task and is cleared and tested before it serves again. -/
def Obligations.CoresRunTiles : Prop :=
  ∀ (s : State) (k : CoreId), s.su.held = false →
    (∀ (n : Nat) (h : CmdHdr) (x : Task), s.work.cancels = [(n, h)] → s.taskBy n = some x → x.final = false → Completes .schedStep s fun u =>
      u.work.cancels = [] ∧ u.Replied h 0x132 0 0 [] ∧ (∃ y ∈ u.work.tasks, y.seq = n ∧ y.st = 6) ∧ s.time.nclk ≤ u.time.nclk) ∧
    (∀ (x : Task) (c : Ctx) (q : Queue), s.work.cancels = [] → s.work.comps = [] → s.work.tasks = [x] → x.st = 2 → s.hasTile x = true →
      s.ctxBy x.ctx = some c → c.st = 1 → s.work.queues = [(x.key, q)] → q.st = 1 → q.prio < 4 → s.coreTenant k = some c.tenant →
      s.coreReady k = true → s.pwr.st = 0 → x.ctx < 4096 → x.queue < 8 → Completes .schedStep s fun u =>
        (∃ j : CoreId, (u.coreSt j).st = 2 ∧ (u.coreSt j).tile = some (.task x.seq)) ∧ ∃ y ∈ u.work.tasks, y.seq = x.seq ∧ y.st = 3) ∧
    (∀ (n : Nat) (last : Bool), (s.coreSt k).st = 2 → (s.coreSt k).tile = some (.task n) → Completes (.tileDone k last) s fun u =>
      u.coreSt k = { s.coreSt k with st := 1, tile := none } ∧ (∀ i : CoreId, i ≠ k → u.coreSt i = s.coreSt i) ∧ u.pwr.lastTile = s.time.nclk ∧
      (last = true → ∀ y ∈ u.work.tasks, y.seq = n → y.lastSeen = true) ∧ u.mem = s.mem) ∧
    (∀ (r : BitVec 12) (b : Nat) (x : Comp),
      (s.work.comps.find? fun y => y.region = r.toNat && y.blk = b && y.dispatched && !y.ended) = some x → Completes (.cmpBlockDone r b) s fun u =>
        u = s.updComp x fun y => { y with ended := true }) ∧
    (∀ (e : CoreCause) (n : Nat) (x : Task), (s.coreSt k).st = 2 → (s.coreSt k).tile = some (.task n) → s.taskBy n = some x → x.failing = false →
      Completes (.coreFault k e) s fun u =>
        (u.coreSt k).st = 4 ∧ (u.coreSt k).tile = none ∧ (u.coreSt k).cleared = false ∧ u.isBusy .KC_CMD_RESULT k.val = true ∧
        u.rfld .KC_FAULT k.val 31 31 = 1 ∧ ∀ y ∈ u.work.tasks, y.seq = n → y.failing = true) ∧
    ((s.coreSt k).st = 2 → (s.coreSt k).tile = none → Completes (.kcWatchdogExpire k) s fun u =>
      (u.coreSt k).st = 4 ∧ (s.coreSt k).since + msec (s.rfld .KC_WDOG k.val 13 0) ≤ u.time.nclk ∧ u.rfld .KC_FAULT k.val 31 31 = 1) ∧
    (s.isBusy .KC_CMD_RESULT k.val = false →
      ((s.coreSt k).st = 1 ∨ (s.coreSt k).st = 3 ∨ (s.coreSt k).st = 5 → Completes (.kcReset k) s fun u =>
        u.coreSt k = ⟨4, none, s.time.nclk, false⟩ ∧ u.isBusy .KC_CMD_RESULT k.val = true ∧ u.mem = s.mem) ∧
      ((s.coreSt k).st = 2 → Completes (.kcReset k) s fun u =>
        u.work = s.work ∧ u.reg .KC_CMD_RESULT k.val = w32 (2 * 256 + 3))) ∧
    ((s.coreSt k).st = 4 →
      ((s.coreSt k).cleared = false → Completes (.kcClearDone k) s fun u =>
        u.coreSt k = { s.coreSt k with cleared := true } ∧ (s.coreSt k).since + usec 26 ≤ u.time.nclk) ∧
      ((s.coreSt k).cleared = true → s.isBusy .KC_CMD_RESULT k.val = true →
        (Completes (.kcSelftestDone k true) s fun u => (u.coreSt k).st = 1 ∧ u.reg .KC_CMD_RESULT k.val = 0) ∧
        (Completes (.kcSelftestDone k false) s fun u => (u.coreSt k).st = 5 ∧ u.rfld .KC_FAULT k.val 31 31 = 1)))

/-! ### Links (10, R295 to R307, R316, R318, R492) -/

/-- R296: signal takes a link from DETECT to TRAIN at the highest allowed rate, training to CONFIG with a CONFIG flit sent; a CONFIG flit
that passes every check takes it to AUTH at the widest common width, one that fails is REFUSED with the cause of the first failing check;
certificates and signatures that hold take it to ACTIVE with every count at 0, others are REFUSED with cause 0x8. -/
def Obligations.LinkTrainingRunsTheSteps : Prop :=
  ∀ (s : State) (l : LinkId), s.su.held = false →
    ((s.link l).st = 1 → Answers (.laneSignalDetect l) s fun t =>
      t = settle (s.updLink l fun k => { k with st := 2, trainRate := s.maxRate l, since := s.time.nclk })) ∧
    (∀ lanes : BitVec 4, (s.link l).st = 2 → Answers (.linkTrainDone l lanes) s fun t =>
      ∃ hdr body, bits hdr.toNat 63 60 = 8 ∧
        t = settle (emit (.flit l hdr body)
          (s.updLink l fun k => { k with st := 3, laneOk := lanes.toNat, since := s.time.nclk }))) ∧
    (∀ p : PeerConfig, (s.link l).st = 3 → s.configCause l p = 0 → Answers (.configFlit l p) s fun t =>
      (t.link l).st = 4 ∧ (t.link l).dir = s.expectDir l ∧ (t.link l).rate = (s.link l).trainRate ∧
        (t.link l).width = bestWidth p.widths.toNat (s.maxWidth l) (s.link l).laneOk ∧
        (t.link l).lanes = lanesOf (t.link l).width (s.link l).laneOk ∧ (t.link l).peerId = p.peerId ∧ (t.link l).peerDepth = p.depths ∧
        ∀ m : LinkId, m ≠ l → t.link m = s.link m) ∧
    (∀ p : PeerConfig, (s.link l).st = 3 → s.configCause l p ≠ 0 → Answers (.configFlit l p) s fun t =>
      (t.link l).st = 8 ∧ (t.link l).cause = s.configCause l p) ∧
    (∀ v : AuthVerdict, (s.link l).st = 4 → v.chainOk = true → v.sigOk = true → s.hw.secOpen = false →
      ((s.link l).dir = 3 → s.trusts v.anchor = true) → Answers (.authFlit l v) s fun t =>
        (t.link l).st = 5 ∧ (t.link l).txN = 0 ∧ (t.link l).txU = 0 ∧ (t.link l).rxN = 0 ∧ (t.link l).rxU = 0 ∧
        (t.link l).ackN = 0 ∧ (t.link l).advN = 0 ∧ (t.link l).sent = List.replicate 6 0 ∧
        (t.link l).freed = List.replicate 6 0 ∧ (t.link l).peerFreed = List.replicate 6 0 ∧ (t.link l).width = (s.link l).width ∧
        (t.link l).rate = (s.link l).rate ∧ (t.link l).peerId = (s.link l).peerId) ∧
    (∀ v : AuthVerdict, (s.link l).st = 4 → (v.chainOk = false ∨ v.sigOk = false ∨ (s.link l).dir = 3 ∧ s.trusts v.anchor = false) →
      Answers (.authFlit l v) s fun t => (t.link l).st = 8 ∧ (t.link l).cause = 8)

/-- R296: a training step that passes its time limit. TRAIN falls back once from K200 to K100, else the link goes DOWN with cause 0x1;
CONFIG and AUTH end REFUSED, AUTH with cause 0x8. The time of the step has then passed. -/
def Obligations.LinkTrainingTimesOut : Prop :=
  ∀ (s : State) (l : LinkId), s.su.held = false →
    ((s.link l).st = 2 → (s.link l).trainRate = 2 → Answers (.linkTrainTimeout l) s fun t =>
      (t.link l).st = 2 ∧ (t.link l).trainRate = 1 ∧ (s.link l).since + msec 500 ≤ t.time.nclk) ∧
    ((s.link l).st = 2 → (s.link l).trainRate ≠ 2 → Answers (.linkTrainTimeout l) s fun t =>
      (t.link l).st = 7 ∧ (t.link l).cause = 1) ∧
    ((s.link l).st = 3 → Answers (.configTimeout l) s fun t =>
      (t.link l).st = 8 ∧ (s.link l).since + msec 1 ≤ t.time.nclk) ∧
    ((s.link l).st = 4 → Answers (.authTimeout l) s fun t =>
      (t.link l).st = 8 ∧ (t.link l).cause = 8 ∧ (s.link l).since + msec 50 ≤ t.time.nclk)

/-- R492; 10 (R303, R304, R295): lock lost on a lane in use starts the down timer, once, and never in RETRAIN; lock regained on every lane in use within
the limit stops it; at its end the lanes that hold lock decide between a narrower RETRAIN and DOWN; RETRAIN ends ACTIVE at its target with keys
and counts kept, or DOWN with cause 0x6; DOWN restarts at DETECT. -/
def Obligations.LinkLockLossAndRetrain : Prop :=
  ∀ (s : State) (l : LinkId), s.su.held = false →
    (∀ lane : Fin 4, (s.link l).st = 5 → (s.link l).lanes.testBit lane.val = true → (s.link l).downAt = none →
      Answers (.laneLockLoss l lane) s fun t =>
        (t.link l).downAt = some s.time.nclk ∧ (t.link l).st = 5 ∧
        (t.link l).laneOk = setBits (s.link l).laneOk lane.val lane.val 0 ∧ t.time = s.time ∧ t.out = s.out) ∧
    (∀ lane : Fin 4, ∀ at_ : Nat, (s.link l).downAt = some at_ →
      (s.link l).lanes &&& setBits (s.link l).laneOk lane.val lane.val 1 = (s.link l).lanes → s.time.nclk ≤ at_ + s.tDown l →
      Answers (.laneLockRegain l lane) s fun t =>
        (t.link l).downAt = none ∧ (t.link l).st = (s.link l).st ∧ (t.link l).buf = (s.link l).buf) ∧
    (∀ lane : Fin 4, (s.link l).downAt ≠ none ∨ (s.link l).st = 6 → Answers (.laneLockLoss l lane) s fun t =>
      (t.link l).downAt = (s.link l).downAt ∧ (t.link l).st = (s.link l).st ∧
      (t.link l).laneOk = setBits (s.link l).laneOk lane.val lane.val 0 ∧ t.time = s.time ∧ t.out = s.out) ∧
    (∀ at_ : Nat, (s.link l).downAt = some at_ →
      let k := s.link l
      let held := k.lanes &&& k.laneOk
      (held = k.lanes → Answers (.linkDownTimer l) s fun t =>
        (t.link l).st = k.st ∧ (t.link l).downAt = none ∧ (t.link l).buf = k.buf ∧ at_ + s.tDown l ≤ t.time.nclk) ∧
      (held ≠ k.lanes → ∀ w : Nat,
        (k.width = 3 ∧ (held % 4 = 3 ∨ held / 4 = 3) ∧ w = 2) ∨
          (¬(k.width = 3 ∧ (held % 4 = 3 ∨ held / 4 = 3)) ∧ 2 ≤ k.width ∧ held ≠ 0 ∧ w = 1) →
        Answers (.linkDownTimer l) s fun t =>
          (t.link l).st = 6 ∧ (t.link l).target = some (w, k.rate) ∧ (t.link l).downAt = none ∧ (t.link l).txN = k.txN ∧
          (t.link l).buf = k.buf ∧ (t.link l).sent = k.sent ∧ at_ + s.tDown l ≤ t.time.nclk) ∧
      (held ≠ k.lanes → k.width < 2 ∨ held = 0 → Answers (.linkDownTimer l) s fun t =>
        (t.link l).st = 7 ∧ (t.link l).cause = 1 ∧ (t.link l).buf = [] ∧ at_ + s.tDown l ≤ t.time.nclk)) ∧
    (∀ p : PeerConfig, ∀ w r : Nat, (s.link l).st = 6 → (s.link l).target = some (w, r) → p.widths.toNat.testBit (w - 1) = true →
      p.rates.toNat.testBit (r - 1) = true → (s.link l).buf = [] → Answers (.retrainDone l p) s fun t =>
        (t.link l).st = 5 ∧ (t.link l).width = w ∧ (t.link l).rate = r ∧ (t.link l).target = none ∧
        (t.link l).txN = (s.link l).txN ∧ (t.link l).rxN = (s.link l).rxN ∧ (t.link l).sent = (s.link l).sent) ∧
    ((s.link l).st = 6 → Answers (.retrainTimeout l) s fun t =>
      (t.link l).st = 7 ∧ (t.link l).cause = 6 ∧ (s.link l).since + msec 1 ≤ t.time.nclk) ∧
    ((s.link l).st = 7 → Answers (.linkHoldoffExpire l) s fun t =>
      (t.link l).st = 1 ∧ (s.link l).since + msec 1 ≤ t.time.nclk)

/-- R299 to R302, R293, R307: what a flit does that an ACTIVE link receives: the CREDIT and ABORT forms, a reserved type, a failed CRC,
a key exchange; a message flit that came before is only counted; one in sequence joins the open packet of its VC. -/
def Obligations.LinkReceivesFlits : Prop :=
  ∀ (s : State) (l : LinkId) (f : Flit), s.su.held = false → (s.link l).st = 5 →
    (f.crcOk = true → 5 ≤ bits f.hdr.toNat 63 60 → Answers (.reservedFtypeFlit l f) s fun t =>
      t = settle (s.count .AUTH_FAIL_CNT l.val)) ∧
    (f.crcOk = false → (s.link l).nakAt = none → Answers (.nullFlit l f) s fun t =>
      ∃ hdr : W64, Out.flit l hdr (zeros 224) ∈ t.out ∧ bits hdr.toNat 35 35 = 1 ∧ bits hdr.toNat 47 36 = (s.link l).rxN % 4096 ∧
        (t.link l).rxN = (s.link l).rxN ∧ (t.link l).nakAt = some s.time.nclk) ∧
    (f.crcOk = true → f.tagOk = true → bits f.hdr.toNat 63 60 = 2 → (s.link l).txq = [] → bit f.hdr.toNat 35 = false →
      Answers (.creditFlit l f) s fun t =>
        (t.link l).peerFreed = (List.range 6).map (fun v => leAt f.msg (4 * v) 4) ∧ (t.link l).rxU = (s.link l).rxU + 1 ∧
        (t.link l).rxN = (s.link l).rxN) ∧
    (f.crcOk = true → f.tagOk = true → bits f.hdr.toNat 63 60 = 3 → bits f.hdr.toNat 59 48 = (s.link l).rxN % 4096 →
      (s.link l).txq = [] → bit f.hdr.toNat 35 = false → (s.link l).opens.getD (bits f.hdr.toNat 33 31) none = none →
      s.vcFull l (bits f.hdr.toNat 33 31) = false → Answers (.abortFlit l f) s fun t => (t.link l).rxN = (s.link l).rxN + 1) ∧
    (f.crcOk = true → f.tagOk = true → bits f.hdr.toNat 63 60 = 4 → bits f.hdr.toNat 59 48 = (s.link l).rxN % 4096 →
      (s.link l).txq = [] → bit f.hdr.toNat 35 = false → (∃ at_, (s.link l).rekeyAt = some at_) → Answers (.keyxFlit l f) s fun t =>
        (t.link l).rekeyAt = none ∧ (t.link l).txPhase = !(s.link l).txPhase ∧ (t.link l).rxPhase = !(s.link l).rxPhase ∧
        (t.link l).rxN = (s.link l).rxN + 1) ∧
    (f.crcOk = true → f.tagOk = true → bits f.hdr.toNat 63 60 = 1 → 1 ≤ ((s.link l).rxN + 4096 - bits f.hdr.toNat 59 48) % 4096 →
      ((s.link l).rxN + 4096 - bits f.hdr.toNat 59 48) % 4096 ≤ 1024 → (s.link l).txq = [] → bit f.hdr.toNat 35 = false →
      Completes (.msgFlit l f) s fun u => (u.link l).rxN = (s.link l).rxN ∧ (u.link l).opens = (s.link l).opens ∧ u.out = s.out) ∧
    (∀ p : OpenPkt, f.crcOk = true → f.tagOk = true → bits f.hdr.toNat 63 60 = 1 → bits f.hdr.toNat 59 48 = (s.link l).rxN % 4096 →
      (s.link l).txq = [] → bit f.hdr.toNat 35 = false → bits f.hdr.toNat 33 31 < 6 → bit f.hdr.toNat 30 = false → bit f.hdr.toNat 29 = false →
      (s.link l).opens.getD (bits f.hdr.toNat 33 31) none = some p → p.port = 24 → s.vcFull l (bits f.hdr.toNat 33 31) = false →
      Completes (.msgFlit l f) s fun u =>
        (u.link l).rxN = (s.link l).rxN + 1 ∧
        (u.link l).opens.getD (bits f.hdr.toNat 33 31) none =
          some { p with bytes := p.bytes ++ f.msg.take (bits f.hdr.toNat 28 21 + 1), at_ := s.time.nclk } ∧
        u = { s with links := u.links, regs := u.regs, cnt64 := u.cnt64, out := u.out })

/-- R300, R301, R307, R298, R316: the timers of an ACTIVE link. -/
def Obligations.LinkTimersAct : Prop :=
  ∀ (s : State) (l : LinkId), s.su.held = false → (s.link l).st = 5 →
    ((s.link l).buf ≠ [] → (s.link l).replays = 15 → Answers (.replayTimeout l) s fun t => (t.link l).st = 7 ∧ (t.link l).cause = 2) ∧
    ((s.link l).buf ≠ [] → (s.link l).replays < 15 → Answers (.replayTimeout l) s fun t =>
      (t.link l).replays = (s.link l).replays + 1 ∧ t.out = s.out ++ (s.link l).buf.map (fun f => Out.flit l f.hdr f.body) ∧
      (t.link l).buf = (s.link l).buf) ∧
    (∀ at_ : Nat, (s.link l).firstAt = some at_ → Answers (.ackCoalesceTimer l) s fun t =>
      (t.link l).advN = (s.link l).rxN ∧ at_ + nsec 200 ≤ t.time.nclk ∧
      ∃ hdr : W64, t.out = s.out ++ [.flit l hdr (zeros 224)] ∧ bits hdr.toNat 63 60 = 0 ∧ bits hdr.toNat 47 36 = (s.link l).rxN % 4096) ∧
    ((s.link l).txN < 2 ^ 36 + (s.link l).keyN → (s.link l).txU + 1 < 2 ^ 36 + (s.link l).keyU → Answers (.creditTimer l) s fun t =>
      ∃ hdr : W64, t.out = s.out ++ [.flit l hdr (padTo 224 (((s.link l).freed.map fun n => toLe 4 n).flatten))] ∧
        bits hdr.toNat 63 60 = 2 ∧ (t.link l).freedSent = (s.link l).freed) ∧
    (∀ at_ : Nat, (s.link l).rekeyAt = some at_ → Answers (.rekeyTimeout l) s fun t =>
      (t.link l).st = 7 ∧ (t.link l).cause = 3 ∧ at_ + msec 50 ≤ t.time.nclk) ∧
    (∀ (vc : Fin 6) (p : OpenPkt), (s.link l).opens.getD vc.val none = some p → (s.link l).downAt = none → p.port = 31 →
      vc.val < (s.link l).drop.length → Answers (.stallTimeout l vc) s fun t => (t.link l).opens.getD vc.val none = none ∧ (t.link l).drop.getD vc.val false = true)

/-- R318, R19, R490: the link commands where no other one runs on the link, and the answer in a state that a command does not accept. -/
def Obligations.LinkCommandsAct : Prop :=
  ∀ (s : State) (l : LinkId), s.su.held = false → s.isBusy .LNK_CMD_RESULT l.val = false →
    ((s.link l).st ≠ 0 → (s.link l).st ≠ 9 → Answers (.linkDisable l) s fun t =>
      t = settle ((s.updLink l fun k => { k with disabling := true }).setReg .LNK_CMD_RESULT l.val 0x80000000#32)) ∧
    ((s.link l).disabling = true → (s.link l).buf = [] → (s.link l).txq = [] → Answers (.linkDisableDone l) s fun t =>
      (t.link l).st = 0 ∧ (t.link l).cause = 5 ∧ (t.link l).disabling = false) ∧
    ((s.link l).st = 0 ∨ (s.link l).st = 8 → Answers (.linkEnable l) s fun t =>
      (t.link l).st = 1 ∧ t.reg .LNK_CMD_RESULT l.val = 0 ∧ t.mem = s.mem ∧ t.out = s.out ∧ t.time = s.time) ∧
    (∀ width rate : BitVec 2, (s.link l).st = 5 → rate ≠ 3 → width.toNat ≤ s.maxWidth l → rate.toNat ≤ s.maxRate l →
      (s.link l).width ≤ s.maxWidth l → (s.link l).rate ≤ s.maxRate l → (s.link l).rate ≠ 3 → Answers (.linkRetrain l width rate) s fun t =>
        (t.link l).st = 6 ∧ (t.link l).downAt = none ∧ t.isBusy .LNK_CMD_RESULT l.val = true ∧ (t.link l).buf = (s.link l).buf ∧ (t.link l).txN = (s.link l).txN ∧
        (t.link l).target = some (if width = 0 then (s.link l).width else width.toNat, if rate = 0 then (s.link l).rate else rate.toNat)) ∧
    ((s.link l).st = 5 → Answers (.linkRekey l) s fun t =>
      (t.link l).rekeyAt = some s.time.nclk ∧ t.isBusy .LNK_CMD_RESULT l.val = true ∧ (t.link l).txN = (s.link l).txN + 1 ∧
      ∃ hdr body, t.out = s.out ++ [.flit l hdr body] ∧ bits hdr.toNat 63 60 = 4) ∧
    ((s.link l).st ≠ 0 → (s.link l).st ≠ 8 → Answers (.linkEnable l) s fun t =>
      t.links = s.links ∧ t.reg .LNK_CMD_RESULT l.val = w32 ((s.link l).st % 16 * 256 + 3))

/-- R295 to R307, R316, R318: no command of a link, message flits apart, changes anything but the links, their registers and counters, the
log, the clock, the free values drawn, and what leaves the device. -/
def Obligations.LinkCommandsFrame : Prop :=
  ∀ (s t : State) (c : Instr) (l : LinkId),
    (c = .laneSignalDetect l ∨ (∃ x, c = .linkTrainDone l x) ∨ c = .linkTrainTimeout l ∨ (∃ x, c = .configFlit l x) ∨ c = .configTimeout l ∨
      (∃ x, c = .authFlit l x) ∨ c = .authTimeout l ∨ (∃ x, c = .nullFlit l x) ∨ (∃ x, c = .creditFlit l x) ∨ (∃ x, c = .abortFlit l x) ∨
      (∃ x, c = .keyxFlit l x) ∨ (∃ x, c = .reservedFtypeFlit l x) ∨ c = .replayTimeout l ∨ c = .ackCoalesceTimer l ∨ c = .creditTimer l ∨
      c = .linkRekey l ∨ c = .rekeyTimeout l ∨ (∃ x, c = .laneLockLoss l x) ∨ (∃ x, c = .laneLockRegain l x) ∨ c = .linkDownTimer l ∨
      (∃ x, c = .retrainDone l x) ∨ c = .retrainTimeout l ∨ c = .linkHoldoffExpire l ∨ c = .linkDisable l ∨ c = .linkDisableDone l ∨
      c = .linkEnable l ∨ (∃ x y, c = .linkRetrain l x y) ∨ (∃ x, c = .stallTimeout l x)) →
    exec c s = .next t →
    t = { s with links := t.links, regs := t.regs, cnt64 := t.cnt64, log := t.log, out := t.out, time := t.time, free := t.free, lands := t.lands }

/-! ### Admission (11, R320 to R328) -/

/-- R321, R325: a request of a known host whose class's gate is closed, or whose length passes a bucket's balance, is answered POLICED and takes no token; a holder moves min(G, balance) toward the quarter that asked, with G = min(4,096 B, BURST × 64 B); what was moved joins the
lease when it arrives; a lease unused for 10 µs returns to the holder, what passes the depth is dropped. -/
def Obligations.AdmissionTakesTokens : Prop :=
  (∀ (s : State) (b : Nat) (q : Quarter), s.su.held = false →
    ((s.lease b q.val).asked = some 0 → Completes (.leaseRequest b q) s fun u =>
      u.bNow b = s.bNow b - min (min 4096 (s.bBurst b * 64) * tok) (s.bNow b) ∧
      u.lease b q.val = { s.lease b q.val with asked := some (min (min 4096 (s.bBurst b * 64) * tok) (s.bNow b)) } ∧
      u = { s with shp := u.shp }) ∧
    (∀ g : Nat, (s.lease b q.val).asked = some g → s.shp.waiting = [] → Completes (.leaseGrant b q) s fun u =>
      u.lease b q.val = ⟨(s.lease b q.val).bal + g, s.time.nclk, none⟩ ∧ u.shp.buckets = s.shp.buckets ∧ u = { s with shp := u.shp }) ∧
    ((s.lease b q.val).bal ≠ 0 → Answers (.leaseIdleExpire b q) s fun t =>
      (t.lease b q.val).bal = 0 ∧ (s.lease b q.val).used + usec 10 ≤ t.time.nclk ∧
      t.bNow b = min (s.bCap b) ((advanceTo ((s.lease b q.val).used + usec 10) s).bNow b + (s.lease b q.val).bal) ∧
      t = { s with shp := t.shp, time := t.time, lands := t.lands })) ∧
  (∀ (s : State) (r : ReqMsg) (e : Nat × Bytes), s.su.held = false → s.edgeOk r.link r.src = true → s.isMe r.dst.toNat = true →
    s.closedHint = none → s.serving = true → s.pair.role ≠ 5 → s.pair.role ≠ 6 → s.hostEntry r.src = some e → r.fwd = false →
    s.leaseNeeds e.1 (s.rfld .HOST_CFG e.1 18 16) r.link (s.countedLen 2 r) = [] →
    (s.gates.testBit (s.rfld .HOST_CFG e.1 18 16) = false ∨
      ∃ b ∈ admBuckets e.1 (s.rfld .HOST_CFG e.1 18 16) r.link,
        s.bRate b ≠ 0 ∧ s.tokens b (r.link.val / 6) < s.countedLen 2 r * tok) →
    Completes (.rdShared r) s fun u =>
      (∃ (hint load : Nat), u.Sent { cmpMsg r 0x02 hint with load := load }) ∧ u.shp = s.shp ∧ u.pool = s.pool ∧ u.mem = s.mem ∧
        u.work = s.work)

/-- R326, R328: at an entry's end a plate that runs goes to its next entry; a pending plate replaces the plate in force at its first cycle
start. Nothing but the plate, its place and the clocks changes. -/
def Obligations.IndexPlateTurns : Prop :=
  ∀ s : State, s.su.held = false →
    (∀ i g e : Nat, s.plateRuns = true → entryAt (s.plate.offset s.ptNs) s.plate.entries 0 0 = some (i, g, e) →
      Answers .tgEntryBoundary s fun t =>
        t.shp.idx = (i + 1) % s.plate.entries.length ∧ s.ptNs + (e - s.plate.offset s.ptNs) ≤ t.ptNs ∧
        t = { s with shp := t.shp, time := t.time, lands := t.lands }) ∧
    (∀ (b : Bytes) (at_ : Nat), s.ptValid = true → s.shp.next = some (b, at_) → Answers .pendingPlateStart s fun t =>
      t.shp.next = none ∧ t.shp.started = true ∧ t.shp.idx = 0 ∧ at_ ≤ t.ptNs ∧
      t.rfld .TG_LEN 0 6 0 = min 64 (leAt b 8 1) ∧ (t.reg .TG_BASE_LO).toNat = leAt b 0 4 ∧ (t.reg .TG_BASE_HI).toNat = leAt b 4 4 ∧
      (∀ i < min 64 (leAt b 8 1), (t.reg .TG_ENTRY i).toNat = leAt b (0x10 + 4 * i) 4) ∧
      t = { s with shp := t.shp, time := t.time, regs := t.regs, lands := t.lands })

/-! ### Heartwood, keys and reports (12, R341 to R369, R382) -/

/-- R354, R355, R425: a detected source responds as the policy slot says: RECORD marks the source alone; RESET marks it and starts the hub anew,
the durable keys kept; ERASE also takes the keys away. Mesh damage always erases. -/
def Obligations.TamperSourcesRespond : Prop :=
  ∀ (s : State) (c : Instr) (b r : Nat), s.su.held = false → s.hw.cont = contWord s.hw.epoch →
    (c = .supplyGlitch ∧ b = 3 ∧ r = fld s.hw.pol 5 4 ∨ c = .clockGlitch ∧ b = 4 ∧ r = fld s.hw.pol 7 6 ∨
      c = .tempTamperSample true ∧ b = 5 ∧ r = fld s.hw.pol 9 8 ∧ s.hw.tempBad = 1 ∨ c = .meshSample true ∧ b = 0 ∧ r = 2 ∧ s.hw.meshBad = 1) →
    (r = 0 → Answers c s fun t => t.hw.tamper = s.hw.tamper ||| byte (2 ^ b) ∧ t.hw.keys = s.hw.keys ∧ t.hw.eph = s.hw.eph ∧
      t.hw.eraseCnt = s.hw.eraseCnt ∧ t.su = s.su ∧ t.mem = s.mem ∧ t.work = s.work) ∧
    (r = 1 → s.hw.erasePending = false → s.hw.seed ≠ none → Answers c s fun t =>
      t.hw.tamper = s.hw.tamper ||| byte (2 ^ b) ∧ t.hw.keys = s.hw.keys ∧ (∀ i : TenantId, t.hw.eph[i] = none) ∧
      t.hw.eraseCnt = s.hw.eraseCnt ∧ t.mem = [] ∧ t.links = State.reset.links ∧ t.hw.seed = s.hw.seed) ∧
    (r = 2 → Answers c s fun t => Erased s t b)

/-- R356, R357, R358, R359, R362: two OPEN samples running erase, or only record in an open service window; samples that disagree start the
discrepancy timer, and at its end the pins are latched; LID_CLEAR releases the latch after two CLOSED samples, or conflicts with the lid's
code. -/
def Obligations.LidChannelsJudged : Prop :=
  ∀ s : State, s.su.held = false → s.hw.cont = contWord s.hw.epoch →
    (s.hw.lid ≠ 3 → s.hw.lidTimer = none → s.hw.openRun = 1 → s.hw.win.st ≠ 2 → Answers (.lidSample ⟨true, false⟩) s fun t => Erased s t 1) ∧
    (s.hw.lid ≠ 3 → s.hw.lidTimer = none → s.hw.openRun = 1 → s.hw.win.st = 2 → Answers (.lidSample ⟨true, false⟩) s fun t =>
      t.hw.tamper = s.hw.tamper ||| 2 ∧ t.hw.lid = 1 ∧ t.hw.keys = s.hw.keys ∧ t.hw.eraseCnt = s.hw.eraseCnt ∧ t.mem = s.mem) ∧
    (s.hw.lid ≠ 3 → s.hw.lidTimer = none → Answers (.lidSample ⟨false, true⟩) s fun t =>
      t.hw.lid = 0 ∧ t.hw.openRun = 0 ∧ t.hw.tamper = s.hw.tamper ∧ t.mem = s.mem ∧ t.regs = s.regs ∧ t.out = s.out) ∧
    (∀ x : Bool, s.hw.lid ≠ 3 → s.hw.lidTimer = none → Answers (.lidSample ⟨x, x⟩) s fun t =>
      t.hw.lid = 2 ∧ t.hw.lidTimer = some 0 ∧ t.hw.tamper = s.hw.tamper ∧ t.hw.keys = s.hw.keys ∧ t.mem = s.mem) ∧
    (∀ (x : Bool) (n : Nat), s.hw.lid ≠ 3 → s.hw.lidTimer = some n → n < s.tDisc → fld s.hw.pol 3 2 = 0 →
      Answers (.lidDiscExpire ⟨x, x⟩) s fun t =>
        t.hw.lid = 3 ∧ t.hw.latchA = x ∧ t.hw.latchB = x ∧ t.hw.lidTimer = none ∧ t.hw.tamper = s.hw.tamper ||| 4 ∧
        t.hw.keys = s.hw.keys ∧ t.time.nclk = s.time.nclk + msec (s.tDisc - 1 - n)) ∧
    (∀ h : CmdHdr, s.classOf h.iss = .da →
      (s.lidClosed = true → Answers (.lidClear h) s fun t =>
        t.hw.lid = 0 ∧ t.hw.lidTimer = none ∧ t.Replied h 0x408 0 0 [] ∧ t.hw.tamper = s.hw.tamper ∧ t.hw.keys = s.hw.keys) ∧
      (s.lidClosed = false → Answers (.lidClear h) s fun t => t.hw = s.hw ∧ t.Replied h 0x408 3 s.hw.lid []))

/-- R360, R361, R362: a token that holds opens a service window once, advancing counter 0; the window opens at its start and closes at its end or on
command, and the first OPEN sample after it is judged alone. -/
def Obligations.ServiceWindowOpensOnce : Prop :=
  ∀ s : State, s.su.held = false →
    (∀ (h : CmdHdr) (token : Bytes), s.classOf h.iss = .da → cut token 0 16 = s.hw.serial → leAt token 0x16 2 = 0 →
      1 ≤ leAt token 0x14 2 → leAt token 0x14 2 ≤ 240 → s.ptValid = true → leAt token 0x10 4 = (s.counter 0).toNat →
      s.counter 0 ≠ 0xFFFFFFFF → s.hw.win.st = 0 → s.ptNs < leAt token 0x18 8 + leAt token 0x14 2 * 60000000000 →
      (nvWrite (ctrSlotNo 0) s).1 = true → Answers (.svcWindowOpen h token true) s fun t =>
        t.counter 0 = s.counter 0 + 1 ∧ t.Replied h 0x406 0 0 [] ∧
        t.hw.win = ⟨if leAt token 0x18 8 ≤ s.ptNs then 2 else 1, leAt token 0x18 8, leAt token 0x18 8 + leAt token 0x14 2 * 60000000000⟩ ∧
        t.mem = s.mem ∧ t.hw.keys = s.hw.keys) ∧
    (∀ (h : CmdHdr) (token : Bytes), s.classOf h.iss = .da → Answers (.svcWindowOpen h token false) s fun t =>
      t.Replied h 0x406 0x0D 0 [] ∧ t.hw = s.hw ∧ t.mem = s.mem) ∧
    (s.hw.win.st = 1 → Answers .svcWindowStart s fun t =>
      t.hw = { s.hw with win := { s.hw.win with st := 2 } } ∧ s.hw.win.start ≤ t.ptNs ∧ t.mem = s.mem ∧ t.regs = s.regs) ∧
    (s.hw.win.st ≠ 0 → Answers .svcWindowEnd s fun t =>
      t.hw = { s.hw with win := { s.hw.win with st := 0 }, afterWin := true } ∧ s.hw.win.stop ≤ t.ptNs ∧ t.mem = s.mem) ∧
    (∀ h : CmdHdr, s.classOf h.iss = .da →
      (s.hw.win.st ≠ 0 → Answers (.svcWindowClose h) s fun t =>
        t.hw = { s.hw with win := { s.hw.win with st := 0 }, afterWin := true } ∧ t.Replied h 0x407 0 0 []) ∧
      (s.hw.win.st = 0 → Answers (.svcWindowClose h) s fun t => t.hw = s.hw ∧ t.Replied h 0x407 3 0 []))

/-- R363, R364, R349, R350, R445: a counter rises by one, or to a greater value, for its owner alone; fuses are blown up to the smallest running
security version; a lost monitor domain forgets what is volatile in it and keeps what stands in NV. -/
def Obligations.CountersFusesAndVaultReset : Prop :=
  ∀ (s : State) (h : CmdHdr), s.su.held = false →
    (∀ (k : Fin 8) (v : W32), ownsCtr (s.classOf h.iss) (s.ctrOwner k.val) = true → s.counter k ≠ 0xFFFFFFFF →
      (nvWrite (ctrSlotNo k) s).1 = true →
      (Answers (.ctrInc h (byte k.val)) s fun t =>
        t.counter k = s.counter k + 1 ∧ t.Replied h 0x404 0 0 (toLe 4 (s.counter k + 1).toNat) ∧ t.mem = s.mem ∧
        (∀ i : Fin 8, i ≠ k → t.counter i = s.counter i) ∧ t.hw.keys = s.hw.keys) ∧
      (s.counter k < v → Answers (.ctrSet h (byte k.val) v) s fun t =>
        t.counter k = v ∧ t.Replied h 0x405 0 0 (toLe 4 v.toNat) ∧ (∀ i : Fin 8, i ≠ k → t.counter i = s.counter i) ∧ t.mem = s.mem)) ∧
    (∀ (k : Fin 8) (v : W32), ownsCtr (s.classOf h.iss) (s.ctrOwner k.val) = false → Answers (.ctrSet h (byte k.val) v) s fun t =>
      t.hw = s.hw ∧ t.Replied h 0x405 4 0 []) ∧
    (s.classOf h.iss = .da → Answers (.svnCommit h) s fun t =>
      t.hw = { s.hw with fuse := max s.hw.fuse s.minSvn } ∧ t.Replied h 0x409 0 0 [byte (max s.hw.fuse s.minSvn), 0, 0, 0]) ∧
    (Answers .vaultReset s fun t =>
      (∀ i : TenantId, t.hw.eph[i] = none) ∧ t.hw.cont = 0 ∧ t.hw.tamper = 0 ∧ t.hw.lid = 0 ∧ t.hw.win.st = 0 ∧ t.time.rtcValid = false ∧
      t.hw.keys = s.hw.keys ∧ t.hw.ctr = s.hw.ctr ∧ t.hw.seed = s.hw.seed ∧ t.hw.fuse = s.hw.fuse ∧ t.hw.eraseCnt = s.hw.eraseCnt ∧
      t.plog = s.plog ∧ t.mem = s.mem)

/-- R344 to R347, R338, R340: a tenant's administrator fills its EMPTY slot, with a fresh key or one from an envelope, and destroys it once no durable
region of the tenant is left here; a slice whose clearing ends is free, or the tenant's it was cleared for. -/
def Obligations.KeysAndSlices : Prop :=
  ∀ s : State, s.su.held = false →
    (∀ (h : CmdHdr) (t : TenantId) (envCa : W64), s.classOf h.iss = .ta t → s.hw.secOpen = false →
      ((s.key t).st = 0 → (nvWrite (keySlotNo t) s).1 = true → Completes (.keySet h 0 envCa true) s fun u =>
        (u.key t).st = 1 ∧ (u.key t).gen = (s.key t).gen ∧ (u.key t).key = s.free ∧ u.Replied h 0x401 0 0 [] ∧ u.mem = s.mem ∧
        ∀ i : TenantId, i ≠ t → u.key i = s.key i) ∧
      ((s.key t).st ≠ 0 → Completes (.keySet h 0 envCa true) s fun u => u.hw = s.hw ∧ u.Replied h 0x401 3 (s.key t).st []) ∧
      (∀ ok : Bool, (s.key t).st = 0 → s.refOk h = true → Completes (.keySet h 1 envCa ok) s fun u =>
        let p := cmdOpen (.keySet h 1 envCa ok) s
        let q := argRead p.1 h envCa.toNat 176 p.2
        match q.1 with
        | none => u = q.2
        | some (st, b) =>
          let v := cmdClose p.1 q.2
          v.classOf h.iss = .ta t → (v.key t).st = 0 →
            (st ≠ 0 → st ≠ 3 → u.Replied h 0x401 st 0 []) ∧
            (st = 0 → ok = false ∨ allZero (cut b 0x61 7) = false → u.Replied h 0x401 0x0D 0 []) ∧
            (st = 0 → ok = true → allZero (cut b 0x61 7) = true → (nvWrite (keySlotNo t) v).1 = true →
              (u.key t).st = 1 ∧ u.Replied h 0x401 0 0 [])) ∧
      ((s.key t).st ≠ 0 → s.durableHere t = false → (nvWrite (keySlotNo t) s).1 = true → Completes (.keyDestroy h) s fun u =>
        u.key t = ⟨0, (s.key t).gen + 1, 0⟩ ∧ u.Replied h 0x402 0 0 [] ∧ u.mem = s.mem ∧ ∀ i : TenantId, i ≠ t → u.key i = s.key i) ∧
      (s.durableHere t = true → Completes (.keyDestroy h) s fun u => u.hw = s.hw ∧ u.Replied h 0x402 3 (s.key t).st [])) ∧
    (∀ sl : SliceId, (s.slice sl).st = 2 →
      ((s.slice sl).after = none → Completes (.sliceClearDone sl) s fun u =>
        (u.slice sl).st = 0 ∧ (u.slice sl).cleared = true ∧ (∀ i : SliceId, i ≠ sl → u.slice i = s.slice i) ∧ u.mem = s.mem ∧ u.hw = s.hw) ∧
      (∀ t : TenantId, (s.slice sl).after = some t → Completes (.sliceClearDone sl) s fun u =>
        (u.slice sl).st = 1 ∧ (u.slice sl).tenant = t ∧ u.hw.eph[t] ≠ none ∧ (∀ i : SliceId, i ≠ sl → u.slice i = s.slice i) ∧ u.mem = s.mem))

/-- R365, R366, R367, R382: a report is composed, signed and written where its requester asked for it; a stack's report asks every joined member for
its own, and a member that does not answer within 1 s stands in it with RETRY_BUSY. -/
def Obligations.ReportsComposedSignedWritten : Prop :=
  ∀ s : State, s.su.held = false →
    (∀ (h : CmdHdr) (nonce : Bytes) (ca : W64) (len : W32), s.classOf h.iss = .da → s.hw.secOpen = false → nonce.length = 32 →
      16384 ≤ len.toNat → (xferRange ca.toNat len.toNat).isSome = true → s.work.report = none → Completes (.attest h nonce ca len []) s fun u =>
        ∃ r, u.work.report = some r ∧ r.h = h ∧ r.dest = ca.toNat ∧ r.signed = false ∧ r.nonce = nonce ∧ r.body = s.reportBody r ∧
          u.mem = s.mem ∧ u.hw = s.hw) ∧
    (∀ (h : CmdHdr) (t : TenantId) (nonce : Bytes) (ca : W64) (len : W32) (rs : List W16), s.classOf h.iss = .ta t → s.hw.secOpen = false →
      s.refOk h = true → nonce.length = 32 → 16384 ≤ len.toNat → rs.length ≤ 8 → s.work.report = none →
      Completes (.attest h nonce ca len rs) s fun u =>
        u = reportStep ((cmdOpen (.attest h nonce ca len rs) s).2.setReport
          (some ⟨(cmdOpen (.attest h nonce ca len rs) s).1, h, nonce, ca.toNat, rs, [], [], [], false⟩))) ∧
    (∀ (r : Report) (sig : Bytes), s.work.report = some r → r.body ≠ [] → r.signed = false →
      (s.forStack r.h = true → Completes (.attestReportDone sig) s fun u =>
        u.work.report = none ∧ u.Replied r.h 0x403 0 0 (toLe 4 (r.body ++ padTo 96 sig).length ++ (r.body ++ padTo 96 sig))) ∧
      (∀ off : Nat, s.forStack r.h = false → s.classOf r.h.iss = .da → xferRange r.dest (r.body ++ padTo 96 sig).length = some off →
        Completes (.attestReportDone sig) s fun u =>
          u.work.report = none ∧ u.Replied r.h 0x403 0 0 (toLe 4 (r.body ++ padTo 96 sig).length))) ∧
    (∀ (h : CmdHdr) (nonce : Bytes) (ca : W64) (len : W32), s.classOf h.iss = .da → s.head.head = true → s.hw.secOpen = false →
      nonce.length = 32 → (8 + 13040) * s.joined.length ≤ len.toNat → (xferRange ca.toNat len.toNat).isSome = true → s.satt = none →
      Completes (.stackAttest h nonce ca len) s fun u =>
        u.satt = some ⟨h.iss, h.seq, nonce, ca.toNat, s.joined, []⟩ ∧ u.mem = s.mem ∧
        (u.coord.sent.drop s.coord.sent.length).map CoordTx.dest = s.joined.map s.idOf) ∧
    (∀ (p : Fin 32) (x : StackAtt) (t : CoordTx), s.satt = some x → p.val ∈ x.waits → x.waits.filter (· ≠ p.val) ≠ [] →
      (s.coord.sent.find? fun t => t.attests && t.dest.toNat % 64 = p.val) = some t → Completes (.stackAttestMemberTimeout p) s fun u =>
        u.satt = some { x with waits := x.waits.filter (· ≠ p.val), reports := x.reports.ins p.val (stRETRY_BUSY, []) } ∧
        t.since + secs 1 ≤ u.time.nclk ∧ ∀ y ∈ u.coord.sent, y.xid ≠ t.xid)

/-! ### The chain, the headstock and the pair (12, 13: R12, R370 to R398, R437) -/

/-- R373, R374, R375, R376, R377: an origin starts SUPER frames; a member uses the frame of its stack and passes it on; a frame with a wrong CRC, or of
another stack, passes unused; enumeration gives a device its position; a chain that breaks is originated anew; alarms wait for the next frame. -/
def Obligations.ChainFramesMove : Prop :=
  ∀ (s : State) (f : Bytes), s.su.held = false →
    (s.spn.origin = true → 2 ≤ s.spn.state → Answers .superFramePeriod s fun t =>
      t.spn = { s.spn with sfn := s.spn.sfn + 1, alarmSet := 0 } ∧ t.links = s.links ∧ t.pair = s.pair ∧
      ∃ g : Bytes, t.out = s.out ++ [.chain g] ∧ leAt g 0 2 = s.stackId % 65536 ∧ leAt g 2 1 = 1 ∧ leAt g 4 4 = (s.spn.sfn + 1) % 2 ^ 32) ∧
    (s.spn.state ≠ 0 → chainOk f = false → Answers (.superFrame f) s fun t =>
      t.spn = s.spn ∧ t.pair = s.pair ∧ t.head = s.head ∧ t.out = s.out ++ [.chain f]) ∧
    (s.spn.state = 0 → Answers (.superFrame f) s fun t => t = settle (emit (.chain f) s)) ∧
    (s.spn.state ≠ 0 → chainOk f = true → s.spn.pos ≠ 0x3F → leAt f 0 2 = s.stackId → s.spn.origin = false → Answers (.superFrame f) s fun t =>
      t.spn.sfn = leAt f 4 4 ∧ t.spn.members = leAt f 10 1 ∧ t.spn.lastSf = s.time.nclk ∧ t.spn.headPos = leAt f 11 1 ∧ t.spn.missed = 0 ∧
      t.spn.alarmSet = 0 ∧ t.spn.pos = s.spn.pos ∧ ∃ (pre : List Out) (g : Bytes), t.out = pre ++ [.chain g]) ∧
    (s.spn.state ≠ 0 → chainOk f = true → leAt f 0 2 = s.stackId → s.spn.origin = false → s.spn.pos = 0x3F → leAt f 3 1 = s.expectPos →
      leAt f 3 1 < 16 → Answers (.enumFrame f) s fun t =>
        t.spn = { s.spn with pos := leAt f 3 1, state := 2, lastSf := s.time.nclk } ∧
        t = { s with spn := t.spn, out := s.out ++ [.chain (s.enumFrameOf (leAt f 3 1 + 1))], lands := t.lands }) ∧
    (s.spn.state = 1 → chainOk f = true → leAt f 0 2 = s.stackId → s.spn.origin = true → Answers (.enumFrame f) s fun t =>
      t.spn = { s.spn with state := 2, members := leAt f 3 1, lastSf := s.time.nclk } ∧ t.out = s.out) ∧
    (s.spn.state = 1 → s.spn.origin = true → Answers .enumRepeat s fun t =>
      t.out = s.out ++ [.chain (s.enumFrameOf (s.spn.pos + 1))] ∧ t.spn = s.spn) ∧
    (s.spn.state = 2 → Answers .chainBroken s fun t =>
      t.spn = { s.spn with state := 3, missed := 8, origin := s.spn.pos = 1 || s.spn.origin, originPos := 1 } ∧
      s.spn.lastSf + usec 800 ≤ t.time.nclk ∧ t.out = s.out) ∧
    (∀ at_ : Nat, s.spn.portAt = some at_ → s.spn.state = 1 → s.spn.pos = 0x3F → s.spn.origin = false → s.expectPos = 1 → s.su.warm = false →
      Answers .originTimeout s fun t =>
        t.spn = { s.spn with origin := true, pos := 1, originPos := 1, portAt := none } ∧ at_ + secs 2 ≤ t.time.nclk ∧
        t.out = s.out ++ [.chain (s.enumFrameOf 2)]) ∧
    (∀ b : Byte, Answers (.spnAlarmSet b) s fun t =>
      t = { s with spn := { s.spn with alarmSet := s.spn.alarmSet ||| b }, lands := t.lands })

/-- R378, R380: an active device of another pair claims the headstock role once pair 0 has had no active member for 2 s, repeats its claim, gives way to
a lower pair's, and holds the role after 100 ms; members take the headstock's map when it is newer. -/
def Obligations.HeadstockRoleIsClaimed : Prop :=
  ∀ s : State, s.su.held = false →
    (∀ f : Bytes, s.spn.state ≠ 0 → chainOk f = true → s.spn.pos ≠ 0x3F → leAt f 0 2 = s.stackId →
      (leAt f 4 2 = s.myId.toNat → Answers (.headClaimFrame f) s fun t => t = settle s) ∧
      (leAt f 4 2 ≠ s.myId.toNat → leAt f 3 1 < s.pairNo → Answers (.headClaimFrame f) s fun t =>
        t.head.claimAt = none ∧ t.out = s.out ++ [.chain f] ∧ t.spn = s.spn ∧ t.pair = s.pair)) ∧
    (∀ at_ : Nat, s.head.absentAt = some at_ → s.pairNo ≠ 0 → mapRole s.pair.role = 1 → s.head.head = false → s.head.claimAt = none →
      s.spn.pos ≠ 0x3F → Answers .headstockAbsent s fun t =>
        t.head = { s.head with claimAt := some t.time.nclk, claimSent := t.time.nclk } ∧ at_ + secs 2 ≤ t.time.nclk ∧
        t.out = s.out ++ [.chain s.claimFrame]) ∧
    (∀ at_ : Nat, s.head.claimAt = some at_ →
      (Answers .headClaimRepeat s fun t =>
        t.head = { s.head with claimSent := t.time.nclk } ∧ s.head.claimSent + msec 10 ≤ t.time.nclk ∧ t.out = s.out ++ [.chain s.claimFrame]) ∧
      (Answers .headClaimWin s fun t =>
        t.head.head = true ∧ t.head.claimAt = none ∧ t.spn.headPos = s.spn.pos ∧ at_ + msec 100 ≤ t.time.nclk ∧ t.mem = s.mem)) ∧
    (∀ m : MgtMsg, s.head.head = false → s.isDevice m.src = true →
      (older s.spn.mapSeq.toNat (leAt m.payload 0 4) = true → Answers (.stackMapUpdate m) s fun t =>
        t.spn.mapSeq = w32 (leAt m.payload 0 4) ∧ t.spn.map = padTo 32 (cut m.payload 4 32) ∧
        (∀ i : Fin 16, t.spn.epochs[i] = w32 (leAt m.payload (36 + 4 * i.val) 4)) ∧ t = { s with spn := t.spn, lands := t.lands }) ∧
      (older s.spn.mapSeq.toNat (leAt m.payload 0 4) = false → Answers (.stackMapUpdate m) s fun t => t = settle s))

/-- R388, R389, R390, R391, R387: a heartbeat goes out with a higher ALIVE and its CRC; one that checks counts in its path's slot, one that does not only
counts; eight slots without one on both paths make a STEADY member that is ready take over; a device that finds no active partner for 2 s seizes the
carriers. -/
def Obligations.HeartbeatsShowThePartner : Prop :=
  ∀ s : State, s.su.held = false →
    (s.spn.pos ≠ 0x3F → s.hbStopped = false → Answers .heartbeatSend s fun t =>
      let b := (s.updPair fun p => { p with alive := p.alive + 1 }).hbBody
      t.pair = { s.pair with alive := s.pair.alive + 1, hb := b ++ toLe 4 (crc32c b) } ∧ t.spn = s.spn ∧ t.mem = s.mem) ∧
    (∀ (p : HbPath) (hb : Bytes), hb.length = 16 → crc32c (cut hb 0 12) ≠ leAt hb 12 4 → Answers (.heartbeat p hb) s fun t =>
      t.pair = s.pair ∧ t.spn = s.spn ∧ t.reg .CHK_VALUE 1 = w32 (crc32c (cut hb 0 12) ^^^ 0xFFFFFFFF)) ∧
    (∀ hb : Bytes, hb.length = 16 → crc32c (cut hb 0 12) = leAt hb 12 4 → s.soloRec = false → leAt hb 0 2 = s.partnerId.toNat →
      s.pair.link.last ≠ some (byte (leAt hb 2 1)) → Answers (.heartbeat .link hb) s fun t =>
        t.pair = { s.pair with link := { s.pair.link with good := true, last := some (byte (leAt hb 2 1)) }, partnerRole := leAt hb 3 1 % 16,
                               partnerReady := bit (leAt hb 3 1) 4, partnerHandback := bit (leAt hb 3 1) 7, partnerKak := w32 (leAt hb 8 4) } ∧
        t.spn = s.spn ∧ t.out = s.out) ∧
    (s.soloRec = false → s.spn.pos ≠ 0x3F →
      (s.pair.chain.good = true → s.pair.link.good = true → s.pair.role ≠ 4 → Answers .hbSlotEnd s fun t =>
        t.pair.chain.miss = 0 ∧ t.pair.link.miss = 0 ∧ t.pair.chain.good = false ∧ t.pair.link.good = false ∧ t.pair.detected = false ∧
        t.pair.role = s.pair.role) ∧
      (s.pair.chain.good = false → s.pair.link.good = false → 7 ≤ s.pair.chain.miss → 7 ≤ s.pair.link.miss → s.pair.detected = false →
        s.pair.role = 2 → s.pair.ready = true → Answers .hbSlotEnd s fun t =>
          t.pair.role = 4 ∧ t.pair.seize = true ∧ t.pair.stages = [] ∧ t.pair.detected = true ∧ t.lands.pairSeizeN = s.outputsOff)) ∧
    (∀ at_ : Nat, s.pair.waitAt = some at_ → s.pair.role = 0 → s.pair.partnerRole ≠ 1 → Answers .partnerWaitTimeout s fun t =>
      t.pair = { s.pair with waitAt := none, seize := true } ∧ at_ + secs 2 ≤ t.time.nclk)

/-- R393, R395, R398: takeover runs its stages one after the other, each once what it waits for is over; the recovery window closes after 2 ms; a handover
begins by command or at the first quiet point, and its stages end with the device STEADY and its partner taking over. -/
def Obligations.TakeoverAndHandoverStages : Prop :=
  ∀ s : State, s.su.held = false →
    (s.pair.role = 4 → s.pair.stages = [] → Completes (.takeoverStageDone true) s fun u => u = s.updPair fun p => { p with stages := [1] }) ∧
    (s.pair.role = 4 → s.pair.stages = [1] →
      (s.pin.carOwn = 0xFF → Completes (.takeoverStageDone true) s fun u =>
        u.pair = { s.pair with stages := [1, 2] } ∧ u.pwr.st = 0 ∧ (∀ q : Quarter, (u.quart q).st = 1) ∧ u.mem = s.mem ∧ u.tier = s.tier) ∧
      (s.pin.carOwn ≠ 0xFF → Completes (.takeoverStageDone true) s fun u => u = s)) ∧
    (Completes (.takeoverStageDone false) s fun u => u = s) ∧
    (∀ at_ : Nat, s.pair.window = some at_ →
      (s.rgn.tab.all fun e => !(e.2.kind = 1 && e.2.durable && e.2.st ≠ 0)) = true → Completes .recoveryWindowClose s fun u =>
        u.pair = { s.pair with window := none } ∧ u.pool.dir = [] ∧ u.mem = s.mem ∧ u.tier = s.tier ∧ at_ + msec 2 ≤ u.time.nclk) ∧
    (s.isBusy .PAIR_CMD_RESULT 0 = false → s.pair.role = 1 → s.pair.partnerReady = true →
      (s.pair.partnerRole = 3 → Answers .pairYield s fun t =>
        t.pair.role = 5 ∧ t.pair.stages = [] ∧ t.pair.handing = true ∧ t.pair.byCmd = true ∧ t.mem = s.mem) ∧
      (s.pair.partnerRole = 2 → Answers .pairYield s fun t =>
        t.pair = { s.pair with byCmd := true } ∧ t.isBusy .PAIR_CMD_RESULT 0 = true ∧ t.mem = s.mem)) ∧
    (s.isBusy .PAIR_CMD_RESULT 0 = false → s.pair.role ≠ 1 → Answers .pairYield s fun t =>
      t.pair = s.pair ∧ t.reg .PAIR_CMD_RESULT 0 = w32 (s.pair.role % 16 * 256 + 3)) ∧
    (s.pair.role = 1 → s.pair.partnerHandback = true → s.quiet = true → s.pair.handing = false → Answers .handoverStart s fun t =>
      t.pair.role = 5 ∧ t.pair.stages = [] ∧ t.pair.handing = true ∧ t.mem = s.mem ∧ t.tier = s.tier) ∧
    (s.pair.role = 5 →
      (s.pair.stages = [] → s.pool.trks = [] → s.pool.xwaits = [] → Completes .handoverStageDone s fun u => u.pair = { s.pair with stages := [1] }) ∧
      (s.pair.stages = [1] → s.isDrained = true → s.tier.ckpts = [] → Completes .handoverStageDone s fun u =>
        u.pair = { s.pair with stages := [1, 2], seize := false } ∧ u.tier = s.tier) ∧
      (s.pair.stages = [1, 2] → Completes .handoverStageDone s fun u =>
        u.pair.role = 2 ∧ u.pwr.st = 4 ∧ u.pair.stages = [] ∧ u.pair.handing = false ∧ u.mem = [] ∧ u.head.head = false)) ∧
    (∀ m : MgtMsg, m.src = s.partnerId → s.soloRec = false →
      (s.pair.role = 3 → Answers (.handoverGo m) s fun t => t.pair.role = 4 ∧ t.pair.seize = true ∧ t.pair.stages = [1, 3, 4] ∧ t.mem = s.mem) ∧
      (s.pair.role = 2 → Answers (.handoverGo m) s fun t => t.pair.role = 4 ∧ t.pair.seize = true ∧ t.pair.stages = [1]))

/-- R394: an announcement of a member of the pair it names is acknowledged, and a newer epoch held with its member; the acknowledgement of the epoch
announced is noted; one that stays out is asked for again, and given up after 1 s. -/
def Obligations.EpochsAreAnnounced : Prop :=
  ∀ (s : State) (m : MgtMsg), s.su.held = false →
    (∀ p : Nat, p < 16 → leAt m.payload 0 2 = m.src.toNat / 64 * 64 + 0x20 + p → m.src.toNat % 64 / 2 = p → m.src.toNat % 64 < 0x20 →
      (older (s.pair.heldEpochs.get 0 (leAt m.payload 0 2)).toNat (w32 (leAt m.payload 4 4)).toNat = true → Answers (.epochAnnounce m) s fun t =>
        t.pair.heldEpochs.get 0 (leAt m.payload 0 2) = w32 (leAt m.payload 4 4) ∧
        (∀ i : Nat, s.aliveIdx (leAt m.payload 0 2) = some i → t.alive.get 0 i = leAt m.payload 2 1 % 2) ∧
        ∃ q : Msg, t.Sent q ∧ q.op = 0x11 ∧ q.dst = m.src ∧ q.payload = toLe 2 (leAt m.payload 0 2) ++ toLe 4 (w32 (leAt m.payload 4 4)).toNat) ∧
      (older (s.pair.heldEpochs.get 0 (leAt m.payload 0 2)).toNat (w32 (leAt m.payload 4 4)).toNat = false → Answers (.epochAnnounce m) s fun t =>
        t.pair = s.pair ∧ t.alive = s.alive)) ∧
    (leAt m.payload 0 2 / 64 ≠ m.src.toNat / 64 → Answers (.epochAnnounce m) s fun t => t = settle s) ∧
    (leAt m.payload 0 2 = s.myAlias.toNat → w32 (leAt m.payload 2 4) = s.pair.epoch → Answers (.epochAck m) s fun t =>
      t = { s with pair := { s.pair with announces := s.pair.announces.map fun a => if a.dest = m.src then { a with acked := true } else a },
                   lands := t.lands }) ∧
    (∀ a : Announce, (s.pair.announces.find? fun x => x.dest = m.src && !x.acked) = some a → a.since ≤ s.time.nclk →
      (s.time.nclk + msec 1 ≤ a.since + secs 1 → Answers (.epochAnnounceRetry m.src) s fun t =>
        t.pair = s.pair ∧ s.time.nclk < t.time.nclk ∧ ∃ q : Msg, t.Sent q ∧ q.op = 0x10 ∧ q.dst = m.src ∧ q.payload = s.announcePayload s.pair.handing) ∧
      (a.since + secs 1 < s.time.nclk → Answers (.epochAnnounceRetry m.src) s fun t =>
        ∀ x ∈ t.pair.announces, x.dest ≠ m.src))

/-- R391: a unit of firmware takes its algorithm and its initial value, data bytes in ascending order, and a saved value; writes to units 0 and 1 are
ignored. The worked computation of the spec comes to 0xE306_9283. -/
def Obligations.CheckValueUnits : Prop :=
  ∀ s : State, s.su.held = false →
    (∀ (u : Fin 8) (v : W32), 2 ≤ u.val →
      (Answers (.chkValueWrite u v) s fun t => t = settle (s.setReg .CHK_VALUE u.val v)) ∧
      (fld v 2 1 = 0 → bit v.toNat 0 = true → Answers (.chkCfgWrite u v) s fun t =>
        t.reg .CHK_VALUE u.val = 0xFFFFFFFF ∧ t.rfld .CHK_CFG u.val 2 1 = 0 ∧ t.mem = s.mem) ∧
      (∀ n : Fin 3, s.rfld .CHK_CFG u.val 2 1 = 0 → Answers (.chkDataWrite u n v) s fun t =>
        t.reg .CHK_VALUE u.val = w32 ((toLe (2 ^ n.val) v.toNat).foldl (crcByte 0x82F63B78) (s.reg .CHK_VALUE u.val).toNat) ∧
        t = { s with regs := t.regs, lands := t.lands })) ∧
    (∀ (u : Fin 8) (v : W32) (n : Fin 3), u.val < 2 →
      (Answers (.chkValueWrite u v) s fun t => t = settle s) ∧ (Answers (.chkCfgWrite u v) s fun t => t = settle s) ∧
      (Answers (.chkDataWrite u n v) s fun t => t = settle s)) ∧
    (s.rfld .CHK_CFG 2 2 1 = 0 → Answers (.chkDataWrite 2 1 0x3938)
      (s.setReg .CHK_VALUE 2 (w32 ((toLe 1 0x31 ++ toLe 2 0x3332 ++ toLe 4 0x37363534).foldl (crcByte 0x82F63B78) 0xFFFFFFFF))) fun t =>
        t.liveReg .CHK_RESULT 2 = 0xE3069283)

/-! ### Resets, power and clocks (15, R420 to R434) -/

/-- R424, R425, R430, R476: a reset starts the hub with the cause of its source; a failed source or a lost rail holds it in reset with its outputs off,
and the reference, stable again, ends that with cause 6. -/
def Obligations.ResetsStartTheHub : Prop :=
  ∀ (s : State) (x : Straps) (p : Bool),
    (s.Intact → s.pwr.pfPhase ≠ 1 ∨ s.su.held = true → s.pwr.st ≠ 5 → s.pwr.trip = false → Answers (.powerOnReset .porstN x p) s fun t =>
      Started s t 2 ∧ t.pin.head = x.head ∧ t.pin.hosted = x.hosted ∧ t.clk.refSel = x.refSel ∧ t.clk.srefSel = x.srefSel ∧ t.hw.pufOk = p) ∧
    (s.Intact → s.hw.resetPending = none → s.pwr.trip = false → Answers (.powerOnReset .powerApplied x p) s fun t =>
      Started s t 1 ∧ t.pin.head = x.head ∧ t.pin.hosted = x.hosted ∧ t.pin.pwrfailN = true) ∧
    (s.su.held = false → Answers .sourceFail s fun t =>
      t.su.held = true ∧ t.su.waitRef = true ∧ (∃ e, t.plog.ring = e :: s.plog.ring.take 63 ∧ e.kind = 5) ∧ t.regs = [] ∧ t.mem = [] ∧
      t.hw.keys = s.hw.keys ∧ t.clk.refStable = false ∧ t.lands.txIdle = 0xFFFFFF ∧ t.lands.cfgRstN = false ∧ t.lands.pairSeizeN = true) ∧
    (Answers .mainRailLoss s fun t =>
      t.su.held = true ∧ t.pwr.st = 5 ∧ t.plog = s.plog ∧ t.regs = [] ∧ t.mem = [] ∧ t.hw.keys = s.hw.keys ∧ t.lands.txIdle = 0xFFFFFF) ∧
    (Answers (.oscStable .xtal32) s fun t => t = { s with clk := { s.clk with xtalStable := true }, lands := t.lands }) ∧
    (s.su.waitRef = false → Answers (.oscStable .ref25) s fun t => t = { s with clk := { s.clk with refStable := true }, lands := t.lands }) ∧
    (s.Intact → s.su.waitRef = true → s.hw.resetPending = none → Answers (.oscStable .ref25) s fun t => Started s t 6 ∧ t.clk.refStable = true) ∧
    (s.su.held = false → Answers .rootPllLock s fun t => t.clk.rootLock = (s.clk.refStable || s.clk.rootLock) ∧ t.mem = s.mem ∧ t.su = s.su)

/-- R413, R426, R430: a warm reset drains, then keeps DRAM, its training, region state and ephemeral keys and starts at step 2; a drain longer than
20 ms becomes a power-on reset with cause 5. -/
def Obligations.WarmResetDrainsAndKeepsDram : Prop :=
  ∀ s : State, s.su.held = false →
    (s.pwr.pfPhase = 0 → s.su.drain = none →
      (Answers .warmRstNFall s fun t => t.su = { s.su with drain := some ⟨3, s.time.nclk⟩ } ∧ t.mem = s.mem ∧ t.pool = s.pool ∧ t.links = s.links) ∧
      (s.isBusy .RST_CMD_RESULT 0 = false → Answers .warmReset s fun t =>
        t.su = { s.su with drain := some ⟨4, s.time.nclk⟩ } ∧ t.isBusy .RST_CMD_RESULT 0 = true ∧ t.mem = s.mem ∧ t.pool = s.pool)) ∧
    (s.pwr.pfPhase ≠ 0 → Answers .warmReset s fun t => t = settle s) ∧
    (∀ d : DrainSt, s.su.drain = some d →
      (s.isDrained = true → Answers .warmDrainDone s fun t =>
        t.mem = s.mem ∧ t.poison = s.poison ∧ (∀ c : ChanId, t.chan c = { s.chan c with selfRef := true, pd := 0 }) ∧ t.hw = s.hw ∧
        t.pool.slots = s.pool.slots ∧ t.regs = [] ∧ t.links = State.reset.links ∧
        (∃ e, t.plog.ring = e :: s.plog.ring.take 63 ∧ e.kind = 1 ∧ e.detail = d.cause) ∧
        t.su.doneSteps = [1] ∧ t.su.warm = true ∧ t.su.running = if s.pin.hosted then [] else [2]) ∧
      (s.isDrained = false → Answers .warmDrainDone s fun t => t = settle s) ∧
      (s.Intact → Answers .warmDrainTimeout s fun t => Started s t 5 ∧ d.since + msec 20 ≤ t.time.nclk))

/-- R427, R430: a quarter reset by command drains the quarter, then stops and restarts it alone; a drain longer than 20 ms, or a watchdog that expires,
abandons its work. -/
def Obligations.QuarterResets : Prop :=
  ∀ (s : State) (q : Quarter), s.su.held = false → s.pwr.pfPhase = 0 →
    (s.isBusy .RST_CMD_RESULT 0 = false → (s.quart q).st = 2 → Answers (.quarterReset q) s fun t =>
      t.quart q = ⟨2, some ⟨0, s.time.nclk⟩⟩ ∧ (∀ i : Quarter, i ≠ q → t.quart i = s.quart i) ∧ t.isBusy .RST_CMD_RESULT 0 = true ∧
      t.mem = s.mem ∧ t.links = s.links ∧ t.pool = s.pool) ∧
    (s.isBusy .RST_CMD_RESULT 0 = false → (s.quart q).st ≠ 2 → Answers (.quarterReset q) s fun t =>
      t.quarts = s.quarts ∧ t.reg .RST_CMD_RESULT 0 = w32 ((s.quart q).st % 16 * 256 + 3) ∧ t.mem = s.mem) ∧
    ((s.quart q).drain.isSome = true → s.quartDrained q = true → Answers (.quarterDrainDone q) s fun t =>
      t.quart q = ⟨2, none⟩ ∧ (∀ i : Quarter, i ≠ q → t.quart i = s.quart i) ∧ t.mem = s.mem ∧ t.hw = s.hw ∧ t.rgn = s.rgn ∧
      (∀ i : SliceId, (t.slice i).st = (s.slice i).st ∧ (t.slice i).tenant = (s.slice i).tenant)) ∧
    (s.quartDrained q = false → Answers (.quarterDrainDone q) s fun t => t = settle s) ∧
    (∀ d : DrainSt, (s.quart q).drain = some d → ∃ u : State, exec (.quarterDrainTimeout q) s = .next (settle (memPump 64 u)) ∧
      u.quart q = ⟨2, none⟩ ∧ d.since + msec 20 ≤ u.time.nclk ∧ ∀ i : Quarter, i ≠ q → u.quart i = s.quart i) ∧
    ((s.quart q).st = 2 → ∃ u : State, exec (.qwdogExpire q) s = .next (settle (memPump 64 u)) ∧
      u.quart q = ⟨2, none⟩ ∧ ∀ i : Quarter, i ≠ q → u.quart i = s.quart i)

/-- R433, R434, R477: power failure, judged after 2 µs, begins the sequence: drains stop and ALARM bit 0 is raised; at its end PF_DONE is logged, links
and chain stop with the outputs, and after 10 ms of power the hub starts with cause 9. A report of 115 °C trips, and one of 100 °C limits (R432). -/
def Obligations.PowerLossIsHandled : Prop :=
  ∀ s : State, s.su.held = false →
    (s.pwr.pfPhase = 0 → Answers .pwrfailNFall s fun t =>
      t.pwr.pfPhase = 1 ∧ t.time.nclk = s.time.nclk + usec 2 ∧ t.pwr.pfAt = t.time.nclk ∧ t.su.drain = none ∧ t.pin.pwrfailN = false ∧
      (∀ q : Quarter, (t.quart q).drain = none) ∧ bit t.spn.alarmOwn.toNat 0 = true ∧ t.mem = s.mem ∧ t.hw = s.hw) ∧
    (∀ mib us : W16, s.pwr.pfPhase = 1 → s.pwr.porHeld = false → Answers (.pfSequenceDone mib us) s fun t =>
      t.pwr.pfPhase = 2 ∧ t.pwr.pfMib = mib ∧ t.pwr.pfUs = us ∧ s.pwr.pfAt + usec us.toNat ≤ t.time.nclk ∧
      (∃ e, t.plog.ring = e :: s.plog.ring.take 63 ∧ e.kind = 6 ∧ e.data = w32 (mib.toNat * 65536 + us.toNat)) ∧
      (s.tier.geo ≠ [] → t.tier.orderly = true) ∧ t.pool.trks = [] ∧ t.spn.state = 0 ∧ (∀ l : LinkId, (t.link l).st = 9) ∧
      t.lands.txIdle = 0xFFFFFF) ∧
    (s.pwr.pfPhase ≠ 1 → Answers (.pfSequenceDone 0 0) s fun t => t = settle s) ∧
    (s.Intact → s.pwr.pfPhase = 2 → s.pwr.trip = false → Answers .pfRestartTimeout s fun t =>
      Started s t 9 ∧ s.pwr.pfAt + msec 10 ≤ t.time.nclk ∧ t.pin.pwrfailN = true) ∧
    (∀ c : Byte, Answers (.tempReport c) s fun t =>
      t.pwr.tempMax = c ∧
      t.pwr.thermLimit = (if 100 ≤ c.toNat then true else if c.toNat < 95 then false else s.pwr.thermLimit) ∧
      (c.toNat < 115 → t.pwr.pfPhase = s.pwr.pfPhase ∧ t.plog = s.plog ∧ t.tier = s.tier) ∧
      (115 ≤ c.toNat → s.pwr.trip = false → s.pwr.tripPend = false → s.pwr.pfPhase = 0 →
        t.pwr.pfPhase = 1 ∧ t.pwr.tripPend = true ∧ ∃ e, t.plog.ring = e :: s.plog.ring.take 63 ∧ e.kind = 7 ∧ e.data = w32 c.toNat))

/-- R11; 14 (R422, R431, R443): each clock moves one step at a time, 10 µs apart; ECLK_REQ takes 3, 4, 5 or 8 up to the
ceiling, and a request above it is answered UNSUPPORTED and logged; the cap takes one step down while
the mean of ten measurements exceeds it, and one up after 100 measurements 25 W below it; CAP_UNMET sets where no step is left (it clears by
log entry 64). -/
def Obligations.ClocksAndCapStep : Prop :=
  ∀ s : State, s.su.held = false →
    (∀ d : DomId, (s.clk.dom[domNo d]).div ≠ (s.clk.dom[domNo d]).target → (s.clk.dom[domNo d]).div ≠ 0 → Answers (.clockRampStep d) s fun t =>
      (t.clk.dom[domNo d]).div = rampNext (isEclk (domNo d)) (s.clk.dom[domNo d]).div (s.clk.dom[domNo d]).target ∧
      (t.clk.dom[domNo d]).target = (s.clk.dom[domNo d]).target ∧ (s.clk.dom[domNo d]).stepAt + usec 10 ≤ t.time.nclk ∧
      ∀ i : Fin 22, i ≠ domNo d → t.clk.dom[i] = s.clk.dom[i]) ∧
    (∀ v : BitVec 4, v = 3 ∨ v = 4 ∨ v = 5 ∨ v = 8 →
      (aboveCeiling s.eclkMax v.toNat = false → Answers (.eclkReqWrite v) s fun t =>
        t.reg .ECLK_REQ 0 = w32 v.toNat ∧ (∀ d : Fin 22, (t.clk.dom[d]).div = (s.clk.dom[d]).div) ∧ t.mem = s.mem) ∧
      (aboveCeiling s.eclkMax v.toNat = true → Answers (.eclkReqWrite v) s fun t =>
        t.reg .ECLK_REQ 0 = s.reg .ECLK_REQ 0 ∧ t.clk = s.clk ∧ t.mem = s.mem ∧
        ((rollSecond s).log.rate.get 0 2 < 256 → t.log.head = (rollSecond s).log.head + 1 ∧
          ∃ e, t.log.ring = e :: (rollSecond s).log.ring.take 4095 ∧ e.cls = 2 ∧ e.status = stUNSUPPORTED))) ∧
    (∀ w : W16, Answers (.powerMeasure w) s fun t =>
      t.pwr.meas = w.toNat :: s.pwr.meas.take 9 ∧ t.pwr.below = (if t.meanPower + 25 ≤ s.capWatts then s.pwr.below + 1 else 0) ∧ t.clk = s.clk ∧
      t.pwr.unmet = (s.pwr.unmet || (t.capWatts < t.meanPower && !s.stepLeft))) ∧
    (s.capWatts < s.meanPower → s.eclkTarget < 8 → Answers .capStep s fun t =>
      t.pwr.eSteps = s.pwr.eSteps + 1 ∧ t.pwr.outOf = s.pwr.outOf ∧ t.mem = s.mem) ∧
    (s.capWatts < s.meanPower → 8 ≤ s.eclkTarget → (∀ i : SliceId, s.mayGate i = false) → Answers .capStep s fun t =>
      t.pwr.eSteps = s.pwr.eSteps ∧ t.pwr.outOf = s.pwr.outOf ∧ t.pwr.unmet = true) ∧
    (s.meanPower ≤ s.capWatts → s.pwr.thermLimit = false → s.pwr.below < 100 → Answers .capStep s fun t =>
      t.pwr = { s.pwr with unmet := false } ∧ t.clk = s.clk) ∧
    (s.meanPower ≤ s.capWatts → s.pwr.thermLimit = false → 100 ≤ s.pwr.below → s.coreSteps = 0 → 0 < s.pwr.eSteps → Answers .capStep s fun t =>
      t.pwr.eSteps = s.pwr.eSteps - 1 ∧ t.pwr.below = 0 ∧ t.pwr.outOf = s.pwr.outOf)

/-- R428, R429: IDLE after IDLE_US without a tile, DOZE after DOZE_MS without a dispatch, with the cores off and the ranks in power-down; SLEEP and
STANDBY-COLD by command, entered once drained and checkpointed; ACTIVE by command runs the steps that lead out. -/
def Obligations.PowerStatesChange : Prop :=
  ∀ s : State, s.su.held = false →
    (s.pwr.st = 0 → s.su.service = true → s.coresRun = false → Answers .idleTimerExpire s fun t =>
      t.pwr = { s.pwr with st := 1 } ∧ s.pwr.lastTile + usec (max 1 (s.rfld .PWR_TIMERS 0 15 0)) ≤ t.time.nclk ∧ t.mem = s.mem) ∧
    (s.pwr.st = 0 → s.su.service = true → s.coresRun = true → Answers .idleTimerExpire s fun t => t.pwr = s.pwr ∧ t.work = s.work) ∧
    (s.pwr.st < 2 → s.su.service = true → s.rfld .PWR_TIMERS 0 31 16 ≠ 0 → s.coresRun = false → Answers .dozeTimerExpire s fun t =>
      t.pwr.st = 2 ∧ s.pwr.lastDispatch + msec (s.rfld .PWR_TIMERS 0 31 16) ≤ t.time.nclk ∧ (∀ k : CoreId, (t.coreSt k).st ≠ 1) ∧
      (∀ c : ChanId, (s.chan c).up = true → (t.chan c).pd = 2 ^ (s.chan c).ranks - 1) ∧ t.mem = s.mem) ∧
    (s.isBusy .PWR_CMD_RESULT 0 = false →
      (∀ v : BitVec 4, v = 3 ∨ v = 4 → s.pwr.st ≤ 2 → s.pair.role = 7 → s.liveTasks = 0 → s.unitBusy = false → s.pwr.pfPhase = 0 → s.su.drain = none →
        s.coresRun = false → Answers (.setState v) s fun t =>
          t.pwr = { s.pwr with trans := some v.toNat } ∧ t.isBusy .PWR_CMD_RESULT 0 = true ∧ t.mem = s.mem) ∧
      (∀ v : BitVec 4, v = 3 ∨ v = 4 → s.pwr.st ≤ 2 → s.liveTasks ≠ 0 → Answers (.setState v) s fun t =>
        t.pwr = s.pwr ∧ t.reg .PWR_CMD_RESULT 0 = w32 (s.pwr.st % 16 * 256 + 3)) ∧
      (s.pwr.st = 3 → Answers (.setState 0) s fun t =>
        t.pwr.st = 0 ∧ t.su.wake = true ∧ t.su.running = [5] ∧ t.isBusy .PWR_CMD_RESULT 0 = true ∧ t.mem = s.mem) ∧
      (∀ v : BitVec 4, v = 1 ∨ v = 2 ∨ 4 < v.toNat → Answers (.setState v) s fun t =>
        t.reg .PWR_CMD_RESULT 0 = w32 stUNSUPPORTED.toNat ∧ t.pwr = s.pwr)) ∧
    (∀ n : Nat, s.pwr.trans = some n →
      (s.isDrained = true → s.tier.ckpts = [] → Answers .sleepEntryDone s fun t =>
        t.pwr.st = n ∧ t.pwr.trans = none ∧ t.su.service = false ∧ (∀ q : Quarter, t.quart q = ⟨0, none⟩) ∧
        (n = 3 → t.mem = s.mem) ∧ (n = 4 → t.mem = []) ∧ t.reg .PWR_CMD_RESULT 0 = 0) ∧
      (s.isDrained = false → Answers .sleepEntryDone s fun t => t = settle s))

/-! ### Start-up, blanks, job boundaries, time and debug (14, 15, 16: R400 to R416, R435 to R440, R465, R466) -/

/-- R410, R411, R419: a step that is over is marked done, and where start-up runs by itself the next one begins, 8 alongside 7; a root PLL that does
not lock three times fails step 4; waves power the cores of assigned slices, six at a time, 60 µs apart. -/
def Obligations.StartupStepsRun : Prop :=
  ∀ (s : State) (r : StepReport), s.su.held = false →
    (s.su.running = [] → Completes (.startupStepDone r) s fun u => u = s) ∧
    (∀ n : Nat, s.su.running = [n] → s.autonomous = false →
      (n = 1 ∧ s.clk.refStable = true ∧ s.pin.pwrfailN = true ∧ s.hw.pufOk = true ∧ r.ok = true ∨ n = 4 ∧ r.ok = true ∧ s.clk.rootLock = true ∨ n = 5 ∨
        n = 6 ∧ (s.kcoreEn = false ∨ 24 ≤ s.su.wave) ∨ n = 7 ∧ (∀ c : ChanId, (s.chan c).st ≠ 1) ∨ n = 8 ∧ (∀ c : CarrierId, (s.car c).st ≠ 2) ∨
        n = 9 ∨ n = 10 ∨ n = 11) →
      Completes (.startupStepDone r) s fun u =>
        u.su.running = [] ∧ n ∈ u.su.doneSteps ∧ u.su.step = max s.su.step n ∧ u.su.failed = false ∧ u.mem = s.mem ∧
        (s.isBusy .SU_CMD_RESULT 0 = true → u.reg .SU_CMD_RESULT 0 = 0)) ∧
    (s.autonomous = true → s.su.wake = false →
      (s.su.running = [1] → s.clk.refStable = true → s.pin.pwrfailN = true → s.hw.pufOk = true → r.ok = true →
        Completes (.startupStepDone r) s fun u => u.su.running = [2] ∧ u.mem = s.mem) ∧
      (s.su.running = [4] → r.ok = true → s.clk.rootLock = true → Completes (.startupStepDone r) s fun u =>
        u.su.running = [5] ∧ ∀ q : Quarter, (u.quart q).st = 1) ∧
      (s.su.running = [5] → Completes (.startupStepDone r) s fun u =>
        u.su.running = (if s.kcoreEn then [6] else [7, 8]) ∧ ∀ q : Quarter, (u.quart q).st = if bit r.quartersUp.toNat q.val then 2 else 3) ∧
      (s.su.running = [7, 8] → (∀ c : ChanId, (s.chan c).st ≠ 1) → Completes (.startupStepDone r) s fun u => u.su.running = [8]) ∧
      (s.su.running = [8] → (∀ c : CarrierId, (s.car c).st ≠ 2) → Completes (.startupStepDone r) s fun u => u.su.running = [9]) ∧
      (s.su.running = [9] → Completes (.startupStepDone r) s fun u => u.su.running = [10] ∧ u.spn.state = 1) ∧
      (s.su.running = [10] → Completes (.startupStepDone r) s fun u => u.su.running = [11])) ∧
    (s.su.running = [4] → r.ok = false →
      (s.su.pllTries < 2 → Completes (.startupStepDone r) s fun u => u = { s with su := { s.su with pllTries := s.su.pllTries + 1 } }) ∧
      (2 ≤ s.su.pllTries → Completes (.startupStepDone r) s fun u =>
        u.su.failed = true ∧ u.su.failStep = 4 ∧ u.su.cause = r.cause ∧ u.su.running = [] ∧ (s.su.wake = false → u.autonomous = false))) ∧
    (s.su.wave < 24 → s.kcoreEn = true → 6 ∈ s.su.doneSteps → s.pwr.st < 2 → Completes .coreWave s fun u =>
      u.su.wave = s.su.wave + 1 ∧ (s.su.wave ≠ 0 → s.su.waveAt + usec 60 ≤ u.time.nclk) ∧
      ∀ k : CoreId, (u.coreSt k).st =
        if s.qOn (s.su.wave / 6) = true ∧ k.val / 6 = s.su.wave ∧ (s.coreSt k).st = 0 ∧ s.sliceInUse (coreSlice k) = true then 4 else (s.coreSt k).st)

/-- R410, R414: the last step opens pool service, or leaves a STEADY device in STANDBY-COLD; in hosted start-up each step runs by command, in order, and
a failed one again by another; any other command conflicts. -/
def Obligations.HostedStartupByCommand : Prop :=
  ∀ (s : State) (r : StepReport) (v : BitVec 4), s.su.held = false →
    (s.su.running = [12] → s.su.wake = false →
      (s.pair.role = 7 → Completes (.startupStepDone r) s fun u =>
        u.su.service = true ∧ u.su.locked = true ∧ u.su.step = max s.su.step 12 ∧ u.su.running = [] ∧ u.pair.role = 7) ∧
      (s.pair.role = 2 → Completes (.startupStepDone r) s fun u =>
        u.su.service = true ∧ u.su.locked = true ∧ u.pwr.st = 4 ∧ u.pair.role = 2 ∧ u.mem = [])) ∧
    (s.isBusy .SU_CMD_RESULT 0 = false → s.autonomous = false →
      (s.su.running = [] → v.toNat = s.su.step + 1 → v.toNat ≤ 12 → v.toNat ≠ 6 ∨ s.kcoreEn = true → Completes (.suCmdRun v) s fun u =>
        u.su.running = [v.toNat] ∧ u.su.step = s.su.step ∧ u.isBusy .SU_CMD_RESULT 0 = true ∧ u.mem = s.mem) ∧
      (v.toNat ≠ s.su.step + 1 → Completes (.suCmdRun v) s fun u =>
        u.su = s.su ∧ u.reg .SU_CMD_RESULT 0 = w32 (s.su.step % 16 * 256 + 3) ∧ u.mem = s.mem) ∧
      (s.su.failed = true → v.toNat = s.su.failStep → v.toNat ≠ 6 ∨ s.kcoreEn = true → Completes (.suCmdRetry v) s fun u =>
        u.su.running = s.su.running ++ [v.toNat] ∧ u.su.failed = false ∧ u.isBusy .SU_CMD_RESULT 0 = true) ∧
      (s.su.failed = false → Completes (.suCmdRetry v) s fun u => u.su = s.su ∧ u.reg .SU_CMD_RESULT 0 = w32 (s.su.step % 16 * 256 + 3))) ∧
    (s.isBusy .SU_CMD_RESULT 0 = false → s.autonomous = true → Completes (.suCmdRun v) s fun u =>
      u.su = s.su ∧ u.reg .SU_CMD_RESULT 0 = w32 (s.su.step % 16 * 256 + 3))

/-- R403, R404, R405, R408, R409, R416: start-up uses the first valid copy in its order; staging erases the spare copy, takes pages at its offset, and
at STAGE_COMMIT judges it; the copy in use never changes. -/
def Obligations.BlanksAreStagedAndJudged : Prop :=
  ∀ s : State, s.su.held = false →
    (∀ r : StepReport, s.su.running = [2] →
      (r.readable = 0 → Completes (.startupStepDone r) s fun u =>
        u.su.failed = true ∧ u.su.failStep = 2 ∧ u.blank.causeA = 1 ∧ u.blank.causeB = 1 ∧ u.blank.live = s.blank.live) ∧
      (∀ (c : Nat) (l : List Nat) (b : BlankHdr) (recs : List Rec), tryOrder s r.readable = c :: l →
        checkCopy s c (r.readable.toNat.testBit c) r.sigs false = .inr (b, recs) → Completes (.startupStepDone r) s fun u =>
          u.blank.src = c ∧ u.blank.seq = w32 b.seq ∧ u.blank.live = recs ∧ u.hw.minSeq.toNat = max s.hw.minSeq.toNat (b.floor % 2 ^ 32) ∧
          2 ∈ u.su.doneSteps)) ∧
    (s.isBusy .BLK_CMD_RESULT 0 = false →
      (s.blank.bstate < 2 → Answers .stageBegin s fun t =>
        t.blank.bstate = 1 ∧ t.blank.stageOff = 0 ∧ t.blank.staged = false ∧ t.copy s.spareCopy = [] ∧ t.copy s.blank.src = s.copy s.blank.src ∧
        t.blank.live = s.blank.live ∧ t.reg .BLK_CMD_RESULT 0 = 0) ∧
      (2 ≤ s.blank.bstate → Answers .stageBegin s fun t =>
        t.blank = s.blank ∧ t.reg .BLK_CMD_RESULT 0 = w32 (s.blank.bstate % 16 * 256 + 3)) ∧
      (s.blank.bstate = 1 → Answers .putWin s fun t =>
        t.blank.stageOff = s.blank.stageOff + 256 ∧ t.reg .BLK_CMD_RESULT 0 = 0 ∧ t.copy s.blank.src = s.copy s.blank.src ∧
        ∀ i : Nat, (t.copy s.spareCopy).get 0xFF i =
          if s.blank.stageOff ≤ i ∧ i < s.blank.stageOff + 256 then
            byte ((s.reg .BLK_WIN ((i - s.blank.stageOff) / 4)).toNat / 256 ^ ((i - s.blank.stageOff) % 4))
          else (s.copy s.spareCopy).get 0xFF i) ∧
      (∀ (readable : Bool) (sigs : List SigRef), s.blank.bstate = 1 →
        (∀ x : Nat × Nat, checkCopy s s.spareCopy readable sigs s.su.hosted = .inl x → Answers (.stageCommit readable sigs) s fun t =>
          t.reg .BLK_CMD_RESULT 0 = w32 stBAD_DESCRIPTOR.toNat ∧ t.blank.failCause = x.1 ∧ t.blank.failRec = x.2 ∧ t.blank.bstate = 0 ∧
          t.blank.staged = s.blank.staged) ∧
        (∀ (b : BlankHdr) (recs : List Rec), checkCopy s s.spareCopy readable sigs s.su.hosted = .inr (b, recs) →
          (s.blank.inUse = true → b.seq ≤ s.blank.seq.toNat → Answers (.stageCommit readable sigs) s fun t =>
            t.reg .BLK_CMD_RESULT 0 = w32 stSTALE_GENERATION.toNat ∧ t.blank.bstate = 0 ∧ t.blank.staged = s.blank.staged) ∧
          (s.blank.inUse = false ∨ s.blank.seq.toNat < b.seq → s.partChanges ((recIn recs 8 0).getD []) = false →
            Answers (.stageCommit readable sigs) s fun t =>
              t.reg .BLK_CMD_RESULT 0 = 0 ∧ t.blank.staged = true ∧ t.blank.stagedSeq = w32 b.seq ∧ t.blank.bstate = 0 ∧ t.blank.a = s.blank.a ∧
              t.blank.b = s.blank.b ∧ t.blank.live = s.blank.live ∧ t.hw = s.hw))) ∧
      (∀ x : BlankHdr × List Rec, s.su.hosted = true → allZero s.hw.ownerDig = true → s.blank.staged = true → s.copyRecs s.spareCopy = some x →
        (nvWrite 25 s).1 = true → Answers .ownerClaim s fun t =>
          t.hw.ownerDig = sha384 (cut ((recIn x.2 1 0).getD []) 0 97) ∧ t.reg .BLK_CMD_RESULT 0 = 0 ∧ t.hw.keys = s.hw.keys)) ∧
    (∀ m : MgtMsg,
      (s.mayPut m.src = false → Answers (.blkPut m) s fun t =>
        t.blank = s.blank ∧ ∃ q : Msg, t.Sent q ∧ q.op = 0x15 ∧ q.dst = m.src ∧ q.tag = m.tag ∧ q.status = stNO_ACCESS) ∧
      (s.mayPut m.src = true → leAt m.payload 1 3 = 0 → m.payload.length = 264 → leAt m.payload 0 1 = 0x3F → s.blank.bstate = 1 →
        (leAt m.payload 4 4 = s.blank.stageOff → Answers (.blkPut m) s fun t =>
          t.blank.stageOff = s.blank.stageOff + 256 ∧
          (∀ i : Nat, i < 256 → (t.copy s.spareCopy).get 0xFF (s.blank.stageOff + i) = m.payload.getD (8 + i) 0) ∧
          ∃ q : Msg, t.Sent q ∧ q.op = 0x15 ∧ q.dst = m.src ∧ q.tag = m.tag ∧ q.status = 0) ∧
        (leAt m.payload 4 4 ≠ s.blank.stageOff → Answers (.blkPut m) s fun t =>
          t.blank = s.blank ∧ ∃ q : Msg, t.Sent q ∧ q.op = 0x15 ∧ q.dst = m.src ∧ q.status = stSTATE_CONFLICT)) ∧
      (∀ x : W16 × W32 × W16 × W16, (s.mbx.puts.find? fun x => x.1 = m.src && x.2.1 = w32 (leAt m.payload 0 4)) = some x →
        Answers (.blkAck m) s fun t =>
          t.mbx.puts = s.mbx.puts.erase x ∧ t.blank = s.blank ∧
          ∃ q : Msg, t.Sent q ∧ q.op = 0x15 ∧ q.dst = x.2.2.1 ∧ q.tag = x.2.2.2 ∧ q.payload = m.payload))

/-- R415, R417, R418: the headstock's PREPARE goes to every active device; a member answers what it has staged, arms at COMMIT, drops it at ABORT, and
at APPLY_AT adopts the staged blank and acknowledges. -/
def Obligations.JobBoundariesApply : Prop :=
  ∀ s : State, s.su.held = false →
    (∀ (h : CmdHdr) (applyAt : W64), s.classOf h.iss = .da →
      (s.head.head = true → s.job.head = none → s.blank.bstate < 2 → applyAt = 0 ∨ s.ptValid = true → s.pairGap = false →
        Completes (.jobBoundary h applyAt) s fun u => ∃ j, u.job.head = some j ∧ j.h = h ∧ j.phase = 0 ∧ j.applyAt = applyAt.toNat ∧
          j.waits.map Prod.fst = s.activeIds ∧ (∀ w ∈ j.waits, u.Told w.1 none ([0xA, 0, 0, 0] ++ toLe 4 w.2.1.toNat)) ∧
          u.blank = s.blank ∧ u.mem = s.mem) ∧
      (s.head.head = true → s.job.head = none → s.blank.bstate < 2 → applyAt ≠ 0 → s.ptValid = false →
        Completes (.jobBoundary h applyAt) s fun u => u.Replied h 0x502 stDATE_INVALID 0 [0xFF, 0, 0, 0] ∧ u.job = s.job) ∧
      (s.head.head = false → Completes (.jobBoundary h applyAt) s fun u => u.Replied h 0x502 stUNSUPPORTED 0 [0xFF, 0, 0, 0] ∧ u.job = s.job)) ∧
    (∀ c : Coord, s.isDevice c.src = true → s.closedHint = none → (∀ a ∈ s.coord.acked, ¬(a.src = c.src ∧ a.xid = c.xid)) →
      (c.src, c.xid) ∉ s.coord.fwdOpen →
      (s.job.armed = none → s.blank.bstate ≠ 3 → s.blank.staged = false → Completes (.jobPrepare c) s fun u =>
        ⟨c.src, c.xid, 0xA, 0, [1, 0, 0, 0]⟩ ∈ u.coord.acked ∧ u.blank = { s.blank with bstate := 2 }) ∧
      (∀ x : BlankHdr × List Rec, s.job.armed = none → s.blank.bstate ≠ 3 → s.blank.staged = true → s.copyRecs s.spareCopy = some x →
        (s.blank.inUse = true → s.blank.seq.toNat < x.1.seq) → s.partChanges ((recIn x.2 8 0).getD (zeros 16)) = false →
        (∀ t ∈ s.released ((recIn x.2 8 0).getD (zeros 16)), s.mayRelease t = true) → Completes (.jobPrepare c) s fun u =>
          ⟨c.src, c.xid, 0xA, 0, [0, 0, 0, 0]⟩ ∈ u.coord.acked ∧ u.blank = { s.blank with bstate := 2 }) ∧
      (s.job.armed.isSome = true → Completes (.jobPrepare c) s fun u =>
        ⟨c.src, c.xid, 0xA, 3, [2, 0, 0, 0]⟩ ∈ u.coord.acked ∧ u.blank = s.blank) ∧
      (∀ applyAt : W64, s.blank.bstate = 2 → s.ptValid = true → s.ptNs < applyAt.toNat → Completes (.jobCommit c applyAt) s fun u =>
        u.job = { s.job with armed := some applyAt.toNat, from_ := some (c.src, c.xid), late := false } ∧ u.blank = s.blank ∧
        (c.src, c.xid) ∈ u.coord.fwdOpen) ∧
      (∀ applyAt : W64, s.blank.bstate ≠ 2 → Completes (.jobCommit c applyAt) s fun u => u.Acked c 0xB 0 ∧ u.job = s.job ∧ u.blank = s.blank) ∧
      (s.job.armed = none → s.blank.bstate = 2 → Completes (.jobAbort c) s fun u => u.Acked c 0xC 0 ∧ u.blank = { s.blank with bstate := 0 })) ∧
    (∀ (at_ : Nat) (src : W16) (xid : W32), s.job.armed = some at_ → at_ ≠ 0 → s.job.from_ = some (src, xid) → s.job.late = false →
      (s.blank.staged = false → Completes .jobApply s fun u =>
        u.Acked ⟨src, xid⟩ 0xB 0 ∧ u.job.armed = none ∧ u.blank = { s.blank with bstate := 0 } ∧ at_ ≤ u.ptNs) ∧
      (∀ x : BlankHdr × List Rec, s.blank.staged = true → s.copyRecs s.spareCopy = some x → Completes .jobApply s fun u =>
        u.blank.src = s.spareCopy ∧ u.blank.seq = w32 x.1.seq ∧ u.blank.staged = false ∧ u.blank.bstate = 0 ∧
        (∃ part, u.blank.live = mergeRecs part s.blank.live x.2) ∧ u.hw.minSeq.toNat = max s.hw.minSeq.toNat (x.1.floor % 2 ^ 32) ∧ u.job.armed = none))

/-- R435 to R440: the headstock starts an exchange with every member; a member stamps it, and corrects its pool time by the offset found; without one
for 2 s it holds over, for 60 s at most; the RTC follows pool time by the second; a valid staged date sets it. -/
def Obligations.PoolTimeFollowsItsSource : Prop :=
  ∀ s : State, s.su.held = false →
    (s.head.head = true → Answers .timeSyncPeriod s fun t =>
      t.time.nclk = max s.time.nclk (s.time.stamps.get 0 paceSync + msec 125) ∧
      ∀ p : Nat, p < 32 → p ≠ s.spn.pos → (s.spn.map.getD p 0).toNat % 4 ≠ 0 → ∃ q : Msg, t.Sent q ∧ q.op = 0x16 ∧ q.dst = s.idOf p) ∧
    (∀ m : MgtMsg, Answers (.timeSync m) s fun t =>
      t.time.xch = some ⟨8 * leAt m.payload 8 8, s.time.pt, s.time.pt, 8 * leAt m.payload 0 8⟩ ∧ t.time.holdAt = none ∧ t.time.pt = s.time.pt ∧
      ∃ q : Msg, t.Sent q ∧ q.op = 0x17 ∧ q.dst = m.src) ∧
    (∀ m : MgtMsg,
      (s.head.head = true → Answers (.timeDreq m) s fun t =>
        t.time = s.time ∧ ∃ q : Msg, t.Sent q ∧ q.op = 0x18 ∧ q.dst = m.src ∧ q.payload = cut m.payload 0 8 ++ toLe 8 s.ptNs) ∧
      (s.head.head = false → Answers (.timeDreq m) s fun t => t = settle s)) ∧
    (∀ (m : MgtMsg) (x : TimeXch), s.time.xch = some x → Answers (.timeDresp m) s fun t =>
      let off : Int := (((x.t2 : Int) - x.t1 - x.c1) - ((8 * leAt m.payload 8 8 : Int) - x.t3 - 8 * leAt m.payload 0 8)) / 2
      t.time.src = 2 ∧ t.time.xch = none ∧
      (8000 < off.natAbs → t.time.pt = ((s.time.pt : Int) - off).toNat ∧ t.time.slew = 0) ∧
      (off.natAbs ≤ 8000 → t.time.pt = s.time.pt ∧ t.time.slew = -off)) ∧
    (s.time.src = 2 → s.time.holdAt = none → Answers .holdoverEntry s fun t =>
      t.time.holdAt = some t.time.nclk ∧ s.time.lastSync + secs 2 ≤ t.time.nclk ∧ t.time.src = 2) ∧
    (∀ at_ : Nat, s.time.holdAt = some at_ → Answers .holdoverExpire s fun t => t.time.src = 0 ∧ at_ + secs 60 ≤ t.time.nclk) ∧
    (∀ (d : Byte) (ns : W64), s.head.head = true → s.rfld .PTP_CFG 0 8 8 = 1 → s.rfld .PTP_CFG 0 7 0 = d.toNat →
      (Answers (.ptpMessage d true ns) s fun t => t.time.src = 3 ∧ t.time.ptpLocked = true ∧ t.time.rtc = s.time.rtc) ∧
      (Answers (.ptpMessage d false ns) s fun t => t.time = { s.time with ptpLocked := false, src := if s.time.rtcValid then 1 else 0 })) ∧
    (s.time.src = 2 ∨ s.time.src = 3 → Answers .rtcSecond s fun t =>
      ((5 * t.time.rtc : Int) - t.time.pt).natAbs < 8000000000 ∧ t.time.src = s.time.src ∧ s.time.nclk ≤ t.time.nclk) ∧
    (s.isBusy .RTC_CMD_RESULT 0 = false →
      (s.time.src < 2 → s.staged.valid = true → Answers .calCommit s fun t =>
        t.time.rtc = secs 1 * (s.staged.secs + s.time.utc.toNat) ∧ t.time.rtcValid = true ∧ t.reg .RTC_CMD_RESULT 0 = 0) ∧
      (s.time.src < 2 → s.staged.valid = false → Answers .calCommit s fun t =>
        t.time = { s.time with dateInvalid := true } ∧ t.reg .RTC_CMD_RESULT 0 = w32 stDATE_INVALID.toNat) ∧
      (2 ≤ s.time.src → Answers .calCommit s fun t => t.time = s.time ∧ t.reg .RTC_CMD_RESULT 0 = w32 (s.time.src % 16 * 256 + 3)))

/-- R465, R466: a challenge's nonce serves one UNLOCK within 60 s; UNLOCK opens what its scope names when the certificate is the policy's, the
signature holds and no slice is in use; eight failures close it; JTAG reaches a core only once it is open. -/
def Obligations.DebugOpensByChallenge : Prop :=
  ∀ s : State, s.su.held = false →
    (s.isBusy .DBG_CMD_RESULT 0 = false → Answers .challenge s fun t =>
      ∃ n, t.obs.nonce = some n ∧ n.since = s.time.nclk ∧ n.data.length = 32 ∧ t.obs.unlocked = s.obs.unlocked ∧ t.reg .DBG_CMD_RESULT 0 = 0 ∧
        ∀ i : Nat, i < 8 → t.reg .DBG_CHAL i = w32 (leAt n.data (4 * i) 4)) ∧
    (∀ n, s.obs.nonce = some n → Answers .dbgNonceExpire s fun t => t.obs = { s.obs with nonce := none } ∧ n.since + secs 60 ≤ t.time.nclk) ∧
    (∀ sigOk : Bool, s.isBusy .DBG_CMD_RESULT 0 = false →
      (allZero (cut s.policy 0x80 48) = true → Answers (.unlock sigOk) s fun t =>
        t.obs = s.obs ∧ t.reg .DBG_CMD_RESULT 0 = w32 stUNSUPPORTED.toNat) ∧
      (allZero (cut s.policy 0x80 48) = false → 8 ≤ s.obs.fails → Answers (.unlock sigOk) s fun t =>
        t.obs = s.obs ∧ t.reg .DBG_CMD_RESULT 0 = w32 stNO_ACCESS.toNat) ∧
      (allZero (cut s.policy 0x80 48) = false → s.obs.fails < 8 → sigOk = false → Answers (.unlock sigOk) s fun t =>
        t.obs = { s.obs with nonce := none, fails := s.obs.fails + 1 } ∧ t.reg .DBG_CMD_RESULT 0 = w32 stBAD_DESCRIPTOR.toNat) ∧
      (∀ n, allZero (cut s.policy 0x80 48) = false → s.obs.fails < 8 → sigOk = true → s.obs.nonce = some n →
        s.time.nclk < n.since + secs 60 → sha384 (cut s.dbgWin 0 97) = cut s.policy 0x80 48 →
        (s.busySlice = none → Answers (.unlock sigOk) s fun t =>
          t.obs.unlocked = s.obs.unlocked ||| leAt s.dbgWin 104 4 % 256 ∧ t.obs.nonce = none ∧ t.obs.fails = s.obs.fails ∧
          t.reg .DBG_CMD_RESULT 0 = 0 ∧ ∃ e, t.plog.ring = e :: s.plog.ring.take 63 ∧ e.kind = 11) ∧
        (∀ k : Nat, s.busySlice = some k → Answers (.unlock sigOk) s fun t =>
          t.obs = { s.obs with nonce := none } ∧ t.reg .DBG_CMD_RESULT 0 = w32 (k % 16 * 256 + 3)))) ∧
    (Answers (.jtagTapAccess .idcode) s fun t => t.out = s.out ++ [.jtag [0xB3, 0x00, 0x64, 0x19]]) ∧
    (Answers (.jtagTapAccess .bypass) s fun t => t.out = s.out ++ [.jtag [0]]) ∧
    (Answers (.jtagTapAccess .boundaryScan) s fun t => ∃ b, t.out = s.out ++ [.jtag b] ∧ b.length = 1) ∧
    (∀ i : Fin 7, s.obs.unlocked.testBit (traceSources.getD i.val 0) = false → Answers (.jtagTapAccess (.debug i)) s fun t =>
      t.out = s.out ++ [.jtag [0]] ∧ t.obs = s.obs)

/-! ### Registers, mailboxes and observability (09, 16: R15, R16, R264 to R268, R286, R381, R448 to R464) -/

/-- R450, R451, R453, R454, R456: SNAP takes every counter at one edge and CLEAR sets every one to 0, both with no others changed; a tenant enables its
counters where it may, and reads its own events from where it asks; a new second reports what was dropped; every traced source writes TIME. -/
def Obligations.CountersAndEvents : Prop :=
  ∀ s : State, s.su.held = false →
    (s.isBusy .CNT_CMD_RESULT 0 = false →
      (Answers .snap s fun t =>
        (∀ (r : Reg) (u : Nat), u < 65536 → r.info.cnt = true → isGauge r = false →
          t.snap.get (w32 r.info.rst) (regKey r u) = s.reg r u ∧ t.reg r u = s.reg r u) ∧
        t.snap64 = s.cnt64 ∧ t.cnt64 = s.cnt64 ∧ t.time.nclk = s.time.nclk + usec 1 ∧ t.reg .CNT_CMD_RESULT 0 = 0) ∧
      (Answers .cntClear s fun t =>
        (∀ (r : Reg) (u : Nat), u < 65536 → r.info.cnt = true → t.reg r u = w32 r.info.rst) ∧
        (∀ (r : Reg) (u : Nat), u < 65536 → r.info.cnt = false → r ≠ .CNT_CMD_RESULT → t.reg r u = s.reg r u) ∧
        t.snap = [] ∧ t.cnt64 = [] ∧ t.snap64 = [] ∧ t.mem = s.mem)) ∧
    (∀ (h : CmdHdr) (t : TenantId), s.classOf h.iss = .ta t →
      (∀ en : Byte, en.toNat ≤ 1 →
        (s.cntPerm.testBit t.val = true → Answers (.cntEnable h en) s fun u =>
          u.rfld .CNT_CTL 0 t.val t.val = en.toNat ∧ u.Replied h 0x602 0 0 [] ∧ u.mem = s.mem) ∧
        (s.cntPerm.testBit t.val = false → Answers (.cntEnable h en) s fun u =>
          u.reg .CNT_CTL 0 = s.reg .CNT_CTL 0 ∧ u.Replied h 0x602 stNO_ACCESS 0 [])) ∧
      (∀ start : W32, Answers (.evtRead h start) s fun u =>
        let mine := s.log.ring.reverse.filter fun e => e.tenant.toNat = t.val ∧ max start.toNat s.evOldest ≤ e.seq.toNat
        let next := match (mine.drop 5).head? with | some e => e.seq.toNat | none => s.log.head.toNat
        u.Replied h 0x603 0 0 (toLe 4 next ++ toLe 4 s.evOldest ++ [byte (mine.take 5).length, 0, 0, 0] ++ ((mine.take 5).map EvEntry.bytes).flatten) ∧
        u.log = s.log ∧ u.mem = s.mem)) ∧
    (∀ (h : CmdHdr) (t : TenantId) (a : W32) (l : Loc), s.classOf h.iss = .ta t ∨ s.classOf h.iss = .host t → locate a.toNat = some l →
      a.toNat % 4 = 0 → l.reg.info.blk ≠ .QCNT → l.reg ≠ .CH_STAT → l.reg.high? = none →
      (s.opens t l = false → Answers (.cntRead h 0 [a]) s fun u => u.Replied h 0x601 0 0 (toLe 4 1 ++ toLe 8 0) ∧ u.mem = s.mem) ∧
      (s.opens t l = true → s.hidden t l = false → Answers (.cntRead h 0 [a]) s fun u =>
        u.Replied h 0x601 0 0 (toLe 4 0 ++ toLe 8 (w32 ((s.readReg false l.reg l.u).toNat &&& (0xFFFFFFFF - l.reg.info.wo))).toNat) ∧
        u.mem = s.mem)) ∧
    (s.log.sec = s.time.nclk / secs 1 → s.log.drop.length ≤ 4095 → Answers .evtRateSecond s fun t =>
      t.time.nclk = (s.time.nclk / secs 1 + 1) * secs 1 ∧ t.log.rate = [] ∧ t.log.drop = [] ∧
      ∀ d ∈ s.log.drop, ∃ e ∈ t.log.ring, e.cls = byte d.1 ∧ e.kind = 0x18) ∧
    (s.traceStop = false → Answers .traceTimeTick s fun t =>
      (∀ q : Quarter, s.traced (4 + q.val) = true → (t.obs.quart[q]).frames.getLast? = some (byte (0x54 + q.val) :: toLe 8 t.ptField.toNat)) ∧
      t.mem = s.mem ∧ s.time.nclk ≤ t.time.nclk)

/-- R459 to R462, R464: a dump is taken where tracing is permitted, held until it is released or exported, and refused while one is held; a tenant that
may trace sets watches on its programs' outputs, numbered from the lowest free, and clears them. -/
def Obligations.DumpsAndWatches : Prop :=
  ∀ s : State, s.su.held = false →
    (s.isBusy .SHV_CMD_RESULT 0 = false →
      (s.tracePerm.testBit 16 = true → s.obs.dump = none → Answers .shvShave s fun t =>
        ∃ d, t.obs.dump = some d ∧ d.trigger = 1 ∧ leAt d.data 0 4 = 0xD0B05A5A ∧ leAt d.data 8 4 = 25 ∧ t.reg .SHV_CMD_RESULT 0 = 0 ∧
          t.work = s.work ∧ t.pool = s.pool ∧ t.mem = s.mem) ∧
      (s.tracePerm.testBit 16 = true → s.obs.dump.isSome = true → Answers .shvShave s fun t =>
        t.obs = s.obs ∧ t.reg .SHV_CMD_RESULT 0 = w32 (1 * 256 + 3)) ∧
      (s.obs.dump.isSome = true → Answers .shvRelease s fun t => t.obs = { s.obs with dump := none } ∧ t.reg .SHV_CMD_RESULT 0 = 0) ∧
      (s.obs.dump = none → Answers .shvRelease s fun t => t.obs = s.obs ∧ t.reg .SHV_CMD_RESULT 0 = w32 3) ∧
      (s.obs.dump.isSome = true → Answers .shvExport s fun t => t.obs = s.obs ∧ t.isBusy .SHV_CMD_RESULT 0 = true) ∧
      (s.obs.dump = none → Answers .shvExport s fun t => t.obs = s.obs ∧ t.reg .SHV_CMD_RESULT 0 = w32 3)) ∧
    (∀ d, s.isBusy .SHV_CMD_RESULT 0 = true → s.obs.dump = some d → Answers .shvExportDone s fun t =>
      t.obs = { s.obs with dump := none } ∧ t.reg .SHV_CMD_RESULT 0 = 0 ∧ t.mem = s.mem) ∧
    (∀ (h : CmdHdr) (t : TenantId), s.classOf h.iss = .ta t → s.kcoreEn = true →
      (∀ (a : Bytes) (g : Prog) (i : Nat), bit s.tracePerm t.val = true → a.length = 28 → leAt a 4 1 ≤ 1 → leAt a 5 3 = 0 → leAt a 0x10 8 % 512 = 0 →
        leAt a 0x18 4 ≠ 0 → leAt a 0x18 4 ≤ 4096 → s.prog (leAt a 0 2) = some g → g.tenant = t →
        watchOk (imageOf g.image) (leAt a 2 2) (leAt a 4 1 = 1) (leAt a 8 4) (leAt a 0xC 4) = true →
        ((List.range 16).find? fun i => !(s.obs.watches.any fun w => w.prog = leAt a 0 2 && w.num = i)) = some i →
        Completes (.watchSet h a) s fun u =>
          u.obs.watches = s.obs.watches ++
            [⟨leAt a 0 2, i, leAt a 2 2, leAt a 4 1 = 1, w32 (leAt a 8 4), w32 (leAt a 0xC 4), leAt a 0x10 8, leAt a 0x18 4, 0⟩] ∧
          u.Replied h 0x604 0 0 [byte i, 0, 0, 0] ∧ u.work = s.work ∧ u.mem = s.mem) ∧
      (∀ a : Bytes, bit s.tracePerm t.val = false → s.prog (leAt a 0 2) = none → Completes (.watchSet h a) s fun u =>
        u.obs = s.obs ∧ u.Replied h 0x604 stNO_ACCESS 0 []) ∧
      (∀ (p : W16) (n : Byte) (g : Prog) (w : Watch), s.prog p.toNat = some g → g.tenant = t → w ∈ s.obs.watches → w.prog = p.toNat → w.num = n.toNat →
        Completes (.watchClear h p n) s fun u =>
          u.obs.watches = s.obs.watches.filter (fun w => !(w.prog = p.toNat && w.num = n.toNat)) ∧ u.Replied h 0x605 0 0 [] ∧ u.work = s.work))

/-- R15, R16, R263, R268, R463, R485: a write sets a register's writable bits, clears W1C bits, and leaves a locked or unlisted one; a read of a low half
latches the high half; REG_READ and REG_WRITE serve device administrators; the I3C target keeps its address. -/
def Obligations.RegisterAccesses : Prop :=
  ∀ s : State, s.su.held = false →
    (∀ a v : W32, locate a.toNat = none →
      (Completes (.registerWrite a v) s fun u => u = s) ∧ (Completes (.i3cPrivateWrite a (some v)) s fun u => u = { s with i3c := a }) ∧
      (Answers (.latchedPairRead a) s fun t => t = settle (emit (.readData 0) s))) ∧
    (∀ (a v : W32) (i : Nat), locate a.toNat = some ⟨.MBX_IN, i, false⟩ → i < 48 →
      (Completes (.registerWrite a v) s fun u => u.reg .MBX_IN i = v ∧ u = { s with regs := u.regs }) ∧
      (Completes (.i3cPrivateWrite a (some v)) s fun u => u.reg .MBX_IN i = v ∧ u.i3c = a) ∧
      (∀ m : MgtMsg, s.classOfEp m.src = .da → s.closedHint = none → m.payload.length = 8 → leAt m.payload 0 4 = a.toNat →
        leAt m.payload 4 4 = v.toNat → Completes (.regWrite m) s fun u =>
          u.reg .MBX_IN i = v ∧ ∃ q : Msg, u.Sent q ∧ q.op = 7 ∧ q.dst = m.src ∧ q.tag = m.tag ∧ q.status = 0)) ∧
    (∀ a v : W32, locate a.toNat = some ⟨.TAMPER_STAT, 0, false⟩ → Completes (.registerWrite a v) s fun u =>
      u = { s with hw := { s.hw with tamper := s.hw.tamper &&& ~~~(byte v.toNat) } }) ∧
    (∀ a v : W32, locate a.toNat = some ⟨.TAMPER_CFG, 0, false⟩ → s.su.locked = true → Completes (.registerWrite a v) s fun u =>
      u.hw = s.hw ∧ u.mem = s.mem) ∧
    (∀ a v : W32, locate a.toNat = some ⟨.PWR_CAP, 0, false⟩ → Completes (.registerWrite a v) s fun u =>
      u.rfld .PWR_CAP 0 9 0 = max 450 (min 980 (fld v 9 0)) ∧
      u.pwr = { s.pwr with unmet := s.pwr.unmet || (u.capWatts < s.meanPower && !s.stepLeft) }) ∧
    (∀ a : W32, Completes (.i3cPrivateWrite a none) s fun u => u = { s with i3c := a }) ∧
    (Answers .i3cPrivateRead s fun t => t.i3c = s.i3c + 4 ∧ t.out = s.out ++ [.readData (readAddr s.i3c.toNat s).1]) ∧
    (∀ (a : W32) (l : Loc), locate a.toNat = some l →
      (∀ v : W32, s.latch = some (a.toNat, v) → Answers (.latchedPairRead a) s fun t => t.out = s.out ++ [.readData v] ∧ t.latch = none) ∧
      (s.latch = none → l = ⟨.POOL_TIME_LO, 0, false⟩ → Answers (.latchedPairRead a) s fun t =>
        t.out = s.out ++ [.readData (w32 s.ptField.toNat)] ∧ t.latch = some (a.toNat + 4, w32 (s.ptField.toNat / 2 ^ 32)))) ∧
    (∀ m : MgtMsg,
      (s.classOfEp m.src ≠ .da → Completes (.regRead m) s fun u =>
        u.latch = s.latch ∧ u.hw = s.hw ∧ ∃ q : Msg, u.Sent q ∧ q.op = 7 ∧ q.dst = m.src ∧ q.status = stNO_ACCESS ∧ q.payload = toLe 4 0 ++ [stNO_ACCESS, 0, 0, 0]) ∧
      (s.classOfEp m.src = .da → s.closedHint = none → m.payload.length = 4 → Completes (.regRead m) s fun u =>
        ∃ q : Msg, u.Sent q ∧ q.op = 7 ∧ q.dst = m.src ∧ q.tag = m.tag ∧ q.status = 0 ∧
          q.payload = toLe 4 (readAddr (leAt m.payload 0 4) s).1.toNat ++ [0, 0, 0, 0]))

/-- R267, R269; 06 and 12 (R264, R265, R286, R381): a command block is executed for its issuer, by message, mailbox register or forwarding; the last 16
replies of an endpoint are kept, and a repeat is answered from the kept reply; a fifth outstanding command is answered RETRY_BUSY with a hint of 10 µs; a
DOORBELL takes no tracker and has no reply; a block without a command is answered UNSUPPORTED. -/
def Obligations.CommandBlocksArrive : Prop :=
  ∀ s : State, s.su.held = false →
    (∀ m : MgtMsg,
      (∀ (r : Bytes), (s.mbx.replies.find? fun e => e.1 = m.src && e.2.1 = w32 (leAt m.payload 8 4)) = some (m.src, w32 (leAt m.payload 8 4), r) →
        Completes (.mbxCmd m) s fun u =>
          u = { s with out := u.out, links := u.links, cnt64 := u.cnt64, regs := u.regs } ∧ ∃ q : Msg, u.Sent q ∧ q.op = 2 ∧ q.dst = m.src ∧ q.tag = m.tag ∧ q.payload = r) ∧
      ((s.mbx.replies.find? fun e => e.1 = m.src && e.2.1 = w32 (leAt m.payload 8 4)) = none →
        (s.mbx.open_.any fun o => o.1 = m.src && o.2.1 = w32 (leAt m.payload 8 4)) = false → s.closedHint = none →
        (4 ≤ (s.mbx.open_.filter fun o => o.1 = m.src).length → Completes (.mbxCmd m) s fun u =>
          u.mbx = s.mbx ∧ ∃ q : Msg, u.Sent q ∧ q.op = 2 ∧ q.dst = m.src ∧ q.tag = m.tag ∧ q.status = stRETRY_BUSY ∧ hintWait q.hint = 10000) ∧
        ((s.mbx.open_.filter fun o => o.1 = m.src).length < 4 → leAt m.payload 0 4 = 0x10000 → leAt m.payload 6 2 = 0 → leAt m.payload 0xF 1 = 0 →
          s.classOfEp m.src = .da →
          (leAt m.payload 4 2 = 0x409 → Completes (.mbxCmd m) s fun u =>
            u.hw = { s.hw with fuse := max s.hw.fuse s.minSvn } ∧
            u.Replied ⟨.ep m.src, w32 (leAt m.payload 8 4), w16 (leAt m.payload 0xC 2), byte (leAt m.payload 0xE 1)⟩ 0x409 0 0
              [byte (max s.hw.fuse s.minSvn), 0, 0, 0]) ∧
          (leAt m.payload 4 2 = 0x700 → Completes (.mbxCmd m) s fun u =>
            u.hw = s.hw ∧ u.Replied ⟨.ep m.src, w32 (leAt m.payload 8 4), w16 (leAt m.payload 0xC 2), byte (leAt m.payload 0xE 1)⟩ 0x700
              stUNSUPPORTED 0 [])))) ∧
    (∀ m : MgtMsg, Completes (.doorbell m) s fun u => u.out = s.out ∧ u.pool = s.pool ∧ u.mbx = s.mbx) ∧
    (∀ (a : W16) (q : W32) (hd : W16) (qu st : Byte) (cmd code hint : Nat) (res : Bytes),
      let l := (reply ⟨.ep a, q, hd, qu⟩ cmd st code hint res s).mbx.replies
      l.filter (fun e => e.1 = a) = (a, q, replyBlock cmd q st code res) :: (s.mbx.replies.filter fun e => e.1 = a).take 15 ∧
      ∀ b : W16, b ≠ a → l.filter (fun e => e.1 = b) = s.mbx.replies.filter fun e => e.1 = b) ∧
    (let b := (List.range 48).flatMap fun i => toLe 4 (s.reg .MBX_IN i).toNat
     (s.isBusy .MBX_STAT 0 = false → leAt b 0 4 = 0x10000 → leAt b 4 2 = 0x409 → leAt b 6 2 = 0 → leAt b 0xF 1 = 0 → Completes .mbxGo s fun u =>
       u.hw = { s.hw with fuse := max s.hw.fuse s.minSvn } ∧
       u.Replied ⟨.bmc, w32 (leAt b 8 4), w16 (leAt b 0xC 2), byte (leAt b 0xE 1)⟩ 0x409 0 0 [byte (max s.hw.fuse s.minSvn), 0, 0, 0]) ∧
     (s.isBusy .MBX_STAT 0 = true → Completes .mbxGo s fun u => u.reg .MBX_STAT 0 = s.reg .MBX_STAT 0 ∧ u.hw = s.hw)) ∧
    (∀ (c : Coord) (issuer : W16) (b : Bytes), s.isDevice c.src = true → s.closedHint = none → (∀ a ∈ s.coord.acked, ¬(a.src = c.src ∧ a.xid = c.xid)) →
      (c.src, c.xid) ∉ s.coord.fwdOpen → leAt b 0 4 = 0x10000 → leAt b 4 2 = 0x409 → leAt b 6 2 = 0 → leAt b 0xF 1 = 0 → b.length = 16 →
      (s.classOfEp issuer = .da → s.isDevice issuer = false → Completes (.cmdFwd c issuer b) s fun u =>
        u.hw = { s.hw with fuse := max s.hw.fuse s.minSvn } ∧
        ⟨c.src, c.xid, 4, 0, replyBlock 0x409 (w32 (leAt b 8 4)) 0 0 [byte (max s.hw.fuse s.minSvn), 0, 0, 0]⟩ ∈ u.coord.acked) ∧
      (∀ t : TenantId, s.classOfEp issuer = .ta t → s.isDevice issuer = false → Completes (.cmdFwd c issuer b) s fun u =>
        u.hw = s.hw ∧ ⟨c.src, c.xid, 4, stNO_ACCESS, replyBlock 0x409 (w32 (leAt b 8 4)) stNO_ACCESS 0 []⟩ ∈ u.coord.acked)) ∧
    (∀ (v : BitVec 5) (m : MgtMsg), (7 < v.toNat ∧ v.toNat < 0x10) ∨ 0x1A < v.toNat ∨ v = 0 → Completes (.undefinedMgtOpcode v m) s fun u =>
      u.hw = s.hw ∧ u.mem = s.mem ∧ ∃ q : Msg, u.Sent q ∧ q.op = 2 ∧ q.dst = m.src ∧ q.tag = m.tag ∧ q.status = stUNSUPPORTED ∧
        q.payload = replyBlock (leAt m.payload 4 2) (w32 (leAt m.payload 8 4)) stUNSUPPORTED 0 [])
end

