-- ==== Sys2Proof/Laws/Sparse.lean ====
section
/-! SUPPORT. The laws of sparse tables and of pool memory: a read after a write to the same key gives what was written, a write leaves
every other key alone, and every memory operation keeps the canonical form. -/

namespace Sys2Proof.Machine

namespace Sparse
variable {α : Type}

theorem find_cons (j k : Nat) (v : α) (m : Sparse α) : find ((j, v) :: m) k = if j = k then some v else find m k := rfl

/-- A key that no entry has is not found. -/
theorem find_none_of_absent {m : Sparse α} {k : Nat} (h : ∀ x ∈ m, x.1 ≠ k) : find m k = none := by
  induction m with
  | nil => rfl
  | cons x r ih =>
    rw [show x = (x.1, x.2) from rfl, find_cons, if_neg (h x (by simp)), ih fun y hy => h y (by simp [hy])]

/-- Taking one key's entries out leaves the others to be found. -/
theorem find_filter_ne {m : Sparse α} {j k : Nat} (h : j ≠ k) : find (m.filter fun x => x.1 ≠ k) j = find m j := by
  induction m with
  | nil => rfl
  | cons x r ih =>
    by_cases hx : x.1 = k
    · have hj : x.1 ≠ j := fun e => h (e.symm.trans hx)
      rw [List.filter_cons_of_neg (by simp [hx]), ih, show x = (x.1, x.2) from rfl, find_cons, if_neg hj]
    · rw [List.filter_cons_of_pos (by simp [hx]), show x = (x.1, x.2) from rfl, find_cons, find_cons, ih]

theorem find_place_self (m : Sparse α) (k : Nat) (e : Option α) : find (place m k e) k = e := by
  induction m with
  | nil => cases e <;> simp [place, find]
  | cons x r ih =>
    obtain ⟨j, w⟩ := x
    by_cases hj : j < k
    · simp only [place, if_pos hj]
      rw [find_cons, if_neg (by omega), ih]
    · simp only [place, if_neg hj]
      cases e with
      | some v => simp [find]
      | none =>
        apply find_none_of_absent
        intro x hx
        by_cases hk : j = k
        · rw [if_pos hk] at hx
          simpa using (List.mem_filter.1 hx).2
        · rw [if_neg hk] at hx
          rcases List.mem_cons.1 hx with rfl | hx
          · exact hk
          · simpa using (List.mem_filter.1 hx).2

theorem find_place_ne (m : Sparse α) {j k : Nat} (e : Option α) (h : j ≠ k) : find (place m k e) j = find m j := by
  induction m with
  | nil => cases e <;> simp [place, find, Ne.symm h]
  | cons x r ih =>
    obtain ⟨i, w⟩ := x
    by_cases hi : i < k
    · simp only [place, if_pos hi]
      rw [find_cons, find_cons, ih]
    · simp only [place, if_neg hi]
      have hrest : find (if i = k then r.filter fun x => x.1 ≠ k else (i, w) :: r.filter fun x => x.1 ≠ k) j = find ((i, w) :: r) j := by
        by_cases hk : i = k
        · rw [if_pos hk, find_filter_ne h, find_cons, if_neg (by omega)]
        · rw [if_neg hk, find_cons, find_cons, find_filter_ne h]
      cases e with
      | some v =>
        have hjk : ¬ k = j := fun e => h e.symm
        simp only [find_cons, if_neg hjk]
        simpa only [find_cons] using hrest
      | none => exact hrest

/-- A read after a write to the same key gives the value written. -/
@[simp] theorem get_put_self [DecidableEq α] (d : α) (m : Sparse α) (k : Nat) (v : α) : get d (put d m k v) k = v := by
  unfold get put
  rw [find_place_self]
  split <;> simp_all

/-- A write leaves every other key alone. -/
theorem get_put_ne [DecidableEq α] (d d' : α) (m : Sparse α) {j k : Nat} (v : α) (h : j ≠ k) : get d (put d' m k v) j = get d m j := by
  unfold get put
  rw [find_place_ne _ _ h]

@[simp] theorem find_ins_self (m : Sparse α) (k : Nat) (v : α) : find (ins m k v) k = some v := find_place_self m k (some v)
@[simp] theorem find_del_self (m : Sparse α) (k : Nat) : find (del m k) k = none := find_place_self m k none
theorem find_ins_ne (m : Sparse α) {j k : Nat} (v : α) (h : j ≠ k) : find (ins m k v) j = find m j := find_place_ne m _ h
theorem find_del_ne (m : Sparse α) {j k : Nat} (h : j ≠ k) : find (del m k) j = find m j := find_place_ne m _ h
@[simp] theorem get_nil (d : α) (k : Nat) : get d [] k = d := rfl

/-! ### The canonical form -/

theorem sortedFrom_mono {lo hi : Nat} {m : Sparse α} (h : lo ≤ hi) (hs : sortedFrom hi m = true) : sortedFrom lo m = true := by
  cases m with
  | nil => rfl
  | cons x r =>
    obtain ⟨j, v⟩ := x
    simp only [sortedFrom, Bool.and_eq_true, decide_eq_true_eq] at hs ⊢
    exact ⟨by omega, hs.2⟩

theorem le_of_mem_sorted {lo : Nat} {m : Sparse α} (hs : sortedFrom lo m = true) : ∀ x ∈ m, lo ≤ x.1 := by
  induction m generalizing lo with
  | nil => simp
  | cons y r ih =>
    obtain ⟨j, v⟩ := y
    simp only [sortedFrom, Bool.and_eq_true, decide_eq_true_eq] at hs
    intro x hx
    rcases List.mem_cons.1 hx with rfl | hx
    · exact hs.1
    · have := ih hs.2 x hx; omega

/-- Taking entries out keeps a table sorted. -/
theorem sortedFrom_filter {lo : Nat} {m : Sparse α} (p : Nat × α → Bool) (hs : sortedFrom lo m = true) :
    sortedFrom lo (m.filter p) = true := by
  induction m generalizing lo with
  | nil => rfl
  | cons y r ih =>
    obtain ⟨j, v⟩ := y
    simp only [sortedFrom, Bool.and_eq_true, decide_eq_true_eq] at hs
    by_cases hp : p (j, v) = true
    · rw [List.filter_cons_of_pos hp]
      simp only [sortedFrom, Bool.and_eq_true, decide_eq_true_eq]
      exact ⟨hs.1, ih hs.2⟩
    · rw [List.filter_cons_of_neg hp]
      exact sortedFrom_mono (by omega) (ih hs.2)

theorem sortedFrom_place {lo : Nat} {m : Sparse α} (k : Nat) (e : Option α) (hk : lo ≤ k) (hs : sortedFrom lo m = true) :
    sortedFrom lo (place m k e) = true := by
  induction m generalizing lo with
  | nil => cases e <;> simp [place, sortedFrom, hk]
  | cons y r ih =>
    obtain ⟨j, w⟩ := y
    simp only [sortedFrom, Bool.and_eq_true, decide_eq_true_eq] at hs
    by_cases hj : j < k
    · simp only [place, if_pos hj, sortedFrom, Bool.and_eq_true, decide_eq_true_eq]
      exact ⟨hs.1, ih (by omega) hs.2⟩
    · simp only [place, if_neg hj]
      have hr : sortedFrom (j + 1) (r.filter fun x => x.1 ≠ k) = true := sortedFrom_filter _ hs.2
      by_cases hjk : j = k
      · rw [if_pos hjk]
        cases e with
        | some v =>
          simp only [sortedFrom, Bool.and_eq_true, decide_eq_true_eq]
          exact ⟨hk, hjk ▸ hr⟩
        | none => exact sortedFrom_mono (by omega) hr
      · rw [if_neg hjk]
        cases e with
        | some v =>
          simp only [sortedFrom, Bool.and_eq_true, decide_eq_true_eq]
          exact ⟨hk, by omega, hr⟩
        | none =>
          simp only [sortedFrom, Bool.and_eq_true, decide_eq_true_eq]
          exact ⟨hs.1, hr⟩

theorem mem_place {m : Sparse α} {k : Nat} {e : Option α} {x : Nat × α} (hx : x ∈ place m k e) : x ∈ m ∨ e = some x.2 := by
  induction m with
  | nil =>
    cases e with
    | some v => simp [place] at hx; simp [hx]
    | none => simp [place] at hx
  | cons y r ih =>
    obtain ⟨j, w⟩ := y
    by_cases hj : j < k
    · simp only [place, if_pos hj, List.mem_cons] at hx
      rcases hx with rfl | hx
      · simp
      · rcases ih hx with h | h
        · simp [h]
        · exact .inr h
    · simp only [place, if_neg hj] at hx
      have hrest : ∀ z, z ∈ (if j = k then r.filter fun x => x.1 ≠ k else (j, w) :: r.filter fun x => x.1 ≠ k) → z ∈ (j, w) :: r := by
        intro z hz
        by_cases hjk : j = k
        · rw [if_pos hjk] at hz; exact List.mem_cons_of_mem _ (List.mem_filter.1 hz).1
        · rw [if_neg hjk] at hz
          rcases List.mem_cons.1 hz with rfl | hz
          · exact .head _
          · exact List.mem_cons_of_mem _ (List.mem_filter.1 hz).1
      cases e with
      | some v =>
        rcases List.mem_cons.1 hx with rfl | hx
        · exact .inr rfl
        · exact .inl (hrest _ hx)
      | none => exact .inl (hrest _ hx)

/-- A write keeps the canonical form. -/
theorem wf_put [DecidableEq α] {d : α} {m : Sparse α} (k : Nat) (v : α) (h : wf d m = true) : wf d (put d m k v) = true := by
  simp only [wf, Bool.and_eq_true, List.all_eq_true, decide_eq_true_eq] at h ⊢
  refine ⟨sortedFrom_place k _ (Nat.zero_le _) h.1, fun x hx => ?_⟩
  rcases mem_place hx with hm | he
  · exact h.2 x hm
  · split at he
    · cases he
    · next hv => exact Option.some.inj he ▸ hv

theorem wf_filter [DecidableEq α] {d : α} {m : Sparse α} (p : Nat × α → Bool) (h : wf d m = true) : wf d (m.filter p) = true := by
  simp only [wf, Bool.and_eq_true, List.all_eq_true, decide_eq_true_eq] at h ⊢
  exact ⟨sortedFrom_filter p h.1, fun x hx => h.2 x (List.mem_filter.1 hx).1⟩

end Sparse

namespace Memory

/-- A byte reads as it was last written. -/
@[simp] theorem read_write_self (m : Memory) (a : Nat) (b : Byte) : (m.write a b).read a = b := Sparse.get_put_self 0 m a b

/-- A write leaves every other byte alone. -/
theorem read_write_ne (m : Memory) {a c : Nat} (b : Byte) (h : c ≠ a) : (m.write a b).read c = m.read c := Sparse.get_put_ne 0 0 m b h

theorem wf_write {m : Memory} (a : Nat) (b : Byte) (h : m.wf = true) : (m.write a b).wf = true := Sparse.wf_put a b h

theorem wf_writeN {m : Memory} (a : Nat) (b : Bytes) (h : m.wf = true) : (m.writeN a b).wf = true := by
  induction b generalizing m a with
  | nil => exact h
  | cons x r ih => exact ih (a + 1) (wf_write a x h)

theorem wf_clear {m : Memory} (lo n : Nat) (h : m.wf = true) : (m.clear lo n).wf = true := Sparse.wf_filter _ h

theorem wf_paste {m : Memory} (lo n : Nat) (c : Sparse Byte) (h : m.wf = true) : (m.paste lo n c).wf = true := by
  have key : ∀ (c : Sparse Byte) (m : Memory), m.wf = true →
      (c.foldl (fun m c => Memory.write m (lo + c.1) c.2) m).wf = true := by
    intro c
    induction c with
    | nil => exact fun m h => h
    | cons x r ih => exact fun m h => ih _ (wf_write _ _ h)
  exact key c _ (wf_clear lo n h)

/-- Bytes outside a stored range read as before. -/
theorem read_writeN_out (m : Memory) (a : Nat) (b : Bytes) (c : Nat) (h : c < a ∨ a + b.length ≤ c) : (m.writeN a b).read c = m.read c := by
  induction b generalizing m a with
  | nil => rfl
  | cons x r ih =>
    simp only [List.length_cons] at h
    exact (ih (m.write a x) (a + 1) (by omega)).trans (read_write_ne m x (by omega))

/-- A stored range reads back. -/
theorem readN_writeN (m : Memory) (a : Nat) (b : Bytes) : (m.writeN a b).readN a b.length = b := by
  induction b generalizing m a with
  | nil => rfl
  | cons x r ih =>
    have hx : (m.writeN a (x :: r)).read a = x :=
      (read_writeN_out (m.write a x) (a + 1) r a (.inl (by omega))).trans (read_write_self m a x)
    exact List.cons_eq_cons.2 ⟨hx, ih (m.write a x) (a + 1)⟩

end Memory

end Sys2Proof.Machine
end

