-- ==== Sys2Proof/Laws/State.lean ====
section
/-! SUPPORT. Beside State: for each named update, the one field it changes and every field it leaves, true by definition. -/

namespace Sys2Proof.Machine

variable (s : State)

/-! ### emit: out alone -/

@[simp] theorem emit_pending (o : Out) : (emit o s).pending = s.pending := (rfl)
@[simp] theorem emit_regs (o : Out) : (emit o s).regs = s.regs := (rfl)
@[simp] theorem emit_cnt64 (o : Out) : (emit o s).cnt64 = s.cnt64 := (rfl)
@[simp] theorem emit_snap (o : Out) : (emit o s).snap = s.snap := (rfl)
@[simp] theorem emit_snap64 (o : Out) : (emit o s).snap64 = s.snap64 := (rfl)
@[simp] theorem emit_latch (o : Out) : (emit o s).latch = s.latch := (rfl)
@[simp] theorem emit_i3c (o : Out) : (emit o s).i3c = s.i3c := (rfl)
@[simp] theorem emit_log (o : Out) : (emit o s).log = s.log := (rfl)
@[simp] theorem emit_plog (o : Out) : (emit o s).plog = s.plog := (rfl)
@[simp] theorem emit_time (o : Out) : (emit o s).time = s.time := (rfl)
@[simp] theorem emit_clk (o : Out) : (emit o s).clk = s.clk := (rfl)
@[simp] theorem emit_pwr (o : Out) : (emit o s).pwr = s.pwr := (rfl)
@[simp] theorem emit_blank (o : Out) : (emit o s).blank = s.blank := (rfl)
@[simp] theorem emit_su (o : Out) : (emit o s).su = s.su := (rfl)
@[simp] theorem emit_hw (o : Out) : (emit o s).hw = s.hw := (rfl)
@[simp] theorem emit_slices (o : Out) : (emit o s).slices = s.slices := (rfl)
@[simp] theorem emit_quarts (o : Out) : (emit o s).quarts = s.quarts := (rfl)
@[simp] theorem emit_pin (o : Out) : (emit o s).pin = s.pin := (rfl)
@[simp] theorem emit_lands (o : Out) : (emit o s).lands = s.lands := (rfl)
@[simp] theorem emit_links (o : Out) : (emit o s).links = s.links := (rfl)
@[simp] theorem emit_alive (o : Out) : (emit o s).alive = s.alive := (rfl)
@[simp] theorem emit_shp (o : Out) : (emit o s).shp = s.shp := (rfl)
@[simp] theorem emit_spn (o : Out) : (emit o s).spn = s.spn := (rfl)
@[simp] theorem emit_pair (o : Out) : (emit o s).pair = s.pair := (rfl)
@[simp] theorem emit_head (o : Out) : (emit o s).head = s.head := (rfl)
@[simp] theorem emit_coord (o : Out) : (emit o s).coord = s.coord := (rfl)
@[simp] theorem emit_job (o : Out) : (emit o s).job = s.job := (rfl)
@[simp] theorem emit_satt (o : Out) : (emit o s).satt = s.satt := (rfl)
@[simp] theorem emit_mbx (o : Out) : (emit o s).mbx = s.mbx := (rfl)
@[simp] theorem emit_obs (o : Out) : (emit o s).obs = s.obs := (rfl)
@[simp] theorem emit_mem (o : Out) : (emit o s).mem = s.mem := (rfl)
@[simp] theorem emit_poison (o : Out) : (emit o s).poison = s.poison := (rfl)
@[simp] theorem emit_upsets (o : Out) : (emit o s).upsets = s.upsets := (rfl)
@[simp] theorem emit_chans (o : Out) : (emit o s).chans = s.chans := (rfl)
@[simp] theorem emit_tags (o : Out) : (emit o s).tags = s.tags := (rfl)
@[simp] theorem emit_tagc (o : Out) : (emit o s).tagc = s.tagc := (rfl)
@[simp] theorem emit_pins (o : Out) : (emit o s).pins = s.pins := (rfl)
@[simp] theorem emit_tier (o : Out) : (emit o s).tier = s.tier := (rfl)
@[simp] theorem emit_pool (o : Out) : (emit o s).pool = s.pool := (rfl)
@[simp] theorem emit_rgn (o : Out) : (emit o s).rgn = s.rgn := (rfl)
@[simp] theorem emit_ctx (o : Out) : (emit o s).ctx = s.ctx := (rfl)
@[simp] theorem emit_work (o : Out) : (emit o s).work = s.work := (rfl)
@[simp] theorem emit_free (o : Out) : (emit o s).free = s.free := (rfl)
@[simp] theorem emit_link (o : Out) (z : LinkId) : (emit o s).link z = s.link z := (rfl)
@[simp] theorem emit_chan (o : Out) (z : ChanId) : (emit o s).chan z = s.chan z := (rfl)
@[simp] theorem emit_exts (o : Out) (z : ChanId) : (emit o s).exts z = s.exts z := (rfl)
@[simp] theorem emit_car (o : Out) (z : CarrierId) : (emit o s).car z = s.car z := (rfl)
@[simp] theorem emit_slice (o : Out) (z : SliceId) : (emit o s).slice z = s.slice z := (rfl)
@[simp] theorem emit_quart (o : Out) (z : Quarter) : (emit o s).quart z = s.quart z := (rfl)
@[simp] theorem emit_core (o : Out) (z : CoreId) : (emit o s).core z = s.core z := (rfl)
@[simp] theorem emit_key (o : Out) (z : TenantId) : (emit o s).key z = s.key z := (rfl)
@[simp] theorem emit_counter (o : Out) (z : Fin 8) : (emit o s).counter z = s.counter z := (rfl)

/-! ### setReg: regs alone -/

@[simp] theorem setReg_pending (r : Reg) (u : Nat) (v : W32) : (s.setReg r u v).pending = s.pending := (rfl)
@[simp] theorem setReg_cnt64 (r : Reg) (u : Nat) (v : W32) : (s.setReg r u v).cnt64 = s.cnt64 := (rfl)
@[simp] theorem setReg_snap (r : Reg) (u : Nat) (v : W32) : (s.setReg r u v).snap = s.snap := (rfl)
@[simp] theorem setReg_snap64 (r : Reg) (u : Nat) (v : W32) : (s.setReg r u v).snap64 = s.snap64 := (rfl)
@[simp] theorem setReg_latch (r : Reg) (u : Nat) (v : W32) : (s.setReg r u v).latch = s.latch := (rfl)
@[simp] theorem setReg_i3c (r : Reg) (u : Nat) (v : W32) : (s.setReg r u v).i3c = s.i3c := (rfl)
@[simp] theorem setReg_log (r : Reg) (u : Nat) (v : W32) : (s.setReg r u v).log = s.log := (rfl)
@[simp] theorem setReg_plog (r : Reg) (u : Nat) (v : W32) : (s.setReg r u v).plog = s.plog := (rfl)
@[simp] theorem setReg_time (r : Reg) (u : Nat) (v : W32) : (s.setReg r u v).time = s.time := (rfl)
@[simp] theorem setReg_clk (r : Reg) (u : Nat) (v : W32) : (s.setReg r u v).clk = s.clk := (rfl)
@[simp] theorem setReg_pwr (r : Reg) (u : Nat) (v : W32) : (s.setReg r u v).pwr = s.pwr := (rfl)
@[simp] theorem setReg_blank (r : Reg) (u : Nat) (v : W32) : (s.setReg r u v).blank = s.blank := (rfl)
@[simp] theorem setReg_su (r : Reg) (u : Nat) (v : W32) : (s.setReg r u v).su = s.su := (rfl)
@[simp] theorem setReg_hw (r : Reg) (u : Nat) (v : W32) : (s.setReg r u v).hw = s.hw := (rfl)
@[simp] theorem setReg_slices (r : Reg) (u : Nat) (v : W32) : (s.setReg r u v).slices = s.slices := (rfl)
@[simp] theorem setReg_quarts (r : Reg) (u : Nat) (v : W32) : (s.setReg r u v).quarts = s.quarts := (rfl)
@[simp] theorem setReg_pin (r : Reg) (u : Nat) (v : W32) : (s.setReg r u v).pin = s.pin := (rfl)
@[simp] theorem setReg_lands (r : Reg) (u : Nat) (v : W32) : (s.setReg r u v).lands = s.lands := (rfl)
@[simp] theorem setReg_links (r : Reg) (u : Nat) (v : W32) : (s.setReg r u v).links = s.links := (rfl)
@[simp] theorem setReg_alive (r : Reg) (u : Nat) (v : W32) : (s.setReg r u v).alive = s.alive := (rfl)
@[simp] theorem setReg_shp (r : Reg) (u : Nat) (v : W32) : (s.setReg r u v).shp = s.shp := (rfl)
@[simp] theorem setReg_spn (r : Reg) (u : Nat) (v : W32) : (s.setReg r u v).spn = s.spn := (rfl)
@[simp] theorem setReg_pair (r : Reg) (u : Nat) (v : W32) : (s.setReg r u v).pair = s.pair := (rfl)
@[simp] theorem setReg_head (r : Reg) (u : Nat) (v : W32) : (s.setReg r u v).head = s.head := (rfl)
@[simp] theorem setReg_coord (r : Reg) (u : Nat) (v : W32) : (s.setReg r u v).coord = s.coord := (rfl)
@[simp] theorem setReg_job (r : Reg) (u : Nat) (v : W32) : (s.setReg r u v).job = s.job := (rfl)
@[simp] theorem setReg_satt (r : Reg) (u : Nat) (v : W32) : (s.setReg r u v).satt = s.satt := (rfl)
@[simp] theorem setReg_mbx (r : Reg) (u : Nat) (v : W32) : (s.setReg r u v).mbx = s.mbx := (rfl)
@[simp] theorem setReg_obs (r : Reg) (u : Nat) (v : W32) : (s.setReg r u v).obs = s.obs := (rfl)
@[simp] theorem setReg_mem (r : Reg) (u : Nat) (v : W32) : (s.setReg r u v).mem = s.mem := (rfl)
@[simp] theorem setReg_poison (r : Reg) (u : Nat) (v : W32) : (s.setReg r u v).poison = s.poison := (rfl)
@[simp] theorem setReg_upsets (r : Reg) (u : Nat) (v : W32) : (s.setReg r u v).upsets = s.upsets := (rfl)
@[simp] theorem setReg_chans (r : Reg) (u : Nat) (v : W32) : (s.setReg r u v).chans = s.chans := (rfl)
@[simp] theorem setReg_tags (r : Reg) (u : Nat) (v : W32) : (s.setReg r u v).tags = s.tags := (rfl)
@[simp] theorem setReg_tagc (r : Reg) (u : Nat) (v : W32) : (s.setReg r u v).tagc = s.tagc := (rfl)
@[simp] theorem setReg_pins (r : Reg) (u : Nat) (v : W32) : (s.setReg r u v).pins = s.pins := (rfl)
@[simp] theorem setReg_tier (r : Reg) (u : Nat) (v : W32) : (s.setReg r u v).tier = s.tier := (rfl)
@[simp] theorem setReg_pool (r : Reg) (u : Nat) (v : W32) : (s.setReg r u v).pool = s.pool := (rfl)
@[simp] theorem setReg_rgn (r : Reg) (u : Nat) (v : W32) : (s.setReg r u v).rgn = s.rgn := (rfl)
@[simp] theorem setReg_ctx (r : Reg) (u : Nat) (v : W32) : (s.setReg r u v).ctx = s.ctx := (rfl)
@[simp] theorem setReg_work (r : Reg) (u : Nat) (v : W32) : (s.setReg r u v).work = s.work := (rfl)
@[simp] theorem setReg_out (r : Reg) (u : Nat) (v : W32) : (s.setReg r u v).out = s.out := (rfl)
@[simp] theorem setReg_free (r : Reg) (u : Nat) (v : W32) : (s.setReg r u v).free = s.free := (rfl)
@[simp] theorem setReg_link (r : Reg) (u : Nat) (v : W32) (z : LinkId) : (s.setReg r u v).link z = s.link z := (rfl)
@[simp] theorem setReg_chan (r : Reg) (u : Nat) (v : W32) (z : ChanId) : (s.setReg r u v).chan z = s.chan z := (rfl)
@[simp] theorem setReg_exts (r : Reg) (u : Nat) (v : W32) (z : ChanId) : (s.setReg r u v).exts z = s.exts z := (rfl)
@[simp] theorem setReg_car (r : Reg) (u : Nat) (v : W32) (z : CarrierId) : (s.setReg r u v).car z = s.car z := (rfl)
@[simp] theorem setReg_slice (r : Reg) (u : Nat) (v : W32) (z : SliceId) : (s.setReg r u v).slice z = s.slice z := (rfl)
@[simp] theorem setReg_quart (r : Reg) (u : Nat) (v : W32) (z : Quarter) : (s.setReg r u v).quart z = s.quart z := (rfl)
@[simp] theorem setReg_core (r : Reg) (u : Nat) (v : W32) (z : CoreId) : (s.setReg r u v).core z = s.core z := (rfl)
@[simp] theorem setReg_key (r : Reg) (u : Nat) (v : W32) (z : TenantId) : (s.setReg r u v).key z = s.key z := (rfl)
@[simp] theorem setReg_counter (r : Reg) (u : Nat) (v : W32) (z : Fin 8) : (s.setReg r u v).counter z = s.counter z := (rfl)

/-! ### setFld: regs alone -/

@[simp] theorem setFld_pending (r : Reg) (u hi lo x : Nat) : (s.setFld r u hi lo x).pending = s.pending := (rfl)
@[simp] theorem setFld_cnt64 (r : Reg) (u hi lo x : Nat) : (s.setFld r u hi lo x).cnt64 = s.cnt64 := (rfl)
@[simp] theorem setFld_snap (r : Reg) (u hi lo x : Nat) : (s.setFld r u hi lo x).snap = s.snap := (rfl)
@[simp] theorem setFld_snap64 (r : Reg) (u hi lo x : Nat) : (s.setFld r u hi lo x).snap64 = s.snap64 := (rfl)
@[simp] theorem setFld_latch (r : Reg) (u hi lo x : Nat) : (s.setFld r u hi lo x).latch = s.latch := (rfl)
@[simp] theorem setFld_i3c (r : Reg) (u hi lo x : Nat) : (s.setFld r u hi lo x).i3c = s.i3c := (rfl)
@[simp] theorem setFld_log (r : Reg) (u hi lo x : Nat) : (s.setFld r u hi lo x).log = s.log := (rfl)
@[simp] theorem setFld_plog (r : Reg) (u hi lo x : Nat) : (s.setFld r u hi lo x).plog = s.plog := (rfl)
@[simp] theorem setFld_time (r : Reg) (u hi lo x : Nat) : (s.setFld r u hi lo x).time = s.time := (rfl)
@[simp] theorem setFld_clk (r : Reg) (u hi lo x : Nat) : (s.setFld r u hi lo x).clk = s.clk := (rfl)
@[simp] theorem setFld_pwr (r : Reg) (u hi lo x : Nat) : (s.setFld r u hi lo x).pwr = s.pwr := (rfl)
@[simp] theorem setFld_blank (r : Reg) (u hi lo x : Nat) : (s.setFld r u hi lo x).blank = s.blank := (rfl)
@[simp] theorem setFld_su (r : Reg) (u hi lo x : Nat) : (s.setFld r u hi lo x).su = s.su := (rfl)
@[simp] theorem setFld_hw (r : Reg) (u hi lo x : Nat) : (s.setFld r u hi lo x).hw = s.hw := (rfl)
@[simp] theorem setFld_slices (r : Reg) (u hi lo x : Nat) : (s.setFld r u hi lo x).slices = s.slices := (rfl)
@[simp] theorem setFld_quarts (r : Reg) (u hi lo x : Nat) : (s.setFld r u hi lo x).quarts = s.quarts := (rfl)
@[simp] theorem setFld_pin (r : Reg) (u hi lo x : Nat) : (s.setFld r u hi lo x).pin = s.pin := (rfl)
@[simp] theorem setFld_lands (r : Reg) (u hi lo x : Nat) : (s.setFld r u hi lo x).lands = s.lands := (rfl)
@[simp] theorem setFld_links (r : Reg) (u hi lo x : Nat) : (s.setFld r u hi lo x).links = s.links := (rfl)
@[simp] theorem setFld_alive (r : Reg) (u hi lo x : Nat) : (s.setFld r u hi lo x).alive = s.alive := (rfl)
@[simp] theorem setFld_shp (r : Reg) (u hi lo x : Nat) : (s.setFld r u hi lo x).shp = s.shp := (rfl)
@[simp] theorem setFld_spn (r : Reg) (u hi lo x : Nat) : (s.setFld r u hi lo x).spn = s.spn := (rfl)
@[simp] theorem setFld_pair (r : Reg) (u hi lo x : Nat) : (s.setFld r u hi lo x).pair = s.pair := (rfl)
@[simp] theorem setFld_head (r : Reg) (u hi lo x : Nat) : (s.setFld r u hi lo x).head = s.head := (rfl)
@[simp] theorem setFld_coord (r : Reg) (u hi lo x : Nat) : (s.setFld r u hi lo x).coord = s.coord := (rfl)
@[simp] theorem setFld_job (r : Reg) (u hi lo x : Nat) : (s.setFld r u hi lo x).job = s.job := (rfl)
@[simp] theorem setFld_satt (r : Reg) (u hi lo x : Nat) : (s.setFld r u hi lo x).satt = s.satt := (rfl)
@[simp] theorem setFld_mbx (r : Reg) (u hi lo x : Nat) : (s.setFld r u hi lo x).mbx = s.mbx := (rfl)
@[simp] theorem setFld_obs (r : Reg) (u hi lo x : Nat) : (s.setFld r u hi lo x).obs = s.obs := (rfl)
@[simp] theorem setFld_mem (r : Reg) (u hi lo x : Nat) : (s.setFld r u hi lo x).mem = s.mem := (rfl)
@[simp] theorem setFld_poison (r : Reg) (u hi lo x : Nat) : (s.setFld r u hi lo x).poison = s.poison := (rfl)
@[simp] theorem setFld_upsets (r : Reg) (u hi lo x : Nat) : (s.setFld r u hi lo x).upsets = s.upsets := (rfl)
@[simp] theorem setFld_chans (r : Reg) (u hi lo x : Nat) : (s.setFld r u hi lo x).chans = s.chans := (rfl)
@[simp] theorem setFld_tags (r : Reg) (u hi lo x : Nat) : (s.setFld r u hi lo x).tags = s.tags := (rfl)
@[simp] theorem setFld_tagc (r : Reg) (u hi lo x : Nat) : (s.setFld r u hi lo x).tagc = s.tagc := (rfl)
@[simp] theorem setFld_pins (r : Reg) (u hi lo x : Nat) : (s.setFld r u hi lo x).pins = s.pins := (rfl)
@[simp] theorem setFld_tier (r : Reg) (u hi lo x : Nat) : (s.setFld r u hi lo x).tier = s.tier := (rfl)
@[simp] theorem setFld_pool (r : Reg) (u hi lo x : Nat) : (s.setFld r u hi lo x).pool = s.pool := (rfl)
@[simp] theorem setFld_rgn (r : Reg) (u hi lo x : Nat) : (s.setFld r u hi lo x).rgn = s.rgn := (rfl)
@[simp] theorem setFld_ctx (r : Reg) (u hi lo x : Nat) : (s.setFld r u hi lo x).ctx = s.ctx := (rfl)
@[simp] theorem setFld_work (r : Reg) (u hi lo x : Nat) : (s.setFld r u hi lo x).work = s.work := (rfl)
@[simp] theorem setFld_out (r : Reg) (u hi lo x : Nat) : (s.setFld r u hi lo x).out = s.out := (rfl)
@[simp] theorem setFld_free (r : Reg) (u hi lo x : Nat) : (s.setFld r u hi lo x).free = s.free := (rfl)
@[simp] theorem setFld_link (r : Reg) (u hi lo x : Nat) (z : LinkId) : (s.setFld r u hi lo x).link z = s.link z := (rfl)
@[simp] theorem setFld_chan (r : Reg) (u hi lo x : Nat) (z : ChanId) : (s.setFld r u hi lo x).chan z = s.chan z := (rfl)
@[simp] theorem setFld_exts (r : Reg) (u hi lo x : Nat) (z : ChanId) : (s.setFld r u hi lo x).exts z = s.exts z := (rfl)
@[simp] theorem setFld_car (r : Reg) (u hi lo x : Nat) (z : CarrierId) : (s.setFld r u hi lo x).car z = s.car z := (rfl)
@[simp] theorem setFld_slice (r : Reg) (u hi lo x : Nat) (z : SliceId) : (s.setFld r u hi lo x).slice z = s.slice z := (rfl)
@[simp] theorem setFld_quart (r : Reg) (u hi lo x : Nat) (z : Quarter) : (s.setFld r u hi lo x).quart z = s.quart z := (rfl)
@[simp] theorem setFld_core (r : Reg) (u hi lo x : Nat) (z : CoreId) : (s.setFld r u hi lo x).core z = s.core z := (rfl)
@[simp] theorem setFld_key (r : Reg) (u hi lo x : Nat) (z : TenantId) : (s.setFld r u hi lo x).key z = s.key z := (rfl)
@[simp] theorem setFld_counter (r : Reg) (u hi lo x : Nat) (z : Fin 8) : (s.setFld r u hi lo x).counter z = s.counter z := (rfl)

/-! ### result: regs alone -/

@[simp] theorem result_pending (r : Reg) (u : Nat) (st : Byte) (c : Nat) : (s.result r u st c).pending = s.pending := (rfl)
@[simp] theorem result_cnt64 (r : Reg) (u : Nat) (st : Byte) (c : Nat) : (s.result r u st c).cnt64 = s.cnt64 := (rfl)
@[simp] theorem result_snap (r : Reg) (u : Nat) (st : Byte) (c : Nat) : (s.result r u st c).snap = s.snap := (rfl)
@[simp] theorem result_snap64 (r : Reg) (u : Nat) (st : Byte) (c : Nat) : (s.result r u st c).snap64 = s.snap64 := (rfl)
@[simp] theorem result_latch (r : Reg) (u : Nat) (st : Byte) (c : Nat) : (s.result r u st c).latch = s.latch := (rfl)
@[simp] theorem result_i3c (r : Reg) (u : Nat) (st : Byte) (c : Nat) : (s.result r u st c).i3c = s.i3c := (rfl)
@[simp] theorem result_log (r : Reg) (u : Nat) (st : Byte) (c : Nat) : (s.result r u st c).log = s.log := (rfl)
@[simp] theorem result_plog (r : Reg) (u : Nat) (st : Byte) (c : Nat) : (s.result r u st c).plog = s.plog := (rfl)
@[simp] theorem result_time (r : Reg) (u : Nat) (st : Byte) (c : Nat) : (s.result r u st c).time = s.time := (rfl)
@[simp] theorem result_clk (r : Reg) (u : Nat) (st : Byte) (c : Nat) : (s.result r u st c).clk = s.clk := (rfl)
@[simp] theorem result_pwr (r : Reg) (u : Nat) (st : Byte) (c : Nat) : (s.result r u st c).pwr = s.pwr := (rfl)
@[simp] theorem result_blank (r : Reg) (u : Nat) (st : Byte) (c : Nat) : (s.result r u st c).blank = s.blank := (rfl)
@[simp] theorem result_su (r : Reg) (u : Nat) (st : Byte) (c : Nat) : (s.result r u st c).su = s.su := (rfl)
@[simp] theorem result_hw (r : Reg) (u : Nat) (st : Byte) (c : Nat) : (s.result r u st c).hw = s.hw := (rfl)
@[simp] theorem result_slices (r : Reg) (u : Nat) (st : Byte) (c : Nat) : (s.result r u st c).slices = s.slices := (rfl)
@[simp] theorem result_quarts (r : Reg) (u : Nat) (st : Byte) (c : Nat) : (s.result r u st c).quarts = s.quarts := (rfl)
@[simp] theorem result_pin (r : Reg) (u : Nat) (st : Byte) (c : Nat) : (s.result r u st c).pin = s.pin := (rfl)
@[simp] theorem result_lands (r : Reg) (u : Nat) (st : Byte) (c : Nat) : (s.result r u st c).lands = s.lands := (rfl)
@[simp] theorem result_links (r : Reg) (u : Nat) (st : Byte) (c : Nat) : (s.result r u st c).links = s.links := (rfl)
@[simp] theorem result_alive (r : Reg) (u : Nat) (st : Byte) (c : Nat) : (s.result r u st c).alive = s.alive := (rfl)
@[simp] theorem result_shp (r : Reg) (u : Nat) (st : Byte) (c : Nat) : (s.result r u st c).shp = s.shp := (rfl)
@[simp] theorem result_spn (r : Reg) (u : Nat) (st : Byte) (c : Nat) : (s.result r u st c).spn = s.spn := (rfl)
@[simp] theorem result_pair (r : Reg) (u : Nat) (st : Byte) (c : Nat) : (s.result r u st c).pair = s.pair := (rfl)
@[simp] theorem result_head (r : Reg) (u : Nat) (st : Byte) (c : Nat) : (s.result r u st c).head = s.head := (rfl)
@[simp] theorem result_coord (r : Reg) (u : Nat) (st : Byte) (c : Nat) : (s.result r u st c).coord = s.coord := (rfl)
@[simp] theorem result_job (r : Reg) (u : Nat) (st : Byte) (c : Nat) : (s.result r u st c).job = s.job := (rfl)
@[simp] theorem result_satt (r : Reg) (u : Nat) (st : Byte) (c : Nat) : (s.result r u st c).satt = s.satt := (rfl)
@[simp] theorem result_mbx (r : Reg) (u : Nat) (st : Byte) (c : Nat) : (s.result r u st c).mbx = s.mbx := (rfl)
@[simp] theorem result_obs (r : Reg) (u : Nat) (st : Byte) (c : Nat) : (s.result r u st c).obs = s.obs := (rfl)
@[simp] theorem result_mem (r : Reg) (u : Nat) (st : Byte) (c : Nat) : (s.result r u st c).mem = s.mem := (rfl)
@[simp] theorem result_poison (r : Reg) (u : Nat) (st : Byte) (c : Nat) : (s.result r u st c).poison = s.poison := (rfl)
@[simp] theorem result_upsets (r : Reg) (u : Nat) (st : Byte) (c : Nat) : (s.result r u st c).upsets = s.upsets := (rfl)
@[simp] theorem result_chans (r : Reg) (u : Nat) (st : Byte) (c : Nat) : (s.result r u st c).chans = s.chans := (rfl)
@[simp] theorem result_tags (r : Reg) (u : Nat) (st : Byte) (c : Nat) : (s.result r u st c).tags = s.tags := (rfl)
@[simp] theorem result_tagc (r : Reg) (u : Nat) (st : Byte) (c : Nat) : (s.result r u st c).tagc = s.tagc := (rfl)
@[simp] theorem result_pins (r : Reg) (u : Nat) (st : Byte) (c : Nat) : (s.result r u st c).pins = s.pins := (rfl)
@[simp] theorem result_tier (r : Reg) (u : Nat) (st : Byte) (c : Nat) : (s.result r u st c).tier = s.tier := (rfl)
@[simp] theorem result_pool (r : Reg) (u : Nat) (st : Byte) (c : Nat) : (s.result r u st c).pool = s.pool := (rfl)
@[simp] theorem result_rgn (r : Reg) (u : Nat) (st : Byte) (c : Nat) : (s.result r u st c).rgn = s.rgn := (rfl)
@[simp] theorem result_ctx (r : Reg) (u : Nat) (st : Byte) (c : Nat) : (s.result r u st c).ctx = s.ctx := (rfl)
@[simp] theorem result_work (r : Reg) (u : Nat) (st : Byte) (c : Nat) : (s.result r u st c).work = s.work := (rfl)
@[simp] theorem result_out (r : Reg) (u : Nat) (st : Byte) (c : Nat) : (s.result r u st c).out = s.out := (rfl)
@[simp] theorem result_free (r : Reg) (u : Nat) (st : Byte) (c : Nat) : (s.result r u st c).free = s.free := (rfl)
@[simp] theorem result_link (r : Reg) (u : Nat) (st : Byte) (c : Nat) (z : LinkId) : (s.result r u st c).link z = s.link z := (rfl)
@[simp] theorem result_chan (r : Reg) (u : Nat) (st : Byte) (c : Nat) (z : ChanId) : (s.result r u st c).chan z = s.chan z := (rfl)
@[simp] theorem result_exts (r : Reg) (u : Nat) (st : Byte) (c : Nat) (z : ChanId) : (s.result r u st c).exts z = s.exts z := (rfl)
@[simp] theorem result_car (r : Reg) (u : Nat) (st : Byte) (c : Nat) (z : CarrierId) : (s.result r u st c).car z = s.car z := (rfl)
@[simp] theorem result_slice (r : Reg) (u : Nat) (st : Byte) (c : Nat) (z : SliceId) : (s.result r u st c).slice z = s.slice z := (rfl)
@[simp] theorem result_quart (r : Reg) (u : Nat) (st : Byte) (c : Nat) (z : Quarter) : (s.result r u st c).quart z = s.quart z := (rfl)
@[simp] theorem result_core (r : Reg) (u : Nat) (st : Byte) (c : Nat) (z : CoreId) : (s.result r u st c).core z = s.core z := (rfl)
@[simp] theorem result_key (r : Reg) (u : Nat) (st : Byte) (c : Nat) (z : TenantId) : (s.result r u st c).key z = s.key z := (rfl)
@[simp] theorem result_counter (r : Reg) (u : Nat) (st : Byte) (c : Nat) (z : Fin 8) : (s.result r u st c).counter z = s.counter z := (rfl)

/-! ### busy: regs alone -/

@[simp] theorem busy_pending (r : Reg) (u : Nat) : (s.busy r u).pending = s.pending := (rfl)
@[simp] theorem busy_cnt64 (r : Reg) (u : Nat) : (s.busy r u).cnt64 = s.cnt64 := (rfl)
@[simp] theorem busy_snap (r : Reg) (u : Nat) : (s.busy r u).snap = s.snap := (rfl)
@[simp] theorem busy_snap64 (r : Reg) (u : Nat) : (s.busy r u).snap64 = s.snap64 := (rfl)
@[simp] theorem busy_latch (r : Reg) (u : Nat) : (s.busy r u).latch = s.latch := (rfl)
@[simp] theorem busy_i3c (r : Reg) (u : Nat) : (s.busy r u).i3c = s.i3c := (rfl)
@[simp] theorem busy_log (r : Reg) (u : Nat) : (s.busy r u).log = s.log := (rfl)
@[simp] theorem busy_plog (r : Reg) (u : Nat) : (s.busy r u).plog = s.plog := (rfl)
@[simp] theorem busy_time (r : Reg) (u : Nat) : (s.busy r u).time = s.time := (rfl)
@[simp] theorem busy_clk (r : Reg) (u : Nat) : (s.busy r u).clk = s.clk := (rfl)
@[simp] theorem busy_pwr (r : Reg) (u : Nat) : (s.busy r u).pwr = s.pwr := (rfl)
@[simp] theorem busy_blank (r : Reg) (u : Nat) : (s.busy r u).blank = s.blank := (rfl)
@[simp] theorem busy_su (r : Reg) (u : Nat) : (s.busy r u).su = s.su := (rfl)
@[simp] theorem busy_hw (r : Reg) (u : Nat) : (s.busy r u).hw = s.hw := (rfl)
@[simp] theorem busy_slices (r : Reg) (u : Nat) : (s.busy r u).slices = s.slices := (rfl)
@[simp] theorem busy_quarts (r : Reg) (u : Nat) : (s.busy r u).quarts = s.quarts := (rfl)
@[simp] theorem busy_pin (r : Reg) (u : Nat) : (s.busy r u).pin = s.pin := (rfl)
@[simp] theorem busy_lands (r : Reg) (u : Nat) : (s.busy r u).lands = s.lands := (rfl)
@[simp] theorem busy_links (r : Reg) (u : Nat) : (s.busy r u).links = s.links := (rfl)
@[simp] theorem busy_alive (r : Reg) (u : Nat) : (s.busy r u).alive = s.alive := (rfl)
@[simp] theorem busy_shp (r : Reg) (u : Nat) : (s.busy r u).shp = s.shp := (rfl)
@[simp] theorem busy_spn (r : Reg) (u : Nat) : (s.busy r u).spn = s.spn := (rfl)
@[simp] theorem busy_pair (r : Reg) (u : Nat) : (s.busy r u).pair = s.pair := (rfl)
@[simp] theorem busy_head (r : Reg) (u : Nat) : (s.busy r u).head = s.head := (rfl)
@[simp] theorem busy_coord (r : Reg) (u : Nat) : (s.busy r u).coord = s.coord := (rfl)
@[simp] theorem busy_job (r : Reg) (u : Nat) : (s.busy r u).job = s.job := (rfl)
@[simp] theorem busy_satt (r : Reg) (u : Nat) : (s.busy r u).satt = s.satt := (rfl)
@[simp] theorem busy_mbx (r : Reg) (u : Nat) : (s.busy r u).mbx = s.mbx := (rfl)
@[simp] theorem busy_obs (r : Reg) (u : Nat) : (s.busy r u).obs = s.obs := (rfl)
@[simp] theorem busy_mem (r : Reg) (u : Nat) : (s.busy r u).mem = s.mem := (rfl)
@[simp] theorem busy_poison (r : Reg) (u : Nat) : (s.busy r u).poison = s.poison := (rfl)
@[simp] theorem busy_upsets (r : Reg) (u : Nat) : (s.busy r u).upsets = s.upsets := (rfl)
@[simp] theorem busy_chans (r : Reg) (u : Nat) : (s.busy r u).chans = s.chans := (rfl)
@[simp] theorem busy_tags (r : Reg) (u : Nat) : (s.busy r u).tags = s.tags := (rfl)
@[simp] theorem busy_tagc (r : Reg) (u : Nat) : (s.busy r u).tagc = s.tagc := (rfl)
@[simp] theorem busy_pins (r : Reg) (u : Nat) : (s.busy r u).pins = s.pins := (rfl)
@[simp] theorem busy_tier (r : Reg) (u : Nat) : (s.busy r u).tier = s.tier := (rfl)
@[simp] theorem busy_pool (r : Reg) (u : Nat) : (s.busy r u).pool = s.pool := (rfl)
@[simp] theorem busy_rgn (r : Reg) (u : Nat) : (s.busy r u).rgn = s.rgn := (rfl)
@[simp] theorem busy_ctx (r : Reg) (u : Nat) : (s.busy r u).ctx = s.ctx := (rfl)
@[simp] theorem busy_work (r : Reg) (u : Nat) : (s.busy r u).work = s.work := (rfl)
@[simp] theorem busy_out (r : Reg) (u : Nat) : (s.busy r u).out = s.out := (rfl)
@[simp] theorem busy_free (r : Reg) (u : Nat) : (s.busy r u).free = s.free := (rfl)
@[simp] theorem busy_link (r : Reg) (u : Nat) (z : LinkId) : (s.busy r u).link z = s.link z := (rfl)
@[simp] theorem busy_chan (r : Reg) (u : Nat) (z : ChanId) : (s.busy r u).chan z = s.chan z := (rfl)
@[simp] theorem busy_exts (r : Reg) (u : Nat) (z : ChanId) : (s.busy r u).exts z = s.exts z := (rfl)
@[simp] theorem busy_car (r : Reg) (u : Nat) (z : CarrierId) : (s.busy r u).car z = s.car z := (rfl)
@[simp] theorem busy_slice (r : Reg) (u : Nat) (z : SliceId) : (s.busy r u).slice z = s.slice z := (rfl)
@[simp] theorem busy_quart (r : Reg) (u : Nat) (z : Quarter) : (s.busy r u).quart z = s.quart z := (rfl)
@[simp] theorem busy_core (r : Reg) (u : Nat) (z : CoreId) : (s.busy r u).core z = s.core z := (rfl)
@[simp] theorem busy_key (r : Reg) (u : Nat) (z : TenantId) : (s.busy r u).key z = s.key z := (rfl)
@[simp] theorem busy_counter (r : Reg) (u : Nat) (z : Fin 8) : (s.busy r u).counter z = s.counter z := (rfl)

/-! ### elapse: time alone -/

@[simp] theorem elapse_pending (n : Nat) : (elapse n s).pending = s.pending := (rfl)
@[simp] theorem elapse_regs (n : Nat) : (elapse n s).regs = s.regs := (rfl)
@[simp] theorem elapse_cnt64 (n : Nat) : (elapse n s).cnt64 = s.cnt64 := (rfl)
@[simp] theorem elapse_snap (n : Nat) : (elapse n s).snap = s.snap := (rfl)
@[simp] theorem elapse_snap64 (n : Nat) : (elapse n s).snap64 = s.snap64 := (rfl)
@[simp] theorem elapse_latch (n : Nat) : (elapse n s).latch = s.latch := (rfl)
@[simp] theorem elapse_i3c (n : Nat) : (elapse n s).i3c = s.i3c := (rfl)
@[simp] theorem elapse_log (n : Nat) : (elapse n s).log = s.log := (rfl)
@[simp] theorem elapse_plog (n : Nat) : (elapse n s).plog = s.plog := (rfl)
@[simp] theorem elapse_clk (n : Nat) : (elapse n s).clk = s.clk := (rfl)
@[simp] theorem elapse_pwr (n : Nat) : (elapse n s).pwr = s.pwr := (rfl)
@[simp] theorem elapse_blank (n : Nat) : (elapse n s).blank = s.blank := (rfl)
@[simp] theorem elapse_su (n : Nat) : (elapse n s).su = s.su := (rfl)
@[simp] theorem elapse_hw (n : Nat) : (elapse n s).hw = s.hw := (rfl)
@[simp] theorem elapse_slices (n : Nat) : (elapse n s).slices = s.slices := (rfl)
@[simp] theorem elapse_quarts (n : Nat) : (elapse n s).quarts = s.quarts := (rfl)
@[simp] theorem elapse_pin (n : Nat) : (elapse n s).pin = s.pin := (rfl)
@[simp] theorem elapse_lands (n : Nat) : (elapse n s).lands = s.lands := (rfl)
@[simp] theorem elapse_links (n : Nat) : (elapse n s).links = s.links := (rfl)
@[simp] theorem elapse_alive (n : Nat) : (elapse n s).alive = s.alive := (rfl)
@[simp] theorem elapse_shp (n : Nat) : (elapse n s).shp = s.shp := (rfl)
@[simp] theorem elapse_spn (n : Nat) : (elapse n s).spn = s.spn := (rfl)
@[simp] theorem elapse_pair (n : Nat) : (elapse n s).pair = s.pair := (rfl)
@[simp] theorem elapse_head (n : Nat) : (elapse n s).head = s.head := (rfl)
@[simp] theorem elapse_coord (n : Nat) : (elapse n s).coord = s.coord := (rfl)
@[simp] theorem elapse_job (n : Nat) : (elapse n s).job = s.job := (rfl)
@[simp] theorem elapse_satt (n : Nat) : (elapse n s).satt = s.satt := (rfl)
@[simp] theorem elapse_mbx (n : Nat) : (elapse n s).mbx = s.mbx := (rfl)
@[simp] theorem elapse_obs (n : Nat) : (elapse n s).obs = s.obs := (rfl)
@[simp] theorem elapse_mem (n : Nat) : (elapse n s).mem = s.mem := (rfl)
@[simp] theorem elapse_poison (n : Nat) : (elapse n s).poison = s.poison := (rfl)
@[simp] theorem elapse_upsets (n : Nat) : (elapse n s).upsets = s.upsets := (rfl)
@[simp] theorem elapse_chans (n : Nat) : (elapse n s).chans = s.chans := (rfl)
@[simp] theorem elapse_tags (n : Nat) : (elapse n s).tags = s.tags := (rfl)
@[simp] theorem elapse_tagc (n : Nat) : (elapse n s).tagc = s.tagc := (rfl)
@[simp] theorem elapse_pins (n : Nat) : (elapse n s).pins = s.pins := (rfl)
@[simp] theorem elapse_tier (n : Nat) : (elapse n s).tier = s.tier := (rfl)
@[simp] theorem elapse_pool (n : Nat) : (elapse n s).pool = s.pool := (rfl)
@[simp] theorem elapse_rgn (n : Nat) : (elapse n s).rgn = s.rgn := (rfl)
@[simp] theorem elapse_ctx (n : Nat) : (elapse n s).ctx = s.ctx := (rfl)
@[simp] theorem elapse_work (n : Nat) : (elapse n s).work = s.work := (rfl)
@[simp] theorem elapse_out (n : Nat) : (elapse n s).out = s.out := (rfl)
@[simp] theorem elapse_free (n : Nat) : (elapse n s).free = s.free := (rfl)
@[simp] theorem elapse_link (n : Nat) (z : LinkId) : (elapse n s).link z = s.link z := (rfl)
@[simp] theorem elapse_chan (n : Nat) (z : ChanId) : (elapse n s).chan z = s.chan z := (rfl)
@[simp] theorem elapse_exts (n : Nat) (z : ChanId) : (elapse n s).exts z = s.exts z := (rfl)
@[simp] theorem elapse_car (n : Nat) (z : CarrierId) : (elapse n s).car z = s.car z := (rfl)
@[simp] theorem elapse_slice (n : Nat) (z : SliceId) : (elapse n s).slice z = s.slice z := (rfl)
@[simp] theorem elapse_quart (n : Nat) (z : Quarter) : (elapse n s).quart z = s.quart z := (rfl)
@[simp] theorem elapse_core (n : Nat) (z : CoreId) : (elapse n s).core z = s.core z := (rfl)
@[simp] theorem elapse_key (n : Nat) (z : TenantId) : (elapse n s).key z = s.key z := (rfl)
@[simp] theorem elapse_counter (n : Nat) (z : Fin 8) : (elapse n s).counter z = s.counter z := (rfl)

/-! ### setTimer: time alone -/

@[simp] theorem setTimer_pending (k d : Nat) : (setTimer k d s).pending = s.pending := (rfl)
@[simp] theorem setTimer_regs (k d : Nat) : (setTimer k d s).regs = s.regs := (rfl)
@[simp] theorem setTimer_cnt64 (k d : Nat) : (setTimer k d s).cnt64 = s.cnt64 := (rfl)
@[simp] theorem setTimer_snap (k d : Nat) : (setTimer k d s).snap = s.snap := (rfl)
@[simp] theorem setTimer_snap64 (k d : Nat) : (setTimer k d s).snap64 = s.snap64 := (rfl)
@[simp] theorem setTimer_latch (k d : Nat) : (setTimer k d s).latch = s.latch := (rfl)
@[simp] theorem setTimer_i3c (k d : Nat) : (setTimer k d s).i3c = s.i3c := (rfl)
@[simp] theorem setTimer_log (k d : Nat) : (setTimer k d s).log = s.log := (rfl)
@[simp] theorem setTimer_plog (k d : Nat) : (setTimer k d s).plog = s.plog := (rfl)
@[simp] theorem setTimer_clk (k d : Nat) : (setTimer k d s).clk = s.clk := (rfl)
@[simp] theorem setTimer_pwr (k d : Nat) : (setTimer k d s).pwr = s.pwr := (rfl)
@[simp] theorem setTimer_blank (k d : Nat) : (setTimer k d s).blank = s.blank := (rfl)
@[simp] theorem setTimer_su (k d : Nat) : (setTimer k d s).su = s.su := (rfl)
@[simp] theorem setTimer_hw (k d : Nat) : (setTimer k d s).hw = s.hw := (rfl)
@[simp] theorem setTimer_slices (k d : Nat) : (setTimer k d s).slices = s.slices := (rfl)
@[simp] theorem setTimer_quarts (k d : Nat) : (setTimer k d s).quarts = s.quarts := (rfl)
@[simp] theorem setTimer_pin (k d : Nat) : (setTimer k d s).pin = s.pin := (rfl)
@[simp] theorem setTimer_lands (k d : Nat) : (setTimer k d s).lands = s.lands := (rfl)
@[simp] theorem setTimer_links (k d : Nat) : (setTimer k d s).links = s.links := (rfl)
@[simp] theorem setTimer_alive (k d : Nat) : (setTimer k d s).alive = s.alive := (rfl)
@[simp] theorem setTimer_shp (k d : Nat) : (setTimer k d s).shp = s.shp := (rfl)
@[simp] theorem setTimer_spn (k d : Nat) : (setTimer k d s).spn = s.spn := (rfl)
@[simp] theorem setTimer_pair (k d : Nat) : (setTimer k d s).pair = s.pair := (rfl)
@[simp] theorem setTimer_head (k d : Nat) : (setTimer k d s).head = s.head := (rfl)
@[simp] theorem setTimer_coord (k d : Nat) : (setTimer k d s).coord = s.coord := (rfl)
@[simp] theorem setTimer_job (k d : Nat) : (setTimer k d s).job = s.job := (rfl)
@[simp] theorem setTimer_satt (k d : Nat) : (setTimer k d s).satt = s.satt := (rfl)
@[simp] theorem setTimer_mbx (k d : Nat) : (setTimer k d s).mbx = s.mbx := (rfl)
@[simp] theorem setTimer_obs (k d : Nat) : (setTimer k d s).obs = s.obs := (rfl)
@[simp] theorem setTimer_mem (k d : Nat) : (setTimer k d s).mem = s.mem := (rfl)
@[simp] theorem setTimer_poison (k d : Nat) : (setTimer k d s).poison = s.poison := (rfl)
@[simp] theorem setTimer_upsets (k d : Nat) : (setTimer k d s).upsets = s.upsets := (rfl)
@[simp] theorem setTimer_chans (k d : Nat) : (setTimer k d s).chans = s.chans := (rfl)
@[simp] theorem setTimer_tags (k d : Nat) : (setTimer k d s).tags = s.tags := (rfl)
@[simp] theorem setTimer_tagc (k d : Nat) : (setTimer k d s).tagc = s.tagc := (rfl)
@[simp] theorem setTimer_pins (k d : Nat) : (setTimer k d s).pins = s.pins := (rfl)
@[simp] theorem setTimer_tier (k d : Nat) : (setTimer k d s).tier = s.tier := (rfl)
@[simp] theorem setTimer_pool (k d : Nat) : (setTimer k d s).pool = s.pool := (rfl)
@[simp] theorem setTimer_rgn (k d : Nat) : (setTimer k d s).rgn = s.rgn := (rfl)
@[simp] theorem setTimer_ctx (k d : Nat) : (setTimer k d s).ctx = s.ctx := (rfl)
@[simp] theorem setTimer_work (k d : Nat) : (setTimer k d s).work = s.work := (rfl)
@[simp] theorem setTimer_out (k d : Nat) : (setTimer k d s).out = s.out := (rfl)
@[simp] theorem setTimer_free (k d : Nat) : (setTimer k d s).free = s.free := (rfl)
@[simp] theorem setTimer_link (k d : Nat) (z : LinkId) : (setTimer k d s).link z = s.link z := (rfl)
@[simp] theorem setTimer_chan (k d : Nat) (z : ChanId) : (setTimer k d s).chan z = s.chan z := (rfl)
@[simp] theorem setTimer_exts (k d : Nat) (z : ChanId) : (setTimer k d s).exts z = s.exts z := (rfl)
@[simp] theorem setTimer_car (k d : Nat) (z : CarrierId) : (setTimer k d s).car z = s.car z := (rfl)
@[simp] theorem setTimer_slice (k d : Nat) (z : SliceId) : (setTimer k d s).slice z = s.slice z := (rfl)
@[simp] theorem setTimer_quart (k d : Nat) (z : Quarter) : (setTimer k d s).quart z = s.quart z := (rfl)
@[simp] theorem setTimer_core (k d : Nat) (z : CoreId) : (setTimer k d s).core z = s.core z := (rfl)
@[simp] theorem setTimer_key (k d : Nat) (z : TenantId) : (setTimer k d s).key z = s.key z := (rfl)
@[simp] theorem setTimer_counter (k d : Nat) (z : Fin 8) : (setTimer k d s).counter z = s.counter z := (rfl)

/-! ### plogEv: plog alone -/

@[simp] theorem plogEv_pending (k d x : Nat) : (plogEv k d x s).pending = s.pending := (rfl)
@[simp] theorem plogEv_regs (k d x : Nat) : (plogEv k d x s).regs = s.regs := (rfl)
@[simp] theorem plogEv_cnt64 (k d x : Nat) : (plogEv k d x s).cnt64 = s.cnt64 := (rfl)
@[simp] theorem plogEv_snap (k d x : Nat) : (plogEv k d x s).snap = s.snap := (rfl)
@[simp] theorem plogEv_snap64 (k d x : Nat) : (plogEv k d x s).snap64 = s.snap64 := (rfl)
@[simp] theorem plogEv_latch (k d x : Nat) : (plogEv k d x s).latch = s.latch := (rfl)
@[simp] theorem plogEv_i3c (k d x : Nat) : (plogEv k d x s).i3c = s.i3c := (rfl)
@[simp] theorem plogEv_log (k d x : Nat) : (plogEv k d x s).log = s.log := (rfl)
@[simp] theorem plogEv_time (k d x : Nat) : (plogEv k d x s).time = s.time := (rfl)
@[simp] theorem plogEv_clk (k d x : Nat) : (plogEv k d x s).clk = s.clk := (rfl)
@[simp] theorem plogEv_pwr (k d x : Nat) : (plogEv k d x s).pwr = s.pwr := (rfl)
@[simp] theorem plogEv_blank (k d x : Nat) : (plogEv k d x s).blank = s.blank := (rfl)
@[simp] theorem plogEv_su (k d x : Nat) : (plogEv k d x s).su = s.su := (rfl)
@[simp] theorem plogEv_hw (k d x : Nat) : (plogEv k d x s).hw = s.hw := (rfl)
@[simp] theorem plogEv_slices (k d x : Nat) : (plogEv k d x s).slices = s.slices := (rfl)
@[simp] theorem plogEv_quarts (k d x : Nat) : (plogEv k d x s).quarts = s.quarts := (rfl)
@[simp] theorem plogEv_pin (k d x : Nat) : (plogEv k d x s).pin = s.pin := (rfl)
@[simp] theorem plogEv_lands (k d x : Nat) : (plogEv k d x s).lands = s.lands := (rfl)
@[simp] theorem plogEv_links (k d x : Nat) : (plogEv k d x s).links = s.links := (rfl)
@[simp] theorem plogEv_alive (k d x : Nat) : (plogEv k d x s).alive = s.alive := (rfl)
@[simp] theorem plogEv_shp (k d x : Nat) : (plogEv k d x s).shp = s.shp := (rfl)
@[simp] theorem plogEv_spn (k d x : Nat) : (plogEv k d x s).spn = s.spn := (rfl)
@[simp] theorem plogEv_pair (k d x : Nat) : (plogEv k d x s).pair = s.pair := (rfl)
@[simp] theorem plogEv_head (k d x : Nat) : (plogEv k d x s).head = s.head := (rfl)
@[simp] theorem plogEv_coord (k d x : Nat) : (plogEv k d x s).coord = s.coord := (rfl)
@[simp] theorem plogEv_job (k d x : Nat) : (plogEv k d x s).job = s.job := (rfl)
@[simp] theorem plogEv_satt (k d x : Nat) : (plogEv k d x s).satt = s.satt := (rfl)
@[simp] theorem plogEv_mbx (k d x : Nat) : (plogEv k d x s).mbx = s.mbx := (rfl)
@[simp] theorem plogEv_obs (k d x : Nat) : (plogEv k d x s).obs = s.obs := (rfl)
@[simp] theorem plogEv_mem (k d x : Nat) : (plogEv k d x s).mem = s.mem := (rfl)
@[simp] theorem plogEv_poison (k d x : Nat) : (plogEv k d x s).poison = s.poison := (rfl)
@[simp] theorem plogEv_upsets (k d x : Nat) : (plogEv k d x s).upsets = s.upsets := (rfl)
@[simp] theorem plogEv_chans (k d x : Nat) : (plogEv k d x s).chans = s.chans := (rfl)
@[simp] theorem plogEv_tags (k d x : Nat) : (plogEv k d x s).tags = s.tags := (rfl)
@[simp] theorem plogEv_tagc (k d x : Nat) : (plogEv k d x s).tagc = s.tagc := (rfl)
@[simp] theorem plogEv_pins (k d x : Nat) : (plogEv k d x s).pins = s.pins := (rfl)
@[simp] theorem plogEv_tier (k d x : Nat) : (plogEv k d x s).tier = s.tier := (rfl)
@[simp] theorem plogEv_pool (k d x : Nat) : (plogEv k d x s).pool = s.pool := (rfl)
@[simp] theorem plogEv_rgn (k d x : Nat) : (plogEv k d x s).rgn = s.rgn := (rfl)
@[simp] theorem plogEv_ctx (k d x : Nat) : (plogEv k d x s).ctx = s.ctx := (rfl)
@[simp] theorem plogEv_work (k d x : Nat) : (plogEv k d x s).work = s.work := (rfl)
@[simp] theorem plogEv_out (k d x : Nat) : (plogEv k d x s).out = s.out := (rfl)
@[simp] theorem plogEv_free (k d x : Nat) : (plogEv k d x s).free = s.free := (rfl)
@[simp] theorem plogEv_link (k d x : Nat) (z : LinkId) : (plogEv k d x s).link z = s.link z := (rfl)
@[simp] theorem plogEv_chan (k d x : Nat) (z : ChanId) : (plogEv k d x s).chan z = s.chan z := (rfl)
@[simp] theorem plogEv_exts (k d x : Nat) (z : ChanId) : (plogEv k d x s).exts z = s.exts z := (rfl)
@[simp] theorem plogEv_car (k d x : Nat) (z : CarrierId) : (plogEv k d x s).car z = s.car z := (rfl)
@[simp] theorem plogEv_slice (k d x : Nat) (z : SliceId) : (plogEv k d x s).slice z = s.slice z := (rfl)
@[simp] theorem plogEv_quart (k d x : Nat) (z : Quarter) : (plogEv k d x s).quart z = s.quart z := (rfl)
@[simp] theorem plogEv_core (k d x : Nat) (z : CoreId) : (plogEv k d x s).core z = s.core z := (rfl)
@[simp] theorem plogEv_key (k d x : Nat) (z : TenantId) : (plogEv k d x s).key z = s.key z := (rfl)
@[simp] theorem plogEv_counter (k d x : Nat) (z : Fin 8) : (plogEv k d x s).counter z = s.counter z := (rfl)

/-! ### updLink: links alone -/

@[simp] theorem updLink_pending (l : LinkId) (f : LinkSt → LinkSt) : (s.updLink l f).pending = s.pending := (rfl)
@[simp] theorem updLink_regs (l : LinkId) (f : LinkSt → LinkSt) : (s.updLink l f).regs = s.regs := (rfl)
@[simp] theorem updLink_cnt64 (l : LinkId) (f : LinkSt → LinkSt) : (s.updLink l f).cnt64 = s.cnt64 := (rfl)
@[simp] theorem updLink_snap (l : LinkId) (f : LinkSt → LinkSt) : (s.updLink l f).snap = s.snap := (rfl)
@[simp] theorem updLink_snap64 (l : LinkId) (f : LinkSt → LinkSt) : (s.updLink l f).snap64 = s.snap64 := (rfl)
@[simp] theorem updLink_latch (l : LinkId) (f : LinkSt → LinkSt) : (s.updLink l f).latch = s.latch := (rfl)
@[simp] theorem updLink_i3c (l : LinkId) (f : LinkSt → LinkSt) : (s.updLink l f).i3c = s.i3c := (rfl)
@[simp] theorem updLink_log (l : LinkId) (f : LinkSt → LinkSt) : (s.updLink l f).log = s.log := (rfl)
@[simp] theorem updLink_plog (l : LinkId) (f : LinkSt → LinkSt) : (s.updLink l f).plog = s.plog := (rfl)
@[simp] theorem updLink_time (l : LinkId) (f : LinkSt → LinkSt) : (s.updLink l f).time = s.time := (rfl)
@[simp] theorem updLink_clk (l : LinkId) (f : LinkSt → LinkSt) : (s.updLink l f).clk = s.clk := (rfl)
@[simp] theorem updLink_pwr (l : LinkId) (f : LinkSt → LinkSt) : (s.updLink l f).pwr = s.pwr := (rfl)
@[simp] theorem updLink_blank (l : LinkId) (f : LinkSt → LinkSt) : (s.updLink l f).blank = s.blank := (rfl)
@[simp] theorem updLink_su (l : LinkId) (f : LinkSt → LinkSt) : (s.updLink l f).su = s.su := (rfl)
@[simp] theorem updLink_hw (l : LinkId) (f : LinkSt → LinkSt) : (s.updLink l f).hw = s.hw := (rfl)
@[simp] theorem updLink_slices (l : LinkId) (f : LinkSt → LinkSt) : (s.updLink l f).slices = s.slices := (rfl)
@[simp] theorem updLink_quarts (l : LinkId) (f : LinkSt → LinkSt) : (s.updLink l f).quarts = s.quarts := (rfl)
@[simp] theorem updLink_pin (l : LinkId) (f : LinkSt → LinkSt) : (s.updLink l f).pin = s.pin := (rfl)
@[simp] theorem updLink_lands (l : LinkId) (f : LinkSt → LinkSt) : (s.updLink l f).lands = s.lands := (rfl)
@[simp] theorem updLink_alive (l : LinkId) (f : LinkSt → LinkSt) : (s.updLink l f).alive = s.alive := (rfl)
@[simp] theorem updLink_shp (l : LinkId) (f : LinkSt → LinkSt) : (s.updLink l f).shp = s.shp := (rfl)
@[simp] theorem updLink_spn (l : LinkId) (f : LinkSt → LinkSt) : (s.updLink l f).spn = s.spn := (rfl)
@[simp] theorem updLink_pair (l : LinkId) (f : LinkSt → LinkSt) : (s.updLink l f).pair = s.pair := (rfl)
@[simp] theorem updLink_head (l : LinkId) (f : LinkSt → LinkSt) : (s.updLink l f).head = s.head := (rfl)
@[simp] theorem updLink_coord (l : LinkId) (f : LinkSt → LinkSt) : (s.updLink l f).coord = s.coord := (rfl)
@[simp] theorem updLink_job (l : LinkId) (f : LinkSt → LinkSt) : (s.updLink l f).job = s.job := (rfl)
@[simp] theorem updLink_satt (l : LinkId) (f : LinkSt → LinkSt) : (s.updLink l f).satt = s.satt := (rfl)
@[simp] theorem updLink_mbx (l : LinkId) (f : LinkSt → LinkSt) : (s.updLink l f).mbx = s.mbx := (rfl)
@[simp] theorem updLink_obs (l : LinkId) (f : LinkSt → LinkSt) : (s.updLink l f).obs = s.obs := (rfl)
@[simp] theorem updLink_mem (l : LinkId) (f : LinkSt → LinkSt) : (s.updLink l f).mem = s.mem := (rfl)
@[simp] theorem updLink_poison (l : LinkId) (f : LinkSt → LinkSt) : (s.updLink l f).poison = s.poison := (rfl)
@[simp] theorem updLink_upsets (l : LinkId) (f : LinkSt → LinkSt) : (s.updLink l f).upsets = s.upsets := (rfl)
@[simp] theorem updLink_chans (l : LinkId) (f : LinkSt → LinkSt) : (s.updLink l f).chans = s.chans := (rfl)
@[simp] theorem updLink_tags (l : LinkId) (f : LinkSt → LinkSt) : (s.updLink l f).tags = s.tags := (rfl)
@[simp] theorem updLink_tagc (l : LinkId) (f : LinkSt → LinkSt) : (s.updLink l f).tagc = s.tagc := (rfl)
@[simp] theorem updLink_pins (l : LinkId) (f : LinkSt → LinkSt) : (s.updLink l f).pins = s.pins := (rfl)
@[simp] theorem updLink_tier (l : LinkId) (f : LinkSt → LinkSt) : (s.updLink l f).tier = s.tier := (rfl)
@[simp] theorem updLink_pool (l : LinkId) (f : LinkSt → LinkSt) : (s.updLink l f).pool = s.pool := (rfl)
@[simp] theorem updLink_rgn (l : LinkId) (f : LinkSt → LinkSt) : (s.updLink l f).rgn = s.rgn := (rfl)
@[simp] theorem updLink_ctx (l : LinkId) (f : LinkSt → LinkSt) : (s.updLink l f).ctx = s.ctx := (rfl)
@[simp] theorem updLink_work (l : LinkId) (f : LinkSt → LinkSt) : (s.updLink l f).work = s.work := (rfl)
@[simp] theorem updLink_out (l : LinkId) (f : LinkSt → LinkSt) : (s.updLink l f).out = s.out := (rfl)
@[simp] theorem updLink_free (l : LinkId) (f : LinkSt → LinkSt) : (s.updLink l f).free = s.free := (rfl)
@[simp] theorem updLink_chan (l : LinkId) (f : LinkSt → LinkSt) (z : ChanId) : (s.updLink l f).chan z = s.chan z := (rfl)
@[simp] theorem updLink_exts (l : LinkId) (f : LinkSt → LinkSt) (z : ChanId) : (s.updLink l f).exts z = s.exts z := (rfl)
@[simp] theorem updLink_car (l : LinkId) (f : LinkSt → LinkSt) (z : CarrierId) : (s.updLink l f).car z = s.car z := (rfl)
@[simp] theorem updLink_slice (l : LinkId) (f : LinkSt → LinkSt) (z : SliceId) : (s.updLink l f).slice z = s.slice z := (rfl)
@[simp] theorem updLink_quart (l : LinkId) (f : LinkSt → LinkSt) (z : Quarter) : (s.updLink l f).quart z = s.quart z := (rfl)
@[simp] theorem updLink_core (l : LinkId) (f : LinkSt → LinkSt) (z : CoreId) : (s.updLink l f).core z = s.core z := (rfl)
@[simp] theorem updLink_key (l : LinkId) (f : LinkSt → LinkSt) (z : TenantId) : (s.updLink l f).key z = s.key z := (rfl)
@[simp] theorem updLink_counter (l : LinkId) (f : LinkSt → LinkSt) (z : Fin 8) : (s.updLink l f).counter z = s.counter z := (rfl)

/-! ### updChan: chans alone -/

@[simp] theorem updChan_pending (c : ChanId) (f : ChanSt → ChanSt) : (s.updChan c f).pending = s.pending := (rfl)
@[simp] theorem updChan_regs (c : ChanId) (f : ChanSt → ChanSt) : (s.updChan c f).regs = s.regs := (rfl)
@[simp] theorem updChan_cnt64 (c : ChanId) (f : ChanSt → ChanSt) : (s.updChan c f).cnt64 = s.cnt64 := (rfl)
@[simp] theorem updChan_snap (c : ChanId) (f : ChanSt → ChanSt) : (s.updChan c f).snap = s.snap := (rfl)
@[simp] theorem updChan_snap64 (c : ChanId) (f : ChanSt → ChanSt) : (s.updChan c f).snap64 = s.snap64 := (rfl)
@[simp] theorem updChan_latch (c : ChanId) (f : ChanSt → ChanSt) : (s.updChan c f).latch = s.latch := (rfl)
@[simp] theorem updChan_i3c (c : ChanId) (f : ChanSt → ChanSt) : (s.updChan c f).i3c = s.i3c := (rfl)
@[simp] theorem updChan_log (c : ChanId) (f : ChanSt → ChanSt) : (s.updChan c f).log = s.log := (rfl)
@[simp] theorem updChan_plog (c : ChanId) (f : ChanSt → ChanSt) : (s.updChan c f).plog = s.plog := (rfl)
@[simp] theorem updChan_time (c : ChanId) (f : ChanSt → ChanSt) : (s.updChan c f).time = s.time := (rfl)
@[simp] theorem updChan_clk (c : ChanId) (f : ChanSt → ChanSt) : (s.updChan c f).clk = s.clk := (rfl)
@[simp] theorem updChan_pwr (c : ChanId) (f : ChanSt → ChanSt) : (s.updChan c f).pwr = s.pwr := (rfl)
@[simp] theorem updChan_blank (c : ChanId) (f : ChanSt → ChanSt) : (s.updChan c f).blank = s.blank := (rfl)
@[simp] theorem updChan_su (c : ChanId) (f : ChanSt → ChanSt) : (s.updChan c f).su = s.su := (rfl)
@[simp] theorem updChan_hw (c : ChanId) (f : ChanSt → ChanSt) : (s.updChan c f).hw = s.hw := (rfl)
@[simp] theorem updChan_slices (c : ChanId) (f : ChanSt → ChanSt) : (s.updChan c f).slices = s.slices := (rfl)
@[simp] theorem updChan_quarts (c : ChanId) (f : ChanSt → ChanSt) : (s.updChan c f).quarts = s.quarts := (rfl)
@[simp] theorem updChan_pin (c : ChanId) (f : ChanSt → ChanSt) : (s.updChan c f).pin = s.pin := (rfl)
@[simp] theorem updChan_lands (c : ChanId) (f : ChanSt → ChanSt) : (s.updChan c f).lands = s.lands := (rfl)
@[simp] theorem updChan_links (c : ChanId) (f : ChanSt → ChanSt) : (s.updChan c f).links = s.links := (rfl)
@[simp] theorem updChan_alive (c : ChanId) (f : ChanSt → ChanSt) : (s.updChan c f).alive = s.alive := (rfl)
@[simp] theorem updChan_shp (c : ChanId) (f : ChanSt → ChanSt) : (s.updChan c f).shp = s.shp := (rfl)
@[simp] theorem updChan_spn (c : ChanId) (f : ChanSt → ChanSt) : (s.updChan c f).spn = s.spn := (rfl)
@[simp] theorem updChan_pair (c : ChanId) (f : ChanSt → ChanSt) : (s.updChan c f).pair = s.pair := (rfl)
@[simp] theorem updChan_head (c : ChanId) (f : ChanSt → ChanSt) : (s.updChan c f).head = s.head := (rfl)
@[simp] theorem updChan_coord (c : ChanId) (f : ChanSt → ChanSt) : (s.updChan c f).coord = s.coord := (rfl)
@[simp] theorem updChan_job (c : ChanId) (f : ChanSt → ChanSt) : (s.updChan c f).job = s.job := (rfl)
@[simp] theorem updChan_satt (c : ChanId) (f : ChanSt → ChanSt) : (s.updChan c f).satt = s.satt := (rfl)
@[simp] theorem updChan_mbx (c : ChanId) (f : ChanSt → ChanSt) : (s.updChan c f).mbx = s.mbx := (rfl)
@[simp] theorem updChan_obs (c : ChanId) (f : ChanSt → ChanSt) : (s.updChan c f).obs = s.obs := (rfl)
@[simp] theorem updChan_mem (c : ChanId) (f : ChanSt → ChanSt) : (s.updChan c f).mem = s.mem := (rfl)
@[simp] theorem updChan_poison (c : ChanId) (f : ChanSt → ChanSt) : (s.updChan c f).poison = s.poison := (rfl)
@[simp] theorem updChan_upsets (c : ChanId) (f : ChanSt → ChanSt) : (s.updChan c f).upsets = s.upsets := (rfl)
@[simp] theorem updChan_tags (c : ChanId) (f : ChanSt → ChanSt) : (s.updChan c f).tags = s.tags := (rfl)
@[simp] theorem updChan_tagc (c : ChanId) (f : ChanSt → ChanSt) : (s.updChan c f).tagc = s.tagc := (rfl)
@[simp] theorem updChan_pins (c : ChanId) (f : ChanSt → ChanSt) : (s.updChan c f).pins = s.pins := (rfl)
@[simp] theorem updChan_tier (c : ChanId) (f : ChanSt → ChanSt) : (s.updChan c f).tier = s.tier := (rfl)
@[simp] theorem updChan_pool (c : ChanId) (f : ChanSt → ChanSt) : (s.updChan c f).pool = s.pool := (rfl)
@[simp] theorem updChan_rgn (c : ChanId) (f : ChanSt → ChanSt) : (s.updChan c f).rgn = s.rgn := (rfl)
@[simp] theorem updChan_ctx (c : ChanId) (f : ChanSt → ChanSt) : (s.updChan c f).ctx = s.ctx := (rfl)
@[simp] theorem updChan_work (c : ChanId) (f : ChanSt → ChanSt) : (s.updChan c f).work = s.work := (rfl)
@[simp] theorem updChan_out (c : ChanId) (f : ChanSt → ChanSt) : (s.updChan c f).out = s.out := (rfl)
@[simp] theorem updChan_free (c : ChanId) (f : ChanSt → ChanSt) : (s.updChan c f).free = s.free := (rfl)
@[simp] theorem updChan_link (c : ChanId) (f : ChanSt → ChanSt) (z : LinkId) : (s.updChan c f).link z = s.link z := (rfl)
@[simp] theorem updChan_exts (c : ChanId) (f : ChanSt → ChanSt) (z : ChanId) : (s.updChan c f).exts z = s.exts z := (rfl)
@[simp] theorem updChan_car (c : ChanId) (f : ChanSt → ChanSt) (z : CarrierId) : (s.updChan c f).car z = s.car z := (rfl)
@[simp] theorem updChan_slice (c : ChanId) (f : ChanSt → ChanSt) (z : SliceId) : (s.updChan c f).slice z = s.slice z := (rfl)
@[simp] theorem updChan_quart (c : ChanId) (f : ChanSt → ChanSt) (z : Quarter) : (s.updChan c f).quart z = s.quart z := (rfl)
@[simp] theorem updChan_core (c : ChanId) (f : ChanSt → ChanSt) (z : CoreId) : (s.updChan c f).core z = s.core z := (rfl)
@[simp] theorem updChan_key (c : ChanId) (f : ChanSt → ChanSt) (z : TenantId) : (s.updChan c f).key z = s.key z := (rfl)
@[simp] theorem updChan_counter (c : ChanId) (f : ChanSt → ChanSt) (z : Fin 8) : (s.updChan c f).counter z = s.counter z := (rfl)

/-! ### updTier: tier alone -/

@[simp] theorem updTier_pending (f : TierSt → TierSt) : (s.updTier f).pending = s.pending := (rfl)
@[simp] theorem updTier_regs (f : TierSt → TierSt) : (s.updTier f).regs = s.regs := (rfl)
@[simp] theorem updTier_cnt64 (f : TierSt → TierSt) : (s.updTier f).cnt64 = s.cnt64 := (rfl)
@[simp] theorem updTier_snap (f : TierSt → TierSt) : (s.updTier f).snap = s.snap := (rfl)
@[simp] theorem updTier_snap64 (f : TierSt → TierSt) : (s.updTier f).snap64 = s.snap64 := (rfl)
@[simp] theorem updTier_latch (f : TierSt → TierSt) : (s.updTier f).latch = s.latch := (rfl)
@[simp] theorem updTier_i3c (f : TierSt → TierSt) : (s.updTier f).i3c = s.i3c := (rfl)
@[simp] theorem updTier_log (f : TierSt → TierSt) : (s.updTier f).log = s.log := (rfl)
@[simp] theorem updTier_plog (f : TierSt → TierSt) : (s.updTier f).plog = s.plog := (rfl)
@[simp] theorem updTier_time (f : TierSt → TierSt) : (s.updTier f).time = s.time := (rfl)
@[simp] theorem updTier_clk (f : TierSt → TierSt) : (s.updTier f).clk = s.clk := (rfl)
@[simp] theorem updTier_pwr (f : TierSt → TierSt) : (s.updTier f).pwr = s.pwr := (rfl)
@[simp] theorem updTier_blank (f : TierSt → TierSt) : (s.updTier f).blank = s.blank := (rfl)
@[simp] theorem updTier_su (f : TierSt → TierSt) : (s.updTier f).su = s.su := (rfl)
@[simp] theorem updTier_hw (f : TierSt → TierSt) : (s.updTier f).hw = s.hw := (rfl)
@[simp] theorem updTier_slices (f : TierSt → TierSt) : (s.updTier f).slices = s.slices := (rfl)
@[simp] theorem updTier_quarts (f : TierSt → TierSt) : (s.updTier f).quarts = s.quarts := (rfl)
@[simp] theorem updTier_pin (f : TierSt → TierSt) : (s.updTier f).pin = s.pin := (rfl)
@[simp] theorem updTier_lands (f : TierSt → TierSt) : (s.updTier f).lands = s.lands := (rfl)
@[simp] theorem updTier_links (f : TierSt → TierSt) : (s.updTier f).links = s.links := (rfl)
@[simp] theorem updTier_alive (f : TierSt → TierSt) : (s.updTier f).alive = s.alive := (rfl)
@[simp] theorem updTier_shp (f : TierSt → TierSt) : (s.updTier f).shp = s.shp := (rfl)
@[simp] theorem updTier_spn (f : TierSt → TierSt) : (s.updTier f).spn = s.spn := (rfl)
@[simp] theorem updTier_pair (f : TierSt → TierSt) : (s.updTier f).pair = s.pair := (rfl)
@[simp] theorem updTier_head (f : TierSt → TierSt) : (s.updTier f).head = s.head := (rfl)
@[simp] theorem updTier_coord (f : TierSt → TierSt) : (s.updTier f).coord = s.coord := (rfl)
@[simp] theorem updTier_job (f : TierSt → TierSt) : (s.updTier f).job = s.job := (rfl)
@[simp] theorem updTier_satt (f : TierSt → TierSt) : (s.updTier f).satt = s.satt := (rfl)
@[simp] theorem updTier_mbx (f : TierSt → TierSt) : (s.updTier f).mbx = s.mbx := (rfl)
@[simp] theorem updTier_obs (f : TierSt → TierSt) : (s.updTier f).obs = s.obs := (rfl)
@[simp] theorem updTier_mem (f : TierSt → TierSt) : (s.updTier f).mem = s.mem := (rfl)
@[simp] theorem updTier_poison (f : TierSt → TierSt) : (s.updTier f).poison = s.poison := (rfl)
@[simp] theorem updTier_upsets (f : TierSt → TierSt) : (s.updTier f).upsets = s.upsets := (rfl)
@[simp] theorem updTier_chans (f : TierSt → TierSt) : (s.updTier f).chans = s.chans := (rfl)
@[simp] theorem updTier_tags (f : TierSt → TierSt) : (s.updTier f).tags = s.tags := (rfl)
@[simp] theorem updTier_tagc (f : TierSt → TierSt) : (s.updTier f).tagc = s.tagc := (rfl)
@[simp] theorem updTier_pins (f : TierSt → TierSt) : (s.updTier f).pins = s.pins := (rfl)
@[simp] theorem updTier_pool (f : TierSt → TierSt) : (s.updTier f).pool = s.pool := (rfl)
@[simp] theorem updTier_rgn (f : TierSt → TierSt) : (s.updTier f).rgn = s.rgn := (rfl)
@[simp] theorem updTier_ctx (f : TierSt → TierSt) : (s.updTier f).ctx = s.ctx := (rfl)
@[simp] theorem updTier_work (f : TierSt → TierSt) : (s.updTier f).work = s.work := (rfl)
@[simp] theorem updTier_out (f : TierSt → TierSt) : (s.updTier f).out = s.out := (rfl)
@[simp] theorem updTier_free (f : TierSt → TierSt) : (s.updTier f).free = s.free := (rfl)
@[simp] theorem updTier_link (f : TierSt → TierSt) (z : LinkId) : (s.updTier f).link z = s.link z := (rfl)
@[simp] theorem updTier_chan (f : TierSt → TierSt) (z : ChanId) : (s.updTier f).chan z = s.chan z := (rfl)
@[simp] theorem updTier_exts (f : TierSt → TierSt) (z : ChanId) : (s.updTier f).exts z = s.exts z := (rfl)
@[simp] theorem updTier_slice (f : TierSt → TierSt) (z : SliceId) : (s.updTier f).slice z = s.slice z := (rfl)
@[simp] theorem updTier_quart (f : TierSt → TierSt) (z : Quarter) : (s.updTier f).quart z = s.quart z := (rfl)
@[simp] theorem updTier_core (f : TierSt → TierSt) (z : CoreId) : (s.updTier f).core z = s.core z := (rfl)
@[simp] theorem updTier_key (f : TierSt → TierSt) (z : TenantId) : (s.updTier f).key z = s.key z := (rfl)
@[simp] theorem updTier_counter (f : TierSt → TierSt) (z : Fin 8) : (s.updTier f).counter z = s.counter z := (rfl)

/-! ### updCar: tier alone -/

@[simp] theorem updCar_pending (c : CarrierId) (f : CarSt → CarSt) : (s.updCar c f).pending = s.pending := (rfl)
@[simp] theorem updCar_regs (c : CarrierId) (f : CarSt → CarSt) : (s.updCar c f).regs = s.regs := (rfl)
@[simp] theorem updCar_cnt64 (c : CarrierId) (f : CarSt → CarSt) : (s.updCar c f).cnt64 = s.cnt64 := (rfl)
@[simp] theorem updCar_snap (c : CarrierId) (f : CarSt → CarSt) : (s.updCar c f).snap = s.snap := (rfl)
@[simp] theorem updCar_snap64 (c : CarrierId) (f : CarSt → CarSt) : (s.updCar c f).snap64 = s.snap64 := (rfl)
@[simp] theorem updCar_latch (c : CarrierId) (f : CarSt → CarSt) : (s.updCar c f).latch = s.latch := (rfl)
@[simp] theorem updCar_i3c (c : CarrierId) (f : CarSt → CarSt) : (s.updCar c f).i3c = s.i3c := (rfl)
@[simp] theorem updCar_log (c : CarrierId) (f : CarSt → CarSt) : (s.updCar c f).log = s.log := (rfl)
@[simp] theorem updCar_plog (c : CarrierId) (f : CarSt → CarSt) : (s.updCar c f).plog = s.plog := (rfl)
@[simp] theorem updCar_time (c : CarrierId) (f : CarSt → CarSt) : (s.updCar c f).time = s.time := (rfl)
@[simp] theorem updCar_clk (c : CarrierId) (f : CarSt → CarSt) : (s.updCar c f).clk = s.clk := (rfl)
@[simp] theorem updCar_pwr (c : CarrierId) (f : CarSt → CarSt) : (s.updCar c f).pwr = s.pwr := (rfl)
@[simp] theorem updCar_blank (c : CarrierId) (f : CarSt → CarSt) : (s.updCar c f).blank = s.blank := (rfl)
@[simp] theorem updCar_su (c : CarrierId) (f : CarSt → CarSt) : (s.updCar c f).su = s.su := (rfl)
@[simp] theorem updCar_hw (c : CarrierId) (f : CarSt → CarSt) : (s.updCar c f).hw = s.hw := (rfl)
@[simp] theorem updCar_slices (c : CarrierId) (f : CarSt → CarSt) : (s.updCar c f).slices = s.slices := (rfl)
@[simp] theorem updCar_quarts (c : CarrierId) (f : CarSt → CarSt) : (s.updCar c f).quarts = s.quarts := (rfl)
@[simp] theorem updCar_pin (c : CarrierId) (f : CarSt → CarSt) : (s.updCar c f).pin = s.pin := (rfl)
@[simp] theorem updCar_lands (c : CarrierId) (f : CarSt → CarSt) : (s.updCar c f).lands = s.lands := (rfl)
@[simp] theorem updCar_links (c : CarrierId) (f : CarSt → CarSt) : (s.updCar c f).links = s.links := (rfl)
@[simp] theorem updCar_alive (c : CarrierId) (f : CarSt → CarSt) : (s.updCar c f).alive = s.alive := (rfl)
@[simp] theorem updCar_shp (c : CarrierId) (f : CarSt → CarSt) : (s.updCar c f).shp = s.shp := (rfl)
@[simp] theorem updCar_spn (c : CarrierId) (f : CarSt → CarSt) : (s.updCar c f).spn = s.spn := (rfl)
@[simp] theorem updCar_pair (c : CarrierId) (f : CarSt → CarSt) : (s.updCar c f).pair = s.pair := (rfl)
@[simp] theorem updCar_head (c : CarrierId) (f : CarSt → CarSt) : (s.updCar c f).head = s.head := (rfl)
@[simp] theorem updCar_coord (c : CarrierId) (f : CarSt → CarSt) : (s.updCar c f).coord = s.coord := (rfl)
@[simp] theorem updCar_job (c : CarrierId) (f : CarSt → CarSt) : (s.updCar c f).job = s.job := (rfl)
@[simp] theorem updCar_satt (c : CarrierId) (f : CarSt → CarSt) : (s.updCar c f).satt = s.satt := (rfl)
@[simp] theorem updCar_mbx (c : CarrierId) (f : CarSt → CarSt) : (s.updCar c f).mbx = s.mbx := (rfl)
@[simp] theorem updCar_obs (c : CarrierId) (f : CarSt → CarSt) : (s.updCar c f).obs = s.obs := (rfl)
@[simp] theorem updCar_mem (c : CarrierId) (f : CarSt → CarSt) : (s.updCar c f).mem = s.mem := (rfl)
@[simp] theorem updCar_poison (c : CarrierId) (f : CarSt → CarSt) : (s.updCar c f).poison = s.poison := (rfl)
@[simp] theorem updCar_upsets (c : CarrierId) (f : CarSt → CarSt) : (s.updCar c f).upsets = s.upsets := (rfl)
@[simp] theorem updCar_chans (c : CarrierId) (f : CarSt → CarSt) : (s.updCar c f).chans = s.chans := (rfl)
@[simp] theorem updCar_tags (c : CarrierId) (f : CarSt → CarSt) : (s.updCar c f).tags = s.tags := (rfl)
@[simp] theorem updCar_tagc (c : CarrierId) (f : CarSt → CarSt) : (s.updCar c f).tagc = s.tagc := (rfl)
@[simp] theorem updCar_pins (c : CarrierId) (f : CarSt → CarSt) : (s.updCar c f).pins = s.pins := (rfl)
@[simp] theorem updCar_pool (c : CarrierId) (f : CarSt → CarSt) : (s.updCar c f).pool = s.pool := (rfl)
@[simp] theorem updCar_rgn (c : CarrierId) (f : CarSt → CarSt) : (s.updCar c f).rgn = s.rgn := (rfl)
@[simp] theorem updCar_ctx (c : CarrierId) (f : CarSt → CarSt) : (s.updCar c f).ctx = s.ctx := (rfl)
@[simp] theorem updCar_work (c : CarrierId) (f : CarSt → CarSt) : (s.updCar c f).work = s.work := (rfl)
@[simp] theorem updCar_out (c : CarrierId) (f : CarSt → CarSt) : (s.updCar c f).out = s.out := (rfl)
@[simp] theorem updCar_free (c : CarrierId) (f : CarSt → CarSt) : (s.updCar c f).free = s.free := (rfl)
@[simp] theorem updCar_link (c : CarrierId) (f : CarSt → CarSt) (z : LinkId) : (s.updCar c f).link z = s.link z := (rfl)
@[simp] theorem updCar_chan (c : CarrierId) (f : CarSt → CarSt) (z : ChanId) : (s.updCar c f).chan z = s.chan z := (rfl)
@[simp] theorem updCar_exts (c : CarrierId) (f : CarSt → CarSt) (z : ChanId) : (s.updCar c f).exts z = s.exts z := (rfl)
@[simp] theorem updCar_slice (c : CarrierId) (f : CarSt → CarSt) (z : SliceId) : (s.updCar c f).slice z = s.slice z := (rfl)
@[simp] theorem updCar_quart (c : CarrierId) (f : CarSt → CarSt) (z : Quarter) : (s.updCar c f).quart z = s.quart z := (rfl)
@[simp] theorem updCar_core (c : CarrierId) (f : CarSt → CarSt) (z : CoreId) : (s.updCar c f).core z = s.core z := (rfl)
@[simp] theorem updCar_key (c : CarrierId) (f : CarSt → CarSt) (z : TenantId) : (s.updCar c f).key z = s.key z := (rfl)
@[simp] theorem updCar_counter (c : CarrierId) (f : CarSt → CarSt) (z : Fin 8) : (s.updCar c f).counter z = s.counter z := (rfl)

/-! ### updPair: pair alone -/

@[simp] theorem updPair_pending (f : PairSt → PairSt) : (s.updPair f).pending = s.pending := (rfl)
@[simp] theorem updPair_regs (f : PairSt → PairSt) : (s.updPair f).regs = s.regs := (rfl)
@[simp] theorem updPair_cnt64 (f : PairSt → PairSt) : (s.updPair f).cnt64 = s.cnt64 := (rfl)
@[simp] theorem updPair_snap (f : PairSt → PairSt) : (s.updPair f).snap = s.snap := (rfl)
@[simp] theorem updPair_snap64 (f : PairSt → PairSt) : (s.updPair f).snap64 = s.snap64 := (rfl)
@[simp] theorem updPair_latch (f : PairSt → PairSt) : (s.updPair f).latch = s.latch := (rfl)
@[simp] theorem updPair_i3c (f : PairSt → PairSt) : (s.updPair f).i3c = s.i3c := (rfl)
@[simp] theorem updPair_log (f : PairSt → PairSt) : (s.updPair f).log = s.log := (rfl)
@[simp] theorem updPair_plog (f : PairSt → PairSt) : (s.updPair f).plog = s.plog := (rfl)
@[simp] theorem updPair_time (f : PairSt → PairSt) : (s.updPair f).time = s.time := (rfl)
@[simp] theorem updPair_clk (f : PairSt → PairSt) : (s.updPair f).clk = s.clk := (rfl)
@[simp] theorem updPair_pwr (f : PairSt → PairSt) : (s.updPair f).pwr = s.pwr := (rfl)
@[simp] theorem updPair_blank (f : PairSt → PairSt) : (s.updPair f).blank = s.blank := (rfl)
@[simp] theorem updPair_su (f : PairSt → PairSt) : (s.updPair f).su = s.su := (rfl)
@[simp] theorem updPair_hw (f : PairSt → PairSt) : (s.updPair f).hw = s.hw := (rfl)
@[simp] theorem updPair_slices (f : PairSt → PairSt) : (s.updPair f).slices = s.slices := (rfl)
@[simp] theorem updPair_quarts (f : PairSt → PairSt) : (s.updPair f).quarts = s.quarts := (rfl)
@[simp] theorem updPair_pin (f : PairSt → PairSt) : (s.updPair f).pin = s.pin := (rfl)
@[simp] theorem updPair_lands (f : PairSt → PairSt) : (s.updPair f).lands = s.lands := (rfl)
@[simp] theorem updPair_links (f : PairSt → PairSt) : (s.updPair f).links = s.links := (rfl)
@[simp] theorem updPair_alive (f : PairSt → PairSt) : (s.updPair f).alive = s.alive := (rfl)
@[simp] theorem updPair_shp (f : PairSt → PairSt) : (s.updPair f).shp = s.shp := (rfl)
@[simp] theorem updPair_spn (f : PairSt → PairSt) : (s.updPair f).spn = s.spn := (rfl)
@[simp] theorem updPair_head (f : PairSt → PairSt) : (s.updPair f).head = s.head := (rfl)
@[simp] theorem updPair_coord (f : PairSt → PairSt) : (s.updPair f).coord = s.coord := (rfl)
@[simp] theorem updPair_job (f : PairSt → PairSt) : (s.updPair f).job = s.job := (rfl)
@[simp] theorem updPair_satt (f : PairSt → PairSt) : (s.updPair f).satt = s.satt := (rfl)
@[simp] theorem updPair_mbx (f : PairSt → PairSt) : (s.updPair f).mbx = s.mbx := (rfl)
@[simp] theorem updPair_obs (f : PairSt → PairSt) : (s.updPair f).obs = s.obs := (rfl)
@[simp] theorem updPair_mem (f : PairSt → PairSt) : (s.updPair f).mem = s.mem := (rfl)
@[simp] theorem updPair_poison (f : PairSt → PairSt) : (s.updPair f).poison = s.poison := (rfl)
@[simp] theorem updPair_upsets (f : PairSt → PairSt) : (s.updPair f).upsets = s.upsets := (rfl)
@[simp] theorem updPair_chans (f : PairSt → PairSt) : (s.updPair f).chans = s.chans := (rfl)
@[simp] theorem updPair_tags (f : PairSt → PairSt) : (s.updPair f).tags = s.tags := (rfl)
@[simp] theorem updPair_tagc (f : PairSt → PairSt) : (s.updPair f).tagc = s.tagc := (rfl)
@[simp] theorem updPair_pins (f : PairSt → PairSt) : (s.updPair f).pins = s.pins := (rfl)
@[simp] theorem updPair_tier (f : PairSt → PairSt) : (s.updPair f).tier = s.tier := (rfl)
@[simp] theorem updPair_pool (f : PairSt → PairSt) : (s.updPair f).pool = s.pool := (rfl)
@[simp] theorem updPair_rgn (f : PairSt → PairSt) : (s.updPair f).rgn = s.rgn := (rfl)
@[simp] theorem updPair_ctx (f : PairSt → PairSt) : (s.updPair f).ctx = s.ctx := (rfl)
@[simp] theorem updPair_work (f : PairSt → PairSt) : (s.updPair f).work = s.work := (rfl)
@[simp] theorem updPair_out (f : PairSt → PairSt) : (s.updPair f).out = s.out := (rfl)
@[simp] theorem updPair_free (f : PairSt → PairSt) : (s.updPair f).free = s.free := (rfl)
@[simp] theorem updPair_link (f : PairSt → PairSt) (z : LinkId) : (s.updPair f).link z = s.link z := (rfl)
@[simp] theorem updPair_chan (f : PairSt → PairSt) (z : ChanId) : (s.updPair f).chan z = s.chan z := (rfl)
@[simp] theorem updPair_exts (f : PairSt → PairSt) (z : ChanId) : (s.updPair f).exts z = s.exts z := (rfl)
@[simp] theorem updPair_car (f : PairSt → PairSt) (z : CarrierId) : (s.updPair f).car z = s.car z := (rfl)
@[simp] theorem updPair_slice (f : PairSt → PairSt) (z : SliceId) : (s.updPair f).slice z = s.slice z := (rfl)
@[simp] theorem updPair_quart (f : PairSt → PairSt) (z : Quarter) : (s.updPair f).quart z = s.quart z := (rfl)
@[simp] theorem updPair_core (f : PairSt → PairSt) (z : CoreId) : (s.updPair f).core z = s.core z := (rfl)
@[simp] theorem updPair_key (f : PairSt → PairSt) (z : TenantId) : (s.updPair f).key z = s.key z := (rfl)
@[simp] theorem updPair_counter (f : PairSt → PairSt) (z : Fin 8) : (s.updPair f).counter z = s.counter z := (rfl)

/-! ### updSlice: slices alone -/

@[simp] theorem updSlice_pending (i : Fin 16) (f : Slice → Slice) : (s.updSlice i f).pending = s.pending := (rfl)
@[simp] theorem updSlice_regs (i : Fin 16) (f : Slice → Slice) : (s.updSlice i f).regs = s.regs := (rfl)
@[simp] theorem updSlice_cnt64 (i : Fin 16) (f : Slice → Slice) : (s.updSlice i f).cnt64 = s.cnt64 := (rfl)
@[simp] theorem updSlice_snap (i : Fin 16) (f : Slice → Slice) : (s.updSlice i f).snap = s.snap := (rfl)
@[simp] theorem updSlice_snap64 (i : Fin 16) (f : Slice → Slice) : (s.updSlice i f).snap64 = s.snap64 := (rfl)
@[simp] theorem updSlice_latch (i : Fin 16) (f : Slice → Slice) : (s.updSlice i f).latch = s.latch := (rfl)
@[simp] theorem updSlice_i3c (i : Fin 16) (f : Slice → Slice) : (s.updSlice i f).i3c = s.i3c := (rfl)
@[simp] theorem updSlice_log (i : Fin 16) (f : Slice → Slice) : (s.updSlice i f).log = s.log := (rfl)
@[simp] theorem updSlice_plog (i : Fin 16) (f : Slice → Slice) : (s.updSlice i f).plog = s.plog := (rfl)
@[simp] theorem updSlice_time (i : Fin 16) (f : Slice → Slice) : (s.updSlice i f).time = s.time := (rfl)
@[simp] theorem updSlice_clk (i : Fin 16) (f : Slice → Slice) : (s.updSlice i f).clk = s.clk := (rfl)
@[simp] theorem updSlice_pwr (i : Fin 16) (f : Slice → Slice) : (s.updSlice i f).pwr = s.pwr := (rfl)
@[simp] theorem updSlice_blank (i : Fin 16) (f : Slice → Slice) : (s.updSlice i f).blank = s.blank := (rfl)
@[simp] theorem updSlice_su (i : Fin 16) (f : Slice → Slice) : (s.updSlice i f).su = s.su := (rfl)
@[simp] theorem updSlice_hw (i : Fin 16) (f : Slice → Slice) : (s.updSlice i f).hw = s.hw := (rfl)
@[simp] theorem updSlice_quarts (i : Fin 16) (f : Slice → Slice) : (s.updSlice i f).quarts = s.quarts := (rfl)
@[simp] theorem updSlice_pin (i : Fin 16) (f : Slice → Slice) : (s.updSlice i f).pin = s.pin := (rfl)
@[simp] theorem updSlice_lands (i : Fin 16) (f : Slice → Slice) : (s.updSlice i f).lands = s.lands := (rfl)
@[simp] theorem updSlice_links (i : Fin 16) (f : Slice → Slice) : (s.updSlice i f).links = s.links := (rfl)
@[simp] theorem updSlice_alive (i : Fin 16) (f : Slice → Slice) : (s.updSlice i f).alive = s.alive := (rfl)
@[simp] theorem updSlice_shp (i : Fin 16) (f : Slice → Slice) : (s.updSlice i f).shp = s.shp := (rfl)
@[simp] theorem updSlice_spn (i : Fin 16) (f : Slice → Slice) : (s.updSlice i f).spn = s.spn := (rfl)
@[simp] theorem updSlice_pair (i : Fin 16) (f : Slice → Slice) : (s.updSlice i f).pair = s.pair := (rfl)
@[simp] theorem updSlice_head (i : Fin 16) (f : Slice → Slice) : (s.updSlice i f).head = s.head := (rfl)
@[simp] theorem updSlice_coord (i : Fin 16) (f : Slice → Slice) : (s.updSlice i f).coord = s.coord := (rfl)
@[simp] theorem updSlice_job (i : Fin 16) (f : Slice → Slice) : (s.updSlice i f).job = s.job := (rfl)
@[simp] theorem updSlice_satt (i : Fin 16) (f : Slice → Slice) : (s.updSlice i f).satt = s.satt := (rfl)
@[simp] theorem updSlice_mbx (i : Fin 16) (f : Slice → Slice) : (s.updSlice i f).mbx = s.mbx := (rfl)
@[simp] theorem updSlice_obs (i : Fin 16) (f : Slice → Slice) : (s.updSlice i f).obs = s.obs := (rfl)
@[simp] theorem updSlice_mem (i : Fin 16) (f : Slice → Slice) : (s.updSlice i f).mem = s.mem := (rfl)
@[simp] theorem updSlice_poison (i : Fin 16) (f : Slice → Slice) : (s.updSlice i f).poison = s.poison := (rfl)
@[simp] theorem updSlice_upsets (i : Fin 16) (f : Slice → Slice) : (s.updSlice i f).upsets = s.upsets := (rfl)
@[simp] theorem updSlice_chans (i : Fin 16) (f : Slice → Slice) : (s.updSlice i f).chans = s.chans := (rfl)
@[simp] theorem updSlice_tags (i : Fin 16) (f : Slice → Slice) : (s.updSlice i f).tags = s.tags := (rfl)
@[simp] theorem updSlice_tagc (i : Fin 16) (f : Slice → Slice) : (s.updSlice i f).tagc = s.tagc := (rfl)
@[simp] theorem updSlice_pins (i : Fin 16) (f : Slice → Slice) : (s.updSlice i f).pins = s.pins := (rfl)
@[simp] theorem updSlice_tier (i : Fin 16) (f : Slice → Slice) : (s.updSlice i f).tier = s.tier := (rfl)
@[simp] theorem updSlice_pool (i : Fin 16) (f : Slice → Slice) : (s.updSlice i f).pool = s.pool := (rfl)
@[simp] theorem updSlice_rgn (i : Fin 16) (f : Slice → Slice) : (s.updSlice i f).rgn = s.rgn := (rfl)
@[simp] theorem updSlice_ctx (i : Fin 16) (f : Slice → Slice) : (s.updSlice i f).ctx = s.ctx := (rfl)
@[simp] theorem updSlice_work (i : Fin 16) (f : Slice → Slice) : (s.updSlice i f).work = s.work := (rfl)
@[simp] theorem updSlice_out (i : Fin 16) (f : Slice → Slice) : (s.updSlice i f).out = s.out := (rfl)
@[simp] theorem updSlice_free (i : Fin 16) (f : Slice → Slice) : (s.updSlice i f).free = s.free := (rfl)
@[simp] theorem updSlice_link (i : Fin 16) (f : Slice → Slice) (z : LinkId) : (s.updSlice i f).link z = s.link z := (rfl)
@[simp] theorem updSlice_chan (i : Fin 16) (f : Slice → Slice) (z : ChanId) : (s.updSlice i f).chan z = s.chan z := (rfl)
@[simp] theorem updSlice_exts (i : Fin 16) (f : Slice → Slice) (z : ChanId) : (s.updSlice i f).exts z = s.exts z := (rfl)
@[simp] theorem updSlice_car (i : Fin 16) (f : Slice → Slice) (z : CarrierId) : (s.updSlice i f).car z = s.car z := (rfl)
@[simp] theorem updSlice_quart (i : Fin 16) (f : Slice → Slice) (z : Quarter) : (s.updSlice i f).quart z = s.quart z := (rfl)
@[simp] theorem updSlice_core (i : Fin 16) (f : Slice → Slice) (z : CoreId) : (s.updSlice i f).core z = s.core z := (rfl)
@[simp] theorem updSlice_key (i : Fin 16) (f : Slice → Slice) (z : TenantId) : (s.updSlice i f).key z = s.key z := (rfl)
@[simp] theorem updSlice_counter (i : Fin 16) (f : Slice → Slice) (z : Fin 8) : (s.updSlice i f).counter z = s.counter z := (rfl)

/-! ### updCore: work alone -/

@[simp] theorem updCore_pending (k : CoreId) (f : CoreSt → CoreSt) : (s.updCore k f).pending = s.pending := (rfl)
@[simp] theorem updCore_regs (k : CoreId) (f : CoreSt → CoreSt) : (s.updCore k f).regs = s.regs := (rfl)
@[simp] theorem updCore_cnt64 (k : CoreId) (f : CoreSt → CoreSt) : (s.updCore k f).cnt64 = s.cnt64 := (rfl)
@[simp] theorem updCore_snap (k : CoreId) (f : CoreSt → CoreSt) : (s.updCore k f).snap = s.snap := (rfl)
@[simp] theorem updCore_snap64 (k : CoreId) (f : CoreSt → CoreSt) : (s.updCore k f).snap64 = s.snap64 := (rfl)
@[simp] theorem updCore_latch (k : CoreId) (f : CoreSt → CoreSt) : (s.updCore k f).latch = s.latch := (rfl)
@[simp] theorem updCore_i3c (k : CoreId) (f : CoreSt → CoreSt) : (s.updCore k f).i3c = s.i3c := (rfl)
@[simp] theorem updCore_log (k : CoreId) (f : CoreSt → CoreSt) : (s.updCore k f).log = s.log := (rfl)
@[simp] theorem updCore_plog (k : CoreId) (f : CoreSt → CoreSt) : (s.updCore k f).plog = s.plog := (rfl)
@[simp] theorem updCore_time (k : CoreId) (f : CoreSt → CoreSt) : (s.updCore k f).time = s.time := (rfl)
@[simp] theorem updCore_clk (k : CoreId) (f : CoreSt → CoreSt) : (s.updCore k f).clk = s.clk := (rfl)
@[simp] theorem updCore_pwr (k : CoreId) (f : CoreSt → CoreSt) : (s.updCore k f).pwr = s.pwr := (rfl)
@[simp] theorem updCore_blank (k : CoreId) (f : CoreSt → CoreSt) : (s.updCore k f).blank = s.blank := (rfl)
@[simp] theorem updCore_su (k : CoreId) (f : CoreSt → CoreSt) : (s.updCore k f).su = s.su := (rfl)
@[simp] theorem updCore_hw (k : CoreId) (f : CoreSt → CoreSt) : (s.updCore k f).hw = s.hw := (rfl)
@[simp] theorem updCore_slices (k : CoreId) (f : CoreSt → CoreSt) : (s.updCore k f).slices = s.slices := (rfl)
@[simp] theorem updCore_quarts (k : CoreId) (f : CoreSt → CoreSt) : (s.updCore k f).quarts = s.quarts := (rfl)
@[simp] theorem updCore_pin (k : CoreId) (f : CoreSt → CoreSt) : (s.updCore k f).pin = s.pin := (rfl)
@[simp] theorem updCore_lands (k : CoreId) (f : CoreSt → CoreSt) : (s.updCore k f).lands = s.lands := (rfl)
@[simp] theorem updCore_links (k : CoreId) (f : CoreSt → CoreSt) : (s.updCore k f).links = s.links := (rfl)
@[simp] theorem updCore_alive (k : CoreId) (f : CoreSt → CoreSt) : (s.updCore k f).alive = s.alive := (rfl)
@[simp] theorem updCore_shp (k : CoreId) (f : CoreSt → CoreSt) : (s.updCore k f).shp = s.shp := (rfl)
@[simp] theorem updCore_spn (k : CoreId) (f : CoreSt → CoreSt) : (s.updCore k f).spn = s.spn := (rfl)
@[simp] theorem updCore_pair (k : CoreId) (f : CoreSt → CoreSt) : (s.updCore k f).pair = s.pair := (rfl)
@[simp] theorem updCore_head (k : CoreId) (f : CoreSt → CoreSt) : (s.updCore k f).head = s.head := (rfl)
@[simp] theorem updCore_coord (k : CoreId) (f : CoreSt → CoreSt) : (s.updCore k f).coord = s.coord := (rfl)
@[simp] theorem updCore_job (k : CoreId) (f : CoreSt → CoreSt) : (s.updCore k f).job = s.job := (rfl)
@[simp] theorem updCore_satt (k : CoreId) (f : CoreSt → CoreSt) : (s.updCore k f).satt = s.satt := (rfl)
@[simp] theorem updCore_mbx (k : CoreId) (f : CoreSt → CoreSt) : (s.updCore k f).mbx = s.mbx := (rfl)
@[simp] theorem updCore_obs (k : CoreId) (f : CoreSt → CoreSt) : (s.updCore k f).obs = s.obs := (rfl)
@[simp] theorem updCore_mem (k : CoreId) (f : CoreSt → CoreSt) : (s.updCore k f).mem = s.mem := (rfl)
@[simp] theorem updCore_poison (k : CoreId) (f : CoreSt → CoreSt) : (s.updCore k f).poison = s.poison := (rfl)
@[simp] theorem updCore_upsets (k : CoreId) (f : CoreSt → CoreSt) : (s.updCore k f).upsets = s.upsets := (rfl)
@[simp] theorem updCore_chans (k : CoreId) (f : CoreSt → CoreSt) : (s.updCore k f).chans = s.chans := (rfl)
@[simp] theorem updCore_tags (k : CoreId) (f : CoreSt → CoreSt) : (s.updCore k f).tags = s.tags := (rfl)
@[simp] theorem updCore_tagc (k : CoreId) (f : CoreSt → CoreSt) : (s.updCore k f).tagc = s.tagc := (rfl)
@[simp] theorem updCore_pins (k : CoreId) (f : CoreSt → CoreSt) : (s.updCore k f).pins = s.pins := (rfl)
@[simp] theorem updCore_tier (k : CoreId) (f : CoreSt → CoreSt) : (s.updCore k f).tier = s.tier := (rfl)
@[simp] theorem updCore_pool (k : CoreId) (f : CoreSt → CoreSt) : (s.updCore k f).pool = s.pool := (rfl)
@[simp] theorem updCore_rgn (k : CoreId) (f : CoreSt → CoreSt) : (s.updCore k f).rgn = s.rgn := (rfl)
@[simp] theorem updCore_ctx (k : CoreId) (f : CoreSt → CoreSt) : (s.updCore k f).ctx = s.ctx := (rfl)
@[simp] theorem updCore_out (k : CoreId) (f : CoreSt → CoreSt) : (s.updCore k f).out = s.out := (rfl)
@[simp] theorem updCore_free (k : CoreId) (f : CoreSt → CoreSt) : (s.updCore k f).free = s.free := (rfl)
@[simp] theorem updCore_link (k : CoreId) (f : CoreSt → CoreSt) (z : LinkId) : (s.updCore k f).link z = s.link z := (rfl)
@[simp] theorem updCore_chan (k : CoreId) (f : CoreSt → CoreSt) (z : ChanId) : (s.updCore k f).chan z = s.chan z := (rfl)
@[simp] theorem updCore_exts (k : CoreId) (f : CoreSt → CoreSt) (z : ChanId) : (s.updCore k f).exts z = s.exts z := (rfl)
@[simp] theorem updCore_car (k : CoreId) (f : CoreSt → CoreSt) (z : CarrierId) : (s.updCore k f).car z = s.car z := (rfl)
@[simp] theorem updCore_slice (k : CoreId) (f : CoreSt → CoreSt) (z : SliceId) : (s.updCore k f).slice z = s.slice z := (rfl)
@[simp] theorem updCore_quart (k : CoreId) (f : CoreSt → CoreSt) (z : Quarter) : (s.updCore k f).quart z = s.quart z := (rfl)
@[simp] theorem updCore_key (k : CoreId) (f : CoreSt → CoreSt) (z : TenantId) : (s.updCore k f).key z = s.key z := (rfl)
@[simp] theorem updCore_counter (k : CoreId) (f : CoreSt → CoreSt) (z : Fin 8) : (s.updCore k f).counter z = s.counter z := (rfl)

/-! ### updDom: clk alone -/

@[simp] theorem updDom_pending (d : Fin 22) (f : DomSt → DomSt) : (s.updDom d f).pending = s.pending := (rfl)
@[simp] theorem updDom_regs (d : Fin 22) (f : DomSt → DomSt) : (s.updDom d f).regs = s.regs := (rfl)
@[simp] theorem updDom_cnt64 (d : Fin 22) (f : DomSt → DomSt) : (s.updDom d f).cnt64 = s.cnt64 := (rfl)
@[simp] theorem updDom_snap (d : Fin 22) (f : DomSt → DomSt) : (s.updDom d f).snap = s.snap := (rfl)
@[simp] theorem updDom_snap64 (d : Fin 22) (f : DomSt → DomSt) : (s.updDom d f).snap64 = s.snap64 := (rfl)
@[simp] theorem updDom_latch (d : Fin 22) (f : DomSt → DomSt) : (s.updDom d f).latch = s.latch := (rfl)
@[simp] theorem updDom_i3c (d : Fin 22) (f : DomSt → DomSt) : (s.updDom d f).i3c = s.i3c := (rfl)
@[simp] theorem updDom_log (d : Fin 22) (f : DomSt → DomSt) : (s.updDom d f).log = s.log := (rfl)
@[simp] theorem updDom_plog (d : Fin 22) (f : DomSt → DomSt) : (s.updDom d f).plog = s.plog := (rfl)
@[simp] theorem updDom_time (d : Fin 22) (f : DomSt → DomSt) : (s.updDom d f).time = s.time := (rfl)
@[simp] theorem updDom_pwr (d : Fin 22) (f : DomSt → DomSt) : (s.updDom d f).pwr = s.pwr := (rfl)
@[simp] theorem updDom_blank (d : Fin 22) (f : DomSt → DomSt) : (s.updDom d f).blank = s.blank := (rfl)
@[simp] theorem updDom_su (d : Fin 22) (f : DomSt → DomSt) : (s.updDom d f).su = s.su := (rfl)
@[simp] theorem updDom_hw (d : Fin 22) (f : DomSt → DomSt) : (s.updDom d f).hw = s.hw := (rfl)
@[simp] theorem updDom_slices (d : Fin 22) (f : DomSt → DomSt) : (s.updDom d f).slices = s.slices := (rfl)
@[simp] theorem updDom_quarts (d : Fin 22) (f : DomSt → DomSt) : (s.updDom d f).quarts = s.quarts := (rfl)
@[simp] theorem updDom_pin (d : Fin 22) (f : DomSt → DomSt) : (s.updDom d f).pin = s.pin := (rfl)
@[simp] theorem updDom_lands (d : Fin 22) (f : DomSt → DomSt) : (s.updDom d f).lands = s.lands := (rfl)
@[simp] theorem updDom_links (d : Fin 22) (f : DomSt → DomSt) : (s.updDom d f).links = s.links := (rfl)
@[simp] theorem updDom_alive (d : Fin 22) (f : DomSt → DomSt) : (s.updDom d f).alive = s.alive := (rfl)
@[simp] theorem updDom_shp (d : Fin 22) (f : DomSt → DomSt) : (s.updDom d f).shp = s.shp := (rfl)
@[simp] theorem updDom_spn (d : Fin 22) (f : DomSt → DomSt) : (s.updDom d f).spn = s.spn := (rfl)
@[simp] theorem updDom_pair (d : Fin 22) (f : DomSt → DomSt) : (s.updDom d f).pair = s.pair := (rfl)
@[simp] theorem updDom_head (d : Fin 22) (f : DomSt → DomSt) : (s.updDom d f).head = s.head := (rfl)
@[simp] theorem updDom_coord (d : Fin 22) (f : DomSt → DomSt) : (s.updDom d f).coord = s.coord := (rfl)
@[simp] theorem updDom_job (d : Fin 22) (f : DomSt → DomSt) : (s.updDom d f).job = s.job := (rfl)
@[simp] theorem updDom_satt (d : Fin 22) (f : DomSt → DomSt) : (s.updDom d f).satt = s.satt := (rfl)
@[simp] theorem updDom_mbx (d : Fin 22) (f : DomSt → DomSt) : (s.updDom d f).mbx = s.mbx := (rfl)
@[simp] theorem updDom_obs (d : Fin 22) (f : DomSt → DomSt) : (s.updDom d f).obs = s.obs := (rfl)
@[simp] theorem updDom_mem (d : Fin 22) (f : DomSt → DomSt) : (s.updDom d f).mem = s.mem := (rfl)
@[simp] theorem updDom_poison (d : Fin 22) (f : DomSt → DomSt) : (s.updDom d f).poison = s.poison := (rfl)
@[simp] theorem updDom_upsets (d : Fin 22) (f : DomSt → DomSt) : (s.updDom d f).upsets = s.upsets := (rfl)
@[simp] theorem updDom_chans (d : Fin 22) (f : DomSt → DomSt) : (s.updDom d f).chans = s.chans := (rfl)
@[simp] theorem updDom_tags (d : Fin 22) (f : DomSt → DomSt) : (s.updDom d f).tags = s.tags := (rfl)
@[simp] theorem updDom_tagc (d : Fin 22) (f : DomSt → DomSt) : (s.updDom d f).tagc = s.tagc := (rfl)
@[simp] theorem updDom_pins (d : Fin 22) (f : DomSt → DomSt) : (s.updDom d f).pins = s.pins := (rfl)
@[simp] theorem updDom_tier (d : Fin 22) (f : DomSt → DomSt) : (s.updDom d f).tier = s.tier := (rfl)
@[simp] theorem updDom_pool (d : Fin 22) (f : DomSt → DomSt) : (s.updDom d f).pool = s.pool := (rfl)
@[simp] theorem updDom_rgn (d : Fin 22) (f : DomSt → DomSt) : (s.updDom d f).rgn = s.rgn := (rfl)
@[simp] theorem updDom_ctx (d : Fin 22) (f : DomSt → DomSt) : (s.updDom d f).ctx = s.ctx := (rfl)
@[simp] theorem updDom_work (d : Fin 22) (f : DomSt → DomSt) : (s.updDom d f).work = s.work := (rfl)
@[simp] theorem updDom_out (d : Fin 22) (f : DomSt → DomSt) : (s.updDom d f).out = s.out := (rfl)
@[simp] theorem updDom_free (d : Fin 22) (f : DomSt → DomSt) : (s.updDom d f).free = s.free := (rfl)
@[simp] theorem updDom_link (d : Fin 22) (f : DomSt → DomSt) (z : LinkId) : (s.updDom d f).link z = s.link z := (rfl)
@[simp] theorem updDom_chan (d : Fin 22) (f : DomSt → DomSt) (z : ChanId) : (s.updDom d f).chan z = s.chan z := (rfl)
@[simp] theorem updDom_exts (d : Fin 22) (f : DomSt → DomSt) (z : ChanId) : (s.updDom d f).exts z = s.exts z := (rfl)
@[simp] theorem updDom_car (d : Fin 22) (f : DomSt → DomSt) (z : CarrierId) : (s.updDom d f).car z = s.car z := (rfl)
@[simp] theorem updDom_slice (d : Fin 22) (f : DomSt → DomSt) (z : SliceId) : (s.updDom d f).slice z = s.slice z := (rfl)
@[simp] theorem updDom_quart (d : Fin 22) (f : DomSt → DomSt) (z : Quarter) : (s.updDom d f).quart z = s.quart z := (rfl)
@[simp] theorem updDom_core (d : Fin 22) (f : DomSt → DomSt) (z : CoreId) : (s.updDom d f).core z = s.core z := (rfl)
@[simp] theorem updDom_key (d : Fin 22) (f : DomSt → DomSt) (z : TenantId) : (s.updDom d f).key z = s.key z := (rfl)
@[simp] theorem updDom_counter (d : Fin 22) (f : DomSt → DomSt) (z : Fin 8) : (s.updDom d f).counter z = s.counter z := (rfl)

/-! ### updTrk: pool alone -/

@[simp] theorem updTrk_pending (i : Nat) (f : Trk → Trk) : (s.updTrk i f).pending = s.pending := (rfl)
@[simp] theorem updTrk_regs (i : Nat) (f : Trk → Trk) : (s.updTrk i f).regs = s.regs := (rfl)
@[simp] theorem updTrk_cnt64 (i : Nat) (f : Trk → Trk) : (s.updTrk i f).cnt64 = s.cnt64 := (rfl)
@[simp] theorem updTrk_snap (i : Nat) (f : Trk → Trk) : (s.updTrk i f).snap = s.snap := (rfl)
@[simp] theorem updTrk_snap64 (i : Nat) (f : Trk → Trk) : (s.updTrk i f).snap64 = s.snap64 := (rfl)
@[simp] theorem updTrk_latch (i : Nat) (f : Trk → Trk) : (s.updTrk i f).latch = s.latch := (rfl)
@[simp] theorem updTrk_i3c (i : Nat) (f : Trk → Trk) : (s.updTrk i f).i3c = s.i3c := (rfl)
@[simp] theorem updTrk_log (i : Nat) (f : Trk → Trk) : (s.updTrk i f).log = s.log := (rfl)
@[simp] theorem updTrk_plog (i : Nat) (f : Trk → Trk) : (s.updTrk i f).plog = s.plog := (rfl)
@[simp] theorem updTrk_time (i : Nat) (f : Trk → Trk) : (s.updTrk i f).time = s.time := (rfl)
@[simp] theorem updTrk_clk (i : Nat) (f : Trk → Trk) : (s.updTrk i f).clk = s.clk := (rfl)
@[simp] theorem updTrk_pwr (i : Nat) (f : Trk → Trk) : (s.updTrk i f).pwr = s.pwr := (rfl)
@[simp] theorem updTrk_blank (i : Nat) (f : Trk → Trk) : (s.updTrk i f).blank = s.blank := (rfl)
@[simp] theorem updTrk_su (i : Nat) (f : Trk → Trk) : (s.updTrk i f).su = s.su := (rfl)
@[simp] theorem updTrk_hw (i : Nat) (f : Trk → Trk) : (s.updTrk i f).hw = s.hw := (rfl)
@[simp] theorem updTrk_slices (i : Nat) (f : Trk → Trk) : (s.updTrk i f).slices = s.slices := (rfl)
@[simp] theorem updTrk_quarts (i : Nat) (f : Trk → Trk) : (s.updTrk i f).quarts = s.quarts := (rfl)
@[simp] theorem updTrk_pin (i : Nat) (f : Trk → Trk) : (s.updTrk i f).pin = s.pin := (rfl)
@[simp] theorem updTrk_lands (i : Nat) (f : Trk → Trk) : (s.updTrk i f).lands = s.lands := (rfl)
@[simp] theorem updTrk_links (i : Nat) (f : Trk → Trk) : (s.updTrk i f).links = s.links := (rfl)
@[simp] theorem updTrk_alive (i : Nat) (f : Trk → Trk) : (s.updTrk i f).alive = s.alive := (rfl)
@[simp] theorem updTrk_shp (i : Nat) (f : Trk → Trk) : (s.updTrk i f).shp = s.shp := (rfl)
@[simp] theorem updTrk_spn (i : Nat) (f : Trk → Trk) : (s.updTrk i f).spn = s.spn := (rfl)
@[simp] theorem updTrk_pair (i : Nat) (f : Trk → Trk) : (s.updTrk i f).pair = s.pair := (rfl)
@[simp] theorem updTrk_head (i : Nat) (f : Trk → Trk) : (s.updTrk i f).head = s.head := (rfl)
@[simp] theorem updTrk_coord (i : Nat) (f : Trk → Trk) : (s.updTrk i f).coord = s.coord := (rfl)
@[simp] theorem updTrk_job (i : Nat) (f : Trk → Trk) : (s.updTrk i f).job = s.job := (rfl)
@[simp] theorem updTrk_satt (i : Nat) (f : Trk → Trk) : (s.updTrk i f).satt = s.satt := (rfl)
@[simp] theorem updTrk_mbx (i : Nat) (f : Trk → Trk) : (s.updTrk i f).mbx = s.mbx := (rfl)
@[simp] theorem updTrk_obs (i : Nat) (f : Trk → Trk) : (s.updTrk i f).obs = s.obs := (rfl)
@[simp] theorem updTrk_mem (i : Nat) (f : Trk → Trk) : (s.updTrk i f).mem = s.mem := (rfl)
@[simp] theorem updTrk_poison (i : Nat) (f : Trk → Trk) : (s.updTrk i f).poison = s.poison := (rfl)
@[simp] theorem updTrk_upsets (i : Nat) (f : Trk → Trk) : (s.updTrk i f).upsets = s.upsets := (rfl)
@[simp] theorem updTrk_chans (i : Nat) (f : Trk → Trk) : (s.updTrk i f).chans = s.chans := (rfl)
@[simp] theorem updTrk_tags (i : Nat) (f : Trk → Trk) : (s.updTrk i f).tags = s.tags := (rfl)
@[simp] theorem updTrk_tagc (i : Nat) (f : Trk → Trk) : (s.updTrk i f).tagc = s.tagc := (rfl)
@[simp] theorem updTrk_pins (i : Nat) (f : Trk → Trk) : (s.updTrk i f).pins = s.pins := (rfl)
@[simp] theorem updTrk_tier (i : Nat) (f : Trk → Trk) : (s.updTrk i f).tier = s.tier := (rfl)
@[simp] theorem updTrk_rgn (i : Nat) (f : Trk → Trk) : (s.updTrk i f).rgn = s.rgn := (rfl)
@[simp] theorem updTrk_ctx (i : Nat) (f : Trk → Trk) : (s.updTrk i f).ctx = s.ctx := (rfl)
@[simp] theorem updTrk_work (i : Nat) (f : Trk → Trk) : (s.updTrk i f).work = s.work := (rfl)
@[simp] theorem updTrk_out (i : Nat) (f : Trk → Trk) : (s.updTrk i f).out = s.out := (rfl)
@[simp] theorem updTrk_free (i : Nat) (f : Trk → Trk) : (s.updTrk i f).free = s.free := (rfl)
@[simp] theorem updTrk_link (i : Nat) (f : Trk → Trk) (z : LinkId) : (s.updTrk i f).link z = s.link z := (rfl)
@[simp] theorem updTrk_chan (i : Nat) (f : Trk → Trk) (z : ChanId) : (s.updTrk i f).chan z = s.chan z := (rfl)
@[simp] theorem updTrk_exts (i : Nat) (f : Trk → Trk) (z : ChanId) : (s.updTrk i f).exts z = s.exts z := (rfl)
@[simp] theorem updTrk_car (i : Nat) (f : Trk → Trk) (z : CarrierId) : (s.updTrk i f).car z = s.car z := (rfl)
@[simp] theorem updTrk_slice (i : Nat) (f : Trk → Trk) (z : SliceId) : (s.updTrk i f).slice z = s.slice z := (rfl)
@[simp] theorem updTrk_quart (i : Nat) (f : Trk → Trk) (z : Quarter) : (s.updTrk i f).quart z = s.quart z := (rfl)
@[simp] theorem updTrk_core (i : Nat) (f : Trk → Trk) (z : CoreId) : (s.updTrk i f).core z = s.core z := (rfl)
@[simp] theorem updTrk_key (i : Nat) (f : Trk → Trk) (z : TenantId) : (s.updTrk i f).key z = s.key z := (rfl)
@[simp] theorem updTrk_counter (i : Nat) (f : Trk → Trk) (z : Fin 8) : (s.updTrk i f).counter z = s.counter z := (rfl)

/-! ### waitTrk: pool alone -/

@[simp] theorem waitTrk_pending (i : Nat) (w : Wait) : (s.waitTrk i w).pending = s.pending := (rfl)
@[simp] theorem waitTrk_regs (i : Nat) (w : Wait) : (s.waitTrk i w).regs = s.regs := (rfl)
@[simp] theorem waitTrk_cnt64 (i : Nat) (w : Wait) : (s.waitTrk i w).cnt64 = s.cnt64 := (rfl)
@[simp] theorem waitTrk_snap (i : Nat) (w : Wait) : (s.waitTrk i w).snap = s.snap := (rfl)
@[simp] theorem waitTrk_snap64 (i : Nat) (w : Wait) : (s.waitTrk i w).snap64 = s.snap64 := (rfl)
@[simp] theorem waitTrk_latch (i : Nat) (w : Wait) : (s.waitTrk i w).latch = s.latch := (rfl)
@[simp] theorem waitTrk_i3c (i : Nat) (w : Wait) : (s.waitTrk i w).i3c = s.i3c := (rfl)
@[simp] theorem waitTrk_log (i : Nat) (w : Wait) : (s.waitTrk i w).log = s.log := (rfl)
@[simp] theorem waitTrk_plog (i : Nat) (w : Wait) : (s.waitTrk i w).plog = s.plog := (rfl)
@[simp] theorem waitTrk_time (i : Nat) (w : Wait) : (s.waitTrk i w).time = s.time := (rfl)
@[simp] theorem waitTrk_clk (i : Nat) (w : Wait) : (s.waitTrk i w).clk = s.clk := (rfl)
@[simp] theorem waitTrk_pwr (i : Nat) (w : Wait) : (s.waitTrk i w).pwr = s.pwr := (rfl)
@[simp] theorem waitTrk_blank (i : Nat) (w : Wait) : (s.waitTrk i w).blank = s.blank := (rfl)
@[simp] theorem waitTrk_su (i : Nat) (w : Wait) : (s.waitTrk i w).su = s.su := (rfl)
@[simp] theorem waitTrk_hw (i : Nat) (w : Wait) : (s.waitTrk i w).hw = s.hw := (rfl)
@[simp] theorem waitTrk_slices (i : Nat) (w : Wait) : (s.waitTrk i w).slices = s.slices := (rfl)
@[simp] theorem waitTrk_quarts (i : Nat) (w : Wait) : (s.waitTrk i w).quarts = s.quarts := (rfl)
@[simp] theorem waitTrk_pin (i : Nat) (w : Wait) : (s.waitTrk i w).pin = s.pin := (rfl)
@[simp] theorem waitTrk_lands (i : Nat) (w : Wait) : (s.waitTrk i w).lands = s.lands := (rfl)
@[simp] theorem waitTrk_links (i : Nat) (w : Wait) : (s.waitTrk i w).links = s.links := (rfl)
@[simp] theorem waitTrk_alive (i : Nat) (w : Wait) : (s.waitTrk i w).alive = s.alive := (rfl)
@[simp] theorem waitTrk_shp (i : Nat) (w : Wait) : (s.waitTrk i w).shp = s.shp := (rfl)
@[simp] theorem waitTrk_spn (i : Nat) (w : Wait) : (s.waitTrk i w).spn = s.spn := (rfl)
@[simp] theorem waitTrk_pair (i : Nat) (w : Wait) : (s.waitTrk i w).pair = s.pair := (rfl)
@[simp] theorem waitTrk_head (i : Nat) (w : Wait) : (s.waitTrk i w).head = s.head := (rfl)
@[simp] theorem waitTrk_coord (i : Nat) (w : Wait) : (s.waitTrk i w).coord = s.coord := (rfl)
@[simp] theorem waitTrk_job (i : Nat) (w : Wait) : (s.waitTrk i w).job = s.job := (rfl)
@[simp] theorem waitTrk_satt (i : Nat) (w : Wait) : (s.waitTrk i w).satt = s.satt := (rfl)
@[simp] theorem waitTrk_mbx (i : Nat) (w : Wait) : (s.waitTrk i w).mbx = s.mbx := (rfl)
@[simp] theorem waitTrk_obs (i : Nat) (w : Wait) : (s.waitTrk i w).obs = s.obs := (rfl)
@[simp] theorem waitTrk_mem (i : Nat) (w : Wait) : (s.waitTrk i w).mem = s.mem := (rfl)
@[simp] theorem waitTrk_poison (i : Nat) (w : Wait) : (s.waitTrk i w).poison = s.poison := (rfl)
@[simp] theorem waitTrk_upsets (i : Nat) (w : Wait) : (s.waitTrk i w).upsets = s.upsets := (rfl)
@[simp] theorem waitTrk_chans (i : Nat) (w : Wait) : (s.waitTrk i w).chans = s.chans := (rfl)
@[simp] theorem waitTrk_tags (i : Nat) (w : Wait) : (s.waitTrk i w).tags = s.tags := (rfl)
@[simp] theorem waitTrk_tagc (i : Nat) (w : Wait) : (s.waitTrk i w).tagc = s.tagc := (rfl)
@[simp] theorem waitTrk_pins (i : Nat) (w : Wait) : (s.waitTrk i w).pins = s.pins := (rfl)
@[simp] theorem waitTrk_tier (i : Nat) (w : Wait) : (s.waitTrk i w).tier = s.tier := (rfl)
@[simp] theorem waitTrk_rgn (i : Nat) (w : Wait) : (s.waitTrk i w).rgn = s.rgn := (rfl)
@[simp] theorem waitTrk_ctx (i : Nat) (w : Wait) : (s.waitTrk i w).ctx = s.ctx := (rfl)
@[simp] theorem waitTrk_work (i : Nat) (w : Wait) : (s.waitTrk i w).work = s.work := (rfl)
@[simp] theorem waitTrk_out (i : Nat) (w : Wait) : (s.waitTrk i w).out = s.out := (rfl)
@[simp] theorem waitTrk_free (i : Nat) (w : Wait) : (s.waitTrk i w).free = s.free := (rfl)
@[simp] theorem waitTrk_link (i : Nat) (w : Wait) (z : LinkId) : (s.waitTrk i w).link z = s.link z := (rfl)
@[simp] theorem waitTrk_chan (i : Nat) (w : Wait) (z : ChanId) : (s.waitTrk i w).chan z = s.chan z := (rfl)
@[simp] theorem waitTrk_exts (i : Nat) (w : Wait) (z : ChanId) : (s.waitTrk i w).exts z = s.exts z := (rfl)
@[simp] theorem waitTrk_car (i : Nat) (w : Wait) (z : CarrierId) : (s.waitTrk i w).car z = s.car z := (rfl)
@[simp] theorem waitTrk_slice (i : Nat) (w : Wait) (z : SliceId) : (s.waitTrk i w).slice z = s.slice z := (rfl)
@[simp] theorem waitTrk_quart (i : Nat) (w : Wait) (z : Quarter) : (s.waitTrk i w).quart z = s.quart z := (rfl)
@[simp] theorem waitTrk_core (i : Nat) (w : Wait) (z : CoreId) : (s.waitTrk i w).core z = s.core z := (rfl)
@[simp] theorem waitTrk_key (i : Nat) (w : Wait) (z : TenantId) : (s.waitTrk i w).key z = s.key z := (rfl)
@[simp] theorem waitTrk_counter (i : Nat) (w : Wait) (z : Fin 8) : (s.waitTrk i w).counter z = s.counter z := (rfl)

/-! ### wake: pool alone -/

@[simp] theorem wake_pending (w : Wait) (p : Trk → Bool) : (wake w p s).pending = s.pending := (rfl)
@[simp] theorem wake_regs (w : Wait) (p : Trk → Bool) : (wake w p s).regs = s.regs := (rfl)
@[simp] theorem wake_cnt64 (w : Wait) (p : Trk → Bool) : (wake w p s).cnt64 = s.cnt64 := (rfl)
@[simp] theorem wake_snap (w : Wait) (p : Trk → Bool) : (wake w p s).snap = s.snap := (rfl)
@[simp] theorem wake_snap64 (w : Wait) (p : Trk → Bool) : (wake w p s).snap64 = s.snap64 := (rfl)
@[simp] theorem wake_latch (w : Wait) (p : Trk → Bool) : (wake w p s).latch = s.latch := (rfl)
@[simp] theorem wake_i3c (w : Wait) (p : Trk → Bool) : (wake w p s).i3c = s.i3c := (rfl)
@[simp] theorem wake_log (w : Wait) (p : Trk → Bool) : (wake w p s).log = s.log := (rfl)
@[simp] theorem wake_plog (w : Wait) (p : Trk → Bool) : (wake w p s).plog = s.plog := (rfl)
@[simp] theorem wake_time (w : Wait) (p : Trk → Bool) : (wake w p s).time = s.time := (rfl)
@[simp] theorem wake_clk (w : Wait) (p : Trk → Bool) : (wake w p s).clk = s.clk := (rfl)
@[simp] theorem wake_pwr (w : Wait) (p : Trk → Bool) : (wake w p s).pwr = s.pwr := (rfl)
@[simp] theorem wake_blank (w : Wait) (p : Trk → Bool) : (wake w p s).blank = s.blank := (rfl)
@[simp] theorem wake_su (w : Wait) (p : Trk → Bool) : (wake w p s).su = s.su := (rfl)
@[simp] theorem wake_hw (w : Wait) (p : Trk → Bool) : (wake w p s).hw = s.hw := (rfl)
@[simp] theorem wake_slices (w : Wait) (p : Trk → Bool) : (wake w p s).slices = s.slices := (rfl)
@[simp] theorem wake_quarts (w : Wait) (p : Trk → Bool) : (wake w p s).quarts = s.quarts := (rfl)
@[simp] theorem wake_pin (w : Wait) (p : Trk → Bool) : (wake w p s).pin = s.pin := (rfl)
@[simp] theorem wake_lands (w : Wait) (p : Trk → Bool) : (wake w p s).lands = s.lands := (rfl)
@[simp] theorem wake_links (w : Wait) (p : Trk → Bool) : (wake w p s).links = s.links := (rfl)
@[simp] theorem wake_alive (w : Wait) (p : Trk → Bool) : (wake w p s).alive = s.alive := (rfl)
@[simp] theorem wake_shp (w : Wait) (p : Trk → Bool) : (wake w p s).shp = s.shp := (rfl)
@[simp] theorem wake_spn (w : Wait) (p : Trk → Bool) : (wake w p s).spn = s.spn := (rfl)
@[simp] theorem wake_pair (w : Wait) (p : Trk → Bool) : (wake w p s).pair = s.pair := (rfl)
@[simp] theorem wake_head (w : Wait) (p : Trk → Bool) : (wake w p s).head = s.head := (rfl)
@[simp] theorem wake_coord (w : Wait) (p : Trk → Bool) : (wake w p s).coord = s.coord := (rfl)
@[simp] theorem wake_job (w : Wait) (p : Trk → Bool) : (wake w p s).job = s.job := (rfl)
@[simp] theorem wake_satt (w : Wait) (p : Trk → Bool) : (wake w p s).satt = s.satt := (rfl)
@[simp] theorem wake_mbx (w : Wait) (p : Trk → Bool) : (wake w p s).mbx = s.mbx := (rfl)
@[simp] theorem wake_obs (w : Wait) (p : Trk → Bool) : (wake w p s).obs = s.obs := (rfl)
@[simp] theorem wake_mem (w : Wait) (p : Trk → Bool) : (wake w p s).mem = s.mem := (rfl)
@[simp] theorem wake_poison (w : Wait) (p : Trk → Bool) : (wake w p s).poison = s.poison := (rfl)
@[simp] theorem wake_upsets (w : Wait) (p : Trk → Bool) : (wake w p s).upsets = s.upsets := (rfl)
@[simp] theorem wake_chans (w : Wait) (p : Trk → Bool) : (wake w p s).chans = s.chans := (rfl)
@[simp] theorem wake_tags (w : Wait) (p : Trk → Bool) : (wake w p s).tags = s.tags := (rfl)
@[simp] theorem wake_tagc (w : Wait) (p : Trk → Bool) : (wake w p s).tagc = s.tagc := (rfl)
@[simp] theorem wake_pins (w : Wait) (p : Trk → Bool) : (wake w p s).pins = s.pins := (rfl)
@[simp] theorem wake_tier (w : Wait) (p : Trk → Bool) : (wake w p s).tier = s.tier := (rfl)
@[simp] theorem wake_rgn (w : Wait) (p : Trk → Bool) : (wake w p s).rgn = s.rgn := (rfl)
@[simp] theorem wake_ctx (w : Wait) (p : Trk → Bool) : (wake w p s).ctx = s.ctx := (rfl)
@[simp] theorem wake_work (w : Wait) (p : Trk → Bool) : (wake w p s).work = s.work := (rfl)
@[simp] theorem wake_out (w : Wait) (p : Trk → Bool) : (wake w p s).out = s.out := (rfl)
@[simp] theorem wake_free (w : Wait) (p : Trk → Bool) : (wake w p s).free = s.free := (rfl)
@[simp] theorem wake_link (w : Wait) (p : Trk → Bool) (z : LinkId) : (wake w p s).link z = s.link z := (rfl)
@[simp] theorem wake_chan (w : Wait) (p : Trk → Bool) (z : ChanId) : (wake w p s).chan z = s.chan z := (rfl)
@[simp] theorem wake_exts (w : Wait) (p : Trk → Bool) (z : ChanId) : (wake w p s).exts z = s.exts z := (rfl)
@[simp] theorem wake_car (w : Wait) (p : Trk → Bool) (z : CarrierId) : (wake w p s).car z = s.car z := (rfl)
@[simp] theorem wake_slice (w : Wait) (p : Trk → Bool) (z : SliceId) : (wake w p s).slice z = s.slice z := (rfl)
@[simp] theorem wake_quart (w : Wait) (p : Trk → Bool) (z : Quarter) : (wake w p s).quart z = s.quart z := (rfl)
@[simp] theorem wake_core (w : Wait) (p : Trk → Bool) (z : CoreId) : (wake w p s).core z = s.core z := (rfl)
@[simp] theorem wake_key (w : Wait) (p : Trk → Bool) (z : TenantId) : (wake w p s).key z = s.key z := (rfl)
@[simp] theorem wake_counter (w : Wait) (p : Trk → Bool) (z : Fin 8) : (wake w p s).counter z = s.counter z := (rfl)

/-! ### updDir: pool alone -/

@[simp] theorem updDir_pending (f : Sparse DirEnt → Sparse DirEnt) : (s.updDir f).pending = s.pending := (rfl)
@[simp] theorem updDir_regs (f : Sparse DirEnt → Sparse DirEnt) : (s.updDir f).regs = s.regs := (rfl)
@[simp] theorem updDir_cnt64 (f : Sparse DirEnt → Sparse DirEnt) : (s.updDir f).cnt64 = s.cnt64 := (rfl)
@[simp] theorem updDir_snap (f : Sparse DirEnt → Sparse DirEnt) : (s.updDir f).snap = s.snap := (rfl)
@[simp] theorem updDir_snap64 (f : Sparse DirEnt → Sparse DirEnt) : (s.updDir f).snap64 = s.snap64 := (rfl)
@[simp] theorem updDir_latch (f : Sparse DirEnt → Sparse DirEnt) : (s.updDir f).latch = s.latch := (rfl)
@[simp] theorem updDir_i3c (f : Sparse DirEnt → Sparse DirEnt) : (s.updDir f).i3c = s.i3c := (rfl)
@[simp] theorem updDir_log (f : Sparse DirEnt → Sparse DirEnt) : (s.updDir f).log = s.log := (rfl)
@[simp] theorem updDir_plog (f : Sparse DirEnt → Sparse DirEnt) : (s.updDir f).plog = s.plog := (rfl)
@[simp] theorem updDir_time (f : Sparse DirEnt → Sparse DirEnt) : (s.updDir f).time = s.time := (rfl)
@[simp] theorem updDir_clk (f : Sparse DirEnt → Sparse DirEnt) : (s.updDir f).clk = s.clk := (rfl)
@[simp] theorem updDir_pwr (f : Sparse DirEnt → Sparse DirEnt) : (s.updDir f).pwr = s.pwr := (rfl)
@[simp] theorem updDir_blank (f : Sparse DirEnt → Sparse DirEnt) : (s.updDir f).blank = s.blank := (rfl)
@[simp] theorem updDir_su (f : Sparse DirEnt → Sparse DirEnt) : (s.updDir f).su = s.su := (rfl)
@[simp] theorem updDir_hw (f : Sparse DirEnt → Sparse DirEnt) : (s.updDir f).hw = s.hw := (rfl)
@[simp] theorem updDir_slices (f : Sparse DirEnt → Sparse DirEnt) : (s.updDir f).slices = s.slices := (rfl)
@[simp] theorem updDir_quarts (f : Sparse DirEnt → Sparse DirEnt) : (s.updDir f).quarts = s.quarts := (rfl)
@[simp] theorem updDir_pin (f : Sparse DirEnt → Sparse DirEnt) : (s.updDir f).pin = s.pin := (rfl)
@[simp] theorem updDir_lands (f : Sparse DirEnt → Sparse DirEnt) : (s.updDir f).lands = s.lands := (rfl)
@[simp] theorem updDir_links (f : Sparse DirEnt → Sparse DirEnt) : (s.updDir f).links = s.links := (rfl)
@[simp] theorem updDir_alive (f : Sparse DirEnt → Sparse DirEnt) : (s.updDir f).alive = s.alive := (rfl)
@[simp] theorem updDir_shp (f : Sparse DirEnt → Sparse DirEnt) : (s.updDir f).shp = s.shp := (rfl)
@[simp] theorem updDir_spn (f : Sparse DirEnt → Sparse DirEnt) : (s.updDir f).spn = s.spn := (rfl)
@[simp] theorem updDir_pair (f : Sparse DirEnt → Sparse DirEnt) : (s.updDir f).pair = s.pair := (rfl)
@[simp] theorem updDir_head (f : Sparse DirEnt → Sparse DirEnt) : (s.updDir f).head = s.head := (rfl)
@[simp] theorem updDir_coord (f : Sparse DirEnt → Sparse DirEnt) : (s.updDir f).coord = s.coord := (rfl)
@[simp] theorem updDir_job (f : Sparse DirEnt → Sparse DirEnt) : (s.updDir f).job = s.job := (rfl)
@[simp] theorem updDir_satt (f : Sparse DirEnt → Sparse DirEnt) : (s.updDir f).satt = s.satt := (rfl)
@[simp] theorem updDir_mbx (f : Sparse DirEnt → Sparse DirEnt) : (s.updDir f).mbx = s.mbx := (rfl)
@[simp] theorem updDir_obs (f : Sparse DirEnt → Sparse DirEnt) : (s.updDir f).obs = s.obs := (rfl)
@[simp] theorem updDir_mem (f : Sparse DirEnt → Sparse DirEnt) : (s.updDir f).mem = s.mem := (rfl)
@[simp] theorem updDir_poison (f : Sparse DirEnt → Sparse DirEnt) : (s.updDir f).poison = s.poison := (rfl)
@[simp] theorem updDir_upsets (f : Sparse DirEnt → Sparse DirEnt) : (s.updDir f).upsets = s.upsets := (rfl)
@[simp] theorem updDir_chans (f : Sparse DirEnt → Sparse DirEnt) : (s.updDir f).chans = s.chans := (rfl)
@[simp] theorem updDir_tags (f : Sparse DirEnt → Sparse DirEnt) : (s.updDir f).tags = s.tags := (rfl)
@[simp] theorem updDir_tagc (f : Sparse DirEnt → Sparse DirEnt) : (s.updDir f).tagc = s.tagc := (rfl)
@[simp] theorem updDir_pins (f : Sparse DirEnt → Sparse DirEnt) : (s.updDir f).pins = s.pins := (rfl)
@[simp] theorem updDir_tier (f : Sparse DirEnt → Sparse DirEnt) : (s.updDir f).tier = s.tier := (rfl)
@[simp] theorem updDir_rgn (f : Sparse DirEnt → Sparse DirEnt) : (s.updDir f).rgn = s.rgn := (rfl)
@[simp] theorem updDir_ctx (f : Sparse DirEnt → Sparse DirEnt) : (s.updDir f).ctx = s.ctx := (rfl)
@[simp] theorem updDir_work (f : Sparse DirEnt → Sparse DirEnt) : (s.updDir f).work = s.work := (rfl)
@[simp] theorem updDir_out (f : Sparse DirEnt → Sparse DirEnt) : (s.updDir f).out = s.out := (rfl)
@[simp] theorem updDir_free (f : Sparse DirEnt → Sparse DirEnt) : (s.updDir f).free = s.free := (rfl)
@[simp] theorem updDir_link (f : Sparse DirEnt → Sparse DirEnt) (z : LinkId) : (s.updDir f).link z = s.link z := (rfl)
@[simp] theorem updDir_chan (f : Sparse DirEnt → Sparse DirEnt) (z : ChanId) : (s.updDir f).chan z = s.chan z := (rfl)
@[simp] theorem updDir_exts (f : Sparse DirEnt → Sparse DirEnt) (z : ChanId) : (s.updDir f).exts z = s.exts z := (rfl)
@[simp] theorem updDir_car (f : Sparse DirEnt → Sparse DirEnt) (z : CarrierId) : (s.updDir f).car z = s.car z := (rfl)
@[simp] theorem updDir_slice (f : Sparse DirEnt → Sparse DirEnt) (z : SliceId) : (s.updDir f).slice z = s.slice z := (rfl)
@[simp] theorem updDir_quart (f : Sparse DirEnt → Sparse DirEnt) (z : Quarter) : (s.updDir f).quart z = s.quart z := (rfl)
@[simp] theorem updDir_core (f : Sparse DirEnt → Sparse DirEnt) (z : CoreId) : (s.updDir f).core z = s.core z := (rfl)
@[simp] theorem updDir_key (f : Sparse DirEnt → Sparse DirEnt) (z : TenantId) : (s.updDir f).key z = s.key z := (rfl)
@[simp] theorem updDir_counter (f : Sparse DirEnt → Sparse DirEnt) (z : Fin 8) : (s.updDir f).counter z = s.counter z := (rfl)

/-! ### setSlot: pool alone -/

@[simp] theorem setSlot_pending (t : TenantId) (n x : Nat) : (s.setSlot t n x).pending = s.pending := (rfl)
@[simp] theorem setSlot_regs (t : TenantId) (n x : Nat) : (s.setSlot t n x).regs = s.regs := (rfl)
@[simp] theorem setSlot_cnt64 (t : TenantId) (n x : Nat) : (s.setSlot t n x).cnt64 = s.cnt64 := (rfl)
@[simp] theorem setSlot_snap (t : TenantId) (n x : Nat) : (s.setSlot t n x).snap = s.snap := (rfl)
@[simp] theorem setSlot_snap64 (t : TenantId) (n x : Nat) : (s.setSlot t n x).snap64 = s.snap64 := (rfl)
@[simp] theorem setSlot_latch (t : TenantId) (n x : Nat) : (s.setSlot t n x).latch = s.latch := (rfl)
@[simp] theorem setSlot_i3c (t : TenantId) (n x : Nat) : (s.setSlot t n x).i3c = s.i3c := (rfl)
@[simp] theorem setSlot_log (t : TenantId) (n x : Nat) : (s.setSlot t n x).log = s.log := (rfl)
@[simp] theorem setSlot_plog (t : TenantId) (n x : Nat) : (s.setSlot t n x).plog = s.plog := (rfl)
@[simp] theorem setSlot_time (t : TenantId) (n x : Nat) : (s.setSlot t n x).time = s.time := (rfl)
@[simp] theorem setSlot_clk (t : TenantId) (n x : Nat) : (s.setSlot t n x).clk = s.clk := (rfl)
@[simp] theorem setSlot_pwr (t : TenantId) (n x : Nat) : (s.setSlot t n x).pwr = s.pwr := (rfl)
@[simp] theorem setSlot_blank (t : TenantId) (n x : Nat) : (s.setSlot t n x).blank = s.blank := (rfl)
@[simp] theorem setSlot_su (t : TenantId) (n x : Nat) : (s.setSlot t n x).su = s.su := (rfl)
@[simp] theorem setSlot_hw (t : TenantId) (n x : Nat) : (s.setSlot t n x).hw = s.hw := (rfl)
@[simp] theorem setSlot_slices (t : TenantId) (n x : Nat) : (s.setSlot t n x).slices = s.slices := (rfl)
@[simp] theorem setSlot_quarts (t : TenantId) (n x : Nat) : (s.setSlot t n x).quarts = s.quarts := (rfl)
@[simp] theorem setSlot_pin (t : TenantId) (n x : Nat) : (s.setSlot t n x).pin = s.pin := (rfl)
@[simp] theorem setSlot_lands (t : TenantId) (n x : Nat) : (s.setSlot t n x).lands = s.lands := (rfl)
@[simp] theorem setSlot_links (t : TenantId) (n x : Nat) : (s.setSlot t n x).links = s.links := (rfl)
@[simp] theorem setSlot_alive (t : TenantId) (n x : Nat) : (s.setSlot t n x).alive = s.alive := (rfl)
@[simp] theorem setSlot_shp (t : TenantId) (n x : Nat) : (s.setSlot t n x).shp = s.shp := (rfl)
@[simp] theorem setSlot_spn (t : TenantId) (n x : Nat) : (s.setSlot t n x).spn = s.spn := (rfl)
@[simp] theorem setSlot_pair (t : TenantId) (n x : Nat) : (s.setSlot t n x).pair = s.pair := (rfl)
@[simp] theorem setSlot_head (t : TenantId) (n x : Nat) : (s.setSlot t n x).head = s.head := (rfl)
@[simp] theorem setSlot_coord (t : TenantId) (n x : Nat) : (s.setSlot t n x).coord = s.coord := (rfl)
@[simp] theorem setSlot_job (t : TenantId) (n x : Nat) : (s.setSlot t n x).job = s.job := (rfl)
@[simp] theorem setSlot_satt (t : TenantId) (n x : Nat) : (s.setSlot t n x).satt = s.satt := (rfl)
@[simp] theorem setSlot_mbx (t : TenantId) (n x : Nat) : (s.setSlot t n x).mbx = s.mbx := (rfl)
@[simp] theorem setSlot_obs (t : TenantId) (n x : Nat) : (s.setSlot t n x).obs = s.obs := (rfl)
@[simp] theorem setSlot_mem (t : TenantId) (n x : Nat) : (s.setSlot t n x).mem = s.mem := (rfl)
@[simp] theorem setSlot_poison (t : TenantId) (n x : Nat) : (s.setSlot t n x).poison = s.poison := (rfl)
@[simp] theorem setSlot_upsets (t : TenantId) (n x : Nat) : (s.setSlot t n x).upsets = s.upsets := (rfl)
@[simp] theorem setSlot_chans (t : TenantId) (n x : Nat) : (s.setSlot t n x).chans = s.chans := (rfl)
@[simp] theorem setSlot_tags (t : TenantId) (n x : Nat) : (s.setSlot t n x).tags = s.tags := (rfl)
@[simp] theorem setSlot_tagc (t : TenantId) (n x : Nat) : (s.setSlot t n x).tagc = s.tagc := (rfl)
@[simp] theorem setSlot_pins (t : TenantId) (n x : Nat) : (s.setSlot t n x).pins = s.pins := (rfl)
@[simp] theorem setSlot_tier (t : TenantId) (n x : Nat) : (s.setSlot t n x).tier = s.tier := (rfl)
@[simp] theorem setSlot_rgn (t : TenantId) (n x : Nat) : (s.setSlot t n x).rgn = s.rgn := (rfl)
@[simp] theorem setSlot_ctx (t : TenantId) (n x : Nat) : (s.setSlot t n x).ctx = s.ctx := (rfl)
@[simp] theorem setSlot_work (t : TenantId) (n x : Nat) : (s.setSlot t n x).work = s.work := (rfl)
@[simp] theorem setSlot_out (t : TenantId) (n x : Nat) : (s.setSlot t n x).out = s.out := (rfl)
@[simp] theorem setSlot_free (t : TenantId) (n x : Nat) : (s.setSlot t n x).free = s.free := (rfl)
@[simp] theorem setSlot_link (t : TenantId) (n x : Nat) (z : LinkId) : (s.setSlot t n x).link z = s.link z := (rfl)
@[simp] theorem setSlot_chan (t : TenantId) (n x : Nat) (z : ChanId) : (s.setSlot t n x).chan z = s.chan z := (rfl)
@[simp] theorem setSlot_exts (t : TenantId) (n x : Nat) (z : ChanId) : (s.setSlot t n x).exts z = s.exts z := (rfl)
@[simp] theorem setSlot_car (t : TenantId) (n x : Nat) (z : CarrierId) : (s.setSlot t n x).car z = s.car z := (rfl)
@[simp] theorem setSlot_slice (t : TenantId) (n x : Nat) (z : SliceId) : (s.setSlot t n x).slice z = s.slice z := (rfl)
@[simp] theorem setSlot_quart (t : TenantId) (n x : Nat) (z : Quarter) : (s.setSlot t n x).quart z = s.quart z := (rfl)
@[simp] theorem setSlot_core (t : TenantId) (n x : Nat) (z : CoreId) : (s.setSlot t n x).core z = s.core z := (rfl)
@[simp] theorem setSlot_key (t : TenantId) (n x : Nat) (z : TenantId) : (s.setSlot t n x).key z = s.key z := (rfl)
@[simp] theorem setSlot_counter (t : TenantId) (n x : Nat) (z : Fin 8) : (s.setSlot t n x).counter z = s.counter z := (rfl)

/-! ### setRegion: rgn alone -/

@[simp] theorem setRegion_pending (n : Nat) (g : Region) : (s.setRegion n g).pending = s.pending := (rfl)
@[simp] theorem setRegion_regs (n : Nat) (g : Region) : (s.setRegion n g).regs = s.regs := (rfl)
@[simp] theorem setRegion_cnt64 (n : Nat) (g : Region) : (s.setRegion n g).cnt64 = s.cnt64 := (rfl)
@[simp] theorem setRegion_snap (n : Nat) (g : Region) : (s.setRegion n g).snap = s.snap := (rfl)
@[simp] theorem setRegion_snap64 (n : Nat) (g : Region) : (s.setRegion n g).snap64 = s.snap64 := (rfl)
@[simp] theorem setRegion_latch (n : Nat) (g : Region) : (s.setRegion n g).latch = s.latch := (rfl)
@[simp] theorem setRegion_i3c (n : Nat) (g : Region) : (s.setRegion n g).i3c = s.i3c := (rfl)
@[simp] theorem setRegion_log (n : Nat) (g : Region) : (s.setRegion n g).log = s.log := (rfl)
@[simp] theorem setRegion_plog (n : Nat) (g : Region) : (s.setRegion n g).plog = s.plog := (rfl)
@[simp] theorem setRegion_time (n : Nat) (g : Region) : (s.setRegion n g).time = s.time := (rfl)
@[simp] theorem setRegion_clk (n : Nat) (g : Region) : (s.setRegion n g).clk = s.clk := (rfl)
@[simp] theorem setRegion_pwr (n : Nat) (g : Region) : (s.setRegion n g).pwr = s.pwr := (rfl)
@[simp] theorem setRegion_blank (n : Nat) (g : Region) : (s.setRegion n g).blank = s.blank := (rfl)
@[simp] theorem setRegion_su (n : Nat) (g : Region) : (s.setRegion n g).su = s.su := (rfl)
@[simp] theorem setRegion_hw (n : Nat) (g : Region) : (s.setRegion n g).hw = s.hw := (rfl)
@[simp] theorem setRegion_slices (n : Nat) (g : Region) : (s.setRegion n g).slices = s.slices := (rfl)
@[simp] theorem setRegion_quarts (n : Nat) (g : Region) : (s.setRegion n g).quarts = s.quarts := (rfl)
@[simp] theorem setRegion_pin (n : Nat) (g : Region) : (s.setRegion n g).pin = s.pin := (rfl)
@[simp] theorem setRegion_lands (n : Nat) (g : Region) : (s.setRegion n g).lands = s.lands := (rfl)
@[simp] theorem setRegion_links (n : Nat) (g : Region) : (s.setRegion n g).links = s.links := (rfl)
@[simp] theorem setRegion_alive (n : Nat) (g : Region) : (s.setRegion n g).alive = s.alive := (rfl)
@[simp] theorem setRegion_shp (n : Nat) (g : Region) : (s.setRegion n g).shp = s.shp := (rfl)
@[simp] theorem setRegion_spn (n : Nat) (g : Region) : (s.setRegion n g).spn = s.spn := (rfl)
@[simp] theorem setRegion_pair (n : Nat) (g : Region) : (s.setRegion n g).pair = s.pair := (rfl)
@[simp] theorem setRegion_head (n : Nat) (g : Region) : (s.setRegion n g).head = s.head := (rfl)
@[simp] theorem setRegion_coord (n : Nat) (g : Region) : (s.setRegion n g).coord = s.coord := (rfl)
@[simp] theorem setRegion_job (n : Nat) (g : Region) : (s.setRegion n g).job = s.job := (rfl)
@[simp] theorem setRegion_satt (n : Nat) (g : Region) : (s.setRegion n g).satt = s.satt := (rfl)
@[simp] theorem setRegion_mbx (n : Nat) (g : Region) : (s.setRegion n g).mbx = s.mbx := (rfl)
@[simp] theorem setRegion_obs (n : Nat) (g : Region) : (s.setRegion n g).obs = s.obs := (rfl)
@[simp] theorem setRegion_mem (n : Nat) (g : Region) : (s.setRegion n g).mem = s.mem := (rfl)
@[simp] theorem setRegion_poison (n : Nat) (g : Region) : (s.setRegion n g).poison = s.poison := (rfl)
@[simp] theorem setRegion_upsets (n : Nat) (g : Region) : (s.setRegion n g).upsets = s.upsets := (rfl)
@[simp] theorem setRegion_chans (n : Nat) (g : Region) : (s.setRegion n g).chans = s.chans := (rfl)
@[simp] theorem setRegion_tags (n : Nat) (g : Region) : (s.setRegion n g).tags = s.tags := (rfl)
@[simp] theorem setRegion_tagc (n : Nat) (g : Region) : (s.setRegion n g).tagc = s.tagc := (rfl)
@[simp] theorem setRegion_pins (n : Nat) (g : Region) : (s.setRegion n g).pins = s.pins := (rfl)
@[simp] theorem setRegion_tier (n : Nat) (g : Region) : (s.setRegion n g).tier = s.tier := (rfl)
@[simp] theorem setRegion_pool (n : Nat) (g : Region) : (s.setRegion n g).pool = s.pool := (rfl)
@[simp] theorem setRegion_ctx (n : Nat) (g : Region) : (s.setRegion n g).ctx = s.ctx := (rfl)
@[simp] theorem setRegion_work (n : Nat) (g : Region) : (s.setRegion n g).work = s.work := (rfl)
@[simp] theorem setRegion_out (n : Nat) (g : Region) : (s.setRegion n g).out = s.out := (rfl)
@[simp] theorem setRegion_free (n : Nat) (g : Region) : (s.setRegion n g).free = s.free := (rfl)
@[simp] theorem setRegion_link (n : Nat) (g : Region) (z : LinkId) : (s.setRegion n g).link z = s.link z := (rfl)
@[simp] theorem setRegion_chan (n : Nat) (g : Region) (z : ChanId) : (s.setRegion n g).chan z = s.chan z := (rfl)
@[simp] theorem setRegion_exts (n : Nat) (g : Region) (z : ChanId) : (s.setRegion n g).exts z = s.exts z := (rfl)
@[simp] theorem setRegion_car (n : Nat) (g : Region) (z : CarrierId) : (s.setRegion n g).car z = s.car z := (rfl)
@[simp] theorem setRegion_slice (n : Nat) (g : Region) (z : SliceId) : (s.setRegion n g).slice z = s.slice z := (rfl)
@[simp] theorem setRegion_quart (n : Nat) (g : Region) (z : Quarter) : (s.setRegion n g).quart z = s.quart z := (rfl)
@[simp] theorem setRegion_core (n : Nat) (g : Region) (z : CoreId) : (s.setRegion n g).core z = s.core z := (rfl)
@[simp] theorem setRegion_key (n : Nat) (g : Region) (z : TenantId) : (s.setRegion n g).key z = s.key z := (rfl)
@[simp] theorem setRegion_counter (n : Nat) (g : Region) (z : Fin 8) : (s.setRegion n g).counter z = s.counter z := (rfl)

/-! ### setCtx: ctx alone -/

@[simp] theorem setCtx_pending (i : Nat) (c : Ctx) : (s.setCtx i c).pending = s.pending := (rfl)
@[simp] theorem setCtx_regs (i : Nat) (c : Ctx) : (s.setCtx i c).regs = s.regs := (rfl)
@[simp] theorem setCtx_cnt64 (i : Nat) (c : Ctx) : (s.setCtx i c).cnt64 = s.cnt64 := (rfl)
@[simp] theorem setCtx_snap (i : Nat) (c : Ctx) : (s.setCtx i c).snap = s.snap := (rfl)
@[simp] theorem setCtx_snap64 (i : Nat) (c : Ctx) : (s.setCtx i c).snap64 = s.snap64 := (rfl)
@[simp] theorem setCtx_latch (i : Nat) (c : Ctx) : (s.setCtx i c).latch = s.latch := (rfl)
@[simp] theorem setCtx_i3c (i : Nat) (c : Ctx) : (s.setCtx i c).i3c = s.i3c := (rfl)
@[simp] theorem setCtx_log (i : Nat) (c : Ctx) : (s.setCtx i c).log = s.log := (rfl)
@[simp] theorem setCtx_plog (i : Nat) (c : Ctx) : (s.setCtx i c).plog = s.plog := (rfl)
@[simp] theorem setCtx_time (i : Nat) (c : Ctx) : (s.setCtx i c).time = s.time := (rfl)
@[simp] theorem setCtx_clk (i : Nat) (c : Ctx) : (s.setCtx i c).clk = s.clk := (rfl)
@[simp] theorem setCtx_pwr (i : Nat) (c : Ctx) : (s.setCtx i c).pwr = s.pwr := (rfl)
@[simp] theorem setCtx_blank (i : Nat) (c : Ctx) : (s.setCtx i c).blank = s.blank := (rfl)
@[simp] theorem setCtx_su (i : Nat) (c : Ctx) : (s.setCtx i c).su = s.su := (rfl)
@[simp] theorem setCtx_hw (i : Nat) (c : Ctx) : (s.setCtx i c).hw = s.hw := (rfl)
@[simp] theorem setCtx_slices (i : Nat) (c : Ctx) : (s.setCtx i c).slices = s.slices := (rfl)
@[simp] theorem setCtx_quarts (i : Nat) (c : Ctx) : (s.setCtx i c).quarts = s.quarts := (rfl)
@[simp] theorem setCtx_pin (i : Nat) (c : Ctx) : (s.setCtx i c).pin = s.pin := (rfl)
@[simp] theorem setCtx_lands (i : Nat) (c : Ctx) : (s.setCtx i c).lands = s.lands := (rfl)
@[simp] theorem setCtx_links (i : Nat) (c : Ctx) : (s.setCtx i c).links = s.links := (rfl)
@[simp] theorem setCtx_alive (i : Nat) (c : Ctx) : (s.setCtx i c).alive = s.alive := (rfl)
@[simp] theorem setCtx_shp (i : Nat) (c : Ctx) : (s.setCtx i c).shp = s.shp := (rfl)
@[simp] theorem setCtx_spn (i : Nat) (c : Ctx) : (s.setCtx i c).spn = s.spn := (rfl)
@[simp] theorem setCtx_pair (i : Nat) (c : Ctx) : (s.setCtx i c).pair = s.pair := (rfl)
@[simp] theorem setCtx_head (i : Nat) (c : Ctx) : (s.setCtx i c).head = s.head := (rfl)
@[simp] theorem setCtx_coord (i : Nat) (c : Ctx) : (s.setCtx i c).coord = s.coord := (rfl)
@[simp] theorem setCtx_job (i : Nat) (c : Ctx) : (s.setCtx i c).job = s.job := (rfl)
@[simp] theorem setCtx_satt (i : Nat) (c : Ctx) : (s.setCtx i c).satt = s.satt := (rfl)
@[simp] theorem setCtx_mbx (i : Nat) (c : Ctx) : (s.setCtx i c).mbx = s.mbx := (rfl)
@[simp] theorem setCtx_obs (i : Nat) (c : Ctx) : (s.setCtx i c).obs = s.obs := (rfl)
@[simp] theorem setCtx_mem (i : Nat) (c : Ctx) : (s.setCtx i c).mem = s.mem := (rfl)
@[simp] theorem setCtx_poison (i : Nat) (c : Ctx) : (s.setCtx i c).poison = s.poison := (rfl)
@[simp] theorem setCtx_upsets (i : Nat) (c : Ctx) : (s.setCtx i c).upsets = s.upsets := (rfl)
@[simp] theorem setCtx_chans (i : Nat) (c : Ctx) : (s.setCtx i c).chans = s.chans := (rfl)
@[simp] theorem setCtx_tags (i : Nat) (c : Ctx) : (s.setCtx i c).tags = s.tags := (rfl)
@[simp] theorem setCtx_tagc (i : Nat) (c : Ctx) : (s.setCtx i c).tagc = s.tagc := (rfl)
@[simp] theorem setCtx_pins (i : Nat) (c : Ctx) : (s.setCtx i c).pins = s.pins := (rfl)
@[simp] theorem setCtx_tier (i : Nat) (c : Ctx) : (s.setCtx i c).tier = s.tier := (rfl)
@[simp] theorem setCtx_pool (i : Nat) (c : Ctx) : (s.setCtx i c).pool = s.pool := (rfl)
@[simp] theorem setCtx_rgn (i : Nat) (c : Ctx) : (s.setCtx i c).rgn = s.rgn := (rfl)
@[simp] theorem setCtx_work (i : Nat) (c : Ctx) : (s.setCtx i c).work = s.work := (rfl)
@[simp] theorem setCtx_out (i : Nat) (c : Ctx) : (s.setCtx i c).out = s.out := (rfl)
@[simp] theorem setCtx_free (i : Nat) (c : Ctx) : (s.setCtx i c).free = s.free := (rfl)
@[simp] theorem setCtx_link (i : Nat) (c : Ctx) (z : LinkId) : (s.setCtx i c).link z = s.link z := (rfl)
@[simp] theorem setCtx_chan (i : Nat) (c : Ctx) (z : ChanId) : (s.setCtx i c).chan z = s.chan z := (rfl)
@[simp] theorem setCtx_exts (i : Nat) (c : Ctx) (z : ChanId) : (s.setCtx i c).exts z = s.exts z := (rfl)
@[simp] theorem setCtx_car (i : Nat) (c : Ctx) (z : CarrierId) : (s.setCtx i c).car z = s.car z := (rfl)
@[simp] theorem setCtx_slice (i : Nat) (c : Ctx) (z : SliceId) : (s.setCtx i c).slice z = s.slice z := (rfl)
@[simp] theorem setCtx_quart (i : Nat) (c : Ctx) (z : Quarter) : (s.setCtx i c).quart z = s.quart z := (rfl)
@[simp] theorem setCtx_core (i : Nat) (c : Ctx) (z : CoreId) : (s.setCtx i c).core z = s.core z := (rfl)
@[simp] theorem setCtx_key (i : Nat) (c : Ctx) (z : TenantId) : (s.setCtx i c).key z = s.key z := (rfl)
@[simp] theorem setCtx_counter (i : Nat) (c : Ctx) (z : Fin 8) : (s.setCtx i c).counter z = s.counter z := (rfl)

/-! ### setQueue: work alone -/

@[simp] theorem setQueue_pending (k : Nat) (q : Queue) : (s.setQueue k q).pending = s.pending := (rfl)
@[simp] theorem setQueue_regs (k : Nat) (q : Queue) : (s.setQueue k q).regs = s.regs := (rfl)
@[simp] theorem setQueue_cnt64 (k : Nat) (q : Queue) : (s.setQueue k q).cnt64 = s.cnt64 := (rfl)
@[simp] theorem setQueue_snap (k : Nat) (q : Queue) : (s.setQueue k q).snap = s.snap := (rfl)
@[simp] theorem setQueue_snap64 (k : Nat) (q : Queue) : (s.setQueue k q).snap64 = s.snap64 := (rfl)
@[simp] theorem setQueue_latch (k : Nat) (q : Queue) : (s.setQueue k q).latch = s.latch := (rfl)
@[simp] theorem setQueue_i3c (k : Nat) (q : Queue) : (s.setQueue k q).i3c = s.i3c := (rfl)
@[simp] theorem setQueue_log (k : Nat) (q : Queue) : (s.setQueue k q).log = s.log := (rfl)
@[simp] theorem setQueue_plog (k : Nat) (q : Queue) : (s.setQueue k q).plog = s.plog := (rfl)
@[simp] theorem setQueue_time (k : Nat) (q : Queue) : (s.setQueue k q).time = s.time := (rfl)
@[simp] theorem setQueue_clk (k : Nat) (q : Queue) : (s.setQueue k q).clk = s.clk := (rfl)
@[simp] theorem setQueue_pwr (k : Nat) (q : Queue) : (s.setQueue k q).pwr = s.pwr := (rfl)
@[simp] theorem setQueue_blank (k : Nat) (q : Queue) : (s.setQueue k q).blank = s.blank := (rfl)
@[simp] theorem setQueue_su (k : Nat) (q : Queue) : (s.setQueue k q).su = s.su := (rfl)
@[simp] theorem setQueue_hw (k : Nat) (q : Queue) : (s.setQueue k q).hw = s.hw := (rfl)
@[simp] theorem setQueue_slices (k : Nat) (q : Queue) : (s.setQueue k q).slices = s.slices := (rfl)
@[simp] theorem setQueue_quarts (k : Nat) (q : Queue) : (s.setQueue k q).quarts = s.quarts := (rfl)
@[simp] theorem setQueue_pin (k : Nat) (q : Queue) : (s.setQueue k q).pin = s.pin := (rfl)
@[simp] theorem setQueue_lands (k : Nat) (q : Queue) : (s.setQueue k q).lands = s.lands := (rfl)
@[simp] theorem setQueue_links (k : Nat) (q : Queue) : (s.setQueue k q).links = s.links := (rfl)
@[simp] theorem setQueue_alive (k : Nat) (q : Queue) : (s.setQueue k q).alive = s.alive := (rfl)
@[simp] theorem setQueue_shp (k : Nat) (q : Queue) : (s.setQueue k q).shp = s.shp := (rfl)
@[simp] theorem setQueue_spn (k : Nat) (q : Queue) : (s.setQueue k q).spn = s.spn := (rfl)
@[simp] theorem setQueue_pair (k : Nat) (q : Queue) : (s.setQueue k q).pair = s.pair := (rfl)
@[simp] theorem setQueue_head (k : Nat) (q : Queue) : (s.setQueue k q).head = s.head := (rfl)
@[simp] theorem setQueue_coord (k : Nat) (q : Queue) : (s.setQueue k q).coord = s.coord := (rfl)
@[simp] theorem setQueue_job (k : Nat) (q : Queue) : (s.setQueue k q).job = s.job := (rfl)
@[simp] theorem setQueue_satt (k : Nat) (q : Queue) : (s.setQueue k q).satt = s.satt := (rfl)
@[simp] theorem setQueue_mbx (k : Nat) (q : Queue) : (s.setQueue k q).mbx = s.mbx := (rfl)
@[simp] theorem setQueue_obs (k : Nat) (q : Queue) : (s.setQueue k q).obs = s.obs := (rfl)
@[simp] theorem setQueue_mem (k : Nat) (q : Queue) : (s.setQueue k q).mem = s.mem := (rfl)
@[simp] theorem setQueue_poison (k : Nat) (q : Queue) : (s.setQueue k q).poison = s.poison := (rfl)
@[simp] theorem setQueue_upsets (k : Nat) (q : Queue) : (s.setQueue k q).upsets = s.upsets := (rfl)
@[simp] theorem setQueue_chans (k : Nat) (q : Queue) : (s.setQueue k q).chans = s.chans := (rfl)
@[simp] theorem setQueue_tags (k : Nat) (q : Queue) : (s.setQueue k q).tags = s.tags := (rfl)
@[simp] theorem setQueue_tagc (k : Nat) (q : Queue) : (s.setQueue k q).tagc = s.tagc := (rfl)
@[simp] theorem setQueue_pins (k : Nat) (q : Queue) : (s.setQueue k q).pins = s.pins := (rfl)
@[simp] theorem setQueue_tier (k : Nat) (q : Queue) : (s.setQueue k q).tier = s.tier := (rfl)
@[simp] theorem setQueue_pool (k : Nat) (q : Queue) : (s.setQueue k q).pool = s.pool := (rfl)
@[simp] theorem setQueue_rgn (k : Nat) (q : Queue) : (s.setQueue k q).rgn = s.rgn := (rfl)
@[simp] theorem setQueue_ctx (k : Nat) (q : Queue) : (s.setQueue k q).ctx = s.ctx := (rfl)
@[simp] theorem setQueue_out (k : Nat) (q : Queue) : (s.setQueue k q).out = s.out := (rfl)
@[simp] theorem setQueue_free (k : Nat) (q : Queue) : (s.setQueue k q).free = s.free := (rfl)
@[simp] theorem setQueue_link (k : Nat) (q : Queue) (z : LinkId) : (s.setQueue k q).link z = s.link z := (rfl)
@[simp] theorem setQueue_chan (k : Nat) (q : Queue) (z : ChanId) : (s.setQueue k q).chan z = s.chan z := (rfl)
@[simp] theorem setQueue_exts (k : Nat) (q : Queue) (z : ChanId) : (s.setQueue k q).exts z = s.exts z := (rfl)
@[simp] theorem setQueue_car (k : Nat) (q : Queue) (z : CarrierId) : (s.setQueue k q).car z = s.car z := (rfl)
@[simp] theorem setQueue_slice (k : Nat) (q : Queue) (z : SliceId) : (s.setQueue k q).slice z = s.slice z := (rfl)
@[simp] theorem setQueue_quart (k : Nat) (q : Queue) (z : Quarter) : (s.setQueue k q).quart z = s.quart z := (rfl)
@[simp] theorem setQueue_key (k : Nat) (q : Queue) (z : TenantId) : (s.setQueue k q).key z = s.key z := (rfl)
@[simp] theorem setQueue_counter (k : Nat) (q : Queue) (z : Fin 8) : (s.setQueue k q).counter z = s.counter z := (rfl)

/-! ### updTask: work alone -/

@[simp] theorem updTask_pending (n : Nat) (f : Task → Task) : (s.updTask n f).pending = s.pending := (rfl)
@[simp] theorem updTask_regs (n : Nat) (f : Task → Task) : (s.updTask n f).regs = s.regs := (rfl)
@[simp] theorem updTask_cnt64 (n : Nat) (f : Task → Task) : (s.updTask n f).cnt64 = s.cnt64 := (rfl)
@[simp] theorem updTask_snap (n : Nat) (f : Task → Task) : (s.updTask n f).snap = s.snap := (rfl)
@[simp] theorem updTask_snap64 (n : Nat) (f : Task → Task) : (s.updTask n f).snap64 = s.snap64 := (rfl)
@[simp] theorem updTask_latch (n : Nat) (f : Task → Task) : (s.updTask n f).latch = s.latch := (rfl)
@[simp] theorem updTask_i3c (n : Nat) (f : Task → Task) : (s.updTask n f).i3c = s.i3c := (rfl)
@[simp] theorem updTask_log (n : Nat) (f : Task → Task) : (s.updTask n f).log = s.log := (rfl)
@[simp] theorem updTask_plog (n : Nat) (f : Task → Task) : (s.updTask n f).plog = s.plog := (rfl)
@[simp] theorem updTask_time (n : Nat) (f : Task → Task) : (s.updTask n f).time = s.time := (rfl)
@[simp] theorem updTask_clk (n : Nat) (f : Task → Task) : (s.updTask n f).clk = s.clk := (rfl)
@[simp] theorem updTask_pwr (n : Nat) (f : Task → Task) : (s.updTask n f).pwr = s.pwr := (rfl)
@[simp] theorem updTask_blank (n : Nat) (f : Task → Task) : (s.updTask n f).blank = s.blank := (rfl)
@[simp] theorem updTask_su (n : Nat) (f : Task → Task) : (s.updTask n f).su = s.su := (rfl)
@[simp] theorem updTask_hw (n : Nat) (f : Task → Task) : (s.updTask n f).hw = s.hw := (rfl)
@[simp] theorem updTask_slices (n : Nat) (f : Task → Task) : (s.updTask n f).slices = s.slices := (rfl)
@[simp] theorem updTask_quarts (n : Nat) (f : Task → Task) : (s.updTask n f).quarts = s.quarts := (rfl)
@[simp] theorem updTask_pin (n : Nat) (f : Task → Task) : (s.updTask n f).pin = s.pin := (rfl)
@[simp] theorem updTask_lands (n : Nat) (f : Task → Task) : (s.updTask n f).lands = s.lands := (rfl)
@[simp] theorem updTask_links (n : Nat) (f : Task → Task) : (s.updTask n f).links = s.links := (rfl)
@[simp] theorem updTask_alive (n : Nat) (f : Task → Task) : (s.updTask n f).alive = s.alive := (rfl)
@[simp] theorem updTask_shp (n : Nat) (f : Task → Task) : (s.updTask n f).shp = s.shp := (rfl)
@[simp] theorem updTask_spn (n : Nat) (f : Task → Task) : (s.updTask n f).spn = s.spn := (rfl)
@[simp] theorem updTask_pair (n : Nat) (f : Task → Task) : (s.updTask n f).pair = s.pair := (rfl)
@[simp] theorem updTask_head (n : Nat) (f : Task → Task) : (s.updTask n f).head = s.head := (rfl)
@[simp] theorem updTask_coord (n : Nat) (f : Task → Task) : (s.updTask n f).coord = s.coord := (rfl)
@[simp] theorem updTask_job (n : Nat) (f : Task → Task) : (s.updTask n f).job = s.job := (rfl)
@[simp] theorem updTask_satt (n : Nat) (f : Task → Task) : (s.updTask n f).satt = s.satt := (rfl)
@[simp] theorem updTask_mbx (n : Nat) (f : Task → Task) : (s.updTask n f).mbx = s.mbx := (rfl)
@[simp] theorem updTask_obs (n : Nat) (f : Task → Task) : (s.updTask n f).obs = s.obs := (rfl)
@[simp] theorem updTask_mem (n : Nat) (f : Task → Task) : (s.updTask n f).mem = s.mem := (rfl)
@[simp] theorem updTask_poison (n : Nat) (f : Task → Task) : (s.updTask n f).poison = s.poison := (rfl)
@[simp] theorem updTask_upsets (n : Nat) (f : Task → Task) : (s.updTask n f).upsets = s.upsets := (rfl)
@[simp] theorem updTask_chans (n : Nat) (f : Task → Task) : (s.updTask n f).chans = s.chans := (rfl)
@[simp] theorem updTask_tags (n : Nat) (f : Task → Task) : (s.updTask n f).tags = s.tags := (rfl)
@[simp] theorem updTask_tagc (n : Nat) (f : Task → Task) : (s.updTask n f).tagc = s.tagc := (rfl)
@[simp] theorem updTask_pins (n : Nat) (f : Task → Task) : (s.updTask n f).pins = s.pins := (rfl)
@[simp] theorem updTask_tier (n : Nat) (f : Task → Task) : (s.updTask n f).tier = s.tier := (rfl)
@[simp] theorem updTask_pool (n : Nat) (f : Task → Task) : (s.updTask n f).pool = s.pool := (rfl)
@[simp] theorem updTask_rgn (n : Nat) (f : Task → Task) : (s.updTask n f).rgn = s.rgn := (rfl)
@[simp] theorem updTask_ctx (n : Nat) (f : Task → Task) : (s.updTask n f).ctx = s.ctx := (rfl)
@[simp] theorem updTask_out (n : Nat) (f : Task → Task) : (s.updTask n f).out = s.out := (rfl)
@[simp] theorem updTask_free (n : Nat) (f : Task → Task) : (s.updTask n f).free = s.free := (rfl)
@[simp] theorem updTask_link (n : Nat) (f : Task → Task) (z : LinkId) : (s.updTask n f).link z = s.link z := (rfl)
@[simp] theorem updTask_chan (n : Nat) (f : Task → Task) (z : ChanId) : (s.updTask n f).chan z = s.chan z := (rfl)
@[simp] theorem updTask_exts (n : Nat) (f : Task → Task) (z : ChanId) : (s.updTask n f).exts z = s.exts z := (rfl)
@[simp] theorem updTask_car (n : Nat) (f : Task → Task) (z : CarrierId) : (s.updTask n f).car z = s.car z := (rfl)
@[simp] theorem updTask_slice (n : Nat) (f : Task → Task) (z : SliceId) : (s.updTask n f).slice z = s.slice z := (rfl)
@[simp] theorem updTask_quart (n : Nat) (f : Task → Task) (z : Quarter) : (s.updTask n f).quart z = s.quart z := (rfl)
@[simp] theorem updTask_key (n : Nat) (f : Task → Task) (z : TenantId) : (s.updTask n f).key z = s.key z := (rfl)
@[simp] theorem updTask_counter (n : Nat) (f : Task → Task) (z : Fin 8) : (s.updTask n f).counter z = s.counter z := (rfl)

/-! ### updAcc: work alone -/

@[simp] theorem updAcc_pending (n : Nat) (f : Acc → Acc) : (s.updAcc n f).pending = s.pending := (rfl)
@[simp] theorem updAcc_regs (n : Nat) (f : Acc → Acc) : (s.updAcc n f).regs = s.regs := (rfl)
@[simp] theorem updAcc_cnt64 (n : Nat) (f : Acc → Acc) : (s.updAcc n f).cnt64 = s.cnt64 := (rfl)
@[simp] theorem updAcc_snap (n : Nat) (f : Acc → Acc) : (s.updAcc n f).snap = s.snap := (rfl)
@[simp] theorem updAcc_snap64 (n : Nat) (f : Acc → Acc) : (s.updAcc n f).snap64 = s.snap64 := (rfl)
@[simp] theorem updAcc_latch (n : Nat) (f : Acc → Acc) : (s.updAcc n f).latch = s.latch := (rfl)
@[simp] theorem updAcc_i3c (n : Nat) (f : Acc → Acc) : (s.updAcc n f).i3c = s.i3c := (rfl)
@[simp] theorem updAcc_log (n : Nat) (f : Acc → Acc) : (s.updAcc n f).log = s.log := (rfl)
@[simp] theorem updAcc_plog (n : Nat) (f : Acc → Acc) : (s.updAcc n f).plog = s.plog := (rfl)
@[simp] theorem updAcc_time (n : Nat) (f : Acc → Acc) : (s.updAcc n f).time = s.time := (rfl)
@[simp] theorem updAcc_clk (n : Nat) (f : Acc → Acc) : (s.updAcc n f).clk = s.clk := (rfl)
@[simp] theorem updAcc_pwr (n : Nat) (f : Acc → Acc) : (s.updAcc n f).pwr = s.pwr := (rfl)
@[simp] theorem updAcc_blank (n : Nat) (f : Acc → Acc) : (s.updAcc n f).blank = s.blank := (rfl)
@[simp] theorem updAcc_su (n : Nat) (f : Acc → Acc) : (s.updAcc n f).su = s.su := (rfl)
@[simp] theorem updAcc_hw (n : Nat) (f : Acc → Acc) : (s.updAcc n f).hw = s.hw := (rfl)
@[simp] theorem updAcc_slices (n : Nat) (f : Acc → Acc) : (s.updAcc n f).slices = s.slices := (rfl)
@[simp] theorem updAcc_quarts (n : Nat) (f : Acc → Acc) : (s.updAcc n f).quarts = s.quarts := (rfl)
@[simp] theorem updAcc_pin (n : Nat) (f : Acc → Acc) : (s.updAcc n f).pin = s.pin := (rfl)
@[simp] theorem updAcc_lands (n : Nat) (f : Acc → Acc) : (s.updAcc n f).lands = s.lands := (rfl)
@[simp] theorem updAcc_links (n : Nat) (f : Acc → Acc) : (s.updAcc n f).links = s.links := (rfl)
@[simp] theorem updAcc_alive (n : Nat) (f : Acc → Acc) : (s.updAcc n f).alive = s.alive := (rfl)
@[simp] theorem updAcc_shp (n : Nat) (f : Acc → Acc) : (s.updAcc n f).shp = s.shp := (rfl)
@[simp] theorem updAcc_spn (n : Nat) (f : Acc → Acc) : (s.updAcc n f).spn = s.spn := (rfl)
@[simp] theorem updAcc_pair (n : Nat) (f : Acc → Acc) : (s.updAcc n f).pair = s.pair := (rfl)
@[simp] theorem updAcc_head (n : Nat) (f : Acc → Acc) : (s.updAcc n f).head = s.head := (rfl)
@[simp] theorem updAcc_coord (n : Nat) (f : Acc → Acc) : (s.updAcc n f).coord = s.coord := (rfl)
@[simp] theorem updAcc_job (n : Nat) (f : Acc → Acc) : (s.updAcc n f).job = s.job := (rfl)
@[simp] theorem updAcc_satt (n : Nat) (f : Acc → Acc) : (s.updAcc n f).satt = s.satt := (rfl)
@[simp] theorem updAcc_mbx (n : Nat) (f : Acc → Acc) : (s.updAcc n f).mbx = s.mbx := (rfl)
@[simp] theorem updAcc_obs (n : Nat) (f : Acc → Acc) : (s.updAcc n f).obs = s.obs := (rfl)
@[simp] theorem updAcc_mem (n : Nat) (f : Acc → Acc) : (s.updAcc n f).mem = s.mem := (rfl)
@[simp] theorem updAcc_poison (n : Nat) (f : Acc → Acc) : (s.updAcc n f).poison = s.poison := (rfl)
@[simp] theorem updAcc_upsets (n : Nat) (f : Acc → Acc) : (s.updAcc n f).upsets = s.upsets := (rfl)
@[simp] theorem updAcc_chans (n : Nat) (f : Acc → Acc) : (s.updAcc n f).chans = s.chans := (rfl)
@[simp] theorem updAcc_tags (n : Nat) (f : Acc → Acc) : (s.updAcc n f).tags = s.tags := (rfl)
@[simp] theorem updAcc_tagc (n : Nat) (f : Acc → Acc) : (s.updAcc n f).tagc = s.tagc := (rfl)
@[simp] theorem updAcc_pins (n : Nat) (f : Acc → Acc) : (s.updAcc n f).pins = s.pins := (rfl)
@[simp] theorem updAcc_tier (n : Nat) (f : Acc → Acc) : (s.updAcc n f).tier = s.tier := (rfl)
@[simp] theorem updAcc_pool (n : Nat) (f : Acc → Acc) : (s.updAcc n f).pool = s.pool := (rfl)
@[simp] theorem updAcc_rgn (n : Nat) (f : Acc → Acc) : (s.updAcc n f).rgn = s.rgn := (rfl)
@[simp] theorem updAcc_ctx (n : Nat) (f : Acc → Acc) : (s.updAcc n f).ctx = s.ctx := (rfl)
@[simp] theorem updAcc_out (n : Nat) (f : Acc → Acc) : (s.updAcc n f).out = s.out := (rfl)
@[simp] theorem updAcc_free (n : Nat) (f : Acc → Acc) : (s.updAcc n f).free = s.free := (rfl)
@[simp] theorem updAcc_link (n : Nat) (f : Acc → Acc) (z : LinkId) : (s.updAcc n f).link z = s.link z := (rfl)
@[simp] theorem updAcc_chan (n : Nat) (f : Acc → Acc) (z : ChanId) : (s.updAcc n f).chan z = s.chan z := (rfl)
@[simp] theorem updAcc_exts (n : Nat) (f : Acc → Acc) (z : ChanId) : (s.updAcc n f).exts z = s.exts z := (rfl)
@[simp] theorem updAcc_car (n : Nat) (f : Acc → Acc) (z : CarrierId) : (s.updAcc n f).car z = s.car z := (rfl)
@[simp] theorem updAcc_slice (n : Nat) (f : Acc → Acc) (z : SliceId) : (s.updAcc n f).slice z = s.slice z := (rfl)
@[simp] theorem updAcc_quart (n : Nat) (f : Acc → Acc) (z : Quarter) : (s.updAcc n f).quart z = s.quart z := (rfl)
@[simp] theorem updAcc_key (n : Nat) (f : Acc → Acc) (z : TenantId) : (s.updAcc n f).key z = s.key z := (rfl)
@[simp] theorem updAcc_counter (n : Nat) (f : Acc → Acc) (z : Fin 8) : (s.updAcc n f).counter z = s.counter z := (rfl)

/-! ### setReport: work alone -/

@[simp] theorem setReport_pending (r : Option Report) : (s.setReport r).pending = s.pending := (rfl)
@[simp] theorem setReport_regs (r : Option Report) : (s.setReport r).regs = s.regs := (rfl)
@[simp] theorem setReport_cnt64 (r : Option Report) : (s.setReport r).cnt64 = s.cnt64 := (rfl)
@[simp] theorem setReport_snap (r : Option Report) : (s.setReport r).snap = s.snap := (rfl)
@[simp] theorem setReport_snap64 (r : Option Report) : (s.setReport r).snap64 = s.snap64 := (rfl)
@[simp] theorem setReport_latch (r : Option Report) : (s.setReport r).latch = s.latch := (rfl)
@[simp] theorem setReport_i3c (r : Option Report) : (s.setReport r).i3c = s.i3c := (rfl)
@[simp] theorem setReport_log (r : Option Report) : (s.setReport r).log = s.log := (rfl)
@[simp] theorem setReport_plog (r : Option Report) : (s.setReport r).plog = s.plog := (rfl)
@[simp] theorem setReport_time (r : Option Report) : (s.setReport r).time = s.time := (rfl)
@[simp] theorem setReport_clk (r : Option Report) : (s.setReport r).clk = s.clk := (rfl)
@[simp] theorem setReport_pwr (r : Option Report) : (s.setReport r).pwr = s.pwr := (rfl)
@[simp] theorem setReport_blank (r : Option Report) : (s.setReport r).blank = s.blank := (rfl)
@[simp] theorem setReport_su (r : Option Report) : (s.setReport r).su = s.su := (rfl)
@[simp] theorem setReport_hw (r : Option Report) : (s.setReport r).hw = s.hw := (rfl)
@[simp] theorem setReport_slices (r : Option Report) : (s.setReport r).slices = s.slices := (rfl)
@[simp] theorem setReport_quarts (r : Option Report) : (s.setReport r).quarts = s.quarts := (rfl)
@[simp] theorem setReport_pin (r : Option Report) : (s.setReport r).pin = s.pin := (rfl)
@[simp] theorem setReport_lands (r : Option Report) : (s.setReport r).lands = s.lands := (rfl)
@[simp] theorem setReport_links (r : Option Report) : (s.setReport r).links = s.links := (rfl)
@[simp] theorem setReport_alive (r : Option Report) : (s.setReport r).alive = s.alive := (rfl)
@[simp] theorem setReport_shp (r : Option Report) : (s.setReport r).shp = s.shp := (rfl)
@[simp] theorem setReport_spn (r : Option Report) : (s.setReport r).spn = s.spn := (rfl)
@[simp] theorem setReport_pair (r : Option Report) : (s.setReport r).pair = s.pair := (rfl)
@[simp] theorem setReport_head (r : Option Report) : (s.setReport r).head = s.head := (rfl)
@[simp] theorem setReport_coord (r : Option Report) : (s.setReport r).coord = s.coord := (rfl)
@[simp] theorem setReport_job (r : Option Report) : (s.setReport r).job = s.job := (rfl)
@[simp] theorem setReport_satt (r : Option Report) : (s.setReport r).satt = s.satt := (rfl)
@[simp] theorem setReport_mbx (r : Option Report) : (s.setReport r).mbx = s.mbx := (rfl)
@[simp] theorem setReport_obs (r : Option Report) : (s.setReport r).obs = s.obs := (rfl)
@[simp] theorem setReport_mem (r : Option Report) : (s.setReport r).mem = s.mem := (rfl)
@[simp] theorem setReport_poison (r : Option Report) : (s.setReport r).poison = s.poison := (rfl)
@[simp] theorem setReport_upsets (r : Option Report) : (s.setReport r).upsets = s.upsets := (rfl)
@[simp] theorem setReport_chans (r : Option Report) : (s.setReport r).chans = s.chans := (rfl)
@[simp] theorem setReport_tags (r : Option Report) : (s.setReport r).tags = s.tags := (rfl)
@[simp] theorem setReport_tagc (r : Option Report) : (s.setReport r).tagc = s.tagc := (rfl)
@[simp] theorem setReport_pins (r : Option Report) : (s.setReport r).pins = s.pins := (rfl)
@[simp] theorem setReport_tier (r : Option Report) : (s.setReport r).tier = s.tier := (rfl)
@[simp] theorem setReport_pool (r : Option Report) : (s.setReport r).pool = s.pool := (rfl)
@[simp] theorem setReport_rgn (r : Option Report) : (s.setReport r).rgn = s.rgn := (rfl)
@[simp] theorem setReport_ctx (r : Option Report) : (s.setReport r).ctx = s.ctx := (rfl)
@[simp] theorem setReport_out (r : Option Report) : (s.setReport r).out = s.out := (rfl)
@[simp] theorem setReport_free (r : Option Report) : (s.setReport r).free = s.free := (rfl)
@[simp] theorem setReport_link (r : Option Report) (z : LinkId) : (s.setReport r).link z = s.link z := (rfl)
@[simp] theorem setReport_chan (r : Option Report) (z : ChanId) : (s.setReport r).chan z = s.chan z := (rfl)
@[simp] theorem setReport_exts (r : Option Report) (z : ChanId) : (s.setReport r).exts z = s.exts z := (rfl)
@[simp] theorem setReport_car (r : Option Report) (z : CarrierId) : (s.setReport r).car z = s.car z := (rfl)
@[simp] theorem setReport_slice (r : Option Report) (z : SliceId) : (s.setReport r).slice z = s.slice z := (rfl)
@[simp] theorem setReport_quart (r : Option Report) (z : Quarter) : (s.setReport r).quart z = s.quart z := (rfl)
@[simp] theorem setReport_key (r : Option Report) (z : TenantId) : (s.setReport r).key z = s.key z := (rfl)
@[simp] theorem setReport_counter (r : Option Report) (z : Fin 8) : (s.setReport r).counter z = s.counter z := (rfl)

/-! ### setKey: hw alone -/

@[simp] theorem setKey_pending (t : TenantId) (k : KeySlot) : (s.setKey t k).pending = s.pending := (rfl)
@[simp] theorem setKey_regs (t : TenantId) (k : KeySlot) : (s.setKey t k).regs = s.regs := (rfl)
@[simp] theorem setKey_cnt64 (t : TenantId) (k : KeySlot) : (s.setKey t k).cnt64 = s.cnt64 := (rfl)
@[simp] theorem setKey_snap (t : TenantId) (k : KeySlot) : (s.setKey t k).snap = s.snap := (rfl)
@[simp] theorem setKey_snap64 (t : TenantId) (k : KeySlot) : (s.setKey t k).snap64 = s.snap64 := (rfl)
@[simp] theorem setKey_latch (t : TenantId) (k : KeySlot) : (s.setKey t k).latch = s.latch := (rfl)
@[simp] theorem setKey_i3c (t : TenantId) (k : KeySlot) : (s.setKey t k).i3c = s.i3c := (rfl)
@[simp] theorem setKey_log (t : TenantId) (k : KeySlot) : (s.setKey t k).log = s.log := (rfl)
@[simp] theorem setKey_plog (t : TenantId) (k : KeySlot) : (s.setKey t k).plog = s.plog := (rfl)
@[simp] theorem setKey_time (t : TenantId) (k : KeySlot) : (s.setKey t k).time = s.time := (rfl)
@[simp] theorem setKey_clk (t : TenantId) (k : KeySlot) : (s.setKey t k).clk = s.clk := (rfl)
@[simp] theorem setKey_pwr (t : TenantId) (k : KeySlot) : (s.setKey t k).pwr = s.pwr := (rfl)
@[simp] theorem setKey_blank (t : TenantId) (k : KeySlot) : (s.setKey t k).blank = s.blank := (rfl)
@[simp] theorem setKey_su (t : TenantId) (k : KeySlot) : (s.setKey t k).su = s.su := (rfl)
@[simp] theorem setKey_slices (t : TenantId) (k : KeySlot) : (s.setKey t k).slices = s.slices := (rfl)
@[simp] theorem setKey_quarts (t : TenantId) (k : KeySlot) : (s.setKey t k).quarts = s.quarts := (rfl)
@[simp] theorem setKey_pin (t : TenantId) (k : KeySlot) : (s.setKey t k).pin = s.pin := (rfl)
@[simp] theorem setKey_lands (t : TenantId) (k : KeySlot) : (s.setKey t k).lands = s.lands := (rfl)
@[simp] theorem setKey_links (t : TenantId) (k : KeySlot) : (s.setKey t k).links = s.links := (rfl)
@[simp] theorem setKey_alive (t : TenantId) (k : KeySlot) : (s.setKey t k).alive = s.alive := (rfl)
@[simp] theorem setKey_shp (t : TenantId) (k : KeySlot) : (s.setKey t k).shp = s.shp := (rfl)
@[simp] theorem setKey_spn (t : TenantId) (k : KeySlot) : (s.setKey t k).spn = s.spn := (rfl)
@[simp] theorem setKey_pair (t : TenantId) (k : KeySlot) : (s.setKey t k).pair = s.pair := (rfl)
@[simp] theorem setKey_head (t : TenantId) (k : KeySlot) : (s.setKey t k).head = s.head := (rfl)
@[simp] theorem setKey_coord (t : TenantId) (k : KeySlot) : (s.setKey t k).coord = s.coord := (rfl)
@[simp] theorem setKey_job (t : TenantId) (k : KeySlot) : (s.setKey t k).job = s.job := (rfl)
@[simp] theorem setKey_satt (t : TenantId) (k : KeySlot) : (s.setKey t k).satt = s.satt := (rfl)
@[simp] theorem setKey_mbx (t : TenantId) (k : KeySlot) : (s.setKey t k).mbx = s.mbx := (rfl)
@[simp] theorem setKey_obs (t : TenantId) (k : KeySlot) : (s.setKey t k).obs = s.obs := (rfl)
@[simp] theorem setKey_mem (t : TenantId) (k : KeySlot) : (s.setKey t k).mem = s.mem := (rfl)
@[simp] theorem setKey_poison (t : TenantId) (k : KeySlot) : (s.setKey t k).poison = s.poison := (rfl)
@[simp] theorem setKey_upsets (t : TenantId) (k : KeySlot) : (s.setKey t k).upsets = s.upsets := (rfl)
@[simp] theorem setKey_chans (t : TenantId) (k : KeySlot) : (s.setKey t k).chans = s.chans := (rfl)
@[simp] theorem setKey_tags (t : TenantId) (k : KeySlot) : (s.setKey t k).tags = s.tags := (rfl)
@[simp] theorem setKey_tagc (t : TenantId) (k : KeySlot) : (s.setKey t k).tagc = s.tagc := (rfl)
@[simp] theorem setKey_pins (t : TenantId) (k : KeySlot) : (s.setKey t k).pins = s.pins := (rfl)
@[simp] theorem setKey_tier (t : TenantId) (k : KeySlot) : (s.setKey t k).tier = s.tier := (rfl)
@[simp] theorem setKey_pool (t : TenantId) (k : KeySlot) : (s.setKey t k).pool = s.pool := (rfl)
@[simp] theorem setKey_rgn (t : TenantId) (k : KeySlot) : (s.setKey t k).rgn = s.rgn := (rfl)
@[simp] theorem setKey_ctx (t : TenantId) (k : KeySlot) : (s.setKey t k).ctx = s.ctx := (rfl)
@[simp] theorem setKey_work (t : TenantId) (k : KeySlot) : (s.setKey t k).work = s.work := (rfl)
@[simp] theorem setKey_out (t : TenantId) (k : KeySlot) : (s.setKey t k).out = s.out := (rfl)
@[simp] theorem setKey_free (t : TenantId) (k : KeySlot) : (s.setKey t k).free = s.free := (rfl)
@[simp] theorem setKey_link (t : TenantId) (k : KeySlot) (z : LinkId) : (s.setKey t k).link z = s.link z := (rfl)
@[simp] theorem setKey_chan (t : TenantId) (k : KeySlot) (z : ChanId) : (s.setKey t k).chan z = s.chan z := (rfl)
@[simp] theorem setKey_exts (t : TenantId) (k : KeySlot) (z : ChanId) : (s.setKey t k).exts z = s.exts z := (rfl)
@[simp] theorem setKey_car (t : TenantId) (k : KeySlot) (z : CarrierId) : (s.setKey t k).car z = s.car z := (rfl)
@[simp] theorem setKey_slice (t : TenantId) (k : KeySlot) (z : SliceId) : (s.setKey t k).slice z = s.slice z := (rfl)
@[simp] theorem setKey_quart (t : TenantId) (k : KeySlot) (z : Quarter) : (s.setKey t k).quart z = s.quart z := (rfl)
@[simp] theorem setKey_core (t : TenantId) (k : KeySlot) (z : CoreId) : (s.setKey t k).core z = s.core z := (rfl)

/-! ### setAlarm: spn alone -/

@[simp] theorem setAlarm_pending (b : Nat) (v : Bool) : (setAlarm b v s).pending = s.pending := (rfl)
@[simp] theorem setAlarm_regs (b : Nat) (v : Bool) : (setAlarm b v s).regs = s.regs := (rfl)
@[simp] theorem setAlarm_cnt64 (b : Nat) (v : Bool) : (setAlarm b v s).cnt64 = s.cnt64 := (rfl)
@[simp] theorem setAlarm_snap (b : Nat) (v : Bool) : (setAlarm b v s).snap = s.snap := (rfl)
@[simp] theorem setAlarm_snap64 (b : Nat) (v : Bool) : (setAlarm b v s).snap64 = s.snap64 := (rfl)
@[simp] theorem setAlarm_latch (b : Nat) (v : Bool) : (setAlarm b v s).latch = s.latch := (rfl)
@[simp] theorem setAlarm_i3c (b : Nat) (v : Bool) : (setAlarm b v s).i3c = s.i3c := (rfl)
@[simp] theorem setAlarm_log (b : Nat) (v : Bool) : (setAlarm b v s).log = s.log := (rfl)
@[simp] theorem setAlarm_plog (b : Nat) (v : Bool) : (setAlarm b v s).plog = s.plog := (rfl)
@[simp] theorem setAlarm_time (b : Nat) (v : Bool) : (setAlarm b v s).time = s.time := (rfl)
@[simp] theorem setAlarm_clk (b : Nat) (v : Bool) : (setAlarm b v s).clk = s.clk := (rfl)
@[simp] theorem setAlarm_pwr (b : Nat) (v : Bool) : (setAlarm b v s).pwr = s.pwr := (rfl)
@[simp] theorem setAlarm_blank (b : Nat) (v : Bool) : (setAlarm b v s).blank = s.blank := (rfl)
@[simp] theorem setAlarm_su (b : Nat) (v : Bool) : (setAlarm b v s).su = s.su := (rfl)
@[simp] theorem setAlarm_hw (b : Nat) (v : Bool) : (setAlarm b v s).hw = s.hw := (rfl)
@[simp] theorem setAlarm_slices (b : Nat) (v : Bool) : (setAlarm b v s).slices = s.slices := (rfl)
@[simp] theorem setAlarm_quarts (b : Nat) (v : Bool) : (setAlarm b v s).quarts = s.quarts := (rfl)
@[simp] theorem setAlarm_pin (b : Nat) (v : Bool) : (setAlarm b v s).pin = s.pin := (rfl)
@[simp] theorem setAlarm_lands (b : Nat) (v : Bool) : (setAlarm b v s).lands = s.lands := (rfl)
@[simp] theorem setAlarm_links (b : Nat) (v : Bool) : (setAlarm b v s).links = s.links := (rfl)
@[simp] theorem setAlarm_alive (b : Nat) (v : Bool) : (setAlarm b v s).alive = s.alive := (rfl)
@[simp] theorem setAlarm_shp (b : Nat) (v : Bool) : (setAlarm b v s).shp = s.shp := (rfl)
@[simp] theorem setAlarm_pair (b : Nat) (v : Bool) : (setAlarm b v s).pair = s.pair := (rfl)
@[simp] theorem setAlarm_head (b : Nat) (v : Bool) : (setAlarm b v s).head = s.head := (rfl)
@[simp] theorem setAlarm_coord (b : Nat) (v : Bool) : (setAlarm b v s).coord = s.coord := (rfl)
@[simp] theorem setAlarm_job (b : Nat) (v : Bool) : (setAlarm b v s).job = s.job := (rfl)
@[simp] theorem setAlarm_satt (b : Nat) (v : Bool) : (setAlarm b v s).satt = s.satt := (rfl)
@[simp] theorem setAlarm_mbx (b : Nat) (v : Bool) : (setAlarm b v s).mbx = s.mbx := (rfl)
@[simp] theorem setAlarm_obs (b : Nat) (v : Bool) : (setAlarm b v s).obs = s.obs := (rfl)
@[simp] theorem setAlarm_mem (b : Nat) (v : Bool) : (setAlarm b v s).mem = s.mem := (rfl)
@[simp] theorem setAlarm_poison (b : Nat) (v : Bool) : (setAlarm b v s).poison = s.poison := (rfl)
@[simp] theorem setAlarm_upsets (b : Nat) (v : Bool) : (setAlarm b v s).upsets = s.upsets := (rfl)
@[simp] theorem setAlarm_chans (b : Nat) (v : Bool) : (setAlarm b v s).chans = s.chans := (rfl)
@[simp] theorem setAlarm_tags (b : Nat) (v : Bool) : (setAlarm b v s).tags = s.tags := (rfl)
@[simp] theorem setAlarm_tagc (b : Nat) (v : Bool) : (setAlarm b v s).tagc = s.tagc := (rfl)
@[simp] theorem setAlarm_pins (b : Nat) (v : Bool) : (setAlarm b v s).pins = s.pins := (rfl)
@[simp] theorem setAlarm_tier (b : Nat) (v : Bool) : (setAlarm b v s).tier = s.tier := (rfl)
@[simp] theorem setAlarm_pool (b : Nat) (v : Bool) : (setAlarm b v s).pool = s.pool := (rfl)
@[simp] theorem setAlarm_rgn (b : Nat) (v : Bool) : (setAlarm b v s).rgn = s.rgn := (rfl)
@[simp] theorem setAlarm_ctx (b : Nat) (v : Bool) : (setAlarm b v s).ctx = s.ctx := (rfl)
@[simp] theorem setAlarm_work (b : Nat) (v : Bool) : (setAlarm b v s).work = s.work := (rfl)
@[simp] theorem setAlarm_out (b : Nat) (v : Bool) : (setAlarm b v s).out = s.out := (rfl)
@[simp] theorem setAlarm_free (b : Nat) (v : Bool) : (setAlarm b v s).free = s.free := (rfl)
@[simp] theorem setAlarm_link (b : Nat) (v : Bool) (z : LinkId) : (setAlarm b v s).link z = s.link z := (rfl)
@[simp] theorem setAlarm_chan (b : Nat) (v : Bool) (z : ChanId) : (setAlarm b v s).chan z = s.chan z := (rfl)
@[simp] theorem setAlarm_exts (b : Nat) (v : Bool) (z : ChanId) : (setAlarm b v s).exts z = s.exts z := (rfl)
@[simp] theorem setAlarm_car (b : Nat) (v : Bool) (z : CarrierId) : (setAlarm b v s).car z = s.car z := (rfl)
@[simp] theorem setAlarm_slice (b : Nat) (v : Bool) (z : SliceId) : (setAlarm b v s).slice z = s.slice z := (rfl)
@[simp] theorem setAlarm_quart (b : Nat) (v : Bool) (z : Quarter) : (setAlarm b v s).quart z = s.quart z := (rfl)
@[simp] theorem setAlarm_core (b : Nat) (v : Bool) (z : CoreId) : (setAlarm b v s).core z = s.core z := (rfl)
@[simp] theorem setAlarm_key (b : Nat) (v : Bool) (z : TenantId) : (setAlarm b v s).key z = s.key z := (rfl)
@[simp] theorem setAlarm_counter (b : Nat) (v : Bool) (z : Fin 8) : (setAlarm b v s).counter z = s.counter z := (rfl)

/-! ### setLease: shp alone -/

@[simp] theorem setLease_pending (b q : Nat) (x : Lease) : (s.setLease b q x).pending = s.pending := (rfl)
@[simp] theorem setLease_regs (b q : Nat) (x : Lease) : (s.setLease b q x).regs = s.regs := (rfl)
@[simp] theorem setLease_cnt64 (b q : Nat) (x : Lease) : (s.setLease b q x).cnt64 = s.cnt64 := (rfl)
@[simp] theorem setLease_snap (b q : Nat) (x : Lease) : (s.setLease b q x).snap = s.snap := (rfl)
@[simp] theorem setLease_snap64 (b q : Nat) (x : Lease) : (s.setLease b q x).snap64 = s.snap64 := (rfl)
@[simp] theorem setLease_latch (b q : Nat) (x : Lease) : (s.setLease b q x).latch = s.latch := (rfl)
@[simp] theorem setLease_i3c (b q : Nat) (x : Lease) : (s.setLease b q x).i3c = s.i3c := (rfl)
@[simp] theorem setLease_log (b q : Nat) (x : Lease) : (s.setLease b q x).log = s.log := (rfl)
@[simp] theorem setLease_plog (b q : Nat) (x : Lease) : (s.setLease b q x).plog = s.plog := (rfl)
@[simp] theorem setLease_time (b q : Nat) (x : Lease) : (s.setLease b q x).time = s.time := (rfl)
@[simp] theorem setLease_clk (b q : Nat) (x : Lease) : (s.setLease b q x).clk = s.clk := (rfl)
@[simp] theorem setLease_pwr (b q : Nat) (x : Lease) : (s.setLease b q x).pwr = s.pwr := (rfl)
@[simp] theorem setLease_blank (b q : Nat) (x : Lease) : (s.setLease b q x).blank = s.blank := (rfl)
@[simp] theorem setLease_su (b q : Nat) (x : Lease) : (s.setLease b q x).su = s.su := (rfl)
@[simp] theorem setLease_hw (b q : Nat) (x : Lease) : (s.setLease b q x).hw = s.hw := (rfl)
@[simp] theorem setLease_slices (b q : Nat) (x : Lease) : (s.setLease b q x).slices = s.slices := (rfl)
@[simp] theorem setLease_quarts (b q : Nat) (x : Lease) : (s.setLease b q x).quarts = s.quarts := (rfl)
@[simp] theorem setLease_pin (b q : Nat) (x : Lease) : (s.setLease b q x).pin = s.pin := (rfl)
@[simp] theorem setLease_lands (b q : Nat) (x : Lease) : (s.setLease b q x).lands = s.lands := (rfl)
@[simp] theorem setLease_links (b q : Nat) (x : Lease) : (s.setLease b q x).links = s.links := (rfl)
@[simp] theorem setLease_alive (b q : Nat) (x : Lease) : (s.setLease b q x).alive = s.alive := (rfl)
@[simp] theorem setLease_spn (b q : Nat) (x : Lease) : (s.setLease b q x).spn = s.spn := (rfl)
@[simp] theorem setLease_pair (b q : Nat) (x : Lease) : (s.setLease b q x).pair = s.pair := (rfl)
@[simp] theorem setLease_head (b q : Nat) (x : Lease) : (s.setLease b q x).head = s.head := (rfl)
@[simp] theorem setLease_coord (b q : Nat) (x : Lease) : (s.setLease b q x).coord = s.coord := (rfl)
@[simp] theorem setLease_job (b q : Nat) (x : Lease) : (s.setLease b q x).job = s.job := (rfl)
@[simp] theorem setLease_satt (b q : Nat) (x : Lease) : (s.setLease b q x).satt = s.satt := (rfl)
@[simp] theorem setLease_mbx (b q : Nat) (x : Lease) : (s.setLease b q x).mbx = s.mbx := (rfl)
@[simp] theorem setLease_obs (b q : Nat) (x : Lease) : (s.setLease b q x).obs = s.obs := (rfl)
@[simp] theorem setLease_mem (b q : Nat) (x : Lease) : (s.setLease b q x).mem = s.mem := (rfl)
@[simp] theorem setLease_poison (b q : Nat) (x : Lease) : (s.setLease b q x).poison = s.poison := (rfl)
@[simp] theorem setLease_upsets (b q : Nat) (x : Lease) : (s.setLease b q x).upsets = s.upsets := (rfl)
@[simp] theorem setLease_chans (b q : Nat) (x : Lease) : (s.setLease b q x).chans = s.chans := (rfl)
@[simp] theorem setLease_tags (b q : Nat) (x : Lease) : (s.setLease b q x).tags = s.tags := (rfl)
@[simp] theorem setLease_tagc (b q : Nat) (x : Lease) : (s.setLease b q x).tagc = s.tagc := (rfl)
@[simp] theorem setLease_pins (b q : Nat) (x : Lease) : (s.setLease b q x).pins = s.pins := (rfl)
@[simp] theorem setLease_tier (b q : Nat) (x : Lease) : (s.setLease b q x).tier = s.tier := (rfl)
@[simp] theorem setLease_pool (b q : Nat) (x : Lease) : (s.setLease b q x).pool = s.pool := (rfl)
@[simp] theorem setLease_rgn (b q : Nat) (x : Lease) : (s.setLease b q x).rgn = s.rgn := (rfl)
@[simp] theorem setLease_ctx (b q : Nat) (x : Lease) : (s.setLease b q x).ctx = s.ctx := (rfl)
@[simp] theorem setLease_work (b q : Nat) (x : Lease) : (s.setLease b q x).work = s.work := (rfl)
@[simp] theorem setLease_out (b q : Nat) (x : Lease) : (s.setLease b q x).out = s.out := (rfl)
@[simp] theorem setLease_free (b q : Nat) (x : Lease) : (s.setLease b q x).free = s.free := (rfl)
@[simp] theorem setLease_link (b q : Nat) (x : Lease) (z : LinkId) : (s.setLease b q x).link z = s.link z := (rfl)
@[simp] theorem setLease_chan (b q : Nat) (x : Lease) (z : ChanId) : (s.setLease b q x).chan z = s.chan z := (rfl)
@[simp] theorem setLease_exts (b q : Nat) (x : Lease) (z : ChanId) : (s.setLease b q x).exts z = s.exts z := (rfl)
@[simp] theorem setLease_car (b q : Nat) (x : Lease) (z : CarrierId) : (s.setLease b q x).car z = s.car z := (rfl)
@[simp] theorem setLease_slice (b q : Nat) (x : Lease) (z : SliceId) : (s.setLease b q x).slice z = s.slice z := (rfl)
@[simp] theorem setLease_quart (b q : Nat) (x : Lease) (z : Quarter) : (s.setLease b q x).quart z = s.quart z := (rfl)
@[simp] theorem setLease_core (b q : Nat) (x : Lease) (z : CoreId) : (s.setLease b q x).core z = s.core z := (rfl)
@[simp] theorem setLease_key (b q : Nat) (x : Lease) (z : TenantId) : (s.setLease b q x).key z = s.key z := (rfl)
@[simp] theorem setLease_counter (b q : Nat) (x : Lease) (z : Fin 8) : (s.setLease b q x).counter z = s.counter z := (rfl)

/-! ### setBucket: shp alone -/

@[simp] theorem setBucket_pending (b n : Nat) : (s.setBucket b n).pending = s.pending := (rfl)
@[simp] theorem setBucket_regs (b n : Nat) : (s.setBucket b n).regs = s.regs := (rfl)
@[simp] theorem setBucket_cnt64 (b n : Nat) : (s.setBucket b n).cnt64 = s.cnt64 := (rfl)
@[simp] theorem setBucket_snap (b n : Nat) : (s.setBucket b n).snap = s.snap := (rfl)
@[simp] theorem setBucket_snap64 (b n : Nat) : (s.setBucket b n).snap64 = s.snap64 := (rfl)
@[simp] theorem setBucket_latch (b n : Nat) : (s.setBucket b n).latch = s.latch := (rfl)
@[simp] theorem setBucket_i3c (b n : Nat) : (s.setBucket b n).i3c = s.i3c := (rfl)
@[simp] theorem setBucket_log (b n : Nat) : (s.setBucket b n).log = s.log := (rfl)
@[simp] theorem setBucket_plog (b n : Nat) : (s.setBucket b n).plog = s.plog := (rfl)
@[simp] theorem setBucket_time (b n : Nat) : (s.setBucket b n).time = s.time := (rfl)
@[simp] theorem setBucket_clk (b n : Nat) : (s.setBucket b n).clk = s.clk := (rfl)
@[simp] theorem setBucket_pwr (b n : Nat) : (s.setBucket b n).pwr = s.pwr := (rfl)
@[simp] theorem setBucket_blank (b n : Nat) : (s.setBucket b n).blank = s.blank := (rfl)
@[simp] theorem setBucket_su (b n : Nat) : (s.setBucket b n).su = s.su := (rfl)
@[simp] theorem setBucket_hw (b n : Nat) : (s.setBucket b n).hw = s.hw := (rfl)
@[simp] theorem setBucket_slices (b n : Nat) : (s.setBucket b n).slices = s.slices := (rfl)
@[simp] theorem setBucket_quarts (b n : Nat) : (s.setBucket b n).quarts = s.quarts := (rfl)
@[simp] theorem setBucket_pin (b n : Nat) : (s.setBucket b n).pin = s.pin := (rfl)
@[simp] theorem setBucket_lands (b n : Nat) : (s.setBucket b n).lands = s.lands := (rfl)
@[simp] theorem setBucket_links (b n : Nat) : (s.setBucket b n).links = s.links := (rfl)
@[simp] theorem setBucket_alive (b n : Nat) : (s.setBucket b n).alive = s.alive := (rfl)
@[simp] theorem setBucket_spn (b n : Nat) : (s.setBucket b n).spn = s.spn := (rfl)
@[simp] theorem setBucket_pair (b n : Nat) : (s.setBucket b n).pair = s.pair := (rfl)
@[simp] theorem setBucket_head (b n : Nat) : (s.setBucket b n).head = s.head := (rfl)
@[simp] theorem setBucket_coord (b n : Nat) : (s.setBucket b n).coord = s.coord := (rfl)
@[simp] theorem setBucket_job (b n : Nat) : (s.setBucket b n).job = s.job := (rfl)
@[simp] theorem setBucket_satt (b n : Nat) : (s.setBucket b n).satt = s.satt := (rfl)
@[simp] theorem setBucket_mbx (b n : Nat) : (s.setBucket b n).mbx = s.mbx := (rfl)
@[simp] theorem setBucket_obs (b n : Nat) : (s.setBucket b n).obs = s.obs := (rfl)
@[simp] theorem setBucket_mem (b n : Nat) : (s.setBucket b n).mem = s.mem := (rfl)
@[simp] theorem setBucket_poison (b n : Nat) : (s.setBucket b n).poison = s.poison := (rfl)
@[simp] theorem setBucket_upsets (b n : Nat) : (s.setBucket b n).upsets = s.upsets := (rfl)
@[simp] theorem setBucket_chans (b n : Nat) : (s.setBucket b n).chans = s.chans := (rfl)
@[simp] theorem setBucket_tags (b n : Nat) : (s.setBucket b n).tags = s.tags := (rfl)
@[simp] theorem setBucket_tagc (b n : Nat) : (s.setBucket b n).tagc = s.tagc := (rfl)
@[simp] theorem setBucket_pins (b n : Nat) : (s.setBucket b n).pins = s.pins := (rfl)
@[simp] theorem setBucket_tier (b n : Nat) : (s.setBucket b n).tier = s.tier := (rfl)
@[simp] theorem setBucket_pool (b n : Nat) : (s.setBucket b n).pool = s.pool := (rfl)
@[simp] theorem setBucket_rgn (b n : Nat) : (s.setBucket b n).rgn = s.rgn := (rfl)
@[simp] theorem setBucket_ctx (b n : Nat) : (s.setBucket b n).ctx = s.ctx := (rfl)
@[simp] theorem setBucket_work (b n : Nat) : (s.setBucket b n).work = s.work := (rfl)
@[simp] theorem setBucket_out (b n : Nat) : (s.setBucket b n).out = s.out := (rfl)
@[simp] theorem setBucket_free (b n : Nat) : (s.setBucket b n).free = s.free := (rfl)
@[simp] theorem setBucket_link (b n : Nat) (z : LinkId) : (s.setBucket b n).link z = s.link z := (rfl)
@[simp] theorem setBucket_chan (b n : Nat) (z : ChanId) : (s.setBucket b n).chan z = s.chan z := (rfl)
@[simp] theorem setBucket_exts (b n : Nat) (z : ChanId) : (s.setBucket b n).exts z = s.exts z := (rfl)
@[simp] theorem setBucket_car (b n : Nat) (z : CarrierId) : (s.setBucket b n).car z = s.car z := (rfl)
@[simp] theorem setBucket_slice (b n : Nat) (z : SliceId) : (s.setBucket b n).slice z = s.slice z := (rfl)
@[simp] theorem setBucket_quart (b n : Nat) (z : Quarter) : (s.setBucket b n).quart z = s.quart z := (rfl)
@[simp] theorem setBucket_core (b n : Nat) (z : CoreId) : (s.setBucket b n).core z = s.core z := (rfl)
@[simp] theorem setBucket_key (b n : Nat) (z : TenantId) : (s.setBucket b n).key z = s.key z := (rfl)
@[simp] theorem setBucket_counter (b n : Nat) (z : Fin 8) : (s.setBucket b n).counter z = s.counter z := (rfl)

/-! ### setJobHead: job alone -/

@[simp] theorem setJobHead_pending (j : Option JobHead) : (s.setJobHead j).pending = s.pending := (rfl)
@[simp] theorem setJobHead_regs (j : Option JobHead) : (s.setJobHead j).regs = s.regs := (rfl)
@[simp] theorem setJobHead_cnt64 (j : Option JobHead) : (s.setJobHead j).cnt64 = s.cnt64 := (rfl)
@[simp] theorem setJobHead_snap (j : Option JobHead) : (s.setJobHead j).snap = s.snap := (rfl)
@[simp] theorem setJobHead_snap64 (j : Option JobHead) : (s.setJobHead j).snap64 = s.snap64 := (rfl)
@[simp] theorem setJobHead_latch (j : Option JobHead) : (s.setJobHead j).latch = s.latch := (rfl)
@[simp] theorem setJobHead_i3c (j : Option JobHead) : (s.setJobHead j).i3c = s.i3c := (rfl)
@[simp] theorem setJobHead_log (j : Option JobHead) : (s.setJobHead j).log = s.log := (rfl)
@[simp] theorem setJobHead_plog (j : Option JobHead) : (s.setJobHead j).plog = s.plog := (rfl)
@[simp] theorem setJobHead_time (j : Option JobHead) : (s.setJobHead j).time = s.time := (rfl)
@[simp] theorem setJobHead_clk (j : Option JobHead) : (s.setJobHead j).clk = s.clk := (rfl)
@[simp] theorem setJobHead_pwr (j : Option JobHead) : (s.setJobHead j).pwr = s.pwr := (rfl)
@[simp] theorem setJobHead_blank (j : Option JobHead) : (s.setJobHead j).blank = s.blank := (rfl)
@[simp] theorem setJobHead_su (j : Option JobHead) : (s.setJobHead j).su = s.su := (rfl)
@[simp] theorem setJobHead_hw (j : Option JobHead) : (s.setJobHead j).hw = s.hw := (rfl)
@[simp] theorem setJobHead_slices (j : Option JobHead) : (s.setJobHead j).slices = s.slices := (rfl)
@[simp] theorem setJobHead_quarts (j : Option JobHead) : (s.setJobHead j).quarts = s.quarts := (rfl)
@[simp] theorem setJobHead_pin (j : Option JobHead) : (s.setJobHead j).pin = s.pin := (rfl)
@[simp] theorem setJobHead_lands (j : Option JobHead) : (s.setJobHead j).lands = s.lands := (rfl)
@[simp] theorem setJobHead_links (j : Option JobHead) : (s.setJobHead j).links = s.links := (rfl)
@[simp] theorem setJobHead_alive (j : Option JobHead) : (s.setJobHead j).alive = s.alive := (rfl)
@[simp] theorem setJobHead_shp (j : Option JobHead) : (s.setJobHead j).shp = s.shp := (rfl)
@[simp] theorem setJobHead_spn (j : Option JobHead) : (s.setJobHead j).spn = s.spn := (rfl)
@[simp] theorem setJobHead_pair (j : Option JobHead) : (s.setJobHead j).pair = s.pair := (rfl)
@[simp] theorem setJobHead_head (j : Option JobHead) : (s.setJobHead j).head = s.head := (rfl)
@[simp] theorem setJobHead_coord (j : Option JobHead) : (s.setJobHead j).coord = s.coord := (rfl)
@[simp] theorem setJobHead_satt (j : Option JobHead) : (s.setJobHead j).satt = s.satt := (rfl)
@[simp] theorem setJobHead_mbx (j : Option JobHead) : (s.setJobHead j).mbx = s.mbx := (rfl)
@[simp] theorem setJobHead_obs (j : Option JobHead) : (s.setJobHead j).obs = s.obs := (rfl)
@[simp] theorem setJobHead_mem (j : Option JobHead) : (s.setJobHead j).mem = s.mem := (rfl)
@[simp] theorem setJobHead_poison (j : Option JobHead) : (s.setJobHead j).poison = s.poison := (rfl)
@[simp] theorem setJobHead_upsets (j : Option JobHead) : (s.setJobHead j).upsets = s.upsets := (rfl)
@[simp] theorem setJobHead_chans (j : Option JobHead) : (s.setJobHead j).chans = s.chans := (rfl)
@[simp] theorem setJobHead_tags (j : Option JobHead) : (s.setJobHead j).tags = s.tags := (rfl)
@[simp] theorem setJobHead_tagc (j : Option JobHead) : (s.setJobHead j).tagc = s.tagc := (rfl)
@[simp] theorem setJobHead_pins (j : Option JobHead) : (s.setJobHead j).pins = s.pins := (rfl)
@[simp] theorem setJobHead_tier (j : Option JobHead) : (s.setJobHead j).tier = s.tier := (rfl)
@[simp] theorem setJobHead_pool (j : Option JobHead) : (s.setJobHead j).pool = s.pool := (rfl)
@[simp] theorem setJobHead_rgn (j : Option JobHead) : (s.setJobHead j).rgn = s.rgn := (rfl)
@[simp] theorem setJobHead_ctx (j : Option JobHead) : (s.setJobHead j).ctx = s.ctx := (rfl)
@[simp] theorem setJobHead_work (j : Option JobHead) : (s.setJobHead j).work = s.work := (rfl)
@[simp] theorem setJobHead_out (j : Option JobHead) : (s.setJobHead j).out = s.out := (rfl)
@[simp] theorem setJobHead_free (j : Option JobHead) : (s.setJobHead j).free = s.free := (rfl)
@[simp] theorem setJobHead_link (j : Option JobHead) (z : LinkId) : (s.setJobHead j).link z = s.link z := (rfl)
@[simp] theorem setJobHead_chan (j : Option JobHead) (z : ChanId) : (s.setJobHead j).chan z = s.chan z := (rfl)
@[simp] theorem setJobHead_exts (j : Option JobHead) (z : ChanId) : (s.setJobHead j).exts z = s.exts z := (rfl)
@[simp] theorem setJobHead_car (j : Option JobHead) (z : CarrierId) : (s.setJobHead j).car z = s.car z := (rfl)
@[simp] theorem setJobHead_slice (j : Option JobHead) (z : SliceId) : (s.setJobHead j).slice z = s.slice z := (rfl)
@[simp] theorem setJobHead_quart (j : Option JobHead) (z : Quarter) : (s.setJobHead j).quart z = s.quart z := (rfl)
@[simp] theorem setJobHead_core (j : Option JobHead) (z : CoreId) : (s.setJobHead j).core z = s.core z := (rfl)
@[simp] theorem setJobHead_key (j : Option JobHead) (z : TenantId) : (s.setJobHead j).key z = s.key z := (rfl)
@[simp] theorem setJobHead_counter (j : Option JobHead) (z : Fin 8) : (s.setJobHead j).counter z = s.counter z := (rfl)

/-! ### updTx: coord alone -/

@[simp] theorem updTx_pending (i : Nat) (f : RecTx → RecTx) : (s.updTx i f).pending = s.pending := (rfl)
@[simp] theorem updTx_regs (i : Nat) (f : RecTx → RecTx) : (s.updTx i f).regs = s.regs := (rfl)
@[simp] theorem updTx_cnt64 (i : Nat) (f : RecTx → RecTx) : (s.updTx i f).cnt64 = s.cnt64 := (rfl)
@[simp] theorem updTx_snap (i : Nat) (f : RecTx → RecTx) : (s.updTx i f).snap = s.snap := (rfl)
@[simp] theorem updTx_snap64 (i : Nat) (f : RecTx → RecTx) : (s.updTx i f).snap64 = s.snap64 := (rfl)
@[simp] theorem updTx_latch (i : Nat) (f : RecTx → RecTx) : (s.updTx i f).latch = s.latch := (rfl)
@[simp] theorem updTx_i3c (i : Nat) (f : RecTx → RecTx) : (s.updTx i f).i3c = s.i3c := (rfl)
@[simp] theorem updTx_log (i : Nat) (f : RecTx → RecTx) : (s.updTx i f).log = s.log := (rfl)
@[simp] theorem updTx_plog (i : Nat) (f : RecTx → RecTx) : (s.updTx i f).plog = s.plog := (rfl)
@[simp] theorem updTx_time (i : Nat) (f : RecTx → RecTx) : (s.updTx i f).time = s.time := (rfl)
@[simp] theorem updTx_clk (i : Nat) (f : RecTx → RecTx) : (s.updTx i f).clk = s.clk := (rfl)
@[simp] theorem updTx_pwr (i : Nat) (f : RecTx → RecTx) : (s.updTx i f).pwr = s.pwr := (rfl)
@[simp] theorem updTx_blank (i : Nat) (f : RecTx → RecTx) : (s.updTx i f).blank = s.blank := (rfl)
@[simp] theorem updTx_su (i : Nat) (f : RecTx → RecTx) : (s.updTx i f).su = s.su := (rfl)
@[simp] theorem updTx_hw (i : Nat) (f : RecTx → RecTx) : (s.updTx i f).hw = s.hw := (rfl)
@[simp] theorem updTx_slices (i : Nat) (f : RecTx → RecTx) : (s.updTx i f).slices = s.slices := (rfl)
@[simp] theorem updTx_quarts (i : Nat) (f : RecTx → RecTx) : (s.updTx i f).quarts = s.quarts := (rfl)
@[simp] theorem updTx_pin (i : Nat) (f : RecTx → RecTx) : (s.updTx i f).pin = s.pin := (rfl)
@[simp] theorem updTx_lands (i : Nat) (f : RecTx → RecTx) : (s.updTx i f).lands = s.lands := (rfl)
@[simp] theorem updTx_links (i : Nat) (f : RecTx → RecTx) : (s.updTx i f).links = s.links := (rfl)
@[simp] theorem updTx_alive (i : Nat) (f : RecTx → RecTx) : (s.updTx i f).alive = s.alive := (rfl)
@[simp] theorem updTx_shp (i : Nat) (f : RecTx → RecTx) : (s.updTx i f).shp = s.shp := (rfl)
@[simp] theorem updTx_spn (i : Nat) (f : RecTx → RecTx) : (s.updTx i f).spn = s.spn := (rfl)
@[simp] theorem updTx_pair (i : Nat) (f : RecTx → RecTx) : (s.updTx i f).pair = s.pair := (rfl)
@[simp] theorem updTx_head (i : Nat) (f : RecTx → RecTx) : (s.updTx i f).head = s.head := (rfl)
@[simp] theorem updTx_job (i : Nat) (f : RecTx → RecTx) : (s.updTx i f).job = s.job := (rfl)
@[simp] theorem updTx_satt (i : Nat) (f : RecTx → RecTx) : (s.updTx i f).satt = s.satt := (rfl)
@[simp] theorem updTx_mbx (i : Nat) (f : RecTx → RecTx) : (s.updTx i f).mbx = s.mbx := (rfl)
@[simp] theorem updTx_obs (i : Nat) (f : RecTx → RecTx) : (s.updTx i f).obs = s.obs := (rfl)
@[simp] theorem updTx_mem (i : Nat) (f : RecTx → RecTx) : (s.updTx i f).mem = s.mem := (rfl)
@[simp] theorem updTx_poison (i : Nat) (f : RecTx → RecTx) : (s.updTx i f).poison = s.poison := (rfl)
@[simp] theorem updTx_upsets (i : Nat) (f : RecTx → RecTx) : (s.updTx i f).upsets = s.upsets := (rfl)
@[simp] theorem updTx_chans (i : Nat) (f : RecTx → RecTx) : (s.updTx i f).chans = s.chans := (rfl)
@[simp] theorem updTx_tags (i : Nat) (f : RecTx → RecTx) : (s.updTx i f).tags = s.tags := (rfl)
@[simp] theorem updTx_tagc (i : Nat) (f : RecTx → RecTx) : (s.updTx i f).tagc = s.tagc := (rfl)
@[simp] theorem updTx_pins (i : Nat) (f : RecTx → RecTx) : (s.updTx i f).pins = s.pins := (rfl)
@[simp] theorem updTx_tier (i : Nat) (f : RecTx → RecTx) : (s.updTx i f).tier = s.tier := (rfl)
@[simp] theorem updTx_pool (i : Nat) (f : RecTx → RecTx) : (s.updTx i f).pool = s.pool := (rfl)
@[simp] theorem updTx_rgn (i : Nat) (f : RecTx → RecTx) : (s.updTx i f).rgn = s.rgn := (rfl)
@[simp] theorem updTx_ctx (i : Nat) (f : RecTx → RecTx) : (s.updTx i f).ctx = s.ctx := (rfl)
@[simp] theorem updTx_work (i : Nat) (f : RecTx → RecTx) : (s.updTx i f).work = s.work := (rfl)
@[simp] theorem updTx_out (i : Nat) (f : RecTx → RecTx) : (s.updTx i f).out = s.out := (rfl)
@[simp] theorem updTx_free (i : Nat) (f : RecTx → RecTx) : (s.updTx i f).free = s.free := (rfl)
@[simp] theorem updTx_link (i : Nat) (f : RecTx → RecTx) (z : LinkId) : (s.updTx i f).link z = s.link z := (rfl)
@[simp] theorem updTx_chan (i : Nat) (f : RecTx → RecTx) (z : ChanId) : (s.updTx i f).chan z = s.chan z := (rfl)
@[simp] theorem updTx_exts (i : Nat) (f : RecTx → RecTx) (z : ChanId) : (s.updTx i f).exts z = s.exts z := (rfl)
@[simp] theorem updTx_car (i : Nat) (f : RecTx → RecTx) (z : CarrierId) : (s.updTx i f).car z = s.car z := (rfl)
@[simp] theorem updTx_slice (i : Nat) (f : RecTx → RecTx) (z : SliceId) : (s.updTx i f).slice z = s.slice z := (rfl)
@[simp] theorem updTx_quart (i : Nat) (f : RecTx → RecTx) (z : Quarter) : (s.updTx i f).quart z = s.quart z := (rfl)
@[simp] theorem updTx_core (i : Nat) (f : RecTx → RecTx) (z : CoreId) : (s.updTx i f).core z = s.core z := (rfl)
@[simp] theorem updTx_key (i : Nat) (f : RecTx → RecTx) (z : TenantId) : (s.updTx i f).key z = s.key z := (rfl)
@[simp] theorem updTx_counter (i : Nat) (f : RecTx → RecTx) (z : Fin 8) : (s.updTx i f).counter z = s.counter z := (rfl)

/-! ### dropPend: coord alone -/

@[simp] theorem dropPend_pending (a b : Nat) : (s.dropPend a b).pending = s.pending := (rfl)
@[simp] theorem dropPend_regs (a b : Nat) : (s.dropPend a b).regs = s.regs := (rfl)
@[simp] theorem dropPend_cnt64 (a b : Nat) : (s.dropPend a b).cnt64 = s.cnt64 := (rfl)
@[simp] theorem dropPend_snap (a b : Nat) : (s.dropPend a b).snap = s.snap := (rfl)
@[simp] theorem dropPend_snap64 (a b : Nat) : (s.dropPend a b).snap64 = s.snap64 := (rfl)
@[simp] theorem dropPend_latch (a b : Nat) : (s.dropPend a b).latch = s.latch := (rfl)
@[simp] theorem dropPend_i3c (a b : Nat) : (s.dropPend a b).i3c = s.i3c := (rfl)
@[simp] theorem dropPend_log (a b : Nat) : (s.dropPend a b).log = s.log := (rfl)
@[simp] theorem dropPend_plog (a b : Nat) : (s.dropPend a b).plog = s.plog := (rfl)
@[simp] theorem dropPend_time (a b : Nat) : (s.dropPend a b).time = s.time := (rfl)
@[simp] theorem dropPend_clk (a b : Nat) : (s.dropPend a b).clk = s.clk := (rfl)
@[simp] theorem dropPend_pwr (a b : Nat) : (s.dropPend a b).pwr = s.pwr := (rfl)
@[simp] theorem dropPend_blank (a b : Nat) : (s.dropPend a b).blank = s.blank := (rfl)
@[simp] theorem dropPend_su (a b : Nat) : (s.dropPend a b).su = s.su := (rfl)
@[simp] theorem dropPend_hw (a b : Nat) : (s.dropPend a b).hw = s.hw := (rfl)
@[simp] theorem dropPend_slices (a b : Nat) : (s.dropPend a b).slices = s.slices := (rfl)
@[simp] theorem dropPend_quarts (a b : Nat) : (s.dropPend a b).quarts = s.quarts := (rfl)
@[simp] theorem dropPend_pin (a b : Nat) : (s.dropPend a b).pin = s.pin := (rfl)
@[simp] theorem dropPend_lands (a b : Nat) : (s.dropPend a b).lands = s.lands := (rfl)
@[simp] theorem dropPend_links (a b : Nat) : (s.dropPend a b).links = s.links := (rfl)
@[simp] theorem dropPend_alive (a b : Nat) : (s.dropPend a b).alive = s.alive := (rfl)
@[simp] theorem dropPend_shp (a b : Nat) : (s.dropPend a b).shp = s.shp := (rfl)
@[simp] theorem dropPend_spn (a b : Nat) : (s.dropPend a b).spn = s.spn := (rfl)
@[simp] theorem dropPend_pair (a b : Nat) : (s.dropPend a b).pair = s.pair := (rfl)
@[simp] theorem dropPend_head (a b : Nat) : (s.dropPend a b).head = s.head := (rfl)
@[simp] theorem dropPend_job (a b : Nat) : (s.dropPend a b).job = s.job := (rfl)
@[simp] theorem dropPend_satt (a b : Nat) : (s.dropPend a b).satt = s.satt := (rfl)
@[simp] theorem dropPend_mbx (a b : Nat) : (s.dropPend a b).mbx = s.mbx := (rfl)
@[simp] theorem dropPend_obs (a b : Nat) : (s.dropPend a b).obs = s.obs := (rfl)
@[simp] theorem dropPend_mem (a b : Nat) : (s.dropPend a b).mem = s.mem := (rfl)
@[simp] theorem dropPend_poison (a b : Nat) : (s.dropPend a b).poison = s.poison := (rfl)
@[simp] theorem dropPend_upsets (a b : Nat) : (s.dropPend a b).upsets = s.upsets := (rfl)
@[simp] theorem dropPend_chans (a b : Nat) : (s.dropPend a b).chans = s.chans := (rfl)
@[simp] theorem dropPend_tags (a b : Nat) : (s.dropPend a b).tags = s.tags := (rfl)
@[simp] theorem dropPend_tagc (a b : Nat) : (s.dropPend a b).tagc = s.tagc := (rfl)
@[simp] theorem dropPend_pins (a b : Nat) : (s.dropPend a b).pins = s.pins := (rfl)
@[simp] theorem dropPend_tier (a b : Nat) : (s.dropPend a b).tier = s.tier := (rfl)
@[simp] theorem dropPend_pool (a b : Nat) : (s.dropPend a b).pool = s.pool := (rfl)
@[simp] theorem dropPend_rgn (a b : Nat) : (s.dropPend a b).rgn = s.rgn := (rfl)
@[simp] theorem dropPend_ctx (a b : Nat) : (s.dropPend a b).ctx = s.ctx := (rfl)
@[simp] theorem dropPend_work (a b : Nat) : (s.dropPend a b).work = s.work := (rfl)
@[simp] theorem dropPend_out (a b : Nat) : (s.dropPend a b).out = s.out := (rfl)
@[simp] theorem dropPend_free (a b : Nat) : (s.dropPend a b).free = s.free := (rfl)
@[simp] theorem dropPend_link (a b : Nat) (z : LinkId) : (s.dropPend a b).link z = s.link z := (rfl)
@[simp] theorem dropPend_chan (a b : Nat) (z : ChanId) : (s.dropPend a b).chan z = s.chan z := (rfl)
@[simp] theorem dropPend_exts (a b : Nat) (z : ChanId) : (s.dropPend a b).exts z = s.exts z := (rfl)
@[simp] theorem dropPend_car (a b : Nat) (z : CarrierId) : (s.dropPend a b).car z = s.car z := (rfl)
@[simp] theorem dropPend_slice (a b : Nat) (z : SliceId) : (s.dropPend a b).slice z = s.slice z := (rfl)
@[simp] theorem dropPend_quart (a b : Nat) (z : Quarter) : (s.dropPend a b).quart z = s.quart z := (rfl)
@[simp] theorem dropPend_core (a b : Nat) (z : CoreId) : (s.dropPend a b).core z = s.core z := (rfl)
@[simp] theorem dropPend_key (a b : Nat) (z : TenantId) : (s.dropPend a b).key z = s.key z := (rfl)
@[simp] theorem dropPend_counter (a b : Nat) (z : Fin 8) : (s.dropPend a b).counter z = s.counter z := (rfl)

/-! ### settle: lands alone -/

@[simp] theorem settle_pending : (settle s).pending = s.pending := (rfl)
@[simp] theorem settle_regs : (settle s).regs = s.regs := (rfl)
@[simp] theorem settle_cnt64 : (settle s).cnt64 = s.cnt64 := (rfl)
@[simp] theorem settle_snap : (settle s).snap = s.snap := (rfl)
@[simp] theorem settle_snap64 : (settle s).snap64 = s.snap64 := (rfl)
@[simp] theorem settle_latch : (settle s).latch = s.latch := (rfl)
@[simp] theorem settle_i3c : (settle s).i3c = s.i3c := (rfl)
@[simp] theorem settle_log : (settle s).log = s.log := (rfl)
@[simp] theorem settle_plog : (settle s).plog = s.plog := (rfl)
@[simp] theorem settle_time : (settle s).time = s.time := (rfl)
@[simp] theorem settle_clk : (settle s).clk = s.clk := (rfl)
@[simp] theorem settle_pwr : (settle s).pwr = s.pwr := (rfl)
@[simp] theorem settle_blank : (settle s).blank = s.blank := (rfl)
@[simp] theorem settle_su : (settle s).su = s.su := (rfl)
@[simp] theorem settle_hw : (settle s).hw = s.hw := (rfl)
@[simp] theorem settle_slices : (settle s).slices = s.slices := (rfl)
@[simp] theorem settle_quarts : (settle s).quarts = s.quarts := (rfl)
@[simp] theorem settle_pin : (settle s).pin = s.pin := (rfl)
@[simp] theorem settle_links : (settle s).links = s.links := (rfl)
@[simp] theorem settle_alive : (settle s).alive = s.alive := (rfl)
@[simp] theorem settle_shp : (settle s).shp = s.shp := (rfl)
@[simp] theorem settle_spn : (settle s).spn = s.spn := (rfl)
@[simp] theorem settle_pair : (settle s).pair = s.pair := (rfl)
@[simp] theorem settle_head : (settle s).head = s.head := (rfl)
@[simp] theorem settle_coord : (settle s).coord = s.coord := (rfl)
@[simp] theorem settle_job : (settle s).job = s.job := (rfl)
@[simp] theorem settle_satt : (settle s).satt = s.satt := (rfl)
@[simp] theorem settle_mbx : (settle s).mbx = s.mbx := (rfl)
@[simp] theorem settle_obs : (settle s).obs = s.obs := (rfl)
@[simp] theorem settle_mem : (settle s).mem = s.mem := (rfl)
@[simp] theorem settle_poison : (settle s).poison = s.poison := (rfl)
@[simp] theorem settle_upsets : (settle s).upsets = s.upsets := (rfl)
@[simp] theorem settle_chans : (settle s).chans = s.chans := (rfl)
@[simp] theorem settle_tags : (settle s).tags = s.tags := (rfl)
@[simp] theorem settle_tagc : (settle s).tagc = s.tagc := (rfl)
@[simp] theorem settle_pins : (settle s).pins = s.pins := (rfl)
@[simp] theorem settle_tier : (settle s).tier = s.tier := (rfl)
@[simp] theorem settle_pool : (settle s).pool = s.pool := (rfl)
@[simp] theorem settle_rgn : (settle s).rgn = s.rgn := (rfl)
@[simp] theorem settle_ctx : (settle s).ctx = s.ctx := (rfl)
@[simp] theorem settle_work : (settle s).work = s.work := (rfl)
@[simp] theorem settle_out : (settle s).out = s.out := (rfl)
@[simp] theorem settle_free : (settle s).free = s.free := (rfl)
@[simp] theorem settle_link (z : LinkId) : (settle s).link z = s.link z := (rfl)
@[simp] theorem settle_chan (z : ChanId) : (settle s).chan z = s.chan z := (rfl)
@[simp] theorem settle_exts (z : ChanId) : (settle s).exts z = s.exts z := (rfl)
@[simp] theorem settle_car (z : CarrierId) : (settle s).car z = s.car z := (rfl)
@[simp] theorem settle_slice (z : SliceId) : (settle s).slice z = s.slice z := (rfl)
@[simp] theorem settle_quart (z : Quarter) : (settle s).quart z = s.quart z := (rfl)
@[simp] theorem settle_core (z : CoreId) : (settle s).core z = s.core z := (rfl)
@[simp] theorem settle_key (z : TenantId) : (settle s).key z = s.key z := (rfl)
@[simp] theorem settle_counter (z : Fin 8) : (settle s).counter z = s.counter z := (rfl)

/-! ### What the updates write -/

@[simp] theorem emit_out (o : Out) : (emit o s).out = s.out ++ [o] := (rfl)
@[simp] theorem updLink_links (l : LinkId) (f : LinkSt → LinkSt) : (s.updLink l f).links = upd s.links l f := (rfl)
@[simp] theorem updChan_chans (c : ChanId) (f : ChanSt → ChanSt) : (s.updChan c f).chans = upd s.chans c f := (rfl)
@[simp] theorem updTier_tier (f : TierSt → TierSt) : (s.updTier f).tier = f s.tier := (rfl)
@[simp] theorem updCar_tier (c : CarrierId) (f : CarSt → CarSt) : (s.updCar c f).tier = { s.tier with cars := upd s.tier.cars c f } := (rfl)
@[simp] theorem updPair_pair (f : PairSt → PairSt) : (s.updPair f).pair = f s.pair := (rfl)
@[simp] theorem updCore_work (k : CoreId) (f : CoreSt → CoreSt) : (s.updCore k f).work = { s.work with cores := upd s.work.cores k f } := (rfl)
@[simp] theorem settle_lands : (settle s).lands = s.landLevels := (rfl)

/-! ### One entry of a table -/

@[simp] theorem upd_self {α : Type} {n : Nat} (v : Vector α n) (i : Fin n) (f : α → α) : (upd v i f)[i] = f v[i] := by
  simp [upd]

@[simp] theorem upd_self_val {α : Type} {n : Nat} (v : Vector α n) (i : Fin n) (f : α → α) : (upd v i f)[i.val] = f v[i] := by
  simp [upd]

theorem upd_ne {α : Type} {n : Nat} (v : Vector α n) {i j : Fin n} (f : α → α) (h : i ≠ j) : (upd v i f)[j] = v[j] := by
  have h' : i.val ≠ j.val := fun e => h (Fin.ext e)
  simp [upd, Vector.getElem_set_ne _ _ h']

@[simp] theorem updLink_link_self (l : LinkId) (f : LinkSt → LinkSt) : (s.updLink l f).link l = f (s.link l) := upd_self _ _ _
theorem updLink_link_ne {l m : LinkId} (f : LinkSt → LinkSt) (h : l ≠ m) : (s.updLink l f).link m = s.link m := upd_ne _ _ h
@[simp] theorem updChan_chan_self (c : ChanId) (f : ChanSt → ChanSt) : (s.updChan c f).chan c = f (s.chan c) := upd_self _ _ _
theorem updChan_chan_ne {c d : ChanId} (f : ChanSt → ChanSt) (h : c ≠ d) : (s.updChan c f).chan d = s.chan d := upd_ne _ _ h
@[simp] theorem updCar_car_self (c : CarrierId) (f : CarSt → CarSt) : (s.updCar c f).car c = f (s.car c) := upd_self _ _ _
theorem updCar_car_ne {c d : CarrierId} (f : CarSt → CarSt) (h : c ≠ d) : (s.updCar c f).car d = s.car d := upd_ne _ _ h
@[simp] theorem updSlice_slice_self (i : SliceId) (f : Slice → Slice) : (s.updSlice i f).slice i =
    { f (s.slice i) with ckSt := (f (s.slice i)).st, ckTenant := (f (s.slice i)).tenant } := upd_self _ _ _
@[simp] theorem setKey_key_self (t : TenantId) (k : KeySlot) : (s.setKey t k).key t = k := upd_self _ _ _
theorem setKey_key_ne {t i : TenantId} (k : KeySlot) (h : t ≠ i) : (s.setKey t k).key i = s.key i := upd_ne _ _ h
theorem updSlice_slice_ne {i j : SliceId} (f : Slice → Slice) (h : i ≠ j) : (s.updSlice i f).slice j = s.slice j := upd_ne _ _ h
@[simp] theorem updCore_core_self (k : CoreId) (f : CoreSt → CoreSt) : (s.updCore k f).core k = f (s.core k) := upd_self _ _ _
theorem updCore_core_ne {k j : CoreId} (f : CoreSt → CoreSt) (h : k ≠ j) : (s.updCore k f).core j = s.core j := upd_ne _ _ h

end Sys2Proof.Machine
end

