-- ==== Sys2Proof/Laws/Ops.lean ====
section
/-! SUPPORT. What each shared operation can do: a `_keeps` lemma says which fields it may change (whatever reads none of them is kept),
and from it follows, for each other field, that the operation leaves it. With them the laws of registers, of what is sent, and of replies. -/

namespace Sys2Proof.Machine

/-! ### Folds -/

theorem foldl_keeps {α β : Type} (p : State → α) (f : State → β → State) (h : ∀ s b, p (f s b) = p s) (l : List β) (s : State) :
    p (l.foldl f s) = p s := by
  induction l generalizing s with
  | nil => rfl
  | cons b r ih => exact (ih (f s b)).trans (h s b)

section Keeps
variable {α : Type} (p : State → α)

theorem setReg_keeps (hr : ∀ s x, p { s with regs := x } = p s) (s : State) (r : Reg) (u : Nat) (v : W32) : p (s.setReg r u v) = p s := hr s _

theorem count_keeps (hr : ∀ s x, p { s with regs := x } = p s) (hc : ∀ s x, p { s with cnt64 := x } = p s)
    (s : State) (r : Reg) (u n : Nat) : p (s.count r u n) = p s := by
  unfold State.count
  split
  · split
    · exact hc s _
    · exact hr s _
  · rfl

theorem sendUdp_keeps (hl : ∀ s x, p { s with log := x } = p s) (ho : ∀ s x, p { s with out := x } = p s)
    (s : State) (n : Nat) (b : Bytes) : p (sendUdp n b s) = p s := by
  unfold sendUdp
  split
  · rfl
  · exact (ho _ _).trans (hl s _)

theorem putEv_keeps (hr : ∀ s x, p { s with regs := x } = p s) (hc : ∀ s x, p { s with cnt64 := x } = p s)
    (hl : ∀ s x, p { s with log := x } = p s) (ho : ∀ s x, p { s with out := x } = p s) (s : State) (e : Ev) : p (putEv e s) = p s := by
  have hcount := count_keeps p hr hc
  have hudp := sendUdp_keeps p hl ho
  have hif : ∀ (c : Prop) [Decidable c] (a b : State), p a = p s → p b = p s → p (if c then a else b) = p s := by
    intro c _ a b ha hb; split <;> assumption
  unfold putEv
  simp only
  apply hif
  · rw [hudp]
    apply hif
    · exact (ho _ _).trans ((hl _ _).trans (hif _ _ _ ((hcount _ _ _ _).trans (hl s _)) (hl s _)))
    · exact hif _ _ _ ((hcount _ _ _ _).trans (hl s _)) (hl s _)
  · apply hif
    · exact (ho _ _).trans ((hl _ _).trans (hif _ _ _ ((hcount _ _ _ _).trans (hl s _)) (hl s _)))
    · exact hif _ _ _ ((hcount _ _ _ _).trans (hl s _)) (hl s _)

/-- An entry changes the log, its counters, and what is sent of it, and nothing else. -/
theorem logEv_keeps (hr : ∀ s x, p { s with regs := x } = p s) (hc : ∀ s x, p { s with cnt64 := x } = p s)
    (hl : ∀ s x, p { s with log := x } = p s) (ho : ∀ s x, p { s with out := x } = p s) (s : State) (e : Ev) : p (logEv e s) = p s := by
  have hput := putEv_keeps p hr hc hl ho
  have hroll : p (rollSecond s) = p s := by
    unfold rollSecond
    simp only
    split
    · rfl
    · exact (foldl_keeps p _ (fun s d => hput s _) _ _).trans (hl s _)
  unfold logEv
  split
  · rfl
  · simp only
    split
    · exact (hput _ _).trans ((hl _ _).trans hroll)
    · exact (count_keeps p hr hc _ _ _ _).trans ((hl _ _).trans hroll)

theorem refusedBusy_keeps (hr : ∀ s x, p { s with regs := x } = p s) (hc : ∀ s x, p { s with cnt64 := x } = p s)
    (hl : ∀ s x, p { s with log := x } = p s) (ho : ∀ s x, p { s with out := x } = p s) (s : State) (a b c d : Nat) :
    p (refusedBusy a b c d s) = p s := logEv_keeps p hr hc hl ho s _

theorem conflict_keeps (hr : ∀ s x, p { s with regs := x } = p s) (hc : ∀ s x, p { s with cnt64 := x } = p s)
    (hl : ∀ s x, p { s with log := x } = p s) (ho : ∀ s x, p { s with out := x } = p s) (s : State) (r : Reg) (u a b c : Nat) :
    p (conflict r u a b c s) = p s := (hr _ _).trans (logEv_keeps p hr hc hl ho s _)

theorem advanceTo_keeps (ht : ∀ s x, p { s with time := x } = p s) (s : State) (d : Nat) : p (advanceTo d s) = p s := by
  unfold advanceTo
  split
  · exact ht s _
  · rfl

theorem pace_keeps (ht : ∀ s x, p { s with time := x } = p s) (s : State) (k n : Nat) : p (pace k n s) = p s :=
  (ht _ _).trans (advanceTo_keeps p ht s _)

section Links
variable (hr : ∀ s x, p { s with regs := x } = p s) (hc : ∀ s x, p { s with cnt64 := x } = p s)
  (hk : ∀ s x, p { s with links := x } = p s) (ho : ∀ s x, p { s with out := x } = p s)
include hk ho

theorem sendUnseq_keeps (s : State) (l : LinkId) (t : Nat) (n : Bool) (b : Bytes) : p (sendUnseq l t n b s) = p s :=
  (ho _ _).trans (hk s _)

theorem freeFlit_keeps (s : State) (l : LinkId) (vc : Nat) : p (freeFlit l vc s) = p s := by
  unfold freeFlit
  simp only
  split
  · exact (sendUnseq_keeps p hk ho _ _ _ _ _).trans ((hk _ _).trans (hk s _))
  · exact hk s _

include hr hc

theorem sendSeq_keeps (s : State) (l : LinkId) (t vc : Nat) (hd tl : Bool) (b : Bytes) : p (sendSeq l t vc hd tl b s) = p s := by
  have hcount := count_keeps p hr hc
  unfold sendSeq
  simp only
  split
  · exact (hcount _ _ _ _).trans ((hcount _ _ _ _).trans ((ho _ _).trans (hk s _)))
  · exact (hcount _ _ _ _).trans ((ho _ _).trans (hk s _))

theorem serveLink_keeps (n : Nat) (l : LinkId) (s : State) : p (serveLink l n s) = p s := by
  induction n generalizing s with
  | zero => rfl
  | succ n ih =>
    unfold serveLink
    split
    · next s' h =>
      rw [ih]
      unfold serveOne at h
      simp only at h
      split at h
      · cases h
      · split at h
        · cases h
        · cases h
          split
          · exact (freeFlit_keeps p hk ho _ _ _).trans ((sendSeq_keeps p hr hc hk ho _ _ _ _ _ _ _).trans (hk s _))
          · exact (sendSeq_keeps p hr hc hk ho _ _ _ _ _ _ _).trans (hk s _)
    · rfl

theorem putFlit_keeps (s : State) (l : LinkId) (w : WaitFlit) : p (putFlit l w s) = p s :=
  (serveLink_keeps p hr hc hk ho _ _ _).trans (hk s _)

/-- A message changes what left the device, the link it leaves on and the counters of both, and nothing else. -/
theorem send_keeps (s : State) (m : Msg) : p (send m s) = p s := by
  unfold send
  split
  · exact (ho _ _).trans (count_keeps p hr hc _ _ _ _)
  · simp only
    split
    · exact (foldl_keeps p _ (fun s i => putFlit_keeps p hr hc hk ho s _ _) _ _).trans (ho s _)
    · exact ho s _

theorem coordOut_keeps (hco : ∀ s x, p { s with coord := x } = p s) (s : State) (d : W16) (a : Option Nat) (b : Bytes) :
    p (coordOut d a b s) = p s := by
  unfold coordOut
  split
  · exact hco s _
  · exact send_keeps p hr hc hk ho s _

/-- A reply changes what its issuer reads it in, the log and the counters, and nothing else. -/
theorem reply_keeps (hl : ∀ s x, p { s with log := x } = p s) (hm : ∀ s x, p { s with mbx := x } = p s)
    (hco : ∀ s x, p { s with coord := x } = p s) (hf : ∀ s x, p { s with free := x } = p s)
    (s : State) (h : CmdHdr) (c : Nat) (st : Byte) (n k : Nat) (res : Bytes) : p (reply h c st n k res s) = p s := by
  have hlog := logEv_keeps p hr hc hl ho
  have h1 : p (if st ≠ stOK ∧ res = [] then failResult c s else (res, s)).2 = p s := by
    split
    · unfold failResult
      split
      · rfl
      · split
        · rfl
        · split
          · exact hf s _
          · rfl
    · rfl
  have h2 : ∀ s', p (conflictEv h c n s') = p s' := by
    intro s'
    unfold conflictEv
    simp only
    split <;> first | exact hlog _ _ | exact (count_keeps p hr hc _ _ _ _).trans (hlog _ _)
  unfold reply
  simp only
  generalize (if st ≠ stOK ∧ res = [] then failResult c s else (res, s)) = q at h1
  have h3 : p (if st = stSTATE_CONFLICT then conflictEv h c n q.2 else q.2) = p s := by
    split
    · exact (h2 _).trans h1
    · exact h1
  generalize (if st = stSTATE_CONFLICT then conflictEv h c n q.2 else q.2) = s2 at h3
  split
  · unfold putMbxOut
    exact (hr _ _).trans ((foldl_keeps p _ (fun s i => hr s _) _ _).trans h3)
  · exact (send_keeps p hr hc hk ho _ _).trans ((hm _ _).trans h3)
  · exact (coordOut_keeps p hr hc hk ho hco _ _ _ _).trans ((hco _ _).trans h3)
  · exact (foldl_keeps p _ (fun s q => hr s _) _ _).trans h3
  · exact (hr _ _).trans h3
  · exact (hr _ _).trans h3

end Links

end Keeps

/-! ## Field by field -/

variable (s : State)

/-! ### count -/

@[simp] theorem count_pending (r : Reg) (u n : Nat) : (s.count r u n).pending = s.pending := count_keeps State.pending (fun _ _ => rfl) (fun _ _ => rfl) s _ _ _
@[simp] theorem count_snap (r : Reg) (u n : Nat) : (s.count r u n).snap = s.snap := count_keeps State.snap (fun _ _ => rfl) (fun _ _ => rfl) s _ _ _
@[simp] theorem count_snap64 (r : Reg) (u n : Nat) : (s.count r u n).snap64 = s.snap64 := count_keeps State.snap64 (fun _ _ => rfl) (fun _ _ => rfl) s _ _ _
@[simp] theorem count_latch (r : Reg) (u n : Nat) : (s.count r u n).latch = s.latch := count_keeps State.latch (fun _ _ => rfl) (fun _ _ => rfl) s _ _ _
@[simp] theorem count_i3c (r : Reg) (u n : Nat) : (s.count r u n).i3c = s.i3c := count_keeps State.i3c (fun _ _ => rfl) (fun _ _ => rfl) s _ _ _
@[simp] theorem count_log (r : Reg) (u n : Nat) : (s.count r u n).log = s.log := count_keeps State.log (fun _ _ => rfl) (fun _ _ => rfl) s _ _ _
@[simp] theorem count_plog (r : Reg) (u n : Nat) : (s.count r u n).plog = s.plog := count_keeps State.plog (fun _ _ => rfl) (fun _ _ => rfl) s _ _ _
@[simp] theorem count_time (r : Reg) (u n : Nat) : (s.count r u n).time = s.time := count_keeps State.time (fun _ _ => rfl) (fun _ _ => rfl) s _ _ _
@[simp] theorem count_clk (r : Reg) (u n : Nat) : (s.count r u n).clk = s.clk := count_keeps State.clk (fun _ _ => rfl) (fun _ _ => rfl) s _ _ _
@[simp] theorem count_pwr (r : Reg) (u n : Nat) : (s.count r u n).pwr = s.pwr := count_keeps State.pwr (fun _ _ => rfl) (fun _ _ => rfl) s _ _ _
@[simp] theorem count_blank (r : Reg) (u n : Nat) : (s.count r u n).blank = s.blank := count_keeps State.blank (fun _ _ => rfl) (fun _ _ => rfl) s _ _ _
@[simp] theorem count_su (r : Reg) (u n : Nat) : (s.count r u n).su = s.su := count_keeps State.su (fun _ _ => rfl) (fun _ _ => rfl) s _ _ _
@[simp] theorem count_hw (r : Reg) (u n : Nat) : (s.count r u n).hw = s.hw := count_keeps State.hw (fun _ _ => rfl) (fun _ _ => rfl) s _ _ _
@[simp] theorem count_slices (r : Reg) (u n : Nat) : (s.count r u n).slices = s.slices := count_keeps State.slices (fun _ _ => rfl) (fun _ _ => rfl) s _ _ _
@[simp] theorem count_quarts (r : Reg) (u n : Nat) : (s.count r u n).quarts = s.quarts := count_keeps State.quarts (fun _ _ => rfl) (fun _ _ => rfl) s _ _ _
@[simp] theorem count_pin (r : Reg) (u n : Nat) : (s.count r u n).pin = s.pin := count_keeps State.pin (fun _ _ => rfl) (fun _ _ => rfl) s _ _ _
@[simp] theorem count_lands (r : Reg) (u n : Nat) : (s.count r u n).lands = s.lands := count_keeps State.lands (fun _ _ => rfl) (fun _ _ => rfl) s _ _ _
@[simp] theorem count_links (r : Reg) (u n : Nat) : (s.count r u n).links = s.links := count_keeps State.links (fun _ _ => rfl) (fun _ _ => rfl) s _ _ _
@[simp] theorem count_alive (r : Reg) (u n : Nat) : (s.count r u n).alive = s.alive := count_keeps State.alive (fun _ _ => rfl) (fun _ _ => rfl) s _ _ _
@[simp] theorem count_shp (r : Reg) (u n : Nat) : (s.count r u n).shp = s.shp := count_keeps State.shp (fun _ _ => rfl) (fun _ _ => rfl) s _ _ _
@[simp] theorem count_spn (r : Reg) (u n : Nat) : (s.count r u n).spn = s.spn := count_keeps State.spn (fun _ _ => rfl) (fun _ _ => rfl) s _ _ _
@[simp] theorem count_pair (r : Reg) (u n : Nat) : (s.count r u n).pair = s.pair := count_keeps State.pair (fun _ _ => rfl) (fun _ _ => rfl) s _ _ _
@[simp] theorem count_head (r : Reg) (u n : Nat) : (s.count r u n).head = s.head := count_keeps State.head (fun _ _ => rfl) (fun _ _ => rfl) s _ _ _
@[simp] theorem count_coord (r : Reg) (u n : Nat) : (s.count r u n).coord = s.coord := count_keeps State.coord (fun _ _ => rfl) (fun _ _ => rfl) s _ _ _
@[simp] theorem count_job (r : Reg) (u n : Nat) : (s.count r u n).job = s.job := count_keeps State.job (fun _ _ => rfl) (fun _ _ => rfl) s _ _ _
@[simp] theorem count_satt (r : Reg) (u n : Nat) : (s.count r u n).satt = s.satt := count_keeps State.satt (fun _ _ => rfl) (fun _ _ => rfl) s _ _ _
@[simp] theorem count_mbx (r : Reg) (u n : Nat) : (s.count r u n).mbx = s.mbx := count_keeps State.mbx (fun _ _ => rfl) (fun _ _ => rfl) s _ _ _
@[simp] theorem count_obs (r : Reg) (u n : Nat) : (s.count r u n).obs = s.obs := count_keeps State.obs (fun _ _ => rfl) (fun _ _ => rfl) s _ _ _
@[simp] theorem count_mem (r : Reg) (u n : Nat) : (s.count r u n).mem = s.mem := count_keeps State.mem (fun _ _ => rfl) (fun _ _ => rfl) s _ _ _
@[simp] theorem count_poison (r : Reg) (u n : Nat) : (s.count r u n).poison = s.poison := count_keeps State.poison (fun _ _ => rfl) (fun _ _ => rfl) s _ _ _
@[simp] theorem count_upsets (r : Reg) (u n : Nat) : (s.count r u n).upsets = s.upsets := count_keeps State.upsets (fun _ _ => rfl) (fun _ _ => rfl) s _ _ _
@[simp] theorem count_chans (r : Reg) (u n : Nat) : (s.count r u n).chans = s.chans := count_keeps State.chans (fun _ _ => rfl) (fun _ _ => rfl) s _ _ _
@[simp] theorem count_tags (r : Reg) (u n : Nat) : (s.count r u n).tags = s.tags := count_keeps State.tags (fun _ _ => rfl) (fun _ _ => rfl) s _ _ _
@[simp] theorem count_tagc (r : Reg) (u n : Nat) : (s.count r u n).tagc = s.tagc := count_keeps State.tagc (fun _ _ => rfl) (fun _ _ => rfl) s _ _ _
@[simp] theorem count_pins (r : Reg) (u n : Nat) : (s.count r u n).pins = s.pins := count_keeps State.pins (fun _ _ => rfl) (fun _ _ => rfl) s _ _ _
@[simp] theorem count_tier (r : Reg) (u n : Nat) : (s.count r u n).tier = s.tier := count_keeps State.tier (fun _ _ => rfl) (fun _ _ => rfl) s _ _ _
@[simp] theorem count_pool (r : Reg) (u n : Nat) : (s.count r u n).pool = s.pool := count_keeps State.pool (fun _ _ => rfl) (fun _ _ => rfl) s _ _ _
@[simp] theorem count_rgn (r : Reg) (u n : Nat) : (s.count r u n).rgn = s.rgn := count_keeps State.rgn (fun _ _ => rfl) (fun _ _ => rfl) s _ _ _
@[simp] theorem count_ctx (r : Reg) (u n : Nat) : (s.count r u n).ctx = s.ctx := count_keeps State.ctx (fun _ _ => rfl) (fun _ _ => rfl) s _ _ _
@[simp] theorem count_work (r : Reg) (u n : Nat) : (s.count r u n).work = s.work := count_keeps State.work (fun _ _ => rfl) (fun _ _ => rfl) s _ _ _
@[simp] theorem count_out (r : Reg) (u n : Nat) : (s.count r u n).out = s.out := count_keeps State.out (fun _ _ => rfl) (fun _ _ => rfl) s _ _ _
@[simp] theorem count_free (r : Reg) (u n : Nat) : (s.count r u n).free = s.free := count_keeps State.free (fun _ _ => rfl) (fun _ _ => rfl) s _ _ _
@[simp] theorem count_link (r : Reg) (u n : Nat) (z : LinkId) : (s.count r u n).link z = s.link z := count_keeps (fun x => State.link x z) (fun _ _ => rfl) (fun _ _ => rfl) s _ _ _
@[simp] theorem count_chan (r : Reg) (u n : Nat) (z : ChanId) : (s.count r u n).chan z = s.chan z := count_keeps (fun x => State.chan x z) (fun _ _ => rfl) (fun _ _ => rfl) s _ _ _
@[simp] theorem count_exts (r : Reg) (u n : Nat) (z : ChanId) : (s.count r u n).exts z = s.exts z := count_keeps (fun x => State.exts x z) (fun _ _ => rfl) (fun _ _ => rfl) s _ _ _
@[simp] theorem count_car (r : Reg) (u n : Nat) (z : CarrierId) : (s.count r u n).car z = s.car z := count_keeps (fun x => State.car x z) (fun _ _ => rfl) (fun _ _ => rfl) s _ _ _
@[simp] theorem count_slice (r : Reg) (u n : Nat) (z : SliceId) : (s.count r u n).slice z = s.slice z := count_keeps (fun x => State.slice x z) (fun _ _ => rfl) (fun _ _ => rfl) s _ _ _
@[simp] theorem count_quart (r : Reg) (u n : Nat) (z : Quarter) : (s.count r u n).quart z = s.quart z := count_keeps (fun x => State.quart x z) (fun _ _ => rfl) (fun _ _ => rfl) s _ _ _
@[simp] theorem count_core (r : Reg) (u n : Nat) (z : CoreId) : (s.count r u n).core z = s.core z := count_keeps (fun x => State.core x z) (fun _ _ => rfl) (fun _ _ => rfl) s _ _ _
@[simp] theorem count_key (r : Reg) (u n : Nat) (z : TenantId) : (s.count r u n).key z = s.key z := count_keeps (fun x => State.key x z) (fun _ _ => rfl) (fun _ _ => rfl) s _ _ _
@[simp] theorem count_counter (r : Reg) (u n : Nat) (z : Fin 8) : (s.count r u n).counter z = s.counter z := count_keeps (fun x => State.counter x z) (fun _ _ => rfl) (fun _ _ => rfl) s _ _ _

/-! ### logEv -/

@[simp] theorem logEv_pending (e : Ev) : (logEv e s).pending = s.pending := logEv_keeps State.pending (fun _ _ => rfl) (fun _ _ => rfl) (fun _ _ => rfl) (fun _ _ => rfl) s _
@[simp] theorem logEv_snap (e : Ev) : (logEv e s).snap = s.snap := logEv_keeps State.snap (fun _ _ => rfl) (fun _ _ => rfl) (fun _ _ => rfl) (fun _ _ => rfl) s _
@[simp] theorem logEv_snap64 (e : Ev) : (logEv e s).snap64 = s.snap64 := logEv_keeps State.snap64 (fun _ _ => rfl) (fun _ _ => rfl) (fun _ _ => rfl) (fun _ _ => rfl) s _
@[simp] theorem logEv_latch (e : Ev) : (logEv e s).latch = s.latch := logEv_keeps State.latch (fun _ _ => rfl) (fun _ _ => rfl) (fun _ _ => rfl) (fun _ _ => rfl) s _
@[simp] theorem logEv_i3c (e : Ev) : (logEv e s).i3c = s.i3c := logEv_keeps State.i3c (fun _ _ => rfl) (fun _ _ => rfl) (fun _ _ => rfl) (fun _ _ => rfl) s _
@[simp] theorem logEv_plog (e : Ev) : (logEv e s).plog = s.plog := logEv_keeps State.plog (fun _ _ => rfl) (fun _ _ => rfl) (fun _ _ => rfl) (fun _ _ => rfl) s _
@[simp] theorem logEv_time (e : Ev) : (logEv e s).time = s.time := logEv_keeps State.time (fun _ _ => rfl) (fun _ _ => rfl) (fun _ _ => rfl) (fun _ _ => rfl) s _
@[simp] theorem logEv_clk (e : Ev) : (logEv e s).clk = s.clk := logEv_keeps State.clk (fun _ _ => rfl) (fun _ _ => rfl) (fun _ _ => rfl) (fun _ _ => rfl) s _
@[simp] theorem logEv_pwr (e : Ev) : (logEv e s).pwr = s.pwr := logEv_keeps State.pwr (fun _ _ => rfl) (fun _ _ => rfl) (fun _ _ => rfl) (fun _ _ => rfl) s _
@[simp] theorem logEv_blank (e : Ev) : (logEv e s).blank = s.blank := logEv_keeps State.blank (fun _ _ => rfl) (fun _ _ => rfl) (fun _ _ => rfl) (fun _ _ => rfl) s _
@[simp] theorem logEv_su (e : Ev) : (logEv e s).su = s.su := logEv_keeps State.su (fun _ _ => rfl) (fun _ _ => rfl) (fun _ _ => rfl) (fun _ _ => rfl) s _
@[simp] theorem logEv_hw (e : Ev) : (logEv e s).hw = s.hw := logEv_keeps State.hw (fun _ _ => rfl) (fun _ _ => rfl) (fun _ _ => rfl) (fun _ _ => rfl) s _
@[simp] theorem logEv_slices (e : Ev) : (logEv e s).slices = s.slices := logEv_keeps State.slices (fun _ _ => rfl) (fun _ _ => rfl) (fun _ _ => rfl) (fun _ _ => rfl) s _
@[simp] theorem logEv_quarts (e : Ev) : (logEv e s).quarts = s.quarts := logEv_keeps State.quarts (fun _ _ => rfl) (fun _ _ => rfl) (fun _ _ => rfl) (fun _ _ => rfl) s _
@[simp] theorem logEv_pin (e : Ev) : (logEv e s).pin = s.pin := logEv_keeps State.pin (fun _ _ => rfl) (fun _ _ => rfl) (fun _ _ => rfl) (fun _ _ => rfl) s _
@[simp] theorem logEv_lands (e : Ev) : (logEv e s).lands = s.lands := logEv_keeps State.lands (fun _ _ => rfl) (fun _ _ => rfl) (fun _ _ => rfl) (fun _ _ => rfl) s _
@[simp] theorem logEv_links (e : Ev) : (logEv e s).links = s.links := logEv_keeps State.links (fun _ _ => rfl) (fun _ _ => rfl) (fun _ _ => rfl) (fun _ _ => rfl) s _
@[simp] theorem logEv_alive (e : Ev) : (logEv e s).alive = s.alive := logEv_keeps State.alive (fun _ _ => rfl) (fun _ _ => rfl) (fun _ _ => rfl) (fun _ _ => rfl) s _
@[simp] theorem logEv_shp (e : Ev) : (logEv e s).shp = s.shp := logEv_keeps State.shp (fun _ _ => rfl) (fun _ _ => rfl) (fun _ _ => rfl) (fun _ _ => rfl) s _
@[simp] theorem logEv_spn (e : Ev) : (logEv e s).spn = s.spn := logEv_keeps State.spn (fun _ _ => rfl) (fun _ _ => rfl) (fun _ _ => rfl) (fun _ _ => rfl) s _
@[simp] theorem logEv_pair (e : Ev) : (logEv e s).pair = s.pair := logEv_keeps State.pair (fun _ _ => rfl) (fun _ _ => rfl) (fun _ _ => rfl) (fun _ _ => rfl) s _
@[simp] theorem logEv_head (e : Ev) : (logEv e s).head = s.head := logEv_keeps State.head (fun _ _ => rfl) (fun _ _ => rfl) (fun _ _ => rfl) (fun _ _ => rfl) s _
@[simp] theorem logEv_coord (e : Ev) : (logEv e s).coord = s.coord := logEv_keeps State.coord (fun _ _ => rfl) (fun _ _ => rfl) (fun _ _ => rfl) (fun _ _ => rfl) s _
@[simp] theorem logEv_job (e : Ev) : (logEv e s).job = s.job := logEv_keeps State.job (fun _ _ => rfl) (fun _ _ => rfl) (fun _ _ => rfl) (fun _ _ => rfl) s _
@[simp] theorem logEv_satt (e : Ev) : (logEv e s).satt = s.satt := logEv_keeps State.satt (fun _ _ => rfl) (fun _ _ => rfl) (fun _ _ => rfl) (fun _ _ => rfl) s _
@[simp] theorem logEv_mbx (e : Ev) : (logEv e s).mbx = s.mbx := logEv_keeps State.mbx (fun _ _ => rfl) (fun _ _ => rfl) (fun _ _ => rfl) (fun _ _ => rfl) s _
@[simp] theorem logEv_obs (e : Ev) : (logEv e s).obs = s.obs := logEv_keeps State.obs (fun _ _ => rfl) (fun _ _ => rfl) (fun _ _ => rfl) (fun _ _ => rfl) s _
@[simp] theorem logEv_mem (e : Ev) : (logEv e s).mem = s.mem := logEv_keeps State.mem (fun _ _ => rfl) (fun _ _ => rfl) (fun _ _ => rfl) (fun _ _ => rfl) s _
@[simp] theorem logEv_poison (e : Ev) : (logEv e s).poison = s.poison := logEv_keeps State.poison (fun _ _ => rfl) (fun _ _ => rfl) (fun _ _ => rfl) (fun _ _ => rfl) s _
@[simp] theorem logEv_upsets (e : Ev) : (logEv e s).upsets = s.upsets := logEv_keeps State.upsets (fun _ _ => rfl) (fun _ _ => rfl) (fun _ _ => rfl) (fun _ _ => rfl) s _
@[simp] theorem logEv_chans (e : Ev) : (logEv e s).chans = s.chans := logEv_keeps State.chans (fun _ _ => rfl) (fun _ _ => rfl) (fun _ _ => rfl) (fun _ _ => rfl) s _
@[simp] theorem logEv_tags (e : Ev) : (logEv e s).tags = s.tags := logEv_keeps State.tags (fun _ _ => rfl) (fun _ _ => rfl) (fun _ _ => rfl) (fun _ _ => rfl) s _
@[simp] theorem logEv_tagc (e : Ev) : (logEv e s).tagc = s.tagc := logEv_keeps State.tagc (fun _ _ => rfl) (fun _ _ => rfl) (fun _ _ => rfl) (fun _ _ => rfl) s _
@[simp] theorem logEv_pins (e : Ev) : (logEv e s).pins = s.pins := logEv_keeps State.pins (fun _ _ => rfl) (fun _ _ => rfl) (fun _ _ => rfl) (fun _ _ => rfl) s _
@[simp] theorem logEv_tier (e : Ev) : (logEv e s).tier = s.tier := logEv_keeps State.tier (fun _ _ => rfl) (fun _ _ => rfl) (fun _ _ => rfl) (fun _ _ => rfl) s _
@[simp] theorem logEv_pool (e : Ev) : (logEv e s).pool = s.pool := logEv_keeps State.pool (fun _ _ => rfl) (fun _ _ => rfl) (fun _ _ => rfl) (fun _ _ => rfl) s _
@[simp] theorem logEv_rgn (e : Ev) : (logEv e s).rgn = s.rgn := logEv_keeps State.rgn (fun _ _ => rfl) (fun _ _ => rfl) (fun _ _ => rfl) (fun _ _ => rfl) s _
@[simp] theorem logEv_ctx (e : Ev) : (logEv e s).ctx = s.ctx := logEv_keeps State.ctx (fun _ _ => rfl) (fun _ _ => rfl) (fun _ _ => rfl) (fun _ _ => rfl) s _
@[simp] theorem logEv_work (e : Ev) : (logEv e s).work = s.work := logEv_keeps State.work (fun _ _ => rfl) (fun _ _ => rfl) (fun _ _ => rfl) (fun _ _ => rfl) s _
@[simp] theorem logEv_free (e : Ev) : (logEv e s).free = s.free := logEv_keeps State.free (fun _ _ => rfl) (fun _ _ => rfl) (fun _ _ => rfl) (fun _ _ => rfl) s _
@[simp] theorem logEv_link (e : Ev) (z : LinkId) : (logEv e s).link z = s.link z := logEv_keeps (fun x => State.link x z) (fun _ _ => rfl) (fun _ _ => rfl) (fun _ _ => rfl) (fun _ _ => rfl) s _
@[simp] theorem logEv_chan (e : Ev) (z : ChanId) : (logEv e s).chan z = s.chan z := logEv_keeps (fun x => State.chan x z) (fun _ _ => rfl) (fun _ _ => rfl) (fun _ _ => rfl) (fun _ _ => rfl) s _
@[simp] theorem logEv_exts (e : Ev) (z : ChanId) : (logEv e s).exts z = s.exts z := logEv_keeps (fun x => State.exts x z) (fun _ _ => rfl) (fun _ _ => rfl) (fun _ _ => rfl) (fun _ _ => rfl) s _
@[simp] theorem logEv_car (e : Ev) (z : CarrierId) : (logEv e s).car z = s.car z := logEv_keeps (fun x => State.car x z) (fun _ _ => rfl) (fun _ _ => rfl) (fun _ _ => rfl) (fun _ _ => rfl) s _
@[simp] theorem logEv_slice (e : Ev) (z : SliceId) : (logEv e s).slice z = s.slice z := logEv_keeps (fun x => State.slice x z) (fun _ _ => rfl) (fun _ _ => rfl) (fun _ _ => rfl) (fun _ _ => rfl) s _
@[simp] theorem logEv_quart (e : Ev) (z : Quarter) : (logEv e s).quart z = s.quart z := logEv_keeps (fun x => State.quart x z) (fun _ _ => rfl) (fun _ _ => rfl) (fun _ _ => rfl) (fun _ _ => rfl) s _
@[simp] theorem logEv_core (e : Ev) (z : CoreId) : (logEv e s).core z = s.core z := logEv_keeps (fun x => State.core x z) (fun _ _ => rfl) (fun _ _ => rfl) (fun _ _ => rfl) (fun _ _ => rfl) s _
@[simp] theorem logEv_key (e : Ev) (z : TenantId) : (logEv e s).key z = s.key z := logEv_keeps (fun x => State.key x z) (fun _ _ => rfl) (fun _ _ => rfl) (fun _ _ => rfl) (fun _ _ => rfl) s _
@[simp] theorem logEv_counter (e : Ev) (z : Fin 8) : (logEv e s).counter z = s.counter z := logEv_keeps (fun x => State.counter x z) (fun _ _ => rfl) (fun _ _ => rfl) (fun _ _ => rfl) (fun _ _ => rfl) s _

/-! ### refusedBusy -/

@[simp] theorem refusedBusy_pending (a b c d : Nat) : (refusedBusy a b c d s).pending = s.pending := refusedBusy_keeps State.pending (fun _ _ => rfl) (fun _ _ => rfl) (fun _ _ => rfl) (fun _ _ => rfl) s _ _ _ _
@[simp] theorem refusedBusy_snap (a b c d : Nat) : (refusedBusy a b c d s).snap = s.snap := refusedBusy_keeps State.snap (fun _ _ => rfl) (fun _ _ => rfl) (fun _ _ => rfl) (fun _ _ => rfl) s _ _ _ _
@[simp] theorem refusedBusy_snap64 (a b c d : Nat) : (refusedBusy a b c d s).snap64 = s.snap64 := refusedBusy_keeps State.snap64 (fun _ _ => rfl) (fun _ _ => rfl) (fun _ _ => rfl) (fun _ _ => rfl) s _ _ _ _
@[simp] theorem refusedBusy_latch (a b c d : Nat) : (refusedBusy a b c d s).latch = s.latch := refusedBusy_keeps State.latch (fun _ _ => rfl) (fun _ _ => rfl) (fun _ _ => rfl) (fun _ _ => rfl) s _ _ _ _
@[simp] theorem refusedBusy_i3c (a b c d : Nat) : (refusedBusy a b c d s).i3c = s.i3c := refusedBusy_keeps State.i3c (fun _ _ => rfl) (fun _ _ => rfl) (fun _ _ => rfl) (fun _ _ => rfl) s _ _ _ _
@[simp] theorem refusedBusy_plog (a b c d : Nat) : (refusedBusy a b c d s).plog = s.plog := refusedBusy_keeps State.plog (fun _ _ => rfl) (fun _ _ => rfl) (fun _ _ => rfl) (fun _ _ => rfl) s _ _ _ _
@[simp] theorem refusedBusy_time (a b c d : Nat) : (refusedBusy a b c d s).time = s.time := refusedBusy_keeps State.time (fun _ _ => rfl) (fun _ _ => rfl) (fun _ _ => rfl) (fun _ _ => rfl) s _ _ _ _
@[simp] theorem refusedBusy_clk (a b c d : Nat) : (refusedBusy a b c d s).clk = s.clk := refusedBusy_keeps State.clk (fun _ _ => rfl) (fun _ _ => rfl) (fun _ _ => rfl) (fun _ _ => rfl) s _ _ _ _
@[simp] theorem refusedBusy_pwr (a b c d : Nat) : (refusedBusy a b c d s).pwr = s.pwr := refusedBusy_keeps State.pwr (fun _ _ => rfl) (fun _ _ => rfl) (fun _ _ => rfl) (fun _ _ => rfl) s _ _ _ _
@[simp] theorem refusedBusy_blank (a b c d : Nat) : (refusedBusy a b c d s).blank = s.blank := refusedBusy_keeps State.blank (fun _ _ => rfl) (fun _ _ => rfl) (fun _ _ => rfl) (fun _ _ => rfl) s _ _ _ _
@[simp] theorem refusedBusy_su (a b c d : Nat) : (refusedBusy a b c d s).su = s.su := refusedBusy_keeps State.su (fun _ _ => rfl) (fun _ _ => rfl) (fun _ _ => rfl) (fun _ _ => rfl) s _ _ _ _
@[simp] theorem refusedBusy_hw (a b c d : Nat) : (refusedBusy a b c d s).hw = s.hw := refusedBusy_keeps State.hw (fun _ _ => rfl) (fun _ _ => rfl) (fun _ _ => rfl) (fun _ _ => rfl) s _ _ _ _
@[simp] theorem refusedBusy_slices (a b c d : Nat) : (refusedBusy a b c d s).slices = s.slices := refusedBusy_keeps State.slices (fun _ _ => rfl) (fun _ _ => rfl) (fun _ _ => rfl) (fun _ _ => rfl) s _ _ _ _
@[simp] theorem refusedBusy_quarts (a b c d : Nat) : (refusedBusy a b c d s).quarts = s.quarts := refusedBusy_keeps State.quarts (fun _ _ => rfl) (fun _ _ => rfl) (fun _ _ => rfl) (fun _ _ => rfl) s _ _ _ _
@[simp] theorem refusedBusy_pin (a b c d : Nat) : (refusedBusy a b c d s).pin = s.pin := refusedBusy_keeps State.pin (fun _ _ => rfl) (fun _ _ => rfl) (fun _ _ => rfl) (fun _ _ => rfl) s _ _ _ _
@[simp] theorem refusedBusy_lands (a b c d : Nat) : (refusedBusy a b c d s).lands = s.lands := refusedBusy_keeps State.lands (fun _ _ => rfl) (fun _ _ => rfl) (fun _ _ => rfl) (fun _ _ => rfl) s _ _ _ _
@[simp] theorem refusedBusy_links (a b c d : Nat) : (refusedBusy a b c d s).links = s.links := refusedBusy_keeps State.links (fun _ _ => rfl) (fun _ _ => rfl) (fun _ _ => rfl) (fun _ _ => rfl) s _ _ _ _
@[simp] theorem refusedBusy_alive (a b c d : Nat) : (refusedBusy a b c d s).alive = s.alive := refusedBusy_keeps State.alive (fun _ _ => rfl) (fun _ _ => rfl) (fun _ _ => rfl) (fun _ _ => rfl) s _ _ _ _
@[simp] theorem refusedBusy_shp (a b c d : Nat) : (refusedBusy a b c d s).shp = s.shp := refusedBusy_keeps State.shp (fun _ _ => rfl) (fun _ _ => rfl) (fun _ _ => rfl) (fun _ _ => rfl) s _ _ _ _
@[simp] theorem refusedBusy_spn (a b c d : Nat) : (refusedBusy a b c d s).spn = s.spn := refusedBusy_keeps State.spn (fun _ _ => rfl) (fun _ _ => rfl) (fun _ _ => rfl) (fun _ _ => rfl) s _ _ _ _
@[simp] theorem refusedBusy_pair (a b c d : Nat) : (refusedBusy a b c d s).pair = s.pair := refusedBusy_keeps State.pair (fun _ _ => rfl) (fun _ _ => rfl) (fun _ _ => rfl) (fun _ _ => rfl) s _ _ _ _
@[simp] theorem refusedBusy_head (a b c d : Nat) : (refusedBusy a b c d s).head = s.head := refusedBusy_keeps State.head (fun _ _ => rfl) (fun _ _ => rfl) (fun _ _ => rfl) (fun _ _ => rfl) s _ _ _ _
@[simp] theorem refusedBusy_coord (a b c d : Nat) : (refusedBusy a b c d s).coord = s.coord := refusedBusy_keeps State.coord (fun _ _ => rfl) (fun _ _ => rfl) (fun _ _ => rfl) (fun _ _ => rfl) s _ _ _ _
@[simp] theorem refusedBusy_job (a b c d : Nat) : (refusedBusy a b c d s).job = s.job := refusedBusy_keeps State.job (fun _ _ => rfl) (fun _ _ => rfl) (fun _ _ => rfl) (fun _ _ => rfl) s _ _ _ _
@[simp] theorem refusedBusy_satt (a b c d : Nat) : (refusedBusy a b c d s).satt = s.satt := refusedBusy_keeps State.satt (fun _ _ => rfl) (fun _ _ => rfl) (fun _ _ => rfl) (fun _ _ => rfl) s _ _ _ _
@[simp] theorem refusedBusy_mbx (a b c d : Nat) : (refusedBusy a b c d s).mbx = s.mbx := refusedBusy_keeps State.mbx (fun _ _ => rfl) (fun _ _ => rfl) (fun _ _ => rfl) (fun _ _ => rfl) s _ _ _ _
@[simp] theorem refusedBusy_obs (a b c d : Nat) : (refusedBusy a b c d s).obs = s.obs := refusedBusy_keeps State.obs (fun _ _ => rfl) (fun _ _ => rfl) (fun _ _ => rfl) (fun _ _ => rfl) s _ _ _ _
@[simp] theorem refusedBusy_mem (a b c d : Nat) : (refusedBusy a b c d s).mem = s.mem := refusedBusy_keeps State.mem (fun _ _ => rfl) (fun _ _ => rfl) (fun _ _ => rfl) (fun _ _ => rfl) s _ _ _ _
@[simp] theorem refusedBusy_poison (a b c d : Nat) : (refusedBusy a b c d s).poison = s.poison := refusedBusy_keeps State.poison (fun _ _ => rfl) (fun _ _ => rfl) (fun _ _ => rfl) (fun _ _ => rfl) s _ _ _ _
@[simp] theorem refusedBusy_upsets (a b c d : Nat) : (refusedBusy a b c d s).upsets = s.upsets := refusedBusy_keeps State.upsets (fun _ _ => rfl) (fun _ _ => rfl) (fun _ _ => rfl) (fun _ _ => rfl) s _ _ _ _
@[simp] theorem refusedBusy_chans (a b c d : Nat) : (refusedBusy a b c d s).chans = s.chans := refusedBusy_keeps State.chans (fun _ _ => rfl) (fun _ _ => rfl) (fun _ _ => rfl) (fun _ _ => rfl) s _ _ _ _
@[simp] theorem refusedBusy_tags (a b c d : Nat) : (refusedBusy a b c d s).tags = s.tags := refusedBusy_keeps State.tags (fun _ _ => rfl) (fun _ _ => rfl) (fun _ _ => rfl) (fun _ _ => rfl) s _ _ _ _
@[simp] theorem refusedBusy_tagc (a b c d : Nat) : (refusedBusy a b c d s).tagc = s.tagc := refusedBusy_keeps State.tagc (fun _ _ => rfl) (fun _ _ => rfl) (fun _ _ => rfl) (fun _ _ => rfl) s _ _ _ _
@[simp] theorem refusedBusy_pins (a b c d : Nat) : (refusedBusy a b c d s).pins = s.pins := refusedBusy_keeps State.pins (fun _ _ => rfl) (fun _ _ => rfl) (fun _ _ => rfl) (fun _ _ => rfl) s _ _ _ _
@[simp] theorem refusedBusy_tier (a b c d : Nat) : (refusedBusy a b c d s).tier = s.tier := refusedBusy_keeps State.tier (fun _ _ => rfl) (fun _ _ => rfl) (fun _ _ => rfl) (fun _ _ => rfl) s _ _ _ _
@[simp] theorem refusedBusy_pool (a b c d : Nat) : (refusedBusy a b c d s).pool = s.pool := refusedBusy_keeps State.pool (fun _ _ => rfl) (fun _ _ => rfl) (fun _ _ => rfl) (fun _ _ => rfl) s _ _ _ _
@[simp] theorem refusedBusy_rgn (a b c d : Nat) : (refusedBusy a b c d s).rgn = s.rgn := refusedBusy_keeps State.rgn (fun _ _ => rfl) (fun _ _ => rfl) (fun _ _ => rfl) (fun _ _ => rfl) s _ _ _ _
@[simp] theorem refusedBusy_ctx (a b c d : Nat) : (refusedBusy a b c d s).ctx = s.ctx := refusedBusy_keeps State.ctx (fun _ _ => rfl) (fun _ _ => rfl) (fun _ _ => rfl) (fun _ _ => rfl) s _ _ _ _
@[simp] theorem refusedBusy_work (a b c d : Nat) : (refusedBusy a b c d s).work = s.work := refusedBusy_keeps State.work (fun _ _ => rfl) (fun _ _ => rfl) (fun _ _ => rfl) (fun _ _ => rfl) s _ _ _ _
@[simp] theorem refusedBusy_free (a b c d : Nat) : (refusedBusy a b c d s).free = s.free := refusedBusy_keeps State.free (fun _ _ => rfl) (fun _ _ => rfl) (fun _ _ => rfl) (fun _ _ => rfl) s _ _ _ _
@[simp] theorem refusedBusy_link (a b c d : Nat) (z : LinkId) : (refusedBusy a b c d s).link z = s.link z := refusedBusy_keeps (fun x => State.link x z) (fun _ _ => rfl) (fun _ _ => rfl) (fun _ _ => rfl) (fun _ _ => rfl) s _ _ _ _
@[simp] theorem refusedBusy_chan (a b c d : Nat) (z : ChanId) : (refusedBusy a b c d s).chan z = s.chan z := refusedBusy_keeps (fun x => State.chan x z) (fun _ _ => rfl) (fun _ _ => rfl) (fun _ _ => rfl) (fun _ _ => rfl) s _ _ _ _
@[simp] theorem refusedBusy_exts (a b c d : Nat) (z : ChanId) : (refusedBusy a b c d s).exts z = s.exts z := refusedBusy_keeps (fun x => State.exts x z) (fun _ _ => rfl) (fun _ _ => rfl) (fun _ _ => rfl) (fun _ _ => rfl) s _ _ _ _
@[simp] theorem refusedBusy_car (a b c d : Nat) (z : CarrierId) : (refusedBusy a b c d s).car z = s.car z := refusedBusy_keeps (fun x => State.car x z) (fun _ _ => rfl) (fun _ _ => rfl) (fun _ _ => rfl) (fun _ _ => rfl) s _ _ _ _
@[simp] theorem refusedBusy_slice (a b c d : Nat) (z : SliceId) : (refusedBusy a b c d s).slice z = s.slice z := refusedBusy_keeps (fun x => State.slice x z) (fun _ _ => rfl) (fun _ _ => rfl) (fun _ _ => rfl) (fun _ _ => rfl) s _ _ _ _
@[simp] theorem refusedBusy_quart (a b c d : Nat) (z : Quarter) : (refusedBusy a b c d s).quart z = s.quart z := refusedBusy_keeps (fun x => State.quart x z) (fun _ _ => rfl) (fun _ _ => rfl) (fun _ _ => rfl) (fun _ _ => rfl) s _ _ _ _
@[simp] theorem refusedBusy_core (a b c d : Nat) (z : CoreId) : (refusedBusy a b c d s).core z = s.core z := refusedBusy_keeps (fun x => State.core x z) (fun _ _ => rfl) (fun _ _ => rfl) (fun _ _ => rfl) (fun _ _ => rfl) s _ _ _ _
@[simp] theorem refusedBusy_key (a b c d : Nat) (z : TenantId) : (refusedBusy a b c d s).key z = s.key z := refusedBusy_keeps (fun x => State.key x z) (fun _ _ => rfl) (fun _ _ => rfl) (fun _ _ => rfl) (fun _ _ => rfl) s _ _ _ _
@[simp] theorem refusedBusy_counter (a b c d : Nat) (z : Fin 8) : (refusedBusy a b c d s).counter z = s.counter z := refusedBusy_keeps (fun x => State.counter x z) (fun _ _ => rfl) (fun _ _ => rfl) (fun _ _ => rfl) (fun _ _ => rfl) s _ _ _ _

/-! ### conflict -/

@[simp] theorem conflict_pending (r : Reg) (u a b c : Nat) : (conflict r u a b c s).pending = s.pending := conflict_keeps State.pending (fun _ _ => rfl) (fun _ _ => rfl) (fun _ _ => rfl) (fun _ _ => rfl) s _ _ _ _ _
@[simp] theorem conflict_snap (r : Reg) (u a b c : Nat) : (conflict r u a b c s).snap = s.snap := conflict_keeps State.snap (fun _ _ => rfl) (fun _ _ => rfl) (fun _ _ => rfl) (fun _ _ => rfl) s _ _ _ _ _
@[simp] theorem conflict_snap64 (r : Reg) (u a b c : Nat) : (conflict r u a b c s).snap64 = s.snap64 := conflict_keeps State.snap64 (fun _ _ => rfl) (fun _ _ => rfl) (fun _ _ => rfl) (fun _ _ => rfl) s _ _ _ _ _
@[simp] theorem conflict_latch (r : Reg) (u a b c : Nat) : (conflict r u a b c s).latch = s.latch := conflict_keeps State.latch (fun _ _ => rfl) (fun _ _ => rfl) (fun _ _ => rfl) (fun _ _ => rfl) s _ _ _ _ _
@[simp] theorem conflict_i3c (r : Reg) (u a b c : Nat) : (conflict r u a b c s).i3c = s.i3c := conflict_keeps State.i3c (fun _ _ => rfl) (fun _ _ => rfl) (fun _ _ => rfl) (fun _ _ => rfl) s _ _ _ _ _
@[simp] theorem conflict_plog (r : Reg) (u a b c : Nat) : (conflict r u a b c s).plog = s.plog := conflict_keeps State.plog (fun _ _ => rfl) (fun _ _ => rfl) (fun _ _ => rfl) (fun _ _ => rfl) s _ _ _ _ _
@[simp] theorem conflict_time (r : Reg) (u a b c : Nat) : (conflict r u a b c s).time = s.time := conflict_keeps State.time (fun _ _ => rfl) (fun _ _ => rfl) (fun _ _ => rfl) (fun _ _ => rfl) s _ _ _ _ _
@[simp] theorem conflict_clk (r : Reg) (u a b c : Nat) : (conflict r u a b c s).clk = s.clk := conflict_keeps State.clk (fun _ _ => rfl) (fun _ _ => rfl) (fun _ _ => rfl) (fun _ _ => rfl) s _ _ _ _ _
@[simp] theorem conflict_pwr (r : Reg) (u a b c : Nat) : (conflict r u a b c s).pwr = s.pwr := conflict_keeps State.pwr (fun _ _ => rfl) (fun _ _ => rfl) (fun _ _ => rfl) (fun _ _ => rfl) s _ _ _ _ _
@[simp] theorem conflict_blank (r : Reg) (u a b c : Nat) : (conflict r u a b c s).blank = s.blank := conflict_keeps State.blank (fun _ _ => rfl) (fun _ _ => rfl) (fun _ _ => rfl) (fun _ _ => rfl) s _ _ _ _ _
@[simp] theorem conflict_su (r : Reg) (u a b c : Nat) : (conflict r u a b c s).su = s.su := conflict_keeps State.su (fun _ _ => rfl) (fun _ _ => rfl) (fun _ _ => rfl) (fun _ _ => rfl) s _ _ _ _ _
@[simp] theorem conflict_hw (r : Reg) (u a b c : Nat) : (conflict r u a b c s).hw = s.hw := conflict_keeps State.hw (fun _ _ => rfl) (fun _ _ => rfl) (fun _ _ => rfl) (fun _ _ => rfl) s _ _ _ _ _
@[simp] theorem conflict_slices (r : Reg) (u a b c : Nat) : (conflict r u a b c s).slices = s.slices := conflict_keeps State.slices (fun _ _ => rfl) (fun _ _ => rfl) (fun _ _ => rfl) (fun _ _ => rfl) s _ _ _ _ _
@[simp] theorem conflict_quarts (r : Reg) (u a b c : Nat) : (conflict r u a b c s).quarts = s.quarts := conflict_keeps State.quarts (fun _ _ => rfl) (fun _ _ => rfl) (fun _ _ => rfl) (fun _ _ => rfl) s _ _ _ _ _
@[simp] theorem conflict_pin (r : Reg) (u a b c : Nat) : (conflict r u a b c s).pin = s.pin := conflict_keeps State.pin (fun _ _ => rfl) (fun _ _ => rfl) (fun _ _ => rfl) (fun _ _ => rfl) s _ _ _ _ _
@[simp] theorem conflict_lands (r : Reg) (u a b c : Nat) : (conflict r u a b c s).lands = s.lands := conflict_keeps State.lands (fun _ _ => rfl) (fun _ _ => rfl) (fun _ _ => rfl) (fun _ _ => rfl) s _ _ _ _ _
@[simp] theorem conflict_links (r : Reg) (u a b c : Nat) : (conflict r u a b c s).links = s.links := conflict_keeps State.links (fun _ _ => rfl) (fun _ _ => rfl) (fun _ _ => rfl) (fun _ _ => rfl) s _ _ _ _ _
@[simp] theorem conflict_alive (r : Reg) (u a b c : Nat) : (conflict r u a b c s).alive = s.alive := conflict_keeps State.alive (fun _ _ => rfl) (fun _ _ => rfl) (fun _ _ => rfl) (fun _ _ => rfl) s _ _ _ _ _
@[simp] theorem conflict_shp (r : Reg) (u a b c : Nat) : (conflict r u a b c s).shp = s.shp := conflict_keeps State.shp (fun _ _ => rfl) (fun _ _ => rfl) (fun _ _ => rfl) (fun _ _ => rfl) s _ _ _ _ _
@[simp] theorem conflict_spn (r : Reg) (u a b c : Nat) : (conflict r u a b c s).spn = s.spn := conflict_keeps State.spn (fun _ _ => rfl) (fun _ _ => rfl) (fun _ _ => rfl) (fun _ _ => rfl) s _ _ _ _ _
@[simp] theorem conflict_pair (r : Reg) (u a b c : Nat) : (conflict r u a b c s).pair = s.pair := conflict_keeps State.pair (fun _ _ => rfl) (fun _ _ => rfl) (fun _ _ => rfl) (fun _ _ => rfl) s _ _ _ _ _
@[simp] theorem conflict_head (r : Reg) (u a b c : Nat) : (conflict r u a b c s).head = s.head := conflict_keeps State.head (fun _ _ => rfl) (fun _ _ => rfl) (fun _ _ => rfl) (fun _ _ => rfl) s _ _ _ _ _
@[simp] theorem conflict_coord (r : Reg) (u a b c : Nat) : (conflict r u a b c s).coord = s.coord := conflict_keeps State.coord (fun _ _ => rfl) (fun _ _ => rfl) (fun _ _ => rfl) (fun _ _ => rfl) s _ _ _ _ _
@[simp] theorem conflict_job (r : Reg) (u a b c : Nat) : (conflict r u a b c s).job = s.job := conflict_keeps State.job (fun _ _ => rfl) (fun _ _ => rfl) (fun _ _ => rfl) (fun _ _ => rfl) s _ _ _ _ _
@[simp] theorem conflict_satt (r : Reg) (u a b c : Nat) : (conflict r u a b c s).satt = s.satt := conflict_keeps State.satt (fun _ _ => rfl) (fun _ _ => rfl) (fun _ _ => rfl) (fun _ _ => rfl) s _ _ _ _ _
@[simp] theorem conflict_mbx (r : Reg) (u a b c : Nat) : (conflict r u a b c s).mbx = s.mbx := conflict_keeps State.mbx (fun _ _ => rfl) (fun _ _ => rfl) (fun _ _ => rfl) (fun _ _ => rfl) s _ _ _ _ _
@[simp] theorem conflict_obs (r : Reg) (u a b c : Nat) : (conflict r u a b c s).obs = s.obs := conflict_keeps State.obs (fun _ _ => rfl) (fun _ _ => rfl) (fun _ _ => rfl) (fun _ _ => rfl) s _ _ _ _ _
@[simp] theorem conflict_mem (r : Reg) (u a b c : Nat) : (conflict r u a b c s).mem = s.mem := conflict_keeps State.mem (fun _ _ => rfl) (fun _ _ => rfl) (fun _ _ => rfl) (fun _ _ => rfl) s _ _ _ _ _
@[simp] theorem conflict_poison (r : Reg) (u a b c : Nat) : (conflict r u a b c s).poison = s.poison := conflict_keeps State.poison (fun _ _ => rfl) (fun _ _ => rfl) (fun _ _ => rfl) (fun _ _ => rfl) s _ _ _ _ _
@[simp] theorem conflict_upsets (r : Reg) (u a b c : Nat) : (conflict r u a b c s).upsets = s.upsets := conflict_keeps State.upsets (fun _ _ => rfl) (fun _ _ => rfl) (fun _ _ => rfl) (fun _ _ => rfl) s _ _ _ _ _
@[simp] theorem conflict_chans (r : Reg) (u a b c : Nat) : (conflict r u a b c s).chans = s.chans := conflict_keeps State.chans (fun _ _ => rfl) (fun _ _ => rfl) (fun _ _ => rfl) (fun _ _ => rfl) s _ _ _ _ _
@[simp] theorem conflict_tags (r : Reg) (u a b c : Nat) : (conflict r u a b c s).tags = s.tags := conflict_keeps State.tags (fun _ _ => rfl) (fun _ _ => rfl) (fun _ _ => rfl) (fun _ _ => rfl) s _ _ _ _ _
@[simp] theorem conflict_tagc (r : Reg) (u a b c : Nat) : (conflict r u a b c s).tagc = s.tagc := conflict_keeps State.tagc (fun _ _ => rfl) (fun _ _ => rfl) (fun _ _ => rfl) (fun _ _ => rfl) s _ _ _ _ _
@[simp] theorem conflict_pins (r : Reg) (u a b c : Nat) : (conflict r u a b c s).pins = s.pins := conflict_keeps State.pins (fun _ _ => rfl) (fun _ _ => rfl) (fun _ _ => rfl) (fun _ _ => rfl) s _ _ _ _ _
@[simp] theorem conflict_tier (r : Reg) (u a b c : Nat) : (conflict r u a b c s).tier = s.tier := conflict_keeps State.tier (fun _ _ => rfl) (fun _ _ => rfl) (fun _ _ => rfl) (fun _ _ => rfl) s _ _ _ _ _
@[simp] theorem conflict_pool (r : Reg) (u a b c : Nat) : (conflict r u a b c s).pool = s.pool := conflict_keeps State.pool (fun _ _ => rfl) (fun _ _ => rfl) (fun _ _ => rfl) (fun _ _ => rfl) s _ _ _ _ _
@[simp] theorem conflict_rgn (r : Reg) (u a b c : Nat) : (conflict r u a b c s).rgn = s.rgn := conflict_keeps State.rgn (fun _ _ => rfl) (fun _ _ => rfl) (fun _ _ => rfl) (fun _ _ => rfl) s _ _ _ _ _
@[simp] theorem conflict_ctx (r : Reg) (u a b c : Nat) : (conflict r u a b c s).ctx = s.ctx := conflict_keeps State.ctx (fun _ _ => rfl) (fun _ _ => rfl) (fun _ _ => rfl) (fun _ _ => rfl) s _ _ _ _ _
@[simp] theorem conflict_work (r : Reg) (u a b c : Nat) : (conflict r u a b c s).work = s.work := conflict_keeps State.work (fun _ _ => rfl) (fun _ _ => rfl) (fun _ _ => rfl) (fun _ _ => rfl) s _ _ _ _ _
@[simp] theorem conflict_free (r : Reg) (u a b c : Nat) : (conflict r u a b c s).free = s.free := conflict_keeps State.free (fun _ _ => rfl) (fun _ _ => rfl) (fun _ _ => rfl) (fun _ _ => rfl) s _ _ _ _ _
@[simp] theorem conflict_link (r : Reg) (u a b c : Nat) (z : LinkId) : (conflict r u a b c s).link z = s.link z := conflict_keeps (fun x => State.link x z) (fun _ _ => rfl) (fun _ _ => rfl) (fun _ _ => rfl) (fun _ _ => rfl) s _ _ _ _ _
@[simp] theorem conflict_chan (r : Reg) (u a b c : Nat) (z : ChanId) : (conflict r u a b c s).chan z = s.chan z := conflict_keeps (fun x => State.chan x z) (fun _ _ => rfl) (fun _ _ => rfl) (fun _ _ => rfl) (fun _ _ => rfl) s _ _ _ _ _
@[simp] theorem conflict_exts (r : Reg) (u a b c : Nat) (z : ChanId) : (conflict r u a b c s).exts z = s.exts z := conflict_keeps (fun x => State.exts x z) (fun _ _ => rfl) (fun _ _ => rfl) (fun _ _ => rfl) (fun _ _ => rfl) s _ _ _ _ _
@[simp] theorem conflict_car (r : Reg) (u a b c : Nat) (z : CarrierId) : (conflict r u a b c s).car z = s.car z := conflict_keeps (fun x => State.car x z) (fun _ _ => rfl) (fun _ _ => rfl) (fun _ _ => rfl) (fun _ _ => rfl) s _ _ _ _ _
@[simp] theorem conflict_slice (r : Reg) (u a b c : Nat) (z : SliceId) : (conflict r u a b c s).slice z = s.slice z := conflict_keeps (fun x => State.slice x z) (fun _ _ => rfl) (fun _ _ => rfl) (fun _ _ => rfl) (fun _ _ => rfl) s _ _ _ _ _
@[simp] theorem conflict_quart (r : Reg) (u a b c : Nat) (z : Quarter) : (conflict r u a b c s).quart z = s.quart z := conflict_keeps (fun x => State.quart x z) (fun _ _ => rfl) (fun _ _ => rfl) (fun _ _ => rfl) (fun _ _ => rfl) s _ _ _ _ _
@[simp] theorem conflict_core (r : Reg) (u a b c : Nat) (z : CoreId) : (conflict r u a b c s).core z = s.core z := conflict_keeps (fun x => State.core x z) (fun _ _ => rfl) (fun _ _ => rfl) (fun _ _ => rfl) (fun _ _ => rfl) s _ _ _ _ _
@[simp] theorem conflict_key (r : Reg) (u a b c : Nat) (z : TenantId) : (conflict r u a b c s).key z = s.key z := conflict_keeps (fun x => State.key x z) (fun _ _ => rfl) (fun _ _ => rfl) (fun _ _ => rfl) (fun _ _ => rfl) s _ _ _ _ _
@[simp] theorem conflict_counter (r : Reg) (u a b c : Nat) (z : Fin 8) : (conflict r u a b c s).counter z = s.counter z := conflict_keeps (fun x => State.counter x z) (fun _ _ => rfl) (fun _ _ => rfl) (fun _ _ => rfl) (fun _ _ => rfl) s _ _ _ _ _

/-! ### advanceTo -/

@[simp] theorem advanceTo_pending (d : Nat) : (advanceTo d s).pending = s.pending := advanceTo_keeps State.pending (fun _ _ => rfl) s _
@[simp] theorem advanceTo_regs (d : Nat) : (advanceTo d s).regs = s.regs := advanceTo_keeps State.regs (fun _ _ => rfl) s _
@[simp] theorem advanceTo_cnt64 (d : Nat) : (advanceTo d s).cnt64 = s.cnt64 := advanceTo_keeps State.cnt64 (fun _ _ => rfl) s _
@[simp] theorem advanceTo_snap (d : Nat) : (advanceTo d s).snap = s.snap := advanceTo_keeps State.snap (fun _ _ => rfl) s _
@[simp] theorem advanceTo_snap64 (d : Nat) : (advanceTo d s).snap64 = s.snap64 := advanceTo_keeps State.snap64 (fun _ _ => rfl) s _
@[simp] theorem advanceTo_latch (d : Nat) : (advanceTo d s).latch = s.latch := advanceTo_keeps State.latch (fun _ _ => rfl) s _
@[simp] theorem advanceTo_i3c (d : Nat) : (advanceTo d s).i3c = s.i3c := advanceTo_keeps State.i3c (fun _ _ => rfl) s _
@[simp] theorem advanceTo_log (d : Nat) : (advanceTo d s).log = s.log := advanceTo_keeps State.log (fun _ _ => rfl) s _
@[simp] theorem advanceTo_plog (d : Nat) : (advanceTo d s).plog = s.plog := advanceTo_keeps State.plog (fun _ _ => rfl) s _
@[simp] theorem advanceTo_clk (d : Nat) : (advanceTo d s).clk = s.clk := advanceTo_keeps State.clk (fun _ _ => rfl) s _
@[simp] theorem advanceTo_pwr (d : Nat) : (advanceTo d s).pwr = s.pwr := advanceTo_keeps State.pwr (fun _ _ => rfl) s _
@[simp] theorem advanceTo_blank (d : Nat) : (advanceTo d s).blank = s.blank := advanceTo_keeps State.blank (fun _ _ => rfl) s _
@[simp] theorem advanceTo_su (d : Nat) : (advanceTo d s).su = s.su := advanceTo_keeps State.su (fun _ _ => rfl) s _
@[simp] theorem advanceTo_hw (d : Nat) : (advanceTo d s).hw = s.hw := advanceTo_keeps State.hw (fun _ _ => rfl) s _
@[simp] theorem advanceTo_slices (d : Nat) : (advanceTo d s).slices = s.slices := advanceTo_keeps State.slices (fun _ _ => rfl) s _
@[simp] theorem advanceTo_quarts (d : Nat) : (advanceTo d s).quarts = s.quarts := advanceTo_keeps State.quarts (fun _ _ => rfl) s _
@[simp] theorem advanceTo_pin (d : Nat) : (advanceTo d s).pin = s.pin := advanceTo_keeps State.pin (fun _ _ => rfl) s _
@[simp] theorem advanceTo_lands (d : Nat) : (advanceTo d s).lands = s.lands := advanceTo_keeps State.lands (fun _ _ => rfl) s _
@[simp] theorem advanceTo_links (d : Nat) : (advanceTo d s).links = s.links := advanceTo_keeps State.links (fun _ _ => rfl) s _
@[simp] theorem advanceTo_alive (d : Nat) : (advanceTo d s).alive = s.alive := advanceTo_keeps State.alive (fun _ _ => rfl) s _
@[simp] theorem advanceTo_shp (d : Nat) : (advanceTo d s).shp = s.shp := advanceTo_keeps State.shp (fun _ _ => rfl) s _
@[simp] theorem advanceTo_spn (d : Nat) : (advanceTo d s).spn = s.spn := advanceTo_keeps State.spn (fun _ _ => rfl) s _
@[simp] theorem advanceTo_pair (d : Nat) : (advanceTo d s).pair = s.pair := advanceTo_keeps State.pair (fun _ _ => rfl) s _
@[simp] theorem advanceTo_head (d : Nat) : (advanceTo d s).head = s.head := advanceTo_keeps State.head (fun _ _ => rfl) s _
@[simp] theorem advanceTo_coord (d : Nat) : (advanceTo d s).coord = s.coord := advanceTo_keeps State.coord (fun _ _ => rfl) s _
@[simp] theorem advanceTo_job (d : Nat) : (advanceTo d s).job = s.job := advanceTo_keeps State.job (fun _ _ => rfl) s _
@[simp] theorem advanceTo_satt (d : Nat) : (advanceTo d s).satt = s.satt := advanceTo_keeps State.satt (fun _ _ => rfl) s _
@[simp] theorem advanceTo_mbx (d : Nat) : (advanceTo d s).mbx = s.mbx := advanceTo_keeps State.mbx (fun _ _ => rfl) s _
@[simp] theorem advanceTo_obs (d : Nat) : (advanceTo d s).obs = s.obs := advanceTo_keeps State.obs (fun _ _ => rfl) s _
@[simp] theorem advanceTo_mem (d : Nat) : (advanceTo d s).mem = s.mem := advanceTo_keeps State.mem (fun _ _ => rfl) s _
@[simp] theorem advanceTo_poison (d : Nat) : (advanceTo d s).poison = s.poison := advanceTo_keeps State.poison (fun _ _ => rfl) s _
@[simp] theorem advanceTo_upsets (d : Nat) : (advanceTo d s).upsets = s.upsets := advanceTo_keeps State.upsets (fun _ _ => rfl) s _
@[simp] theorem advanceTo_chans (d : Nat) : (advanceTo d s).chans = s.chans := advanceTo_keeps State.chans (fun _ _ => rfl) s _
@[simp] theorem advanceTo_tags (d : Nat) : (advanceTo d s).tags = s.tags := advanceTo_keeps State.tags (fun _ _ => rfl) s _
@[simp] theorem advanceTo_tagc (d : Nat) : (advanceTo d s).tagc = s.tagc := advanceTo_keeps State.tagc (fun _ _ => rfl) s _
@[simp] theorem advanceTo_pins (d : Nat) : (advanceTo d s).pins = s.pins := advanceTo_keeps State.pins (fun _ _ => rfl) s _
@[simp] theorem advanceTo_tier (d : Nat) : (advanceTo d s).tier = s.tier := advanceTo_keeps State.tier (fun _ _ => rfl) s _
@[simp] theorem advanceTo_pool (d : Nat) : (advanceTo d s).pool = s.pool := advanceTo_keeps State.pool (fun _ _ => rfl) s _
@[simp] theorem advanceTo_rgn (d : Nat) : (advanceTo d s).rgn = s.rgn := advanceTo_keeps State.rgn (fun _ _ => rfl) s _
@[simp] theorem advanceTo_ctx (d : Nat) : (advanceTo d s).ctx = s.ctx := advanceTo_keeps State.ctx (fun _ _ => rfl) s _
@[simp] theorem advanceTo_work (d : Nat) : (advanceTo d s).work = s.work := advanceTo_keeps State.work (fun _ _ => rfl) s _
@[simp] theorem advanceTo_out (d : Nat) : (advanceTo d s).out = s.out := advanceTo_keeps State.out (fun _ _ => rfl) s _
@[simp] theorem advanceTo_free (d : Nat) : (advanceTo d s).free = s.free := advanceTo_keeps State.free (fun _ _ => rfl) s _
@[simp] theorem advanceTo_link (d : Nat) (z : LinkId) : (advanceTo d s).link z = s.link z := advanceTo_keeps (fun x => State.link x z) (fun _ _ => rfl) s _
@[simp] theorem advanceTo_chan (d : Nat) (z : ChanId) : (advanceTo d s).chan z = s.chan z := advanceTo_keeps (fun x => State.chan x z) (fun _ _ => rfl) s _
@[simp] theorem advanceTo_exts (d : Nat) (z : ChanId) : (advanceTo d s).exts z = s.exts z := advanceTo_keeps (fun x => State.exts x z) (fun _ _ => rfl) s _
@[simp] theorem advanceTo_car (d : Nat) (z : CarrierId) : (advanceTo d s).car z = s.car z := advanceTo_keeps (fun x => State.car x z) (fun _ _ => rfl) s _
@[simp] theorem advanceTo_slice (d : Nat) (z : SliceId) : (advanceTo d s).slice z = s.slice z := advanceTo_keeps (fun x => State.slice x z) (fun _ _ => rfl) s _
@[simp] theorem advanceTo_quart (d : Nat) (z : Quarter) : (advanceTo d s).quart z = s.quart z := advanceTo_keeps (fun x => State.quart x z) (fun _ _ => rfl) s _
@[simp] theorem advanceTo_core (d : Nat) (z : CoreId) : (advanceTo d s).core z = s.core z := advanceTo_keeps (fun x => State.core x z) (fun _ _ => rfl) s _
@[simp] theorem advanceTo_key (d : Nat) (z : TenantId) : (advanceTo d s).key z = s.key z := advanceTo_keeps (fun x => State.key x z) (fun _ _ => rfl) s _
@[simp] theorem advanceTo_counter (d : Nat) (z : Fin 8) : (advanceTo d s).counter z = s.counter z := advanceTo_keeps (fun x => State.counter x z) (fun _ _ => rfl) s _

/-! ### pace -/

@[simp] theorem pace_pending (k p : Nat) : (pace k p s).pending = s.pending := pace_keeps State.pending (fun _ _ => rfl) s _ _
@[simp] theorem pace_regs (k p : Nat) : (pace k p s).regs = s.regs := pace_keeps State.regs (fun _ _ => rfl) s _ _
@[simp] theorem pace_cnt64 (k p : Nat) : (pace k p s).cnt64 = s.cnt64 := pace_keeps State.cnt64 (fun _ _ => rfl) s _ _
@[simp] theorem pace_snap (k p : Nat) : (pace k p s).snap = s.snap := pace_keeps State.snap (fun _ _ => rfl) s _ _
@[simp] theorem pace_snap64 (k p : Nat) : (pace k p s).snap64 = s.snap64 := pace_keeps State.snap64 (fun _ _ => rfl) s _ _
@[simp] theorem pace_latch (k p : Nat) : (pace k p s).latch = s.latch := pace_keeps State.latch (fun _ _ => rfl) s _ _
@[simp] theorem pace_i3c (k p : Nat) : (pace k p s).i3c = s.i3c := pace_keeps State.i3c (fun _ _ => rfl) s _ _
@[simp] theorem pace_log (k p : Nat) : (pace k p s).log = s.log := pace_keeps State.log (fun _ _ => rfl) s _ _
@[simp] theorem pace_plog (k p : Nat) : (pace k p s).plog = s.plog := pace_keeps State.plog (fun _ _ => rfl) s _ _
@[simp] theorem pace_clk (k p : Nat) : (pace k p s).clk = s.clk := pace_keeps State.clk (fun _ _ => rfl) s _ _
@[simp] theorem pace_pwr (k p : Nat) : (pace k p s).pwr = s.pwr := pace_keeps State.pwr (fun _ _ => rfl) s _ _
@[simp] theorem pace_blank (k p : Nat) : (pace k p s).blank = s.blank := pace_keeps State.blank (fun _ _ => rfl) s _ _
@[simp] theorem pace_su (k p : Nat) : (pace k p s).su = s.su := pace_keeps State.su (fun _ _ => rfl) s _ _
@[simp] theorem pace_hw (k p : Nat) : (pace k p s).hw = s.hw := pace_keeps State.hw (fun _ _ => rfl) s _ _
@[simp] theorem pace_slices (k p : Nat) : (pace k p s).slices = s.slices := pace_keeps State.slices (fun _ _ => rfl) s _ _
@[simp] theorem pace_quarts (k p : Nat) : (pace k p s).quarts = s.quarts := pace_keeps State.quarts (fun _ _ => rfl) s _ _
@[simp] theorem pace_pin (k p : Nat) : (pace k p s).pin = s.pin := pace_keeps State.pin (fun _ _ => rfl) s _ _
@[simp] theorem pace_lands (k p : Nat) : (pace k p s).lands = s.lands := pace_keeps State.lands (fun _ _ => rfl) s _ _
@[simp] theorem pace_links (k p : Nat) : (pace k p s).links = s.links := pace_keeps State.links (fun _ _ => rfl) s _ _
@[simp] theorem pace_alive (k p : Nat) : (pace k p s).alive = s.alive := pace_keeps State.alive (fun _ _ => rfl) s _ _
@[simp] theorem pace_shp (k p : Nat) : (pace k p s).shp = s.shp := pace_keeps State.shp (fun _ _ => rfl) s _ _
@[simp] theorem pace_spn (k p : Nat) : (pace k p s).spn = s.spn := pace_keeps State.spn (fun _ _ => rfl) s _ _
@[simp] theorem pace_pair (k p : Nat) : (pace k p s).pair = s.pair := pace_keeps State.pair (fun _ _ => rfl) s _ _
@[simp] theorem pace_head (k p : Nat) : (pace k p s).head = s.head := pace_keeps State.head (fun _ _ => rfl) s _ _
@[simp] theorem pace_coord (k p : Nat) : (pace k p s).coord = s.coord := pace_keeps State.coord (fun _ _ => rfl) s _ _
@[simp] theorem pace_job (k p : Nat) : (pace k p s).job = s.job := pace_keeps State.job (fun _ _ => rfl) s _ _
@[simp] theorem pace_satt (k p : Nat) : (pace k p s).satt = s.satt := pace_keeps State.satt (fun _ _ => rfl) s _ _
@[simp] theorem pace_mbx (k p : Nat) : (pace k p s).mbx = s.mbx := pace_keeps State.mbx (fun _ _ => rfl) s _ _
@[simp] theorem pace_obs (k p : Nat) : (pace k p s).obs = s.obs := pace_keeps State.obs (fun _ _ => rfl) s _ _
@[simp] theorem pace_mem (k p : Nat) : (pace k p s).mem = s.mem := pace_keeps State.mem (fun _ _ => rfl) s _ _
@[simp] theorem pace_poison (k p : Nat) : (pace k p s).poison = s.poison := pace_keeps State.poison (fun _ _ => rfl) s _ _
@[simp] theorem pace_upsets (k p : Nat) : (pace k p s).upsets = s.upsets := pace_keeps State.upsets (fun _ _ => rfl) s _ _
@[simp] theorem pace_chans (k p : Nat) : (pace k p s).chans = s.chans := pace_keeps State.chans (fun _ _ => rfl) s _ _
@[simp] theorem pace_tags (k p : Nat) : (pace k p s).tags = s.tags := pace_keeps State.tags (fun _ _ => rfl) s _ _
@[simp] theorem pace_tagc (k p : Nat) : (pace k p s).tagc = s.tagc := pace_keeps State.tagc (fun _ _ => rfl) s _ _
@[simp] theorem pace_pins (k p : Nat) : (pace k p s).pins = s.pins := pace_keeps State.pins (fun _ _ => rfl) s _ _
@[simp] theorem pace_tier (k p : Nat) : (pace k p s).tier = s.tier := pace_keeps State.tier (fun _ _ => rfl) s _ _
@[simp] theorem pace_pool (k p : Nat) : (pace k p s).pool = s.pool := pace_keeps State.pool (fun _ _ => rfl) s _ _
@[simp] theorem pace_rgn (k p : Nat) : (pace k p s).rgn = s.rgn := pace_keeps State.rgn (fun _ _ => rfl) s _ _
@[simp] theorem pace_ctx (k p : Nat) : (pace k p s).ctx = s.ctx := pace_keeps State.ctx (fun _ _ => rfl) s _ _
@[simp] theorem pace_work (k p : Nat) : (pace k p s).work = s.work := pace_keeps State.work (fun _ _ => rfl) s _ _
@[simp] theorem pace_out (k p : Nat) : (pace k p s).out = s.out := pace_keeps State.out (fun _ _ => rfl) s _ _
@[simp] theorem pace_free (k p : Nat) : (pace k p s).free = s.free := pace_keeps State.free (fun _ _ => rfl) s _ _
@[simp] theorem pace_link (k p : Nat) (z : LinkId) : (pace k p s).link z = s.link z := pace_keeps (fun x => State.link x z) (fun _ _ => rfl) s _ _
@[simp] theorem pace_chan (k p : Nat) (z : ChanId) : (pace k p s).chan z = s.chan z := pace_keeps (fun x => State.chan x z) (fun _ _ => rfl) s _ _
@[simp] theorem pace_exts (k p : Nat) (z : ChanId) : (pace k p s).exts z = s.exts z := pace_keeps (fun x => State.exts x z) (fun _ _ => rfl) s _ _
@[simp] theorem pace_car (k p : Nat) (z : CarrierId) : (pace k p s).car z = s.car z := pace_keeps (fun x => State.car x z) (fun _ _ => rfl) s _ _
@[simp] theorem pace_slice (k p : Nat) (z : SliceId) : (pace k p s).slice z = s.slice z := pace_keeps (fun x => State.slice x z) (fun _ _ => rfl) s _ _
@[simp] theorem pace_quart (k p : Nat) (z : Quarter) : (pace k p s).quart z = s.quart z := pace_keeps (fun x => State.quart x z) (fun _ _ => rfl) s _ _
@[simp] theorem pace_core (k p : Nat) (z : CoreId) : (pace k p s).core z = s.core z := pace_keeps (fun x => State.core x z) (fun _ _ => rfl) s _ _
@[simp] theorem pace_key (k p : Nat) (z : TenantId) : (pace k p s).key z = s.key z := pace_keeps (fun x => State.key x z) (fun _ _ => rfl) s _ _
@[simp] theorem pace_counter (k p : Nat) (z : Fin 8) : (pace k p s).counter z = s.counter z := pace_keeps (fun x => State.counter x z) (fun _ _ => rfl) s _ _

/-! ### putFlit -/

@[simp] theorem putFlit_pending (l : LinkId) (w : WaitFlit) : (putFlit l w s).pending = s.pending := putFlit_keeps State.pending (fun _ _ => rfl) (fun _ _ => rfl) (fun _ _ => rfl) (fun _ _ => rfl) s _ _
@[simp] theorem putFlit_snap (l : LinkId) (w : WaitFlit) : (putFlit l w s).snap = s.snap := putFlit_keeps State.snap (fun _ _ => rfl) (fun _ _ => rfl) (fun _ _ => rfl) (fun _ _ => rfl) s _ _
@[simp] theorem putFlit_snap64 (l : LinkId) (w : WaitFlit) : (putFlit l w s).snap64 = s.snap64 := putFlit_keeps State.snap64 (fun _ _ => rfl) (fun _ _ => rfl) (fun _ _ => rfl) (fun _ _ => rfl) s _ _
@[simp] theorem putFlit_latch (l : LinkId) (w : WaitFlit) : (putFlit l w s).latch = s.latch := putFlit_keeps State.latch (fun _ _ => rfl) (fun _ _ => rfl) (fun _ _ => rfl) (fun _ _ => rfl) s _ _
@[simp] theorem putFlit_i3c (l : LinkId) (w : WaitFlit) : (putFlit l w s).i3c = s.i3c := putFlit_keeps State.i3c (fun _ _ => rfl) (fun _ _ => rfl) (fun _ _ => rfl) (fun _ _ => rfl) s _ _
@[simp] theorem putFlit_log (l : LinkId) (w : WaitFlit) : (putFlit l w s).log = s.log := putFlit_keeps State.log (fun _ _ => rfl) (fun _ _ => rfl) (fun _ _ => rfl) (fun _ _ => rfl) s _ _
@[simp] theorem putFlit_plog (l : LinkId) (w : WaitFlit) : (putFlit l w s).plog = s.plog := putFlit_keeps State.plog (fun _ _ => rfl) (fun _ _ => rfl) (fun _ _ => rfl) (fun _ _ => rfl) s _ _
@[simp] theorem putFlit_time (l : LinkId) (w : WaitFlit) : (putFlit l w s).time = s.time := putFlit_keeps State.time (fun _ _ => rfl) (fun _ _ => rfl) (fun _ _ => rfl) (fun _ _ => rfl) s _ _
@[simp] theorem putFlit_clk (l : LinkId) (w : WaitFlit) : (putFlit l w s).clk = s.clk := putFlit_keeps State.clk (fun _ _ => rfl) (fun _ _ => rfl) (fun _ _ => rfl) (fun _ _ => rfl) s _ _
@[simp] theorem putFlit_pwr (l : LinkId) (w : WaitFlit) : (putFlit l w s).pwr = s.pwr := putFlit_keeps State.pwr (fun _ _ => rfl) (fun _ _ => rfl) (fun _ _ => rfl) (fun _ _ => rfl) s _ _
@[simp] theorem putFlit_blank (l : LinkId) (w : WaitFlit) : (putFlit l w s).blank = s.blank := putFlit_keeps State.blank (fun _ _ => rfl) (fun _ _ => rfl) (fun _ _ => rfl) (fun _ _ => rfl) s _ _
@[simp] theorem putFlit_su (l : LinkId) (w : WaitFlit) : (putFlit l w s).su = s.su := putFlit_keeps State.su (fun _ _ => rfl) (fun _ _ => rfl) (fun _ _ => rfl) (fun _ _ => rfl) s _ _
@[simp] theorem putFlit_hw (l : LinkId) (w : WaitFlit) : (putFlit l w s).hw = s.hw := putFlit_keeps State.hw (fun _ _ => rfl) (fun _ _ => rfl) (fun _ _ => rfl) (fun _ _ => rfl) s _ _
@[simp] theorem putFlit_slices (l : LinkId) (w : WaitFlit) : (putFlit l w s).slices = s.slices := putFlit_keeps State.slices (fun _ _ => rfl) (fun _ _ => rfl) (fun _ _ => rfl) (fun _ _ => rfl) s _ _
@[simp] theorem putFlit_quarts (l : LinkId) (w : WaitFlit) : (putFlit l w s).quarts = s.quarts := putFlit_keeps State.quarts (fun _ _ => rfl) (fun _ _ => rfl) (fun _ _ => rfl) (fun _ _ => rfl) s _ _
@[simp] theorem putFlit_pin (l : LinkId) (w : WaitFlit) : (putFlit l w s).pin = s.pin := putFlit_keeps State.pin (fun _ _ => rfl) (fun _ _ => rfl) (fun _ _ => rfl) (fun _ _ => rfl) s _ _
@[simp] theorem putFlit_lands (l : LinkId) (w : WaitFlit) : (putFlit l w s).lands = s.lands := putFlit_keeps State.lands (fun _ _ => rfl) (fun _ _ => rfl) (fun _ _ => rfl) (fun _ _ => rfl) s _ _
@[simp] theorem putFlit_alive (l : LinkId) (w : WaitFlit) : (putFlit l w s).alive = s.alive := putFlit_keeps State.alive (fun _ _ => rfl) (fun _ _ => rfl) (fun _ _ => rfl) (fun _ _ => rfl) s _ _
@[simp] theorem putFlit_shp (l : LinkId) (w : WaitFlit) : (putFlit l w s).shp = s.shp := putFlit_keeps State.shp (fun _ _ => rfl) (fun _ _ => rfl) (fun _ _ => rfl) (fun _ _ => rfl) s _ _
@[simp] theorem putFlit_spn (l : LinkId) (w : WaitFlit) : (putFlit l w s).spn = s.spn := putFlit_keeps State.spn (fun _ _ => rfl) (fun _ _ => rfl) (fun _ _ => rfl) (fun _ _ => rfl) s _ _
@[simp] theorem putFlit_pair (l : LinkId) (w : WaitFlit) : (putFlit l w s).pair = s.pair := putFlit_keeps State.pair (fun _ _ => rfl) (fun _ _ => rfl) (fun _ _ => rfl) (fun _ _ => rfl) s _ _
@[simp] theorem putFlit_head (l : LinkId) (w : WaitFlit) : (putFlit l w s).head = s.head := putFlit_keeps State.head (fun _ _ => rfl) (fun _ _ => rfl) (fun _ _ => rfl) (fun _ _ => rfl) s _ _
@[simp] theorem putFlit_coord (l : LinkId) (w : WaitFlit) : (putFlit l w s).coord = s.coord := putFlit_keeps State.coord (fun _ _ => rfl) (fun _ _ => rfl) (fun _ _ => rfl) (fun _ _ => rfl) s _ _
@[simp] theorem putFlit_job (l : LinkId) (w : WaitFlit) : (putFlit l w s).job = s.job := putFlit_keeps State.job (fun _ _ => rfl) (fun _ _ => rfl) (fun _ _ => rfl) (fun _ _ => rfl) s _ _
@[simp] theorem putFlit_satt (l : LinkId) (w : WaitFlit) : (putFlit l w s).satt = s.satt := putFlit_keeps State.satt (fun _ _ => rfl) (fun _ _ => rfl) (fun _ _ => rfl) (fun _ _ => rfl) s _ _
@[simp] theorem putFlit_mbx (l : LinkId) (w : WaitFlit) : (putFlit l w s).mbx = s.mbx := putFlit_keeps State.mbx (fun _ _ => rfl) (fun _ _ => rfl) (fun _ _ => rfl) (fun _ _ => rfl) s _ _
@[simp] theorem putFlit_obs (l : LinkId) (w : WaitFlit) : (putFlit l w s).obs = s.obs := putFlit_keeps State.obs (fun _ _ => rfl) (fun _ _ => rfl) (fun _ _ => rfl) (fun _ _ => rfl) s _ _
@[simp] theorem putFlit_mem (l : LinkId) (w : WaitFlit) : (putFlit l w s).mem = s.mem := putFlit_keeps State.mem (fun _ _ => rfl) (fun _ _ => rfl) (fun _ _ => rfl) (fun _ _ => rfl) s _ _
@[simp] theorem putFlit_poison (l : LinkId) (w : WaitFlit) : (putFlit l w s).poison = s.poison := putFlit_keeps State.poison (fun _ _ => rfl) (fun _ _ => rfl) (fun _ _ => rfl) (fun _ _ => rfl) s _ _
@[simp] theorem putFlit_upsets (l : LinkId) (w : WaitFlit) : (putFlit l w s).upsets = s.upsets := putFlit_keeps State.upsets (fun _ _ => rfl) (fun _ _ => rfl) (fun _ _ => rfl) (fun _ _ => rfl) s _ _
@[simp] theorem putFlit_chans (l : LinkId) (w : WaitFlit) : (putFlit l w s).chans = s.chans := putFlit_keeps State.chans (fun _ _ => rfl) (fun _ _ => rfl) (fun _ _ => rfl) (fun _ _ => rfl) s _ _
@[simp] theorem putFlit_tags (l : LinkId) (w : WaitFlit) : (putFlit l w s).tags = s.tags := putFlit_keeps State.tags (fun _ _ => rfl) (fun _ _ => rfl) (fun _ _ => rfl) (fun _ _ => rfl) s _ _
@[simp] theorem putFlit_tagc (l : LinkId) (w : WaitFlit) : (putFlit l w s).tagc = s.tagc := putFlit_keeps State.tagc (fun _ _ => rfl) (fun _ _ => rfl) (fun _ _ => rfl) (fun _ _ => rfl) s _ _
@[simp] theorem putFlit_pins (l : LinkId) (w : WaitFlit) : (putFlit l w s).pins = s.pins := putFlit_keeps State.pins (fun _ _ => rfl) (fun _ _ => rfl) (fun _ _ => rfl) (fun _ _ => rfl) s _ _
@[simp] theorem putFlit_tier (l : LinkId) (w : WaitFlit) : (putFlit l w s).tier = s.tier := putFlit_keeps State.tier (fun _ _ => rfl) (fun _ _ => rfl) (fun _ _ => rfl) (fun _ _ => rfl) s _ _
@[simp] theorem putFlit_pool (l : LinkId) (w : WaitFlit) : (putFlit l w s).pool = s.pool := putFlit_keeps State.pool (fun _ _ => rfl) (fun _ _ => rfl) (fun _ _ => rfl) (fun _ _ => rfl) s _ _
@[simp] theorem putFlit_rgn (l : LinkId) (w : WaitFlit) : (putFlit l w s).rgn = s.rgn := putFlit_keeps State.rgn (fun _ _ => rfl) (fun _ _ => rfl) (fun _ _ => rfl) (fun _ _ => rfl) s _ _
@[simp] theorem putFlit_ctx (l : LinkId) (w : WaitFlit) : (putFlit l w s).ctx = s.ctx := putFlit_keeps State.ctx (fun _ _ => rfl) (fun _ _ => rfl) (fun _ _ => rfl) (fun _ _ => rfl) s _ _
@[simp] theorem putFlit_work (l : LinkId) (w : WaitFlit) : (putFlit l w s).work = s.work := putFlit_keeps State.work (fun _ _ => rfl) (fun _ _ => rfl) (fun _ _ => rfl) (fun _ _ => rfl) s _ _
@[simp] theorem putFlit_free (l : LinkId) (w : WaitFlit) : (putFlit l w s).free = s.free := putFlit_keeps State.free (fun _ _ => rfl) (fun _ _ => rfl) (fun _ _ => rfl) (fun _ _ => rfl) s _ _
@[simp] theorem putFlit_chan (l : LinkId) (w : WaitFlit) (z : ChanId) : (putFlit l w s).chan z = s.chan z := putFlit_keeps (fun x => State.chan x z) (fun _ _ => rfl) (fun _ _ => rfl) (fun _ _ => rfl) (fun _ _ => rfl) s _ _
@[simp] theorem putFlit_exts (l : LinkId) (w : WaitFlit) (z : ChanId) : (putFlit l w s).exts z = s.exts z := putFlit_keeps (fun x => State.exts x z) (fun _ _ => rfl) (fun _ _ => rfl) (fun _ _ => rfl) (fun _ _ => rfl) s _ _
@[simp] theorem putFlit_car (l : LinkId) (w : WaitFlit) (z : CarrierId) : (putFlit l w s).car z = s.car z := putFlit_keeps (fun x => State.car x z) (fun _ _ => rfl) (fun _ _ => rfl) (fun _ _ => rfl) (fun _ _ => rfl) s _ _
@[simp] theorem putFlit_slice (l : LinkId) (w : WaitFlit) (z : SliceId) : (putFlit l w s).slice z = s.slice z := putFlit_keeps (fun x => State.slice x z) (fun _ _ => rfl) (fun _ _ => rfl) (fun _ _ => rfl) (fun _ _ => rfl) s _ _
@[simp] theorem putFlit_quart (l : LinkId) (w : WaitFlit) (z : Quarter) : (putFlit l w s).quart z = s.quart z := putFlit_keeps (fun x => State.quart x z) (fun _ _ => rfl) (fun _ _ => rfl) (fun _ _ => rfl) (fun _ _ => rfl) s _ _
@[simp] theorem putFlit_core (l : LinkId) (w : WaitFlit) (z : CoreId) : (putFlit l w s).core z = s.core z := putFlit_keeps (fun x => State.core x z) (fun _ _ => rfl) (fun _ _ => rfl) (fun _ _ => rfl) (fun _ _ => rfl) s _ _
@[simp] theorem putFlit_key (l : LinkId) (w : WaitFlit) (z : TenantId) : (putFlit l w s).key z = s.key z := putFlit_keeps (fun x => State.key x z) (fun _ _ => rfl) (fun _ _ => rfl) (fun _ _ => rfl) (fun _ _ => rfl) s _ _
@[simp] theorem putFlit_counter (l : LinkId) (w : WaitFlit) (z : Fin 8) : (putFlit l w s).counter z = s.counter z := putFlit_keeps (fun x => State.counter x z) (fun _ _ => rfl) (fun _ _ => rfl) (fun _ _ => rfl) (fun _ _ => rfl) s _ _

/-! ### send -/

@[simp] theorem send_pending (m : Msg) : (send m s).pending = s.pending := send_keeps State.pending (fun _ _ => rfl) (fun _ _ => rfl) (fun _ _ => rfl) (fun _ _ => rfl) s _
@[simp] theorem send_snap (m : Msg) : (send m s).snap = s.snap := send_keeps State.snap (fun _ _ => rfl) (fun _ _ => rfl) (fun _ _ => rfl) (fun _ _ => rfl) s _
@[simp] theorem send_snap64 (m : Msg) : (send m s).snap64 = s.snap64 := send_keeps State.snap64 (fun _ _ => rfl) (fun _ _ => rfl) (fun _ _ => rfl) (fun _ _ => rfl) s _
@[simp] theorem send_latch (m : Msg) : (send m s).latch = s.latch := send_keeps State.latch (fun _ _ => rfl) (fun _ _ => rfl) (fun _ _ => rfl) (fun _ _ => rfl) s _
@[simp] theorem send_i3c (m : Msg) : (send m s).i3c = s.i3c := send_keeps State.i3c (fun _ _ => rfl) (fun _ _ => rfl) (fun _ _ => rfl) (fun _ _ => rfl) s _
@[simp] theorem send_log (m : Msg) : (send m s).log = s.log := send_keeps State.log (fun _ _ => rfl) (fun _ _ => rfl) (fun _ _ => rfl) (fun _ _ => rfl) s _
@[simp] theorem send_plog (m : Msg) : (send m s).plog = s.plog := send_keeps State.plog (fun _ _ => rfl) (fun _ _ => rfl) (fun _ _ => rfl) (fun _ _ => rfl) s _
@[simp] theorem send_time (m : Msg) : (send m s).time = s.time := send_keeps State.time (fun _ _ => rfl) (fun _ _ => rfl) (fun _ _ => rfl) (fun _ _ => rfl) s _
@[simp] theorem send_clk (m : Msg) : (send m s).clk = s.clk := send_keeps State.clk (fun _ _ => rfl) (fun _ _ => rfl) (fun _ _ => rfl) (fun _ _ => rfl) s _
@[simp] theorem send_pwr (m : Msg) : (send m s).pwr = s.pwr := send_keeps State.pwr (fun _ _ => rfl) (fun _ _ => rfl) (fun _ _ => rfl) (fun _ _ => rfl) s _
@[simp] theorem send_blank (m : Msg) : (send m s).blank = s.blank := send_keeps State.blank (fun _ _ => rfl) (fun _ _ => rfl) (fun _ _ => rfl) (fun _ _ => rfl) s _
@[simp] theorem send_su (m : Msg) : (send m s).su = s.su := send_keeps State.su (fun _ _ => rfl) (fun _ _ => rfl) (fun _ _ => rfl) (fun _ _ => rfl) s _
@[simp] theorem send_hw (m : Msg) : (send m s).hw = s.hw := send_keeps State.hw (fun _ _ => rfl) (fun _ _ => rfl) (fun _ _ => rfl) (fun _ _ => rfl) s _
@[simp] theorem send_slices (m : Msg) : (send m s).slices = s.slices := send_keeps State.slices (fun _ _ => rfl) (fun _ _ => rfl) (fun _ _ => rfl) (fun _ _ => rfl) s _
@[simp] theorem send_quarts (m : Msg) : (send m s).quarts = s.quarts := send_keeps State.quarts (fun _ _ => rfl) (fun _ _ => rfl) (fun _ _ => rfl) (fun _ _ => rfl) s _
@[simp] theorem send_pin (m : Msg) : (send m s).pin = s.pin := send_keeps State.pin (fun _ _ => rfl) (fun _ _ => rfl) (fun _ _ => rfl) (fun _ _ => rfl) s _
@[simp] theorem send_lands (m : Msg) : (send m s).lands = s.lands := send_keeps State.lands (fun _ _ => rfl) (fun _ _ => rfl) (fun _ _ => rfl) (fun _ _ => rfl) s _
@[simp] theorem send_alive (m : Msg) : (send m s).alive = s.alive := send_keeps State.alive (fun _ _ => rfl) (fun _ _ => rfl) (fun _ _ => rfl) (fun _ _ => rfl) s _
@[simp] theorem send_shp (m : Msg) : (send m s).shp = s.shp := send_keeps State.shp (fun _ _ => rfl) (fun _ _ => rfl) (fun _ _ => rfl) (fun _ _ => rfl) s _
@[simp] theorem send_spn (m : Msg) : (send m s).spn = s.spn := send_keeps State.spn (fun _ _ => rfl) (fun _ _ => rfl) (fun _ _ => rfl) (fun _ _ => rfl) s _
@[simp] theorem send_pair (m : Msg) : (send m s).pair = s.pair := send_keeps State.pair (fun _ _ => rfl) (fun _ _ => rfl) (fun _ _ => rfl) (fun _ _ => rfl) s _
@[simp] theorem send_head (m : Msg) : (send m s).head = s.head := send_keeps State.head (fun _ _ => rfl) (fun _ _ => rfl) (fun _ _ => rfl) (fun _ _ => rfl) s _
@[simp] theorem send_coord (m : Msg) : (send m s).coord = s.coord := send_keeps State.coord (fun _ _ => rfl) (fun _ _ => rfl) (fun _ _ => rfl) (fun _ _ => rfl) s _
@[simp] theorem send_job (m : Msg) : (send m s).job = s.job := send_keeps State.job (fun _ _ => rfl) (fun _ _ => rfl) (fun _ _ => rfl) (fun _ _ => rfl) s _
@[simp] theorem send_satt (m : Msg) : (send m s).satt = s.satt := send_keeps State.satt (fun _ _ => rfl) (fun _ _ => rfl) (fun _ _ => rfl) (fun _ _ => rfl) s _
@[simp] theorem send_mbx (m : Msg) : (send m s).mbx = s.mbx := send_keeps State.mbx (fun _ _ => rfl) (fun _ _ => rfl) (fun _ _ => rfl) (fun _ _ => rfl) s _
@[simp] theorem send_obs (m : Msg) : (send m s).obs = s.obs := send_keeps State.obs (fun _ _ => rfl) (fun _ _ => rfl) (fun _ _ => rfl) (fun _ _ => rfl) s _
@[simp] theorem send_mem (m : Msg) : (send m s).mem = s.mem := send_keeps State.mem (fun _ _ => rfl) (fun _ _ => rfl) (fun _ _ => rfl) (fun _ _ => rfl) s _
@[simp] theorem send_poison (m : Msg) : (send m s).poison = s.poison := send_keeps State.poison (fun _ _ => rfl) (fun _ _ => rfl) (fun _ _ => rfl) (fun _ _ => rfl) s _
@[simp] theorem send_upsets (m : Msg) : (send m s).upsets = s.upsets := send_keeps State.upsets (fun _ _ => rfl) (fun _ _ => rfl) (fun _ _ => rfl) (fun _ _ => rfl) s _
@[simp] theorem send_chans (m : Msg) : (send m s).chans = s.chans := send_keeps State.chans (fun _ _ => rfl) (fun _ _ => rfl) (fun _ _ => rfl) (fun _ _ => rfl) s _
@[simp] theorem send_tags (m : Msg) : (send m s).tags = s.tags := send_keeps State.tags (fun _ _ => rfl) (fun _ _ => rfl) (fun _ _ => rfl) (fun _ _ => rfl) s _
@[simp] theorem send_tagc (m : Msg) : (send m s).tagc = s.tagc := send_keeps State.tagc (fun _ _ => rfl) (fun _ _ => rfl) (fun _ _ => rfl) (fun _ _ => rfl) s _
@[simp] theorem send_pins (m : Msg) : (send m s).pins = s.pins := send_keeps State.pins (fun _ _ => rfl) (fun _ _ => rfl) (fun _ _ => rfl) (fun _ _ => rfl) s _
@[simp] theorem send_tier (m : Msg) : (send m s).tier = s.tier := send_keeps State.tier (fun _ _ => rfl) (fun _ _ => rfl) (fun _ _ => rfl) (fun _ _ => rfl) s _
@[simp] theorem send_pool (m : Msg) : (send m s).pool = s.pool := send_keeps State.pool (fun _ _ => rfl) (fun _ _ => rfl) (fun _ _ => rfl) (fun _ _ => rfl) s _
@[simp] theorem send_rgn (m : Msg) : (send m s).rgn = s.rgn := send_keeps State.rgn (fun _ _ => rfl) (fun _ _ => rfl) (fun _ _ => rfl) (fun _ _ => rfl) s _
@[simp] theorem send_ctx (m : Msg) : (send m s).ctx = s.ctx := send_keeps State.ctx (fun _ _ => rfl) (fun _ _ => rfl) (fun _ _ => rfl) (fun _ _ => rfl) s _
@[simp] theorem send_work (m : Msg) : (send m s).work = s.work := send_keeps State.work (fun _ _ => rfl) (fun _ _ => rfl) (fun _ _ => rfl) (fun _ _ => rfl) s _
@[simp] theorem send_free (m : Msg) : (send m s).free = s.free := send_keeps State.free (fun _ _ => rfl) (fun _ _ => rfl) (fun _ _ => rfl) (fun _ _ => rfl) s _
@[simp] theorem send_chan (m : Msg) (z : ChanId) : (send m s).chan z = s.chan z := send_keeps (fun x => State.chan x z) (fun _ _ => rfl) (fun _ _ => rfl) (fun _ _ => rfl) (fun _ _ => rfl) s _
@[simp] theorem send_exts (m : Msg) (z : ChanId) : (send m s).exts z = s.exts z := send_keeps (fun x => State.exts x z) (fun _ _ => rfl) (fun _ _ => rfl) (fun _ _ => rfl) (fun _ _ => rfl) s _
@[simp] theorem send_car (m : Msg) (z : CarrierId) : (send m s).car z = s.car z := send_keeps (fun x => State.car x z) (fun _ _ => rfl) (fun _ _ => rfl) (fun _ _ => rfl) (fun _ _ => rfl) s _
@[simp] theorem send_slice (m : Msg) (z : SliceId) : (send m s).slice z = s.slice z := send_keeps (fun x => State.slice x z) (fun _ _ => rfl) (fun _ _ => rfl) (fun _ _ => rfl) (fun _ _ => rfl) s _
@[simp] theorem send_quart (m : Msg) (z : Quarter) : (send m s).quart z = s.quart z := send_keeps (fun x => State.quart x z) (fun _ _ => rfl) (fun _ _ => rfl) (fun _ _ => rfl) (fun _ _ => rfl) s _
@[simp] theorem send_core (m : Msg) (z : CoreId) : (send m s).core z = s.core z := send_keeps (fun x => State.core x z) (fun _ _ => rfl) (fun _ _ => rfl) (fun _ _ => rfl) (fun _ _ => rfl) s _
@[simp] theorem send_key (m : Msg) (z : TenantId) : (send m s).key z = s.key z := send_keeps (fun x => State.key x z) (fun _ _ => rfl) (fun _ _ => rfl) (fun _ _ => rfl) (fun _ _ => rfl) s _
@[simp] theorem send_counter (m : Msg) (z : Fin 8) : (send m s).counter z = s.counter z := send_keeps (fun x => State.counter x z) (fun _ _ => rfl) (fun _ _ => rfl) (fun _ _ => rfl) (fun _ _ => rfl) s _

/-! ### reply -/

@[simp] theorem reply_pending (h : CmdHdr) (c : Nat) (st : Byte) (n k : Nat) (res : Bytes) : (reply h c st n k res s).pending = s.pending := reply_keeps State.pending (fun _ _ => rfl) (fun _ _ => rfl) (fun _ _ => rfl) (fun _ _ => rfl) (fun _ _ => rfl) (fun _ _ => rfl) (fun _ _ => rfl) (fun _ _ => rfl) s _ _ _ _ _ _
@[simp] theorem reply_snap (h : CmdHdr) (c : Nat) (st : Byte) (n k : Nat) (res : Bytes) : (reply h c st n k res s).snap = s.snap := reply_keeps State.snap (fun _ _ => rfl) (fun _ _ => rfl) (fun _ _ => rfl) (fun _ _ => rfl) (fun _ _ => rfl) (fun _ _ => rfl) (fun _ _ => rfl) (fun _ _ => rfl) s _ _ _ _ _ _
@[simp] theorem reply_snap64 (h : CmdHdr) (c : Nat) (st : Byte) (n k : Nat) (res : Bytes) : (reply h c st n k res s).snap64 = s.snap64 := reply_keeps State.snap64 (fun _ _ => rfl) (fun _ _ => rfl) (fun _ _ => rfl) (fun _ _ => rfl) (fun _ _ => rfl) (fun _ _ => rfl) (fun _ _ => rfl) (fun _ _ => rfl) s _ _ _ _ _ _
@[simp] theorem reply_latch (h : CmdHdr) (c : Nat) (st : Byte) (n k : Nat) (res : Bytes) : (reply h c st n k res s).latch = s.latch := reply_keeps State.latch (fun _ _ => rfl) (fun _ _ => rfl) (fun _ _ => rfl) (fun _ _ => rfl) (fun _ _ => rfl) (fun _ _ => rfl) (fun _ _ => rfl) (fun _ _ => rfl) s _ _ _ _ _ _
@[simp] theorem reply_i3c (h : CmdHdr) (c : Nat) (st : Byte) (n k : Nat) (res : Bytes) : (reply h c st n k res s).i3c = s.i3c := reply_keeps State.i3c (fun _ _ => rfl) (fun _ _ => rfl) (fun _ _ => rfl) (fun _ _ => rfl) (fun _ _ => rfl) (fun _ _ => rfl) (fun _ _ => rfl) (fun _ _ => rfl) s _ _ _ _ _ _
@[simp] theorem reply_plog (h : CmdHdr) (c : Nat) (st : Byte) (n k : Nat) (res : Bytes) : (reply h c st n k res s).plog = s.plog := reply_keeps State.plog (fun _ _ => rfl) (fun _ _ => rfl) (fun _ _ => rfl) (fun _ _ => rfl) (fun _ _ => rfl) (fun _ _ => rfl) (fun _ _ => rfl) (fun _ _ => rfl) s _ _ _ _ _ _
@[simp] theorem reply_time (h : CmdHdr) (c : Nat) (st : Byte) (n k : Nat) (res : Bytes) : (reply h c st n k res s).time = s.time := reply_keeps State.time (fun _ _ => rfl) (fun _ _ => rfl) (fun _ _ => rfl) (fun _ _ => rfl) (fun _ _ => rfl) (fun _ _ => rfl) (fun _ _ => rfl) (fun _ _ => rfl) s _ _ _ _ _ _
@[simp] theorem reply_clk (h : CmdHdr) (c : Nat) (st : Byte) (n k : Nat) (res : Bytes) : (reply h c st n k res s).clk = s.clk := reply_keeps State.clk (fun _ _ => rfl) (fun _ _ => rfl) (fun _ _ => rfl) (fun _ _ => rfl) (fun _ _ => rfl) (fun _ _ => rfl) (fun _ _ => rfl) (fun _ _ => rfl) s _ _ _ _ _ _
@[simp] theorem reply_pwr (h : CmdHdr) (c : Nat) (st : Byte) (n k : Nat) (res : Bytes) : (reply h c st n k res s).pwr = s.pwr := reply_keeps State.pwr (fun _ _ => rfl) (fun _ _ => rfl) (fun _ _ => rfl) (fun _ _ => rfl) (fun _ _ => rfl) (fun _ _ => rfl) (fun _ _ => rfl) (fun _ _ => rfl) s _ _ _ _ _ _
@[simp] theorem reply_blank (h : CmdHdr) (c : Nat) (st : Byte) (n k : Nat) (res : Bytes) : (reply h c st n k res s).blank = s.blank := reply_keeps State.blank (fun _ _ => rfl) (fun _ _ => rfl) (fun _ _ => rfl) (fun _ _ => rfl) (fun _ _ => rfl) (fun _ _ => rfl) (fun _ _ => rfl) (fun _ _ => rfl) s _ _ _ _ _ _
@[simp] theorem reply_su (h : CmdHdr) (c : Nat) (st : Byte) (n k : Nat) (res : Bytes) : (reply h c st n k res s).su = s.su := reply_keeps State.su (fun _ _ => rfl) (fun _ _ => rfl) (fun _ _ => rfl) (fun _ _ => rfl) (fun _ _ => rfl) (fun _ _ => rfl) (fun _ _ => rfl) (fun _ _ => rfl) s _ _ _ _ _ _
@[simp] theorem reply_hw (h : CmdHdr) (c : Nat) (st : Byte) (n k : Nat) (res : Bytes) : (reply h c st n k res s).hw = s.hw := reply_keeps State.hw (fun _ _ => rfl) (fun _ _ => rfl) (fun _ _ => rfl) (fun _ _ => rfl) (fun _ _ => rfl) (fun _ _ => rfl) (fun _ _ => rfl) (fun _ _ => rfl) s _ _ _ _ _ _
@[simp] theorem reply_slices (h : CmdHdr) (c : Nat) (st : Byte) (n k : Nat) (res : Bytes) : (reply h c st n k res s).slices = s.slices := reply_keeps State.slices (fun _ _ => rfl) (fun _ _ => rfl) (fun _ _ => rfl) (fun _ _ => rfl) (fun _ _ => rfl) (fun _ _ => rfl) (fun _ _ => rfl) (fun _ _ => rfl) s _ _ _ _ _ _
@[simp] theorem reply_quarts (h : CmdHdr) (c : Nat) (st : Byte) (n k : Nat) (res : Bytes) : (reply h c st n k res s).quarts = s.quarts := reply_keeps State.quarts (fun _ _ => rfl) (fun _ _ => rfl) (fun _ _ => rfl) (fun _ _ => rfl) (fun _ _ => rfl) (fun _ _ => rfl) (fun _ _ => rfl) (fun _ _ => rfl) s _ _ _ _ _ _
@[simp] theorem reply_pin (h : CmdHdr) (c : Nat) (st : Byte) (n k : Nat) (res : Bytes) : (reply h c st n k res s).pin = s.pin := reply_keeps State.pin (fun _ _ => rfl) (fun _ _ => rfl) (fun _ _ => rfl) (fun _ _ => rfl) (fun _ _ => rfl) (fun _ _ => rfl) (fun _ _ => rfl) (fun _ _ => rfl) s _ _ _ _ _ _
@[simp] theorem reply_lands (h : CmdHdr) (c : Nat) (st : Byte) (n k : Nat) (res : Bytes) : (reply h c st n k res s).lands = s.lands := reply_keeps State.lands (fun _ _ => rfl) (fun _ _ => rfl) (fun _ _ => rfl) (fun _ _ => rfl) (fun _ _ => rfl) (fun _ _ => rfl) (fun _ _ => rfl) (fun _ _ => rfl) s _ _ _ _ _ _
@[simp] theorem reply_alive (h : CmdHdr) (c : Nat) (st : Byte) (n k : Nat) (res : Bytes) : (reply h c st n k res s).alive = s.alive := reply_keeps State.alive (fun _ _ => rfl) (fun _ _ => rfl) (fun _ _ => rfl) (fun _ _ => rfl) (fun _ _ => rfl) (fun _ _ => rfl) (fun _ _ => rfl) (fun _ _ => rfl) s _ _ _ _ _ _
@[simp] theorem reply_shp (h : CmdHdr) (c : Nat) (st : Byte) (n k : Nat) (res : Bytes) : (reply h c st n k res s).shp = s.shp := reply_keeps State.shp (fun _ _ => rfl) (fun _ _ => rfl) (fun _ _ => rfl) (fun _ _ => rfl) (fun _ _ => rfl) (fun _ _ => rfl) (fun _ _ => rfl) (fun _ _ => rfl) s _ _ _ _ _ _
@[simp] theorem reply_spn (h : CmdHdr) (c : Nat) (st : Byte) (n k : Nat) (res : Bytes) : (reply h c st n k res s).spn = s.spn := reply_keeps State.spn (fun _ _ => rfl) (fun _ _ => rfl) (fun _ _ => rfl) (fun _ _ => rfl) (fun _ _ => rfl) (fun _ _ => rfl) (fun _ _ => rfl) (fun _ _ => rfl) s _ _ _ _ _ _
@[simp] theorem reply_pair (h : CmdHdr) (c : Nat) (st : Byte) (n k : Nat) (res : Bytes) : (reply h c st n k res s).pair = s.pair := reply_keeps State.pair (fun _ _ => rfl) (fun _ _ => rfl) (fun _ _ => rfl) (fun _ _ => rfl) (fun _ _ => rfl) (fun _ _ => rfl) (fun _ _ => rfl) (fun _ _ => rfl) s _ _ _ _ _ _
@[simp] theorem reply_head (h : CmdHdr) (c : Nat) (st : Byte) (n k : Nat) (res : Bytes) : (reply h c st n k res s).head = s.head := reply_keeps State.head (fun _ _ => rfl) (fun _ _ => rfl) (fun _ _ => rfl) (fun _ _ => rfl) (fun _ _ => rfl) (fun _ _ => rfl) (fun _ _ => rfl) (fun _ _ => rfl) s _ _ _ _ _ _
@[simp] theorem reply_job (h : CmdHdr) (c : Nat) (st : Byte) (n k : Nat) (res : Bytes) : (reply h c st n k res s).job = s.job := reply_keeps State.job (fun _ _ => rfl) (fun _ _ => rfl) (fun _ _ => rfl) (fun _ _ => rfl) (fun _ _ => rfl) (fun _ _ => rfl) (fun _ _ => rfl) (fun _ _ => rfl) s _ _ _ _ _ _
@[simp] theorem reply_satt (h : CmdHdr) (c : Nat) (st : Byte) (n k : Nat) (res : Bytes) : (reply h c st n k res s).satt = s.satt := reply_keeps State.satt (fun _ _ => rfl) (fun _ _ => rfl) (fun _ _ => rfl) (fun _ _ => rfl) (fun _ _ => rfl) (fun _ _ => rfl) (fun _ _ => rfl) (fun _ _ => rfl) s _ _ _ _ _ _
@[simp] theorem reply_obs (h : CmdHdr) (c : Nat) (st : Byte) (n k : Nat) (res : Bytes) : (reply h c st n k res s).obs = s.obs := reply_keeps State.obs (fun _ _ => rfl) (fun _ _ => rfl) (fun _ _ => rfl) (fun _ _ => rfl) (fun _ _ => rfl) (fun _ _ => rfl) (fun _ _ => rfl) (fun _ _ => rfl) s _ _ _ _ _ _
@[simp] theorem reply_mem (h : CmdHdr) (c : Nat) (st : Byte) (n k : Nat) (res : Bytes) : (reply h c st n k res s).mem = s.mem := reply_keeps State.mem (fun _ _ => rfl) (fun _ _ => rfl) (fun _ _ => rfl) (fun _ _ => rfl) (fun _ _ => rfl) (fun _ _ => rfl) (fun _ _ => rfl) (fun _ _ => rfl) s _ _ _ _ _ _
@[simp] theorem reply_poison (h : CmdHdr) (c : Nat) (st : Byte) (n k : Nat) (res : Bytes) : (reply h c st n k res s).poison = s.poison := reply_keeps State.poison (fun _ _ => rfl) (fun _ _ => rfl) (fun _ _ => rfl) (fun _ _ => rfl) (fun _ _ => rfl) (fun _ _ => rfl) (fun _ _ => rfl) (fun _ _ => rfl) s _ _ _ _ _ _
@[simp] theorem reply_upsets (h : CmdHdr) (c : Nat) (st : Byte) (n k : Nat) (res : Bytes) : (reply h c st n k res s).upsets = s.upsets := reply_keeps State.upsets (fun _ _ => rfl) (fun _ _ => rfl) (fun _ _ => rfl) (fun _ _ => rfl) (fun _ _ => rfl) (fun _ _ => rfl) (fun _ _ => rfl) (fun _ _ => rfl) s _ _ _ _ _ _
@[simp] theorem reply_chans (h : CmdHdr) (c : Nat) (st : Byte) (n k : Nat) (res : Bytes) : (reply h c st n k res s).chans = s.chans := reply_keeps State.chans (fun _ _ => rfl) (fun _ _ => rfl) (fun _ _ => rfl) (fun _ _ => rfl) (fun _ _ => rfl) (fun _ _ => rfl) (fun _ _ => rfl) (fun _ _ => rfl) s _ _ _ _ _ _
@[simp] theorem reply_tags (h : CmdHdr) (c : Nat) (st : Byte) (n k : Nat) (res : Bytes) : (reply h c st n k res s).tags = s.tags := reply_keeps State.tags (fun _ _ => rfl) (fun _ _ => rfl) (fun _ _ => rfl) (fun _ _ => rfl) (fun _ _ => rfl) (fun _ _ => rfl) (fun _ _ => rfl) (fun _ _ => rfl) s _ _ _ _ _ _
@[simp] theorem reply_tagc (h : CmdHdr) (c : Nat) (st : Byte) (n k : Nat) (res : Bytes) : (reply h c st n k res s).tagc = s.tagc := reply_keeps State.tagc (fun _ _ => rfl) (fun _ _ => rfl) (fun _ _ => rfl) (fun _ _ => rfl) (fun _ _ => rfl) (fun _ _ => rfl) (fun _ _ => rfl) (fun _ _ => rfl) s _ _ _ _ _ _
@[simp] theorem reply_pins (h : CmdHdr) (c : Nat) (st : Byte) (n k : Nat) (res : Bytes) : (reply h c st n k res s).pins = s.pins := reply_keeps State.pins (fun _ _ => rfl) (fun _ _ => rfl) (fun _ _ => rfl) (fun _ _ => rfl) (fun _ _ => rfl) (fun _ _ => rfl) (fun _ _ => rfl) (fun _ _ => rfl) s _ _ _ _ _ _
@[simp] theorem reply_tier (h : CmdHdr) (c : Nat) (st : Byte) (n k : Nat) (res : Bytes) : (reply h c st n k res s).tier = s.tier := reply_keeps State.tier (fun _ _ => rfl) (fun _ _ => rfl) (fun _ _ => rfl) (fun _ _ => rfl) (fun _ _ => rfl) (fun _ _ => rfl) (fun _ _ => rfl) (fun _ _ => rfl) s _ _ _ _ _ _
@[simp] theorem reply_pool (h : CmdHdr) (c : Nat) (st : Byte) (n k : Nat) (res : Bytes) : (reply h c st n k res s).pool = s.pool := reply_keeps State.pool (fun _ _ => rfl) (fun _ _ => rfl) (fun _ _ => rfl) (fun _ _ => rfl) (fun _ _ => rfl) (fun _ _ => rfl) (fun _ _ => rfl) (fun _ _ => rfl) s _ _ _ _ _ _
@[simp] theorem reply_rgn (h : CmdHdr) (c : Nat) (st : Byte) (n k : Nat) (res : Bytes) : (reply h c st n k res s).rgn = s.rgn := reply_keeps State.rgn (fun _ _ => rfl) (fun _ _ => rfl) (fun _ _ => rfl) (fun _ _ => rfl) (fun _ _ => rfl) (fun _ _ => rfl) (fun _ _ => rfl) (fun _ _ => rfl) s _ _ _ _ _ _
@[simp] theorem reply_ctx (h : CmdHdr) (c : Nat) (st : Byte) (n k : Nat) (res : Bytes) : (reply h c st n k res s).ctx = s.ctx := reply_keeps State.ctx (fun _ _ => rfl) (fun _ _ => rfl) (fun _ _ => rfl) (fun _ _ => rfl) (fun _ _ => rfl) (fun _ _ => rfl) (fun _ _ => rfl) (fun _ _ => rfl) s _ _ _ _ _ _
@[simp] theorem reply_work (h : CmdHdr) (c : Nat) (st : Byte) (n k : Nat) (res : Bytes) : (reply h c st n k res s).work = s.work := reply_keeps State.work (fun _ _ => rfl) (fun _ _ => rfl) (fun _ _ => rfl) (fun _ _ => rfl) (fun _ _ => rfl) (fun _ _ => rfl) (fun _ _ => rfl) (fun _ _ => rfl) s _ _ _ _ _ _
@[simp] theorem reply_chan (h : CmdHdr) (c : Nat) (st : Byte) (n k : Nat) (res : Bytes) (z : ChanId) : (reply h c st n k res s).chan z = s.chan z := reply_keeps (fun x => State.chan x z) (fun _ _ => rfl) (fun _ _ => rfl) (fun _ _ => rfl) (fun _ _ => rfl) (fun _ _ => rfl) (fun _ _ => rfl) (fun _ _ => rfl) (fun _ _ => rfl) s _ _ _ _ _ _
@[simp] theorem reply_exts (h : CmdHdr) (c : Nat) (st : Byte) (n k : Nat) (res : Bytes) (z : ChanId) : (reply h c st n k res s).exts z = s.exts z := reply_keeps (fun x => State.exts x z) (fun _ _ => rfl) (fun _ _ => rfl) (fun _ _ => rfl) (fun _ _ => rfl) (fun _ _ => rfl) (fun _ _ => rfl) (fun _ _ => rfl) (fun _ _ => rfl) s _ _ _ _ _ _
@[simp] theorem reply_car (h : CmdHdr) (c : Nat) (st : Byte) (n k : Nat) (res : Bytes) (z : CarrierId) : (reply h c st n k res s).car z = s.car z := reply_keeps (fun x => State.car x z) (fun _ _ => rfl) (fun _ _ => rfl) (fun _ _ => rfl) (fun _ _ => rfl) (fun _ _ => rfl) (fun _ _ => rfl) (fun _ _ => rfl) (fun _ _ => rfl) s _ _ _ _ _ _
@[simp] theorem reply_slice (h : CmdHdr) (c : Nat) (st : Byte) (n k : Nat) (res : Bytes) (z : SliceId) : (reply h c st n k res s).slice z = s.slice z := reply_keeps (fun x => State.slice x z) (fun _ _ => rfl) (fun _ _ => rfl) (fun _ _ => rfl) (fun _ _ => rfl) (fun _ _ => rfl) (fun _ _ => rfl) (fun _ _ => rfl) (fun _ _ => rfl) s _ _ _ _ _ _
@[simp] theorem reply_quart (h : CmdHdr) (c : Nat) (st : Byte) (n k : Nat) (res : Bytes) (z : Quarter) : (reply h c st n k res s).quart z = s.quart z := reply_keeps (fun x => State.quart x z) (fun _ _ => rfl) (fun _ _ => rfl) (fun _ _ => rfl) (fun _ _ => rfl) (fun _ _ => rfl) (fun _ _ => rfl) (fun _ _ => rfl) (fun _ _ => rfl) s _ _ _ _ _ _
@[simp] theorem reply_core (h : CmdHdr) (c : Nat) (st : Byte) (n k : Nat) (res : Bytes) (z : CoreId) : (reply h c st n k res s).core z = s.core z := reply_keeps (fun x => State.core x z) (fun _ _ => rfl) (fun _ _ => rfl) (fun _ _ => rfl) (fun _ _ => rfl) (fun _ _ => rfl) (fun _ _ => rfl) (fun _ _ => rfl) (fun _ _ => rfl) s _ _ _ _ _ _
@[simp] theorem reply_key (h : CmdHdr) (c : Nat) (st : Byte) (n k : Nat) (res : Bytes) (z : TenantId) : (reply h c st n k res s).key z = s.key z := reply_keeps (fun x => State.key x z) (fun _ _ => rfl) (fun _ _ => rfl) (fun _ _ => rfl) (fun _ _ => rfl) (fun _ _ => rfl) (fun _ _ => rfl) (fun _ _ => rfl) (fun _ _ => rfl) s _ _ _ _ _ _
@[simp] theorem reply_counter (h : CmdHdr) (c : Nat) (st : Byte) (n k : Nat) (res : Bytes) (z : Fin 8) : (reply h c st n k res s).counter z = s.counter z := reply_keeps (fun x => State.counter x z) (fun _ _ => rfl) (fun _ _ => rfl) (fun _ _ => rfl) (fun _ _ => rfl) (fun _ _ => rfl) (fun _ _ => rfl) (fun _ _ => rfl) (fun _ _ => rfl) s _ _ _ _ _ _
/-! ### Registers (R15) -/

theorem regKey_inj {r q : Reg} {u v : Nat} (hu : u < 65536) (hv : v < 65536) (h : regKey r u = regKey q v) : r.ctorIdx = q.ctorIdx ∧ u = v := by
  unfold regKey at h
  omega

@[simp] theorem reg_setReg_self (r : Reg) (u : Nat) (v : W32) : (s.setReg r u v).reg r u = v := Sparse.get_put_self _ _ _ _

theorem reg_setReg_ne {r q : Reg} {u v : Nat} (x : W32) (h : regKey q v ≠ regKey r u) : (s.setReg r u x).reg q v = s.reg q v :=
  Sparse.get_put_ne _ _ _ _ h

@[simp] theorem reg_result_self (r : Reg) (u : Nat) (st : Byte) (c : Nat) : (s.result r u st c).reg r u = w32 (c % 16 * 256 + st.toNat) :=
  reg_setReg_self _ _ _ _

@[simp] theorem reg_busy_self (r : Reg) (u : Nat) : (s.busy r u).reg r u = 0x80000000#32 := reg_setReg_self _ _ _ _

@[simp] theorem isBusy_busy (r : Reg) (u : Nat) : (s.busy r u).isBusy r u = true := by
  unfold State.isBusy State.rfld
  rw [reg_busy_self]
  norm_num [fld, bits]

/-! ### Outcomes -/

@[simp] theorem done_eq : done s = .next (settle s) := (rfl)

/-- A command that comes about only where the hub runs, there. -/
theorem live_run {f : State → State} (h : s.su.held = false) : live f s = .next (settle (f s)) := by
  simp [live, h]

/-- While the hub is held in reset, nothing but the lands changes. -/
theorem live_held {f : State → State} (h : s.su.held = true) : live f s = .next (settle s) := by
  simp [live, h]

theorem pumped_run {f : State → State} (h : s.su.held = false) : pumped f s = .next (settle (pump (f s))) := live_run s h

/-- What `done`, `live` and `pumped` answer is settled. -/
theorem settle_settled : (settle s).Settled := rfl

/-! ### What is sent -/

/-- Whatever left the device stays on record. -/
def Outs (s t : State) : Prop := ∀ o, o ∈ s.out → o ∈ t.out

theorem outs_refl : Outs s s := fun _ h => h
theorem outs_trans {s t u : State} (h : Outs s t) (k : Outs t u) : Outs s u := fun o ho => k o (h o ho)
theorem outs_emit (o : Out) : Outs s (emit o s) := fun _ h => by simp [h]
theorem outs_of_eq {s t : State} (h : t.out = s.out) : Outs s t := fun _ ho => h ▸ ho

theorem outs_foldl {β : Type} (f : State → β → State) (h : ∀ s b, Outs s (f s b)) (l : List β) : Outs s (l.foldl f s) := by
  induction l generalizing s with
  | nil => exact outs_refl s
  | cons b r ih => exact outs_trans (h s b) (ih _)

theorem outs_sendSeq (l : LinkId) (t vc : Nat) (hd tl : Bool) (b : Bytes) : Outs s (sendSeq l t vc hd tl b s) := by
  intro o ho
  unfold sendSeq
  simp only
  split <;> simp [ho]

theorem outs_sendUnseq (l : LinkId) (t : Nat) (n : Bool) (b : Bytes) : Outs s (sendUnseq l t n b s) := by
  intro o ho
  simp [sendUnseq, ho]

theorem outs_freeFlit (l : LinkId) (vc : Nat) : Outs s (freeFlit l vc s) := by
  unfold freeFlit
  simp only
  split
  · exact fun o ho => outs_sendUnseq _ _ _ _ _ o (by simpa using ho)
  · exact fun o ho => by simpa using ho

theorem outs_serveLink (n : Nat) (l : LinkId) : Outs s (serveLink l n s) := by
  induction n generalizing s with
  | zero => exact outs_refl s
  | succ n ih =>
    unfold serveLink
    split
    · next s' h =>
      refine outs_trans ?_ (ih s')
      unfold serveOne at h
      simp only at h
      split at h
      · cases h
      · split at h
        · cases h
        · cases h
          split
          · exact outs_trans (t := sendSeq _ _ _ _ _ _ _) (fun o ho => outs_sendSeq _ _ _ _ _ _ _ o (by simpa using ho)) (outs_freeFlit _ _ _)
          · exact fun o ho => outs_sendSeq _ _ _ _ _ _ _ o (by simpa using ho)
    · exact outs_refl s

theorem outs_putFlit (l : LinkId) (w : WaitFlit) : Outs s (putFlit l w s) := fun o ho => outs_serveLink _ _ _ o (by simpa using ho)

theorem outs_send (m : Msg) : Outs s (send m s) := by
  unfold send
  split
  · exact fun o ho => by simp [ho]
  · simp only
    split
    · exact outs_trans (outs_emit s _) (outs_foldl _ _ (fun s _ => outs_putFlit s _ _) _)
    · exact outs_emit s _

/-- A message that is sent is on record. -/
theorem send_sent (m : Msg) : (send m s).Sent m := by
  unfold send
  split
  · exact ⟨31, by simp⟩
  · next p h =>
    refine ⟨p, ?_⟩
    simp only
    split
    · exact outs_foldl _ _ (fun s _ => outs_putFlit s _ _) _ _ (by simp)
    · simp

/-! ### Time runs on -/

theorem le_advanceTo (d : Nat) (s : State) : d ≤ (advanceTo d s).time.nclk := by
  unfold advanceTo
  split
  · simp [elapse]
    omega
  · omega

/-- Pool time reaches the instant, whatever slew is under way (R438). -/
theorem le_advancePool (t : Nat) (s : State) : t ≤ (advancePool t s).ptNs := by
  unfold advancePool elapse State.ptNs slewPart cdiv
  simp only
  generalize s.time.slew = w
  generalize s.time.pt = p
  have h1 : ∀ d : Nat, (((5 * d : Nat) : Int) / 10000) = ((5 * d / 10000 : Nat) : Int) := by intro d; omega
  simp only [h1]
  generalize hd : 8 * t - p = d
  generalize hn : (min (d + (-w).toNat) ((10000 * d + 9999 - 1) / 9999) + 5 - 1) / 5 = n
  have hb : d + (-w).toNat ≤ 5 * n ∨ (10000 * d + 9999 - 1) / 9999 ≤ 5 * n := by omega
  generalize hm : 5 * n / 10000 = m
  have hk : -(m : Int) ≤ max (-(m : Int)) (min (m : Int) w) := Int.le_max_left _ _
  have hk2 : min (m : Int) w ≤ max (-(m : Int)) (min (m : Int) w) := Int.le_max_right _ _
  generalize hkk : max (-(m : Int)) (min (m : Int) w) = k at *
  have : (8 * t : Int) ≤ (p : Int) + 5 * n + k := by
    rcases hb with hb | hb <;> omega
  omega
end Sys2Proof.Machine
end

