-- ==== Sys2Proof/Laws/PerInstr.lean ====
section
/-! SUPPORT. The per-command family Payload: the bytes that a well-formed command carries, at most a member's report in its answer (R147, R308, R366, R381). -/

namespace Sys2Proof.Laws

/-- The bytes a command carries. -/
def payload (i : Instr) : Bytes :=
  match i with
  | .carrierDiscoveryDone _ r => r.desc
  | .timeSync m => m.payload
  | .timeDreq m => m.payload
  | .timeDresp m => m.payload
  | .nullFlit _ f => f.msg
  | .msgFlit _ f => f.msg
  | .creditFlit _ f => f.msg
  | .abortFlit _ f => f.msg
  | .keyxFlit _ f => f.msg
  | .rdOnce r => r.payload
  | .rdShared r => r.payload
  | .rdOwn r => r.payload
  | .upgrade r => r.payload
  | .wrLine r => r.payload
  | .wrPart r => r.payload
  | .atomic r => r.payload
  | .redAdd r => r.payload
  | .redRead r => r.payload
  | .invAck m => m.payload
  | .shrAck m => m.payload
  | .datSnp m => m.payload
  | .flushAck m => m.payload
  | .wbDirty m => m.payload
  | .wbClean m => m.payload
  | .snpInvPtReader m => m.payload
  | .poolAnswer _ _ _ _ data => data
  | .mbxCmd m => m.payload
  | .doorbell m => m.payload
  | .regRead m => m.payload
  | .regWrite m => m.payload
  | .segmentWrite _ _ desc => desc
  | .queueCreate _ args => args
  | .taskSubmit _ desc => desc
  | .recPrepare _ _ _ _ record => record
  | .cmdFwd _ _ block => block
  | .coordAck _ _ _ _ _ body => body
  | .attest _ nonce _ _ _ => nonce
  | .attestReportDone sig => sig
  | .svcWindowOpen _ token _ => token
  | .stackAttest _ nonce _ _ => nonce
  | .watchSet _ args => args
  | .blkPut m => m.payload
  | .blkAck m => m.payload
  | .superFrame frame => frame
  | .enumFrame frame => frame
  | .headClaimFrame frame => frame
  | .heartbeat _ hb => hb
  | .epochAnnounce m => m.payload
  | .epochAck m => m.payload
  | .handoverGo m => m.payload
  | .undefinedReqOpcode _ r => r.payload
  | .undefinedMgtOpcode _ m => m.payload
  | .reservedFtypeFlit _ f => f.msg
  | .stackMapUpdate m => m.payload
  | .powerOnReset _ _ _ | .oscStable _ | .startupStepDone _ | .ddrTrainDone _ _ | .suCmdRun _ | .suCmdRetry _ | .quarterReset _
    | .quarterDrainDone _ | .qwdogExpire _ | .pfSequenceDone _ _ | .tempReport _ | .powerMeasure _ | .clockRampStep _
    | .eclkReqWrite _ | .setState _ | .ptpMessage _ _ _ | .laneSignalDetect _ | .linkTrainDone _ _ | .linkTrainTimeout _
    | .configFlit _ _ | .configTimeout _ | .authFlit _ _ | .authTimeout _ | .replayTimeout _ | .ackCoalesceTimer _
    | .creditTimer _ | .linkRekey _ | .rekeyTimeout _ | .laneLockLoss _ _ | .laneLockRegain _ _ | .linkDownTimer _
    | .retrainDone _ _ | .retrainTimeout _ | .linkHoldoffExpire _ | .linkDisable _ | .linkDisableDone _ | .linkEnable _
    | .linkRetrain _ _ _ | .stallTimeout _ _ | .lineLockGranted _ | .victimWayFree _ | .victimLimitRelease _
    | .flashReadDone _ _ | .journalGroupExpire _ _ | .journalProgramDone _ _ _ _ _ | .denseStripeTimeout _ _
    | .denseVerifyDone _ _ _ _ _ | .flashEraseDone _ _ _ | .wearLevelCheck _ | .retentionScan _ _ _ | .carPrsntFall _
    | .carPrsntRise _ | .carOwnFall _ | .carOwnRise _ | .carOffline _ _ | .carOfflineDone _ | .carAttach _ | .rebuildDone _
    | .snoopTimeout _ _ | .flushTimeout _ _ | .pmicFault _ | .caParityAlert _ _ | .dmaRetryTimer _ | .ptabWriteAck _
    | .tcFlush _ | .ddrEvacuate _ _ | .ddrEvacuateDone _ | .ddrRestore _ | .ddrRestoreDone _ _ | .refreshDue _
    | .pdTimerExpire _ _ | .dimmTempPoll _ _ | .scrubTick _ | .ceClear _ | .tagcWbAll _ | .tileDone _ _ | .cmpBlockDone _ _
    | .coreFault _ _ | .kcWatchdogExpire _ | .kcReset _ | .kcClearDone _ | .kcSelftestDone _ _ | .ctxCreate _ | .ctxStop _
    | .ctxStart _ | .ctxDestroy _ | .ctxDestroyDone _ | .queuePause _ | .queueResume _ | .queueDelete _ | .progLoad _ _ _
    | .progUnload _ _ | .taskCancel _ _ | .taskQuery _ _ | .trigRaise _ _ | .trigRead _ _ | .regionCreate _ _
    | .regionQuiesce _ _ | .regionQuiesceDone _ | .regionResume _ _ | .regionDelete _ _ | .regionDeleteDone _
    | .regionRead _ _ _ | .redOpen _ _ _ | .redClose _ _ _ | .redCloseTimer _ | .redNextN _ _ _ | .srcAdvance _ _ _
    | .matDrop _ _ _ | .recPrepareRetry _ | .recCommit _ _ _ _ | .recAbort _ _ _ _ | .trigRaiseMsg _ _ _ _ _ _
    | .redReport _ _ _ _ _ | .redCloseMsg _ _ _ | .redDone _ _ _ _ _ _ | .matInval _ _ _ _ | .jobPrepare _ | .jobCommit _ _
    | .jobAbort _ | .jobBoundary _ _ | .sliceClearDone _ | .slotRejoin _ _ | .slotRejoinDone _ _ | .keySet _ _ _ _
    | .keyDestroy _ | .ctrInc _ _ | .ctrSet _ _ _ | .svcWindowClose _ | .lidClear _ | .svnCommit _ | .cntRead _ _ _
    | .cntEnable _ _ | .evtRead _ _ | .watchClear _ _ _ | .stageCommit _ _ | .unlock _ | .lidSample _ | .lidDiscExpire _
    | .meshSample _ | .tempTamperSample _ | .spnAlarmSet _ | .takeoverStageDone _ | .epochAnnounceRetry _ | .chkCfgWrite _ _
    | .chkDataWrite _ _ _ | .chkValueWrite _ _ | .leaseRequest _ _ | .leaseGrant _ _ | .leaseIdleExpire _ _
    | .i3cPrivateWrite _ _ | .latchedPairRead _ | .registerWrite _ _ | .quarterDrainTimeout _ | .stackAttestMemberTimeout _
    | .genDoneResend _ _ | .jtagTapAccess _ | .rootPllLock | .coreWave | .warmRstNFall | .warmReset | .warmDrainDone
    | .warmDrainTimeout | .sourceFail | .mainRailLoss | .pwrfailNFall | .pfRestartTimeout | .capStep | .idleTimerExpire
    | .dozeTimerExpire | .timeSyncPeriod | .holdoverEntry | .holdoverExpire | .rtcSecond | .calCommit | .journalSpaceReclaimed
    | .checkpointInterval | .checkpointVerified | .gcStart | .carOwnHoldExpire | .remirrorDone | .schedStep | .mbxGo | .jobApply
    | .svcWindowStart | .svcWindowEnd | .pairYield | .stageBegin | .putWin | .ownerClaim | .snap | .cntClear | .shvShave
    | .shvRelease | .shvExport | .shvExportDone | .challenge | .dbgNonceExpire | .vaultReset | .supplyGlitch | .clockGlitch
    | .superFramePeriod | .enumRepeat | .chainBroken | .originTimeout | .headstockAbsent | .headClaimRepeat | .headClaimWin
    | .heartbeatSend | .hbSlotEnd | .partnerWaitTimeout | .recoveryWindowClose | .handoverStart | .handoverStageDone
    | .tgEntryBoundary | .pendingPlateStart | .evtRateSecond | .traceTimeTick | .i3cPrivateRead | .sleepEntryDone => []

namespace Payload

set_option Elab.async false

/-- A well-formed command carries at most the 13,060 bytes of a report in an answer, the longest thing that arrives. -/
def Statement (i : Instr) : Prop := i.wf = true → (payload i).length ≤ 13060

theorem powerOnReset (cause : PorCause) (straps : Straps) (pufOk : Bool) : Statement (.powerOnReset cause straps pufOk) := fun _ => Nat.zero_le _
theorem oscStable (o : Osc) : Statement (.oscStable o) := fun _ => Nat.zero_le _
theorem startupStepDone (r : StepReport) : Statement (.startupStepDone r) := fun _ => Nat.zero_le _
theorem ddrTrainDone (c : ChanId) (r : TrainReport) : Statement (.ddrTrainDone c r) := fun _ => Nat.zero_le _
theorem carrierDiscoveryDone (c : CarrierId) (r : CarrierReport) : Statement (.carrierDiscoveryDone c r) := by
  intro h
  simp only [Instr.wf, CarrierReport.wf, Bool.and_eq_true, decide_eq_true_eq] at h
  simp only [payload]
  omega
theorem suCmdRun (step : BitVec 4) : Statement (.suCmdRun step) := fun _ => Nat.zero_le _
theorem suCmdRetry (step : BitVec 4) : Statement (.suCmdRetry step) := fun _ => Nat.zero_le _
theorem quarterReset (q : Quarter) : Statement (.quarterReset q) := fun _ => Nat.zero_le _
theorem quarterDrainDone (q : Quarter) : Statement (.quarterDrainDone q) := fun _ => Nat.zero_le _
theorem qwdogExpire (q : Quarter) : Statement (.qwdogExpire q) := fun _ => Nat.zero_le _
theorem pfSequenceDone (mib : W16) (us : W16) : Statement (.pfSequenceDone mib us) := fun _ => Nat.zero_le _
theorem tempReport (celsius : Byte) : Statement (.tempReport celsius) := fun _ => Nat.zero_le _
theorem powerMeasure (watts : W16) : Statement (.powerMeasure watts) := fun _ => Nat.zero_le _
theorem clockRampStep (d : DomId) : Statement (.clockRampStep d) := fun _ => Nat.zero_le _
theorem eclkReqWrite (div : BitVec 4) : Statement (.eclkReqWrite div) := fun _ => Nat.zero_le _
theorem setState (target : BitVec 4) : Statement (.setState target) := fun _ => Nat.zero_le _
theorem timeSync (m : MgtMsg) : Statement (.timeSync m) := by
  intro h
  simp only [Instr.wf, MgtMsg.wf, decide_eq_true_eq] at h
  simp only [payload]
  omega
theorem timeDreq (m : MgtMsg) : Statement (.timeDreq m) := by
  intro h
  simp only [Instr.wf, MgtMsg.wf, decide_eq_true_eq] at h
  simp only [payload]
  omega
theorem timeDresp (m : MgtMsg) : Statement (.timeDresp m) := by
  intro h
  simp only [Instr.wf, MgtMsg.wf, decide_eq_true_eq] at h
  simp only [payload]
  omega
theorem ptpMessage (domain : Byte) (locked : Bool) (ptpNs : W64) : Statement (.ptpMessage domain locked ptpNs) := fun _ => Nat.zero_le _
theorem laneSignalDetect (l : LinkId) : Statement (.laneSignalDetect l) := fun _ => Nat.zero_le _
theorem linkTrainDone (l : LinkId) (lanes : BitVec 4) : Statement (.linkTrainDone l lanes) := fun _ => Nat.zero_le _
theorem linkTrainTimeout (l : LinkId) : Statement (.linkTrainTimeout l) := fun _ => Nat.zero_le _
theorem configFlit (l : LinkId) (p : PeerConfig) : Statement (.configFlit l p) := fun _ => Nat.zero_le _
theorem configTimeout (l : LinkId) : Statement (.configTimeout l) := fun _ => Nat.zero_le _
theorem authFlit (l : LinkId) (v : AuthVerdict) : Statement (.authFlit l v) := fun _ => Nat.zero_le _
theorem authTimeout (l : LinkId) : Statement (.authTimeout l) := fun _ => Nat.zero_le _
theorem nullFlit (l : LinkId) (f : Flit) : Statement (.nullFlit l f) := by
  intro h
  simp only [Instr.wf, Flit.wf, decide_eq_true_eq] at h
  simp only [payload]
  omega
theorem msgFlit (l : LinkId) (f : Flit) : Statement (.msgFlit l f) := by
  intro h
  simp only [Instr.wf, Flit.wf, decide_eq_true_eq] at h
  simp only [payload]
  omega
theorem creditFlit (l : LinkId) (f : Flit) : Statement (.creditFlit l f) := by
  intro h
  simp only [Instr.wf, Flit.wf, decide_eq_true_eq] at h
  simp only [payload]
  omega
theorem abortFlit (l : LinkId) (f : Flit) : Statement (.abortFlit l f) := by
  intro h
  simp only [Instr.wf, Flit.wf, decide_eq_true_eq] at h
  simp only [payload]
  omega
theorem keyxFlit (l : LinkId) (f : Flit) : Statement (.keyxFlit l f) := by
  intro h
  simp only [Instr.wf, Flit.wf, decide_eq_true_eq] at h
  simp only [payload]
  omega
theorem replayTimeout (l : LinkId) : Statement (.replayTimeout l) := fun _ => Nat.zero_le _
theorem ackCoalesceTimer (l : LinkId) : Statement (.ackCoalesceTimer l) := fun _ => Nat.zero_le _
theorem creditTimer (l : LinkId) : Statement (.creditTimer l) := fun _ => Nat.zero_le _
theorem linkRekey (l : LinkId) : Statement (.linkRekey l) := fun _ => Nat.zero_le _
theorem rekeyTimeout (l : LinkId) : Statement (.rekeyTimeout l) := fun _ => Nat.zero_le _
theorem laneLockLoss (l : LinkId) (lane : Fin 4) : Statement (.laneLockLoss l lane) := fun _ => Nat.zero_le _
theorem laneLockRegain (l : LinkId) (lane : Fin 4) : Statement (.laneLockRegain l lane) := fun _ => Nat.zero_le _
theorem linkDownTimer (l : LinkId) : Statement (.linkDownTimer l) := fun _ => Nat.zero_le _
theorem retrainDone (l : LinkId) (p : PeerConfig) : Statement (.retrainDone l p) := fun _ => Nat.zero_le _
theorem retrainTimeout (l : LinkId) : Statement (.retrainTimeout l) := fun _ => Nat.zero_le _
theorem linkHoldoffExpire (l : LinkId) : Statement (.linkHoldoffExpire l) := fun _ => Nat.zero_le _
theorem linkDisable (l : LinkId) : Statement (.linkDisable l) := fun _ => Nat.zero_le _
theorem linkDisableDone (l : LinkId) : Statement (.linkDisableDone l) := fun _ => Nat.zero_le _
theorem linkEnable (l : LinkId) : Statement (.linkEnable l) := fun _ => Nat.zero_le _
theorem linkRetrain (l : LinkId) (width : BitVec 2) (rate : BitVec 2) : Statement (.linkRetrain l width rate) := fun _ => Nat.zero_le _
theorem stallTimeout (l : LinkId) (vc : Fin 6) : Statement (.stallTimeout l vc) := fun _ => Nat.zero_le _
theorem rdOnce (r : ReqMsg) : Statement (.rdOnce r) := by
  intro h
  simp only [Instr.wf, ReqMsg.wf, decide_eq_true_eq] at h
  simp only [payload]
  omega
theorem rdShared (r : ReqMsg) : Statement (.rdShared r) := by
  intro h
  simp only [Instr.wf, ReqMsg.wf, decide_eq_true_eq] at h
  simp only [payload]
  omega
theorem rdOwn (r : ReqMsg) : Statement (.rdOwn r) := by
  intro h
  simp only [Instr.wf, ReqMsg.wf, decide_eq_true_eq] at h
  simp only [payload]
  omega
theorem upgrade (r : ReqMsg) : Statement (.upgrade r) := by
  intro h
  simp only [Instr.wf, ReqMsg.wf, decide_eq_true_eq] at h
  simp only [payload]
  omega
theorem wrLine (r : ReqMsg) : Statement (.wrLine r) := by
  intro h
  simp only [Instr.wf, ReqMsg.wf, decide_eq_true_eq] at h
  simp only [payload]
  omega
theorem wrPart (r : ReqMsg) : Statement (.wrPart r) := by
  intro h
  simp only [Instr.wf, ReqMsg.wf, decide_eq_true_eq] at h
  simp only [payload]
  omega
theorem atomic (r : ReqMsg) : Statement (.atomic r) := by
  intro h
  simp only [Instr.wf, ReqMsg.wf, decide_eq_true_eq] at h
  simp only [payload]
  omega
theorem redAdd (r : ReqMsg) : Statement (.redAdd r) := by
  intro h
  simp only [Instr.wf, ReqMsg.wf, decide_eq_true_eq] at h
  simp only [payload]
  omega
theorem redRead (r : ReqMsg) : Statement (.redRead r) := by
  intro h
  simp only [Instr.wf, ReqMsg.wf, decide_eq_true_eq] at h
  simp only [payload]
  omega
theorem lineLockGranted (line : Nat) : Statement (.lineLockGranted line) := fun _ => Nat.zero_le _
theorem victimWayFree (sl : SliceId) : Statement (.victimWayFree sl) := fun _ => Nat.zero_le _
theorem victimLimitRelease (sl : SliceId) : Statement (.victimLimitRelease sl) := fun _ => Nat.zero_le _
theorem flashReadDone (block : Nat) (r : PageRead) : Statement (.flashReadDone block r) := fun _ => Nat.zero_le _
theorem journalGroupExpire (q : Quarter) (t : TenantId) : Statement (.journalGroupExpire q t) := fun _ => Nat.zero_le _
theorem journalProgramDone (q : Quarter) (t : TenantId) (pseq : Nat) (carrier : CarrierId) (pass : Bool) : Statement (.journalProgramDone q t pseq carrier pass) := fun _ => Nat.zero_le _
theorem denseStripeTimeout (q : Quarter) (t : TenantId) : Statement (.denseStripeTimeout q t) := fun _ => Nat.zero_le _
theorem denseVerifyDone (q : Quarter) (t : TenantId) (progPass : PassMask) (hardOk : PassMask) (worstBits : List Nat) : Statement (.denseVerifyDone q t progPass hardOk worstBits) := fun _ => Nat.zero_le _
theorem flashEraseDone (carrier : CarrierId) (sblk : Nat) (pass : Bool) : Statement (.flashEraseDone carrier sblk pass) := fun _ => Nat.zero_le _
theorem wearLevelCheck (c : CarrierId) : Statement (.wearLevelCheck c) := fun _ => Nat.zero_le _
theorem retentionScan (c : CarrierId) (sblk : Nat) (r : PageRead) : Statement (.retentionScan c sblk r) := fun _ => Nat.zero_le _
theorem carPrsntFall (c : CarrierId) : Statement (.carPrsntFall c) := fun _ => Nat.zero_le _
theorem carPrsntRise (c : CarrierId) : Statement (.carPrsntRise c) := fun _ => Nat.zero_le _
theorem carOwnFall (c : CarrierId) : Statement (.carOwnFall c) := fun _ => Nat.zero_le _
theorem carOwnRise (c : CarrierId) : Statement (.carOwnRise c) := fun _ => Nat.zero_le _
theorem carOffline (c : CarrierId) (force : Bool) : Statement (.carOffline c force) := fun _ => Nat.zero_le _
theorem carOfflineDone (c : CarrierId) : Statement (.carOfflineDone c) := fun _ => Nat.zero_le _
theorem carAttach (c : CarrierId) : Statement (.carAttach c) := fun _ => Nat.zero_le _
theorem rebuildDone (c : CarrierId) : Statement (.rebuildDone c) := fun _ => Nat.zero_le _
theorem invAck (m : HostMsg) : Statement (.invAck m) := by
  intro h
  simp only [Instr.wf, HostMsg.wf, decide_eq_true_eq] at h
  simp only [payload]
  omega
theorem shrAck (m : HostMsg) : Statement (.shrAck m) := by
  intro h
  simp only [Instr.wf, HostMsg.wf, decide_eq_true_eq] at h
  simp only [payload]
  omega
theorem datSnp (m : HostMsg) : Statement (.datSnp m) := by
  intro h
  simp only [Instr.wf, HostMsg.wf, decide_eq_true_eq] at h
  simp only [payload]
  omega
theorem flushAck (m : HostMsg) : Statement (.flushAck m) := by
  intro h
  simp only [Instr.wf, HostMsg.wf, decide_eq_true_eq] at h
  simp only [payload]
  omega
theorem wbDirty (m : HostMsg) : Statement (.wbDirty m) := by
  intro h
  simp only [Instr.wf, HostMsg.wf, decide_eq_true_eq] at h
  simp only [payload]
  omega
theorem wbClean (m : HostMsg) : Statement (.wbClean m) := by
  intro h
  simp only [Instr.wf, HostMsg.wf, decide_eq_true_eq] at h
  simp only [payload]
  omega
theorem snoopTimeout (trk : Nat) (slot : BitVec 9) : Statement (.snoopTimeout trk slot) := fun _ => Nat.zero_le _
theorem flushTimeout (sl : SliceId) (slot : BitVec 9) : Statement (.flushTimeout sl slot) := fun _ => Nat.zero_le _
theorem pmicFault (c : ChanId) : Statement (.pmicFault c) := fun _ => Nat.zero_le _
theorem caParityAlert (c : ChanId) (retryFailed : Bool) : Statement (.caParityAlert c retryFailed) := fun _ => Nat.zero_le _
theorem snpInvPtReader (m : HostMsg) : Statement (.snpInvPtReader m) := by
  intro h
  simp only [Instr.wf, HostMsg.wf, decide_eq_true_eq] at h
  simp only [payload]
  omega
theorem poolAnswer (src : W16) (tag : W16) (status : Byte) (backoff : BitVec 12) (data : Bytes) : Statement (.poolAnswer src tag status backoff data) := by
  intro h
  simp only [Instr.wf, decide_eq_true_eq] at h
  simp only [payload]
  omega
theorem dmaRetryTimer (acc : Nat) : Statement (.dmaRetryTimer acc) := fun _ => Nat.zero_le _
theorem ptabWriteAck (trk : Nat) : Statement (.ptabWriteAck trk) := fun _ => Nat.zero_le _
theorem tcFlush (q : Quarter) : Statement (.tcFlush q) := fun _ => Nat.zero_le _
theorem ddrEvacuate (c : ChanId) (force : Bool) : Statement (.ddrEvacuate c force) := fun _ => Nat.zero_le _
theorem ddrEvacuateDone (c : ChanId) : Statement (.ddrEvacuateDone c) := fun _ => Nat.zero_le _
theorem ddrRestore (c : ChanId) : Statement (.ddrRestore c) := fun _ => Nat.zero_le _
theorem ddrRestoreDone (c : ChanId) (r : TrainReport) : Statement (.ddrRestoreDone c r) := fun _ => Nat.zero_le _
theorem refreshDue (c : ChanId) : Statement (.refreshDue c) := fun _ => Nat.zero_le _
theorem pdTimerExpire (c : ChanId) (rank : Fin 4) : Statement (.pdTimerExpire c rank) := fun _ => Nat.zero_le _
theorem dimmTempPoll (c : ChanId) (celsius : Byte) : Statement (.dimmTempPoll c celsius) := fun _ => Nat.zero_le _
theorem scrubTick (c : ChanId) : Statement (.scrubTick c) := fun _ => Nat.zero_le _
theorem ceClear (c : ChanId) : Statement (.ceClear c) := fun _ => Nat.zero_le _
theorem tagcWbAll (q : Quarter) : Statement (.tagcWbAll q) := fun _ => Nat.zero_le _
theorem tileDone (k : CoreId) (last : Bool) : Statement (.tileDone k last) := fun _ => Nat.zero_le _
theorem cmpBlockDone (region : BitVec 12) (block : Nat) : Statement (.cmpBlockDone region block) := fun _ => Nat.zero_le _
theorem coreFault (k : CoreId) (cause : CoreCause) : Statement (.coreFault k cause) := fun _ => Nat.zero_le _
theorem kcWatchdogExpire (k : CoreId) : Statement (.kcWatchdogExpire k) := fun _ => Nat.zero_le _
theorem kcReset (k : CoreId) : Statement (.kcReset k) := fun _ => Nat.zero_le _
theorem kcClearDone (k : CoreId) : Statement (.kcClearDone k) := fun _ => Nat.zero_le _
theorem kcSelftestDone (k : CoreId) (pass : Bool) : Statement (.kcSelftestDone k pass) := fun _ => Nat.zero_le _
theorem mbxCmd (m : MgtMsg) : Statement (.mbxCmd m) := by
  intro h
  simp only [Instr.wf, MgtMsg.wf, decide_eq_true_eq] at h
  simp only [payload]
  omega
theorem doorbell (m : MgtMsg) : Statement (.doorbell m) := by
  intro h
  simp only [Instr.wf, MgtMsg.wf, decide_eq_true_eq] at h
  simp only [payload]
  omega
theorem regRead (m : MgtMsg) : Statement (.regRead m) := by
  intro h
  simp only [Instr.wf, MgtMsg.wf, decide_eq_true_eq] at h
  simp only [payload]
  omega
theorem regWrite (m : MgtMsg) : Statement (.regWrite m) := by
  intro h
  simp only [Instr.wf, MgtMsg.wf, decide_eq_true_eq] at h
  simp only [payload]
  omega
theorem ctxCreate (h : CmdHdr) : Statement (.ctxCreate h) := fun _ => Nat.zero_le _
theorem ctxStop (h : CmdHdr) : Statement (.ctxStop h) := fun _ => Nat.zero_le _
theorem ctxStart (h : CmdHdr) : Statement (.ctxStart h) := fun _ => Nat.zero_le _
theorem ctxDestroy (h : CmdHdr) : Statement (.ctxDestroy h) := fun _ => Nat.zero_le _
theorem ctxDestroyDone (handle : W16) : Statement (.ctxDestroyDone handle) := fun _ => Nat.zero_le _
theorem segmentWrite (handle : W16) (n : Fin 16) (desc : Bytes) : Statement (.segmentWrite handle n desc) := by
  intro h
  simp only [Instr.wf, decide_eq_true_eq] at h
  simp only [payload]
  omega
theorem queueCreate (h : CmdHdr) (args : Bytes) : Statement (.queueCreate h args) := by
  intro h
  simp only [Instr.wf, Bool.and_eq_true, Bool.or_eq_true, decide_eq_true_eq] at h
  simp only [payload]
  omega
theorem queuePause (h : CmdHdr) : Statement (.queuePause h) := fun _ => Nat.zero_le _
theorem queueResume (h : CmdHdr) : Statement (.queueResume h) := fun _ => Nat.zero_le _
theorem queueDelete (h : CmdHdr) : Statement (.queueDelete h) := fun _ => Nat.zero_le _
theorem progLoad (h : CmdHdr) (imgCa : W64) (imgLen : W32) : Statement (.progLoad h imgCa imgLen) := fun _ => Nat.zero_le _
theorem progUnload (h : CmdHdr) (prog : W16) : Statement (.progUnload h prog) := fun _ => Nat.zero_le _
theorem taskSubmit (h : CmdHdr) (desc : Bytes) : Statement (.taskSubmit h desc) := by
  intro h
  simp only [Instr.wf, Bool.and_eq_true, decide_eq_true_eq] at h
  simp only [payload]
  omega
theorem taskCancel (h : CmdHdr) (tag : W32) : Statement (.taskCancel h tag) := fun _ => Nat.zero_le _
theorem taskQuery (h : CmdHdr) (tag : W32) : Statement (.taskQuery h tag) := fun _ => Nat.zero_le _
theorem trigRaise (h : CmdHdr) (tag : Byte) : Statement (.trigRaise h tag) := fun _ => Nat.zero_le _
theorem trigRead (h : CmdHdr) (tag : Byte) : Statement (.trigRead h tag) := fun _ => Nat.zero_le _
theorem regionCreate (h : CmdHdr) (descCa : W64) : Statement (.regionCreate h descCa) := fun _ => Nat.zero_le _
theorem regionQuiesce (h : CmdHdr) (region : W16) : Statement (.regionQuiesce h region) := fun _ => Nat.zero_le _
theorem regionQuiesceDone (region : W16) : Statement (.regionQuiesceDone region) := fun _ => Nat.zero_le _
theorem regionResume (h : CmdHdr) (region : W16) : Statement (.regionResume h region) := fun _ => Nat.zero_le _
theorem regionDelete (h : CmdHdr) (region : W16) : Statement (.regionDelete h region) := fun _ => Nat.zero_le _
theorem regionDeleteDone (region : W16) : Statement (.regionDeleteDone region) := fun _ => Nat.zero_le _
theorem regionRead (h : CmdHdr) (region : W16) (destCa : W64) : Statement (.regionRead h region destCa) := fun _ => Nat.zero_le _
theorem redOpen (h : CmdHdr) (region : W16) (arg : W16) : Statement (.redOpen h region arg) := fun _ => Nat.zero_le _
theorem redClose (h : CmdHdr) (region : W16) (arg : W16) : Statement (.redClose h region arg) := fun _ => Nat.zero_le _
theorem redCloseTimer (region : W16) : Statement (.redCloseTimer region) := fun _ => Nat.zero_le _
theorem redNextN (h : CmdHdr) (region : W16) (arg : W16) : Statement (.redNextN h region arg) := fun _ => Nat.zero_le _
theorem srcAdvance (h : CmdHdr) (region : W16) (arg : W16) : Statement (.srcAdvance h region arg) := fun _ => Nat.zero_le _
theorem matDrop (h : CmdHdr) (region : W16) (arg : W16) : Statement (.matDrop h region arg) := fun _ => Nat.zero_le _
theorem recPrepare (c : Coord) (obj : Byte) (op : Byte) (number : W16) (record : Bytes) : Statement (.recPrepare c obj op number record) := by
  intro h
  simp only [Instr.wf, decide_eq_true_eq] at h
  simp only [payload]
  omega
theorem recPrepareRetry (xid : W32) : Statement (.recPrepareRetry xid) := fun _ => Nat.zero_le _
theorem recCommit (c : Coord) (obj : Byte) (op : Byte) (number : W16) : Statement (.recCommit c obj op number) := fun _ => Nat.zero_le _
theorem recAbort (c : Coord) (obj : Byte) (op : Byte) (number : W16) : Statement (.recAbort c obj op number) := fun _ => Nat.zero_le _
theorem cmdFwd (c : Coord) (issuer : W16) (block : Bytes) : Statement (.cmdFwd c issuer block) := by
  intro h
  simp only [Instr.wf, Bool.and_eq_true, decide_eq_true_eq] at h
  simp only [payload]
  omega
theorem trigRaiseMsg (c : Coord) (handle : W16) (tag : Byte) (flags : Byte) (region : W16) (gen : W32) : Statement (.trigRaiseMsg c handle tag flags region gen) := fun _ => Nat.zero_le _
theorem redReport (c : Coord) (region : W16) (gen : W32) (shortRus : W32) (flags : Byte) : Statement (.redReport c region gen shortRus flags) := fun _ => Nat.zero_le _
theorem redCloseMsg (c : Coord) (region : W16) (gen : W32) : Statement (.redCloseMsg c region gen) := fun _ => Nat.zero_le _
theorem redDone (c : Coord) (region : W16) (gen : W32) (nNext : W16) (flags : Byte) (auto : Byte) : Statement (.redDone c region gen nNext flags auto) := fun _ => Nat.zero_le _
theorem matInval (c : Coord) (region : W16) (source : W16) (cgen : W32) : Statement (.matInval c region source cgen) := fun _ => Nat.zero_le _
theorem coordAck (src : W16) (hint : BitVec 12) (subop : Byte) (status : Byte) (xid : W32) (body : Bytes) : Statement (.coordAck src hint subop status xid body) := by
  intro h
  simp only [Instr.wf, decide_eq_true_eq] at h
  simp only [payload]
  omega
theorem jobPrepare (c : Coord) : Statement (.jobPrepare c) := fun _ => Nat.zero_le _
theorem jobCommit (c : Coord) (applyAt : W64) : Statement (.jobCommit c applyAt) := fun _ => Nat.zero_le _
theorem jobAbort (c : Coord) : Statement (.jobAbort c) := fun _ => Nat.zero_le _
theorem jobBoundary (h : CmdHdr) (applyAt : W64) : Statement (.jobBoundary h applyAt) := fun _ => Nat.zero_le _
theorem sliceClearDone (sl : SliceId) : Statement (.sliceClearDone sl) := fun _ => Nat.zero_le _
theorem slotRejoin (h : CmdHdr) (slot : W16) : Statement (.slotRejoin h slot) := fun _ => Nat.zero_le _
theorem slotRejoinDone (t : TenantId) (slot : BitVec 9) : Statement (.slotRejoinDone t slot) := fun _ => Nat.zero_le _
theorem keySet (h : CmdHdr) (mode : Byte) (envCa : W64) (unwrapOk : Bool) : Statement (.keySet h mode envCa unwrapOk) := fun _ => Nat.zero_le _
theorem keyDestroy (h : CmdHdr) : Statement (.keyDestroy h) := fun _ => Nat.zero_le _
theorem attest (h : CmdHdr) (nonce : Bytes) (destCa : W64) (destLen : W32) (regions : List W16) : Statement (.attest h nonce destCa destLen regions) := by
  intro h
  simp only [Instr.wf, Bool.and_eq_true, decide_eq_true_eq] at h
  simp only [payload]
  omega
theorem attestReportDone (sig : Bytes) : Statement (.attestReportDone sig) := by
  intro h
  simp only [Instr.wf, decide_eq_true_eq] at h
  simp only [payload]
  omega
theorem ctrInc (h : CmdHdr) (counter : Byte) : Statement (.ctrInc h counter) := fun _ => Nat.zero_le _
theorem ctrSet (h : CmdHdr) (counter : Byte) (v : W32) : Statement (.ctrSet h counter v) := fun _ => Nat.zero_le _
theorem svcWindowOpen (h : CmdHdr) (token : Bytes) (sigOk : Bool) : Statement (.svcWindowOpen h token sigOk) := by
  intro h
  simp only [Instr.wf, Bool.and_eq_true, decide_eq_true_eq] at h
  simp only [payload]
  omega
theorem svcWindowClose (h : CmdHdr) : Statement (.svcWindowClose h) := fun _ => Nat.zero_le _
theorem lidClear (h : CmdHdr) : Statement (.lidClear h) := fun _ => Nat.zero_le _
theorem svnCommit (h : CmdHdr) : Statement (.svnCommit h) := fun _ => Nat.zero_le _
theorem stackAttest (h : CmdHdr) (nonce : Bytes) (destCa : W64) (destLen : W32) : Statement (.stackAttest h nonce destCa destLen) := by
  intro h
  simp only [Instr.wf, Bool.and_eq_true, decide_eq_true_eq] at h
  simp only [payload]
  omega
theorem cntRead (h : CmdHdr) (flags : Byte) (addrs : List W32) : Statement (.cntRead h flags addrs) := fun _ => Nat.zero_le _
theorem cntEnable (h : CmdHdr) (en : Byte) : Statement (.cntEnable h en) := fun _ => Nat.zero_le _
theorem evtRead (h : CmdHdr) (start : W32) : Statement (.evtRead h start) := fun _ => Nat.zero_le _
theorem watchSet (h : CmdHdr) (args : Bytes) : Statement (.watchSet h args) := by
  intro h
  simp only [Instr.wf, Bool.and_eq_true, decide_eq_true_eq] at h
  simp only [payload]
  omega
theorem watchClear (h : CmdHdr) (prog : W16) (watch : Byte) : Statement (.watchClear h prog watch) := fun _ => Nat.zero_le _
theorem blkPut (m : MgtMsg) : Statement (.blkPut m) := by
  intro h
  simp only [Instr.wf, MgtMsg.wf, decide_eq_true_eq] at h
  simp only [payload]
  omega
theorem blkAck (m : MgtMsg) : Statement (.blkAck m) := by
  intro h
  simp only [Instr.wf, MgtMsg.wf, decide_eq_true_eq] at h
  simp only [payload]
  omega
theorem stageCommit (readable : Bool) (sigs : List SigRef) : Statement (.stageCommit readable sigs) := fun _ => Nat.zero_le _
theorem unlock (sigOk : Bool) : Statement (.unlock sigOk) := fun _ => Nat.zero_le _
theorem lidSample (p : LidPins) : Statement (.lidSample p) := fun _ => Nat.zero_le _
theorem lidDiscExpire (p : LidPins) : Statement (.lidDiscExpire p) := fun _ => Nat.zero_le _
theorem meshSample (fault : Bool) : Statement (.meshSample fault) := fun _ => Nat.zero_le _
theorem tempTamperSample (outside : Bool) : Statement (.tempTamperSample outside) := fun _ => Nat.zero_le _
theorem superFrame (frame : Bytes) : Statement (.superFrame frame) := by
  intro h
  simp only [Instr.wf, decide_eq_true_eq] at h
  simp only [payload]
  omega
theorem enumFrame (frame : Bytes) : Statement (.enumFrame frame) := by
  intro h
  simp only [Instr.wf, decide_eq_true_eq] at h
  simp only [payload]
  omega
theorem headClaimFrame (frame : Bytes) : Statement (.headClaimFrame frame) := by
  intro h
  simp only [Instr.wf, decide_eq_true_eq] at h
  simp only [payload]
  omega
theorem spnAlarmSet (bits : Byte) : Statement (.spnAlarmSet bits) := fun _ => Nat.zero_le _
theorem heartbeat (path : HbPath) (hb : Bytes) : Statement (.heartbeat path hb) := by
  intro h
  simp only [Instr.wf, decide_eq_true_eq] at h
  simp only [payload]
  omega
theorem takeoverStageDone (ok : Bool) : Statement (.takeoverStageDone ok) := fun _ => Nat.zero_le _
theorem epochAnnounce (m : MgtMsg) : Statement (.epochAnnounce m) := by
  intro h
  simp only [Instr.wf, MgtMsg.wf, decide_eq_true_eq] at h
  simp only [payload]
  omega
theorem epochAck (m : MgtMsg) : Statement (.epochAck m) := by
  intro h
  simp only [Instr.wf, MgtMsg.wf, decide_eq_true_eq] at h
  simp only [payload]
  omega
theorem epochAnnounceRetry (watcher : W16) : Statement (.epochAnnounceRetry watcher) := fun _ => Nat.zero_le _
theorem handoverGo (m : MgtMsg) : Statement (.handoverGo m) := by
  intro h
  simp only [Instr.wf, MgtMsg.wf, decide_eq_true_eq] at h
  simp only [payload]
  omega
theorem chkCfgWrite (u : Fin 8) (value : W32) : Statement (.chkCfgWrite u value) := fun _ => Nat.zero_le _
theorem chkDataWrite (u : Fin 8) (bytes : Fin 3) (value : W32) : Statement (.chkDataWrite u bytes value) := fun _ => Nat.zero_le _
theorem chkValueWrite (u : Fin 8) (value : W32) : Statement (.chkValueWrite u value) := fun _ => Nat.zero_le _
theorem leaseRequest (bucket : Nat) (q : Quarter) : Statement (.leaseRequest bucket q) := fun _ => Nat.zero_le _
theorem leaseGrant (bucket : Nat) (q : Quarter) : Statement (.leaseGrant bucket q) := fun _ => Nat.zero_le _
theorem leaseIdleExpire (bucket : Nat) (q : Quarter) : Statement (.leaseIdleExpire bucket q) := fun _ => Nat.zero_le _
theorem i3cPrivateWrite (addr : W32) (value : Option W32) : Statement (.i3cPrivateWrite addr value) := fun _ => Nat.zero_le _
theorem latchedPairRead (addr : W32) : Statement (.latchedPairRead addr) := fun _ => Nat.zero_le _
theorem registerWrite (addr : W32) (value : W32) : Statement (.registerWrite addr value) := fun _ => Nat.zero_le _
theorem quarterDrainTimeout (q : Quarter) : Statement (.quarterDrainTimeout q) := fun _ => Nat.zero_le _
theorem undefinedReqOpcode (opcode : BitVec 5) (r : ReqMsg) : Statement (.undefinedReqOpcode opcode r) := by
  intro h
  simp only [Instr.wf, ReqMsg.wf, decide_eq_true_eq] at h
  simp only [payload]
  omega
theorem undefinedMgtOpcode (opcode : BitVec 5) (m : MgtMsg) : Statement (.undefinedMgtOpcode opcode m) := by
  intro h
  simp only [Instr.wf, MgtMsg.wf, decide_eq_true_eq] at h
  simp only [payload]
  omega
theorem reservedFtypeFlit (l : LinkId) (f : Flit) : Statement (.reservedFtypeFlit l f) := by
  intro h
  simp only [Instr.wf, Flit.wf, decide_eq_true_eq] at h
  simp only [payload]
  omega
theorem stackMapUpdate (m : MgtMsg) : Statement (.stackMapUpdate m) := by
  intro h
  simp only [Instr.wf, MgtMsg.wf, decide_eq_true_eq] at h
  simp only [payload]
  omega
theorem stackAttestMemberTimeout (position : Fin 32) : Statement (.stackAttestMemberTimeout position) := fun _ => Nat.zero_le _
theorem genDoneResend (region : W16) (member : W16) : Statement (.genDoneResend region member) := fun _ => Nat.zero_le _
theorem jtagTapAccess (op : TapOp) : Statement (.jtagTapAccess op) := fun _ => Nat.zero_le _
theorem rootPllLock : Statement (.rootPllLock) := fun _ => Nat.zero_le _
theorem coreWave : Statement (.coreWave) := fun _ => Nat.zero_le _
theorem warmRstNFall : Statement (.warmRstNFall) := fun _ => Nat.zero_le _
theorem warmReset : Statement (.warmReset) := fun _ => Nat.zero_le _
theorem warmDrainDone : Statement (.warmDrainDone) := fun _ => Nat.zero_le _
theorem warmDrainTimeout : Statement (.warmDrainTimeout) := fun _ => Nat.zero_le _
theorem sourceFail : Statement (.sourceFail) := fun _ => Nat.zero_le _
theorem mainRailLoss : Statement (.mainRailLoss) := fun _ => Nat.zero_le _
theorem pwrfailNFall : Statement (.pwrfailNFall) := fun _ => Nat.zero_le _
theorem pfRestartTimeout : Statement (.pfRestartTimeout) := fun _ => Nat.zero_le _
theorem capStep : Statement (.capStep) := fun _ => Nat.zero_le _
theorem idleTimerExpire : Statement (.idleTimerExpire) := fun _ => Nat.zero_le _
theorem dozeTimerExpire : Statement (.dozeTimerExpire) := fun _ => Nat.zero_le _
theorem timeSyncPeriod : Statement (.timeSyncPeriod) := fun _ => Nat.zero_le _
theorem holdoverEntry : Statement (.holdoverEntry) := fun _ => Nat.zero_le _
theorem holdoverExpire : Statement (.holdoverExpire) := fun _ => Nat.zero_le _
theorem rtcSecond : Statement (.rtcSecond) := fun _ => Nat.zero_le _
theorem calCommit : Statement (.calCommit) := fun _ => Nat.zero_le _
theorem journalSpaceReclaimed : Statement (.journalSpaceReclaimed) := fun _ => Nat.zero_le _
theorem checkpointInterval : Statement (.checkpointInterval) := fun _ => Nat.zero_le _
theorem checkpointVerified : Statement (.checkpointVerified) := fun _ => Nat.zero_le _
theorem gcStart : Statement (.gcStart) := fun _ => Nat.zero_le _
theorem carOwnHoldExpire : Statement (.carOwnHoldExpire) := fun _ => Nat.zero_le _
theorem remirrorDone : Statement (.remirrorDone) := fun _ => Nat.zero_le _
theorem schedStep : Statement (.schedStep) := fun _ => Nat.zero_le _
theorem mbxGo : Statement (.mbxGo) := fun _ => Nat.zero_le _
theorem jobApply : Statement (.jobApply) := fun _ => Nat.zero_le _
theorem svcWindowStart : Statement (.svcWindowStart) := fun _ => Nat.zero_le _
theorem svcWindowEnd : Statement (.svcWindowEnd) := fun _ => Nat.zero_le _
theorem pairYield : Statement (.pairYield) := fun _ => Nat.zero_le _
theorem stageBegin : Statement (.stageBegin) := fun _ => Nat.zero_le _
theorem putWin : Statement (.putWin) := fun _ => Nat.zero_le _
theorem ownerClaim : Statement (.ownerClaim) := fun _ => Nat.zero_le _
theorem snap : Statement (.snap) := fun _ => Nat.zero_le _
theorem cntClear : Statement (.cntClear) := fun _ => Nat.zero_le _
theorem shvShave : Statement (.shvShave) := fun _ => Nat.zero_le _
theorem shvRelease : Statement (.shvRelease) := fun _ => Nat.zero_le _
theorem shvExport : Statement (.shvExport) := fun _ => Nat.zero_le _
theorem shvExportDone : Statement (.shvExportDone) := fun _ => Nat.zero_le _
theorem challenge : Statement (.challenge) := fun _ => Nat.zero_le _
theorem dbgNonceExpire : Statement (.dbgNonceExpire) := fun _ => Nat.zero_le _
theorem vaultReset : Statement (.vaultReset) := fun _ => Nat.zero_le _
theorem supplyGlitch : Statement (.supplyGlitch) := fun _ => Nat.zero_le _
theorem clockGlitch : Statement (.clockGlitch) := fun _ => Nat.zero_le _
theorem superFramePeriod : Statement (.superFramePeriod) := fun _ => Nat.zero_le _
theorem enumRepeat : Statement (.enumRepeat) := fun _ => Nat.zero_le _
theorem chainBroken : Statement (.chainBroken) := fun _ => Nat.zero_le _
theorem originTimeout : Statement (.originTimeout) := fun _ => Nat.zero_le _
theorem headstockAbsent : Statement (.headstockAbsent) := fun _ => Nat.zero_le _
theorem headClaimRepeat : Statement (.headClaimRepeat) := fun _ => Nat.zero_le _
theorem headClaimWin : Statement (.headClaimWin) := fun _ => Nat.zero_le _
theorem heartbeatSend : Statement (.heartbeatSend) := fun _ => Nat.zero_le _
theorem hbSlotEnd : Statement (.hbSlotEnd) := fun _ => Nat.zero_le _
theorem partnerWaitTimeout : Statement (.partnerWaitTimeout) := fun _ => Nat.zero_le _
theorem recoveryWindowClose : Statement (.recoveryWindowClose) := fun _ => Nat.zero_le _
theorem handoverStart : Statement (.handoverStart) := fun _ => Nat.zero_le _
theorem handoverStageDone : Statement (.handoverStageDone) := fun _ => Nat.zero_le _
theorem tgEntryBoundary : Statement (.tgEntryBoundary) := fun _ => Nat.zero_le _
theorem pendingPlateStart : Statement (.pendingPlateStart) := fun _ => Nat.zero_le _
theorem evtRateSecond : Statement (.evtRateSecond) := fun _ => Nat.zero_le _
theorem traceTimeTick : Statement (.traceTimeTick) := fun _ => Nat.zero_le _
theorem i3cPrivateRead : Statement (.i3cPrivateRead) := fun _ => Nat.zero_le _
theorem sleepEntryDone : Statement (.sleepEntryDone) := fun _ => Nat.zero_le _

end Payload

end Sys2Proof.Laws
end

