-- ==== Sys2Proof/Laws/Pump.lean ====
section
/-! SUPPORT. Where nothing waits, nothing goes on: with it a command whose effect is known completes (`completes_of_pumped`), and so does one
that nothing follows (`answers_of_live`). -/

namespace Sys2Proof.Machine

theorem fixFills_nil {s : State} (h : s.pool.fills = []) : fixFills s = s := by unfold fixFills; simp [h]
theorem settleTrks_nil {s : State} (h : s.pool.trks = []) : settleTrks s = s := by unfold settleTrks; rw [h]; unfold runReady; simp [h]
theorem fixSets_still {s : State} (h : (indices 16).all (fun c => !s.resizing c && !s.emptying c) = true) : fixSets s = s := by
  have h1 : (indices 16).any (fun c => s.emptying c) = false := by
    simp only [List.any_eq_false, List.all_eq_true, Bool.and_eq_true, Bool.not_eq_true'] at *
    exact fun x hx => by simp [(h x hx).2]
  have h2 : (indices 16).any (fun c => s.resizing c) = false := by
    simp only [List.any_eq_false, List.all_eq_true, Bool.and_eq_true, Bool.not_eq_true'] at *
    exact fun x hx => by simp [(h x hx).1]
  unfold fixSets
  simp [h1, h2]
theorem finishReady_nil {s : State} (ht : s.pool.trks = []) (h : s.pool.pend = []) : finishReady s = s := by
  unfold finishReady
  simp only [ht, List.filter_nil, List.map_nil, List.foldl_nil, h]
  rw [← h, ← ht]

/-- The memory side of a still state has nothing to do. -/
theorem memDone_still {s : State} (h : s.Still) : memDone s = s := by
  obtain ⟨ht, _, hf, hp, hr⟩ := h
  unfold memDone
  rw [fixFills_nil hf, fixSets_still hr, settleTrks_nil ht, finishReady_nil ht hp]

theorem memPump_still {s : State} (h : s.Still) (n : Nat) : memPump n s = s := by
  cases n with
  | zero => rfl
  | succ n =>
    have hd : (indices 16).any (fun c => s.dirTurn c) = false := by
      have := h.2.2.2.2
      simp only [List.any_eq_false, List.all_eq_true, Bool.and_eq_true, Bool.not_eq_true'] at *
      exact fun x hx => by simp [State.dirTurn, (this x hx).2]
    unfold memPump
    simp only [memDone_still h, h.2.1, List.find?_nil, hd]
    simp

/-- A round of an idle state changes nothing. -/
theorem round_idle {s : State} (h : s.Idle) : round s = s := by
  obtain ⟨hs, hl, hx, hc, ht, hq, hk, hr, hj, hp, hg⟩ := h
  have hlb : loopBack s = s := by
    unfold loopBack
    simp only [hl, List.foldl_nil]
    exact (by rw [← hl] : ({ s with coord := { s.coord with loop := [] } } : State) = { s with coord := { s.coord with loop := s.coord.loop } })
  have hgn : s.rgn.tab.foldl (fun s e => if e.2.gen.phase ≠ 0 then genStep e.1 s else s) s = s := by
    generalize htab : s.rgn.tab = l at hg
    clear htab
    induction l with
    | nil => rfl
    | cons a r ih =>
      simp only [List.all_cons, Bool.and_eq_true, decide_eq_true_eq] at hg
      simp only [List.foldl_cons, ne_eq, hg.1.1, not_true_eq_false, if_false]
      exact ih (by simpa using hg.2)
  have hsr : s.rgn.tab.foldl (fun s e =>
      if e.2.kind = 2 ∧ e.2.gen.st = 9 ∧ !e.2.gen.reported then
        match s.region e.1, s.memberOf e.2 with
        | some g, some m => sendReport e.1 g m s
        | _, _ => s
      else s) s = s := by
    generalize htab : s.rgn.tab = l at hg
    clear htab hgn
    induction l with
    | nil => rfl
    | cons a r ih =>
      simp only [List.all_cons, Bool.and_eq_true, decide_eq_true_eq] at hg
      simp only [List.foldl_cons, hg.1.2, false_and, and_false, if_false]
      exact ih (by simpa using hg.2)
  have h1 : sendReports s = s := hsr
  have h2 : genSteps s = s := hgn
  have h3 : reportStep s = s := by unfold reportStep; rw [hr]
  have h4 : fenceStep s = s := by unfold fenceStep; simp [hp]
  have h5 : txRelease s = s := by unfold txRelease; split <;> simp [hx]
  have h6 : jobRelease s = s := by unfold jobRelease; rw [hj]
  unfold round
  simp only [memPump_still hs, hlb, hc, ht, hq, hk, List.foldl_nil, h1, h2, h3, h4, h5, h6]

theorem pump_idle {s : State} (h : s.Idle) : pump s = s := by
  unfold pump pumpN
  rw [if_pos (round_idle h)]

/-- A command that comes about, with what its effect comes to. -/
theorem completes_of_pumped {c : Instr} {s : State} {P : State → Prop} (f : State → State) (hc : exec c s = pumped f s)
    (hh : s.su.held = false) (hp : P (f s)) : Completes c s P :=
  ⟨f s, hp, by rw [hc]; simp [pumped, live, done, hh], fun h => by rw [hc]; simp [pumped, live, done, hh, pump_idle h]⟩

/-- A command of a running hub that nothing follows. -/
theorem answers_of_live {c : Instr} {s : State} {P : State → Prop} (f : State → State) (hc : exec c s = live f s)
    (hh : s.su.held = false) (hp : P (settle (f s))) : Answers c s P :=
  ⟨settle (f s), by rw [hc]; simp [live, done, hh], hp⟩

/-- A command that the hub takes held in reset too. -/
theorem answers_of_done {c : Instr} {s : State} {P : State → Prop} (t : State) (hc : exec c s = done t) (hp : P (settle t)) :
    Answers c s P := ⟨settle t, by rw [hc]; rfl, hp⟩

end Sys2Proof.Machine
end

