-- ==== Sys2Proof/Laws/Reply.lean ====
section
/-! SUPPORT. A command that is answered is answered where its issuer reads the answer (R264, R286, R381). -/

namespace Sys2Proof.Machine

variable (s : State)

theorem toLe_two (n : Nat) : toLe 2 n = [byte n, byte (n / 256)] := by simp [toLe, byte]
theorem toLe_four (n : Nat) : toLe 4 n = [byte n, byte (n / 256), byte (n / 256 / 256), byte (n / 256 / 256 / 256)] := by simp [toLe, byte]

theorem replyBlock_status (cmd : Nat) (seq : W32) (st : Byte) (code : Nat) (res : Bytes) :
    leAt (replyBlock cmd seq st code res) 0x0C 1 = st.toNat := by
  simp [replyBlock, toLe_two, toLe_four, leAt, cut, leNat]

theorem replyBlock_state (cmd : Nat) (seq : W32) (st : Byte) (code : Nat) (res : Bytes) :
    leAt (replyBlock cmd seq st code res) 0x0D 1 = code % 256 := by
  simp [replyBlock, toLe_two, toLe_four, leAt, cut, leNat, byte]

/-- Writing a run of elements of one register leaves each of them with its own value. -/
theorem reg_foldl_setReg (r : Reg) (f : Nat → W32) (n : Nat) (hn : n ≤ 65536) {i : Nat} (hi : i < n) :
    ((List.range n).foldl (fun s i => s.setReg r i (f i)) s).reg r i = f i := by
  induction n with
  | zero => omega
  | succ n ih =>
    rw [List.range_succ, List.foldl_append]
    simp only [List.foldl_cons, List.foldl_nil]
    by_cases h : i = n
    · subst h; exact reg_setReg_self _ _ _ _
    · rw [reg_setReg_ne]
      · exact ih (by omega) (by omega)
      · intro hk
        exact h (regKey_inj (by omega) (by omega) hk).2

@[simp] theorem send_myId (m : Msg) : (send m s).myId = s.myId :=
  send_keeps State.myId (fun _ _ => rfl) (fun _ _ => rfl) (fun _ _ => rfl) (fun _ _ => rfl) s m

/-- The command block is answered: where the issuer reads it stand the status, the state code of a conflict, and the result. -/
theorem reply_replied (h : CmdHdr) (cmd : Nat) (st : Byte) (code hint : Nat) (res : Bytes)
    (hr : st = stOK ∨ res ≠ [] ∨ (cmd ≠ 0x121 ∧ cmd ≠ 0x502 ∧ cmd ≠ 0x133)) :
    (reply h cmd st code hint res s).Replied h cmd st (if st = stSTATE_CONFLICT then code else 0) res := by
  have h1 : (if st ≠ stOK ∧ res = [] then failResult cmd s else (res, s)) = (res, s) := by
    split
    · next hc =>
      obtain hs | hs | ⟨ha, hb, hd⟩ := hr
      · exact absurd hs hc.1
      · exact absurd hc.2 hs
      · simp [failResult, ha, hb, hd, hc.2]
    · rfl
  unfold reply
  simp only [h1]
  generalize (if st = stSTATE_CONFLICT then conflictEv h cmd code s else s) = t
  generalize (if st = stSTATE_CONFLICT then code else 0) = k
  unfold State.Replied
  generalize h.iss = iss
  cases iss with
  | bmc =>
    refine ⟨?_, ?_⟩
    · simp only [putMbxOut, reg_setReg_self, replyBlock_status, replyBlock_state, Nat.mod_mod_of_dvd _ (show 16 ∣ 256 by decide)]
    · intro i hi
      simp only [putMbxOut]
      rw [reg_setReg_ne]
      · exact reg_foldl_setReg t .MBX_OUT (fun i => w32 (leAt (replyBlock cmd h.seq st k res) (4 * i) 4)) 48 (by omega) hi
      · intro hk
        exact absurd (regKey_inj (by omega) (by omega) hk).1 (by decide)
  | ep a =>
    simp only [send_myId]
    obtain ⟨p, hp⟩ := send_sent _ _
    exact ⟨p, _, _, hp⟩
  | fwd dev xid src =>
    simp only [coordAckSend, coordOut]
    split <;> simp
  | rgnCmd q =>
    intro q hq
    exact reg_foldl_setReg t .RGN_CMD_RESULT (fun _ => w32 (k % 16 * 256 + st.toNat)) 4 (by omega) hq
  | slotCmd q => exact reg_setReg_self _ _ _ _
  | hwdCmd => exact reg_setReg_self _ _ _ _

/-- An answer OK, with its result. -/
theorem replyOk_replied (h : CmdHdr) (cmd : Nat) (res : Bytes) : (replyOk h cmd res s).Replied h cmd 0 0 res := by
  simpa [replyOk, stOK, stSTATE_CONFLICT] using reply_replied s h cmd stOK 0 0 res (.inl rfl)

/-- An answer STATE_CONFLICT, with its state code. -/
theorem replyConflict_replied (h : CmdHdr) (cmd code : Nat) (hc : cmd ≠ 0x121 ∧ cmd ≠ 0x502 ∧ cmd ≠ 0x133) :
    (replyConflict h cmd code s).Replied h cmd 3 code [] := by
  simpa [replyConflict, stSTATE_CONFLICT] using reply_replied s h cmd stSTATE_CONFLICT code 0 [] (.inr (.inr hc))

/-- Any other status. -/
theorem replySt_replied (h : CmdHdr) (cmd : Nat) (st : Byte) (hs : st ≠ stSTATE_CONFLICT)
    (hc : cmd ≠ 0x121 ∧ cmd ≠ 0x502 ∧ cmd ≠ 0x133) : (replySt h cmd st s).Replied h cmd st 0 [] := by
  simpa [replySt, hs] using reply_replied s h cmd st 0 0 [] (.inr (.inr hc))

/-- Settling changes nothing that an issuer reads. -/
theorem settle_replied (h : CmdHdr) (cmd : Nat) (st : Byte) (code : Nat) (res : Bytes) (hs : s.Replied h cmd st code res) :
    (settle s).Replied h cmd st code res := hs

end Sys2Proof.Machine
end

