-- ==== Sys2Proof/Tests/Slice0.lean ====
section
/-! SUPPORT. The model's own tests: for each statement of Obligations.lean that has hypotheses a concrete state that meets those of each of its
clauses; ill-formed terms that WellFormed refuses; and the values that the spec works out. -/

open Sys2Proof Sys2Proof.Machine

namespace Sys2Proof.Tests

set_option Elab.async false

/-! ### States to test on -/

/-- A host-table entry (R406): endpoint, class, tenant, sharer slot. -/
def hostRow (src cls ten slot : Nat) : Bytes :=
  toLe 2 src ++ [byte cls, byte ten] ++ toLe 2 (0x8000 + slot) ++ zeros 26

/-- A POLICY record that permits what it can, with a debug certificate. -/
def policyRow : Bytes := [0x01, 0] ++ toLe 2 100 ++ zeros 8 ++ toLe 4 0x1FFFF ++ toLe 4 0x1FFFF ++ zeros 108 ++ List.replicate 48 1 ++ [4, 0] ++ toLe 2 900

/-- A route entry whose up and down sets are one port (R309). -/
def routeTo (p : Nat) : Nat :=
  2 ^ 62 + p * 2 ^ 35 + 0x1F * 2 ^ 30 + p * 2 ^ 25 + 0x1F * 2 ^ 20 + 0x1F * 2 ^ 15 + 0x1F * 2 ^ 10 + 0x1F * 2 ^ 5 + 0x1F

/-- A ROUTE record: this device's IDs to LOCAL, endpoints 0x41 to 0x43 to link 2. -/
def routeRow : Bytes :=
  toLe 4 7 ++ toLe 2 1 ++ zeros 10 ++
    ((List.range 72).map fun d => toLe 8 (if d = 0 ∨ d = 1 ∨ d = 0x20 then routeTo 24 else if 0x41 ≤ d ∧ d ≤ 0x43 then routeTo 2 else 0)).flatten

/-- A region descriptor (R64) with one member, this device's pair. -/
def descOf (kind pinned durable ptab ten spa len dpa : Nat) (params : Bytes) : Bytes :=
  toLe 4 (ptab * 2 ^ 27 + (if durable = 1 then ten else 16 + ten) * 2 ^ 20 + ten * 2 ^ 16 + pinned * 2 ^ 15 + durable * 2 ^ 14 + kind * 2 ^ 12) ++
    toLe 4 1 ++ toLe 8 spa ++ toLe 8 len ++ padTo 40 params ++ (toLe 2 0 ++ zeros 6 ++ toLe 8 dpa) ++ zeros 240

def regionIn (st : Nat) (desc : Bytes) : Region := { regionOf desc 0 0 with st := st }

/-- A segment descriptor (R47): valid, readable and writable, 256 MiB pages. -/
def segDesc (base limit pt : Nat) : Bytes := toLe 4 23 ++ zeros 4 ++ toLe 8 base ++ toLe 8 limit ++ toLe 8 pt

def gib : Nat := 2 ^ 30

/-- A queue of the mailbox transport. -/
def queue0 : Queue := ⟨1, 1, false, 0x43, 0, 0, 0, 0, 0, 0, 0, 0, [], false, false⟩

/-- A page-table entry (R52): valid, readable and writable, of region n and frame f. -/
def pteOf (n f : Nat) : Nat := 7 + n * 2 ^ 16 + f * 2 ^ 28

/-- A reduction region of format 0 for up to 896 contributions of an RU, closed by its timer, with a trigger (R191); generation 1 is open for two. -/
def reduction : Region :=
  { regionIn 1 (descOf 2 1 0 0 1 (6 * gib) gib (6 * gib) (toLe 4 (896 * 2 ^ 16 + 64) ++ toLe 4 (2 * 2 ^ 16 + 5) ++ toLe 4 0 ++ toLe 4 3)) with
    shadow := 8 * gib
    shadowLen := 4 * gib
    gen := { GenSt.init with st := 8, gOpen := 1, nOpen := 2, nNext := 2, doneValid := true } }

/-- A link to a host, ACTIVE. -/
def upLink (x : LinkSt) : LinkSt :=
  { x with st := 5, dir := 3, rate := 2, width := 3, laneOk := 15, lanes := 15, peerId := 0x42, peerDepth := [64, 64, 64, 64, 64, 64] }

/-- A device in service: position 0 of its stack, headstock, ACTIVE; endpoint 0x41 is a device administrator, 0x42 the administrator and
0x43 a host of tenant 1; contexts 0 LIVE, 1 STOPPED, 2 DESTROYING; regions of every kind and state; slices 0 to 3 are tenant 1's, their
channels ONLINE; link 2 leads to endpoint 0x42. -/
def world : State :=
  let s := State.reset
  { s with
    blank := { s.blank with inUse := true, seq := 1, live := [⟨6, 0, policyRow⟩, ⟨7, 0, zeros 8⟩,
      ⟨10, 0, hostRow 0x41 0 0 0 ++ hostRow 0x42 1 1 1 ++ hostRow 0x43 2 1 2⟩, ⟨12, 0, routeRow⟩] }
    su := { s.su with running := [], doneSteps := [1, 2, 3, 4, 5, 6, 7, 8, 9, 10, 11, 12], step := 12, service := true, locked := true }
    spn := { s.spn with state := 2, pos := 0, members := 1 }
    pair := { s.pair with role := 1 }
    head := { s.head with head := true }
    time := { s.time with nclk := 10 ^ 9, pt := 5 * 10 ^ 9, src := 1 }
    slices := s.slices.mapIdx fun i x => if i < 4 then { x with st := 1, tenant := 1 } else x
    quarts := Vector.replicate 4 ⟨2, none⟩
    chans := s.chans.mapIdx fun i x => if i < 4 then { x with st := 2, kind := 1, ranks := 4, speed := 2, gib := 128, sets := 1043456, dirG := 16 } else x
    links := s.links.mapIdx fun i x => if i = 2 then upLink x else x
    work := { s.work with cores := s.work.cores.mapIdx fun i x => if i < 2 then { x with st := 1 } else x }
    ctx := { s.ctx with
      tab := [(0, ⟨1, 1, segDesc 0 gib (4 * gib) :: List.replicate 15 (zeros 32), [], none⟩), (1, ⟨2, 1, List.replicate 16 (zeros 32), [], none⟩),
        (2, ⟨3, 1, List.replicate 16 (zeros 32), [], none⟩)]
      steer := [(0, 0), (1, 0), (2, 0)] }
    pins := s.pins.mapIdx fun i x => if i < 4 then [⟨0, 16 * 2 ^ 16, 16 * 2 ^ 14, 16, 1⟩] else x
    pool := { s.pool with tcache := s.pool.tcache.set 0 [⟨0, 0, 0, pteOf 0 0, 4 * gib⟩, ⟨0, 0, 1, pteOf 1 4, 4 * gib⟩, ⟨0, 0, 2, pteOf 6 24, 4 * gib⟩] }
    rgn := { s.rgn with
      tab := [(0, regionIn 1 (descOf 0 1 0 0 1 0 gib 0 [])), (1, regionIn 1 (descOf 1 1 0 0 1 gib gib gib [])),
        (2, regionIn 2 (descOf 0 1 0 0 1 (2 * gib) gib (2 * gib) [])), (3, regionIn 3 (descOf 0 1 0 0 1 (3 * gib) gib (3 * gib) [])),
        (4, regionIn 1 (descOf 0 1 0 1 1 (4 * gib) gib (4 * gib) [])), (5, regionIn 4 (descOf 0 1 0 0 1 (5 * gib) gib (5 * gib) [])),
        (6, reduction)] } }

def da : CmdHdr := ⟨.bmc, 7, 0, 0⟩
def ta : CmdHdr := ⟨.ep 0x42, 7, 0, 0⟩
def host : CmdHdr := ⟨.ep 0x43, 7, 0, 0⟩
def fwd : CmdHdr := ⟨.fwd 1 5 0x42, 7, 0, 0⟩
/-- A coordination message of device 1 of the stack. -/
def dev1 : Coord := ⟨1, 5⟩

/-! ### The hypotheses of the statements can be met -/

theorem witness_StepTakesTheFront : ∃ s : State, s.pending = [] := ⟨State.reset, rfl⟩

theorem witness_EveryStepSettlesTheLands : State.reset.Settled := by unfold State.Settled; decide +kernel

theorem witness_RecordChangesBeginWithPrepare :
    world.su.held = false ∧ world.classOf ta.iss = .ta 1 ∧ world.head.head = true ∧ world.pairGap = false ∧ world.freeCtx = some 3 ∧
    (world.liveCtx ta.handle).any (fun c => c.tenant = 1 && c.st = 1) = true ∧
    (world.region 0).any (fun g => g.tenant = 1 && g.st = 1) = true ∧ (world.region 2).any (fun g => g.tenant = 1 && g.st = 2) = true ∧
    (world.region 5).any (fun g => g.tenant = 1 && g.st = 4 && !g.ptab) = true ∧ world.dependents 5 = [] := by decide +kernel

/-- A context record prepared. -/
def prepared : State := { world with coord := { world.coord with pend := [⟨5, 0, 0, 3, ctxRecord ⟨1, 1, List.replicate 16 (zeros 32), [], none⟩⟩] } }

theorem witness_MembersPrepareCommitAbort :
    world.su.held = false ∧ world.isDevice dev1.src = true ∧ world.closedHint = none ∧ world.coord.acked = [] ∧ (dev1.src, dev1.xid) ∉ world.coord.fwdOpen ∧
    world.region 9 = none ∧
    ((world.dropPend 1 9).placeRegion (regionOf (cut (regionRecord 1 (descOf 0 1 0 0 1 (7 * gib) gib (13 * gib) [])) 4 320) 0 0) matches .at_ _ _) = true ∧
    prepared.su.held = false ∧ prepared.isDevice dev1.src = true ∧ prepared.closedHint = none ∧ prepared.coord.acked = [] ∧
    (dev1.src, dev1.xid) ∉ prepared.coord.fwdOpen ∧ (prepared.coord.pend.find? fun p => p.obj = 0 && p.number = (3#16).toNat) = prepared.coord.pend.head? ∧
    prepared.coord.pend.head?.any (fun p => p.op = 0 && p.number = 3) = true ∧ prepared.liveCtx 3 = none := by decide +kernel

/-- A change whose PREPARE one device has not acknowledged. -/
def changing (n : Nat) : RecTx := ⟨0, 0, 1, 0, 0, zeros 4, [(1, 9, n)], 0, da, 0x142, [], false⟩
def changingIn (n : Nat) : State := { world with coord := { world.coord with recTx := [changing n] } }

theorem witness_HeadstockCarriesChangesThrough :
    (∀ n : Nat, n = 1 ∨ n = 4 ∨ n = 5 → (changingIn n).su.held = false ∧ changing n ∈ (changingIn n).coord.recTx ∧ (changing n).phase = 0 ∧
      (changing n).cmd ≠ 0 ∧ (changingIn n).coord.recTx = [changing n] ∧ (changing n).waits = [(1, 9, n)] ∧ (changing n).late = false ∧
      (changing n).cmd ≠ 0x121 ∧ (changing n).cmd ≠ 0x502 ∧ (changing n).cmd ≠ 0x133) := by
  rintro n (rfl | rfl | rfl) <;> decide +kernel

/-- A region quiesced for a forwarded command; one that is being deleted. -/
def leaving : State := world.updRegion 2 fun g => { g with reply := some fwd }

theorem witness_RecordsReachFree :
    leaving.su.held = false ∧ (leaving.region 2).any (fun g => g.st = 2 && g.reply = some fwd) = true ∧ leaving.drained 2 = true ∧
    (leaving.region 3).any (fun g => g.st = 3 && leaving.memberOf g = some 0) = true ∧
    (leaving.liveCtx 2).any (fun c => c.st = 3) = true ∧ leaving.openTasks (ctxIndex 2) = [] := by decide +kernel

theorem witness_ContextsSegmentsAndTranslations :
    world.su.held = false ∧
    (world.liveCtx 0).any (fun c => world.segOk c.tenant (segDesc gib gib (4 * gib)) && !segOverlap c.segs 1 (segDesc gib gib (4 * gib)) && c.segs.length = 16 &&
      c.st = 1 && c.tenant = 1) = true ∧
    (world.liveCtx 0).any (fun c => segOverlap c.segs 1 (segDesc (gib / 2) gib (4 * gib))) = true ∧
    (world.liveCtx 0).any (fun c => (segOf (c.segs.getD 0 [])).v && (segOf (c.segs.getD 0 [])).base = 0 && (segOf (c.segs.getD 0 [])).limit = gib) = true ∧
    (world.regionOfSpa (segOf (segDesc gib gib 0)).pt).any (fun g => !g.2.ptab) = true ∧ (segOf (segDesc gib gib 0)).v = true ∧
    world.classOf ta.iss = .ta 1 ∧ (world.liveCtx 1).any (fun c => c.tenant = 1 && c.st = 2) = true := by decide +kernel

/-- One segment of context 0 is valid: no two of them overlap. -/
theorem witness_segments_apart :
    (world.liveCtx 0).any (fun c => (List.range 15).all fun i => !(segOf (c.segs.getD (i + 1) [])).v) = true := by decide +kernel

/-- A region command whose argument has been read (R265). -/
theorem witness_RegionCommandsByReference :
    world.su.held = false ∧ world.classOf ta.iss = .ta 1 ∧ world.refOk ta = true ∧ world.head.head = true := by decide +kernel

def goodDimms : TrainReport := ⟨true, true, .rdimm, 2, 2, 16, 4, 2, 64, 0, 0, 0⟩
def onChan (f : ChanSt → ChanSt) : State := world.updChan 5 f
def training : State := world.updChan 5 fun k => { k with st := 1 }
def evacuating : State :=
  let s := world.updChan 0 fun k => { k with st := 3 }
  { s with tags := [(tagKey 0 0, [⟨true, false, false, false, 0, 2 ^ 22⟩])] }

theorem witness_ChannelsRunTheirCourse :
    (training.su.held = false ∧ training.pool.trks = [] ∧ training.pool.xwaits = [] ∧ training.pool.fills = [] ∧ training.pool.pend = [] ∧
      (∀ i : ChanId, i ≠ 5 → training.resizing i = false ∧ training.emptying i = false) ∧ (training.chan 5).st = 1 ∧ (training.chan 5).dirNext = none ∧
      training.isBusy .CH_CMD_RESULT 5 = false ∧ (training.busy .CH_CMD_RESULT 5).isBusy .CH_CMD_RESULT 5 = true ∧
      goodDimms.spd = true ∧ goodDimms.spdCrcOk = true ∧ dimmOk goodDimms = true ∧ dimmOk { goodDimms with dimms := 3 } = false ∧
      ∀ i : ChanId, (training.chan i).kind = 0 ∨ (training.chan i).kind = dimmCode goodDimms.kind) ∧
    (world.isBusy .CH_CMD_RESULT 5 = false ∧ (world.chan 5).st = 0 ∧ world.isBusy .CH_CMD_RESULT 0 = false ∧ (world.chan 0).st = 2 ∧
      world.pinnedVolatile 0 = true ∧ world.tierCode = 4 ∧ (world.chan 0).up = true ∧ (world.chan 0).selfRef = false ∧
      (world.setReg .PD_TIMER 0 100).rfld .PD_TIMER 0 15 0 ≠ 0 ∧ (3 : Fin 4).val < (world.chan 0).ranks ∧ bit (world.chan 0).pd 3 = false) ∧
    (evacuating.su.held = false ∧ evacuating.pool.trks = [] ∧ evacuating.pool.xwaits = [] ∧ evacuating.pool.fills = [] ∧ evacuating.pool.pend = [] ∧
      (∀ i : ChanId, i ≠ 0 → evacuating.resizing i = false ∧ evacuating.emptying i = false) ∧ (evacuating.chan 0).st = 3 ∧
      evacuating.dirtyWays 0 = [] ∧ evacuating.hasEntries 0 = false ∧ evacuating.cachedBlocks 0 = [2 ^ 22] ∧ evacuating.sliceTenant 0 = some 1 ∧
      1 ∈ evacuating.slotsOf 1 ∧ evacuating.slotSt 1 1 ≠ 1 ∧ evacuating.slotHost 1 1 = some 0x42) := by decide +kernel

/-- One that can be evacuated, with a flash tier of seven carriers. -/
def evacuable : State :=
  { world with tier := { world.tier with geo := zeros 256, cars := world.tier.cars.mapIdx fun i x => if i < 7 then { x with st := 5 } else x } }

theorem witness_evacuation : evacuable.tierCode = 1 ∧ evacuable.resizing 0 = false ∧ evacuable.hasEntries 0 = false ∧ (evacuable.chan 0).st = 2 ∧
    evacuable.pool.trks = [] ∧ (∀ i : ChanId, evacuable.resizing i = false ∧ evacuable.emptying i = false) := by decide +kernel

def scrubbed (p : Nat) (e : Bytes) : State :=
  { (world.updChan 0 fun k => { k with scrub := p }).setReg .SCRUB_INTERVAL 0 1 with upsets := if e = [] then [] else [(upsetKey 0 p, e)] }

theorem witness_scrub (e : Bytes) (he : e = [] ∨ e = [1#8] ++ zeros 175 ∨ e = [1#8, 2, 3] ++ zeros 173) :
    (scrubbed 3145728 e).su.held = false ∧ ((scrubbed 3145728 e).chan 0).st = 2 ∧ (scrubbed 3145728 e).resizing 0 = false ∧
    (scrubbed 3145728 e).emptying 0 = false ∧ ((scrubbed 3145728 e).chan 0).selfRef = false ∧ (scrubbed 3145728 e).reg .SCRUB_INTERVAL 0 ≠ 0 ∧
    (scrubbed 3145728 e).scrubNext 0 3145728 = some (3145728, some 0) ∧ (scrubbed 3145728 e).lockHeld 0 = false ∧
    ((scrubbed 3145728 e).chan 0).ueAt.length < 7 ∧ (scrubbed (2 ^ 40) e).scrubNext 0 (2 ^ 40) = none ∧
    decodeErr ((scrubbed 3145728 e).lineErr 0 3145728 false) = (if e = [] then .good else if e = [1#8] ++ zeros 175 then .corrected 0 else .bad) := by
  rcases he with rfl | rfl | rfl <;> decide +kernel

/-! A request whose effect can be followed to its line -/

def req (addr len : Nat) (payload : Bytes) : ReqMsg :=
  ⟨2, 0x42, 0, 9, 0, byte len, w64 addr, false, false, false, false, false, payload⟩

/-- The state with the tokens of a request taken. -/
def admitted (op : Nat) (r : ReqMsg) (s : State) (e : Nat × Bytes) : State :=
  (decideAdm e.1 (s.rfld .HOST_CFG e.1 18 16) r.link (s.countedLen op r) s).2

def located (op : Nat) (r : ReqMsg) (s : State) (e : Nat × Bytes) (c : Ctx) (q : Nat) : Xl × State :=
  xlate q r.handle c op r.addr.toNat (reqBytes op r) r.nr r.fwd (tenantOfHost e.2) (slotOf e.2).isSome (admitted op r s e)

theorem located_of (op : Nat) (r : ReqMsg) (s : State) (e : Nat × Bytes) (c : Ctx) (q n : Nat) (g : Region) (m dpa pt : Nat)
    (h : formCheck op r = none ∧ s.edgeOk r.link r.src = true ∧ s.isMe r.dst.toNat = true ∧ s.closedHint = none ∧ s.serving = true ∧ s.pair.role ≠ 5 ∧
      r.fwd = false ∧ s.hostEntry r.src = some e ∧ s.leaseNeeds e.1 (s.rfld .HOST_CFG e.1 18 16) r.link (s.countedLen op r) = [] ∧
      (decideAdm e.1 (s.rfld .HOST_CFG e.1 18 16) r.link (s.countedLen op r) s).1 = .pass ∧ (admitted op r s e).liveCtx r.handle = some c ∧
      (admitted op r s e).homeOf r.handle = some q ∧ (located op r s e c q).1 = .ok n g m dpa pt) :
    Located op r s (located op r s e c q).2 e n g m dpa := by
  obtain ⟨h1, h2, h3, h4, h5, h6, h7, h8, h9, h10, h11, h12, h13⟩ := h
  exact ⟨h1, admitted op r s e, c, q, pt, ⟨h2, h3, h4, h5, fun x => absurd x h6, h7, h8, h9, Prod.ext h10 rfl⟩, h11, h12, Prod.ext h13 rfl⟩

theorem reaches_of (op : Nat) (r : ReqMsg) (s : State) (e : Nat × Bytes) (c : Ctx) (q n : Nat) (g : Region) (m dpa : Nat)
    (hl : Located op r s (located op r s e c q).2 e n g m dpa)
    (h : (located op r s e c q).2.isMe (g.memberId m) = true ∧
      (located op r s e c q).2.quarterShut ((located op r s e c q).2.blockHome g m (dpa / 16384) / 4) = false ∧
      (located op r s e c q).2.mayTrack ((located op r s e c q).2.blockHome g m (dpa / 16384) / 4) (.host e.1) = true ∧
      (located op r s e c q).2.pair.window = none ∧ slotOf e.2 = some 1 ∧ (located op r s e c q).2.slotSt g.tenant 1 ≠ 1) :
    Reaches op r s (located op r s e c q).2 e n g m dpa := by
  obtain ⟨h14, h15, h16, h17, h18, h19⟩ := h
  refine ⟨hl, h14, h15, h16, fun _ => h17, ?_⟩
  intro _ x hx
  rw [h18] at hx
  cases hx
  exact h19

def entry42 : Nat × Bytes := (1, hostRow 0x42 1 1 1)
def ctx0 : Ctx := ⟨1, 1, segDesc 0 gib (4 * gib) :: List.replicate 15 (zeros 32), [], none⟩
def regionAt (n : Nat) : Region := (world.region n).getD reduction

theorem reaches_read : Reaches 1 (req 0x1000 63 []) world (located 1 (req 0x1000 63 []) world entry42 ctx0 0).2 entry42 0 (regionAt 0) 0 0x1000 :=
  reaches_of _ _ _ _ _ _ _ _ _ _ (located_of _ _ _ _ _ _ _ _ _ _ (4 * gib) (by decide +kernel)) (by decide +kernel)

def shutOut : State := { world with su := { world.su with drain := some ⟨3, 0⟩ } }
def fenced : State := { world with pair := { world.pair with role := 6 } }
def early : State := { world with su := { world.su with doneSteps := [1] } }
def stranger : State := world.updLink 2 fun k => { k with peerId := 0x50 }

theorem witness_RequestsAreChecked :
    world.su.held = false ∧ world.edgeOk 2 0x50 = false ∧ (world.link 2).dir = 3 ∧
    (world.edgeOk 2 0x42 = true ∧ world.hears 2 0x43 = false ∧ world.pickPort (0x43#16).toNat false = some 2) ∧
    (shutOut.su.held = false ∧ shutOut.edgeOk 2 0x42 = true ∧ shutOut.hears 2 0 = true ∧ shutOut.closedHint.isSome = true) ∧
    (fenced.edgeOk 2 0x42 = true ∧ fenced.hears 2 0x20 = true ∧ fenced.closedHint = none ∧ fenced.pair.role = 6 ∧ fenced.myAlias = 0x20) ∧
    (early.edgeOk 2 0x42 = true ∧ early.hears 2 0 = true ∧ early.closedHint = none ∧ early.serving = false ∧ early.pair.role ≠ 6) ∧
    (stranger.edgeOk 2 0x50 = true ∧ stranger.hears 2 0 = true ∧ stranger.closedHint = none ∧ stranger.serving = true ∧ stranger.pair.role ≠ 5 ∧
      stranger.hostEntry 0x50 = none) ∧
    formCheck 5 (req 0x1001 0 (zeros 128)) = some stBAD_DESCRIPTOR ∧ formCheck 0x1F (req 0 0 []) = some stUNSUPPORTED ∧
    (world.homeOf 0x1005 = none ∧ world.homeOf 0 = some 0) ∧
    formCheck 1 (req (2 ^ 40) 0 []) = none ∧ (located 1 (req (2 ^ 40) 0 []) world entry42 ctx0 0).1 = .fail 1 stNO_ACCESS 0 := by decide +kernel

/-- The port's bucket is empty. -/
def drained : State := { world.setReg .PORT_RATE 2 1 with shp := { world.shp with buckets := [(portBucket 2, ⟨0, 10 ^ 9⟩)] } }

theorem witness_policed : drained.edgeOk 2 0x42 = true ∧ drained.serving = true ∧ drained.hostEntry 0x42 = some entry42 ∧ drained.closedHint = none ∧
    drained.leaseNeeds 1 (drained.rfld .HOST_CFG 1 18 16) 2 (drained.countedLen 1 (req 0x1000 63 [])) = [] ∧
    ((decideAdm 1 (drained.rfld .HOST_CFG 1 18 16) 2 (drained.countedLen 1 (req 0x1000 63 [])) drained).1 matches .policed _) = true := by decide +kernel

/-- Slot 1 of tenant 1 is UNRESPONSIVE. -/
def silent : State := { world with pool := { world.pool with slots := [(slotKey 1 1, 1)] } }
def page1 : Nat := 2 ^ 28

theorem witness_unresponsive :
    Located 2 (req page1 0 []) silent (located 2 (req page1 0 []) silent entry42 ctx0 0).2 entry42 1 (regionAt 1) 0 gib ∧ (regionAt 1).kind = 1 ∧
    slotOf entry42.2 = some 1 ∧ (located 2 (req page1 0 []) silent entry42 ctx0 0).2.slotSt (regionAt 1).tenant 1 = 1 ∧
    (located 2 (req page1 0 []) silent entry42 ctx0 0).2.isMe ((regionAt 1).memberId 0) = true ∧
    (located 2 (req page1 0 []) silent entry42 ctx0 0).2.quarterShut ((located 2 (req page1 0 []) silent entry42 ctx0 0).2.blockHome (regionAt 1) 0 (gib / 16384) / 4) = false ∧
    (located 2 (req page1 0 []) silent entry42 ctx0 0).2.mayTrack ((located 2 (req page1 0 []) silent entry42 ctx0 0).2.blockHome (regionAt 1) 0 (gib / 16384) / 4) (.host 1) = true :=
  ⟨located_of _ _ _ _ _ _ _ _ _ _ (4 * gib) (by decide +kernel), by decide +kernel⟩

theorem world_idle : world.Idle := by unfold State.Idle State.Still; decide +kernel

/-- What every request of the witnesses below has in common: it reaches its line, which is in DRAM, with nothing else under way. -/
def Served (op : Nat) (r : ReqMsg) (s : State) (n : Nat) (g : Region) (dpa : Nat) : Prop :=
  s.su.held = false ∧ s.Idle ∧ Reaches op r s (located op r s entry42 ctx0 0).2 entry42 n g 0 dpa ∧ (located op r s entry42 ctx0 0).2.upsets = [] ∧
    g.durable = false ∧ (located op r s entry42 ctx0 0).2.InPlace g.tenant ((located op r s entry42 ctx0 0).2.blockHome g 0 (dpa / 16384)) (dpa / 16384)

theorem served_of (op : Nat) (r : ReqMsg) (s : State) (n : Nat) (g : Region) (dpa : Nat) (h0 : s.su.held = false) (hi : s.Idle)
    (hl : Located op r s (located op r s entry42 ctx0 0).2 entry42 n g 0 dpa)
    (h : (located op r s entry42 ctx0 0).2.isMe (g.memberId 0) = true ∧
      (located op r s entry42 ctx0 0).2.quarterShut ((located op r s entry42 ctx0 0).2.blockHome g 0 (dpa / 16384) / 4) = false ∧
      (located op r s entry42 ctx0 0).2.mayTrack ((located op r s entry42 ctx0 0).2.blockHome g 0 (dpa / 16384) / 4) (.host 1) = true ∧
      (located op r s entry42 ctx0 0).2.pair.window = none ∧ slotOf entry42.2 = some 1 ∧ (located op r s entry42 ctx0 0).2.slotSt g.tenant 1 ≠ 1)
    (k : (located op r s entry42 ctx0 0).2.upsets = [] ∧ g.durable = false ∧
      (located op r s entry42 ctx0 0).2.chanSt ((located op r s entry42 ctx0 0).2.blockHome g 0 (dpa / 16384)) = 2 ∧
      (located op r s entry42 ctx0 0).2.inBypass ((located op r s entry42 ctx0 0).2.blockHome g 0 (dpa / 16384)) (dpa / 16384) = false ∧
      (located op r s entry42 ctx0 0).2.pinned ((located op r s entry42 ctx0 0).2.blockHome g 0 (dpa / 16384)) (dpa / 16384) = true) :
    Served op r s n g dpa :=
  ⟨h0, hi, reaches_of _ _ _ _ _ _ _ _ _ _ hl h, k.1, k.2.1, k.2.2.1, k.2.2.2.1, .inl k.2.2.2.2⟩

theorem witness_RequestsAreServed_plain :
    Served 1 (req 0x1000 63 []) world 0 (regionAt 0) 0x1000 ∧ Served 5 (req 0x1000 0 (zeros 128)) world 0 (regionAt 0) 0x1000 ∧
    Served 6 (req 0x1008 7 (zeros 8)) world 0 (regionAt 0) 0x1008 ∧ Served 7 (req 0x1008 1 (zeros 8)) world 0 (regionAt 0) 0x1008 ∧
    (regionAt 0).kind = 0 ∧ (regionAt 0).ptab = false ∧ world.poison = [] := by
  refine ⟨?_, ?_, ?_, ?_, by decide +kernel⟩ <;>
    exact served_of _ _ _ _ _ _ rfl world_idle (located_of _ _ _ _ _ _ _ _ _ _ (4 * gib) (by decide +kernel)) (by decide +kernel) (by decide +kernel)

/-- The line read is poisoned. -/
def poisoned : State := { world with poison := [0x1000 / 128] }

theorem poisoned_idle : poisoned.Idle := by unfold State.Idle State.Still; decide +kernel

theorem witness_RequestsAreServed_poison : Served 1 (req 0x1000 63 []) poisoned 0 (regionAt 0) 0x1000 ∧
    (located 1 (req 0x1000 63 []) poisoned entry42 ctx0 0).2.poison.contains (0x1000 / 128) = true :=
  ⟨served_of _ _ _ _ _ _ rfl poisoned_idle (located_of _ _ _ _ _ _ _ _ _ _ (4 * gib) (by decide +kernel)) (by decide +kernel) (by decide +kernel),
    by decide +kernel⟩

def page2 : Nat := 2 * 2 ^ 28
/-- A contribution of contributor 0 to generation 1. -/
def share0 : Bytes := toLe 4 1 ++ toLe 2 0 ++ [0, 0] ++ zeros 128
/-- Its record says that it has come already. -/
def twice : State := { world with mem := Memory.writeN (Memory.writeN [] (reduction.recordAt 0 (6 * gib) + 4) (toLe 4 1)) (reduction.recordAt 0 (6 * gib) + 16) [1] }

theorem twice_idle : twice.Idle := by unfold State.Idle State.Still; decide +kernel

theorem witness_RequestsAreServed_reduction :
    Served 0x10 (req page2 0 share0) world 6 reduction (6 * gib) ∧ Served 0x10 (req page2 0 share0) twice 6 reduction (6 * gib) ∧
    Served 0x11 (req page2 0 (toLe 4 0 ++ zeros 2 ++ [2, 0])) world 6 reduction (6 * gib) ∧
    Served 0x11 (req page2 63 (toLe 4 0 ++ zeros 4)) world 6 reduction (6 * gib) ∧
    Served 0x11 (req page2 63 (toLe 4 1 ++ zeros 4)) world 6 reduction (6 * gib) := by
  refine ⟨?_, ?_, ?_, ?_, ?_⟩
  · exact served_of _ _ _ _ _ _ rfl world_idle (located_of _ _ _ _ _ _ _ _ _ _ (4 * gib) (by decide +kernel)) (by decide +kernel) (by decide +kernel)
  · exact served_of _ _ _ _ _ _ rfl twice_idle (located_of _ _ _ _ _ _ _ _ _ _ (4 * gib) (by decide +kernel)) (by decide +kernel) (by decide +kernel)
  · exact served_of _ _ _ _ _ _ rfl world_idle (located_of _ _ _ _ _ _ _ _ _ _ (4 * gib) (by decide +kernel)) (by decide +kernel) (by decide +kernel)
  · exact served_of _ _ _ _ _ _ rfl world_idle (located_of _ _ _ _ _ _ _ _ _ _ (4 * gib) (by decide +kernel)) (by decide +kernel) (by decide +kernel)
  · exact served_of _ _ _ _ _ _ rfl world_idle (located_of _ _ _ _ _ _ _ _ _ _ (4 * gib) (by decide +kernel)) (by decide +kernel) (by decide +kernel)

theorem witness_contribution :
    reduction.kind = 2 ∧ redCheck reduction share0 = none ∧ leAt share0 0 4 = 1 ∧ bitmapAt 0 = (16, 0) ∧ reduction.recordAt 0 (6 * gib) % 128 = 0 ∧
    reduction.bankAt 0 1 (6 * gib) % 128 = 0 ∧ 16 < reduction.recLines * 128 ∧ 1 ≤ reduction.recLines ∧
    reduction.bankAt 0 1 (6 * gib) + 256 ≤ reduction.recordAt 0 (6 * gib) ∧ world.memberOf reduction = some 0 ∧ world.poison = [] ∧
    (∀ bank : Nat, bank = 0 ∨ bank = 1 → ∀ b ∈ reduction.redBlocks 0 (6 * gib) bank, world.chanSt (world.blockHome reduction 0 b) = 2 ∧ world.pinned 0 b = true ∧
      world.inBypass 0 b = false) ∧
    leNat (Memory.readN world.mem (reduction.recordAt 0 (6 * gib) + 4) 4) ≠ 1 ∧ leNat (Memory.readN twice.mem (reduction.recordAt 0 (6 * gib) + 4) 4) = 1 ∧
    bit (Memory.read twice.mem (reduction.recordAt 0 (6 * gib) + 16)).toNat 0 = true ∧
    reduction.gen.ruDone ≠ reduction.ruCount 0 ∧ reduction.gen.nOpen ≠ 1 ∧ reduction.gen.doneValid = true ∧ reduction.gen.gDone = 0 ∧ reduction.gen.gOpen = 1 := by
  refine ⟨by decide +kernel, by decide +kernel, by decide +kernel, by decide +kernel, by decide +kernel, by decide +kernel, by decide +kernel,
    by decide +kernel, by decide +kernel, by decide +kernel, by decide +kernel, ?_, by decide +kernel⟩
  rintro bank (rfl | rfl) <;> decide +kernel

theorem witness_TrackedLinesAreGranted :
    Served 2 (req page1 0 []) world 1 (regionAt 1) gib ∧ Served 3 (req page1 0 []) world 1 (regionAt 1) gib ∧ Served 4 (req page1 0 []) world 1 (regionAt 1) gib ∧
    Served 7 (req page1 1 (zeros 8)) world 1 (regionAt 1) gib ∧ (regionAt 1).kind = 1 ∧ world.pool.flushes = [] ∧ world.pool.dir = [] ∧ world.poison = [] := by
  refine ⟨?_, ?_, ?_, ?_, by decide +kernel⟩ <;>
    exact served_of _ _ _ _ _ _ rfl world_idle (located_of _ _ _ _ _ _ _ _ _ _ (4 * gib) (by decide +kernel)) (by decide +kernel) (by decide +kernel)

/-- Slot 2 of tenant 1 shares the line. -/
def sharing : State := { world with pool := { world.pool with dir := [(gib / 128, ⟨1, 0, 0, false, 0, 1, 1, 0, [2]⟩)] } }

theorem sharing_idle : sharing.Idle := by unfold State.Idle State.Still; decide +kernel

theorem witness_snooped :
    Served 3 (req page1 0 []) sharing 1 (regionAt 1) gib ∧ sharing.slotSt 1 2 ≠ 1 ∧ sharing.slotHost 1 2 = some 0x43 ∧ slotOf entry42.2 = some 1 :=
  ⟨served_of _ _ _ _ _ _ rfl sharing_idle (located_of _ _ _ _ _ _ _ _ _ _ (4 * gib) (by decide +kernel)) (by decide +kernel) (by decide +kernel),
    by decide +kernel⟩

/-- A request of host-table entry 1 at its line home. -/
def trk0 : Trk :=
  { id := 7, who := .host 1, op := 3, r := req page1 0 [], slot := some 1, lk := gib / 128, dpa := gib, region := 1, tenant := 1, slice := 0,
    locked := true, wait := .snoop, snoops := [⟨2, 2 * 10 ^ 9, true, false, false⟩], data := none, poisoned := false, dirPh := 1, near := false, upg := false,
    acks := [], ptLine := 4 * gib, made := false, sentInv := false, jwait := [], ans := none }

def withTrks (l : List Trk) (s : State) : State := { s with pool := { s.pool with trks := l } }

/-- A snoop of slot 2 is open; endpoint 0x43 is on link 2. -/
def snooping : State := withTrks [trk0] (sharing.updLink 2 fun k => { k with peerId := 0x43 })
def answer43 : HostMsg := ⟨2, 0x43, 7, w64 gib, false, zeros 128⟩

theorem witness_HoldersAnswer :
    snooping.su.held = false ∧ snooping.edgeOk answer43.link answer43.src = true ∧ snooping.slotOfSrc answer43.src = some (1, 2) ∧
    snooping.openSnoop answer43.tag 1 2 = some (trk0, ⟨2, 2 * 10 ^ 9, true, false, false⟩) ∧ (snooping.pool.dir.find (gib / 128)).isSome = true ∧
    trk0.wait = .snoop ∧ trk0.ans = none ∧ trk0.id = answer43.tag.toNat ∧ answer43.wbPending = false ∧ (2 : BitVec 9).toNat = 2 ∧
    snooping.openSnoop 8 1 2 = none ∧
    ((snooping.work.accs.any fun a => a.agent = .xlat && a.st = 1 && a.addr = answer43.addr.toNat / 128 * 128) = false) := by decide +kernel

/-- As above, with no request under way: what an eviction meets; and with a flush that waits for slot 2. -/
def evicting : State := sharing.updLink 2 fun k => { k with peerId := 0x43 }
def flushing : State := { evicting with pool := { evicting.pool with flushes := [⟨7, 1, [2], 0⟩] } }
def gone : State := { evicting with pool := { evicting.pool with slots := [(slotKey 1 2, 1)] } }

theorem witness_evictions :
    evicting.su.held = false ∧ evicting.edgeOk answer43.link answer43.src = true ∧ evicting.slotOfSrc answer43.src = some (1, 2) ∧
    evicting.regionOfSpa answer43.addr.toNat = some (1, regionAt 1) ∧ spaToDpa (regionAt 1) answer43.addr.toNat = (0, gib) ∧ (regionAt 1).kind = 1 ∧
    (regionAt 1).tenant = 1 ∧ evicting.isMe ((regionAt 1).memberId 0) = true ∧ evicting.pool.trks = [] ∧ evicting.slotSt 1 2 ≠ 1 ∧
    ((evicting.pool.dir.find (gib / 128)).any fun y => y.holds 2) = true ∧ gone.slotSt 1 2 = 1 ∧ gone.pool.trks = [] ∧
    flushing.pool.flushes = [⟨(answer43.tag).toNat, 1, [2], 0⟩] ∧ flushing.slotSt 1 2 ≠ 1 := by decide +kernel

def acc0 : Acc := ⟨3, .task 0, 1, some 0, 0, 128, [], 1, 1, 0, 0, []⟩
/-- Requests that wait: for a lock, for a way, for room among the victims, for a page-table line's readers; and accesses of the device's own. -/
def waiting : State :=
  let s := withTrks [{ trk0 with id := 1, locked := false, wait := .lock, lk := 5, snoops := [] }, { trk0 with id := 2, wait := .limit, lk := 6 },
    { trk0 with id := 3, wait := .ptab, lk := 8, region := 4, dpa := 4 * gib, ptLine := 0 }, { trk0 with id := 4, wait := .way, lk := 9 }] world
  { s with
    work := { s.work with accs := [acc0, { acc0 with n := 4, st := 2 }, { acc0 with n := 5, agent := .xlat }] }
    pool := { s.pool with slots := [(slotKey 1 1, 1), (slotKey 1 2, 2)], sweeps := [⟨1, 2, some ta, 0⟩] } }

theorem witness_WhatWaitsGoesOn :
    waiting.su.held = false ∧ waiting.lockHeld 5 = false ∧ (waiting.pool.trks.find? fun j => j.wait = .lock && j.lk = 5).isSome = true ∧
    waiting.lockHeld 6 = true ∧ waiting.pool.fills.any (fun f => f.slice = 0 && f.way = 8) = false ∧ waiting.victimsOf 0 < 64 ∧
    (waiting.pool.trks.find? fun j => j.wait = .limit && j.slice = 0).isSome = true ∧
    (waiting.work.accs.find? fun y => y.n % 65536 = 3 && y.st = 1 && y.dest = 1) = some acc0 ∧ acc0.takesBusy = false ∧
    (∀ y ∈ waiting.work.accs, y.n = acc0.n → y = acc0) ∧ (waiting.work.accs.find? fun y => y.n = 4 && y.st = 2) = some { acc0 with n := 4, st := 2 } ∧
    ((waiting.trk 3).any fun k => k.wait = .ptab && k.region = 4) = true ∧ waiting.region 4 = some (regionAt 4) ∧
    dpaToSpa (regionAt 4) ((waiting.memberOf (regionAt 4)).getD 0) (4 * gib) = 4 * gib ∧
    ((waiting.pool.trks.any fun y => y.id ≠ 3 && y.ptLine = 4 * gib) = true) ∧
    waiting.classOf ta.iss = .ta 1 ∧ waiting.slotSt 1 1 = 1 ∧ waiting.slotSt 1 3 ≠ 1 ∧
    (waiting.pool.sweeps.find? fun w => w.tenant = 1 && w.slot = (2 : BitVec 9).toNat) = some ⟨1, 2, some ta, 0⟩ := by decide +kernel

/-- A page-table line that nothing read. -/
theorem witness_ptab_unread :
    ((waiting.pool.trks.any fun y => y.id ≠ 3 && y.ptLine = dpaToSpa (regionAt 4) 0 (4 * gib + 128)) = false) := by decide +kernel

def withGen (f : GenSt → GenSt) : State := world.updRegion 6 fun g => { g with gen := f g.gen }
def idleGen : State := withGen fun g => { g with st := 0xA }
/-- A computed region of region 0, and a region whose coordinator is device 1. -/
def computed : Region := regionIn 1 (descOf 3 1 0 0 1 (8 * gib) gib (12 * gib) [])
def elsewhere : Region := regionIn 1 (setFirst (descOf 2 1 0 0 1 (9 * gib) gib (13 * gib) (toLe 4 (896 * 2 ^ 16))))
where setFirst (d : Bytes) : Bytes := d.take 64 ++ [1, 0] ++ d.drop 66
def more : State := { world with rgn := { world.rgn with tab := world.rgn.tab ++ [(7, computed), (8, elsewhere)] } }

theorem witness_GenerationsOpenAndClose :
    world.su.held = false ∧ world.classOf ta.iss = .ta 1 ∧ (∀ q : Quarter, ta.iss ≠ .rgnCmd q) ∧ world.region 6 = some reduction ∧ reduction.tenant = 1 ∧
    world.coordinates reduction = true ∧ reduction.st = 1 ∧ reduction.kind = 2 ∧ 2 ≤ reduction.nMax ∧ reduction.gen.st = 8 ∧ reduction.gen.phase = 0 ∧
    reduction.gen.closeBy = 0 ∧ reduction.closeMs = 5 ∧ ((idleGen.region 6).any fun g => g.gen.st = 0xA && idleGen.coordinates g) = true ∧
    (regionAt 0).kind ≤ 1 ∧ world.coordinates (regionAt 0) = true ∧ (regionAt 0).st = 1 ∧ world.dependents 0 = [] ∧ world.unacked 9 0 (some ta) = false ∧
    more.region 7 = some computed ∧ computed.kind = 3 ∧ (more.memberOf computed).isSome = true ∧ more.coordinates computed = true ∧ more.dependents 0 ≠ [] ∧
    more.region 8 = some elsewhere ∧ more.coordinates elsewhere = false ∧ elsewhere.tenant = 1 := by decide +kernel

theorem witness_GenerationsCompleteAcrossMembers :
    world.su.held = false ∧ world.isDevice 0 = true ∧ world.closedHint = none ∧ world.coord.acked = [] ∧ ((0 : W16), (5 : W32)) ∉ world.coord.fwdOpen ∧
    world.region 6 = some reduction ∧ reduction.kind = 2 ∧ world.coordinates reduction = true ∧ world.memberIdx reduction 0 = some 0 ∧
    (1 : W32).toNat = reduction.gen.gOpen ∧ reduction.gen.phase = 0 ∧ reduction.gen.st = 8 ∧
    reduction.members ≤ (reduction.gen.reports.filter fun x => x.1 ≠ 0).length + 1 ∧
    (((withGen fun g => { g with phase := 1, jw := [(0, 0)] }).region 6).any fun g => g.gen.phase = 1 && g.gen.jw = [(0, 0)]) = true ∧
    (((withGen fun g => { g with phase := 3, doneWait := [1] }).region 6).any fun g => g.gen.phase = 3 && g.gen.doneWait ≠ []) = true ∧
    (((withGen fun g => { g with phase := 3 }).region 6).any fun g => g.gen.phase = 3 && g.gen.doneWait = [] && g.trigEn) = true ∧
    (world.liveCtx (w16 reduction.trigCtx)).isSome = true ∧ world.activeIds = [0] ∧ (more.memberOf computed).isSome = true := by decide +kernel

/-- A region of two members, whose first report has come: a second is awaited. -/
def pairOf : Region := { reduction with desc := reduction.desc.take 4 ++ toLe 4 2 ++ reduction.desc.drop 8 }

theorem witness_reports_kept : (pairOf.gen.reports.filter fun x => x.1 ≠ 0).length + 1 < pairOf.members ∧ pairOf.kind = 2 := by decide +kernel

/-- Generation steps that wait: a journal page that has not passed, an invalidation that is not acknowledged, a GEN_DONE that is not. -/
def unsettled : State :=
  let s := withGen fun g => { g with phase := 1, jw := [(1, 0)] }
  { s with
    tier := { s.tier with streams := [(1, ⟨1, [⟨0, [], 0, true, 0, 0, [], [0, 1]⟩]⟩)] }
    coord := { s.coord with sent := [⟨4, 9, 1, [], 0, none, 6⟩, ⟨5, 8, 1, [], 0, none, 6⟩] } }

theorem witness_generation_waits :
    unsettled.pageOk 1 0 = false ∧ unsettled.unacked 9 6 none = true ∧
    (unsettled.coord.sent.find? fun y => y.subop = 8 && y.region = 6 && y.dest = 1).isSome = true := by decide +kernel

/-- A carrier descriptor (R109): one package of one die and plane, unformatted. -/
def descBody (blocks : Nat) : Bytes :=
  toLe 4 0xD0B0CA00 ++ [1, 0, 0, 0] ++ zeros 16 ++ toLe 2 1 ++ [1, 1] ++ toLe 2 blocks ++ toLe 2 2 ++ toLe 2 512 ++ toLe 2 18432 ++ [3, 2] ++
    toLe 2 3000 ++ toLe 2 60000 ++ zeros 210
def carDesc (blocks : Nat) : Bytes := descBody blocks ++ toLe 4 (crc32c (descBody blocks))

def sbValid : Sb := { Sb.fresh with use := 2, tenant := 1, seq := 1, next := 1, erases := List.replicate 8 60000 }
def sbErasing : Sb := { Sb.fresh with use := 3, toErase := [0, 1] }
def page4 : Page := ⟨1, 4, 0, 1, 17, 0, [], []⟩
def fill4 : Fill := ⟨4, 0, 0, 3, 0⟩

/-- All carriers ONLINE; superblock 0 holds block 4's page, superblock 1 is being erased. -/
def tiered (blocks : Nat) : State :=
  { world with
    pin := { world.pin with carOwn := 0xFF, carPrsntN := 0 }
    tier := { world.tier with
      geo := carDesc blocks
      opened := true
      cars := world.tier.cars.map fun k => { k with st := 5, desc := carDesc blocks, speeds := [2, 2, 2, 2] }
      sbs := [(0, sbValid), (1, sbErasing)]
      pages := [(pageKey ⟨0, 0, 0⟩, page4)]
      fmap := [(4, .dense ⟨0, 0, 0⟩)]
      sbSeq := 1 } }

def filling : State := { tiered 64 with pool := { world.pool with fills := [fill4] } }

theorem witness_FlashWorkCompletes_fills :
    filling.su.held = false ∧ filling.pool.trks = [] ∧ filling.pool.xwaits = [] ∧ filling.pool.pend = [] ∧
    (indices 16).all (fun k => !filling.resizing k && !filling.emptying k) = true ∧ filling.pool.fills = [fill4] ∧ fill4.way < 8 ∧
    filling.region fill4.region = some (regionAt 0) ∧ filling.tier.fmap.find fill4.block = some (.dense ⟨0, 0, 0⟩) ∧ filling.readWay ⟨0, 0, 0⟩ = 0 ∧
    satAdd 32 ((filling.sb 0).reads.getD 0 0) 1 < (filling.reg .RD_LIMIT).toNat ∧ filling.tier.pages.find (pageKey ⟨0, 0, 0⟩) = some page4 ∧
    page4.block = fill4.block ∧ page4.region = fill4.region ∧ page4.tenant = (regionAt 0).tenant.val ∧ filling.tierImage 4 0 (regionAt 0).tenant = ([], [], false) := by
  decide +kernel

/-- A journal stream of quarter 0 and tenant 1 with an open page, or a closed one that awaits its mirrors. -/
def jpage (closed : Bool) (await : List Nat) : JPage := ⟨0, [], 10 ^ 9, closed, 0, 0, [], await⟩
def journalling (p : JPage) : State := { tiered 64 with tier := { (tiered 64).tier with streams := [(streamKey 0 1, ⟨1, [p]⟩)] } }
/-- A request whose answer waits for the page. -/
def heldBack (p : JPage) : State :=
  withTrks [{ trk0 with locked := false, wait := .journal, snoops := [], jwait := [(streamKey 0 1, 0)], ans := some (cmpMsg trk0.r stOK 0) }] (journalling p)

theorem witness_FlashWorkCompletes_journal :
    (journalling (jpage false [])).Still ∧ ((journalling (jpage false [])).stream (streamKey 0 1)).pages.getLast? = some (jpage false []) ∧
    (journalling (jpage true [0, 1])).Still ∧
    ((journalling (jpage true [0, 1])).stream (streamKey 0 1)).pages.find? (fun y => y.seq = 0) = some (jpage true [0, 1]) ∧
    (jpage true [0, 1]).await.contains 0 = true ∧ (jpage true [0, 1]).passed = [] ∧ (journalling (jpage true [0, 1])).tier.remirror = [] ∧
    ((journalling (jpage true [0, 1])).tier.sbs.any fun e => e.2.kind = 2 && e.2.use = 2) = false ∧
    ((journalling (jpage true [0, 1])).mirrorOrder 0).find? (fun d => d ≠ 0 && !(jpage true [0, 1]).passed.contains d.val && !(jpage true [0, 1]).await.contains d.val)
      = some 2 ∧
    ((heldBack (jpage true [0])).pool.trks.all fun x => x.who = .host 1 && x.wait = .journal && x.ans.isSome && x.jwait = [(streamKey 0 1, 0)]) = true ∧
    (heldBack (jpage true [0])).pool.trks.length = 1 ∧ (heldBack (jpage true [0])).pool.xwaits = [] ∧ (heldBack (jpage true [0])).pool.fills = [] ∧
    (heldBack (jpage true [0])).pool.pend = [] ∧ (jpage true [0]).await = [(0 : CarrierId).val] := by
  unfold State.Still; decide +kernel

def wback : DPage := ⟨{ page4 with block := 5 }, .writeBack, 0⟩
def striping (closed : Bool) : State :=
  { tiered 64 with tier := { (tiered 64).tier with dense := [⟨0, 1, 2, 0, [wback], 10 ^ 9, closed, false⟩], ckpts := [⟨0, 64⟩], remirror := [(streamKey 0 1, 0, 3)] } }

theorem witness_FlashWorkCompletes_stripes :
    ((striping false).tier.dense.find? fun d => d.q = 0 && d.tenant = 1 && !d.closed).isSome = true ∧ (striping true).Still ∧
    (((striping true).tier.dense.find? fun d => d.q = 0 && d.tenant = 1 && d.closed && !d.okWait).any fun d => d.pages = [wback]) = true ∧
    wback.why = .writeBack ∧ (striping true).pageLive wback.page = true ∧ (striping true).logRoom ((striping true).pageSlice wback.page) = true ∧
    (striping true).inBypass ((striping true).pageSlice wback.page) wback.page.block = false ∧ 3 < (striping true).rfld .RET_THRESH 0 7 0 ∧
    (∀ k ∈ (striping true).inServ, bit (0xFF : PassMask).toNat k.val = true ∧ (List.replicate 8 3).getD k.val 0 < (striping true).rfld .RET_THRESH 0 7 0) ∧
    (∀ k ∈ (striping true).inServ, bit (0 : PassMask).toNat k.val = false) ∧ (striping true).tier.geo ≠ [] ∧ (striping true).tier.ckpts = [⟨0, 64⟩] ∧
    ((striping false).tier.dense.filter fun d => d.okWait) = [] ∧ ((striping true).tier.sbs.any fun e => e.2.kind = 2 && e.2.use = 2) = false := by
  unfold State.Still; decide +kernel

theorem witness_FlashWorkCompletes_superblocks :
    (tiered 64).Still ∧ (∀ e ∈ (tiered 64).tier.sbs, e.1 = 0 → e.2 = (tiered 64).sb 0) ∧ (tiered 64).gcPick = some 0 ∧ (tiered 64).validIn 0 ≠ [] ∧
    (tiered 64).geo.sbs = 64 ∧ (tiered 64).tier.gc = none ∧ (tiered 64).tierCode = 0 ∧ 3 * 64 ≤ (tiered 64).sbsFree * 100 ∧ (tiered 2).geo.sbs = 2 ∧
    (tiered 2).sbsFree * 100 < 3 * 2 ∧ (tiered 2).gcPick = some 0 ∧ ((tiered 64).sb 1).use = 3 ∧ ((tiered 64).sb 1).toErase.contains 0 = true ∧
    ((tiered 64).sb 1).erases.length = 8 ∧ ((tiered 64).sb 1).reads.length = 8 ∧ (tiered 64).tier.scrubAll = false ∧ ((tiered 64).car 0).st = 5 ∧
    (tiered 64).rfld .WL_DELTA 0 15 0 < (tiered 64).eraseSpread 0 ∧ (tiered 64).coldest 0 = some 0 ∧ ((tiered 64).sb 0).use = 2 ∧
    (evacuable.eraseSpread 0 ≤ evacuable.rfld .WL_DELTA 0 15 0 ∧ (evacuable.car 0).st = 5) := by
  unfold State.Still; decide +kernel

def onCar (c : CarrierId) (f : CarSt → CarSt) (s : State) : State := s.updCar c f
/-- The device gives its carriers up: STEADY, carrier 0 not owned any more. -/
def handing : State :=
  let s := onCar 0 (fun k => { k with holdAt := some (10 ^ 9) }) (tiered 64)
  { s with pair := { s.pair with role := 2 }, pin := { s.pin with carOwn := 0xFE }, tier := { s.tier with fenceFirst := some (10 ^ 9) } }
/-- All eight lines are low. -/
def fallen : State := { handing with pin := { handing.pin with carOwn := 0 } }
/-- An ACTIVE device whose last line is about to fall. -/
def bereft : State := { fallen with pair := { fallen.pair with role := 1 }, pin := { fallen.pin with carOwn := 2 } }
def found : CarrierReport := ⟨carDesc 64, true, [2, 2, 2, 2]⟩
def discovering : State := onCar 0 (fun k => { k with st := 2 }) { tiered 64 with tier := { (tiered 64).tier with opened := false } }
def enabled (s : State) : State := s.setReg .FEATURES 0 0x48

theorem witness_CarriersComeAndGo :
    (tiered 64).su.held = false ∧ (tiered 64).Still ∧ ((tiered 64).car 0).st = 5 ∧ (world.car 0).st = 0 ∧ world.pair.role = 1 ∧
    (handing.pair.role ≠ 1 ∧ handing.pair.role ≠ 5 ∧ (handing.car 0).st = 5 ∧ handing.Still ∧ handing.tier.fenceFirst = some (10 ^ 9) ∧
      (handing.car 0).holdAt.isSome = true ∧ handing.owned 0 = false ∧ handing.pin.carOwn ≠ 0) ∧
    (fallen.Still ∧ fallen.tier.fenceFirst = some (10 ^ 9) ∧ (fallen.car 0).st = 5 ∧ (fallen.car 0).holdAt.isSome = true ∧ fallen.owned 0 = false ∧
      fallen.pin.carOwn = 0 ∧ ((indices 8).all fun d => match (fallen.car d).holdAt with | some x => decide (10 ^ 9 ≤ x) | none => true) = true) ∧
    (fallen.pair.role ≠ 1 ∧ bereft.pair.role = 1 ∧ bereft.tier.fenceFirst = some (10 ^ 9) ∧ bereft.time.nclk ≤ 10 ^ 9 + msec 1 ∧ 10 ^ 9 ≤ bereft.time.nclk ∧
      (bereft.car 1).st = 5 ∧ ((indices 8).all fun d => d = 1 || !bereft.owned d) = true) ∧
    ((onCar 1 (fun k => { k with st := 3 }) handing).car 1).st = 3 ∧ handing.present 1 = true ∧
    (((onCar 0 (fun k => { k with st := 1, holdAt := none }) handing).car 0).st = 1 ∧ (onCar 0 (fun k => { k with st := 1, holdAt := none }) handing).present 0 = true ∧
      ((onCar 0 (fun k => { k with st := 1, holdAt := none }) handing).car 0).holdAt = none) := by
  unfold State.Still; decide +kernel

set_option maxRecDepth 100000 in
theorem witness_discovery :
    (discovering.car 0).st = 2 ∧ discovering.Still ∧ discovering.refuseWhy 0 found = 0 ∧ discovering.refuseWhy 0 { found with onfiOk := false } = 5 ∧
    (∀ i : Nat, i < 4 → found.speeds.getD i 0 ≠ 0) ∧ discovering.tier.opened = false ∧ ({ found with speeds := [0, 2, 2, 2] } : CarrierReport).speeds.getD 0 0 = 0 ∧
    chanFitted found.desc 0 = true := by
  refine ⟨by decide +kernel, by unfold State.Still; decide +kernel, by decide +kernel, by decide +kernel, by decide +kernel, by decide +kernel, by decide +kernel, by decide +kernel⟩

theorem witness_carrier_commands :
    ((enabled (tiered 64)).isBusy .CAR_CMD_RESULT 0 = false ∧ (enabled (tiered 64)).flashEn = true ∧ (enabled (tiered 64)).Still ∧
      ((enabled (tiered 64)).car 0).st = 5 ∧ (enabled (tiered 64)).tierCode = 0) ∧
    (((enabled (onCar 0 (fun k => { k with st := 3 }) (tiered 64))).car 0).st = 3 ∧ (enabled (onCar 0 (fun k => { k with st := 3 }) (tiered 64))).tierCode = 1 ∧
      (enabled (onCar 0 (fun k => { k with st := 3 }) (tiered 64))).mayAttach 0 = true ∧ ((enabled (onCar 0 (fun k => { k with st := 3 }) (tiered 64))).car 1).st = 5) ∧
    ((enabled (onCar 1 (fun k => { k with st := 4 }) (onCar 0 (fun k => { k with st := 3 }) (tiered 64)))).mayAttach 0 = false ∧
      (enabled (onCar 1 (fun k => { k with st := 4 }) (onCar 0 (fun k => { k with st := 3 }) (tiered 64)))).tier.opened = true ∧
      ((enabled (onCar 1 (fun k => { k with st := 4 }) (onCar 0 (fun k => { k with st := 3 }) (tiered 64)))).car 1).st = 4) ∧
    ((tiered 64).busy .CAR_CMD_RESULT 0).leaving 0 = true ∧ (tiered 64).leaving 0 = false := by
  unfold State.Still; decide +kernel

/-! Queues, programs, tasks, triggers and cores -/

def onWork (f : WorkSt → WorkSt) (s : State) : State := { s with work := f s.work }
/-- Queue n of context 0 as given. -/
def withQueue (n : Nat) (q : Queue) (s : State) : State := onWork (fun w => { w with queues := [(queueKey 0 n, q)] }) s
/-- QUEUE_CREATE's arguments, with the mailbox and with rings in region 0. -/
def mailArgs : Bytes := [1, 0, 0, 0] ++ toLe 2 0x43 ++ [0, 0]
def ringArgs : Bytes := [1, 0, 0, 0] ++ zeros 4 ++ toLe 8 0x4000 ++ toLe 4 16 ++ zeros 4 ++ toLe 8 0x8000 ++ toLe 4 16 ++ zeros 4
/-- Tenant 1's hosts use rings. -/
def ringing : State := world.setReg .XPORT_MAP 0 2
/-- A command of tenant 1's administrator, and of its host, for queue 7. -/
def ta7 : CmdHdr := { ta with queue := 7 }
def bell (which new : Nat) : MgtMsg := ⟨0x43, 0, 0, toLe 2 0 ++ [7, byte which] ++ toLe 4 new⟩
def ringQ : Queue := { queue0 with sqSize := 16, cqSize := 16 }

theorem witness_QueuesAreManaged :
    (world.su.held = false ∧ world.liveCtx 0 = some ctx0 ∧ ctx0.tenant = 1 ∧ world.classOf ta7.iss = .ta 1 ∧ queueForm (world.rings 1) mailArgs = true ∧
      ctx0.st = 1 ∧ world.queue (queueKey 0 7) = none ∧ world.rings 1 = false) ∧
    (ringing.liveCtx 0 = some ctx0 ∧ queueForm (ringing.rings 1) ringArgs = true ∧ ringing.rings 1 = true ∧ ringing.queue (queueKey 0 7) = none ∧
      ringing.ringOk 1 (queueOf true ringArgs).sqSpa (128 * (queueOf true ringArgs).sqSize) = true ∧
      ringing.ringOk 1 (queueOf true ringArgs).cqSpa (32 * (queueOf true ringArgs).cqSize) = true) ∧
    ((withQueue 7 queue0 world).queue (queueKey 0 7) = some queue0 ∧ (withQueue 7 queue0 world).cmdQueue ta7 ctx0 = some queue0 ∧ queue0.st = 1 ∧
      (withQueue 7 { queue0 with st := 2 } world).cmdQueue ta7 ctx0 = some { queue0 with st := 2 } ∧
      (withQueue 7 { queue0 with st := 2 } world).work.tasks = [] ∧ world.classOf host.iss = .host 1) ∧
    (leAt (bell 0 16).payload 0 2 = 0 ∧ leAt (bell 0 16).payload 2 1 = 7 ∧ leAt (bell 0 16).payload 4 4 = 16 ∧ (bell 0 16).payload.length = 8 ∧
      (withQueue 7 ringQ ringing).queue (queueKey 0 7) = some ringQ ∧ ringQ.sqSize ≠ 0 ∧ ringing.classOfEp (bell 0 16).src = .host 1 ∧
      leAt (bell 0 16).payload 3 1 = 0 ∧ ahead ringQ.sqTail 16 ringQ.sqSize = true ∧ ahead ringQ.sqTail 17 ringQ.sqSize = false ∧
      leAt (bell 1 16).payload 3 1 = 1 ∧ ahead ringQ.cqHead 16 ringQ.cqSize = true) := by decide +kernel

/-- A program image (R232, R234): Y = NEG(Y) in place over 32 binary32 values of the workspace. -/
def progOf (minor opcode format : Nat) : Bytes :=
  toLe 4 0xD0B0DF00 ++ toLe 2 minor ++ toLe 2 1 ++ toLe 2 1 ++ toLe 2 1 ++ zeros 4 ++ toLe 4 4 ++ zeros 4 ++ toLe 8 128 ++ zeros 32 ++
    ([byte format, 1, 2, 0] ++ zeros 12 ++ toLe 4 32 ++ toLe 4 1 ++ toLe 4 1 ++ toLe 4 1 ++ zeros 32) ++
    (toLe 2 opcode ++ zeros 2 ++ (toLe 2 0 ++ toLe 2 0xFFFF ++ toLe 2 0xFFFF ++ toLe 2 0xFFFF) ++ (toLe 2 0 ++ toLe 2 0xFFFF) ++ toLe 4 0 ++ toLe 4 4 ++ zeros 8) ++
    toLe 4 0
def progImage : Bytes := progOf 0 2 0x12

/-- R242, checks 3, 4, 5 and 2: a sound image, a later version, a reserved format, an unknown opcode, an image cut short. -/
theorem test_load_checks : loadCheck progImage = none ∧ loadCheck (progOf 1 2 0x12) = some (.unsupported 0xFFFF) ∧ loadCheck (progOf 0 2 0x13) = some (.bad 0) ∧
    loadCheck (progOf 0 0xE 0x12) = some (.unsupported 0) ∧ loadCheck (progImage.dropLast) = some (.bad 0xFFFF) := by decide +kernel

def someTask : Task :=
  { ctx := 0, queue := 7, tag := 0x1234, desc := zeros 128, image := progImage, prog := some 3, st := 2, seq := 1, op := 0, begun := false, lastSeen := false,
    failing := false, late := false, status := 0, flags := 0, cause := 0, opIndex := 0xFFFF, startNs := 0, endNs := 0, genAt := 0, wrote := [], advancing := [],
    phase := 0, recDone := false }
def withTask (x : Task) (s : State) : State := onWork (fun w => { w with tasks := [x], taskSeq := 1 }) s
def loaded : State := enabled (onWork (fun w => { w with progs := [(3, ⟨0, 1, 0, progImage, 65536⟩)] }) world)

theorem witness_ProgramsAndTriggers :
    ((enabled world).su.held = false ∧ (enabled world).classOf ta.iss = .ta 1 ∧ (enabled world).refOk ta = true ∧ (enabled world).kcoreEn = true ∧
      (163904#32).toNat ≤ 163904 ∧ (enabled world).work.progs.length < 256) ∧
    (loaded.prog 3 = some ⟨0, 1, 0, progImage, 65536⟩ ∧ loaded.work.tasks = [] ∧ loaded.classOf ta.iss = .ta 1 ∧
      ((withTask someTask loaded).work.tasks.any fun x => x.prog = some 3 && !x.final) = true) ∧
    (world.classOf host.iss = .host 1 ∧ world.liveCtx 0 = some ctx0 ∧ ctx0.tenant = 1 ∧ (63 : Byte).toNat < 64 ∧ ctx0.st = 1) ∧
    (world.isDevice dev1.src = true ∧ world.closedHint = none ∧ world.coord.acked = [] ∧ world.coord.fwdOpen = []) := by decide +kernel

/-- Context 0 has its most live tasks. -/
def full : State := enabled (withQueue 7 queue0 (onWork (fun w => { w with tasks := List.replicate 256 someTask, taskSeq := 1 }) world))

theorem witness_TasksAreSubmitted :
    ((enabled world).su.held = false ∧ (enabled world).classOf host.iss = .host 1 ∧ (enabled world).liveCtx 0 = some ctx0 ∧ (enabled world).kcoreEn = true ∧
      (enabled world).rings 1 = false ∧ (zeros 128).length = 128 ∧ (enabled world).cmdQueue ta7 ctx0 = none) ∧
    ((enabled (withQueue 7 queue0 world)).cmdQueue ta7 ctx0 = some queue0 ∧ (enabled (withQueue 7 queue0 world)).taskRoom 0 = true ∧
      (enabled (withQueue 7 queue0 world)).work.cmds = [] ∧ (enabled (withQueue 7 queue0 world)).work.tasks = [] ∧ full.cmdQueue ta7 ctx0 = some queue0 ∧
      full.taskRoom 0 = false) ∧
    ((withTask someTask world).taskNamed 0 7 0x1234 = some someTask ∧ someTask.final = false ∧
      (withTask { someTask with st := 4 } world).taskNamed 0 7 0x1234 = some { someTask with st := 4 } ∧ ({ someTask with st := 4 } : Task).final = true ∧
      (withQueue 7 queue0 (withTask { someTask with st := 4 } world)).queue { someTask with st := 4 }.key = some queue0 ∧ world.taskNamed 0 7 0x1234 = none) := by
  decide +kernel

def withCore (c : CoreSt) (s : State) : State := onWork (fun w => { w with cores := w.cores.set 0 c }) s
def readyTask : State := withQueue 7 queue0 (withTask someTask world)

theorem readyTask_hasTile : readyTask.hasTile someTask = true := by
  have h : readyTask.running someTask.seq = 0 := by decide +kernel
  have h2 : (someTask.rec_.code ≠ 0x00D) := by decide +kernel
  unfold State.hasTile Task.width
  rw [h]
  simp only [ne_eq, h2, not_false_eq_true, decide_true, Bool.and_true]
  exact Bool.and_eq_true_iff.mpr ⟨by decide, decide_eq_true (by omega)⟩

theorem witness_CoresRunTiles :
    ((onWork (fun w => { w with cancels := [(1, host)] }) (withTask someTask world)).work.cancels = [(1, host)] ∧
      (onWork (fun w => { w with cancels := [(1, host)] }) (withTask someTask world)).taskBy 1 = some someTask ∧ someTask.final = false) ∧
    (readyTask.work.cancels = [] ∧ readyTask.work.comps = [] ∧ readyTask.work.tasks = [someTask] ∧ someTask.st = 2 ∧ readyTask.hasTile someTask = true ∧
      readyTask.ctxBy someTask.ctx = some ctx0 ∧ ctx0.st = 1 ∧ readyTask.work.queues = [(someTask.key, queue0)] ∧ queue0.st = 1 ∧ queue0.prio < 4 ∧
      readyTask.coreTenant 0 = some ctx0.tenant ∧ readyTask.coreReady 0 = true ∧ readyTask.pwr.st = 0 ∧ someTask.ctx < 4096 ∧ someTask.queue < 8) ∧
    (((withCore ⟨2, some (.task 1), 0, true⟩ readyTask).coreSt 0).st = 2 ∧ ((withCore ⟨2, some (.task 1), 0, true⟩ readyTask).coreSt 0).tile = some (.task 1) ∧
      (withCore ⟨2, some (.task 1), 0, true⟩ readyTask).taskBy 1 = some someTask ∧ someTask.failing = false) ∧
    ((onWork (fun w => { w with comps := [⟨4095, 7, 1, false, [], true, false, []⟩] }) world).work.comps.find? fun y =>
      y.region = (4095#12).toNat && y.blk = 7 && y.dispatched && !y.ended) = some ⟨4095, 7, 1, false, [], true, false, []⟩ ∧
    (((withCore ⟨2, none, 0, true⟩ world).coreSt 0).st = 2 ∧ ((withCore ⟨2, none, 0, true⟩ world).coreSt 0).tile = none) ∧
    (world.isBusy .KC_CMD_RESULT 0 = false ∧ (world.coreSt 0).st = 1 ∧ ((withCore ⟨3, none, 0, true⟩ world).coreSt 0).st = 3 ∧
      ((withCore ⟨5, none, 0, true⟩ world).coreSt 0).st = 5) ∧
    (((withCore ⟨4, none, 0, false⟩ world).coreSt 0).st = 4 ∧ ((withCore ⟨4, none, 0, false⟩ world).coreSt 0).cleared = false ∧
      ((withCore ⟨4, none, 0, true⟩ (world.busy .KC_CMD_RESULT 0)).coreSt 0).cleared = true ∧
      (withCore ⟨4, none, 0, true⟩ (world.busy .KC_CMD_RESULT 0)).isBusy .KC_CMD_RESULT 0 = true) := by
  exact ⟨by decide +kernel, ⟨by decide +kernel, by decide +kernel, by decide +kernel, by decide +kernel, readyTask_hasTile, by decide +kernel, by decide +kernel, by decide +kernel,
    by decide +kernel, by decide +kernel, by decide +kernel, by decide +kernel, by decide +kernel, by decide +kernel, by decide +kernel⟩, by decide +kernel, by decide +kernel, by decide +kernel, by decide +kernel, by decide +kernel⟩


/-! Links -/

/-- Link 0 changed. -/
def onLink (f : LinkSt → LinkSt) : State := world.updLink 0 f
def active (x : LinkSt) : LinkSt :=
  { x with st := 5, dir := 2, rate := 2, width := 3, laneOk := 15, lanes := 15, peerId := 1, peerDepth := [64, 64, 64, 64, 64, 64] }
def onActive (f : LinkSt → LinkSt) : State := onLink fun x => f (active x)
def peerCfg : PeerConfig := ⟨1, 5, false, 3, 7, [64, 64, 64, 64, 64, 64]⟩
/-- Link 0 in CONFIG; the blank expects device 1 above, or endpoint e, at it. -/
def inConfig : State := (onLink fun x => { x with st := 3, trainRate := 2, laneOk := 15 }).setReg .LNK_EXPECT 0 0x10001
def hostLink (e : Nat) : State := inConfig.setReg .LNK_EXPECT 0 (w32 (0x30000 + e))
/-- The blank names one trust anchor: the number 1. -/
def trusting : State :=
  { onLink (fun x => { x with st := 4, dir := 3 }) with
    blank := { world.blank with live := ⟨15, 0, zeros 47 ++ [1]⟩ :: world.blank.live } }

theorem witness_LinkTrainingRunsTheSteps :
    world.su.held = false ∧ ((onLink fun x => { x with st := 1 }).link 0).st = 1 ∧ ((onLink fun x => { x with st := 2 }).link 0).st = 2 ∧
    ((inConfig.link 0).st = 3 ∧ inConfig.configCause 0 peerCfg = 0 ∧ inConfig.configCause 0 { peerCfg with rank := 1 } = 0xA ∧
      inConfig.configCause 0 { peerCfg with peerId := 0 } = 9 ∧ inConfig.configCause 0 { peerCfg with rates := 1 } = 0xB ∧
      inConfig.configCause 0 { peerCfg with widths := 0 } = 0xB ∧ (hostLink 0x42).configCause 0 { peerCfg with peerId := 0x42, isHost := true } = 0xD) ∧
    ((trusting.link 0).st = 4 ∧ trusting.hw.secOpen = false ∧ (trusting.link 0).dir = 3 ∧ trusting.trusts 1 = true ∧ trusting.trusts 2 = false) ∧
    (((onLink fun x => { x with st := 4, dir := 2 }).link 0).st = 4 ∧ ((onLink fun x => { x with st := 4, dir := 2 }).link 0).dir = 2) := by decide +kernel

theorem witness_LinkTrainingTimesOut :
    (((onLink fun x => { x with st := 2, trainRate := 2 }).link 0).trainRate = 2 ∧ ((onLink fun x => { x with st := 2, trainRate := 1 }).link 0).trainRate = 1) ∧
    ((onLink fun x => { x with st := 2, trainRate := 2 }).link 0).st = 2 ∧ ((onLink fun x => { x with st := 2, trainRate := 1 }).link 0).st = 2 ∧
    (inConfig.link 0).st = 3 ∧ (trusting.link 0).st = 4 := by decide +kernel

/-- Lock was lost at the time of `world`, on the lanes whose bits are not in `ok`. -/
def losing (w lanes ok : Nat) : State := onActive fun x => { x with width := w, lanes := lanes, laneOk := ok, downAt := some (10 ^ 9) }

theorem witness_LinkLockLossAndRetrain :
    (((onActive id).link 0).st = 5 ∧ ((onActive id).link 0).lanes.testBit 3 = true ∧ ((onActive id).link 0).downAt = none ∧ (onActive id).su.held = false) ∧
    (((losing 3 15 7).link 0).downAt = some (10 ^ 9) ∧
      ((losing 3 15 7).link 0).lanes &&& setBits ((losing 3 15 7).link 0).laneOk 3 3 1 = ((losing 3 15 7).link 0).lanes ∧
      (losing 3 15 7).time.nclk ≤ 10 ^ 9 + (losing 3 15 7).tDown 0) ∧
    (((losing 3 15 7).link 0).lanes &&& ((losing 3 15 7).link 0).laneOk ≠ ((losing 3 15 7).link 0).lanes ∧ (15 &&& 7) % 4 = 3) ∧
    (((losing 3 15 4).link 0).lanes &&& ((losing 3 15 4).link 0).laneOk = 4 ∧ ¬(4 % 4 = 3 ∨ 4 / 4 = 3) ∧ ((losing 3 15 4).link 0).lanes = 15) ∧
    (((losing 1 1 0).link 0).width = 1 ∧ ((losing 1 1 0).link 0).lanes &&& ((losing 1 1 0).link 0).laneOk = 0) ∧
    (((losing 3 15 15).link 0).lanes &&& ((losing 3 15 15).link 0).laneOk = ((losing 3 15 15).link 0).lanes) ∧
    (((onActive fun x => { x with st := 6, target := some (2, 1) }).link 0).st = 6 ∧
      ((onActive fun x => { x with st := 6, target := some (2, 1) }).link 0).target = some (2, 1) ∧ peerCfg.widths.toNat.testBit (2 - 1) = true ∧
      peerCfg.rates.toNat.testBit (1 - 1) = true ∧ ((onActive fun x => { x with st := 6, target := some (2, 1) }).link 0).buf = []) ∧
    ((onLink fun x => { x with st := 7 }).link 0).st = 7 := by decide +kernel

/-- A flit of a type, sequence number, virtual channel and length in bytes; it closes its packet. -/
def flitOf (ty n vc len : Nat) : Flit := ⟨w64 (ty * 2 ^ 60 + n * 2 ^ 48 + vc * 2 ^ 31 + len * 2 ^ 21), zeros 224, true, true⟩
def openPkt : OpenPkt := ⟨1, 9, 24, false, [], 10 ^ 9⟩
def receiving : State := onActive fun x => { x with rxN := 4096 + 7, opens := [none, none, none, none, none, some openPkt] }

theorem witness_LinkReceivesFlits :
    (receiving.su.held = false ∧ (receiving.link 0).st = 5 ∧ (receiving.link 0).nakAt = none ∧ (receiving.link 0).txq = []) ∧
    ((flitOf 15 0 0 0).crcOk = true ∧ 5 ≤ bits (flitOf 15 0 0 0).hdr.toNat 63 60 ∧ ({ flitOf 0 0 0 0 with crcOk := false } : Flit).crcOk = false) ∧
    (bits (flitOf 2 0 0 0).hdr.toNat 63 60 = 2 ∧ bit (flitOf 2 0 0 0).hdr.toNat 35 = false ∧ (flitOf 2 0 0 0).tagOk = true) ∧
    (bits (flitOf 3 7 4 0).hdr.toNat 63 60 = 3 ∧ bits (flitOf 3 7 4 0).hdr.toNat 59 48 = (receiving.link 0).rxN % 4096 ∧
      (receiving.link 0).opens.getD (bits (flitOf 3 7 4 0).hdr.toNat 33 31) none = none ∧ receiving.vcFull 0 (bits (flitOf 3 7 4 0).hdr.toNat 33 31) = false) ∧
    (bits (flitOf 4 7 0 0).hdr.toNat 63 60 = 4 ∧ ((onActive fun x => { x with rxN := 7, rekeyAt := some 5 }).link 0).rekeyAt = some 5 ∧
      bits (flitOf 4 7 0 0).hdr.toNat 59 48 = ((onActive fun x => { x with rxN := 7, rekeyAt := some 5 }).link 0).rxN % 4096) ∧
    (∀ n : Nat, n = 6 ∨ n = 3079 → bits (flitOf 1 n 0 224).hdr.toNat 63 60 = 1 ∧ 1 ≤ ((receiving.link 0).rxN + 4096 - bits (flitOf 1 n 0 224).hdr.toNat 59 48) % 4096 ∧
      ((receiving.link 0).rxN + 4096 - bits (flitOf 1 n 0 224).hdr.toNat 59 48) % 4096 ≤ 1024) ∧
    (bits (flitOf 1 7 5 224).hdr.toNat 63 60 = 1 ∧ bits (flitOf 1 7 5 224).hdr.toNat 33 31 = 5 ∧ bit (flitOf 1 7 5 224).hdr.toNat 30 = false ∧
      bit (flitOf 1 7 5 224).hdr.toNat 29 = false ∧ (receiving.link 0).opens.getD 5 none = some openPkt ∧ openPkt.port = 24 ∧ receiving.vcFull 0 5 = false) := by
  refine ⟨by decide +kernel, by decide +kernel, by decide +kernel, by decide +kernel, by decide +kernel, ?_, by decide +kernel⟩
  rintro n (rfl | rfl) <;> decide +kernel

theorem witness_LinkTimersAct :
    (((onActive fun x => { x with buf := [⟨0, 0, []⟩], replays := 15 }).link 0).buf = [⟨0, 0, []⟩] ∧
      ((onActive fun x => { x with buf := [⟨0, 0, []⟩], replays := 15 }).link 0).replays = 15 ∧
      ((onActive fun x => { x with buf := [⟨0, 0, []⟩], replays := 14 }).link 0).replays < 15) ∧
    ((onActive fun x => { x with firstAt := some 3 }).link 0).firstAt = some 3 ∧
    (((onActive fun x => { x with txN := 2 ^ 36 - 1, txU := 2 ^ 36 - 2 }).link 0).txN < 2 ^ 36 + 0 ∧
      ((onActive fun x => { x with txN := 2 ^ 36 - 1, txU := 2 ^ 36 - 2 }).link 0).keyN = 0 ∧
      ((onActive fun x => { x with txN := 2 ^ 36 - 1, txU := 2 ^ 36 - 2 }).link 0).keyU = 0 ∧
      ((onActive fun x => { x with txN := 2 ^ 36 - 1, txU := 2 ^ 36 - 2 }).link 0).txU + 1 < 2 ^ 36 + 0) ∧
    ((onActive fun x => { x with rekeyAt := some 3 }).link 0).rekeyAt = some 3 ∧
    (((onActive fun x => { x with opens := [none, none, none, none, none, some { openPkt with port := 31 }] }).link 0).opens.getD 5 none =
        some { openPkt with port := 31 } ∧ ((onActive id).link 0).downAt = none ∧ 5 < ((onActive id).link 0).drop.length) := by decide +kernel

theorem witness_LinkCommandsAct :
    ((onActive id).isBusy .LNK_CMD_RESULT 0 = false ∧ ((onActive id).link 0).st ≠ 0 ∧ ((onActive id).link 0).st ≠ 9 ∧ ((onActive id).link 0).st ≠ 8 ∧
      ((onActive id).link 0).st = 5) ∧
    (((onActive fun x => { x with disabling := true }).link 0).disabling = true ∧ ((onActive fun x => { x with disabling := true }).link 0).buf = [] ∧
      ((onActive fun x => { x with disabling := true }).link 0).txq = []) ∧
    (((onLink fun x => { x with st := 0 }).link 0).st = 0 ∧ ((onLink fun x => { x with st := 8 }).link 0).st = 8) ∧
    ((3 : BitVec 2).toNat ≤ (onActive id).maxWidth 0 ∧ (2 : BitVec 2).toNat ≤ (onActive id).maxRate 0 ∧ ((onActive id).link 0).width ≤ (onActive id).maxWidth 0 ∧
      ((onActive id).link 0).rate ≤ (onActive id).maxRate 0 ∧ ((onActive id).link 0).rate ≠ 3) := by decide +kernel

theorem witness_LinkCommandsFrame : ∃ t : State, exec (.linkHoldoffExpire 0) world = .next t := ⟨_, rfl⟩


/-! Admission, Heartwood, keys and reports -/

def onShp (f : ShapeSt → ShapeSt) (s : State) : State := { s with shp := f s.shp }
/-- The index plate runs: one entry of 100 ns that closes every gate, then one that opens them. -/
def plated : State :=
  onShp (fun x => { x with started := true }) (((world.setReg .TG_LEN 0 2).setReg .TG_ENTRY 0 1).setReg .TG_ENTRY 1 0xFF000001)
/-- A pending plate of two entries. -/
def nextPlate : Bytes := toLe 8 (7 * 2 ^ 32) ++ [2, 0, 0, 0] ++ zeros 4 ++ toLe 4 0xFF000001 ++ toLe 4 0x01000002
def bucket0 : Nat := hostBucket 1

theorem witness_AdmissionTakesTokens :
    (world.su.held = false ∧ ((world.setLease bucket0 3 ⟨0, 0, some 0⟩).lease bucket0 3).asked = some 0 ∧
      ((world.setLease bucket0 3 ⟨0, 0, some 9⟩).lease bucket0 3).asked = some 9 ∧ (world.setLease bucket0 3 ⟨0, 0, some 9⟩).shp.waiting = [] ∧
      ((world.setLease bucket0 3 ⟨5, 0, none⟩).lease bucket0 3).bal ≠ 0) ∧
    (drained.su.held = false ∧ drained.edgeOk 2 0x42 = true ∧ drained.isMe 0 = true ∧ drained.closedHint = none ∧ drained.serving = true ∧ drained.pair.role ≠ 5 ∧
      drained.pair.role ≠ 6 ∧ drained.hostEntry 0x42 = some entry42 ∧ (req 0x1000 0 []).fwd = false ∧
      drained.leaseNeeds 1 (drained.rfld .HOST_CFG 1 18 16) 2 (drained.countedLen 2 (req 0x1000 0 [])) = [] ∧
      portBucket 2 ∈ admBuckets 1 (drained.rfld .HOST_CFG 1 18 16) 2 ∧ drained.bRate (portBucket 2) ≠ 0 ∧
      drained.tokens (portBucket 2) (2 / 6) < drained.countedLen 2 (req 0x1000 0 []) * tok) ∧
    (plated.edgeOk 2 0x42 = true ∧ plated.isMe 0 = true ∧ plated.closedHint = none ∧ plated.serving = true ∧ plated.hostEntry 0x42 = some entry42 ∧
      plated.leaseNeeds 1 (plated.rfld .HOST_CFG 1 18 16) 2 (plated.countedLen 2 (req 0x1000 0 [])) = [] ∧
      plated.gates.testBit (plated.rfld .HOST_CFG 1 18 16) = false) := by decide +kernel

theorem witness_IndexPlateTurns : plated.su.held = false ∧ plated.plateRuns = true ∧
    entryAt (plated.plate.offset plated.ptNs) plated.plate.entries 0 0 = some (0, 0, 100) ∧ world.ptValid = true ∧
    (onShp (fun x => { x with next := some (nextPlate, 7 * 2 ^ 32) }) world).shp.next = some (nextPlate, 7 * 2 ^ 32) := by decide +kernel

def onHw (f : HwSt → HwSt) (s : State) : State := { s with hw := f s.hw }
/-- Heartwood has watched since its epoch began and holds a seed; the response to a source is as a policy word says. -/
def guarded (pol : W32) : State := onHw (fun x => { x with pol := pol, cont := contWord x.epoch, seed := some 7, meshBad := 1, tempBad := 1 }) world

theorem witness_TamperSourcesRespond :
    ∀ r : Nat, r < 3 → (guarded (w32 (r * 0x150))).su.held = false ∧ (guarded (w32 (r * 0x150))).hw.cont = contWord (guarded (w32 (r * 0x150))).hw.epoch ∧
      r = fld (guarded (w32 (r * 0x150))).hw.pol 5 4 ∧ r = fld (guarded (w32 (r * 0x150))).hw.pol 7 6 ∧ r = fld (guarded (w32 (r * 0x150))).hw.pol 9 8 ∧
      (guarded (w32 (r * 0x150))).hw.tempBad = 1 ∧ (guarded (w32 (r * 0x150))).hw.meshBad = 1 ∧ (guarded (w32 (r * 0x150))).hw.erasePending = false ∧
      (guarded (w32 (r * 0x150))).hw.seed ≠ none := by decide +kernel

theorem witness_LidChannelsJudged :
    ((onHw (fun x => { x with openRun := 1 }) (guarded 0)).hw.lid ≠ 3 ∧ (onHw (fun x => { x with openRun := 1 }) (guarded 0)).hw.lidTimer = none ∧
      (onHw (fun x => { x with openRun := 1 }) (guarded 0)).hw.openRun = 1 ∧ (onHw (fun x => { x with openRun := 1 }) (guarded 0)).hw.win.st ≠ 2 ∧
      (guarded 0).hw.cont = contWord (guarded 0).hw.epoch) ∧
    ((onHw (fun x => { x with openRun := 1, win := ⟨2, 0, 10 ^ 12⟩ }) (guarded 0)).hw.win.st = 2) ∧
    ((onHw (fun x => { x with lid := 2, lidTimer := some 9 }) (guarded 0)).hw.lidTimer = some 9 ∧ 9 < (guarded 0).tDisc ∧ fld (guarded 0).hw.pol 3 2 = 0) ∧
    ((guarded 0).classOf da.iss = .da ∧ (onHw (fun x => { x with lid := 3, lidA := false, lidB := true, prev := some (false, true) }) (guarded 0)).lidClosed = true ∧
      (onHw (fun x => { x with lid := 3, lidA := true, lidB := true }) (guarded 0)).lidClosed = false) := by decide +kernel

/-- A service token for counter value c, n minutes from a start. -/
def token (c n start : Nat) : Bytes := world.hw.serial ++ toLe 4 c ++ toLe 2 n ++ zeros 2 ++ toLe 8 start ++ zeros 96
def windowed (st : Nat) : State := onHw (fun x => { x with win := ⟨st, 10 ^ 9, 10 ^ 12⟩ }) world

theorem witness_ServiceWindowOpensOnce :
    (∀ n : Nat, n = 1 ∨ n = 240 → world.su.held = false ∧ world.classOf da.iss = .da ∧ cut (token 0 n (10 ^ 9)) 0 16 = world.hw.serial ∧
      leAt (token 0 n (10 ^ 9)) 0x16 2 = 0 ∧ leAt (token 0 n (10 ^ 9)) 0x14 2 = n ∧ world.ptValid = true ∧
      leAt (token 0 n (10 ^ 9)) 0x10 4 = (world.counter 0).toNat ∧ world.counter 0 ≠ 0xFFFFFFFF ∧ world.hw.win.st = 0 ∧
      world.ptNs < leAt (token 0 n (10 ^ 9)) 0x18 8 + leAt (token 0 n (10 ^ 9)) 0x14 2 * 60000000000 ∧ (nvWrite (ctrSlotNo 0) world).1 = true) ∧
    (windowed 1).hw.win.st = 1 ∧ (windowed 2).hw.win.st ≠ 0 := by
  refine ⟨?_, by decide +kernel⟩
  rintro n (rfl | rfl) <;> decide +kernel

/-- Counters 0 and 1 to 6 are the administrator's and tenant 1's, counter 7 nobody's. -/
def owned : State :=
  { world with blank := { world.blank with live := ⟨6, 0, [0x01, 0] ++ toLe 2 100 ++ [0x10, 1, 1, 1, 1, 1, 1, 0x1F] ++ zeros 180⟩ :: world.blank.live } }

theorem witness_CountersFusesAndVaultReset :
    (owned.su.held = false ∧ ownsCtr (owned.classOf da.iss) (owned.ctrOwner 0) = true ∧ ownsCtr (owned.classOf ta.iss) (owned.ctrOwner 6) = true ∧
      owned.counter 6 ≠ 0xFFFFFFFF ∧ owned.counter 6 < 0xFFFFFFFF ∧ (nvWrite (ctrSlotNo 6) owned).1 = true ∧
      ownsCtr (owned.classOf ta.iss) (owned.ctrOwner 0) = false ∧ ownsCtr (owned.classOf da.iss) (owned.ctrOwner 7) = false ∧ owned.classOf da.iss = .da) := by
  decide +kernel

/-- Tenant 1's key slot as given. -/
def keyed (st : Nat) (s : State) : State := onHw (fun x => { x with keys := x.keys.set 1 ⟨st, 3, 9⟩ }) s
/-- Tenant 1 has a durable region here. -/
def durable : State := keyed 1 { world with rgn := { world.rgn with tab := [(0, regionIn 1 (descOf 0 1 1 0 1 0 gib 0 []))] } }
def clearing (after : Option TenantId) : State := { world with slices := world.slices.set 15 ⟨2, 0, after, false, 0, 0⟩ }

theorem witness_KeysAndSlices :
    (world.su.held = false ∧ world.classOf ta.iss = .ta 1 ∧ world.hw.secOpen = false ∧ (world.key 1).st = 0 ∧ (nvWrite (keySlotNo 1) world).1 = true ∧
      world.refOk ta = true) ∧
    (((keyed 2 world).key 1).st ≠ 0 ∧ (keyed 2 world).durableHere 1 = false ∧ (nvWrite (keySlotNo 1) (keyed 2 world)).1 = true ∧ durable.durableHere 1 = true) ∧
    (((clearing none).slice 15).st = 2 ∧ ((clearing none).slice 15).after = none ∧ ((clearing (some 1)).slice 15).after = some 1) := by decide +kernel

/-- A report to be signed, for its requester's command. -/
def aReport (h : CmdHdr) : Report := ⟨1, h, zeros 32, 2 ^ 63, [], [], [], zeros 200, false⟩
def reporting (h : CmdHdr) : State := onWork (fun w => { w with report := some (aReport h) }) world
def asked : CoordTx := ⟨5, 4, 1, zeros 8 ++ toLe 2 0x403 ++ zeros 6, 10 ^ 9, none, 0⟩
/-- The reports of members 0 and 1 are asked for. -/
def gathering : State := { world with satt := some ⟨.bmc, 7, zeros 32, 2 ^ 63, [0, 1], []⟩
                                      coord := { world.coord with sent := [asked] } }

theorem witness_ReportsComposedSignedWritten :
    (world.su.held = false ∧ world.classOf da.iss = .da ∧ world.hw.secOpen = false ∧ (zeros 32).length = 32 ∧ 16384 ≤ (16384#32).toNat ∧
      (xferRange (w64 (2 ^ 63 + 507904)).toNat 16384).isSome = true ∧ world.work.report = none) ∧
    (world.classOf ta.iss = .ta 1 ∧ world.refOk ta = true ∧ (List.replicate 8 (0 : W16)).length ≤ 8) ∧
    ((reporting da).work.report = some (aReport da) ∧ (aReport da).body ≠ [] ∧ (aReport da).signed = false ∧ (reporting da).forStack (aReport da).h = false ∧
      (reporting da).classOf (aReport da).h.iss = .da ∧ xferRange (aReport da).dest ((aReport da).body ++ padTo 96 (zeros 96)).length = some 0 ∧
      (reporting ⟨.fwd 1 5 1, 7, 0, 0⟩).forStack (aReport ⟨.fwd 1 5 1, 7, 0, 0⟩).h = true) ∧
    (world.head.head = true ∧ (8 + 13040) * world.joined.length ≤ (16384#32).toNat ∧ world.satt = none) ∧
    (gathering.satt.any fun x => x.waits.contains 1 && x.waits.filter (· ≠ 1) ≠ []) = true ∧
    (gathering.coord.sent.find? fun t => t.attests && t.dest.toNat % 64 = 1) = some asked := by decide +kernel


/-! The chain, the headstock, the pair -/

def onSpn (f : SpnSt → SpnSt) (s : State) : State := { s with spn := f s.spn }
def onPair (f : PairSt → PairSt) (s : State) : State := { s with pair := f s.pair }
def onHead (f : HeadSt → HeadSt) (s : State) : State := { s with head := f s.head }
/-- A chain frame of this stack (R373, R376, R378): type, byte 3, bytes 4 on. -/
def frame (ty b3 : Nat) (body : Bytes) : Bytes :=
  let b := toLe 2 0 ++ [byte ty, byte b3] ++ padTo 8 body
  b ++ toLe 4 (crc32c b)
def superOf (sfn members headPos : Nat) : Bytes := frame 1 0 (toLe 4 sfn ++ [0, 0, byte members, byte headPos]) ++ zeros 512
/-- A device that enumeration has not reached; the blank expects position e. -/
def unplaced (e : Nat) : State :=
  onSpn (fun x => { x with state := 1, pos := 0x3F, portAt := some 5 })
    { world with blank := { world.blank with live := ⟨7, 0, toLe 2 0 ++ [byte e, 0] ++ zeros 4⟩ :: world.blank.live } }

theorem witness_ChainFramesMove :
    (world.su.held = false ∧ world.spn.state = 2 ∧ world.spn.origin = false ∧ world.spn.pos ≠ 0x3F ∧ (onSpn (fun x => { x with origin := true }) world).spn.origin = true ∧
      world.stackId = 0 ∧ State.reset.spn.state = 0) ∧
    (chainOk (superOf (2 ^ 32 - 1) 16 1) = true ∧ leAt (superOf (2 ^ 32 - 1) 16 1) 0 2 = 0 ∧ 
      chainOk (1 :: zeros 527) = false) ∧
    ((unplaced 15).spn.state ≠ 0 ∧ (unplaced 15).stackId = 0 ∧ (unplaced 15).spn.pos = 0x3F ∧ leAt (frame 2 15 []) 3 1 = (unplaced 15).expectPos ∧
      chainOk (frame 2 15 []) = true ∧ (unplaced 15).spn.origin = false) ∧
    ((onSpn (fun x => { x with state := 1, origin := true }) world).spn.state = 1 ∧ (onSpn (fun x => { x with state := 1, origin := true }) world).spn.origin = true) ∧
    ((unplaced 1).spn.portAt = some 5 ∧ (unplaced 1).expectPos = 1 ∧ (unplaced 1).su.warm = false ∧ (unplaced 1).spn.state = 1) := by decide +kernel

/-- A member of pair 7, active. -/
def pair7 : State := onHead (fun x => { x with head := false, absentAt := some 3 }) (onSpn (fun x => { x with pos := 15 }) world)

theorem witness_HeadstockRoleIsClaimed :
    (pair7.su.held = false ∧ pair7.spn.state ≠ 0 ∧ pair7.spn.pos ≠ 0x3F ∧ chainOk (frame 3 7 (toLe 2 15)) = true ∧ leAt (frame 3 7 (toLe 2 15)) 0 2 = pair7.stackId ∧
      leAt (frame 3 7 (toLe 2 15)) 4 2 = pair7.myId.toNat ∧ leAt (frame 3 6 (toLe 2 12)) 4 2 ≠ pair7.myId.toNat ∧ leAt (frame 3 6 (toLe 2 12)) 3 1 < pair7.pairNo ∧
      chainOk (frame 3 6 (toLe 2 12)) = true) ∧
    (pair7.head.absentAt = some 3 ∧ pair7.pairNo ≠ 0 ∧ mapRole pair7.pair.role = 1 ∧ pair7.head.head = false ∧ pair7.head.claimAt = none) ∧
    (onHead (fun x => { x with claimAt := some 4 }) pair7).head.claimAt = some 4 ∧
    (pair7.isDevice 1 = true ∧ older pair7.spn.mapSeq.toNat (2 ^ 31 - 1) = true ∧ older pair7.spn.mapSeq.toNat (2 ^ 31) = false ∧
      leAt (toLe 4 (2 ^ 31 - 1) ++ zeros 96) 0 4 = 2 ^ 31 - 1) := by decide +kernel

/-- The partner's heartbeat: its ALIVE count and flags. -/
def beat (alive flags : Nat) : Bytes :=
  let b := toLe 2 1 ++ [byte alive, byte flags] ++ zeros 8
  b ++ toLe 4 (crc32c b)
def lonely : State :=
  onPair (fun x => { x with role := 2, ready := true, chain := { x.chain with miss := 7 }, link := { x.link with miss := 7 } }) world

theorem witness_HeartbeatsShowThePartner :
    (world.su.held = false ∧ world.spn.pos ≠ 0x3F ∧ world.hbStopped = false ∧ world.soloRec = false) ∧
    ((beat 255 0x81).length = 16 ∧ crc32c (cut (beat 255 0x81) 0 12) = leAt (beat 255 0x81) 12 4 ∧ leAt (beat 255 0x81) 0 2 = world.partnerId.toNat ∧
      world.pair.link.last ≠ some (byte (leAt (beat 255 0x81) 2 1)) ∧ crc32c (cut (1 :: zeros 15) 0 12) ≠ leAt (1 :: zeros 15) 12 4) ∧
    ((onPair (fun x => { x with chain := { x.chain with good := true }, link := { x.link with good := true } }) world).pair.chain.good = true ∧
      (onPair (fun x => { x with chain := { x.chain with good := true }, link := { x.link with good := true } }) world).pair.link.good = true ∧
      world.pair.role ≠ 4) ∧
    (lonely.pair.chain.good = false ∧ lonely.pair.link.good = false ∧ 7 ≤ lonely.pair.chain.miss ∧ 7 ≤ lonely.pair.link.miss ∧ lonely.pair.detected = false ∧
      lonely.pair.role = 2 ∧ lonely.pair.ready = true ∧ lonely.soloRec = false) ∧
    ((onPair (fun x => { x with role := 0, waitAt := some 9 }) world).pair.waitAt = some 9 ∧ (onPair (fun x => { x with role := 0, waitAt := some 9 }) world).pair.role = 0 ∧
      (onPair (fun x => { x with role := 0, waitAt := some 9 }) world).pair.partnerRole ≠ 1) := by decide +kernel

def taking (st : List Nat) (own : Byte) : State := onPair (fun x => { x with role := 4, stages := st }) { world with pin := { world.pin with carOwn := own } }
def yieldTo (partner : Nat) : State := onPair (fun x => { x with partnerReady := true, partnerRole := partner }) world
def quietly : State := onPair (fun x => { x with partnerHandback := true }) { tiered 64 with job := { world.job with armed := some 5 } }
def handOver (st : List Nat) : State := onPair (fun x => { x with role := 5, stages := st }) world

theorem witness_TakeoverAndHandoverStages :
    ((taking [] 0).pair.role = 4 ∧ (taking [] 0).pair.stages = [] ∧ (taking [1] 0xFF).pair.stages = [1] ∧ (taking [1] 0xFF).pin.carOwn = 0xFF ∧ (taking [1] 0xFE).pin.carOwn ≠ 0xFF) ∧
    ((onPair (fun x => { x with window := some 8 }) world).pair.window = some 8 ∧ (world.rgn.tab.all fun e => !(e.2.kind = 1 && e.2.durable && e.2.st ≠ 0)) = true) ∧
    (world.isBusy .PAIR_CMD_RESULT 0 = false ∧ (yieldTo 3).pair.role = 1 ∧ (yieldTo 3).pair.partnerReady = true ∧ (yieldTo 3).pair.partnerRole = 3 ∧
      (yieldTo 2).pair.partnerRole = 2 ∧ lonely.pair.role ≠ 1) ∧
    (quietly.su.held = false ∧ quietly.pair.role = 1 ∧ quietly.pair.partnerHandback = true ∧ quietly.quiet = true ∧ quietly.pair.handing = false) ∧
    ((handOver []).pair.role = 5 ∧ (handOver []).pool.trks = [] ∧ (handOver []).pool.xwaits = [] ∧ (handOver [1]).pair.stages = [1] ∧ (handOver [1]).isDrained = true ∧
      (handOver [1]).tier.ckpts = [] ∧ (handOver [1, 2]).pair.stages = [1, 2]) ∧
    (world.partnerId = 1 ∧ world.soloRec = false ∧ (onPair (fun x => { x with role := 3 }) world).pair.role = 3) := by decide +kernel

def announcing (since : Nat) : State :=
  onPair (fun x => { x with announces := [⟨1, since, false⟩] }) { world with time := { world.time with nclk := 10 ^ 10 } }

theorem witness_EpochsAreAnnounced :
    (leAt (toLe 2 0x2F ++ [1, 0] ++ toLe 4 (2 ^ 31 - 1)) 0 2 = (31#16).toNat / 64 * 64 + 0x20 + 15 ∧ (31#16).toNat % 64 / 2 = 15 ∧ (31#16).toNat % 64 < 0x20 ∧
      older (world.pair.heldEpochs.get 0 0x2F).toNat (w32 (leAt (toLe 2 0x2F ++ [1, 0] ++ toLe 4 (2 ^ 31 - 1)) 4 4)).toNat = true ∧
      older (world.pair.heldEpochs.get 0 0x2F).toNat (w32 (leAt (toLe 2 0x2F ++ [1, 0] ++ toLe 4 (2 ^ 31)) 4 4)).toNat = false) ∧
    (leAt (toLe 2 0x60) 0 2 / 64 ≠ (31#16).toNat / 64) ∧
    (leAt (toLe 2 0x20 ++ toLe 4 0) 0 2 = world.myAlias.toNat ∧ w32 (leAt (toLe 2 0x20 ++ toLe 4 0) 2 4) = world.pair.epoch) ∧
    (((announcing (10 ^ 10 + msec 1 - secs 1)).pair.announces.find? fun x => x.dest = 1 && !x.acked) = some ⟨1, 10 ^ 10 + msec 1 - secs 1, false⟩ ∧
      (announcing 0).time.nclk = 10 ^ 10 ∧ 10 ^ 10 + msec 1 - secs 1 ≤ 10 ^ 10 ∧ 10 ^ 10 + msec 1 ≤ 10 ^ 10 + msec 1 - secs 1 + secs 1) ∧
    (((announcing (10 ^ 10 - secs 1 - 1)).pair.announces.find? fun x => x.dest = 1 && !x.acked) = some ⟨1, 10 ^ 10 - secs 1 - 1, false⟩ ∧
      10 ^ 10 - secs 1 - 1 + secs 1 < 10 ^ 10) := by decide +kernel

/-! Check values, resets, power and clocks -/

theorem witness_CheckValueUnits :
    world.su.held = false ∧ 2 ≤ (7 : Fin 8).val ∧ 2 ≤ (2 : Fin 8).val ∧ (1 : Fin 8).val < 2 ∧ fld (1 : W32) 2 1 = 0 ∧ bit (1 : W32).toNat 0 = true ∧
    world.rfld .CHK_CFG 7 2 1 = 0 ∧ world.rfld .CHK_CFG 2 2 1 = 0 := by decide +kernel

def onPwr (f : PwrSt → PwrSt) (s : State) : State := { s with pwr := f s.pwr }
def onSu (f : SuSt → SuSt) (s : State) : State := { s with su := f s.su }

theorem witness_ResetsStartTheHub :
    ((guarded 0).Intact ∧ (guarded 0).pwr.pfPhase ≠ 1 ∧ (guarded 0).pwr.st ≠ 5 ∧ (guarded 0).pwr.trip = false) ∧
    ((onPwr (fun x => { x with st := 5 }) (guarded 0)).Intact ∧ (guarded 0).hw.resetPending = none) ∧
    ((guarded 0).su.held = false ∧ (guarded 0).su.waitRef = false) ∧
    ((onSu (fun x => { x with held := true, waitRef := true }) (guarded 0)).Intact ∧ (onSu (fun x => { x with held := true, waitRef := true }) (guarded 0)).su.waitRef = true) := by
  unfold State.Intact; decide +kernel

def draining : State := onSu (fun x => { x with drain := some ⟨3, 10 ^ 9⟩ }) (guarded 0)
/-- A request is still under way. -/
def busily : State := { draining with pool := { draining.pool with trks := [trk0] } }

theorem witness_WarmResetDrainsAndKeepsDram :
    (world.pwr.pfPhase = 0 ∧ world.su.drain = none ∧ world.isBusy .RST_CMD_RESULT 0 = false ∧ (onPwr (fun x => { x with pfPhase := 2 }) world).pwr.pfPhase ≠ 0) ∧
    (draining.su.held = false ∧ draining.su.drain = some ⟨3, 10 ^ 9⟩ ∧ draining.isDrained = true ∧ draining.Intact) ∧
    (busily.su.drain = some ⟨3, 10 ^ 9⟩ ∧ busily.isDrained = false) := by unfold State.Intact; decide +kernel

def quarter3 (x : Quart) : State := { world with quarts := world.quarts.set 3 x }

theorem witness_QuarterResets :
    (world.su.held = false ∧ world.pwr.pfPhase = 0 ∧ world.isBusy .RST_CMD_RESULT 0 = false ∧ (world.quart 3).st = 2 ∧ ((quarter3 ⟨3, none⟩).quart 3).st ≠ 2) ∧
    (((quarter3 ⟨2, some ⟨0, 5⟩⟩).quart 3).drain = some ⟨0, 5⟩ ∧ (quarter3 ⟨2, some ⟨0, 5⟩⟩).quartDrained 3 = true ∧ busily.quartDrained 0 = false) := by decide +kernel

def failing (phase : Nat) : State := onPwr (fun x => { x with pfPhase := phase }) (guarded 0)

theorem witness_PowerLossIsHandled :
    (world.su.held = false ∧ world.pwr.pfPhase = 0 ∧ world.pwr.trip = false ∧ world.pwr.tripPend = false) ∧
    ((failing 1).pwr.pfPhase = 1 ∧ (failing 1).pwr.porHeld = false) ∧ ((failing 2).pwr.pfPhase = 2 ∧ (failing 2).pwr.pfPhase ≠ 1 ∧ (failing 2).Intact ∧ (failing 2).pwr.trip = false) ∧
    ((99 : Byte).toNat < 115 ∧ 115 ≤ (115 : Byte).toNat) := by unfold State.Intact; decide +kernel

/-- Quarter 0's ECLK runs at 4 and is to reach 8. -/
def ramping : State := { world with clk := { world.clk with dom := world.clk.dom.map fun d => { d with div := 4, target := 8 } } }
def capped (w : Nat) : State := onPwr (fun x => { x with meas := List.replicate 10 w }) world

theorem witness_ClocksAndCapStep :
    ((∀ i : Fin 22, (ramping.clk.dom[i]).div ≠ (ramping.clk.dom[i]).target ∧ (ramping.clk.dom[i]).div ≠ 0) ∧ ramping.su.held = false) ∧
    (aboveCeiling world.eclkMax 8 = true ∧ aboveCeiling (world.setReg .FEATURES 0 0x20).eclkMax 3 = false ∧ (rollSecond world).log.rate.get 0 2 < 256) ∧
    ((capped 981).capWatts < (capped 981).meanPower ∧ (capped 981).eclkTarget < 8) ∧
    ((onPwr (fun x => { x with eSteps := 3, outOf := Vector.replicate 16 8 }) (capped 981)).capWatts <
        (onPwr (fun x => { x with eSteps := 3, outOf := Vector.replicate 16 8 }) (capped 981)).meanPower ∧
      8 ≤ (onPwr (fun x => { x with eSteps := 3, outOf := Vector.replicate 16 8 }) (capped 981)).eclkTarget ∧
      ∀ i : SliceId, (onPwr (fun x => { x with eSteps := 3, outOf := Vector.replicate 16 8 }) (capped 981)).mayGate i = false) ∧
    ((capped 450).meanPower ≤ (capped 450).capWatts ∧ (capped 450).pwr.thermLimit = false ∧ (onPwr (fun x => { x with below := 99 }) (capped 450)).pwr.below < 100) ∧
    (100 ≤ (onPwr (fun x => { x with below := 100, eSteps := 1 }) (capped 450)).pwr.below ∧ (onPwr (fun x => { x with below := 100, eSteps := 1 }) (capped 450)).coreSteps = 0 ∧
      0 < (onPwr (fun x => { x with below := 100, eSteps := 1 }) (capped 450)).pwr.eSteps) := by decide +kernel

/-- A device without a partner. -/
def solo : State := onPair (fun x => { x with role := 7 }) world
def asleep (n : Nat) : State := onPwr (fun x => { x with trans := some n }) solo

theorem witness_PowerStatesChange :
    (world.su.held = false ∧ world.pwr.st = 0 ∧ world.su.service = true ∧ world.coresRun = false ∧ (withCore ⟨2, none, 0, true⟩ world).coresRun = true) ∧
    ((onPwr (fun x => { x with st := 1 }) (world.setReg .PWR_TIMERS 0 0x10000)).pwr.st < 2 ∧
      (onPwr (fun x => { x with st := 1 }) (world.setReg .PWR_TIMERS 0 0x10000)).rfld .PWR_TIMERS 0 31 16 ≠ 0) ∧
    (solo.isBusy .PWR_CMD_RESULT 0 = false ∧ solo.pair.role = 7 ∧ solo.liveTasks = 0 ∧ solo.unitBusy = false ∧ solo.pwr.pfPhase = 0 ∧ solo.su.drain = none ∧
      solo.coresRun = false ∧ (onPwr (fun x => { x with st := 2 }) solo).pwr.st ≤ 2 ∧ readyTask.liveTasks ≠ 0 ∧ (onPwr (fun x => { x with st := 3 }) solo).pwr.st = 3) ∧
    ((asleep 3).pwr.trans = some 3 ∧ (asleep 4).pwr.trans = some 4 ∧ (asleep 3).isDrained = true ∧ (asleep 3).tier.ckpts = [] ∧
      (onPwr (fun x => { x with trans := some 3 }) busily).isDrained = false) := by decide +kernel


/-! A blank that start-up accepts -/

/-- Bytes as configuration flash holds them from an address. -/
def flashOf : Nat → Bytes → Sparse Byte
  | _, [] => []
  | i, x :: xs => (i, x) :: flashOf (i + 1) xs

theorem flashOf_find (b : Bytes) (i k : Nat) : (flashOf i b).find (i + k) = b[k]? := by
  induction b generalizing i k with
  | nil => rfl
  | cons x xs ih =>
    cases k with
    | zero => simp [flashOf, Sparse.find]
    | succ k =>
      have h := ih (i + 1) k
      rw [show i + 1 + k = i + (k + 1) by omega] at h
      simpa [flashOf, Sparse.find] using h

theorem flashRead_flashOf (b : Bytes) (off n : Nat) (h : off + n ≤ b.length) : flashRead (flashOf 0 b) off n = cut b off n := by
  induction n generalizing off with
  | zero => simp [flashRead, cut]
  | succ n ih =>
    have hx := flashOf_find b 0 off
    rw [Nat.zero_add] at hx
    have hl : off < b.length := by omega
    rw [flashRead, ih (off + 1) (by omega), Sparse.get, hx, List.getElem?_eq_getElem hl]
    simp only [cut, Option.getD_some]
    rw [List.drop_eq_getElem_cons hl, List.take_succ_cons]

/-- A record as the blank holds it (R402). -/
def recHead (r : Rec) : Bytes := toLe 2 r.typ ++ toLe 2 r.inst ++ toLe 4 r.data.length ++ zeros 4
def encRec (r : Rec) : Bytes :=
  recHead r ++ toLe 4 (crc32c (recHead r ++ r.data)) ++ (r.data ++ zeros (16 * cdiv r.data.length 16 - r.data.length))

def inOrder : Nat → List Rec → Prop
  | _, [] => True
  | last, r :: rs => last < r.typ * 65536 + r.inst + 1 ∧ r.typ < 65536 ∧ r.inst < 65536 ∧ r.data.length < 2 ^ 32 ∧
      (∃ k, instances r.typ = some k ∧ r.inst < k) ∧ inOrder (r.typ * 65536 + r.inst + 1) rs

theorem crcBit_lt (v : Nat) (h : v < 2 ^ 32) : crcBit 0x82F63B78 v < 2 ^ 32 := by
  unfold crcBit
  split
  · exact Nat.xor_lt_two_pow (by omega) (by omega)
  · omega

theorem crcByte_lt (v : Nat) (b : Byte) (h : v < 2 ^ 32) : crcByte 0x82F63B78 v b < 2 ^ 32 := by
  have hf : ∀ (l : List Nat) (x : Nat), x < 2 ^ 32 → l.foldl (fun x _ => crcBit 0x82F63B78 x) x < 2 ^ 32 := by
    intro l
    induction l with
    | nil => exact fun x hx => hx
    | cons a l ih => exact fun x hx => ih _ (crcBit_lt x hx)
  exact hf _ _ (Nat.xor_lt_two_pow h (by omega))

theorem crc32c_lt (b : Bytes) : crc32c b < 2 ^ 32 := by
  have hf : ∀ (b : Bytes) (v : Nat), v < 2 ^ 32 → b.foldl (crcByte 0x82F63B78) v < 2 ^ 32 := by
    intro b
    induction b with
    | nil => exact fun v hv => hv
    | cons x b ih => exact fun v hv => ih _ (crcByte_lt v x hv)
  exact Nat.xor_lt_two_pow (hf b _ (by omega)) (by omega)

theorem recHead_length (r : Rec) : (recHead r).length = 12 := by simp [recHead, toLe_two, toLe_four, zeros]

theorem leAt_four (x : Nat) (h : x < 2 ^ 32) : leNat (toLe 4 x) = x := by
  simp [toLe_four, leNat, byte]; omega

theorem cut_mid (pre x suf : Bytes) : cut (pre ++ (x ++ suf)) pre.length x.length = x := by simp [cut]

theorem cdiv_le (n : Nat) : n ≤ 16 * cdiv n 16 := by unfold cdiv; omega

theorem encRec_length (r : Rec) : (encRec r).length = 16 + 16 * cdiv r.data.length 16 := by
  have h := cdiv_le r.data.length
  simp [encRec, recHead_length, toLe_four, zeros]; omega

theorem readRecs_enc (rs : List Rec) (pre suf : Bytes) (last : Nat) (h : inOrder last rs) :
    readRecs (flashOf 0 (pre ++ (rs.flatMap encRec ++ suf))) (pre.length + (rs.flatMap encRec).length) rs.length pre.length last =
      some (rs.map fun r => (r, true)) := by
  induction rs generalizing pre last with
  | nil => simp [readRecs]
  | cons r rs ih =>
    obtain ⟨h1, h2, h3, h4, ⟨k, h5, h6⟩, h7⟩ := h
    have hb : pre ++ ((r :: rs).flatMap encRec ++ suf) = pre ++ (encRec r ++ (rs.flatMap encRec ++ suf)) := by simp
    have hlen : (pre ++ (encRec r ++ (rs.flatMap encRec ++ suf))).length = pre.length + 16 + 16 * cdiv r.data.length 16 + (rs.flatMap encRec ++ suf).length := by
      simp [encRec_length]; omega
    have hle := cdiv_le r.data.length
    have hcrc : (toLe 4 (crc32c (recHead r ++ r.data))).length = 4 := by simp [toLe_four]
    have hhead : flashRead (flashOf 0 (pre ++ (encRec r ++ (rs.flatMap encRec ++ suf)))) pre.length 16 = recHead r ++ toLe 4 (crc32c (recHead r ++ r.data)) := by
      rw [flashRead_flashOf _ _ _ (by omega)]
      have := cut_mid pre (recHead r ++ toLe 4 (crc32c (recHead r ++ r.data)))
        ((r.data ++ zeros (16 * cdiv r.data.length 16 - r.data.length)) ++ (rs.flatMap encRec ++ suf))
      rw [List.length_append, recHead_length, hcrc] at this
      simpa [encRec] using this
    have hdata : flashRead (flashOf 0 (pre ++ (encRec r ++ (rs.flatMap encRec ++ suf)))) (pre.length + 16) r.data.length = r.data := by
      rw [flashRead_flashOf _ _ _ (by omega)]
      have := cut_mid (pre ++ (recHead r ++ toLe 4 (crc32c (recHead r ++ r.data)))) r.data
        (zeros (16 * cdiv r.data.length 16 - r.data.length) ++ (rs.flatMap encRec ++ suf))
      rw [List.length_append, List.length_append, recHead_length, hcrc] at this
      simpa [encRec] using this
    have g1 : leAt (recHead r ++ toLe 4 (crc32c (recHead r ++ r.data))) 0 2 = r.typ := by
      simp [leAt, cut, recHead, toLe_two, toLe_four, leNat, byte]; omega
    have g2 : leAt (recHead r ++ toLe 4 (crc32c (recHead r ++ r.data))) 2 2 = r.inst := by
      simp [leAt, cut, recHead, toLe_two, toLe_four, leNat, byte]; omega
    have g3 : leAt (recHead r ++ toLe 4 (crc32c (recHead r ++ r.data))) 4 4 = r.data.length := by
      simp [leAt, cut, recHead, toLe_two, toLe_four, leNat, byte]; omega
    have g4 : leAt (recHead r ++ toLe 4 (crc32c (recHead r ++ r.data))) 8 4 = 0 := by
      simp [leAt, cut, recHead, toLe_two, toLe_four, leNat, zeros]
    have g5 : leAt (recHead r ++ toLe 4 (crc32c (recHead r ++ r.data))) 12 4 = crc32c (recHead r ++ r.data) := by
      have : (recHead r ++ toLe 4 (crc32c (recHead r ++ r.data))).drop 12 = toLe 4 (crc32c (recHead r ++ r.data)) := by
        rw [List.drop_append_of_le_length (by rw [recHead_length])]
        rw [show (recHead r).drop 12 = [] by rw [← recHead_length r]; exact List.drop_length]; rfl
      rw [leAt, cut, this, List.take_of_length_le (by rw [hcrc])]
      exact leAt_four _ (crc32c_lt _)
    have g6 : (recHead r ++ toLe 4 (crc32c (recHead r ++ r.data))).take 12 = recHead r := by
      rw [← recHead_length r]; exact List.take_left
    have hnext : pre.length + 16 + 16 * cdiv r.data.length 16 = (pre ++ encRec r).length := by simp [encRec_length]; omega
    have hstop : pre.length + ((r :: rs).flatMap encRec).length = (pre ++ encRec r).length + (rs.flatMap encRec).length := by simp; omega
    rw [hb, List.length_cons, readRecs, hhead]
    simp only [g1, g2, g3, g4, g5, g6, h5, hdata, hnext, hstop]
    rw [if_neg (by simp; omega), if_neg (by omega)]
    have hih := ih (pre ++ encRec r) _ h7
    rw [List.append_assoc] at hih
    rw [hih]
    simp


/-- The device's serial number and its owner's key. -/
def serialOf : Bytes := State.reset.hw.serial
def ownerRow : Bytes := 4 :: zeros 151
def fwRow (i : Nat) : Bytes := [byte i, 1, 0, 0] ++ zeros 4 ++ sha384 [] ++ zeros 96
def policyData : Bytes := [0x01, 0] ++ toLe 2 100 ++ (0x10 :: zeros 7) ++ zeros 8 ++ zeros 108 ++ zeros 48 ++ [4, 0] ++ toLe 2 900
def routeOf (table : Bytes) : Rec := ⟨12, 0, (toLe 4 7 ++ toLe 2 1 ++ zeros 10) ++ table⟩
def otherRecs : List Rec :=
  [⟨1, 0, ownerRow⟩, ⟨2, 0, []⟩, ⟨5, 0, fwRow 0⟩, ⟨5, 1, fwRow 1⟩, ⟨5, 2, fwRow 2⟩, ⟨5, 3, fwRow 3⟩, ⟨5, 4, fwRow 4⟩, ⟨6, 0, policyData⟩, ⟨7, 0, zeros 8⟩]
/-- The records of a blank that holds what R406 requires and no more. -/
def blankRecs (table : Bytes) : List Rec := otherRecs ++ [routeOf table]
def blankHead : Bytes :=
  toLe 4 0xD0B0B1A0 ++ toLe 2 1 ++ toLe 2 10 ++ toLe 4 525792 ++ toLe 4 2 ++ toLe 4 1 ++ zeros 12 ++ serialOf ++ zeros 16
def blankOf (table : Bytes) : Sparse Byte := flashOf 0 (blankHead ++ ((blankRecs table).flatMap encRec ++ zeros 96))
def blankSigs : List SigRef := [(1, 0, 0), (1, 5, 0), (1, 5, 1), (1, 5, 2), (1, 5, 3), (1, 5, 4)]
def ownerDig : Bytes := sha384 (cut ownerRow 0 97)
/-- Copy B holds that blank, and its owner's key is known. -/
def withBlank (table : Bytes) (s : State) : State := { s with blank := { s.blank with b := blankOf table }, hw := { s.hw with ownerDig := ownerDig } }
def blankHdr : BlankHdr := ⟨10, 525792, 2, 1, serialOf, 0⟩

theorem routeFail_zeros (up : Nat → Bool) (hu : routeBad up 0 = false) (n i : Nat) : routeFail up n i (List.replicate (8 * n) 0) = none := by
  induction n generalizing i with
  | zero => rfl
  | succ n ih =>
    have h1 : leAt (List.replicate (8 * (n + 1)) (0 : Byte)) 0 8 = 0 := by
      have : 8 * (n + 1) = 8 * n + 8 := by omega
      rw [this]; simp [leAt, cut, List.replicate_succ, leNat]
    have h2 : (List.replicate (8 * (n + 1)) (0 : Byte)).drop 8 = List.replicate (8 * n) 0 := by rw [List.drop_replicate]; congr 1
    rw [routeFail, h1, h2, hu]
    exact ih _

/-- No port of an all-zero entry is an UP link where no LINK record stands. -/
theorem routeBad_zero : routeBad (fun _ => false) 0 = false := by decide +kernel

theorem linkIsUp_blank (table : Bytes) : linkIsUp (blankRecs table) = fun _ => false := by
  funext p
  have : ∀ r ∈ blankRecs table, (r.typ = 11 && r.inst = p) = false := by simp [blankRecs, otherRecs, routeOf]
  rw [linkIsUp, recIn, List.find?_eq_none.mpr (fun r hr => by simp [this r hr])]
  rfl

theorem recBad_any (l m : List Rec) (st : Nat) (r : Rec) (h : r.typ ≠ 12) : recBad l st r = recBad m st r := by
  unfold recBad
  split <;> first | rfl | exact absurd (by assumption) h

theorem otherRecs_good : ∀ r ∈ otherRecs, recBad [] 0 r = false ∧ r.typ ≠ 12 := by decide +kernel

theorem routeOf_good (table : Bytes) (hl : table.length = 524288) (hr : routeFail (fun _ => false) 65536 0 table = none) :
    recBad (blankRecs table) 0 (routeOf table) = false := by
  have e4 : leAt (routeOf table).data 4 2 = 1 := rfl
  have e6 : leAt (routeOf table).data 6 2 = 0 := rfl
  have et : tableAt (routeOf table).data = table := by
    rw [tableAt, e6]; exact List.drop_left' (by decide)
  rw [recBad]
  simp only [routeOf] at e4 e6 et
  rw [linkIsUp_blank]
  simp only [routeOf, e4, e6, et, hl, hr]
  decide

theorem blank_length (table : Bytes) (hl : table.length = 524288) : blankHead.length = 64 ∧ ((blankRecs table).flatMap encRec).length = 525632 := by
  have h1 : (otherRecs.flatMap encRec).length = 1312 := by
    have : ∀ l : List Rec, (l.flatMap encRec).length = (l.map fun r => 16 + 16 * cdiv r.data.length 16).sum := by
      intro l; induction l with
      | nil => rfl
      | cons r l ih => simp [encRec_length, ih]
    rw [this]; decide +kernel
  have h2 : (routeOf table).data.length = 524304 := by simp [routeOf, hl, toLe_two, toLe_four, zeros]
  refine ⟨by decide +kernel, ?_⟩
  rw [blankRecs, List.flatMap_append, List.length_append, h1]
  simp [encRec_length, h2, cdiv]

theorem blank_inOrder (table : Bytes) (hl : table.length = 524288) : inOrder 0 (blankRecs table) := by
  have h2 : (routeOf table).data.length < 2 ^ 32 := by simp [routeOf, hl, toLe_two, toLe_four, zeros]
  have h3 : ∀ r ∈ otherRecs, r.data.length < 2 ^ 32 := by decide +kernel
  simp only [otherRecs, List.mem_cons, List.not_mem_nil, or_false, forall_eq_or_imp, forall_eq] at h3
  obtain ⟨a1, a2, a3, a4, a5, a6, a7, a8, a9⟩ := h3
  simp only [blankRecs, otherRecs, List.cons_append, List.nil_append, inOrder]
  refine ⟨by omega, by omega, by omega, a1, ⟨_, rfl, by omega⟩, by omega, by omega, by omega, a2, ⟨_, rfl, by omega⟩, by omega, by omega, by omega, a3, ⟨_, rfl, by omega⟩,
    by omega, by omega, by omega, a4, ⟨_, rfl, by omega⟩, by omega, by omega, by omega, a5, ⟨_, rfl, by omega⟩, by omega, by omega, by omega, a6, ⟨_, rfl, by omega⟩,
    by omega, by omega, by omega, a7, ⟨_, rfl, by omega⟩, by omega, by omega, by omega, a8, ⟨_, rfl, by omega⟩, by omega, by omega, by omega, a9, ⟨_, rfl, by omega⟩,
    by simp [routeOf], by simp [routeOf], by simp [routeOf], h2, ⟨1, rfl, by simp [routeOf]⟩, trivial⟩

theorem blank_reads (table : Bytes) (hl : table.length = 524288) :
    readHdr (flashRead (blankOf table) 0 64) = some blankHdr ∧
    readRecs (blankOf table) (525792 - 96) 10 64 0 = some ((blankRecs table).map fun r => (r, true)) := by
  obtain ⟨h1, h2⟩ := blank_length table hl
  constructor
  · rw [blankOf, flashRead_flashOf _ _ _ (by simp [h1])]
    rw [show cut (blankHead ++ ((blankRecs table).flatMap encRec ++ zeros 96)) 0 64 = blankHead by
      rw [cut, List.drop_zero, ← h1]; exact List.take_left]
    decide +kernel
  · have h := readRecs_enc (blankRecs table) blankHead (zeros 96) 0 (blank_inOrder table hl)
    rw [h1, h2] at h
    exact h

theorem recIn_owner (table : Bytes) : recIn (blankRecs table) 1 0 = some ownerRow := rfl

theorem checkCopy_blank (table : Bytes) (hl : table.length = 524288) (hr : routeFail (fun _ => false) 65536 0 table = none) (s : State) (claim : Bool)
    (h1 : s.hw.minSeq.toNat ≤ 2) (h2 : s.hw.fuse = 0) (h3 : s.hw.serial = serialOf) :
    checkCopy (withBlank table s) 1 true blankSigs claim = .inr (blankHdr, blankRecs table) := by
  obtain ⟨hh, hrs⟩ := blank_reads table hl
  have hc : (withBlank table s).copy 1 = blankOf table := rfl
  have hw : (withBlank table s).hw.ownerDig = ownerDig ∧ (withBlank table s).hw.serial = serialOf ∧ (withBlank table s).hw.fuse = 0 ∧
      (withBlank table s).hw.minSeq = s.hw.minSeq := ⟨rfl, h3, h2, rfl⟩
  obtain ⟨w1, w2, w3, w4⟩ := hw
  have hz : allZero ownerDig = false := by decide +kernel
  have hgood : firstIdx (fun r : Rec × Bool => !r.2) ((blankRecs table).map fun r => (r, true)) = none := by
    rw [firstIdx, List.findIdx?_eq_none_iff]; simp
  have hfst : ((blankRecs table).map fun r => (r, true)).map Prod.fst = blankRecs table := by
    rw [List.map_map]; exact List.map_id _
  have hreq : (required.all fun k => (recIn (blankRecs table) k.1 k.2).isSome) = true := rfl
  have hfw : firstIdx (fwBad 1 blankSigs 0) (blankRecs table) = none := by
    rw [firstIdx, List.findIdx?_eq_none_iff]
    intro r hr
    rcases List.mem_append.mp hr with h | h
    · have : ∀ r ∈ otherRecs, fwBad 1 blankSigs 0 r = false := by decide +kernel
      exact this r h
    · rw [List.mem_singleton.mp h]; rfl
  have hbad : firstIdx (recBad (blankRecs table) 0) (blankRecs table) = none := by
    rw [firstIdx, List.findIdx?_eq_none_iff]
    intro r hx
    rcases List.mem_append.mp hx with h | h
    · rw [recBad_any _ [] _ _ (otherRecs_good r h).2, (otherRecs_good r h).1]
    · rw [List.mem_singleton.mp h]; exact routeOf_good table hl hr
  rw [checkCopy, hc]
  simp only [hh, Bool.not_true, Bool.false_eq_true, if_false]
  rw [show blankHdr.total = 525792 from rfl, show blankHdr.nRec = 10 from rfl, hrs]
  simp only [hgood, hfst, recIn_owner, w1, w2, w3, w4, hz, hreq]
  rw [show blankHdr.stack = 0 from rfl, hfw]
  simp only [hbad]
  have g : ¬(blankHdr.seq < s.hw.minSeq.toNat ∨ blankHdr.seq < blankHdr.floor) := by simp [blankHdr]; omega
  have g2 : blankSigs.contains (1, 0, 0) = true := by decide
  have g3 : sha384 (cut ownerRow 0 97) = ownerDig := rfl
  rw [if_neg (by rw [g2]; decide), if_neg (by simp [g3]), if_neg (by simp [blankHdr]), if_neg g, if_neg (by simp)]

/-- A route table whose entries are all unreachable. -/
def emptyTable : Bytes := List.replicate (8 * 65536) 0
theorem emptyTable_ok : emptyTable.length = 524288 ∧ routeFail (fun _ => false) 65536 0 emptyTable = none :=
  ⟨List.length_replicate .., routeFail_zeros _ routeBad_zero _ _⟩

/-! Start-up, blanks, job boundaries, time and debug -/

def starting (run : List Nat) (f : SuSt → SuSt) : State :=
  onSu (fun x => f { x with running := run, doneSteps := List.range' 1 (run.headD 1 - 1), step := run.headD 1 - 1, service := false, locked := false })
    { world with clk := { world.clk with refStable := true, rootLock := true }, pin := { world.pin with pwrfailN := true }, hw := { world.hw with pufOk := true } }
def hostedRun (run : List Nat) : State := starting run fun x => { x with hosted := true }

theorem witness_StartupStepsRun :
    (world.su.held = false ∧ world.su.running = []) ∧
    (∀ n : Nat, n ∈ [1, 4, 5, 6, 7, 8, 9, 10, 11] → (hostedRun [n]).su.held = false ∧ (hostedRun [n]).su.running = [n] ∧ (hostedRun [n]).autonomous = false) ∧
    ((hostedRun [1]).clk.refStable = true ∧ (hostedRun [1]).pin.pwrfailN = true ∧ (hostedRun [1]).hw.pufOk = true ∧ (hostedRun [4]).clk.rootLock = true ∧
      (hostedRun [6]).kcoreEn = false ∧ 24 ≤ (starting [6] fun x => { x with wave := 24 }).su.wave ∧ (∀ c : ChanId, (hostedRun [7]).chanSt c.val ≠ 1) ∧
      (∀ c : CarrierId, ((hostedRun [8]).car c).st ≠ 2)) ∧
    (∀ l : List Nat, l ∈ [[1], [4], [5], [7, 8], [8], [9], [10]] → (starting l id).autonomous = true ∧ (starting l id).su.wake = false ∧ (starting l id).su.running = l) ∧
    ((starting [4] fun x => { x with pllTries := 1 }).su.pllTries < 2 ∧ 2 ≤ (starting [4] fun x => { x with pllTries := 2 }).su.pllTries ∧
      (starting [4] fun x => { x with pllTries := 2 }).su.running = [4]) ∧
    ((enabled (starting [7, 8] fun x => { x with doneSteps := [6], wave := 23 })).su.wave < 24 ∧
      (enabled (starting [7, 8] fun x => { x with doneSteps := [6], wave := 23 })).kcoreEn = true ∧
      6 ∈ (enabled (starting [7, 8] fun x => { x with doneSteps := [6], wave := 23 })).su.doneSteps ∧
      (enabled (starting [7, 8] fun x => { x with doneSteps := [6], wave := 23 })).pwr.st < 2) := by
  decide +kernel

theorem witness_HostedStartupByCommand :
    ((starting [12] id).su.held = false ∧ (starting [12] id).su.running = [12] ∧ (starting [12] id).su.wake = false ∧
      (onPair (fun x => { x with role := 7 }) (starting [12] id)).pair.role = 7 ∧ (onPair (fun x => { x with role := 2 }) (starting [12] id)).pair.role = 2) ∧
    ((onSu (fun x => { x with running := [], step := 11 }) (hostedRun [12])).isBusy .SU_CMD_RESULT 0 = false ∧
      (onSu (fun x => { x with running := [], step := 11 }) (hostedRun [12])).autonomous = false ∧
      (12 : BitVec 4).toNat = (onSu (fun x => { x with running := [], step := 11 }) (hostedRun [12])).su.step + 1 ∧ (12 : BitVec 4).toNat ≠ 6 ∧
      (3 : BitVec 4).toNat ≠ (onSu (fun x => { x with running := [], step := 11 }) (hostedRun [12])).su.step + 1) ∧
    ((onSu (fun x => { x with running := [], failed := true, failStep := 4 }) (hostedRun [4])).su.failed = true ∧
      (4 : BitVec 4).toNat = (onSu (fun x => { x with running := [], failed := true, failStep := 4 }) (hostedRun [4])).su.failStep ∧ (hostedRun [4]).su.failed = false) ∧
    ((starting [] id).isBusy .SU_CMD_RESULT 0 = false ∧ (starting [] id).autonomous = true) := by decide +kernel

/-- A device whose copy B holds the blank above. -/
def blanked (f : BlankSt → BlankSt) (s : State) : State := withBlank emptyTable { s with blank := f s.blank }
def unclaimed : State := { blanked (fun x => { x with staged := true }) (hostedRun [2]) with hw := { world.hw with ownerDig := zeros 48 } }

theorem blanked_valid (f : BlankSt → BlankSt) (s : State) (claim : Bool) (h1 : s.hw.minSeq.toNat ≤ 2) (h2 : s.hw.fuse = 0) (h3 : s.hw.serial = serialOf) :
    checkCopy (blanked f s) 1 true blankSigs claim = .inr (blankHdr, blankRecs emptyTable) :=
  checkCopy_blank _ emptyTable_ok.1 emptyTable_ok.2 _ claim h1 h2 h3

theorem blanked_recs (s : State) (h : s.blank.b = blankOf emptyTable) : s.copyRecs 1 = some (blankHdr, blankRecs emptyTable) := by
  obtain ⟨h1, h2⟩ := blank_reads emptyTable emptyTable_ok.1
  have hc : s.copy 1 = blankOf emptyTable := h
  rw [State.copyRecs, hc, h1]
  simp only
  rw [show blankHdr.total = 525792 from rfl, show blankHdr.nRec = 10 from rfl, h2, Option.map_some, List.map_map]
  rw [show (Prod.fst ∘ fun r : Rec => (r, true)) = id from rfl, List.map_id]

def putPage (off : Nat) : MgtMsg := ⟨0x41, 0, 9, [0x3F, 0, 0, 0] ++ toLe 4 off ++ zeros 256⟩

theorem witness_BlanksAreStagedAndJudged :
    ((blanked id (starting [2] id)).su.held = false ∧ (blanked id (starting [2] id)).su.running = [2]) ∧
    (checkCopy (blanked id (starting [2] id)) 1 ((2 : BitVec 2).toNat.testBit 1) blankSigs false = .inr (blankHdr, blankRecs emptyTable) ∧
      ∃ l, tryOrder (blanked id (starting [2] id)) 2 = 1 :: l) ∧
    (world.isBusy .BLK_CMD_RESULT 0 = false ∧ world.blank.bstate < 2 ∧ 2 ≤ (blanked (fun x => { x with bstate := 2 }) world).blank.bstate ∧
      (blanked (fun x => { x with bstate := 1 }) world).blank.bstate = 1 ∧ (blanked (fun x => { x with bstate := 1 }) world).spareCopy = 1) ∧
    (checkCopy (blanked (fun x => { x with bstate := 1 }) world) 1 false blankSigs false = .inl (1, 0)) ∧
    (checkCopy (blanked (fun x => { x with bstate := 1 }) world) 1 true blankSigs world.su.hosted = .inr (blankHdr, blankRecs emptyTable) ∧
      (blanked (fun x => { x with bstate := 1, seq := 2 }) world).blank.inUse = true ∧ blankHdr.seq ≤ (blanked (fun x => { x with bstate := 1, seq := 2 }) world).blank.seq.toNat ∧
      world.blank.seq.toNat < blankHdr.seq ∧ recIn (blankRecs emptyTable) 8 0 = none ∧ world.partChanges [] = false) ∧
    (unclaimed.su.hosted = true ∧ allZero unclaimed.hw.ownerDig = true ∧ unclaimed.blank.staged = true ∧ unclaimed.spareCopy = 1 ∧
      unclaimed.copyRecs 1 = some (blankHdr, blankRecs emptyTable) ∧ (nvWrite 25 unclaimed).1 = true) ∧
    (world.mayPut 0x43 = false ∧ world.mayPut (putPage 0).src = true ∧ leAt (putPage 0).payload 1 3 = 0 ∧ (putPage 0).payload.length = 264 ∧
      leAt (putPage 0).payload 0 1 = 0x3F ∧ leAt (putPage 0).payload 4 4 = (blanked (fun x => { x with bstate := 1 }) world).blank.stageOff ∧
      leAt (putPage 256).payload 4 4 ≠ (blanked (fun x => { x with bstate := 1 }) world).blank.stageOff) ∧
    (({ world with mbx := { world.mbx with puts := [(1, 256, 0x41, 9)] } } : State).mbx.puts.find? fun x => x.1 = 1 && x.2.1 = w32 (leAt (toLe 4 256) 0 4)) =
      some (1, 256, 0x41, 9) := by
  refine ⟨by decide +kernel, ⟨blanked_valid id _ false (by decide +kernel) (by decide +kernel) (by decide +kernel), ⟨[0], ?_⟩⟩, by decide +kernel, by decide +kernel,
    ⟨blanked_valid _ world _ (by decide +kernel) (by decide +kernel) (by decide +kernel), by decide +kernel, by decide +kernel, by decide +kernel, rfl, by decide +kernel⟩,
    ⟨by decide +kernel, by decide +kernel, by decide +kernel, by decide +kernel, blanked_recs _ rfl, by decide +kernel⟩, by decide +kernel, by decide +kernel⟩
  have h0 : (2 : BitVec 2).toNat.testBit 0 = false := by decide
  have h1 : (2 : BitVec 2).toNat.testBit 1 = true := by decide
  rw [tryOrder, h0, h1]
  rfl

/-- A member with a staged blank that is the successor of the one in use. -/
def member (f : BlankSt → BlankSt) : State := blanked (fun x => f { x with staged := true }) world
def emptied : State := { member id with rgn := { world.rgn with tab := [] } }
def armedAt (t : Nat) (s : State) : State := { s with job := { s.job with armed := some t, from_ := some (1, 5) } }

theorem witness_JobBoundariesApply :
    (world.su.held = false ∧ world.classOf da.iss = .da ∧ world.head.head = true ∧ world.job.head = none ∧ world.blank.bstate < 2 ∧ world.ptValid = true ∧
      world.pairGap = false ∧ ({ world with time := { world.time with src := 0 } } : State).ptValid = false ∧ pair7.head.head = false) ∧
    (world.isDevice dev1.src = true ∧ world.closedHint = none ∧ world.coord.acked = [] ∧ world.coord.fwdOpen = [] ∧ world.job.armed = none ∧ world.blank.bstate ≠ 3 ∧
      world.blank.staged = false) ∧
    (emptied.job.armed = none ∧ emptied.blank.bstate ≠ 3 ∧ emptied.blank.staged = true ∧ emptied.spareCopy = 1 ∧
      emptied.copyRecs 1 = some (blankHdr, blankRecs emptyTable) ∧ emptied.blank.seq.toNat < blankHdr.seq ∧ recIn (blankRecs emptyTable) 8 0 = none ∧ emptied.partChanges (zeros 16) = false ∧
      ∀ t ∈ emptied.released (zeros 16), emptied.mayRelease t = true) ∧
    ((blanked (fun x => { x with bstate := 2 }) world).blank.bstate = 2 ∧ world.ptNs < (w64 (world.ptNs + 1)).toNat ∧ world.blank.bstate ≠ 2) ∧
    ((armedAt 7 world).job.armed = some 7 ∧ (armedAt 7 world).job.from_ = some (1, 5) ∧ (armedAt 7 world).job.late = false ∧ (armedAt 7 world).blank.staged = false ∧
      (armedAt 7 (member id)).blank.staged = true) := by
  refine ⟨by decide +kernel, by decide +kernel, ⟨by decide +kernel, by decide +kernel, by decide +kernel, by decide +kernel, blanked_recs _ rfl,
    by decide +kernel, rfl, by decide +kernel⟩, by decide +kernel, by decide +kernel⟩


/-! Time, debug, observability, registers and command blocks -/

def onTime (f : TimeSt → TimeSt) (s : State) : State := { s with time := f s.time }
def onObs (f : ObsSt → ObsSt) (s : State) : State := { s with obs := f s.obs }

theorem witness_PoolTimeFollowsItsSource :
    (world.su.held = false ∧ world.head.head = true ∧ pair7.head.head = false) ∧
    (onTime (fun x => { x with xch := some ⟨1, 2, 3, 4⟩ }) world).time.xch = some ⟨1, 2, 3, 4⟩ ∧
    ((onTime (fun x => { x with src := 2 }) world).time.src = 2 ∧ (onTime (fun x => { x with src := 2 }) world).time.holdAt = none ∧
      (onTime (fun x => { x with src := 2, holdAt := some 6 }) world).time.holdAt = some 6 ∧ (onTime (fun x => { x with src := 3 }) world).time.src = 3) ∧
    ((world.setReg .PTP_CFG 0 0x1FF).rfld .PTP_CFG 0 8 8 = 1 ∧ (world.setReg .PTP_CFG 0 0x1FF).rfld .PTP_CFG 0 7 0 = (255 : Byte).toNat) ∧
    (world.isBusy .RTC_CMD_RESULT 0 = false ∧ world.time.src < 2 ∧ (onTime (fun x => { x with stDate := 0x07EF021C, stTime := 0x173B3B }) world).staged.valid = true ∧
      (onTime (fun x => { x with stDate := 0x07EF021D }) world).staged.valid = false) := by decide +kernel

def aNonce : Nonce := ⟨10 ^ 9, List.replicate 32 5⟩
/-- The policy names the digest of the key that the debug window holds (all zero); a challenge is open. -/
def challenged (f : State → State) : State :=
  onObs (fun x => { x with nonce := some aNonce, fails := 7 })
    (f { world with blank := { world.blank with live := ⟨6, 0, zeros 0x80 ++ sha384 (zeros 97) ++ [4, 0] ++ toLe 2 900⟩ :: world.blank.live } })
def unused (s : State) : State := { s with slices := s.slices.map fun x => { x with st := 0 } }

theorem witness_DebugOpensByChallenge :
    ((challenged id).su.held = false ∧ (challenged id).isBusy .DBG_CMD_RESULT 0 = false ∧ (challenged id).obs.nonce = some aNonce) ∧
    (allZero (cut State.reset.policy 0x80 48) = true ∧ State.reset.su.held = false ∧ State.reset.isBusy .DBG_CMD_RESULT 0 = false) ∧
    (allZero (cut (challenged id).policy 0x80 48) = false ∧ (challenged id).obs.fails < 8 ∧ 8 ≤ (onObs (fun x => { x with fails := 8 }) (challenged id)).obs.fails ∧
      (challenged id).time.nclk < aNonce.since + secs 60 ∧ (challenged id).busySlice = some 1) ∧
    ((challenged unused).busySlice = none ∧ sha384 (cut (challenged unused).dbgWin 0 97) = cut (challenged unused).policy 0x80 48) ∧
    (∀ i : Fin 7, (challenged id).obs.unlocked.testBit (traceSources.getD i.val 0) = false) := by decide +kernel

/-- The address of element i of a register of a block. -/
def mbxIn (i : Nat) : W32 := w32 (Blk.addr .SCHED 0 + 0x100 + 4 * i)
def pdTimer : W32 := w32 (Blk.addr .DDR 15 + Reg.PD_TIMER.info.off)

theorem witness_CountersAndEvents :
    (world.su.held = false ∧ world.isBusy .CNT_CMD_RESULT 0 = false ∧ world.classOf ta.iss = .ta 1 ∧ world.cntPerm.testBit 1 = true ∧ owned.cntPerm.testBit 1 = false ∧
      owned.classOf ta.iss = .ta 1) ∧
    (world.classOf host.iss = .host 1 ∧ locate pdTimer.toNat = some ⟨.PD_TIMER, 15, false⟩ ∧ pdTimer.toNat % 4 = 0 ∧ Reg.PD_TIMER.info.blk ≠ .QCNT ∧
      Reg.PD_TIMER.high? = none ∧ world.opens 1 ⟨.PD_TIMER, 15, false⟩ = false ∧ world.opens 1 ⟨.PD_TIMER, 0, false⟩ = true ∧
      world.hidden 1 ⟨.PD_TIMER, 0, false⟩ = false ∧
      locate (Blk.addr .DDR 0 + Reg.PD_TIMER.info.off) = some ⟨.PD_TIMER, 0, false⟩) ∧
    (world.log.sec = world.time.nclk / secs 1 ∧ world.log.drop.length ≤ 4095 ∧ world.traceStop = false ∧ (world.setReg .TRC_CTL 0 0xF0).traced 7 = true) := by
  decide +kernel

/-- WATCH_SET's arguments: tensor 0 of program 3, its values outside −1 to 1. -/
def watchArgs (k : Nat) : Bytes := toLe 2 3 ++ toLe 2 0 ++ [byte k, 0, 0, 0] ++ toLe 4 0xBF800000 ++ toLe 4 0x3F800000 ++ toLe 8 0x1000 ++ toLe 4 4096
def dumped : State := onObs (fun x => { x with dump := some ⟨1, zeros 64⟩ }) world
def aWatch : Watch := ⟨3, 15, 0, false, 0xBF800000, 0x3F800000, 0x1000, 4096, 0⟩

theorem witness_DumpsAndWatches :
    (world.su.held = false ∧ world.isBusy .SHV_CMD_RESULT 0 = false ∧ world.tracePerm.testBit 16 = true ∧ world.obs.dump = none ∧
      dumped.obs.dump = some ⟨1, zeros 64⟩ ∧ (dumped.busy .SHV_CMD_RESULT 0).isBusy .SHV_CMD_RESULT 0 = true) ∧
    (loaded.classOf ta.iss = .ta 1 ∧ loaded.kcoreEn = true ∧ bit loaded.tracePerm 1 = true ∧
      ∀ k : Nat, k < 2 → ((watchArgs k).length = 28 ∧ leAt (watchArgs k) 4 1 ≤ 1 ∧ leAt (watchArgs k) 5 3 = 0 ∧ leAt (watchArgs k) 0x10 8 % 512 = 0 ∧
        leAt (watchArgs k) 0x18 4 ≠ 0 ∧ leAt (watchArgs k) 0x18 4 ≤ 4096 ∧ loaded.prog (leAt (watchArgs k) 0 2) = some ⟨0, 1, 0, progImage, 65536⟩ ∧
        watchOk (imageOf progImage) (leAt (watchArgs k) 2 2) (leAt (watchArgs k) 4 1 = 1) (leAt (watchArgs k) 8 4) (leAt (watchArgs k) 0xC 4) = true ∧
        ((List.range 16).find? fun i => !(loaded.obs.watches.any fun w => w.prog = leAt (watchArgs k) 0 2 && w.num = i)) = some 0)) ∧
    (bit (enabled owned).tracePerm 1 = false ∧ (enabled owned).prog (leAt (watchArgs 0) 0 2) = none ∧ (enabled owned).classOf ta.iss = .ta 1 ∧ (enabled owned).kcoreEn = true) ∧
    (aWatch ∈ (onObs (fun x => { x with watches := [aWatch] }) loaded).obs.watches ∧ aWatch.prog = (3#16).toNat ∧ aWatch.num = (15 : Byte).toNat) := by decide +kernel

theorem witness_RegisterAccesses :
    (world.su.held = false ∧ locate 0xFFFFFFFC = none ∧ world.su.locked = true) ∧
    (locate (mbxIn 47).toNat = some ⟨.MBX_IN, 47, false⟩ ∧ locate (mbxIn 0).toNat = some ⟨.MBX_IN, 0, false⟩) ∧
    (world.classOfEp 0x41 = .da ∧ world.closedHint = none ∧ (toLe 4 (mbxIn 47).toNat ++ toLe 4 0xFFFFFFFF).length = 8 ∧
      leAt (toLe 4 (mbxIn 47).toNat ++ toLe 4 0xFFFFFFFF) 0 4 = (mbxIn 47).toNat ∧ leAt (toLe 4 (mbxIn 47).toNat ++ toLe 4 0xFFFFFFFF) 4 4 = (0xFFFFFFFF : W32).toNat) ∧
    (locate (Blk.addr .HWD 0 + 4) = some ⟨.TAMPER_STAT, 0, false⟩ ∧ locate (Blk.addr .HWD 0 + 8) = some ⟨.TAMPER_CFG, 0, false⟩ ∧
      locate (Blk.addr .PWR 0 + 0xC) = some ⟨.PWR_CAP, 0, false⟩ ∧ locate (Blk.addr .RTC 0 + 0x20) = some ⟨.POOL_TIME_LO, 0, false⟩) ∧
    (({ world with latch := some (Blk.addr .RTC 0 + 0x24, 7) } : State).latch = some (Blk.addr .RTC 0 + 0x24, 7) ∧ world.latch = none ∧
      locate (Blk.addr .RTC 0 + 0x24) = some ⟨.POOL_TIME_HI, 0, false⟩) ∧
    (world.classOfEp 0x43 ≠ .da ∧ (toLe 4 (mbxIn 0).toNat).length = 4) := by decide +kernel

/-- A mailbox command without arguments, of the device's administrator. -/
def block (cmd seq : Nat) : Bytes := toLe 4 0x10000 ++ toLe 2 cmd ++ toLe 2 0 ++ toLe 4 seq ++ toLe 2 0 ++ [0, 0]
def mbx (cmd seq : Nat) : MgtMsg := ⟨0x41, 0, 9, block cmd seq⟩
def onMbx (f : MbxSt → MbxSt) : State := { world with mbx := f world.mbx }

theorem witness_CommandBlocksArrive :
    (((onMbx fun x => { x with replies := [(0x41, 6, []), (0x41, 5, zeros 16)] }).mbx.replies.find? fun e => e.1 = 0x41 && e.2.1 = w32 (leAt (mbx 0x409 5).payload 8 4)) =
      some (0x41, 5, zeros 16)) ∧
    (world.su.held = false ∧ world.mbx.replies = [] ∧ world.mbx.open_ = [] ∧ world.closedHint = none ∧
      4 ≤ ((onMbx fun x => { x with open_ := List.replicate 4 (0x41, 6, 0) }).mbx.open_.filter fun o => o.1 = 0x41).length ∧
      ((onMbx fun x => { x with open_ := List.replicate 4 (0x41, 6, 0) }).mbx.open_.any fun o => o.1 = 0x41 && o.2.1 = w32 (leAt (mbx 0x409 5).payload 8 4)) = false) ∧
    (∀ cmd : Nat, cmd = 0x409 ∨ cmd = 0x700 → leAt (mbx cmd 5).payload 0 4 = 0x10000 ∧ leAt (mbx cmd 5).payload 6 2 = 0 ∧ leAt (mbx cmd 5).payload 0xF 1 = 0 ∧
      leAt (mbx cmd 5).payload 4 2 = cmd ∧ world.classOfEp (mbx cmd 5).src = .da) ∧
    (let s := (world.setReg .MBX_IN 0 0x10000).setReg .MBX_IN 1 0x409
     let b := (List.range 48).flatMap fun i => toLe 4 (s.reg .MBX_IN i).toNat
     s.isBusy .MBX_STAT 0 = false ∧ leAt b 0 4 = 0x10000 ∧ leAt b 4 2 = 0x409 ∧ leAt b 6 2 = 0 ∧ leAt b 0xF 1 = 0 ∧ (s.busy .MBX_STAT 0).isBusy .MBX_STAT 0 = true) ∧
    (world.isDevice dev1.src = true ∧ world.coord.acked = [] ∧ world.coord.fwdOpen = [] ∧ (block 0x409 5).length = 16 ∧ world.classOfEp 0x41 = .da ∧ world.isDevice 0x41 = false ∧
      world.classOfEp 0x42 = .ta 1 ∧ world.isDevice 0x42 = false) ∧
    (7 < (8 : BitVec 5).toNat ∧ (15 : BitVec 5).toNat < 0x10 ∧ 0x1A < (27 : BitVec 5).toNat) := by
  refine ⟨by decide +kernel, by decide +kernel, ?_, by decide +kernel, by decide +kernel, by decide +kernel⟩
  rintro cmd (rfl | rfl) <;> decide +kernel


/-! Terms that are not commands of this hardware -/

def longReq : ReqMsg := { req 0 0 (zeros 193) with src := 0x42 }
def longMgt : MgtMsg := ⟨0x42, 0, 9, zeros 3553⟩
def longHost : HostMsg := ⟨2, 0x42, 9, 0, false, zeros 193⟩
def longFlit : Flit := ⟨0, zeros 225, true, true⟩
def queue8 : CmdHdr := { ta with queue := 8 }
def noStep : TrainReport := ⟨true, true, .rdimm, 2, 2, 16, 4, 2, 64, 9, 0, 0⟩

/-- Messages, flits and headers that are too long, or name what is not there. -/
theorem test_ill_formed_messages :
    longReq.wf = false ∧ longMgt.wf = false ∧ longHost.wf = false ∧ longFlit.wf = false ∧ queue8.wf = false ∧ noStep.wf = false ∧
    (⟨1, 0, false, 3, 7, [64, 64]⟩ : PeerConfig).wf = false ∧ (⟨1, 0, false, 3, 7, [64, 64, 64, 64, 64, 65536]⟩ : PeerConfig).wf = false ∧
    (⟨zeros 255, true, [2, 2, 2, 2]⟩ : CarrierReport).wf = false ∧ (⟨zeros 256, true, [2, 2, 2]⟩ : CarrierReport).wf = false ∧
    (⟨zeros 256, true, [3, 2, 2, 2]⟩ : CarrierReport).wf = false ∧ (⟨true, 0, 3, [(2, 0, 0)], 15⟩ : StepReport).wf = false ∧
    (⟨0, 0, 0⟩ : PageRead).wf = false ∧ (⟨6, 0, 0⟩ : PageRead).wf = false := by decide +kernel

theorem test_ill_formed_reports :
    (Instr.startupStepDone ⟨true, 0, 3, [(2, 0, 0)], 15⟩).wf = false ∧ (Instr.ddrTrainDone 0 noStep).wf = false ∧ (Instr.ddrRestoreDone 0 noStep).wf = false ∧
    (Instr.carrierDiscoveryDone 0 ⟨[], true, []⟩).wf = false ∧ (Instr.configFlit 0 ⟨1, 0, false, 3, 7, []⟩).wf = false ∧
    (Instr.retrainDone 0 ⟨1, 0, false, 3, 7, []⟩).wf = false ∧ (Instr.flashReadDone 0 ⟨0, 0, 0⟩).wf = false ∧ (Instr.retentionScan 0 0 ⟨6, 0, 0⟩).wf = false ∧
    (Instr.denseVerifyDone 0 0 0 0 [0]).wf = false ∧ (Instr.lineLockGranted (2 ^ 41)).wf = false ∧ (Instr.snoopTimeout 16384 0).wf = false ∧
    (Instr.ptabWriteAck 16384).wf = false ∧ (Instr.cmpBlockDone 0 (2 ^ 34)).wf = false ∧ (Instr.coreFault 0 0).wf = false ∧ (Instr.coreFault 0 9).wf = false ∧
    (Instr.poolAnswer 0 0 0 0 (zeros 193)).wf = false ∧ (Instr.attestReportDone (zeros 95)).wf = false ∧ (Instr.stageCommit true [(2, 0, 0)]).wf = false ∧
    (Instr.leaseRequest 4128 0).wf = false ∧ (Instr.leaseGrant 4128 0).wf = false ∧ (Instr.leaseIdleExpire 4128 0).wf = false := by decide +kernel

theorem test_ill_formed_traffic :
    ([Instr.timeSync longMgt, .timeDreq longMgt, .timeDresp longMgt, .mbxCmd longMgt, .doorbell longMgt, .regRead longMgt, .regWrite longMgt, .blkPut longMgt,
      .blkAck longMgt, .epochAnnounce longMgt, .epochAck longMgt, .handoverGo longMgt, .undefinedMgtOpcode 0 longMgt, .stackMapUpdate longMgt,
      .nullFlit 0 longFlit, .msgFlit 0 longFlit, .creditFlit 0 longFlit, .abortFlit 0 longFlit, .keyxFlit 0 longFlit, .reservedFtypeFlit 0 longFlit,
      .rdOnce longReq, .rdShared longReq, .rdOwn longReq, .upgrade longReq, .wrLine longReq, .wrPart longReq, .atomic longReq, .redAdd longReq, .redRead longReq,
      .undefinedReqOpcode 0 longReq, .invAck longHost, .shrAck longHost, .datSnp longHost, .flushAck longHost, .wbDirty longHost, .wbClean longHost,
      .snpInvPtReader longHost, .superFrame (zeros 527), .enumFrame (zeros 15), .headClaimFrame (zeros 17), .heartbeat .link (zeros 15),
      .recPrepare dev1 0 0 0 (zeros 517), .cmdFwd dev1 0 (zeros 15), .cmdFwd dev1 0 (zeros 193), .coordAck 0 0 0 0 0 (zeros 13061)].all fun i => !i.wf) = true := by
  decide +kernel

theorem test_ill_formed_commands :
    ([Instr.ctxCreate queue8, .ctxStop queue8, .ctxStart queue8, .ctxDestroy queue8, .segmentWrite 0 0 (zeros 31), .queueCreate ta (zeros 9), .queueCreate queue8 (zeros 8),
      .queuePause queue8, .queueResume queue8, .queueDelete queue8, .progLoad queue8 0 0, .progUnload queue8 0, .taskSubmit ta (zeros 127), .taskSubmit queue8 (zeros 128),
      .taskCancel queue8 0, .taskQuery queue8 0, .trigRaise queue8 0, .trigRead queue8 0, .regionCreate queue8 0, .regionQuiesce queue8 0, .regionResume queue8 0,
      .regionDelete queue8 0, .regionRead queue8 0 0, .redOpen queue8 0 0, .redClose queue8 0 0, .redNextN queue8 0 0, .srcAdvance queue8 0 0, .matDrop queue8 0 0,
      .jobBoundary queue8 0, .slotRejoin queue8 0, .keySet queue8 0 0 true, .keyDestroy queue8, .attest ta (zeros 31) 0 0 [], .attest ta (zeros 32) 0 0 (List.replicate 9 0),
      .attest queue8 (zeros 32) 0 0 [], .ctrInc queue8 0, .ctrSet queue8 0 0, .svcWindowOpen da (zeros 127) true, .svcWindowOpen queue8 (zeros 128) true,
      .svcWindowClose queue8, .lidClear queue8, .svnCommit queue8, .stackAttest da (zeros 31) 0 0, .stackAttest queue8 (zeros 32) 0 0, .cntRead ta 0 [],
      .cntRead ta 0 (List.replicate 22 0), .cntRead queue8 0 [0], .cntEnable queue8 0, .evtRead queue8 0, .watchSet ta (zeros 27), .watchSet queue8 (zeros 28),
      .watchClear queue8 0 0].all fun i => !i.wf) = true := by decide +kernel

/-- Terms at the checks' bounds are accepted. -/
theorem test_well_formed :
    ([Instr.rdOnce (req 0 0 (zeros 192)), .blkPut ⟨0x41, 0, 9, zeros 3552⟩, .msgFlit 0 ⟨0, zeros 224, true, true⟩, .recPrepare dev1 0 0 0 (zeros 516),
      .cmdFwd dev1 0 (zeros 16), .cmdFwd dev1 0 (zeros 192), .coreFault 0 8, .queueCreate ta7 (zeros 40), .attest ta (zeros 32) 0 0 (List.replicate 8 0),
      .cntRead ta 0 (List.replicate 21 0), .superFrame (zeros 528), .leaseGrant 4127 3, .lineLockGranted (2 ^ 41 - 1)].all Instr.wf) = true := by decide +kernel


/-! The spec's worked values -/

/-- The worked register addresses of R15: units D09, F21, L17 and K100. -/
theorem test_register_addresses : Blk.addr .DDR 9 = 0x03011000 ∧ Blk.addr .FCH 21 = 0x03025000 ∧ Blk.addr .LNK 17 = 0x0303A000 ∧ Blk.addr .KC 100 = 0x03067000 := by
  decide +kernel

/-- The hints of R331's table, and the wait that 0x00C stands for. -/
theorem test_hints : hintNs 118 = 0x00C ∧ hintNs 10000 = 0x3E8 ∧ hintNs 100000 = 0x464 ∧ hintNs 1000000 = 0x7E8 ∧ hintNs 1000000000 = 0xC64 ∧
    hintNs 10240000000 = 0xFFF ∧ hintNs 0 = 0 ∧ hintWait 0x00C = 120 := by decide +kernel

/-- The CAL_COMMIT examples of R440, less the offset of 37 s. -/
theorem test_calendar :
    (⟨2000, 3, 1, 0, 0, 0⟩ : Civil).secs = 5184037 - 37 ∧ (⟨2000, 2, 29, 12, 0, 0⟩ : Civil).secs = 5140837 - 37 ∧
    (⟨2000, 2, 29, 12, 0, 0⟩ : Civil).valid = true ∧ (⟨2100, 2, 29, 0, 0, 0⟩ : Civil).valid = false ∧ (⟨2031, 2, 30, 8, 0, 0⟩ : Civil).valid = false ∧
    (⟨2031, 13, 1, 0, 0, 0⟩ : Civil).valid = false ∧ (⟨2031, 6, 1, 24, 0, 0⟩ : Civil).valid = false ∧
    (⟨2399, 12, 31, 23, 59, 59⟩ : Civil).secs = 12622780836 - 37 ∧ civilOf 12622780799 = ⟨2399, 12, 31, 23, 59, 59⟩ := by decide +kernel

def eight : List Nat := [0x40A00000, 0xBFA66666, 0x3E4CCCCD, 0x40200000, 0xBF400000, 0x4059999A, 0, 0xC0D00000]
def inputs : List FVal := (eight ++ eight ++ eight ++ eight).map f32.dec

/-- The worked conversions of 07: one MXFP4 block and one DB2 block, both with SAT. -/
theorem test_mxfp4_block : quantBlock 2 inputs (fun _ => none) =
    ([0x7F, 0xB6, 0x40, 0x5A, 0xF0, 0xB6, 0x40, 0x5A, 0xF0, 0xB6, 0x40, 0x5A, 0xF0, 0xB6, 0x40, 0x5A, 0xF0], ⟨false, false, true⟩) := by decide +kernel
theorem test_db2_block : quantBlock 1 inputs (fun _ => none) = ([0x80, 0xA7, 0x29, 0xA7, 0x29, 0xA7, 0x29, 0xA7, 0x29], ⟨false, false, true⟩) := by
  decide +kernel

/-- The worked reduction of 06, FRAC 16: ties to even, saturation, and an exact negative. -/
theorem test_contributions :
    convert 0 16 0x3FC00000 = (98304, false, false) ∧ convert 0 16 0x37000000 = (0, false, false) ∧ convert 0 16 0x37C00000 = (2, false, false) ∧
    convert 0 16 0xC0800000 = (-262144, false, false) ∧ convert 0 16 0x4F32D05E = (140737488355327, true, false) ∧ convert 0 16 0x7FC00000 = (0, false, true) := by
  decide +kernel

/-- The worked computation of R391. -/
theorem test_crc32c : crc32c [0x31, 0x32, 0x33, 0x34, 0x35, 0x36, 0x37, 0x38, 0x39] = 0xE3069283 := by decide +kernel

/-- The worked placement of 03 and the worked read of 05: tenant 5 owns S02, S03 and S11; 781,312 sets and a store of 32 granules at each channel. -/
def placed : State :=
  { world with slices := world.slices.mapIdx fun i x => if i = 2 ∨ i = 3 ∨ i = 11 then { x with st := 1, tenant := 5 } else { x with st := 0 }
               chans := world.chans.map fun x => { x with st := 2, sets := 781312, dirG := 32 } }
theorem test_placement : placed.homeSlice 5 0x10003456 = 3 ∧ placed.setIndex 3 3 0x10003456 = 413383 := by decide +kernel

theorem test_directory_set : placed.dirIdx 3 5 (0x10003456 * 128 + 113) = 222193 := by decide +kernel

/-- The worked EXPAND of 08: a residual row, one row of U and the columns of V give the first 64 bytes of the region. -/
def expandCall : OpCall :=
  { rec_ := ⟨0x106, 0, [0, 1, 2, 0xFFFF], [3, 0xFFFF], 0, 0, 0⟩
    x := [⟨2, 2, 0, 0, 0, [1, 32, 1, 1], [0, 0, 0]⟩, ⟨0x10, 2, 0, 0, 0, [1, 4, 1, 1], [0, 0, 0]⟩, ⟨0x10, 2, 0, 0, 0, [4, 32, 1, 1], [0, 0, 0]⟩]
    y := [⟨0x10, 2, 0, 0, 0, [1, 32, 1, 1], [0, 0, 0]⟩]
    a := []
    inp := [[0x7D, 0x75] ++ zeros 15, toLe 2 0x3F00 ++ toLe 2 0xBFA0 ++ toLe 2 0x4000 ++ toLe 2 0x3EC0,
      (toLe 2 0x3FC0 ++ toLe 2 0x3C40 ++ zeros 60) ++ (toLe 2 0x3E80 ++ zeros 62) ++ (toLe 2 0xBE00 ++ zeros 62) ++ (toLe 2 0x4080 ++ zeros 62)]
    env := ⟨0, 0, 16⟩ }
theorem test_expand : expandOp expandCall = .ok [(0, [(0, [0x1C, 0x40, 0xC1, 0x3F] ++ zeros 60)])] Flags.none := by decide +kernel


end Sys2Proof.Tests
end

section
/-! PROOFS. The event log: what an entry puts on record, and which registers it leaves (R452, R453). -/

namespace Sys2Proof.Machine

theorem count_reg_ne {r q : Reg} {u v : Nat} (s : State) (n : Nat) (h : regKey q v ≠ regKey r u) : (s.count r u n).reg q v = s.reg q v := by
  unfold State.count
  split
  · split
    · rfl
    · exact reg_setReg_ne s _ h
  · rfl

/-- The entry that the log gains of an event. -/
def evEntry (e : Ev) (s : State) : EvEntry :=
  { time := s.ptField, seq := s.log.head, cls := byte e.cls, kind := byte (e.kind.code + 16 * e.kind.sev),
    cause := byte e.cause, status := e.status, state := byte e.state, tenant := byte e.tenant,
    unit := w16 e.unit, data := padTo 12 e.data }

/-- The event is on record: its entry is the newest of the ring. -/
def recordEv (e : Ev) (s : State) : State :=
  { s with log := { s.log with ring := evEntry e s :: s.log.ring.take 4095, head := s.log.head + 1 } }

/-- Beyond the record, an entry only counts an overwritten one, notes the time of an interrupt, numbers a datagram, and sends the two. -/
theorem putEv_eq_recordEv {α : Type} (p : State → α) (hc : ∀ s, p (s.count .EVT_OVERWRITE) = p s)
    (hi : ∀ s x, p { s with log := { s.log with ibiAt := x } } = p s) (hn : ∀ s x, p { s with log := { s.log with expSeq := x } } = p s)
    (ho : ∀ s o, p (emit o s) = p s) (e : Ev) (s : State) : p (putEv e s) = p (recordEv e s) := by
  have hif : ∀ (c : Prop) [Decidable c] (a b : State), p a = p b → p (if c then a else b) = p b := by
    intro c _ a b h
    split
    · exact h
    · rfl
  have hudp : ∀ n b s, p (sendUdp n b s) = p s := by
    intro n b s
    unfold sendUdp
    split
    · rfl
    · exact (ho _ _).trans (hn s _)
  unfold putEv
  simp only
  refine (hif _ _ _ (hudp _ _ _)).trans ((hif _ _ _ ((ho _ _).trans (hi _ _))).trans ?_)
  exact hif _ _ _ (hc _)

theorem putEv_reg {q : Reg} {v : Nat} (h : regKey q v ≠ regKey .EVT_OVERWRITE 0) (e : Ev) (s : State) : (putEv e s).reg q v = s.reg q v :=
  putEv_eq_recordEv (fun x => x.reg q v) (fun s => count_reg_ne s _ h) (fun _ _ => rfl) (fun _ _ => rfl) (fun _ _ => rfl) e s

theorem putEv_head (e : Ev) (s : State) : (putEv e s).log.head = s.log.head + 1 :=
  putEv_eq_recordEv (fun x => x.log.head) (fun s => by rw [count_log]) (fun _ _ => rfl) (fun _ _ => rfl) (fun _ _ => rfl) e s

theorem putEv_ring (e : Ev) (s : State) : (putEv e s).log.ring = evEntry e s :: s.log.ring.take 4095 :=
  putEv_eq_recordEv (fun x => x.log.ring) (fun s => by rw [count_log]) (fun _ _ => rfl) (fun _ _ => rfl) (fun _ _ => rfl) e s

theorem rollSecond_reg {q : Reg} {v : Nat} (h : regKey q v ≠ regKey .EVT_OVERWRITE 0) (s : State) : (rollSecond s).reg q v = s.reg q v := by
  unfold rollSecond
  simp only
  split
  · rfl
  · exact foldl_keeps (fun x => x.reg q v) _ (fun s d => putEv_reg h _ s) _ _

/-- Of the registers, an entry changes only the log's two counters. -/
theorem logEv_reg {q : Reg} {v : Nat} (e : Ev) (ho : regKey q v ≠ regKey .EVT_OVERWRITE 0) (hs : regKey q v ≠ regKey .EVT_SUPP e.cls)
    (s : State) : (logEv e s).reg q v = s.reg q v := by
  unfold logEv
  split
  · rfl
  · simp only
    split
    · exact (putEv_reg ho _ _).trans (rollSecond_reg ho s)
    · exact (count_reg_ne _ _ hs).trans (rollSecond_reg ho s)

/-- While its class has room in the second, an event of a running hub is recorded (R453). -/
theorem logEv_recorded (e : Ev) {s : State} (hh : s.su.held = false) (hr : (rollSecond s).log.rate.get 0 e.cls < 256) :
    (logEv e s).log.head = (rollSecond s).log.head + 1 ∧
      ∃ x, (logEv e s).log.ring = x :: (rollSecond s).log.ring.take 4095 ∧ x.cls = byte e.cls ∧ x.status = e.status := by
  have hput : logEv e s = putEv e { rollSecond s with
      log := { (rollSecond s).log with rate := (rollSecond s).log.rate.put 0 e.cls ((rollSecond s).log.rate.get 0 e.cls + 1) } } := by
    unfold logEv
    simp only [hh, Bool.false_eq_true, if_false, hr, true_or, if_true]
  rw [hput]
  exact ⟨putEv_head _ _, _, putEv_ring _ _, rfl, rfl⟩

end Sys2Proof.Machine
end

section
/-! PROOFS. The clocks: one step of a ramp, and what a new target or a write to ECLK_REQ leaves (R11, R422, R443). -/

namespace Sys2Proof.Machine

theorem settle_reg (s : State) (r : Reg) (u : Nat) : (settle s).reg r u = s.reg r u := (rfl)

theorem updDom_dom_self (s : State) (d : Fin 22) (f : DomSt → DomSt) : (s.updDom d f).clk.dom[d] = f s.clk.dom[d] := upd_self _ _ _
theorem updDom_dom_ne (s : State) {d i : Fin 22} (f : DomSt → DomSt) (h : d ≠ i) : (s.updDom d f).clk.dom[i] = s.clk.dom[i] := upd_ne _ _ h

/-- A domain off its target moves once 10 µs have passed since its last step. -/
theorem rampStep_off_target {s : State} {d : Fin 22} (ht : (s.clk.dom[d]).div ≠ (s.clk.dom[d]).target) (h0 : (s.clk.dom[d]).div ≠ 0) :
    rampStep d s = (advanceTo ((s.clk.dom[d]).stepAt + usec 10) s).updDom d fun x =>
      { x with div := rampNext (isEclk d) x.div x.target, stepAt := (advanceTo ((s.clk.dom[d]).stepAt + usec 10) s).time.nclk } := by
  unfold rampStep
  simp only [ht, h0, or_self, if_false]

/-- A new target changes nothing but the clock domains. -/
theorem retarget_keeps {α : Type} (p : State → α) (hk : ∀ s x, p { s with clk := x } = p s) (s : State) : p (retarget s) = p s := by
  unfold retarget
  refine foldl_keeps p _ (fun s d => ?_) _ s
  split
  · exact hk s _
  · rfl

@[simp] theorem retarget_pwr (s : State) : (retarget s).pwr = s.pwr := retarget_keeps State.pwr (fun _ _ => rfl) s
@[simp] theorem retarget_mem (s : State) : (retarget s).mem = s.mem := retarget_keeps State.mem (fun _ _ => rfl) s
@[simp] theorem retarget_reg (s : State) (r : Reg) (u : Nat) : (retarget s).reg r u = s.reg r u :=
  retarget_keeps (fun x => x.reg r u) (fun _ _ => rfl) s

/-- A new target by itself moves no clock. -/
theorem retarget_div (s : State) (i : Fin 22) : ((retarget s).clk.dom[i]).div = (s.clk.dom[i]).div := by
  unfold retarget
  refine foldl_keeps (fun x => (x.clk.dom[i]).div) _ (fun s d => ?_) _ s
  split
  · by_cases h : d = i
    · subst h
      rw [updDom_dom_self]
    · rw [updDom_dom_ne s _ h]
  · rfl

theorem not_other_setting {v : BitVec 4} (hv : v = 3 ∨ v = 4 ∨ v = 5 ∨ v = 8) :
    ¬(v.toNat ≠ 3 ∧ v.toNat ≠ 4 ∧ v.toNat ≠ 5 ∧ v.toNat ≠ 8) := by
  rcases hv with rfl | rfl | rfl | rfl <;> decide

/-- The settings of ECLK_REQ up to the ceiling are taken. -/
theorem eclkReq_within {s : State} {v : BitVec 4} (hv : v = 3 ∨ v = 4 ∨ v = 5 ∨ v = 8) (hc : aboveCeiling s.eclkMax v.toNat = false) :
    eclkReq v s = retarget (s.setReg .ECLK_REQ 0 (w32 v.toNat)) := by
  unfold eclkReq
  exact (if_neg (not_other_setting hv)).trans (if_neg (by simp [hc]))

/-- A setting above the ceiling is only logged. -/
theorem eclkReq_above {s : State} {v : BitVec 4} (hv : v = 3 ∨ v = 4 ∨ v = 5 ∨ v = 8) (hc : aboveCeiling s.eclkMax v.toNat = true) :
    eclkReq v s = logEv ⟨2, .refused, 0xFFFF, 0, stUNSUPPORTED, 0, 0xFF, []⟩ s := by
  unfold eclkReq
  exact (if_neg (not_other_setting hv)).trans (if_pos hc)

theorem clockRampStep_answers {s : State} (hh : s.su.held = false) (d : DomId) (ht : (s.clk.dom[domNo d]).div ≠ (s.clk.dom[domNo d]).target)
    (h0 : (s.clk.dom[domNo d]).div ≠ 0) : Answers (.clockRampStep d) s fun t =>
      (t.clk.dom[domNo d]).div = rampNext (isEclk (domNo d)) (s.clk.dom[domNo d]).div (s.clk.dom[domNo d]).target ∧
      (t.clk.dom[domNo d]).target = (s.clk.dom[domNo d]).target ∧ (s.clk.dom[domNo d]).stepAt + usec 10 ≤ t.time.nclk ∧
      ∀ i : Fin 22, i ≠ domNo d → t.clk.dom[i] = s.clk.dom[i] := by
  refine answers_of_live (rampStep (domNo d)) rfl hh ?_
  rw [rampStep_off_target ht h0]
  simp only [settle_clk, settle_time]
  refine ⟨?_, ?_, le_advanceTo _ s, fun i hi => ?_⟩
  · rw [updDom_dom_self, advanceTo_clk]
  · rw [updDom_dom_self, advanceTo_clk]
  · rw [updDom_dom_ne _ _ hi.symm, advanceTo_clk]

theorem eclkReqWrite_within_answers {s : State} (hh : s.su.held = false) {v : BitVec 4} (hv : v = 3 ∨ v = 4 ∨ v = 5 ∨ v = 8)
    (hc : aboveCeiling s.eclkMax v.toNat = false) : Answers (.eclkReqWrite v) s fun t =>
      t.reg .ECLK_REQ 0 = w32 v.toNat ∧ (∀ d : Fin 22, (t.clk.dom[d]).div = (s.clk.dom[d]).div) ∧ t.mem = s.mem := by
  refine answers_of_live (eclkReq v) rfl hh ?_
  rw [eclkReq_within hv hc]
  refine ⟨?_, fun d => ?_, ?_⟩
  · rw [settle_reg, retarget_reg, reg_setReg_self]
  · rw [settle_clk, retarget_div, setReg_clk]
  · rw [settle_mem, retarget_mem, setReg_mem]

theorem eclkReqWrite_above_answers {s : State} (hh : s.su.held = false) {v : BitVec 4} (hv : v = 3 ∨ v = 4 ∨ v = 5 ∨ v = 8)
    (hc : aboveCeiling s.eclkMax v.toNat = true) : Answers (.eclkReqWrite v) s fun t =>
      t.reg .ECLK_REQ 0 = s.reg .ECLK_REQ 0 ∧ t.clk = s.clk ∧ t.mem = s.mem ∧
      ((rollSecond s).log.rate.get 0 2 < 256 → t.log.head = (rollSecond s).log.head + 1 ∧
        ∃ e, t.log.ring = e :: (rollSecond s).log.ring.take 4095 ∧ e.cls = 2 ∧ e.status = stUNSUPPORTED) := by
  refine answers_of_live (eclkReq v) rfl hh ?_
  rw [eclkReq_above hv hc]
  refine ⟨?_, ?_, ?_, fun hr => ?_⟩
  · rw [settle_reg, logEv_reg _ (by decide) (by decide)]
  · rw [settle_clk, logEv_clk]
  · rw [settle_mem, logEv_mem]
  · rw [settle_log]
    exact logEv_recorded ⟨2, .refused, 0xFFFF, 0, stUNSUPPORTED, 0, 0xFF, []⟩ hh hr

end Sys2Proof.Machine
end

section
/-! PROOFS. The power cap: what a measurement, the judgement and one step of the cap change (R431). -/

namespace Sys2Proof.Machine

theorem stepLeft_eq_false {s : State} (he : 8 ≤ s.eclkTarget) (hg : ∀ i : SliceId, s.mayGate i = false) : s.stepLeft = false := by
  simp [State.stepLeft, he, hg]

theorem capJudge_pwr (s : State) :
    (capJudge s).pwr = { s.pwr with unmet := s.pwr.unmet || (s.capWatts < s.meanPower && !s.stepLeft) } := by
  unfold capJudge
  split
  · next h =>
    obtain ⟨hm, hl, -⟩ := h
    rw [logEv_pwr]
    simp [hm, hl]
  · next h =>
    have hu : (s.pwr.unmet || (s.capWatts < s.meanPower && !s.stepLeft)) = s.pwr.unmet := by
      cases hs : s.pwr.unmet with
      | true => rfl
      | false => simpa [hs] using h
    rw [hu]

theorem capJudge_clk (s : State) : (capJudge s).clk = s.clk := by
  unfold capJudge
  split
  · rw [logEv_clk]
  · rfl

theorem capJudge_mem (s : State) : (capJudge s).mem = s.mem := by
  unfold capJudge
  split
  · rw [logEv_mem]
  · rfl

theorem capWatts_of_reg {s t : State} (h : t.reg .PWR_CAP 0 = s.reg .PWR_CAP 0) : t.capWatts = s.capWatts := by
  unfold State.capWatts State.rfld
  rw [h]

theorem meanPower_of_meas {s t : State} (h : t.pwr.meas = s.pwr.meas) : t.meanPower = s.meanPower := by
  unfold State.meanPower
  rw [h]

/-- The judgement leaves the cap that it judges by. -/
theorem capJudge_capWatts (s : State) : (capJudge s).capWatts = s.capWatts := by
  refine capWatts_of_reg ?_
  unfold capJudge
  split
  · exact logEv_reg _ (by decide) (show regKey .PWR_CAP 0 ≠ regKey .EVT_SUPP 2 by decide) _
  · rfl

/-- A periodic activity that comes round only moves time. -/
theorem pace_eq_time (k n : Nat) (s : State) : ∃ x, pace k n s = { s with time := x } := by
  unfold pace advanceTo
  split
  · exact ⟨_, rfl⟩
  · exact ⟨_, rfl⟩

/-- A measurement, and the run of measurements far enough below the cap, are noted. -/
def measured (w : W16) (s : State) : State :=
  let s := { s with pwr := { s.pwr with meas := w.toNat :: s.pwr.meas.take 9 } }
  { s with pwr := { s.pwr with below := if s.meanPower + 25 ≤ s.capWatts then s.pwr.below + 1 else 0 } }

theorem powerRun_eq_capJudge (w : W16) (s : State) : powerRun w s = capJudge (measured w (pace pacePower (msec 1) s)) := rfl

theorem measured_capWatts (w : W16) (s : State) : (measured w s).capWatts = s.capWatts := rfl
theorem measured_clk (w : W16) (s : State) : (measured w s).clk = s.clk := rfl
theorem measured_stepLeft (w : W16) (s : State) : (measured w s).stepLeft = s.stepLeft := rfl
theorem measured_meas (w : W16) (s : State) : (measured w s).pwr.meas = w.toNat :: s.pwr.meas.take 9 := rfl
theorem measured_unmet (w : W16) (s : State) : (measured w s).pwr.unmet = s.pwr.unmet := rfl
theorem measured_below (w : W16) (s : State) : (measured w s).pwr.below =
    if (measured w s).meanPower + 25 ≤ s.capWatts then s.pwr.below + 1 else 0 := rfl

theorem capJudge_measured (w : W16) (s : State) :
    (capJudge (measured w s)).pwr.meas = w.toNat :: s.pwr.meas.take 9 ∧
    (capJudge (measured w s)).pwr.below =
      (if (capJudge (measured w s)).meanPower + 25 ≤ s.capWatts then s.pwr.below + 1 else 0) ∧
    (capJudge (measured w s)).clk = s.clk ∧
    (capJudge (measured w s)).pwr.unmet =
      (s.pwr.unmet || ((capJudge (measured w s)).capWatts < (capJudge (measured w s)).meanPower && !s.stepLeft)) := by
  have hp := capJudge_pwr (measured w s)
  have hm : (capJudge (measured w s)).meanPower = (measured w s).meanPower := meanPower_of_meas (by rw [hp])
  refine ⟨?_, ?_, ?_, ?_⟩
  · rw [hp, measured_meas]
  · rw [hp, hm, measured_below]
  · rw [capJudge_clk, measured_clk]
  · rw [hp, hm, capJudge_capWatts, measured_unmet, measured_stepLeft]

theorem powerMeasure_answers {s : State} (hh : s.su.held = false) (w : W16) : Answers (.powerMeasure w) s fun t =>
      t.pwr.meas = w.toNat :: s.pwr.meas.take 9 ∧ t.pwr.below = (if t.meanPower + 25 ≤ s.capWatts then s.pwr.below + 1 else 0) ∧ t.clk = s.clk ∧
      t.pwr.unmet = (s.pwr.unmet || (t.capWatts < t.meanPower && !s.stepLeft)) := by
  refine answers_of_live (powerRun w) rfl hh ?_
  rw [powerRun_eq_capJudge]
  obtain ⟨x, hx⟩ := pace_eq_time pacePower (msec 1) s
  rw [hx]
  exact capJudge_measured w { s with time := x }

/-- One step of ECLK down, where one is left. -/
theorem capDown_eclk {s : State} (he : s.eclkTarget < 8) :
    capDown s = retarget (({ s with pwr := { s.pwr with eSteps := s.pwr.eSteps + 1 } }).count .CAP_STEP_CNT) := by
  unfold capDown
  rw [if_pos he]

theorem capDown_stuck {s : State} (he : 8 ≤ s.eclkTarget) (hg : ∀ i : SliceId, s.mayGate i = false) : capDown s = capJudge s := by
  have hany : (indices 16).any s.mayGate = false := by simp [hg]
  unfold capDown
  rw [if_neg (by omega), hany]
  exact if_neg Bool.false_ne_true

/-- One step of ECLK up, once every core is in dispatch again. -/
theorem capUp_eclk {s : State} (hc : s.coreSteps = 0) (he : 0 < s.pwr.eSteps) :
    capUp s = retarget (({ s with pwr := { s.pwr with below := 0, unmet := false, eSteps := s.pwr.eSteps - 1 } }).count .CAP_STEP_CNT) := by
  have hc' : ({ s with pwr := { s.pwr with below := 0, unmet := false } } : State).coreSteps = 0 := hc
  unfold capUp
  simp only [hc', lt_self_iff_false, if_false, he, if_true]

/-- What the cap does every 10 ms, its time come. -/
def capTurn (s : State) : State :=
  if s.capWatts < s.meanPower ∨ s.pwr.thermLimit then capDown s
  else
    let s := { s with pwr := { s.pwr with unmet := false } }
    if 100 ≤ s.pwr.below then capUp s else s

theorem capRun_eq_capTurn (s : State) : capRun s = capTurn (pace paceCap (msec 10) s) := rfl

theorem capTurn_above {s : State} (hm : s.capWatts < s.meanPower) : capTurn s = capDown s := by
  unfold capTurn
  rw [if_pos (.inl hm)]

/-- At or below the cap, and cool, a step up is due after 100 low measurements; CAP_UNMET clears. -/
theorem capTurn_within {s : State} (hm : s.meanPower ≤ s.capWatts) (ht : s.pwr.thermLimit = false) :
    capTurn s = if 100 ≤ s.pwr.below then capUp { s with pwr := { s.pwr with unmet := false } }
      else { s with pwr := { s.pwr with unmet := false } } := by
  unfold capTurn
  rw [if_neg (by simp [ht, hm])]

/-- What holds of the cap's turn at whatever time holds after CAP_STEP. -/
theorem capStep_answers {s : State} {P : State → Prop} (hh : s.su.held = false)
    (hP : ∀ x, P (settle (capTurn { s with time := x }))) : Answers .capStep s P := by
  refine answers_of_live capRun rfl hh ?_
  obtain ⟨x, hx⟩ := pace_eq_time paceCap (msec 10) s
  rw [capRun_eq_capTurn, hx]
  exact hP x

theorem capStep_down_answers {s : State} (hh : s.su.held = false) (hm : s.capWatts < s.meanPower) (he : s.eclkTarget < 8) :
    Answers .capStep s fun t => t.pwr.eSteps = s.pwr.eSteps + 1 ∧ t.pwr.outOf = s.pwr.outOf ∧ t.mem = s.mem := by
  refine capStep_answers hh fun x => ?_
  rw [capTurn_above (by exact hm), capDown_eclk (by exact he)]
  simp only [settle_pwr, settle_mem, retarget_pwr, retarget_mem, count_pwr, count_mem, and_self]

theorem capStep_stuck_answers {s : State} (hh : s.su.held = false) (hm : s.capWatts < s.meanPower) (he : 8 ≤ s.eclkTarget)
    (hg : ∀ i : SliceId, s.mayGate i = false) :
    Answers .capStep s fun t => t.pwr.eSteps = s.pwr.eSteps ∧ t.pwr.outOf = s.pwr.outOf ∧ t.pwr.unmet = true := by
  refine capStep_answers hh fun x => ?_
  have hj : (s.pwr.unmet || (s.capWatts < s.meanPower && !s.stepLeft)) = true := by simp [hm, stepLeft_eq_false he hg]
  rw [capTurn_above (by exact hm), capDown_stuck (by exact he) (by exact hg), settle_pwr, capJudge_pwr]
  exact ⟨rfl, rfl, hj⟩

theorem capStep_rest_answers {s : State} (hh : s.su.held = false) (hm : s.meanPower ≤ s.capWatts) (ht : s.pwr.thermLimit = false)
    (hb : s.pwr.below < 100) : Answers .capStep s fun t => t.pwr = { s.pwr with unmet := false } ∧ t.clk = s.clk := by
  refine capStep_answers hh fun x => ?_
  rw [capTurn_within (by exact hm) (by exact ht), if_neg (by exact hb.not_ge)]
  exact ⟨settle_pwr _, settle_clk _⟩

theorem capStep_up_answers {s : State} (hh : s.su.held = false) (hm : s.meanPower ≤ s.capWatts) (ht : s.pwr.thermLimit = false)
    (hb : 100 ≤ s.pwr.below) (hc : s.coreSteps = 0) (he : 0 < s.pwr.eSteps) :
    Answers .capStep s fun t => t.pwr.eSteps = s.pwr.eSteps - 1 ∧ t.pwr.below = 0 ∧ t.pwr.outOf = s.pwr.outOf := by
  refine capStep_answers hh fun x => ?_
  rw [capTurn_within (by exact hm) (by exact ht), if_pos (by exact hb), capUp_eclk (by exact hc) (by exact he)]
  simp only [settle_pwr, retarget_pwr, count_pwr, and_self]

end Sys2Proof.Machine
end

section
open Sys2Proof Sys2Proof.Machine

/-- Settles O49: a ramp moves one clock by one step, ECLK_REQ sets a target or an entry in the log, and the cap counts its steps down and up. -/
theorem clocksAndCapStep : Obligations.ClocksAndCapStep := by
  unfold Obligations.ClocksAndCapStep
  intro s hh
  exact ⟨fun d => clockRampStep_answers hh d,
    fun v hv => ⟨eclkReqWrite_within_answers hh hv, eclkReqWrite_above_answers hh hv⟩,
    powerMeasure_answers hh, capStep_down_answers hh, capStep_stuck_answers hh, capStep_rest_answers hh, capStep_up_answers hh⟩

end

section
/-! PROOFS. The segment that a CA belongs to, and what a write of a descriptor leaves of that (R46, R48). -/

namespace Sys2Proof.Machine

/-- Descriptor `i` of the list is valid and its range holds the CA. -/
def Belongs (l : List Bytes) (i ca : Nat) : Prop :=
  (segOf (l.getD i [])).v = true ∧ (segOf (l.getD i [])).base ≤ ca ∧ ca < (segOf (l.getD i [])).base + (segOf (l.getD i [])).limit

/-- No CA belongs to two segments. -/
def Apart (l : List Bytes) : Prop := ∀ i j ca : Nat, Belongs l i ca → Belongs l j ca → i = j

theorem segOf_nil_v : (segOf []).v = false := by decide

theorem Belongs.lt_length {l : List Bytes} {i ca : Nat} (h : Belongs l i ca) : i < l.length := by
  by_contra hi
  have hv := h.1
  rw [List.getD_eq_default _ _ (not_lt.1 hi), segOf_nil_v] at hv
  cases hv

/-- A search finds the segment that alone holds the CA. -/
theorem findSeg_of_belongs {ca : Nat} {l : List Bytes} : ∀ {i : Nat} (n : Nat), Belongs l i ca → (∀ j, Belongs l j ca → j = i) →
    findSeg ca n l = some (n + i, segOf (l.getD i [])) := by
  induction l with
  | nil => exact fun n h _ => absurd h.lt_length (Nat.not_lt_zero _)
  | cons d r ih =>
    intro i n h hu
    by_cases h0 : Belongs (d :: r) 0 ca
    · obtain rfl := hu 0 h0
      exact if_pos h0
    · cases i with
      | zero => exact absurd h h0
      | succ i =>
        have hr := ih (n + 1) h fun j hj => Nat.succ.inj (hu (j + 1) hj)
        rw [Nat.add_right_comm] at hr
        exact (if_neg h0).trans hr

theorem findSeg_none {ca : Nat} {l : List Bytes} : ∀ n : Nat, (∀ j, ¬Belongs l j ca) → findSeg ca n l = none := by
  induction l with
  | nil => exact fun _ _ => rfl
  | cons d r ih => exact fun n h => (if_neg (h 0)).trans (ih (n + 1) fun j => h (j + 1))

theorem getD_set_self {l : List Bytes} {n : Nat} (d : Bytes) (hn : n < l.length) : (l.set n d).getD n [] = d := by
  simp [List.getD_eq_getElem?_getD, hn]

theorem belongs_set_ne {l : List Bytes} {n i : Nat} (d : Bytes) (ca : Nat) (h : i ≠ n) : Belongs (l.set n d) i ca ↔ Belongs l i ca := by
  have hd : (l.set n d).getD i [] = l.getD i [] := by simp [List.getD_eq_getElem?_getD, List.getElem?_set_ne h.symm]
  unfold Belongs
  rw [hd]

/-- A descriptor whose range shares a CA with another of the 16 overlaps it. -/
theorem segOverlap_of_belongs {l : List Bytes} {n i ca : Nat} {d : Bytes} (hl : l.length = 16) (hn : n < 16) (h : i ≠ n)
    (hi : Belongs l i ca) (hd : Belongs (l.set n d) n ca) : segOverlap l n d = true := by
  have hi16 : i < 16 := hl ▸ hi.lt_length
  unfold Belongs at hd
  rw [getD_set_self d (hl ▸ hn)] at hd
  obtain ⟨hiv, hib, hil⟩ := hi
  obtain ⟨hdv, hdb, hdl⟩ := hd
  have hm : meet (segOf d).base (segOf d).limit (segOf (l.getD i [])).base (segOf (l.getD i [])).limit = true := by
    simp only [meet, Bool.and_eq_true, decide_eq_true_eq]
    omega
  unfold segOverlap
  simp only [hdv, Bool.true_and, List.any_eq_true, List.mem_range]
  exact ⟨i, hi16, by simp only [hiv, hm, h, ne_eq, not_false_eq_true, decide_true, Bool.and_self]⟩

/-- A descriptor that overlaps no other keeps the segments apart. -/
theorem Apart.set {l : List Bytes} {n : Nat} {d : Bytes} (ha : Apart l) (hl : l.length = 16) (hn : n < 16)
    (ho : segOverlap l n d = false) : Apart (l.set n d) := by
  have hfree : ∀ i ca, i ≠ n → Belongs (l.set n d) i ca → ¬Belongs (l.set n d) n ca := fun i ca h hi hd =>
    absurd (segOverlap_of_belongs hl hn h ((belongs_set_ne d ca h).1 hi) hd) (by simp [ho])
  intro i j ca hi hj
  by_cases hin : i = n
  · by_contra hne
    exact hfree j ca (fun h => hne (hin.trans h.symm)) hj (hin ▸ hi)
  · by_cases hjn : j = n
    · exact absurd (hjn ▸ hj) (hfree i ca hin hi)
    · exact ha i j ca ((belongs_set_ne d ca hin).1 hi) ((belongs_set_ne d ca hjn).1 hj)

/-- A valid descriptor needs its page table in a PTAB region of the tenant, and inside it (R47). -/
theorem segOk_eq_false_of_page_table {s : State} {t : TenantId} {d : Bytes} (hv : (segOf d).v = true)
    (hp : ∀ (i : Nat) (g : Region), s.regionOfSpa (segOf d).pt = some (i, g) →
      g.ptab = false ∨ g.tenant ≠ t ∨ g.spa + g.len < (segOf d).pt + 8 * ((segOf d).limit / (segOf d).page)) : s.segOk t d = false := by
  unfold State.segOk
  cases hr : s.regionOfSpa (segOf d).pt with
  | none => simp [hv, hr]
  | some x =>
    rcases hp x.1 x.2 hr with h | h | h
    · simp [hv, hr, h]
    · simp [hv, hr, h]
    · simp [hv, hr, h]

end Sys2Proof.Machine
end

section
/-! PROOFS. The context table: what a live handle names after a record changes, and what a segment write, a stop or start and a flush
leave (R43, R46, R272, R72). -/

namespace Sys2Proof.Machine

theorem liveCtx_eq_some {s : State} {h : W16} {c : Ctx} : s.liveCtx h = some c ↔
    s.ctx.tab.find (ctxIndex h) = some c ∧ c.st ≠ 0 ∧ s.ctx.incs.get 0 (ctxIndex h) = h.toNat / 4096 := by
  unfold State.liveCtx
  cases s.ctx.tab.find (ctxIndex h) with
  | none => simp
  | some k =>
    simp only [Option.ite_none_right_eq_some, Option.some.injEq]
    exact ⟨fun ⟨hk, he⟩ => ⟨he, he ▸ hk⟩, fun ⟨he, hk⟩ => ⟨he ▸ hk, he⟩⟩

theorem liveCtx_congr {s t : State} (h : W16) (hc : t.ctx = s.ctx) : t.liveCtx h = s.liveCtx h := by
  unfold State.liveCtx
  rw [hc]

/-- The record of a live handle is replaced by one that is not FREE. -/
theorem liveCtx_setCtx_self {s : State} {h : W16} {c k : Ctx} (hc : s.liveCtx h = some c) (hk : k.st ≠ 0) :
    (s.setCtx (ctxIndex h) k).liveCtx h = some k := by
  obtain ⟨-, -, hi⟩ := liveCtx_eq_some.1 hc
  exact liveCtx_eq_some.2 ⟨Sparse.find_ins_self _ _ _, hk, hi⟩

/-- The translations taken through one segment of a handle go from every quarter's cache. -/
def tcDropSeg (handle : W16) (n : Nat) (s : State) : State :=
  { s with pool := { s.pool with tcache := s.pool.tcache.map fun l => l.filter fun e => !(e.handle = handle && e.seg = n) } }

theorem segmentWriteRun_refused {s : State} {handle : W16} {n : Fin 16} {d : Bytes} {c : Ctx} (hc : s.liveCtx handle = some c)
    (h : s.segOk c.tenant d = false ∨ segOverlap c.segs n.val d = true) :
    segmentWriteRun handle n d s = emit (.segAnswer handle n.val 0x0D) s := by
  unfold segmentWriteRun
  simp only [hc]
  exact if_pos (by simpa using h)

theorem segmentWriteRun_taken {s : State} {handle : W16} {n : Fin 16} {d : Bytes} {c : Ctx} (hc : s.liveCtx handle = some c)
    (hok : s.segOk c.tenant d = true) (ho : segOverlap c.segs n.val d = false) : segmentWriteRun handle n d s =
      emit (.segAnswer handle n.val 0) (tcDropSeg handle n.val (s.setCtx (ctxIndex handle) { c with segs := c.segs.set n.val d })) := by
  unfold segmentWriteRun
  simp only [hc]
  exact if_neg (by simp [hok, ho])

theorem liveCtx_segmentWriteRun {s : State} {handle : W16} {n : Fin 16} {d : Bytes} {c : Ctx} (hc : s.liveCtx handle = some c)
    (hok : s.segOk c.tenant d = true) (ho : segOverlap c.segs n.val d = false) :
    (segmentWriteRun handle n d s).liveCtx handle = some { c with segs := c.segs.set n.val d } := by
  obtain ⟨-, hst, -⟩ := liveCtx_eq_some.1 hc
  rw [segmentWriteRun_taken hc hok ho]
  exact (liveCtx_congr handle rfl).trans (liveCtx_setCtx_self hc hst)

/-- A segment write keeps the segments of its context apart, taken or refused. -/
theorem segmentWriteRun_apart {s : State} {handle : W16} {n : Fin 16} {d : Bytes} {c : Ctx} (hc : s.liveCtx handle = some c)
    (hl : c.segs.length = 16) (ha : Apart c.segs) : ∃ k, (segmentWriteRun handle n d s).liveCtx handle = some k ∧ Apart k.segs := by
  by_cases h : s.segOk c.tenant d = false ∨ segOverlap c.segs n.val d = true
  · rw [segmentWriteRun_refused hc h]
    exact ⟨c, (liveCtx_congr handle rfl).trans hc, ha⟩
  · obtain ⟨hok, ho⟩ := not_or.1 h
    have ho := Bool.eq_false_of_not_eq_true ho
    exact ⟨_, liveCtx_segmentWriteRun hc (Bool.eq_true_of_not_eq_false hok) ho, ha.set hl n.isLt ho⟩

theorem segmentWrite_refused_completes {s : State} (hh : s.su.held = false) {handle : W16} {n : Fin 16} {d : Bytes} {c : Ctx}
    (hc : s.liveCtx handle = some c) (h : s.segOk c.tenant d = false ∨ segOverlap c.segs n.val d = true) :
    Completes (.segmentWrite handle n d) s fun u => u = { s with out := s.out ++ [.segAnswer handle n.val 0x0D] } :=
  completes_of_pumped (segmentWriteRun handle n d) rfl hh (segmentWriteRun_refused hc h)

theorem segmentWrite_taken_completes {s : State} (hh : s.su.held = false) {handle : W16} {n : Fin 16} {d : Bytes} {c : Ctx}
    (hc : s.liveCtx handle = some c) (hok : s.segOk c.tenant d = true) (ho : segOverlap c.segs n.val d = false) :
    Completes (.segmentWrite handle n d) s fun u =>
      u.liveCtx handle = some { c with segs := c.segs.set n.val d } ∧ Out.segAnswer handle n.val 0 ∈ u.out ∧
      u = { s with ctx := u.ctx, out := u.out, pool := u.pool } ∧ u.pool.trks = s.pool.trks := by
  refine completes_of_pumped (segmentWriteRun handle n d) rfl hh ⟨liveCtx_segmentWriteRun hc hok ho, ?_⟩
  rw [segmentWriteRun_taken hc hok ho]
  exact ⟨List.mem_append_right _ (.head _), rfl, rfl⟩

/-- A tenant's stop or start of its context, from the state that it asks for. -/
theorem ctxSwitch_eq {s : State} {h : CmdHdr} {t : TenantId} {c : Ctx} (ht : s.classOf h.iss = .ta t) (hc : s.liveCtx h.handle = some c)
    (hct : c.tenant = t) (cmd to_ : Nat) :
    ctxSwitch h cmd c.st to_ s = replyOk h cmd [] (s.setCtx (ctxIndex h.handle) { c with st := to_ }) := by
  simp [ctxSwitch, onlyTA, ownCtx, ht, hc, hct]

/-- What holds of a switched context, its command answered. -/
theorem ctxSwitch_effect {s : State} {h : CmdHdr} {t : TenantId} {c : Ctx} (ht : s.classOf h.iss = .ta t) (hc : s.liveCtx h.handle = some c)
    (hct : c.tenant = t) (cmd : Nat) {to_ : Nat} (h0 : to_ ≠ 0) :
    (ctxSwitch h cmd c.st to_ s).liveCtx h.handle = some { c with st := to_ } ∧ (ctxSwitch h cmd c.st to_ s).Replied h cmd 0 0 [] ∧
      (ctxSwitch h cmd c.st to_ s).mem = s.mem := by
  rw [ctxSwitch_eq ht hc hct]
  refine ⟨?_, replyOk_replied _ h cmd [], ?_⟩
  · exact (liveCtx_congr h.handle (reply_ctx ..)).trans (liveCtx_setCtx_self hc h0)
  · exact (reply_mem ..).trans (setCtx_mem ..)

/-- A flush empties the cache of its quarter, and no other. -/
theorem tcFlush_answers {s : State} (hh : s.su.held = false) (q : Quarter) : Answers (.tcFlush q) s fun t =>
      t.pool.tcache[q] = [] ∧ (∀ p : Quarter, p ≠ q → t.pool.tcache[p] = s.pool.tcache[p]) ∧
      t = { s with pool := { s.pool with tcache := t.pool.tcache }, lands := t.lands } := by
  refine answers_of_live (tcFlushRun q) rfl hh ?_
  have hrun : tcFlushRun q s = { s with pool := { s.pool with tcache := s.pool.tcache.set q.val [] } } := dif_pos q.isLt
  rw [hrun]
  refine ⟨?_, fun p hp => ?_, rfl⟩
  · exact Vector.getElem_set_self q.isLt
  · exact Vector.getElem_set_ne q.isLt p.isLt (fun h => hp (Fin.ext h.symm))

end Sys2Proof.Machine
end

section
open Sys2Proof Sys2Proof.Machine

/-- Settles O8: a CA has one segment, a segment write is taken whole or refused, contexts stop and start, and a flush empties one cache. -/
theorem contextsSegmentsAndTranslations : Obligations.ContextsSegmentsAndTranslations := by
  unfold Obligations.ContextsSegmentsAndTranslations
  intro s hh
  refine ⟨fun handle n d c hc hok ho => segmentWrite_taken_completes hh hc hok ho,
    fun handle n d c hc h => segmentWrite_refused_completes hh hc h, ⟨?_, ?_, ?_⟩, ?_, ?_, tcFlush_answers hh⟩
  · intro l ca i h hu
    simpa using findSeg_of_belongs 0 h hu
  · exact fun l ca h => findSeg_none 0 h
  · intro handle n d c hc hl ha
    refine ⟨fun i ca hi hb hd => segmentWrite_refused_completes hh hc (.inr (segOverlap_of_belongs hl n.isLt hi hb hd)), ?_⟩
    exact completes_of_pumped (segmentWriteRun handle n d) rfl hh (segmentWriteRun_apart hc hl ha)
  · exact fun handle n d c hc hv hp => segmentWrite_refused_completes hh hc (.inl (segOk_eq_false_of_page_table hv hp))
  · intro h t c ht hc hct
    exact ⟨fun hst => completes_of_pumped (ctxSwitch h 0x102 1 2) rfl hh (hst ▸ ctxSwitch_effect ht hc hct 0x102 (by decide)),
      fun hst => completes_of_pumped (ctxSwitch h 0x103 2 1) rfl hh (hst ▸ ctxSwitch_effect ht hc hct 0x103 (by decide))⟩

end

section
/-! PROOFS. The replies kept of an endpoint (R267), and the RESULT that a kept reply carries where the command fails (R264, R273). -/

namespace Sys2Proof.Machine

/-- Of the endpoint that it answers, a new reply is kept first, with at most 15 of those before it. -/
theorem filter_keepReply_self (a : W16) (q : W32) (b : Bytes) (l : List (W16 × W32 × Bytes)) :
    (keepReply a q b l).filter (fun e => e.1 = a) = (a, q, b) :: (l.filter fun e => e.1 = a).take 15 := by
  have hmine : ((l.filter fun e => e.1 = a).take 15).filter (fun e => e.1 = a) = (l.filter fun e => e.1 = a).take 15 :=
    List.filter_eq_self.2 fun e he => (List.mem_filter.1 (List.mem_of_mem_take he)).2
  have hothers : (l.filter fun e => e.1 ≠ a).filter (fun e => e.1 = a) = [] :=
    List.filter_eq_nil_iff.2 fun e he => by simpa using (List.mem_filter.1 he).2
  unfold keepReply
  rw [List.filter_cons_of_pos (by simp), List.filter_append, hmine, hothers, List.append_nil]

theorem conflictEv_mbx (h : CmdHdr) (cmd code : Nat) (s : State) : (conflictEv h cmd code s).mbx = s.mbx := by
  unfold conflictEv
  cases h.iss <;> simp only [count_mbx, logEv_mbx]

theorem failResult_mbx (cmd : Nat) (s : State) : (failResult cmd s).2.mbx = s.mbx := by
  unfold failResult
  split_ifs <;> rfl

/-- What is kept of an endpoint's answered command: its block, where a conflict alone carries the state code and a failing command without a
RESULT the one that R273 asks for. -/
theorem reply_ep_replies (a : W16) (q : W32) (hd : W16) (qu st : Byte) (cmd code hint : Nat) (res : Bytes) (s : State) :
    (reply ⟨.ep a, q, hd, qu⟩ cmd st code hint res s).mbx.replies =
      keepReply a q (replyBlock cmd q st (if st = stSTATE_CONFLICT then code else 0)
        (if st ≠ stOK ∧ res = [] then (failResult cmd s).1 else res)) s.mbx.replies := by
  unfold reply
  simp only [send_mbx]
  split_ifs <;> simp only [conflictEv_mbx, failResult_mbx]

theorem length_toLe (k n : Nat) : (toLe k n).length = k := by
  induction k generalizing n with
  | zero => rfl
  | succ k ih => simp only [toLe, List.length_cons, ih]

theorem length_replyBlock (cmd : Nat) (q : W32) (st : Byte) (code : Nat) (res : Bytes) :
    (replyBlock cmd q st code res).length = 16 + res.length := by
  simp only [replyBlock, List.length_append, List.length_cons, List.length_nil, length_toLe]

/-- A PROG_LOAD that is turned away is kept with the 16 bytes of its RESULT, FAIL_INDEX among them (R273). -/
theorem reply_progLoad_failed_replies (a : W16) (q : W32) (hd : W16) (qu st : Byte) (code hint : Nat) (s : State) (hst : st ≠ stOK)
    (hc : st ≠ stSTATE_CONFLICT) : (reply ⟨.ep a, q, hd, qu⟩ 0x121 st code hint [] s).mbx.replies =
      keepReply a q (replyBlock 0x121 q st 0 ([0, 0, 0xFF, 0xFF] ++ zeros 12)) s.mbx.replies := by
  rw [reply_ep_replies, if_neg hc, if_pos ⟨hst, rfl⟩]
  rfl

end Sys2Proof.Machine
end

section
open Sys2Proof Sys2Proof.Machine

/-- Refutes O60: the clause on the kept replies lets every failing command be kept with an empty RESULT, but PROG_LOAD (0x121) carries
FAIL_INDEX when it fails (R273). Right after reset, a PROG_LOAD of endpoint 0x41 that is answered NO_ACCESS without a RESULT of its own is
kept as a block of 32 bytes, where the clause has one of 16. -/
theorem not_commandBlocksArrive : ¬ Obligations.CommandBlocksArrive := by
  unfold Obligations.CommandBlocksArrive
  intro h
  obtain ⟨-, -, hreplies, -⟩ := h State.reset rfl
  obtain ⟨hkept, -⟩ := hreplies 0x41 1 0 0 stNO_ACCESS 0x121 0 0 []
  rw [reply_progLoad_failed_replies 0x41 1 0 0 stNO_ACCESS 0 0 State.reset (by decide) (by decide), filter_keepReply_self] at hkept
  have hblock : replyBlock 0x121 1 stNO_ACCESS 0 ([0, 0, 0xFF, 0xFF] ++ zeros 12) = replyBlock 0x121 1 stNO_ACCESS 0 [] := by
    injection hkept with hhead
    injection hhead with _ hpair
    injection hpair
  have hlen := congrArg List.length hblock
  rw [length_replyBlock, length_replyBlock] at hlen
  exact absurd hlen (by decide)

end

section
/-! PROOFS. A link that leaves service: its packets, what waits for it, its counters and its command's result go with it, time and the rest of
the device stay (R305, R316, R317). -/

namespace Sys2Proof.Machine

theorem linkDone_keeps {α : Type} (p : State → α) (hr : ∀ s x, p { s with regs := x } = p s) (l : LinkId) (status : Byte) (s : State) :
    p (linkDone l status s) = p s := by
  unfold linkDone
  split
  · exact hr s _
  · rfl

@[simp] theorem linkDone_link (l : LinkId) (status : Byte) (s : State) (z : LinkId) : (linkDone l status s).link z = s.link z :=
  linkDone_keeps (fun x => x.link z) (fun _ _ => rfl) l status s

section Leaves
variable {α : Type} (p : State → α) (hr : ∀ s x, p { s with regs := x } = p s) (hc : ∀ s x, p { s with cnt64 := x } = p s)
  (hk : ∀ s x, p { s with links := x } = p s) (ho : ∀ s x, p { s with out := x } = p s)
include hk

theorem orphanOut_keeps (l : LinkId) (s : State) : p (orphanOut l s) = p s :=
  foldl_keeps p _ (fun s _ => hk s _) _ s

include ho

theorem freeOut_keeps (l : LinkId) (s : State) : p (freeOut l s) = p s := by
  have hwait : ∀ (s : State) (w : WaitFlit),
      p (match w.hold with | some i => if i = l then s else freeFlit i w.vc s | none => s) = p s := by
    intro s w
    split
    · split
      · rfl
      · exact freeFlit_keeps p hk ho _ _ _
    · rfl
  exact (foldl_keeps p _ (fun s _ => hk s _) _ _).trans (foldl_keeps p _ hwait _ s)

include hr hc

theorem closePkt_keeps (l : LinkId) (vc : Nat) (s : State) : p (closePkt l vc s) = p s := by
  unfold closePkt
  split
  · rfl
  · simp only
    split
    · exact (putFlit_keeps p hr hc hk ho _ _ _).trans (hk s _)
    · split
      · exact hk s _
      · exact (send_keeps p hr hc hk ho _ _).trans (hk s _)

theorem dropLink_keeps (l : LinkId) (st cause : Nat) (s : State) : p (dropLink l st cause s) = p s :=
  calc p (dropLink l st cause s)
    _ = p (freeOut l (orphanOut l ((List.range 6).foldl (fun s vc => closePkt l vc s) s))) := hk _ _
    _ = p (orphanOut l ((List.range 6).foldl (fun s vc => closePkt l vc s) s)) := freeOut_keeps p hk ho l _
    _ = p ((List.range 6).foldl (fun s vc => closePkt l vc s) s) := orphanOut_keeps p hk l _
    _ = p s := foldl_keeps p _ (fun s vc => closePkt_keeps p hr hc hk ho l vc s) _ s

/-- A link that goes DOWN changes the links, their counters and registers, the log and what leaves the device, and nothing else. -/
theorem linkDown_keeps (hl : ∀ s x, p { s with log := x } = p s) (l : LinkId) (cause : Nat) (s : State) : p (linkDown l cause s) = p s :=
  calc p (linkDown l cause s)
    _ = p ((dropLink l 7 cause (linkEv l .fault cause 7 s)).count .LINK_DOWN_CNT l.val) := linkDone_keeps p hr l _ _
    _ = p (dropLink l 7 cause (linkEv l .fault cause 7 s)) := count_keeps p hr hc _ _ _ _
    _ = p (linkEv l .fault cause 7 s) := dropLink_keeps p hr hc hk ho l 7 cause _
    _ = p s := logEv_keeps p hr hc hl ho s _

end Leaves

@[simp] theorem linkDown_time (l : LinkId) (cause : Nat) (s : State) : (linkDown l cause s).time = s.time :=
  linkDown_keeps State.time (fun _ _ => rfl) (fun _ _ => rfl) (fun _ _ => rfl) (fun _ _ => rfl) (fun _ _ => rfl) l cause s

theorem dropLink_link_self (l : LinkId) (st cause : Nat) (s : State) :
    ∃ d n, (dropLink l st cause s).link l = { LinkSt.init with st := st, cause := cause, dir := d, since := n } :=
  ⟨_, _, updLink_link_self _ l _⟩

/-- A link that is DOWN is as after a reset, but for its cause, its direction and the time. -/
theorem linkDown_link_self (l : LinkId) (cause : Nat) (s : State) :
    ∃ d n, (linkDown l cause s).link l = { LinkSt.init with st := 7, cause := cause, dir := d, since := n } := by
  obtain ⟨d, n, h⟩ := dropLink_link_self l 7 cause (linkEv l .fault cause 7 s)
  exact ⟨d, n, by unfold linkDown; rw [linkDone_link, count_link, h]⟩

theorem linkDown_down (l : LinkId) (cause : Nat) (s : State) :
    ((linkDown l cause s).link l).st = 7 ∧ ((linkDown l cause s).link l).cause = cause ∧ ((linkDown l cause s).link l).buf = [] := by
  obtain ⟨d, n, h⟩ := linkDown_link_self l cause s
  rw [h]
  exact ⟨rfl, rfl, rfl⟩

end Sys2Proof.Machine
end

section
/-! PROOFS. Lock lost and regained, the down timer, and the ends of RETRAIN and DOWN (R295, R303, R304, R492). -/

namespace Sys2Proof.Machine

variable {s : State} {l : LinkId}

/-! ### Lock lost and regained -/

theorem lockLoss_starts {lane : Fin 4} (h5 : (s.link l).st = 5) (hlane : (s.link l).lanes.testBit lane.val = true)
    (hd : (s.link l).downAt = none) :
    lockLoss l lane s = (s.updLink l fun k => { k with laneOk := setBits k.laneOk lane.val lane.val 0 }).updLink l fun k =>
      { k with downAt := some s.time.nclk } := if_pos ⟨h5, hlane, hd⟩

/-- No second timer starts, and none in RETRAIN (R492). -/
theorem lockLoss_starts_none (lane : Fin 4) (h : (s.link l).downAt ≠ none ∨ (s.link l).st = 6) :
    lockLoss l lane s = s.updLink l fun k => { k with laneOk := setBits k.laneOk lane.val lane.val 0 } := by
  refine if_neg fun ⟨h5, _, hd⟩ => ?_
  rcases h with h | h6
  · exact h hd
  · omega

theorem lockRegain_stops {lane : Fin 4} {a : Nat} (ha : (s.link l).downAt = some a)
    (hlock : (s.link l).lanes &&& setBits (s.link l).laneOk lane.val lane.val 1 = (s.link l).lanes) (ht : s.time.nclk ≤ a + s.tDown l) :
    lockRegain l lane s = ((s.updLink l fun k => { k with laneOk := setBits k.laneOk lane.val lane.val 1 }).updLink l fun k =>
      { k with downAt := none }).count .LOCK_GLITCH_CNT l.val := by
  unfold lockRegain
  simp only [updLink_link_self, ha]
  exact if_pos ⟨hlock, ht⟩

theorem laneLockLoss_starts_answers (hh : s.su.held = false) (lane : Fin 4) (h5 : (s.link l).st = 5)
    (hlane : (s.link l).lanes.testBit lane.val = true) (hd : (s.link l).downAt = none) : Answers (.laneLockLoss l lane) s fun t =>
      (t.link l).downAt = some s.time.nclk ∧ (t.link l).st = 5 ∧ (t.link l).laneOk = setBits (s.link l).laneOk lane.val lane.val 0 ∧
      t.time = s.time ∧ t.out = s.out := by
  refine answers_of_live (lockLoss l lane) rfl hh ?_
  rw [lockLoss_starts h5 hlane hd]
  simp only [settle_link, settle_time, settle_out, updLink_link_self, updLink_time, updLink_out, h5, and_self]

theorem laneLockLoss_starts_none_answers (hh : s.su.held = false) (lane : Fin 4) (h : (s.link l).downAt ≠ none ∨ (s.link l).st = 6) :
    Answers (.laneLockLoss l lane) s fun t =>
      (t.link l).downAt = (s.link l).downAt ∧ (t.link l).st = (s.link l).st ∧
      (t.link l).laneOk = setBits (s.link l).laneOk lane.val lane.val 0 ∧ t.time = s.time ∧ t.out = s.out := by
  refine answers_of_live (lockLoss l lane) rfl hh ?_
  rw [lockLoss_starts_none lane h]
  simp only [settle_link, settle_time, settle_out, updLink_link_self, updLink_time, updLink_out, and_self]

theorem laneLockRegain_answers (hh : s.su.held = false) {lane : Fin 4} {a : Nat} (ha : (s.link l).downAt = some a)
    (hlock : (s.link l).lanes &&& setBits (s.link l).laneOk lane.val lane.val 1 = (s.link l).lanes) (ht : s.time.nclk ≤ a + s.tDown l) :
    Answers (.laneLockRegain l lane) s fun t =>
      (t.link l).downAt = none ∧ (t.link l).st = (s.link l).st ∧ (t.link l).buf = (s.link l).buf := by
  refine answers_of_live (lockRegain l lane) rfl hh ?_
  rw [lockRegain_stops ha hlock ht]
  simp only [settle_link, count_link, updLink_link_self, and_self]

/-! ### The down timer at its limit -/

/-- The down timer that started at `a` reaches its limit. -/
def atLimit (l : LinkId) (a : Nat) (s : State) : State := advanceTo (a + s.tDown l) s

theorem atLimit_link (a : Nat) (z : LinkId) : (atLimit l a s).link z = s.link z := advanceTo_link s _ z
theorem le_atLimit (a : Nat) : a + s.tDown l ≤ (atLimit l a s).time.nclk := le_advanceTo _ s

theorem downTimer_stops {a : Nat} (ha : (s.link l).downAt = some a) (hlock : (s.link l).lanes &&& (s.link l).laneOk = (s.link l).lanes) :
    downTimer l s = ((atLimit l a s).updLink l fun k => { k with downAt := none }).count .LOCK_GLITCH_CNT l.val := by
  unfold downTimer
  simp only [ha]
  exact if_pos hlock

/-- Of four lanes in use a whole pair holds lock. -/
theorem downTimer_to_pair {a : Nat} (ha : (s.link l).downAt = some a) (hlost : (s.link l).lanes &&& (s.link l).laneOk ≠ (s.link l).lanes)
    (hpair : (s.link l).width = 3 ∧
      (((s.link l).lanes &&& (s.link l).laneOk) % 4 = 3 ∨ ((s.link l).lanes &&& (s.link l).laneOk) / 4 = 3)) :
    downTimer l s = enterRetrain l 2 (s.link l).rate (atLimit l a s) := by
  unfold downTimer
  simp only [ha]
  exact (if_neg hlost).trans (if_pos hpair)

/-- Of several lanes in use some lane holds lock, but no whole pair of four. -/
theorem downTimer_to_lane {a : Nat} (ha : (s.link l).downAt = some a) (hlost : (s.link l).lanes &&& (s.link l).laneOk ≠ (s.link l).lanes)
    (hpair : ¬((s.link l).width = 3 ∧
      (((s.link l).lanes &&& (s.link l).laneOk) % 4 = 3 ∨ ((s.link l).lanes &&& (s.link l).laneOk) / 4 = 3)))
    (hlane : 2 ≤ (s.link l).width ∧ (s.link l).lanes &&& (s.link l).laneOk ≠ 0) :
    downTimer l s = enterRetrain l 1 (s.link l).rate (atLimit l a s) := by
  unfold downTimer
  simp only [ha]
  exact (if_neg hlost).trans ((if_neg hpair).trans (if_pos hlane))

/-- A single lane in use lost lock, or every lane did. -/
theorem downTimer_to_down {a : Nat} (ha : (s.link l).downAt = some a) (hlost : (s.link l).lanes &&& (s.link l).laneOk ≠ (s.link l).lanes)
    (hnone : (s.link l).width < 2 ∨ (s.link l).lanes &&& (s.link l).laneOk = 0) : downTimer l s = linkDown l 1 (atLimit l a s) := by
  unfold downTimer
  simp only [ha]
  exact (if_neg hlost).trans ((if_neg (by omega)).trans (if_neg (by omega)))

theorem enterRetrain_link_self (w r : Nat) (s : State) : (enterRetrain l w r s).link l =
    { s.link l with st := 6, target := some (w, r), downAt := none, since := s.time.nclk } := by
  unfold enterRetrain
  rw [count_link, updLink_link_self]

theorem enterRetrain_time (w r : Nat) (s : State) : (enterRetrain l w r s).time = s.time := by
  unfold enterRetrain
  rw [count_time, updLink_time]

theorem linkDownTimer_stops_answers (hh : s.su.held = false) {a : Nat} (ha : (s.link l).downAt = some a)
    (hlock : (s.link l).lanes &&& (s.link l).laneOk = (s.link l).lanes) : Answers (.linkDownTimer l) s fun t =>
      (t.link l).st = (s.link l).st ∧ (t.link l).downAt = none ∧ (t.link l).buf = (s.link l).buf ∧ a + s.tDown l ≤ t.time.nclk := by
  refine answers_of_live (downTimer l) rfl hh ?_
  rw [downTimer_stops ha hlock]
  simp only [settle_link, settle_time, count_link, count_time, updLink_link_self, updLink_time, atLimit_link, le_atLimit, and_self]

theorem linkDownTimer_narrows_answers (hh : s.su.held = false) {a w : Nat}
    (hrun : downTimer l s = enterRetrain l w (s.link l).rate (atLimit l a s)) : Answers (.linkDownTimer l) s fun t =>
      (t.link l).st = 6 ∧ (t.link l).target = some (w, (s.link l).rate) ∧ (t.link l).downAt = none ∧ (t.link l).txN = (s.link l).txN ∧
      (t.link l).buf = (s.link l).buf ∧ (t.link l).sent = (s.link l).sent ∧ a + s.tDown l ≤ t.time.nclk := by
  refine answers_of_live (downTimer l) rfl hh ?_
  rw [hrun]
  simp only [settle_link, settle_time, enterRetrain_link_self, enterRetrain_time, atLimit_link, le_atLimit, and_self]

theorem linkDownTimer_down_answers (hh : s.su.held = false) {a : Nat} (hrun : downTimer l s = linkDown l 1 (atLimit l a s)) :
    Answers (.linkDownTimer l) s fun t =>
      (t.link l).st = 7 ∧ (t.link l).cause = 1 ∧ (t.link l).buf = [] ∧ a + s.tDown l ≤ t.time.nclk := by
  refine answers_of_live (downTimer l) rfl hh ?_
  rw [hrun]
  obtain ⟨hst, hcause, hbuf⟩ := linkDown_down l 1 (atLimit l a s)
  simp only [settle_link, settle_time, linkDown_time, hst, hcause, hbuf, le_atLimit, and_self]

/-! ### The ends of RETRAIN and of DOWN -/

/-- The link is ACTIVE again at a width and rate, on the lanes of that width among those that hold lock (R304). -/
def resumeAt (l : LinkId) (w r : Nat) (s : State) : State :=
  let lanes := lanesOf w (if (s.link l).laneOk = 0 then 15 else (s.link l).laneOk)
  s.updLink l fun k =>
    { k with st := 5, width := w, rate := r, target := none, lanes := lanes, laneOk := k.laneOk ||| lanes, since := s.time.nclk,
             replayOf := none }

theorem retrainDoneRun_resumes {p : PeerConfig} {w r : Nat} (h6 : (s.link l).st = 6) (ht : (s.link l).target = some (w, r))
    (hw : p.widths.toNat.testBit (w - 1) = true) (hr : p.rates.toNat.testBit (r - 1) = true) :
    retrainDoneRun l p s = linkDone l stOK (replay l (resumeAt l w r s)) := by
  unfold retrainDoneRun
  simp only [ht]
  exact if_pos ⟨h6, hw, hr⟩

theorem replay_of_buf_nil (h : (s.link l).buf = []) : replay l s = s := if_pos h

theorem resumeAt_link_self (w r : Nat) : (resumeAt l w r s).link l =
    { s.link l with
        st := 5, width := w, rate := r, target := none, lanes := lanesOf w (if (s.link l).laneOk = 0 then 15 else (s.link l).laneOk),
        laneOk := (s.link l).laneOk ||| lanesOf w (if (s.link l).laneOk = 0 then 15 else (s.link l).laneOk),
        since := s.time.nclk, replayOf := none } := updLink_link_self s l _

theorem retrainDone_answers (hh : s.su.held = false) {p : PeerConfig} {w r : Nat} (h6 : (s.link l).st = 6)
    (ht : (s.link l).target = some (w, r)) (hw : p.widths.toNat.testBit (w - 1) = true) (hr : p.rates.toNat.testBit (r - 1) = true)
    (hbuf : (s.link l).buf = []) : Answers (.retrainDone l p) s fun t =>
      (t.link l).st = 5 ∧ (t.link l).width = w ∧ (t.link l).rate = r ∧ (t.link l).target = none ∧ (t.link l).txN = (s.link l).txN ∧
      (t.link l).rxN = (s.link l).rxN ∧ (t.link l).sent = (s.link l).sent := by
  refine answers_of_live (retrainDoneRun l p) rfl hh ?_
  rw [retrainDoneRun_resumes h6 ht hw hr, replay_of_buf_nil (by rw [resumeAt_link_self]; exact hbuf)]
  simp only [settle_link, linkDone_link, resumeAt_link_self, and_self]

theorem retrainTimeout_answers (hh : s.su.held = false) (h6 : (s.link l).st = 6) : Answers (.retrainTimeout l) s fun t =>
      (t.link l).st = 7 ∧ (t.link l).cause = 6 ∧ (s.link l).since + msec 1 ≤ t.time.nclk := by
  refine answers_of_live (retrainTimeoutRun l) rfl hh ?_
  have hrun : retrainTimeoutRun l s = linkDown l 6 (advanceTo ((s.link l).since + msec 1) s) := if_pos h6
  obtain ⟨hst, hcause, -⟩ := linkDown_down l 6 (advanceTo ((s.link l).since + msec 1) s)
  rw [hrun]
  simp only [settle_link, settle_time, linkDown_time, hst, hcause, le_advanceTo, and_self]

theorem enterDetect_link_self (s : State) :
    (enterDetect l s).link l = { LinkSt.init with st := 1, cause := (s.link l).cause, since := s.time.nclk } := updLink_link_self s l _

theorem enterDetect_time (s : State) : (enterDetect l s).time = s.time := updLink_time s l _

theorem linkHoldoffExpire_answers (hh : s.su.held = false) (h7 : (s.link l).st = 7) : Answers (.linkHoldoffExpire l) s fun t =>
      (t.link l).st = 1 ∧ (s.link l).since + msec 1 ≤ t.time.nclk := by
  refine answers_of_live (holdoffExpire l) rfl hh ?_
  have hrun : holdoffExpire l s = enterDetect l (advanceTo ((s.link l).since + msec 1) s) := if_pos h7
  rw [hrun]
  simp only [settle_link, settle_time, enterDetect_link_self, enterDetect_time, le_advanceTo, and_self]

end Sys2Proof.Machine
end

section
open Sys2Proof Sys2Proof.Machine

/-- Settles O26: the down timer starts once and stops when lock is back; the lanes that hold lock at its limit decide; RETRAIN ends ACTIVE or
DOWN, and DOWN goes back to DETECT. -/
theorem linkLockLossAndRetrain : Obligations.LinkLockLossAndRetrain := by
  unfold Obligations.LinkLockLossAndRetrain
  intro s l hh
  refine ⟨fun lane h5 hlane hd => laneLockLoss_starts_answers hh lane h5 hlane hd,
    fun lane a ha hlock ht => laneLockRegain_answers hh ha hlock ht, fun lane h => laneLockLoss_starts_none_answers hh lane h,
    fun a ha => ⟨fun hlock => linkDownTimer_stops_answers hh ha hlock, fun hlost w hw => ?_,
      fun hlost hnone => linkDownTimer_down_answers hh (downTimer_to_down ha hlost hnone)⟩,
    fun p w r h6 ht hw hr hbuf => retrainDone_answers hh h6 ht hw hr hbuf, retrainTimeout_answers hh, linkHoldoffExpire_answers hh⟩
  rcases hw with ⟨hwidth, hpair, rfl⟩ | ⟨hpair, hwidth, hheld, rfl⟩
  · exact linkDownTimer_narrows_answers hh (downTimer_to_pair ha hlost ⟨hwidth, hpair⟩)
  · exact linkDownTimer_narrows_answers hh (downTimer_to_lane ha hlost hpair ⟨hwidth, hheld⟩)

end

section
/-! PROOFS. A step, and the end of every command: the lands take their levels (R424, R470, R472). -/

namespace Sys2Proof.Machine

/-- Whatever a command does, it ends by settling the lands. -/
theorem exec_eq_done (c : Instr) (s : State) : ∃ t, exec c s = done t := by
  cases c <;> exact ⟨_, rfl⟩

theorem exec_settles (c : Instr) (s : State) : ∃ t, exec c s = .next t ∧ t.Settled := by
  obtain ⟨t, ht⟩ := exec_eq_done c s
  exact ⟨settle t, ht, settle_settled t⟩

theorem step_of_pending_nil {s : State} (h : s.pending = []) : step s = .next (tick s) := by
  unfold step
  rw [h]

theorem step_of_pending_cons {s : State} {c : Instr} {r : List Instr} (h : s.pending = c :: r) : step s = exec c { s with pending := r } := by
  unfold step
  rw [h]

/-- The lands are at their levels after every step, whatever they were before it. -/
theorem step_settled {s t : State} (h : step s = .next t) : t.Settled := by
  cases hp : s.pending with
  | nil =>
    obtain rfl := Host.Outcome.next.inj ((step_of_pending_nil hp).symm.trans h)
    exact settle_settled _
  | cons c r =>
    obtain ⟨u, hu, hs⟩ := exec_settles c { s with pending := r }
    obtain rfl := Host.Outcome.next.inj (hu.symm.trans ((step_of_pending_cons hp).symm.trans h))
    exact hs

theorem tick_nclk (s : State) : (tick s).time.nclk = s.time.nclk + 1 := rfl

end Sys2Proof.Machine
end

section
open Sys2Proof Sys2Proof.Machine

/-- Settles O1: a step is the front command on the queue's rest, or one cycle of NCLK. -/
theorem stepTakesTheFront : Obligations.StepTakesTheFront := by
  unfold Obligations.StepTakesTheFront
  refine ⟨fun c s => step_of_pending_cons rfl, fun s h => ⟨tick s, step_of_pending_nil h, ?_, rfl⟩⟩
  rw [tick_nclk]
  exact Nat.lt_succ_self _

/-- Settles O2: each item of the reset state, by its definition. -/
theorem resetState : Obligations.ResetState := by
  unfold Obligations.ResetState
  have hlands : State.reset.Settled := by
    unfold State.Settled
    decide
  refine ⟨rfl, hlands, rfl, rfl, rfl, rfl, rfl, rfl, rfl, rfl, rfl, rfl, rfl, rfl, ?_, ?_, ?_, ?_, ?_, ?_, ?_, rfl, rfl, rfl, rfl, rfl, rfl, rfl⟩
  · exact fun l => congrArg LinkSt.st (Vector.getElem_replicate l.isLt)
  · exact fun c => congrArg ChanSt.st (Vector.getElem_replicate c.isLt)
  · exact fun c => congrArg CarSt.st (Vector.getElem_replicate c.isLt)
  · exact fun i => congrArg Slice.st (Vector.getElem_replicate i.isLt)
  · exact fun q => congrArg Quart.st (Vector.getElem_replicate q.isLt)
  · exact fun k => congrArg CoreSt.st (Vector.getElem_replicate k.isLt)
  · exact fun t => congrArg KeySlot.st (Vector.getElem_replicate t.isLt)

/-- Settles O3: every command ends by settling the lands, and so does a step without one. -/
theorem everyStepSettlesTheLands : Obligations.EveryStepSettlesTheLands := by
  unfold Obligations.EveryStepSettlesTheLands StepKeeps
  exact ⟨exec_settles, fun _ _ h _ => step_settled h⟩

end

section
/-! PROOFS. The header of a flit: each field reads back (R292). -/

namespace Sys2Proof.Machine

theorem b2n_le (b : Bool) : b2n b ≤ 1 := by cases b <;> decide

theorem b2n_eq_one {b : Bool} : b2n b = 1 ↔ b = true := by cases b <;> decide

theorem flitHdr_toNat {ftype vc mlen : Nat} (ht : ftype < 16) (hv : vc < 8) (hm : mlen < 256) (seq ack : Nat) (nak phase head tail : Bool) :
    (flitHdr ftype seq ack nak phase vc head tail mlen).toNat =
      ftype * 2 ^ 60 + seq % 4096 * 2 ^ 48 + ack % 4096 * 2 ^ 36 + b2n nak * 2 ^ 35 + b2n phase * 2 ^ 34 +
        vc * 2 ^ 31 + b2n head * 2 ^ 30 + b2n tail * 2 ^ 29 + mlen * 2 ^ 21 := by
  have hn := b2n_le nak
  have hp := b2n_le phase
  have hh := b2n_le head
  have hl := b2n_le tail
  unfold flitHdr w64
  rw [BitVec.toNat_ofNat]
  omega

theorem flitHdr_fields {ftype vc mlen : Nat} (ht : ftype < 16) (hv : vc < 8) (hm : mlen < 256) (seq ack : Nat)
    (nak phase head tail : Bool) :
    bits (flitHdr ftype seq ack nak phase vc head tail mlen).toNat 63 60 = ftype ∧
    bits (flitHdr ftype seq ack nak phase vc head tail mlen).toNat 47 36 = ack % 4096 ∧
    bits (flitHdr ftype seq ack nak phase vc head tail mlen).toNat 35 35 = b2n nak := by
  have hn := b2n_le nak
  have hp := b2n_le phase
  have hh := b2n_le head
  have hl := b2n_le tail
  rw [flitHdr_toNat ht hv hm]
  unfold bits
  refine ⟨?_, ?_, ?_⟩ <;> omega

/-- The type of a flit. -/
theorem flitHdr_ftype {ftype vc mlen : Nat} (ht : ftype < 16) (hv : vc < 8) (hm : mlen < 256) (seq ack : Nat)
    (nak phase head tail : Bool) : bits (flitHdr ftype seq ack nak phase vc head tail mlen).toNat 63 60 = ftype :=
  (flitHdr_fields ht hv hm seq ack nak phase head tail).1

/-- The count that a NULL or CREDIT flit acknowledges. -/
theorem flitHdr_unseq_ack {ftype : Nat} (ht : ftype < 16) (ack : Nat) (nak phase : Bool) :
    bits (flitHdr ftype 0 ack nak phase 0 false false 0).toNat 47 36 = ack % 4096 :=
  (flitHdr_fields ht (by decide) (by decide) 0 ack nak phase false false).2.1

theorem flitHdr_unseq_nak {ftype : Nat} (ht : ftype < 16) (ack : Nat) (nak phase : Bool) :
    bits (flitHdr ftype 0 ack nak phase 0 false false 0).toNat 35 35 = b2n nak :=
  (flitHdr_fields ht (by decide) (by decide) 0 ack nak phase false false).2.2

end Sys2Proof.Machine
end

section
/-! PROOFS. The steps of training and their time limits (R296). -/

namespace Sys2Proof.Machine

variable {s : State} {l : LinkId}

/-! ### Refusal -/

theorem linkRefuse_link_self (cause : Nat) (s : State) :
    (linkRefuse l cause s).link l = { s.link l with st := 8, cause := cause, since := s.time.nclk } := by
  unfold linkRefuse linkEv
  rw [updLink_link_self, logEv_link, logEv_time]

theorem linkRefuse_time (cause : Nat) (s : State) : (linkRefuse l cause s).time = s.time := by
  unfold linkRefuse linkEv
  rw [updLink_time, logEv_time]

/-! ### The CONFIG flit -/

/-- The peer as its CONFIG flit names it. -/
def namePeer (l : LinkId) (p : PeerConfig) (s : State) : State :=
  s.updLink l fun k => { k with peerId := p.peerId, peerRank := if p.isHost then 0 else p.rank, peerDepth := p.depths }

/-- The link goes on to AUTH, at the widest common width. -/
def enterAuth (l : LinkId) (p : PeerConfig) (s : State) : State :=
  let w := bestWidth p.widths.toNat (s.maxWidth l) (s.link l).laneOk
  (namePeer l p s).updLink l fun k =>
    { k with st := 4, dir := s.expectDir l, width := w, rate := k.trainRate, lanes := lanesOf w k.laneOk,
             since := (namePeer l p s).time.nclk }

/-- The end of the checks, with the cause of the first that fails: 0 where every one passes. -/
def judged (l : LinkId) (p : PeerConfig) (s : State) (cause : Nat) : State :=
  if cause = 0 then enterAuth l p s else linkRefuse l cause (namePeer l p s)

theorem configFlitRx_eq_judged {p : PeerConfig} (h3 : (s.link l).st = 3) : configFlitRx l p s = judged l p s (s.configCause l p) := by
  unfold configFlitRx State.configCause
  rw [if_neg (not_not.2 h3)]
  extract_lets dir kindOk' ex isDev w s1 kindOk
  have hkind : kindOk' = kindOk := by
    simp only [kindOk, kindOk']
    generalize dir = d
    split <;> simp_all
  have hid : (if ex = 0xFFFF then !decide isDev else decide (ex ≠ p.peerId.toNat)) = true ↔
      if ex = 0xFFFF then 0x20 ≤ p.peerId.toNat % 64 else ex ≠ p.peerId.toNat := by
    simp only [isDev]
    split_ifs <;> simp
  have hrate : (!decide (p.rates.toNat.testBit ((s.link l).trainRate - 1) = true ∧ 1 ≤ (s.link l).trainRate ∧
      (s.link l).trainRate ≤ s1.maxRate l)) = true ↔ ¬(1 ≤ (s.link l).trainRate ∧ (s.link l).trainRate ≤ s.maxRate l ∧
        p.rates.toNat.testBit ((s.link l).trainRate - 1) = true) := by
    rw [Bool.not_eq_true', decide_eq_false_iff_not, and_comm, and_assoc]
    exact Iff.rfl
  have hept : s1.eptHas l.val p.peerId.toNat = s.eptHas l.val p.peerId.toNat := rfl
  have hw : bestWidth p.widths.toNat (s.maxWidth l) (s.link l).laneOk = w := rfl
  simp only [hid, hrate, hkind, hept, hw, apply_ite (judged l p s)]
  split_ifs <;> rfl

theorem configFlitRx_passes {p : PeerConfig} (h3 : (s.link l).st = 3) (hc : s.configCause l p = 0) :
    configFlitRx l p s = enterAuth l p s := by
  rw [configFlitRx_eq_judged h3, hc]
  rfl

theorem configFlitRx_refuses {p : PeerConfig} (h3 : (s.link l).st = 3) (hc : s.configCause l p ≠ 0) :
    configFlitRx l p s = linkRefuse l (s.configCause l p) (namePeer l p s) := by
  rw [configFlitRx_eq_judged h3]
  exact if_neg hc

theorem configFlit_passes_answers (hh : s.su.held = false) {p : PeerConfig} (h3 : (s.link l).st = 3) (hc : s.configCause l p = 0) :
    Answers (.configFlit l p) s fun t =>
      (t.link l).st = 4 ∧ (t.link l).dir = s.expectDir l ∧ (t.link l).rate = (s.link l).trainRate ∧
        (t.link l).width = bestWidth p.widths.toNat (s.maxWidth l) (s.link l).laneOk ∧
        (t.link l).lanes = lanesOf (t.link l).width (s.link l).laneOk ∧ (t.link l).peerId = p.peerId ∧ (t.link l).peerDepth = p.depths ∧
        ∀ m : LinkId, m ≠ l → t.link m = s.link m := by
  refine answers_of_live (configFlitRx l p) rfl hh ?_
  have hother : ∀ m, m ≠ l → (enterAuth l p s).link m = s.link m := fun m hm =>
    (updLink_link_ne _ _ hm.symm).trans (updLink_link_ne _ _ hm.symm)
  rw [configFlitRx_passes h3 hc]
  simp only [settle_link, enterAuth, namePeer, updLink_link_self, true_and]
  exact fun m hm => hother m hm

theorem configFlit_refused_answers (hh : s.su.held = false) {p : PeerConfig} (h3 : (s.link l).st = 3) (hc : s.configCause l p ≠ 0) :
    Answers (.configFlit l p) s fun t => (t.link l).st = 8 ∧ (t.link l).cause = s.configCause l p := by
  refine answers_of_live (configFlitRx l p) rfl hh ?_
  rw [configFlitRx_refuses h3 hc, settle_link, linkRefuse_link_self]
  exact ⟨rfl, rfl⟩

/-! ### Signal, training and authentication -/

theorem laneSignalDetect_answers (hh : s.su.held = false) (h1 : (s.link l).st = 1) : Answers (.laneSignalDetect l) s fun t =>
      t = settle (s.updLink l fun k => { k with st := 2, trainRate := s.maxRate l, since := s.time.nclk }) :=
  answers_of_live (signalDetect l) rfl hh (congrArg settle (if_pos h1))

theorem linkTrainDone_answers (hh : s.su.held = false) (lanes : BitVec 4) (h2 : (s.link l).st = 2) : Answers (.linkTrainDone l lanes) s fun t =>
      ∃ hdr body, bits hdr.toNat 63 60 = 8 ∧
        t = settle (emit (.flit l hdr body)
          (s.updLink l fun k => { k with st := 3, laneOk := lanes.toNat, since := s.time.nclk })) :=
  answers_of_live (trainDone l lanes) rfl hh
    ⟨_, _, flitHdr_ftype (by decide) (by decide) (by decide) 0 0 false false false false, congrArg settle (if_pos h2)⟩

/-- The link carries traffic, every count at 0, as training and the CONFIG flit left it. -/
def enterActive (l : LinkId) (s : State) : State :=
  s.updLink l fun k =>
    { LinkSt.init with st := 5, dir := k.dir, rate := k.rate, width := k.width, laneOk := k.laneOk, lanes := k.lanes,
                       peerId := k.peerId, peerRank := k.peerRank, peerDepth := k.peerDepth, since := s.time.nclk,
                       creditAt := s.time.nclk, ackAt := s.time.nclk }

theorem authFlitRx_passes {v : AuthVerdict} (h4 : (s.link l).st = 4) (hchain : v.chainOk = true) (hsig : v.sigOk = true)
    (hopen : s.hw.secOpen = false) (htrust : (s.link l).dir = 3 → s.trusts v.anchor = true) : authFlitRx l v s = enterActive l s := by
  have hpass : (v.chainOk && v.sigOk && !s.hw.secOpen && (decide ((s.link l).dir ≠ 3) || s.trusts v.anchor)) = true := by
    by_cases h3 : (s.link l).dir = 3 <;> simp [hchain, hsig, hopen, h3, htrust]
  unfold authFlitRx
  rw [if_neg (not_not.2 h4)]
  exact if_pos hpass

theorem authFlitRx_refuses {v : AuthVerdict} (h4 : (s.link l).st = 4)
    (hbad : v.chainOk = false ∨ v.sigOk = false ∨ (s.link l).dir = 3 ∧ s.trusts v.anchor = false) : authFlitRx l v s = linkRefuse l 8 s := by
  have hfail : ¬(v.chainOk && v.sigOk && !s.hw.secOpen && (decide ((s.link l).dir ≠ 3) || s.trusts v.anchor)) = true := by
    rcases hbad with h | h | ⟨h3, h⟩
    · simp [h]
    · simp [h]
    · simp [h3, h]
  unfold authFlitRx
  rw [if_neg (not_not.2 h4)]
  exact if_neg hfail

theorem enterActive_link_self (s : State) : (enterActive l s).link l =
    { LinkSt.init with st := 5, dir := (s.link l).dir, rate := (s.link l).rate, width := (s.link l).width, laneOk := (s.link l).laneOk,
                       lanes := (s.link l).lanes, peerId := (s.link l).peerId, peerRank := (s.link l).peerRank,
                       peerDepth := (s.link l).peerDepth, since := s.time.nclk, creditAt := s.time.nclk, ackAt := s.time.nclk } :=
  updLink_link_self s l _

theorem authFlit_passes_answers (hh : s.su.held = false) {v : AuthVerdict} (h4 : (s.link l).st = 4) (hchain : v.chainOk = true)
    (hsig : v.sigOk = true) (hopen : s.hw.secOpen = false) (htrust : (s.link l).dir = 3 → s.trusts v.anchor = true) :
    Answers (.authFlit l v) s fun t =>
        (t.link l).st = 5 ∧ (t.link l).txN = 0 ∧ (t.link l).txU = 0 ∧ (t.link l).rxN = 0 ∧ (t.link l).rxU = 0 ∧
        (t.link l).ackN = 0 ∧ (t.link l).advN = 0 ∧ (t.link l).sent = List.replicate 6 0 ∧
        (t.link l).freed = List.replicate 6 0 ∧ (t.link l).peerFreed = List.replicate 6 0 ∧ (t.link l).width = (s.link l).width ∧
        (t.link l).rate = (s.link l).rate ∧ (t.link l).peerId = (s.link l).peerId := by
  refine answers_of_live (authFlitRx l v) rfl hh ?_
  rw [authFlitRx_passes h4 hchain hsig hopen htrust, settle_link, enterActive_link_self]
  exact ⟨rfl, rfl, rfl, rfl, rfl, rfl, rfl, rfl, rfl, rfl, rfl, rfl, rfl⟩

theorem authFlit_refused_answers (hh : s.su.held = false) {v : AuthVerdict} (h4 : (s.link l).st = 4)
    (hbad : v.chainOk = false ∨ v.sigOk = false ∨ (s.link l).dir = 3 ∧ s.trusts v.anchor = false) :
    Answers (.authFlit l v) s fun t => (t.link l).st = 8 ∧ (t.link l).cause = 8 := by
  refine answers_of_live (authFlitRx l v) rfl hh ?_
  rw [authFlitRx_refuses h4 hbad, settle_link, linkRefuse_link_self]
  exact ⟨rfl, rfl⟩

/-! ### Time limits -/

theorem trainTimeout_falls_back (h2 : (s.link l).st = 2) (hr : (s.link l).trainRate = 2) :
    trainTimeout l s = (advanceTo ((s.link l).since + msec 500) s).updLink l fun k =>
      { k with trainRate := 1, since := (advanceTo ((s.link l).since + msec 500) s).time.nclk } :=
  (if_pos h2).trans (if_pos hr)

theorem trainTimeout_gives_up (h2 : (s.link l).st = 2) (hr : (s.link l).trainRate ≠ 2) :
    trainTimeout l s = linkDown l 1 (advanceTo ((s.link l).since + msec 500) s) :=
  (if_pos h2).trans (if_neg hr)

theorem linkTrainTimeout_falls_back_answers (hh : s.su.held = false) (h2 : (s.link l).st = 2) (hr : (s.link l).trainRate = 2) :
    Answers (.linkTrainTimeout l) s fun t =>
      (t.link l).st = 2 ∧ (t.link l).trainRate = 1 ∧ (s.link l).since + msec 500 ≤ t.time.nclk := by
  refine answers_of_live (trainTimeout l) rfl hh ?_
  rw [trainTimeout_falls_back h2 hr]
  simp only [settle_link, settle_time, updLink_link_self, updLink_time, advanceTo_link, h2, le_advanceTo, and_self]

theorem linkTrainTimeout_down_answers (hh : s.su.held = false) (h2 : (s.link l).st = 2) (hr : (s.link l).trainRate ≠ 2) :
    Answers (.linkTrainTimeout l) s fun t => (t.link l).st = 7 ∧ (t.link l).cause = 1 := by
  refine answers_of_live (trainTimeout l) rfl hh ?_
  obtain ⟨hst, hcause, -⟩ := linkDown_down l 1 (advanceTo ((s.link l).since + msec 500) s)
  rw [trainTimeout_gives_up h2 hr]
  simp only [settle_link, hst, hcause, and_self]

theorem configTimeout_answers (hh : s.su.held = false) (h3 : (s.link l).st = 3) : Answers (.configTimeout l) s fun t =>
      (t.link l).st = 8 ∧ (s.link l).since + msec 1 ≤ t.time.nclk := by
  refine answers_of_live (configTimeoutRun l) rfl hh ?_
  have hrun : configTimeoutRun l s = linkRefuse l 0xA (advanceTo ((s.link l).since + msec 1) s) := if_pos h3
  rw [hrun]
  simp only [settle_link, settle_time, linkRefuse_link_self, linkRefuse_time, le_advanceTo, and_self]

theorem authTimeout_answers (hh : s.su.held = false) (h4 : (s.link l).st = 4) : Answers (.authTimeout l) s fun t =>
      (t.link l).st = 8 ∧ (t.link l).cause = 8 ∧ (s.link l).since + msec 50 ≤ t.time.nclk := by
  refine answers_of_live (authTimeoutRun l) rfl hh ?_
  have hrun : authTimeoutRun l s = linkRefuse l 8 (advanceTo ((s.link l).since + msec 50) s) := if_pos h4
  rw [hrun]
  simp only [settle_link, settle_time, linkRefuse_link_self, linkRefuse_time, le_advanceTo, and_self]

end Sys2Proof.Machine
end

section
open Sys2Proof Sys2Proof.Machine

/-- Settles O24: each training step leads to the next one, and what fails a check is REFUSED with its cause. -/
theorem linkTrainingRunsTheSteps : Obligations.LinkTrainingRunsTheSteps := by
  unfold Obligations.LinkTrainingRunsTheSteps
  intro s l hh
  exact ⟨laneSignalDetect_answers hh, linkTrainDone_answers hh, fun p h3 hc => configFlit_passes_answers hh h3 hc,
    fun p h3 hc => configFlit_refused_answers hh h3 hc,
    fun v h4 hchain hsig hopen htrust => authFlit_passes_answers hh h4 hchain hsig hopen htrust,
    fun v h4 hbad => authFlit_refused_answers hh h4 hbad⟩

/-- Settles O25: TRAIN falls back once and then goes DOWN; CONFIG and AUTH end REFUSED, their time passed. -/
theorem linkTrainingTimesOut : Obligations.LinkTrainingTimesOut := by
  unfold Obligations.LinkTrainingTimesOut
  intro s l hh
  exact ⟨linkTrainTimeout_falls_back_answers hh, linkTrainTimeout_down_answers hh,
    configTimeout_answers hh, authTimeout_answers hh⟩

end

section
/-! PROOFS. The checks of a received flit, in their order (R299, R302). -/

namespace Sys2Proof.Machine

/-- The failed tags of the last millisecond, with one more now. -/
def tagFailTimes (l : LinkId) (s : State) : List Nat := ((s.link l).tagFails ++ [s.time.nclk]).filter fun t => s.time.nclk < t + msec 1

/-- A flit's tag fails: four times in a millisecond take the link DOWN, else a NAK goes (R302). -/
def tagFailed (l : LinkId) (s : State) : State :=
  if 4 ≤ (tagFailTimes l s).length then linkDown l 3 ((s.updLink l fun k => { k with tagFails := tagFailTimes l s }).count .AUTH_FAIL_CNT l.val)
  else sendNak l ((s.updLink l fun k => { k with tagFails := tagFailTimes l s }).count .AUTH_FAIL_CNT l.val)

/-- A sequenced flit is accepted and counted; each 32nd is acknowledged at once (R299, R300). -/
def accepted (l : LinkId) (s : State) : State :=
  (s.updLink l fun k => { k with rxN := k.rxN + 1, nakAt := none, firstAt := some (k.firstAt.getD s.time.nclk) }).count .LNK_RX_FLITS l.val

def inSequence (l : LinkId) (s : State) : State :=
  if ((accepted l s).link l).advN + 32 ≤ ((accepted l s).link l).rxN then
    sendUnseq l 0 false [] ((accepted l s).updLink l fun k => { k with advN := k.rxN, firstAt := none })
  else accepted l s

/-- How far a sequenced flit lies behind the one that is next (R299). -/
def State.behind (s : State) (l : LinkId) (f : Flit) : Nat := ((s.link l).rxN + 4096 - bits f.hdr.toNat 59 48) % 4096

/-- A flit that has passed its checks, its ACK and NAK taken. -/
def rxTaken (l : LinkId) (f : Flit) (s : State) : Rx × State :=
  if (s.link l).st ≠ 5 then (.none, s)
  else if bits f.hdr.toNat 63 60 = 0 ∨ bits f.hdr.toNat 63 60 = 2 then (.unseq, s.updLink l fun k => { k with rxU := k.rxU + 1 })
  else if s.behind l f = 0 then (.seq, inSequence l s)
  else if s.behind l f ≤ 1024 then (.none, s.count .DUP_FLIT_CNT l.val)
  else (.none, sendNak l s)

theorem rxFlit_eq (l : LinkId) (f : Flit) (s : State) : rxFlit l f s =
    if (s.link l).st ≠ 5 then (.none, s)
    else if !f.crcOk then (.none, sendNak l (s.count .CRC_ERR_CNT l.val))
    else if 5 ≤ bits f.hdr.toNat 63 60 then (.none, s.count .AUTH_FAIL_CNT l.val)
    else if !f.tagOk then (.none, tagFailed l s)
    else rxTaken l f (takeAck l f.hdr s) := by
  unfold rxFlit tagFailed
  rw [apply_ite (Prod.mk Rx.none)]
  rfl

end Sys2Proof.Machine
end

section
/-! PROOFS. What no command of a link changes, message flits apart (R295 to R307, R316, R318). -/

namespace Sys2Proof.Machine

/-- The device but for its links, their registers and counters, the log, the clock, the free values, what leaves it, and its lands. -/
def offLinks (s : State) : State :=
  { s with links := State.reset.links, regs := [], cnt64 := [], log := State.reset.log, out := [], time := State.reset.time, free := 0,
           lands := State.reset.lands }

theorem eq_of_offLinks {s t : State} (h : offLinks t = offLinks s) :
    t = { s with links := t.links, regs := t.regs, cnt64 := t.cnt64, log := t.log, out := t.out, time := t.time, free := t.free, lands := t.lands } :=
  congrArg (fun x : State => { x with links := t.links, regs := t.regs, cnt64 := t.cnt64, log := t.log, out := t.out, time := t.time, free := t.free, lands := t.lands }) h

section Keeps
variable (s : State) (l : LinkId)

@[simp] theorem offLinks_settle : offLinks (settle s) = offLinks s := (rfl)
@[simp] theorem offLinks_updLink (f : LinkSt → LinkSt) : offLinks (s.updLink l f) = offLinks s := (rfl)
@[simp] theorem offLinks_emit (o : Out) : offLinks (emit o s) = offLinks s := (rfl)
@[simp] theorem offLinks_busy (r : Reg) (u : Nat) : offLinks (s.busy r u) = offLinks s := (rfl)
@[simp] theorem offLinks_result (r : Reg) (u : Nat) (st : Byte) (c : Nat) : offLinks (s.result r u st c) = offLinks s := (rfl)
@[simp] theorem offLinks_sendUnseq (t : Nat) (n : Bool) (b : Bytes) : offLinks (sendUnseq l t n b s) = offLinks s := (rfl)

@[simp] theorem offLinks_count (r : Reg) (u n : Nat) : offLinks (s.count r u n) = offLinks s :=
  count_keeps offLinks (fun _ _ => rfl) (fun _ _ => rfl) s r u n

@[simp] theorem offLinks_advanceTo (d : Nat) : offLinks (advanceTo d s) = offLinks s := advanceTo_keeps offLinks (fun _ _ => rfl) s d

@[simp] theorem offLinks_logEv (e : Ev) : offLinks (logEv e s) = offLinks s :=
  logEv_keeps offLinks (fun _ _ => rfl) (fun _ _ => rfl) (fun _ _ => rfl) (fun _ _ => rfl) s e

@[simp] theorem offLinks_refusedBusy (a b c d : Nat) : offLinks (refusedBusy a b c d s) = offLinks s := offLinks_logEv s _

@[simp] theorem offLinks_linkEv (k : EvKind) (c n : Nat) : offLinks (linkEv l k c n s) = offLinks s := offLinks_logEv s _

@[simp] theorem offLinks_linkConflict : offLinks (linkConflict l s) = offLinks s :=
  conflict_keeps offLinks (fun _ _ => rfl) (fun _ _ => rfl) (fun _ _ => rfl) (fun _ _ => rfl) s _ _ _ _ _

@[simp] theorem offLinks_sendSeq (t vc : Nat) (hd tl : Bool) (b : Bytes) : offLinks (sendSeq l t vc hd tl b s) = offLinks s :=
  sendSeq_keeps offLinks (fun _ _ => rfl) (fun _ _ => rfl) (fun _ _ => rfl) (fun _ _ => rfl) s l t vc hd tl b

@[simp] theorem offLinks_freeFlit (vc : Nat) : offLinks (freeFlit l vc s) = offLinks s :=
  freeFlit_keeps offLinks (fun _ _ => rfl) (fun _ _ => rfl) s l vc

@[simp] theorem offLinks_serveLink (n : Nat) : offLinks (serveLink l n s) = offLinks s :=
  serveLink_keeps offLinks (fun _ _ => rfl) (fun _ _ => rfl) (fun _ _ => rfl) (fun _ _ => rfl) n l s

@[simp] theorem offLinks_closePkt (vc : Nat) : offLinks (closePkt l vc s) = offLinks s :=
  closePkt_keeps offLinks (fun _ _ => rfl) (fun _ _ => rfl) (fun _ _ => rfl) (fun _ _ => rfl) l vc s

@[simp] theorem offLinks_dropLink (st c : Nat) : offLinks (dropLink l st c s) = offLinks s :=
  dropLink_keeps offLinks (fun _ _ => rfl) (fun _ _ => rfl) (fun _ _ => rfl) (fun _ _ => rfl) l st c s

@[simp] theorem offLinks_linkDone (st : Byte) : offLinks (linkDone l st s) = offLinks s :=
  linkDone_keeps offLinks (fun _ _ => rfl) l st s

@[simp] theorem offLinks_linkDown (c : Nat) : offLinks (linkDown l c s) = offLinks s :=
  linkDown_keeps offLinks (fun _ _ => rfl) (fun _ _ => rfl) (fun _ _ => rfl) (fun _ _ => rfl) (fun _ _ => rfl) l c s

@[simp] theorem offLinks_linkRefuse (c : Nat) : offLinks (linkRefuse l c s) = offLinks s := offLinks_linkEv s l _ _ _

@[simp] theorem offLinks_enterDetect : offLinks (enterDetect l s) = offLinks s := (rfl)

@[simp] theorem offLinks_enterRetrain (w r : Nat) : offLinks (enterRetrain l w r s) = offLinks s := offLinks_count _ _ _ _

@[simp] theorem offLinks_newKeys : offLinks (newKeys l s) = offLinks s := (rfl)

@[simp] theorem offLinks_randomBytes (n : Nat) : offLinks (randomBytes n s).2 = offLinks s := by
  induction n generalizing s with
  | zero => rfl
  | succ n ih => exact ih (draw s).2

@[simp] theorem offLinks_rekeyBegin : offLinks (rekeyBegin l s) = offLinks s := by
  simp [rekeyBegin]

@[simp] theorem offLinks_judged (p : PeerConfig) (c : Nat) : offLinks (judged l p s c) = offLinks s := by
  unfold judged
  split_ifs
  · rfl
  · exact offLinks_linkRefuse _ l c

@[simp] theorem offLinks_replay : offLinks (replay l s) = offLinks s := by
  have hemit : ∀ (b : List TxFlit) (s : State), offLinks (b.foldl (fun s f => emit (.flit l f.hdr f.body) s) s) = offLinks s :=
    foldl_keeps offLinks _ fun _ _ => rfl
  unfold replay
  simp only
  split_ifs
  · rfl
  · exact offLinks_linkDown s l 2
  · simp [hemit]

@[simp] theorem offLinks_sendNak : offLinks (sendNak l s) = offLinks s := by
  unfold sendNak
  split_ifs <;> simp

/-! ### Receiving -/

@[simp] theorem offLinks_takeAck (h : W64) : offLinks (takeAck l h s) = offLinks s := by
  unfold takeAck
  simp only
  split_ifs <;> simp

@[simp] theorem offLinks_tagFailed : offLinks (tagFailed l s) = offLinks s := by
  unfold tagFailed
  split_ifs <;> simp

@[simp] theorem offLinks_inSequence : offLinks (inSequence l s) = offLinks s := by
  unfold inSequence accepted
  split_ifs <;> simp

@[simp] theorem offLinks_rxFlit (f : Flit) : offLinks (rxFlit l f s).2 = offLinks s := by
  rw [rxFlit_eq, apply_ite Prod.snd, apply_ite Prod.snd, apply_ite Prod.snd, apply_ite Prod.snd]
  split_ifs
  · rfl
  · simp
  · simp
  · simp
  · unfold rxTaken
    split_ifs <;> simp

theorem offLinks_takeFlit (vc : Nat) {f : State → State} (hf : ∀ s, offLinks (f s) = offLinks s) :
    offLinks (takeFlit l vc f s) = offLinks s := by
  unfold takeFlit
  split_ifs
  · exact offLinks_linkDown s l 4
  · exact hf _

/-- A flit that is not in sequence has had all its effect. -/
theorem offLinks_of_rxFlit {f : Flit} {x : Rx} {u : State} (h : rxFlit l f s = (x, u)) : offLinks u = offLinks s := by
  rw [← offLinks_rxFlit s l f, h]

theorem offLinks_creditRx (f : Flit) : offLinks (creditRx l f s) = offLinks s := by
  unfold creditRx
  split
  · next h => simp [offLinks_of_rxFlit s l h]
  · next h => exact offLinks_of_rxFlit s l h

theorem offLinks_abortRx (f : Flit) : offLinks (abortRx l f s) = offLinks s := by
  unfold abortRx
  split
  · next h =>
    refine (offLinks_takeFlit _ l _ fun s => ?_).trans (offLinks_of_rxFlit s l h)
    simp only
    split <;> simp
  · next h => exact offLinks_of_rxFlit s l h

theorem offLinks_keyxRx (f : Flit) : offLinks (keyxRx l f s) = offLinks s := by
  unfold keyxRx
  split
  · next h =>
    split
    · simp [offLinks_of_rxFlit s l h]
    · simp [offLinks_of_rxFlit s l h]
  · next h => exact offLinks_of_rxFlit s l h

/-! ### Training, timers, lock and commands -/

theorem offLinks_signalDetect : offLinks (signalDetect l s) = offLinks s := by
  unfold signalDetect
  split_ifs <;> rfl

theorem offLinks_trainDone (x : BitVec 4) : offLinks (trainDone l x s) = offLinks s := by
  unfold trainDone
  split_ifs <;> rfl

theorem offLinks_trainTimeout : offLinks (trainTimeout l s) = offLinks s := by
  unfold trainTimeout
  simp only
  split_ifs <;> simp

theorem offLinks_configFlitRx (p : PeerConfig) : offLinks (configFlitRx l p s) = offLinks s := by
  by_cases h3 : (s.link l).st = 3
  · rw [configFlitRx_eq_judged h3, offLinks_judged]
  · rw [show configFlitRx l p s = s from if_pos h3]

theorem offLinks_configTimeoutRun : offLinks (configTimeoutRun l s) = offLinks s := by
  unfold configTimeoutRun
  split_ifs <;> simp

theorem offLinks_authFlitRx (v : AuthVerdict) : offLinks (authFlitRx l v s) = offLinks s := by
  unfold authFlitRx
  simp only
  split_ifs <;> simp

theorem offLinks_authTimeoutRun : offLinks (authTimeoutRun l s) = offLinks s := by
  unfold authTimeoutRun
  split_ifs <;> simp

theorem offLinks_replayTimeoutRun : offLinks (replayTimeoutRun l s) = offLinks s := by
  unfold replayTimeoutRun
  simp only
  split_ifs <;> simp

theorem offLinks_ackTimer : offLinks (ackTimer l s) = offLinks s := by
  unfold ackTimer
  simp only
  split
  · split_ifs <;> simp
  · rfl

theorem offLinks_creditTimerRun : offLinks (creditTimerRun l s) = offLinks s := by
  unfold creditTimerRun
  simp only
  split_ifs <;> simp

/-- A link command under R490 changes what its own effect does. -/
theorem offLinks_linkCmd (code : Nat) {f : State → State} (hf : offLinks (f s) = offLinks s) : offLinks (linkCmd l code f s) = offLinks s := by
  unfold linkCmd
  split_ifs
  · exact offLinks_refusedBusy s _ _ _ _
  · exact hf

theorem offLinks_linkRekeyRun : offLinks (linkRekeyRun l s) = offLinks s := by
  refine offLinks_linkCmd s l 4 ?_
  split_ifs <;> simp

theorem offLinks_rekeyTimeoutRun : offLinks (rekeyTimeoutRun l s) = offLinks s := by
  unfold rekeyTimeoutRun
  split <;> simp

theorem offLinks_lockLoss (x : Fin 4) : offLinks (lockLoss l x s) = offLinks s := by
  unfold lockLoss
  simp only
  split_ifs <;> rfl

theorem offLinks_lockRegain (x : Fin 4) : offLinks (lockRegain l x s) = offLinks s := by
  unfold lockRegain
  simp only
  split
  · split_ifs <;> simp
  · rfl

theorem offLinks_downTimer : offLinks (downTimer l s) = offLinks s := by
  unfold downTimer
  simp only
  split
  · split_ifs <;> simp
  · rfl

theorem offLinks_retrainDoneRun (p : PeerConfig) : offLinks (retrainDoneRun l p s) = offLinks s := by
  unfold retrainDoneRun
  simp only
  split
  · split_ifs <;> simp
  · rfl

theorem offLinks_retrainTimeoutRun : offLinks (retrainTimeoutRun l s) = offLinks s := by
  unfold retrainTimeoutRun
  split_ifs <;> simp

theorem offLinks_holdoffExpire : offLinks (holdoffExpire l s) = offLinks s := by
  unfold holdoffExpire
  split_ifs <;> simp

theorem offLinks_linkDisableRun : offLinks (linkDisableRun l s) = offLinks s := by
  refine offLinks_linkCmd s l 1 ?_
  simp only
  split_ifs <;> simp

theorem offLinks_linkDisableDoneRun : offLinks (linkDisableDoneRun l s) = offLinks s := by
  unfold linkDisableDoneRun
  simp only
  split_ifs <;> simp

theorem offLinks_linkEnableRun : offLinks (linkEnableRun l s) = offLinks s := by
  refine offLinks_linkCmd s l 2 ?_
  simp only
  split_ifs <;> simp

theorem offLinks_linkRetrainRun (x y : BitVec 2) : offLinks (linkRetrainRun l x y s) = offLinks s := by
  refine offLinks_linkCmd s l 3 ?_
  simp only
  split_ifs <;> simp

theorem offLinks_stallTimeoutRun (vc : Fin 6) : offLinks (stallTimeoutRun l vc s) = offLinks s := by
  unfold stallTimeoutRun
  simp only
  split
  · split_ifs <;> simp
  · rfl

end Keeps

/-- A command that only a running hub takes changes off the links what its run does. -/
theorem offLinks_of_live {s t : State} {f : State → State} (hf : ∀ s, offLinks (f s) = offLinks s) (h : live f s = .next t) :
    offLinks t = offLinks s := by
  obtain rfl := Host.Outcome.next.inj h
  rw [offLinks_settle]
  split_ifs
  · rfl
  · exact hf s

end Sys2Proof.Machine
end

section
open Sys2Proof Sys2Proof.Machine

/-- Settles O30: each link command's run keeps the device off the links. -/
theorem linkCommandsFrame : Obligations.LinkCommandsFrame := by
  unfold Obligations.LinkCommandsFrame
  intro s t c l hc h
  apply eq_of_offLinks
  rcases hc with rfl | ⟨x, rfl⟩ | rfl | ⟨x, rfl⟩ | rfl | ⟨x, rfl⟩ | rfl | ⟨x, rfl⟩ | ⟨x, rfl⟩ | ⟨x, rfl⟩ | ⟨x, rfl⟩ | ⟨x, rfl⟩ | rfl | rfl |
    rfl | rfl | rfl | ⟨x, rfl⟩ | ⟨x, rfl⟩ | rfl | ⟨x, rfl⟩ | rfl | rfl | rfl | rfl | rfl | ⟨x, y, rfl⟩ | ⟨x, rfl⟩
  · exact offLinks_of_live (fun s => offLinks_signalDetect s l) h
  · exact offLinks_of_live (fun s => offLinks_trainDone s l x) h
  · exact offLinks_of_live (fun s => offLinks_trainTimeout s l) h
  · exact offLinks_of_live (fun s => offLinks_configFlitRx s l x) h
  · exact offLinks_of_live (fun s => offLinks_configTimeoutRun s l) h
  · exact offLinks_of_live (fun s => offLinks_authFlitRx s l x) h
  · exact offLinks_of_live (fun s => offLinks_authTimeoutRun s l) h
  · exact offLinks_of_live (fun s => offLinks_rxFlit s l x) h
  · exact offLinks_of_live (fun s => offLinks_creditRx s l x) h
  · exact offLinks_of_live (fun s => offLinks_abortRx s l x) h
  · exact offLinks_of_live (fun s => offLinks_keyxRx s l x) h
  · exact offLinks_of_live (fun s => offLinks_rxFlit s l x) h
  · exact offLinks_of_live (fun s => offLinks_replayTimeoutRun s l) h
  · exact offLinks_of_live (fun s => offLinks_ackTimer s l) h
  · exact offLinks_of_live (fun s => offLinks_creditTimerRun s l) h
  · exact offLinks_of_live (fun s => offLinks_linkRekeyRun s l) h
  · exact offLinks_of_live (fun s => offLinks_rekeyTimeoutRun s l) h
  · exact offLinks_of_live (fun s => offLinks_lockLoss s l x) h
  · exact offLinks_of_live (fun s => offLinks_lockRegain s l x) h
  · exact offLinks_of_live (fun s => offLinks_downTimer s l) h
  · exact offLinks_of_live (fun s => offLinks_retrainDoneRun s l x) h
  · exact offLinks_of_live (fun s => offLinks_retrainTimeoutRun s l) h
  · exact offLinks_of_live (fun s => offLinks_holdoffExpire s l) h
  · exact offLinks_of_live (fun s => offLinks_linkDisableRun s l) h
  · exact offLinks_of_live (fun s => offLinks_linkDisableDoneRun s l) h
  · exact offLinks_of_live (fun s => offLinks_linkEnableRun s l) h
  · exact offLinks_of_live (fun s => offLinks_linkRetrainRun s l x y) h
  · exact offLinks_of_live (fun s => offLinks_stallTimeoutRun s l x) h

end

section
/-! PROOFS. What an accepted flit leaves of a link, of its registers and of the rest (R299, R300, R302, R307). -/

namespace Sys2Proof.Machine

variable {s : State} {l : LinkId}

theorem updLink_congr (s : State) {l : LinkId} {f g : LinkSt → LinkSt} (h : f (s.link l) = g (s.link l)) : s.updLink l f = s.updLink l g :=
  congrArg (fun k => ({ s with links := s.links.set l.val k l.isLt } : State)) h

theorem updLink_id (s : State) (l : LinkId) : s.updLink l (fun k => k) = s :=
  congrArg (fun v => ({ s with links := v } : State)) (Vector.set_getElem_self l.isLt)

theorem serveLink_of_txq_nil (h : (s.link l).txq = []) : serveLink l (s.link l).txq.length s = s := by
  rw [h]
  rfl

/-- The counts of a link once a flit's ACK has freed what stands before it (R300). -/
def ackedBy (hdr : W64) (now : Nat) (k : LinkSt) : LinkSt :=
  let d := (bits hdr.toNat 47 36 + 4096 - k.ackN % 4096) % 4096
  if d = 0 ∨ k.txN < k.ackN + d then k
  else { k with ackN := k.ackN + d, buf := k.buf.filter (fun f => k.ackN + d ≤ f.n), ackAt := now, replays := 0, replayOf := none }

theorem ackedBy_keeps (hdr : W64) (now : Nat) (k : LinkSt) : ackedBy hdr now k =
    { k with ackN := (ackedBy hdr now k).ackN, buf := (ackedBy hdr now k).buf, ackAt := (ackedBy hdr now k).ackAt,
             replays := (ackedBy hdr now k).replays, replayOf := (ackedBy hdr now k).replayOf } := by
  unfold ackedBy
  simp only
  split_ifs <;> rfl

theorem ackedBy_stale {hdr : W64} {now : Nat} {k : LinkSt} (h : (bits hdr.toNat 47 36 + 4096 - k.ackN % 4096) % 4096 = 0 ∨
    k.txN < k.ackN + (bits hdr.toNat 47 36 + 4096 - k.ackN % 4096) % 4096) : ackedBy hdr now k = k := if_pos h

theorem ackedBy_news {hdr : W64} {now : Nat} {k : LinkSt} (h : ¬((bits hdr.toNat 47 36 + 4096 - k.ackN % 4096) % 4096 = 0 ∨
    k.txN < k.ackN + (bits hdr.toNat 47 36 + 4096 - k.ackN % 4096) % 4096)) : ackedBy hdr now k =
      { k with ackN := k.ackN + (bits hdr.toNat 47 36 + 4096 - k.ackN % 4096) % 4096,
               buf := k.buf.filter (fun f => k.ackN + (bits hdr.toNat 47 36 + 4096 - k.ackN % 4096) % 4096 ≤ f.n),
               ackAt := now, replays := 0, replayOf := none } := if_neg h

/-- With nothing waiting and no NAK, an ACK changes the counts of its link alone. -/
theorem takeAck_quiet {hdr : W64} (hq : (s.link l).txq = []) (hn : bit hdr.toNat 35 = false) :
    takeAck l hdr s = s.updLink l (ackedBy hdr s.time.nclk) := by
  have hrest : ∀ t : State, (t.link l).txq = [] → (let u := serveLink l (t.link l).txq.length t
      if bit hdr.toNat 35 = true then if u.replayBusy l = true then u else replay l u else u) = t := by
    intro t ht
    simp only [hn, serveLink_of_txq_nil ht, Bool.false_eq_true, if_false]
  by_cases h : (bits hdr.toNat 47 36 + 4096 - (s.link l).ackN % 4096) % 4096 = 0 ∨
      (s.link l).txN < (s.link l).ackN + (bits hdr.toNat 47 36 + 4096 - (s.link l).ackN % 4096) % 4096
  · rw [updLink_congr s (g := fun k => k) (ackedBy_stale h), updLink_id]
    unfold takeAck
    simp only [if_pos h]
    exact hrest s hq
  · unfold takeAck
    simp only [if_neg h]
    exact (hrest _ (by rw [updLink_link_self]; exact hq)).trans (updLink_congr s (ackedBy_news h).symm)

/-- A flit that passes its checks on an ACTIVE link, with nothing waiting and no NAK. -/
theorem rxFlit_quiet {f : Flit} (h5 : (s.link l).st = 5) (hcrc : f.crcOk = true) (htag : f.tagOk = true)
    (hty : bits f.hdr.toNat 63 60 < 5) (hq : (s.link l).txq = []) (hn : bit f.hdr.toNat 35 = false) :
    rxFlit l f s = rxTaken l f (s.updLink l (ackedBy f.hdr s.time.nclk)) := by
  rw [rxFlit_eq, if_neg (not_not.2 h5), hcrc, htag, if_neg (by simp), if_neg (by omega), if_neg (by simp), takeAck_quiet hq hn]

theorem ackedBy_st (hdr : W64) (now : Nat) (k : LinkSt) : (ackedBy hdr now k).st = k.st := by rw [ackedBy_keeps]
theorem ackedBy_rxN (hdr : W64) (now : Nat) (k : LinkSt) : (ackedBy hdr now k).rxN = k.rxN := by rw [ackedBy_keeps]

/-- An unsequenced flit is counted. -/
theorem rxFlit_unseq {f : Flit} (h5 : (s.link l).st = 5) (hcrc : f.crcOk = true) (htag : f.tagOk = true)
    (hty : bits f.hdr.toNat 63 60 = 2) (hq : (s.link l).txq = []) (hn : bit f.hdr.toNat 35 = false) :
    rxFlit l f s = (.unseq, (s.updLink l (ackedBy f.hdr s.time.nclk)).updLink l fun k => { k with rxU := k.rxU + 1 }) := by
  rw [rxFlit_quiet h5 hcrc htag (by omega) hq hn]
  unfold rxTaken
  rw [updLink_link_self, ackedBy_st, if_neg (not_not.2 h5), if_pos (.inr hty)]

/-- A sequenced flit that came before is only counted. -/
theorem rxFlit_duplicate {f : Flit} (h5 : (s.link l).st = 5) (hcrc : f.crcOk = true) (htag : f.tagOk = true)
    (hty : bits f.hdr.toNat 63 60 = 1) (hb : 1 ≤ s.behind l f) (hb' : s.behind l f ≤ 1024) (hq : (s.link l).txq = [])
    (hn : bit f.hdr.toNat 35 = false) :
    rxFlit l f s = (.none, (s.updLink l (ackedBy f.hdr s.time.nclk)).count .DUP_FLIT_CNT l.val) := by
  have hbe : (s.updLink l (ackedBy f.hdr s.time.nclk)).behind l f = s.behind l f := by
    unfold State.behind
    rw [updLink_link_self, ackedBy_rxN]
  rw [rxFlit_quiet h5 hcrc htag (by omega) hq hn]
  unfold rxTaken
  rw [updLink_link_self, ackedBy_st, if_neg (not_not.2 h5), if_neg (by omega), hbe, if_neg (by omega), if_pos hb']

/-- What a link holds of the packets, the buffers and the keys of its input, with the count of the flits accepted. -/
def LinkSt.input (k : LinkSt) : LinkSt :=
  { LinkSt.init with rxN := k.rxN, opens := k.opens, got := k.got, freed := k.freed, rekeyAt := k.rekeyAt, txPhase := k.txPhase, rxPhase := k.rxPhase }

/-- From `s` to `u`, link `l` has accepted a flit: it is counted, what it calls for is acknowledged, and the rest of the device stays. -/
structure Accepted (l : LinkId) (s u : State) : Prop where
  input : (u.link l).input = { (s.link l).input with rxN := (s.link l).rxN + 1 }
  rest : u = { s with links := u.links, regs := u.regs, cnt64 := u.cnt64, out := u.out }
  depth : ∀ vc, u.vcDepth l vc = s.vcDepth l vc

/-- The fields of the input of a link that has accepted a flit. -/
theorem Accepted.fields {l : LinkId} {s u : State} (h : Accepted l s u) :
    (u.link l).rxN = (s.link l).rxN + 1 ∧ (u.link l).got = (s.link l).got ∧ (u.link l).freed = (s.link l).freed ∧
      (u.link l).opens = (s.link l).opens ∧ (u.link l).txPhase = (s.link l).txPhase ∧ (u.link l).rxPhase = (s.link l).rxPhase ∧
      (u.link l).rekeyAt = (s.link l).rekeyAt := by
  have hi := h.input
  generalize u.link l = k at hi ⊢
  simpa only [LinkSt.input, LinkSt.mk.injEq, true_and, and_true] using hi

theorem count_rest (s : State) (r : Reg) (u n : Nat) :
    s.count r u n = { s with regs := (s.count r u n).regs, cnt64 := (s.count r u n).cnt64 } := by
  unfold State.count
  split_ifs <;> rfl

theorem vcDepth_congr {s u : State} {l : LinkId} (h0 : u.reg .VC_DEPTH0 l.val = s.reg .VC_DEPTH0 l.val)
    (h1 : u.reg .VC_DEPTH1 l.val = s.reg .VC_DEPTH1 l.val) (h2 : u.reg .VC_DEPTH2 l.val = s.reg .VC_DEPTH2 l.val) (vc : Nat) :
    u.vcDepth l vc = s.vcDepth l vc := by
  unfold State.vcDepth State.rfld
  simp only
  split_ifs <;> simp only [h0, h1, h2]

/-- The counter of received flits is none of the registers of the buffers' depths. -/
theorem vcDepth_count_rxFlits (s : State) (l : LinkId) (n vc : Nat) : (s.count .LNK_RX_FLITS l.val n).vcDepth l vc = s.vcDepth l vc := by
  have hne : ∀ q : Reg, q.ctorIdx ≠ Reg.LNK_RX_FLITS.ctorIdx → (s.count .LNK_RX_FLITS l.val n).reg q l.val = s.reg q l.val :=
    fun q hq => count_reg_ne s n fun hk => hq (regKey_inj (by omega) (by omega) hk).1
  exact vcDepth_congr (hne _ (by decide)) (hne _ (by decide)) (hne _ (by decide)) vc

theorem vcDepth_of_regs {s u : State} (h : u.regs = s.regs) (l : LinkId) (vc : Nat) : u.vcDepth l vc = s.vcDepth l vc := by
  have hr : ∀ (q : Reg) (i : Nat), u.reg q i = s.reg q i := fun q i => by unfold State.reg; rw [h]
  exact vcDepth_congr (hr _ _) (hr _ _) (hr _ _) vc

theorem accepted_accepts (s : State) (l : LinkId) : Accepted l s (accepted l s) := by
  refine ⟨?_, ?_, fun vc => (vcDepth_count_rxFlits _ l 1 vc).trans (vcDepth_of_regs rfl l vc)⟩
  · unfold accepted
    rw [count_link, updLink_link_self]
    rfl
  · unfold accepted
    rw [count_rest]
    rfl

/-- An acknowledgement keeps what an accepted flit left. -/
theorem Accepted.acknowledged {s u : State} {l : LinkId} (h : Accepted l s u) :
    Accepted l s (sendUnseq l 0 false [] (u.updLink l fun k => { k with advN := k.rxN, firstAt := none })) := by
  obtain ⟨hin, hrest, hdepth⟩ := h
  refine ⟨?_, ?_, fun vc => (vcDepth_of_regs rfl l vc).trans (hdepth vc)⟩
  · unfold sendUnseq
    simp only [emit_link, updLink_link_self]
    exact hin
  · rw [hrest]
    rfl

theorem inSequence_accepts (s : State) (l : LinkId) : Accepted l s (inSequence l s) := by
  unfold inSequence
  split_ifs
  · exact (accepted_accepts s l).acknowledged
  · exact accepted_accepts s l

theorem Accepted.of_updLink {s u : State} {l : LinkId} {f : LinkSt → LinkSt} (hf : (f (s.link l)).input = (s.link l).input)
    (h : Accepted l (s.updLink l f) u) : Accepted l s u := by
  obtain ⟨hin, hrest, hdepth⟩ := h
  have hn : (f (s.link l)).input.rxN = (s.link l).input.rxN := by rw [hf]
  change (f (s.link l)).rxN = (s.link l).rxN at hn
  rw [updLink_link_self, hf, hn] at hin
  exact ⟨hin, hrest, fun vc => (hdepth vc).trans (vcDepth_of_regs rfl l vc)⟩

/-- A sequenced flit that is next is accepted (R299). -/
theorem rxFlit_accepts {f : Flit} (h5 : (s.link l).st = 5) (hcrc : f.crcOk = true) (htag : f.tagOk = true)
    (hty : bits f.hdr.toNat 63 60 = 1 ∨ bits f.hdr.toNat 63 60 = 3 ∨ bits f.hdr.toNat 63 60 = 4)
    (hseq : bits f.hdr.toNat 59 48 = (s.link l).rxN % 4096) (hq : (s.link l).txq = []) (hn : bit f.hdr.toNat 35 = false) :
    ∃ u, rxFlit l f s = (.seq, u) ∧ Accepted l s u := by
  refine ⟨inSequence l (s.updLink l (ackedBy f.hdr s.time.nclk)), ?_, (inSequence_accepts _ l).of_updLink (by rw [ackedBy_keeps]; rfl)⟩
  have hb : (s.updLink l (ackedBy f.hdr s.time.nclk)).behind l f = 0 := by
    unfold State.behind
    rw [updLink_link_self, ackedBy_rxN]
    omega
  rw [rxFlit_quiet h5 hcrc htag (by omega) hq hn]
  unfold rxTaken
  rw [updLink_link_self, ackedBy_st, if_neg (not_not.2 h5), if_neg (by omega), if_pos hb]

theorem Accepted.vcFull {s u : State} {l : LinkId} (h : Accepted l s u) (vc : Nat) : u.vcFull l vc = s.vcFull l vc := by
  obtain ⟨-, hgot, hfreed, -⟩ := h.fields
  unfold State.vcFull
  simp only [h.depth, hgot, hfreed]

/-- The flit of an accepted one that the input buffer of its VC has room for. -/
theorem Accepted.takeFlit {s u : State} {l : LinkId} (h : Accepted l s u) {vc : Nat} (hf : s.vcFull l vc = false) (g : State → State) :
    takeFlit l vc g u = g (u.updLink l fun k => { k with got := k.got.set vc (k.got.getD vc 0 + 1) }) :=
  if_neg (by rw [h.vcFull, hf]; exact Bool.false_ne_true)

/-- What a flit leaves in the input of its link when it goes from its buffer. -/
theorem freeFlit_input (vc : Nat) (s : State) :
    ((freeFlit l vc s).link l).rxN = (s.link l).rxN ∧ ((freeFlit l vc s).link l).opens = (s.link l).opens := by
  unfold freeFlit sendUnseq
  simp only
  split_ifs <;> simp only [emit_link, updLink_link_self, and_self]

theorem freeFlit_rest (vc : Nat) (s : State) : freeFlit l vc s = { s with links := (freeFlit l vc s).links, out := (freeFlit l vc s).out } := by
  unfold freeFlit
  simp only
  split_ifs <;> rfl

end Sys2Proof.Machine
end

section
/-! PROOFS. What each kind of flit does at an ACTIVE link (R293, R298 to R302, R307, R316). -/

namespace Sys2Proof.Machine

variable {s : State} {l : LinkId} {f : Flit}

theorem reservedFtypeFlit_answers (hh : s.su.held = false) (h5 : (s.link l).st = 5) (hcrc : f.crcOk = true)
    (hty : 5 ≤ bits f.hdr.toNat 63 60) : Answers (.reservedFtypeFlit l f) s fun t => t = settle (s.count .AUTH_FAIL_CNT l.val) := by
  refine answers_of_live (fun s => (rxFlit l f s).2) rfl hh ?_
  rw [rxFlit_eq, if_neg (not_not.2 h5), hcrc, if_neg (by simp), if_pos hty]

theorem sendNak_of_none (h : (s.link l).nakAt = none) : sendNak l s =
    (sendUnseq l 0 true [] (s.updLink l fun k => { k with nakAt := some s.time.nclk })).count .NAK_TX_CNT l.val := by
  unfold sendNak
  exact if_pos (by unfold State.nakFree; rw [h])

theorem sendUnseq_out (t : Nat) (n : Bool) (b : Bytes) (s : State) : (sendUnseq l t n b s).out =
    s.out ++ [.flit l (flitHdr t 0 (if n then (s.link l).rxN else (s.link l).advN) n (s.link l).txPhase 0 false false 0) (padTo 224 b)] := rfl

theorem sendUnseq_link_self (t : Nat) (n : Bool) (b : Bytes) (s : State) :
    (sendUnseq l t n b s).link l = { s.link l with txU := (s.link l).txU + 1 } := updLink_link_self s l _

theorem nullFlit_bad_crc_answers (hh : s.su.held = false) (h5 : (s.link l).st = 5) (hcrc : f.crcOk = false)
    (hnak : (s.link l).nakAt = none) : Answers (.nullFlit l f) s fun t =>
      ∃ hdr : W64, Out.flit l hdr (zeros 224) ∈ t.out ∧ bits hdr.toNat 35 35 = 1 ∧ bits hdr.toNat 47 36 = (s.link l).rxN % 4096 ∧
        (t.link l).rxN = (s.link l).rxN ∧ (t.link l).nakAt = some s.time.nclk := by
  refine answers_of_live (fun s => (rxFlit l f s).2) rfl hh ?_
  have hrun : rxFlit l f s = (.none, sendNak l (s.count .CRC_ERR_CNT l.val)) := by
    rw [rxFlit_eq, if_neg (not_not.2 h5), hcrc, if_pos (by simp)]
  rw [hrun, sendNak_of_none (by rw [count_link]; exact hnak)]
  refine ⟨flitHdr 0 0 (s.link l).rxN true (s.link l).txPhase 0 false false 0, ?_, flitHdr_unseq_nak (by decide) _ _ _,
    flitHdr_unseq_ack (by decide) _ _ _, ?_, ?_⟩
  · rw [settle_out, count_out, sendUnseq_out, updLink_link_self, count_link]
    exact List.mem_append_right _ (.head _)
  · rw [settle_link, count_link, sendUnseq_link_self, updLink_link_self, count_link]
  · rw [settle_link, count_link, sendUnseq_link_self, updLink_link_self, count_time]

theorem creditFlit_answers (hh : s.su.held = false) (h5 : (s.link l).st = 5) (hcrc : f.crcOk = true) (htag : f.tagOk = true)
    (hty : bits f.hdr.toNat 63 60 = 2) (hq : (s.link l).txq = []) (hn : bit f.hdr.toNat 35 = false) : Answers (.creditFlit l f) s fun t =>
        (t.link l).peerFreed = (List.range 6).map (fun v => leAt f.msg (4 * v) 4) ∧ (t.link l).rxU = (s.link l).rxU + 1 ∧
        (t.link l).rxN = (s.link l).rxN := by
  refine answers_of_live (creditRx l f) rfl hh ?_
  unfold creditRx
  rw [rxFlit_unseq h5 hcrc htag hty hq hn]
  simp only
  rw [serveLink_of_txq_nil (by simp only [updLink_link_self]; rw [ackedBy_keeps]; exact hq)]
  simp only [settle_link, updLink_link_self]
  rw [ackedBy_keeps]
  exact ⟨trivial, rfl, rfl⟩

theorem abortFlit_answers (hh : s.su.held = false) (h5 : (s.link l).st = 5) (hcrc : f.crcOk = true) (htag : f.tagOk = true)
    (hty : bits f.hdr.toNat 63 60 = 3) (hseq : bits f.hdr.toNat 59 48 = (s.link l).rxN % 4096) (hq : (s.link l).txq = [])
    (hn : bit f.hdr.toNat 35 = false) (hopen : (s.link l).opens.getD (bits f.hdr.toNat 33 31) none = none)
    (hfull : s.vcFull l (bits f.hdr.toNat 33 31) = false) : Answers (.abortFlit l f) s fun t => (t.link l).rxN = (s.link l).rxN + 1 := by
  refine answers_of_live (abortRx l f) rfl hh ?_
  obtain ⟨u, hu, ha⟩ := rxFlit_accepts h5 hcrc htag (.inr (.inl hty)) hseq hq hn
  obtain ⟨hrx, -, -, hop, -⟩ := ha.fields
  unfold abortRx
  rw [hu]
  simp only
  rw [ha.takeFlit hfull]
  simp only [(freeFlit_input _ _).2, updLink_link_self, hop, hopen, settle_link, count_link, (freeFlit_input _ _).1, hrx]

theorem keyxFlit_answers (hh : s.su.held = false) (h5 : (s.link l).st = 5) (hcrc : f.crcOk = true) (htag : f.tagOk = true)
    (hty : bits f.hdr.toNat 63 60 = 4) (hseq : bits f.hdr.toNat 59 48 = (s.link l).rxN % 4096) (hq : (s.link l).txq = [])
    (hn : bit f.hdr.toNat 35 = false) (hkey : ∃ a, (s.link l).rekeyAt = some a) : Answers (.keyxFlit l f) s fun t =>
        (t.link l).rekeyAt = none ∧ (t.link l).txPhase = !(s.link l).txPhase ∧ (t.link l).rxPhase = !(s.link l).rxPhase ∧
        (t.link l).rxN = (s.link l).rxN + 1 := by
  refine answers_of_live (keyxRx l f) rfl hh ?_
  obtain ⟨u, hu, ha⟩ := rxFlit_accepts h5 hcrc htag (.inr (.inr hty)) hseq hq hn
  obtain ⟨a, hkey⟩ := hkey
  obtain ⟨hrx, -, -, -, htx, hph, hre⟩ := ha.fields
  unfold keyxRx newKeys
  rw [hu]
  simp only [hre, hkey, settle_link, linkDone_link, updLink_link_self, hrx, htx, hph, and_self]

theorem msgFlit_duplicate_completes (hh : s.su.held = false) (h5 : (s.link l).st = 5) (hcrc : f.crcOk = true) (htag : f.tagOk = true)
    (hty : bits f.hdr.toNat 63 60 = 1) (hb : 1 ≤ s.behind l f) (hb' : s.behind l f ≤ 1024) (hq : (s.link l).txq = [])
    (hn : bit f.hdr.toNat 35 = false) : Completes (.msgFlit l f) s fun u =>
      (u.link l).rxN = (s.link l).rxN ∧ (u.link l).opens = (s.link l).opens ∧ u.out = s.out := by
  refine completes_of_pumped (msgFlitRx l f) rfl hh ?_
  unfold msgFlitRx
  rw [rxFlit_duplicate h5 hcrc htag hty hb hb' hq hn]
  simp only [count_link, count_out, updLink_out, updLink_link_self]
  rw [ackedBy_keeps]
  exact ⟨rfl, rfl, trivial⟩

/-- A flit in the middle of a packet for this device joins it. -/
theorem bodyFlit_joins {p : OpenPkt} (vc : Nat) (b : Bytes) (hp : p.port = 24) (s : State) :
    bodyFlit l vc false b p s = freeFlit l vc (setOpen l vc (some { p with bytes := p.bytes ++ b, at_ := s.time.nclk }) s) := by
  unfold bodyFlit
  simp [hp]

theorem msgFlit_joins_completes (hh : s.su.held = false) (h5 : (s.link l).st = 5) {p : OpenPkt} (hcrc : f.crcOk = true)
    (htag : f.tagOk = true) (hty : bits f.hdr.toNat 63 60 = 1) (hseq : bits f.hdr.toNat 59 48 = (s.link l).rxN % 4096)
    (hq : (s.link l).txq = []) (hn : bit f.hdr.toNat 35 = false) (hvc : bits f.hdr.toNat 33 31 < 6) (hhead : bit f.hdr.toNat 30 = false)
    (htail : bit f.hdr.toNat 29 = false) (hopen : (s.link l).opens.getD (bits f.hdr.toNat 33 31) none = some p) (hp : p.port = 24)
    (hfull : s.vcFull l (bits f.hdr.toNat 33 31) = false) : Completes (.msgFlit l f) s fun u =>
        (u.link l).rxN = (s.link l).rxN + 1 ∧
        (u.link l).opens.getD (bits f.hdr.toNat 33 31) none =
          some { p with bytes := p.bytes ++ f.msg.take (bits f.hdr.toNat 28 21 + 1), at_ := s.time.nclk } ∧
        u = { s with links := u.links, regs := u.regs, cnt64 := u.cnt64, out := u.out } := by
  refine completes_of_pumped (msgFlitRx l f) rfl hh ?_
  obtain ⟨u, hu, ha⟩ := rxFlit_accepts h5 hcrc htag (.inl hty) hseq hq hn
  obtain ⟨hrx, -, -, hop, -⟩ := ha.fields
  have htime : u.time = s.time := by rw [ha.rest]
  have hlen : bits f.hdr.toNat 33 31 < (s.link l).opens.length := by
    by_contra hlt
    rw [List.getD_eq_default _ _ (not_lt.1 hlt)] at hopen
    cases hopen
  generalize hv : bits f.hdr.toNat 33 31 = vc at *
  unfold msgFlitRx
  rw [hu]
  simp only [hv, hhead, htail, hty]
  rw [if_neg (by omega), ha.takeFlit hfull]
  simp only [Bool.false_eq_true, if_false, count_link, updLink_link_self, hop, hopen, bodyFlit_joins vc _ hp]
  refine ⟨?_, ?_, ?_⟩
  · rw [(freeFlit_input _ _).1]
    simp only [setOpen, updLink_link_self, count_link, hrx]
  · rw [(freeFlit_input _ _).2]
    simp only [setOpen, updLink_link_self, count_link, hop, count_time, updLink_time, htime, List.getD_eq_getElem?_getD,
      List.getElem?_set_self hlen, Option.getD_some]
  · rw [freeFlit_rest, setOpen, count_rest, ha.rest]
    rfl

end Sys2Proof.Machine
end

section
open Sys2Proof Sys2Proof.Machine

/-- Settles O27: a flit is checked, then counted or accepted, and does what its kind does. -/
theorem linkReceivesFlits : Obligations.LinkReceivesFlits := by
  unfold Obligations.LinkReceivesFlits
  intro s l f hh h5
  exact ⟨fun hcrc hty => reservedFtypeFlit_answers hh h5 hcrc hty, fun hcrc hnak => nullFlit_bad_crc_answers hh h5 hcrc hnak,
    fun hcrc htag hty hq hn => creditFlit_answers hh h5 hcrc htag hty hq hn,
    fun hcrc htag hty hseq hq hn hopen hfull => abortFlit_answers hh h5 hcrc htag hty hseq hq hn hopen hfull,
    fun hcrc htag hty hseq hq hn hkey => keyxFlit_answers hh h5 hcrc htag hty hseq hq hn hkey,
    fun hcrc htag hty hb hb' hq hn => msgFlit_duplicate_completes hh h5 hcrc htag hty hb hb' hq hn,
    fun p hcrc htag hty hseq hq hn hvc hhead htail hopen hp hfull =>
      msgFlit_joins_completes hh h5 hcrc htag hty hseq hq hn hvc hhead htail hopen hp hfull⟩

end

section
/-! PROOFS. The timers of an ACTIVE link (R298, R300, R301, R307, R316). -/

namespace Sys2Proof.Machine

variable {s : State} {l : LinkId}

/-! ### Replay -/

/-- The buffered flits of a link go out again, in order (R301). -/
def resend (l : LinkId) (b : List TxFlit) (s : State) : State := b.foldl (fun s f => emit (.flit l f.hdr f.body) s) s

theorem resend_out (l : LinkId) (b : List TxFlit) (s : State) : (resend l b s).out = s.out ++ b.map fun f => Out.flit l f.hdr f.body := by
  unfold resend
  induction b generalizing s with
  | nil => simp
  | cons f r ih => rw [List.foldl_cons, ih, emit_out, List.map_cons, List.append_assoc, List.singleton_append]

theorem resend_link (l : LinkId) (b : List TxFlit) (s : State) (z : LinkId) : (resend l b s).link z = s.link z :=
  foldl_keeps (fun x => x.link z) (fun s (f : TxFlit) => emit (.flit l f.hdr f.body) s) (fun _ _ => rfl) b s

theorem replay_goes_down (hb : (s.link l).buf ≠ []) (hr : (s.link l).replays = 15) : replay l s = linkDown l 2 s :=
  (if_neg hb).trans (if_pos (by omega))

theorem replay_resends (hb : (s.link l).buf ≠ []) (hr : (s.link l).replays < 15) : replay l s =
    (resend l (s.link l).buf (s.updLink l fun k =>
      { k with replays := k.replays + 1, replayOf := some (k.ackN, s.time.nclk), ackAt := s.time.nclk })).count
      .REPLAY_CNT l.val (s.link l).buf.length :=
  (if_neg hb).trans (if_neg (by omega))

theorem replayTimeoutRun_replays (h5 : (s.link l).st = 5) (hb : (s.link l).buf ≠ []) :
    replayTimeoutRun l s = replay l (advanceTo ((s.link l).ackAt + s.replayNs l) s) := if_pos ⟨h5, hb⟩

theorem replayTimeout_down_answers (hh : s.su.held = false) (h5 : (s.link l).st = 5) (hb : (s.link l).buf ≠ [])
    (hr : (s.link l).replays = 15) : Answers (.replayTimeout l) s fun t => (t.link l).st = 7 ∧ (t.link l).cause = 2 := by
  refine answers_of_live (replayTimeoutRun l) rfl hh ?_
  obtain ⟨hst, hcause, -⟩ := linkDown_down l 2 (advanceTo ((s.link l).ackAt + s.replayNs l) s)
  rw [replayTimeoutRun_replays h5 hb, replay_goes_down (by rwa [advanceTo_link]) (by rwa [advanceTo_link])]
  simp only [settle_link, hst, hcause, and_self]

theorem replayTimeout_resends_answers (hh : s.su.held = false) (h5 : (s.link l).st = 5) (hb : (s.link l).buf ≠ [])
    (hr : (s.link l).replays < 15) : Answers (.replayTimeout l) s fun t =>
      (t.link l).replays = (s.link l).replays + 1 ∧ t.out = s.out ++ (s.link l).buf.map (fun f => Out.flit l f.hdr f.body) ∧
      (t.link l).buf = (s.link l).buf := by
  refine answers_of_live (replayTimeoutRun l) rfl hh ?_
  rw [replayTimeoutRun_replays h5 hb, replay_resends (by rwa [advanceTo_link]) (by rwa [advanceTo_link])]
  simp only [settle_link, settle_out, count_link, count_out, resend_link, resend_out, updLink_link_self, updLink_out, advanceTo_link,
    advanceTo_out, and_self]

/-! ### Acknowledgement and credit -/

theorem ackCoalesceTimer_answers (hh : s.su.held = false) (h5 : (s.link l).st = 5) {a : Nat} (ha : (s.link l).firstAt = some a) :
    Answers (.ackCoalesceTimer l) s fun t =>
      (t.link l).advN = (s.link l).rxN ∧ a + nsec 200 ≤ t.time.nclk ∧
      ∃ hdr : W64, t.out = s.out ++ [.flit l hdr (zeros 224)] ∧ bits hdr.toNat 63 60 = 0 ∧ bits hdr.toNat 47 36 = (s.link l).rxN % 4096 := by
  refine answers_of_live (ackTimer l) rfl hh ?_
  have hrun : ackTimer l s = sendUnseq l 0 false [] ((advanceTo (a + nsec 200) s).updLink l fun k =>
      { k with advN := k.rxN, firstAt := none }) := by
    unfold ackTimer
    simp only [ha]
    exact if_pos h5
  rw [hrun]
  refine ⟨?_, ?_, flitHdr 0 0 (s.link l).rxN false (s.link l).txPhase 0 false false 0, ?_,
    flitHdr_ftype (by decide) (by decide) (by decide) _ _ _ _ _ _, flitHdr_unseq_ack (by decide) _ _ _⟩
  · rw [settle_link, sendUnseq_link_self, updLink_link_self, advanceTo_link]
  · exact le_advanceTo _ s
  · rw [settle_out, sendUnseq_out, updLink_link_self, updLink_out, advanceTo_link, advanceTo_out]
    rfl

/-- When the credits of a link are due again (R307). -/
def creditDue (k : LinkSt) : Nat :=
  match k.freedAt with
  | some t => min (t + nsec 100) (k.creditAt + usec 1)
  | none => k.creditAt + usec 1

/-- The freed counts go to the peer. -/
def sendCredit (l : LinkId) (s : State) : State :=
  let s := s.updLink l fun k => { k with freedSent := k.freed, freedAt := none, creditAt := s.time.nclk }
  sendUnseq l 2 false (((s.link l).freed.map fun n => toLe 4 n).flatten) s

theorem creditTimerRun_eq (h5 : (s.link l).st = 5) : creditTimerRun l s =
    if ((sendCredit l (advanceTo (creditDue (s.link l)) s)).link l).rekeyDue then rekeyBegin l (sendCredit l (advanceTo (creditDue (s.link l)) s))
    else sendCredit l (advanceTo (creditDue (s.link l)) s) := if_pos h5

theorem sendCredit_out (s : State) : (sendCredit l s).out = s.out ++ [.flit l
    (flitHdr 2 0 (s.link l).advN false (s.link l).txPhase 0 false false 0) (padTo 224 (((s.link l).freed.map fun n => toLe 4 n).flatten))] := by
  unfold sendCredit
  simp only [sendUnseq_out, updLink_link_self, updLink_out, Bool.false_eq_true, if_false]

theorem sendCredit_link_self (s : State) : (sendCredit l s).link l =
    { s.link l with freedSent := (s.link l).freed, freedAt := none, creditAt := s.time.nclk, txU := (s.link l).txU + 1 } := by
  unfold sendCredit
  rw [sendUnseq_link_self, updLink_link_self]

/-- No key is due while neither count has run its 2^36 flits (R298). -/
theorem rekeyDue_eq_false {k : LinkSt} (hn : k.txN < 2 ^ 36 + k.keyN) (hu : k.txU < 2 ^ 36 + k.keyU) : k.rekeyDue = false := by
  have h1 : ¬2 ^ 36 ≤ k.txN - k.keyN := by omega
  have h2 : ¬2 ^ 36 ≤ k.txU - k.keyU := by omega
  unfold LinkSt.rekeyDue
  rw [decide_eq_false h1, decide_eq_false h2, Bool.or_self, Bool.and_false]

theorem creditTimer_answers (hh : s.su.held = false) (h5 : (s.link l).st = 5) (hn : (s.link l).txN < 2 ^ 36 + (s.link l).keyN)
    (hu : (s.link l).txU + 1 < 2 ^ 36 + (s.link l).keyU) : Answers (.creditTimer l) s fun t =>
      ∃ hdr : W64, t.out = s.out ++ [.flit l hdr (padTo 224 (((s.link l).freed.map fun n => toLe 4 n).flatten))] ∧
        bits hdr.toNat 63 60 = 2 ∧ (t.link l).freedSent = (s.link l).freed := by
  refine answers_of_live (creditTimerRun l) rfl hh ?_
  have hdue : ((sendCredit l (advanceTo (creditDue (s.link l)) s)).link l).rekeyDue = false := by
    rw [sendCredit_link_self, advanceTo_link]
    exact rekeyDue_eq_false hn hu
  rw [creditTimerRun_eq h5, hdue, if_neg Bool.false_ne_true]
  refine ⟨flitHdr 2 0 (s.link l).advN false (s.link l).txPhase 0 false false 0, ?_,
    flitHdr_ftype (by decide) (by decide) (by decide) _ _ _ _ _ _, ?_⟩
  · rw [settle_out, sendCredit_out, advanceTo_out, advanceTo_link]
  · rw [settle_link, sendCredit_link_self, advanceTo_link]

/-! ### Rekeying and stalls -/

theorem rekeyTimeout_answers (hh : s.su.held = false) {a : Nat} (ha : (s.link l).rekeyAt = some a) : Answers (.rekeyTimeout l) s fun t =>
      (t.link l).st = 7 ∧ (t.link l).cause = 3 ∧ a + msec 50 ≤ t.time.nclk := by
  refine answers_of_live (rekeyTimeoutRun l) rfl hh ?_
  have hrun : rekeyTimeoutRun l s = linkDown l 3 (advanceTo (a + msec 50) s) := by
    unfold rekeyTimeoutRun
    simp only [ha]
  obtain ⟨hst, hcause, -⟩ := linkDown_down l 3 (advanceTo (a + msec 50) s)
  rw [hrun]
  simp only [settle_link, settle_time, linkDown_time, hst, hcause, le_advanceTo, and_self]

/-- A packet that is being discarded is closed without an answer (R316). -/
theorem closePkt_discarded {vc : Nat} {p : OpenPkt} (hp : (s.link l).opens.getD vc none = some p) (h31 : p.port = 31) :
    closePkt l vc s = s.updLink l fun k => { k with opens := k.opens.set vc none, drop := k.drop.set vc true } := by
  unfold closePkt
  simp only [hp]
  rw [dif_neg (by omega), if_pos h31]

theorem stallTimeout_discarded_answers (hh : s.su.held = false) (h5 : (s.link l).st = 5) {vc : Fin 6} {p : OpenPkt}
    (hp : (s.link l).opens.getD vc.val none = some p) (hd : (s.link l).downAt = none) (h31 : p.port = 31)
    (hlen : vc.val < (s.link l).drop.length) :
    Answers (.stallTimeout l vc) s fun t => (t.link l).opens.getD vc.val none = none ∧ (t.link l).drop.getD vc.val false = true := by
  refine answers_of_live (stallTimeoutRun l vc) rfl hh ?_
  have hrun : stallTimeoutRun l vc s = closePkt l vc.val
      ((advanceTo (p.at_ + usec (max 1 (min 1000 (s.rfld .RTR_CFG (linkQuarter l) 9 0)))) s).count .STALL_CLOSE_CNT l.val) := by
    unfold stallTimeoutRun
    simp only [hp]
    exact if_pos ⟨h5, hd⟩
  have hset : ((s.link l).opens.set vc.val none).getD vc.val none = none := by
    by_cases hlt : vc.val < (s.link l).opens.length <;> simp [List.getD_eq_getElem?_getD, hlt]
  rw [hrun, closePkt_discarded (by rw [count_link, advanceTo_link]; exact hp) h31]
  simp only [settle_link, updLink_link_self, count_link, advanceTo_link, hset, true_and]
  simp [List.getD_eq_getElem?_getD, hlen]

end Sys2Proof.Machine
end

section
open Sys2Proof Sys2Proof.Machine

/-- Settles O28: the timers replay, acknowledge, give credit, give up an exchange of keys, and close a stalled packet. -/
theorem linkTimersAct : Obligations.LinkTimersAct := by
  unfold Obligations.LinkTimersAct
  intro s l hh h5
  exact ⟨replayTimeout_down_answers hh h5, replayTimeout_resends_answers hh h5, fun a ha => ackCoalesceTimer_answers hh h5 ha,
    creditTimer_answers hh h5, fun a ha => rekeyTimeout_answers hh ha,
    fun vc p hp hd h31 hlen => stallTimeout_discarded_answers hh h5 hp hd h31 hlen⟩

end

section
/-! PROOFS. The ingress of a request: the checks of R31 steps 2 to 4, one equation each (R315, R321, R426). -/

namespace Sys2Proof.Machine

variable {s : State} {r : ReqMsg}

/-- An answer to a request, with its load level. -/
def sayReq (r : ReqMsg) (st : Byte) (hint load : Nat) (s : State) : State := send { cmpMsg r st hint with load := load } s

/-- What the ingress does with a request of a host, once its link, destination and service allow it. -/
def ingress (op : Nat) (r : ReqMsg) (e : Nat × Bytes) (s : State) : State :=
  let q0 := r.link.val / 6
  let n := s.countedLen op r
  let svc := s.rfld .HOST_CFG e.1 18 16
  let need := s.leaseNeeds e.1 svc r.link n
  if need ≠ [] then
    let s := need.foldl (fun s b => let x := s.lease b q0; s.setLease b q0 { x with asked := some (x.asked.getD 0) }) s
    { s with shp := { s.shp with waiting := s.shp.waiting ++ [⟨op, r.link, r, n, s.time.nclk, s.time.pt, need⟩] } }
  else
    match decideAdm e.1 svc r.link n s with
    | (.policed h, s) => sayReq r stPOLICED h (s.loadLevel q0 false) s
    | (.pass, s) => admitted op r e s

/-- A request of a known host that no earlier check turns away. -/
theorem reqArrive_eq_ingress {op : Nat} {e : Nat × Bytes} (hedge : s.edgeOk r.link r.src = true) (hme : s.hears r.link r.dst = true)
    (hopen : s.closedHint = none) (hserve : s.serving = true) (h6 : s.pair.role ≠ 6) (h5 : s.pair.role = 5 → r.dst ≠ s.myAlias)
    (hhost : s.hostEntry r.src = some e) (hfwd : r.fwd = false) : reqArrive op r s = ingress op r e s := by
  unfold reqArrive
  simp only [hedge, hme, hopen, hserve, hhost, hfwd, Bool.not_true, Bool.false_eq_true, if_false]
  rw [if_neg (fun h => h6 h.1), if_neg (fun h => h5 h.1 h.2)]
  rfl

theorem hears_of_isMe (h : s.isMe r.dst.toNat = true) : s.hears r.link r.dst = true := by
  unfold State.hears
  rw [h]
  rfl

/-- Tokens that do not suffice, or a gate that is closed, police a request, and no token is taken (R321). -/
theorem decideAdm_policed {host svc n : Nat} {l : LinkId} (h : s.gates.testBit svc = false ∨
    ∃ b ∈ admBuckets host svc l, s.bRate b ≠ 0 ∧ s.tokens b (l.val / 6) < n * tok) :
    ∃ hint reg u, decideAdm host svc l n s = (.policed hint, s.count reg u) := by
  have hpass : ¬(s.gates.testBit svc && !(s.bRate (hostBucket host) ≠ 0 && s.tokens (hostBucket host) (l.val / 6) < n * tok) &&
      !(s.bRate (classBucket svc) ≠ 0 && s.tokens (classBucket svc) (l.val / 6) < n * tok) &&
      !(s.bRate (portBucket l.val) ≠ 0 && s.tokens (portBucket l.val) (l.val / 6) < n * tok)) = true := by
    rcases h with h | ⟨b, hb, hrate, htok⟩
    · simp [h]
    · simp only [admBuckets, List.mem_cons, List.not_mem_nil, or_false] at hb
      rcases hb with hb | hb | hb <;> simp [← hb, hrate, htok]
  unfold decideAdm
  simp only
  rw [if_neg hpass]
  split_ifs <;> exact ⟨_, _, _, rfl⟩

theorem ingress_policed {op : Nat} {e : Nat × Bytes} (hneed : s.leaseNeeds e.1 (s.rfld .HOST_CFG e.1 18 16) r.link (s.countedLen op r) = [])
    {h : Nat} {a : State} (hd : decideAdm e.1 (s.rfld .HOST_CFG e.1 18 16) r.link (s.countedLen op r) s = (.policed h, a)) :
    ingress op r e s = sayReq r stPOLICED h (a.loadLevel (r.link.val / 6) false) a := by
  unfold ingress
  simp only [hneed, hd, ne_eq, not_true_eq_false, if_false]

end Sys2Proof.Machine
end

section
/-! PROOFS. Tokens, leases and the index plate (R321 to R328). -/

namespace Sys2Proof.Machine

variable {s : State}

/-! ### Buckets and leases -/

/-- A bucket set to a balance within its depth holds it. -/
theorem bNow_setBucket {b bal : Nat} (h : bal ≤ s.bCap b) : (s.setBucket b bal).bNow b = bal := by
  have hcap : (s.setBucket b bal).bCap b = s.bCap b := rfl
  have hget : (s.setBucket b bal).shp.buckets.get ⟨0, 0⟩ b = ⟨bal, max (s.shp.buckets.get ⟨0, 0⟩ b).at_ s.time.nclk⟩ := by
    unfold Sparse.get State.setBucket
    rw [Sparse.find_ins_self]
    rfl
  unfold State.bNow
  rw [hcap, hget]
  simp only [setBucket_time]
  rw [Nat.sub_eq_zero_of_le (Nat.le_max_right _ _), Nat.mul_zero, Nat.add_zero, Nat.min_eq_right h]

theorem bNow_le_bCap (s : State) (b : Nat) : s.bNow b ≤ s.bCap b := Nat.min_le_left _ _

theorem lease_setLease_self (s : State) (b q : Nat) (x : Lease) : (s.setLease b q x).lease b q = x := Sparse.get_put_self _ _ _ _

theorem bNow_setLease (s : State) (b q c : Nat) (x : Lease) : (s.setLease b q x).bNow c = s.bNow c := rfl

theorem leaseRequest_completes (hh : s.su.held = false) {b : Nat} {q : Quarter} (h : (s.lease b q.val).asked = some 0) :
    Completes (.leaseRequest b q) s fun u =>
      u.bNow b = s.bNow b - min (min 4096 (s.bBurst b * 64) * tok) (s.bNow b) ∧
      u.lease b q.val = { s.lease b q.val with asked := some (min (min 4096 (s.bBurst b * 64) * tok) (s.bNow b)) } ∧
      u = { s with shp := u.shp } := by
  refine completes_of_pumped (leaseServe b q) rfl hh ?_
  have hle : s.bNow b - min (min 4096 (s.bBurst b * 64) * tok) (s.bNow b) ≤ s.bCap b := (Nat.sub_le _ _).trans (bNow_le_bCap s b)
  unfold leaseServe
  simp only [h]
  exact ⟨(bNow_setLease _ _ _ _ _).trans (bNow_setBucket hle), lease_setLease_self _ _ _ _, rfl⟩

theorem leaseGrantRun_of_none_waiting {b : Nat} {q : Quarter} {g : Nat} (h : (s.lease b q.val).asked = some g) (hw : s.shp.waiting = []) :
    leaseGrantRun b q s = s.setLease b q.val ⟨(s.lease b q.val).bal + g, s.time.nclk, none⟩ := by
  have harrive : leaseArrive b q s = s.setLease b q.val ⟨(s.lease b q.val).bal + g, s.time.nclk, none⟩ := by
    unfold leaseArrive
    simp only [h]
  unfold leaseGrantRun
  simp only [hw, List.filter_nil, List.map_nil, List.foldl_nil, harrive]
  exact congrArg (fun w => ({ s with shp := { (s.setLease b q.val ⟨(s.lease b q.val).bal + g, s.time.nclk, none⟩).shp with waiting := w } } : State))
    hw.symm

theorem leaseGrant_completes (hh : s.su.held = false) {b : Nat} {q : Quarter} {g : Nat} (h : (s.lease b q.val).asked = some g)
    (hw : s.shp.waiting = []) : Completes (.leaseGrant b q) s fun u =>
      u.lease b q.val = ⟨(s.lease b q.val).bal + g, s.time.nclk, none⟩ ∧ u.shp.buckets = s.shp.buckets ∧ u = { s with shp := u.shp } := by
  refine completes_of_pumped (leaseGrantRun b q) rfl hh ?_
  rw [leaseGrantRun_of_none_waiting h hw]
  exact ⟨lease_setLease_self _ _ _ _, rfl, rfl⟩

theorem advanceTo_rest (d : Nat) (s : State) : advanceTo d s = { s with time := (advanceTo d s).time } := by
  unfold advanceTo
  split_ifs <;> rfl

theorem leaseIdleExpire_answers (hh : s.su.held = false) {b : Nat} {q : Quarter} (h : (s.lease b q.val).bal ≠ 0) :
    Answers (.leaseIdleExpire b q) s fun t =>
      (t.lease b q.val).bal = 0 ∧ (s.lease b q.val).used + usec 10 ≤ t.time.nclk ∧
      t.bNow b = min (s.bCap b) ((advanceTo ((s.lease b q.val).used + usec 10) s).bNow b + (s.lease b q.val).bal) ∧
      t = { s with shp := t.shp, time := t.time, lands := t.lands } := by
  refine answers_of_live (leaseReturn b q) rfl hh ?_
  generalize hv : advanceTo ((s.lease b q.val).used + usec 10) s = v
  have hrun : leaseReturn b q s =
      (v.setBucket b (min (v.bCap b) (v.bNow b + (s.lease b q.val).bal))).setLease b q.val { s.lease b q.val with bal := 0 } := by
    rw [← hv]
    exact if_neg h
  have hrest : v = { s with time := v.time } := by
    rw [← hv]
    exact advanceTo_rest _ s
  have hcap : v.bCap b = s.bCap b := by
    rw [hrest]
    rfl
  rw [hrun]
  refine ⟨?_, ?_, ?_, ?_⟩
  · exact congrArg Lease.bal (lease_setLease_self _ _ _ _)
  · rw [settle_time, setLease_time, setBucket_time, ← hv]
    exact le_advanceTo _ s
  · rw [← hcap]
    exact (bNow_setLease (v.setBucket b _) b q.val b _).trans (bNow_setBucket (Nat.min_le_left _ _))
  · rw [hrest]
    rfl

theorem rdShared_policed_completes (hh : s.su.held = false) {r : ReqMsg} {e : Nat × Bytes} (hedge : s.edgeOk r.link r.src = true)
    (hme : s.isMe r.dst.toNat = true) (hopen : s.closedHint = none) (hserve : s.serving = true) (h5 : s.pair.role ≠ 5)
    (h6 : s.pair.role ≠ 6) (hhost : s.hostEntry r.src = some e) (hfwd : r.fwd = false)
    (hneed : s.leaseNeeds e.1 (s.rfld .HOST_CFG e.1 18 16) r.link (s.countedLen 2 r) = [])
    (hfail : s.gates.testBit (s.rfld .HOST_CFG e.1 18 16) = false ∨
      ∃ b ∈ admBuckets e.1 (s.rfld .HOST_CFG e.1 18 16) r.link,
        s.bRate b ≠ 0 ∧ s.tokens b (r.link.val / 6) < s.countedLen 2 r * tok) :
    Completes (.rdShared r) s fun u =>
      (∃ (hint load : Nat), u.Sent { cmpMsg r 0x02 hint with load := load }) ∧ u.shp = s.shp ∧ u.pool = s.pool ∧ u.mem = s.mem ∧
        u.work = s.work := by
  refine completes_of_pumped (reqArrive 2 r) rfl hh ?_
  obtain ⟨hint, reg, u, hd⟩ := decideAdm_policed hfail
  rw [reqArrive_eq_ingress hedge (hears_of_isMe hme) hopen hserve h6 (fun h => absurd h h5) hhost hfwd, ingress_policed hneed hd]
  unfold sayReq
  refine ⟨⟨hint, _, send_sent _ _⟩, ?_, ?_, ?_, ?_⟩
  · rw [send_shp, count_shp]
  · rw [send_pool, count_pool]
  · rw [send_mem, count_mem]
  · rw [send_work, count_work]

/-! ### The index plate -/

theorem advancePool_rest (d : Nat) (s : State) : advancePool d s = { s with time := (advancePool d s).time } := rfl

theorem tgEntryBoundary_answers (hh : s.su.held = false) {i g e : Nat} (hrun : s.plateRuns = true)
    (he : entryAt (s.plate.offset s.ptNs) s.plate.entries 0 0 = some (i, g, e)) : Answers .tgEntryBoundary s fun t =>
        t.shp.idx = (i + 1) % s.plate.entries.length ∧ s.ptNs + (e - s.plate.offset s.ptNs) ≤ t.ptNs ∧
        t = { s with shp := t.shp, time := t.time, lands := t.lands } := by
  refine answers_of_live entryBoundary rfl hh ?_
  generalize hv : advancePool (s.ptNs + (e - s.plate.offset s.ptNs)) s = v
  have hturn : entryBoundary s = { v with shp := { v.shp with idx := (i + 1) % v.plate.entries.length } } := by
    unfold entryBoundary
    simp only [hrun, if_true, he, hv]
  have hrest : v = { s with time := v.time } := by
    rw [← hv]
    exact advancePool_rest _ s
  have hplate : v.plate = s.plate := by
    rw [hrest]
    rfl
  rw [hturn, hplate]
  refine ⟨rfl, ?_, ?_⟩
  · rw [← hv]
    exact le_advancePool _ s
  · rw [hrest]
    rfl

/-- The state but for its registers. -/
def offRegs (s : State) : State := { s with regs := [] }

theorem eq_of_offRegs {s t : State} (h : offRegs t = offRegs s) : t = { s with regs := t.regs } :=
  congrArg (fun x : State => { x with regs := t.regs }) h

theorem offRegs_foldl_setReg (r : Reg) (f : Nat → W32) (l : List Nat) (s : State) :
    offRegs (l.foldl (fun s i => s.setReg r i (f i)) s) = offRegs s := foldl_keeps offRegs (fun s i => s.setReg r i (f i)) (fun _ _ => rfl) l s

/-- Writing elements of one register leaves every other register. -/
theorem reg_foldl_setReg_other {r q : Reg} (f : Nat → W32) (n : Nat) (s : State) (hn : n ≤ 65536) {i : Nat} (hi : i < 65536)
    (h : q.ctorIdx ≠ r.ctorIdx) : ((List.range n).foldl (fun s i => s.setReg r i (f i)) s).reg q i = s.reg q i := by
  induction n with
  | zero => rfl
  | succ n ih =>
    rw [List.range_succ, List.foldl_append]
    exact (reg_setReg_ne _ _ fun hk => h (regKey_inj hi (by omega) hk).1).trans (ih (by omega))

theorem loadPlate_rest (b : Bytes) (s : State) : loadPlate b s = { s with regs := (loadPlate b s).regs } := by
  refine eq_of_offRegs ?_
  unfold loadPlate
  simp only
  rw [offRegs_foldl_setReg]
  rfl

theorem leNat_lt (b : Bytes) : leNat b < 2 ^ (8 * b.length) := by
  induction b with
  | nil => decide
  | cons x r ih =>
    have hx := x.isLt
    rw [leNat, List.length_cons, Nat.mul_succ, pow_add]
    omega

theorem leAt_lt (b : Bytes) (off n : Nat) : leAt b off n < 2 ^ (8 * n) := by
  refine (leNat_lt _).trans_le (Nat.pow_le_pow_right (by decide) (Nat.mul_le_mul_left 8 ?_))
  unfold cut
  exact List.length_take_le _ _

/-- A field of four bytes stands in a register as it is. -/
theorem w32_leAt_toNat (b : Bytes) (off : Nat) : (w32 (leAt b off 4)).toNat = leAt b off 4 := by
  unfold w32
  rw [BitVec.toNat_ofNat]
  exact Nat.mod_eq_of_lt (leAt_lt b off 4)

theorem loadPlate_regs (b : Bytes) (s : State) :
    (loadPlate b s).rfld .TG_LEN 0 6 0 = min 64 (leAt b 8 1) ∧ ((loadPlate b s).reg .TG_BASE_LO).toNat = leAt b 0 4 ∧
      ((loadPlate b s).reg .TG_BASE_HI).toNat = leAt b 4 4 ∧
      ∀ i < min 64 (leAt b 8 1), ((loadPlate b s).reg .TG_ENTRY i).toNat = leAt b (0x10 + 4 * i) 4 := by
  have hne : ∀ {q r : Reg} (v : W32) (t : State), q.ctorIdx ≠ r.ctorIdx → (t.setReg r 0 v).reg q 0 = t.reg q 0 :=
    fun v t h => reg_setReg_ne _ _ fun hk => h (regKey_inj (by decide) (by decide) hk).1
  unfold loadPlate
  simp only
  refine ⟨?_, ?_, ?_, fun i hi => ?_⟩
  · unfold State.rfld
    rw [reg_foldl_setReg_other _ _ _ (by decide) (by decide) (by decide), reg_setReg_self]
    unfold fld bits w32
    rw [BitVec.toNat_ofNat]
    omega
  · rw [reg_foldl_setReg_other _ _ _ (by decide) (by decide) (by decide), hne _ _ (by decide), hne _ _ (by decide), reg_setReg_self,
      w32_leAt_toNat]
  · rw [reg_foldl_setReg_other _ _ _ (by decide) (by decide) (by decide), hne _ _ (by decide), reg_setReg_self, w32_leAt_toNat]
  · rw [reg_foldl_setReg _ _ _ _ (by decide) (by omega), if_pos hi, w32_leAt_toNat]

theorem pendingPlateStart_answers (hh : s.su.held = false) {b : Bytes} {a : Nat} (hv : s.ptValid = true) (hn : s.shp.next = some (b, a)) :
    Answers .pendingPlateStart s fun t =>
      t.shp.next = none ∧ t.shp.started = true ∧ t.shp.idx = 0 ∧ a ≤ t.ptNs ∧
      t.rfld .TG_LEN 0 6 0 = min 64 (leAt b 8 1) ∧ (t.reg .TG_BASE_LO).toNat = leAt b 0 4 ∧ (t.reg .TG_BASE_HI).toNat = leAt b 4 4 ∧
      (∀ i < min 64 (leAt b 8 1), (t.reg .TG_ENTRY i).toNat = leAt b (0x10 + 4 * i) 4) ∧
      t = { s with shp := t.shp, time := t.time, regs := t.regs, lands := t.lands } := by
  refine answers_of_live plateStart rfl hh ?_
  have hrun : plateStart s = { loadPlate b (advancePool a s) with
      shp := { (loadPlate b (advancePool a s)).shp with next := none, started := true, idx := 0 } } := by
    unfold plateStart
    simp only [hv, Bool.not_true, Bool.false_eq_true, if_false, hn]
  obtain ⟨hlen, hlo, hhi, hentry⟩ := loadPlate_regs b (advancePool a s)
  have hrest := loadPlate_rest b (advancePool a s)
  rw [hrun]
  generalize loadPlate b (advancePool a s) = v at *
  have htime : v.time = (advancePool a s).time := by rw [hrest]
  refine ⟨rfl, rfl, rfl, ?_, hlen, hlo, hhi, hentry, ?_⟩
  · unfold State.ptNs
    rw [settle_time, htime]
    exact le_advancePool a s
  · rw [hrest]
    rfl

end Sys2Proof.Machine
end

section
open Sys2Proof Sys2Proof.Machine

/-- Settles O31: tokens move by lease and come back, and a request that they do not cover takes none. -/
theorem admissionTakesTokens : Obligations.AdmissionTakesTokens := by
  unfold Obligations.AdmissionTakesTokens
  refine ⟨fun s b q hh => ⟨leaseRequest_completes hh, fun g h hw => leaseGrant_completes hh h hw, leaseIdleExpire_answers hh⟩, ?_⟩
  intro s r e hh hedge hme hopen hserve h5 h6 hhost hfwd hneed hfail
  exact rdShared_policed_completes hh hedge hme hopen hserve h5 h6 hhost hfwd hneed hfail

/-- Settles O32: the plate in force goes to its next entry, and a pending one is put into the registers at its start. -/
theorem indexPlateTurns : Obligations.IndexPlateTurns := by
  unfold Obligations.IndexPlateTurns
  intro s hh
  exact ⟨fun i g e hrun he => tgEntryBoundary_answers hh hrun he, fun b a hv hn => pendingPlateStart_answers hh hv hn⟩

end

section
/-! PROOFS. What a detected tamper source does (R354, R355, R425). -/

namespace Sys2Proof.Machine

variable {s : State}

/-- A source on record: its bit, one entry in each log. -/
theorem record_hw (b : Nat) (s : State) : (record b s).hw = { s.hw with tamper := s.hw.tamper ||| byte (2 ^ b) } := by
  unfold record tamperEv
  rw [logEv_hw, plogEv_hw]

theorem record_keeps {α : Type} (p : State → α) (hr : ∀ s x, p { s with regs := x } = p s) (hc : ∀ s x, p { s with cnt64 := x } = p s)
    (hl : ∀ s x, p { s with log := x } = p s) (ho : ∀ s x, p { s with out := x } = p s) (hp : ∀ s x, p { s with plog := x } = p s)
    (hw : ∀ s x, p { s with hw := x } = p s) (b : Nat) (s : State) : p (record b s) = p s :=
  (logEv_keeps p hr hc hl ho _ _).trans ((hp _ _).trans (hw s _))

theorem record_su (b : Nat) (s : State) : (record b s).su = s.su :=
  record_keeps State.su (fun _ _ => rfl) (fun _ _ => rfl) (fun _ _ => rfl) (fun _ _ => rfl) (fun _ _ => rfl) (fun _ _ => rfl) b s

theorem record_mem (b : Nat) (s : State) : (record b s).mem = s.mem :=
  record_keeps State.mem (fun _ _ => rfl) (fun _ _ => rfl) (fun _ _ => rfl) (fun _ _ => rfl) (fun _ _ => rfl) (fun _ _ => rfl) b s

theorem record_work (b : Nat) (s : State) : (record b s).work = s.work :=
  record_keeps State.work (fun _ _ => rfl) (fun _ _ => rfl) (fun _ _ => rfl) (fun _ _ => rfl) (fun _ _ => rfl) (fun _ _ => rfl) b s

/-- The hub in reset, its start on record, before Heartwood's continuity is looked at (R350, R425). -/
def hubReset (cause : Byte) (s : State) : State :=
  rtcStart (plogEv 1 cause.toNat 0
    { porState s with hw := { (porState s).hw with eph := Vector.replicate 16 none, resetPending := none, secOpen := false },
                      su := { (porState s).su with hosted := (porState s).pin.hosted } })

theorem rtcStart_rest (s : State) : rtcStart s = { s with time := (rtcStart s).time } := by
  unfold rtcStart
  split_ifs <;> rfl

theorem hubReset_hw (cause : Byte) (s : State) : (hubReset cause s).hw =
    { s.hw with eph := Vector.replicate 16 none, resetPending := none, secOpen := false } := by
  unfold hubReset
  rw [rtcStart_rest]
  rfl

theorem hubReset_memory (cause : Byte) (s : State) : (hubReset cause s).mem = [] ∧ (hubReset cause s).links = State.reset.links := by
  unfold hubReset
  rw [rtcStart_rest]
  exact ⟨rfl, rfl⟩

/-- No gap in what Heartwood watched. -/
def watched (s : State) : State := { s with hw := { s.hw with watchGap := false } }

/-- Where Heartwood has watched without a gap, the hub starts with the vault's own part of step 1. -/
theorem powerOnReset_unbroken {cause : Byte} (hh : s.su.held = false) (hcont : s.hw.cont = contWord s.hw.epoch) :
    powerOnReset cause s = vaultStart (watched (hubReset cause s)) := by
  have hfound : (hubReset cause s).hw.cont = contWord (hubReset cause s).hw.epoch := by
    rw [hubReset_hw]
    exact hcont
  unfold powerOnReset
  rw [hh, if_neg Bool.false_ne_true]
  exact if_pos hfound

/-- Step 1 leaves a vault with a seed, and no ERASE to show, as it is. -/
theorem vaultStart_intact (hp : s.hw.erasePending = false) (hs : s.hw.seed ≠ none) : vaultStart s = s := by
  obtain ⟨n, hn⟩ := Option.ne_none_iff_exists'.1 hs
  unfold vaultStart
  simp only [hp, Bool.false_eq_true, if_false, hn]

/-- After an ERASE, step 1 shows it, turns LIVE slots LOST and draws a new seed (R341, R355). -/
theorem vaultStart_erased (hp : s.hw.erasePending = true) (hs : s.hw.seed = none) :
    (vaultStart s).hw.tamper = s.hw.tamper ||| 0x80#8 ∧ (vaultStart s).hw.eraseCnt = s.hw.eraseCnt ∧
      (vaultStart s).hw.kakEpoch = s.hw.kakEpoch + 1 ∧ (vaultStart s).hw.seed ≠ none ∧ (vaultStart s).hw.eph = s.hw.eph ∧
      (vaultStart s).hw.keys = s.hw.keys.map (fun k => if k.st = 1 then { k with st := 2 } else k) ∧
      (vaultStart s).mem = s.mem ∧ (vaultStart s).links = s.links := by
  unfold vaultStart
  simp only [hp, if_true, hs]
  unfold nvWrite
  simp only
  split_ifs <;> simp [draw]

/-! ### The three responses -/

theorem respond_record (b : Nat) (s : State) : respond b 0 s = record b s := rfl
theorem respond_reset (b : Nat) (s : State) : respond b 1 s = powerOnReset 7 (record b s) := rfl
theorem respond_erase (b : Nat) (s : State) : respond b 2 s = powerOnReset 7 (eraseVault (record b s)) := rfl

/-- RESET marks the source and starts the hub anew; the durable keys and the seed stay. -/
theorem respond_reset_effect (b : Nat) (hh : s.su.held = false) (hcont : s.hw.cont = contWord s.hw.epoch)
    (hp : s.hw.erasePending = false) (hs : s.hw.seed ≠ none) :
    (respond b 1 s).hw.tamper = s.hw.tamper ||| byte (2 ^ b) ∧ (respond b 1 s).hw.keys = s.hw.keys ∧
      (∀ i : TenantId, (respond b 1 s).hw.eph[i] = none) ∧ (respond b 1 s).hw.eraseCnt = s.hw.eraseCnt ∧
      (respond b 1 s).mem = [] ∧ (respond b 1 s).links = State.reset.links ∧ (respond b 1 s).hw.seed = s.hw.seed := by
  obtain ⟨hmem, hlinks⟩ := hubReset_memory 7 (record b s)
  have hhw : (watched (hubReset 7 (record b s))).hw = { (hubReset 7 (record b s)).hw with watchGap := false } := rfl
  rw [hubReset_hw, record_hw] at hhw
  have hrun : respond b 1 s = watched (hubReset 7 (record b s)) := by
    rw [respond_reset, powerOnReset_unbroken (by rw [record_su]; exact hh) (by rw [record_hw]; exact hcont),
      vaultStart_intact (by rw [hhw]; exact hp) (by rw [hhw]; exact hs)]
  rw [hrun, hhw]
  exact ⟨rfl, rfl, fun i => Vector.getElem_replicate i.isLt, rfl, hmem, hlinks, rfl⟩

theorem eraseVault_hw (s : State) : (eraseVault s).hw =
    { s.hw with seed := none, keys := s.hw.keys.map (fun k => { k with key := 0 }), eph := Vector.replicate 16 none,
                eraseCnt := s.hw.eraseCnt + 1, erasePending := true } := rfl

/-- ERASE also takes the keys away (R355). -/
theorem respond_erase_effect (b : Nat) (hh : s.su.held = false) (hcont : s.hw.cont = contWord s.hw.epoch) :
    Erased s (respond b 2 s) b := by
  obtain ⟨hmem, hlinks⟩ := hubReset_memory 7 (eraseVault (record b s))
  have hhw : (watched (hubReset 7 (eraseVault (record b s)))).hw = { (hubReset 7 (eraseVault (record b s))).hw with watchGap := false } := rfl
  rw [hubReset_hw, eraseVault_hw, record_hw] at hhw
  have hrun : respond b 2 s = vaultStart (watched (hubReset 7 (eraseVault (record b s)))) := by
    rw [respond_erase, powerOnReset_unbroken (by exact (record_su b s).symm ▸ hh) (by rw [eraseVault_hw, record_hw]; exact hcont)]
  obtain ⟨htamper, hcnt, hkak, hseed, heph, hkeys, hmem', hlinks'⟩ :=
    vaultStart_erased (s := watched (hubReset 7 (eraseVault (record b s)))) (by rw [hhw]) (by rw [hhw])
  rw [hhw] at htamper hcnt hkak heph hkeys
  rw [hrun]
  refine ⟨htamper, hcnt, hkak, hseed, fun i => ⟨?_, ?_⟩, hmem'.trans hmem, hlinks'.trans hlinks⟩
  · rw [heph]
    exact Vector.getElem_replicate i.isLt
  · unfold State.key
    rw [hkeys]
    simp only [Fin.getElem_fin, Vector.getElem_map]
    split_ifs <;> rfl

/-- The three responses of a command whose source is detected in a state that differs from the present one in the samples' counts and the clock. -/
theorem source_answers {c : Instr} {u : State} {b r : Nat} (hrun : exec c s = done (respond b (min 2 r) u)) (hh : s.su.held = false)
    (hcont : s.hw.cont = contWord s.hw.epoch)
    (hu : u = { s with time := u.time, hw := { s.hw with meshBad := u.hw.meshBad, tempBad := u.hw.tempBad } }) :
    (r = 0 → Answers c s fun t => t.hw.tamper = s.hw.tamper ||| byte (2 ^ b) ∧ t.hw.keys = s.hw.keys ∧ t.hw.eph = s.hw.eph ∧
      t.hw.eraseCnt = s.hw.eraseCnt ∧ t.su = s.su ∧ t.mem = s.mem ∧ t.work = s.work) ∧
    (r = 1 → s.hw.erasePending = false → s.hw.seed ≠ none → Answers c s fun t =>
      t.hw.tamper = s.hw.tamper ||| byte (2 ^ b) ∧ t.hw.keys = s.hw.keys ∧ (∀ i : TenantId, t.hw.eph[i] = none) ∧
      t.hw.eraseCnt = s.hw.eraseCnt ∧ t.mem = [] ∧ t.links = State.reset.links ∧ t.hw.seed = s.hw.seed) ∧
    (r = 2 → Answers c s fun t => Erased s t b) := by
  have hhw : u.hw = { s.hw with meshBad := u.hw.meshBad, tempBad := u.hw.tempBad } := by
    conv_lhs => rw [hu]
  have hsu : u.su = s.su := by rw [hu]
  have hh' : u.su.held = false := by rw [hsu]; exact hh
  have hcont' : u.hw.cont = contWord u.hw.epoch := by rw [hhw]; exact hcont
  refine ⟨?_, ?_, ?_⟩
  · rintro rfl
    refine answers_of_done (respond b 0 u) hrun ?_
    have hmem : u.mem = s.mem := by rw [hu]
    have hwork : u.work = s.work := by rw [hu]
    rw [respond_record]
    simp only [settle_hw, settle_su, settle_mem, settle_work, record_hw, record_su, record_mem, record_work, hsu, hmem, hwork, and_true]
    rw [hhw]
    exact ⟨rfl, rfl, rfl, rfl⟩
  · rintro rfl hp hs
    refine answers_of_done (respond b 1 u) hrun ?_
    have he := respond_reset_effect b hh' hcont' (by rw [hhw]; exact hp) (by rw [hhw]; exact hs)
    rw [hhw] at he
    exact he
  · rintro rfl
    refine answers_of_done (respond b 2 u) hrun ?_
    have he := respond_erase_effect b hh' hcont'
    unfold Erased State.key at he ⊢
    rw [hhw] at he
    exact he

/-! ### The four sources -/

/-- A second sample outside the window, or with the mesh broken, is detected. -/
theorem tempTamperRun_detects (hb : s.hw.tempBad = 1) :
    tempTamperRun true s = respond 5 (min 2 (fld s.hw.pol 9 8)) { s with hw := { s.hw with tempBad := 2 } } := by
  unfold tempTamperRun
  simp only [hb, if_true]

theorem meshRun_detects (hb : s.hw.meshBad = 1) : meshRun true s = respond 0 2 { s with hw := { s.hw with meshBad := 2 } } := by
  unfold meshRun
  simp only [hb, if_true]

theorem tempTamperSample_exec (hb : s.hw.tempBad = 1) : ∃ x, exec (.tempTamperSample true) s =
    done (respond 5 (min 2 (fld s.hw.pol 9 8)) { s with time := x, hw := { s.hw with tempBad := 2 } }) := by
  obtain ⟨x, hx⟩ := pace_eq_time paceTamperT (secs 1) s
  refine ⟨x, ?_⟩
  have hrun : exec (.tempTamperSample true) s = done (tempTamperRun true (pace paceTamperT (secs 1) s)) := rfl
  rw [hrun, hx, tempTamperRun_detects (by exact hb)]

theorem meshSample_exec (hb : s.hw.meshBad = 1) : ∃ x, exec (.meshSample true) s =
    done (respond 0 2 { s with time := x, hw := { s.hw with meshBad := 2 } }) := by
  obtain ⟨x, hx⟩ := pace_eq_time paceMesh (msec 1) s
  refine ⟨x, ?_⟩
  have hrun : exec (.meshSample true) s = done (meshRun true (pace paceMesh (msec 1) s)) := rfl
  rw [hrun, hx, meshRun_detects (by exact hb)]

end Sys2Proof.Machine
end

section
open Sys2Proof Sys2Proof.Machine

/-- Settles O33: each source comes to the response that its field of the policy slot names, and the mesh to ERASE. -/
theorem tamperSourcesRespond : Obligations.TamperSourcesRespond := by
  unfold Obligations.TamperSourcesRespond
  intro s c b r hh hcont hc
  rcases hc with ⟨rfl, rfl, rfl⟩ | ⟨rfl, rfl, rfl⟩ | ⟨rfl, rfl, rfl, hb⟩ | ⟨rfl, rfl, rfl, hb⟩
  · exact source_answers (u := s) rfl hh hcont rfl
  · exact source_answers (u := s) rfl hh hcont rfl
  · obtain ⟨x, hx⟩ := tempTamperSample_exec hb
    exact source_answers hx hh hcont rfl
  · obtain ⟨x, hx⟩ := meshSample_exec hb
    exact source_answers hx hh hcont rfl

end

section
/-! PROOFS. The service window, monotonic counters, fuses and the loss of the monitor domain (R349, R350, R360 to R364, R445). -/

namespace Sys2Proof.Machine

variable {s : State} {h : CmdHdr}

theorem onlyDA_of_da (hc : s.classOf h.iss = .da) (cmd : Nat) (f : State → State) : onlyDA h cmd f s = f s := by
  unfold onlyDA
  rw [hc]

/-- A write to an NV slot that is taken changes the counts of Heartwood's slots and the persistent log alone. -/
theorem nvWrite_taken {k : Fin 26} (hn : (nvWrite k s).1 = true) :
    ∃ x y z, nvWrite k s = (true, { s with hw := { s.hw with nvWrites := x, retired := y }, plog := z }) := by
  unfold nvWrite at hn ⊢
  simp only at hn ⊢
  split_ifs at hn ⊢
  · exact ⟨_, s.hw.retired, s.plog, rfl⟩
  · exact ⟨_, _, _, rfl⟩

/-! ### The service window -/

/-- The window that a token names, counter 0 advanced. -/
def openWindow (token : Bytes) (s : State) : State :=
  { s with hw := { s.hw with
      ctr := upd s.hw.ctr 0 fun c => c + 1
      win := ⟨if leAt token 0x18 8 ≤ s.ptNs then 2 else 1, leAt token 0x18 8, leAt token 0x18 8 + leAt token 0x14 2 * 60000000000⟩
      afterWin := false } }

/-- A token that holds, its counter in step, opens its window. -/
theorem svcOpen_opens {token : Bytes} (hc : s.classOf h.iss = .da) (hser : cut token 0 16 = s.hw.serial) (hres : leAt token 0x16 2 = 0)
    (h1 : 1 ≤ leAt token 0x14 2) (h2 : leAt token 0x14 2 ≤ 240) (hv : s.ptValid = true) (hctr : leAt token 0x10 4 = (s.counter 0).toNat)
    (hmax : s.counter 0 ≠ 0xFFFFFFFF) (hw : s.hw.win.st = 0)
    (ht : s.ptNs < leAt token 0x18 8 + leAt token 0x14 2 * 60000000000) (hnv : (nvWrite (ctrSlotNo 0) s).1 = true) :
    ∃ x y z, svcOpen h token true s = replyOk h 0x0406 []
      { openWindow token s with hw := { (openWindow token s).hw with nvWrites := x, retired := y }, plog := z } := by
  obtain ⟨x, y, z, hn⟩ := nvWrite_taken hnv
  have hform : ¬((!true) = true ∨ cut token 0 16 ≠ s.hw.serial ∨ leAt token 0x16 2 ≠ 0 ∨ leAt token 0x14 2 = 0 ∨ 240 < leAt token 0x14 2) := by
    simp only [hser, hres, Bool.not_true, Bool.false_eq_true, ne_eq, not_true_eq_false, false_or]
    omega
  have hstate : ¬(leAt token 0x10 4 ≠ (s.counter 0).toNat ∨ s.hw.win.st ≠ 0 ∨
      leAt token 0x18 8 + leAt token 0x14 2 * 60000000000 ≤ s.ptNs) := by
    simp only [hctr, hw, ne_eq, not_true_eq_false, false_or]
    omega
  unfold svcOpen
  rw [onlyDA_of_da hc]
  simp only
  rw [if_neg hform, if_neg (by simp [hv]), if_neg hstate, if_neg (show ¬s.counter 0 = 0xFFFFFFFF#32 from hmax), hn]
  unfold openWindow
  by_cases hnow : leAt token 0x18 8 ≤ s.ptNs
  · refine ⟨x, y, (plogEv 10 0 0 { s with plog := z }).plog, ?_⟩
    rw [if_pos (c := leAt token 0x18 8 ≤ s.ptNs) hnow]
    dsimp only
    split_ifs with hsame
    · rfl
    · exact absurd hnow hsame
  · refine ⟨x, y, z, ?_⟩
    rw [if_neg (c := leAt token 0x18 8 ≤ s.ptNs) hnow]
    dsimp only
    split_ifs with hsame
    · exact absurd hsame hnow
    · rfl

theorem svcWindowOpen_answers (hh : s.su.held = false) {token : Bytes} (hc : s.classOf h.iss = .da) (hser : cut token 0 16 = s.hw.serial)
    (hres : leAt token 0x16 2 = 0) (h1 : 1 ≤ leAt token 0x14 2) (h2 : leAt token 0x14 2 ≤ 240) (hv : s.ptValid = true)
    (hctr : leAt token 0x10 4 = (s.counter 0).toNat) (hmax : s.counter 0 ≠ 0xFFFFFFFF) (hw : s.hw.win.st = 0)
    (ht : s.ptNs < leAt token 0x18 8 + leAt token 0x14 2 * 60000000000) (hnv : (nvWrite (ctrSlotNo 0) s).1 = true) :
    Answers (.svcWindowOpen h token true) s fun t =>
      t.counter 0 = s.counter 0 + 1 ∧ t.Replied h 0x406 0 0 [] ∧
      t.hw.win = ⟨if leAt token 0x18 8 ≤ s.ptNs then 2 else 1, leAt token 0x18 8, leAt token 0x18 8 + leAt token 0x14 2 * 60000000000⟩ ∧
      t.mem = s.mem ∧ t.hw.keys = s.hw.keys := by
  refine answers_of_live (svcOpen h token true) rfl hh ?_
  obtain ⟨x, y, z, hrun⟩ := svcOpen_opens hc hser hres h1 h2 hv hctr hmax hw ht hnv
  rw [hrun]
  refine ⟨?_, settle_replied _ _ _ _ _ _ (replyOk_replied _ h 0x406 []), ?_, ?_, ?_⟩
  · rw [settle_counter, replyOk, reply_counter]
    exact upd_self s.hw.ctr 0 _
  · rw [settle_hw, replyOk, reply_hw]
    rfl
  · rw [settle_mem, replyOk, reply_mem]
    rfl
  · rw [settle_hw, replyOk, reply_hw]
    rfl

theorem svcWindowOpen_bad_answers (hh : s.su.held = false) {token : Bytes} (hc : s.classOf h.iss = .da) :
    Answers (.svcWindowOpen h token false) s fun t => t.Replied h 0x406 0x0D 0 [] ∧ t.hw = s.hw ∧ t.mem = s.mem := by
  refine answers_of_live (svcOpen h token false) rfl hh ?_
  have hrun : svcOpen h token false s = replySt h 0x0406 stBAD_DESCRIPTOR s := by
    unfold svcOpen
    rw [onlyDA_of_da hc]
    exact if_pos (.inl rfl)
  rw [hrun]
  refine ⟨settle_replied _ _ _ _ _ _ (replySt_replied s h 0x406 stBAD_DESCRIPTOR (by decide) (by decide)), ?_, ?_⟩
  · rw [settle_hw, replySt, reply_hw]
  · rw [settle_mem, replySt, reply_mem]

theorem svcWindowStart_answers (h1 : s.hw.win.st = 1) : Answers .svcWindowStart s fun t =>
      t.hw = { s.hw with win := { s.hw.win with st := 2 } } ∧ s.hw.win.start ≤ t.ptNs ∧ t.mem = s.mem ∧ t.regs = s.regs := by
  refine answers_of_done (svcStart s) rfl ?_
  have hrun : svcStart s = plogEv 10 0 0 { advancePool s.hw.win.start s with
      hw := { (advancePool s.hw.win.start s).hw with win := { (advancePool s.hw.win.start s).hw.win with st := 2 } } } := if_pos h1
  rw [hrun]
  exact ⟨rfl, le_advancePool _ s, rfl, rfl⟩

theorem svcWindowEnd_answers (h0 : s.hw.win.st ≠ 0) : Answers .svcWindowEnd s fun t =>
      t.hw = { s.hw with win := { s.hw.win with st := 0 }, afterWin := true } ∧ s.hw.win.stop ≤ t.ptNs ∧ t.mem = s.mem := by
  refine answers_of_done (svcEnd s) rfl ?_
  have hrun : svcEnd s = winClose (advancePool s.hw.win.stop s) := if_neg h0
  rw [hrun]
  exact ⟨rfl, le_advancePool _ s, rfl⟩

theorem svcWindowClose_answers (hh : s.su.held = false) (hc : s.classOf h.iss = .da) (h0 : s.hw.win.st ≠ 0) :
    Answers (.svcWindowClose h) s fun t =>
      t.hw = { s.hw with win := { s.hw.win with st := 0 }, afterWin := true } ∧ t.Replied h 0x407 0 0 [] := by
  refine answers_of_live (svcClose h) rfl hh ?_
  have hrun : svcClose h s = replyOk h 0x0407 [] (winClose s) := (onlyDA_of_da hc _ _).trans (if_neg h0)
  rw [hrun]
  refine ⟨?_, settle_replied _ _ _ _ _ _ (replyOk_replied _ h 0x407 [])⟩
  rw [settle_hw, replyOk, reply_hw]
  rfl

theorem svcWindowClose_conflicts_answers (hh : s.su.held = false) (hc : s.classOf h.iss = .da) (h0 : s.hw.win.st = 0) :
    Answers (.svcWindowClose h) s fun t => t.hw = s.hw ∧ t.Replied h 0x407 3 0 [] := by
  refine answers_of_live (svcClose h) rfl hh ?_
  have hrun : svcClose h s = replyConflict h 0x0407 0 s := (onlyDA_of_da hc _ _).trans (if_pos h0)
  rw [hrun]
  refine ⟨?_, settle_replied _ _ _ _ _ _ (replyConflict_replied s h 0x407 0 (by decide))⟩
  rw [settle_hw, replyConflict, reply_hw]

/-! ### Counters and fuses -/

theorem byte_toNat_of_fin (k : Fin 8) : (byte k.val).toNat = k.val := by
  unfold byte
  rw [BitVec.toNat_ofNat]
  omega

/-- A counter that its owner moves to a value it may take. -/
theorem ctrCmd_moves {cmd : Nat} {k : Fin 8} {v : W32} {f : W32 → Option W32} (hown : ownsCtr (s.classOf h.iss) (s.ctrOwner k.val) = true)
    (hmax : s.counter k ≠ 0xFFFFFFFF) (hnv : (nvWrite (ctrSlotNo k) s).1 = true) (hf : f (s.counter k) = some v) :
    ∃ x y z, ctrCmd h cmd (byte k.val) f s = replyOk h cmd (toLe 4 v.toNat)
      { s with hw := { s.hw with ctr := upd s.hw.ctr k (fun _ => v), nvWrites := x, retired := y }, plog := z } := by
  obtain ⟨x, y, z, hn⟩ := nvWrite_taken hnv
  have hk : (byte k.val).toNat < 8 := by rw [byte_toNat_of_fin]; exact k.isLt
  refine ⟨x, y, z, ?_⟩
  unfold ctrCmd
  rw [dif_pos hk]
  simp only [byte_toNat_of_fin]
  rw [hown, if_neg (by decide), if_neg (show ¬s.counter k = 0xFFFFFFFF#32 from hmax), hf, hn]

/-- What a counter's move leaves: that counter at its new value, the others as they were, the command answered. -/
theorem ctr_moved_effect {c : Instr} {cmd : Nat} {k : Fin 8} {v : W32} {f : State → State} (hc : exec c s = live f s) (hh : s.su.held = false)
    (hrun : ∃ x y z, f s = replyOk h cmd (toLe 4 v.toNat)
      { s with hw := { s.hw with ctr := upd s.hw.ctr k (fun _ => v), nvWrites := x, retired := y }, plog := z }) :
    Answers c s fun t => t.counter k = v ∧ t.Replied h cmd 0 0 (toLe 4 v.toNat) ∧ t.mem = s.mem ∧
      (∀ i : Fin 8, i ≠ k → t.counter i = s.counter i) ∧ t.hw.keys = s.hw.keys := by
  obtain ⟨x, y, z, hrun⟩ := hrun
  refine answers_of_live f hc hh ?_
  rw [hrun]
  refine ⟨?_, settle_replied _ _ _ _ _ _ (replyOk_replied _ h cmd _), ?_, fun i hi => ?_, ?_⟩
  · rw [settle_counter, replyOk, reply_counter]
    exact upd_self s.hw.ctr k _
  · rw [settle_mem, replyOk, reply_mem]
  · rw [settle_counter, replyOk, reply_counter]
    exact upd_ne s.hw.ctr _ hi.symm
  · rw [settle_hw, replyOk, reply_hw]

theorem ctrInc_answers (hh : s.su.held = false) {k : Fin 8} (hown : ownsCtr (s.classOf h.iss) (s.ctrOwner k.val) = true)
    (hmax : s.counter k ≠ 0xFFFFFFFF) (hnv : (nvWrite (ctrSlotNo k) s).1 = true) : Answers (.ctrInc h (byte k.val)) s fun t =>
      t.counter k = s.counter k + 1 ∧ t.Replied h 0x404 0 0 (toLe 4 (s.counter k + 1).toNat) ∧ t.mem = s.mem ∧
      (∀ i : Fin 8, i ≠ k → t.counter i = s.counter i) ∧ t.hw.keys = s.hw.keys :=
  ctr_moved_effect (f := fun s => ctrCmd h 0x0404 (byte k.val) (fun c => some (c + 1)) s) rfl hh (ctrCmd_moves hown hmax hnv rfl)

theorem ctrSet_answers (hh : s.su.held = false) {k : Fin 8} {v : W32} (hown : ownsCtr (s.classOf h.iss) (s.ctrOwner k.val) = true)
    (hmax : s.counter k ≠ 0xFFFFFFFF) (hnv : (nvWrite (ctrSlotNo k) s).1 = true) (hv : s.counter k < v) :
    Answers (.ctrSet h (byte k.val) v) s fun t =>
      t.counter k = v ∧ t.Replied h 0x405 0 0 (toLe 4 v.toNat) ∧ (∀ i : Fin 8, i ≠ k → t.counter i = s.counter i) ∧ t.mem = s.mem := by
  obtain ⟨t, ht, hctr, hrep, hmem, hother, -⟩ :=
    ctr_moved_effect (c := .ctrSet h (byte k.val) v) (f := fun s => ctrCmd h 0x0405 (byte k.val) (fun c => if c < v then some v else none) s) rfl hh
      (ctrCmd_moves (cmd := 0x405) (v := v) hown hmax hnv (if_pos hv))
  exact ⟨t, ht, hctr, hrep, hother, hmem⟩

theorem ctrSet_stranger_answers (hh : s.su.held = false) {k : Fin 8} {v : W32} (hown : ownsCtr (s.classOf h.iss) (s.ctrOwner k.val) = false) :
    Answers (.ctrSet h (byte k.val) v) s fun t => t.hw = s.hw ∧ t.Replied h 0x405 4 0 [] := by
  refine answers_of_live (fun s => ctrCmd h 0x0405 (byte k.val) (fun c => if c < v then some v else none) s) rfl hh ?_
  have hk : (byte k.val).toNat < 8 := by rw [byte_toNat_of_fin]; exact k.isLt
  have hrun : ctrCmd h 0x0405 (byte k.val) (fun c => if c < v then some v else none) s = replySt h 0x0405 stNO_ACCESS s := by
    unfold ctrCmd
    rw [dif_pos hk]
    simp only [byte_toNat_of_fin]
    rw [hown, if_pos (by decide)]
  rw [hrun]
  refine ⟨?_, settle_replied _ _ _ _ _ _ (replySt_replied s h 0x405 stNO_ACCESS (by decide) (by decide))⟩
  rw [settle_hw, replySt, reply_hw]

theorem svnBlow_hw (s : State) : (svnBlow s).hw = { s.hw with fuse := max s.hw.fuse s.minSvn } := by
  unfold svnBlow
  simp only
  split_ifs with hlt
  · rw [Nat.max_eq_right hlt.le]
    rfl
  · rw [Nat.max_eq_left (not_lt.1 hlt)]

theorem svnCommit_answers (hh : s.su.held = false) (hc : s.classOf h.iss = .da) : Answers (.svnCommit h) s fun t =>
      t.hw = { s.hw with fuse := max s.hw.fuse s.minSvn } ∧ t.Replied h 0x409 0 0 [byte (max s.hw.fuse s.minSvn), 0, 0, 0] := by
  refine answers_of_live (svnCommitRun h) rfl hh ?_
  have hrun : svnCommitRun h s = replyOk h 0x0409 [byte (svnBlow s).hw.fuse, 0, 0, 0] (svnBlow s) := onlyDA_of_da hc _ _
  rw [hrun, svnBlow_hw]
  refine ⟨?_, settle_replied _ _ _ _ _ _ (replyOk_replied _ h 0x409 _)⟩
  rw [settle_hw, replyOk, reply_hw, svnBlow_hw]

theorem vaultReset_answers : Answers .vaultReset s fun t =>
      (∀ i : TenantId, t.hw.eph[i] = none) ∧ t.hw.cont = 0 ∧ t.hw.tamper = 0 ∧ t.hw.lid = 0 ∧ t.hw.win.st = 0 ∧ t.time.rtcValid = false ∧
      t.hw.keys = s.hw.keys ∧ t.hw.ctr = s.hw.ctr ∧ t.hw.seed = s.hw.seed ∧ t.hw.fuse = s.hw.fuse ∧ t.hw.eraseCnt = s.hw.eraseCnt ∧
      t.plog = s.plog ∧ t.mem = s.mem :=
  answers_of_done (vaultResetRun s) rfl
    ⟨fun i => Vector.getElem_replicate i.isLt, rfl, rfl, rfl, rfl, rfl, rfl, rfl, rfl, rfl, rfl, rfl, rfl⟩

end Sys2Proof.Machine
end

section
open Sys2Proof Sys2Proof.Machine

/-- Settles O35: the window that a token opens, its start, its end and its closing. -/
theorem serviceWindowOpensOnce : Obligations.ServiceWindowOpensOnce := by
  unfold Obligations.ServiceWindowOpensOnce
  intro s hh
  exact ⟨fun h token hc hser hres h1 h2 hv hctr hmax hw ht hnv => svcWindowOpen_answers hh hc hser hres h1 h2 hv hctr hmax hw ht hnv,
    fun h token hc => svcWindowOpen_bad_answers hh hc, svcWindowStart_answers, svcWindowEnd_answers,
    fun h hc => ⟨svcWindowClose_answers hh hc, svcWindowClose_conflicts_answers hh hc⟩⟩

/-- Settles O36: a counter moves up for its owner alone, fuses follow the versions, and a lost monitor domain keeps what stands in NV. -/
theorem countersFusesAndVaultReset : Obligations.CountersFusesAndVaultReset := by
  unfold Obligations.CountersFusesAndVaultReset
  intro s h hh
  exact ⟨fun k v hown hmax hnv => ⟨ctrInc_answers hh hown hmax hnv, ctrSet_answers hh hown hmax hnv⟩,
    fun k v hown => ctrSet_stranger_answers hh hown, svnCommit_answers hh, vaultReset_answers⟩

end

section
/-! PROOFS. Pool time: the exchange with the headstock, holdover, PTP, the RTC and the calendar (R435 to R440). -/

namespace Sys2Proof.Machine

variable {s : State}

theorem sent_of_outs {s t : State} (h : Outs s t) {m : Msg} (hm : s.Sent m) : t.Sent m := by
  obtain ⟨p, hp⟩ := hm
  exact ⟨p, h _ hp⟩

theorem settle_sent {m : Msg} (h : s.Sent m) : (settle s).Sent m := h

/-- A fold that sends something for each element of a list has sent it for each, where the sending depends only on a part `p` of the state that
the fold keeps. -/
theorem sent_foldl {α β : Type} {f : State → β → State} (p : State → α) (ho : ∀ s b, Outs s (f s b)) (hp : ∀ s b, p (f s b) = p s)
    {R : Msg → Prop} {b : β} {l : List β} (hb : b ∈ l) (s : State) (hs : ∀ u, p u = p s → ∃ m, (f u b).Sent m ∧ R m) :
    ∃ m, (l.foldl f s).Sent m ∧ R m := by
  induction l generalizing s with
  | nil => simp at hb
  | cons c l ih =>
    rcases List.mem_cons.1 hb with rfl | hb
    · obtain ⟨m, hm, hr⟩ := hs s rfl
      exact ⟨m, sent_of_outs (outs_foldl (f s b) f ho l) hm, hr⟩
    · exact ih hb (f s c) fun u hu => hs u (hu.trans (hp s c))

/-- The time reads the greater of what it was and the instant it is advanced to. -/
theorem advanceTo_nclk (d : Nat) (s : State) : (advanceTo d s).time.nclk = max s.time.nclk d := by
  unfold advanceTo
  split_ifs with h
  · show s.time.nclk + (d - s.time.nclk) = _
    omega
  · omega

theorem pace_nclk (k n : Nat) (s : State) : (pace k n s).time.nclk = max s.time.nclk (s.time.stamps.get 0 k + n) :=
  advanceTo_nclk _ s

theorem timeSyncPeriod_answers (hh : s.su.held = false) (hd : s.head.head = true) : Answers .timeSyncPeriod s fun t =>
      t.time.nclk = max s.time.nclk (s.time.stamps.get 0 paceSync + msec 125) ∧
      ∀ p : Nat, p < 32 → p ≠ s.spn.pos → (s.spn.map.getD p 0).toNat % 4 ≠ 0 → ∃ q : Msg, t.Sent q ∧ q.op = 0x16 ∧ q.dst = s.idOf p := by
  refine answers_of_live syncPeriod rfl hh ?_
  unfold syncPeriod
  rw [if_pos hd]
  have hn := pace_nclk paceSync (msec 125) s
  obtain ⟨x, hx⟩ := pace_eq_time paceSync (msec 125) s
  rw [hx] at hn ⊢
  generalize max s.time.nclk (s.time.stamps.get 0 paceSync + msec 125) = n at hn ⊢
  simp only at hn ⊢
  refine ⟨?_, fun p hp hpos hmap => ?_⟩
  · rw [settle_time, foldl_keeps State.time (fun s p => sendMgt (s.idOf p) 0x16 (toLe 8 0 ++ toLe 8 s.ptNs) s) (fun s p => send_time s _)]
    exact hn
  · refine sent_foldl State.stackId (fun s p => outs_send s _) (fun s p => ?_)
      (List.mem_filter.2 ⟨List.mem_range.2 hp, decide_eq_true ⟨hmap, hpos⟩⟩) _ fun u hu => ⟨_, send_sent u _, rfl, ?_⟩
    · exact send_keeps State.stackId (fun _ _ => rfl) (fun _ _ => rfl) (fun _ _ => rfl) (fun _ _ => rfl) s _
    · show w16 (u.stackId * 64 + p) = w16 (s.stackId * 64 + p)
      rw [hu]
      rfl

theorem timeSync_answers (hh : s.su.held = false) (m : MgtMsg) : Answers (.timeSync m) s fun t =>
      t.time.xch = some ⟨8 * leAt m.payload 8 8, s.time.pt, s.time.pt, 8 * leAt m.payload 0 8⟩ ∧ t.time.holdAt = none ∧ t.time.pt = s.time.pt ∧
      ∃ q : Msg, t.Sent q ∧ q.op = 0x17 ∧ q.dst = m.src := by
  refine answers_of_live (timeSyncRx m) rfl hh ⟨?_, ?_, ?_, ⟨_, send_sent _ _, rfl, rfl⟩⟩ <;>
  · rw [settle_time, timeSyncRx, sendMgt, send_time]

theorem timeDreq_headstock_answers (hh : s.su.held = false) (hd : s.head.head = true) (m : MgtMsg) : Answers (.timeDreq m) s fun t =>
      t.time = s.time ∧ ∃ q : Msg, t.Sent q ∧ q.op = 0x18 ∧ q.dst = m.src ∧ q.payload = cut m.payload 0 8 ++ toLe 8 s.ptNs := by
  refine answers_of_live (timeDreqRx m) rfl hh ?_
  have hrun : timeDreqRx m s = sendMgt m.src 0x18 (cut m.payload 0 8 ++ toLe 8 s.ptNs) s := if_pos hd
  rw [hrun]
  exact ⟨send_time s _, _, send_sent s _, rfl, rfl, rfl⟩

theorem timeDreq_member_answers (hh : s.su.held = false) (hd : s.head.head = false) (m : MgtMsg) :
    Answers (.timeDreq m) s fun t => t = settle s := by
  refine answers_of_live (timeDreqRx m) rfl hh ?_
  have hrun : timeDreqRx m s = s := if_neg (by simp [hd])
  rw [hrun]

theorem correct_steps {off : Int} (h : 8000 < off.natAbs) :
    (correct off s).time = { s.time with pt := ((s.time.pt : Int) - off).toNat, slew := 0 } := by
  unfold correct
  rw [if_pos h, count_keeps State.time (fun _ _ => rfl) (fun _ _ => rfl)]

theorem correct_slews {off : Int} (h : off.natAbs ≤ 8000) : (correct off s).time = { s.time with slew := -off } := by
  unfold correct
  rw [if_neg (by omega)]

/-- A correction changes nothing of the time but the pool time and its slew. -/
theorem correct_time_rest (off : Int) (s : State) :
    (correct off s).time = { s.time with pt := (correct off s).time.pt, slew := (correct off s).time.slew } := by
  rcases Nat.lt_or_ge 8000 off.natAbs with h | h
  · rw [correct_steps h]
  · rw [correct_slews h]

theorem timeDresp_answers (hh : s.su.held = false) (m : MgtMsg) {x : TimeXch} (hx : s.time.xch = some x) : Answers (.timeDresp m) s fun t =>
      let off : Int := (((x.t2 : Int) - x.t1 - x.c1) - ((8 * leAt m.payload 8 8 : Int) - x.t3 - 8 * leAt m.payload 0 8)) / 2
      t.time.src = 2 ∧ t.time.xch = none ∧
      (8000 < off.natAbs → t.time.pt = ((s.time.pt : Int) - off).toNat ∧ t.time.slew = 0) ∧
      (off.natAbs ≤ 8000 → t.time.pt = s.time.pt ∧ t.time.slew = -off) := by
  refine answers_of_live (timeDrespRx m) rfl hh ?_
  unfold timeDrespRx
  rw [hx]
  simp only [settle_time]
  refine ⟨trivial, ?_, fun h => ?_, fun h => ?_⟩
  · rw [correct_time_rest]
  · rw [correct_steps h]
    exact ⟨rfl, rfl⟩
  · rw [correct_slews h]
    exact ⟨rfl, rfl⟩

/-! ### Holdover, PTP and the RTC -/

theorem advanceTo_src (d : Nat) (s : State) : (advanceTo d s).time.src = s.time.src := by
  unfold advanceTo
  split
  · rfl
  · rfl

/-- Holdover begins now. -/
def heldFrom (s : State) : State := { s with time := { s.time with holdAt := some s.time.nclk } }

theorem heldFrom_effect {d : Nat} (hd : d ≤ s.time.nclk) (h2 : s.time.src = 2) : (settle (heldFrom s)).time.holdAt = some (settle (heldFrom s)).time.nclk ∧
    d ≤ (settle (heldFrom s)).time.nclk ∧ (settle (heldFrom s)).time.src = 2 := ⟨rfl, hd, h2⟩

/-- Nothing gives the time. -/
def sourceless (s : State) : State := { s with time := { s.time with src := 0 } }

theorem sourceless_effect {d : Nat} (hd : d ≤ s.time.nclk) : (settle (sourceless s)).time.src = 0 ∧ d ≤ (settle (sourceless s)).time.nclk :=
  ⟨rfl, hd⟩

/-- The RTC takes pool time where the two differ by a second or more. -/
def rtcSynced (s : State) : State :=
  if 8000000000 ≤ ((5 * s.time.rtc : Int) - s.time.pt).natAbs then
    { s with time := { s.time with rtc := s.time.pt / 5, rtcValid := true } }
  else s

theorem rtcSynced_near (s : State) : ((5 * (rtcSynced s).time.rtc : Int) - (rtcSynced s).time.pt).natAbs < 8000000000 := by
  unfold rtcSynced
  split_ifs with hfar
  · show ((5 * (s.time.pt / 5 : Nat) : Int) - s.time.pt).natAbs < 8000000000
    omega
  · exact not_le.1 hfar

theorem rtcSynced_rest (s : State) : (rtcSynced s).time.src = s.time.src ∧ (rtcSynced s).time.nclk = s.time.nclk := by
  unfold rtcSynced
  split_ifs
  · exact ⟨rfl, rfl⟩
  · exact ⟨rfl, rfl⟩

theorem holdoverEntry_answers (hh : s.su.held = false) (h2 : s.time.src = 2) (hn : s.time.holdAt = none) : Answers .holdoverEntry s fun t =>
      t.time.holdAt = some t.time.nclk ∧ s.time.lastSync + secs 2 ≤ t.time.nclk ∧ t.time.src = 2 := by
  refine answers_of_live holdEnter rfl hh ?_
  have hrun : holdEnter s = heldFrom (advanceTo (s.time.lastSync + secs 2) s) := if_pos ⟨h2, hn⟩
  rw [hrun]
  exact heldFrom_effect (le_advanceTo _ s) ((advanceTo_src _ s).trans h2)

theorem holdExpire_of_held {a : Nat} (ha : s.time.holdAt = some a) : holdExpire s = sourceless (advanceTo (a + secs 60) s) := by
  unfold holdExpire
  rw [ha]
  rfl

theorem holdoverExpire_answers (hh : s.su.held = false) {a : Nat} (ha : s.time.holdAt = some a) : Answers .holdoverExpire s fun t =>
      t.time.src = 0 ∧ a + secs 60 ≤ t.time.nclk := by
  refine answers_of_live holdExpire rfl hh ?_
  rw [holdExpire_of_held ha]
  exact sourceless_effect (le_advanceTo _ s)

section
variable {d : Byte} {ns : W64}

theorem ptpMessage_locked_answers (hh : s.su.held = false) (hd : s.head.head = true) (h8 : s.rfld .PTP_CFG 0 8 8 = 1)
    (h7 : s.rfld .PTP_CFG 0 7 0 = d.toNat) :
    Answers (.ptpMessage d true ns) s fun t => t.time.src = 3 ∧ t.time.ptpLocked = true ∧ t.time.rtc = s.time.rtc := by
  refine answers_of_live (ptpRx d true ns) rfl hh ?_
  unfold ptpRx
  rw [if_pos ⟨hd, h8, h7⟩, if_pos rfl]
  refine ⟨rfl, rfl, ?_⟩
  simp only [settle_time]
  rw [correct_time_rest]

theorem ptpMessage_unlocked_answers (hh : s.su.held = false) (hd : s.head.head = true) (h8 : s.rfld .PTP_CFG 0 8 8 = 1)
    (h7 : s.rfld .PTP_CFG 0 7 0 = d.toNat) : Answers (.ptpMessage d false ns) s fun t =>
      t.time = { s.time with ptpLocked := false, src := if s.time.rtcValid then 1 else 0 } := by
  refine answers_of_live (ptpRx d false ns) rfl hh ?_
  unfold ptpRx
  rw [if_pos ⟨hd, h8, h7⟩, if_neg (by decide)]
  rfl

end

/-- At a whole second of pool time the two are less than a second apart. -/
theorem rtcSynced_effect (d : Nat) (s : State) :
    ((5 * (settle (rtcSynced (advancePool d s))).time.rtc : Int) - (settle (rtcSynced (advancePool d s))).time.pt).natAbs < 8000000000 ∧
      (settle (rtcSynced (advancePool d s))).time.src = s.time.src ∧ s.time.nclk ≤ (settle (rtcSynced (advancePool d s))).time.nclk := by
  obtain ⟨hsrc, hn⟩ := rtcSynced_rest (advancePool d s)
  refine ⟨rtcSynced_near _, hsrc, ?_⟩
  rw [settle_time, hn]
  exact Nat.le_add_right _ _

theorem rtcSecond_answers (hs : s.time.src = 2 ∨ s.time.src = 3) : Answers .rtcSecond s fun t =>
      ((5 * t.time.rtc : Int) - t.time.pt).natAbs < 8000000000 ∧ t.time.src = s.time.src ∧ s.time.nclk ≤ t.time.nclk := by
  refine answers_of_done (rtcSecondRun s) rfl ?_
  have hrun : rtcSecondRun s = rtcSynced (advancePool (1000000000 * (s.ptNs / 1000000000 + 1)) s) := if_pos hs
  rw [hrun]
  exact rtcSynced_effect _ s

/-! ### The calendar -/

theorem calCommit_date_answers (hh : s.su.held = false) (hb : s.isBusy .RTC_CMD_RESULT 0 = false) (hs : s.time.src < 2)
    (hv : s.staged.valid = true) : Answers .calCommit s fun t =>
      t.time.rtc = secs 1 * (s.staged.secs + s.time.utc.toNat) ∧ t.time.rtcValid = true ∧ t.reg .RTC_CMD_RESULT 0 = 0 := by
  refine answers_of_live (rtcCmdRun 1 calCommit) rfl hh ?_
  have hrun : rtcCmdRun 1 calCommit s = calCommit s := if_neg (by simp [hb])
  rw [hrun]
  unfold calCommit
  rw [if_neg (by omega)]
  simp only
  rw [if_pos hv]
  generalize secs 1 * (s.staged.secs + s.time.utc.toNat) = r
  refine ⟨?_, ?_, ?_⟩
  · simp only [settle_time, result_time]
    split_ifs
    · rw [correct_time_rest]
    · rfl
    · rfl
  · simp only [settle_time, result_time]
    split_ifs
    · rw [correct_time_rest]
    · rfl
    · rfl
  · rw [settle_reg, reg_result_self]
    rfl

theorem calCommit_bad_date_answers (hh : s.su.held = false) (hb : s.isBusy .RTC_CMD_RESULT 0 = false) (hs : s.time.src < 2)
    (hv : s.staged.valid = false) : Answers .calCommit s fun t =>
      t.time = { s.time with dateInvalid := true } ∧ t.reg .RTC_CMD_RESULT 0 = w32 stDATE_INVALID.toNat := by
  refine answers_of_live (rtcCmdRun 1 calCommit) rfl hh ?_
  have hrun : rtcCmdRun 1 calCommit s = calCommit s := if_neg (by simp [hb])
  rw [hrun]
  unfold calCommit
  rw [if_neg (by omega)]
  simp only
  rw [if_neg (by simp [hv])]
  refine ⟨?_, ?_⟩
  · rw [settle_time, result_time, logEv_time]
  · rw [settle_reg, reg_result_self]
    rfl

theorem calCommit_conflicts_answers (hh : s.su.held = false) (hb : s.isBusy .RTC_CMD_RESULT 0 = false) (hs : 2 ≤ s.time.src) :
    Answers .calCommit s fun t => t.time = s.time ∧ t.reg .RTC_CMD_RESULT 0 = w32 (s.time.src % 16 * 256 + 3) := by
  refine answers_of_live (rtcCmdRun 1 calCommit) rfl hh ?_
  have hrun : rtcCmdRun 1 calCommit s = conflict .RTC_CMD_RESULT 0 0x0C 0xFFFF s.time.src s :=
    (if_neg (by simp [hb])).trans (if_pos (by omega))
  rw [hrun]
  exact ⟨(settle_time _).trans (conflict_time _ _ _ _ _ _), reg_result_self _ _ _ _ _⟩

end Sys2Proof.Machine
end

section
open Sys2Proof Sys2Proof.Machine

/-- Settles O55: the exchange, its correction, holdover, PTP, the RTC's second and the staged date. -/
theorem poolTimeFollowsItsSource : Obligations.PoolTimeFollowsItsSource := by
  unfold Obligations.PoolTimeFollowsItsSource
  intro s hh
  exact ⟨timeSyncPeriod_answers hh, timeSync_answers hh, fun m => ⟨fun hd => timeDreq_headstock_answers hh hd m, fun hd => timeDreq_member_answers hh hd m⟩,
    fun m x hx => timeDresp_answers hh m hx, holdoverEntry_answers hh, fun a ha => holdoverExpire_answers hh ha,
    fun d ns hd h8 h7 => ⟨ptpMessage_locked_answers hh hd h8 h7, ptpMessage_unlocked_answers hh hd h8 h7⟩, rtcSecond_answers,
    fun hb => ⟨calCommit_date_answers hh hb, calCommit_bad_date_answers hh hb, calCommit_conflicts_answers hh hb⟩⟩

end

section
/-! PROOFS. What a message and the taking of a role change, and heartbeats (R387 to R391). -/

namespace Sys2Proof.Machine

variable {s : State}

/-! ### What taking a role changes -/

/-- A part of the state that a message of the device, and a record change that it begins, leave alone. -/
structure OffTalk {α : Type} (p : State → α) : Prop where
  regs : ∀ s x, p { s with regs := x } = p s
  cnt64 : ∀ s x, p { s with cnt64 := x } = p s
  links : ∀ s x, p { s with links := x } = p s
  out : ∀ s x, p { s with out := x } = p s
  coord : ∀ s x, p { s with coord := x } = p s

section
variable {α : Type} {p : State → α}

theorem OffTalk.send (hp : OffTalk p) (m : Msg) (s : State) : p (send m s) = p s := send_keeps p hp.regs hp.cnt64 hp.links hp.out s m

theorem OffTalk.coordOut (hp : OffTalk p) (d : W16) (a : Option Nat) (b : Bytes) (s : State) : p (coordOut d a b s) = p s :=
  coordOut_keeps p hp.regs hp.cnt64 hp.links hp.out hp.coord s d a b

theorem OffTalk.txSend (hp : OffTalk p) (id subop : Nat) (body : Bytes) (l : List W16) (s : State) : p (txSend id subop body l s) = p s := by
  unfold Machine.txSend
  refine (foldl_keeps p _ (fun s d => ?_) _ _).trans (hp.coord s _)
  exact (hp.coordOut _ _ _ _).trans ((hp.coord _ _).trans (hp.coord s _))

theorem OffTalk.txStart (hp : OffTalk p) (obj op number : Nat) (rec_ : Bytes) (h : CmdHdr) (cmd : Nat) (res : Bytes) (late : Bool) (l : List W16)
    (s : State) : p (txStart obj op number rec_ h cmd res late l s) = p s := by
  unfold Machine.txStart
  simp only
  split
  · exact hp.coord s _
  · exact (hp.txSend _ _ _ _ _).trans (hp.coord s _)

theorem OffTalk.sendRecords (hp : OffTalk p) (d : W16) (s : State) : p (sendRecords d s) = p s := by
  unfold Machine.sendRecords
  refine (foldl_keeps p _ (fun s e => ?_) _ _).trans (foldl_keeps p _ (fun s e => ?_) _ _)
  · split
    · rfl
    · exact hp.txStart _ _ _ _ _ _ _ _ _ s
  · split
    · rfl
    · exact hp.txStart _ _ _ _ _ _ _ _ _ s

/-- The device's own byte of the stack map changes the map, and what the headstock says of it. -/
theorem OffTalk.ownMapByte (hp : OffTalk p) (hspn : ∀ s x, p { s with spn := x } = p s) (s : State) : p (ownMapByte s) = p s := by
  have hpub : ∀ o s, p (publishMap o s) = p s := fun o s => by
    unfold publishMap
    simp only
    split
    · rfl
    · exact (foldl_keeps p _ (fun s d => hp.sendRecords _ s) _ _).trans
        ((foldl_keeps p _ (fun s d => hp.out s _) _ _).trans (hspn s _))
  unfold Machine.ownMapByte
  split
  · refine (hpub _ _).trans ?_
    split
    · exact (hspn _ _).trans (hspn s _)
    · exact hspn s _
  · rfl

theorem OffTalk.setRole (hp : OffTalk p) (hspn : ∀ s x, p { s with spn := x } = p s) (hpair : ∀ s x, p { s with pair := x } = p s)
    (r : Nat) (s : State) : p (setRole r s) = p s := (hp.ownMapByte hspn _).trans (hpair s _)

end

theorem offTalk_pair : OffTalk State.pair := ⟨fun _ _ => rfl, fun _ _ => rfl, fun _ _ => rfl, fun _ _ => rfl, fun _ _ => rfl⟩

@[simp] theorem setRole_pair (r : Nat) (s : State) : (setRole r s).pair = { s.pair with role := r } :=
  offTalk_pair.ownMapByte (fun _ _ => rfl) _

/-- A message on the pair link changes the link, its counters, and what left the device. -/
theorem OffTalk.sendPair {α : Type} {p : State → α} (hp : OffTalk p) (op : Nat) (b : Bytes) (s : State) : p (sendPair op b s) = p s := by
  unfold Machine.sendPair
  split
  · split
    · exact (foldl_keeps p _ (fun s i => putFlit_keeps p hp.regs hp.cnt64 hp.links hp.out s _ _) _ _).trans (hp.out s _)
    · rfl
  · rfl

/-! ### Heartbeats -/

theorem heartbeatSend_answers (hh : s.su.held = false) (hpos : s.spn.pos ≠ 0x3F) (hstop : s.hbStopped = false) :
    Answers .heartbeatSend s fun t =>
      let b := (s.updPair fun p => { p with alive := p.alive + 1 }).hbBody
      t.pair = { s.pair with alive := s.pair.alive + 1, hb := b ++ toLe 4 (crc32c b) } ∧ t.spn = s.spn ∧ t.mem = s.mem := by
  refine answers_of_live hbSendRun rfl hh ?_
  unfold hbSendRun
  obtain ⟨x, hx⟩ := pace_eq_time paceBeat (usec 100) s
  rw [hx]
  simp only
  rw [if_neg]
  · have hsent : ∀ {α : Type} {p : State → α}, OffTalk p → ∀ (c : Bool) (b : Bytes) (u : State), p (if c then u else sendPair 0x12 b u) = p u :=
      fun hp c b u => by cases c <;> [exact hp.sendPair _ _ u; rfl]
    refine ⟨?_, ?_, ?_⟩
    · rw [settle_pair, hsent offTalk_pair]
      rfl
    · rw [settle_spn, hsent (p := State.spn) ⟨fun _ _ => rfl, fun _ _ => rfl, fun _ _ => rfl, fun _ _ => rfl, fun _ _ => rfl⟩]
      rfl
    · rw [settle_mem, hsent (p := State.mem) ⟨fun _ _ => rfl, fun _ _ => rfl, fun _ _ => rfl, fun _ _ => rfl, fun _ _ => rfl⟩]
      rfl
  · rintro (hp | hs)
    · exact hpos hp
    · exact Bool.false_ne_true (hstop.symm.trans hs)

theorem heartbeat_bad_crc_answers (hh : s.su.held = false) (p : HbPath) {hb : Bytes} (hcrc : crc32c (cut hb 0 12) ≠ leAt hb 12 4) :
    Answers (.heartbeat p hb) s fun t =>
      t.pair = s.pair ∧ t.spn = s.spn ∧ t.reg .CHK_VALUE 1 = w32 (crc32c (cut hb 0 12) ^^^ 0xFFFFFFFF) := by
  refine answers_of_live (hbRx p hb) rfl hh ?_
  have hrun : hbRx p hb s = (s.setReg .CHK_VALUE 1 (w32 (crc32c (cut hb 0 12) ^^^ 0xFFFFFFFF))).count .HB_CRC_ERR_CNT := if_pos (.inr hcrc)
  rw [hrun]
  refine ⟨?_, ?_, ?_⟩
  · rw [settle_pair, count_pair, setReg_pair]
  · rw [settle_spn, count_spn, setReg_spn]
  · rw [settle_reg, count_reg_ne _ _ (by decide), reg_setReg_self]

theorem heartbeat_accepted_answers (hh : s.su.held = false) {hb : Bytes} (hlen : hb.length = 16) (hcrc : crc32c (cut hb 0 12) = leAt hb 12 4)
    (hsolo : s.soloRec = false) (hsrc : leAt hb 0 2 = s.partnerId.toNat) (hnew : s.pair.link.last ≠ some (byte (leAt hb 2 1))) :
    Answers (.heartbeat .link hb) s fun t =>
      t.pair = { s.pair with link := { s.pair.link with good := true, last := some (byte (leAt hb 2 1)) }, partnerRole := leAt hb 3 1 % 16,
                             partnerReady := bit (leAt hb 3 1) 4, partnerHandback := bit (leAt hb 3 1) 7, partnerKak := w32 (leAt hb 8 4) } ∧
      t.spn = s.spn ∧ t.out = s.out := by
  refine answers_of_live (hbRx .link hb) rfl hh ?_
  have hform : ¬(hb.length < 16 ∨ crc32c (cut hb 0 12) ≠ leAt hb 12 4) := by
    rintro (h | h)
    · omega
    · exact h hcrc
  have hpartner : ¬((s.setReg .CHK_VALUE 1 (w32 (crc32c (cut hb 0 12) ^^^ 0xFFFFFFFF))).soloRec = true ∨
      leAt hb 0 2 ≠ (s.setReg .CHK_VALUE 1 (w32 (crc32c (cut hb 0 12) ^^^ 0xFFFFFFFF))).partnerId.toNat) := by
    rintro (h | h)
    · exact Bool.false_ne_true (hsolo.symm.trans h)
    · exact h hsrc
  have hrun : hbRx .link hb s =
      (setHbPath .link { s.pair.link with good := true, last := some (byte (leAt hb 2 1)) }
        (s.setReg .CHK_VALUE 1 (w32 (crc32c (cut hb 0 12) ^^^ 0xFFFFFFFF)))).updPair fun y =>
          { y with partnerRole := leAt hb 3 1 % 16, partnerReady := bit (leAt hb 3 1) 4, partnerHandback := bit (leAt hb 3 1) 7,
                   partnerKak := w32 (leAt hb 8 4) } := (if_neg hform).trans ((if_neg hpartner).trans (if_neg hnew))
  rw [hrun]
  exact ⟨rfl, rfl, rfl⟩

theorem slotEnd_good {x : HbPathSt} (h : x.good = true) : x.slotEnd = { x with good := false, miss := 0, fault := false } := if_pos h

theorem slotEnd_missed {x : HbPathSt} (h : x.good = false) : x.slotEnd = { x with miss := min 15 (x.miss + 1) } := if_neg (by simp [h])

theorem pathFault_below {p : HbPath} {was other : Nat} (h : (s.hbPath p).miss ≠ 8) : pathFault p was other s = s := if_neg fun hc => h hc.1

/-- Both paths' slots end. -/
def pathsEnded (s : State) : State := s.updPair fun p => { p with chain := p.chain.slotEnd, link := p.link.slotEnd }

/-- What the ended slots come to, where the paths had missed `c0` and `l0` before. -/
def slotJudged (c0 l0 : Nat) (s : State) : State :=
  if 8 ≤ s.pair.chain.miss ∧ 8 ≤ s.pair.link.miss then
    if s.pair.detected then s
    else
      let s := s.updPair fun p => { p with detected := true }
      if s.pair.role = 2 ∧ s.pair.ready then takeoverStart s else pairEv .timeout s.partnerPos 0 s.pair.partnerRole s
  else
    let s := pathFault .link l0 s.pair.chain.miss (pathFault .chain c0 s.pair.link.miss s)
    if s.pair.role = 4 then s else s.updPair fun p => { p with detected := false }

theorem hbSlotRun_of_member (hsolo : s.soloRec = false) (hpos : s.spn.pos ≠ 0x3F) :
    ∃ x, hbSlotRun s = slotJudged s.pair.chain.miss s.pair.link.miss (pathsEnded { s with time := x }) := by
  unfold hbSlotRun
  obtain ⟨x, hx⟩ := pace_eq_time paceSlot (usec 100) s
  rw [hx]
  refine ⟨x, if_neg ?_⟩
  rintro (h | h)
  · exact Bool.false_ne_true (hsolo.symm.trans h)
  · exact hpos h

/-- A slot after which neither path misses any heartbeat. -/
theorem slotJudged_well {c0 l0 : Nat} (hc : s.pair.chain.miss = 0) (hl : s.pair.link.miss = 0) (hr : s.pair.role ≠ 4) :
    slotJudged c0 l0 s = s.updPair fun p => { p with detected := false } := by
  have hquiet : ∀ p was other, pathFault p was other s = s := fun p was other => by
    refine pathFault_below ?_
    cases p
    · exact hc.trans_ne (by decide)
    · exact hl.trans_ne (by decide)
  unfold slotJudged
  rw [if_neg (by omega)]
  simp only [hquiet]
  exact if_neg hr

/-- The eighth slot without a heartbeat on either path makes a STEADY member that is ready take over. -/
theorem slotJudged_silent {c0 l0 : Nat} (hc : 8 ≤ s.pair.chain.miss) (hl : 8 ≤ s.pair.link.miss) (hd : s.pair.detected = false)
    (hr : s.pair.role = 2) (hready : s.pair.ready = true) :
    slotJudged c0 l0 s = takeoverStart (s.updPair fun p => { p with detected := true }) :=
  (if_pos ⟨hc, hl⟩).trans ((if_neg (by simp [hd])).trans (if_pos ⟨hr, hready⟩))

theorem takeoverStart_pair (s : State) : (takeoverStart s).pair = { s.pair with role := 4, seize := true, stages := [], handing := false } := by
  unfold takeoverStart State.updPair
  simp only [setRole_pair, count_pair]
  rfl

theorem takeoverStart_outputsOff (s : State) : (takeoverStart s).outputsOff = s.outputsOff := by
  have h : OffTalk State.outputsOff := ⟨fun _ _ => rfl, fun _ _ => rfl, fun _ _ => rfl, fun _ _ => rfl, fun _ _ => rfl⟩
  exact (h.setRole (fun _ _ => rfl) (fun _ _ => rfl) _ _).trans
    (count_keeps State.outputsOff (fun _ _ => rfl) (fun _ _ => rfl) _ _ _ _)

theorem hbSlotEnd_good_answers (hh : s.su.held = false) (hsolo : s.soloRec = false) (hpos : s.spn.pos ≠ 0x3F) (hc : s.pair.chain.good = true)
    (hl : s.pair.link.good = true) (hr : s.pair.role ≠ 4) : Answers .hbSlotEnd s fun t =>
      t.pair.chain.miss = 0 ∧ t.pair.link.miss = 0 ∧ t.pair.chain.good = false ∧ t.pair.link.good = false ∧ t.pair.detected = false ∧
      t.pair.role = s.pair.role := by
  refine answers_of_live hbSlotRun rfl hh ?_
  obtain ⟨x, hrun⟩ := hbSlotRun_of_member hsolo hpos
  have hcm : (pathsEnded { s with time := x }).pair.chain = { s.pair.chain with good := false, miss := 0, fault := false } := slotEnd_good hc
  have hlm : (pathsEnded { s with time := x }).pair.link = { s.pair.link with good := false, miss := 0, fault := false } := slotEnd_good hl
  rw [hrun, slotJudged_well (s := pathsEnded { s with time := x }) (by rw [hcm]) (by rw [hlm]) hr, settle_pair, State.updPair]
  simp only [hcm, hlm]
  exact ⟨trivial, trivial, trivial, trivial, trivial, rfl⟩

theorem hbSlotEnd_takes_over_answers (hh : s.su.held = false) (hsolo : s.soloRec = false) (hpos : s.spn.pos ≠ 0x3F)
    (hc : s.pair.chain.good = false) (hl : s.pair.link.good = false) (h7 : 7 ≤ s.pair.chain.miss) (k7 : 7 ≤ s.pair.link.miss)
    (hd : s.pair.detected = false) (hr : s.pair.role = 2) (hready : s.pair.ready = true) : Answers .hbSlotEnd s fun t =>
      t.pair.role = 4 ∧ t.pair.seize = true ∧ t.pair.stages = [] ∧ t.pair.detected = true ∧ t.lands.pairSeizeN = s.outputsOff := by
  refine answers_of_live hbSlotRun rfl hh ?_
  obtain ⟨x, hrun⟩ := hbSlotRun_of_member hsolo hpos
  have hcm : (pathsEnded { s with time := x }).pair.chain.miss = min 15 (s.pair.chain.miss + 1) :=
    congrArg HbPathSt.miss (slotEnd_missed hc)
  have hlm : (pathsEnded { s with time := x }).pair.link.miss = min 15 (s.pair.link.miss + 1) :=
    congrArg HbPathSt.miss (slotEnd_missed hl)
  rw [hrun, slotJudged_silent (s := pathsEnded { s with time := x }) (by rw [hcm]; omega) (by rw [hlm]; omega) hd hr hready]
  refine ⟨?_, ?_, ?_, ?_, ?_⟩
  · rw [settle_pair, takeoverStart_pair]
  · rw [settle_pair, takeoverStart_pair]
  · rw [settle_pair, takeoverStart_pair]
  · rw [settle_pair, takeoverStart_pair]
    rfl
  · show ((takeoverStart _).outputsOff || !(takeoverStart _).pair.seize) = _
    rw [takeoverStart_pair, takeoverStart_outputsOff]
    exact Bool.or_false _

theorem partnerWaitTimeout_answers (hh : s.su.held = false) {a : Nat} (ha : s.pair.waitAt = some a) (h0 : s.pair.role = 0)
    (h1 : s.pair.partnerRole ≠ 1) : Answers .partnerWaitTimeout s fun t =>
      t.pair = { s.pair with waitAt := none, seize := true } ∧ a + secs 2 ≤ t.time.nclk := by
  refine answers_of_live partnerWaitRun rfl hh ?_
  have hrun : partnerWaitRun s = (advanceTo (a + secs 2) s).updPair fun p => { p with waitAt := none, seize := true } := by
    unfold partnerWaitRun
    rw [ha]
    exact if_pos ⟨h0, h1⟩
  rw [hrun]
  refine ⟨?_, ?_⟩
  · rw [settle_pair, updPair_pair, advanceTo_pair]
  · rw [settle_time, updPair_time]
    exact le_advanceTo _ s

end Sys2Proof.Machine
end

section
open Sys2Proof Sys2Proof.Machine

/-- Settles O41: heartbeats go out and come in, and their slots end. -/
theorem heartbeatsShowThePartner : Obligations.HeartbeatsShowThePartner := by
  unfold Obligations.HeartbeatsShowThePartner
  intro s hh
  exact ⟨heartbeatSend_answers hh, fun p hb _ hcrc => heartbeat_bad_crc_answers hh p hcrc,
    fun hb hlen hcrc hsolo hsrc hnew => heartbeat_accepted_answers hh hlen hcrc hsolo hsrc hnew,
    fun hsolo hpos => ⟨hbSlotEnd_good_answers hh hsolo hpos, hbSlotEnd_takes_over_answers hh hsolo hpos⟩,
    fun a ha => partnerWaitTimeout_answers hh ha⟩

end

section
/-! PROOFS. Check-value units (R391). -/

namespace Sys2Proof.Machine

variable {s : State}

theorem chkValueWrite_answers (hh : s.su.held = false) {u : Fin 8} (hu : 2 ≤ u.val) (v : W32) :
    Answers (.chkValueWrite u v) s fun t => t = settle (s.setReg .CHK_VALUE u.val v) := by
  refine answers_of_live (chkValueRun u v) rfl hh ?_
  have hrun : chkValueRun u v s = s.setReg .CHK_VALUE u.val v := if_neg (by omega)
  rw [hrun]

theorem chkKey_ne (u : Fin 8) : regKey .CHK_CFG u.val ≠ regKey .CHK_VALUE u.val := fun h =>
  absurd (regKey_inj (by omega) (by omega) h).1 (by decide)

theorem chkCfgWrite_answers (hh : s.su.held = false) {u : Fin 8} (hu : 2 ≤ u.val) {v : W32} (halg : fld v 2 1 = 0) (hinit : bit v.toNat 0 = true) :
    Answers (.chkCfgWrite u v) s fun t => t.reg .CHK_VALUE u.val = 0xFFFFFFFF ∧ t.rfld .CHK_CFG u.val 2 1 = 0 ∧ t.mem = s.mem := by
  refine answers_of_live (chkCfgRun u v) rfl hh ?_
  have hrun : chkCfgRun u v s = (s.setReg .CHK_CFG u.val (w32 (2 * fld v 2 1))).setReg .CHK_VALUE u.val (w32 (chkInit (fld v 2 1))) :=
    (if_neg (by omega)).trans (if_pos hinit)
  rw [hrun, halg]
  refine ⟨?_, ?_, rfl⟩
  · rw [settle_reg, reg_setReg_self]
    rfl
  · rw [State.rfld, settle_reg, reg_setReg_ne _ _ (chkKey_ne u), reg_setReg_self]
    rfl

theorem chkDataWrite_answers (hh : s.su.held = false) {u : Fin 8} (hu : 2 ≤ u.val) (v : W32) (n : Fin 3) (halg : s.rfld .CHK_CFG u.val 2 1 = 0) :
    Answers (.chkDataWrite u n v) s fun t =>
      t.reg .CHK_VALUE u.val = w32 ((toLe (2 ^ n.val) v.toNat).foldl (crcByte 0x82F63B78) (s.reg .CHK_VALUE u.val).toNat) ∧
      t = { s with regs := t.regs, lands := t.lands } := by
  refine answers_of_live (chkDataRun u (2 ^ n.val) v) rfl hh ?_
  have hrun : chkDataRun u (2 ^ n.val) v s = s.setReg .CHK_VALUE u.val
      (w32 ((toLe (2 ^ n.val) v.toNat).foldl (chkByte (s.rfld .CHK_CFG u.val 2 1)) (s.reg .CHK_VALUE u.val).toNat)) := if_neg (by omega)
  rw [hrun, halg]
  exact ⟨reg_setReg_self _ _ _ _, rfl⟩

section
variable {u : Fin 8} (hu : u.val < 2)
include hu

theorem chkValueWrite_hub_answers (hh : s.su.held = false) (v : W32) : Answers (.chkValueWrite u v) s fun t => t = settle s := by
  refine answers_of_live (chkValueRun u v) rfl hh ?_
  rw [chkValueRun, if_pos hu]

theorem chkCfgWrite_hub_answers (hh : s.su.held = false) (v : W32) : Answers (.chkCfgWrite u v) s fun t => t = settle s := by
  refine answers_of_live (chkCfgRun u v) rfl hh ?_
  rw [chkCfgRun, if_pos hu]

theorem chkDataWrite_hub_answers (hh : s.su.held = false) (v : W32) (n : Fin 3) : Answers (.chkDataWrite u n v) s fun t => t = settle s := by
  refine answers_of_live (chkDataRun u (2 ^ n.val) v) rfl hh ?_
  rw [chkDataRun, if_pos hu]

end

/-- The worked computation of R391: the nine digits, written as writes of one, two, four and two bytes, come to the catalogue's check value. -/
theorem chk_digits : w32 ((toLe 2 0x3938).foldl (crcByte 0x82F63B78)
    (w32 ((toLe 1 0x31 ++ toLe 2 0x3332 ++ toLe 4 0x37363534).foldl (crcByte 0x82F63B78) 0xFFFFFFFF)).toNat) ^^^ w32 (chkXor 0) = 0xE3069283 := by
  decide +kernel

theorem chkResult_answers (hh : s.su.held = false) (halg : s.rfld .CHK_CFG 2 2 1 = 0) : Answers (.chkDataWrite 2 1 0x3938)
      (s.setReg .CHK_VALUE 2 (w32 ((toLe 1 0x31 ++ toLe 2 0x3332 ++ toLe 4 0x37363534).foldl (crcByte 0x82F63B78) 0xFFFFFFFF))) fun t =>
        t.liveReg .CHK_RESULT 2 = 0xE3069283 := by
  have hcfg : ∀ (t : State) (x : W32), (t.setReg .CHK_VALUE 2 x).rfld .CHK_CFG 2 2 1 = t.rfld .CHK_CFG 2 2 1 := fun t x =>
    congrArg (fld · 2 1) (reg_setReg_ne t x (chkKey_ne 2))
  have hsum := chk_digits
  generalize w32 ((toLe 1 0x31 ++ toLe 2 0x3332 ++ toLe 4 0x37363534).foldl (crcByte 0x82F63B78) 0xFFFFFFFF) = v at hsum ⊢
  refine answers_of_live (chkDataRun 2 2 0x3938) rfl hh ?_
  have hrun : chkDataRun 2 2 0x3938 (s.setReg .CHK_VALUE 2 v) = (s.setReg .CHK_VALUE 2 v).setReg .CHK_VALUE 2
      (w32 ((toLe 2 0x3938).foldl (chkByte ((s.setReg .CHK_VALUE 2 v).rfld .CHK_CFG 2 2 1)) ((s.setReg .CHK_VALUE 2 v).reg .CHK_VALUE 2).toNat)) :=
    if_neg (by decide)
  rw [hrun, hcfg, halg, reg_setReg_self]
  have hlive : ∀ t : State, t.rfld .CHK_CFG 2 2 1 = 0 → t.liveReg .CHK_RESULT 2 = t.reg .CHK_VALUE 2 ^^^ w32 (chkXor 0) := fun t ht => by
    rw [← ht]
    exact if_neg (by omega)
  have halg' : ∀ x, (settle ((s.setReg .CHK_VALUE 2 v).setReg .CHK_VALUE 2 x)).rfld .CHK_CFG 2 2 1 = 0 := fun x =>
    ((hcfg _ x).trans (hcfg s v)).trans halg
  rw [hlive _ (halg' _), settle_reg, reg_setReg_self]
  exact hsum

end Sys2Proof.Machine
end

section
open Sys2Proof Sys2Proof.Machine

/-- Settles O44: what writes to the check-value units do, and the worked computation of the spec. -/
theorem checkValueUnits : Obligations.CheckValueUnits := by
  unfold Obligations.CheckValueUnits
  intro s hh
  exact ⟨fun u v hu => ⟨chkValueWrite_answers hh hu v, chkCfgWrite_answers hh hu, chkDataWrite_answers hh hu v⟩,
    fun u v n hu => ⟨chkValueWrite_hub_answers hu hh v, chkCfgWrite_hub_answers hu hh v, chkDataWrite_hub_answers hu hh v n⟩,
    chkResult_answers hh⟩

end

section
/-! PROOFS. Epochs of pairs and their announcement (R394). -/

namespace Sys2Proof.Machine

variable {s : State} {m : MgtMsg}

theorem offTalk_alive : OffTalk State.alive := ⟨fun _ _ => rfl, fun _ _ => rfl, fun _ _ => rfl, fun _ _ => rfl, fun _ _ => rfl⟩

theorem sendMgt_sent (d : W16) (op : Nat) (b : Bytes) (s : State) :
    ∃ q : Msg, (settle (sendMgt d op b s)).Sent q ∧ q.op = op ∧ q.dst = d ∧ q.payload = b := ⟨_, send_sent s _, rfl, rfl, rfl⟩

/-- The announcement's epoch is held with its member. -/
def holdEpoch (m : MgtMsg) (s : State) : State :=
  let s := s.updPair fun p => { p with heldEpochs := p.heldEpochs.ins (leAt m.payload 0 2) (w32 (leAt m.payload 4 4)) }
  match s.aliveIdx (leAt m.payload 0 2) with
  | some i => { s with alive := s.alive.put 0 i (leAt m.payload 2 1 % 2) }
  | none => s

/-- An announcement of a member of the pair it names. -/
theorem epochRx_of_member {p : Nat} (hp : p < 16) (hal : leAt m.payload 0 2 = m.src.toNat / 64 * 64 + 0x20 + p) (hpair : m.src.toNat % 64 / 2 = p)
    (hdev : m.src.toNat % 64 < 0x20) :
    epochRx m s = sendMgt m.src 0x11 (toLe 2 (leAt m.payload 0 2) ++ toLe 4 (w32 (leAt m.payload 4 4)).toNat)
      (if older (s.pair.heldEpochs.get 0 (leAt m.payload 0 2)).toNat (w32 (leAt m.payload 4 4)).toNat then holdEpoch m s else s) := by
  have hmember : (leAt m.payload 0 2 / 64 = m.src.toNat / 64 && 0x20 ≤ leAt m.payload 0 2 % 64 && leAt m.payload 0 2 % 64 < 0x30 &&
      m.src.toNat % 64 < 0x20 && m.src.toNat % 64 / 2 = leAt m.payload 0 2 % 64 - 0x20) = true := by
    simp only [Bool.and_eq_true, decide_eq_true_eq]
    omega
  unfold epochRx
  simp only [hmember]
  rw [if_neg (by decide)]
  by_cases hnew : older (s.pair.heldEpochs.get 0 (leAt m.payload 0 2)).toNat (w32 (leAt m.payload 4 4)).toNat = true
  · rw [if_pos hnew, if_pos hnew]
    rfl
  · rw [if_neg hnew, if_neg hnew]

theorem holdEpoch_effect (s : State) : (holdEpoch m s).pair.heldEpochs.get 0 (leAt m.payload 0 2) = w32 (leAt m.payload 4 4) ∧
    ∀ i : Nat, s.aliveIdx (leAt m.payload 0 2) = some i → (holdEpoch m s).alive.get 0 i = leAt m.payload 2 1 % 2 := by
  have hidx : ∀ f, (s.updPair f).aliveIdx (leAt m.payload 0 2) = s.aliveIdx (leAt m.payload 0 2) := fun _ => rfl
  unfold holdEpoch
  simp only [hidx]
  cases hi : s.aliveIdx (leAt m.payload 0 2) with
  | none =>
    refine ⟨?_, fun i h => absurd h (by simp)⟩
    simp only [Sparse.get, updPair_pair, Sparse.find_ins_self, Option.getD_some]
  | some j =>
    refine ⟨?_, fun i h => ?_⟩
    · simp only [Sparse.get, updPair_pair, Sparse.find_ins_self, Option.getD_some]
    · obtain rfl := Option.some.inj h
      exact Sparse.get_put_self _ _ _ _

theorem epochAnnounce_newer_answers (hh : s.su.held = false) {p : Nat} (hp : p < 16) (hal : leAt m.payload 0 2 = m.src.toNat / 64 * 64 + 0x20 + p)
    (hpair : m.src.toNat % 64 / 2 = p) (hdev : m.src.toNat % 64 < 0x20)
    (hnew : older (s.pair.heldEpochs.get 0 (leAt m.payload 0 2)).toNat (w32 (leAt m.payload 4 4)).toNat = true) : Answers (.epochAnnounce m) s fun t =>
      t.pair.heldEpochs.get 0 (leAt m.payload 0 2) = w32 (leAt m.payload 4 4) ∧
      (∀ i : Nat, s.aliveIdx (leAt m.payload 0 2) = some i → t.alive.get 0 i = leAt m.payload 2 1 % 2) ∧
      ∃ q : Msg, t.Sent q ∧ q.op = 0x11 ∧ q.dst = m.src ∧ q.payload = toLe 2 (leAt m.payload 0 2) ++ toLe 4 (w32 (leAt m.payload 4 4)).toNat := by
  refine answers_of_live (epochRx m) rfl hh ?_
  rw [epochRx_of_member hp hal hpair hdev, if_pos hnew]
  obtain ⟨hheld, halive⟩ := holdEpoch_effect (m := m) s
  refine ⟨?_, fun i hi => ?_, sendMgt_sent _ _ _ _⟩
  · rw [settle_pair, sendMgt, send_pair]
    exact hheld
  · rw [settle_alive, sendMgt, send_alive]
    exact halive i hi

theorem epochAnnounce_known_answers (hh : s.su.held = false) {p : Nat} (hp : p < 16) (hal : leAt m.payload 0 2 = m.src.toNat / 64 * 64 + 0x20 + p)
    (hpair : m.src.toNat % 64 / 2 = p) (hdev : m.src.toNat % 64 < 0x20)
    (hold : older (s.pair.heldEpochs.get 0 (leAt m.payload 0 2)).toNat (w32 (leAt m.payload 4 4)).toNat = false) :
    Answers (.epochAnnounce m) s fun t => t.pair = s.pair ∧ t.alive = s.alive := by
  refine answers_of_live (epochRx m) rfl hh ?_
  rw [epochRx_of_member hp hal hpair hdev, if_neg (by rw [hold]; decide)]
  exact ⟨by rw [settle_pair, sendMgt, send_pair], by rw [settle_alive, sendMgt, send_alive]⟩

theorem epochAnnounce_stranger_answers (hh : s.su.held = false) (hst : leAt m.payload 0 2 / 64 ≠ m.src.toNat / 64) :
    Answers (.epochAnnounce m) s fun t => t = settle s := by
  refine answers_of_live (epochRx m) rfl hh ?_
  unfold epochRx
  simp only [hst, decide_false, Bool.false_and, Bool.not_false, if_true]

theorem epochAck_answers (hh : s.su.held = false) (hal : leAt m.payload 0 2 = s.myAlias.toNat) (he : w32 (leAt m.payload 2 4) = s.pair.epoch) :
    Answers (.epochAck m) s fun t =>
      t = { s with pair := { s.pair with announces := s.pair.announces.map fun a => if a.dest = m.src then { a with acked := true } else a },
                   lands := t.lands } := by
  refine answers_of_live (epochAckRx m) rfl hh ?_
  have hrun : epochAckRx m s = s.updPair fun p => { p with announces := p.announces.map fun a => if a.dest = m.src then { a with acked := true } else a } :=
    if_pos ⟨hal, he⟩
  rw [hrun]
  rfl

/-! ### Announcing again -/

section
variable {w : W16} {a : Announce}

/-- The next whole millisecond after the announcement. -/
def retryInstant (a : Announce) (s : State) : Nat := a.since + ((s.time.nclk - a.since) / msec 1 + 1) * msec 1

/-- The announcement goes again, or is given up once a second has passed. -/
def retried (w : W16) (a : Announce) (s : State) : State :=
  if a.since + secs 1 < s.time.nclk then
    pairEv .timeout s.spn.pos 0 s.pair.role (s.updPair fun p => { p with announces := p.announces.filter fun x => x.dest ≠ w })
  else sendMgt w 0x10 (s.announcePayload s.pair.handing) s

theorem epochRetryRun_of_waiting (hf : (s.pair.announces.find? fun x => x.dest = w && !x.acked) = some a) :
    epochRetryRun w s = retried w a (advanceTo (retryInstant a s) s) := by
  unfold epochRetryRun retryInstant
  rw [hf]
  dsimp only
  generalize advanceTo (a.since + ((s.time.nclk - a.since) / msec 1 + 1) * msec 1) s = u
  rfl

theorem msec_one_pos : 0 < msec 1 := by decide

theorem lt_retryInstant (h : a.since ≤ s.time.nclk) : s.time.nclk < retryInstant a s := by
  unfold retryInstant
  have := Nat.lt_div_mul_add (a := s.time.nclk - a.since) msec_one_pos
  rw [Nat.add_mul, Nat.one_mul]
  omega

theorem retryInstant_le (h : a.since ≤ s.time.nclk) : retryInstant a s ≤ s.time.nclk + msec 1 := by
  unfold retryInstant
  have := Nat.div_mul_le_self (s.time.nclk - a.since) (msec 1)
  rw [Nat.add_mul, Nat.one_mul]
  omega

theorem announcePayload_advanceTo (d : Nat) (b : Bool) : (advanceTo d s).announcePayload b = s.announcePayload b :=
  advanceTo_keeps (fun s => s.announcePayload b) (fun _ _ => rfl) s d

theorem epochAnnounceRetry_again_answers (hh : s.su.held = false) (hf : (s.pair.announces.find? fun x => x.dest = w && !x.acked) = some a)
    (hs : a.since ≤ s.time.nclk) (hn : s.time.nclk + msec 1 ≤ a.since + secs 1) : Answers (.epochAnnounceRetry w) s fun t =>
      t.pair = s.pair ∧ s.time.nclk < t.time.nclk ∧ ∃ q : Msg, t.Sent q ∧ q.op = 0x10 ∧ q.dst = w ∧ q.payload = s.announcePayload s.pair.handing := by
  refine answers_of_live (epochRetryRun w) rfl hh ?_
  have hle : (advanceTo (retryInstant a s) s).time.nclk ≤ a.since + secs 1 := by
    rw [advanceTo_nclk]
    exact max_le ((Nat.le_add_right _ _).trans hn) ((retryInstant_le hs).trans hn)
  rw [epochRetryRun_of_waiting hf, retried, if_neg (not_lt.2 hle), announcePayload_advanceTo, advanceTo_pair]
  refine ⟨?_, ?_, sendMgt_sent _ _ _ _⟩
  · rw [settle_pair, sendMgt, send_pair, advanceTo_pair]
  · rw [settle_time, sendMgt, send_time, advanceTo_nclk]
    exact lt_max_of_lt_right (lt_retryInstant hs)

theorem epochAnnounceRetry_gives_up_answers (hh : s.su.held = false) (hf : (s.pair.announces.find? fun x => x.dest = w && !x.acked) = some a)
    (hlate : a.since + secs 1 < s.time.nclk) : Answers (.epochAnnounceRetry w) s fun t => ∀ x ∈ t.pair.announces, x.dest ≠ w := by
  refine answers_of_live (epochRetryRun w) rfl hh ?_
  have hlt : a.since + secs 1 < (advanceTo (retryInstant a s) s).time.nclk := by
    rw [advanceTo_nclk]
    exact lt_max_of_lt_left hlate
  rw [epochRetryRun_of_waiting hf, retried, if_pos hlt]
  intro x hx
  rw [settle_pair, pairEv, logEv_pair, updPair_pair] at hx
  exact of_decide_eq_true (List.mem_filter.1 hx).2

end

end Sys2Proof.Machine
end

section
open Sys2Proof Sys2Proof.Machine

/-- Settles O43: announcements, their acknowledgements, and what is done where one stays out. -/
theorem epochsAreAnnounced : Obligations.EpochsAreAnnounced := by
  unfold Obligations.EpochsAreAnnounced
  intro s m hh
  exact ⟨fun p hp hal hpair hdev => ⟨epochAnnounce_newer_answers hh hp hal hpair hdev, epochAnnounce_known_answers hh hp hal hpair hdev⟩,
    epochAnnounce_stranger_answers hh, epochAck_answers hh,
    fun a hf hs => ⟨epochAnnounceRetry_again_answers hh hf hs, epochAnnounceRetry_gives_up_answers hh hf⟩⟩

end

section
/-! PROOFS. Resets of the hub: what starts it, what holds it in reset, and the oscillators (R424, R425, R430, R476). -/

namespace Sys2Proof.Machine

variable {s : State}

/-! ### The hub starts -/

/-- Where Heartwood is intact, a start of the hub is its reset and nothing more. -/
theorem startHub_intact (cause : Byte) (hi : s.Intact) : startHub cause s = watched (hubReset cause s) := by
  obtain ⟨hcont, hp, hs⟩ := hi
  have hhw : (watched (hubReset cause s)).hw = { s.hw with eph := Vector.replicate 16 none, resetPending := none, secOpen := false, watchGap := false } := by
    unfold watched
    rw [hubReset_hw]
  have hfound : (hubReset cause s).hw.cont = contWord (hubReset cause s).hw.epoch := by
    rw [hubReset_hw]
    exact hcont
  have hrun : startHub cause s = vaultStart (watched (hubReset cause s)) := if_pos hfound
  rw [hrun, vaultStart_intact (by rw [hhw]; exact hp) (by rw [hhw]; exact hs)]

theorem byte_toNat (b : Byte) : byte b.toNat = b := BitVec.ofNat_toNat .. |>.trans (BitVec.setWidth_eq b)

/-- A reset of the hub, of its part of the vault too, that is not held up: what has started, and what is kept. -/
theorem hubReset_started (cause : Byte) (s : State) : Started s (watched (hubReset cause s)) cause := by
  unfold Started watched hubReset
  rw [rtcStart_rest]
  exact ⟨⟨_, rfl, rfl, byte_toNat cause⟩, rfl, rfl, rfl, rfl, rfl, rfl, rfl, rfl, rfl, rfl, fun i => Vector.getElem_replicate i.isLt, rfl, rfl⟩

theorem hubReset_pin (cause : Byte) (s : State) : (watched (hubReset cause s)).pin = s.pin := by
  unfold watched hubReset
  rw [rtcStart_rest]
  rfl

theorem hubReset_nclk (cause : Byte) (s : State) : (watched (hubReset cause s)).time.nclk = s.time.nclk := by
  unfold watched hubReset rtcStart
  split_ifs <;> rfl

/-- A start from outside, the straps sampled. -/
theorem startWith_effect (cause : Byte) (x : Straps) (p : Bool) (hi : s.Intact) :
    Started s (settle (startWith cause x p s)) cause ∧ (startWith cause x p s).pin = { s.pin with head := x.head, hosted := x.hosted } ∧
      (startWith cause x p s).clk.refSel = x.refSel ∧ (startWith cause x p s).clk.srefSel = x.srefSel ∧ (startWith cause x p s).hw.pufOk = p := by
  let u : State := { s with pin := { s.pin with head := x.head, hosted := x.hosted }, hw := { s.hw with pufOk := p },
                            su := { s.su with held := false, waitRef := false } }
  have hrun : startWith cause x p s = { watched (hubReset cause u) with clk := { (watched (hubReset cause u)).clk with refSel := x.refSel, srefSel := x.srefSel } } := by
    rw [← startHub_intact (s := u) cause hi]
    rfl
  have hst : Started s (watched (hubReset cause u)) cause := hubReset_started cause u
  rw [hrun]
  refine ⟨hst, hubReset_pin cause u, rfl, rfl, ?_⟩
  show (hubReset cause u).hw.pufOk = p
  rw [hubReset_hw]

theorem powerOnReset_porstN_answers (x : Straps) (p : Bool) (hi : s.Intact) (hpf : s.pwr.pfPhase ≠ 1 ∨ s.su.held = true) (h5 : s.pwr.st ≠ 5)
    (ht : s.pwr.trip = false) : Answers (.powerOnReset .porstN x p) s fun t =>
      Started s t 2 ∧ t.pin.head = x.head ∧ t.pin.hosted = x.hosted ∧ t.clk.refSel = x.refSel ∧ t.clk.srefSel = x.srefSel ∧ t.hw.pufOk = p := by
  refine answers_of_done (powerOnRun .porstN x p s) rfl ?_
  have hrun : powerOnRun .porstN x p s = startWith (if s.pwr.trip then 8 else 2) x p s := by
    refine (if_neg ?_).trans (if_neg h5)
    rintro ⟨h1, hheld⟩
    rcases hpf with h | h
    · exact h h1
    · simp [h] at hheld
  rw [hrun, ht, if_neg Bool.false_ne_true]
  obtain ⟨hst, hpin, hclk⟩ := startWith_effect 2 x p hi
  refine ⟨hst, ?_, ?_, hclk⟩
  · rw [settle_pin, hpin]
  · rw [settle_pin, hpin]

theorem powerOnReset_powerApplied_answers (x : Straps) (p : Bool) (hi : s.Intact) (hn : s.hw.resetPending = none) (ht : s.pwr.trip = false) :
    Answers (.powerOnReset .powerApplied x p) s fun t =>
      Started s t 1 ∧ t.pin.head = x.head ∧ t.pin.hosted = x.hosted ∧ t.pin.pwrfailN = true := by
  refine answers_of_done (powerOnRun .powerApplied x p s) rfl ?_
  have hrun : powerOnRun .powerApplied x p s = startWith 1 x p { s with pin := { s.pin with pwrfailN := true } } := by
    unfold powerOnRun
    simp only [hn, Option.getD_none, ht, Bool.false_eq_true, if_false]
  rw [hrun]
  obtain ⟨hst, hpin, -⟩ := startWith_effect (s := { s with pin := { s.pin with pwrfailN := true } }) 1 x p hi
  refine ⟨hst, ?_, ?_, ?_⟩
  · rw [settle_pin, hpin]
  · rw [settle_pin, hpin]
  · rw [settle_pin, hpin]

/-! ### The hub is held in reset -/

theorem ofBits_all_24 {f : Nat → Bool} (h : ∀ i, i < 24 → f i = true) : ofBits 24 f = 0xFFFFFF :=
  calc ofBits 24 f = ofBits 24 fun _ => true := List.foldl_ext _ _ _ fun v i hi => by rw [h i (List.mem_range.1 hi)]
    _ = 0xFFFFFF := by decide

/-- With the outputs off, every link's transmitter is at electrical idle. -/
theorem txIdle_of_outputsOff (h : s.outputsOff = true) : (settle s).lands.txIdle = 0xFFFFFF := by
  refine ofBits_all_24 fun i hi => ?_
  unfold State.linkIdle
  simp [h]

theorem sourceFail_answers (hh : s.su.held = false) : Answers .sourceFail s fun t =>
      t.su.held = true ∧ t.su.waitRef = true ∧ (∃ e, t.plog.ring = e :: s.plog.ring.take 63 ∧ e.kind = 5) ∧ t.regs = [] ∧ t.mem = [] ∧
      t.hw.keys = s.hw.keys ∧ t.clk.refStable = false ∧ t.lands.txIdle = 0xFFFFFF ∧ t.lands.cfgRstN = false ∧ t.lands.pairSeizeN = true := by
  refine answers_of_done (sourceFailRun s) rfl ?_
  unfold sourceFailRun
  rw [hh, if_neg Bool.false_ne_true]
  exact ⟨rfl, rfl, ⟨_, rfl, rfl⟩, rfl, rfl, rfl, rfl, txIdle_of_outputsOff rfl, rfl, rfl⟩

theorem mainRailLoss_answers : Answers .mainRailLoss s fun t =>
      t.su.held = true ∧ t.pwr.st = 5 ∧ t.plog = s.plog ∧ t.regs = [] ∧ t.mem = [] ∧ t.hw.keys = s.hw.keys ∧ t.lands.txIdle = 0xFFFFFF :=
  answers_of_done (railLossRun s) rfl ⟨rfl, rfl, rfl, rfl, rfl, rfl, txIdle_of_outputsOff rfl⟩

/-! ### Oscillators -/

theorem oscStable_ref25_answers (hw : s.su.waitRef = false) :
    Answers (.oscStable .ref25) s fun t => t = { s with clk := { s.clk with refStable := true }, lands := t.lands } := by
  refine answers_of_done (oscStableRun .ref25 s) rfl ?_
  have hrun : oscStableRun .ref25 s = { s with clk := { s.clk with refStable := true } } := if_neg (by simp [hw])
  rw [hrun]
  rfl

theorem oscStable_ref25_starts_answers (hi : s.Intact) (hw : s.su.waitRef = true) (hn : s.hw.resetPending = none) :
    Answers (.oscStable .ref25) s fun t => Started s t 6 ∧ t.clk.refStable = true := by
  refine answers_of_done (oscStableRun .ref25 s) rfl ?_
  let u : State := { s with clk := { s.clk with refStable := true }, su := { s.su with held := false, waitRef := false } }
  have hrun : oscStableRun .ref25 s = { watched (hubReset 6 u) with
      clk := { (watched (hubReset 6 u)).clk with refStable := true, refSel := s.clk.refSel, srefSel := s.clk.srefSel } } := by
    rw [← startHub_intact (s := u) 6 hi]
    refine (if_pos hw).trans ?_
    rw [hn]
    rfl
  have hst : Started s (watched (hubReset 6 u)) 6 := hubReset_started 6 u
  rw [hrun]
  exact ⟨hst, rfl⟩

theorem rootPllLock_answers (hh : s.su.held = false) : Answers .rootPllLock s fun t =>
      t.clk.rootLock = (s.clk.refStable || s.clk.rootLock) ∧ t.mem = s.mem ∧ t.su = s.su := by
  refine answers_of_live pllLock rfl hh ?_
  unfold pllLock
  cases hr : s.clk.refStable
  · exact ⟨rfl, rfl, rfl⟩
  · exact ⟨rfl, rfl, rfl⟩

end Sys2Proof.Machine
end

section
open Sys2Proof Sys2Proof.Machine

/-- Settles O45: each source that starts the hub, and each that holds it in reset. -/
theorem resetsStartTheHub : Obligations.ResetsStartTheHub := by
  unfold Obligations.ResetsStartTheHub
  intro s x p
  exact ⟨powerOnReset_porstN_answers x p, powerOnReset_powerApplied_answers x p, sourceFail_answers, mainRailLoss_answers,
    answers_of_done (oscStableRun .xtal32 s) rfl rfl, oscStable_ref25_answers, oscStable_ref25_starts_answers, rootPllLock_answers⟩

end

section
/-! PROOFS. The drain of a warm reset, and what a warm reset keeps (R413, R426, R430). -/

namespace Sys2Proof.Machine

variable {s : State}

/-! ### What closing the journal pages, and the trace, change -/

theorem fch_lt (g : Geo) (i : Nat) : g.fch i < 4 := by
  unfold Geo.fch
  have h : ((List.range 16).filter fun b => bit g.pkg b).getD (i / max 1 (g.dies * g.planes * g.blocks)) 0 < 16 := by
    rw [List.getD_eq_getElem?_getD]
    cases hx : ((List.range 16).filter fun b => bit g.pkg b)[i / max 1 (g.dies * g.planes * g.blocks)]? with
    | none => decide
    | some x => exact List.mem_range.1 (List.mem_filter.1 (List.mem_of_getElem? hx)).1
  omega

/-- The counters of the flash channels are 32 elements. -/
theorem flUnit_lt (c : CarrierId) (sb : Nat) (s : State) : 4 * c.val + s.geo.fch sb < 32 := by
  have := fch_lt s.geo sb
  omega

section
variable {α : Type} (p : State → α) (ht : ∀ s x, p { s with tier := x } = p s)
include ht

theorem updFull_keeps (s : State) : p (updFull s) = p s := by
  unfold updFull
  simp only
  split_ifs
  · rfl
  · exact ht s _
  · exact ht s _
  · rfl

theorem openSb_keeps (kind : Nat) (t : TenantId) (s : State) : p (openSb kind t s).2 = p s := by
  unfold openSb
  split
  · rfl
  · exact (updFull_keeps p ht _).trans ((ht _ _).trans (ht s _))

theorem takePage_keeps (kind : Nat) (t : TenantId) (n : Nat) (s : State) : p (takePage kind t n s).2 = p s := by
  unfold takePage
  cases (s.tier.sbs.find? fun e => e.2.use = 1 && e.2.kind = kind && e.2.tenant = t.val && !e.2.reloc).map Prod.fst with
  | some i => exact ht s _
  | none =>
    simp only
    split
    · exact openSb_keeps p ht _ _ s
    · exact (ht _ _).trans (openSb_keeps p ht _ _ s)

variable (hb : ∀ s u n, u < 32 → p (s.count .FL_PROG_BYTES u n) = p s) (hc : ∀ s u n, u < 32 → p (s.count .PAGE_PROG_CNT u n) = p s)
include hb hc

/-- A journal page that closes changes the flash tier and two of its counters. -/
theorem closeJPage_keeps (k : Nat) (s : State) : p (closeJPage k s) = p s := by
  unfold closeJPage
  simp only
  split
  · split
    · rfl
    · exact (foldl_keeps p _ (fun s c =>
        (hb _ _ _ (flUnit_lt _ _ _)).trans (hc s _ _ (flUnit_lt _ _ _))) _ _).trans ((ht _ _).trans (takePage_keeps p ht _ _ _ s))
  · rfl

theorem closeJournals_keeps (f : Nat → Bool) (s : State) : p (closeJournals f s) = p s := by
  unfold closeJournals
  refine foldl_keeps p _ (fun s k => ?_) _ s
  split
  · exact closeJPage_keeps p ht hb hc k s
  · rfl

end

/-- What the drain's closing of journal pages leaves alone. -/
theorem closeJournals_rest (f : Nat → Bool) (s : State) : closeJournals f s =
    { s with tier := (closeJournals f s).tier, regs := (closeJournals f s).regs, cnt64 := (closeJournals f s).cnt64 } := by
  have h : ∀ {α : Type} (p : State → α), (∀ s x, p { s with tier := x } = p s) → (∀ s x, p { s with regs := x } = p s) →
      (∀ s x, p { s with cnt64 := x } = p s) → p (closeJournals f s) = p s := fun p ht hr hc =>
    closeJournals_keeps p ht (fun s u n _ => count_keeps p hr hc s _ _ _) (fun s u n _ => count_keeps p hr hc s _ _ _) f s
  have hoff := h (fun s => { s with tier := State.reset.tier, regs := [], cnt64 := [] }) (fun _ _ => rfl) (fun _ _ => rfl) (fun _ _ => rfl)
  exact congrArg (fun u : State => { u with
    tier := (closeJournals f s).tier, regs := (closeJournals f s).regs, cnt64 := (closeJournals f s).cnt64 }) hoff

/-! ### What the trace's end, and the loss of write-backs, change -/

section
variable {α : Type} (p : State → α) (hobs : ∀ s x, p { s with obs := x } = p s) (hr : ∀ s x, p { s with regs := x } = p s)
  (hc : ∀ s x, p { s with cnt64 := x } = p s)
include hobs hr hc

theorem putHub_keeps (src : Nat) (f : Bytes) (s : State) : p (putHub src f s) = p s := (count_keeps p hr hc _ _ _ _).trans (hobs s _)

theorem traceMove_keeps (q : Quarter) (s : State) : p (traceMove q s) = p s :=
  (hobs _ _).trans (foldl_keeps p _ (fun s f => putHub_keeps p hobs hr hc _ f s) _ s)

variable (hl : ∀ s x, p { s with log := x } = p s) (ho : ∀ s x, p { s with out := x } = p s)
include hl ho

theorem traceFrame_keeps (src : Nat) (f : Bytes) (s : State) : p (traceFrame src f s) = p s := by
  have hput : p (if h : 4 ≤ src ∧ src < 8 then putQuart ⟨src - 4, by omega⟩ src (frameSrc src f) s else putHub src (frameSrc src f) s) = p s := by
    split
    · exact (count_keeps p hr hc _ _ _ _).trans (hobs s _)
    · exact putHub_keeps p hobs hr hc _ _ s
  unfold traceFrame
  simp only
  generalize (if h : 4 ≤ src ∧ src < 8 then putQuart ⟨src - 4, by omega⟩ src (frameSrc src f) s else putHub src (frameSrc src f) s) = u at hput ⊢
  split
  · exact (sendUdp_keeps p hl ho _ _ _).trans hput
  · exact hput

theorem traceDown_keeps (src reason : Nat) (s : State) : p (traceDown src reason s) = p s := by
  unfold traceDown
  split
  · exact (hobs _ _).trans (traceFrame_keeps p hobs hr hc hl ho _ _ s)
  · rfl

end

/-- States that differ at most in the trace's buffers, the registers, the log and what has left the device. -/
theorem rest_of_offTrace {s t : State}
    (h : ({ t with obs := State.reset.obs, regs := [], cnt64 := [], log := State.reset.log, out := [] } : State) =
      { s with obs := State.reset.obs, regs := [], cnt64 := [], log := State.reset.log, out := [] }) :
    t = { s with obs := t.obs, regs := t.regs, cnt64 := t.cnt64, log := t.log, out := t.out } :=
  congrArg (fun u : State => { u with obs := t.obs, regs := t.regs, cnt64 := t.cnt64, log := t.log, out := t.out }) h

/-- Every trace ends, and the quarters' buffers move to the hub's, as a warm reset has it. -/
def traceEnded (s : State) : State := (indices 4).foldl (fun s q => traceMove q s) (traceSources.foldl (fun s i => traceDown i 4 s) s)

theorem traceEnded_rest (s : State) : traceEnded s = { s with
    obs := (traceEnded s).obs, regs := (traceEnded s).regs, cnt64 := (traceEnded s).cnt64, log := (traceEnded s).log, out := (traceEnded s).out } := by
  have h : ∀ {α : Type} (p : State → α), (∀ s x, p { s with obs := x } = p s) → (∀ s x, p { s with regs := x } = p s) →
      (∀ s x, p { s with cnt64 := x } = p s) → (∀ s x, p { s with log := x } = p s) → (∀ s x, p { s with out := x } = p s) →
      p (traceEnded s) = p s := fun p hobs hr hc hl ho =>
    (foldl_keeps p _ (fun s q => traceMove_keeps p hobs hr hc q s) _ _).trans (foldl_keeps p _ (fun s i => traceDown_keeps p hobs hr hc hl ho _ _ s) _ s)
  exact rest_of_offTrace (h (fun s => { s with obs := State.reset.obs, regs := [], cnt64 := [], log := State.reset.log, out := [] })
    (fun _ _ => rfl) (fun _ _ => rfl) (fun _ _ => rfl) (fun _ _ => rfl) (fun _ _ => rfl))

theorem dropWriteBack_tags (pg : DPage) (s : State) : dropWriteBack pg s = { s with tags := (dropWriteBack pg s).tags } := by
  unfold dropWriteBack
  simp only
  split
  · rfl
  · rfl

/-- The write-backs under way are given up. -/
def writeBacksDropped (s : State) : State := s.tier.dense.foldl (fun s d => d.pages.foldl (fun s pg => dropWriteBack pg s) s) s

theorem writeBacksDropped_tags (s : State) : writeBacksDropped s = { s with tags := (writeBacksDropped s).tags } := by
  have h : ∀ pg s, ({ dropWriteBack pg s with tags := [] } : State) = { s with tags := [] } := fun pg s => by
    rw [dropWriteBack_tags]
  have hoff : ({ writeBacksDropped s with tags := [] } : State) = { s with tags := [] } :=
    foldl_keeps (fun s : State => { s with tags := [] }) _ (fun s d => foldl_keeps (fun s : State => { s with tags := [] }) _ (fun s pg => h pg s) _ s) _ s
  exact congrArg (fun u : State => { u with tags := (writeBacksDropped s).tags }) hoff

/-! ### A warm reset -/

theorem warmRstNFall_answers (hh : s.su.held = false) (h0 : s.pwr.pfPhase = 0) (hd : s.su.drain = none) : Answers .warmRstNFall s fun t =>
      t.su = { s.su with drain := some ⟨3, s.time.nclk⟩ } ∧ t.mem = s.mem ∧ t.pool = s.pool ∧ t.links = s.links := by
  refine answers_of_live (warmStart 3) rfl hh ?_
  have hrun : warmStart 3 s = closeJournals (fun _ => true) { s with su := { s.su with drain := some ⟨3, s.time.nclk⟩ } } :=
    if_neg (by simp [h0, hd])
  rw [hrun, closeJournals_rest]
  exact ⟨rfl, rfl, rfl, rfl⟩

/-- Closing journal pages leaves every register but two counters. -/
theorem closeJournals_reg {r : Reg} {u : Nat} (hu : u < 65536) (hb : r.ctorIdx ≠ Reg.FL_PROG_BYTES.ctorIdx)
    (hc : r.ctorIdx ≠ Reg.PAGE_PROG_CNT.ctorIdx) (f : Nat → Bool) (s : State) : (closeJournals f s).reg r u = s.reg r u :=
  closeJournals_keeps (fun s => s.reg r u) (fun _ _ => rfl)
    (fun s v n hv => count_reg_ne s n fun h => hb (regKey_inj hu (by omega) h).1)
    (fun s v n hv => count_reg_ne s n fun h => hc (regKey_inj hu (by omega) h).1) f s

theorem warmReset_answers (hh : s.su.held = false) (h0 : s.pwr.pfPhase = 0) (hd : s.su.drain = none) (hb : s.isBusy .RST_CMD_RESULT 0 = false) :
    Answers .warmReset s fun t =>
      t.su = { s.su with drain := some ⟨4, s.time.nclk⟩ } ∧ t.isBusy .RST_CMD_RESULT 0 = true ∧ t.mem = s.mem ∧ t.pool = s.pool := by
  refine answers_of_live warmResetCmd rfl hh ?_
  let u : State := { s.busy .RST_CMD_RESULT 0 with su := { s.su with drain := some ⟨4, s.time.nclk⟩ } }
  have hrun : warmResetCmd s = closeJournals (fun _ => true) u :=
    (if_neg (by simp [h0])).trans ((if_neg (by simp [hb])).trans (if_neg (by simp [h0, hd])))
  have hreg : (closeJournals (fun _ => true) u).isBusy .RST_CMD_RESULT 0 = true := by
    rw [State.isBusy, State.rfld, closeJournals_reg (by decide) (by decide) (by decide)]
    exact isBusy_busy s .RST_CMD_RESULT 0
  rw [hrun]
  refine ⟨?_, hreg, ?_, ?_⟩
  · rw [settle_su, closeJournals_rest]
  · rw [settle_mem, closeJournals_rest]
    rfl
  · rw [settle_pool, closeJournals_rest]
    rfl

theorem warmReset_ignored_answers (hh : s.su.held = false) (h0 : s.pwr.pfPhase ≠ 0) : Answers .warmReset s fun t => t = settle s := by
  refine answers_of_live warmResetCmd rfl hh ?_
  have hrun : warmResetCmd s = s := if_pos h0
  rw [hrun]

/-- What a warm reset keeps, once the trace has ended and the write-backs are given up. -/
def dramKept (s : State) : State :=
  { porState s with
    mem := s.mem, poison := s.poison, upsets := s.upsets, tags := s.tags
    chans := s.chans.map fun c => { c with selfRef := true, pd := 0 }
    clk := { (porState s).clk with refStable := s.clk.refStable, xtalStable := s.clk.xtalStable, rootLock := s.clk.rootLock,
                                   refSel := s.clk.refSel, srefSel := s.clk.srefSel }
    pool := { PoolSt.init with dir := s.pool.dir, slots := s.pool.slots, flushes := s.pool.flushes }
    rgn := { s.rgn with tab := s.rgn.tab.map fun e => (e.1, { e.2 with reply := none }) }
    work := { WorkSt.init with progIncs := s.work.progIncs, accSeq := s.work.accSeq, taskSeq := s.work.taskSeq }
    obs := { (porState s).obs with hub := s.obs.hub, down := s.obs.down, unlocked := s.obs.unlocked, fails := s.obs.fails }
    pwr := { (porState s).pwr with trip := s.pwr.trip } }

/-- Start-up goes on from step 2. -/
def warmBegun (s : State) : State :=
  let s := { s with su := { s.su with step := 1, doneSteps := [1], running := [], warm := true, hosted := s.pin.hosted } }
  if s.autonomous then beginStep 2 s else s

theorem warmState_eq (s : State) : warmState s = dramKept (writeBacksDropped s) := by
  unfold warmState dramKept writeBacksDropped
  rfl

theorem warmReset_eq (cause : Byte) (s : State) : warmReset cause s =
    warmBegun (rtcStart (plogEv 1 cause.toNat 0 (dramKept (writeBacksDropped (traceEnded s))))) := by
  rw [← warmState_eq]
  unfold warmReset warmBegun traceEnded
  dsimp only

theorem warmBegun_rest (s : State) : ∃ x, warmBegun s = { s with time := x, su := (warmBegun s).su } := by
  unfold warmBegun
  simp only
  split
  · exact ⟨_, rfl⟩
  · exact ⟨s.time, rfl⟩

theorem warmBegun_su (hw : s.su.wake = false) (hs : s.su.stopped = false) : (warmBegun s).su.doneSteps = [1] ∧ (warmBegun s).su.warm = true ∧
    (warmBegun s).su.running = if s.pin.hosted then [] else [2] := by
  unfold warmBegun State.autonomous
  simp only [hw, hs, Bool.false_or, Bool.not_false, Bool.and_true]
  cases s.pin.hosted
  · exact ⟨rfl, rfl, rfl⟩
  · exact ⟨rfl, rfl, rfl⟩

theorem warmDrainDone_answers (hh : s.su.held = false) {d : DrainSt} (hd : s.su.drain = some d) (hdr : s.isDrained = true) :
    Answers .warmDrainDone s fun t =>
      t.mem = s.mem ∧ t.poison = s.poison ∧ (∀ c : ChanId, t.chan c = { s.chan c with selfRef := true, pd := 0 }) ∧ t.hw = s.hw ∧
      t.pool.slots = s.pool.slots ∧ t.regs = [] ∧ t.links = State.reset.links ∧
      (∃ e, t.plog.ring = e :: s.plog.ring.take 63 ∧ e.kind = 1 ∧ e.detail = d.cause) ∧
      t.su.doneSteps = [1] ∧ t.su.warm = true ∧ t.su.running = if s.pin.hosted then [] else [2] := by
  refine answers_of_live warmDrainDoneRun rfl hh ?_
  have hrun : warmDrainDoneRun s = warmReset d.cause s := by
    unfold warmDrainDoneRun
    rw [hd]
    exact if_pos hdr
  obtain ⟨ob, rg, cn, lg, ou, htrace⟩ : ∃ ob rg cn lg ou, traceEnded s = { s with obs := ob, regs := rg, cnt64 := cn, log := lg, out := ou } :=
    ⟨_, _, _, _, _, traceEnded_rest s⟩
  obtain ⟨tg, htags⟩ : ∃ tg, writeBacksDropped { s with obs := ob, regs := rg, cnt64 := cn, log := lg, out := ou } =
      { s with obs := ob, regs := rg, cnt64 := cn, log := lg, out := ou, tags := tg } := ⟨_, writeBacksDropped_tags _⟩
  rw [hrun, warmReset_eq, htrace, htags, rtcStart_rest]
  generalize hu : { plogEv 1 d.cause.toNat 0 (dramKept { s with obs := ob, regs := rg, cnt64 := cn, log := lg, out := ou, tags := tg }) with
    time := (rtcStart (plogEv 1 d.cause.toNat 0 (dramKept { s with obs := ob, regs := rg, cnt64 := cn, log := lg, out := ou, tags := tg }))).time } = u
  obtain ⟨x, hx⟩ := warmBegun_rest u
  obtain ⟨h1, h2, h3⟩ := warmBegun_su (s := u) (by rw [← hu]; rfl) (by rw [← hu]; rfl)
  have hpin : u.pin = s.pin := by rw [← hu]; rfl
  rw [settle_su, h1, h2, h3, hpin, hx]
  subst hu
  refine ⟨rfl, rfl, fun c => Vector.getElem_map .., rfl, rfl, rfl, rfl, ⟨_, rfl, rfl, byte_toNat d.cause⟩, rfl, rfl, rfl⟩

theorem warmDrainDone_early_answers (hh : s.su.held = false) {d : DrainSt} (hd : s.su.drain = some d) (hdr : s.isDrained = false) :
    Answers .warmDrainDone s fun t => t = settle s := by
  refine answers_of_live warmDrainDoneRun rfl hh ?_
  have hrun : warmDrainDoneRun s = s := by
    unfold warmDrainDoneRun
    rw [hd]
    exact if_neg (by simp [hdr])
  rw [hrun]

theorem advanceTo_started {d : Nat} {t : State} {cause : Byte} (h : Started (advanceTo d s) t cause) : Started s t cause := by
  unfold Started at h ⊢
  rwa [advanceTo_plog, advanceTo_tier, advanceTo_hw, advanceTo_blank] at h

theorem settle_started {t : State} {cause : Byte} (h : Started s t cause) : Started s (settle t) cause := h

theorem advanceTo_intact (d : Nat) (hi : s.Intact) : (advanceTo d s).Intact := by
  unfold State.Intact at hi ⊢
  rwa [advanceTo_hw]

theorem warmDrainTimeout_answers (hh : s.su.held = false) {d : DrainSt} (hd : s.su.drain = some d) (hi : s.Intact) :
    Answers .warmDrainTimeout s fun t => Started s t 5 ∧ d.since + msec 20 ≤ t.time.nclk := by
  refine answers_of_live warmDrainLimit rfl hh ?_
  have hrun : warmDrainLimit s = startHub 5 (advanceTo (d.since + msec 20) s) := by
    unfold warmDrainLimit
    rw [hd]
  rw [hrun, startHub_intact 5 (advanceTo_intact _ hi)]
  refine ⟨settle_started (advanceTo_started (hubReset_started 5 (advanceTo (d.since + msec 20) s))), ?_⟩
  rw [settle_time, hubReset_nclk]
  exact le_advanceTo _ s

end Sys2Proof.Machine
end

section
open Sys2Proof Sys2Proof.Machine

/-- Settles O46: what begins a warm reset, what it keeps, and what a drain that is too long comes to. -/
theorem warmResetDrainsAndKeepsDram : Obligations.WarmResetDrainsAndKeepsDram := by
  unfold Obligations.WarmResetDrainsAndKeepsDram
  intro s hh
  exact ⟨fun h0 hd => ⟨warmRstNFall_answers hh h0 hd, warmReset_answers hh h0 hd⟩, warmReset_ignored_answers hh,
    fun d hd => ⟨warmDrainDone_answers hh hd, warmDrainDone_early_answers hh hd, warmDrainTimeout_answers hh hd⟩⟩

end

section
/-! PROOFS. Power failure, the power-loss sequence, the restart after it, and hot reports (R432 to R434, R477). -/

namespace Sys2Proof.Machine

variable {s : State}

/-! ### Messages leave every link in its state -/

section
variable (z : LinkId)

/-- A change of a link that leaves its state leaves every link's. -/
theorem updLink_st (s : State) (l : LinkId) {f : LinkSt → LinkSt} (hf : ∀ k, (f k).st = k.st := by intro _; rfl) :
    ((s.updLink l f).link z).st = (s.link z).st := by
  rcases eq_or_ne l z with rfl | h
  · rw [updLink_link_self, hf]
  · rw [updLink_link_ne s f h]

theorem sendUnseq_st (l : LinkId) (t : Nat) (n : Bool) (b : Bytes) (s : State) : ((sendUnseq l t n b s).link z).st = (s.link z).st := by
  unfold sendUnseq
  exact updLink_st z s l

theorem freeFlit_st (l : LinkId) (vc : Nat) (s : State) : ((freeFlit l vc s).link z).st = (s.link z).st := by
  unfold freeFlit
  simp only
  split
  · exact (sendUnseq_st z _ _ _ _ _).trans ((updLink_st z _ l).trans (updLink_st z s l))
  · exact updLink_st z s l

theorem sendSeq_st (l : LinkId) (t vc : Nat) (hd tl : Bool) (b : Bytes) (s : State) : ((sendSeq l t vc hd tl b s).link z).st = (s.link z).st := by
  unfold sendSeq
  simp only
  split
  · rw [count_link, count_link, emit_link]
    exact updLink_st z s l
  · rw [count_link, emit_link]
    exact updLink_st z s l

theorem serveOne_st {l : LinkId} {s t : State} (h : serveOne l s = some t) : (t.link z).st = (s.link z).st := by
  unfold serveOne at h
  simp only at h
  split at h
  · cases h
  · split at h
    · cases h
    · cases h
      split
      · exact (freeFlit_st z _ _ _).trans ((sendSeq_st z _ _ _ _ _ _ _).trans (updLink_st z s _))
      · exact (sendSeq_st z _ _ _ _ _ _ _).trans (updLink_st z s _)

theorem serveLink_st (n : Nat) (l : LinkId) (s : State) : ((serveLink l n s).link z).st = (s.link z).st := by
  induction n generalizing s with
  | zero => rfl
  | succ n ih =>
    unfold serveLink
    split
    · next t h => rw [ih, serveOne_st z h]
    · rfl

theorem putFlit_st (l : LinkId) (w : WaitFlit) (s : State) : ((putFlit l w s).link z).st = (s.link z).st :=
  (serveLink_st z _ l _).trans (updLink_st z s _)

theorem send_st (m : Msg) (s : State) : ((send m s).link z).st = (s.link z).st := by
  unfold send
  split
  · rw [emit_link, count_link]
  · simp only
    split
    · exact (foldl_keeps (fun s => (s.link z).st) _ (fun s i => putFlit_st z _ _ s) _ _).trans (by rw [emit_link])
    · rw [emit_link]

theorem closePkt_st (l : LinkId) (vc : Nat) (s : State) : ((closePkt l vc s).link z).st = (s.link z).st := by
  unfold closePkt
  split
  · rfl
  · simp only
    split
    · exact (putFlit_st z _ _ _).trans (updLink_st z s _)
    · split
      · exact updLink_st z s _
      · exact (send_st z _ _).trans (updLink_st z s _)

theorem freeOut_st (l : LinkId) (s : State) : ((freeOut l s).link z).st = (s.link z).st := by
  have hwait : ∀ (s : State) (w : WaitFlit),
      ((match w.hold with | some i => if i = l then s else freeFlit i w.vc s | none => s : State).link z).st = (s.link z).st := by
    intro s w
    split
    · split
      · rfl
      · exact freeFlit_st z _ _ _
    · rfl
  exact (foldl_keeps (fun s => (s.link z).st) _ (fun s i => updLink_st z s _) _ _).trans
    (foldl_keeps (fun s => (s.link z).st) _ hwait _ s)

/-- A link that leaves service leaves the other links in their states. -/
theorem dropLink_st_ne {l : LinkId} (h : l ≠ z) (st cause : Nat) (s : State) : ((dropLink l st cause s).link z).st = (s.link z).st := by
  unfold dropLink
  rw [updLink_link_ne _ _ h, freeOut_st]
  exact (foldl_keeps (fun s => (s.link z).st) _ (fun s i => updLink_st z s _) _ _).trans
    (foldl_keeps (fun s => (s.link z).st) _ (fun s vc => closePkt_st z l vc s) _ s)

theorem dropLink_st_self (st cause : Nat) (s : State) : ((dropLink z st cause s).link z).st = st := by
  obtain ⟨d, n, h⟩ := dropLink_link_self z st cause s
  rw [h]

theorem foldl_dropLink_st_ne {ls : List LinkId} (hz : z ∉ ls) (st cause : Nat) (s : State) :
    ((ls.foldl (fun s l => dropLink l st cause s) s).link z).st = (s.link z).st := by
  induction ls generalizing s with
  | nil => rfl
  | cons l ls ih =>
    rw [List.mem_cons, not_or] at hz
    rw [List.foldl_cons, ih hz.2]
    exact dropLink_st_ne z (Ne.symm hz.1) st cause s

/-- Every link of a list that is taken out of service stands in the state it is given. -/
theorem foldl_dropLink_st {ls : List LinkId} (hz : z ∈ ls) (st cause : Nat) (s : State) :
    ((ls.foldl (fun s l => dropLink l st cause s) s).link z).st = st := by
  induction ls generalizing s with
  | nil => simp at hz
  | cons l ls ih =>
    rw [List.foldl_cons]
    by_cases hmem : z ∈ ls
    · exact ih hmem _
    · rw [foldl_dropLink_st_ne z hmem, (List.mem_cons.1 hz).resolve_right hmem]
      exact dropLink_st_self l st cause s

end

/-- All links stand in link reset. -/
@[irreducible] def linksDropped (s : State) : State := (indices 24).foldl (fun s l => dropLink l 9 0 s) s

theorem foldl_dropLink (s : State) : (indices 24).foldl (fun s l => dropLink l 9 0 s) s = linksDropped s := by
  unfold linksDropped
  rfl

/-- All but what messages change. -/
def offMessages (s : State) : State := { s with regs := [], cnt64 := [], links := State.reset.links, out := [] }

/-- States that differ at most in the links, the registers and what has left the device. -/
theorem rest_of_offMessages {s t : State} (h : offMessages t = offMessages s) :
    t = { s with regs := t.regs, cnt64 := t.cnt64, links := t.links, out := t.out } :=
  congrArg (fun u : State => { u with regs := t.regs, cnt64 := t.cnt64, links := t.links, out := t.out }) h

theorem linksDropped_rest (s : State) : linksDropped s = { s with
    regs := (linksDropped s).regs, cnt64 := (linksDropped s).cnt64, links := (linksDropped s).links, out := (linksDropped s).out } :=
  rest_of_offMessages (by rw [← foldl_dropLink, foldl_keeps offMessages (fun s l => dropLink l 9 0 s)
    (fun s l => dropLink_keeps offMessages (fun _ _ => rfl) (fun _ _ => rfl) (fun _ _ => rfl) (fun _ _ => rfl) l 9 0 s)])

theorem mem_indices {n : Nat} (i : Fin n) : i ∈ indices n := by
  induction n with
  | zero => exact i.elim0
  | succ n ih =>
    refine Fin.cases List.mem_cons_self (fun j => ?_) i
    exact List.mem_cons_of_mem _ (List.mem_map_of_mem (ih j))

theorem linksDropped_st (l : LinkId) (s : State) : ((linksDropped s).link l).st = 9 := by
  rw [← foldl_dropLink]
  exact foldl_dropLink_st l (mem_indices l) 9 0 s

/-! ### The power-loss sequence begins -/

/-- What the beginning of the sequence leaves alone. -/
theorem pfStart_effect (s : State) : ∃ tier regs cnt64 free,
    pfStart s = { setAlarm 0 true s with
      tier := tier, regs := regs, cnt64 := cnt64, free := free
      pwr := { s.pwr with pfPhase := 1, pfAt := s.time.nclk, trans := none }, su := { s.su with drain := none },
      quarts := s.quarts.map fun x => { x with drain := none } } := by
  unfold pfStart
  rw [count_rest]
  simp only
  split
  · exact ⟨_, _, _, _, closeJournals_rest _ _⟩
  · exact ⟨_, _, _, _, closeJournals_rest _ _⟩

theorem bit_setBits_zero (n : Nat) : bit (byte (setBits n 0 0 1)).toNat 0 = true := by
  unfold bit byte setBits bits
  rw [BitVec.toNat_ofNat, Nat.testBit_zero, decide_eq_true_eq]
  omega

theorem pwrfailNFall_answers (hh : s.su.held = false) (h0 : s.pwr.pfPhase = 0) : Answers .pwrfailNFall s fun t =>
      t.pwr.pfPhase = 1 ∧ t.time.nclk = s.time.nclk + usec 2 ∧ t.pwr.pfAt = t.time.nclk ∧ t.su.drain = none ∧ t.pin.pwrfailN = false ∧
      (∀ q : Quarter, (t.quart q).drain = none) ∧ bit t.spn.alarmOwn.toNat 0 = true ∧ t.mem = s.mem ∧ t.hw = s.hw := by
  refine answers_of_done (pwrfailRun s) rfl ?_
  have hrun : pwrfailRun s = pfStart (advanceTo (s.time.nclk + usec 2) { s with pin := { s.pin with pwrfailN := false } }) :=
    if_neg (by simp [hh, h0])
  obtain ⟨tier, regs, cnt64, free, hpf⟩ := pfStart_effect (advanceTo (s.time.nclk + usec 2) { s with pin := { s.pin with pwrfailN := false } })
  have hn : (advanceTo (s.time.nclk + usec 2) { s with pin := { s.pin with pwrfailN := false } }).time.nclk = s.time.nclk + usec 2 :=
    (advanceTo_nclk _ _).trans (Nat.max_eq_right (Nat.le_add_right _ _))
  have hrest := advanceTo_rest (s.time.nclk + usec 2) { s with pin := { s.pin with pwrfailN := false } }
  rw [hrun, hpf]
  generalize advanceTo (s.time.nclk + usec 2) { s with pin := { s.pin with pwrfailN := false } } = u at hn hrest ⊢
  refine ⟨rfl, hn, rfl, rfl, ?_, fun q => ?_, bit_setBits_zero _, ?_, ?_⟩
  · show u.pin.pwrfailN = false
    rw [hrest]
  · show ((u.quarts.map fun x : Quart => { x with drain := none })[q]).drain = none
    rw [Fin.getElem_fin, Vector.getElem_map]
  · show u.mem = s.mem
    rw [hrest]
  · show u.hw = s.hw
    rw [hrest]

/-! ### Its end -/

/-- The record of an orderly shutdown goes to the carriers, where there are any. -/
def orderlyMarked (s : State) : State := if s.tier.geo = [] then s else s.updTier fun t => { t with orderly := true }

/-- What has not been answered never is, and PF_DONE goes on record. -/
def pfLogged (mib us : W16) (data : Nat) (s : State) : State :=
  plogEv 6 0 data
    { s with pool := { s.pool with trks := [], xwaits := [] },
             pwr := { s.pwr with pfPhase := 2, pfMib := mib, pfUs := us, pfAt := s.time.nclk, trip := s.pwr.trip || s.pwr.tripPend, tripPend := false } }

/-- The chain port stops. -/
def chainStopped (s : State) : State :=
  { s with spn := { s.spn with state := 0, origin := false }, head := { s.head with claimAt := none } }

/-- An instant to which time is advanced, as a state of the clocks. -/
theorem advanceTo_takes (d : Nat) (s : State) : ∃ x : TimeSt, d ≤ x.nclk ∧ advanceTo d s = { s with time := x } :=
  ⟨_, le_advanceTo d s, advanceTo_rest d s⟩

theorem orderlyMarked_pwr (s : State) : (orderlyMarked s).pwr = s.pwr := by
  unfold orderlyMarked
  split
  · rfl
  · rfl

theorem linksDropped_pwr (s : State) : (linksDropped s).pwr = s.pwr := by rw [linksDropped_rest]

theorem chainStopped_pwr (s : State) : (chainStopped s).pwr = s.pwr := rfl

theorem pfLogged_porHeld (mib us : W16) (data : Nat) (s : State) : (pfLogged mib us data s).pwr.porHeld = s.pwr.porHeld := rfl

theorem pfDoneRun_eq (mib us : W16) (h1 : s.pwr.pfPhase = 1) (hp : s.pwr.porHeld = false) :
    ∃ x : TimeSt, s.pwr.pfAt + usec us.toNat ≤ x.nclk ∧
      pfDoneRun mib us s = chainStopped (linksDropped (pfLogged mib us (mib.toNat * 65536 + us.toNat) (orderlyMarked { s with time := x }))) := by
  obtain ⟨x, hle, hx⟩ := advanceTo_takes (s.pwr.pfAt + usec us.toNat) s
  refine ⟨x, hle, ?_⟩
  unfold pfDoneRun
  rw [if_neg (not_not.2 h1), hx]
  generalize mib.toNat * 65536 + us.toNat = data
  extract_lets s1 s2 p1 p2 s3 s4 p3 p4 s5 k s6 p6
  have h2 : s2 = orderlyMarked { s with time := x } := rfl
  clear_value s2
  have h3 : s3 = pfLogged mib us data s2 := rfl
  clear_value s3
  have h4 : s4 = linksDropped s3 := foldl_dropLink s3
  clear_value s4
  have h5 : s5 = chainStopped s4 := rfl
  clear_value s6 k s5
  have hpor : s5.pwr.porHeld = false := by
    rw [h5, chainStopped_pwr, h4, linksDropped_pwr, h3, pfLogged_porHeld, h2, orderlyMarked_pwr]
    exact hp
  rw [if_neg (by simp [hpor]), h5, h4, h3, h2]

theorem orderlyMarked_effect (s : State) : ∃ tier, orderlyMarked s = { s with tier := tier } ∧ (s.tier.geo ≠ [] → tier.orderly = true) := by
  unfold orderlyMarked
  split
  · next hg => exact ⟨s.tier, rfl, fun h => absurd hg h⟩
  · exact ⟨_, rfl, fun _ => rfl⟩

theorem chainStopped_time (s : State) : (chainStopped s).time = s.time := rfl
theorem linksDropped_time (s : State) : (linksDropped s).time = s.time := by rw [linksDropped_rest]
theorem stopped_time (s : State) : (chainStopped (linksDropped s)).time = s.time := by rw [chainStopped_time, linksDropped_time]

theorem chainStopped_plog (s : State) : (chainStopped s).plog = s.plog := rfl
theorem linksDropped_plog (s : State) : (linksDropped s).plog = s.plog := by rw [linksDropped_rest]
theorem stopped_plog (s : State) : (chainStopped (linksDropped s)).plog = s.plog := by rw [chainStopped_plog, linksDropped_plog]

theorem chainStopped_tier (s : State) : (chainStopped s).tier = s.tier := rfl
theorem linksDropped_tier (s : State) : (linksDropped s).tier = s.tier := by rw [linksDropped_rest]
theorem stopped_tier (s : State) : (chainStopped (linksDropped s)).tier = s.tier := by rw [chainStopped_tier, linksDropped_tier]

theorem chainStopped_pool (s : State) : (chainStopped s).pool = s.pool := rfl
theorem linksDropped_pool (s : State) : (linksDropped s).pool = s.pool := by rw [linksDropped_rest]
theorem stopped_pool (s : State) : (chainStopped (linksDropped s)).pool = s.pool := by rw [chainStopped_pool, linksDropped_pool]

theorem stopped_pwr (s : State) : (chainStopped (linksDropped s)).pwr = s.pwr := by rw [chainStopped_pwr, linksDropped_pwr]

theorem chainStopped_link (s : State) (l : LinkId) : (chainStopped s).link l = s.link l := rfl
theorem chainStopped_spn (s : State) : (chainStopped s).spn.state = 0 := rfl

theorem pfSequenceDone_answers (hh : s.su.held = false) (mib us : W16) (h1 : s.pwr.pfPhase = 1) (hp : s.pwr.porHeld = false) :
    Answers (.pfSequenceDone mib us) s fun t =>
      t.pwr.pfPhase = 2 ∧ t.pwr.pfMib = mib ∧ t.pwr.pfUs = us ∧ s.pwr.pfAt + usec us.toNat ≤ t.time.nclk ∧
      (∃ e, t.plog.ring = e :: s.plog.ring.take 63 ∧ e.kind = 6 ∧ e.data = w32 (mib.toNat * 65536 + us.toNat)) ∧
      (s.tier.geo ≠ [] → t.tier.orderly = true) ∧ t.pool.trks = [] ∧ t.spn.state = 0 ∧ (∀ l : LinkId, (t.link l).st = 9) ∧
      t.lands.txIdle = 0xFFFFFF := by
  refine answers_of_live (pfDoneRun mib us) rfl hh ?_
  obtain ⟨x, hle, hrun⟩ := pfDoneRun_eq mib us h1 hp
  rw [hrun]
  obtain ⟨tier, hu, hord⟩ := orderlyMarked_effect { s with time := x }
  rw [hu]
  refine ⟨?_, ?_, ?_, ?_, ?_, ?_, ?_, ?_, fun l => ?_, txIdle_of_outputsOff ?_⟩
  · rw [settle_pwr, stopped_pwr]
    rfl
  · rw [settle_pwr, stopped_pwr]
    rfl
  · rw [settle_pwr, stopped_pwr]
    rfl
  · rw [settle_time, stopped_time]
    exact hle
  · rw [settle_plog, stopped_plog]
    exact ⟨_, rfl, rfl, rfl⟩
  · rw [settle_tier, stopped_tier]
    exact hord
  · rw [settle_pool, stopped_pool]
    rfl
  · rw [settle_spn, chainStopped_spn]
  · rw [settle_link, chainStopped_link, linksDropped_st]
  · rw [State.outputsOff, stopped_pwr]
    exact Bool.or_true _

theorem pfSequenceDone_unawaited_answers (hh : s.su.held = false) (h1 : s.pwr.pfPhase ≠ 1) :
    Answers (.pfSequenceDone 0 0) s fun t => t = settle s := by
  refine answers_of_live (pfDoneRun 0 0) rfl hh ?_
  have hrun : pfDoneRun 0 0 s = s := if_pos h1
  rw [hrun]

theorem pfRestartTimeout_answers (hh : s.su.held = false) (hi : s.Intact) (h2 : s.pwr.pfPhase = 2) (ht : s.pwr.trip = false) :
    Answers .pfRestartTimeout s fun t => Started s t 9 ∧ s.pwr.pfAt + msec 10 ≤ t.time.nclk ∧ t.pin.pwrfailN = true := by
  refine answers_of_live pfRestartRun rfl hh ?_
  let v : State := { s with pin := { s.pin with pwrfailN := true } }
  obtain ⟨x, hle, hx⟩ := advanceTo_takes (s.pwr.pfAt + msec 10) v
  have hrun : pfRestartRun s = { startHub (if ({ v with time := x } : State).pwr.trip then 8 else 9) { v with time := x } with
      clk := { (startHub (if ({ v with time := x } : State).pwr.trip then 8 else 9) { v with time := x }).clk with
        refSel := s.clk.refSel, srefSel := s.clk.srefSel } } := by
    rw [← hx]
    exact (if_neg (by simp [hh])).trans (if_pos h2)
  rw [hrun]
  have htrip : ({ v with time := x } : State).pwr.trip = false := ht
  rw [htrip, if_neg Bool.false_ne_true, startHub_intact (s := { v with time := x }) 9 hi]
  have hst : Started s (watched (hubReset 9 { v with time := x })) 9 := hubReset_started 9 { v with time := x }
  refine ⟨hst, ?_, ?_⟩
  · rw [settle_time]
    exact hle.trans_eq (hubReset_nclk 9 { v with time := x }).symm
  · rw [settle_pin]
    exact congrArg PinsIn.pwrfailN (hubReset_pin 9 { v with time := x })

/-! ### Hot reports -/

/-- A report of the temperature is taken. -/
def heatNoted (c : Byte) (lim : Bool) (s : State) : State :=
  setAlarm 2 lim { s with pwr := { s.pwr with tempMax := c, thermLimit := lim } }

/-- A trip is pending. -/
def tripNoted (c : Byte) (s : State) : State := plogEv 7 0 c.toNat { s with pwr := { s.pwr with tripPend := true } }

/-- A hot report trips, at once or at the end of the power-loss sequence. -/
def tripJudged (c : Byte) (s : State) : State :=
  if 115 ≤ c.toNat ∧ !s.pwr.trip ∧ !s.pwr.tripPend then
    if s.pwr.pfPhase = 0 then pfStart (tripNoted c s)
    else if s.pwr.pfPhase = 2 then { tripNoted c s with pwr := { (tripNoted c s).pwr with trip := true, tripPend := false } }
    else tripNoted c s
  else s

theorem tempRun_eq (c : Byte) (s : State) : ∃ x, tempRun c s =
    tripJudged c (heatNoted c (if 100 ≤ c.toNat then true else if c.toNat < 95 then false else s.pwr.thermLimit) { s with time := x }) := by
  obtain ⟨x, hx⟩ := pace_eq_time paceTemp (msec 1) s
  refine ⟨x, ?_⟩
  unfold tempRun
  rw [hx]
  rfl

theorem tripJudged_effect (c : Byte) (s : State) :
    (tripJudged c s).pwr.tempMax = s.pwr.tempMax ∧ (tripJudged c s).pwr.thermLimit = s.pwr.thermLimit ∧
      (c.toNat < 115 → (tripJudged c s).pwr.pfPhase = s.pwr.pfPhase ∧ (tripJudged c s).plog = s.plog ∧ (tripJudged c s).tier = s.tier) ∧
      (115 ≤ c.toNat → s.pwr.trip = false → s.pwr.tripPend = false → s.pwr.pfPhase = 0 →
        (tripJudged c s).pwr.pfPhase = 1 ∧ (tripJudged c s).pwr.tripPend = true ∧
          ∃ e, (tripJudged c s).plog.ring = e :: s.plog.ring.take 63 ∧ e.kind = 7 ∧ e.data = w32 c.toNat) := by
  obtain ⟨tier, regs, cnt64, free, hpf⟩ := pfStart_effect (tripNoted c s)
  unfold tripJudged
  split_ifs with hhot h0 h2
  · rw [hpf]
    exact ⟨rfl, rfl, fun h => absurd h (not_lt.2 hhot.1), fun _ _ _ _ => ⟨rfl, rfl, _, rfl, rfl, rfl⟩⟩
  · exact ⟨rfl, rfl, fun h => absurd h (not_lt.2 hhot.1), fun _ _ _ h => absurd h h0⟩
  · exact ⟨rfl, rfl, fun h => absurd h (not_lt.2 hhot.1), fun _ _ _ h => absurd h h0⟩
  · exact ⟨rfl, rfl, fun _ => ⟨rfl, rfl, rfl⟩, fun h ht hp _ => absurd ⟨h, by simp [ht], by simp [hp]⟩ hhot⟩

theorem tempReport_answers (hh : s.su.held = false) (c : Byte) : Answers (.tempReport c) s fun t =>
      t.pwr.tempMax = c ∧
      t.pwr.thermLimit = (if 100 ≤ c.toNat then true else if c.toNat < 95 then false else s.pwr.thermLimit) ∧
      (c.toNat < 115 → t.pwr.pfPhase = s.pwr.pfPhase ∧ t.plog = s.plog ∧ t.tier = s.tier) ∧
      (115 ≤ c.toNat → s.pwr.trip = false → s.pwr.tripPend = false → s.pwr.pfPhase = 0 →
        t.pwr.pfPhase = 1 ∧ t.pwr.tripPend = true ∧ ∃ e, t.plog.ring = e :: s.plog.ring.take 63 ∧ e.kind = 7 ∧ e.data = w32 c.toNat) := by
  refine answers_of_live (tempRun c) rfl hh ?_
  obtain ⟨x, hrun⟩ := tempRun_eq c s
  rw [hrun]
  exact tripJudged_effect c (heatNoted c _ { s with time := x })

end Sys2Proof.Machine
end

section
open Sys2Proof Sys2Proof.Machine

/-- Settles O48: the power-loss sequence from its beginning to the restart, and hot reports. -/
theorem powerLossIsHandled : Obligations.PowerLossIsHandled := by
  unfold Obligations.PowerLossIsHandled
  intro s hh
  exact ⟨pwrfailNFall_answers hh, pfSequenceDone_answers hh, pfSequenceDone_unawaited_answers hh, pfRestartTimeout_answers hh, tempReport_answers hh⟩

end

section
/-! PROOFS. Folds over numbered units, and what a quarter that stops changes (R427, R430). -/

namespace Sys2Proof.Machine

variable {s : State}

/-- A fold whose steps each change one unit: what becomes of a unit. -/
theorem foldl_touches {ι α : Type} [DecidableEq ι] (get : State → ι → α) (f : State → ι → State) (g : ι → α → α)
    (hself : ∀ s i, get (f s i) i = g i (get s i)) (hne : ∀ s i j, i ≠ j → get (f s i) j = get s j) {l : List ι} (hl : l.Nodup) (s : State) (j : ι) :
    get (l.foldl f s) j = if j ∈ l then g j (get s j) else get s j := by
  induction l generalizing s with
  | nil => simp
  | cons i l ih =>
    obtain ⟨hi, hl⟩ := List.nodup_cons.1 hl
    rw [List.foldl_cons, ih hl]
    by_cases hj : j = i
    · subst hj
      rw [if_neg hi, if_pos List.mem_cons_self, hself]
    · rw [hne s i j (Ne.symm hj)]
      simp only [List.mem_cons, hj, false_or]

theorem nodup_indices (n : Nat) : (indices n).Nodup := by
  induction n with
  | zero => exact List.nodup_nil
  | succ n ih =>
    refine List.nodup_cons.2 ⟨?_, ih.map (Fin.succ_injective n)⟩
    rw [List.mem_map]
    rintro ⟨i, -, hi⟩
    exact Fin.succ_ne_zero i hi

/-- A fold over all units whose steps each change one. -/
theorem foldl_indices {n : Nat} {α : Type} (get : State → Fin n → α) (f : State → Fin n → State) (g : Fin n → α → α)
    (hself : ∀ s i, get (f s i) i = g i (get s i)) (hne : ∀ s i j, i ≠ j → get (f s i) j = get s j) (s : State) (j : Fin n) :
    get ((indices n).foldl f s) j = g j (get s j) :=
  (foldl_touches get f g hself hne (nodup_indices n) s j).trans (if_pos (mem_indices j))

/-- A part of the state that a quarter's stop leaves alone. -/
structure OffQuarter {α : Type} (p : State → α) : Prop where
  regs : ∀ s x, p { s with regs := x } = p s
  cnt64 : ∀ s x, p { s with cnt64 := x } = p s
  snap : ∀ s x, p { s with snap := x } = p s
  snap64 : ∀ s x, p { s with snap64 := x } = p s
  links : ∀ s x, p { s with links := x } = p s
  out : ∀ s x, p { s with out := x } = p s
  clk : ∀ s x, p { s with clk := x } = p s
  work : ∀ s x, p { s with work := x } = p s
  chans : ∀ s x, p { s with chans := x } = p s
  tagc : ∀ s x, p { s with tagc := x } = p s
  pool : ∀ s x, p { s with pool := x } = p s

section
variable {α : Type} {p : State → α}

theorem clearRegs_keeps (hr : ∀ s x, p { s with regs := x } = p s) (hc : ∀ s x, p { s with cnt64 := x } = p s)
    (hs : ∀ s x, p { s with snap := x } = p s) (hs64 : ∀ s x, p { s with snap64 := x } = p s) (f : Reg → Nat → Bool) (s : State) :
    p (clearRegs f s) = p s := by
  have h : ∀ a b c d, p { s with regs := a, cnt64 := b, snap := c, snap64 := d } = p s := fun a b c d =>
    calc p { s with regs := a, cnt64 := b, snap := c, snap64 := d }
      _ = p { s with regs := a, cnt64 := b, snap := c } := hs64 { s with regs := a, cnt64 := b, snap := c } d
      _ = p { s with regs := a, cnt64 := b } := hs { s with regs := a, cnt64 := b } c
      _ = p { s with regs := a } := hc { s with regs := a } b
      _ = p s := hr s a
  exact h _ _ _ _

theorem loadTenants_keeps (hr : ∀ s x, p { s with regs := x } = p s) (s : State) : p (loadTenants s) = p s :=
  (foldl_keeps p _ (fun s _ => hr s _) _ _).trans (hr s _)

theorem loadLink_keeps (hr : ∀ s x, p { s with regs := x } = p s) (b : Bool) (l : Nat) (d : Bytes) (s : State) : p (loadLink b l d s) = p s := by
  unfold loadLink
  cases b
  · exact hr s _
  · exact (hr _ _).trans ((hr _ _).trans ((hr _ _).trans ((hr _ _).trans ((hr _ _).trans ((hr _ _).trans (hr s _))))))

theorem OffQuarter.quarterRegs (hp : OffQuarter p) (k : Option Nat) (q : Quarter) (s : State) : p (quarterRegs k q s) = p s := by
  unfold Machine.quarterRegs
  refine (foldl_keeps p _ (fun s l => ?_) _ _).trans ((loadTenants_keeps hp.regs _).trans ((hp.regs _ _).trans
    (clearRegs_keeps hp.regs hp.cnt64 hp.snap hp.snap64 _ s)))
  split
  · exact loadLink_keeps hp.regs _ _ _ s
  · rfl

/-- A quarter that stops: its links, clocks, cores, channels, caches and registers change. -/
theorem OffQuarter.quarterOff (hp : OffQuarter p) (q : Quarter) (s : State) : p (quarterOff q s) = p s := by
  unfold Machine.quarterOff
  extract_lets mine s1 s2 s3 s4 p4 s5
  have h1 : p s1 = p s := foldl_keeps p _ (fun s l => dropLink_keeps p hp.regs hp.cnt64 hp.links hp.out l _ _ s) _ s
  clear_value s1
  have h2 : p s2 = p s1 := foldl_keeps p _ (fun s d => hp.clk s _) _ s1
  clear_value s2
  have h3 : p s3 = p s2 := foldl_keeps p _ (fun s k => by
    refine (hp.work _ _).trans ?_
    split
    · exact hp.work s _
    · rfl
    · rfl) _ s2
  clear_value s3
  have h4 : p s4 = p s3 := foldl_keeps p _ (fun s c => hp.chans s _) _ s3
  clear_value s4
  have hcaches : ∀ a b, p { s4 with tagc := a, pool := b } = p s4 := fun a b => (hp.pool { s4 with tagc := a } b).trans (hp.tagc s4 a)
  have h5 : p s5 = p s4 := hcaches _ _
  clear_value s5
  rw [hp.quarterRegs, h5, h4, h3, h2, h1]

end

end Sys2Proof.Machine
end

section
/-! PROOFS. Power states: idle, doze, and the states entered and left by command (R428, R429). -/

namespace Sys2Proof.Machine

variable {s : State}

theorem idleTimerExpire_answers (hh : s.su.held = false) (h0 : s.pwr.st = 0) (hs : s.su.service = true) (hc : s.coresRun = false) :
    Answers .idleTimerExpire s fun t =>
      t.pwr = { s.pwr with st := 1 } ∧ s.pwr.lastTile + usec (max 1 (s.rfld .PWR_TIMERS 0 15 0)) ≤ t.time.nclk ∧ t.mem = s.mem := by
  refine answers_of_live idleRun rfl hh ?_
  obtain ⟨x, hle, hx⟩ := advanceTo_takes (s.pwr.lastTile + usec (max 1 (s.rfld .PWR_TIMERS 0 15 0))) s
  have hrun : idleRun s = { s with time := x, pwr := { s.pwr with st := 1 } } := by
    unfold idleRun
    rw [if_neg (by simp [h0, hs]), hx]
    exact if_neg (show ¬s.coresRun = true by simp [hc])
  rw [hrun]
  exact ⟨rfl, hle, rfl⟩

theorem gateRefuse_pwr (s : State) : (gateRefuse s).pwr = s.pwr := by rw [gateRefuse, logEv_pwr, count_pwr]
theorem gateRefuse_work (s : State) : (gateRefuse s).work = s.work := by rw [gateRefuse, logEv_work, count_work]

theorem idleTimerExpire_refused_answers (hh : s.su.held = false) (h0 : s.pwr.st = 0) (hs : s.su.service = true) (hc : s.coresRun = true) :
    Answers .idleTimerExpire s fun t => t.pwr = s.pwr ∧ t.work = s.work := by
  refine answers_of_live idleRun rfl hh ?_
  obtain ⟨x, -, hx⟩ := advanceTo_takes (s.pwr.lastTile + usec (max 1 (s.rfld .PWR_TIMERS 0 15 0))) s
  have hrun : idleRun s = gateRefuse { s with time := x } := by
    unfold idleRun
    rw [if_neg (by simp [h0, hs]), hx]
    exact if_pos (show s.coresRun = true from hc)
  rw [hrun]
  exact ⟨by rw [settle_pwr, gateRefuse_pwr], by rw [settle_work, gateRefuse_work]⟩

/-! ### Doze -/

/-- The cores that stand ON go off. -/
@[irreducible] def coresDozed (s : State) : State :=
  (indices 144).foldl (fun s k => if (s.coreSt k).st = 1 then s.updCore k fun c => { c with st := 0, cleared := false } else s) s

/-- The ranks of the channels that are up go into power-down. -/
@[irreducible] def ranksDozed (s : State) : State :=
  (indices 16).foldl (fun s c => if (s.chan c).up then s.updChan c fun k => { k with pd := 2 ^ k.ranks - 1 } else s) s

theorem coresDozed_core (s : State) (k : CoreId) : (coresDozed s).core k =
    if (s.core k).st = 1 then { s.core k with st := 0, cleared := false } else s.core k := by
  unfold coresDozed
  refine foldl_indices State.core _ (fun _ (c : CoreSt) => if c.st = 1 then { c with st := 0, cleared := false } else c) (fun s i => ?_) (fun s i j hij => ?_) s k
  · by_cases h : (s.core i).st = 1
    · rw [if_pos (show (s.coreSt i).st = 1 from h), if_pos h, updCore_core_self]
    · rw [if_neg (show ¬(s.coreSt i).st = 1 from h), if_neg h]
  · split_ifs
    · exact updCore_core_ne _ _ hij
    · rfl

theorem ranksDozed_chan (s : State) (c : ChanId) : (ranksDozed s).chan c =
    if (s.chan c).up then { s.chan c with pd := 2 ^ (s.chan c).ranks - 1 } else s.chan c := by
  unfold ranksDozed
  refine foldl_indices State.chan _ (fun _ (k : ChanSt) => if k.up then { k with pd := 2 ^ k.ranks - 1 } else k) (fun s i => ?_) (fun s i j hij => ?_) s c
  · by_cases h : (s.chan i).up = true
    · rw [if_pos h, if_pos h, updChan_chan_self]
    · rw [if_neg h, if_neg h]
  · split_ifs
    · exact updChan_chan_ne _ _ hij
    · rfl

theorem coresDozed_keeps {α : Type} (p : State → α) (hw : ∀ s x, p { s with work := x } = p s) (s : State) : p (coresDozed s) = p s := by
  unfold coresDozed
  exact foldl_keeps p _ (fun s k => by split_ifs <;> [exact hw s _; rfl]) _ s

theorem ranksDozed_keeps {α : Type} (p : State → α) (hc : ∀ s x, p { s with chans := x } = p s) (s : State) : p (ranksDozed s) = p s := by
  unfold ranksDozed
  exact foldl_keeps p _ (fun s c => by split_ifs <;> [exact hc s _; rfl]) _ s

def enterDoze (s : State) : State := { s with pwr := { s.pwr with st := 2 } }

/-- What DOZE does: cores off, ranks in power-down (R89, R428). -/
def dozed (s : State) : State := enterDoze (ranksDozed (coresDozed s))

/-- Once the time is reached: refused while a core runs. -/
def dozeFrom (s : State) : State := if s.coresRun then gateRefuse s else dozed s

theorem dozeRun_eq (s : State) : dozeRun s = if 2 ≤ s.pwr.st ∨ s.rfld .PWR_TIMERS 0 31 16 = 0 ∨ !s.su.service then s
    else dozeFrom (advanceTo (s.pwr.lastDispatch + msec (s.rfld .PWR_TIMERS 0 31 16)) s) := by
  unfold dozeRun dozeFrom dozed enterDoze coresDozed ranksDozed
  dsimp only

theorem dozed_time (s : State) : (dozed s).time = s.time :=
  (ranksDozed_keeps State.time (fun _ _ => rfl) _).trans (coresDozed_keeps State.time (fun _ _ => rfl) _)

theorem dozed_mem (s : State) : (dozed s).mem = s.mem :=
  (ranksDozed_keeps State.mem (fun _ _ => rfl) _).trans (coresDozed_keeps State.mem (fun _ _ => rfl) _)

theorem dozed_core_st (s : State) (k : CoreId) : ((dozed s).core k).st ≠ 1 := by
  have h : (dozed s).core k = (coresDozed s).core k := ranksDozed_keeps (fun s => s.core k) (fun _ _ => rfl) _
  rw [h, coresDozed_core]
  split_ifs with h
  · exact Nat.zero_ne_one
  · exact h

theorem dozed_chan (s : State) (c : ChanId) :
    (dozed s).chan c = if (s.chan c).up then { s.chan c with pd := 2 ^ (s.chan c).ranks - 1 } else s.chan c := by
  refine (ranksDozed_chan _ c).trans ?_
  rw [coresDozed_keeps (fun s => s.chan c) (fun _ _ => rfl)]

theorem dozeTimerExpire_answers (hh : s.su.held = false) (h2 : s.pwr.st < 2) (hs : s.su.service = true) (hm : s.rfld .PWR_TIMERS 0 31 16 ≠ 0)
    (hc : s.coresRun = false) : Answers .dozeTimerExpire s fun t =>
      t.pwr.st = 2 ∧ s.pwr.lastDispatch + msec (s.rfld .PWR_TIMERS 0 31 16) ≤ t.time.nclk ∧ (∀ k : CoreId, (t.coreSt k).st ≠ 1) ∧
      (∀ c : ChanId, (s.chan c).up = true → (t.chan c).pd = 2 ^ (s.chan c).ranks - 1) ∧ t.mem = s.mem := by
  refine answers_of_live dozeRun rfl hh ?_
  obtain ⟨x, hle, hx⟩ := advanceTo_takes (s.pwr.lastDispatch + msec (s.rfld .PWR_TIMERS 0 31 16)) s
  have hrun : dozeRun s = dozed { s with time := x } := by
    rw [dozeRun_eq, if_neg (by simp [hs, hm]; omega), hx]
    exact if_neg (show ¬s.coresRun = true by simp [hc])
  rw [hrun]
  refine ⟨rfl, ?_, fun k => dozed_core_st _ k, fun c hup => ?_, ?_⟩
  · rw [settle_time, dozed_time]
    exact hle
  · rw [settle_chan, dozed_chan]
    exact congrArg ChanSt.pd (if_pos (show (s.chan c).up = true from hup))
  · rw [settle_mem, dozed_mem]

/-! ### States entered by command -/

@[simp] theorem closeJournals_pwr (f : Nat → Bool) (s : State) : (closeJournals f s).pwr = s.pwr := by rw [closeJournals_rest]
@[simp] theorem closeJournals_mem (f : Nat → Bool) (s : State) : (closeJournals f s).mem = s.mem := by rw [closeJournals_rest]
@[simp] theorem closeJournals_pool (f : Nat → Bool) (s : State) : (closeJournals f s).pool = s.pool := by rw [closeJournals_rest]
@[simp] theorem closeJournals_quarts (f : Nat → Bool) (s : State) : (closeJournals f s).quarts = s.quarts := by rw [closeJournals_rest]
@[simp] theorem closeJournals_links (f : Nat → Bool) (s : State) : (closeJournals f s).links = s.links := by rw [closeJournals_rest]

theorem closeJournals_isBusy {r : Reg} {u : Nat} (hu : u < 65536) (hb : r.ctorIdx ≠ Reg.FL_PROG_BYTES.ctorIdx)
    (hc : r.ctorIdx ≠ Reg.PAGE_PROG_CNT.ctorIdx) (f : Nat → Bool) (s : State) : (closeJournals f s).isBusy r u = s.isBusy r u := by
  rw [State.isBusy, State.rfld, closeJournals_reg hu hb hc]
  rfl

theorem sleepStart_effect (n : Nat) (s : State) : (sleepStart n s).pwr = { s.pwr with trans := some n } ∧
    (sleepStart n s).isBusy .PWR_CMD_RESULT 0 = true ∧ (sleepStart n s).mem = s.mem := by
  unfold sleepStart
  extract_lets new s1
  have hbusy : s1.isBusy .PWR_CMD_RESULT 0 = true := isBusy_busy s .PWR_CMD_RESULT 0
  have hpwr : s1.pwr = s.pwr := rfl
  have hmem : s1.mem = s.mem := rfl
  clear_value s1
  refine ⟨?_, ?_, ?_⟩
  · exact (closeJournals_pwr _ _).trans (congrArg (fun p : PwrSt => { p with trans := some n }) hpwr)
  · rw [closeJournals_isBusy (by decide) (by decide) (by decide)]
    exact hbusy
  · rw [closeJournals_mem]
    exact hmem

theorem setStateRun_sleep {v : BitVec 4} (hv : v = 3 ∨ v = 4) (hb : s.isBusy .PWR_CMD_RESULT 0 = false) (h2 : s.pwr.st ≤ 2) :
    setStateRun v s = if 2 < s.pwr.st ∨ s.pair.role ≠ 7 ∨ s.liveTasks ≠ 0 ∨ s.unitBusy ∨ s.pwr.pfPhase ≠ 0 ∨ s.su.drain.isSome then pwrConflict s
      else if s.coresRun then pwrConflict (gateRefuse s) else sleepStart v.toNat s := by
  have hst : s.pwr.st = 0 ∨ s.pwr.st = 1 ∨ s.pwr.st = 2 := by omega
  refine (if_neg (by simp [hb])).trans ?_
  rcases hv with rfl | rfl <;> rcases hst with h | h | h <;> rw [h] <;> rfl

theorem setState_sleep_answers (hh : s.su.held = false) (hb : s.isBusy .PWR_CMD_RESULT 0 = false) {v : BitVec 4} (hv : v = 3 ∨ v = 4)
    (h2 : s.pwr.st ≤ 2) (hr : s.pair.role = 7) (hl : s.liveTasks = 0) (hu : s.unitBusy = false) (hp : s.pwr.pfPhase = 0) (hd : s.su.drain = none)
    (hc : s.coresRun = false) : Answers (.setState v) s fun t =>
      t.pwr = { s.pwr with trans := some v.toNat } ∧ t.isBusy .PWR_CMD_RESULT 0 = true ∧ t.mem = s.mem := by
  refine answers_of_live (setStateRun v) rfl hh ?_
  have hrun : setStateRun v s = sleepStart v.toNat s :=
    (setStateRun_sleep hv hb h2).trans ((if_neg (by simp [hr, hl, hu, hp, hd]; omega)).trans (if_neg (by simp [hc])))
  rw [hrun]
  exact sleepStart_effect _ s

theorem setState_sleep_conflict_answers (hh : s.su.held = false) (hb : s.isBusy .PWR_CMD_RESULT 0 = false) {v : BitVec 4} (hv : v = 3 ∨ v = 4)
    (h2 : s.pwr.st ≤ 2) (hl : s.liveTasks ≠ 0) : Answers (.setState v) s fun t =>
      t.pwr = s.pwr ∧ t.reg .PWR_CMD_RESULT 0 = w32 (s.pwr.st % 16 * 256 + 3) := by
  refine answers_of_live (setStateRun v) rfl hh ?_
  have hrun : setStateRun v s = pwrConflict s :=
    (setStateRun_sleep hv hb h2).trans (if_pos (by simp [hl]))
  rw [hrun]
  exact ⟨by rw [settle_pwr, pwrConflict, conflict_pwr], reg_result_self _ _ _ _ _⟩

theorem setState_wake_answers (hh : s.su.held = false) (hb : s.isBusy .PWR_CMD_RESULT 0 = false) (h3 : s.pwr.st = 3) :
    Answers (.setState 0) s fun t =>
      t.pwr.st = 0 ∧ t.su.wake = true ∧ t.su.running = [5] ∧ t.isBusy .PWR_CMD_RESULT 0 = true ∧ t.mem = s.mem := by
  refine answers_of_live (setStateRun 0) rfl hh ?_
  have hrun : setStateRun 0 s = wakeUp s := by
    refine (if_neg (by simp [hb])).trans ?_
    rw [h3]
    rfl
  have hwake : wakeUp s = beginStep 5 { s.busy .PWR_CMD_RESULT 0 with
      pwr := { s.pwr with st := 0 }
      su := { s.su with wake := true, warm := true, running := [], doneSteps := [1, 2, 3, 4, 10, 11] } } := by
    unfold wakeUp
    simp only [h3]
    rfl
  rw [hrun, hwake]
  exact ⟨rfl, rfl, rfl, isBusy_busy s .PWR_CMD_RESULT 0, rfl⟩

theorem setState_unsupported_answers (hh : s.su.held = false) (hb : s.isBusy .PWR_CMD_RESULT 0 = false) {v : BitVec 4}
    (hv : v = 1 ∨ v = 2 ∨ 4 < v.toNat) : Answers (.setState v) s fun t => t.reg .PWR_CMD_RESULT 0 = w32 stUNSUPPORTED.toNat ∧ t.pwr = s.pwr := by
  refine answers_of_live (setStateRun v) rfl hh ?_
  have hne : v.toNat ≠ 0 ∧ v.toNat ≠ 3 ∧ v.toNat ≠ 4 := by
    rcases hv with rfl | rfl | h
    · decide
    · decide
    · omega
  obtain ⟨h0, h3, h4⟩ := hne
  have hrun : setStateRun v s = s.result .PWR_CMD_RESULT 0 stUNSUPPORTED := by
    refine (if_neg (by simp [hb])).trans ?_
    generalize v.toNat = n at h0 h3 h4
    split <;> trivial
  rw [hrun]
  exact ⟨reg_result_self _ _ _ _ _, rfl⟩

/-! ### Entry of SLEEP and STANDBY-COLD -/

section
variable {α : Type} {p : State → α}

@[irreducible] def quarterTracesMoved (n : Nat) (s : State) : State :=
  (indices 4).foldl (fun s q => traceMove q (traceDown (4 + q.val) (if n = 3 then 1 else 2) s)) s

@[irreducible] def quartersOff (s : State) : State := (indices 4).foldl (fun s q => quarterOff q s) s

def quartersStopped (s : State) : State := { s with quarts := s.quarts.map fun x => { x with st := 0, drain := none } }

@[irreducible] def carriersOff (s : State) : State :=
  (indices 8).foldl (fun (s : State) c => s.updCar c fun (k : CarSt) =>
    { k.kept with desc := k.desc, recSt := if k.st = 5 ∨ k.st = 6 ∨ k.st = 4 then k.st else k.recSt, st := if !s.present c then 0 else if !s.owned c then 1 else 0 }) s

@[irreducible] def denseDropped (s : State) : State := s.tier.dense.foldl (fun s d => d.pages.foldl (fun s pg => dropWriteBack pg s) s) s

def tierClosed (s : State) : State := s.updTier fun x => { x with dense := [], remirror := [], gc := none, opened := false }

@[irreducible] def channelsLost (s : State) : State :=
  (indices 16).foldl (fun s c => s.updChan c fun _ => ChanSt.init) (s.updDom 20 fun _ => ⟨256, 256, s.time.nclk⟩)

/-- What both states share: quarters and carriers lose power (R429). -/
def sleepOff (n : Nat) (s : State) : State :=
  tierClosed (denseDropped (carriersOff (quartersStopped (quartersOff (quarterTracesMoved n s)))))

theorem sleepEnter_eq (n : Nat) (s : State) :
    sleepEnter n s = if n = 3 then sleepOff n s else channelsLost (loseDram (sleepOff n s)) := by
  unfold sleepEnter sleepOff tierClosed denseDropped carriersOff quartersStopped quartersOff quarterTracesMoved channelsLost
  dsimp only

theorem quarterTracesMoved_mem (n : Nat) (s : State) : (quarterTracesMoved n s).mem = s.mem := by
  unfold quarterTracesMoved
  exact foldl_keeps State.mem _ (fun s q => (traceMove_keeps State.mem (fun _ _ => rfl) (fun _ _ => rfl) (fun _ _ => rfl) q _).trans
    (traceDown_keeps State.mem (fun _ _ => rfl) (fun _ _ => rfl) (fun _ _ => rfl) (fun _ _ => rfl) (fun _ _ => rfl) _ _ s)) _ s

theorem quartersOff_mem (s : State) : (quartersOff s).mem = s.mem := by
  unfold quartersOff
  have hp : OffQuarter State.mem := by constructor <;> intro _ _ <;> rfl
  exact foldl_keeps State.mem _ (fun s q => hp.quarterOff q s) _ s

theorem carriersOff_keeps (p : State → α) (ht : ∀ s x, p { s with tier := x } = p s) (s : State) : p (carriersOff s) = p s := by
  unfold carriersOff
  exact foldl_keeps p _ (fun s c => ht s _) _ s

theorem denseDropped_keeps (p : State → α) (ht : ∀ s x, p { s with tags := x } = p s) (s : State) : p (denseDropped s) = p s := by
  unfold denseDropped
  exact (congrArg p (writeBacksDropped_tags s)).trans (ht s _)

theorem channelsLost_keeps (p : State → α) (hc : ∀ s x, p { s with chans := x } = p s) (hk : ∀ s x, p { s with clk := x } = p s) (s : State) :
    p (channelsLost s) = p s := by
  unfold channelsLost
  exact (foldl_keeps p _ (fun s c => hc s _) _ _).trans (hk s _)

@[irreducible] def tagsLost (s : State) : State := (indices 16).foldl (fun s c => dirDrop c.val (tagsInvalid c.val s)) s

def contentLost (s : State) : State :=
  { s with mem := [], poison := [], upsets := [], rgn := { s.rgn with tab := s.rgn.tab.map fun e => (e.1, e.2.kept) } }

theorem loseDram_eq (s : State) : loseDram s = contentLost (tagsLost s) := by
  unfold loseDram contentLost tagsLost
  dsimp only

theorem contentLost_mem (s : State) : (contentLost s).mem = [] := rfl
theorem contentLost_quarts (s : State) : (contentLost s).quarts = s.quarts := rfl

theorem loseDram_mem (s : State) : (loseDram s).mem = [] := by rw [loseDram_eq, contentLost_mem]

theorem dirDrop_quarts (sl : Nat) (s : State) : (dirDrop sl (tagsInvalid sl s)).quarts = s.quarts := rfl

theorem loseDram_quarts (s : State) : (loseDram s).quarts = s.quarts := by
  rw [loseDram_eq, contentLost_quarts]
  unfold tagsLost
  exact foldl_keeps State.quarts (fun s (c : ChanId) => dirDrop c.val (tagsInvalid c.val s)) (fun s c => dirDrop_quarts _ _) _ s

theorem tierClosed_mem (s : State) : (tierClosed s).mem = s.mem := rfl
theorem tierClosed_quart (s : State) (q : Quarter) : (tierClosed s).quart q = s.quart q := rfl
theorem quartersStopped_mem (s : State) : (quartersStopped s).mem = s.mem := rfl

theorem quartersStopped_quart (s : State) (q : Quarter) : (quartersStopped s).quart q = ⟨0, none⟩ := by
  show (s.quarts.map _)[q.val] = _
  rw [Vector.getElem_map]

theorem sleepOff_mem (n : Nat) (s : State) : (sleepOff n s).mem = s.mem := by
  rw [sleepOff, tierClosed_mem, denseDropped_keeps State.mem (fun _ _ => rfl), carriersOff_keeps State.mem (fun _ _ => rfl),
    quartersStopped_mem, quartersOff_mem, quarterTracesMoved_mem]

theorem sleepOff_quart (n : Nat) (s : State) (q : Quarter) : (sleepOff n s).quart q = ⟨0, none⟩ := by
  rw [sleepOff, tierClosed_quart, denseDropped_keeps (fun s => s.quart q) (fun _ _ => rfl), carriersOff_keeps (fun s => s.quart q) (fun _ _ => rfl),
    quartersStopped_quart]

theorem sleepEnter_effect (n : Nat) (s : State) : (∀ q : Quarter, (sleepEnter n s).quart q = ⟨0, none⟩) ∧
    (n = 3 → (sleepEnter n s).mem = s.mem) ∧ (n = 4 → (sleepEnter n s).mem = []) := by
  rw [sleepEnter_eq]
  split_ifs with h
  · exact ⟨sleepOff_quart n s, fun _ => sleepOff_mem n s, fun h4 => absurd (h.symm.trans h4) (by decide)⟩
  · refine ⟨fun q => ?_, fun h3 => absurd h3 h, fun _ => ?_⟩
    · rw [channelsLost_keeps (fun s => s.quart q) (fun _ _ => rfl) (fun _ _ => rfl)]
      exact (congrArg (fun v => Vector.get v q) (loseDram_quarts _)).trans (sleepOff_quart n s q)
    · exact (channelsLost_keeps State.mem (fun _ _ => rfl) (fun _ _ => rfl) _).trans (loseDram_mem _)

end

/-- The state is entered. -/
def sleepEntered (n : Nat) (s : State) : State :=
  ({ s with pwr := { s.pwr with st := n, trans := none },
            su := { s.su with doneSteps := s.su.doneSteps.filter (· ≠ 12), service := false } } : State).result .PWR_CMD_RESULT 0 stOK

theorem sleepDoneRun_eq {n : Nat} (ht : s.pwr.trans = some n) :
    sleepDoneRun s = if !s.isDrained ∨ s.tier.ckpts ≠ [] then s else sleepEntered n (sleepEnter n s) := by
  unfold sleepDoneRun
  rw [ht]
  rfl

theorem sleepEntryDone_answers (hh : s.su.held = false) {n : Nat} (ht : s.pwr.trans = some n) (hd : s.isDrained = true) (hc : s.tier.ckpts = []) :
    Answers .sleepEntryDone s fun t =>
      t.pwr.st = n ∧ t.pwr.trans = none ∧ t.su.service = false ∧ (∀ q : Quarter, t.quart q = ⟨0, none⟩) ∧
        (n = 3 → t.mem = s.mem) ∧ (n = 4 → t.mem = []) ∧ t.reg .PWR_CMD_RESULT 0 = 0 := by
  refine answers_of_live sleepDoneRun rfl hh ?_
  rw [(sleepDoneRun_eq ht).trans (if_neg (by simp [hd, hc]))]
  obtain ⟨hq, h3, h4⟩ := sleepEnter_effect n s
  generalize sleepEnter n s = u at hq h3 h4 ⊢
  exact ⟨rfl, rfl, rfl, hq, h3, h4, reg_result_self _ _ _ _ _⟩

theorem sleepEntryDone_early_answers (hh : s.su.held = false) {n : Nat} (ht : s.pwr.trans = some n) (hd : s.isDrained = false) :
    Answers .sleepEntryDone s fun t => t = settle s := by
  refine answers_of_live sleepDoneRun rfl hh ?_
  rw [(sleepDoneRun_eq ht).trans (if_pos (by simp [hd]))]

end Sys2Proof.Machine
end

section
open Sys2Proof Sys2Proof.Machine

/-- Settles O50: each timer and command of the power states (R428, R429), by the lemma about it. -/
theorem powerStatesChange : Obligations.PowerStatesChange := by
  intro s hh
  refine ⟨idleTimerExpire_answers hh, idleTimerExpire_refused_answers hh, dozeTimerExpire_answers hh, fun hb => ⟨?_, ?_, ?_, ?_⟩,
    fun n ht => ⟨sleepEntryDone_answers hh ht, sleepEntryDone_early_answers hh ht⟩⟩
  · intro v hv h2 hr hl hu hp hd hc
    exact setState_sleep_answers hh hb hv h2 hr hl hu hp hd hc
  · intro v hv h2 hl
    exact setState_sleep_conflict_answers hh hb hv h2 hl
  · exact setState_wake_answers hh hb
  · intro v hv
    exact setState_unsupported_answers hh hb hv
end

section
/-! PROOFS. What saying something leaves alone: a command register keeps its value through messages, events and traces. -/

namespace Sys2Proof.Machine

variable {s : State}

/-- A part of the state that messages, events and traces leave alone: they change the counters, but no command register. -/
structure OffSays {α : Type} (p : State → α) : Prop where
  count : ∀ s (r : Reg) u n, r.info.cnt = true → u < 65536 → p (s.count r u n) = p s
  log : ∀ s x, p { s with log := x } = p s
  out : ∀ s x, p { s with out := x } = p s
  links : ∀ s x, p { s with links := x } = p s
  coord : ∀ s x, p { s with coord := x } = p s
  obs : ∀ s x, p { s with obs := x } = p s
  free : ∀ s x, p { s with free := x } = p s

/-- A register that is no counter is such a part. -/
theorem offSays_reg {r : Reg} {u : Nat} (hr : r.info.cnt = false) (hu : u < 65536) : OffSays fun s : State => s.reg r u where
  count s c v n hc hv := count_reg_ne s n fun h => by
    have hrc : r = c := (Reg.ofNat_ctorIdx r).symm.trans ((congrArg Reg.ofNat (regKey_inj hu hv h).1).trans (Reg.ofNat_ctorIdx c))
    rw [hrc, hc] at hr
    exact Bool.noConfusion hr
  log _ _ := rfl
  out _ _ := rfl
  links _ _ := rfl
  coord _ _ := rfl
  obs _ _ := rfl
  free _ _ := rfl

/-- What a part determines is such a part. -/
theorem OffSays.map {α β : Type} {p : State → α} (hp : OffSays p) (f : α → β) : OffSays fun s => f (p s) where
  count s r u n hr hu := congrArg f (hp.count s r u n hr hu)
  log s x := congrArg f (hp.log s x)
  out s x := congrArg f (hp.out s x)
  links s x := congrArg f (hp.links s x)
  coord s x := congrArg f (hp.coord s x)
  obs s x := congrArg f (hp.obs s x)
  free s x := congrArg f (hp.free s x)

theorem offSays_isBusy {r : Reg} {u : Nat} (hr : r.info.cnt = false) (hu : u < 65536) : OffSays fun s : State => s.isBusy r u :=
  (offSays_reg hr hu).map fun v : W32 => decide (fld v 31 31 = 1)

section
variable {α : Type} {p : State → α} (hp : OffSays p)
include hp

theorem OffSays.emit (o : Out) (s : State) : p (Machine.emit o s) = p s := hp.out s _

theorem OffSays.sendUdp (n : Nat) (b : Bytes) (s : State) : p (Machine.sendUdp n b s) = p s := sendUdp_keeps p hp.log hp.out s n b

theorem OffSays.putEv (e : Ev) (s : State) : p (Machine.putEv e s) = p s := by
  unfold Machine.putEv
  extract_lets entry full l1 s1 s2 due l3 s3
  have h1 : p s1 = p s := hp.log s _
  have h2 : p s2 = p s1 := by
    show p (if full then s1.count .EVT_OVERWRITE else s1) = p s1
    split
    · exact hp.count s1 _ _ _ rfl (by decide)
    · rfl
  have h3 : p s3 = p s2 := by
    show p (if _ then Machine.emit (.ibi (byte e.cls)) { s2 with log := { s2.log with ibiAt := some s2.time.nclk } } else s2) = p s2
    split
    · exact (hp.out _ _).trans (hp.log s2 _)
    · rfl
  have hall : p s3 = p s := h3.trans (h2.trans h1)
  clear_value s3
  split
  · exact (hp.sendUdp _ _ _).trans hall
  · exact hall

theorem OffSays.logEv {e : Ev} (he : e.cls < 65536) (s : State) : p (Machine.logEv e s) = p s := by
  have hroll : p (rollSecond s) = p s := by
    unfold rollSecond
    simp only
    split
    · rfl
    · exact (foldl_keeps p _ (fun s d => hp.putEv _ s) _ _).trans (hp.log s _)
  unfold Machine.logEv
  split
  · rfl
  · simp only
    split
    · exact (hp.putEv _ _).trans ((hp.log _ _).trans hroll)
    · exact (hp.count _ _ _ _ rfl he).trans ((hp.log _ _).trans hroll)

/-! ### Links and messages -/

theorem OffSays.sendSeq (l : LinkId) (t vc : Nat) (hd tl : Bool) (b : Bytes) (s : State) : p (sendSeq l t vc hd tl b s) = p s := by
  have hl : l.val < 65536 := by omega
  unfold Machine.sendSeq
  simp only
  split
  · exact (hp.count _ _ _ _ rfl hl).trans ((hp.count _ _ _ _ rfl hl).trans ((hp.out _ _).trans (hp.links s _)))
  · exact (hp.count _ _ _ _ rfl hl).trans ((hp.out _ _).trans (hp.links s _))

theorem OffSays.serveOne {l : LinkId} {s t : State} (h : serveOne l s = some t) : p t = p s := by
  unfold Machine.serveOne at h
  simp only at h
  split at h
  · cases h
  · split at h
    · cases h
    · cases h
      split
      · exact (freeFlit_keeps p hp.links hp.out _ _ _).trans ((hp.sendSeq _ _ _ _ _ _ _).trans (hp.links s _))
      · exact (hp.sendSeq _ _ _ _ _ _ _).trans (hp.links s _)

theorem OffSays.serveLink (n : Nat) (l : LinkId) (s : State) : p (serveLink l n s) = p s := by
  induction n generalizing s with
  | zero => rfl
  | succ n ih =>
    unfold Machine.serveLink
    split
    · next t h => rw [ih, hp.serveOne h]
    · rfl

theorem OffSays.putFlit (l : LinkId) (w : WaitFlit) (s : State) : p (putFlit l w s) = p s :=
  (hp.serveLink _ _ _).trans (hp.links s _)

theorem OffSays.putMsg (l : LinkId) (q : Nat) (m : Msg) (s : State) : p (putMsg l q m s) = p s :=
  foldl_keeps p _ (fun s _ => hp.putFlit _ _ s) _ s

theorem OffSays.send (m : Msg) (s : State) : p (send m s) = p s := by
  unfold Machine.send
  split
  · exact (hp.out _ _).trans (hp.count s _ _ _ rfl (by decide))
  · simp only
    split
    · exact (hp.putMsg _ _ _ _).trans (hp.out s _)
    · exact hp.out s _

theorem OffSays.coordOut (d : W16) (a : Option Nat) (b : Bytes) (s : State) : p (coordOut d a b s) = p s := by
  unfold Machine.coordOut
  split
  · exact hp.coord s _
  · exact hp.send _ s

theorem OffSays.coordSend (d : W16) (subop : Nat) (b : Bytes) (h : Option CmdHdr) (r : Nat) (s : State) : p (coordSend d subop b h r s) = p s :=
  (hp.coordOut _ _ _ _).trans (hp.coord s _)

theorem OffSays.coordAckSend (d : W16) (x : W32) (subop : Nat) (st : Byte) (n : Nat) (b : Bytes) (s : State) :
    p (coordAckSend d x subop st n b s) = p s := (hp.coordOut _ _ _ _).trans (hp.coord s _)

/-! ### Record changes and the stack map -/

theorem OffSays.txSend (id subop : Nat) (body : Bytes) (l : List W16) (s : State) : p (txSend id subop body l s) = p s := by
  unfold Machine.txSend
  refine (foldl_keeps p _ (fun s d => ?_) _ _).trans (hp.coord s _)
  exact (hp.coordOut _ _ _ _).trans ((hp.coord _ _).trans (hp.coord s _))

theorem OffSays.txStart (obj op number : Nat) (rec_ : Bytes) (h : CmdHdr) (cmd : Nat) (res : Bytes) (late : Bool) (l : List W16)
    (s : State) : p (txStart obj op number rec_ h cmd res late l s) = p s := by
  unfold Machine.txStart
  simp only
  split
  · exact hp.coord s _
  · exact (hp.txSend _ _ _ _ _).trans (hp.coord s _)

theorem OffSays.sendRecords (d : W16) (s : State) : p (sendRecords d s) = p s := by
  unfold Machine.sendRecords
  refine (foldl_keeps p _ (fun s e => ?_) _ _).trans (foldl_keeps p _ (fun s e => ?_) _ _)
  · split
    · rfl
    · exact hp.txStart _ _ _ _ _ _ _ _ _ s
  · split
    · rfl
    · exact hp.txStart _ _ _ _ _ _ _ _ _ s

theorem OffSays.publishMap (hspn : ∀ s x, p { s with spn := x } = p s) (o : SpnSt) (s : State) : p (publishMap o s) = p s := by
  unfold Machine.publishMap
  simp only
  split
  · rfl
  · exact (foldl_keeps p _ (fun s d => hp.sendRecords _ s) _ _).trans ((foldl_keeps p _ (fun s d => hp.out s _) _ _).trans (hspn s _))

theorem OffSays.ownMapByte (hspn : ∀ s x, p { s with spn := x } = p s) (s : State) : p (ownMapByte s) = p s := by
  unfold Machine.ownMapByte
  split
  · refine (hp.publishMap hspn _ _).trans ?_
    split
    · exact (hspn _ _).trans (hspn s _)
    · exact hspn s _
  · rfl

theorem OffSays.setRole (hspn : ∀ s x, p { s with spn := x } = p s) (hpair : ∀ s x, p { s with pair := x } = p s) (r : Nat) (s : State) :
    p (setRole r s) = p s := (hp.ownMapByte hspn _).trans (hpair s _)

theorem OffSays.headOnActive (hspn : ∀ s x, p { s with spn := x } = p s) (hhead : ∀ s x, p { s with head := x } = p s) (s : State) :
    p (headOnActive s) = p s := by
  have hboth : ∀ a b, p { s with head := a, spn := b } = p s := fun a b => (hspn { s with head := a } b).trans (hhead s a)
  unfold Machine.headOnActive
  split
  · rfl
  · split
    · exact (hp.ownMapByte hspn _).trans (hboth _ _)
    · exact (hp.out _ _).trans (hhead s _)

/-! ### The trace -/

theorem OffSays.putHub (src : Nat) (f : Bytes) (s : State) : p (putHub src f s) = p s :=
  (hp.count _ _ _ _ rfl (by decide)).trans (hp.obs s _)

theorem OffSays.putQuart (q : Quarter) (src : Nat) (f : Bytes) (s : State) : p (putQuart q src f s) = p s :=
  (hp.count _ _ _ _ rfl (by decide)).trans (hp.obs s _)

theorem OffSays.traceFrame (src : Nat) (f : Bytes) (s : State) : p (traceFrame src f s) = p s := by
  unfold Machine.traceFrame
  extract_lets g s1
  have hput : p s1 = p s := by
    unfold s1
    split
    · exact hp.putQuart _ _ _ s
    · exact hp.putHub _ _ s
  clear_value s1
  split
  · exact (hp.sendUdp _ _ _).trans hput
  · exact hput

theorem OffSays.traceDown (src reason : Nat) (s : State) : p (traceDown src reason s) = p s := by
  unfold Machine.traceDown
  split
  · exact (hp.obs _ _).trans (hp.traceFrame _ _ s)
  · rfl

theorem OffSays.randomBytes (n : Nat) (s : State) : p (randomBytes n s).2 = p s := by
  induction n generalizing s with
  | zero => rfl
  | succ n ih => exact (ih _).trans (hp.free s _)

theorem OffSays.traceResume (src : Nat) (s : State) : p (traceResume src s) = p s := by
  unfold Machine.traceResume
  split
  · exact (hp.traceFrame _ _ _).trans ((hp.obs _ _).trans (hp.randomBytes 8 s))
  · rfl

/-! ### Replies -/

theorem OffSays.failResult (c : Nat) (s : State) : p (failResult c s).2 = p s := by
  unfold Machine.failResult
  split
  · rfl
  · split
    · rfl
    · split
      · exact hp.free s _
      · rfl

theorem OffSays.conflictEv (h : CmdHdr) (c n : Nat) (s : State) : p (conflictEv h c n s) = p s := by
  unfold Machine.conflictEv
  simp only
  split
  · exact hp.logEv (by norm_num) s
  · exact hp.logEv (by norm_num) s
  · exact hp.logEv (by norm_num) s
  all_goals exact (hp.count _ _ _ _ rfl (by decide)).trans (hp.logEv (by norm_num) s)

/-- The registers in which a reply is read. -/
def replyRegs : List Reg := [.MBX_OUT, .MBX_STAT, .RGN_CMD_RESULT, .SLOT_CMD_RESULT, .HWD_CMD_RESULT]

theorem OffSays.reply (hm : ∀ s x, p { s with mbx := x } = p s) (hr : ∀ s (r : Reg) u v, r ∈ replyRegs → u < 65536 → p (s.setReg r u v) = p s)
    (h : CmdHdr) (c : Nat) (st : Byte) (n k : Nat) (res : Bytes) (s : State) : p (reply h c st n k res s) = p s := by
  have h1 : p (if st ≠ stOK ∧ res = [] then Machine.failResult c s else (res, s)).2 = p s := by
    split
    · exact hp.failResult c s
    · rfl
  unfold Machine.reply
  simp only
  generalize (if st ≠ stOK ∧ res = [] then Machine.failResult c s else (res, s)) = q at h1
  have h3 : p (if st = stSTATE_CONFLICT then Machine.conflictEv h c n q.2 else q.2) = p s := by
    split
    · exact (hp.conflictEv _ _ _ _).trans h1
    · exact h1
  generalize (if st = stSTATE_CONFLICT then Machine.conflictEv h c n q.2 else q.2) = s2 at h3
  have hout : ∀ b, p (putMbxOut b s2) = p s2 := fun b => by
    have hfold : ∀ (l : List Nat) (s : State), (∀ i ∈ l, i < 65536) → p (l.foldl (fun s i => s.setReg .MBX_OUT i (w32 (leAt b (4 * i) 4))) s) = p s := by
      intro l
      induction l with
      | nil => exact fun _ _ => rfl
      | cons i l ih =>
        intro s hl
        exact (ih _ fun j hj => hl j (List.mem_cons_of_mem i hj)).trans (hr s _ _ _ (by decide) (hl i List.mem_cons_self))
    exact (hr _ _ _ _ (by decide) (by decide)).trans (hfold _ s2 fun i hi => by rw [List.mem_range] at hi; omega)
  split
  · exact (hout _).trans h3
  · exact (hp.send _ _).trans ((hm _ _).trans h3)
  · exact (hp.coordAckSend _ _ _ _ _ _ _).trans h3
  · have h4 : ∀ q < 4, ∀ s st c, p (s.result .RGN_CMD_RESULT q st c) = p s := fun q hq s st c => hr s _ _ _ (by decide) (by omega)
    exact (h4 3 (by decide) _ _ _).trans ((h4 2 (by decide) _ _ _).trans ((h4 1 (by decide) _ _ _).trans ((h4 0 (by decide) _ _ _).trans h3)))
  · next q => exact (hr _ _ _ _ (by decide) (by omega)).trans h3
  · exact (hr _ _ _ _ (by decide) (by decide)).trans h3

end

end Sys2Proof.Machine
end

section
/-! PROOFS. The steps of start-up (R410, R411, R414, R419). -/

namespace Sys2Proof.Machine

variable {s : State} {r : StepReport}

/-! ### A step that is over -/

/-- What the course of the steps reads: the steps, and whether SU_CMD runs; and the memory, which no step before the last changes. -/
def suView (s : State) : SuSt × Memory × Bool := (s.su, s.mem, s.isBusy .SU_CMD_RESULT 0)

theorem offSays_suView : OffSays suView := by
  have hb := offSays_isBusy (r := .SU_CMD_RESULT) (u := 0) rfl (by decide)
  refine ⟨fun s c v n h1 h2 => ?_, fun _ _ => rfl, fun _ _ => rfl, fun _ _ => rfl, fun _ _ => rfl, fun _ _ => rfl, fun _ _ => rfl⟩
  unfold suView
  rw [count_su, count_mem, hb.count s c v n h1 h2]

theorem suView_eq {t : State} (h : suView t = suView s) : t.su = s.su ∧ t.mem = s.mem ∧ t.isBusy .SU_CMD_RESULT 0 = s.isBusy .SU_CMD_RESULT 0 :=
  ⟨congrArg Prod.fst h, congrArg (fun x => x.2.1) h, congrArg (fun x => x.2.2) h⟩

/-- The steps once step n is marked done. -/
def suDone (n : Nat) (x : SuSt) : SuSt :=
  { x with running := x.running.filter (· ≠ n), doneSteps := x.doneSteps.filter (· ≠ n) ++ [n], step := max x.step n, failed := false, cause := 0 }

theorem markDone_su (n : Nat) (s : State) : (markDone n s).su = suDone n s.su := by
  unfold markDone
  simp only
  split <;> rfl

theorem markDone_mem (n : Nat) (s : State) : (markDone n s).mem = s.mem := by
  unfold markDone
  simp only
  split <;> rfl

theorem markDone_quarts (n : Nat) (s : State) : (markDone n s).quarts = s.quarts := by
  unfold markDone
  simp only
  split <;> rfl

theorem markDone_answers (n : Nat) (h : s.isBusy .SU_CMD_RESULT 0 = true) : (markDone n s).reg .SU_CMD_RESULT 0 = 0 := by
  unfold markDone
  extract_lets x s1
  have hb : s1.isBusy .SU_CMD_RESULT 0 = true := h
  rw [if_pos hb]
  exact reg_result_self _ _ _ _ _

theorem autonomous_of_su {t : State} (h : t.su.wake = s.su.wake) (h1 : t.su.hosted = s.su.hosted) (h2 : t.su.stopped = s.su.stopped) :
    t.autonomous = s.autonomous := by
  unfold State.autonomous
  rw [h, h1, h2]

theorem markDone_autonomous (n : Nat) (s : State) : (markDone n s).autonomous = s.autonomous := by
  apply autonomous_of_su <;> rw [markDone_su] <;> rfl

/-- Where start-up does not go on by itself, a step that is over is marked done, and that is all. -/
theorem stepOver_by_command {t : State} {n : Nat} (hv : suView t = suView s) (ha : s.autonomous = false) (hr : s.su.running = [n]) :
    (stepOver n t).su.running = [] ∧ n ∈ (stepOver n t).su.doneSteps ∧ (stepOver n t).su.step = max s.su.step n ∧
      (stepOver n t).su.failed = false ∧ (stepOver n t).mem = s.mem ∧ (s.isBusy .SU_CMD_RESULT 0 = true → (stepOver n t).reg .SU_CMD_RESULT 0 = 0) := by
  obtain ⟨hsu, hmem, hbusy⟩ := suView_eq hv
  have hover : stepOver n t = markDone n t := by
    refine if_pos (.inl ?_)
    rw [markDone_autonomous, autonomous_of_su (congrArg SuSt.wake hsu) (congrArg SuSt.hosted hsu) (congrArg SuSt.stopped hsu), ha]
    rfl
  rw [hover, markDone_su, markDone_mem, hsu, hmem]
  refine ⟨?_, ?_, rfl, rfl, rfl, fun h => markDone_answers n (hbusy.trans h)⟩
  · simp [suDone, hr]
  · simp [suDone]

/-! ### What happens before a step is marked done -/

theorem startQuarter_keeps {α : Type} {p : State → α} (hp : OffSays p) (hc : ∀ s x, p { s with clk := x } = p s)
    (hq : ∀ s x, p { s with quarts := x } = p s) (up : Bool) (q : Quarter) (s : State) : p (startQuarter up q s) = p s := by
  unfold startQuarter
  split
  · exact (hp.traceResume _ _).trans ((hq _ _).trans (foldl_keeps p _ (fun s d => hc s _) _ s))
  · exact hq s _

@[irreducible] def quartersReported (r : StepReport) (s : State) : State :=
  (indices 4).foldl (fun s q => startQuarter (bit r.quartersUp.toNat q.val) q s) s

theorem quartersReported_keeps {α : Type} {p : State → α} (hp : OffSays p) (hc : ∀ s x, p { s with clk := x } = p s)
    (hq : ∀ s x, p { s with quarts := x } = p s) (r : StepReport) (s : State) : p (quartersReported r s) = p s := by
  unfold quartersReported
  exact foldl_keeps p _ (fun s q => startQuarter_keeps hp hc hq _ q s) _ s

theorem offSays_quart (q : Quarter) : OffSays fun s : State => s.quart q :=
  ⟨fun s _ _ _ _ _ => count_quart s _ _ _ q, fun _ _ => rfl, fun _ _ => rfl, fun _ _ => rfl, fun _ _ => rfl, fun _ _ => rfl, fun _ _ => rfl⟩

theorem startQuarter_quart_self (up : Bool) (q : Quarter) (s : State) : (startQuarter up q s).quart q = ⟨if up then 2 else 3, none⟩ := by
  unfold startQuarter
  cases up
  · exact upd_self _ _ _
  · exact ((offSays_quart q).traceResume _ _).trans (upd_self _ _ _)

theorem startQuarter_quart_ne (up : Bool) {q i : Quarter} (h : q ≠ i) (s : State) : (startQuarter up q s).quart i = s.quart i := by
  unfold startQuarter
  cases up
  · exact upd_ne _ _ h
  · exact ((offSays_quart i).traceResume _ _).trans (upd_ne _ _ h)

theorem quartersReported_quart (r : StepReport) (s : State) (q : Quarter) :
    ((quartersReported r s).quart q).st = if bit r.quartersUp.toNat q.val then 2 else 3 := by
  unfold quartersReported
  rw [foldl_indices State.quart _ (fun q _ => ⟨if bit r.quartersUp.toNat q.val then 2 else 3, none⟩)
    (fun s q => startQuarter_quart_self _ q s) (fun s q i h => startQuarter_quart_ne _ h s)]

theorem stepLimit_suView (n : Nat) (s : State) : suView (stepLimit n s) = suView s := advanceTo_keeps suView (fun _ _ => rfl) s _

theorem endPair_suView (s : State) : suView (endPair s) = suView s := by
  have hrole : ∀ r s, suView (setRole r s) = suView s := fun r s => offSays_suView.setRole (fun _ _ => rfl) (fun _ _ => rfl) r s
  have hpair : ∀ s f, suView (s.updPair f) = suView s := fun _ _ => rfl
  unfold endPair
  extract_lets s1
  have h1 : suView s1 = suView s := rfl
  clear_value s1
  split_ifs
  · exact h1
  · exact (offSays_suView.headOnActive (fun _ _ => rfl) (fun _ _ => rfl) _).trans ((hrole _ _).trans h1)
  · exact (hrole _ _).trans ((hpair _ _).trans h1)
  · exact (hrole _ _).trans ((hpair _ _).trans h1)
  · exact (hrole _ _).trans h1
  · exact (hrole _ _).trans ((hpair _ _).trans h1)

theorem startDom_suView (d : Fin 22) (n : Nat) (s : State) : suView (startDom d n s) = suView s := rfl

/-! ### The completion of each step -/

theorem stepDoneRun_of {n : Nat} {l : List Nat} (h : s.su.running = n :: l) : stepDoneRun r s = endStep n r s := by
  unfold stepDoneRun
  rw [h]

theorem startupStepDone_idle (hh : s.su.held = false) (h : s.su.running = []) : Completes (.startupStepDone r) s fun u => u = s := by
  refine completes_of_pumped (stepDoneRun r) rfl hh ?_
  unfold stepDoneRun
  rw [h]

theorem endStep_1 (h1 : s.clk.refStable = true) (h2 : s.pin.pwrfailN = true) (h3 : s.hw.pufOk = true) (h4 : r.ok = true) :
    endStep 1 r s = stepOver 1 s := (if_neg (by simp [h1, h2])).trans (if_pos (by simp [h3, h4]))

theorem endStep_4 (h1 : r.ok = true) (h2 : s.clk.rootLock = true) :
    endStep 4 r s = stepOver 4 (startDom 21 (domDiv 21) (startDom 20 (domDiv 20) s)) := if_pos (by simp [h1, h2])

theorem endStep_5 : endStep 5 r s = stepOver 5 (quartersReported r s) := by
  unfold endStep quartersReported
  rfl

theorem endStep_6 (h : s.kcoreEn = false ∨ 24 ≤ s.su.wave) : endStep 6 r s = stepOver 6 s := if_neg (by
  rcases h with h | h
  · simp [h]
  · simp [Nat.not_lt.2 h])

theorem endStep_7 (h : ∀ c : ChanId, (s.chan c).st ≠ 1) : endStep 7 r s = stepOver 7 s := if_neg (by simp [h])

theorem endStep_8 (h : ∀ c : CarrierId, (s.car c).st ≠ 2) : endStep 8 r s = stepOver 8 s := if_neg (by simp [h])

theorem endStep_9 : endStep 9 r s = stepOver 9 (if s.linksTraining then stepLimit (msec 1100) s else s) := rfl
theorem endStep_10 : endStep 10 r s = stepOver 10 (if s.spn.state = 2 then s else stepLimit (secs 2) s) := rfl
theorem endStep_11 : endStep 11 r s = stepOver 11 (endPair s) := rfl

theorem startupStepDone_by_command (hh : s.su.held = false) {n : Nat} (hr : s.su.running = [n]) (ha : s.autonomous = false)
    (hn : n = 1 ∧ s.clk.refStable = true ∧ s.pin.pwrfailN = true ∧ s.hw.pufOk = true ∧ r.ok = true ∨ n = 4 ∧ r.ok = true ∧ s.clk.rootLock = true ∨ n = 5 ∨
        n = 6 ∧ (s.kcoreEn = false ∨ 24 ≤ s.su.wave) ∨ n = 7 ∧ (∀ c : ChanId, (s.chan c).st ≠ 1) ∨ n = 8 ∧ (∀ c : CarrierId, (s.car c).st ≠ 2) ∨
        n = 9 ∨ n = 10 ∨ n = 11) :
    Completes (.startupStepDone r) s fun u =>
        u.su.running = [] ∧ n ∈ u.su.doneSteps ∧ u.su.step = max s.su.step n ∧ u.su.failed = false ∧ u.mem = s.mem ∧
        (s.isBusy .SU_CMD_RESULT 0 = true → u.reg .SU_CMD_RESULT 0 = 0) := by
  refine completes_of_pumped (stepDoneRun r) rfl hh ?_
  obtain ⟨t, hv, ht⟩ : ∃ t, suView t = suView s ∧ endStep n r s = stepOver n t := by
    rcases hn with ⟨rfl, h1, h2, h3, h4⟩ | ⟨rfl, h1, h2⟩ | rfl | ⟨rfl, h⟩ | ⟨rfl, h⟩ | ⟨rfl, h⟩ | rfl | rfl | rfl
    · exact ⟨s, rfl, endStep_1 h1 h2 h3 h4⟩
    · exact ⟨startDom 21 (domDiv 21) (startDom 20 (domDiv 20) s), rfl, endStep_4 h1 h2⟩
    · exact ⟨_, quartersReported_keeps offSays_suView (fun _ _ => rfl) (fun _ _ => rfl) r s, endStep_5⟩
    · exact ⟨s, rfl, endStep_6 h⟩
    · exact ⟨s, rfl, endStep_7 h⟩
    · exact ⟨s, rfl, endStep_8 h⟩
    · refine ⟨_, ?_, endStep_9⟩
      split_ifs
      · exact stepLimit_suView _ s
      · rfl
    · refine ⟨_, ?_, endStep_10⟩
      split_ifs
      · rfl
      · exact stepLimit_suView _ s
    · exact ⟨_, endPair_suView s, endStep_11⟩
  rw [stepDoneRun_of hr, ht]
  exact stepOver_by_command hv ha hr

/-! ### The step that follows -/

/-- The steps once step n has begun. -/
def suBegun (n : Nat) (x : SuSt) : SuSt := { x with running := x.running ++ [n], failed := false, pllTries := 0 }

/-- What the beginning of a step changes, the quarters apart. -/
structure OffBegin {α : Type} (p : State → α) : Prop where
  time : ∀ s x, p { s with time := x } = p s
  clk : ∀ s x, p { s with clk := x } = p s
  wave : ∀ s w a, p { s with su := { s.su with wave := w, waveAt := a } } = p s
  chans : ∀ s x, p { s with chans := x } = p s
  tier : ∀ s x, p { s with tier := x } = p s
  links : ∀ s x, p { s with links := x } = p s
  spn : ∀ s x, p { s with spn := x } = p s
  pair : ∀ s x, p { s with pair := x } = p s
  out : ∀ s x, p { s with out := x } = p s

section
variable {α : Type} {p : State → α} (hp : OffBegin p)
include hp

theorem OffBegin.startCores (qs : List Quarter) (s : State) : p (startCores qs s) = p s := by
  unfold Machine.startCores
  split
  · rfl
  · refine (hp.wave _ _ _).trans (foldl_keeps p _ (fun s q => ?_) qs s)
    split
    · exact hp.clk s _
    · rfl

theorem OffBegin.startChans (qs : List Quarter) (w : Bool) (s : State) : p (startChans qs w s) = p s :=
  foldl_keeps p _ (fun s c => by
    split
    · rfl
    · split <;> exact hp.chans s _) _ s

theorem OffBegin.startCars (s : State) : p (startCars s) = p s := by
  unfold Machine.startCars
  split
  · exact foldl_keeps p _ (fun s c => hp.tier s _) _ s
  · rfl

theorem OffBegin.startLinks (qs : List Quarter) (s : State) : p (startLinks qs s) = p s :=
  foldl_keeps p _ (fun s l => by
    split
    · rfl
    · split
      · split
        · exact hp.links s _
        · rfl
      · exact hp.links s _) _ s

theorem OffBegin.startChain (s : State) : p (startChain s) = p s := by
  have horiginate : ∀ s, p (originate 0 s) = p s := fun s => (hp.time _ _).trans ((hp.out _ _).trans (hp.spn s _))
  unfold Machine.startChain
  simp only
  split
  · exact (horiginate _).trans (hp.spn s _)
  · exact hp.spn s _

theorem OffBegin.startPair (s : State) : p (startPair s) = p s := by
  unfold Machine.startPair
  extract_lets s1
  have h1 : p s1 = p s := hp.pair s _
  clear_value s1
  split_ifs
  · exact h1
  · exact (hp.pair _ _).trans h1
  · exact (hp.pair _ _).trans h1

theorem OffBegin.beginStep {n : Nat} (hn : n ≠ 5) (s : State) : p (beginStep n s) = p { s with su := suBegun n s.su } := by
  unfold Machine.beginStep
  extract_lets x1 s1 qs
  have h1 : p s1 = p { s with su := suBegun n s.su } := hp.time { s with su := suBegun n s.su } _
  clear_value s1
  split
  · exact absurd rfl hn
  · exact (hp.startCores _ _).trans h1
  · exact (hp.startChans _ _ _).trans h1
  · exact (hp.startCars _).trans h1
  · exact (hp.startLinks _ _).trans h1
  · exact (hp.startChain _).trans h1
  · exact (hp.startPair _).trans h1
  · exact h1

end

/-- The steps, the waves of cores apart. -/
def stepsOf (x : SuSt) : SuSt := { x with wave := 0, waveAt := 0 }

theorem offBegin_steps : OffBegin fun s : State => (stepsOf s.su, s.mem, s.isBusy .SU_CMD_RESULT 0) := by
  constructor <;> intros <;> rfl

/-- A step that begins runs, and its beginning changes neither the memory nor the result of SU_CMD. -/
theorem beginStep_steps (n : Nat) (s : State) : stepsOf (beginStep n s).su = stepsOf (suBegun n s.su) ∧ (beginStep n s).mem = s.mem ∧
    (beginStep n s).isBusy .SU_CMD_RESULT 0 = s.isBusy .SU_CMD_RESULT 0 := by
  by_cases hn : n = 5
  · subst hn
    exact ⟨rfl, rfl, rfl⟩
  · have h := offBegin_steps.beginStep hn s
    exact ⟨congrArg Prod.fst h, congrArg (fun x => x.2.1) h, congrArg (fun x => x.2.2) h⟩

theorem beginStep_running (n : Nat) (s : State) : (beginStep n s).su.running = s.su.running ++ [n] :=
  congrArg SuSt.running (beginStep_steps n s).1

theorem beginStep_mem (n : Nat) (s : State) : (beginStep n s).mem = s.mem := (beginStep_steps n s).2.1

theorem beginStep_quart {n : Nat} (hn : n ≠ 5) (s : State) (q : Quarter) : (beginStep n s).quart q = s.quart q := by
  have hp : OffBegin fun s : State => s.quart q := by constructor <;> intros <;> rfl
  exact hp.beginStep hn s

theorem beginStep_5_quart (s : State) (q : Quarter) : ((beginStep 5 s).quart q).st = 1 := by
  have h : (beginStep 5 s).quart q = (s.quarts.map fun x => { x with st := 1 })[q.val] := rfl
  rw [h, Vector.getElem_map]

/-- Where start-up goes on by itself from power-on, the steps before 5 and those after 8 but the last are followed by the next. -/
theorem stepOver_next {t : State} {n : Nat} (ha : s.autonomous = true) (hw : s.su.wake = false) (hsu : t.su = s.su)
    (hn : n ≠ 5 ∧ n ≠ 6 ∧ n ≠ 7 ∧ n ≠ 8 ∧ n < 12) : stepOver n t = beginStep (n + 1) (markDone n t) := by
  obtain ⟨h5, h6, h7, h8, h12⟩ := hn
  have haut : (markDone n t).autonomous = true := by
    rw [markDone_autonomous, autonomous_of_su (congrArg SuSt.wake hsu) (congrArg SuSt.hosted hsu) (congrArg SuSt.stopped hsu), ha]
  have hwake : (markDone n t).su.wake = false := by rw [markDone_su, hsu]; exact hw
  refine (if_neg (by simp [haut]; omega)).trans ((if_neg (by simp [hwake])).trans ?_)
  split <;> trivial

theorem stepOver_next_running {t : State} {n : Nat} (ha : s.autonomous = true) (hw : s.su.wake = false) (hv : suView t = suView s)
    (hr : s.su.running = [n]) (hn : n ≠ 5 ∧ n ≠ 6 ∧ n ≠ 7 ∧ n ≠ 8 ∧ n < 12) :
    (stepOver n t).su.running = [n + 1] ∧ (stepOver n t).mem = s.mem := by
  obtain ⟨hsu, hmem, -⟩ := suView_eq hv
  rw [stepOver_next ha hw hsu hn, beginStep_running, beginStep_mem, markDone_su, markDone_mem, hsu, hmem]
  simp [suDone, hr]

section
variable (hh : s.su.held = false) (ha : s.autonomous = true) (hw : s.su.wake = false)
include hh ha hw

theorem startupStepDone_1 (hr : s.su.running = [1]) (h1 : s.clk.refStable = true) (h2 : s.pin.pwrfailN = true) (h3 : s.hw.pufOk = true)
    (h4 : r.ok = true) : Completes (.startupStepDone r) s fun u => u.su.running = [2] ∧ u.mem = s.mem := by
  refine completes_of_pumped (stepDoneRun r) rfl hh ?_
  rw [stepDoneRun_of hr, endStep_1 h1 h2 h3 h4]
  exact stepOver_next_running ha hw rfl hr (by decide)

theorem startupStepDone_4 (hr : s.su.running = [4]) (h1 : r.ok = true) (h2 : s.clk.rootLock = true) : Completes (.startupStepDone r) s fun u =>
    u.su.running = [5] ∧ ∀ q : Quarter, (u.quart q).st = 1 := by
  refine completes_of_pumped (stepDoneRun r) rfl hh ?_
  have hv : suView (startDom 21 (domDiv 21) (startDom 20 (domDiv 20) s)) = suView s := rfl
  rw [stepDoneRun_of hr, endStep_4 h1 h2]
  refine ⟨(stepOver_next_running ha hw hv hr (by decide)).1, fun q => ?_⟩
  rw [stepOver_next ha hw (suView_eq hv).1 (by decide)]
  exact beginStep_5_quart _ q

omit hw in
theorem startupStepDone_7 (hr : s.su.running = [7, 8]) (h : ∀ c : ChanId, (s.chan c).st ≠ 1) :
    Completes (.startupStepDone r) s fun u => u.su.running = [8] := by
  refine completes_of_pumped (stepDoneRun r) rfl hh ?_
  have hrun : (markDone 7 s).su.running = [8] := by
    rw [markDone_su]
    simp [suDone, hr]
  have hover : stepOver 7 s = markDone 7 s := by
    refine (if_neg ?_).trans ((if_neg ?_).trans (if_pos (by rw [hrun]; rfl)))
    · simp [markDone_autonomous, ha]
    · simp
  rw [stepDoneRun_of hr, endStep_7 h, hover, hrun]

omit hw in
theorem startupStepDone_8 (hr : s.su.running = [8]) (h : ∀ c : CarrierId, (s.car c).st ≠ 2) :
    Completes (.startupStepDone r) s fun u => u.su.running = [9] := by
  refine completes_of_pumped (stepDoneRun r) rfl hh ?_
  have hrun : (markDone 8 s).su.running = [] := by
    rw [markDone_su]
    simp [suDone, hr]
  have hover : stepOver 8 s = beginStep 9 (markDone 8 s) := by
    refine (if_neg ?_).trans ((if_neg ?_).trans (if_neg (by rw [hrun]; decide)))
    · simp [markDone_autonomous, ha]
    · simp
  rw [stepDoneRun_of hr, endStep_8 h, hover, beginStep_running, hrun]
  rfl

theorem startupStepDone_9 (hr : s.su.running = [9]) : Completes (.startupStepDone r) s fun u => u.su.running = [10] ∧ u.spn.state = 1 := by
  refine completes_of_pumped (stepDoneRun r) rfl hh ?_
  have hv : suView (if s.linksTraining then stepLimit (msec 1100) s else s) = suView s := by
    split
    · exact stepLimit_suView _ s
    · rfl
  rw [stepDoneRun_of hr, endStep_9]
  refine ⟨(stepOver_next_running ha hw hv hr (by decide)).1, ?_⟩
  rw [stepOver_next ha hw (suView_eq hv).1 (by decide)]
  generalize markDone 9 _ = t
  show (startChain _).spn.state = 1
  unfold startChain
  simp only
  split <;> rfl

theorem startupStepDone_10 (hr : s.su.running = [10]) : Completes (.startupStepDone r) s fun u => u.su.running = [11] := by
  refine completes_of_pumped (stepDoneRun r) rfl hh ?_
  have hv : suView (if s.spn.state = 2 then s else stepLimit (secs 2) s) = suView s := by
    split
    · rfl
    · exact stepLimit_suView _ s
  rw [stepDoneRun_of hr, endStep_10]
  exact (stepOver_next_running ha hw hv hr (by decide)).1

omit hh ha hw in
theorem markDone_kcoreEn (n : Nat) (s : State) : (markDone n s).kcoreEn = s.kcoreEn := by
  have h : (markDone n s).reg .FEATURES = s.reg .FEATURES := by
    unfold markDone
    extract_lets x s1
    split
    · exact reg_setReg_ne s1 _ (by decide)
    · rfl
  unfold State.kcoreEn State.features
  rw [h]

omit hh ha hw in
theorem quartersReported_kcoreEn (r : StepReport) (s : State) : (quartersReported r s).kcoreEn = s.kcoreEn :=
  quartersReported_keeps ((offSays_reg (r := .FEATURES) (u := 0) rfl (by decide)).map fun v => bit v.toNat 3) (fun _ _ => rfl) (fun _ _ => rfl) r s

omit hh in
/-- Step 6 follows step 5, or where there are no kernel cores 7 and 8 do. -/
theorem stepOver_5 {t : State} (hsu : t.su = s.su) : stepOver 5 t =
    if t.kcoreEn then beginStep 6 (markDone 5 t) else beginStep 8 (beginStep 7 (markDone 6 (markDone 5 t))) := by
  have haut : (markDone 5 t).autonomous = true := by
    rw [markDone_autonomous, autonomous_of_su (congrArg SuSt.wake hsu) (congrArg SuSt.hosted hsu) (congrArg SuSt.stopped hsu), ha]
  have hwake : (markDone 5 t).su.wake = false := by rw [markDone_su, hsu]; exact hw
  refine (if_neg (by simp [haut])).trans ((if_neg (by simp [hwake])).trans ?_)
  rw [← markDone_kcoreEn 5 t]
  rfl

theorem startupStepDone_5 (hr : s.su.running = [5]) : Completes (.startupStepDone r) s fun u =>
    u.su.running = (if s.kcoreEn then [6] else [7, 8]) ∧ ∀ q : Quarter, (u.quart q).st = if bit r.quartersUp.toNat q.val then 2 else 3 := by
  refine completes_of_pumped (stepDoneRun r) rfl hh ?_
  have hsu := (suView_eq (quartersReported_keeps offSays_suView (fun _ _ => rfl) (fun _ _ => rfl) r s)).1
  rw [stepDoneRun_of hr, endStep_5, stepOver_5 ha hw hsu, quartersReported_kcoreEn]
  have hquart : ∀ t : State, t.quarts = (quartersReported r s).quarts → ∀ q : Quarter, (t.quart q).st = if bit r.quartersUp.toNat q.val then 2 else 3 :=
    fun t h q => by
      rw [← quartersReported_quart r s q]
      exact congrArg (fun v : Vector Quart 4 => v[q].st) h
  have hdone : (markDone 5 (quartersReported r s)).su.running = [] := by
    rw [markDone_su, hsu]
    simp [suDone, hr]
  split_ifs
  · refine ⟨?_, fun q => ?_⟩
    · rw [beginStep_running, hdone]
      rfl
    · rw [beginStep_quart (by decide)]
      exact hquart _ (markDone_quarts 5 _) q
  · refine ⟨?_, fun q => ?_⟩
    · rw [beginStep_running, beginStep_running, markDone_su]
      simp [suDone, hdone]
    · rw [beginStep_quart (by decide), beginStep_quart (by decide)]
      exact hquart _ ((markDone_quarts 6 _).trans (markDone_quarts 5 _)) q

end

/-! ### The root PLL, and the waves of cores -/

theorem startupStepDone_4_again (hh : s.su.held = false) (hr : s.su.running = [4]) (hok : r.ok = false) (ht : s.su.pllTries < 2) :
    Completes (.startupStepDone r) s fun u => u = { s with su := { s.su with pllTries := s.su.pllTries + 1 } } := by
  refine completes_of_pumped (stepDoneRun r) rfl hh ?_
  rw [stepDoneRun_of hr]
  exact (if_neg (by simp [hok])).trans (if_pos ht)

/-- The steps once step n has failed. -/
def suFailed (n : Nat) (cause : Byte) (x : SuSt) : SuSt :=
  { x with running := x.running.filter (· ≠ n), failed := true, failStep := n, cause := cause, stopped := x.stopped || !x.hosted }

theorem failStep_su (n : Nat) (cause : Byte) (s : State) : (failStep n cause s).su = suFailed n cause s.su := by
  unfold failStep
  extract_lets x s1
  have h1 : s1.su = suFailed n cause s.su := logEv_su _ _
  clear_value s1
  split
  · exact h1
  · exact h1

theorem startupStepDone_4_failed (hh : s.su.held = false) (hr : s.su.running = [4]) (hok : r.ok = false) (ht : 2 ≤ s.su.pllTries) :
    Completes (.startupStepDone r) s fun u =>
      u.su.failed = true ∧ u.su.failStep = 4 ∧ u.su.cause = r.cause ∧ u.su.running = [] ∧ (s.su.wake = false → u.autonomous = false) := by
  refine completes_of_pumped (stepDoneRun r) rfl hh ?_
  have hrun : stepDoneRun r s = failStep 4 r.cause s :=
    (stepDoneRun_of hr).trans ((if_neg (by simp [hok])).trans (if_neg (by omega)))
  rw [hrun]
  unfold State.autonomous
  rw [failStep_su]
  refine ⟨rfl, rfl, rfl, ?_, fun hw => ?_⟩
  · simp [suFailed, hr]
  · simp only [suFailed, hw]
    cases s.su.hosted <;> simp

/-- One wave: the cores of its group that are OFF, of slices in use, are powered. -/
@[irreducible] def coresPowered (w : Nat) (s : State) : State :=
  (indices 144).foldl (fun s k =>
    if k.val / 6 = w ∧ (s.coreSt k).st = 0 ∧ s.sliceInUse (coreSlice k) then s.updCore k fun c => { c with st := 4, tile := none, since := s.time.nclk, cleared := true }
    else s) s

def waveBegun (s : State) : State := { s with su := { s.su with wave := s.su.wave + 1, waveAt := s.time.nclk } }

theorem coreWaveRun_eq (hw : s.su.wave < 24) (hk : s.kcoreEn = true) (h6 : 6 ∈ s.su.doneSteps) (h2 : s.pwr.st < 2) :
    ∃ x, (s.su.wave ≠ 0 → s.su.waveAt + usec 60 ≤ x.nclk) ∧ coreWaveRun s =
      if s.qOn (s.su.wave / 6) then coresPowered s.su.wave (waveBegun { s with time := x }) else waveBegun { s with time := x } := by
  obtain ⟨x, hle, hx⟩ : ∃ x, (s.su.wave ≠ 0 → s.su.waveAt + usec 60 ≤ x.nclk) ∧
      (if s.su.wave = 0 then s else advanceTo (s.su.waveAt + usec 60) s) = { s with time := x } := by
    by_cases h0 : s.su.wave = 0
    · exact ⟨s.time, fun h => absurd h0 h, if_pos h0⟩
    · obtain ⟨x, hle, hx⟩ := advanceTo_takes (s.su.waveAt + usec 60) s
      exact ⟨x, fun _ => hle, (if_neg h0).trans hx⟩
  refine ⟨x, hle, ?_⟩
  have hgo : ¬(24 ≤ s.su.wave ∨ (!s.kcoreEn) = true ∨ (!(s.su.running.contains 6 || s.su.doneSteps.contains 6)) = true ∨ 2 ≤ s.pwr.st) := by
    simp [hk, h6]
    omega
  unfold coreWaveRun
  rw [if_neg hgo, hx]
  unfold coresPowered
  cases hq : s.qOn (s.su.wave / 6)
  · exact if_pos (by simpa [State.qOn] using hq)
  · exact if_neg (by simpa [State.qOn] using hq)

theorem coresPowered_keeps {α : Type} (p : State → α) (hw : ∀ s x, p { s with work := x } = p s) (w : Nat) (s : State) :
    p (coresPowered w s) = p s := by
  unfold coresPowered
  exact foldl_keeps p _ (fun s k => by split_ifs <;> [exact hw s _; rfl]) _ s

/-- A core's state, and whether its slice is in use. -/
def coreUse (s : State) (k : CoreId) : Nat × Bool := ((s.core k).st, s.sliceInUse (coreSlice k))

theorem coresPowered_coreUse (w : Nat) (s : State) (k : CoreId) : coreUse (coresPowered w s) k =
    (if k.val / 6 = w ∧ (coreUse s k).1 = 0 ∧ (coreUse s k).2 = true then 4 else (coreUse s k).1, (coreUse s k).2) := by
  unfold coresPowered
  refine foldl_indices coreUse _ (fun k x => (if k.val / 6 = w ∧ x.1 = 0 ∧ x.2 = true then 4 else x.1, x.2)) (fun s k => ?_) (fun s i j hij => ?_) s k
  · by_cases hc : k.val / 6 = w ∧ (s.coreSt k).st = 0 ∧ s.sliceInUse (coreSlice k) = true
    · rw [if_pos hc]
      refine Prod.ext ?_ rfl
      show ((s.updCore k _).core k).st = if _ then 4 else (s.core k).st
      rw [updCore_core_self]
      exact (if_pos hc).symm
    · rw [if_neg hc]
      exact Prod.ext (if_neg hc).symm rfl
  · split_ifs
    · refine Prod.ext ?_ rfl
      show ((s.updCore i _).core j).st = (s.core j).st
      rw [updCore_core_ne _ _ hij]
    · rfl

theorem coresPowered_st (w : Nat) (s : State) (k : CoreId) : ((coresPowered w s).core k).st =
    if k.val / 6 = w ∧ (s.core k).st = 0 ∧ s.sliceInUse (coreSlice k) = true then 4 else (s.core k).st :=
  congrArg Prod.fst (coresPowered_coreUse w s k)

theorem coreWave_completes (hh : s.su.held = false) (hw : s.su.wave < 24) (hk : s.kcoreEn = true) (h6 : 6 ∈ s.su.doneSteps) (h2 : s.pwr.st < 2) :
    Completes .coreWave s fun u =>
      u.su.wave = s.su.wave + 1 ∧ (s.su.wave ≠ 0 → s.su.waveAt + usec 60 ≤ u.time.nclk) ∧
      ∀ k : CoreId, (u.coreSt k).st =
        if s.qOn (s.su.wave / 6) = true ∧ k.val / 6 = s.su.wave ∧ (s.coreSt k).st = 0 ∧ s.sliceInUse (coreSlice k) = true then 4 else (s.coreSt k).st := by
  refine completes_of_pumped coreWaveRun rfl hh ?_
  obtain ⟨x, hle, hrun⟩ := coreWaveRun_eq hw hk h6 h2
  rw [hrun]
  by_cases hq : s.qOn (s.su.wave / 6) = true
  · rw [if_pos hq]
    refine ⟨?_, fun h0 => ?_, fun k => ?_⟩
    · rw [coresPowered_keeps State.su (fun _ _ => rfl)]
      rfl
    · rw [coresPowered_keeps State.time (fun _ _ => rfl)]
      exact hle h0
    · refine (coresPowered_st _ _ k).trans ?_
      simp only [hq, true_and]
      rfl
  · rw [if_neg hq]
    refine ⟨rfl, hle, fun k => ?_⟩
    rw [if_neg fun h => hq h.1]
    rfl

end Sys2Proof.Machine
end

section
open Sys2Proof Sys2Proof.Machine

/-- Settles O51: each step by the lemma about it; by command it is marked done, by itself the next one begins (R410, R411, R419). -/
theorem startupStepsRun : Obligations.StartupStepsRun := by
  intro s r hh
  refine ⟨startupStepDone_idle hh, fun n hr ha hn => startupStepDone_by_command hh hr ha hn, fun ha hw => ⟨startupStepDone_1 hh ha hw,
    startupStepDone_4 hh ha hw, startupStepDone_5 hh ha hw, startupStepDone_7 hh ha, startupStepDone_8 hh ha, startupStepDone_9 hh ha hw,
    startupStepDone_10 hh ha hw⟩, fun hr hok => ⟨startupStepDone_4_again hh hr hok, startupStepDone_4_failed hh hr hok⟩, coreWave_completes hh⟩
end

section
/-! PROOFS. What the flash tier's own bookkeeping changes, and the opening of pool service (R410 step 12, R414). -/

namespace Sys2Proof.Machine

variable {s : State} {r : StepReport}

/-- A part of the state that the flash tier's bookkeeping leaves alone. -/
structure OffTier {α : Type} (p : State → α) : Prop where
  regs : ∀ s x, p { s with regs := x } = p s
  cnt64 : ∀ s x, p { s with cnt64 := x } = p s
  log : ∀ s x, p { s with log := x } = p s
  out : ∀ s x, p { s with out := x } = p s
  tier : ∀ s x, p { s with tier := x } = p s

/-- Both branches keep a part. -/
theorem ite_keeps {α β : Type} {p : α → β} {x : β} (c : Prop) [Decidable c] {a b : α} (ha : p a = x) (hb : p b = x) : p (if c then a else b) = x := by
  split <;> assumption

section
variable {α : Type} {p : State → α} (hp : OffTier p)
include hp

theorem OffTier.count (r : Reg) (u n : Nat) (s : State) : p (s.count r u n) = p s := count_keeps p hp.regs hp.cnt64 s r u n

theorem OffTier.logEv (e : Ev) (s : State) : p (logEv e s) = p s := logEv_keeps p hp.regs hp.cnt64 hp.log hp.out s e

theorem OffTier.updFull (s : State) : p (updFull s) = p s := updFull_keeps p hp.tier s

theorem OffTier.logAppend (w : Nat) (s : State) : p (logAppend w s) = p s := by
  unfold Machine.logAppend
  split
  · extract_lets n s1
    have h1 : p s1 = p s := hp.tier s _
    exact ite_keeps _ ((hp.tier s1 _).trans h1) h1
  · rfl

theorem OffTier.pageOff (c : CarrierId) (q key : Nat) (j : JPage) (s : State) : p (pageOff c q key j s).2 = p s := by
  unfold Machine.pageOff
  simp only
  split
  · rfl
  · split
    · split
      · exact hp.tier s _
      · rfl
    · rfl

theorem OffTier.remirrorFrom (c : CarrierId) (s : State) : p (remirrorFrom c s) = p s := by
  unfold Machine.remirrorFrom
  extract_lets s1
  have h1 : p s1 = p s := hp.tier s _
  clear_value s1
  refine (foldl_keeps p _ (fun s e => ?_) _ _).trans h1
  have hpages : ∀ (l : List JPage) (a : List JPage × State), p (l.foldl (fun (a : List JPage × State) x =>
      let (p', s') := Machine.pageOff c (e.1 / 16) e.1 x a.2
      (a.1 ++ [p'], s')) a).2 = p a.2 := by
    intro l
    induction l with
    | nil => exact fun _ => rfl
    | cons j l ih => exact fun a => (ih _).trans (hp.pageOff _ _ _ _ _)
  exact (hp.tier _ _).trans (hpages _ _)

theorem OffTier.dropErase (c : CarrierId) (s : State) : p (dropErase c s) = p s := (hp.updFull _).trans (hp.tier s _)

theorem OffTier.carDone (c : CarrierId) (st : Byte) (s : State) : p (carDone c st s) = p s := by
  unfold Machine.carDone
  split
  · exact hp.regs s _
  · rfl

theorem OffTier.carFail (c : CarrierId) (cause : Nat) (s : State) : p (carFail c cause s) = p s := by
  unfold Machine.carFail
  simp only
  split
  · rfl
  · have h : p (Machine.carDone c stRETRY_BUSY (carEv c .fault cause (s.updCar c fun k => { k with st := 7, wasFailed := true, waiting := false, holdAt := none }))) = p s :=
      (hp.carDone _ _ _).trans ((hp.logEv _ _).trans (hp.tier s _))
    split
    · exact (hp.remirrorFrom _ _).trans ((hp.dropErase _ _).trans h)
    · exact h

theorem OffTier.retire (c : CarrierId) (sb : Nat) (s : State) : p (retire c sb s) = p s := by
  have hworn : ∀ s, p (checkWorn c s) = p s := fun s => by
    unfold checkWorn
    simp only
    split
    · exact (hp.logEv _ _).trans (hp.tier s _)
    · rfl
  unfold Machine.retire
  extract_lets k used
  split
  · exact hp.carFail _ _ s
  · exact (hworn _).trans ((hp.logAppend _ _).trans ((hp.tier _ _).trans (hp.tier s _)))

theorem OffTier.releaseSb (i : Nat) (s : State) : p (releaseSb i s) = p s := by
  unfold Machine.releaseSb
  extract_lets b limit out s1 s2 er s3
  split
  · rfl
  · have h1 : p s1 = p s := hp.tier s _
    have h2 : p s2 = p s1 := by
      unfold s2
      split
      · exact (hp.count _ _ _ _).trans (hp.tier s1 _)
      · rfl
    have h3 : p s3 = p s := (hp.tier s2 _).trans (h2.trans h1)
    clear_value s3
    exact (hp.updFull _).trans ((foldl_keeps p _ (fun s c => hp.retire c i s) _ _).trans h3)

theorem OffTier.dropTier (t : TenantId) (s : State) : p (dropTier t s) = p s :=
  (foldl_keeps p _ (fun s i => hp.releaseSb i s) _ _).trans (hp.tier s _)

theorem OffTier.attach (c : CarrierId) (s : State) : p (attach c s) = p s :=
  (hp.logEv _ _).trans ((hp.regs _ _).trans ((hp.regs _ _).trans (hp.tier s _)))

theorem OffTier.autoAttach (s : State) : p (autoAttach s) = p s := by
  unfold Machine.autoAttach
  split
  · split
    · exact hp.attach _ s
    · rfl
  · rfl

theorem OffTier.placeCarriers (s : State) : p (placeCarriers s) = p s := by
  unfold Machine.placeCarriers
  extract_lets acc x0 x1 s1 s2 s3
  have h1 : p s1 = p s := by
    unfold s1
    split
    · rfl
    · split
      · exact (foldl_keeps p _ (fun s c => hp.tier s _) _ _).trans (hp.tier s _)
      · exact foldl_keeps p _ (fun s c => ite_keeps _ (hp.tier s _) rfl) _ s
  clear_value s1
  have h2 : p s2 = p s := (hp.tier s1 _).trans h1
  clear_value s2
  have h3 : p s3 = p s := by
    unfold s3
    split
    · exact (hp.attach _ _).trans h2
    · exact h2
  clear_value s3
  exact (hp.autoAttach s3).trans h3

end

/-- A part of the state that the start of pool service leaves alone: of Heartwood it reads the smallest SEQ at most. -/
structure OffService {α : Type} (p : State → α) : Prop extends OffTier p where
  hw : ∀ s x, x.minSeq = s.hw.minSeq → p { s with hw := x } = p s
  slices : ∀ s x, p { s with slices := x } = p s
  chans : ∀ s x, p { s with chans := x } = p s
  tags : ∀ s x, p { s with tags := x } = p s
  tagc : ∀ s x, p { s with tagc := x } = p s
  pins : ∀ s x, p { s with pins := x } = p s
  pool : ∀ s x, p { s with pool := x } = p s
  work : ∀ s x, p { s with work := x } = p s
  rgn : ∀ s x, p { s with rgn := x } = p s
  plog : ∀ s x, p { s with plog := x } = p s
  free : ∀ s x, p { s with free := x } = p s
  mem : ∀ s x, p { s with mem := x } = p s
  poison : ∀ s x, p { s with poison := x } = p s
  wave : ∀ s w a, p { s with su := { s.su with wave := w, waveAt := a } } = p s

section
variable {α : Type} {p : State → α} (hp : OffService p)
include hp

theorem OffService.putImage (b n : Nat) (t : TenantId) (s : State) : p (putImage b n t s).2 = p s := by
  have h : ∀ x y, p { s with mem := x, poison := y } = p s := fun x y => (hp.poison { s with mem := x } y).trans (hp.mem s x)
  exact h _ _

theorem OffService.poisonBlock (b : Nat) (s : State) : p (poisonBlock b s) = p s := by
  have h : ∀ x y, p { s with mem := x, poison := y } = p s := fun x y => (hp.poison { s with mem := x } y).trans (hp.mem s x)
  exact (hp.poison _ _).trans (h _ _)

theorem OffService.ephKey (t : TenantId) (s : State) : p (ephKey t s) = p s := by
  unfold Machine.ephKey
  split
  · rfl
  · exact (hp.hw _ _ (by rfl)).trans (hp.free s _)

theorem OffService.nvWrite (k : Fin 26) (s : State) : p (nvWrite k s).2 = p s := by
  unfold Machine.nvWrite
  extract_lets n
  split
  · exact hp.hw s _ (by rfl)
  · split
    · exact (hp.plog _ _).trans (hp.hw s _ (by rfl))
    · rfl

theorem OffService.keyCheckpoint (t : TenantId) (s : State) : p (keyCheckpoint t s) = p s := ite_keeps _ (hp.tier s _) rfl

theorem OffService.destroyKey (t : TenantId) (s : State) : p (destroyKey t s) = p s :=
  (hp.keyCheckpoint _ _).trans (hp.hw s _ (by rfl))

theorem OffService.dropKeys (t : TenantId) (s : State) : p (dropKeys t s) = p s := by
  have h := hp.nvWrite (keySlotNo t) s
  unfold Machine.dropKeys
  refine (hp.hw _ _ (by rfl)).trans ?_
  split
  · rfl
  · split
    · next t' hn =>
      rw [hn] at h
      exact (hp.destroyKey _ _).trans h
    · next t' hn =>
      rw [hn] at h
      exact (hp.logEv _ _).trans h

theorem OffService.wavesFor (i : Fin 16) (s : State) : p (wavesFor i s) = p s := ite_keeps _ (hp.wave s _ _) rfl

theorem OffService.clearSlice (i : Fin 16) (a : Option TenantId) (s : State) : p (clearSlice i a s) = p s := by
  unfold Machine.clearSlice
  extract_lets owner live s1 t1 x2 s2 s3 s4 s5
  have h1 : p s1 = p s := by
    have h : ∀ u x y, p { u with regs := x, cnt64 := y } = p u := fun u x y => (hp.cnt64 { u with regs := x } y).trans (hp.regs u x)
    exact (h _ _ _).trans (hp.pool s _)
  clear_value s1
  have h2 : p s2 = p s1 := by
    have h : ∀ c x y z, p { s1 with tagc := c, tags := x, pins := y, pool := z } = p s1 := fun c x y z =>
      (hp.pool { s1 with tagc := c, tags := x, pins := y } z).trans
        ((hp.pins { s1 with tagc := c, tags := x } y).trans ((hp.tags { s1 with tagc := c } x).trans (hp.tagc s1 c)))
    exact h _ _ _ _
  clear_value s2
  have h3 : p s3 = p s2 := hp.chans s2 _
  clear_value s3
  have h4 : p s4 = p s3 := foldl_keeps p _ (fun s k => ite_keeps _ (hp.work s _) rfl) _ s3
  clear_value s4
  have h5 : p s5 = p s := (hp.slices s4 _).trans (h4.trans (h3.trans (h2.trans h1)))
  clear_value s5
  exact ite_keeps _ ((hp.wavesFor i s5).trans h5) h5

theorem OffService.startSlice (i : Fin 16) (s : State) : p (startSlice i s) = p s := by
  unfold Machine.startSlice
  simp only
  split
  · exact (hp.slices _ _).trans (hp.ephKey _ s)
  · split
    · exact (hp.clearSlice _ _ _).trans (hp.ephKey _ s)
    · exact ite_keeps _ rfl (hp.clearSlice _ _ s)

theorem OffService.startSlices (s : State) : p (startSlices s) = p s := by
  unfold Machine.startSlices
  extract_lets refused gone s1 s2
  have h1 : p s1 = p s := foldl_keeps p _ (fun s t => hp.logEv _ s) _ s
  clear_value s1
  have h2 : p s2 = p s1 := foldl_keeps p _ (fun s i => by
    refine ite_keeps _ ((hp.slices _ _).trans (hp.ephKey _ s)) (ite_keeps _ rfl (hp.startSlice i s))) _ s1
  clear_value s2
  exact (foldl_keeps p _ (fun s t => (hp.dropTier t _).trans (hp.dropKeys t s)) _ s2).trans (h2.trans h1)

theorem OffService.updGen (n : Nat) (f : GenSt → GenSt) (s : State) : p (s.updGen n f) = p s := by
  unfold State.updGen State.updRegion
  split
  · exact hp.rgn s _
  · rfl

theorem OffService.loadOwnerMaps (s : State) : p (loadOwnerMaps s) = p s :=
  foldl_keeps p _ (fun s _ => ite_keeps _ (foldl_keeps p _ (fun s _ => hp.putImage _ _ _ s) _ s) rfl) _ s

theorem OffService.readCheckpoint (w : Bool) (s : State) : p (readCheckpoint w s) = p s := by
  unfold Machine.readCheckpoint
  extract_lets s1
  have h1 : p s1 = p s := by
    refine ite_keeps _ ((hp.placeCarriers _).trans ?_) rfl
    exact ite_keeps _ rfl (ite_keeps _ (hp.tier s _) ((hp.tier _ _).trans (hp.tier s _)))
  clear_value s1
  exact ite_keeps _ h1 ((hp.loadOwnerMaps _).trans ((hp.tier _ _).trans h1))

theorem OffService.restoreAll (s : State) : p (restoreAll s) = p s := by
  have hpinned : ∀ c s, p (restorePinned c s) = p s := fun c s => foldl_keeps p _ (fun s x => by
    split
    · exact ite_keeps _ (hp.putImage _ _ _ s) (hp.poisonBlock _ s)
    · rfl) _ s
  exact foldl_keeps p _ (fun s c => ite_keeps _ (hpinned c s) rfl) _ s

theorem OffService.resumeGens (s : State) : p (resumeGens s) = p s :=
  foldl_keeps p _ (fun s _ => ite_keeps _ (hp.updGen _ _ s) rfl) _ s

end

/-- The steps and the role. -/
def courseOf (s : State) : SuSt × Nat := (stepsOf s.su, s.pair.role)

theorem offService_course : OffService courseOf :=
  { regs := fun _ _ => rfl, cnt64 := fun _ _ => rfl, log := fun _ _ => rfl, out := fun _ _ => rfl, tier := fun _ _ => rfl, hw := fun _ _ _ => rfl,
    slices := fun _ _ => rfl, chans := fun _ _ => rfl, tags := fun _ _ => rfl, tagc := fun _ _ => rfl, pins := fun _ _ => rfl,
    pool := fun _ _ => rfl, work := fun _ _ => rfl, rgn := fun _ _ => rfl, plog := fun _ _ => rfl, free := fun _ _ => rfl,
    mem := fun _ _ => rfl, poison := fun _ _ => rfl, wave := fun _ _ _ => rfl }

/-! ### Step 12 -/

/-- The steps once service opens. -/
def suOpened (x : SuSt) : SuSt := { x with locked := true, service := true, warm := false }

/-- A device alone opens service, and its steps and role stay. -/
theorem openService_alone (hw : s.su.wake = false) (hr : s.pair.role = 7) : courseOf (openService s) = (stepsOf (suOpened s.su), 7) := by
  have hp := offService_course
  unfold openService
  extract_lets warm x1 s1 s2 s3 s4 s5 x5 x6
  have h1 : courseOf s1 = (stepsOf (suOpened s.su), 7) := congrArg (Prod.mk (stepsOf (suOpened s.su))) hr
  have hrole : s1.pair.role = 7 := hr
  clear_value s1
  have h2 : courseOf s2 = courseOf s1 :=
    (hp.readCheckpoint warm _).trans (ite_keeps _ rfl (hp.startSlices s1))
  clear_value s2
  have h3 : courseOf s3 = courseOf s2 := ite_keeps _ rfl (hp.restoreAll s2)
  clear_value s3
  have hready : courseOf (s3.updPair fun p => { p with ready := true }) = courseOf s3 := rfl
  have h4 : courseOf s4 = (stepsOf (suOpened s.su), 7) := (hp.resumeGens _).trans (hready.trans (h3.trans (h2.trans h1)))
  clear_value s4
  have hrole4 : s4.pair.role = 7 := congrArg Prod.snd h4
  have h5 : s5 = s4 := if_neg (by rw [hrole4]; decide)
  clear_value s5
  have hwake : s5.su.wake = false := by
    rw [h5]
    exact (congrArg (fun x => SuSt.wake x.1) h4).trans hw
  rw [hrole]
  show courseOf (if s5.su.wake = true then _ else s5) = _
  rw [if_neg (by rw [hwake]; decide), h5]
  exact h4

/-- Step 12 is under way. -/
def lastStep (s : State) : State := { s with su := { s.su with doneSteps := s.su.doneSteps ++ [12] } }

theorem startupStepDone_12_alone (hh : s.su.held = false) (hr : s.su.running = [12]) (hw : s.su.wake = false) (h7 : s.pair.role = 7) :
    Completes (.startupStepDone r) s fun u =>
      u.su.service = true ∧ u.su.locked = true ∧ u.su.step = max s.su.step 12 ∧ u.su.running = [] ∧ u.pair.role = 7 := by
  refine completes_of_pumped (stepDoneRun r) rfl hh ?_
  have hrun : stepDoneRun r s = markDone 12 (openService (lastStep s)) := stepDoneRun_of hr
  have h := openService_alone (s := lastStep s) hw h7
  rw [hrun]
  generalize openService (lastStep s) = t at h
  have hsu : stepsOf t.su = stepsOf (suOpened (lastStep s).su) := congrArg Prod.fst h
  have hrole : (markDone 12 t).pair.role = t.pair.role := by
    unfold markDone
    exact ite_keeps (p := fun s : State => s.pair.role) _ rfl rfl
  rw [markDone_su, hrole]
  refine ⟨congrArg SuSt.service hsu, congrArg SuSt.locked hsu, ?_, ?_, congrArg Prod.snd h⟩
  · exact congrArg (fun n => max n 12) (congrArg SuSt.step hsu :)
  · have hrunning : t.su.running = [12] := (congrArg SuSt.running hsu).trans hr
    simp [suDone, hrunning]

/-! ### A device that stands by -/

theorem powerDown_mem (k : Bool) (s : State) : (powerDown k s).mem = [] := by
  unfold powerDown
  extract_lets s1 s2 s3 s4 s5
  clear_value s5
  rfl

theorem powerDown_su (k : Bool) (s : State) : (powerDown k s).su = s.su := by
  have hq : OffQuarter State.su := by constructor <;> intro _ _ <;> rfl
  unfold powerDown
  extract_lets s1 s2 s3 s4 s5
  have h1 : s1.su = s.su := foldl_keeps State.su _ (fun s l => ite_keeps _ rfl
    (dropLink_keeps State.su (fun _ _ => rfl) (fun _ _ => rfl) (fun _ _ => rfl) (fun _ _ => rfl) l _ _ s)) _ s
  clear_value s1
  have h2 : s2.su = s1.su := by
    unfold s2
    exact foldl_keeps State.su _ (fun s d => updDom_su s _ _) _ s1
  clear_value s2
  have h3 : s3.su = s2.su := by
    unfold s3
    exact foldl_keeps State.su _ (fun s c => updChan_su s _ _) _ s2
  clear_value s3
  have h4 : s4.su = s3.su := by
    unfold s4
    exact foldl_keeps State.su _ (fun s c => updCar_su s _ _) _ s3
  clear_value s4
  have h5 : s5.su = s4.su := foldl_keeps State.su _ (fun s q => hq.quarterRegs _ q s) _ s4
  clear_value s5
  exact h5.trans (h4.trans (h3.trans (h2.trans h1)))

def standby (s : State) : State :=
  { s with pwr := { s.pwr with st := 4, trans := none }, pair := { s.pair with seize := false, window := none, handback := false },
           head := ⟨false, none, none, 0, false⟩ }

theorem becomeSteady_eq (s : State) : becomeSteady s = standby (setRole 2 (powerDown true s)) := rfl

theorem becomeSteady_effect (s : State) : (becomeSteady s).su = s.su ∧ (becomeSteady s).mem = [] ∧ (becomeSteady s).pwr.st = 4 ∧
    (becomeSteady s).pair.role = 2 := by
  have hsu : OffTalk State.su := by constructor <;> intro _ _ <;> rfl
  have hmem : OffTalk State.mem := by constructor <;> intro _ _ <;> rfl
  rw [becomeSteady_eq]
  have h1 : (setRole 2 (powerDown true s)).su = s.su := (hsu.setRole (fun _ _ => rfl) (fun _ _ => rfl) 2 _).trans (powerDown_su true s)
  have h2 : (setRole 2 (powerDown true s)).mem = [] := (hmem.setRole (fun _ _ => rfl) (fun _ _ => rfl) 2 _).trans (powerDown_mem true s)
  have h3 : (setRole 2 (powerDown true s)).pair.role = 2 := by rw [setRole_pair]
  generalize setRole 2 (powerDown true s) = t at h1 h2 h3
  exact ⟨h1, h2, rfl, h3⟩

theorem judgeReady_su (s : State) : (judgeReady s).su = s.su := ite_keeps (p := State.su) _ (logEv_su _ _) rfl

theorem startupStepDone_12_steady (hh : s.su.held = false) (hr : s.su.running = [12]) (h2 : s.pair.role = 2) :
    Completes (.startupStepDone r) s fun u =>
      u.su.service = true ∧ u.su.locked = true ∧ u.pwr.st = 4 ∧ u.pair.role = 2 ∧ u.mem = [] := by
  refine completes_of_pumped (stepDoneRun r) rfl hh ?_
  have hopen : openService (lastStep s) = becomeSteady (judgeReady { lastStep s with su := suOpened (lastStep s).su }) := by
    unfold openService
    extract_lets warm x1 s1
    have hrole : s1.pair.role = 2 := h2
    have h1 : s1 = { lastStep s with su := suOpened (lastStep s).su } := rfl
    clear_value s1
    rw [hrole, ← h1]
    rfl
  have hrun : stepDoneRun r s = markDone 12 (openService (lastStep s)) := stepDoneRun_of hr
  rw [hrun, hopen]
  obtain ⟨hsu, hmem, hpwr, hrole⟩ := becomeSteady_effect (judgeReady { lastStep s with su := suOpened (lastStep s).su })
  rw [judgeReady_su] at hsu
  generalize becomeSteady (judgeReady { lastStep s with su := suOpened (lastStep s).su }) = t at hsu hmem hpwr hrole ⊢
  have hkeep : ∀ {α : Type} (p : State → α), (∀ s x y, p { s with su := x, regs := y } = p s) → p (markDone 12 t) = p t := by
    intro α p hp
    unfold markDone
    extract_lets x s1
    exact ite_keeps _ (hp t s1.su _) (hp t s1.su t.regs)
  rw [markDone_su, hkeep (fun s => s.pwr.st) (fun _ _ _ => rfl), hkeep (fun s => s.pair.role) (fun _ _ _ => rfl), hkeep State.mem (fun _ _ _ => rfl), hsu]
  exact ⟨rfl, rfl, hpwr, hrole, hmem⟩

/-! ### Steps by command -/

theorem suCmd_runs {op : Nat} {f : State → State} (hb : s.isBusy .SU_CMD_RESULT 0 = false) (ha : s.autonomous = false) :
    suCmd op f s = f s := (if_neg (by simp [hb])).trans (if_neg (by simp [ha]))

theorem suCmd_conflicts {op : Nat} {f : State → State} (hb : s.isBusy .SU_CMD_RESULT 0 = false) (ha : s.autonomous = true) :
    suCmd op f s = suConflict s := (if_neg (by simp [hb])).trans (if_pos ha)

theorem suConflict_effect (s : State) : (suConflict s).su = s.su ∧ (suConflict s).reg .SU_CMD_RESULT 0 = w32 (s.su.step % 16 * 256 + 3) ∧
    (suConflict s).mem = s.mem := by
  unfold suConflict
  exact ⟨conflict_su _ _ _ _ _ _, reg_result_self _ _ _ _ _, conflict_mem _ _ _ _ _ _⟩

theorem cmdStep_begins {n : Nat} (hn : n ≠ 6 ∨ s.kcoreEn = true) : (cmdStep n s).su.running = s.su.running ++ [n] ∧
    (cmdStep n s).su.step = s.su.step ∧ (cmdStep n s).su.failed = false ∧ (cmdStep n s).isBusy .SU_CMD_RESULT 0 = true ∧ (cmdStep n s).mem = s.mem := by
  have hk : (s.busy .SU_CMD_RESULT 0).kcoreEn = s.kcoreEn :=
    congrArg (fun v : W32 => bit v.toNat 3) (reg_setReg_ne s (r := .SU_CMD_RESULT) (q := .FEATURES) (u := 0) (v := 0) _ (by decide))
  have hrun : cmdStep n s = beginStep n (s.busy .SU_CMD_RESULT 0) := if_neg (by
    rintro ⟨h6, hoff⟩
    rcases hn with h | h
    · exact h h6
    · rw [hk, h] at hoff
      exact Bool.noConfusion hoff)
  obtain ⟨hsu, hmem, hbusy⟩ := beginStep_steps n (s.busy .SU_CMD_RESULT 0)
  rw [hrun]
  exact ⟨(congrArg SuSt.running hsu :), (congrArg SuSt.step hsu :), (congrArg SuSt.failed hsu :), hbusy.trans (isBusy_busy s .SU_CMD_RESULT 0), hmem⟩

section
variable {v : BitVec 4} (hh : s.su.held = false) (hb : s.isBusy .SU_CMD_RESULT 0 = false)
include hh hb

theorem suCmdRun_runs (ha : s.autonomous = false) (hr : s.su.running = []) (hv : v.toNat = s.su.step + 1) (h12 : v.toNat ≤ 12)
    (h6 : v.toNat ≠ 6 ∨ s.kcoreEn = true) : Completes (.suCmdRun v) s fun u =>
      u.su.running = [v.toNat] ∧ u.su.step = s.su.step ∧ u.isBusy .SU_CMD_RESULT 0 = true ∧ u.mem = s.mem := by
  refine completes_of_pumped (suRun v) rfl hh ?_
  have hrun : suRun v s = cmdStep v.toNat s := (suCmd_runs hb ha).trans (if_pos ⟨hv, h12, hr⟩)
  obtain ⟨h1, h2, -, h3, h4⟩ := cmdStep_begins h6
  rw [hrun]
  exact ⟨by rw [h1, hr]; rfl, h2, h3, h4⟩

theorem suCmdRun_out_of_order (ha : s.autonomous = false) (hv : v.toNat ≠ s.su.step + 1) : Completes (.suCmdRun v) s fun u =>
    u.su = s.su ∧ u.reg .SU_CMD_RESULT 0 = w32 (s.su.step % 16 * 256 + 3) ∧ u.mem = s.mem := by
  refine completes_of_pumped (suRun v) rfl hh ?_
  have hrun : suRun v s = suConflict s := (suCmd_runs hb ha).trans (if_neg fun h => hv h.1)
  rw [hrun]
  exact suConflict_effect s

theorem suCmdRun_autonomous (ha : s.autonomous = true) : Completes (.suCmdRun v) s fun u =>
    u.su = s.su ∧ u.reg .SU_CMD_RESULT 0 = w32 (s.su.step % 16 * 256 + 3) := by
  refine completes_of_pumped (suRun v) rfl hh ?_
  have hrun : suRun v s = suConflict s := suCmd_conflicts hb ha
  rw [hrun]
  exact ⟨(suConflict_effect s).1, (suConflict_effect s).2.1⟩

theorem suCmdRetry_runs (ha : s.autonomous = false) (hf : s.su.failed = true) (hv : v.toNat = s.su.failStep) (h6 : v.toNat ≠ 6 ∨ s.kcoreEn = true) :
    Completes (.suCmdRetry v) s fun u =>
      u.su.running = s.su.running ++ [v.toNat] ∧ u.su.failed = false ∧ u.isBusy .SU_CMD_RESULT 0 = true := by
  refine completes_of_pumped (suRetry v) rfl hh ?_
  have hrun : suRetry v s = cmdStep v.toNat s := (suCmd_runs hb ha).trans (if_pos ⟨hf, hv⟩)
  obtain ⟨h1, -, h2, h3, -⟩ := cmdStep_begins h6
  rw [hrun]
  exact ⟨h1, h2, h3⟩

theorem suCmdRetry_not_failed (ha : s.autonomous = false) (hf : s.su.failed = false) : Completes (.suCmdRetry v) s fun u =>
    u.su = s.su ∧ u.reg .SU_CMD_RESULT 0 = w32 (s.su.step % 16 * 256 + 3) := by
  refine completes_of_pumped (suRetry v) rfl hh ?_
  have hrun : suRetry v s = suConflict s := (suCmd_runs hb ha).trans (if_neg (by simp [hf]))
  rw [hrun]
  exact ⟨(suConflict_effect s).1, (suConflict_effect s).2.1⟩

end

end Sys2Proof.Machine
end

section
open Sys2Proof Sys2Proof.Machine

/-- Settles O52: step 12 opens service or leaves the device in standby, and SU_CMD runs the next step or the failed one (R410, R414). -/
theorem hostedStartupByCommand : Obligations.HostedStartupByCommand := by
  intro s r v hh
  refine ⟨fun hr hw => ⟨startupStepDone_12_alone hh hr hw, startupStepDone_12_steady hh hr⟩, fun hb ha => ⟨suCmdRun_runs hh hb ha,
    suCmdRun_out_of_order hh hb ha, suCmdRetry_runs hh hb ha, suCmdRetry_not_failed hh hb ha⟩, suCmdRun_autonomous hh⟩
end

section
/-! PROOFS. Configuration blanks: the copy that start-up takes, staging, and blank pages by message (R403 to R409). -/

namespace Sys2Proof.Machine

variable {s : State}

/-! ### Bytes written in a row -/

theorem get_foldl_put_range' (b : Bytes) (o k : Nat) (m : Sparse Byte) (i : Nat) :
    (((List.range' k b.length).zip b).foldl (fun m x => m.put 0xFF (o + x.1) x.2) m).get 0xFF i =
      if o + k ≤ i ∧ i < o + k + b.length then b.getD (i - o - k) 0 else m.get 0xFF i := by
  induction b generalizing k m with
  | nil => simp
  | cons x b ih =>
    rw [List.length_cons, List.range'_succ, List.zip_cons_cons, List.foldl_cons, ih]
    by_cases h0 : i = o + k
    · subst h0
      rw [if_neg (by omega), if_pos (by omega), Sparse.get_put_self]
      simp
    · rw [Sparse.get_put_ne _ _ _ _ h0]
      by_cases h1 : o + k ≤ i ∧ i < o + k + (b.length + 1)
      · rw [if_pos (by omega), if_pos h1, show i - o - k = (i - o - (k + 1)) + 1 by omega, List.getD_cons_succ]
      · rw [if_neg (by omega), if_neg h1]

/-- Pages go to the spare copy at the staging offset. -/
theorem get_foldl_put (b : Bytes) (o : Nat) (m : Sparse Byte) (i : Nat) :
    (((List.range b.length).zip b).foldl (fun m x => m.put 0xFF (o + x.1) x.2) m).get 0xFF i =
      if o ≤ i ∧ i < o + b.length then b.getD (i - o) 0 else m.get 0xFF i := by
  rw [List.range_eq_range', get_foldl_put_range']
  rfl

theorem getD_toLe {k : Nat} (n : Nat) {j : Nat} (h : j < k) : (toLe k n).getD j 0 = byte (n / 256 ^ j) := by
  induction k generalizing n j with
  | zero => omega
  | succ k ih =>
    cases j with
    | zero => simp [toLe, byte]
    | succ j =>
      rw [toLe, List.getD_cons_succ, ih _ (by omega), Nat.div_div_eq_div_mul, ← Nat.pow_succ']

/-- The bytes of words, one after another. -/
theorem getD_flatMap_toLe (f : Nat → Nat) (k n : Nat) {j : Nat} (h : j < 4 * n) :
    ((List.range' k n).flatMap fun i => toLe 4 (f i)).getD j 0 = byte (f (k + j / 4) / 256 ^ (j % 4)) := by
  induction n generalizing k j with
  | zero => omega
  | succ n ih =>
    rw [List.range'_succ, List.flatMap_cons]
    by_cases hj : j < 4
    · rw [List.getD_append _ _ _ _ (by rw [length_toLe]; exact hj), getD_toLe _ hj, Nat.div_eq_of_lt hj, Nat.mod_eq_of_lt hj, Nat.add_zero]
    · rw [List.getD_append_right _ _ _ _ (by rw [length_toLe]; omega), length_toLe, ih (k + 1) (by omega),
        show k + 1 + (j - 4) / 4 = k + j / 4 by omega, show (j - 4) % 4 = j % 4 by omega]

theorem length_flatMap_toLe (f : Nat → Nat) (l : List Nat) : (l.flatMap fun i => toLe 4 (f i)).length = 4 * l.length := by
  induction l with
  | nil => rfl
  | cons i l ih =>
    rw [List.flatMap_cons, List.length_append, length_toLe, ih, List.length_cons]
    omega

/-! ### The two copies -/

theorem setCopy_blank (c : Nat) (m : Sparse Byte) (s : State) : (s.setCopy c m).blank =
    if c = 0 then { s.blank with a := m } else { s.blank with b := m } := by
  unfold State.setCopy
  split <;> rfl

/-- The spare copy is not the one in use. -/
theorem copy_setCopy_spare (m : Sparse Byte) (s : State) : (s.setCopy s.spareCopy m).copy s.spareCopy = m ∧
    (s.setCopy s.spareCopy m).copy s.blank.src = s.copy s.blank.src := by
  unfold State.spareCopy State.copy
  rw [setCopy_blank]
  by_cases h : s.blank.src = 0
  · rw [h]
    exact ⟨rfl, rfl⟩
  · rw [show 1 - s.blank.src = 0 by omega, if_pos rfl, if_pos rfl, if_neg h, if_neg h]
    exact ⟨rfl, rfl⟩

theorem putPages_effect (b : Bytes) (s : State) : (putPages b s).blank.stageOff = s.blank.stageOff + b.length ∧
    (putPages b s).copy s.blank.src = s.copy s.blank.src ∧
    ∀ i, ((putPages b s).copy s.spareCopy).get 0xFF i =
      if s.blank.stageOff ≤ i ∧ i < s.blank.stageOff + b.length then b.getD (i - s.blank.stageOff) 0 else (s.copy s.spareCopy).get 0xFF i := by
  unfold putPages
  extract_lets c o s1
  obtain ⟨hspare, huse⟩ := copy_setCopy_spare (((List.range b.length).zip b).foldl (fun m x => m.put 0xFF (o + x.1) x.2) (s.copy c)) s
  have h1 : s1.copy s.spareCopy = ((List.range b.length).zip b).foldl (fun m x => m.put 0xFF (o + x.1) x.2) (s.copy c) := hspare
  have h2 : s1.copy s.blank.src = s.copy s.blank.src := huse
  clear_value s1
  refine ⟨rfl, h2, fun i => ?_⟩
  rw [← get_foldl_put b s.blank.stageOff (s.copy s.spareCopy) i]
  exact congrArg (fun m => Sparse.get 0xFF m i) h1

/-! ### Staging by register -/

section
variable (hh : s.su.held = false) (hb : s.isBusy .BLK_CMD_RESULT 0 = false)
include hb

theorem blkCmd_runs (code : Nat) (f : State → State) : blkCmd code f s = f s := if_neg (by simp [hb])

include hh

theorem stageBegin_answers (h2 : s.blank.bstate < 2) : Answers .stageBegin s fun t =>
    t.blank.bstate = 1 ∧ t.blank.stageOff = 0 ∧ t.blank.staged = false ∧ t.copy s.spareCopy = [] ∧ t.copy s.blank.src = s.copy s.blank.src ∧
        t.blank.live = s.blank.live ∧ t.reg .BLK_CMD_RESULT 0 = 0 := by
  refine answers_of_live (blkCmd 1 stageBeginRun) rfl hh ?_
  rw [blkCmd_runs hb]
  unfold stageBeginRun
  rw [if_neg (by omega)]
  extract_lets c s1 x s2
  obtain ⟨hspare, huse⟩ := copy_setCopy_spare [] s
  have h1 : s1.copy s.spareCopy = [] := hspare
  have h3 : s1.copy s.blank.src = s.copy s.blank.src := huse
  have hlive : s1.blank.live = s.blank.live := by
    unfold s1
    rw [setCopy_blank]
    split <;> rfl
  clear_value s1
  exact ⟨rfl, rfl, rfl, h1, h3, hlive, reg_result_self _ _ _ _ _⟩

omit hb in
theorem blkConflict_answers {c : Instr} {f : State → State} (hc : exec c s = live f s) (hf : f s = blkConflict s) : Answers c s fun t =>
    t.blank = s.blank ∧ t.reg .BLK_CMD_RESULT 0 = w32 (s.blank.bstate % 16 * 256 + 3) := by
  refine answers_of_live f hc hh ?_
  rw [hf]
  exact ⟨by rw [settle_blank, blkConflict, conflict_blank], reg_result_self _ _ _ _ _⟩

theorem stageBegin_conflict_answers (h2 : 2 ≤ s.blank.bstate) : Answers .stageBegin s fun t =>
    t.blank = s.blank ∧ t.reg .BLK_CMD_RESULT 0 = w32 (s.blank.bstate % 16 * 256 + 3) :=
  blkConflict_answers hh rfl ((blkCmd_runs hb _ _).trans (if_pos h2))

theorem putWin_answers (h1 : s.blank.bstate = 1) : Answers .putWin s fun t =>
    t.blank.stageOff = s.blank.stageOff + 256 ∧ t.reg .BLK_CMD_RESULT 0 = 0 ∧ t.copy s.blank.src = s.copy s.blank.src ∧
        ∀ i : Nat, (t.copy s.spareCopy).get 0xFF i =
          if s.blank.stageOff ≤ i ∧ i < s.blank.stageOff + 256 then
            byte ((s.reg .BLK_WIN ((i - s.blank.stageOff) / 4)).toNat / 256 ^ ((i - s.blank.stageOff) % 4))
          else (s.copy s.spareCopy).get 0xFF i := by
  refine answers_of_live (blkCmd 4 putWinRun) rfl hh ?_
  have hlen : ((List.range 64).flatMap fun i => toLe 4 (s.reg .BLK_WIN i).toNat).length = 256 := length_flatMap_toLe _ _
  have hget : ∀ j, j < 256 → ((List.range 64).flatMap fun i => toLe 4 (s.reg .BLK_WIN i).toNat).getD j 0 =
      byte ((s.reg .BLK_WIN (j / 4)).toNat / 256 ^ (j % 4)) := fun j hj => by
    rw [List.range_eq_range', getD_flatMap_toLe (fun i => (s.reg .BLK_WIN i).toNat) 0 64 (by omega), Nat.zero_add]
  have hrun : blkCmd 4 putWinRun s =
      (putPages ((List.range 64).flatMap fun i => toLe 4 (s.reg .BLK_WIN i).toNat) s).result .BLK_CMD_RESULT 0 stOK :=
    (blkCmd_runs hb _ _).trans (if_neg (by simp [h1]))
  rw [hrun]
  generalize ((List.range 64).flatMap fun i => toLe 4 (s.reg .BLK_WIN i).toNat) = b at hlen hget ⊢
  obtain ⟨hoff, huse, hspare⟩ := putPages_effect b s
  rw [hlen] at hoff hspare
  refine ⟨hoff, reg_result_self _ _ _ _ _, huse, fun i => (hspare i).trans ?_⟩
  split_ifs with h
  · exact hget _ (by omega)
  · rfl

/-! ### STAGE_COMMIT and OWNER_CLAIM -/

omit hh hb in
theorem stageFail_blank (cause i : Nat) (s : State) : (stageFail cause i s).blank.failCause = cause ∧ (stageFail cause i s).blank.failRec = i ∧
    (stageFail cause i s).blank.bstate = 0 ∧ (stageFail cause i s).blank.staged = s.blank.staged := by
  refine ⟨rfl, rfl, rfl, ?_⟩
  have h : (blankEv (max 1 s.su.step) cause i s.spareCopy (setCause s.spareCopy cause s)).blank.staged = s.blank.staged := by
    rw [blankEv, logEv_blank]
    exact ite_keeps (p := fun s : State => s.blank.staged) _ rfl rfl
  exact h

theorem stageCommit_invalid_answers {readable : Bool} {sigs : List SigRef} (h1 : s.blank.bstate = 1) {x : Nat × Nat}
    (hx : checkCopy s s.spareCopy readable sigs s.su.hosted = .inl x) : Answers (.stageCommit readable sigs) s fun t =>
      t.reg .BLK_CMD_RESULT 0 = w32 stBAD_DESCRIPTOR.toNat ∧ t.blank.failCause = x.1 ∧ t.blank.failRec = x.2 ∧ t.blank.bstate = 0 ∧
        t.blank.staged = s.blank.staged := by
  refine answers_of_live (blkCmd 2 (stageCommitRun readable sigs)) rfl hh ?_
  have hrun : stageCommitRun readable sigs s = (stageFail x.1 x.2 s).result .BLK_CMD_RESULT 0 stBAD_DESCRIPTOR := by
    refine (if_neg (by simp [h1])).trans ?_
    rw [hx]
  rw [blkCmd_runs hb, hrun]
  exact ⟨reg_result_self _ _ _ _ _, stageFail_blank x.1 x.2 s⟩

section
variable {readable : Bool} {sigs : List SigRef} (h1 : s.blank.bstate = 1) {b : BlankHdr} {recs : List Rec}
  (hx : checkCopy s s.spareCopy readable sigs s.su.hosted = .inr (b, recs))
include h1 hx

theorem stageCommit_stale_answers (hu : s.blank.inUse = true) (hseq : b.seq ≤ s.blank.seq.toNat) : Answers (.stageCommit readable sigs) s fun t =>
    t.reg .BLK_CMD_RESULT 0 = w32 stSTALE_GENERATION.toNat ∧ t.blank.bstate = 0 ∧ t.blank.staged = s.blank.staged := by
  refine answers_of_live (blkCmd 2 (stageCommitRun readable sigs)) rfl hh ?_
  have hrun : stageCommitRun readable sigs s =
      ({ s with blank := { s.blank with bstate := 0 } } : State).result .BLK_CMD_RESULT 0 stSTALE_GENERATION := by
    refine (if_neg (by simp [h1])).trans ?_
    rw [hx]
    exact if_pos ⟨hu, hseq⟩
  rw [blkCmd_runs hb, hrun]
  exact ⟨reg_result_self _ _ _ _ _, rfl, rfl⟩

theorem stageCommit_staged_answers (hu : s.blank.inUse = false ∨ s.blank.seq.toNat < b.seq) (hp : s.partChanges ((recIn recs 8 0).getD []) = false) :
    Answers (.stageCommit readable sigs) s fun t =>
      t.reg .BLK_CMD_RESULT 0 = 0 ∧ t.blank.staged = true ∧ t.blank.stagedSeq = w32 b.seq ∧ t.blank.bstate = 0 ∧ t.blank.a = s.blank.a ∧
        t.blank.b = s.blank.b ∧ t.blank.live = s.blank.live ∧ t.hw = s.hw := by
  refine answers_of_live (blkCmd 2 (stageCommitRun readable sigs)) rfl hh ?_
  let u := setCause s.spareCopy 0 s
  have hrun : stageCommitRun readable sigs s =
      ({ u with blank := { u.blank with staged := true, stagedSeq := w32 b.seq, bstate := 0 } } : State).result .BLK_CMD_RESULT 0 stOK := by
    refine (if_neg (by simp [h1])).trans ?_
    rw [hx]
    refine (if_neg ?_).trans (if_neg (by simp [hp]))
    rintro ⟨h, hle⟩
    rcases hu with hu | hu
    · rw [hu] at h
      exact Bool.noConfusion h
    · exact absurd hle (Nat.not_le.2 hu)
  have hu : (u.blank.a, u.blank.b, u.blank.live, u.hw) = (s.blank.a, s.blank.b, s.blank.live, s.hw) :=
    ite_keeps (p := fun u : State => (u.blank.a, u.blank.b, u.blank.live, u.hw)) _ rfl rfl
  rw [blkCmd_runs hb, hrun]
  clear_value u
  simp only [Prod.mk.injEq] at hu
  obtain ⟨ha, hb', hl, hw⟩ := hu
  exact ⟨reg_result_self _ _ _ _ _, rfl, rfl, rfl, ha, hb', hl, hw⟩

end

theorem ownerClaim_answers {x : BlankHdr × List Rec} (h1 : s.su.hosted = true) (h2 : allZero s.hw.ownerDig = true) (h3 : s.blank.staged = true)
    (hx : s.copyRecs s.spareCopy = some x) (hn : (nvWrite 25 s).1 = true) : Answers .ownerClaim s fun t =>
      t.hw.ownerDig = sha384 (cut ((recIn x.2 1 0).getD []) 0 97) ∧ t.reg .BLK_CMD_RESULT 0 = 0 ∧ t.hw.keys = s.hw.keys := by
  refine answers_of_live (blkCmd 3 ownerClaimRun) rfl hh ?_
  have hkeys : (nvWrite 25 s).2.hw.keys = s.hw.keys := by
    unfold nvWrite
    extract_lets n
    split_ifs
    · rfl
    · rw [plogEv_hw]
    · rfl
  have hrun : ownerClaimRun s = ({ (nvWrite 25 s).2 with hw := { (nvWrite 25 s).2.hw with
      ownerDig := sha384 (cut ((recIn x.2 1 0).getD []) 0 97) } } : State).result .BLK_CMD_RESULT 0 stOK := by
    refine (if_neg (by simp [h1, h2, h3])).trans ?_
    rw [hx]
    generalize nvWrite 25 s = y at hn ⊢
    obtain ⟨ok, t⟩ := y
    cases hn
    rfl
  rw [blkCmd_runs hb, hrun]
  exact ⟨rfl, reg_result_self _ _ _ _ _, hkeys⟩

end

/-! ### Blank pages by message -/

section
variable (hh : s.su.held = false) (m : MgtMsg)
include hh

theorem blkPut_stranger_answers (hm : s.mayPut m.src = false) : Answers (.blkPut m) s fun t =>
    t.blank = s.blank ∧ ∃ q : Msg, t.Sent q ∧ q.op = 0x15 ∧ q.dst = m.src ∧ q.tag = m.tag ∧ q.status = stNO_ACCESS := by
  refine answers_of_live (blkPutRx m) rfl hh ?_
  have hrun : blkPutRx m s = blkAckSend m stNO_ACCESS 0 s := if_pos (by simp [hm])
  rw [hrun]
  exact ⟨by rw [settle_blank, blkAckSend, send_blank], _, settle_sent (send_sent s _), rfl, rfl, rfl, rfl⟩

section
variable (hm : s.mayPut m.src = true) (h0 : leAt m.payload 1 3 = 0) (hlen : m.payload.length = 264) (ht : leAt m.payload 0 1 = 0x3F)
include hm h0 hlen ht

omit hh in
theorem blkPutRx_here : blkPutRx m s = blkPutHere m s :=
  (if_neg (by simp [hm])).trans ((if_neg (by simp [h0, hlen])).trans (if_pos (.inl ht)))

theorem blkPut_answers (h1 : s.blank.bstate = 1) (ho : leAt m.payload 4 4 = s.blank.stageOff) : Answers (.blkPut m) s fun t =>
    t.blank.stageOff = s.blank.stageOff + 256 ∧
      (∀ i : Nat, i < 256 → (t.copy s.spareCopy).get 0xFF (s.blank.stageOff + i) = m.payload.getD (8 + i) 0) ∧
      ∃ q : Msg, t.Sent q ∧ q.op = 0x15 ∧ q.dst = m.src ∧ q.tag = m.tag ∧ q.status = 0 := by
  refine answers_of_live (blkPutRx m) rfl hh ?_
  have hrun : blkPutRx m s = blkAckSend m stOK 0 (putPages (m.payload.drop 8) s) :=
    (blkPutRx_here m hm h0 hlen ht).trans (if_neg (by simp [h1, ho]))
  obtain ⟨hoff, -, hspare⟩ := putPages_effect (m.payload.drop 8) s
  have hdrop : (m.payload.drop 8).length = 256 := by rw [List.length_drop, hlen]
  rw [hdrop] at hoff hspare
  rw [hrun]
  have hblank : (settle (blkAckSend m stOK 0 (putPages (m.payload.drop 8) s))).blank = (putPages (m.payload.drop 8) s).blank := by
    rw [settle_blank, blkAckSend, send_blank]
  refine ⟨by rw [hblank, hoff], fun i hi => ?_, _, settle_sent (send_sent _ _), rfl, rfl, rfl, rfl⟩
  rw [State.copy, hblank]
  refine (hspare _).trans ?_
  rw [if_pos (by omega), Nat.add_sub_cancel_left]
  simp [List.getD_eq_getElem?_getD]

theorem blkPut_wrong_offset_answers (ho : leAt m.payload 4 4 ≠ s.blank.stageOff) : Answers (.blkPut m) s fun t =>
    t.blank = s.blank ∧ ∃ q : Msg, t.Sent q ∧ q.op = 0x15 ∧ q.dst = m.src ∧ q.status = stSTATE_CONFLICT := by
  refine answers_of_live (blkPutRx m) rfl hh ?_
  have hrun : blkPutRx m s = blkAckSend m stSTATE_CONFLICT s.blank.bstate
      (logEv ⟨1, .refused, max 1 s.su.step, 0, stSTATE_CONFLICT, s.blank.bstate, 0xFF, []⟩ s) :=
    (blkPutRx_here m hm h0 hlen ht).trans (if_pos (.inr ho))
  rw [hrun]
  exact ⟨by rw [settle_blank, blkAckSend, send_blank, logEv_blank], _, settle_sent (send_sent _ _), rfl, rfl, rfl⟩

end

theorem blkAck_answers {x : W16 × W32 × W16 × W16} (hx : (s.mbx.puts.find? fun x => x.1 = m.src && x.2.1 = w32 (leAt m.payload 0 4)) = some x) :
    Answers (.blkAck m) s fun t =>
      t.mbx.puts = s.mbx.puts.erase x ∧ t.blank = s.blank ∧
        ∃ q : Msg, t.Sent q ∧ q.op = 0x15 ∧ q.dst = x.2.2.1 ∧ q.tag = x.2.2.2 ∧ q.payload = m.payload := by
  refine answers_of_live (blkAckRx m) rfl hh ?_
  unfold blkAckRx
  extract_lets off
  rw [show (s.mbx.puts.find? fun x => x.1 = m.src && x.2.1 = off) = some x from hx]
  refine ⟨?_, ?_, _, settle_sent (send_sent _ _), rfl, rfl, rfl, rfl⟩
  · rw [settle_mbx, send_mbx]
  · rw [settle_blank, send_blank]

end

/-! ### The copy that start-up takes -/

theorem floor_of_readHdr {h : Bytes} {b : BlankHdr} (hb : readHdr h = some b) : b.floor < 2 ^ 32 := by
  unfold readHdr at hb
  simp only at hb
  split at hb
  · cases hb
    exact leAt_lt h 0x10 4
  · cases hb

/-- A copy that passes every check has a header that was read. -/
theorem floor_lt_of_checkCopy {c : Nat} {readable : Bool} {sigs : List SigRef} {claim : Bool} {b : BlankHdr} {recs : List Rec}
    (h : checkCopy s c readable sigs claim = .inr (b, recs)) : b.floor < 2 ^ 32 := by
  unfold checkCopy at h
  simp only at h
  split at h
  · cases h
  · split at h
    · cases h
    · next hdr hread =>
      have hb : hdr = b := by
        repeat' split at h
        all_goals first
          | exact congrArg Prod.fst (Sum.inr.inj h)
          | cases h
      exact floor_of_readHdr (hb ▸ hread)

section
variable {r : StepReport} (hh : s.su.held = false) (hr : s.su.running = [2])

theorem setCause_blank_rest (c n : Nat) (s : State) : (setCause c n s).blank.live = s.blank.live ∧ (setCause c n s).blank.a = s.blank.a ∧
    (setCause c n s).blank.b = s.blank.b := by
  have h := ite_keeps (p := fun s : State => (s.blank.live, s.blank.a, s.blank.b)) (x := (s.blank.live, s.blank.a, s.blank.b)) (c = 0)
    (a := { s with blank := { s.blank with causeA := n, validA := n = 0 } }) (b := { s with blank := { s.blank with causeB := n, validB := n = 0 } }) rfl rfl
  simp only [Prod.mk.injEq] at h
  exact h

theorem checkCopy_unreadable (c : Nat) (sigs : List SigRef) (claim : Bool) (s : State) : checkCopy s c false sigs claim = .inl (1, 0) := rfl

/-- With no copy readable, both fail. -/
theorem selectCopy_unreadable (sigs : List SigRef) (s : State) : ∃ t, selectCopy 0 sigs (tryOrder s 0) s = (none, t) ∧
    t.blank.causeA = 1 ∧ t.blank.causeB = 1 ∧ t.blank.live = s.blank.live := by
  have horder : tryOrder s 0 = [0, 1] := by simp [tryOrder]
  have hblank : ∀ a b c d s, (blankEv a b c d s).blank = s.blank := fun a b c d s => logEv_blank _ _
  rw [horder]
  exact ⟨blankEv 2 1 0 1 (setCause 1 1 (blankEv 2 1 0 0 (setCause 0 1 s))), rfl, by rw [hblank]; exact (congrArg BlankSt.causeA (hblank 2 1 0 0 (setCause 0 1 s)) :),
    by rw [hblank]; rfl, by rw [hblank]; exact (congrArg BlankSt.live (hblank 2 1 0 0 (setCause 0 1 s)) :)⟩

theorem failStep_blank (n : Nat) (cause : Byte) (s : State) : (failStep n cause s).blank = s.blank := by
  unfold failStep
  extract_lets x s1
  have h1 : s1.blank = s.blank := logEv_blank _ _
  clear_value s1
  exact ite_keeps (p := State.blank) _ h1 h1

/-- What follows step 2 changes neither the blank nor what Heartwood holds, nor the steps that are done. -/
theorem stepOver_2 (s : State) : (stepOver 2 s).blank = s.blank ∧ (stepOver 2 s).hw = s.hw ∧ 2 ∈ (stepOver 2 s).su.doneSteps := by
  have hdone : (markDone 2 s).blank = s.blank ∧ (markDone 2 s).hw = s.hw ∧ 2 ∈ (markDone 2 s).su.doneSteps := by
    have h : ∀ {α : Type} (p : State → α), (∀ s x y, p { s with su := x, regs := y } = p s) → p (markDone 2 s) = p s := by
      intro α p hp
      unfold markDone
      extract_lets x s1
      exact ite_keeps _ (hp s s1.su _) (hp s s1.su s.regs)
    refine ⟨h State.blank fun _ _ _ => rfl, h State.hw fun _ _ _ => rfl, ?_⟩
    rw [markDone_su]
    simp [suDone]
  have hnext : stepOver 2 s = markDone 2 s ∨ stepOver 2 s = beginStep 3 (markDone 2 s) := by
    by_cases h1 : (!(markDone 2 s).autonomous) = true ∨ 12 ≤ 2
    · exact .inl (if_pos h1)
    · exact .inr ((if_neg h1).trans (if_neg fun h => absurd h.2 (by decide)))
  rcases hnext with h | h
  · rw [h]
    exact hdone
  · rw [h]
    exact hdone

include hh hr

theorem startupStepDone_2_unreadable (h0 : r.readable = 0) : Completes (.startupStepDone r) s fun u =>
    u.su.failed = true ∧ u.su.failStep = 2 ∧ u.blank.causeA = 1 ∧ u.blank.causeB = 1 ∧ u.blank.live = s.blank.live := by
  refine completes_of_pumped (stepDoneRun r) rfl hh ?_
  obtain ⟨t, ht, ha, hb, hl⟩ := selectCopy_unreadable r.sigs s
  have hrun : stepDoneRun r s = failStep 2 r.cause t := by
    refine (stepDoneRun_of hr).trans ?_
    show (match selectCopy r.readable r.sigs (tryOrder s r.readable) s with | (some t, _) => stepOver 2 t | (none, t) => failStep 2 r.cause t) = _
    rw [h0, ht]
  rw [hrun, failStep_su, failStep_blank]
  exact ⟨rfl, rfl, ha, hb, hl⟩

/-- The state in which a copy is used (R403, R405). -/
def copyTaken (c : Nat) (b : BlankHdr) (recs : List Rec) (s : State) : State :=
  { s with blank := { s.blank with src := c, seq := w32 b.seq, inUse := true, live := recs, digest := sha384 (s.copyBytes c b.total) } }

theorem startupStepDone_2_taken {c : Nat} {l : List Nat} {b : BlankHdr} {recs : List Rec} (ho : tryOrder s r.readable = c :: l)
    (hc : checkCopy s c (r.readable.toNat.testBit c) r.sigs false = .inr (b, recs)) : Completes (.startupStepDone r) s fun u =>
      u.blank.src = c ∧ u.blank.seq = w32 b.seq ∧ u.blank.live = recs ∧ u.hw.minSeq.toNat = max s.hw.minSeq.toNat (b.floor % 2 ^ 32) ∧
          2 ∈ u.su.doneSteps := by
  refine completes_of_pumped (stepDoneRun r) rfl hh ?_
  have hfloor := floor_lt_of_checkCopy hc
  have hrun : stepDoneRun r s = stepOver 2 (copyTaken c b recs (adopt b recs (setCause c 0 s))) := by
    refine (stepDoneRun_of hr).trans ?_
    show (match selectCopy r.readable r.sigs (tryOrder s r.readable) s with | (some t, _) => stepOver 2 t | (none, t) => failStep 2 r.cause t) = _
    rw [ho, selectCopy, hc]
    rfl
  have hhw : (setCause c 0 s).hw = s.hw := ite_keeps (p := State.hw) _ rfl rfl
  have hseq : (copyTaken c b recs (adopt b recs (setCause c 0 s))).hw.minSeq.toNat = max s.hw.minSeq.toNat (b.floor % 2 ^ 32) := by
    show (if (setCause c 0 s).hw.minSeq.toNat < b.floor then w32 b.floor else (setCause c 0 s).hw.minSeq).toNat = _
    rw [hhw, Nat.mod_eq_of_lt hfloor]
    split
    · rw [w32, BitVec.toNat_ofNat, Nat.mod_eq_of_lt hfloor]
      omega
    · omega
  obtain ⟨hblank, hw2, hdone⟩ := stepOver_2 (copyTaken c b recs (adopt b recs (setCause c 0 s)))
  rw [hrun, hblank, hw2]
  exact ⟨rfl, rfl, rfl, hseq, hdone⟩

end

end Sys2Proof.Machine
end

section
open Sys2Proof Sys2Proof.Machine

/-- Settles O53: start-up's choice of a copy, the staging commands, and the blank messages, each by the lemma about it (R403 to R409). -/
theorem blanksAreStagedAndJudged : Obligations.BlanksAreStagedAndJudged := by
  intro s hh
  refine ⟨fun r hr => ⟨startupStepDone_2_unreadable hh hr, fun c l b recs => startupStepDone_2_taken hh hr⟩, fun hb => ⟨stageBegin_answers hh hb,
    stageBegin_conflict_answers hh hb, putWin_answers hh hb, fun readable sigs h1 => ⟨fun x => stageCommit_invalid_answers hh hb h1, fun b recs hx =>
      ⟨stageCommit_stale_answers hh hb h1 hx, stageCommit_staged_answers hh hb h1 hx⟩⟩, fun x => ownerClaim_answers hh hb⟩, fun m =>
    ⟨blkPut_stranger_answers hh m, fun hm h0 hlen ht h1 => ⟨blkPut_answers hh m hm h0 hlen ht h1, blkPut_wrong_offset_answers hh m hm h0 hlen ht⟩,
      fun x => blkAck_answers hh m⟩⟩
end

section
/-! PROOFS. What DRAM, its error code, the journal, write-backs and residency change: everything else of the state they keep (R78 to R132). -/

namespace Sys2Proof.Machine

variable {s : State}

/-- A part of the state that the memory machinery leaves alone. -/
structure OffStore {α : Type} (p : State → α) : Prop extends OffTier p where
  links : ∀ s x, p { s with links := x } = p s
  mem : ∀ s x, p { s with mem := x } = p s
  poison : ∀ s x, p { s with poison := x } = p s
  upsets : ∀ s x, p { s with upsets := x } = p s
  chans : ∀ s x, p { s with chans := x } = p s
  tags : ∀ s x, p { s with tags := x } = p s
  tagc : ∀ s x, p { s with tagc := x } = p s
  pool : ∀ s x, p { s with pool := x } = p s

/-- The step that an optional state takes. -/
theorem getD_keeps {α β : Type} {p : α → β} {o : Option α} {a : α} (h : ∀ b, o = some b → p b = p a) : p (o.getD a) = p a := by
  cases o with
  | none => rfl
  | some b => exact h b rfl

section
variable {α : Type} {p : State → α} (hp : OffStore p)
include hp

theorem OffStore.send (m : Msg) (s : State) : p (send m s) = p s := send_keeps p hp.regs hp.cnt64 hp.links hp.out s m

/-! ### Channels and the symbol code -/

theorem OffStore.ceMerge (c : ChanId) (k : Coord4) (dev : Nat) (rasp : Bool) (s : State) : p (ceMerge c k dev rasp s) = p s := by
  have hset : ∀ r u v s, p (s.setReg r u v) = p s := fun r u v s => hp.regs s _
  unfold Machine.ceMerge
  extract_lets c' w0 same now free i s1 s2 s3 s4
  have h1 : p s1 = p s := ite_keeps _ (hset _ _ _ s) rfl
  have h3 : p s3 = p s := (hset _ _ _ _).trans ((hset _ _ _ _).trans h1)
  have h4 : p s4 = p s := by
    unfold s4
    split
    · exact (hset _ _ _ _).trans (hset _ _ _ s)
    · exact (hset _ _ _ _).trans ((hset _ _ _ _).trans h3)
  exact ite_keeps _ ((hp.logEv _ _).trans ((hp.chans s4 _).trans h4)) h4

theorem OffStore.sendFlush (sl : Nat) (t : TenantId) (s : State) : p (sendFlush sl t s) = p s := by
  unfold Machine.sendFlush
  extract_lets list slots i s1
  have h1 : p s1 = p s := foldl_keeps p _ (fun s x => by
    split
    · exact (hp.count _ _ _ _).trans (hp.send _ s)
    · rfl) _ s
  clear_value s1
  exact ite_keeps _ h1 ((hp.pool s1 _).trans h1)

theorem OffStore.dropBlock (b : Nat) (s : State) : p (dropBlock b s) = p s := by
  have h : ∀ x y, p { s with mem := x, poison := y } = p s := fun x y => (hp.poison { s with mem := x } y).trans (hp.mem s x)
  exact h _ _

theorem OffStore.poisonBlock (b : Nat) (s : State) : p (poisonBlock b s) = p s := (hp.poison _ _).trans (hp.dropBlock b s)

theorem OffStore.tagsInvalid (sl : Nat) (s : State) : p (tagsInvalid sl s) = p s := (hp.tagc _ _).trans (hp.tags s _)

theorem OffStore.loseVolatile (sl : Nat) (t : TenantId) (s : State) : p (loseVolatile sl t s) = p s :=
  foldl_keeps p _ (fun s e => ite_keeps _ (by
    split
    · exact foldl_keeps p _ (fun s b => ite_keeps _ (hp.poisonBlock b s) ((hp.tier _ _).trans (hp.dropBlock b s))) _ s
    · rfl) rfl) _ s

theorem OffStore.loseSlice (sl : Nat) (s : State) : p (loseSlice sl s) = p s := by
  unfold Machine.loseSlice
  split
  · refine (foldl_keeps p _ (fun s e => ite_keeps _ ?_ rfl) _ _).trans ((hp.loseVolatile _ _ _).trans (hp.tagsInvalid _ s))
    split
    · exact foldl_keeps p _ (fun s b => hp.dropBlock b s) _ s
    · rfl
  · rfl

theorem OffStore.dirDrop (sl : Nat) (s : State) : p (dirDrop sl s) = p s := hp.pool s _

theorem OffStore.chanFail (c : ChanId) (n : Nat) (s : State) : p (chanFail c n s) = p s := by
  unfold Machine.chanFail
  extract_lets was s1 s2
  have h1 : p s2 = p s := (hp.logEv _ _).trans (hp.chans s _)
  clear_value s2
  refine ite_keeps _ ?_ h1
  split
  · exact (hp.sendFlush _ _ _).trans ((hp.dirDrop _ _).trans ((hp.loseSlice _ _).trans h1))
  · exact h1

theorem OffStore.chanDone (c : ChanId) (st : Byte) (s : State) : p (chanDone c st s) = p s := ite_keeps _ (hp.regs s _) rfl

theorem OffStore.cleanLine (c line : Nat) (s : State) : p (cleanLine c line s) = p s := hp.upsets s _

theorem OffStore.uncorrectable (c : ChanId) (line : Nat) (dl : Option Nat) (a : Bool) (s : State) : p (uncorrectable c line dl a s) = p s := by
  unfold Machine.uncorrectable
  extract_lets k s1 s2 s3 s4 times s5
  have h1 : p s1 = p s := hp.count _ _ _ s
  clear_value s1
  have h2 : p s2 = p s := (hp.count _ _ _ _).trans ((ite_keeps _ (hp.count _ _ _ s1) rfl).trans h1)
  clear_value s2
  have h3 : p s3 = p s := (hp.logEv _ _).trans ((hp.cleanLine _ _ _).trans h2)
  clear_value s3
  have h4 : p s4 = p s := by
    unfold s4
    split
    · exact (hp.poison _ _).trans h3
    · exact h3
  clear_value s4
  have h5 : p s5 = p s := (hp.chans s4 _).trans h4
  clear_value s5
  exact ite_keeps _ ((hp.chanDone _ _ _).trans ((hp.chanFail _ _ _).trans h5)) h5

theorem OffStore.readLine (c : ChanId) (line dl : Nat) (rasp : Bool) (s : State) : p (readLine c line dl rasp s).2 = p s := by
  unfold Machine.readLine
  extract_lets s1 x
  have h1 : p s1 = p s := hp.count _ _ _ s
  clear_value s1
  split
  · exact h1
  · exact (hp.ceMerge _ _ _ _ _).trans ((hp.cleanLine _ _ _).trans ((hp.count _ _ _ _).trans ((hp.count _ _ _ _).trans h1)))
  · exact h1
  · exact (hp.uncorrectable c line (some dl) true s1).trans h1
  · exact (hp.uncorrectable c line (some dl) false s1).trans h1

theorem OffStore.readTagLine (c : ChanId) (set_ : Nat) (rasp : Bool) (s : State) : p (readTagLine c set_ rasp s) = p s := by
  unfold Machine.readTagLine
  extract_lets one out s1 fixed repaired s2
  have h1 : p s1 = p s := hp.count _ _ _ s
  clear_value s1
  have hfixed : ∀ a b u, p (fixed a b u) = p u := fun a b u =>
    (hp.ceMerge _ _ _ _ _).trans ((hp.cleanLine _ _ _).trans ((hp.count _ _ _ _).trans (hp.count _ _ _ u)))
  have hrep : ∀ u, p (repaired u) = p u := fun u => (hp.count _ _ _ _).trans ((hp.cleanLine _ _ _).trans (hp.count _ _ _ u))
  clear_value fixed repaired
  have h2 : p s2 = p s := (hp.count _ _ _ s1).trans h1
  clear_value s2
  split
  · exact h1
  · exact (hfixed _ _ _).trans h1
  all_goals
    split
    · exact (hrep _).trans h2
    · exact (hrep _).trans ((hfixed _ _ _).trans h2)
    all_goals exact (hp.chanDone _ _ _).trans ((hp.chanFail _ _ _).trans h2)

/-! ### Superblocks, stripes and the journal -/

theorem OffStore.releaseEmpty (i : Nat) (s : State) : p (releaseEmpty i s) = p s := ite_keeps _ (hp.releaseSb i s) rfl

theorem OffStore.flCount (r : Reg) (c : CarrierId) (sb n : Nat) (s : State) : p (flCount r c sb n s) = p s := hp.count _ _ _ s

theorem OffStore.programStripe (d : DStripe) (s : State) : p (programStripe d s) = p s :=
  foldl_keeps p _ (fun s _ => (hp.flCount _ _ _ _ _).trans (hp.flCount _ _ _ _ s)) _ s

theorem OffStore.takePage (k : Nat) (t : TenantId) (n : Nat) (s : State) : p (takePage k t n s).2 = p s := takePage_keeps p hp.tier k t n s

theorem OffStore.denseAdd (q : Nat) (pg : DPage) {s t : State} (h : denseAdd q pg s = some t) : p t = p s := by
  unfold Machine.denseAdd at h
  simp only at h
  split at h
  · cases h
  · split at h
    · cases h
      exact ite_keeps _ ((hp.programStripe _ _).trans (hp.tier s _)) (hp.tier s _)
    · split at h
      · cases h
      · next u hu =>
        cases h
        have hpage := hp.takePage 0 (tenOf pg.page.tenant) s.geo.pages s
        rw [hu] at hpage
        exact (hp.tier _ _).trans hpage

theorem OffStore.relocate (i : Nat) (s : State) : p (relocate i s) = p s := by
  unfold Machine.relocate
  extract_lets b s1 s2
  refine ite_keeps _ rfl ?_
  have h1 : p s1 = p s := hp.tier s _
  clear_value s1
  have h2 : p s2 = p s1 := foldl_keeps p _ (fun s e => by
    split
    · exact getD_keeps fun t ht => hp.denseAdd _ _ ht
    · rfl) _ s1
  exact (hp.releaseEmpty _ _).trans (h2.trans h1)

theorem OffStore.setStream (k : Nat) (x : Stream) (s : State) : p (s.setStream k x) = p s := hp.tier s _

theorem OffStore.closeJPage (k : Nat) (s : State) : p (closeJPage k s) = p s :=
  closeJPage_keeps p hp.tier (fun s _ _ _ => hp.count _ _ _ s) (fun s _ _ _ => hp.count _ _ _ s) k s

theorem OffStore.journalAdd (q : Nat) (t : TenantId) (rs : List JRec) (s : State) : p (journalAdd q t rs s).2 = p s := by
  have hclose : ∀ (c : Prop) [Decidable c] k s, p (if c then Machine.closeJPage k s else s) = p s := fun c _ k s => ite_keeps _ (hp.closeJPage k s) rfl
  unfold Machine.journalAdd
  extract_lets k s1 x
  have h1 : p s1 = p s := hclose _ _ s
  clear_value s1 x
  split
  exact (hclose _ _ _).trans ((hp.setStream _ _ _).trans h1)

theorem OffStore.journalErase (s : State) : p (journalErase s) = p s :=
  foldl_keeps p _ (fun s _ => ite_keeps _ (hp.releaseSb _ s) rfl) _ s

theorem OffStore.reclaim (k : Nat) (s : State) : p (reclaim k s) = p s :=
  ite_keeps _ ((hp.journalErase _).trans ((hp.logAppend _ _).trans (hp.setStream _ _ s))) rfl

theorem OffStore.obsolete (k b n : Nat) (s : State) : p (obsolete k b n s) = p s := (hp.reclaim _ _).trans (hp.setStream _ _ s)

/-! ### Write-back -/

theorem OffStore.readBlock (sl n b : Nat) (s : State) : p (readBlock sl n b s) = p s := by
  unfold Machine.readBlock
  refine ite_keeps _ rfl ((foldl_keeps p _ (fun s l => ?_) _ _).trans (hp.count _ _ _ s))
  split
  · exact hp.readLine _ _ _ _ s
  · rfl

theorem OffStore.writeBack (sl b : Nat) {s t : State} (h : writeBack sl b s = some t) : p t = p s := by
  unfold Machine.writeBack at h
  split at h
  · simp only at h
    split at h
    · cases h
      exact hp.readBlock _ _ _ s
    · exact (hp.denseAdd _ _ h).trans (hp.readBlock _ _ _ s)
  · cases h
    rfl

theorem OffStore.setTags (sl set_ : Nat) (l : List Tag) (s : State) : p (s.setTags sl set_ l) = p s := hp.tags s _

theorem OffStore.evict (sl set_ w : Nat) {s t : State} (h : evict sl set_ w s = some t) : p t = p s := by
  unfold Machine.evict at h
  simp only at h
  split at h
  · obtain ⟨u, hu, rfl⟩ := Option.map_eq_some_iff.1 h
    exact (ite_keeps _ (hp.setTags _ _ _ u) rfl).trans (hp.writeBack _ _ hu)
  · cases h

theorem OffStore.pressure (k : Nat) (s : State) : p (pressure k s) = p s := by
  have hwrite : ∀ sl b s, p ((Machine.writeBack sl b s).getD s) = p s := fun sl b s => getD_keeps fun t ht => hp.writeBack _ _ ht
  have hevict : ∀ sl b w s, p ((Machine.evict sl b w s).getD s) = p s := fun sl b w s => getD_keeps fun t ht => hp.evict _ _ _ ht
  unfold Machine.pressure
  refine ite_keeps _ rfl (foldl_keeps p _ (fun s b => ?_) _ s)
  split
  · split
    · refine ite_keeps _ (hwrite _ _ s) ?_
      simp only
      split
      · exact ite_keeps _ rfl (hevict _ _ _ s)
      · exact ite_keeps _ (hwrite _ _ s) rfl
    · rfl
  · rfl

theorem OffStore.wbVerified (sl b n : Nat) (l : PLoc) (t : TenantId) (s : State) : p (wbVerified sl b n l t s) = p s := by
  unfold Machine.wbVerified
  extract_lets old s1 st tg rd s2 s3
  have h1 : p s1 = p s := (hp.logAppend _ _).trans (hp.tier s _)
  clear_value s1
  have h2 : p s2 = p s1 := by
    unfold s2
    split
    · exact hp.setTags _ _ _ s1
    · rfl
  have h3 : p s3 = p s := (hp.obsolete _ _ _ _).trans (h2.trans h1)
  clear_value s3 old
  split
  · exact (hp.releaseEmpty _ _).trans h3
  · exact h3
  · exact h3

/-! ### Lines, and the blocks they stand in -/

theorem OffStore.wakeRank (sl line : Nat) (s : State) : p (wakeRank sl line s) = p s := ite_keeps _ (hp.chans s _) rfl

theorem OffStore.loadLine (sl : Nat) (t : TenantId) (dl : Nat) (s : State) : p (loadLine sl t dl s).2 = p s := by
  unfold Machine.loadLine
  split
  · exact (hp.readLine _ _ _ _ _).trans (hp.wakeRank _ _ s)
  · rfl

theorem OffStore.tagcUse (sl set_ : Nat) (d : Bool) (s : State) : p (tagcUse sl set_ d s) = p s := by
  unfold Machine.tagcUse
  extract_lets k l hit s1 w l2 s2
  have h1 : p s1 = p s := ite_keeps _ (hp.count _ _ _ s) (hp.count _ _ _ s)
  clear_value s1
  exact (hp.tagc _ _).trans ((hp.count _ _ _ s1).trans h1)

theorem OffStore.markDirty (sl : Nat) (t : TenantId) (b : Nat) (s : State) : p (markDirty sl t b s) = p s := by
  unfold Machine.markDirty
  simp only
  split
  · exact ite_keeps _ rfl ((hp.tagcUse _ _ _ _).trans (hp.setTags _ _ _ s))
  · rfl

theorem OffStore.storeBytes (sl : Nat) (t : TenantId) (dpa : Nat) (b : Bytes) (s : State) : p (storeBytes sl t dpa b s) = p s := by
  unfold Machine.storeBytes
  extract_lets dl s1 s2
  have h1 : p s1 = p s := (hp.count _ _ _ _).trans ((hp.wakeRank _ _ _).trans (hp.cleanLine _ _ s))
  clear_value s1
  have h2 : p s2 = p s := (hp.markDirty _ _ _ _).trans ((hp.mem s1 _).trans h1)
  clear_value s2
  exact ite_keeps _ ((hp.poison s2 _).trans h2) h2

theorem OffStore.storeMarker (sl : Nat) (t : TenantId) (dl : Nat) (s : State) : p (storeMarker sl t dl s) = p s := by
  unfold Machine.storeMarker
  extract_lets s1
  have h1 : p s1 = p s := (hp.count _ _ _ _).trans (hp.cleanLine _ _ s)
  clear_value s1
  exact (hp.markDirty _ _ _ _).trans ((hp.poison s1 _).trans h1)

theorem OffStore.journalLines (sl n : Nat) (g : Region) (l : List Nat) (x : List JRec) (s : State) : p (journalLines sl n g l x s).2 = p s := by
  unfold Machine.journalLines
  split
  · rfl
  · exact (hp.pressure _ _).trans (hp.journalAdd _ _ _ s)

theorem OffStore.putImage (b n : Nat) (t : TenantId) (s : State) : p (putImage b n t s).2 = p s := by
  have h : ∀ x y, p { s with mem := x, poison := y } = p s := fun x y => (hp.poison { s with mem := x } y).trans (hp.mem s x)
  exact h _ _

theorem OffStore.install (sl set_ w b n : Nat) (t : TenantId) (s : State) : p (install sl set_ w b n t s) = p s :=
  (hp.tagcUse _ _ _ _).trans ((hp.setTags _ _ _ _).trans ((hp.count _ _ _ _).trans (hp.putImage b n t s)))

theorem OffStore.blockLost (sl b n c : Nat) (t : TenantId) (s : State) : p (blockLost sl b n c t s) = p s :=
  (hp.logEv _ _).trans ((hp.count _ _ _ _).trans ((hp.logAppend _ _).trans (hp.tier s _)))

theorem OffStore.fetch (sl b n : Nat) (t : TenantId) (s : State) : p (fetch sl b n t s).2 = p s := by
  unfold Machine.fetch
  split
  · rfl
  · rfl
  · split
    · exact hp.blockLost _ _ _ _ _ s
    · rfl

theorem OffStore.putFill (f : Fill) (s : State) : p (s.putFill f) = p s := hp.pool s _
theorem OffStore.dropFill (b sl : Nat) (s : State) : p (s.dropFill b sl) = p s := hp.pool s _

theorem OffStore.startFill (sl set_ b n : Nat) (t : TenantId) (s : State) : p (startFill sl set_ b n t s).2 = p s := by
  unfold Machine.startFill
  split
  · exact hp.putFill _ s
  · next w _ =>
    extract_lets tg s1 s2
    split
    · split
      · exact hp.dropFill _ _ s
      · exact (hp.putFill _ _).trans (getD_keeps fun t ht => hp.evict _ _ _ ht)
    · have h1 : p s1 = p s := ite_keeps _ (hp.dropBlock _ s) rfl
      have h2 : p s2 = p s := (hp.setTags _ _ _ s1).trans h1
      have h3 := hp.fetch sl b n t s2
      split
      · next u hu =>
        rw [hu] at h3
        exact (hp.dropFill _ _ _).trans ((hp.install _ _ _ _ _ _ u).trans (h3.trans h2))
      · next u hu =>
        rw [hu] at h3
        exact (hp.putFill _ u).trans (h3.trans h2)

theorem OffStore.setBypass (sl : Nat) (b : Option Nat) (s : State) : p (s.setBypass sl b) = p s := by
  unfold State.setBypass
  split
  · exact hp.pool s _
  · rfl

theorem OffStore.bypassFetch (sl b n : Nat) (t : TenantId) (s : State) : p (bypassFetch sl b n t s).2 = p s := by
  unfold Machine.bypassFetch
  split
  · split
    · rfl
    · split <;> rfl
  · extract_lets s1
    have h1 : p s1 = p s := (hp.count _ _ _ _).trans (hp.setBypass _ _ s)
    have h2 := hp.fetch sl b n t s1
    split
    · next u hu =>
      rw [hu] at h2
      exact (hp.putImage _ _ _ u).trans (h2.trans h1)
    · next u hu =>
      rw [hu] at h2
      exact (hp.putFill _ u).trans (h2.trans h1)

theorem OffStore.ensure (sl b n : Nat) (g : Region) (s : State) : p (ensure sl b n g s).2 = p s := by
  unfold Machine.ensure
  extract_lets t c set_ known s1 l
  split
  · rfl
  · split
    · split
      · rfl
      · have h1 : p s1 = p s := (hp.tagcUse _ _ _ _).trans (ite_keeps _ rfl (hp.readTagLine _ _ _ s))
        split
        · exact (hp.setTags _ _ _ s1).trans h1
        · split
          · exact (hp.bypassFetch _ _ _ _ s1).trans h1
          · split
            · exact h1
            · split
              · exact h1
              · split
                · exact h1
                · exact (hp.startFill _ _ _ _ _ s1).trans h1
    · split
      · rfl
      · exact hp.bypassFetch _ _ _ _ s

theorem OffStore.ensureAll (sl n : Nat) (g : Region) (l : List Nat) (s : State) : p (ensureAll sl n g l s).2 = p s := by
  induction l generalizing s with
  | nil => rfl
  | cons b l ih =>
    have h := hp.ensure sl b n g s
    unfold Machine.ensureAll
    split
    · next u hu =>
      rw [hu] at h
      exact (ih u).trans h
    · next u hu =>
      rw [hu] at h
      exact h
    · next u hu =>
      rw [hu] at h
      exact h

theorem OffStore.wake (w : Wait) (f : Trk → Bool) (s : State) : p (wake w f s) = p s := hp.pool s _

theorem OffStore.bypassEnd (sl b : Nat) (g : Region) (w : Bool) (s : State) : p (bypassEnd sl b g w s) = p s :=
  ite_keeps _ rfl (ite_keeps _ (getD_keeps fun _ ht => hp.writeBack _ _ ht)
    ((hp.wake _ _ _).trans ((hp.dropBlock _ _).trans (hp.setBypass _ _ s))))

/-! ### The directory -/

theorem OffStore.dirUse (sl : Nat) (t : TenantId) (line : Nat) (s : State) : p (dirUse sl t line s) = p s := by
  unfold Machine.dirUse
  extract_lets k l hit s1 l2 s2
  have h1 : p s1 = p s := hp.count _ _ _ s
  clear_value s1
  have h2 : p s2 = p s1 := ite_keeps _ rfl ((hp.count _ _ _ _).trans (hp.count _ _ _ s1))
  exact (hp.pool s2 _).trans (h2.trans h1)

theorem OffStore.setEnt (line : Nat) (e : DirEnt) (s : State) : p (s.setEnt line e) = p s := hp.pool s _

theorem OffStore.dirTouch (sl : Nat) (t : TenantId) (line : Nat) (s : State) : p (dirTouch sl t line s) = p s := by
  unfold Machine.dirTouch
  split
  · rfl
  · exact hp.pool s _

theorem OffStore.ownerMark (n : Nat) (g : Region) (line : Nat) (v : Bool) (s : State) : p (ownerMark n g line v s).2 = p s := by
  unfold Machine.ownerMark
  split
  · split
    · simp only
      split
      · rfl
      · exact hp.mem s _
    · rfl
  · rfl

theorem OffStore.updTrk (id : Nat) (f : Trk → Trk) (s : State) : p (s.updTrk id f) = p s := hp.pool s _

theorem OffStore.setSlot (t : TenantId) (sl st : Nat) (s : State) : p (s.setSlot t sl st) = p s := hp.pool s _

theorem OffStore.snoopExpired (id sl : Nat) (s : State) : p (snoopExpired id sl s) = p s := by
  have hset : ∀ r u v s, p (s.setReg r u v) = p s := fun r u v s => hp.regs s _
  unfold Machine.snoopExpired
  split
  · rfl
  · next t _ =>
    extract_lets line own s1 s2 q s3 s4 s5
    have h1 : p s1 = p s := by
      unfold s1
      split
      · exact hp.setEnt _ _ s
      · rfl
    have h3 : p s3 = p s := (hp.count _ _ _ _).trans ((hp.updTrk _ _ s1).trans h1)
    clear_value s3
    have h5 : p s5 = p s := (ite_keeps _ (hset _ _ _ s3) ((hset _ _ _ _).trans ((hset _ _ _ _).trans (hset _ _ _ s3)))).trans h3
    clear_value s5
    exact ite_keeps _ h5 ((hp.logEv _ _).trans ((hp.setSlot _ _ _ s5).trans h5))

theorem OffStore.sendSnoop (id : Nat) (inv : Bool) (sl : Nat) (s : State) : p (sendSnoop id inv sl s) = p s := by
  unfold Machine.sendSnoop
  split
  · rfl
  · split
    · exact hp.snoopExpired _ _ s
    · split
      · exact (hp.updTrk _ _ _).trans ((hp.count _ _ _ _).trans (hp.send _ s))
      · exact hp.snoopExpired _ _ s

theorem OffStore.sendSnoops (id : Nat) (inv : Bool) (l : List Nat) (s : State) : p (sendSnoops id inv l s) = p s :=
  foldl_keeps p _ (fun s x => hp.sendSnoop id inv x s) l s

theorem OffStore.poisonFlash (line : Nat) (s : State) : p (poisonFlash line s) = p s := by
  unfold Machine.poisonFlash
  split
  · simp only
    split
    · exact hp.tier s _
    · rfl
  all_goals rfl

theorem OffStore.sweepSlot (t : TenantId) (slot : Nat) (s : State) : p (sweepSlot t slot s) = p s := by
  refine foldl_keeps p _ (fun s e => ite_keeps _ rfl ?_) _ s
  extract_lets own s1 sl
  have h1 : p s1 = p s := hp.setEnt _ _ s
  clear_value s1
  refine ite_keeps _ ?_ h1
  split
  · next g _ =>
    have h2 := hp.ownerMark e.2.region g e.1 false s1
    generalize Machine.ownerMark e.2.region g e.1 false s1 = x at h2 ⊢
    obtain ⟨rs, s2⟩ := x
    have h3 := hp.ensure sl (e.1 / 128) e.2.region g s2
    dsimp only
    split
    · next u hu =>
      rw [hu] at h3
      exact (hp.journalLines _ _ _ _ _ _).trans ((hp.storeMarker _ _ _ u).trans (h3.trans (h2.trans h1)))
    · next u _ hu =>
      rw [hu] at h3
      exact (hp.poisonFlash _ u).trans (h3.trans (h2.trans h1))
  · exact h1

end

end Sys2Proof.Machine
end

section
/-! PROOFS. What devices say to one another: messages under an XID of their own, acknowledgements, and messages taken once (R379, R381). -/

namespace Sys2Proof.Machine

variable {s t u : State}

/-! ### What has been said stays said -/

/-- From `s` to `t` what the device has said stays said, under the same IDs. -/
structure Speaks (s t : State) : Prop where
  loop : ∀ x ∈ s.coord.loop, x ∈ t.coord.loop
  outs : Outs s t
  myId : t.myId = s.myId
  isMe : ∀ n, t.isMe n = s.isMe n

theorem Speaks.refl (s : State) : Speaks s s := ⟨fun _ h => h, fun _ h => h, rfl, fun _ => rfl⟩

theorem Speaks.trans (h : Speaks s t) (k : Speaks t u) : Speaks s u :=
  ⟨fun x hx => k.loop x (h.loop x hx), fun o ho => k.outs o (h.outs o ho), k.myId.trans h.myId, fun n => (k.isMe n).trans (h.isMe n)⟩

/-- A change that leaves what was said, and the device's IDs. -/
theorem speaks_of_eq (h1 : t.coord.loop = s.coord.loop) (h2 : t.out = s.out) (h3 : t.myId = s.myId) (h4 : ∀ n, t.isMe n = s.isMe n) : Speaks s t :=
  ⟨fun _ hx => h1 ▸ hx, fun _ ho => h2 ▸ ho, h3, h4⟩

theorem Speaks.told (h : Speaks s t) {d : W16} {a : Option Nat} {b : Bytes} (hs : s.Told d a b) : t.Told d a b := by
  unfold State.Told at hs ⊢
  rw [h.isMe, h.myId]
  split
  · next hme => exact h.loop _ (by rwa [if_pos hme] at hs)
  · next hme => exact sent_of_outs h.outs (by rwa [if_neg hme] at hs)

theorem coordOut_isMe (d : W16) (a : Option Nat) (b : Bytes) (s : State) (n : Nat) : (coordOut d a b s).isMe n = s.isMe n :=
  coordOut_keeps (fun s => s.isMe n) (fun _ _ => rfl) (fun _ _ => rfl) (fun _ _ => rfl) (fun _ _ => rfl) (fun _ _ => rfl) s d a b

theorem coordOut_myId (d : W16) (a : Option Nat) (b : Bytes) (s : State) : (coordOut d a b s).myId = s.myId :=
  coordOut_keeps State.myId (fun _ _ => rfl) (fun _ _ => rfl) (fun _ _ => rfl) (fun _ _ => rfl) (fun _ _ => rfl) s d a b

theorem coordOut_speaks (d : W16) (a : Option Nat) (b : Bytes) (s : State) : Speaks s (coordOut d a b s) := by
  refine ⟨fun x hx => ?_, ?_, coordOut_myId d a b s, coordOut_isMe d a b s⟩
  · unfold coordOut
    split
    · exact List.mem_append_left _ hx
    · rwa [send_coord]
  · unfold coordOut
    split
    · exact fun _ h => h
    · exact outs_send s _

theorem coordOut_told (d : W16) (a : Option Nat) (b : Bytes) (s : State) : (coordOut d a b s).Told d a b := by
  unfold State.Told
  rw [coordOut_isMe, coordOut_myId]
  unfold coordOut
  split
  · exact List.mem_append_right _ List.mem_cons_self
  · exact send_sent s _

/-- Apart from the loop, a coordination message leaves the device's coordination state. -/
theorem coordOut_coord (d : W16) (a : Option Nat) (b : Bytes) (s : State) :
    ∃ l, (coordOut d a b s).coord = { s.coord with loop := l } := by
  unfold coordOut
  split
  · exact ⟨_, rfl⟩
  · exact ⟨s.coord.loop, send_coord s _⟩

/-! ### One message to each of several devices, each under an XID of its own -/

/-- The fold with which a message goes to each device of a list, noted by `note` with its XID. -/
def tellEach (note : W16 × W32 × Nat → State → State) (pre body : Bytes) (l : List W16) (s : State) : State :=
  l.foldl (fun s d =>
    coordOut d none (pre ++ toLe 4 (s.coord.nextXid + 1).toNat ++ body)
      (note (d, s.coord.nextXid + 1, 1) { s with coord := { s.coord with nextXid := s.coord.nextXid + 1 } })) s

theorem tellEach_told {note : W16 × W32 × Nat → State → State} {pre body : Bytes} (H : List (W16 × W32 × Nat) → State → Prop)
    (hnote : ∀ ws e s, H ws s → H (ws ++ [e]) (note e s)) (hspeak : ∀ e s, Speaks s (note e s))
    (hout : ∀ ws d b s, H ws s → H ws (coordOut d none b s)) (hxid : ∀ ws x s, H ws s → H ws { s with coord := { s.coord with nextXid := x } })
    (l : List W16) {ws : List (W16 × W32 × Nat)} (hs : H ws s) :
    ∃ vs, vs.map Prod.fst = l ∧ H (ws ++ vs) (tellEach note pre body l s) ∧ Speaks s (tellEach note pre body l s) ∧
      ∀ w ∈ vs, (tellEach note pre body l s).Told w.1 none (pre ++ toLe 4 w.2.1.toNat ++ body) := by
  induction l generalizing s ws with
  | nil => exact ⟨[], rfl, by rwa [List.append_nil], Speaks.refl s, fun w hw => absurd hw List.not_mem_nil⟩
  | cons d l ih =>
    let x := s.coord.nextXid + 1
    let s1 : State := { s with coord := { s.coord with nextXid := x } }
    let s2 := coordOut d none (pre ++ toLe 4 x.toNat ++ body) (note (d, x, 1) s1)
    have hs2 : H (ws ++ [(d, x, 1)]) s2 := hout _ _ _ _ (hnote _ _ _ (hxid _ _ _ hs))
    have hspeaks : Speaks s s2 := ((speaks_of_eq rfl rfl rfl fun _ => rfl : Speaks s s1).trans (hspeak _ _)).trans (coordOut_speaks _ _ _ _)
    obtain ⟨vs, hmap, hH, hsp, htold⟩ := ih hs2
    refine ⟨(d, x, 1) :: vs, by rw [List.map_cons, hmap], ?_, hspeaks.trans hsp, fun w hw => ?_⟩
    · rwa [List.append_assoc] at hH
    · rcases List.mem_cons.1 hw with rfl | hw
      · exact hsp.told (coordOut_told _ _ _ _)
      · exact htold w hw

/-! ### Messages taken once, and acknowledged -/

theorem coordOnce_runs {c : Coord} {f : State → State} (ha : ∀ a ∈ s.coord.acked, ¬(a.src = c.src ∧ a.xid = c.xid))
    (hf : (c.src, c.xid) ∉ s.coord.fwdOpen) : coordOnce c f s = f s := by
  have hnone : (s.coord.acked.find? fun a => a.src = c.src && a.xid = c.xid) = none :=
    List.find?_eq_none.2 fun a h => by simpa using fun h1 => fun h2 => ha a h ⟨h1, h2⟩
  unfold coordOnce
  rw [hnone]
  exact if_neg (by simpa using hf)

/-- A message of a device of the stack that is new is taken. -/
theorem coordFrom_runs {c : Coord} {n : Nat} {f : State → State} (hd : s.isDevice c.src = true) (hc : s.closedHint = none)
    (ha : ∀ a ∈ s.coord.acked, ¬(a.src = c.src ∧ a.xid = c.xid)) (hf : (c.src, c.xid) ∉ s.coord.fwdOpen) : coordFrom c n f s = f s := by
  refine (if_neg (by simp [hd])).trans ((coordOnce_runs ha hf).trans ?_)
  simp only [hc]

theorem coordAckSend_acked (src : W16) (x : W32) (n : Nat) (st : Byte) (k : Nat) (b : Bytes) (s : State) :
    ⟨src, x, n, st, b⟩ ∈ (coordAckSend src x n st k b s).coord.acked := by
  unfold coordAckSend
  obtain ⟨l, hl⟩ := coordOut_coord src (some k) ([byte n, st, 0, 0] ++ toLe 4 x.toNat ++ b)
    { s with coord := { s.coord with acked := ⟨src, x, n, st, b⟩ :: s.coord.acked,
                                     fwdOpen := s.coord.fwdOpen.filter fun e => !(e.1 = src && e.2 = x) } }
  rw [hl]
  exact List.mem_cons_self

theorem coordAckSend_isAcked (c : Coord) (n : Nat) (st : Byte) (k : Nat) (b : Bytes) (s : State) :
    (coordAckSend c.src c.xid n st k b s).Acked c n st := ⟨b, coordAckSend_acked _ _ _ _ _ _ s⟩

theorem OffTalk.coordAckSend {α : Type} {p : State → α} (hp : OffTalk p) (src : W16) (x : W32) (n : Nat) (st : Byte) (k : Nat) (b : Bytes) (s : State) :
    p (coordAckSend src x n st k b s) = p s := (hp.coordOut _ _ _ _).trans (hp.coord s _)

end Sys2Proof.Machine
end

section
/-! PROOFS. Job boundaries (R415, R417, R418). -/

namespace Sys2Proof.Machine

variable {s : State}

/-! ### The headstock's PREPARE -/

theorem jobSend_eq (n : Nat) (body : Bytes) (l : List W16) (s : State) : jobSend n body l s =
    tellEach (fun e s => s.updJobHead fun j => { j with waits := j.waits ++ [e] }) [byte n, 0, 0, 0] body l
      (s.updJobHead fun j => { j with waits := [], since := s.time.nclk }) := rfl

/-- A message of the boundary has gone to each device, and each is waited for. -/
theorem jobSend_told (n : Nat) (body : Bytes) (l : List W16) {j : JobHead} (hj : s.job.head = some j) :
    ∃ vs, vs.map Prod.fst = l ∧ (jobSend n body l s).job.head = some { j with waits := vs, since := s.time.nclk } ∧
      ∀ w ∈ vs, (jobSend n body l s).Told w.1 none ([byte n, 0, 0, 0] ++ toLe 4 w.2.1.toNat ++ body) := by
  let H : List (W16 × W32 × Nat) → State → Prop := fun ws u => u.job.head = some { j with waits := ws, since := s.time.nclk }
  have hnote : ∀ ws (e : W16 × W32 × Nat) u, H ws u → H (ws ++ [e]) (u.updJobHead fun j => { j with waits := j.waits ++ [e] }) := fun ws e u hu => by
    show Option.map _ u.job.head = _
    rw [show u.job.head = _ from hu]
    rfl
  have hstart : H [] (s.updJobHead fun j => { j with waits := [], since := s.time.nclk }) := by
    show Option.map _ s.job.head = _
    rw [hj]
    rfl
  have hout : ∀ ws d b u, H ws u → H ws (coordOut d none b u) := fun ws d b u hu =>
    (congrArg JobSt.head (coordOut_keeps State.job (fun _ _ => rfl) (fun _ _ => rfl) (fun _ _ => rfl) (fun _ _ => rfl) (fun _ _ => rfl) u d none b)).trans hu
  obtain ⟨vs, hmap, hH, -, htold⟩ := tellEach_told (pre := [byte n, 0, 0, 0]) (body := body) H hnote
    (fun e u => speaks_of_eq rfl rfl rfl fun _ => rfl) hout (fun _ _ _ h => h) l hstart
  exact ⟨vs, hmap, hH, htold⟩

theorem jobSend_keeps {α : Type} {p : State → α} (hp : OffTalk p) (hj : ∀ s x, p { s with job := x } = p s) (n : Nat) (body : Bytes) (l : List W16)
    (s : State) : p (jobSend n body l s) = p s :=
  (foldl_keeps p _ (fun s _ => (hp.coordOut _ _ _ _).trans ((hj _ _).trans (hp.coord s _))) l _).trans (hj s _)

section
variable (hh : s.su.held = false) {h : CmdHdr} (applyAt : W64) (hda : s.classOf h.iss = .da)
include hh hda

theorem jobBoundary_completes (hhead : s.head.head = true) (hnone : s.job.head = none) (h2 : s.blank.bstate < 2) (hv : applyAt = 0 ∨ s.ptValid = true)
    (hg : s.pairGap = false) : Completes (.jobBoundary h applyAt) s fun u => ∃ j, u.job.head = some j ∧ j.h = h ∧ j.phase = 0 ∧
      j.applyAt = applyAt.toNat ∧ j.waits.map Prod.fst = s.activeIds ∧ (∀ w ∈ j.waits, u.Told w.1 none ([0xA, 0, 0, 0] ++ toLe 4 w.2.1.toNat)) ∧
      u.blank = s.blank ∧ u.mem = s.mem := by
  refine completes_of_pumped (jobBoundaryRun h applyAt) rfl hh ?_
  let j : JobHead := ⟨h, applyAt.toNat, 0, [], s.time.nclk, none, applyAt ≠ 0 && applyAt.toNat ≤ s.ptNs⟩
  have hrun : jobBoundaryRun h applyAt s = jobSend 0xA [] s.activeIds (s.setJobHead (some j)) := by
    refine (onlyDA_of_da hda _ _).trans ((if_neg (by simp [hhead])).trans ((if_neg ?_).trans ((if_neg ?_).trans ?_)))
    · simp [hnone]
      omega
    · rcases hv with hv | hv <;> simp [hv]
    · simp only [hg, Bool.false_eq_true, if_false]
      exact if_neg (show ¬s.pairGap = true by simp [hg])
  obtain ⟨vs, hmap, hj, htold⟩ := jobSend_told 0xA [] s.activeIds (s := s.setJobHead (some j)) rfl
  rw [hrun]
  refine ⟨_, hj, rfl, rfl, rfl, hmap, fun w hw => ?_, ?_, ?_⟩
  · have := htold w hw
    rwa [List.append_nil] at this
  · exact jobSend_keeps (p := State.blank) ⟨fun _ _ => rfl, fun _ _ => rfl, fun _ _ => rfl, fun _ _ => rfl, fun _ _ => rfl⟩ (fun _ _ => rfl) _ _ _ _
  · exact jobSend_keeps (p := State.mem) ⟨fun _ _ => rfl, fun _ _ => rfl, fun _ _ => rfl, fun _ _ => rfl, fun _ _ => rfl⟩ (fun _ _ => rfl) _ _ _ _

omit hh hda in
/-- A boundary that fails carries POSITION 0xFF (R273). -/
theorem jobBoundary_failing {st : Byte} (hst : st ≠ stOK) (h : CmdHdr) (s : State) : replySt h 0x502 st s = reply h 0x502 st 0 0 [0xFF, 0, 0, 0] s := by
  have h1 : (if st ≠ stOK ∧ ([] : Bytes) = [] then failResult 0x502 s else ([], s)) = ([0xFF, 0, 0, 0], s) := if_pos ⟨hst, rfl⟩
  have h2 : (if st ≠ stOK ∧ ([0xFF, 0, 0, 0] : Bytes) = [] then failResult 0x502 s else ([0xFF, 0, 0, 0], s)) = ([0xFF, 0, 0, 0], s) :=
    if_neg fun h => List.cons_ne_nil _ _ h.2
  unfold replySt reply
  rw [h1, h2]

omit hda in
theorem jobBoundary_refused {st : Byte} (hst : st ≠ stOK) (hc : st ≠ stSTATE_CONFLICT) (hrun : jobBoundaryRun h applyAt s = replySt h 0x502 st s) :
    Completes (.jobBoundary h applyAt) s fun u => u.Replied h 0x502 st 0 [0xFF, 0, 0, 0] ∧ u.job = s.job := by
  refine completes_of_pumped (jobBoundaryRun h applyAt) rfl hh ?_
  have hrep := reply_replied s h 0x502 st 0 0 [0xFF, 0, 0, 0] (.inr (.inl (List.cons_ne_nil _ _)))
  rw [if_neg hc] at hrep
  rw [hrun, jobBoundary_failing hst]
  exact ⟨hrep, reply_job _ _ _ _ _ _ _⟩

end

/-! ### A member -/

section
variable (hh : s.su.held = false) (c : Coord) (hd : s.isDevice c.src = true) (hc : s.closedHint = none)
  (ha : ∀ a ∈ s.coord.acked, ¬(a.src = c.src ∧ a.xid = c.xid)) (hf : (c.src, c.xid) ∉ s.coord.fwdOpen)
include hh hd hc ha hf

omit hh hd hc ha hf in
theorem jobAns_effect (a : Nat) (st : Byte) (s : State) : ⟨c.src, c.xid, 0xA, st, [byte a, 0, 0, 0]⟩ ∈ (jobAns c a st s).coord.acked ∧
    (jobAns c a st s).blank = s.blank := by
  have hp : OffTalk State.blank := by constructor <;> intro _ _ <;> rfl
  exact ⟨coordAckSend_acked _ _ _ _ _ _ _, hp.coordAckSend _ _ _ _ _ _ s⟩

theorem jobPrepare_unstaged_completes (h1 : s.job.armed = none) (h3 : s.blank.bstate ≠ 3) (hst : s.blank.staged = false) :
    Completes (.jobPrepare c) s fun u => ⟨c.src, c.xid, 0xA, 0, [1, 0, 0, 0]⟩ ∈ u.coord.acked ∧ u.blank = { s.blank with bstate := 2 } := by
  refine completes_of_pumped (coordFrom c 0xA (jobPrepareRx c)) rfl hh ?_
  have hrun : coordFrom c 0xA (jobPrepareRx c) s = jobAns c 1 stOK { s with blank := { s.blank with bstate := 2 } } := by
    refine (coordFrom_runs hd hc ha hf).trans ((coordOnce_runs ha hf).trans ((if_neg (by simp [h1, h3])).trans ?_))
    simp only [hst, Bool.false_eq_true, if_false]
  rw [hrun]
  exact jobAns_effect c 1 stOK _

theorem jobPrepare_staged_completes {x : BlankHdr × List Rec} (h1 : s.job.armed = none) (h3 : s.blank.bstate ≠ 3) (hst : s.blank.staged = true)
    (hx : s.copyRecs s.spareCopy = some x) (hseq : s.blank.inUse = true → s.blank.seq.toNat < x.1.seq)
    (hp : s.partChanges ((recIn x.2 8 0).getD (zeros 16)) = false)
    (hr : ∀ t ∈ s.released ((recIn x.2 8 0).getD (zeros 16)), s.mayRelease t = true) : Completes (.jobPrepare c) s fun u =>
      ⟨c.src, c.xid, 0xA, 0, [0, 0, 0, 0]⟩ ∈ u.coord.acked ∧ u.blank = { s.blank with bstate := 2 } := by
  refine completes_of_pumped (coordFrom c 0xA (jobPrepareRx c)) rfl hh ?_
  obtain ⟨b, recs⟩ := x
  have hrun : coordFrom c 0xA (jobPrepareRx c) s = jobAns c 0 stOK { s with blank := { s.blank with bstate := 2 } } := by
    refine (coordFrom_runs hd hc ha hf).trans ((coordOnce_runs ha hf).trans ((if_neg (by simp [h1, h3])).trans ?_))
    simp only [hst, if_true, hx]
    refine (if_neg ?_).trans ((if_neg (by simp [hp])).trans (if_neg ?_))
    · rintro ⟨hle, hu⟩
      exact absurd (hseq hu) (Nat.not_lt.2 hle)
    · rw [List.any_eq_true]
      rintro ⟨t, ht, hmay⟩
      rw [hr t ht] at hmay
      exact Bool.noConfusion hmay
  rw [hrun]
  exact jobAns_effect c 0 stOK _

theorem jobPrepare_armed_completes (h1 : s.job.armed.isSome = true) : Completes (.jobPrepare c) s fun u =>
    ⟨c.src, c.xid, 0xA, 3, [2, 0, 0, 0]⟩ ∈ u.coord.acked ∧ u.blank = s.blank := by
  refine completes_of_pumped (coordFrom c 0xA (jobPrepareRx c)) rfl hh ?_
  have hrun : coordFrom c 0xA (jobPrepareRx c) s = jobAns c 2 stSTATE_CONFLICT s :=
    (coordFrom_runs hd hc ha hf).trans ((coordOnce_runs ha hf).trans (if_pos (.inl h1)))
  rw [hrun]
  exact jobAns_effect c 2 stSTATE_CONFLICT s

theorem jobCommit_completes (applyAt : W64) (h2 : s.blank.bstate = 2) (hlt : s.ptNs < applyAt.toNat) :
    Completes (.jobCommit c applyAt) s fun u =>
      u.job = { s.job with armed := some applyAt.toNat, from_ := some (c.src, c.xid), late := false } ∧ u.blank = s.blank ∧
        (c.src, c.xid) ∈ u.coord.fwdOpen := by
  refine completes_of_pumped (coordFrom c 0xB (jobCommitRx c applyAt.toNat)) rfl hh ?_
  have hrun : coordFrom c 0xB (jobCommitRx c applyAt.toNat) s =
      { s with
        coord := { s.coord with fwdOpen := s.coord.fwdOpen ++ [(c.src, c.xid)] },
        job := { s.job with armed := some applyAt.toNat, from_ := some (c.src, c.xid), late := false },
        blank := { s.blank with bstate := 2 } } := by
    refine (coordFrom_runs hd hc ha hf).trans ((coordOnce_runs ha hf).trans ((if_neg (by simp [h2])).trans ?_))
    have h0 : applyAt.toNat ≠ 0 := by omega
    have hlate : ¬applyAt.toNat ≤ s.ptNs := by omega
    simp only [hlate, h0, decide_false, Bool.and_false, if_false, Bool.false_eq_true]
  rw [hrun]
  refine ⟨rfl, ?_, List.mem_append_right _ List.mem_cons_self⟩
  show ({ s.blank with bstate := 2 } : BlankSt) = s.blank
  rw [← h2]

theorem jobCommit_unprepared_completes (applyAt : W64) (h2 : s.blank.bstate ≠ 2) : Completes (.jobCommit c applyAt) s fun u =>
    u.Acked c 0xB 0 ∧ u.job = s.job ∧ u.blank = s.blank := by
  refine completes_of_pumped (coordFrom c 0xB (jobCommitRx c applyAt.toNat)) rfl hh ?_
  have hrun : coordFrom c 0xB (jobCommitRx c applyAt.toNat) s = coordAckSend c.src c.xid 0xB stOK 0 [] s :=
    (coordFrom_runs hd hc ha hf).trans ((coordOnce_runs ha hf).trans (if_pos h2))
  have hp : OffTalk fun s : State => (s.job, s.blank) := by constructor <;> intro _ _ <;> rfl
  have hkeep := hp.coordAckSend c.src c.xid 0xB stOK 0 [] s
  rw [hrun]
  exact ⟨coordAckSend_isAcked c 0xB stOK 0 [] s, congrArg Prod.fst hkeep, congrArg Prod.snd hkeep⟩

theorem jobAbort_completes (h1 : s.job.armed = none) (h2 : s.blank.bstate = 2) : Completes (.jobAbort c) s fun u =>
    u.Acked c 0xC 0 ∧ u.blank = { s.blank with bstate := 0 } := by
  refine completes_of_pumped (coordFrom c 0xC (jobAbortRx c)) rfl hh ?_
  have hrun : coordFrom c 0xC (jobAbortRx c) s = coordAckSend c.src c.xid 0xC stOK 0 [] { s with blank := { s.blank with bstate := 0 } } := by
    refine (coordFrom_runs hd hc ha hf).trans ((coordOnce_runs ha hf).trans ?_)
    simp only [h1, h2, Option.isNone_none, and_self, if_true]
  have hp : OffTalk State.blank := by constructor <;> intro _ _ <;> rfl
  rw [hrun]
  exact ⟨coordAckSend_isAcked c 0xC stOK 0 [] _, hp.coordAckSend c.src c.xid 0xC stOK 0 [] _⟩

end

/-! ### The instant of the boundary -/

theorem giveBackHead_keeps {α : Type} {p : State → α} (hp : OffTalk p) (hspn : ∀ s x, p { s with spn := x } = p s)
    (hhead : ∀ s x, p { s with head := x } = p s) (s : State) : p (giveBackHead s) = p s := by
  have hboth : ∀ a b, p { s with head := a, spn := b } = p s := fun a b => (hspn { s with head := a } b).trans (hhead s a)
  exact ite_keeps _ rfl (ite_keeps _ ((hp.ownMapByte hspn _).trans (hboth _ _)) ((hp.ownMapByte hspn _).trans (hhead s _)))

/-- What the instant leaves: the boundary is over, and the COMMIT is acknowledged. -/
def boundaryOver (ok late : Bool) (src : W16) (xid : W32) (s : State) : State :=
  coordAckSend src xid 0xB (if !ok then stSTATE_CONFLICT else if late then stLATE else stOK) 0 []
    { giveBackHead { s with blank := { s.blank with bstate := 0 } } with
      job := { (giveBackHead { s with blank := { s.blank with bstate := 0 } }).job with armed := none, from_ := none, late := false } }

theorem boundaryOver_effect (ok late : Bool) (src : W16) (xid : W32) (s : State) :
    (boundaryOver ok late src xid s).Acked ⟨src, xid⟩ 0xB (if !ok then stSTATE_CONFLICT else if late then stLATE else stOK) ∧
    (boundaryOver ok late src xid s).job = { s.job with armed := none, from_ := none, late := false } ∧
    (boundaryOver ok late src xid s).blank = { s.blank with bstate := 0 } ∧ (boundaryOver ok late src xid s).time = s.time ∧
    (boundaryOver ok late src xid s).hw = s.hw := by
  have hp : OffTalk fun s : State => (s.job, s.blank, s.time, s.hw) := by constructor <;> intro _ _ <;> rfl
  have hgive := giveBackHead_keeps hp (fun _ _ => rfl) (fun _ _ => rfl) { s with blank := { s.blank with bstate := 0 } }
  unfold boundaryOver
  generalize giveBackHead { s with blank := { s.blank with bstate := 0 } } = t at hgive ⊢
  have hack := hp.coordAckSend src xid 0xB (if !ok then stSTATE_CONFLICT else if late then stLATE else stOK) 0 []
    { t with job := { t.job with armed := none, from_ := none, late := false } }
  simp only [Prod.mk.injEq] at hgive hack
  obtain ⟨hj, hb, ht, hw⟩ := hgive
  obtain ⟨hj', hb', ht', hw'⟩ := hack
  refine ⟨⟨[], coordAckSend_acked _ _ _ _ _ _ _⟩, ?_, hb'.trans hb, ht'.trans ht, hw'.trans hw⟩
  rw [hj', hj]

section
variable {n : Nat} {src : W16} {xid : W32} (h1 : s.job.armed = some n) (h0 : n ≠ 0) (hfr : s.job.from_ = some (src, xid)) (hl : s.job.late = false)
include h1 h0 hfr hl

theorem jobApplyRun_eq {ok : Bool} {t : State} (hj : t.job = s.job)
    (hr : (if s.blank.staged then applyBlank (advancePool n s) else (true, advancePool n s)) = (ok, t)) :
    jobApplyRun s = boundaryOver ok false src xid t := by
  have hgive : (giveBackHead { t with blank := { t.blank with bstate := 0 } }).job = s.job :=
    (giveBackHead_keeps (p := State.job) ⟨fun _ _ => rfl, fun _ _ => rfl, fun _ _ => rfl, fun _ _ => rfl, fun _ _ => rfl⟩ (fun _ _ => rfl)
      (fun _ _ => rfl) _).trans hj
  unfold jobApplyRun
  simp only [h1, if_neg h0]
  rw [advancePool_rest n s] at hr ⊢
  generalize (advancePool n s).time = x at hr ⊢
  simp only [hr, hgive, hfr, hl]
  unfold boundaryOver
  rw [hgive]

variable (hh : s.su.held = false)
include hh

theorem jobApply_unstaged_completes (hs : s.blank.staged = false) : Completes .jobApply s fun u =>
    u.Acked ⟨src, xid⟩ 0xB 0 ∧ u.job.armed = none ∧ u.blank = { s.blank with bstate := 0 } ∧ n ≤ u.ptNs := by
  refine completes_of_pumped jobApplyRun rfl hh ?_
  rw [jobApplyRun_eq h1 h0 hfr hl (ok := true) (t := advancePool n s) (by rw [advancePool_rest]) (by simp only [hs, Bool.false_eq_true, if_false])]
  obtain ⟨hack, hjob, hblank, htime, -⟩ := boundaryOver_effect true false src xid (advancePool n s)
  refine ⟨hack, by rw [hjob], ?_, ?_⟩
  · rw [hblank, advancePool_rest]
  · rw [State.ptNs, htime]
    exact le_advancePool n s

end

/-! ### The blank that is applied -/

/-- What applying a blank touches beside the tenants' own state: the shaper's tables. -/
structure OffApply {α : Type} (p : State → α) : Prop extends OffService p, OffStore p where
  shp : ∀ s x, p { s with shp := x } = p s

section
variable {α : Type} {p : State → α} (hp : OffApply p)
include hp

theorem OffApply.setReg (r : Reg) (u : Nat) (v : W32) (s : State) : p (s.setReg r u v) = p s := hp.regs s _

theorem OffApply.releaseTenant (t : TenantId) (s : State) : p (releaseTenant t s) = p s := by
  unfold Machine.releaseTenant
  extract_lets s1 x s2
  have h1 : p s1 = p s := foldl_keeps p _ (fun s i => hp.clearSlice i _ s) _ s
  have h2 : p s2 = p s := (hp.pool s1 _).trans h1
  clear_value s2
  exact (hp.dropTier _ _).trans ((hp.dropKeys _ _).trans h2)

theorem OffApply.partReleases (d : Bytes) (s : State) : p (partReleases d s).2 = p s := by
  unfold Machine.partReleases
  simp only
  split
  · exact hp.logEv _ s
  · exact foldl_keeps p _ (fun s t => hp.releaseTenant t s) _ s

theorem OffApply.sweepMoved (b : Bytes) (s : State) : p (sweepMoved b s) = p s :=
  foldl_keeps p _ (fun s e => by
    split
    · exact ite_keeps _ rfl ((hp.setSlot _ _ _ _).trans ((hp.sweepSlot _ _ _).trans (hp.setSlot _ _ _ s)))
    · rfl) _ s

theorem OffApply.dropHosts (a b : Nat) (s : State) : p (dropHosts a b s) = p s :=
  foldl_keeps p _ (fun s _ => (hp.setReg _ _ _ _).trans ((hp.setReg _ _ _ _).trans (hp.setReg _ _ _ s))) _ s

theorem OffApply.loadHosts (d : Bytes) (s : State) : p (loadHosts d s) = p s :=
  foldl_keeps p _ (fun s _ => (hp.setReg _ _ _ _).trans ((hp.setReg _ _ _ _).trans (hp.setReg _ _ _ s))) _ s

theorem OffApply.loadShaper (d : Bytes) (s : State) : p (loadShaper d s) = p s :=
  (foldl_keeps p _ (fun s _ => (hp.setReg _ _ _ _).trans (hp.setReg _ _ _ s)) _ _).trans
    ((foldl_keeps p _ (fun s _ => (hp.setReg _ _ _ _).trans ((hp.setReg _ _ _ _).trans (hp.setReg _ _ _ s))) _ _).trans
      ((hp.setReg _ _ _ _).trans (hp.setReg _ _ _ s)))

theorem OffApply.loadPlate (d : Bytes) (s : State) : p (loadPlate d s) = p s :=
  (foldl_keeps p _ (fun s _ => hp.setReg _ _ _ s) _ _).trans ((hp.setReg _ _ _ _).trans ((hp.setReg _ _ _ _).trans (hp.setReg _ _ _ s)))

theorem OffApply.applyPlate (d : Bytes) (s : State) : p (applyPlate d s) = p s :=
  ite_keeps _ ((hp.shp _ _).trans (hp.loadPlate _ s)) (hp.shp s _)

theorem OffApply.rebucket (o s : State) : p (rebucket o s) = p s :=
  foldl_keeps p _ (fun s _ => ite_keeps _ rfl (hp.shp s _)) _ s

theorem OffApply.applyStores (s : State) : p (applyStores s) = p s :=
  foldl_keeps p _ (fun s _ => ite_keeps _ (hp.chans s _) rfl) _ s

theorem OffApply.assignSlice (i : Fin 16) (t : TenantId) (s : State) : p (assignSlice i t s) = p s := by
  unfold Machine.assignSlice
  extract_lets n ext s0 s1 s2 c s3
  have h1 : p s1 = p s := (hp.pins s0 _).trans (hp.ephKey t s)
  have h3 : p s3 = p s := (hp.chans s2 _).trans ((hp.slices s1 _).trans h1)
  clear_value s3
  exact (hp.wavesFor _ _).trans ((ite_keeps _ (hp.chans s3 _) rfl).trans h3)

theorem OffApply.takeSlice (i : Fin 16) (t : TenantId) (s : State) : p (takeSlice i t s) = p s := by
  unfold Machine.takeSlice
  simp only
  split
  · exact ite_keeps _ (hp.assignSlice i t s) ((hp.clearSlice _ _ _).trans (hp.ephKey t s))
  · exact (hp.wavesFor _ _).trans ((hp.slices _ _).trans (hp.ephKey t s))
  · rfl

theorem OffApply.partAssigns (d : Bytes) (s : State) : p (partAssigns d s) = p s :=
  foldl_keeps p _ (fun s i => by
    split
    · exact hp.takeSlice i _ s
    · rfl) _ s

theorem OffApply.partHeld (d : Bytes) (s : State) : p (partHeld d s) = p s :=
  foldl_keeps p _ (fun s i => by
    split
    · exact hp.logEv _ s
    · rfl) _ s

end

/-- What of the state a blank's application is about. -/
def applyView (s : State) : BlankSt × W32 × JobSt := (s.blank, s.hw.minSeq, s.job)

theorem offApply_view : OffApply applyView :=
  { regs := fun _ _ => rfl, cnt64 := fun _ _ => rfl, log := fun _ _ => rfl, out := fun _ _ => rfl, tier := fun _ _ => rfl,
    hw := fun _ _ h => by unfold applyView; rw [← h], links := fun _ _ => rfl, upsets := fun _ _ => rfl, shp := fun _ _ => rfl,
    slices := fun _ _ => rfl, chans := fun _ _ => rfl, tags := fun _ _ => rfl, tagc := fun _ _ => rfl, pins := fun _ _ => rfl,
    pool := fun _ _ => rfl, work := fun _ _ => rfl, rgn := fun _ _ => rfl, plog := fun _ _ => rfl, free := fun _ _ => rfl,
    mem := fun _ _ => rfl, poison := fun _ _ => rfl, wave := fun _ _ _ => rfl }

/-- In `t` a blank is in force: adopted, its live kinds merged into the records of `s` (R403, R415). -/
def BlankApplied (s : State) (b : BlankHdr) (new : List Rec) (t : State) : Prop :=
  t.blank.src = s.spareCopy ∧ t.blank.seq = w32 b.seq ∧ t.blank.staged = false ∧ (∃ part, t.blank.live = mergeRecs part s.blank.live new) ∧
    t.hw.minSeq = (if s.hw.minSeq.toNat < b.floor then w32 b.floor else s.hw.minSeq) ∧ t.job = s.job

theorem applyBlank_applied {b : BlankHdr} {new : List Rec} (hx : s.copyRecs s.spareCopy = some (b, new)) :
    BlankApplied s b new (applyBlank s).2 := by
  have hp := offApply_view
  unfold applyBlank
  rw [hx]
  split
  · next h => cases h
  · next b' new' h =>
    cases h
    extract_lets old part
    have h0 := hp.partReleases part s
    generalize partReleases part s = y at h0 ⊢
    obtain ⟨ok, s0⟩ := y
    dsimp -zeta only at h0 ⊢
    extract_lets s1 c opened live t1 s2 s3 s4 s5 s6 s7 s8 s9 pend s10 
    have h1 : applyView s1 = applyView s := (hp.sweepMoved _ s0).trans h0
    have h2 : applyView s2 = ({ s.blank with live := live }, s.hw.minSeq, s.job) :=
      congrArg (fun v : BlankSt × W32 × JobSt => ({ v.1 with live := live }, v.2)) h1
    have hc : c = s.spareCopy := congrArg (fun v : BlankSt × W32 × JobSt => 1 - v.1.src) h1
    have hlive : live = mergeRecs (ok && !opened) s.blank.live new :=
      congrArg (fun v : BlankSt × W32 × JobSt => mergeRecs (ok && !opened) v.1.live new) h1
    have h3 : applyView s3 = applyView s2 := (hp.applyStores _).trans (loadTenants_keeps hp.regs s2)
    have h4 : applyView s4 = applyView s3 := (hp.loadHosts _ _).trans (hp.dropHosts _ _ s3)
    have h5 : applyView s5 = applyView s4 := foldl_keeps applyView _ (fun s l => ite_keeps _ (loadLink_keeps hp.regs _ l _ s) rfl) _ s4
    have h6 : applyView s6 = applyView s5 := (hp.rebucket _ _).trans (ite_keeps _ (hp.loadShaper _ s5) rfl)
    have h7 : applyView s7 = applyView s6 := hp.setReg _ _ _ s6
    have h8 : applyView s8 = applyView s7 := hp.applyPlate _ s7
    have h9 : applyView s9 = applyView s8 := ite_keeps _ rfl (ite_keeps _ (hp.partHeld _ s8) (hp.partAssigns _ s8))
    have hall : applyView s9 = ({ s.blank with live := live }, s.hw.minSeq, s.job) :=
      h9.trans (h8.trans (h7.trans (h6.trans (h5.trans (h4.trans (h3.trans h2))))))
    clear_value s9 c live opened
    obtain ⟨hb, hm, hj⟩ : s9.blank = { s.blank with live := live } ∧ s9.hw.minSeq = s.hw.minSeq ∧ s9.job = s.job := by
      simpa only [applyView, Prod.mk.injEq] using hall
    refine ⟨hc, rfl, rfl, ⟨ok && !opened, ?_⟩, ?_, hj⟩
    · show s9.blank.live = _
      rw [hb]
      exact hlive
    · show (if s9.hw.minSeq.toNat < b.floor then w32 b.floor else s9.hw.minSeq) = _
      rw [hm]

theorem floor_of_copyRecs {c : Nat} {x : BlankHdr × List Rec} (h : s.copyRecs c = some x) : x.1.floor < 2 ^ 32 := by
  unfold State.copyRecs at h
  split at h
  · cases h
  · next b hb =>
    rw [Option.map_eq_some_iff] at h
    obtain ⟨l, -, rfl⟩ := h
    exact floor_of_readHdr hb

/-- The floor a blank leaves is the greater of the two (R403). -/
theorem raised_toNat {n : Nat} (hn : n < 2 ^ 32) (m : W32) : (if m.toNat < n then w32 n else m).toNat = max m.toNat (n % 2 ^ 32) := by
  rw [Nat.mod_eq_of_lt hn]
  split
  · rw [show (w32 n).toNat = n from Nat.mod_eq_of_lt hn]
    omega
  · omega

section
variable {n : Nat} {src : W16} {xid : W32} (h1 : s.job.armed = some n) (h0 : n ≠ 0) (hfr : s.job.from_ = some (src, xid)) (hl : s.job.late = false)
  (hh : s.su.held = false)
include h1 h0 hfr hl hh

theorem jobApply_staged_completes {x : BlankHdr × List Rec} (hs : s.blank.staged = true) (hx : s.copyRecs s.spareCopy = some x) :
    Completes .jobApply s fun u => u.blank.src = s.spareCopy ∧ u.blank.seq = w32 x.1.seq ∧ u.blank.staged = false ∧ u.blank.bstate = 0 ∧
      (∃ part, u.blank.live = mergeRecs part s.blank.live x.2) ∧ u.hw.minSeq.toNat = max s.hw.minSeq.toNat (x.1.floor % 2 ^ 32) ∧
      u.job.armed = none := by
  refine completes_of_pumped jobApplyRun rfl hh ?_
  obtain ⟨b, new⟩ := x
  have happ : BlankApplied (advancePool n s) b new (applyBlank (advancePool n s)).2 := applyBlank_applied (by rw [advancePool_rest]; exact hx)
  have hrun : (if s.blank.staged then applyBlank (advancePool n s) else (true, advancePool n s)) = applyBlank (advancePool n s) := if_pos hs
  generalize hy : applyBlank (advancePool n s) = y at happ
  obtain ⟨ok, t⟩ := y
  replace hrun := hrun.trans hy
  rw [advancePool_rest n s] at happ
  obtain ⟨hsrc, hseq, hstaged, hlive, hmin, hjob⟩ := happ
  rw [jobApplyRun_eq (t := t) h1 h0 hfr hl hjob hrun]
  obtain ⟨-, hj, hb, -, hw⟩ := boundaryOver_effect ok false src xid t
  rw [hb, hj, hw]
  refine ⟨hsrc, hseq, hstaged, rfl, hlive, ?_, rfl⟩
  rw [hmin]
  exact raised_toNat (floor_of_copyRecs hx) _

end

end Sys2Proof.Machine
end

section
open Sys2Proof Sys2Proof.Machine

/-- Settles O54: the headstock tells every active device, a member answers what it has staged, and the instant adopts the staged blank. -/
theorem jobBoundariesApply : Obligations.JobBoundariesApply := by
  intro s hh
  refine ⟨fun h applyAt hda => ⟨fun hhead hnone h2 hv hg => jobBoundary_completes hh applyAt hda hhead hnone h2 hv hg,
      fun hhead hnone h2 h0 hv => ?_, fun hhead => ?_⟩,
    fun c hd hc ha hf => ⟨jobPrepare_unstaged_completes hh c hd hc ha hf, fun x h1 h3 hst hx hseq hp hr =>
      jobPrepare_staged_completes hh c hd hc ha hf h1 h3 hst hx hseq hp hr, jobPrepare_armed_completes hh c hd hc ha hf,
      fun applyAt h2 _ hlt => jobCommit_completes hh c hd hc ha hf applyAt h2 hlt,
      fun applyAt h2 => jobCommit_unprepared_completes hh c hd hc ha hf applyAt h2, jobAbort_completes hh c hd hc ha hf⟩,
    fun n src xid h1 h0 hfr hl => ⟨jobApply_unstaged_completes h1 h0 hfr hl hh, fun x hs hx => jobApply_staged_completes h1 h0 hfr hl hh hs hx⟩⟩
  · refine jobBoundary_refused hh applyAt (by decide) (by decide) ((onlyDA_of_da hda _ _).trans ((if_neg (by simp [hhead])).trans
      ((if_neg ?_).trans (if_pos ?_))))
    · simp [hnone]
      omega
    · exact ⟨h0, by simp [hv]⟩
  · exact jobBoundary_refused hh applyAt (by decide) (by decide) ((onlyDA_of_da hda _ _).trans (if_pos (by simp [hhead])))

end

section
/-! PROOFS. Debug unlock (R465, R466): the challenge, its expiry, UNLOCK and what the JTAG port reaches. -/

namespace Sys2Proof.Machine

variable {s : State}

theorem randomBytes_length (n : Nat) (s : State) : (randomBytes n s).1.length = n := by
  induction n generalizing s with
  | zero => rfl
  | succ n ih => exact congrArg Nat.succ (ih (draw s).2)

theorem randomBytes_free (n : Nat) (s : State) : (randomBytes n s).2 = { s with free := (randomBytes n s).2.free } := by
  induction n generalizing s with
  | zero => rfl
  | succ n ih => exact ih (draw s).2

theorem answered_reg {r : Reg} (st : Byte) : (settle (s.result r 0 st)).reg r 0 = w32 st.toNat := by
  rw [settle_reg, reg_result_self, Nat.zero_mod, Nat.zero_mul, Nat.zero_add]

/-! ### The challenge -/

theorem challenge_answers (hh : s.su.held = false) (hb : s.isBusy .DBG_CMD_RESULT 0 = false) : Answers .challenge s fun t =>
    ∃ n, t.obs.nonce = some n ∧ n.since = s.time.nclk ∧ n.data.length = 32 ∧ t.obs.unlocked = s.obs.unlocked ∧ t.reg .DBG_CMD_RESULT 0 = 0 ∧
      ∀ i : Nat, i < 8 → t.reg .DBG_CHAL i = w32 (leAt n.data (4 * i) 4) := by
  refine answers_of_live (dbgCmd 1 challengeRun) rfl hh ?_
  rw [show dbgCmd 1 challengeRun s = challengeRun s from if_neg (by simp [hb])]
  unfold challengeRun
  have hlen := randomBytes_length 32 s
  have hfree := randomBytes_free 32 s
  generalize randomBytes 32 s = y at hlen hfree ⊢
  obtain ⟨n, s0⟩ := y
  dsimp only at hlen hfree ⊢
  rw [hfree]
  generalize s0.free = x
  have hobs : ∀ t : State, ((List.range 8).foldl (fun s i => s.setReg .DBG_CHAL i (w32 (leAt n (4 * i) 4))) t).obs = t.obs :=
    foldl_keeps State.obs (fun s i => s.setReg .DBG_CHAL i (w32 (leAt n (4 * i) 4))) (fun s _ => setReg_obs s _ _ _) _
  refine ⟨⟨s.time.nclk, n⟩, ?_, rfl, hlen, ?_, ?_, fun i hi => ?_⟩
  · rw [settle_obs, result_obs, hobs]
  · rw [settle_obs, result_obs, hobs]
  · exact answered_reg stOK
  · rw [settle_reg]
    refine (reg_setReg_ne _ _ fun h => ?_).trans (reg_foldl_setReg _ _ _ _ (by decide) hi)
    exact absurd (regKey_inj (by omega) (by decide) h).1 (by decide)

theorem dbgNonceExpire_answers (hh : s.su.held = false) {n : Nonce} (hn : s.obs.nonce = some n) : Answers .dbgNonceExpire s fun t =>
    t.obs = { s.obs with nonce := none } ∧ n.since + secs 60 ≤ t.time.nclk := by
  refine answers_of_live nonceExpire rfl hh ?_
  unfold nonceExpire
  rw [hn]
  dsimp only
  obtain ⟨x, hx, h⟩ := advanceTo_takes (n.since + secs 60) s
  rw [h]
  exact ⟨rfl, hx⟩

/-! ### UNLOCK -/

section
variable (hh : s.su.held = false) (hb : s.isBusy .DBG_CMD_RESULT 0 = false)
include hh hb

theorem unlock_answers {sigOk : Bool} {P : State → Prop} (h : P (settle (unlockRun sigOk s))) : Answers (.unlock sigOk) s P := by
  refine answers_of_live (fun s => dbgCmd 2 (unlockRun sigOk) s) rfl hh ?_
  rw [show dbgCmd 2 (unlockRun sigOk) s = unlockRun sigOk s from if_neg (by simp [hb])]
  exact h

theorem unlock_unsupported_answers (sigOk : Bool) (hz : allZero (cut s.policy 0x80 48) = true) : Answers (.unlock sigOk) s fun t =>
    t.obs = s.obs ∧ t.reg .DBG_CMD_RESULT 0 = w32 stUNSUPPORTED.toNat := by
  refine unlock_answers hh hb ?_
  rw [show unlockRun sigOk s = s.result .DBG_CMD_RESULT 0 stUNSUPPORTED from if_pos hz]
  exact ⟨by rw [settle_obs, result_obs], answered_reg _⟩

variable (hz : allZero (cut s.policy 0x80 48) = false)
include hz

theorem unlock_closed_answers (sigOk : Bool) (h8 : 8 ≤ s.obs.fails) : Answers (.unlock sigOk) s fun t =>
    t.obs = s.obs ∧ t.reg .DBG_CMD_RESULT 0 = w32 stNO_ACCESS.toNat := by
  refine unlock_answers hh hb ?_
  rw [show unlockRun sigOk s = s.result .DBG_CMD_RESULT 0 stNO_ACCESS from (if_neg (by simp [hz])).trans (if_pos h8)]
  exact ⟨by rw [settle_obs, result_obs], answered_reg _⟩

variable (h8 : s.obs.fails < 8)
include h8

theorem unlock_failed_answers : Answers (.unlock false) s fun t =>
    t.obs = { s.obs with nonce := none, fails := s.obs.fails + 1 } ∧ t.reg .DBG_CMD_RESULT 0 = w32 stBAD_DESCRIPTOR.toNat := by
  refine unlock_answers hh hb ?_
  have hrun : unlockRun false s =
      ({ s with obs := { s.obs with nonce := none, fails := min 8 (s.obs.fails + 1) } }).result .DBG_CMD_RESULT 0 stBAD_DESCRIPTOR :=
    (if_neg (by simp [hz])).trans ((if_neg (by omega)).trans (if_pos (by simp)))
  rw [hrun]
  refine ⟨?_, answered_reg _⟩
  rw [settle_obs, result_obs, Nat.min_eq_right (by omega)]

variable {n : Nonce} (hn : s.obs.nonce = some n) (hfresh : s.time.nclk < n.since + secs 60)
  (hkey : sha384 (cut s.dbgWin 0 97) = cut s.policy 0x80 48)
include hn hfresh hkey

omit hh hb in
/-- An UNLOCK that holds is judged by the slices alone. -/
theorem unlock_good : unlockRun true s =
    match s.busySlice with
    | some c => conflict .DBG_CMD_RESULT 0 0x0D 0 c { s with obs := { s.obs with nonce := none } }
    | none =>
      (logEv ⟨0x0D, .security, 0, 0, 0, 0, 0xFF, toLe 4 (leAt s.dbgWin 104 4)⟩ (plogEv 11 (leAt s.dbgWin 104 4) 0
        { s with obs := { s.obs with nonce := none, unlocked := s.obs.unlocked ||| leAt s.dbgWin 104 4 % 256 },
                 hw := { s.hw with secOpen := s.hw.secOpen || (leAt s.dbgWin 104 4).testBit 0 } })).result .DBG_CMD_RESULT 0 stOK := by
  refine (if_neg (by simp [hz])).trans ((if_neg (by omega)).trans ((if_neg ?_).trans ?_))
  · simp [hn, hfresh, hkey]
  · rfl

theorem unlock_opens_answers (hs : s.busySlice = none) : Answers (.unlock true) s fun t =>
    t.obs.unlocked = s.obs.unlocked ||| leAt s.dbgWin 104 4 % 256 ∧ t.obs.nonce = none ∧ t.obs.fails = s.obs.fails ∧
      t.reg .DBG_CMD_RESULT 0 = 0 ∧ ∃ e, t.plog.ring = e :: s.plog.ring.take 63 ∧ e.kind = 11 := by
  refine unlock_answers hh hb ?_
  rw [unlock_good hz h8 hn hfresh hkey, hs]
  dsimp only
  refine ⟨?_, ?_, ?_, answered_reg _, ?_⟩
  · rw [settle_obs, result_obs, logEv_obs, plogEv_obs]
  · rw [settle_obs, result_obs, logEv_obs, plogEv_obs]
  · rw [settle_obs, result_obs, logEv_obs, plogEv_obs]
  · rw [settle_plog, result_plog, logEv_plog]
    exact ⟨_, rfl, rfl⟩

theorem unlock_busy_answers {k : Nat} (hs : s.busySlice = some k) : Answers (.unlock true) s fun t =>
    t.obs = { s.obs with nonce := none } ∧ t.reg .DBG_CMD_RESULT 0 = w32 (k % 16 * 256 + 3) := by
  refine unlock_answers hh hb ?_
  rw [unlock_good hz h8 hn hfresh hkey, hs]
  exact ⟨by rw [settle_obs, conflict_obs], reg_result_self _ _ _ _ _⟩

end

/-! ### The JTAG port -/

theorem jtagScan_answers (hh : s.su.held = false) : Answers (.jtagTapAccess .boundaryScan) s fun t =>
    ∃ b, t.out = s.out ++ [.jtag b] ∧ b.length = 1 := by
  refine answers_of_live (tapRun .boundaryScan) rfl hh ⟨(randomBytes 1 s).1, ?_, randomBytes_length 1 s⟩
  show (randomBytes 1 s).2.out ++ _ = _
  rfl

theorem jtagDebug_closed_answers (hh : s.su.held = false) {i : Fin 7} (hc : s.obs.unlocked.testBit (traceSources.getD i.val 0) = false) :
    Answers (.jtagTapAccess (.debug i)) s fun t => t.out = s.out ++ [.jtag [0]] ∧ t.obs = s.obs := by
  refine answers_of_live (tapRun (.debug i)) rfl hh ?_
  rw [show tapRun (.debug i) s = emit (.jtag [0]) s from if_neg (by rw [hc]; decide)]
  exact ⟨rfl, rfl⟩

end Sys2Proof.Machine
end

section
open Sys2Proof Sys2Proof.Machine

/-- Settles O56: a nonce serves one UNLOCK, UNLOCK is judged in the order of its checks, and the JTAG port reaches an open core alone. -/
theorem debugOpensByChallenge : Obligations.DebugOpensByChallenge := by
  intro s hh
  refine ⟨challenge_answers hh, fun n hn => dbgNonceExpire_answers hh hn, fun sigOk hb =>
      ⟨unlock_unsupported_answers hh hb sigOk, fun hz => unlock_closed_answers hh hb hz sigOk, fun hz h8 hs => ?_,
        fun n hz h8 hs hn hfresh hkey => ?_⟩,
    answers_of_live (tapRun .idcode) rfl hh rfl, answers_of_live (tapRun .bypass) rfl hh rfl, jtagScan_answers hh,
    fun i hc => jtagDebug_closed_answers hh hc⟩
  · subst hs
    exact unlock_failed_answers hh hb hz h8
  · subst hs
    exact ⟨unlock_opens_answers hh hb hz h8 hn hfresh hkey, fun k => unlock_busy_answers hh hb hz h8 hn hfresh hkey⟩

end

section
/-! PROOFS. SNAP and the counters whose events no command carries (R450; log entry 62). -/

namespace Sys2Proof.Machine

variable {s : State}

/-- A step that a fold comes to establishes what every step keeps, where every step keeps what that step needs. -/
theorem foldl_reaches {α : Type} {f : State → α → State} {P Q : State → Prop} {l : List α} (hP : ∀ s, ∀ a ∈ l, P s → P (f s a))
    (hQ : ∀ s a, Q s → Q (f s a)) {b : α} (hb : ∀ s, P s → Q (f s b)) (hm : b ∈ l) (s : State) (h : P s) : Q (l.foldl f s) := by
  have hkept : ∀ (l : List α) s, Q s → Q (l.foldl f s) := fun l => by
    induction l with
    | nil => exact fun _ h => h
    | cons a l ih => exact fun s h => ih _ (hQ s a h)
  induction l generalizing s with
  | nil => cases hm
  | cons a l ih =>
    rcases List.mem_cons.1 hm with rfl | hm
    · exact hkept l _ (hb s h)
    · exact ih (fun s x hx => hP s x (List.mem_cons_of_mem _ hx)) hm _ (hP s a List.mem_cons_self h)

/-- The place of a mesh bridge's outgoing bytes among the 64-bit counters. -/
def meshOutKey : Nat := regKey .MESH_OUT_BYTES 0

/-- The bridge's counter counts: the device's own counters are permitted and enabled. -/
def meshCounts (s : State) : Bool := s.counts .MESH_OUT_BYTES 0

/-- The bridge's counter is not listed with the value that an unlisted one reads as. -/
def meshTidy (s : State) : Prop := s.cnt64.find meshOutKey ≠ some 0

theorem openCounters_not_control : ∀ e ∈ openCounters, Reg.CNT_CTL.ctorIdx ≠ e.1.ctorIdx ∧ e.2 < 65536 := by decide +kernel

theorem meshCounts_openCount (s : State) (e : Reg × Nat) (he : e ∈ openCounters) (h : meshCounts s = true) :
    meshCounts (openCount e.1 e.2 s) = true := by
  obtain ⟨hne, hu⟩ := openCounters_not_control e he
  have hreg : (openCount e.1 e.2 s).reg .CNT_CTL = s.reg .CNT_CTL := by
    exact (count_reg_ne (draw s).2 _ fun hk => hne (regKey_inj (by decide) hu hk).1).trans rfl
  have hperm : (openCount e.1 e.2 s).cntPerm = s.cntPerm :=
    congrArg (fun b : BlankSt => ({ s with blank := b }).cntPerm)
      (count_keeps State.blank (fun _ _ => rfl) (fun _ _ => rfl) (draw s).2 e.1 e.2 _)
  unfold meshCounts State.counts at h ⊢
  rw [hreg, hperm]
  exact h

theorem find_put_ne_default (m : Sparse W64) (j k : Nat) (v : W64) (h : j = k ∨ m.find j ≠ some 0) : (m.put 0 k v).find j ≠ some 0 := by
  by_cases hjk : j = k
  · subst hjk
    rw [Sparse.put, Sparse.find_place_self]
    split
    · exact nofun
    · next hv => exact fun h => hv (Option.some.inj h)
  · rw [Sparse.put, Sparse.find_place_ne m _ hjk]
    exact h.resolve_left hjk

theorem meshTidy_openCount (s : State) (e : Reg × Nat) (h : meshTidy s) : meshTidy (openCount e.1 e.2 s) := by
  unfold openCount meshTidy State.count
  simp only
  split
  · split
    · exact find_put_ne_default _ _ _ _ (.inr h)
    · exact h
  · exact h

theorem meshTidy_of_counts (s : State) (h : meshCounts s = true) : meshTidy (openCount .MESH_OUT_BYTES 0 s) := by
  unfold openCount meshTidy State.count
  simp only
  rw [if_pos (show (draw s).2.counts .MESH_OUT_BYTES 0 = true from h), if_pos (by decide)]
  exact find_put_ne_default _ _ _ _ (.inl rfl)

theorem meshOut_mem : (Reg.MESH_OUT_BYTES, 0) ∈ openCounters := by
  refine List.mem_append_right _ (List.mem_flatMap.2 ⟨0, List.mem_range.2 (by decide), List.mem_cons_self⟩)

/-- SNAP leaves no counting bridge listed at 0: either it has risen or its entry has gone. -/
theorem openCountAll_meshTidy (h : meshCounts s = true) : meshTidy (openCountAll s) := by
  unfold openCountAll
  exact foldl_reaches (P := fun s => meshCounts s = true) meshCounts_openCount meshTidy_openCount meshTidy_of_counts meshOut_mem s h

/-- What SNAP takes at its edge, once the open counters have risen. -/
def snapEdge (s : State) : State :=
  let s := { s with snap := s.regs.filter (fun e => keyIsCounter e.1), snap64 := s.cnt64 }
  let s := s.setReg .CNT_SNAP_TIME_LO 0 (w32 s.ptField.toNat)
  let s := s.setReg .CNT_SNAP_TIME_HI 0 (w32 (s.ptField.toNat / 2 ^ 32))
  s.result .CNT_CMD_RESULT 0 stOK

theorem snapRun_eq (s : State) : snapRun s = snapEdge (openCountAll (elapse (usec 1) s)) := by
  unfold snapRun snapEdge
  rfl

theorem snapEdge_cnt64 (s : State) : (settle (snapGauges (snapEdge s))).cnt64 = s.cnt64 := rfl

theorem exec_of_live {c : Instr} (f : State → State) (hc : exec c s = live f s) (hh : s.su.held = false) : exec c s = .next (settle (f s)) := by
  rw [hc]
  simp [live, done, hh]

theorem snap_exec (hh : s.su.held = false) (hb : s.isBusy .CNT_CMD_RESULT 0 = false) : exec .snap s = .next (settle (snapGauges (snapRun s))) := by
  have hrun : cntCmd 1 (fun s => snapGauges (snapRun s)) s = snapGauges (snapRun s) := if_neg (by simp [hb])
  rw [← hrun]
  exact exec_of_live _ rfl hh

theorem snap_cnt64_of_answers {P : State → Prop} (hh : s.su.held = false) (hb : s.isBusy .CNT_CMD_RESULT 0 = false) (h : Answers .snap s P) :
    ∃ t, P t ∧ t.cnt64 = (openCountAll (elapse (usec 1) s)).cnt64 := by
  obtain ⟨t, ht, hP⟩ := h
  rw [snap_exec hh hb] at ht
  refine ⟨t, hP, ?_⟩
  rw [← Host.Outcome.next.inj ht, snapRun_eq]
  exact snapEdge_cnt64 _

/-- Reset, with the device's own counters permitted and enabled, and the bridge's counter listed at 0. -/
def snapWitness : State :=
  { State.reset.setReg .CNT_CTL 0 0x10000 with
    blank := { State.reset.blank with live := [⟨6, 0, zeros 12 ++ [0, 0, 1, 0]⟩] }, cnt64 := [(meshOutKey, 0)] }

theorem snapWitness_ready : snapWitness.su.held = false ∧ snapWitness.isBusy .CNT_CMD_RESULT 0 = false ∧ meshCounts snapWitness = true := by
  decide +kernel

end Sys2Proof.Machine
end

section
open Sys2Proof Sys2Proof.Machine

/-- Refutes O57: at its edge SNAP first lets the counters rise whose events no command carries (log entry 62), the 64-bit ones of the mesh bridges
among them, so it does not leave the 64-bit counters as they were. -/
theorem not_countersAndEvents : ¬ Obligations.CountersAndEvents := by
  intro h
  obtain ⟨hh, hb, hc⟩ := snapWitness_ready
  obtain ⟨t, ⟨-, -, hkept, -⟩, ht⟩ := snap_cnt64_of_answers hh hb ((h snapWitness hh).1 hb).1
  have htidy : meshTidy (openCountAll (elapse (usec 1) snapWitness)) := openCountAll_meshTidy hc
  rw [meshTidy, ← ht, hkept] at htidy
  exact htidy (if_pos rfl)

end

section
/-! PROOFS. The shavings dump and the tensor watches (R459 to R464). -/

namespace Sys2Proof.Machine

variable {s : State}

/-! ### A dump draws free values and changes nothing else -/

section
variable {α : Type} {p : State → α} (hf : ∀ s x, p { s with free := x } = p s)
include hf

theorem randomBytes_keeps (n : Nat) (s : State) : p (randomBytes n s).2 = p s := by
  rw [randomBytes_free]
  exact hf _ _

theorem shvSection_keeps (a b c : Nat) (l : List Bytes) (s : State) : p (shvSection a b c l s).2 = p s := randomBytes_keeps hf 4 s

omit hf in
theorem shvEntries_keeps {β : Type} {f : β → State → Bytes × State} (h : ∀ b s, p (f b s).2 = p s) (l : List β) (s : State) :
    p (shvEntries f l s).2 = p s := by
  induction l generalizing s with
  | nil => rfl
  | cons b l ih => exact (ih _).trans (h b s)

omit hf in
theorem shvQuarts_keeps {f : Quarter → State → Bytes × State} (h : ∀ q s, p (f q s).2 = p s) (s : State) : p (shvQuarts f s).2 = p s := by
  have hfold : ∀ (l : List Quarter) (a : Bytes × State),
      p (l.foldl (fun (a : Bytes × State) q => let (b, s) := f q a.2; (a.1 ++ b, s)) a).2 = p a.2 := fun l => by
    induction l with
    | nil => exact fun _ => rfl
    | cons q l ih => exact fun a => (ih _).trans (h q a.2)
  exact hfold _ ([], s)

theorem shvTracker_keeps (i : Nat) (s : State) : p (shvTracker i s).2 = p s := by
  unfold shvTracker
  split
  · rfl
  · exact randomBytes_keeps hf 2 s

theorem shvMesh_keeps (i : Nat) (s : State) : p (shvMesh i s).2 = p s := (randomBytes_keeps hf 4 _).trans (randomBytes_keeps hf 3 s)

theorem shvDdr_keeps (c : ChanId) (s : State) : p (shvDdr c s).2 = p s := (randomBytes_keeps hf 4 _).trans (randomBytes_keeps hf 3 s)

theorem shvCore_keeps (k : CoreId) (s : State) : p (shvCore k s).2 = p s := randomBytes_keeps hf 2 s

/-- The makers of the sections are taken as unknown functions, so that nothing evaluates a dump. -/
theorem shvDump_keeps (n : Nat) (s : State) : p (shvDump n s).2 = p s := by
  obtain ⟨Q, hQe, hQ⟩ : ∃ Q, Q = @shvQuarts ∧ ∀ {f : Quarter → State → Bytes × State}, (∀ q s, p (f q s).2 = p s) → ∀ s, p (Q f s).2 = p s :=
    ⟨_, rfl, shvQuarts_keeps⟩
  obtain ⟨E, hEe, hE⟩ : ∃ E, E = @shvEntries ∧ ∀ {β : Type} {f : β → State → Bytes × State}, (∀ b s, p (f b s).2 = p s) →
      ∀ l s, p (E f l s).2 = p s := ⟨_, rfl, shvEntries_keeps⟩
  obtain ⟨S, hSe, hS⟩ : ∃ S, S = shvSection ∧ ∀ a b c l s, p (S a b c l s).2 = p s := ⟨_, rfl, shvSection_keeps hf⟩
  have hL : ∀ {β : Type} {f : β → State → Bytes × State}, (∀ b s, p (f b s).2 = p s) → ∀ a b c l s, p (S a b c (E f l s).1 (E f l s).2).2 = p s :=
    fun h a b c l s => (hS a b c _ _).trans (hE h l s)
  rw [shvDump, ← hQe, ← hEe, ← hSe]
  refine (hQ (fun _ s => hL (shvCore_keeps hf) _ _ _ _ s) _).trans ?_
  refine (hS _ _ _ _ _).trans ?_
  refine (hQ (fun _ s => hS _ _ _ _ s) _).trans ?_
  refine (hQ (fun _ s => hL (shvDdr_keeps hf) _ _ _ _ s) _).trans ?_
  refine (hQ (fun _ s => hL (shvMesh_keeps hf) _ _ _ _ s) _).trans ?_
  refine (hQ (fun _ s => hS _ _ _ _ s) _).trans ?_
  exact hQ (fun _ s => hL (shvTracker_keeps hf) _ _ _ _ s) s

end

theorem leNat_toLe_four {x : Nat} (h : x < 2 ^ 32) : leNat (toLe 4 x) = x := by
  simp only [toLe_four, leNat, byte, BitVec.toNat_ofNat]
  omega

/-- A field of four bytes that stands after `pre`. -/
theorem leAt_field (pre suf : Bytes) {x : Nat} (h : x < 2 ^ 32) : leAt (pre ++ (toLe 4 x ++ suf)) pre.length 4 = x := by
  rw [leAt, cut, List.drop_left]
  exact (congrArg leNat (List.take_left' rfl)).trans (leNat_toLe_four h)

/-- The first twelve bytes of a padded header. -/
theorem padTo_header (m n : Nat) (r : Bytes) : ∃ suf, padTo 64 (toLe 4 m ++ toLe 2 1 ++ [byte n, 0] ++ toLe 4 25 ++ r) =
    toLe 4 m ++ (toLe 2 1 ++ [byte n, 0]) ++ (toLe 4 25 ++ suf) := by
  unfold padTo
  rw [List.take_append, List.take_of_length_le (by show 12 ≤ 64; decide)]
  simp only [List.append_assoc]
  exact ⟨_, rfl⟩

/-- A dump begins with its magic number and with the number of its sections (R460). -/
theorem shvDump_header (n : Nat) (s : State) : leAt (shvDump n s).1 0 4 = 0xD0B05A5A ∧ leAt (shvDump n s).1 8 4 = 25 := by
  obtain ⟨Q, hQ⟩ : ∃ Q, Q = @shvQuarts := ⟨_, rfl⟩
  obtain ⟨E, hE⟩ : ∃ E, E = @shvEntries := ⟨_, rfl⟩
  obtain ⟨S, hS⟩ : ∃ S, S = shvSection := ⟨_, rfl⟩
  obtain ⟨m, hm⟩ : ∃ m, m = 0xD0B05A5A := ⟨_, rfl⟩
  have hlt : m < 2 ^ 32 := by rw [hm]; decide
  rw [shvDump, ← hQ, ← hE, ← hS, ← hm]
  obtain ⟨suf, hsuf⟩ := padTo_header m n (toLe 8 s.ptField.toNat ++ padTo 16 s.hw.serial)
  rw [← List.append_assoc] at hsuf
  dsimp only
  rw [hsuf]
  simp only [List.append_assoc]
  refine ⟨leAt_field [] _ hlt, ?_⟩
  rw [← List.append_assoc (toLe 2 1), ← List.append_assoc (toLe 4 m)]
  exact leAt_field (toLe 4 m ++ (toLe 2 1 ++ [byte n, 0])) _ (by decide)

/-- A dump is taken and held; drawing its free values is all that it does besides. -/
theorem shvTake_eq (n : Nat) (s : State) : ∃ x d, shvTake n s = { s with free := x, obs := { s.obs with dump := some ⟨byte n, d⟩ } } ∧
    leAt d 0 4 = 0xD0B05A5A ∧ leAt d 8 4 = 25 := by
  obtain ⟨y, hy, hm, hn⟩ : ∃ y, y = shvDump n s ∧ leAt y.1 0 4 = 0xD0B05A5A ∧ leAt y.1 8 4 = 25 := ⟨_, rfl, shvDump_header n s⟩
  have hrest : ({ y.2 with free := 0 } : State) = { s with free := 0 } := by
    rw [hy]
    exact shvDump_keeps (p := fun s : State => { s with free := 0 }) (fun _ _ => rfl) n s
  have hs : y.2 = { s with free := y.2.free } := congrArg (fun t : State => { t with free := y.2.free }) hrest
  refine ⟨y.2.free, y.1, ?_, hm, hn⟩
  rw [shvTake, ← hy]
  exact congrArg (fun t : State => { t with obs := { t.obs with dump := some ⟨byte n, y.1⟩ } }) hs

/-! ### SHV_CMD -/

section
variable (hh : s.su.held = false)
include hh

section
variable (hb : s.isBusy .SHV_CMD_RESULT 0 = false)
include hb

theorem shv_answers {c : Instr} {code : Nat} {f : State → State} {P : State → Prop} (hc : exec c s = live (shvCmd code f) s) (h : P (settle (f s))) :
    Answers c s P := by
  refine answers_of_live (shvCmd code f) hc hh ?_
  rw [show shvCmd code f s = f s from if_neg (by simp [hb])]
  exact h

theorem shvShave_takes_answers (hp : s.tracePerm.testBit 16 = true) (hd : s.obs.dump = none) : Answers .shvShave s fun t =>
    ∃ d, t.obs.dump = some d ∧ d.trigger = 1 ∧ leAt d.data 0 4 = 0xD0B05A5A ∧ leAt d.data 8 4 = 25 ∧ t.reg .SHV_CMD_RESULT 0 = 0 ∧
      t.work = s.work ∧ t.pool = s.pool ∧ t.mem = s.mem := by
  refine shv_answers hh hb (f := shaveRun) rfl ?_
  have hrun : shaveRun s = (shvTake 1 s).result .SHV_CMD_RESULT 0 stOK := (if_neg (by simp [hp])).trans (if_neg (by simp [hd]))
  rw [hrun]
  obtain ⟨x, d, hs, hm, hn⟩ := shvTake_eq 1 s
  rw [hs]
  exact ⟨⟨byte 1, d⟩, rfl, rfl, hm, hn, answered_reg stOK, rfl, rfl, rfl⟩

theorem shv_conflict_answers {c : Instr} {code : Nat} {f : State → State} (hc : exec c s = live (shvCmd code f) s) {k : Nat}
    (hrun : f s = shvConflict k s) : Answers c s fun t => t.obs = s.obs ∧ t.reg .SHV_CMD_RESULT 0 = w32 (k % 16 * 256 + 3) := by
  refine shv_answers hh hb hc ?_
  rw [hrun]
  exact ⟨(settle_obs _).trans (conflict_obs _ _ _ _ _ _), reg_result_self _ _ _ _ _⟩

theorem shvRelease_answers (hd : s.obs.dump.isSome = true) : Answers .shvRelease s fun t =>
    t.obs = { s.obs with dump := none } ∧ t.reg .SHV_CMD_RESULT 0 = 0 := by
  refine shv_answers hh hb (f := shvReleaseRun) rfl ?_
  have hrun : shvReleaseRun s = State.result { s with obs := { s.obs with dump := none } } .SHV_CMD_RESULT 0 stOK :=
    if_neg (by simpa [Option.isSome_iff_ne_none] using hd)
  rw [hrun]
  exact ⟨rfl, answered_reg stOK⟩

theorem shvExport_answers (hd : s.obs.dump.isSome = true) : Answers .shvExport s fun t => t.obs = s.obs ∧ t.isBusy .SHV_CMD_RESULT 0 = true := by
  refine shv_answers hh hb (f := shvExportRun) rfl ?_
  rw [show shvExportRun s = s.busy .SHV_CMD_RESULT 0 from if_neg (by simpa [Option.isSome_iff_ne_none] using hd)]
  exact ⟨rfl, isBusy_busy _ _ _⟩

end

theorem shvExportDone_answers (hb : s.isBusy .SHV_CMD_RESULT 0 = true) {d : Dump} (hd : s.obs.dump = some d) : Answers .shvExportDone s fun t =>
    t.obs = { s.obs with dump := none } ∧ t.reg .SHV_CMD_RESULT 0 = 0 ∧ t.mem = s.mem := by
  refine answers_of_live shvExportDoneRun rfl hh ?_
  unfold shvExportDoneRun
  simp only [hd, hb, if_true]
  have hkeep : ∀ (l : List Bytes) (s : State), ((l.foldl (fun s b => sendUdp 2 b s) s).obs, (l.foldl (fun s b => sendUdp 2 b s) s).mem) = (s.obs, s.mem) :=
    foldl_keeps (fun s : State => (s.obs, s.mem)) (fun s b => sendUdp 2 b s)
      (fun s b => sendUdp_keeps (fun s : State => (s.obs, s.mem)) (fun _ _ => rfl) (fun _ _ => rfl) s 2 b)
  have hsent := hkeep (shvChunks (d.data.length / 1400 + 1) d.data) s
  obtain ⟨t, ht⟩ : ∃ t, t = (shvChunks (d.data.length / 1400 + 1) d.data).foldl (fun s b => sendUdp 2 b s) s := ⟨_, rfl⟩
  rw [← ht] at hsent ⊢
  obtain ⟨ho, hm⟩ := Prod.mk.inj hsent
  refine ⟨?_, answered_reg stOK, hm⟩
  rw [settle_obs, result_obs, ho]

/-! ### Watches -/

section
variable {h : CmdHdr} {t : TenantId} (hc : s.classOf h.iss = .ta t)
include hc

omit hh in
theorem onlyTA_of_ta (cmd : Nat) (f : TenantId → State → State) : onlyTA h cmd f s = f t s := by
  unfold onlyTA
  rw [hc]

theorem watchSet_completes (hk : s.kcoreEn = true) {a : Bytes} {g : Prog} {i : Nat} (hp : bit s.tracePerm t.val = true) (hl : a.length = 28)
    (h4 : leAt a 4 1 ≤ 1) (h5 : leAt a 5 3 = 0) (h10 : leAt a 0x10 8 % 512 = 0) (h18 : leAt a 0x18 4 ≠ 0) (h18' : leAt a 0x18 4 ≤ 4096)
    (hg : s.prog (leAt a 0 2) = some g) (ht : g.tenant = t)
    (hok : watchOk (imageOf g.image) (leAt a 2 2) (leAt a 4 1 = 1) (leAt a 8 4) (leAt a 0xC 4) = true)
    (hi : ((List.range 16).find? fun i => !(s.obs.watches.any fun w => w.prog = leAt a 0 2 && w.num = i)) = some i) :
    Completes (.watchSet h a) s fun u =>
      u.obs.watches = s.obs.watches ++
        [⟨leAt a 0 2, i, leAt a 2 2, leAt a 4 1 = 1, w32 (leAt a 8 4), w32 (leAt a 0xC 4), leAt a 0x10 8, leAt a 0x18 4, 0⟩] ∧
      u.Replied h 0x604 0 0 [byte i, 0, 0, 0] ∧ u.work = s.work ∧ u.mem = s.mem := by
  refine completes_of_pumped (watchSetRun h a) rfl hh ?_
  have hown : ¬(s.prog (leAt a 0 2)).any (fun g => decide (g.tenant ≠ t)) = true := by simp [hg, ht]
  have hform : ¬(a.length ≠ 28 ∨ 1 < leAt a 4 1 ∨ leAt a 5 3 ≠ 0 ∨ leAt a 0x10 8 % 512 ≠ 0 ∨ leAt a 0x18 4 = 0 ∨ 4096 < leAt a 0x18 4) := by omega
  have hfree : ((List.range 16).find? fun i => !((s.obs.watches.filter fun w => w.prog = leAt a 0 2).any fun w => w.num = i)) = some i := by
    simpa only [List.any_filter] using hi
  have hrun : watchSetRun h a s = replyOk h 0x604 [byte i, 0, 0, 0] { s with obs := { s.obs with watches := s.obs.watches ++
      [⟨leAt a 0 2, i, leAt a 2 2, leAt a 4 1 = 1, w32 (leAt a 8 4), w32 (leAt a 0xC 4), leAt a 0x10 8, leAt a 0x18 4, 0⟩] } } := by
    refine (onlyTA_of_ta hc _ _).trans ((if_neg hown).trans ((if_neg (by simp [hk])).trans ((if_neg (by simp [hp])).trans ((if_neg hform).trans ?_))))
    unfold onProg
    simp only [hg]
    rw [if_neg (by simp [ht]), if_neg (by simp [hok]), hfree]
  rw [hrun]
  exact ⟨congrArg ObsSt.watches (reply_obs _ _ _ _ _ _ _), replyOk_replied _ _ _ _, reply_work _ _ _ _ _ _ _, reply_mem _ _ _ _ _ _ _⟩

theorem watchSet_denied_completes (hk : s.kcoreEn = true) {a : Bytes} (hp : bit s.tracePerm t.val = false) (hg : s.prog (leAt a 0 2) = none) :
    Completes (.watchSet h a) s fun u => u.obs = s.obs ∧ u.Replied h 0x604 stNO_ACCESS 0 [] := by
  refine completes_of_pumped (watchSetRun h a) rfl hh ?_
  have hrun : watchSetRun h a s = replySt h 0x604 stNO_ACCESS s :=
    (onlyTA_of_ta hc _ _).trans ((if_neg (by simp [hg])).trans ((if_neg (by simp [hk])).trans (if_pos (by simp [hp]))))
  rw [hrun]
  exact ⟨reply_obs _ _ _ _ _ _ _, replySt_replied _ _ _ _ (by decide) (by decide)⟩

theorem watchClear_completes {p : W16} {n : Byte} {g : Prog} {w : Watch} (hg : s.prog p.toNat = some g) (ht : g.tenant = t) (hw : w ∈ s.obs.watches)
    (hp : w.prog = p.toNat) (hn : w.num = n.toNat) : Completes (.watchClear h p n) s fun u =>
      u.obs.watches = s.obs.watches.filter (fun w => !(w.prog = p.toNat && w.num = n.toNat)) ∧ u.Replied h 0x605 0 0 [] ∧ u.work = s.work := by
  refine completes_of_pumped (watchClearRun h p n) rfl hh ?_
  have hset : (s.obs.watches.any fun w => w.prog = p.toNat && w.num = n.toNat) = true := List.any_eq_true.2 ⟨w, hw, by simp [hp, hn]⟩
  have hrun : watchClearRun h p n s = replyOk h 0x605 []
      { s with obs := { s.obs with watches := s.obs.watches.filter fun w => !(w.prog = p.toNat && w.num = n.toNat) } } := by
    refine (onlyTA_of_ta hc _ _).trans ?_
    unfold onProg
    simp only [hg]
    rw [if_neg (by simp [ht]), if_neg (by rw [hset]; decide)]
  rw [hrun]
  exact ⟨congrArg ObsSt.watches (reply_obs _ _ _ _ _ _ _), replyOk_replied _ _ _ _, reply_work _ _ _ _ _ _ _⟩

end

end

end Sys2Proof.Machine
end

section
open Sys2Proof Sys2Proof.Machine

/-- Settles O58: a dump is held from SHAVE to RELEASE or EXPORT, and a tenant that may trace sets and clears its programs' watches. -/
theorem dumpsAndWatches : Obligations.DumpsAndWatches := by
  intro s hh
  refine ⟨fun hb => ⟨shvShave_takes_answers hh hb,
      fun hp hd => shv_conflict_answers hh hb (f := shaveRun) (k := 1) rfl ((if_neg (by simp [hp])).trans (if_pos hd)), shvRelease_answers hh hb,
      fun hd => shv_conflict_answers hh hb (f := shvReleaseRun) (k := 0) rfl (if_pos (by simp [hd])), shvExport_answers hh hb,
      fun hd => shv_conflict_answers hh hb (f := shvExportRun) (k := 0) rfl (if_pos (by simp [hd]))⟩,
    fun d hb hd => shvExportDone_answers hh hb hd, fun h t hc hk =>
      ⟨fun a g i hp hl h4 h5 h10 h18 h18' hg ht hok hi => watchSet_completes hh hc hk hp hl h4 h5 h10 h18 h18' hg ht hok hi,
        fun a hp hg => watchSet_denied_completes hh hc hk hp hg, fun p n g w hg ht hw hp hn => watchClear_completes hh hc hg ht hw hp hn⟩⟩

end

section
/-! PROOFS. Register accesses (R15, R16, R268, R463): writes by access code, latched pairs, REG_READ and REG_WRITE. -/

namespace Sys2Proof.Machine

variable {s : State}

/-! ### Masked writes -/

theorem w32_toNat (v : W32) : w32 v.toNat = v := BitVec.eq_of_toNat_eq (Nat.mod_eq_of_lt v.isLt)

/-- A write of every bit of a register. -/
theorem mixed_all (old new : W32) : mixed 0xFFFFFFFF old new = new := by
  rw [mixed, Nat.sub_self, Nat.and_zero, Nat.zero_or, show 0xFFFFFFFF = 2 ^ 32 - 1 from rfl, Nat.and_two_pow_sub_one_of_lt_two_pow new.isLt]
  exact w32_toNat _

theorem mixed_none (old new : W32) : mixed 0 old new = old := by
  rw [mixed, Nat.and_zero, Nat.or_zero, Nat.sub_zero, show 0xFFFFFFFF = 2 ^ 32 - 1 from rfl, Nat.and_two_pow_sub_one_of_lt_two_pow old.isLt]
  exact w32_toNat _

/-- The low bits of a write to them. -/
theorem mixed_low (old new : W32) : (mixed 0x3FF old new).toNat % 1024 = new.toNat % 1024 := by
  have h : (mixed 0x3FF old new).toNat = (old.toNat &&& (0xFFFFFFFF - 0x3FF)) ||| (new.toNat &&& 0x3FF) := by
    refine Nat.mod_eq_of_lt (Nat.or_lt_two_pow ?_ ?_)
    · exact lt_of_le_of_lt Nat.and_le_left old.isLt
    · exact lt_of_le_of_lt Nat.and_le_left new.isLt
  rw [h, show 1024 = 2 ^ 10 from rfl, Nat.or_mod_two_pow, Nat.and_mod_two_pow, Nat.and_mod_two_pow]
  norm_num
  rw [show 1023 = 2 ^ 10 - 1 from rfl, Nat.and_two_pow_sub_one_eq_mod, Nat.mod_mod]

theorem fld_low (v : W32) : fld v 9 0 = v.toNat % 1024 := by
  unfold fld bits
  norm_num

/-! ### Register writes -/

theorem writeAddr_none {a : Nat} (h : locate a = none) (v : W32) (s : State) : writeAddr a v s = s := by
  unfold writeAddr
  rw [h]

theorem writeAddr_some {a : Nat} {r : Reg} {u : Nat} (h : locate a = some ⟨r, u, false⟩) (v : W32) (s : State) :
    writeAddr a v s = writeReg a ⟨r, u, false⟩ v s := by
  unfold writeAddr
  rw [h]
  rfl

/-- The plain effect of a write to a register whose bits no lock guards. -/
theorem writePlain_unguarded {r : Reg} (h : r.info.rwl = 0) (a u : Nat) (v : W32) (s : State) : writePlain a r u v s =
    s.setReg r u (mixed (v.toNat &&& r.info.w1c) (mixed r.info.rw (s.reg r u) (nearest r (mixed r.info.rw (s.reg r u) v))) 0) := by
  unfold writePlain
  simp only [h, ne_eq, not_true_eq_false, false_and, and_false, if_false, ite_self, Nat.or_zero]

/-- A mailbox word takes what is written to it. -/
theorem writeAddr_mbxIn {a i : Nat} (h : locate a = some ⟨.MBX_IN, i, false⟩) (v : W32) (s : State) :
    writeAddr a v s = s.setReg .MBX_IN i v := by
  rw [writeAddr_some h]
  refine (writePlain_unguarded rfl a i v s).trans ?_
  show s.setReg .MBX_IN i (mixed (v.toNat &&& 0) (mixed 0xFFFFFFFF (s.reg .MBX_IN i) (mixed 0xFFFFFFFF (s.reg .MBX_IN i) v)) 0) = _
  rw [Nat.and_zero, mixed_none, mixed_all, mixed_all]

theorem writeAddr_tamperStat {a : Nat} (h : locate a = some ⟨.TAMPER_STAT, 0, false⟩) (v : W32) (s : State) :
    writeAddr a v s = { s with hw := { s.hw with tamper := s.hw.tamper &&& ~~~(byte v.toNat) } } := writeAddr_some h v s

theorem writeAddr_tamperCfg_locked {a : Nat} (h : locate a = some ⟨.TAMPER_CFG, 0, false⟩) (hl : s.su.locked = true) (v : W32) :
    writeAddr a v s = rwlRefused a v s := (writeAddr_some h v s).trans (if_pos hl)

/-! #### The power cap -/

/-- What a write of the power cap leaves in its register. -/
def capWritten (old v : W32) : W32 := mixed 0x3FF old (nearest .PWR_CAP (mixed 0x3FF old v))

theorem capWritten_low (old v : W32) : fld (capWritten old v) 9 0 = max 450 (min 980 (fld v 9 0)) := by
  have hclamp : ∀ x : W32, (nearest .PWR_CAP x).toNat % 1024 = max 450 (min 980 (x.toNat % 1024)) := fun x => by
    show (w32 (setBits x.toNat 9 0 (max 450 (min 980 (fld x 9 0))))).toNat % 1024 = _
    rw [fld_low]
    simp only [w32, setBits, bits, BitVec.toNat_ofNat]
    omega
  rw [fld_low, capWritten, mixed_low, hclamp, mixed_low, fld_low]

theorem writeAddr_pwrCap {a : Nat} (h : locate a = some ⟨.PWR_CAP, 0, false⟩) (v : W32) (s : State) :
    writeAddr a v s = capJudge (s.setReg .PWR_CAP 0 (capWritten (s.reg .PWR_CAP) v)) := by
  rw [writeAddr_some h]
  refine (congrArg capJudge (writePlain_unguarded rfl a 0 v s)).trans ?_
  show capJudge (s.setReg .PWR_CAP 0 (mixed (v.toNat &&& 0) (capWritten (s.reg .PWR_CAP) v) 0)) = _
  rw [Nat.and_zero, mixed_none]

/-- Judging the mean power against the cap changes no register but counts, and of the power state only CAP_UNMET. -/
theorem capJudge_effect (s : State) : (capJudge s).reg .PWR_CAP = s.reg .PWR_CAP ∧
    (capJudge s).pwr = { s.pwr with unmet := s.pwr.unmet || (s.capWatts < s.meanPower && !s.stepLeft) } := by
  unfold capJudge
  by_cases hc : s.capWatts < s.meanPower ∧ (!s.stepLeft) = true ∧ (!s.pwr.unmet) = true
  · rw [if_pos hc]
    obtain ⟨h1, h2, -⟩ := hc
    refine ⟨(offSays_reg (u := 0) rfl (by decide)).logEv (show 2 < 65536 by decide) _, ?_⟩
    rw [logEv_pwr]
    simp [h1, h2]
  · rw [if_neg hc]
    refine ⟨rfl, ?_⟩
    have hsame : (s.pwr.unmet || (s.capWatts < s.meanPower && !s.stepLeft)) = s.pwr.unmet := by
      cases hu : s.pwr.unmet with
      | true => rfl
      | false =>
        rw [hu] at hc
        simpa using hc
    rw [hsame]

theorem writeAddr_pwrCap_effect {a : Nat} (h : locate a = some ⟨.PWR_CAP, 0, false⟩) (v : W32) (s : State) :
    (writeAddr a v s).rfld .PWR_CAP 0 9 0 = max 450 (min 980 (fld v 9 0)) ∧
    (writeAddr a v s).pwr =
      { s.pwr with unmet := s.pwr.unmet || ((writeAddr a v s).capWatts < s.meanPower && !s.stepLeft) } := by
  rw [writeAddr_pwrCap h]
  obtain ⟨hreg, hpwr⟩ := capJudge_effect (s.setReg .PWR_CAP 0 (capWritten (s.reg .PWR_CAP) v))
  have hleft : (s.setReg .PWR_CAP 0 (capWritten (s.reg .PWR_CAP) v)).stepLeft = s.stepLeft := by
    have hreg : ∀ r : Reg, r.ctorIdx ≠ Reg.PWR_CAP.ctorIdx → (s.setReg .PWR_CAP 0 (capWritten (s.reg .PWR_CAP) v)).reg r = s.reg r :=
      fun r hr => reg_setReg_ne _ _ fun hk => hr (regKey_inj (by decide) (by decide) hk).1
    have hmay : (s.setReg .PWR_CAP 0 (capWritten (s.reg .PWR_CAP) v)).mayGate = s.mayGate := rfl
    unfold State.stepLeft State.eclkTarget State.eclkAllowed State.eclkMax State.features State.rfld
    rw [hreg .ECLK_REQ (by decide), hreg .FEATURES (by decide), hmay]
    rfl
  have hcap : (capJudge (s.setReg .PWR_CAP 0 (capWritten (s.reg .PWR_CAP) v))).capWatts =
      (s.setReg .PWR_CAP 0 (capWritten (s.reg .PWR_CAP) v)).capWatts := by
    unfold State.capWatts State.rfld
    rw [hreg]
  refine ⟨?_, ?_⟩
  · rw [State.rfld, hreg, reg_setReg_self, capWritten_low]
  · rw [hpwr, hleft, hcap]
    rfl

/-! ### Reads -/

/-- What a read touches: the draw of an open counter, its count, and the latch. -/
structure OffRead {α : Type} (p : State → α) : Prop where
  regs : ∀ s x, p { s with regs := x } = p s
  cnt64 : ∀ s x, p { s with cnt64 := x } = p s
  free : ∀ s x, p { s with free := x } = p s
  latch : ∀ s x, p { s with latch := x } = p s

theorem OffRead.readNow {α : Type} {p : State → α} (hp : OffRead p) (view : Bool) (l : Loc) (s : State) : p (readNow view l s).2 = p s := by
  unfold Machine.readNow
  extract_lets s1
  have h1 : p s1 = p s := ite_keeps _ ((count_keeps p hp.regs hp.cnt64 _ _ _ _).trans (hp.free s _)) rfl
  clear_value s1
  split
  · exact h1
  · split
    · exact (hp.free s1 _).trans h1
    · exact h1

theorem OffRead.latched {α : Type} {p : State → α} (hp : OffRead p) (view : Bool) (l : Loc) (a : Nat) (s : State) :
    p (match s.highOf view l with | some h => { s with latch := some (a, h) } | none => s) = p s := by
  split
  · exact hp.latch s _
  · rfl

theorem OffRead.readAddr {α : Type} {p : State → α} (hp : OffRead p) (a : Nat) (s : State) : p (readAddr a s).2 = p s := by
  unfold Machine.readAddr
  extract_lets view
  split
  · rfl
  · next l _ =>
    have hread : p (Machine.readNow view l s).2 = p s := hp.readNow view l s
    split
    · split_ifs
      · exact hp.latch s _
      · exact (hp.latched view l _ _).trans hread
    · exact (hp.latched view l _ _).trans hread

/-- A read of the low half of pool time. -/
theorem readAddr_poolTime {a : Nat} (hl : s.latch = none) (h : locate a = some ⟨.POOL_TIME_LO, 0, false⟩) :
    readAddr a s = (w32 s.ptField.toNat, { s with latch := some (a + 4, w32 (s.ptField.toNat / 2 ^ 32)) }) := by
  have hshow : ∀ view, s.readReg view .POOL_TIME_LO 0 = w32 s.ptField.toNat := fun view => if_neg (by cases view <;> decide)
  have hhigh : ∀ view, s.highOf view ⟨.POOL_TIME_LO, 0, false⟩ = some (w32 (s.ptField.toNat / 2 ^ 32)) := fun view =>
    congrArg some (show s.readReg view .POOL_TIME_HI 0 = _ from if_neg (by cases view <;> decide))
  have hnow : ∀ view, readNow view ⟨.POOL_TIME_LO, 0, false⟩ s = (w32 s.ptField.toNat, s) := fun view => by
    show (w32 ((s.readReg view .POOL_TIME_LO 0).toNat &&& 0xFFFFFFFF), s) = _
    rw [hshow, show 0xFFFFFFFF = 2 ^ 32 - 1 from rfl, Nat.and_two_pow_sub_one_of_lt_two_pow (w32 s.ptField.toNat).isLt, w32_toNat]
  unfold readAddr
  rw [h]
  simp only [hl, hnow, hhigh]

theorem readAddr_latched {a : Nat} {l : Loc} (h : locate a = some l) {v : W32} (hl : s.latch = some (a, v)) :
    readAddr a s = (v, { s with latch := none }) := by
  unfold readAddr
  rw [h]
  simp only [hl, if_true]

/-! ### REG_READ and REG_WRITE -/

theorem regData_sent (m : MgtMsg) (v : W32) (st : Byte) (s : State) : ∃ q : Msg, (regData m v st 0 s).Sent q ∧ q.op = 7 ∧ q.dst = m.src ∧
    q.tag = m.tag ∧ q.status = st ∧ q.payload = toLe 4 v.toNat ++ [st, 0, 0, 0] := ⟨_, send_sent s _, rfl, rfl, rfl, rfl, rfl⟩

theorem regAccess_granted {m : MgtMsg} (hda : s.classOfEp m.src = .da) (hc : s.closedHint = none) (f : State → W32 × State) :
    regAccess m m.payload.length f s = regData m (f s).1 stOK 0 (f s).2 := by
  unfold regAccess
  rw [if_neg (by simp [hda]), hc]
  exact if_neg (by simp)

theorem regAccess_denied {m : MgtMsg} (hda : s.classOfEp m.src ≠ .da) (n : Nat) (f : State → W32 × State) :
    regAccess m n f s = regData m 0 stNO_ACCESS 0 s := if_pos hda

section
variable (hh : s.su.held = false)
include hh

theorem registerWrite_completes {a v : W32} {P : State → Prop} (h : P (writeAddr a.toNat v s)) : Completes (.registerWrite a v) s P :=
  completes_of_pumped (writeAddr a.toNat v) rfl hh h

theorem i3cWrite_completes {a v : W32} {P : State → Prop} (h : P (writeAddr a.toNat v { s with i3c := a })) :
    Completes (.i3cPrivateWrite a (some v)) s P := completes_of_pumped (i3cWrite a (some v)) rfl hh h

theorem pairRead_answers {a : W32} {v : W32} {t : State} (h : readAddr a.toNat s = (v, t)) {P : State → Prop}
    (hP : P (settle (emit (.readData v) t))) : Answers (.latchedPairRead a) s P := by
  refine answers_of_live (pairRead a) rfl hh ?_
  unfold pairRead
  rw [h]
  exact hP

theorem i3cRead_answers : Answers .i3cPrivateRead s fun t => t.i3c = s.i3c + 4 ∧ t.out = s.out ++ [.readData (readAddr s.i3c.toNat s).1] := by
  refine answers_of_live i3cRead rfl hh ?_
  have hp : OffRead fun s : State => (s.i3c, s.out) := by constructor <;> intro _ _ <;> rfl
  have hread := hp.readAddr s.i3c.toNat s
  obtain ⟨y, hy⟩ : ∃ y, y = readAddr s.i3c.toNat s := ⟨_, rfl⟩
  unfold i3cRead
  rw [← hy] at hread ⊢
  obtain ⟨hi, ho⟩ := Prod.mk.inj hread
  exact ⟨congrArg (· + 4) hi, congrArg (· ++ [Out.readData y.1]) ho⟩

theorem regWrite_mbxIn_completes {a v : W32} {i : Nat} (ha : locate a.toNat = some ⟨.MBX_IN, i, false⟩) (hi : i < 48) {m : MgtMsg}
    (hda : s.classOfEp m.src = .da) (hc : s.closedHint = none) (h8 : m.payload.length = 8) (h0 : leAt m.payload 0 4 = a.toNat)
    (h4 : leAt m.payload 4 4 = v.toNat) : Completes (.regWrite m) s fun u =>
      u.reg .MBX_IN i = v ∧ ∃ q : Msg, u.Sent q ∧ q.op = 7 ∧ q.dst = m.src ∧ q.tag = m.tag ∧ q.status = 0 := by
  refine completes_of_pumped (regWriteRx m) rfl hh ?_
  have hrun : regWriteRx m s = regData m 0 stOK 0 (s.setReg .MBX_IN i v) := by
    unfold regWriteRx
    rw [← h8, regAccess_granted hda hc, h0, h4, w32_toNat, writeAddr_mbxIn ha]
  rw [hrun]
  obtain ⟨q, hq, hop, hdst, htag, hst, -⟩ := regData_sent m 0 stOK (s.setReg .MBX_IN i v)
  refine ⟨?_, q, hq, hop, hdst, htag, hst⟩
  exact ((offSays_reg (r := .MBX_IN) (u := i) rfl (by omega)).send _ _).trans (reg_setReg_self _ _ _ _)

theorem regRead_denied_completes {m : MgtMsg} (hda : s.classOfEp m.src ≠ .da) : Completes (.regRead m) s fun u =>
    u.latch = s.latch ∧ u.hw = s.hw ∧
      ∃ q : Msg, u.Sent q ∧ q.op = 7 ∧ q.dst = m.src ∧ q.status = stNO_ACCESS ∧ q.payload = toLe 4 0 ++ [stNO_ACCESS, 0, 0, 0] := by
  refine completes_of_pumped (regReadRx m) rfl hh ?_
  rw [show regReadRx m s = regData m 0 stNO_ACCESS 0 s from regAccess_denied hda _ _]
  obtain ⟨q, hq, hop, hdst, -, hst, hpay⟩ := regData_sent m 0 stNO_ACCESS s
  exact ⟨send_latch _ _, send_hw _ _, q, hq, hop, hdst, hst, hpay⟩

theorem regRead_granted_completes {m : MgtMsg} (hda : s.classOfEp m.src = .da) (hc : s.closedHint = none) (h4 : m.payload.length = 4) :
    Completes (.regRead m) s fun u => ∃ q : Msg, u.Sent q ∧ q.op = 7 ∧ q.dst = m.src ∧ q.tag = m.tag ∧ q.status = 0 ∧
      q.payload = toLe 4 (readAddr (leAt m.payload 0 4) s).1.toNat ++ [0, 0, 0, 0] := by
  refine completes_of_pumped (regReadRx m) rfl hh ?_
  have hrun : regReadRx m s = regData m (readAddr (leAt m.payload 0 4) s).1 stOK 0 (readAddr (leAt m.payload 0 4) s).2 := by
    unfold regReadRx
    rw [← h4, regAccess_granted hda hc]
  rw [hrun]
  exact regData_sent m _ stOK _

end

end Sys2Proof.Machine
end

section
open Sys2Proof Sys2Proof.Machine

/-- Settles O59: writes act by access code, a read of a low half latches the high half, and REG_READ and REG_WRITE serve administrators alone. -/
theorem registerAccesses : Obligations.RegisterAccesses := by
  intro s hh
  refine ⟨fun a v h => ⟨registerWrite_completes hh (writeAddr_none h v s), i3cWrite_completes hh (writeAddr_none h v _),
      pairRead_answers hh (show readAddr a.toNat s = (0, s) by unfold readAddr; rw [h]) rfl⟩,
    fun a v i ha hi => ⟨registerWrite_completes hh ?_, i3cWrite_completes hh ?_, fun m hda hc h8 h0 h4 =>
      regWrite_mbxIn_completes hh ha hi hda hc h8 h0 h4⟩,
    fun a v ha => registerWrite_completes hh (writeAddr_tamperStat ha v s), fun a v ha hl => registerWrite_completes hh ?_,
    fun a v ha => registerWrite_completes hh (writeAddr_pwrCap_effect ha v s),
    fun a => completes_of_pumped (i3cWrite a none) rfl hh rfl, i3cRead_answers hh,
    fun a l ha => ⟨fun v hl => pairRead_answers hh (readAddr_latched ha hl) ⟨rfl, rfl⟩, fun hl h0 => ?_⟩,
    fun m => ⟨regRead_denied_completes hh, regRead_granted_completes hh⟩⟩
  · rw [writeAddr_mbxIn ha]
    exact ⟨reg_setReg_self _ _ _ _, rfl⟩
  · rw [writeAddr_mbxIn ha]
    exact ⟨reg_setReg_self _ _ _ _, rfl⟩
  · rw [writeAddr_tamperCfg_locked ha hl]
    exact ⟨logEv_hw _ _, logEv_mem _ _⟩
  · subst h0
    exact pairRead_answers hh (readAddr_poolTime hl ha) ⟨rfl, rfl⟩

end

section
/-! PROOFS. Quarter resets (R427, R430): by command, by a drain that takes too long, and by a watchdog. -/

namespace Sys2Proof.Machine

variable {s : State}

/-! ### What a quarter's restart changes -/

section
variable {α : Type} {p : State → α}

theorem offSays_of_regs (hr : ∀ s x, p { s with regs := x } = p s) (hc : ∀ s x, p { s with cnt64 := x } = p s)
    (hlog : ∀ s x, p { s with log := x } = p s) (hout : ∀ s x, p { s with out := x } = p s) (hlinks : ∀ s x, p { s with links := x } = p s)
    (hcoord : ∀ s x, p { s with coord := x } = p s) (hobs : ∀ s x, p { s with obs := x } = p s) (hfree : ∀ s x, p { s with free := x } = p s) :
    OffSays p := ⟨fun s r u n _ _ => count_keeps p hr hc s r u n, hlog, hout, hlinks, hcoord, hobs, hfree⟩

/-- Steps 6, 7 and 9 for one quarter. -/
def quarterSteps (q : Quarter) (s : State) : State := startLinks [q] (startChans [q] true (startCores [q] s))

theorem quarterBack_eq (q : Quarter) (s : State) : quarterBack q s = quarterSteps q (startQuarter true q s) := rfl

theorem quarterSteps_keeps (hclk : ∀ s x, p { s with clk := x } = p s) (hwave : ∀ s w a, p { s with su := { s.su with wave := w, waveAt := a } } = p s)
    (hchans : ∀ s x, p { s with chans := x } = p s) (hlinks : ∀ s x, p { s with links := x } = p s) (q : Quarter) (s : State) :
    p (quarterSteps q s) = p s := by
  have hcores : p (startCores [q] s) = p s := by
    unfold startCores
    exact ite_keeps _ rfl ((hwave _ _ _).trans (foldl_keeps p _ (fun s q => ite_keeps _ (hclk s _) rfl) _ s))
  have hchannels : ∀ s, p (startChans [q] true s) = p s := fun s =>
    foldl_keeps p _ (fun s c => ite_keeps _ rfl (ite_keeps _ (hchans s _) (hchans s _))) _ s
  have hdetect : ∀ s, p (startLinks [q] s) = p s := fun s =>
    foldl_keeps p _ (fun s l => ite_keeps _ rfl (ite_keeps _ (ite_keeps _ (hlinks s _) rfl) (hlinks s _))) _ s
  exact (hdetect _).trans ((hchannels _).trans hcores)

end

theorem quarterBack_quart_self (q : Quarter) (s : State) : (quarterBack q s).quart q = ⟨2, none⟩ :=
  (quarterSteps_keeps (p := fun s => s.quart q) (fun _ _ => rfl) (fun _ _ _ => rfl) (fun _ _ => rfl) (fun _ _ => rfl) q _).trans
    (startQuarter_quart_self true q s)

theorem quarterBack_quart_ne {q i : Quarter} (h : i ≠ q) (s : State) : (quarterBack q s).quart i = s.quart i :=
  (quarterSteps_keeps (p := fun s => s.quart i) (fun _ _ => rfl) (fun _ _ _ => rfl) (fun _ _ => rfl) (fun _ _ => rfl) q _).trans
    (startQuarter_quart_ne true h.symm s)

theorem quarterAnswer_keeps {α : Type} {p : State → α} (hr : ∀ s x, p { s with regs := x } = p s) (s : State) : p (quarterAnswer s) = p s :=
  ite_keeps _ (hr s _) rfl

/-! ### The command -/

section
variable (hh : s.su.held = false) (q : Quarter) (h0 : s.pwr.pfPhase = 0)
include hh h0

theorem quarterReset_answers (hb : s.isBusy .RST_CMD_RESULT 0 = false) (h2 : (s.quart q).st = 2) : Answers (.quarterReset q) s fun t =>
    t.quart q = ⟨2, some ⟨0, s.time.nclk⟩⟩ ∧ (∀ i : Quarter, i ≠ q → t.quart i = s.quart i) ∧ t.isBusy .RST_CMD_RESULT 0 = true ∧
      t.mem = s.mem ∧ t.links = s.links ∧ t.pool = s.pool := by
  refine answers_of_live (quarterResetRun q) rfl hh ?_
  have hrun : quarterResetRun q s = closeJournals (fun k => k / 16 = q.val)
      { s.busy .RST_CMD_RESULT 0 with quarts := upd s.quarts q fun x => { x with drain := some ⟨0, s.time.nclk⟩ } } :=
    (if_neg (by simp [h0])).trans ((if_neg (by simp [hb])).trans (if_neg (by simp [h2])))
  rw [hrun]
  have hq : ∀ i, (settle (closeJournals (fun k => k / 16 = q.val)
      { s.busy .RST_CMD_RESULT 0 with quarts := upd s.quarts q fun x => { x with drain := some ⟨0, s.time.nclk⟩ } })).quart i =
      (upd s.quarts q fun x => { x with drain := some ⟨0, s.time.nclk⟩ })[i] := fun i => by
    show (closeJournals _ _).quarts[i] = _
    rw [closeJournals_quarts]
  refine ⟨?_, fun i hi => ?_, ?_, ?_, ?_, ?_⟩
  · rw [hq, upd_self]
    show (⟨(s.quart q).st, _⟩ : Quart) = _
    rw [h2]
  · rw [hq, upd_ne _ _ hi.symm]
    rfl
  · exact (closeJournals_isBusy (by decide) (by decide) (by decide) _ _).trans (isBusy_busy s _ _)
  · rw [settle_mem, closeJournals_mem]
    rfl
  · rw [settle_links, closeJournals_links]
    rfl
  · rw [settle_pool, closeJournals_pool]
    rfl

theorem quarterReset_conflict_answers (hb : s.isBusy .RST_CMD_RESULT 0 = false) (h2 : (s.quart q).st ≠ 2) : Answers (.quarterReset q) s fun t =>
    t.quarts = s.quarts ∧ t.reg .RST_CMD_RESULT 0 = w32 ((s.quart q).st % 16 * 256 + 3) ∧ t.mem = s.mem := by
  refine answers_of_live (quarterResetRun q) rfl hh ?_
  have hrun : quarterResetRun q s = conflict .RST_CMD_RESULT 0 2 q.val (s.quart q).st s :=
    (if_neg (by simp [h0])).trans ((if_neg (by simp [hb])).trans (if_pos h2))
  rw [hrun]
  exact ⟨(settle_quarts _).trans (conflict_quarts _ _ _ _ _ _), reg_result_self _ _ _ _ _, (settle_mem _).trans (conflict_mem _ _ _ _ _ _)⟩

end

/-! ### The end of the drain -/

theorem quarterOrderly_quart_self (q : Quarter) (s : State) : (quarterOrderly q s).quart q = ⟨2, none⟩ := by
  unfold quarterOrderly
  refine (quarterAnswer_keeps (p := fun s => s.quart q) (fun _ _ => rfl) _).trans ?_
  rw [count_quart]
  exact quarterBack_quart_self q _

theorem quarterOrderly_quart_ne {q i : Quarter} (h : i ≠ q) (s : State) : (quarterOrderly q s).quart i = s.quart i := by
  have hoff : OffQuarter fun s : State => s.quart i := by constructor <;> intro _ _ <;> rfl
  unfold quarterOrderly
  refine (quarterAnswer_keeps (p := fun s => s.quart i) (fun _ _ => rfl) _).trans ?_
  rw [count_quart, quarterBack_quart_ne h]
  exact (hoff.quarterOff q _).trans ((traceMove_keeps (fun s => s.quart i) (fun _ _ => rfl) (fun _ _ => rfl) (fun _ _ => rfl) q _).trans
    ((offSays_quart i).traceDown _ _ s))

theorem quarterOrderly_rest (q : Quarter) (s : State) : (quarterOrderly q s).mem = s.mem ∧ (quarterOrderly q s).hw = s.hw ∧
    (quarterOrderly q s).rgn = s.rgn ∧ (quarterOrderly q s).slices = s.slices := by
  let p : State → Memory × HwSt × _ × _ := fun s => (s.mem, s.hw, s.rgn, s.slices)
  have hsays : OffSays p := offSays_of_regs (fun _ _ => rfl) (fun _ _ => rfl) (fun _ _ => rfl) (fun _ _ => rfl) (fun _ _ => rfl) (fun _ _ => rfl)
    (fun _ _ => rfl) (fun _ _ => rfl)
  have hoff : OffQuarter p := by constructor <;> intro _ _ <;> rfl
  have hall : p (quarterOrderly q s) = p s := by
    unfold quarterOrderly
    refine (quarterAnswer_keeps (p := p) (fun _ _ => rfl) _).trans ((count_keeps p (fun _ _ => rfl) (fun _ _ => rfl) _ _ _ _).trans ?_)
    refine (quarterSteps_keeps (p := p) (fun _ _ => rfl) (fun _ _ _ => rfl) (fun _ _ => rfl) (fun _ _ => rfl) q _).trans ?_
    refine (startQuarter_keeps hsays (fun _ _ => rfl) (fun _ _ => rfl) true q _).trans ?_
    exact (hoff.quarterOff q _).trans ((traceMove_keeps p (fun _ _ => rfl) (fun _ _ => rfl) (fun _ _ => rfl) q _).trans (hsays.traceDown _ _ s))
  simpa only [p, Prod.mk.injEq] using hall

/-! ### A disorderly reset -/

/-- What abandoning a quarter's work touches beside the store: the accesses of this device's agents. -/
structure OffAbandon {α : Type} (p : State → α) : Prop extends OffStore p where
  work : ∀ s x, p { s with work := x } = p s

section
variable {α : Type} {p : State → α}

theorem offStore_of_fields (h1 : ∀ s x, p { s with regs := x } = p s) (h2 : ∀ s x, p { s with cnt64 := x } = p s)
    (h3 : ∀ s x, p { s with log := x } = p s) (h4 : ∀ s x, p { s with out := x } = p s) (h5 : ∀ s x, p { s with tier := x } = p s)
    (h6 : ∀ s x, p { s with links := x } = p s) (h7 : ∀ s x, p { s with mem := x } = p s) (h8 : ∀ s x, p { s with poison := x } = p s)
    (h9 : ∀ s x, p { s with upsets := x } = p s) (h10 : ∀ s x, p { s with chans := x } = p s) (h11 : ∀ s x, p { s with tags := x } = p s)
    (h12 : ∀ s x, p { s with tagc := x } = p s) (h13 : ∀ s x, p { s with pool := x } = p s) : OffStore p :=
  ⟨⟨h1, h2, h3, h4, h5⟩, h6, h7, h8, h9, h10, h11, h12, h13⟩

theorem OffAbandon.abandon (hp : OffAbandon p) (q : Quarter) (s : State) : p (abandon q s) = p s := by
  unfold Machine.abandon
  extract_lets gone pool s1 s2 old s3
  have h1 : p s1 = p s := hp.pool s _
  have h2 : p s2 = p s1 := foldl_keeps p _ (fun s t => by
    split
    · exact hp.work s _
    · rfl
    · rfl
    · rfl) _ s1
  have h3 : p s3 = p s2 := hp.tier s2 _
  clear_value s3
  refine (foldl_keeps p _ (fun s d => (hp.releaseEmpty _ _).trans (foldl_keeps p _ (fun s pg => ?_) _ s)) _ s3).trans (h3.trans (h2.trans h1))
  split
  · exact getD_keeps fun t ht => hp.denseAdd _ _ ht
  · rfl

theorem OffStore.restorePinned (hp : OffStore p) (c : ChanId) (s : State) : p (restorePinned c s) = p s :=
  foldl_keeps p _ (fun s x => by
    split
    · exact ite_keeps _ (hp.putImage _ _ _ s) (hp.poisonBlock _ s)
    · rfl) _ s

theorem OffStore.recoverSlice (hp : OffStore p) (sl : Fin 16) (s : State) : p (recoverSlice sl s) = p s := by
  unfold Machine.recoverSlice
  split
  · exact (hp.restorePinned _ _).trans ((hp.sendFlush _ _ _).trans ((hp.dirDrop _ _).trans ((hp.loseSlice _ _).trans (hp.pool s _))))
  · rfl

end

/-- A disorderly reset up to the memory's next turn. -/
def quarterLost (q : Quarter) (s : State) : State :=
  quarterAnswer ((((indices 16).filter fun sl => sl.val / 4 = q.val).foldl (fun s sl => recoverSlice sl s)
    (quarterBack q (quarterOff q (abandon q { s with obs := { s.obs with quart := upd s.obs.quart q fun _ => ⟨[], 0⟩ } })))).count .QRESET_CNT)

theorem quarterDisorderly_eq (q : Quarter) (s : State) : quarterDisorderly q s = memPump 64 (quarterLost q s) := rfl

theorem offStore_quart (i : Quarter) : OffStore fun s : State => s.quart i := by apply offStore_of_fields <;> intro _ _ <;> rfl

theorem offAbandon_quart (i : Quarter) : OffAbandon fun s : State => s.quart i := ⟨offStore_quart i, fun _ _ => rfl⟩

theorem quarterLost_quart_self (q : Quarter) (s : State) : (quarterLost q s).quart q = ⟨2, none⟩ := by
  unfold quarterLost
  refine (quarterAnswer_keeps (p := fun s => s.quart q) (fun _ _ => rfl) _).trans ?_
  rw [count_quart]
  exact (foldl_keeps (fun s => s.quart q) _ (fun s sl => (offStore_quart q).recoverSlice sl s) _ _).trans (quarterBack_quart_self q _)

theorem quarterLost_quart_ne {q i : Quarter} (h : i ≠ q) (s : State) : (quarterLost q s).quart i = s.quart i := by
  have hp := offAbandon_quart i
  have hoff : OffQuarter fun s : State => s.quart i := by constructor <;> intro _ _ <;> rfl
  unfold quarterLost
  refine (quarterAnswer_keeps (p := fun s => s.quart i) (fun _ _ => rfl) _).trans ?_
  rw [count_quart]
  refine (foldl_keeps (fun s => s.quart i) _ (fun s sl => hp.recoverSlice sl s) _ _).trans ((quarterBack_quart_ne h _).trans ?_)
  exact (hoff.quarterOff q _).trans (hp.abandon q _)

theorem quarterLost_time (q : Quarter) (s : State) : (quarterLost q s).time = s.time := by
  have hp : OffAbandon State.time := ⟨by apply offStore_of_fields <;> intro _ _ <;> rfl, fun _ _ => rfl⟩
  have hoff : OffQuarter State.time := by constructor <;> intro _ _ <;> rfl
  have hsays : OffSays State.time := offSays_of_regs (fun _ _ => rfl) (fun _ _ => rfl) (fun _ _ => rfl) (fun _ _ => rfl) (fun _ _ => rfl)
    (fun _ _ => rfl) (fun _ _ => rfl) (fun _ _ => rfl)
  unfold quarterLost
  refine (quarterAnswer_keeps (p := State.time) (fun _ _ => rfl) _).trans ?_
  rw [count_time]
  refine (foldl_keeps State.time _ (fun s sl => hp.recoverSlice sl s) _ _).trans ?_
  refine (quarterSteps_keeps (p := State.time) (fun _ _ => rfl) (fun _ _ _ => rfl) (fun _ _ => rfl) (fun _ _ => rfl) q _).trans ?_
  exact (startQuarter_keeps hsays (fun _ _ => rfl) (fun _ _ => rfl) true q _).trans ((hoff.quarterOff q _).trans (hp.abandon q _))

theorem shaveAuto_quart (i : Quarter) (s : State) : (shaveAuto s).quart i = s.quart i := by
  unfold shaveAuto
  refine ite_keeps (p := fun s : State => s.quart i) _ rfl (ite_keeps (p := fun s : State => s.quart i) _ (count_quart s _ _ _ i) ?_)
  obtain ⟨x, d, h, -⟩ := shvTake_eq 2 s
  rw [h]
  rfl

section
variable (hh : s.su.held = false) (q : Quarter)
include hh

theorem quarterDrainDone_answers (hd : (s.quart q).drain.isSome = true) (hq : s.quartDrained q = true) : Answers (.quarterDrainDone q) s fun t =>
    t.quart q = ⟨2, none⟩ ∧ (∀ i : Quarter, i ≠ q → t.quart i = s.quart i) ∧ t.mem = s.mem ∧ t.hw = s.hw ∧ t.rgn = s.rgn ∧
      (∀ i : SliceId, (t.slice i).st = (s.slice i).st ∧ (t.slice i).tenant = (s.slice i).tenant) := by
  refine answers_of_live (quarterDrainDoneRun q) rfl hh ?_
  rw [show quarterDrainDoneRun q s = quarterOrderly q s from if_pos ⟨hd, hq⟩]
  obtain ⟨hmem, hhw, hrgn, hslices⟩ := quarterOrderly_rest q s
  have hslice : ∀ i, (settle (quarterOrderly q s)).slice i = s.slice i := fun i => congrArg (fun x => x[i]) hslices
  exact ⟨quarterOrderly_quart_self q s, fun i hi => quarterOrderly_quart_ne hi s, hmem, hhw, hrgn,
    fun i => ⟨congrArg Slice.st (hslice i), congrArg Slice.tenant (hslice i)⟩⟩

theorem quarterDrainDone_early_answers (hq : s.quartDrained q = false) : Answers (.quarterDrainDone q) s fun t => t = settle s := by
  refine answers_of_live (quarterDrainDoneRun q) rfl hh ?_
  rw [show quarterDrainDoneRun q s = s from if_neg (by simp [hq])]

theorem quarterDrainTimeout_loses {d : DrainSt} (hd : (s.quart q).drain = some d) : ∃ u : State,
    exec (.quarterDrainTimeout q) s = .next (settle (memPump 64 u)) ∧ u.quart q = ⟨2, none⟩ ∧ d.since + msec 20 ≤ u.time.nclk ∧
      ∀ i : Quarter, i ≠ q → u.quart i = s.quart i := by
  obtain ⟨x, hx, hadv⟩ := advanceTo_takes (d.since + msec 20) s
  have hrun : quarterDrainLimit q s = memPump 64 (quarterLost q { s with time := x }) := by
    rw [← quarterDisorderly_eq, ← hadv, quarterDrainLimit, hd]
  refine ⟨quarterLost q { s with time := x }, ?_, quarterLost_quart_self _ _, ?_, fun i hi => quarterLost_quart_ne hi _⟩
  · rw [← hrun]
    exact exec_of_live (quarterDrainLimit q) rfl hh
  · rw [quarterLost_time]
    exact hx

theorem qwdogExpire_loses (h0 : s.pwr.pfPhase = 0) (h2 : (s.quart q).st = 2) : ∃ u : State,
    exec (.qwdogExpire q) s = .next (settle (memPump 64 u)) ∧ u.quart q = ⟨2, none⟩ ∧ ∀ i : Quarter, i ≠ q → u.quart i = s.quart i := by
  refine ⟨quarterLost q (shaveAuto s), ?_, quarterLost_quart_self _ _, fun i hi => (quarterLost_quart_ne hi _).trans (shaveAuto_quart i s)⟩
  rw [← quarterDisorderly_eq, ← show qwdogRun q s = quarterDisorderly q (shaveAuto s) from if_pos ⟨h2, h0⟩]
  exact exec_of_live (qwdogRun q) rfl hh

end

end Sys2Proof.Machine
end

section
open Sys2Proof Sys2Proof.Machine

/-- Settles O47: the command drains its quarter, the drained quarter restarts alone, and one that takes too long or hangs gives its work up. -/
theorem quarterResets : Obligations.QuarterResets := fun _ q hh h0 =>
  ⟨quarterReset_answers hh q h0, quarterReset_conflict_answers hh q h0, quarterDrainDone_answers hh q, quarterDrainDone_early_answers hh q,
    fun _ hd => quarterDrainTimeout_loses hh q hd, qwdogExpire_loses hh q h0⟩

end

section
/-! PROOFS. Durable keys and the clearing of slices (R338, R340, R344 to R347). -/

namespace Sys2Proof.Machine

variable {s : State}

/-! ### Keys -/

theorem keyCheckpoint_keeps {α : Type} {p : State → α} (ht : ∀ s x, p { s with tier := x } = p s) (t : TenantId) (s : State) :
    p (keyCheckpoint t s) = p s := ite_keeps _ (ht s _) rfl

section
variable {h : CmdHdr} {t : TenantId}

/-- An EMPTY slot that its NV cell lets be written holds a fresh key. -/
theorem keyFill_fills (h : CmdHdr) (hn : (nvWrite (keySlotNo t) s).1 = true) : (keyFill h t s).key t = ⟨1, (s.key t).gen, s.free⟩ ∧
    (keyFill h t s).Replied h 0x401 0 0 [] ∧ (keyFill h t s).mem = s.mem ∧ ∀ i : TenantId, i ≠ t → (keyFill h t s).key i = s.key i := by
  obtain ⟨x, y, z, hnv⟩ := nvWrite_taken hn
  unfold keyFill
  rw [hnv]
  dsimp only
  have hkey : ∀ (i : TenantId) (u : State), (replyOk h 0x401 [] (keyCheckpoint t u)).key i = u.key i := fun i u =>
    (congrArg (fun w : HwSt => w.keys[i]) (reply_hw _ _ _ _ _ _ _)).trans (keyCheckpoint_keeps (p := fun s => s.key i) (fun _ _ => rfl) t u)
  refine ⟨(hkey t _).trans (setKey_key_self _ _ _), replyOk_replied _ _ _ _, ?_, fun i hi => (hkey i _).trans (setKey_key_ne _ _ hi.symm)⟩
  exact (reply_mem _ _ _ _ _ _ _).trans (keyCheckpoint_keeps (p := State.mem) (fun _ _ => rfl) t _)

variable (hh : s.su.held = false) (hc : s.classOf h.iss = .ta t)
include hh hc

section
variable (envCa : W64) (ho : s.hw.secOpen = false)
include ho

theorem keySet_fresh_completes (hst : (s.key t).st = 0) (hn : (nvWrite (keySlotNo t) s).1 = true) : Completes (.keySet h 0 envCa true) s fun u =>
    (u.key t).st = 1 ∧ (u.key t).gen = (s.key t).gen ∧ (u.key t).key = s.free ∧ u.Replied h 0x401 0 0 [] ∧ u.mem = s.mem ∧
      ∀ i : TenantId, i ≠ t → u.key i = s.key i := by
  refine completes_of_pumped (keySetRun h 0 envCa true) rfl hh ?_
  have hrun : keySetRun h 0 envCa true s = keyFill h t s :=
    (onlyTA_of_ta hc _ _).trans ((if_neg (by simp [ho])).trans ((if_neg fun h => absurd h.1 (by decide)).trans
      ((if_neg (by decide)).trans ((if_neg (by simp [hst])).trans (if_pos rfl)))))
  rw [hrun]
  obtain ⟨hkey, hrep, hmem, hother⟩ := keyFill_fills h hn
  exact ⟨by rw [hkey], by rw [hkey], by rw [hkey], hrep, hmem, hother⟩

theorem keySet_live_completes (hst : (s.key t).st ≠ 0) : Completes (.keySet h 0 envCa true) s fun u =>
    u.hw = s.hw ∧ u.Replied h 0x401 3 (s.key t).st [] := by
  refine completes_of_pumped (keySetRun h 0 envCa true) rfl hh ?_
  have hrun : keySetRun h 0 envCa true s = replyConflict h 0x401 (s.key t).st s :=
    (onlyTA_of_ta hc _ _).trans ((if_neg (by simp [ho])).trans ((if_neg fun h => absurd h.1 (by decide)).trans
      ((if_neg (by decide)).trans (if_pos hst))))
  rw [hrun]
  exact ⟨reply_hw _ _ _ _ _ _ _, replyConflict_replied _ _ _ _ (by decide)⟩

theorem keySet_envelope_completes (ok : Bool) (hst : (s.key t).st = 0) (href : s.refOk h = true) : Completes (.keySet h 1 envCa ok) s fun u =>
    let p := cmdOpen (.keySet h 1 envCa ok) s
    let q := argRead p.1 h envCa.toNat 176 p.2
    match q.1 with
    | none => u = q.2
    | some (st, b) =>
      let v := cmdClose p.1 q.2
      v.classOf h.iss = .ta t → (v.key t).st = 0 →
        (st ≠ 0 → st ≠ 3 → u.Replied h 0x401 st 0 []) ∧
        (st = 0 → ok = false ∨ allZero (cut b 0x61 7) = false → u.Replied h 0x401 0x0D 0 []) ∧
        (st = 0 → ok = true → allZero (cut b 0x61 7) = true → (nvWrite (keySlotNo t) v).1 = true →
          (u.key t).st = 1 ∧ u.Replied h 0x401 0 0 []) := by
  refine completes_of_pumped (keySetRun h 1 envCa ok) rfl hh ?_
  have hrun : keySetRun h 1 envCa ok s =
      keySetGo (cmdOpen (.keySet h 1 envCa ok) s).1 h envCa.toNat ok (cmdOpen (.keySet h 1 envCa ok) s).2 :=
    (onlyTA_of_ta hc _ _).trans ((if_neg (by simp [ho])).trans ((if_neg (by simp [href])).trans
      ((if_neg (by decide)).trans ((if_neg (by simp [hst])).trans (if_neg (by decide))))))
  rw [hrun]
  generalize cmdOpen (.keySet h 1 envCa ok) s = p
  dsimp only
  unfold keySetGo
  generalize argRead p.1 h envCa.toNat 176 p.2 = q
  obtain ⟨g, s1⟩ := q
  cases g with
  | none => rfl
  | some g =>
    obtain ⟨st, b⟩ := g
    dsimp only
    intro hv hk
    rw [hv]
    dsimp only
    rw [if_neg (by simp [hk])]
    refine ⟨fun h0 h3 => ?_, fun h0 hbad => ?_, fun h0 hok hz hn => ?_⟩
    · rw [if_pos (show st ≠ stOK from h0)]
      exact replySt_replied _ _ _ _ h3 (by decide)
    · rw [if_neg (by simp [h0, stOK]), if_pos (by simpa using hbad)]
      exact replySt_replied _ _ _ _ (by decide) (by decide)
    · rw [if_neg (by simp [h0, stOK]), if_neg (by simp [hok, hz])]
      obtain ⟨hkey, hrep, -⟩ := keyFill_fills h hn
      exact ⟨by rw [hkey], hrep⟩

end

theorem keyDestroy_completes (hst : (s.key t).st ≠ 0) (hd : s.durableHere t = false) (hn : (nvWrite (keySlotNo t) s).1 = true) :
    Completes (.keyDestroy h) s fun u =>
      u.key t = ⟨0, (s.key t).gen + 1, 0⟩ ∧ u.Replied h 0x402 0 0 [] ∧ u.mem = s.mem ∧ ∀ i : TenantId, i ≠ t → u.key i = s.key i := by
  refine completes_of_pumped (keyDestroyRun h) rfl hh ?_
  obtain ⟨x, y, z, hnv⟩ := nvWrite_taken hn
  have hrun : keyDestroyRun h s = replyOk h 0x402 [] (destroyKey t { s with hw := { s.hw with nvWrites := x, retired := y }, plog := z }) := by
    refine (onlyTA_of_ta hc _ _).trans ((if_neg (by simp [hst, hd])).trans ?_)
    rw [hnv]
  rw [hrun]
  have hkey : ∀ (i : TenantId) (u : State), (replyOk h 0x402 [] (destroyKey t u)).key i = (u.setKey t ⟨0, (u.key t).gen + 1, 0⟩).key i := fun i u =>
    (congrArg (fun w : HwSt => w.keys[i]) (reply_hw _ _ _ _ _ _ _)).trans (keyCheckpoint_keeps (p := fun s => s.key i) (fun _ _ => rfl) t _)
  refine ⟨(hkey t _).trans (setKey_key_self _ _ _), replyOk_replied _ _ _ _, ?_, fun i hi => (hkey i _).trans (setKey_key_ne _ _ hi.symm)⟩
  exact (reply_mem _ _ _ _ _ _ _).trans (keyCheckpoint_keeps (p := State.mem) (fun _ _ => rfl) t _)

theorem keyDestroy_conflict_completes (hd : s.durableHere t = true) : Completes (.keyDestroy h) s fun u =>
    u.hw = s.hw ∧ u.Replied h 0x402 3 (s.key t).st [] := by
  refine completes_of_pumped (keyDestroyRun h) rfl hh ?_
  have hrun : keyDestroyRun h s = replyConflict h 0x402 (s.key t).st s := (onlyTA_of_ta hc _ _).trans (if_pos (.inr hd))
  rw [hrun]
  exact ⟨reply_hw _ _ _ _ _ _ _, replyConflict_replied _ _ _ _ (by decide)⟩

end

/-! ### Slices -/

/-- The ephemeral key of a tenant with a slice: it stands, or one is drawn. -/
theorem ephKey_effect (t : TenantId) (s : State) : (ephKey t s).hw.eph[t] ≠ none ∧ (ephKey t s).slices = s.slices ∧ (ephKey t s).mem = s.mem := by
  unfold ephKey
  split
  · next k hk => exact ⟨by rw [hk]; exact nofun, rfl, rfl⟩
  · refine ⟨?_, rfl, rfl⟩
    show (upd s.hw.eph t fun _ => some s.free)[t] ≠ none
    rw [upd_self]
    exact nofun

theorem wavesFor_keeps {α : Type} {p : State → α} (hw : ∀ s w a, p { s with su := { s.su with wave := w, waveAt := a } } = p s) (i : SliceId)
    (s : State) : p (wavesFor i s) = p s := ite_keeps _ (hw s _ _) rfl

theorem assignSlice_effect (i : SliceId) (t : TenantId) (s : State) : ((assignSlice i t s).slice i).st = 1 ∧
    ((assignSlice i t s).slice i).tenant = t ∧ (assignSlice i t s).hw.eph[t] ≠ none ∧ (∀ j, j ≠ i → (assignSlice i t s).slice j = s.slice j) ∧
    (assignSlice i t s).mem = s.mem := by
  obtain ⟨heph, hslices, hmem⟩ := ephKey_effect t s
  unfold assignSlice
  extract_lets n ext s0 s1 s2 c s3
  let p : State → Vector Slice 16 × HwSt × Memory := fun s => (s.slices, s.hw, s.mem)
  have h3 : p (wavesFor i (if (s3.chan c).up then s3.resize c else s3)) = p s2 :=
    (wavesFor_keeps (p := p) (fun _ _ _ => rfl) i _).trans ((ite_keeps (p := p) (a := s3.resize c) (b := s3) _ rfl rfl).trans (show p s3 = p s2 from rfl))
  obtain ⟨u, hu⟩ : ∃ u, u = wavesFor i (if (s3.chan c).up then s3.resize c else s3) := ⟨_, rfl⟩
  rw [← hu] at h3 ⊢
  simp only [p, Prod.mk.injEq] at h3
  obtain ⟨hs, hw, hm⟩ := h3
  have hslice : ∀ j, u.slice j = s2.slice j := fun j => congrArg (fun x => x[j]) hs
  refine ⟨?_, ?_, ?_, fun j hj => ?_, hm.trans hmem⟩
  · rw [hslice, updSlice_slice_self]
  · rw [hslice, updSlice_slice_self]
  · rw [hw]
    exact heph
  · rw [hslice, updSlice_slice_ne _ _ hj.symm]
    exact congrArg (fun x => x[j]) hslices

/-- The cores of a slice whose clearing ends. -/
@[irreducible] def coresCleared (i : SliceId) (x : Slice) (s : State) : State :=
  (indices 144).foldl (fun s k =>
    if coreSlice k = i ∧ (s.coreSt k).st ≠ 0 then
      s.updCore k fun c => { c with st := if x.after.isNone then 0 else if c.st = 5 then 5 else 1, tile := none, cleared := false }
    else s) s

theorem coresCleared_keeps {α : Type} {p : State → α} (hw : ∀ s x, p { s with work := x } = p s) (i : SliceId) (x : Slice) (s : State) :
    p (coresCleared i x s) = p s := by
  unfold coresCleared
  exact foldl_keeps p _ (fun s _ => ite_keeps _ (hw s _) rfl) _ s

section
variable (hh : s.su.held = false) {sl : SliceId} (h2 : (s.slice sl).st = 2)
include hh h2

theorem sliceClearDone_free_completes (ha : (s.slice sl).after = none) : Completes (.sliceClearDone sl) s fun u =>
    (u.slice sl).st = 0 ∧ (u.slice sl).cleared = true ∧ (∀ i : SliceId, i ≠ sl → u.slice i = s.slice i) ∧ u.mem = s.mem ∧ u.hw = s.hw := by
  refine completes_of_pumped (sliceClearDoneRun sl) rfl hh ?_
  have hrun : sliceClearDoneRun sl s =
      (coresCleared sl (s.slice sl) s).updSlice sl fun x => { x with st := 0, tenant := 0, cleared := true } := by
    unfold sliceClearDoneRun coresCleared
    simp only [h2, ha, ne_eq, not_true_eq_false, if_false]
  rw [hrun]
  have hslices := coresCleared_keeps (p := State.slices) (fun _ _ => rfl) sl (s.slice sl) s
  refine ⟨?_, ?_, fun i hi => ?_, coresCleared_keeps (p := State.mem) (fun _ _ => rfl) sl _ s, coresCleared_keeps (p := State.hw) (fun _ _ => rfl) sl _ s⟩
  · rw [updSlice_slice_self]
  · rw [updSlice_slice_self]
  · rw [updSlice_slice_ne _ _ hi.symm]
    exact congrArg (fun x => x[i]) hslices

theorem sliceClearDone_taken_completes {t : TenantId} (ha : (s.slice sl).after = some t) : Completes (.sliceClearDone sl) s fun u =>
    (u.slice sl).st = 1 ∧ (u.slice sl).tenant = t ∧ u.hw.eph[t] ≠ none ∧ (∀ i : SliceId, i ≠ sl → u.slice i = s.slice i) ∧ u.mem = s.mem := by
  refine completes_of_pumped (sliceClearDoneRun sl) rfl hh ?_
  have hrun : sliceClearDoneRun sl s = assignSlice sl t (coresCleared sl (s.slice sl) s) := by
    unfold sliceClearDoneRun coresCleared
    simp only [h2, ha, ne_eq, not_true_eq_false, if_false]
  rw [hrun]
  have hslices := coresCleared_keeps (p := State.slices) (fun _ _ => rfl) sl (s.slice sl) s
  obtain ⟨hst, hten, heph, hother, hmem⟩ := assignSlice_effect sl t (coresCleared sl (s.slice sl) s)
  exact ⟨hst, hten, heph, fun i hi => (hother i hi).trans (congrArg (fun x => x[i]) hslices),
    hmem.trans (coresCleared_keeps (p := State.mem) (fun _ _ => rfl) sl _ s)⟩

end

end Sys2Proof.Machine
end

section
open Sys2Proof Sys2Proof.Machine

/-- Settles O37: a tenant's slot is filled, freshly or from an envelope, and destroyed; a cleared slice is free or its next tenant's. -/
theorem keysAndSlices : Obligations.KeysAndSlices := fun _ hh =>
  ⟨fun _ _ envCa hc ho => ⟨keySet_fresh_completes hh hc envCa ho, keySet_live_completes hh hc envCa ho, keySet_envelope_completes hh hc envCa ho,
      keyDestroy_completes hh hc, keyDestroy_conflict_completes hh hc⟩,
    fun _ h2 => ⟨sliceClearDone_free_completes hh h2, fun _ ha => sliceClearDone_taken_completes hh h2 ha⟩⟩

end

section
/-! PROOFS. Reports of a device and of a stack (R365 to R367, R382). -/

namespace Sys2Proof.Machine

variable {s : State}

/-! ### A device's report -/

/-- A report's body speaks of the commands that are under way as little as of the report itself. -/
theorem reportBody_work (s : State) (r : Report) (cmds : List CmdWait) (x : Option Report) (b : Bytes) :
    ({ s with work := { s.work with cmds := cmds, report := x } }).reportBody { r with body := b } = s.reportBody r := by
  unfold State.reportBody
  rfl

theorem reportBody_cmdOpen (c : Instr) (s : State) (n : Nat) (h : CmdHdr) (nonce : Bytes) (d : Nat) (rs : List W16) (cur ents b b' : Bytes) (v : Bool) :
    (cmdOpen c s).2.reportBody ⟨n, h, nonce, d, rs, cur, ents, b, v⟩ = s.reportBody ⟨n, h, nonce, d, rs, cur, ents, b', v⟩ :=
  reportBody_work s ⟨n, h, nonce, d, rs, cur, ents, b', v⟩ _ s.work.report b

/-- A report without regions stands at once, but for its signature. -/
theorem reportStep_whole {r : Report} (hr : s.work.report = some r) (hs : r.signed = false) (hb : r.body = []) (hrs : r.regions = []) :
    reportStep s = s.setReport (some { r with body := s.reportBody r }) := by
  have hfuel : s.digestFuel r = 3 + 1 := by
    unfold State.digestFuel
    rw [hrs]
    rfl
  unfold reportStep
  rw [hr]
  dsimp only
  rw [if_neg (by simp [hs]), hfuel]
  unfold digestGo
  rw [hr]
  dsimp only
  rw [if_neg (by simp [hb]), hrs]

theorem attestGo_device (n : Nat) {h : CmdHdr} (nonce : Bytes) (dest : Nat) (rs : List W16) (hr : s.work.report = none)
    (hc : s.classOf h.iss = .da) : attestGo n h nonce dest rs s =
      { s with work := { s.work with
          report := some ⟨n, h, nonce, dest, [], [], [], s.reportBody ⟨n, h, nonce, dest, [], [], [], [], false⟩, false⟩ } } := by
  unfold attestGo
  rw [hr]
  dsimp only
  rw [hc]
  refine (reportStep_whole rfl rfl rfl rfl).trans ?_
  exact congrArg (fun b => s.setReport (some ⟨n, h, nonce, dest, [], [], [], b, false⟩))
    (reportBody_work s ⟨n, h, nonce, dest, [], [], [], [], false⟩ _ _ [])

theorem attestGo_tenant (n : Nat) {h : CmdHdr} {t : TenantId} (nonce : Bytes) (dest : Nat) (rs : List W16) (hr : s.work.report = none)
    (hc : s.classOf h.iss = .ta t) : attestGo n h nonce dest rs s = reportStep (s.setReport (some ⟨n, h, nonce, dest, rs, [], [], [], false⟩)) := by
  unfold attestGo
  rw [hr]
  dsimp only
  rw [hc]

section
variable (hh : s.su.held = false) {h : CmdHdr}
include hh

theorem attest_device_completes (nonce : Bytes) (ca : W64) (len : W32) (hc : s.classOf h.iss = .da) (ho : s.hw.secOpen = false)
    (hn : nonce.length = 32) (hl : 16384 ≤ len.toNat) (hx : (xferRange ca.toNat len.toNat).isSome = true) (hr : s.work.report = none) :
    Completes (.attest h nonce ca len []) s fun u =>
      ∃ r, u.work.report = some r ∧ r.h = h ∧ r.dest = ca.toNat ∧ r.signed = false ∧ r.nonce = nonce ∧ r.body = s.reportBody r ∧
        u.mem = s.mem ∧ u.hw = s.hw := by
  refine completes_of_pumped (attestRun h nonce ca len []) rfl hh ?_
  have hform : (([] : List W16).length ≤ 8 && nonce.length = 32 && 16384 ≤ len.toNat) = true := by simp [hn, hl]
  have hrun : attestRun h nonce ca len [] s =
      attestGo (cmdOpen (.attest h nonce ca len []) s).1 h nonce ca.toNat [] (cmdOpen (.attest h nonce ca len []) s).2 := by
    unfold attestRun
    simp only [hc, ho, Bool.false_eq_true, if_false]
    split
    · rfl
    · exact if_pos ⟨hform, hx⟩
  rw [hrun, attestGo_device _ nonce ca.toNat [] (show (cmdOpen _ s).2.work.report = none from hr) (show (cmdOpen _ s).2.classOf h.iss = .da from hc)]
  exact ⟨_, rfl, rfl, rfl, rfl, rfl, reportBody_cmdOpen _ s _ _ _ _ _ _ _ _ _ _, rfl, rfl⟩

theorem attest_tenant_completes {t : TenantId} (nonce : Bytes) (ca : W64) (len : W32) (rs : List W16) (hc : s.classOf h.iss = .ta t)
    (ho : s.hw.secOpen = false) (href : s.refOk h = true) (hn : nonce.length = 32) (hl : 16384 ≤ len.toNat) (h8 : rs.length ≤ 8)
    (hr : s.work.report = none) : Completes (.attest h nonce ca len rs) s fun u =>
      u = reportStep ((cmdOpen (.attest h nonce ca len rs) s).2.setReport
        (some ⟨(cmdOpen (.attest h nonce ca len rs) s).1, h, nonce, ca.toNat, rs, [], [], [], false⟩)) := by
  refine completes_of_pumped (attestRun h nonce ca len rs) rfl hh ?_
  have hform : (rs.length ≤ 8 && nonce.length = 32 && 16384 ≤ len.toNat) = true := by simp [hn, hl, h8]
  unfold attestRun
  simp only [hc, ho, href, hform, Bool.false_eq_true, if_false, Bool.not_true, if_true]
  exact attestGo_tenant _ nonce ca.toNat rs hr hc

end

/-! ### The signature -/

/-- A report that its requester's stack asked for goes back whole in the acknowledgement (R382). -/
theorem reportWrite_stack {r : Report} (hf : s.forStack r.h = true) : reportWrite r s =
    replyOk r.h 0x403 (toLe 4 r.body.length ++ r.body) ((cmdClose r.n s).setReport none) := if_pos hf

theorem reportWrite_device {r : Report} (hf : s.forStack r.h = false) (hc : s.classOf r.h.iss = .da) {off : Nat}
    (hx : xferRange r.dest r.body.length = some off) : reportWrite r s =
      replyOk r.h 0x403 (toLe 4 r.body.length) ((cmdClose r.n (xferPut off r.body s)).setReport none) := by
  have hres : resWrite r.n r.h r.dest r.body s = (some (stOK, []), xferPut off r.body s) := by
    unfold resWrite
    rw [hc]
    dsimp only
    rw [hx]
  unfold reportWrite
  rw [if_neg (by simp [hf]), hres]
  rfl

/-- A command whose reply closes the report leaves none under way. -/
theorem reportClosed_effect (h : CmdHdr) (res : Bytes) (s : State) : (replyOk h 0x403 res (s.setReport none)).work.report = none ∧
    (replyOk h 0x403 res (s.setReport none)).Replied h 0x403 0 0 res :=
  ⟨congrArg WorkSt.report (reply_work _ _ _ _ _ _ _), replyOk_replied _ _ _ _⟩

/-- A report with its signature appended. -/
def signedReport (r : Report) (sig : Bytes) : Report := { r with signed := true, body := r.body ++ padTo 96 sig }

theorem attestDoneRun_signs {r : Report} (sig : Bytes) (hr : s.work.report = some r) (hb : r.body ≠ []) (hs : r.signed = false) :
    attestDoneRun sig s = reportWrite (signedReport r sig) (s.setReport (some (signedReport r sig))) := by
  unfold attestDoneRun
  rw [hr]
  exact if_neg (by simp [hb, hs])

section
variable (hh : s.su.held = false) {r : Report} (sig : Bytes) (hr : s.work.report = some r) (hb : r.body ≠ []) (hs : r.signed = false)
include hh hr hb hs

theorem attestDone_stack_completes (hf : s.forStack r.h = true) : Completes (.attestReportDone sig) s fun u =>
    u.work.report = none ∧ u.Replied r.h 0x403 0 0 (toLe 4 (r.body ++ padTo 96 sig).length ++ (r.body ++ padTo 96 sig)) := by
  refine completes_of_pumped (attestDoneRun sig) rfl hh ?_
  rw [attestDoneRun_signs sig hr hb hs, reportWrite_stack (r := signedReport r sig) (s := s.setReport (some (signedReport r sig))) hf]
  exact reportClosed_effect _ _ _

theorem attestDone_device_completes (hf : s.forStack r.h = false) (hc : s.classOf r.h.iss = .da) {off : Nat}
    (hx : xferRange r.dest (r.body ++ padTo 96 sig).length = some off) : Completes (.attestReportDone sig) s fun u =>
      u.work.report = none ∧ u.Replied r.h 0x403 0 0 (toLe 4 (r.body ++ padTo 96 sig).length) := by
  refine completes_of_pumped (attestDoneRun sig) rfl hh ?_
  rw [attestDoneRun_signs sig hr hb hs, reportWrite_device (r := signedReport r sig) (s := s.setReport (some (signedReport r sig))) hf hc hx]
  exact reportClosed_effect _ _ _

end

/-! ### A stack's report -/

theorem coordSend_sent (d : W16) (n : Nat) (b : Bytes) (h : Option CmdHdr) (g : Nat) (s : State) :
    ∃ tx : CoordTx, tx.dest = d ∧ (coordSend d n b h g s).coord.sent = s.coord.sent ++ [tx] := by
  obtain ⟨l, hl⟩ := coordOut_coord d none ([byte n, 0, 0, 0] ++ toLe 4 (s.coord.nextXid + 1).toNat ++ b)
    { s with coord := { s.coord with nextXid := s.coord.nextXid + 1, sent := s.coord.sent ++ [⟨s.coord.nextXid + 1, n, d, b, s.time.nclk, h, g⟩] } }
  exact ⟨⟨s.coord.nextXid + 1, n, d, b, s.time.nclk, h, g⟩, rfl, congrArg CoordSt.sent hl⟩

theorem coordSend_keeps {α : Type} {p : State → α} (hp : OffTalk p) (d : W16) (n : Nat) (b : Bytes) (h : Option CmdHdr) (g : Nat) (s : State) :
    p (coordSend d n b h g s) = p s := (hp.coordOut _ _ _ _).trans (hp.coord s _)

/-- One message for each position, in order. -/
theorem foldl_coordSend_sent (f : Nat → State → Bytes) (ps : List Nat) (s : State) : ∃ txs : List CoordTx, txs.map CoordTx.dest = ps.map s.idOf ∧
    (ps.foldl (fun s p => coordSend (s.idOf p) 4 (f p s) none 0 s) s).coord.sent = s.coord.sent ++ txs := by
  induction ps generalizing s with
  | nil => exact ⟨[], rfl, (List.append_nil _).symm⟩
  | cons q ps ih =>
    obtain ⟨tx, hd, hs⟩ := coordSend_sent (s.idOf q) 4 (f q s) none 0 s
    obtain ⟨txs, hmap, hall⟩ := ih (coordSend (s.idOf q) 4 (f q s) none 0 s)
    have hid : (coordSend (s.idOf q) 4 (f q s) none 0 s).idOf = s.idOf :=
      coordSend_keeps (p := State.idOf) (by constructor <;> intro _ _ <;> rfl) _ _ _ _ _ s
    refine ⟨tx :: txs, ?_, ?_⟩
    · rw [List.map_cons, List.map_cons, hmap, hid, hd]
    · rw [List.foldl_cons, hall, hs, List.append_assoc]
      rfl

section
variable (hh : s.su.held = false) {h : CmdHdr}
include hh

theorem stackAttest_completes (nonce : Bytes) (ca : W64) (len : W32) (hc : s.classOf h.iss = .da) (hhead : s.head.head = true)
    (ho : s.hw.secOpen = false) (hn : nonce.length = 32) (hl : (8 + 13040) * s.joined.length ≤ len.toNat)
    (hx : (xferRange ca.toNat len.toNat).isSome = true) (hs : s.satt = none) : Completes (.stackAttest h nonce ca len) s fun u =>
      u.satt = some ⟨h.iss, h.seq, nonce, ca.toNat, s.joined, []⟩ ∧ u.mem = s.mem ∧
        (u.coord.sent.drop s.coord.sent.length).map CoordTx.dest = s.joined.map s.idOf := by
  refine completes_of_pumped (stackAttestRun h nonce ca len) rfl hh ?_
  have hrun : stackAttestRun h nonce ca len s =
      stackAttestGo (cmdOpen (.stackAttest h nonce ca len) s).1 h nonce ca.toNat (cmdOpen (.stackAttest h nonce ca len) s).2 := by
    refine (onlyDA_of_da hc _ _).trans ((if_neg (by simp [hhead, ho])).trans (if_neg ?_))
    rintro (h1 | h1 | h1)
    · exact h1 hn
    · omega
    · rw [Option.isNone_iff_eq_none] at h1
      rw [h1] at hx
      exact Bool.noConfusion hx
  rw [hrun]
  unfold stackAttestGo
  rw [show (cmdOpen (.stackAttest h nonce ca len) s).2.satt = none from hs]
  dsimp only
  have hp : OffTalk fun s : State => (s.satt, s.mem) := by constructor <;> intro _ _ <;> rfl
  obtain ⟨t, ht⟩ : ∃ t, t = cmdClose (cmdOpen (.stackAttest h nonce ca len) s).1
      { (cmdOpen (.stackAttest h nonce ca len) s).2 with satt := some ⟨h.iss, h.seq, nonce, ca.toNat, s.joined, []⟩ } := ⟨_, rfl⟩
  have hjoined : (cmdOpen (.stackAttest h nonce ca len) s).2.joined = s.joined := rfl
  have hcoord : t.coord = s.coord := by rw [ht]; rfl
  have hid : t.idOf = s.idOf := by rw [ht]; rfl
  have hst : (t.satt, t.mem) = (some ⟨h.iss, h.seq, nonce, ca.toNat, s.joined, []⟩, s.mem) := by rw [ht]; rfl
  rw [hjoined, ← ht]
  obtain ⟨txs, hmap, hall⟩ := foldl_coordSend_sent (fun _ s => toLe 2 s.myId.toNat ++ [0, 0] ++
    cmdBlock 0x403 ⟨h.iss, h.seq, 0, 0⟩ (padTo 32 nonce ++ toLe 8 ca.toNat ++ toLe 4 16384 ++ zeros 20)) s.joined t
  have hkeep := foldl_keeps (fun s : State => (s.satt, s.mem)) (fun s p => coordSend (s.idOf p) 4 (toLe 2 s.myId.toNat ++ [0, 0] ++
    cmdBlock 0x403 ⟨h.iss, h.seq, 0, 0⟩ (padTo 32 nonce ++ toLe 8 ca.toNat ++ toLe 4 16384 ++ zeros 20)) none 0 s)
    (fun s p => coordSend_keeps hp _ _ _ _ _ s) s.joined t
  obtain ⟨hsatt, hmem⟩ := Prod.mk.inj (hkeep.trans hst)
  refine ⟨hsatt, hmem, ?_⟩
  rw [hall, hcoord, List.drop_left, hmap, hid]

theorem stackAttestTimeout_completes {p : Fin 32} {x : StackAtt} {t : CoordTx} (hs : s.satt = some x) (hp : p.val ∈ x.waits)
    (hw : x.waits.filter (· ≠ p.val) ≠ []) (ht : (s.coord.sent.find? fun t => t.attests && t.dest.toNat % 64 = p.val) = some t) :
    Completes (.stackAttestMemberTimeout p) s fun u =>
      u.satt = some { x with waits := x.waits.filter (· ≠ p.val), reports := x.reports.ins p.val (stRETRY_BUSY, []) } ∧
        t.since + secs 1 ≤ u.time.nclk ∧ ∀ y ∈ u.coord.sent, y.xid ≠ t.xid := by
  refine completes_of_pumped (stackAttTimeout p.val) rfl hh ?_
  have hwaits : x.waits.contains p.val = true := List.contains_iff_mem.2 hp
  unfold stackAttTimeout
  rw [ht]
  dsimp only
  rw [if_pos (by simp only [hs, Option.any_some, hwaits])]
  obtain ⟨y, hy, hadv⟩ := advanceTo_takes (t.since + secs 1) s
  rw [hadv]
  have hmember : stackAttMember p.val stRETRY_BUSY []
      { s with time := y, coord := { s.coord with sent := s.coord.sent.filter fun x => x.xid ≠ t.xid } } =
      { s with time := y, coord := { s.coord with sent := s.coord.sent.filter fun x => x.xid ≠ t.xid },
               satt := some { x with waits := x.waits.filter (· ≠ p.val), reports := x.reports.ins p.val (stRETRY_BUSY, []) } } := by
    unfold stackAttMember stackAttFinish
    simp only [hs, hwaits, if_true]
    exact if_pos hw
  rw [hmember]
  exact ⟨rfl, hy, fun z hz => of_decide_eq_true (List.mem_filter.1 hz).2⟩

end

end Sys2Proof.Machine
end

section
open Sys2Proof Sys2Proof.Machine

/-- Settles O38: a report is composed, then signed and delivered; a stack's report asks each joined member and gives one that is silent up. -/
theorem reportsComposedSignedWritten : Obligations.ReportsComposedSignedWritten := fun _ hh =>
  ⟨fun _ nonce ca len hc ho hn hl hx hr => attest_device_completes hh nonce ca len hc ho hn hl hx hr,
    fun _ _ nonce ca len rs hc ho href hn hl h8 hr => attest_tenant_completes hh nonce ca len rs hc ho href hn hl h8 hr,
    fun _ sig hr hb hs => ⟨attestDone_stack_completes hh sig hr hb hs, fun _ hf hc hx => attestDone_device_completes hh sig hr hb hs hf hc hx⟩,
    fun _ nonce ca len hc hhead ho hn hl hx hs => stackAttest_completes hh nonce ca len hc hhead ho hn hl hx hs,
    fun _ _ _ hs hp hw ht => stackAttestTimeout_completes hh hs hp hw ht⟩

end

section
/-! PROOFS. The spindle chain: SUPER frames, enumeration, a broken chain and alarms (R373 to R377). -/

namespace Sys2Proof.Machine

variable {s : State}

/-! ### The frames an origin starts -/

/-- A field of two bytes that stands after `pre`. -/
theorem leAt_field_two (pre suf : Bytes) (x : Nat) : leAt (pre ++ (toLe 2 x ++ suf)) pre.length 2 = x % 65536 := by
  rw [leAt, cut, List.drop_left]
  refine (congrArg leNat (List.take_left' (l₁ := toLe 2 x) rfl)).trans ?_
  simp only [toLe, leNat, BitVec.toNat_ofNat]
  omega

/-- A field of four bytes that stands after `pre`, of any number. -/
theorem leAt_field_four (pre suf : Bytes) (x : Nat) : leAt (pre ++ (toLe 4 x ++ suf)) pre.length 4 = x % 2 ^ 32 := by
  rw [leAt, cut, List.drop_left]
  refine (congrArg leNat (List.take_left' (l₁ := toLe 4 x) rfl)).trans ?_
  simp only [toLe, leNat, BitVec.toNat_ofNat]
  omega

/-- The first eight bytes of a frame stay as a member fills it. -/
theorem fillFrame_head (s : State) {a b : Bytes} (h : a.length = 8) : ∃ suf, s.fillFrame (a ++ b) = a ++ suf := by
  have hcut : cut (a ++ b) 0 8 = a := by
    rw [cut, List.drop_zero]
    exact List.take_left' h
  unfold State.fillFrame chainHdr
  dsimp only
  rw [hcut]
  simp only [List.append_assoc]
  exact ⟨_, rfl⟩

theorem fillFrame_fields (u : State) (a n : Nat) (b : Byte) (l r : Bytes) :
    leAt (u.fillFrame (chainHdr (toLe 2 a ++ [1, b] ++ toLe 4 n ++ l) ++ r)) 0 2 = a % 65536 ∧
    leAt (u.fillFrame (chainHdr (toLe 2 a ++ [1, b] ++ toLe 4 n ++ l) ++ r)) 2 1 = 1 ∧
    leAt (u.fillFrame (chainHdr (toLe 2 a ++ [1, b] ++ toLe 4 n ++ l) ++ r)) 4 4 = n % 2 ^ 32 := by
  have hsplit : chainHdr (toLe 2 a ++ [1, b] ++ toLe 4 n ++ l) ++ r =
      (toLe 2 a ++ [1, b] ++ toLe 4 n) ++ (l ++ (toLe 4 (crc32c (toLe 2 a ++ [1, b] ++ toLe 4 n ++ l)) ++ r)) := by
    unfold chainHdr
    simp only [List.append_assoc]
  obtain ⟨suf, hg⟩ := fillFrame_head u (a := toLe 2 a ++ [1, b] ++ toLe 4 n)
    (b := l ++ (toLe 4 (crc32c (toLe 2 a ++ [1, b] ++ toLe 4 n ++ l)) ++ r)) rfl
  rw [hsplit, hg]
  simp only [List.append_assoc]
  refine ⟨leAt_field_two [] _ a, rfl, ?_⟩
  exact leAt_field_four (toLe 2 a ++ [1, b]) suf n

theorem superStart_frame (hor : s.spn.origin = true) (hst : 2 ≤ s.spn.state) : ∃ t : TimeSt, ∃ g : Bytes,
    superStart s = emit (.chain g) { s with time := t, spn := { s.spn with sfn := s.spn.sfn + 1, alarmSet := 0 } } ∧
    leAt g 0 2 = s.stackId % 65536 ∧ leAt g 2 1 = 1 ∧ leAt g 4 4 = (s.spn.sfn + 1) % 2 ^ 32 := by
  have htime : ∃ x : TimeSt, (if s.ptValid then advancePool ((s.ptNs / 100000 + 1) * 100000) s else pace paceSuper (usec 100) s) = { s with time := x } := by
    split
    · exact ⟨_, advancePool_rest _ s⟩
    · exact pace_eq_time _ _ s
  obtain ⟨x, hx⟩ := htime
  unfold superStart
  rw [if_neg (by simp [hor]; omega), hx]
  exact ⟨x, _, rfl, fillFrame_fields _ _ _ _ _ _⟩

section
variable (hh : s.su.held = false)
include hh

theorem onChain_answers {c : Instr} {f : Bytes} {g : Bytes → State → State} {P : State → Prop} (hc : exec c s = onChain g f s) (h0 : s.spn.state ≠ 0)
    (h : P (settle (g f s))) : Answers c s P :=
  answers_of_done (g f s) (hc.trans (congrArg done (if_neg (by simp [hh, h0])))) h

theorem superFramePeriod_answers (hor : s.spn.origin = true) (hst : 2 ≤ s.spn.state) : Answers .superFramePeriod s fun t =>
    t.spn = { s.spn with sfn := s.spn.sfn + 1, alarmSet := 0 } ∧ t.links = s.links ∧ t.pair = s.pair ∧
      ∃ g : Bytes, t.out = s.out ++ [.chain g] ∧ leAt g 0 2 = s.stackId % 65536 ∧ leAt g 2 1 = 1 ∧ leAt g 4 4 = (s.spn.sfn + 1) % 2 ^ 32 := by
  refine answers_of_live superStart rfl hh ?_
  obtain ⟨x, g, hrun, hg⟩ := superStart_frame hor hst
  rw [hrun]
  exact ⟨rfl, rfl, rfl, g, rfl, hg⟩

/-! ### Frames that pass -/

theorem superFrame_crc_answers {f : Bytes} (h0 : s.spn.state ≠ 0) (hf : chainOk f = false) : Answers (.superFrame f) s fun t =>
    t.spn = s.spn ∧ t.pair = s.pair ∧ t.head = s.head ∧ t.out = s.out ++ [.chain f] := by
  refine onChain_answers hh (g := superRx) rfl h0 ?_
  rw [show superRx f s = emit (.chain f) (s.count .SF_CRC_ERR_CNT) from if_pos (by simp [hf])]
  exact ⟨count_spn s _ _ _, count_pair s _ _ _, count_head s _ _ _, congrArg (· ++ [Out.chain f]) (count_out s _ _ _)⟩

omit hh in
theorem superFrame_bypassed_answers {f : Bytes} (h0 : s.spn.state = 0) : Answers (.superFrame f) s fun t => t = settle (emit (.chain f) s) :=
  answers_of_done (emit (.chain f) s) (show onChain superRx f s = _ from congrArg done (if_pos (.inr h0))) rfl

end

/-! ### A member uses a frame -/

/-- What a frame that is used sets of the chain's state, and nothing after it changes. -/
def chainSeen (s : State) : Nat × Nat × Nat × Nat := (s.spn.lastSf, s.spn.headPos, s.spn.missed, s.spn.pos)

theorem latchAlarm_keeps {α : Type} {p : State → α} (hp : OffTier p) (halarm : ∀ s a, p { s with spn := { s.spn with alarm := a } } = p s) (n : Nat)
    (s : State) : p (latchAlarm n s) = p s :=
  (foldl_keeps p _ (fun s _ => hp.logEv _ s) _ _).trans (halarm s _)

theorem hbRx_keeps {α : Type} {p : State → α} (hr : ∀ s x, p { s with regs := x } = p s) (hc : ∀ s x, p { s with cnt64 := x } = p s)
    (hpair : ∀ s x, p { s with pair := x } = p s) (w : HbPath) (b : Bytes) (s : State) : p (hbRx w b s) = p s := by
  have hpath : ∀ x s, p (setHbPath w x s) = p s := fun x s => by cases w <;> exact hpair s _
  unfold hbRx
  extract_lets s1 a x r
  have h1 : p s1 = p s := hr s _
  clear_value s1
  exact ite_keeps _ ((count_keeps p hr hc _ _ _ _).trans h1) (ite_keeps _ h1
    (ite_keeps _ ((count_keeps p hr hc _ _ _ _).trans h1) ((hpair _ _).trans ((hpath _ _).trans h1))))

theorem publishMap_keeps {α : Type} {p : State → α} (hp : OffTalk p) (hseq : ∀ s q, p { s with spn := { s.spn with mapSeq := q } } = p s) (o : SpnSt)
    (s : State) : p (publishMap o s) = p s := by
  unfold publishMap
  simp only
  exact ite_keeps _ rfl ((foldl_keeps p _ (fun s d => hp.sendRecords _ s) _ _).trans ((foldl_keeps p _ (fun s d => hp.out s _) _ _).trans (hseq s _)))

theorem readSlots_keeps {α : Type} {p : State → α} (hp : OffTalk p) (hhead : ∀ s x, p { s with head := x } = p s)
    (hmap : ∀ s m e q, p { s with spn := { s.spn with map := m, epochs := e, mapSeq := q } } = p s) (b : Bytes) (s : State) :
    p (readSlots b s) = p s := by
  unfold readSlots
  extract_lets hbOf good active there gone hd s1 old before s2
  have h1 : p s1 = p s := hhead s _
  clear_value s1
  have h2 : p s2 = p s1 := foldl_keeps p _ (fun s n => by
    have hbyte : ∀ b, p (s.setMapByte n b) = p s := fun b => hmap s _ s.spn.epochs s.spn.mapSeq
    dsimp only
    split
    · exact ite_keeps _ ((hmap _ _ _ _).trans (hbyte _)) (hbyte _)
    · exact hbyte _) _ s1
  clear_value s2
  exact ite_keeps _ h1 ((publishMap_keeps hp (fun s q => hmap s s.spn.map s.spn.epochs q) _ _).trans (h2.trans h1))

/-- What the PPS edge's distance from pool time leads to (R437). -/
def ppsJudged (off : Int) (s : State) : State :=
  let s := if 8000 < off.natAbs then
      logEv ⟨0x0C, .threshold, 0xFFFF, 0, 0, 0, 0xFF, toLe 8 (off / 8 % 2 ^ 64).toNat⟩ { s with time := { s.time with diverge := true } }
    else s
  if s.time.holdAt.isSome then correct off s else s

theorem ppsCheck_eq (s : State) : ∃ off, ppsCheck s = if !s.ptValid then s else ppsJudged off s := ⟨_, rfl⟩

theorem correct_spn (off : Int) (s : State) : (correct off s).spn = s.spn := by
  unfold correct
  exact ite_keeps (p := State.spn) _ (count_spn _ _ _ _) rfl

theorem ppsJudged_spn (off : Int) (s : State) : (ppsJudged off s).spn = s.spn := by
  unfold ppsJudged
  extract_lets x s1
  have h1 : s1.spn = s.spn := ite_keeps (p := State.spn) _ (logEv_spn _ _) rfl
  clear_value s1
  exact ite_keeps (p := State.spn) _ ((correct_spn _ _).trans h1) h1

theorem ppsCheck_spn (s : State) : (ppsCheck s).spn = s.spn := by
  obtain ⟨off, h⟩ := ppsCheck_eq s
  rw [h]
  exact ite_keeps (p := State.spn) _ rfl (ppsJudged_spn off s)

/-- A member whose chain is up takes from a frame of its stack what the frame says, and passes it on. -/
theorem superRx_effect {f : Bytes} (hf : chainOk f = true) (hpos : s.spn.pos ≠ 0x3F) (hid : leAt f 0 2 = s.stackId) (hor : s.spn.origin = false) :
    ∃ u : State, ∃ g : Bytes, superRx f s = emit (.chain g) { u with spn := { u.spn with alarmSet := 0 } } ∧ u.spn.sfn = leAt f 4 4 ∧
      u.spn.members = leAt f 10 1 ∧ u.spn.lastSf = s.time.nclk ∧ u.spn.headPos = leAt f 11 1 ∧ u.spn.missed = 0 ∧ u.spn.pos = s.spn.pos := by
  have htier : OffTier chainSeen := ⟨fun _ _ => rfl, fun _ _ => rfl, fun _ _ => rfl, fun _ _ => rfl, fun _ _ => rfl⟩
  have htalk : OffTalk chainSeen := ⟨fun _ _ => rfl, fun _ _ => rfl, fun _ _ => rfl, fun _ _ => rfl, fun _ _ => rfl⟩
  unfold superRx
  rw [if_neg (by simp [hf]), if_neg (by simp [hpos, hid])]
  extract_lets own last s1 slots s2 x2 s3 x3 s4 s5 x5
  have hown : own = false := by simp [own, hor]
  rw [if_neg (by simp [hor]), if_neg (by simp [hown])]
  have h1 : chainSeen s1 = (s.time.nclk, s.spn.headPos, 0, s.spn.pos) := by
    refine (latchAlarm_keeps htier (fun _ _ => rfl) last _).trans ?_
    have hcount : ∀ n, (s.count .SF_MISS_CNT 0 n).spn = s.spn ∧ (s.count .SF_MISS_CNT 0 n).time = s.time := fun n => ⟨count_spn _ _ _ _, count_time _ _ _ _⟩
    unfold frameSeen chainSeen
    dsimp only
    split
    · rfl
    · rw [(hcount _).1, (hcount _).2]
  have h2 : chainSeen s2 = chainSeen s1 := ite_keeps _ rfl (hbRx_keeps (fun _ _ => rfl) (fun _ _ => rfl) (fun _ _ => rfl) _ _ s1)
  have h3 : chainSeen s3 = (s.time.nclk, leAt f 11 1, 0, s.spn.pos) := by
    refine (readSlots_keeps htalk (fun _ _ => rfl) (fun _ _ _ _ => rfl) _ _).trans ?_
    exact congrArg (fun v : Nat × Nat × Nat × Nat => (v.1, leAt f 11 1, v.2.2)) (h2.trans h1)
  clear_value s3
  have h5 : s5.spn = s4.spn := ite_keeps (p := State.spn) _ (ppsCheck_spn s4) rfl
  simp only [chainSeen, Prod.mk.injEq] at h3
  obtain ⟨hlast, hhead, hmiss, hp⟩ := h3
  refine ⟨s5, _, rfl, ?_, ?_, ?_, ?_, ?_, ?_⟩
  all_goals rw [h5]
  · exact hlast
  · exact hhead
  · exact hmiss
  · exact hp

section
variable (hh : s.su.held = false)
include hh

theorem superFrame_used_answers {f : Bytes} (h0 : s.spn.state ≠ 0) (hf : chainOk f = true) (hpos : s.spn.pos ≠ 0x3F) (hid : leAt f 0 2 = s.stackId)
    (hor : s.spn.origin = false) : Answers (.superFrame f) s fun t =>
      t.spn.sfn = leAt f 4 4 ∧ t.spn.members = leAt f 10 1 ∧ t.spn.lastSf = s.time.nclk ∧ t.spn.headPos = leAt f 11 1 ∧ t.spn.missed = 0 ∧
        t.spn.alarmSet = 0 ∧ t.spn.pos = s.spn.pos ∧ ∃ (pre : List Out) (g : Bytes), t.out = pre ++ [.chain g] := by
  refine onChain_answers hh (g := superRx) rfl h0 ?_
  obtain ⟨u, g, hrun, hsfn, hmem, hlast, hhead, hmiss, hp⟩ := superRx_effect hf hpos hid hor
  rw [hrun]
  exact ⟨hsfn, hmem, hlast, hhead, hmiss, rfl, hp, u.out, g, rfl⟩

/-! ### Enumeration -/

theorem enumFrame_joins_answers {f : Bytes} (h0 : s.spn.state ≠ 0) (hf : chainOk f = true) (hid : leAt f 0 2 = s.stackId) (hor : s.spn.origin = false)
    (hpos : s.spn.pos = 0x3F) (hv : leAt f 3 1 = s.expectPos) (h16 : leAt f 3 1 < 16) : Answers (.enumFrame f) s fun t =>
      t.spn = { s.spn with pos := leAt f 3 1, state := 2, lastSf := s.time.nclk } ∧
        t = { s with spn := t.spn, out := s.out ++ [.chain (s.enumFrameOf (leAt f 3 1 + 1))], lands := t.lands } := by
  refine onChain_answers hh (g := enumRx) rfl h0 ?_
  have hrun : enumRx f s = emit (.chain (s.enumFrameOf (leAt f 3 1 + 1)))
      { s with spn := { s.spn with pos := leAt f 3 1, state := 2, lastSf := s.time.nclk } } :=
    (if_neg (by simp [hf])).trans ((if_neg (by simp [hid, h0])).trans ((if_neg (by simp [hor])).trans ((if_neg (by simp [hpos])).trans
      ((if_neg (by omega)).trans (if_neg (by simp [hv]))))))
  rw [hrun]
  exact ⟨rfl, rfl⟩

theorem enumFrame_returns_answers {f : Bytes} (h1 : s.spn.state = 1) (hf : chainOk f = true) (hid : leAt f 0 2 = s.stackId)
    (hor : s.spn.origin = true) : Answers (.enumFrame f) s fun t =>
      t.spn = { s.spn with state := 2, members := leAt f 3 1, lastSf := s.time.nclk } ∧ t.out = s.out := by
  refine onChain_answers hh (g := enumRx) rfl (by omega) ?_
  have hrun : enumRx f s = { s with spn := { s.spn with state := 2, members := leAt f 3 1, lastSf := s.time.nclk } } :=
    (if_neg (by simp [hf])).trans ((if_neg (by simp [hid, h1])).trans (if_pos ⟨hor, h1⟩))
  rw [hrun]
  exact ⟨rfl, rfl⟩

theorem enumRepeat_answers (h1 : s.spn.state = 1) (hor : s.spn.origin = true) : Answers .enumRepeat s fun t =>
    t.out = s.out ++ [.chain (s.enumFrameOf (s.spn.pos + 1))] ∧ t.spn = s.spn := by
  refine answers_of_live enumAgain rfl hh ?_
  obtain ⟨x, hx⟩ := pace_eq_time paceEnum (msec 10) s
  unfold enumAgain
  rw [if_pos ⟨hor, h1⟩, hx]
  exact ⟨rfl, rfl⟩

/-! ### A chain that breaks, and one that never came up -/

theorem chainBroken_answers (h2 : s.spn.state = 2) : Answers .chainBroken s fun t =>
    t.spn = { s.spn with state := 3, missed := 8, origin := s.spn.pos = 1 || s.spn.origin, originPos := 1 } ∧
      s.spn.lastSf + usec 800 ≤ t.time.nclk ∧ t.out = s.out := by
  refine answers_of_live chainBreak rfl hh ?_
  obtain ⟨x, hx, hadv⟩ := advanceTo_takes (s.spn.lastSf + usec 800) s
  unfold chainBreak
  rw [if_neg (by simp [h2]), hadv]
  obtain ⟨y, hy⟩ : ∃ y, y = State.count { s with time := x } .SF_MISS_CNT 0 (8 - s.spn.missed) := ⟨_, rfl⟩
  have hs : y.spn = s.spn := by rw [hy, count_spn]
  rw [← show y.time = x by rw [hy, count_time]] at hx
  have ho : y.out = s.out := by rw [hy, count_out]
  dsimp only
  rw [← hy, hs]
  split
  · next h1 => exact ⟨by simp [h1], hx, ho⟩
  · next h1 => exact ⟨by simp [h1], hx, ho⟩

theorem originTimeout_answers {n : Nat} (hp : s.spn.portAt = some n) (h1 : s.spn.state = 1) (hpos : s.spn.pos = 0x3F) (hor : s.spn.origin = false)
    (he : s.expectPos = 1) (hw : s.su.warm = false) : Answers .originTimeout s fun t =>
      t.spn = { s.spn with origin := true, pos := 1, originPos := 1, portAt := none } ∧ n + secs 2 ≤ t.time.nclk ∧
        t.out = s.out ++ [.chain (s.enumFrameOf 2)] := by
  refine answers_of_live originLate rfl hh ?_
  obtain ⟨x, hx, hadv⟩ := advanceTo_takes (n + secs 2) s
  unfold originLate
  rw [hp]
  dsimp only
  rw [if_pos (by simp [h1, hpos, hor, he, hw]), hadv]
  exact ⟨rfl, hx, rfl⟩

theorem spnAlarmSet_answers (b : Byte) : Answers (.spnAlarmSet b) s fun t =>
    t = { s with spn := { s.spn with alarmSet := s.spn.alarmSet ||| b }, lands := t.lands } :=
  answers_of_live (alarmSetRun b) rfl hh rfl

end

end Sys2Proof.Machine
end

section
open Sys2Proof Sys2Proof.Machine

/-- Settles O39: frames start at the origin, are used and passed on by members of their stack alone, give positions, and are started anew. -/
theorem chainFramesMove : Obligations.ChainFramesMove := fun _ _ hh =>
  ⟨superFramePeriod_answers hh, superFrame_crc_answers hh, superFrame_bypassed_answers, superFrame_used_answers hh, enumFrame_joins_answers hh,
    enumFrame_returns_answers hh, enumRepeat_answers hh, chainBroken_answers hh, fun _ => originTimeout_answers hh, spnAlarmSet_answers hh⟩

end

section
/-! PROOFS. Claims of the headstock role, and the stack's map (R378, R380). -/

namespace Sys2Proof.Machine

variable {s : State} (hh : s.su.held = false)
include hh

theorem headClaim_own_answers {f : Bytes} (h0 : s.spn.state ≠ 0) (hf : chainOk f = true) (hpos : s.spn.pos ≠ 0x3F) (hid : leAt f 0 2 = s.stackId)
    (hown : leAt f 4 2 = s.myId.toNat) : Answers (.headClaimFrame f) s fun t => t = settle s := by
  refine onChain_answers hh (g := claimRx) rfl h0 ?_
  rw [show claimRx f s = s from (if_neg (by simp [hf])).trans ((if_neg (by simp [hpos, hid])).trans (if_pos hown))]

theorem headClaim_lower_answers {f : Bytes} (h0 : s.spn.state ≠ 0) (hf : chainOk f = true) (hpos : s.spn.pos ≠ 0x3F) (hid : leAt f 0 2 = s.stackId)
    (hown : leAt f 4 2 ≠ s.myId.toNat) (hlow : leAt f 3 1 < s.pairNo) : Answers (.headClaimFrame f) s fun t =>
      t.head.claimAt = none ∧ t.out = s.out ++ [.chain f] ∧ t.spn = s.spn ∧ t.pair = s.pair := by
  refine onChain_answers hh (g := claimRx) rfl h0 ?_
  have hrun : ∃ x : HeadSt, claimRx f s = emit (.chain f) { s with head := x } ∧ x.claimAt = none := by
    unfold claimRx
    rw [if_neg (by simp [hf]), if_neg (by simp [hpos, hid]), if_neg hown]
    dsimp only
    rw [if_pos hlow]
    dsimp only
    split
    · exact ⟨_, rfl, rfl⟩
    · exact ⟨_, rfl, rfl⟩
  obtain ⟨x, hx, hclaim⟩ := hrun
  rw [hx]
  exact ⟨hclaim, rfl, rfl, rfl⟩

theorem headstockAbsent_answers {n : Nat} (hn : s.head.absentAt = some n) (hp : s.pairNo ≠ 0) (hr : mapRole s.pair.role = 1)
    (hd : s.head.head = false) (hc : s.head.claimAt = none) (hpos : s.spn.pos ≠ 0x3F) : Answers .headstockAbsent s fun t =>
      t.head = { s.head with claimAt := some t.time.nclk, claimSent := t.time.nclk } ∧ n + secs 2 ≤ t.time.nclk ∧
        t.out = s.out ++ [.chain s.claimFrame] := by
  refine answers_of_live headAbsent rfl hh ?_
  obtain ⟨x, hx, hadv⟩ := advanceTo_takes (n + secs 2) s
  unfold headAbsent
  rw [hn]
  dsimp only
  rw [if_pos (by simp [hp, hr, hd, hc, hpos]), hadv]
  exact ⟨rfl, hx, rfl⟩

theorem headClaimRepeat_answers {n : Nat} (hc : s.head.claimAt = some n) : Answers .headClaimRepeat s fun t =>
    t.head = { s.head with claimSent := t.time.nclk } ∧ s.head.claimSent + msec 10 ≤ t.time.nclk ∧ t.out = s.out ++ [.chain s.claimFrame] := by
  refine answers_of_live claimAgain rfl hh ?_
  obtain ⟨x, hx, hadv⟩ := advanceTo_takes (s.head.claimSent + msec 10) s
  unfold claimAgain
  rw [if_pos (by simp [hc]), hadv]
  exact ⟨rfl, hx, rfl⟩

omit hh in
/-- The device's own byte of the map changes the map and what the headstock says of it. -/
theorem ownMapByte_keeps {α : Type} {p : State → α} (hp : OffTalk p)
    (hmap : ∀ s m e q, p { s with spn := { s.spn with map := m, epochs := e, mapSeq := q } } = p s) (s : State) : p (ownMapByte s) = p s := by
  have hbyte : ∀ n b s, p (s.setMapByte n b) = p s := fun n b s => hmap s _ s.spn.epochs s.spn.mapSeq
  unfold ownMapByte
  split
  · refine (publishMap_keeps hp (fun s q => hmap s s.spn.map s.spn.epochs q) _ _).trans ?_
    split
    · exact (hmap _ _ _ _).trans (hbyte _ _ s)
    · exact hbyte _ _ s
  · rfl

theorem headClaimWin_answers {n : Nat} (hc : s.head.claimAt = some n) : Answers .headClaimWin s fun t =>
    t.head.head = true ∧ t.head.claimAt = none ∧ t.spn.headPos = s.spn.pos ∧ n + msec 100 ≤ t.time.nclk ∧ t.mem = s.mem := by
  refine answers_of_live claimWin rfl hh ?_
  obtain ⟨x, hx, hadv⟩ := advanceTo_takes (n + msec 100) s
  have hrun : claimWin s = takeHead { s with time := x } := by
    unfold claimWin
    rw [hc, ← hadv]
  rw [hrun]
  have hp : OffTalk fun s : State => (s.head, s.spn.headPos, s.time, s.mem) := by constructor <;> intro _ _ <;> rfl
  have hkeep : ((takeHead { s with time := x }).head, (takeHead { s with time := x }).spn.headPos, (takeHead { s with time := x }).time,
      (takeHead { s with time := x }).mem) = (⟨true, none, none, 0, false⟩, s.spn.pos, x, s.mem) := ownMapByte_keeps hp (fun _ _ _ _ => rfl) _
  simp only [Prod.mk.injEq] at hkeep
  obtain ⟨hhead, hpos, htime, hmem⟩ := hkeep
  exact ⟨by rw [settle_head, hhead], by rw [settle_head, hhead], hpos, by rw [settle_time, htime]; exact hx, hmem⟩

theorem stackMap_newer_answers {m : MgtMsg} (hd : s.head.head = false) (hs : s.isDevice m.src = true)
    (ho : older s.spn.mapSeq.toNat (leAt m.payload 0 4) = true) : Answers (.stackMapUpdate m) s fun t =>
      t.spn.mapSeq = w32 (leAt m.payload 0 4) ∧ t.spn.map = padTo 32 (cut m.payload 4 32) ∧
        (∀ i : Fin 16, t.spn.epochs[i] = w32 (leAt m.payload (36 + 4 * i.val) 4)) ∧ t = { s with spn := t.spn, lands := t.lands } := by
  refine answers_of_live (mapRx m) rfl hh ?_
  unfold mapRx
  rw [if_neg (by simp [hd, hs, ho])]
  refine ⟨rfl, rfl, fun i => ?_, rfl⟩
  show (Vector.ofFn fun i : Fin 16 => w32 (leAt m.payload (36 + 4 * i.val) 4))[i] = _
  simp

theorem stackMap_older_answers {m : MgtMsg} (ho : older s.spn.mapSeq.toNat (leAt m.payload 0 4) = false) :
    Answers (.stackMapUpdate m) s fun t => t = settle s := by
  refine answers_of_live (mapRx m) rfl hh ?_
  rw [show mapRx m s = s from if_pos (by simp [ho])]

end Sys2Proof.Machine
end

section
open Sys2Proof Sys2Proof.Machine

/-- Settles O40: the role is claimed after 2 s, yielded to a lower pair and held after 100 ms; members take the newer map. -/
theorem headstockRoleIsClaimed : Obligations.HeadstockRoleIsClaimed := fun _ hh =>
  ⟨fun _ h0 hf hpos hid => ⟨headClaim_own_answers hh h0 hf hpos hid, headClaim_lower_answers hh h0 hf hpos hid⟩,
    fun _ => headstockAbsent_answers hh, fun _ hc => ⟨headClaimRepeat_answers hh hc, headClaimWin_answers hh hc⟩,
    fun _ hd hs => ⟨stackMap_newer_answers hh hd hs, stackMap_older_answers hh⟩⟩

end

section
/-! PROOFS. The stages of takeover and handover (R393, R395, R398). -/

namespace Sys2Proof.Machine

/-- The lines left owned in durable tracked regions take the marker (R395). -/
@[irreducible] def linesRecovered (s : State) : State :=
  s.rgn.tab.foldl (fun s e =>
    if e.2.kind = 1 ∧ e.2.durable ∧ e.2.st ≠ 0 then (s.ownedLines e.2).foldl (fun s l => recoverLine e.1 e.2 l s) s else s) s

/-- The slots open again, but those of the silent hosts (R395). -/
@[irreducible] def slotsReopened (silent : W16 → Bool) (s : State) : State :=
  (indices 16).foldl (fun s t =>
    (s.slotsOf t).foldl (fun s k =>
      match s.slotHost t k with
      | some a => s.setSlot t k (if silent a then 1 else 0)
      | none => s) s) s

theorem windowClose_eq {s : State} {n : Nat} (hw : s.pair.window = some n) :
    windowClose s =
      let t := linesRecovered (advanceTo (n + msec 2) s)
      (slotsReopened (fun a => t.pair.announces.any fun x => x.dest = a && !x.acked)
        { t with pool := { t.pool with dir := [], dirc := [] } }).updPair fun p => { p with window := none } := by
  unfold windowClose slotsReopened linesRecovered
  rw [hw] <;> rfl

theorem linesRecovered_of_none {s : State} (ht : (s.rgn.tab.all fun e => !(e.2.kind = 1 && e.2.durable && e.2.st ≠ 0)) = true) {x : TimeSt} :
    linesRecovered { s with time := x } = { s with time := x } := by
  unfold linesRecovered
  refine List.foldlRecOn _ _ (motive := fun u => u = { s with time := x }) rfl fun u hu e he => ?_
  have hno := List.all_eq_true.mp ht e he
  rw [if_neg (by
    rintro ⟨h1, h2, h3⟩
    simp [h1, h2, h3] at hno), hu]

theorem slotsReopened_slots (f : W16 → Bool) (s : State) : ∃ y, slotsReopened f s = { s with pool := { s.pool with slots := y } } := by
  unfold slotsReopened
  refine List.foldlRecOn _ _ (motive := fun (u : State) => ∃ y, u = { s with pool := { s.pool with slots := y } }) ⟨s.pool.slots, rfl⟩ fun u hu t _ => ?_
  refine List.foldlRecOn _ _ (motive := fun (u : State) => ∃ y, u = { s with pool := { s.pool with slots := y } }) hu ?_
  rintro _ ⟨y, rfl⟩ k -
  dsimp only
  split
  · exact ⟨_, rfl⟩
  · exact ⟨y, rfl⟩

theorem handStart_pair (s : State) : (handStart s).pair = { s.pair with role := 5, stages := [], handing := true } := by
  unfold handStart State.updPair
  simp only [setRole_pair, count_pair]

theorem handStart_mem (s : State) : (handStart s).mem = s.mem := by
  have h : OffTalk State.mem := by constructor <;> intro _ _ <;> rfl
  exact (h.setRole (fun _ _ => rfl) (fun _ _ => rfl) 5 _).trans (count_mem _ _ _ _)

theorem handStart_tier (s : State) : (handStart s).tier = s.tier := by
  have h : OffTalk State.tier := by constructor <;> intro _ _ <;> rfl
  exact (h.setRole (fun _ _ => rfl) (fun _ _ => rfl) 5 _).trans (count_tier _ _ _ _)

theorem handCkpt_pair (s : State) : (handCkpt s).pair = s.pair := by
  unfold handCkpt
  rw [closeJournals_rest]
  rfl

section
variable {s : State} (hh : s.su.held = false)
include hh

theorem takeover_first_completes (hr : s.pair.role = 4) (hs : s.pair.stages = []) :
    Completes (.takeoverStageDone true) s fun u => u = s.updPair fun p => { p with stages := [1] } := by
  refine completes_of_pumped (takeStageRun true) rfl hh ?_
  simp [takeStageRun, State.stageNow, takeStages, State.stageOver, stageEnd, stageMark, stageBegin, State.updPair, hr, hs]

theorem takeover_owned_completes (hr : s.pair.role = 4) (hs : s.pair.stages = [1]) (ho : s.pin.carOwn = 0xFF) :
    Completes (.takeoverStageDone true) s fun u =>
      u.pair = { s.pair with stages := [1, 2] } ∧ u.pwr.st = 0 ∧ (∀ q : Quarter, (u.quart q).st = 1) ∧ u.mem = s.mem ∧ u.tier = s.tier := by
  have hrun : takeStageRun true s = stageBegin 3 (s.updPair fun p => { p with stages := [1, 2] }) := by
    simp [takeStageRun, State.stageNow, takeStages, State.stageOver, State.ownAll, stageEnd, stageMark, State.updPair, hr, hs, ho]
  refine completes_of_pumped (takeStageRun true) rfl hh ?_
  rw [hrun]
  exact ⟨rfl, rfl, fun q => by simp [stageBegin, startDom, State.updDom, State.quart], rfl, rfl⟩

theorem takeover_unowned_completes (hr : s.pair.role = 4) (hs : s.pair.stages = [1]) (ho : s.pin.carOwn ≠ 0xFF) :
    Completes (.takeoverStageDone true) s fun u => u = s := by
  refine completes_of_pumped (takeStageRun true) rfl hh ?_
  simp [takeStageRun, State.stageNow, takeStages, State.stageOver, State.ownAll, hr, hs, show ¬ s.pin.carOwn = 255#8 from ho]

theorem takeover_unfinished_completes : Completes (.takeoverStageDone false) s fun u => u = s := by
  refine completes_of_pumped (takeStageRun false) rfl hh ?_
  unfold takeStageRun
  split <;> simp

/-- Where no durable tracked region stands, nothing is recovered: the window's end empties the directory and opens the slots again. -/
theorem recoveryWindowClose_completes {n : Nat} (hw : s.pair.window = some n)
    (ht : (s.rgn.tab.all fun e => !(e.2.kind = 1 && e.2.durable && e.2.st ≠ 0)) = true) : Completes .recoveryWindowClose s fun u =>
      u.pair = { s.pair with window := none } ∧ u.pool.dir = [] ∧ u.mem = s.mem ∧ u.tier = s.tier ∧ n + msec 2 ≤ u.time.nclk := by
  refine completes_of_pumped windowClose rfl hh ?_
  obtain ⟨x, hx, htime⟩ := advanceTo_takes (n + msec 2) s
  rw [windowClose_eq hw, htime, linesRecovered_of_none ht]
  dsimp only
  obtain ⟨y, hy⟩ := slotsReopened_slots _ { s with time := x, pool := { s.pool with dir := [], dirc := [] } }
  rw [hy]
  exact ⟨rfl, rfl, rfl, rfl, hx⟩

theorem pairYield_warm_answers (hb : s.isBusy .PAIR_CMD_RESULT 0 = false) (hr : s.pair.role = 1) (hp : s.pair.partnerReady = true)
    (hq : s.pair.partnerRole = 3) : Answers .pairYield s fun t =>
      t.pair.role = 5 ∧ t.pair.stages = [] ∧ t.pair.handing = true ∧ t.pair.byCmd = true ∧ t.mem = s.mem := by
  refine answers_of_live pairYieldRun rfl hh ?_
  have hrun : pairYieldRun s = handStart ((s.busy .PAIR_CMD_RESULT 0).updPair fun p => { p with byCmd := true }) := by
    unfold pairYieldRun
    rw [if_neg (by simp [hb]), if_neg (by simp [hr, hp, hq])]
    exact if_pos hq
  have hmem := handStart_mem ((s.busy .PAIR_CMD_RESULT 0).updPair fun p => { p with byCmd := true })
  rw [hrun]
  simp only [settle_pair, settle_mem, handStart_pair, hmem]
  exact ⟨trivial, trivial, trivial, rfl, rfl⟩

theorem pairYield_steady_answers (hb : s.isBusy .PAIR_CMD_RESULT 0 = false) (hr : s.pair.role = 1) (hp : s.pair.partnerReady = true)
    (hq : s.pair.partnerRole = 2) : Answers .pairYield s fun t =>
      t.pair = { s.pair with byCmd := true } ∧ t.isBusy .PAIR_CMD_RESULT 0 = true ∧ t.mem = s.mem := by
  refine answers_of_live pairYieldRun rfl hh ?_
  have hrun : pairYieldRun s = (s.busy .PAIR_CMD_RESULT 0).updPair fun p => { p with byCmd := true } := by
    unfold pairYieldRun
    rw [if_neg (by simp [hb]), if_neg (by simp [hr, hp, hq])]
    exact if_neg (by simp [State.updPair, State.busy, hq])
  rw [hrun]
  exact ⟨rfl, isBusy_busy s .PAIR_CMD_RESULT 0, rfl⟩

theorem pairYield_inactive_answers (hb : s.isBusy .PAIR_CMD_RESULT 0 = false) (hr : s.pair.role ≠ 1) : Answers .pairYield s fun t =>
      t.pair = s.pair ∧ t.reg .PAIR_CMD_RESULT 0 = w32 (s.pair.role % 16 * 256 + 3) := by
  refine answers_of_live pairYieldRun rfl hh ?_
  unfold pairYieldRun
  rw [if_neg (by simp [hb]), if_pos (Or.inl hr)]
  exact ⟨by simp, reg_result_self _ _ _ _ _⟩

theorem handoverStart_answers (hr : s.pair.role = 1) (hb : s.pair.partnerHandback = true) (hq : s.quiet = true) (hn : s.pair.handing = false) :
    Answers .handoverStart s fun t =>
      t.pair.role = 5 ∧ t.pair.stages = [] ∧ t.pair.handing = true ∧ t.mem = s.mem ∧ t.tier = s.tier := by
  refine answers_of_live handoverStartRun rfl hh ?_
  rw [show handoverStartRun s = handStart s from if_pos ⟨hr, hb, hq, by simp [hn]⟩]
  exact ⟨by simp [handStart_pair], by simp [handStart_pair], by simp [handStart_pair], handStart_mem s, handStart_tier s⟩

theorem handover_drained_completes (hr : s.pair.role = 5) (hs : s.pair.stages = []) (ht : s.pool.trks = []) (hx : s.pool.xwaits = []) :
    Completes .handoverStageDone s fun u => u.pair = { s.pair with stages := [1] } := by
  refine completes_of_pumped handStageRun rfl hh ?_
  have hrun : handStageRun s = handCkpt (stageMark 1 s) := by
    unfold handStageRun
    rw [if_neg (by simp [hr]), if_neg (by simp [hr])]
    simp [hs, ht, hx]
  rw [hrun, handCkpt_pair]
  simp [stageMark, State.updPair, hs]

theorem handover_flashed_completes (hr : s.pair.role = 5) (hs : s.pair.stages = [1]) (hd : s.isDrained = true) (hc : s.tier.ckpts = []) :
    Completes .handoverStageDone s fun u => u.pair = { s.pair with stages := [1, 2], seize := false } ∧ u.tier = s.tier := by
  refine completes_of_pumped handStageRun rfl hh ?_
  have hrun : handStageRun s = sendPair 0x13 [] ((stageMark 2 s).updPair fun p => { p with seize := false }) := by
    unfold handStageRun
    rw [if_neg (by simp [hr]), if_neg (by simp [hr])]
    simp [hs, hd, hc]
  have htier : OffTalk State.tier := by constructor <;> intro _ _ <;> rfl
  rw [hrun]
  refine ⟨(offTalk_pair.sendPair _ _ _).trans ?_, htier.sendPair _ _ _⟩
  simp [stageMark, State.updPair, hs]

theorem handover_sent_completes (hr : s.pair.role = 5) (hs : s.pair.stages = [1, 2]) : Completes .handoverStageDone s fun u =>
      u.pair.role = 2 ∧ u.pwr.st = 4 ∧ u.pair.stages = [] ∧ u.pair.handing = false ∧ u.mem = [] ∧ u.head.head = false := by
  refine completes_of_pumped handStageRun rfl hh ?_
  obtain ⟨-, hmem, hpwr, hrole⟩ := becomeSteady_effect s
  have hhead : (becomeSteady s).head.head = false := rfl
  unfold handStageRun
  rw [if_neg (by simp [hr]), if_neg (by simp [hr])]
  simp only [hs]
  obtain ⟨u, hu⟩ : ∃ u, u = becomeSteady s := ⟨_, rfl⟩
  rw [← hu] at hmem hpwr hrole hhead ⊢
  split
  · exact ⟨hrole, hpwr, rfl, rfl, hmem, hhead⟩
  · exact ⟨hrole, hpwr, rfl, rfl, hmem, hhead⟩

theorem handoverGo_warm_answers {m : MgtMsg} (hm : m.src = s.partnerId) (hp : s.soloRec = false) (hr : s.pair.role = 3) :
    Answers (.handoverGo m) s fun t => t.pair.role = 4 ∧ t.pair.seize = true ∧ t.pair.stages = [1, 3, 4] ∧ t.mem = s.mem := by
  refine answers_of_live (handGoRx m) rfl hh ?_
  have hmem : OffTalk State.mem := by constructor <;> intro _ _ <;> rfl
  unfold handGoRx
  rw [if_neg (by simp [hm, hp, hr])]
  exact ⟨by simp [State.updPair], rfl, by simp [State.updPair, hr],
    (hmem.setRole (fun _ _ => rfl) (fun _ _ => rfl) 4 _).trans (count_mem s .HANDOVER_CNT 0 1)⟩

theorem handoverGo_steady_answers {m : MgtMsg} (hm : m.src = s.partnerId) (hp : s.soloRec = false) (hr : s.pair.role = 2) :
    Answers (.handoverGo m) s fun t => t.pair.role = 4 ∧ t.pair.seize = true ∧ t.pair.stages = [1] := by
  refine answers_of_live (handGoRx m) rfl hh ?_
  unfold handGoRx
  rw [if_neg (by simp [hm, hp, hr])]
  exact ⟨by simp [State.updPair], rfl, by simp [State.updPair, hr]⟩

end

end Sys2Proof.Machine
end

section
open Sys2Proof Sys2Proof.Machine

/-- Settles O42: takeover and handover run stage after stage; the recovery window closes after 2 ms. -/
theorem takeoverAndHandoverStages : Obligations.TakeoverAndHandoverStages := fun _ hh =>
  ⟨takeover_first_completes hh, fun hr hs => ⟨takeover_owned_completes hh hr hs, takeover_unowned_completes hh hr hs⟩,
    takeover_unfinished_completes hh, fun _ => recoveryWindowClose_completes hh,
    fun hb hr hp => ⟨pairYield_warm_answers hh hb hr hp, pairYield_steady_answers hh hb hr hp⟩, pairYield_inactive_answers hh,
    handoverStart_answers hh,
    fun hr => ⟨handover_drained_completes hh hr, handover_flashed_completes hh hr, handover_sent_completes hh hr⟩,
    fun _ hm hp => ⟨handoverGo_warm_answers hh hm hp, handoverGo_steady_answers hh hm hp⟩⟩

end

section
/-! PROOFS. Record changes across the stack (R44, R45, R66, R379): the headstock's messages, and how a change begins. -/

namespace Sys2Proof.Machine

variable {s u : State}

/-! ### The messages of a transaction -/

theorem coordOut_recTx (d : W16) (a : Option Nat) (b : Bytes) (s : State) : (coordOut d a b s).coord.recTx = s.coord.recTx := by
  obtain ⟨l, hl⟩ := coordOut_coord d a b s
  rw [hl]

theorem coordOut_acked (d : W16) (a : Option Nat) (b : Bytes) (s : State) : (coordOut d a b s).coord.acked = s.coord.acked := by
  obtain ⟨l, hl⟩ := coordOut_coord d a b s
  rw [hl]

theorem mem_recTx_updTx {x : RecTx} (f : RecTx → RecTx) (hx : x ∈ s.coord.recTx) : f x ∈ (s.updTx x.id f).coord.recTx :=
  List.mem_map.2 ⟨x, hx, if_pos rfl⟩

theorem txSend_eq (id n : Nat) (body : Bytes) (l : List W16) (s : State) : txSend id n body l s =
    tellEach (fun e s => s.updTx id fun t => { t with waits := t.waits ++ [e] }) [byte n, 0, 0, 0] body l
      (s.updTx id fun x => { x with waits := [], since := s.time.nclk }) := rfl

/-- A message of the transaction has gone to each device, and each is waited for. -/
theorem txSend_told {x : RecTx} (hx : x ∈ s.coord.recTx) (n : Nat) (body : Bytes) (l : List W16) :
    ∃ vs, vs.map Prod.fst = l ∧ { x with waits := vs, since := s.time.nclk } ∈ (txSend x.id n body l s).coord.recTx ∧
      Speaks s (txSend x.id n body l s) ∧ ∀ w ∈ vs, (txSend x.id n body l s).Told w.1 none ([byte n, 0, 0, 0] ++ toLe 4 w.2.1.toNat ++ body) := by
  let H : List (W16 × W32 × Nat) → State → Prop := fun ws u => { x with waits := ws, since := s.time.nclk } ∈ u.coord.recTx
  have hnote : ∀ ws (e : W16 × W32 × Nat) u, H ws u → H (ws ++ [e]) (u.updTx x.id fun t => { t with waits := t.waits ++ [e] }) :=
    fun ws e u hu => mem_recTx_updTx (fun t => { t with waits := t.waits ++ [e] }) hu
  have hout : ∀ ws d b u, H ws u → H ws (coordOut d none b u) := fun ws d b u hu => by
    show _ ∈ (coordOut d none b u).coord.recTx
    rwa [coordOut_recTx]
  have hstart : H [] (s.updTx x.id fun t => { t with waits := [], since := s.time.nclk }) :=
    mem_recTx_updTx (fun t => { t with waits := [], since := s.time.nclk }) hx
  obtain ⟨vs, hmap, hH, hsp, htold⟩ := tellEach_told (pre := [byte n, 0, 0, 0]) (body := body) H hnote
    (fun e u => speaks_of_eq rfl rfl rfl fun _ => rfl) hout (fun _ _ _ h => h) l hstart
  exact ⟨vs, hmap, hH, (speaks_of_eq rfl rfl rfl fun _ => rfl : Speaks s (s.updTx x.id _)).trans hsp, htold⟩

theorem txSend_acked (id n : Nat) (body : Bytes) (l : List W16) (s : State) : (txSend id n body l s).coord.acked = s.coord.acked := by
  let p : State → List CoordAcked := fun s => s.coord.acked
  show p (txSend id n body l s) = p s
  unfold txSend
  refine (foldl_keeps p _ (fun s d => ?_) l _).trans rfl
  exact (coordOut_acked _ _ _ _).trans rfl

/-- What an issuer reads its answer from stays while messages go out. -/
theorem replied_of_speaks {h : CmdHdr} {cmd : Nat} {st : Byte} {code : Nat} {res : Bytes} (hs : s.Replied h cmd st code res) (hsp : Speaks s u)
    (hack : ∀ a ∈ s.coord.acked, a ∈ u.coord.acked) (hreg : ∀ r i, r.info.cnt = false → i < 65536 → u.reg r i = s.reg r i) :
    u.Replied h cmd st code res := by
  obtain ⟨iss, hseq, hhan, hqu⟩ := h
  cases iss with
  | bmc => exact ⟨(hreg _ 0 rfl (by omega)).trans hs.1, fun i hi => (hreg _ i rfl (by omega)).trans (hs.2 i hi)⟩
  | ep a =>
    obtain ⟨p, tag, hint, hout⟩ := hs
    rw [← hsp.myId] at hout
    exact ⟨p, tag, hint, hsp.outs _ hout⟩
  | fwd d x i => exact hack _ hs
  | rgnCmd _ => exact fun q hq => (hreg _ q rfl (by omega)).trans (hs q hq)
  | slotCmd q => exact (hreg _ q.val rfl (by omega)).trans hs
  | hwdCmd => exact (hreg _ 0 rfl (by omega)).trans hs

theorem txSend_replied {h : CmdHdr} {cmd : Nat} {st : Byte} {code : Nat} {res : Bytes} (hs : s.Replied h cmd st code res) {x : RecTx}
    (hx : x ∈ s.coord.recTx) (n : Nat) (body : Bytes) (l : List W16) : (txSend x.id n body l s).Replied h cmd st code res := by
  obtain ⟨-, -, -, hsp, -⟩ := txSend_told hx n body l
  exact replied_of_speaks hs hsp (fun a ha => (txSend_acked _ _ _ _ s).symm ▸ ha)
    fun r i hr hi => (offSays_reg hr hi).txSend x.id n body l s

/-- A record change that begins: PREPARE has gone to every active device. -/
theorem txStart_begun (hg : s.pairGap = false) (obj op n : Nat) (rec_ : Bytes) (h : CmdHdr) (cmd : Nat) (res : Bytes) (late : Bool) :
    Begun s (txStart obj op n rec_ h cmd res late s.activeIds s) obj op n rec_ h := by
  have hrgn : OffTalk State.rgn := by constructor <;> intro _ _ <;> rfl
  have hctx : OffTalk State.ctx := by constructor <;> intro _ _ <;> rfl
  have hmem : OffTalk State.mem := by constructor <;> intro _ _ <;> rfl
  refine ⟨?_, hrgn.txStart _ _ _ _ _ _ _ _ _ _, hctx.txStart _ _ _ _ _ _ _ _ _ _, hmem.txStart _ _ _ _ _ _ _ _ _ _⟩
  let id := (s.coord.recTx.map RecTx.id).foldl max 0 + 1
  let tx : RecTx := ⟨id, 0, obj, op, n, rec_, [], s.time.nclk, h, cmd, res, late⟩
  have hrun : txStart obj op n rec_ h cmd res late s.activeIds s = txSend id 1 (objBody obj op n rec_) s.activeIds
      { s with coord := { s.coord with recTx := s.coord.recTx ++ [tx] } } := by
    unfold txStart
    simp only [hg, Bool.false_eq_true, if_false]
    rfl
  obtain ⟨vs, hmap, hmem, -, htold⟩ := txSend_told (s := { s with coord := { s.coord with recTx := s.coord.recTx ++ [tx] } }) (x := tx)
    (List.mem_append_right _ List.mem_cons_self) 1 (objBody obj op n rec_) s.activeIds
  rw [hrun]
  exact ⟨_, hmem, rfl, rfl, rfl, rfl, rfl, rfl, hmap, htold⟩

/-! ### The commands that begin a change -/

section
variable {h : CmdHdr} {t : TenantId} (hh : s.su.held = false) (hc : s.classOf h.iss = .ta t) (hhead : s.head.head = true) (hg : s.pairGap = false)
include hh hc hhead hg

omit hh hc hg in
/-- The headstock executes the command itself. -/
theorem atHead_head (cmd : Nat) (args : Bytes) (f : State → State) : atHead h cmd args f s = f s := by
  unfold atHead State.headId
  rw [if_pos hhead]
  exact if_pos hhead

omit hh hc hhead hg in
theorem ownCtx_own {c : Ctx} (hl : s.liveCtx h.handle = some c) (ht : c.tenant = t) (cmd : Nat) (f : Ctx → State → State) :
    ownCtx h cmd t f s = f c s := by
  unfold ownCtx
  rw [hl]
  exact if_neg (by simp [ht])

omit hh hhead hg in
theorem withRegion_own {n : Nat} {g : Region} (hr : s.region n = some g) (ht : g.tenant = t) (cmd : Nat) (f : Region → State → State) :
    withRegion h cmd n f s = f g s := by
  unfold withRegion
  rw [onlyTA_of_ta hc, hr]
  exact if_neg (by simp [ht])

theorem ctxCreate_begun {i : Nat} (hi : s.freeCtx = some i) : Completes (.ctxCreate h) s fun u =>
    Begun s u 0 0 (s.ctx.incs.get 0 i * 4096 + i) (ctxRecord ⟨1, t, List.replicate 16 (zeros 32), [], none⟩) h := by
  refine completes_of_pumped (ctxCreateRun h) rfl hh ?_
  unfold ctxCreateRun
  rw [onlyTA_of_ta hc, atHead_head hhead]
  simp only [hi]
  exact txStart_begun hg _ _ _ _ _ _ _ _

theorem ctxDestroy_begun {c : Ctx} (hl : s.liveCtx h.handle = some c) (ht : c.tenant = t) (hst : c.st = 1 ∨ c.st = 2) :
    Completes (.ctxDestroy h) s fun u => Begun s u 0 1 h.handle.toNat [] h := by
  refine completes_of_pumped (ctxDestroyRun h) rfl hh ?_
  unfold ctxDestroyRun
  rw [onlyTA_of_ta hc, ownCtx_own hl ht, if_neg (by omega), atHead_head hhead]
  exact txStart_begun hg _ _ _ _ _ _ _ _

omit hh in
/-- A change of a region's state that its checks let through begins. -/
theorem regionChange_begun {n : Nat} {g : Region} (hr : s.region n = some g) (ht : g.tenant = t) {ok : Nat → Bool} (hok : ok g.st = true)
    {bad : Region → State → Bool} (hbad : bad g s = false) (cmd op st : Nat) (late : Bool) :
    Begun s (regionChange h cmd n ok op st late bad s) 1 op n (regionRecord st g.desc) h := by
  unfold regionChange
  rw [withRegion_own hc hr ht, atHead_head hhead, hr]
  simp only [hok, hbad, Bool.not_true, Bool.or_self, Bool.false_eq_true, if_false]
  exact txStart_begun hg _ _ _ _ _ _ _ _

theorem regionQuiesce_begun {n : W16} {g : Region} (hr : s.region n.toNat = some g) (ht : g.tenant = t) (hst : g.st = 1) :
    Completes (.regionQuiesce h n) s fun u => Begun s u 1 0 n.toNat (regionRecord 2 g.desc) h :=
  completes_of_pumped (regionQuiesceRun h n) rfl hh (regionChange_begun hc hhead hg hr ht (by simp [hst]) rfl _ _ _ _)

theorem regionResume_begun {n : W16} {g : Region} (hr : s.region n.toNat = some g) (ht : g.tenant = t) (hst : g.st = 2) :
    Completes (.regionResume h n) s fun u => Begun s u 1 0 n.toNat (regionRecord 1 g.desc) h :=
  completes_of_pumped (regionResumeRun h n) rfl hh (regionChange_begun hc hhead hg hr ht (by simp [hst]) rfl _ _ _ _)

theorem regionDelete_begun {n : W16} {g : Region} (hr : s.region n.toNat = some g) (ht : g.tenant = t) (hst : g.st = 2 ∨ g.st = 4)
    (hp : g.ptab = true → s.ptInUse g = false) (hd : s.dependents n.toNat = []) :
    Completes (.regionDelete h n) s fun u => Begun s u 1 1 n.toNat (regionRecord 3 g.desc) h := by
  refine completes_of_pumped (regionDeleteRun h n) rfl hh (regionChange_begun hc hhead hg hr ht (by simpa using hst) ?_ _ _ _ _)
  simpa [hd] using hp

end

end Sys2Proof.Machine
end

section
open Sys2Proof Sys2Proof.Machine

/-- Settles O4: each command passes its checks at the headstock and starts the transaction (`txStart_begun`). -/
theorem recordChangesBeginWithPrepare : Obligations.RecordChangesBeginWithPrepare := fun _ _ _ hh hc hhead hg =>
  ⟨fun _ => ctxCreate_begun hh hc hhead hg, fun _ => ctxDestroy_begun hh hc hhead hg,
    fun _ _ hr ht => ⟨regionQuiesce_begun hh hc hhead hg hr ht, regionResume_begun hh hc hhead hg hr ht, regionDelete_begun hh hc hhead hg hr ht⟩⟩

end

section
/-! PROOFS. How the headstock carries a record change through, repeats it and gives it up (R379). -/

namespace Sys2Proof.Machine

variable {s u : State}

/-! ### A reply leaves the transactions -/

theorem failResult_coord (cmd : Nat) (s : State) : (failResult cmd s).2.coord = s.coord := by
  unfold failResult
  split_ifs <;> rfl

theorem conflictEv_coord (h : CmdHdr) (cmd code : Nat) (s : State) : (conflictEv h cmd code s).coord = s.coord := by
  unfold conflictEv
  cases h.iss <;> simp

theorem coordAckSend_coord (d : W16) (x : W32) (n : Nat) (st : Byte) (k : Nat) (b : Bytes) (s : State) :
    ∃ l a f, (coordAckSend d x n st k b s).coord = { s.coord with loop := l, acked := a, fwdOpen := f } := by
  unfold coordAckSend
  obtain ⟨l, hl⟩ := coordOut_coord d (some k) ([byte n, st, 0, 0] ++ toLe 4 x.toNat ++ b)
    { s with coord := { s.coord with acked := ⟨d, x, n, st, b⟩ :: s.coord.acked,
                                     fwdOpen := s.coord.fwdOpen.filter fun e => !(e.1 = d && e.2 = x) } }
  exact ⟨l, _, _, hl⟩

/-- A reply notes what it acknowledges, and leaves the rest of the device's coordination state. -/
theorem reply_coord (h : CmdHdr) (cmd : Nat) (st : Byte) (n k : Nat) (res : Bytes) (s : State) :
    ∃ l a f, (reply h cmd st n k res s).coord = { s.coord with loop := l, acked := a, fwdOpen := f } := by
  have h1 : (if st ≠ stOK ∧ res = [] then failResult cmd s else (res, s)).2.coord = s.coord := by
    split
    · exact failResult_coord _ _
    · rfl
  unfold reply
  simp only
  generalize (if st ≠ stOK ∧ res = [] then failResult cmd s else (res, s)) = q at h1
  have h2 : (if st = stSTATE_CONFLICT then conflictEv h cmd n q.2 else q.2).coord = s.coord := by
    split
    · exact (conflictEv_coord _ _ _ _).trans h1
    · exact h1
  generalize (if st = stSTATE_CONFLICT then conflictEv h cmd n q.2 else q.2) = v at h2
  have hsame : ∀ w : State, w.coord = s.coord → ∃ l a f, w.coord = { s.coord with loop := l, acked := a, fwdOpen := f } :=
    fun w hw => ⟨s.coord.loop, s.coord.acked, s.coord.fwdOpen, hw⟩
  cases h.iss with
  | bmc =>
    refine hsame _ ((setReg_coord _ _ _ _).trans ((foldl_keeps State.coord _ (fun s i => ?_) _ _).trans h2))
    exact setReg_coord _ _ _ _
  | ep a => exact hsame _ ((send_coord _ _).trans h2)
  | fwd d x i =>
    obtain ⟨l, a, f, hw⟩ := coordAckSend_coord d x 4 st k (replyBlock cmd h.seq st (if st = stSTATE_CONFLICT then n else 0) q.1) v
    exact ⟨l, a, f, hw.trans (by rw [h2])⟩
  | rgnCmd _ =>
    refine hsame _ ((foldl_keeps State.coord _ (fun s q => ?_) _ _).trans h2)
    exact result_coord _ _ _ _ _
  | slotCmd q => exact hsame _ ((result_coord _ _ _ _ _).trans h2)
  | hwdCmd => exact hsame _ ((result_coord _ _ _ _ _).trans h2)

theorem reply_recTx (h : CmdHdr) (cmd : Nat) (st : Byte) (n k : Nat) (res : Bytes) (s : State) :
    (reply h cmd st n k res s).coord.recTx = s.coord.recTx := by
  obtain ⟨l, a, f, h⟩ := reply_coord h cmd st n k res s
  rw [h]

theorem txAnswer_recTx (x : RecTx) (st : Byte) (n k : Nat) (s : State) : (txAnswer x st n k s).coord.recTx = s.coord.recTx := by
  unfold txAnswer
  split
  · rfl
  · exact reply_recTx _ _ _ _ _ _ _

/-! ### A transaction that waits for one device -/

theorem find_of_only {α : Type} {l : List α} {p : α → Bool} {x : α} (hx : x ∈ l) (hp : p x = true) (h : ∀ y ∈ l, p y = true → y = x) :
    l.find? p = some x := by
  cases hf : l.find? p with
  | none => exact absurd hp (by simpa using List.find?_eq_none.1 hf x hx)
  | some y => rw [h y (List.mem_of_find?_eq_some hf) (List.find?_some hf)]

section
variable {x : RecTx} {d : W16} {xid : W32} {n : Nat} (hh : s.su.held = false) (hx : x ∈ s.coord.recTx) (h0 : x.phase = 0) (hcmd : x.cmd ≠ 0)
  (honly : ∀ y ∈ s.coord.recTx, ∀ w ∈ y.waits, w.2.1 = xid → y = x) (hw : x.waits = [(d, xid, n)])
include hh hx h0 hcmd honly hw

omit hh h0 hcmd in
theorem acked_find : (s.coord.recTx.find? fun y => y.waits.any fun w => w.1 = d && w.2.1 = xid) = some x :=
  find_of_only hx (by simp [hw]) fun y hy hp => by
    obtain ⟨w, hwy, hp⟩ := List.any_eq_true.1 hp
    exact honly y hy w hwy (by simp at hp; exact hp.2)

omit hh hcmd in
theorem retry_find : (s.coord.recTx.find? fun y => y.phase = 0 && y.waits.any fun w => w.2.1 = xid) = some x :=
  find_of_only hx (by simp [hw, h0]) fun y hy hp => by
    simp only [Bool.and_eq_true] at hp
    obtain ⟨w, hwy, hp⟩ := List.any_eq_true.1 hp.2
    exact honly y hy w hwy (by simpa using hp)

theorem coordAck_last_completes (hl : x.late = false) : Completes (.coordAck d 0 1 0 xid []) s fun u =>
    u.Replied x.h x.cmd 0 0 x.reply ∧ ∃ y ∈ u.coord.recTx, y.id = x.id ∧ y.phase = 1 ∧ y.waits.map Prod.fst = s.activeIds := by
  refine completes_of_pumped (coordAckRx d 0 1 0 xid []) rfl hh ?_
  have hrun : coordAckRx d 0 1 0 xid [] s = txCommit x (s.updTx x.id fun t => { t with waits := [] }) := by
    show txAcked d xid 0 0 s = _
    unfold txAcked
    rw [acked_find hx honly hw]
    simp [hw, h0, stOK]
    rw [← hw, ← h0]
  let s1 := (s.updTx x.id fun t => { t with waits := [] }).updTx x.id fun t => { t with phase := 1 }
  have hx1 : ({ x with waits := [], phase := 1 } : RecTx) ∈ s1.coord.recTx :=
    mem_recTx_updTx (s := s.updTx x.id fun t => { t with waits := [] }) (x := { x with waits := [] }) (fun t => { t with phase := 1 })
      (mem_recTx_updTx (fun t => { t with waits := [] }) hx)
  obtain ⟨vs, hmap, hmem, -, -⟩ := txSend_told hx1 2 (objBody x.obj x.op x.number []) s.activeIds
  have hcommit : txCommit x (s.updTx x.id fun t => { t with waits := [] }) =
      txAnswer x stOK 0 0 (txSend x.id 2 (objBody x.obj x.op x.number []) s.activeIds s1) := by
    unfold txCommit
    simp only [hcmd, hl, Bool.false_eq_true, if_false]
    rfl
  rw [← txAnswer_recTx x stOK 0 0] at hmem
  rw [hrun, hcommit]
  refine ⟨?_, _, hmem, rfl, rfl, hmap⟩
  rw [show txAnswer x stOK 0 0 _ = replyOk x.h x.cmd x.reply _ from if_neg hcmd]
  exact replyOk_replied _ _ _ _

omit hh hcmd in
theorem prepareRetry_again (hn : n < 5) {v : State} (hv : v = advanceTo (x.since + msec (10 * n)) s) : prepareRetryRun xid s =
    coordOut d none ([1, 0, 0, 0] ++ toLe 4 xid.toNat ++ objBody x.obj x.op x.number x.body)
      (v.updTx x.id fun t => { t with waits := t.waits.map fun w => if w.2.1 = xid then (w.1, w.2.1, n + 1) else w }) := by
  unfold prepareRetryRun recRetry
  rw [if_pos (List.any_eq_true.2 ⟨x, hx, by simp [hw]⟩), retry_find hx h0 honly hw]
  simp only [hw, List.find?_cons, decide_true, ← hv]
  exact if_neg (by omega)

omit hh hcmd in
theorem prepareRetry_gives_up (hn : 5 ≤ n) {v : State} (hv : v = advanceTo (x.since + msec (10 * n)) s) :
    prepareRetryRun xid s = txAbort x stRETRY_BUSY 0 (hintNs 100000000) v := by
  unfold prepareRetryRun recRetry
  rw [if_pos (List.any_eq_true.2 ⟨x, hx, by simp [hw]⟩), retry_find hx h0 honly hw]
  simp only [hw, List.find?_cons, decide_true, ← hv]
  exact if_pos hn

omit hcmd in
theorem recPrepareRetry_completes (hn : n < 5) : Completes (.recPrepareRetry xid) s fun u =>
    u.Told d none ([1, 0, 0, 0] ++ toLe 4 xid.toNat ++ objBody x.obj x.op x.number x.body) ∧
      x.since + msec 10 * n ≤ u.time.nclk ∧ ∃ y ∈ u.coord.recTx, y.id = x.id ∧ y.phase = 0 ∧ y.waits = [(d, xid, n + 1)] := by
  refine completes_of_pumped (prepareRetryRun xid) rfl hh ?_
  obtain ⟨z, hz, hv⟩ := advanceTo_takes (x.since + msec (10 * n)) s
  have hmem : x ∈ ({ s with time := z } : State).coord.recTx := hx
  have hmem' := mem_recTx_updTx (fun t => { t with waits := t.waits.map fun w => if w.2.1 = xid then (w.1, w.2.1, n + 1) else w }) hmem
  rw [← coordOut_recTx d none ([1, 0, 0, 0] ++ toLe 4 xid.toNat ++ objBody x.obj x.op x.number x.body)] at hmem'
  rw [prepareRetry_again hx h0 honly hw hn hv.symm]
  refine ⟨coordOut_told _ _ _ _, ?_, _, hmem', rfl, h0, by simp [hw]⟩
  rw [coordOut_keeps State.time (fun _ _ => rfl) (fun _ _ => rfl) (fun _ _ => rfl) (fun _ _ => rfl) (fun _ _ => rfl)]
  exact (by simp [msec]; omega : x.since + msec 10 * n ≤ x.since + msec (10 * n)).trans hz

theorem recPrepareRetry_abandons (hn : 5 ≤ n) (hc : x.cmd ≠ 0x121 ∧ x.cmd ≠ 0x502 ∧ x.cmd ≠ 0x133) : Completes (.recPrepareRetry xid) s fun u =>
    u.Replied x.h x.cmd 1 0 [] ∧ ∃ y ∈ u.coord.recTx, y.id = x.id ∧ y.phase = 2 := by
  refine completes_of_pumped (prepareRetryRun xid) rfl hh ?_
  obtain ⟨z, -, hv⟩ := advanceTo_takes (x.since + msec (10 * n)) s
  rw [prepareRetry_gives_up hx h0 honly hw hn hv.symm]
  have hmem : x ∈ ({ s with time := z } : State).coord.recTx := hx
  have hmem' := mem_recTx_updTx (fun t => { t with phase := 2 }) hmem
  have hans : ∀ v, txAnswer x stRETRY_BUSY 0 (hintNs 100000000) v = reply x.h x.cmd 1 0 (hintNs 100000000) [] v := fun v => if_neg hcmd
  have hrep := reply_replied (({ s with time := z } : State).updTx x.id fun t => { t with phase := 2 }) x.h x.cmd 1 0 (hintNs 100000000) []
    (.inr (.inr hc))
  have hmem2 : ({ x with phase := 2 } : RecTx) ∈ (reply x.h x.cmd 1 0 (hintNs 100000000) []
      (({ s with time := z } : State).updTx x.id fun t => { t with phase := 2 })).coord.recTx := by rwa [reply_recTx]
  unfold txAbort
  rw [hans]
  obtain ⟨vs, -, hmem3, -, -⟩ := txSend_told hmem2 3 (objBody x.obj x.op x.number []) (reply x.h x.cmd 1 0 (hintNs 100000000) []
      (({ s with time := z } : State).updTx x.id fun t => { t with phase := 2 })).activeIds
  exact ⟨txSend_replied hrep hmem2 _ _ _, _, hmem3, rfl, rfl⟩

end

end Sys2Proof.Machine
end

section
open Sys2Proof Sys2Proof.Machine

/-- Settles O6: the transaction found by its XID commits on the last acknowledgement, repeats PREPARE, and aborts the fifth time. -/
theorem headstockCarriesChangesThrough : Obligations.HeadstockCarriesChangesThrough := fun _ _ _ _ _ hh hx h0 hcmd _ honly hw =>
  ⟨coordAck_last_completes hh hx h0 hcmd honly hw, recPrepareRetry_completes hh hx h0 honly hw,
    fun hn h1 h2 h3 => recPrepareRetry_abandons hh hx h0 hcmd honly hw hn ⟨h1, h2, h3⟩⟩

end

section
/-! PROOFS. Records at a member: prepared, committed, dropped, and their way to FREE (R44, R45, R63, R66, R379). -/

namespace Sys2Proof.Machine

variable {s : State}

/-! ### PREPARE, COMMIT and ABORT at a member -/

/-- An acknowledgement leaves the records prepared. -/
theorem coordAckSend_pend (d : W16) (x : W32) (n : Nat) (st : Byte) (k : Nat) (b : Bytes) (s : State) :
    (coordAckSend d x n st k b s).coord.pend = s.coord.pend := by
  obtain ⟨l, a, f, h⟩ := coordAckSend_coord d x n st k b s
  rw [h]

/-- A context record that no live context holds becomes one, ACTIVE, with its tenant and its segments. -/
theorem ctxInstall_live {n : W16} (hn : s.liveCtx n = none) (rec_ : Bytes) : (ctxInstall n.toNat rec_ s).liveCtx n =
    some ⟨1, tenOf (leAt rec_ 0 1), (List.range 16).map fun i => cut rec_ (4 + 32 * i) 32, [], none⟩ := by
  have hw : s.liveCtx (w16 n.toNat) = none := by rwa [show w16 n.toNat = n by simp [w16]]
  unfold ctxInstall
  rw [hw]
  unfold State.liveCtx State.setCtx ctxIndex
  simp only [Sparse.find_ins_self, Sparse.get_put_self]
  rfl

section
variable {c : Coord} {number : W16} (hh : s.su.held = false) (hd : s.isDevice c.src = true) (hcl : s.closedHint = none)
  (ha : ∀ a ∈ s.coord.acked, ¬(a.src = c.src ∧ a.xid = c.xid)) (hf : (c.src, c.xid) ∉ s.coord.fwdOpen)
include hh hd hcl ha hf

theorem recPrepare_region_completes {rec_ : Bytes} {b l : Nat} (hn : s.region number.toNat = none)
    (hp : (s.dropPend 1 number.toNat).placeRegion (regionOf (cut rec_ 4 320) 0 0) = .at_ b l) : Completes (.recPrepare c 1 0 number rec_) s fun u =>
      ⟨c.xid, 1, 0, number.toNat, padTo 324 rec_ ++ toLe 8 b ++ toLe 8 l⟩ ∈ u.coord.pend ∧ u.Acked c 1 0 ∧ u.rgn = s.rgn ∧ u.mem = s.mem := by
  have hrgn : OffTalk State.rgn := by constructor <;> intro _ _ <;> rfl
  have hmem : OffTalk State.mem := by constructor <;> intro _ _ <;> rfl
  refine completes_of_pumped (coordFrom c 1 (recPrepareRx c 1 0 number.toNat rec_)) rfl hh ?_
  rw [coordFrom_runs hd hcl ha hf, recPrepareRx, coordOnce_runs ha hf, if_neg (by omega), if_pos ⟨rfl, rfl, by simp [hn]⟩]
  dsimp only
  rw [hp]
  refine ⟨?_, coordAckSend_isAcked _ _ _ _ _ _, hrgn.coordAckSend _ _ _ _ _ _ _, hmem.coordAckSend _ _ _ _ _ _ _⟩
  rw [coordAckSend_pend]
  exact List.mem_append_right _ List.mem_cons_self

theorem recPrepare_context_completes (rec_ : Bytes) : Completes (.recPrepare c 0 0 number rec_) s fun u =>
      ⟨c.xid, 0, 0, number.toNat, rec_⟩ ∈ u.coord.pend ∧ u.Acked c 1 0 ∧ u.ctx = s.ctx := by
  have hctx : OffTalk State.ctx := by constructor <;> intro _ _ <;> rfl
  refine completes_of_pumped (coordFrom c 1 (recPrepareRx c 0 0 number.toNat rec_)) rfl hh ?_
  rw [coordFrom_runs hd hcl ha hf, recPrepareRx, coordOnce_runs ha hf, if_neg (by omega), if_neg (by simp)]
  refine ⟨?_, coordAckSend_isAcked _ _ _ _ _ _, hctx.coordAckSend _ _ _ _ _ _ _⟩
  rw [coordAckSend_pend]
  exact List.mem_append_right _ List.mem_cons_self

theorem recCommit_context_completes (op : Byte) {p : PendRec} (hp : (s.coord.pend.find? fun p => p.obj = 0 && p.number = number.toNat) = some p)
    (hop : p.op = 0) (hn : p.number = number.toNat) (hl : s.liveCtx number = none) : Completes (.recCommit c 0 op number) s fun u =>
      (∃ x, u.liveCtx number = some x ∧ x.st = 1 ∧ x.tenant = tenOf (leAt p.body 0 1) ∧
        x.segs = (List.range 16).map fun i => cut p.body (4 + 32 * i) 32) ∧ u.Acked c 2 0 ∧ u.mem = s.mem ∧ u.rgn = s.rgn := by
  have hctx : OffTalk fun s : State => s.liveCtx number := by constructor <;> intro _ _ <;> rfl
  have hrgn : OffTalk State.rgn := by constructor <;> intro _ _ <;> rfl
  have hmem : OffTalk State.mem := by constructor <;> intro _ _ <;> rfl
  have hobj : p.obj = 0 := by
    have := List.find?_some hp
    simp at this
    exact this.1
  refine completes_of_pumped (coordFrom c 2 (recCommitRx c 0 number.toNat)) rfl hh ?_
  have hrun : recCommitRx c 0 number.toNat s = coordAckSend c.src c.xid 2 stOK 0 [] (ctxInstall number.toNat p.body (s.dropPend 0 number.toNat)) := by
    unfold recCommitRx
    rw [coordOnce_runs ha hf, hp]
    simp [recApply, hobj, hop, hn]
  have hkeep : ∀ {α : Type} (q : State → α), (∀ s x, q { s with ctx := x } = q s) → (∀ s x, q { s with coord := x } = q s) →
      q (ctxInstall number.toNat p.body (s.dropPend 0 number.toNat)) = q s := fun q h1 h2 => by
    unfold ctxInstall
    split
    · exact (h1 _ _).trans (h2 s _)
    · exact (h1 _ _).trans ((h1 _ _).trans (h2 s _))
  rw [coordFrom_runs hd hcl ha hf, hrun]
  refine ⟨⟨⟨1, tenOf (leAt p.body 0 1), (List.range 16).map fun i => cut p.body (4 + 32 * i) 32, [], none⟩, ?_, rfl, rfl, rfl⟩,
    coordAckSend_isAcked _ _ _ _ _ _, (hmem.coordAckSend _ _ _ _ _ _ _).trans (hkeep _ (fun _ _ => rfl) fun _ _ => rfl),
    (hrgn.coordAckSend _ _ _ _ _ _ _).trans (hkeep _ (fun _ _ => rfl) fun _ _ => rfl)⟩
  exact (hctx.coordAckSend _ _ _ _ _ _ _).trans (ctxInstall_live (s := s.dropPend 0 number.toNat) hl p.body)

theorem recAbort_completes (obj op : Byte) : Completes (.recAbort c obj op number) s fun u =>
      (∀ p ∈ u.coord.pend, ¬(p.obj = obj.toNat ∧ p.number = number.toNat)) ∧ u.Acked c 3 0 ∧ u.ctx = s.ctx ∧ u.rgn = s.rgn := by
  have hctx : OffTalk State.ctx := by constructor <;> intro _ _ <;> rfl
  have hrgn : OffTalk State.rgn := by constructor <;> intro _ _ <;> rfl
  refine completes_of_pumped (coordFrom c 3 (recAbortRx c obj.toNat number.toNat)) rfl hh ?_
  rw [coordFrom_runs hd hcl ha hf, recAbortRx, coordOnce_runs ha hf]
  refine ⟨fun p hp => ?_, coordAckSend_isAcked _ _ _ _ _ _, hctx.coordAckSend _ _ _ _ _ _ _, hrgn.coordAckSend _ _ _ _ _ _ _⟩
  rw [coordAckSend_pend] at hp
  have := (List.mem_filter.1 hp).2
  rintro ⟨h1, h2⟩
  simp [h1, h2] at this

end

/-! ### On the way to FREE -/

/-- A commit that waited leaves what the messages of the device leave. -/
theorem OffTalk.commitDone {α : Type} {p : State → α} (hp : OffTalk p) (r : Option CmdHdr) (s : State) : p (commitDone r s) = p s := by
  unfold Machine.commitDone
  split
  · split
    · exact hp.coordAckSend _ _ _ _ _ _ s
    all_goals rfl
  · rfl

theorem regionQuiesceDone_completes (hh : s.su.held = false) {n : W16} {g : Region} {d : W16} {xid : W32} {a : W16} {q : W32} {hd : W16} {qu : Byte}
    (hr : s.region n.toNat = some g) (hst : g.st = 2) (hdr : s.drained n.toNat = true) (hrep : g.reply = some ⟨.fwd d xid a, q, hd, qu⟩) :
    Completes (.regionQuiesceDone n) s fun u =>
      u.Acked ⟨d, xid⟩ 2 0 ∧ u.mem = s.mem ∧ ∃ x, u.region n.toNat = some x ∧ x.st = 2 ∧ x.reply = none ∧ x.desc = g.desc := by
  have hmem : OffTalk State.mem := by constructor <;> intro _ _ <;> rfl
  have hrgn : OffTalk fun s : State => s.region n.toNat := by constructor <;> intro _ _ <;> rfl
  refine completes_of_pumped (quiesceDone n.toNat) rfl hh ?_
  have hrun : quiesceDone n.toNat s = coordAckSend d xid 2 stOK 0 [] (s.setRegion n.toNat { g with reply := none }) := by
    unfold quiesceDone
    rw [hr]
    simp [hst, hdr, hrep, commitDone]
  rw [hrun]
  refine ⟨coordAckSend_isAcked ⟨d, xid⟩ _ _ _ _ _, hmem.coordAckSend _ _ _ _ _ _ _, { g with reply := none }, ?_, hst, rfl, rfl⟩
  exact (hrgn.coordAckSend _ _ _ _ _ _ _).trans (Sparse.find_ins_self _ _ _)

theorem ctxDestroyDone_completes (hh : s.su.held = false) {handle : W16} {c : Ctx} (hl : s.liveCtx handle = some c) (hst : c.st = 3)
    (hopen : s.openTasks (ctxIndex handle) = []) : Completes (.ctxDestroyDone handle) s fun u =>
      u.liveCtx handle = none ∧ u.ctx.incs.get 0 (ctxIndex handle) = (s.ctx.incs.get 0 (ctxIndex handle) + 1) % 16 ∧
      u.ctx.freed = s.ctx.freed ++ [ctxIndex handle] ∧ u.mem = s.mem ∧ u.rgn = s.rgn := by
  have hctx : OffTalk State.ctx := by constructor <;> intro _ _ <;> rfl
  have hlive : OffTalk fun s : State => s.liveCtx handle := by constructor <;> intro _ _ <;> rfl
  have hmem : OffTalk State.mem := by constructor <;> intro _ _ <;> rfl
  have hrgn : OffTalk State.rgn := by constructor <;> intro _ _ <;> rfl
  refine completes_of_pumped (ctxDestroyDoneRun handle) rfl hh ?_
  unfold ctxDestroyDoneRun
  rw [hl]
  dsimp only
  rw [if_neg (by simp [hst, hopen])]
  refine ⟨(hlive.commitDone _ _).trans ?_, ?_, congrArg (fun x : CtxSt => x.freed) (hctx.commitDone _ _), hmem.commitDone _ _, hrgn.commitDone _ _⟩
  · unfold State.liveCtx
    rw [Sparse.find_del_self]
  · rw [hctx.commitDone]
    exact Sparse.get_put_self _ _ _ _

/-! ### The memory of a deleted region -/

theorem find_filter_pos {α : Type} {m : Sparse α} (f : Nat → Bool) {k : Nat} (h : f k = true) :
    Sparse.find (m.filter fun x => f x.1) k = Sparse.find m k := by
  induction m with
  | nil => rfl
  | cons x r ih =>
    obtain ⟨j, v⟩ := x
    by_cases hj : f j = true
    · rw [List.filter_cons_of_pos (by simpa using hj), Sparse.find_cons, Sparse.find_cons, ih]
    · rw [List.filter_cons_of_neg (by simpa using hj), ih, Sparse.find_cons, if_neg (by rintro rfl; exact hj h)]

theorem find_filter_neg {α : Type} {m : Sparse α} (f : Nat → Bool) {k : Nat} (h : f k = false) : Sparse.find (m.filter fun x => f x.1) k = none :=
  Sparse.find_none_of_absent fun x hx e => by
    have := (List.mem_filter.1 hx).2
    rw [e, h] at this
    exact Bool.noConfusion this

/-- A cleared byte reads 0, any other as before. -/
theorem read_clear (m : Memory) (lo n a : Nat) : (m.clear lo n).read a = if lo ≤ a ∧ a < lo + n then 0 else m.read a := by
  unfold Memory.read Memory.clear Sparse.get
  split
  · rw [find_filter_neg (fun a => a < lo || lo + n ≤ a) (by simp; omega)]
    rfl
  · rw [find_filter_pos (fun a => a < lo || lo + n ≤ a) (by simp; omega)]

section
variable {α : Type} {p : State → α} (hp : OffTier p)
include hp

theorem OffTier.releaseEmpty (i : Nat) (s : State) : p (releaseEmpty i s) = p s := ite_keeps _ (hp.releaseSb i s) rfl

theorem OffTier.journalErase (s : State) : p (journalErase s) = p s :=
  foldl_keeps p _ (fun s _ => ite_keeps _ (hp.releaseSb _ s) rfl) _ s

theorem OffTier.reclaim (k : Nat) (s : State) : p (reclaim k s) = p s :=
  ite_keeps _ ((hp.journalErase _).trans ((hp.logAppend _ _).trans (hp.tier s _))) rfl

end

theorem unmapRange_mem (t : TenantId) (dpa len : Nat) (s : State) : (unmapRange t dpa len s).mem = Memory.clear s.mem dpa len := by
  have h : OffTier State.mem := ⟨fun _ _ => rfl, fun _ _ => rfl, fun _ _ => rfl, fun _ _ => rfl, fun _ _ => rfl⟩
  exact foldl_keeps State.mem _ (fun s i => h.releaseEmpty i s) _ _

/-- Unmapping takes a range out of memory and the flash tier, and changes no record. -/
theorem unmapRange_keeps {α : Type} {p : State → α} (hp : OffTier p) (h1 : ∀ s a b c d e, p { s with mem := a, poison := b, tags := c, tier := d, pool := e } = p s)
    (t : TenantId) (dpa len : Nat) (s : State) : p (unmapRange t dpa len s) = p s :=
  (foldl_keeps p _ (fun s i => hp.releaseEmpty i s) _ _).trans (h1 s _ _ _ _ _)

/-- The record of a region goes, its extents with it, and its number is the last of the free ones. -/
def recordFreed (n : Nat) (s : State) : State :=
  { s with
    pins := s.pins.map fun l => l.filter fun e => e.region ≠ n,
    rgn := { tab := s.rgn.tab.del n, freed := s.rgn.freed ++ [n], stamps := s.rgn.stamps.filter fun e => e.1 / 2 ^ 34 ≠ n } }

theorem regionDeleteDone_completes (hh : s.su.held = false) {n : W16} {g : Region} {m : Nat} (hr : s.region n.toNat = some g) (hst : g.st = 3)
    (hm : s.memberOf g = some m) : Completes (.regionDeleteDone n) s fun u =>
      u.region n.toNat = none ∧ u.rgn.freed = s.rgn.freed ++ [n.toNat] ∧
      (∀ a : Nat, g.dpaBase m ≤ a → a < g.dpaBase m + g.share m → Memory.read u.mem a = 0) ∧
      (∀ a : Nat, ¬(g.dpaBase m ≤ a ∧ a < g.dpaBase m + g.share m) → ¬(g.shadow ≤ a ∧ a < g.shadow + g.shadowLen) →
        Memory.read u.mem a = Memory.read s.mem a) ∧
      u.ctx = s.ctx := by
  refine completes_of_pumped (deleteDone n.toNat) rfl hh ?_
  have hrun : deleteDone n.toNat s =
      let v := unmapRange g.tenant g.shadow g.shadowLen (unmapRange g.tenant (g.dpaBase m) (g.share m) s)
      (List.range 64).foldl (fun s k => reclaim k s) (recordFreed n.toNat v) := by
    unfold deleteDone recordFreed
    rw [hr]
    simp only [hst, hm, ne_eq, not_true_eq_false, if_false]
  rw [hrun]
  have hrgn : OffTier State.rgn := ⟨fun _ _ => rfl, fun _ _ => rfl, fun _ _ => rfl, fun _ _ => rfl, fun _ _ => rfl⟩
  have hmem : OffTier State.mem := ⟨fun _ _ => rfl, fun _ _ => rfl, fun _ _ => rfl, fun _ _ => rfl, fun _ _ => rfl⟩
  have hctx : OffTier State.ctx := ⟨fun _ _ => rfl, fun _ _ => rfl, fun _ _ => rfl, fun _ _ => rfl, fun _ _ => rfl⟩
  obtain ⟨v, hv⟩ : ∃ v, v = unmapRange g.tenant g.shadow g.shadowLen (unmapRange g.tenant (g.dpaBase m) (g.share m) s) := ⟨_, rfl⟩
  have hvmem : v.mem = Memory.clear (Memory.clear s.mem (g.dpaBase m) (g.share m)) g.shadow g.shadowLen := by rw [hv, unmapRange_mem, unmapRange_mem]
  have hvrgn : v.rgn = s.rgn := by
    rw [hv]
    exact (unmapRange_keeps hrgn (fun _ _ _ _ _ _ => rfl) _ _ _ _).trans (unmapRange_keeps hrgn (fun _ _ _ _ _ _ => rfl) _ _ _ _)
  have hvctx : v.ctx = s.ctx := by
    rw [hv]
    exact (unmapRange_keeps hctx (fun _ _ _ _ _ _ => rfl) _ _ _ _).trans (unmapRange_keeps hctx (fun _ _ _ _ _ _ => rfl) _ _ _ _)
  rw [← hv]
  dsimp only
  obtain ⟨w, hw⟩ : ∃ w, w = recordFreed n.toNat v := ⟨_, rfl⟩
  have hend : ∀ {β : Type} {q : State → β}, OffTier q → q ((List.range 64).foldl (fun s k => reclaim k s) w) = q w := fun hq =>
    foldl_keeps _ _ (fun s k => hq.reclaim k s) _ _
  rw [← hw]
  have hwmem : w.mem = Memory.clear (Memory.clear s.mem (g.dpaBase m) (g.share m)) g.shadow g.shadowLen := by rw [hw]; exact hvmem
  refine ⟨?_, ?_, fun a h1 h2 => ?_, fun a h1 h2 => ?_, ?_⟩
  · show Sparse.find _ _ = none
    rw [hend hrgn, hw]
    exact Sparse.find_del_self _ _
  · rw [hend hrgn, hw, ← hvrgn]
    rfl
  · simp [hend hmem, hwmem, read_clear, h1, h2]
  · rw [hend hmem, hwmem, read_clear, read_clear, if_neg h2, if_neg h1]
  · rw [hend hctx, hw]
    exact hvctx

end Sys2Proof.Machine
end

section
open Sys2Proof Sys2Proof.Machine

/-- Settles O5: the message is taken once, its record kept, put in force or dropped, and acknowledged. -/
theorem membersPrepareCommitAbort : Obligations.MembersPrepareCommitAbort := fun _ _ _ hh hd hcl ha hf =>
  ⟨fun _ _ _ => recPrepare_region_completes hh hd hcl ha hf, recPrepare_context_completes hh hd hcl ha hf,
    fun op _ => recCommit_context_completes hh hd hcl ha hf op, recAbort_completes hh hd hcl ha hf⟩

/-- Settles O7: each of the three completions, by what it takes away and what it leaves. -/
theorem recordsReachFree : Obligations.RecordsReachFree := fun _ hh =>
  ⟨fun _ _ _ _ _ _ _ _ => regionQuiesceDone_completes hh, fun _ _ _ => regionDeleteDone_completes hh, fun _ _ => ctxDestroyDone_completes hh⟩

end

section
/-! PROOFS. REGION_CREATE and REGION_READ (R265, R488, R273). -/

namespace Sys2Proof.Machine

variable {s : State}

/-- An answer with a status alone carries the state code 0, whatever the status. -/
theorem replySt_replied_any (h : CmdHdr) {cmd : Nat} (st : Byte) (hc : cmd ≠ 0x121 ∧ cmd ≠ 0x502 ∧ cmd ≠ 0x133) :
    (replySt h cmd st s).Replied h cmd st 0 [] := by
  simpa [replySt] using reply_replied s h cmd st 0 0 [] (.inr (.inr hc))

section
variable {h : CmdHdr} {t : TenantId} {b : Bytes}

theorem createWith_malformed (ht : (regionOf b 0 0).tenant = t) (hl : s.lacksCores (regionOf b 0 0) = false)
    (hd : s.descOk (regionOf b 0 0) = false) : (createWith h t b s).Replied h 0x201 0x0D 0 [] := by
  unfold createWith
  dsimp only
  rw [if_neg (by simp [ht]), if_neg (by simp [hl]), if_pos (by simp [hd])]
  exact replySt_replied_any _ _ (by decide)

theorem createWith_begun {n x y : Nat} (hg : s.pairGap = false) (ht : (regionOf b 0 0).tenant = t) (hl : s.lacksCores (regionOf b 0 0) = false)
    (hd : s.descOk (regionOf b 0 0) = true) (hm : ∀ m < (regionOf b 0 0).members, s.knownMember ((regionOf b 0 0).memberId m) = true)
    (ho : s.ownedSlices t ≠ []) (hf : s.freeRegion = some n) (hp : s.placeRegion (regionOf b 0 0) = .at_ x y) :
    Begun s (createWith h t b s) 1 0 n (regionRecord 1 (splice b 0 (toLe 4 (setBits (leAt b 0 4) 11 0 n)))) h := by
  unfold createWith
  dsimp only
  rw [if_neg (by simp [ht]), if_neg (by simp [hl]), if_neg (by simp [hd]), if_neg (by simpa [ho] using hm), hf, hp]
  exact txStart_begun hg _ _ _ _ _ _ _ _

end

section
variable {h : CmdHdr} {t : TenantId} (hh : s.su.held = false) (hc : s.classOf h.iss = .ta t) (href : s.refOk h = true)
include hh hc href

theorem regionCreate_completes (ca : W64) (hhead : s.head.head = true) : Completes (.regionCreate h ca) s fun u =>
      let p := cmdOpen (.regionCreate h ca) s
      let q := argRead p.1 h ca.toNat 320 p.2
      match q.1 with
      | none => u = q.2
      | some (st, b) =>
        let v := cmdClose p.1 q.2
        let g := regionOf b 0 0
        (st ≠ 0 → u.Replied h 0x201 st 0 []) ∧
        (st = 0 → v.classOf h.iss = .ta t → g.tenant = t → v.lacksCores g = false → v.descOk g = false → u.Replied h 0x201 0x0D 0 []) ∧
        (∀ (n x y : Nat), st = 0 → v.classOf h.iss = .ta t → v.pairGap = false → g.tenant = t → v.lacksCores g = false → v.descOk g = true →
          (∀ m < g.members, v.knownMember (g.memberId m) = true) → v.ownedSlices t ≠ [] → v.freeRegion = some n → v.placeRegion g = .at_ x y →
          Begun v u 1 0 n (regionRecord 1 (splice b 0 (toLe 4 (setBits (leAt b 0 4) 11 0 n)))) h) := by
  refine completes_of_pumped (regionCreateRun h ca) rfl hh ?_
  have hrun : regionCreateRun h ca s = regionCreateGo (cmdOpen (.regionCreate h ca) s).1 h ca.toNat (cmdOpen (.regionCreate h ca) s).2 :=
    (onlyTA_of_ta hc _ _).trans ((if_neg (by simp [href])).trans (atHead_head hhead _ _ _))
  rw [hrun]
  generalize cmdOpen (.regionCreate h ca) s = p
  dsimp only
  unfold regionCreateGo
  generalize argRead p.1 h ca.toNat 320 p.2 = q
  obtain ⟨g, s1⟩ := q
  cases g with
  | none => rfl
  | some g =>
    obtain ⟨st, b⟩ := g
    dsimp only
    refine ⟨fun h0 => ?_, fun h0 hv ht hl hd => ?_, fun n x y h0 hv hg ht hl hd hm ho hf hp => ?_⟩
    · rw [if_pos (show st ≠ stOK from h0)]
      exact replySt_replied_any _ _ (by decide)
    · rw [if_neg (by simp [h0, stOK]), hv]
      exact createWith_malformed ht hl hd
    · rw [if_neg (by simp [h0, stOK]), hv]
      exact createWith_begun hg ht hl hd hm ho hf hp

theorem regionRead_completes (n : W16) (ca : W64) {g : Region} (hr : s.region n.toNat = some g) (ht : g.tenant = t) (hn : n.toNat ≤ 4095) :
    Completes (.regionRead h n ca) s fun u =>
      let p := cmdOpen (.regionRead h n ca) s
      let q := resWrite p.1 h ca.toNat (padTo 320 g.desc) p.2
      match q.1 with
      | none => u = q.2
      | some (st, _) => u.Replied h 0x205 st 0 (if st = 0 then [byte g.st, 0, 0, 0] else []) := by
  refine completes_of_pumped (regionReadRun h n ca) rfl hh ?_
  have hrun : regionReadRun h n ca s =
      regionReadGo (cmdOpen (.regionRead h n ca) s).1 h n.toNat ca.toNat (cmdOpen (.regionRead h n ca) s).2 :=
    (onlyTA_of_ta hc _ _).trans ((if_neg (by simp [href, hr, ht])).trans (if_neg (by omega)))
  have hreg : (cmdOpen (.regionRead h n ca) s).2.region n.toNat = some g := hr
  rw [hrun]
  generalize cmdOpen (.regionRead h n ca) s = p at hreg ⊢
  dsimp only
  unfold regionReadGo
  rw [hreg]
  dsimp only
  generalize resWrite p.1 h ca.toNat (padTo 320 g.desc) p.2 = q
  obtain ⟨r, s1⟩ := q
  cases r with
  | none => rfl
  | some r =>
    obtain ⟨st, b⟩ := r
    dsimp only
    by_cases h0 : st = 0
    · rw [if_pos (show st = stOK from h0), if_pos h0, h0]
      exact replyOk_replied _ _ _ _
    · rw [if_neg (show ¬st = stOK from h0), if_neg h0]
      exact replySt_replied_any _ _ (by decide)

end

end Sys2Proof.Machine
end

section
open Sys2Proof Sys2Proof.Machine

/-- Settles O9: by cases on what the transfer comes to. -/
theorem regionCommandsByReference : Obligations.RegionCommandsByReference := fun _ _ _ hh hc href =>
  ⟨regionCreate_completes hh hc href, regionRead_completes hh hc href⟩

end

section
/-! PROOFS. Queues and their doorbells (R271, R272, R273, R277). -/

namespace Sys2Proof.Machine

variable {s : State}

/-! ### A tenant's command on its context and its queue -/

section
variable {h : CmdHdr} {t : TenantId} {c : Ctx}

theorem tenantHost_of_tenant (hc : s.classOf h.iss = .ta t ∨ s.classOf h.iss = .host t) (cmd : Nat) (f : TenantId → State → State) :
    tenantHost h cmd f s = f t s := by
  unfold tenantHost
  rcases hc with hc | hc <;> rw [hc]

theorem onCtx_own (hl : s.liveCtx h.handle = some c) (ht : c.tenant = t) {form : Bool} (hf : form = true) (cmd : Nat) (f : Ctx → State → State) :
    onCtx h cmd t form f s = f c s := by
  unfold onCtx
  rw [hl]
  exact (if_neg (by simp [ht])).trans (if_neg (by simp [hf]))

theorem onQueue_own (hl : s.liveCtx h.handle = some c) (ht : c.tenant = t) (h8 : h.queue.toNat < 8) {q : Queue} (hq : s.cmdQueue h c = some q)
    (cmd : Nat) (f : Queue → State → State) : onQueue h cmd t f s = f q s := by
  unfold onQueue
  rw [onCtx_own hl ht (by simpa using h8), hq]

end

theorem queue_setQueue_self (s : State) (k : Nat) (q : Queue) : (s.setQueue k q).queue k = some q := Sparse.find_ins_self _ _ _

theorem queue_setQueue_ne (s : State) {j k : Nat} (q : Queue) (h : j ≠ k) : (s.setQueue k q).queue j = s.queue j := Sparse.find_place_ne _ _ h

theorem reply_queue (h : CmdHdr) (cmd : Nat) (st : Byte) (n k : Nat) (res : Bytes) (s : State) (i : Nat) :
    (reply h cmd st n k res s).queue i = s.queue i :=
  congrArg (fun w : WorkSt => w.queues.find i) (reply_work s h cmd st n k res)

theorem reply_tasks (h : CmdHdr) (cmd : Nat) (st : Byte) (n k : Nat) (res : Bytes) (s : State) : (reply h cmd st n k res s).work.tasks = s.work.tasks :=
  congrArg (fun w : WorkSt => w.tasks) (reply_work s h cmd st n k res)

/-! ### QUEUE_CREATE and QUEUE_DELETE -/

section
variable {h : CmdHdr} {t : TenantId} {c : Ctx} (hh : s.su.held = false) (hl : s.liveCtx h.handle = some c) (ht : c.tenant = t)
  (h8 : h.queue.toNat < 8)
include hh hl ht h8

section
variable (hc : s.classOf h.iss = .ta t)
include hc

theorem queueCreate_completes {a : Bytes} (hf : queueForm (s.rings t) a = true) (hst : c.st = 1 ∨ c.st = 2)
    (hq : s.queue (queueKey (ctxIndex h.handle) h.queue.toNat) = none)
    (hr : s.rings t = true → s.ringOk t (queueOf true a).sqSpa (128 * (queueOf true a).sqSize) = true ∧
      s.ringOk t (queueOf true a).cqSpa (32 * (queueOf true a).cqSize) = true) : Completes (.queueCreate h a) s fun u =>
      u.queue (queueKey (ctxIndex h.handle) h.queue.toNat) = some (queueOf (s.rings t) a) ∧ u.Replied h 0x111 0 0 [] ∧
      (∀ k : Nat, k ≠ queueKey (ctxIndex h.handle) h.queue.toNat → u.queue k = s.queue k) ∧ u.work.tasks = s.work.tasks ∧ u.mem = s.mem := by
  refine completes_of_pumped (queueCreateRun h a) rfl hh ?_
  have hrun : queueCreateRun h a s =
      replyOk h 0x111 [] (s.setQueue (queueKey (ctxIndex h.handle) h.queue.toNat) (queueOf (s.rings t) a)) := by
    refine (onlyTA_of_ta hc _ _).trans ((onCtx_own hl ht (by simp [hf, h8]) _ _).trans ((if_neg (by omega)).trans ?_))
    rw [show s.cmdQueue h c = none from (if_neg (by omega)).trans hq]
    refine if_neg ?_
    rintro ⟨h1, h2⟩
    rw [h1] at h2
    simp [hr h1] at h2
  rw [hrun]
  refine ⟨(reply_queue _ _ _ _ _ _ _ _).trans (queue_setQueue_self _ _ _), replyOk_replied _ _ _ _,
    fun k hk => (reply_queue _ _ _ _ _ _ _ _).trans (queue_setQueue_ne _ _ hk), reply_tasks _ _ _ _ _ _ _, reply_mem _ _ _ _ _ _ _⟩

theorem queueCreate_present_completes {a : Bytes} {q : Queue} (hf : queueForm (s.rings t) a = true) (hst : c.st = 1 ∨ c.st = 2)
    (hq : s.queue (queueKey (ctxIndex h.handle) h.queue.toNat) = some q) : Completes (.queueCreate h a) s fun u =>
      u.work = s.work ∧ u.Replied h 0x111 3 q.st [] := by
  refine completes_of_pumped (queueCreateRun h a) rfl hh ?_
  have hrun : queueCreateRun h a s = replyConflict h 0x111 q.st s := by
    refine (onlyTA_of_ta hc _ _).trans ((onCtx_own hl ht (by simp [hf, h8]) _ _).trans ((if_neg (by omega)).trans ?_))
    rw [show s.cmdQueue h c = some q from (if_neg (by omega)).trans hq]
  rw [hrun]
  exact ⟨reply_work _ _ _ _ _ _ _, replyConflict_replied _ _ _ _ (by decide)⟩

theorem queueDelete_completes {q : Queue} (hq : s.cmdQueue h c = some q) (hst : q.st = 2)
    (hlive : s.liveOn (queueKey (ctxIndex h.handle) h.queue.toNat) = false) (howes : s.owes (queueKey (ctxIndex h.handle) h.queue.toNat) = false) :
    Completes (.queueDelete h) s fun u =>
      u.queue (queueKey (ctxIndex h.handle) h.queue.toNat) = none ∧ u.Replied h 0x114 0 0 [] ∧ u.mem = s.mem ∧
      ∀ k : Nat, k ≠ queueKey (ctxIndex h.handle) h.queue.toNat → u.queue k = s.queue k := by
  refine completes_of_pumped (queueDeleteRun h) rfl hh ?_
  have hrun : queueDeleteRun h s = queueGone h (queueKey (ctxIndex h.handle) h.queue.toNat) s :=
    (onlyTA_of_ta hc _ _).trans ((onQueue_own hl ht h8 hq _ _).trans ((if_neg (by simp [hst, hlive])).trans (if_neg (by simp [howes]))))
  rw [hrun]
  exact ⟨(reply_queue _ _ _ _ _ _ _ _).trans (Sparse.find_del_self _ _), replyOk_replied _ _ _ _, reply_mem _ _ _ _ _ _ _,
    fun k hk => (reply_queue _ _ _ _ _ _ _ _).trans (Sparse.find_del_ne _ hk)⟩

end

/-! ### QUEUE_PAUSE and QUEUE_RESUME -/

section
variable (hc : s.classOf h.iss = .ta t ∨ s.classOf h.iss = .host t) {q : Queue} (hq : s.cmdQueue h c = some q)
include hc hq

omit hh in
theorem queueSwitch_switches (cmd : Nat) {from_ : Nat} (to_ : Nat) (hst : q.st = from_) : let u := queueSwitch h cmd from_ to_ s
    u.queue (queueKey (ctxIndex h.handle) h.queue.toNat) = some { q with st := to_ } ∧ u.Replied h cmd 0 0 [] ∧ u.work.tasks = s.work.tasks := by
  have hrun : queueSwitch h cmd from_ to_ s =
      replyOk h cmd [] (s.setQueue (queueKey (ctxIndex h.handle) h.queue.toNat) { q with st := to_ }) :=
    (tenantHost_of_tenant hc _ _).trans ((onQueue_own hl ht h8 hq _ _).trans (if_neg (by simp [hst])))
  rw [hrun]
  exact ⟨(reply_queue _ _ _ _ _ _ _ _).trans (queue_setQueue_self _ _ _), replyOk_replied _ _ _ _, reply_tasks _ _ _ _ _ _ _⟩

theorem queuePause_conflict_completes (hst : q.st ≠ 1) : Completes (.queuePause h) s fun u => u.work = s.work ∧ u.Replied h 0x112 3 q.st [] := by
  refine completes_of_pumped (queueSwitch h 0x112 1 2) rfl hh ?_
  have hrun : queueSwitch h 0x112 1 2 s = replyConflict h 0x112 q.st s :=
    (tenantHost_of_tenant hc _ _).trans ((onQueue_own hl ht h8 hq _ _).trans (if_pos hst))
  rw [hrun]
  exact ⟨reply_work _ _ _ _ _ _ _, replyConflict_replied _ _ _ _ (by decide)⟩

end

/-! ### Doorbells -/

section
variable {m : MgtMsg} {q : Queue} {new : W32} (hm : leAt m.payload 0 2 = h.handle.toNat) (hmq : leAt m.payload 2 1 = h.queue.toNat)
  (hmn : leAt m.payload 4 4 = new.toNat) (hlen : m.payload.length = 8)
  (hq : s.queue (queueKey (ctxIndex h.handle) h.queue.toNat) = some q) (hsz : q.sqSize ≠ 0)
  (hc : s.classOfEp m.src = .ta t ∨ s.classOfEp m.src = .host t)
include hm hmq hmn hlen hq hsz hc

omit hh in
/-- A doorbell of the context's own tenant for a ring of its queue: the ring's count moves, or the doorbell is counted. -/
theorem doorbellRun_own : doorbellRun m s =
    if leAt m.payload 3 1 = 0 ∧ ahead q.sqTail new q.sqSize = true then
      s.setQueue (queueKey (ctxIndex h.handle) h.queue.toNat) { q with sqTail := new }
    else if leAt m.payload 3 1 = 1 ∧ ahead q.cqHead new q.cqSize = true then
      s.setQueue (queueKey (ctxIndex h.handle) h.queue.toNat) { q with cqHead := new }
    else s.count .DBELL_BAD_CNT := by
  have hhd : w16 (leAt m.payload 0 2) = h.handle := by rw [hm]; simp [w16]
  have hnew : w32 (leAt m.payload 4 4) = new := by rw [hmn]; simp [w32]
  have hmine : (match s.classOfEp m.src with | .ta t | .host t => some t | .da | .nobody => none : Option TenantId) = some t := by
    rcases hc with hc | hc <;> rw [hc]
  unfold doorbellRun
  simp only [hhd, hnew, hl, hmq, if_pos h8, hq, hlen]
  refine (if_neg ?_).trans ?_
  · rintro (h1 | h1 | h1)
    · exact h1 rfl
    · exact h1 (hmine.trans (by rw [ht]))
    · exact hsz h1
  · generalize leAt m.payload 3 1 = k
    match k with
    | 0 => simp
    | 1 => simp
    | k + 2 => simp

theorem doorbell_tail_completes (h0 : leAt m.payload 3 1 = 0) (ha : ahead q.sqTail new q.sqSize = true) : Completes (.doorbell m) s fun u =>
    u.queue (queueKey (ctxIndex h.handle) h.queue.toNat) = some { q with sqTail := new } ∧ u.work.tasks = s.work.tasks := by
  refine completes_of_pumped (doorbellRun m) rfl hh ?_
  rw [doorbellRun_own hl ht h8 hm hmq hmn hlen hq hsz hc, if_pos ⟨h0, ha⟩]
  exact ⟨queue_setQueue_self _ _ _, rfl⟩

theorem doorbell_bad_completes (h0 : leAt m.payload 3 1 = 0) (ha : ahead q.sqTail new q.sqSize = false) : Completes (.doorbell m) s fun u =>
    u = s.count .DBELL_BAD_CNT := by
  refine completes_of_pumped (doorbellRun m) rfl hh ?_
  rw [doorbellRun_own hl ht h8 hm hmq hmn hlen hq hsz hc, if_neg (by simp [ha]), if_neg (by simp [h0])]

theorem doorbell_head_completes (h1 : leAt m.payload 3 1 = 1) (ha : ahead q.cqHead new q.cqSize = true) : Completes (.doorbell m) s fun u =>
    u.queue (queueKey (ctxIndex h.handle) h.queue.toNat) = some { q with cqHead := new } := by
  refine completes_of_pumped (doorbellRun m) rfl hh ?_
  rw [doorbellRun_own hl ht h8 hm hmq hmn hlen hq hsz hc, if_neg (by simp [h1]), if_pos ⟨h1, ha⟩]
  exact queue_setQueue_self _ _ _

end

end

end Sys2Proof.Machine
end

section
open Sys2Proof Sys2Proof.Machine

/-- Settles O20: a queue is created, deleted, paused and resumed by its tenant; a doorbell moves a ring by at most its size. -/
theorem queuesAreManaged : Obligations.QueuesAreManaged := fun _ _ _ _ hh hl ht h8 =>
  ⟨fun hc => ⟨fun _ => queueCreate_completes hh hl ht h8 hc, fun _ _ => queueCreate_present_completes hh hl ht h8 hc,
      fun _ => queueDelete_completes hh hl ht h8 hc⟩,
    fun hc _ hq => ⟨fun hst => completes_of_pumped _ rfl hh (queueSwitch_switches hl ht h8 hc hq 0x112 2 hst),
      queuePause_conflict_completes hh hl ht h8 hc hq, fun hst => completes_of_pumped _ rfl hh (queueSwitch_switches hl ht h8 hc hq 0x113 1 hst)⟩,
    fun _ _ _ hm hmq hmn hlen hq hsz hc => ⟨doorbell_tail_completes hh hl ht h8 hm hmq hmn hlen hq hsz hc,
      doorbell_bad_completes hh hl ht h8 hm hmq hmn hlen hq hsz hc, doorbell_head_completes hh hl ht h8 hm hmq hmn hlen hq hsz hc⟩⟩

end

section
/-! PROOFS. Programs and triggers (R242, R274, R275, R276). -/

namespace Sys2Proof.Machine

variable {s : State}

/-! ### Messages to every active device -/

theorem putMbxOut_keeps {α : Type} {p : State → α} (hr : ∀ s x, p { s with regs := x } = p s) (b : Bytes) (s : State) : p (putMbxOut b s) = p s := by
  unfold putMbxOut
  exact (hr _ _).trans (foldl_keeps p _ (fun s i => hr s _) _ _)

theorem coordAckSend_speaks (d : W16) (x : W32) (n : Nat) (st : Byte) (k : Nat) (b : Bytes) (s : State) : Speaks s (coordAckSend d x n st k b s) := by
  refine Speaks.trans ?_ (coordOut_speaks _ _ _ _)
  exact speaks_of_eq rfl rfl rfl fun _ => rfl

theorem send_speaks (m : Msg) (s : State) : Speaks s (send m s) where
  loop x hx := by rwa [send_coord]
  outs := outs_send s m
  myId := send_keeps State.myId (fun _ _ => rfl) (fun _ _ => rfl) (fun _ _ => rfl) (fun _ _ => rfl) s m
  isMe n := send_keeps (fun s => s.isMe n) (fun _ _ => rfl) (fun _ _ => rfl) (fun _ _ => rfl) (fun _ _ => rfl) s m

/-- What has been said stays said when a command is answered OK. -/
theorem replyOk_speaks (h : CmdHdr) (cmd : Nat) (res : Bytes) (s : State) : Speaks s (replyOk h cmd res s) := by
  unfold replyOk reply
  simp only [ne_eq, not_true_eq_false, false_and, if_false]
  rw [if_neg (show ¬stOK = stSTATE_CONFLICT by decide), if_neg (show ¬stOK = stSTATE_CONFLICT by decide)]
  cases h.iss with
  | bmc =>
    refine speaks_of_eq ?_ ?_ ?_ fun n => ?_
    · exact putMbxOut_keeps (p := fun s => s.coord.loop) (fun _ _ => rfl) _ s
    · exact putMbxOut_keeps (p := State.out) (fun _ _ => rfl) _ s
    · exact putMbxOut_keeps (p := State.myId) (fun _ _ => rfl) _ s
    · exact putMbxOut_keeps (p := fun s => s.isMe n) (fun _ _ => rfl) _ s
  | ep a =>
    refine Speaks.trans ?_ (send_speaks _ _)
    exact speaks_of_eq rfl rfl rfl fun _ => rfl
  | fwd d x i => exact coordAckSend_speaks _ _ _ _ _ _ s
  | rgnCmd _ => exact speaks_of_eq rfl rfl rfl fun _ => rfl
  | slotCmd q => exact speaks_of_eq rfl rfl rfl fun _ => rfl
  | hwdCmd => exact speaks_of_eq rfl rfl rfl fun _ => rfl

theorem coordSend_told (d : W16) (n : Nat) (b : Bytes) (h : Option CmdHdr) (g : Nat) (s : State) :
    ∃ x : W32, (coordSend d n b h g s).Told d none ([byte n, 0, 0, 0] ++ toLe 4 x.toNat ++ b) := ⟨_, coordOut_told _ _ _ _⟩

theorem coordSend_speaks (d : W16) (n : Nat) (b : Bytes) (h : Option CmdHdr) (g : Nat) (s : State) : Speaks s (coordSend d n b h g s) := by
  refine Speaks.trans ?_ (coordOut_speaks _ _ _ _)
  exact speaks_of_eq rfl rfl rfl fun _ => rfl

/-- A message of one form to each device of a list has gone to each. -/
theorem foldl_coordSend_told (n : Nat) (b : Bytes) (h : Option CmdHdr) (g : Nat) (l : List W16) (s : State) :
    Speaks s (l.foldl (fun s d => coordSend d n b h g s) s) ∧
      ∀ d ∈ l, ∃ x : W32, (l.foldl (fun s d => coordSend d n b h g s) s).Told d none ([byte n, 0, 0, 0] ++ toLe 4 x.toNat ++ b) := by
  induction l generalizing s with
  | nil => exact ⟨Speaks.refl s, fun d hd => absurd hd List.not_mem_nil⟩
  | cons e l ih =>
    obtain ⟨hsp, htold⟩ := ih (coordSend e n b h g s)
    refine ⟨(coordSend_speaks e n b h g s).trans hsp, fun d hd => ?_⟩
    rcases List.mem_cons.1 hd with rfl | hd
    · obtain ⟨x, hx⟩ := coordSend_told d n b h g s
      exact ⟨x, hsp.told hx⟩
    · exact htold d hd

/-! ### PROG_LOAD -/

/-- An answer with a RESULT of its own and no state code. -/
theorem reply_result_replied (h : CmdHdr) (cmd : Nat) (st : Byte) {res : Bytes} (hr : res ≠ []) (s : State) :
    (reply h cmd st 0 0 res s).Replied h cmd st 0 res := by
  have hrep := reply_replied s h cmd st 0 0 res (.inr (.inl hr))
  rwa [ite_self] at hrep

/-- A PROG_LOAD that fails without a RESULT of its own names no index (R273). -/
theorem replySt_progLoad_replied (h : CmdHdr) {st : Byte} (h0 : st ≠ 0) (s : State) :
    (replySt h 0x121 st s).Replied h 0x121 st 0 ([0, 0, 0xFF, 0xFF] ++ zeros 12) := by
  have hres : replySt h 0x121 st s = reply h 0x121 st 0 0 ([0, 0, 0xFF, 0xFF] ++ zeros 12) s := by
    unfold replySt reply
    rw [if_pos ⟨h0, rfl⟩, if_neg (c := st ≠ stOK ∧ ([0, 0, 0xFF, 0xFF] ++ zeros 12) = []) (by simp)]
    rfl
  rw [hres]
  exact reply_result_replied h 0x121 st (by simp) s

theorem progResult_ne_nil (p i n : Nat) : progResult p i n ≠ [] := by simp [progResult, zeros]

section
variable {h : CmdHdr} {t : TenantId} {b : Bytes}

theorem progInstall_bad {i : Nat} (hb : loadCheck b = some (.bad i)) : let u := progInstall h t b s
    u.Replied h 0x121 0x0D 0 (progResult 0 i 0) ∧ u.work.progs = s.work.progs := by
  have hrun : progInstall h t b s = reply h 0x121 stBAD_DESCRIPTOR 0 0 (progResult 0 i 0) s := by
    unfold progInstall
    rw [hb]
  rw [hrun]
  exact ⟨reply_result_replied h 0x121 _ (progResult_ne_nil 0 i 0) s,
    congrArg (fun w : WorkSt => w.progs) (reply_work _ _ _ _ _ _ _)⟩

theorem progInstall_unsupported {i : Nat} (hb : loadCheck b = some (.unsupported i)) : let u := progInstall h t b s
    u.Replied h 0x121 stUNSUPPORTED 0 (progResult 0 i 0) ∧ u.work.progs = s.work.progs := by
  have hrun : progInstall h t b s = reply h 0x121 stUNSUPPORTED 0 0 (progResult 0 i 0) s := by
    unfold progInstall
    rw [hb]
  rw [hrun]
  exact ⟨reply_result_replied h 0x121 _ (progResult_ne_nil 0 i 0) s,
    congrArg (fun w : WorkSt => w.progs) (reply_work _ _ _ _ _ _ _)⟩

/-- An image that passes its checks is loaded at the lowest free index. -/
theorem progInstall_loads {i : Nat} (hb : loadCheck b = none) (hi : ((List.range 256).find? fun i => (s.work.progs.find i).isNone) = some i) :
    let u := progInstall h t b s
    ∃ need : Nat, u.work.progs.find i = some ⟨s.work.progIncs.get 0 i, t, ctxIndex h.handle, b, need⟩ ∧
      u.Replied h 0x121 0 0 (progResult (s.work.progIncs.get 0 i * 4096 + i) 0xFFFF need) := by
  let need := workNeed (imageOf b) (Config.lowering b).1 (Config.lowering b).2
  have hrun : progInstall h t b s = replyOk h 0x121 (progResult (s.work.progIncs.get 0 i * 4096 + i) 0xFFFF need)
      { s with work := { s.work with progs := s.work.progs.ins i ⟨s.work.progIncs.get 0 i, t, ctxIndex h.handle, b, need⟩ } } := by
    unfold progInstall
    rw [hb]
    dsimp only
    rw [hi]
  rw [hrun]
  refine ⟨need, ?_, replyOk_replied _ _ _ _⟩
  exact (congrArg (fun w : WorkSt => w.progs.find i) (reply_work _ _ _ _ _ _ _)).trans (Sparse.find_ins_self _ _ _)

theorem progLoad_completes (hh : s.su.held = false) (hc : s.classOf h.iss = .ta t) (href : s.refOk h = true) (hk : s.kcoreEn = true) (ca : W64)
    {len : W32} (hlen : len.toNat ≤ 163904) (hp : s.work.progs.length < 256) : Completes (.progLoad h ca len) s fun u =>
        let p := cmdOpen (.progLoad h ca len) s
        let q := argRead p.1 h ca.toNat len.toNat p.2
        match q.1 with
        | none => u = q.2
        | some (st, b) =>
          let v := cmdClose p.1 q.2
          (st ≠ 0 → st ≠ 3 → u.Replied h 0x121 st 0 ([0, 0, 0xFF, 0xFF] ++ zeros 12)) ∧
          (st = 0 → v.classOf h.iss = .ta t →
            (∀ i : Nat, loadCheck b = some (.bad i) → u.Replied h 0x121 0x0D 0 (progResult 0 i 0) ∧ u.work.progs = v.work.progs) ∧
            (∀ i : Nat, loadCheck b = some (.unsupported i) → u.Replied h 0x121 stUNSUPPORTED 0 (progResult 0 i 0) ∧ u.work.progs = v.work.progs) ∧
            (∀ i : Nat, loadCheck b = none → ((List.range 256).find? fun i => (v.work.progs.find i).isNone) = some i → ∃ need : Nat,
              u.work.progs.find i = some ⟨v.work.progIncs.get 0 i, t, ctxIndex h.handle, b, need⟩ ∧
              u.Replied h 0x121 0 0 (progResult (v.work.progIncs.get 0 i * 4096 + i) 0xFFFF need))) := by
  refine completes_of_pumped (progLoadRun h ca len) rfl hh ?_
  have hrun : progLoadRun h ca len s =
      progLoadGo (cmdOpen (.progLoad h ca len) s).1 h ca.toNat len.toNat (cmdOpen (.progLoad h ca len) s).2 :=
    (onlyTA_of_ta hc _ _).trans ((if_neg (by simp [href])).trans ((if_neg (by simp [hk])).trans ((if_neg (by omega)).trans (if_neg (by omega)))))
  rw [hrun]
  generalize cmdOpen (.progLoad h ca len) s = p
  dsimp only
  unfold progLoadGo
  generalize argRead p.1 h ca.toNat len.toNat p.2 = q
  obtain ⟨g, s1⟩ := q
  cases g with
  | none => rfl
  | some g =>
    obtain ⟨st, b⟩ := g
    dsimp only
    refine ⟨fun h0 _ => ?_, fun h0 hv => ?_⟩
    · rw [if_pos (show st ≠ stOK from h0)]
      exact replySt_progLoad_replied h h0 _
    · rw [if_neg (by simp [h0, stOK]), hv]
      exact ⟨fun i => progInstall_bad, fun i => progInstall_unsupported, fun i => progInstall_loads⟩

/-! ### PROG_UNLOAD -/

theorem onProg_own {p : Nat} {g : Prog} (hp : s.prog p = some g) (ht : g.tenant = t) (cmd : Nat) (f : Prog → State → State) :
    onProg h cmd t p f s = f g s := by
  unfold onProg
  rw [hp]
  exact if_neg (by simp [ht])

theorem progUnload_completes (hh : s.su.held = false) (hc : s.classOf h.iss = .ta t) {p : W16} {g : Prog} (hp : s.prog p.toNat = some g)
    (ht : g.tenant = t) (hno : (s.work.tasks.any fun x => x.prog = some p.toNat && !x.final) = false) : Completes (.progUnload h p) s fun u =>
      u.prog p.toNat = none ∧ u.work.progIncs.get 0 (p.toNat % 256) = (s.work.progIncs.get 0 (p.toNat % 256) + 1) % 16 ∧
      (∀ w ∈ u.obs.watches, w.prog ≠ p.toNat) ∧ u.Replied h 0x122 0 0 [] ∧ u.mem = s.mem := by
  refine completes_of_pumped (progUnloadRun h p) rfl hh ?_
  have hrun : progUnloadRun h p s = replyOk h 0x122 [] { s with
      work := { s.work with progs := s.work.progs.del (p.toNat % 256),
                            progIncs := s.work.progIncs.put 0 (p.toNat % 256) ((s.work.progIncs.get 0 (p.toNat % 256) + 1) % 16) },
      obs := { s.obs with watches := s.obs.watches.filter fun w => w.prog ≠ p.toNat } } :=
    (onlyTA_of_ta hc _ _).trans ((onProg_own hp ht _ _).trans (if_neg (by simp [hno])))
  rw [hrun]
  refine ⟨?_, ?_, fun w hw => ?_, replyOk_replied _ _ _ _, reply_mem _ _ _ _ _ _ _⟩
  · unfold State.prog replyOk
    rw [reply_work, Sparse.find_del_self]
  · unfold replyOk
    rw [reply_work]
    exact Sparse.get_put_self _ _ _ _
  · unfold replyOk at hw
    rw [reply_obs] at hw
    simpa using (List.mem_filter.1 hw).2

theorem progUnload_used_completes (hh : s.su.held = false) (hc : s.classOf h.iss = .ta t) {p : W16} {g : Prog} (hp : s.prog p.toNat = some g)
    (ht : g.tenant = t) (hu : (s.work.tasks.any fun x => x.prog = some p.toNat && !x.final) = true) : Completes (.progUnload h p) s fun u =>
      u.work = s.work ∧ u.Replied h 0x122 3 2 [] := by
  refine completes_of_pumped (progUnloadRun h p) rfl hh ?_
  have hrun : progUnloadRun h p s = replyConflict h 0x122 2 s := (onlyTA_of_ta hc _ _).trans ((onProg_own hp ht _ _).trans (if_pos hu))
  rw [hrun]
  exact ⟨reply_work _ _ _ _ _ _ _, replyConflict_replied _ _ _ _ (by decide)⟩

/-! ### Triggers -/

section
variable {tag : Byte} {c : Ctx} (hh : s.su.held = false) (hc : s.classOf h.iss = .ta t ∨ s.classOf h.iss = .host t)
  (hl : s.liveCtx h.handle = some c) (ht : c.tenant = t) (htag : tag.toNat < 64) (hst : c.st = 1 ∨ c.st = 2)
include hh hc hl ht htag hst

theorem trigRaise_completes : Completes (.trigRaise h tag) s fun u =>
    u.Replied h 0x141 0 0 [] ∧ u.mem = s.mem ∧
      ∀ d ∈ s.activeIds, ∃ x : W32, u.Told d none ([5, 0, 0, 0] ++ toLe 4 x.toNat ++ (toLe 2 h.handle.toNat ++ [tag, 0] ++ zeros 8)) := by
  have hmem : OffTalk State.mem := by constructor <;> intro _ _ <;> rfl
  refine completes_of_pumped (trigRaiseRun h tag) rfl hh ?_
  have hrun : trigRaiseRun h tag s = replyOk h 0x141 [] (raiseAll h.handle tag.toNat s) :=
    (tenantHost_of_tenant hc _ _).trans ((onCtx_own hl ht (by simpa using htag) _ _).trans (if_neg (by omega)))
  have hbyte : byte tag.toNat = tag := by simp [byte]
  obtain ⟨-, htold⟩ := foldl_coordSend_told 5 (toLe 2 h.handle.toNat ++ [tag, 0] ++ zeros 8) none 0 s.activeIds s
  rw [hrun]
  unfold raiseAll
  rw [hbyte]
  refine ⟨replyOk_replied _ _ _ _, (reply_mem _ _ _ _ _ _ _).trans (foldl_keeps State.mem _ (fun s d => coordSend_keeps hmem _ _ _ _ _ s) _ _),
    fun d hd => ?_⟩
  obtain ⟨x, hx⟩ := htold d hd
  exact ⟨x, (replyOk_speaks _ _ _ _).told hx⟩

theorem trigRead_completes : Completes (.trigRead h tag) s fun u =>
    let r := c.trigs.get ⟨0, 0, 0, 0⟩ tag.toNat
    u.Replied h 0x142 0 0 (toLe 4 r.count.toNat ++ toLe 4 r.gen.toNat ++ toLe 2 r.region.toNat ++ [r.flags, 0]) ∧ u.ctx = s.ctx := by
  refine completes_of_pumped (trigReadRun h tag) rfl hh ?_
  let r := c.trigs.get ⟨0, 0, 0, 0⟩ tag.toNat
  have hrun : trigReadRun h tag s =
      replyOk h 0x142 (toLe 4 r.count.toNat ++ toLe 4 r.gen.toNat ++ toLe 2 r.region.toNat ++ [r.flags, 0]) s :=
    (tenantHost_of_tenant hc _ _).trans ((onCtx_own hl ht (by simpa using htag) _ _).trans (if_neg (by omega)))
  rw [hrun]
  exact ⟨replyOk_replied _ _ _ _, reply_ctx _ _ _ _ _ _ _⟩

end

/-- A raise that reaches a live context raises its trigger's count by one. -/
theorem raiseRx_live {handle : W16} {c : Ctx} (hl : s.liveCtx handle = some c) (tag : Nat) (flags : Byte) (region : W16) (gen : W32) :
    (raiseRx handle tag flags.toNat region gen s).liveCtx handle = some { c with
      trigs := c.trigs.put ⟨0, 0, 0, 0⟩ tag ⟨(c.trigs.get ⟨0, 0, 0, 0⟩ tag).count + 1, gen, region, flags⟩ } := by
  have hlive : c.st ≠ 0 ∧ s.ctx.incs.get 0 (ctxIndex handle) = handle.toNat / 4096 := by
    unfold State.liveCtx at hl
    split at hl
    · split at hl
      · next hst => cases hl; exact hst
      · exact absurd hl (by simp)
    · exact absurd hl (by simp)
  unfold raiseRx
  rw [hl]
  unfold State.liveCtx
  simp only [Sparse.find_ins_self]
  rw [if_pos hlive, show byte flags.toNat = flags by simp [byte]]

theorem trigRaiseMsg_completes (hh : s.su.held = false) {k : Coord} {handle : W16} (region : W16) (tag flags : Byte) (gen : W32) {c : Ctx}
    (hd : s.isDevice k.src = true) (hcl : s.closedHint = none) (ha : ∀ a ∈ s.coord.acked, ¬(a.src = k.src ∧ a.xid = k.xid))
    (hf : (k.src, k.xid) ∉ s.coord.fwdOpen) (hl : s.liveCtx handle = some c) : Completes (.trigRaiseMsg k handle tag flags region gen) s fun u =>
        u.liveCtx handle = some { c with
          trigs := c.trigs.put ⟨0, 0, 0, 0⟩ tag.toNat ⟨(c.trigs.get ⟨0, 0, 0, 0⟩ tag.toNat).count + 1, gen, region, flags⟩ } ∧
        u.Acked k 5 0 ∧ u.mem = s.mem := by
  have hlive : OffTalk fun s : State => s.liveCtx handle := by constructor <;> intro _ _ <;> rfl
  have hmem : OffTalk State.mem := by constructor <;> intro _ _ <;> rfl
  refine completes_of_pumped (coordPlain k 5 (raiseRx handle tag.toNat flags.toNat region gen)) rfl hh ?_
  rw [coordPlain, coordFrom_runs hd hcl ha hf]
  refine ⟨(hlive.coordAckSend _ _ _ _ _ _ _).trans (raiseRx_live hl _ _ _ _), coordAckSend_isAcked _ _ _ _ _ _,
    (hmem.coordAckSend _ _ _ _ _ _ _).trans ?_⟩
  unfold raiseRx
  rw [hl]

end

end Sys2Proof.Machine
end

section
open Sys2Proof Sys2Proof.Machine

/-- Settles O21: an image is loaded at the lowest free index and unloaded when unused; triggers are raised at every active device and read back. -/
theorem programsAndTriggers : Obligations.ProgramsAndTriggers := fun _ _ _ hh =>
  ⟨fun ca _ hc href hk => progLoad_completes hh hc href hk ca,
    fun _ _ hc hp ht => ⟨progUnload_completes hh hc hp ht, progUnload_used_completes hh hc hp ht⟩,
    fun _ _ hc hl ht htag hst => ⟨trigRaise_completes hh hc hl ht htag hst, trigRead_completes hh hc hl ht htag hst⟩,
    fun _ _ region tag flags gen _ => trigRaiseMsg_completes hh region tag flags gen⟩

end

section
/-! PROOFS. What the bookkeeping of DRAM, the journal and the flash tier may do to the rest of the state, for any relation between the
states before and after that composes: what is kept, what only grows, what only shrinks (R78 to R132). -/

namespace Sys2Proof.Machine

variable {s : State}

/-- A relation from a state to a later one, through every number of steps. -/
structure Drift where
  rel : State → State → Prop
  refl : ∀ s, rel s s
  trans : ∀ s t u, rel s t → rel t u → rel s u

/-- The state `t` has come from `s` as the relation says. -/
def Drift.Keeps (R : Drift) (t s : State) : Prop := R.rel s t

section
variable {R : Drift}

@[refl] theorem Drift.Keeps.rfl {s : State} : R.Keeps s s := R.refl s

theorem Drift.Keeps.trans {s t u : State} (h : R.Keeps u t) (h' : R.Keeps t s) : R.Keeps u s := R.trans s t u h' h

theorem Drift.ite (c : Prop) [Decidable c] {a b s : State} (ha : R.Keeps a s) (hb : R.Keeps b s) : R.Keeps (if c then a else b) s := by
  split <;> assumption

theorem Drift.getD {o : Option State} {a : State} (h : ∀ b, o = some b → R.Keeps b a) : R.Keeps (o.getD a) a := by
  cases o with
  | none => rfl
  | some b => exact h b (Eq.refl _)

theorem Drift.foldl {β : Type} {f : State → β → State} (h : ∀ s x, R.Keeps (f s x) s) (l : List β) (s : State) : R.Keeps (l.foldl f s) s := by
  induction l generalizing s with
  | nil => rfl
  | cons x l ih => exact (ih _).trans (h s x)

end

/-- A relation that the bookkeeping of the memory and of the flash tier follows. -/
structure StoreDrift (R : Drift) : Prop where
  regs : ∀ s x, R.Keeps { s with regs := x } s
  count : ∀ (r : Reg) (u n : Nat) (s : State), R.Keeps (s.count r u n) s
  logEv : ∀ (e : Ev) (s : State), R.Keeps (logEv e s) s
  send : ∀ (m : Msg) (s : State), R.Keeps (send m s) s
  tier : ∀ s x, R.Keeps { s with tier := x } s
  mem : ∀ s x, R.Keeps { s with mem := x } s
  poison : ∀ s x, R.Keeps { s with poison := x } s
  upsets : ∀ s x, R.Keeps { s with upsets := x } s
  chans : ∀ s x, R.Keeps { s with chans := x } s
  tags : ∀ s x, R.Keeps { s with tags := x } s
  tagc : ∀ s x, R.Keeps { s with tagc := x } s
  pool : ∀ s (x : PoolSt), x.dir ⊆ s.pool.dir → x.slots = s.pool.slots → x.sweeps = s.pool.sweeps → R.Keeps { s with pool := x } s

section
variable {R : Drift} (hR : StoreDrift R)
include hR

theorem StoreDrift.updFull (s : State) : R.Keeps (updFull s) s := by
  unfold Machine.updFull
  simp only
  split_ifs
  · rfl
  · exact hR.tier s _
  · exact hR.tier s _
  · rfl

theorem StoreDrift.openSb (kind : Nat) (t : TenantId) (s : State) : R.Keeps (openSb kind t s).2 s := by
  unfold Machine.openSb
  split
  · rfl
  · exact (hR.updFull _).trans ((hR.tier _ _).trans (hR.tier s _))

theorem StoreDrift.takePage (kind : Nat) (t : TenantId) (n : Nat) (s : State) : R.Keeps (takePage kind t n s).2 s := by
  unfold Machine.takePage
  cases (s.tier.sbs.find? fun e => e.2.use = 1 && e.2.kind = kind && e.2.tenant = t.val && !e.2.reloc).map Prod.fst with
  | some i => exact hR.tier s _
  | none =>
    simp only
    split
    · exact hR.openSb _ _ s
    · exact (hR.tier _ _).trans (hR.openSb _ _ s)

theorem StoreDrift.flCount (r : Reg) (c : CarrierId) (sb n : Nat) (s : State) : R.Keeps (flCount r c sb n s) s := hR.count _ _ _ s




theorem StoreDrift.logAppend (w : Nat) (s : State) : R.Keeps (logAppend w s) s := by
  unfold Machine.logAppend
  split
  · extract_lets n s1
    have h1 : R.Keeps s1 s := hR.tier s _
    exact Drift.ite _ ((hR.tier s1 _).trans h1) h1
  · rfl

theorem StoreDrift.pageOff (c : CarrierId) (q key : Nat) (j : JPage) (s : State) : R.Keeps (pageOff c q key j s).2 s := by
  unfold Machine.pageOff
  simp only
  split
  · rfl
  · split
    · split
      · exact hR.tier s _
      · rfl
    · rfl

theorem StoreDrift.remirrorFrom (c : CarrierId) (s : State) : R.Keeps (remirrorFrom c s) s := by
  unfold Machine.remirrorFrom
  extract_lets s1
  have h1 : R.Keeps s1 s := hR.tier s _
  clear_value s1
  refine (Drift.foldl (fun s e => ?_) _ _).trans h1
  have hpages : ∀ (l : List JPage) (a : List JPage × State), R.Keeps (l.foldl (fun (a : List JPage × State) x =>
      let (p', s') := Machine.pageOff c (e.1 / 16) e.1 x a.2
      (a.1 ++ [p'], s')) a).2 a.2 := by
    intro l
    induction l with
    | nil => exact fun _ => .rfl
    | cons j l ih => exact fun a => (ih _).trans (hR.pageOff _ _ _ _ _)
  exact (hR.tier _ _).trans (hpages _ _)

theorem StoreDrift.dropErase (c : CarrierId) (s : State) : R.Keeps (dropErase c s) s := (hR.updFull _).trans (hR.tier s _)

theorem StoreDrift.carDone (c : CarrierId) (st : Byte) (s : State) : R.Keeps (carDone c st s) s := by
  unfold Machine.carDone
  split
  · exact hR.regs s _
  · rfl

theorem StoreDrift.carFail (c : CarrierId) (cause : Nat) (s : State) : R.Keeps (carFail c cause s) s := by
  unfold Machine.carFail
  simp only
  split
  · rfl
  · have h : R.Keeps (Machine.carDone c stRETRY_BUSY (carEv c .fault cause (s.updCar c fun k => { k with st := 7, wasFailed := true, waiting := false, holdAt := none }))) s :=
      (hR.carDone _ _ _).trans ((hR.logEv _ _).trans (hR.tier s _))
    split
    · exact (hR.remirrorFrom _ _).trans ((hR.dropErase _ _).trans h)
    · exact h

theorem StoreDrift.retire (c : CarrierId) (sb : Nat) (s : State) : R.Keeps (retire c sb s) s := by
  have hworn : ∀ s, R.Keeps (checkWorn c s) s := fun s => by
    unfold checkWorn
    simp only
    split
    · exact (hR.logEv _ _).trans (hR.tier s _)
    · rfl
  unfold Machine.retire
  extract_lets k used
  split
  · exact hR.carFail _ _ s
  · exact (hworn _).trans ((hR.logAppend _ _).trans ((hR.tier _ _).trans (hR.tier s _)))

theorem StoreDrift.releaseSb (i : Nat) (s : State) : R.Keeps (releaseSb i s) s := by
  unfold Machine.releaseSb
  extract_lets b limit out s1 s2 er s3
  split
  · rfl
  · have h1 : R.Keeps s1 s := hR.tier s _
    have h2 : R.Keeps s2 s1 := by
      unfold s2
      split
      · exact (hR.count _ _ _ _).trans (hR.tier s1 _)
      · rfl
    have h3 : R.Keeps s3 s := (hR.tier s2 _).trans (h2.trans h1)
    clear_value s3
    exact (hR.updFull _).trans ((Drift.foldl (fun s c => hR.retire c i s) _ _).trans h3)



/-! ### Channels and the symbol code -/

theorem StoreDrift.ceMerge (c : ChanId) (k : Coord4) (dev : Nat) (rasp : Bool) (s : State) : R.Keeps (ceMerge c k dev rasp s) s := by
  have hset : ∀ r u v s, R.Keeps (s.setReg r u v) s := fun r u v s => hR.regs s _
  unfold Machine.ceMerge
  extract_lets c' w0 same now free i s1 s2 s3 s4
  have h1 : R.Keeps s1 s := Drift.ite _ (hset _ _ _ s) .rfl
  have h3 : R.Keeps s3 s := (hset _ _ _ _).trans ((hset _ _ _ _).trans h1)
  have h4 : R.Keeps s4 s := by
    unfold s4
    split
    · exact (hset _ _ _ _).trans (hset _ _ _ s)
    · exact (hset _ _ _ _).trans ((hset _ _ _ _).trans h3)
  exact Drift.ite _ ((hR.logEv _ _).trans ((hR.chans s4 _).trans h4)) h4

theorem StoreDrift.sendFlush (sl : Nat) (t : TenantId) (s : State) : R.Keeps (sendFlush sl t s) s := by
  unfold Machine.sendFlush
  extract_lets list slots i s1
  have h1 : R.Keeps s1 s := Drift.foldl (fun s x => by
    split
    · exact (hR.count _ _ _ _).trans (hR.send _ s)
    · rfl) _ s
  clear_value s1
  exact Drift.ite _ h1 (.trans (hR.pool s1 { s1.pool with flushes := _ } (List.Subset.refl _) rfl rfl) h1)

theorem StoreDrift.dropBlock (b : Nat) (s : State) : R.Keeps (dropBlock b s) s := by
  have h : ∀ x y, R.Keeps { s with mem := x, poison := y } s := fun x y => (hR.poison { s with mem := x } y).trans (hR.mem s x)
  exact h _ _

theorem StoreDrift.poisonBlock (b : Nat) (s : State) : R.Keeps (poisonBlock b s) s := (hR.poison _ _).trans (hR.dropBlock b s)

theorem StoreDrift.tagsInvalid (sl : Nat) (s : State) : R.Keeps (tagsInvalid sl s) s := (hR.tagc _ _).trans (hR.tags s _)

theorem StoreDrift.loseVolatile (sl : Nat) (t : TenantId) (s : State) : R.Keeps (loseVolatile sl t s) s :=
  Drift.foldl (fun s e => Drift.ite _ (by
    split
    · exact Drift.foldl (fun s b => Drift.ite _ (hR.poisonBlock b s) ((hR.tier _ _).trans (hR.dropBlock b s))) _ s
    · rfl) .rfl) _ s

theorem StoreDrift.loseSlice (sl : Nat) (s : State) : R.Keeps (loseSlice sl s) s := by
  unfold Machine.loseSlice
  split
  · refine (Drift.foldl (fun s e => Drift.ite _ ?_ .rfl) _ _).trans ((hR.loseVolatile _ _ _).trans (hR.tagsInvalid _ s))
    split
    · exact Drift.foldl (fun s b => hR.dropBlock b s) _ s
    · rfl
  · rfl

theorem StoreDrift.dirDrop (sl : Nat) (s : State) : R.Keeps (dirDrop sl s) s := hR.pool s _ (fun _ h => (List.mem_filter.1 h).1) rfl rfl

theorem StoreDrift.chanFail (c : ChanId) (n : Nat) (s : State) : R.Keeps (chanFail c n s) s := by
  unfold Machine.chanFail
  extract_lets was s1 s2
  have h1 : R.Keeps s2 s := (hR.logEv _ _).trans (hR.chans s _)
  clear_value s2
  refine Drift.ite _ ?_ h1
  split
  · exact (hR.sendFlush _ _ _).trans ((hR.dirDrop _ _).trans ((hR.loseSlice _ _).trans h1))
  · exact h1

theorem StoreDrift.chanDone (c : ChanId) (st : Byte) (s : State) : R.Keeps (chanDone c st s) s := Drift.ite _ (hR.regs s _) .rfl

theorem StoreDrift.cleanLine (c line : Nat) (s : State) : R.Keeps (cleanLine c line s) s := hR.upsets s _

theorem StoreDrift.uncorrectable (c : ChanId) (line : Nat) (dl : Option Nat) (a : Bool) (s : State) : R.Keeps (uncorrectable c line dl a s) s := by
  unfold Machine.uncorrectable
  extract_lets k s1 s2 s3 s4 times s5
  have h1 : R.Keeps s1 s := hR.count _ _ _ s
  clear_value s1
  have h2 : R.Keeps s2 s := (hR.count _ _ _ _).trans ((Drift.ite _ (hR.count _ _ _ s1) .rfl).trans h1)
  clear_value s2
  have h3 : R.Keeps s3 s := (hR.logEv _ _).trans ((hR.cleanLine _ _ _).trans h2)
  clear_value s3
  have h4 : R.Keeps s4 s := by
    unfold s4
    split
    · exact (hR.poison _ _).trans h3
    · exact h3
  clear_value s4
  have h5 : R.Keeps s5 s := (hR.chans s4 _).trans h4
  clear_value s5
  exact Drift.ite _ ((hR.chanDone _ _ _).trans ((hR.chanFail _ _ _).trans h5)) h5

theorem StoreDrift.readLine (c : ChanId) (line dl : Nat) (rasp : Bool) (s : State) : R.Keeps (readLine c line dl rasp s).2 s := by
  unfold Machine.readLine
  extract_lets s1 x
  have h1 : R.Keeps s1 s := hR.count _ _ _ s
  clear_value s1
  split
  · exact h1
  · exact (hR.ceMerge _ _ _ _ _).trans ((hR.cleanLine _ _ _).trans ((hR.count _ _ _ _).trans ((hR.count _ _ _ _).trans h1)))
  · exact h1
  · exact (hR.uncorrectable c line (some dl) true s1).trans h1
  · exact (hR.uncorrectable c line (some dl) false s1).trans h1

theorem StoreDrift.readTagLine (c : ChanId) (set_ : Nat) (rasp : Bool) (s : State) : R.Keeps (readTagLine c set_ rasp s) s := by
  unfold Machine.readTagLine
  extract_lets one out s1 fixed repaired s2
  have h1 : R.Keeps s1 s := hR.count _ _ _ s
  clear_value s1
  have hfixed : ∀ a b u, R.Keeps (fixed a b u) u := fun a b u =>
    (hR.ceMerge _ _ _ _ _).trans ((hR.cleanLine _ _ _).trans ((hR.count _ _ _ _).trans (hR.count _ _ _ u)))
  have hrep : ∀ u, R.Keeps (repaired u) u := fun u => (hR.count _ _ _ _).trans ((hR.cleanLine _ _ _).trans (hR.count _ _ _ u))
  clear_value fixed repaired
  have h2 : R.Keeps s2 s := (hR.count _ _ _ s1).trans h1
  clear_value s2
  split
  · exact h1
  · exact (hfixed _ _ _).trans h1
  all_goals
    split
    · exact (hrep _).trans h2
    · exact (hrep _).trans ((hfixed _ _ _).trans h2)
    all_goals exact (hR.chanDone _ _ _).trans ((hR.chanFail _ _ _).trans h2)

/-! ### Superblocks, stripes and the journal -/

theorem StoreDrift.releaseEmpty (i : Nat) (s : State) : R.Keeps (releaseEmpty i s) s := Drift.ite _ (hR.releaseSb i s) .rfl


theorem StoreDrift.programStripe (d : DStripe) (s : State) : R.Keeps (programStripe d s) s :=
  Drift.foldl (fun s _ => (hR.flCount _ _ _ _ _).trans (hR.flCount _ _ _ _ s)) _ s


theorem StoreDrift.denseAdd (q : Nat) (pg : DPage) {s t : State} (h : denseAdd q pg s = some t) : R.Keeps t s := by
  unfold Machine.denseAdd at h
  simp only at h
  split at h
  · cases h
  · split at h
    · cases h
      exact Drift.ite _ ((hR.programStripe _ _).trans (hR.tier s _)) (hR.tier s _)
    · split at h
      · cases h
      · next u hu =>
        cases h
        have hpage := hR.takePage 0 (tenOf pg.page.tenant) s.geo.pages s
        rw [hu] at hpage
        exact (hR.tier _ _).trans hpage

theorem StoreDrift.relocate (i : Nat) (s : State) : R.Keeps (relocate i s) s := by
  unfold Machine.relocate
  extract_lets b s1 s2
  refine Drift.ite _ .rfl ?_
  have h1 : R.Keeps s1 s := hR.tier s _
  clear_value s1
  have h2 : R.Keeps s2 s1 := Drift.foldl (fun s e => by
    split
    · exact Drift.getD fun t ht => hR.denseAdd _ _ ht
    · rfl) _ s1
  exact (hR.releaseEmpty _ _).trans (h2.trans h1)

theorem StoreDrift.setStream (k : Nat) (x : Stream) (s : State) : R.Keeps (s.setStream k x) s := hR.tier s _

theorem StoreDrift.closeJPage (k : Nat) (s : State) : R.Keeps (closeJPage k s) s := by
  unfold Machine.closeJPage
  simp only
  split
  · split
    · rfl
    · exact (Drift.foldl (fun s c => (hR.flCount _ _ _ _ _).trans (hR.flCount _ _ _ _ s)) _ _).trans ((hR.tier _ _).trans (hR.takePage _ _ _ s))
  · rfl

theorem StoreDrift.journalAdd (q : Nat) (t : TenantId) (rs : List JRec) (s : State) : R.Keeps (journalAdd q t rs s).2 s := by
  have hclose : ∀ (c : Prop) [Decidable c] k s, R.Keeps (if c then Machine.closeJPage k s else s) s := fun c _ k s => Drift.ite _ (hR.closeJPage k s) .rfl
  unfold Machine.journalAdd
  extract_lets k s1 x
  have h1 : R.Keeps s1 s := hclose _ _ s
  clear_value s1 x
  split
  exact (hclose _ _ _).trans ((hR.setStream _ _ _).trans h1)

theorem StoreDrift.journalErase (s : State) : R.Keeps (journalErase s) s :=
  Drift.foldl (fun s _ => Drift.ite _ (hR.releaseSb _ s) .rfl) _ s

theorem StoreDrift.reclaim (k : Nat) (s : State) : R.Keeps (reclaim k s) s :=
  Drift.ite _ ((hR.journalErase _).trans ((hR.logAppend _ _).trans (hR.setStream _ _ s))) .rfl

theorem StoreDrift.obsolete (k b n : Nat) (s : State) : R.Keeps (obsolete k b n s) s := (hR.reclaim _ _).trans (hR.setStream _ _ s)

/-! ### Write-back -/

theorem StoreDrift.readBlock (sl n b : Nat) (s : State) : R.Keeps (readBlock sl n b s) s := by
  unfold Machine.readBlock
  refine Drift.ite _ .rfl ((Drift.foldl (fun s l => ?_) _ _).trans (hR.count _ _ _ s))
  split
  · exact hR.readLine _ _ _ _ s
  · rfl

theorem StoreDrift.writeBack (sl b : Nat) {s t : State} (h : writeBack sl b s = some t) : R.Keeps t s := by
  unfold Machine.writeBack at h
  split at h
  · simp only at h
    split at h
    · cases h
      exact hR.readBlock _ _ _ s
    · exact (hR.denseAdd _ _ h).trans (hR.readBlock _ _ _ s)
  · cases h
    rfl

theorem StoreDrift.setTags (sl set_ : Nat) (l : List Tag) (s : State) : R.Keeps (s.setTags sl set_ l) s := hR.tags s _

theorem StoreDrift.evict (sl set_ w : Nat) {s t : State} (h : evict sl set_ w s = some t) : R.Keeps t s := by
  unfold Machine.evict at h
  simp only at h
  split at h
  · obtain ⟨u, hu, rfl⟩ := Option.map_eq_some_iff.1 h
    exact (Drift.ite _ (hR.setTags _ _ _ u) .rfl).trans (hR.writeBack _ _ hu)
  · cases h

theorem StoreDrift.pressure (k : Nat) (s : State) : R.Keeps (pressure k s) s := by
  have hwrite : ∀ sl b s, R.Keeps ((Machine.writeBack sl b s).getD s) s := fun sl b s => Drift.getD fun t ht => hR.writeBack _ _ ht
  have hevict : ∀ sl b w s, R.Keeps ((Machine.evict sl b w s).getD s) s := fun sl b w s => Drift.getD fun t ht => hR.evict _ _ _ ht
  unfold Machine.pressure
  refine Drift.ite _ .rfl (Drift.foldl (fun s b => ?_) _ s)
  split
  · split
    · refine Drift.ite _ (hwrite _ _ s) ?_
      simp only
      split
      · exact Drift.ite _ .rfl (hevict _ _ _ s)
      · exact Drift.ite _ (hwrite _ _ s) .rfl
    · rfl
  · rfl

theorem StoreDrift.wbVerified (sl b n : Nat) (l : PLoc) (t : TenantId) (s : State) : R.Keeps (wbVerified sl b n l t s) s := by
  unfold Machine.wbVerified
  extract_lets old s1 st tg rd s2 s3
  have h1 : R.Keeps s1 s := (hR.logAppend _ _).trans (hR.tier s _)
  clear_value s1
  have h2 : R.Keeps s2 s1 := by
    unfold s2
    split
    · exact hR.setTags _ _ _ s1
    · rfl
  have h3 : R.Keeps s3 s := (hR.obsolete _ _ _ _).trans (h2.trans h1)
  clear_value s3 old
  split
  · exact (hR.releaseEmpty _ _).trans h3
  · exact h3
  · exact h3

/-! ### Lines, and the blocks they stand in -/

theorem StoreDrift.wakeRank (sl line : Nat) (s : State) : R.Keeps (wakeRank sl line s) s := Drift.ite _ (hR.chans s _) .rfl

theorem StoreDrift.loadLine (sl : Nat) (t : TenantId) (dl : Nat) (s : State) : R.Keeps (loadLine sl t dl s).2 s := by
  unfold Machine.loadLine
  split
  · exact (hR.readLine _ _ _ _ _).trans (hR.wakeRank _ _ s)
  · rfl

theorem StoreDrift.tagcUse (sl set_ : Nat) (d : Bool) (s : State) : R.Keeps (tagcUse sl set_ d s) s := by
  unfold Machine.tagcUse
  extract_lets k l hit s1 w l2 s2
  have h1 : R.Keeps s1 s := Drift.ite _ (hR.count _ _ _ s) (hR.count _ _ _ s)
  clear_value s1
  exact (hR.tagc _ _).trans ((hR.count _ _ _ s1).trans h1)

theorem StoreDrift.markDirty (sl : Nat) (t : TenantId) (b : Nat) (s : State) : R.Keeps (markDirty sl t b s) s := by
  unfold Machine.markDirty
  simp only
  split
  · exact Drift.ite _ .rfl ((hR.tagcUse _ _ _ _).trans (hR.setTags _ _ _ s))
  · rfl

theorem StoreDrift.storeBytes (sl : Nat) (t : TenantId) (dpa : Nat) (b : Bytes) (s : State) : R.Keeps (storeBytes sl t dpa b s) s := by
  unfold Machine.storeBytes
  extract_lets dl s1 s2
  have h1 : R.Keeps s1 s := (hR.count _ _ _ _).trans ((hR.wakeRank _ _ _).trans (hR.cleanLine _ _ s))
  clear_value s1
  have h2 : R.Keeps s2 s := (hR.markDirty _ _ _ _).trans ((hR.mem s1 _).trans h1)
  clear_value s2
  exact Drift.ite _ ((hR.poison s2 _).trans h2) h2

theorem StoreDrift.storeMarker (sl : Nat) (t : TenantId) (dl : Nat) (s : State) : R.Keeps (storeMarker sl t dl s) s := by
  unfold Machine.storeMarker
  extract_lets s1
  have h1 : R.Keeps s1 s := (hR.count _ _ _ _).trans (hR.cleanLine _ _ s)
  clear_value s1
  exact (hR.markDirty _ _ _ _).trans ((hR.poison s1 _).trans h1)

theorem StoreDrift.journalLines (sl n : Nat) (g : Region) (l : List Nat) (x : List JRec) (s : State) : R.Keeps (journalLines sl n g l x s).2 s := by
  unfold Machine.journalLines
  split
  · rfl
  · exact (hR.pressure _ _).trans (hR.journalAdd _ _ _ s)

theorem StoreDrift.putImage (b n : Nat) (t : TenantId) (s : State) : R.Keeps (putImage b n t s).2 s := by
  have h : ∀ x y, R.Keeps { s with mem := x, poison := y } s := fun x y => (hR.poison { s with mem := x } y).trans (hR.mem s x)
  exact h _ _

theorem StoreDrift.install (sl set_ w b n : Nat) (t : TenantId) (s : State) : R.Keeps (install sl set_ w b n t s) s :=
  (hR.tagcUse _ _ _ _).trans ((hR.setTags _ _ _ _).trans ((hR.count _ _ _ _).trans (hR.putImage b n t s)))

theorem StoreDrift.blockLost (sl b n c : Nat) (t : TenantId) (s : State) : R.Keeps (blockLost sl b n c t s) s :=
  (hR.logEv _ _).trans ((hR.count _ _ _ _).trans ((hR.logAppend _ _).trans (hR.tier s _)))

theorem StoreDrift.fetch (sl b n : Nat) (t : TenantId) (s : State) : R.Keeps (fetch sl b n t s).2 s := by
  unfold Machine.fetch
  split
  · rfl
  · rfl
  · split
    · exact hR.blockLost _ _ _ _ _ s
    · rfl

theorem StoreDrift.putFill (f : Fill) (s : State) : R.Keeps (s.putFill f) s := hR.pool s _ (List.Subset.refl _) rfl rfl
theorem StoreDrift.dropFill (b sl : Nat) (s : State) : R.Keeps (s.dropFill b sl) s := hR.pool s _ (List.Subset.refl _) rfl rfl

theorem StoreDrift.startFill (sl set_ b n : Nat) (t : TenantId) (s : State) : R.Keeps (startFill sl set_ b n t s).2 s := by
  unfold Machine.startFill
  split
  · exact hR.putFill _ s
  · next w _ =>
    extract_lets tg s1 s2
    split
    · split
      · exact hR.dropFill _ _ s
      · exact (hR.putFill _ _).trans (Drift.getD fun t ht => hR.evict _ _ _ ht)
    · have h1 : R.Keeps s1 s := Drift.ite _ (hR.dropBlock _ s) .rfl
      have h2 : R.Keeps s2 s := (hR.setTags _ _ _ s1).trans h1
      have h3 := hR.fetch sl b n t s2
      split
      · next u hu =>
        rw [hu] at h3
        exact (hR.dropFill _ _ _).trans ((hR.install _ _ _ _ _ _ u).trans (h3.trans h2))
      · next u hu =>
        rw [hu] at h3
        exact (hR.putFill _ u).trans (h3.trans h2)

theorem StoreDrift.setBypass (sl : Nat) (b : Option Nat) (s : State) : R.Keeps (s.setBypass sl b) s := by
  unfold State.setBypass
  split
  · exact hR.pool s _ (List.Subset.refl _) rfl rfl
  · rfl

theorem StoreDrift.bypassFetch (sl b n : Nat) (t : TenantId) (s : State) : R.Keeps (bypassFetch sl b n t s).2 s := by
  unfold Machine.bypassFetch
  split
  · split
    · rfl
    · split <;> rfl
  · extract_lets s1
    have h1 : R.Keeps s1 s := (hR.count _ _ _ _).trans (hR.setBypass _ _ s)
    have h2 := hR.fetch sl b n t s1
    split
    · next u hu =>
      rw [hu] at h2
      exact (hR.putImage _ _ _ u).trans (h2.trans h1)
    · next u hu =>
      rw [hu] at h2
      exact (hR.putFill _ u).trans (h2.trans h1)

theorem StoreDrift.ensure (sl b n : Nat) (g : Region) (s : State) : R.Keeps (ensure sl b n g s).2 s := by
  unfold Machine.ensure
  extract_lets t c set_ known s1 l
  split
  · rfl
  · split
    · split
      · rfl
      · have h1 : R.Keeps s1 s := (hR.tagcUse _ _ _ _).trans (Drift.ite _ .rfl (hR.readTagLine _ _ _ s))
        split
        · exact (hR.setTags _ _ _ s1).trans h1
        · split
          · exact (hR.bypassFetch _ _ _ _ s1).trans h1
          · split
            · exact h1
            · split
              · exact h1
              · split
                · exact h1
                · exact (hR.startFill _ _ _ _ _ s1).trans h1
    · split
      · rfl
      · exact hR.bypassFetch _ _ _ _ s

theorem StoreDrift.ensureAll (sl n : Nat) (g : Region) (l : List Nat) (s : State) : R.Keeps (ensureAll sl n g l s).2 s := by
  induction l generalizing s with
  | nil => rfl
  | cons b l ih =>
    have h := hR.ensure sl b n g s
    unfold Machine.ensureAll
    split
    · next u hu =>
      rw [hu] at h
      exact (ih u).trans h
    · next u hu =>
      rw [hu] at h
      exact h
    · next u hu =>
      rw [hu] at h
      exact h

theorem StoreDrift.wake (w : Wait) (f : Trk → Bool) (s : State) : R.Keeps (wake w f s) s := hR.pool s _ (List.Subset.refl _) rfl rfl

theorem StoreDrift.bypassEnd (sl b : Nat) (g : Region) (w : Bool) (s : State) : R.Keeps (bypassEnd sl b g w s) s :=
  Drift.ite _ .rfl (Drift.ite _ (Drift.getD fun _ ht => hR.writeBack _ _ ht)
    ((hR.wake _ _ _).trans ((hR.dropBlock _ _).trans (hR.setBypass _ _ s))))

/-! ### The directory -/

theorem StoreDrift.dirUse (sl : Nat) (t : TenantId) (line : Nat) (s : State) : R.Keeps (dirUse sl t line s) s := by
  unfold Machine.dirUse
  extract_lets k l hit s1 l2 s2
  have h1 : R.Keeps s1 s := hR.count _ _ _ s
  clear_value s1
  have h2 : R.Keeps s2 s1 := Drift.ite _ .rfl ((hR.count _ _ _ _).trans (hR.count _ _ _ s1))
  clear_value s2
  exact .trans (hR.pool s2 { s2.pool with dirc := _ } (List.Subset.refl _) rfl rfl) (h2.trans h1)

theorem StoreDrift.ownerMark (n : Nat) (g : Region) (line : Nat) (v : Bool) (s : State) : R.Keeps (ownerMark n g line v s).2 s := by
  unfold Machine.ownerMark
  split
  · split
    · simp only
      split
      · rfl
      · exact hR.mem s _
    · rfl
  · rfl

theorem StoreDrift.poisonFlash (line : Nat) (s : State) : R.Keeps (poisonFlash line s) s := by
  unfold Machine.poisonFlash
  split
  · simp only
    split
    · exact hR.tier s _
    · rfl
  all_goals rfl

end

end Sys2Proof.Machine
end

section
/-! PROOFS. The completion of a generation across its members, and materialised results (R182, R183, R189, R198). -/

namespace Sys2Proof.Machine

variable {s : State}

/-! ### What has been said stays said through the memory's bookkeeping -/

/-- What has left the device stays on record. -/
def sentOut : Drift := ⟨Outs, outs_refl, fun _ _ _ => outs_trans⟩

theorem sentOut_of_eq {s t : State} (h : t.out = s.out) : sentOut.Keeps t s := outs_of_eq h

theorem sentOut_emit (o : Out) (s : State) : sentOut.Keeps (emit o s) s := outs_emit s o

theorem sentOut_count (r : Reg) (u n : Nat) (s : State) : sentOut.Keeps (s.count r u n) s :=
  sentOut_of_eq (count_keeps State.out (fun _ _ => rfl) (fun _ _ => rfl) s r u n)

theorem sentOut_log (x : LogSt) (s : State) : sentOut.Keeps { s with log := x } s := sentOut_of_eq rfl

theorem sentOut_sendUdp (n : Nat) (b : Bytes) (s : State) : sentOut.Keeps (sendUdp n b s) s :=
  Drift.ite _ .rfl ((sentOut_emit _ _).trans (sentOut_log _ s))

theorem sentOut_putEv (e : Ev) (s : State) : sentOut.Keeps (putEv e s) s := by
  unfold putEv
  extract_lets entry full l s1 s2 due l2 s3
  have h1 : sentOut.Keeps s1 s := sentOut_log _ s
  clear_value s1
  have h2 : sentOut.Keeps s2 s := Drift.ite _ ((sentOut_count _ _ _ _).trans h1) h1
  clear_value s2
  have h3 : sentOut.Keeps s3 s := Drift.ite _ ((sentOut_emit _ _).trans ((sentOut_log _ s2).trans h2)) h2
  clear_value s3
  exact Drift.ite _ ((sentOut_sendUdp _ _ _).trans h3) h3

theorem sentOut_rollSecond (s : State) : sentOut.Keeps (rollSecond s) s :=
  Drift.ite _ .rfl ((Drift.foldl (fun s _ => sentOut_putEv _ s) _ _).trans (sentOut_log _ s))

theorem sentOut_logEv (e : Ev) (s : State) : sentOut.Keeps (logEv e s) s := by
  have hroll := sentOut_rollSecond s
  unfold logEv
  extract_lets s1 n
  have h1 : sentOut.Keeps s1 s := hroll
  clear_value s1
  exact Drift.ite _ .rfl (Drift.ite _ ((sentOut_putEv _ _).trans ((sentOut_log _ s1).trans h1))
    ((sentOut_count _ _ _ _).trans ((sentOut_log _ s1).trans h1)))

/-- What has been said stays said. -/
def said : Drift := ⟨Speaks, Speaks.refl, fun _ _ _ => Speaks.trans⟩

theorem said_store : StoreDrift said where
  regs _ _ := speaks_of_eq rfl rfl rfl fun _ => rfl
  count r u n s := ⟨fun _ h => (count_keeps State.coord (fun _ _ => rfl) (fun _ _ => rfl) s r u n).symm ▸ h, sentOut_count r u n s,
    count_keeps State.myId (fun _ _ => rfl) (fun _ _ => rfl) s r u n, fun i => count_keeps (fun s => s.isMe i) (fun _ _ => rfl) (fun _ _ => rfl) s r u n⟩
  logEv e s := ⟨fun _ h => (logEv_coord (s := s) e).symm ▸ h, sentOut_logEv e s,
    logEv_keeps State.myId (fun _ _ => rfl) (fun _ _ => rfl) (fun _ _ => rfl) (fun _ _ => rfl) s e,
    fun i => logEv_keeps (fun s => s.isMe i) (fun _ _ => rfl) (fun _ _ => rfl) (fun _ _ => rfl) (fun _ _ => rfl) s e⟩
  send m s := send_speaks m s
  tier _ _ := speaks_of_eq rfl rfl rfl fun _ => rfl
  mem _ _ := speaks_of_eq rfl rfl rfl fun _ => rfl
  poison _ _ := speaks_of_eq rfl rfl rfl fun _ => rfl
  upsets _ _ := speaks_of_eq rfl rfl rfl fun _ => rfl
  chans _ _ := speaks_of_eq rfl rfl rfl fun _ => rfl
  tags _ _ := speaks_of_eq rfl rfl rfl fun _ => rfl
  tagc _ _ := speaks_of_eq rfl rfl rfl fun _ => rfl
  pool _ _ _ _ _ := speaks_of_eq rfl rfl rfl fun _ => rfl

/-! ### Regions, their generations and the state line -/

theorem offStore_rgn : OffStore State.rgn := offStore_of_fields (fun _ _ => rfl) (fun _ _ => rfl) (fun _ _ => rfl) (fun _ _ => rfl) (fun _ _ => rfl)
  (fun _ _ => rfl) (fun _ _ => rfl) (fun _ _ => rfl) (fun _ _ => rfl) (fun _ _ => rfl) (fun _ _ => rfl) (fun _ _ => rfl) (fun _ _ => rfl)

theorem offTalk_rgn : OffTalk State.rgn := by constructor <;> intro _ _ <;> rfl

theorem region_of_rgn {s t : State} (h : t.rgn = s.rgn) (n : Nat) : t.region n = s.region n := congrArg (fun r : RegionSt => r.tab.find n) h

theorem region_setRegion_self (n : Nat) (g : Region) (s : State) : (s.setRegion n g).region n = some g := Sparse.find_ins_self _ _ _

theorem region_updRegion_self {n : Nat} {g : Region} (h : s.region n = some g) (f : Region → Region) : (s.updRegion n f).region n = some (f g) := by
  unfold State.updRegion
  rw [h]
  exact region_setRegion_self n (f g) s

theorem region_updRegion_ne {m n : Nat} (hmn : m ≠ n) (f : Region → Region) (s : State) : (s.updRegion n f).region m = s.region m := by
  unfold State.updRegion
  split
  · exact Sparse.find_ins_ne _ _ hmn
  · rfl

theorem region_updGen_self {n : Nat} {g : Region} (h : s.region n = some g) (f : GenSt → GenSt) :
    (s.updGen n f).region n = some { g with gen := f g.gen } := region_updRegion_self h _

/-- Journalling a state line stays off every part that the memory's bookkeeping stays off. -/
theorem OffStore.journalState {α : Type} {p : State → α} (hp : OffStore p) (n : Nat) (s : State) : p (journalState n s).2 = p s := by
  unfold Machine.journalState
  split
  · split
    · exact hp.journalLines _ _ _ _ _ s
    · rfl
  · rfl

theorem StoreDrift.journalState {R : Drift} (hR : StoreDrift R) (n : Nat) (s : State) : R.Keeps (journalState n s).2 s := by
  unfold Machine.journalState
  split
  · split
    · exact hR.journalLines _ _ _ _ _ s
    · rfl
  · rfl

theorem journalState_region (n m : Nat) (s : State) : (journalState n s).2.region m = s.region m :=
  region_of_rgn (offStore_rgn.journalState n s) m

/-! ### Messages of the generation (R182, R183, R198) -/

section
variable {c : Coord} {k : Nat} {f : State → State} (hd : s.isDevice c.src = true) (hc : s.closedHint = none)
  (ha : ∀ a ∈ s.coord.acked, ¬(a.src = c.src ∧ a.xid = c.xid)) (hf : (c.src, c.xid) ∉ s.coord.fwdOpen)
include hd hc ha hf

/-- A message that is over at once takes effect, leaves the regions as its effect does, and is acknowledged. -/
theorem coordPlain_takes : (coordPlain c k f s).rgn = (f s).rgn ∧ (coordPlain c k f s).mem = (f s).mem ∧ (coordPlain c k f s).Acked c k 0 := by
  rw [coordPlain, coordFrom_runs hd hc ha hf]
  have hmem : OffTalk State.mem := by constructor <;> intro _ _ <;> rfl
  exact ⟨offTalk_rgn.coordAckSend _ _ _ _ _ _ _, hmem.coordAckSend _ _ _ _ _ _ _, coordAckSend_isAcked c k 0 0 [] (f s)⟩

end

section
variable {n m : Nat} {src : W16} {g : Region} {gen short : W32} {fl : Byte}

/-- A sum is 0 where every part is. -/
theorem sum_map_ne_zero {α : Type} (l : List α) (f : α → Nat) : decide ((l.map f).sum ≠ 0) = l.any fun x => decide (f x ≠ 0) := by
  induction l with
  | nil => rfl
  | cons x l ih =>
    rw [List.any_cons, ← ih, List.map_cons, List.sum_cons, Bool.eq_iff_iff]
    simp only [Bool.or_eq_true, decide_eq_true_eq]
    omega

theorem bit_flags (a b c : Bool) : bit (1 + 2 * b2n a + 4 * b2n b + 8 * b2n c) 0 = true ∧
    bit (1 + 2 * b2n a + 4 * b2n b + 8 * b2n c) 1 = a ∧ bit (1 + 2 * b2n a + 4 * b2n b + 8 * b2n c) 2 = b := by
  cases a <;> cases b <;> cases c <;> decide

/-- A report before the last is kept. -/
theorem reportRx_early (hg : s.region n = some g) (h2 : g.kind = 2) (hco : s.coordinates g = true) (hm : s.memberIdx g src = some m)
    (hgen : gen.toNat = g.gen.gOpen) (hph : g.gen.phase = 0) (hst : g.gen.st ≠ 0xA)
    (hlen : (g.gen.reports.filter fun x => x.1 ≠ m).length + 1 < g.members) :
    (reportRx n src gen.toNat short.toNat fl.toNat s).region n = some { g with gen := { g.gen with
      reports := (g.gen.reports.filter fun x => x.1 ≠ m) ++ [(m, short.toNat, fl.toNat)] } } := by
  unfold reportRx
  rw [hg]
  dsimp only
  rw [hm]
  dsimp only
  rw [if_neg (by simp [h2, hco, hgen, hph, hst]), if_pos (by rw [List.length_append]; exact hlen)]
  exact region_setRegion_self _ _ _

/-- The last report begins the completion. -/
theorem reportRx_last (hg : s.region n = some g) (h2 : g.kind = 2) (hco : s.coordinates g = true) (hm : s.memberIdx g src = some m)
    (hgen : gen.toNat = g.gen.gOpen) (hph : g.gen.phase = 0) (hst : g.gen.st ≠ 0xA)
    (hlen : g.members ≤ (g.gen.reports.filter fun x => x.1 ≠ m).length + 1) :
    ∃ x : Region, (reportRx n src gen.toNat short.toNat fl.toNat s).region n = some x ∧ x.gen.phase = 1 ∧ x.gen.cGen = gen.toNat ∧
      bit x.gen.cFlags 0 = true ∧
      bit x.gen.cFlags 1 = (((g.gen.reports.filter fun y => y.1 ≠ m).any fun y => y.2.1 ≠ 0) || short ≠ 0) ∧
      bit x.gen.cFlags 2 = (((g.gen.reports.filter fun y => y.1 ≠ m).any fun y => bit y.2.2 0) || bit fl.toNat 0) ∧
      x.gen.doneWait = List.range g.members := by
  unfold reportRx
  rw [hg]
  dsimp -zeta only
  extract_lets x0
  rw [show s.memberIdx g src = some m from hm]
  dsimp -zeta only
  rw [if_neg (by simp [x0, h2, hco, hgen, hph, hst])]
  extract_lets x inc or_ cflags s1 s2
  rw [if_neg (by simp only [x, List.length_append]; exact Nat.not_lt.2 hlen)]
  obtain ⟨hb0, hb1, hb2⟩ := bit_flags (decide inc) (or_ 0) (or_ 1)
  have hs1 : s1.region n = some { g with gen := { x with phase := 1, cGen := gen.toNat, cFlags := cflags, fired := false,
                                                          doneWait := List.range g.members } } := region_setRegion_self _ _ _
  have hs2 : s2.region n = s1.region n := by
    unfold s2
    split
    · exact region_of_rgn (logEv_rgn _ _) n
    · rfl
  have hbits : bit cflags 0 = true ∧
      bit cflags 1 = (((g.gen.reports.filter fun y => y.1 ≠ m).any fun y => y.2.1 ≠ 0) || short ≠ 0) ∧
      bit cflags 2 = (((g.gen.reports.filter fun y => y.1 ≠ m).any fun y => bit y.2.2 0) || bit fl.toNat 0) := by
    refine ⟨hb0, hb1.trans ?_, hb2.trans ?_⟩
    · refine (sum_map_ne_zero _ _).trans ?_
      simp [x, x0, List.any_append, BitVec.toNat_eq]
    · simp [or_, x, x0, List.any_append]
  clear_value s1 s2 cflags or_
  rw [hs1] at hs2
  split
  · exact ⟨_, region_updGen_self ((region_of_rgn (offStore_rgn.journalLines _ n g [] _ s2) n).trans hs2) _, rfl, rfl, hbits.1, hbits.2.1, hbits.2.2, rfl⟩
  · exact ⟨_, region_updGen_self hs2 _, rfl, rfl, hbits.1, hbits.2.1, hbits.2.2, rfl⟩

/-- A close takes effect at a member whose generation is open. -/
theorem closeRx_region (hg : s.region n = some g) (h2 : g.kind = 2) (hgen : gen.toNat = g.gen.gOpen) (hst : g.gen.st = 8) :
    (closeRx n gen.toNat s).region n = some { g with gen := { g.gen with closed := true, st := 9, reported := false } } := by
  unfold closeRx
  rw [hg]
  dsimp only
  rw [if_pos ⟨h2, hgen.symm, hst⟩, journalState_region]
  exact region_updGen_self hg _

/-- What a member's region is once its generation is done. -/
def doneRegion (s : State) (g : Region) (gen nNext flags auto : Nat) : Region :=
  let x : GenSt := { g.gen with gDone := gen, doneValid := bit flags 0, incomplete := bit flags 1, sat := bit flags 2, nan := bit flags 3, nNext := nNext }
  { g with
    cgen := if s.coordinates g then g.cgen else (g.cgen + 1) % 2 ^ 32,
    gen := if auto = 1 then openGen (nextGen gen) nNext s.time.nclk x else { x with st := 0xA, reports := [], closeBy := 0 } }

theorem doneRx_region (hg : s.region n = some g) (h2 : g.kind = 2) (hgen : gen.toNat = g.gen.gOpen) (hst : g.gen.st ≠ 0xA) (nNext flags auto : Nat) :
    (doneRx n gen.toNat nNext flags auto s).region n = some (doneRegion s g gen.toNat nNext flags auto) := by
  unfold doneRx
  rw [hg]
  dsimp only
  rw [if_neg (by simp [h2, hgen, hst]), journalState_region]
  by_cases hco : s.coordinates g = true
  · rw [if_pos hco, region_updGen_self hg]
    simp only [doneRegion, if_pos hco]
  · rw [if_neg hco]
    unfold advanceGen
    rw [region_updGen_self (region_updRegion_self hg _)]
    unfold doneRegion
    rw [if_neg hco]
    unfold State.updRegion
    rw [hg]
    rfl

theorem matInvalRx_effect (hg : s.region n = some g) (hm : (s.memberOf g).isSome = true) {source : Nat} (hne : source ≠ n) (cgen : Nat) :
    (matInvalRx n source cgen s).region n = some { g with matEpoch := (g.matEpoch + 1) % 2 ^ 32 } ∧ (matInvalRx n source cgen s).mem = s.mem ∧
      ∀ x, s.region source = some x → (matInvalRx n source cgen s).region source = some { x with cgen := cgen } := by
  obtain ⟨m, hm⟩ := Option.isSome_iff_exists.1 hm
  unfold matInvalRx
  rw [hg]
  dsimp only
  rw [hm]
  dsimp only
  obtain ⟨q, hq⟩ : ∃ q, q = s.homeSlice g.tenant (g.b0 m) / 4 := ⟨_, rfl⟩
  rw [← hq]
  have hmem : ∀ (k : Nat) (f : Region → Region) (s : State), (s.updRegion k f).mem = s.mem := fun k f s => by
    unfold State.updRegion
    split <;> rfl
  have hcount : ∀ (s : State) k, (s.count .MAT_INVAL_CNT q).region k = s.region k := fun s k => region_of_rgn (offStore_rgn.count _ _ _ s) k
  unfold matBump
  refine ⟨?_, (hmem _ _ _).trans ((count_mem _ _ _ _).trans (hmem _ _ _)), fun x hx => ?_⟩
  · rw [region_updRegion_ne hne.symm, hcount]
    exact region_updRegion_self hg _
  · refine region_updRegion_self ?_ _
    rw [hcount, region_updRegion_ne hne, hx]

/-! ### The steps of a completion, and its trigger (R182, R189) -/

theorem genStep_waits (hg : s.region n = some g) :
    (g.gen.phase = 1 → (g.gen.jw.all fun p => s.pageOk p.1 p.2) = false → genStep n s = s) ∧
    (g.gen.phase = 2 → s.unacked 9 n none = true → genStep n s = s) ∧
    (g.gen.phase = 3 → g.gen.doneWait ≠ [] → genStep n s = s) := by
  unfold genStep
  rw [hg]
  refine ⟨fun hp hj => ?_, fun hp hu => ?_, fun hp hw => ?_⟩
  · simp only [hp, hj, Bool.false_eq_true, if_false]
  · simp only [hp, hu, if_true]
  · simp only [hp, hw, if_false]

/-- Once every member is done, the trigger is raised at every active device. -/
theorem genStep_fires (hg : s.region n = some g) (hp : g.gen.phase = 3) (hw : g.gen.doneWait = []) (ht : g.trigEn = true)
    (hl : (s.liveCtx (w16 g.trigCtx)).isSome = true) {d : W16} (hd : d ∈ s.activeIds) : ∃ x : W32,
      (genStep n s).Told d none ([5, 0, 0, 0] ++ toLe 4 x.toNat ++
        (toLe 2 g.trigCtx ++ [byte g.trigTag, byte g.gen.cFlags] ++ toLe 2 n ++ [0, 0] ++ toLe 4 g.gen.cGen)) := by
  have hstep : genStep n s =
      (journalState n (fireTrigger n g g.gen.cGen g.gen.cFlags (s.updGen n fun x => { x with phase := 0, fired := true }))).2 := by
    unfold genStep
    rw [hg]
    simp only [hp, hw, if_true]
  have hupd : s.updGen n (fun x => { x with phase := 0, fired := true }) =
      { s with rgn := (s.updGen n fun x => { x with phase := 0, fired := true }).rgn } := by
    unfold State.updGen State.updRegion
    rw [hg]
    rfl
  rw [hstep, hupd]
  unfold fireTrigger
  have hlive : ¬(({ s with rgn := (s.updGen n fun x => { x with phase := 0, fired := true }).rgn } : State).liveCtx (w16 g.trigCtx)).isNone = true :=
    fun h => Option.isSome_iff_ne_none.1 hl (Option.isNone_iff_eq_none.1 h)
  rw [if_neg (by simp [ht]), if_neg hlive]
  obtain ⟨x, hx⟩ := (foldl_coordSend_told 5 _ none n _ _).2 d hd
  exact ⟨x, Speaks.told (said_store.journalState n _) hx⟩

theorem doneResend_effect {d : W16} {x : CoordTx} (hx : (s.coord.sent.find? fun y => y.subop = 8 && y.region = n && y.dest = d) = some x) :
    (doneResend n d s).Told d none ([8, 0, 0, 0] ++ toLe 4 x.xid.toNat ++ x.body) ∧ (doneResend n d s).coord.sent = s.coord.sent ∧
      (doneResend n d s).rgn = s.rgn := by
  have hdest : x.dest = d := by
    have := List.find?_some hx
    simp only [Bool.and_eq_true, decide_eq_true_eq] at this
    exact this.2
  unfold doneResend
  rw [hx]
  dsimp only
  rw [hdest]
  obtain ⟨l, hl⟩ := coordOut_coord d none ([8, 0, 0, 0] ++ toLe 4 x.xid.toNat ++ x.body) s
  exact ⟨coordOut_told _ _ _ _, by rw [hl], offTalk_rgn.coordOut _ _ _ _⟩

end

end Sys2Proof.Machine
end

section
open Sys2Proof Sys2Proof.Machine

/-- Settles O17: reports are kept until the last, which begins the completion; its steps wait for what they need; closes, done messages and
invalidations take effect at a member and are acknowledged. -/
theorem generationsCompleteAcrossMembers : Obligations.GenerationsCompleteAcrossMembers := by
  intro s c r g gen hh hd hc ha hf hg
  have htake : ∀ k f, (coordPlain c k f s).rgn = (f s).rgn ∧ (coordPlain c k f s).mem = (f s).mem ∧ (coordPlain c k f s).Acked c k 0 :=
    fun k f => coordPlain_takes hd hc ha hf
  refine ⟨fun m short fl h2 hco hm hgen hph hst => ⟨fun hlen => ?_, fun hlen => ?_⟩, ?_, fun h2 hgen hst => ?_,
    fun nNext fl auto h2 hgen hst => ⟨fun hau => ?_, fun hau => ?_⟩, fun src cgen hm hne => ?_, fun d x hx => ?_⟩
  · obtain ⟨hrgn, -, hack⟩ := htake 6 (reportRx r.toNat c.src gen.toNat short.toNat fl.toNat)
    exact completes_of_pumped _ rfl hh ⟨(region_of_rgn hrgn _).trans (reportRx_early hg h2 hco hm hgen hph hst hlen), hack⟩
  · obtain ⟨hrgn, -, hack⟩ := htake 6 (reportRx r.toNat c.src gen.toNat short.toNat fl.toNat)
    obtain ⟨x, hx, hrest⟩ := reportRx_last (short := short) (fl := fl) hg h2 hco hm hgen hph hst hlen
    exact completes_of_pumped _ rfl hh ⟨⟨x, (region_of_rgn hrgn _).trans hx, hrest⟩, hack⟩
  · obtain ⟨h1, h2, h3⟩ := genStep_waits hg
    exact ⟨h1, h2, h3, fun hp hw ht hl d => genStep_fires hg hp hw ht hl⟩
  · obtain ⟨hrgn, -, hack⟩ := htake 7 (closeRx r.toNat gen.toNat)
    exact completes_of_pumped _ rfl hh ⟨(region_of_rgn hrgn _).trans (closeRx_region hg h2 hgen hst), hack⟩
  · obtain ⟨hrgn, -, hack⟩ := htake 8 (doneRx r.toNat gen.toNat nNext.toNat fl.toNat auto.toNat)
    subst hau
    exact completes_of_pumped _ rfl hh
      ⟨⟨_, (region_of_rgn hrgn _).trans (doneRx_region hg h2 hgen hst _ _ _), rfl, rfl, rfl, rfl, rfl, rfl, rfl, rfl, rfl, rfl⟩, hack⟩
  · obtain ⟨hrgn, -, hack⟩ := htake 8 (doneRx r.toNat gen.toNat nNext.toNat fl.toNat auto.toNat)
    have hau' : auto.toNat ≠ 1 := fun h => hau (BitVec.eq_of_toNat_eq h)
    refine completes_of_pumped _ rfl hh ⟨⟨_, (region_of_rgn hrgn _).trans (doneRx_region hg h2 hgen hst _ _ _), ?_⟩, hack⟩
    simp only [doneRegion, if_neg hau', and_self]
  · obtain ⟨hrgn, hmem, hack⟩ := htake 9 (matInvalRx r.toNat src.toNat cgen.toNat)
    obtain ⟨h1, h2, h3⟩ := matInvalRx_effect hg hm (fun h => hne (BitVec.eq_of_toNat_eq h)) cgen.toNat
    exact completes_of_pumped _ rfl hh
      ⟨(region_of_rgn hrgn _).trans h1, hack, hmem.trans h2, fun x hx => (region_of_rgn hrgn _).trans (h3 x hx)⟩
  · exact completes_of_pumped _ rfl hh (doneResend_effect hx)

end

section
/-! PROOFS. What requests, from their translation to their answer, may do to the rest of the state (R31, R53, R69, R146 to R188). -/

namespace Sys2Proof.Machine

variable {s : State}

/-- A relation that everything done for requests follows. -/
structure ServeDrift (R : Drift) : Prop extends StoreDrift R where
  anyPool : ∀ s x, R.Keeps { s with pool := x } s
  free : ∀ s x, R.Keeps { s with free := x } s
  rgn : ∀ s x, R.Keeps { s with rgn := x } s
  accs : ∀ s x y, R.Keeps { s with work := { s.work with accs := x, accSeq := y } } s
  comps : ∀ s x, R.Keeps { s with work := { s.work with comps := x } } s

/-- A part of the state stays as it is. -/
def keptPart {α : Type} (p : State → α) : Drift := ⟨fun s t => p t = p s, fun _ => rfl, fun _ _ _ h h' => h'.trans h⟩

theorem keptPart_store {α : Type} {p : State → α} (hp : OffStore p) : StoreDrift (keptPart p) where
  regs := hp.regs
  count := hp.count
  logEv := hp.logEv
  send := hp.send
  tier := hp.tier
  mem := hp.mem
  poison := hp.poison
  upsets := hp.upsets
  chans := hp.chans
  tags := hp.tags
  tagc := hp.tagc
  pool s x _ _ _ := hp.pool s x

section
variable {R : Drift} (hR : ServeDrift R)
include hR

theorem ServeDrift.setReg (r : Reg) (u : Nat) (v : W32) (s : State) : R.Keeps (s.setReg r u v) s := hR.regs s _

/-! ### Trackers, entries and accesses -/

theorem ServeDrift.updTrk (id : Nat) (f : Trk → Trk) (s : State) : R.Keeps (s.updTrk id f) s := hR.anyPool s _

theorem ServeDrift.waitTrk (id : Nat) (w : Wait) (s : State) : R.Keeps (s.waitTrk id w) s := hR.updTrk _ _ s

theorem ServeDrift.updDir (f : Sparse DirEnt → Sparse DirEnt) (s : State) : R.Keeps (s.updDir f) s := hR.anyPool s _

theorem ServeDrift.setEnt (line : Nat) (e : DirEnt) (s : State) : R.Keeps (s.setEnt line e) s := hR.updDir _ s

theorem ServeDrift.setSlot (t : TenantId) (sl st : Nat) (s : State) : R.Keeps (s.setSlot t sl st) s := hR.anyPool s _

theorem ServeDrift.updAcc (n : Nat) (f : Acc → Acc) (s : State) : R.Keeps (s.updAcc n f) s := hR.accs s _ _

theorem ServeDrift.dropAcc (n : Nat) (s : State) : R.Keeps (s.dropAcc n) s := hR.accs s _ _

theorem ServeDrift.accAnswer (n : Nat) (st : Byte) (k : Nat) (d : Bytes) (s : State) : R.Keeps (accAnswer n st k d s) s := hR.updAcc _ _ s

theorem ServeDrift.newAcc (ag : Agent) (op : Nat) (h : Option W16) (a len : Nat) (d : Bytes) (s : State) : R.Keeps (newAcc ag op h a len d s).2 s :=
  hR.accs s _ _

theorem ServeDrift.dirTouch (sl : Nat) (t : TenantId) (line : Nat) (s : State) : R.Keeps (dirTouch sl t line s) s := by
  unfold Machine.dirTouch
  split
  · rfl
  · exact hR.updDir _ s

theorem ServeDrift.homeEv (k : EvKind) (sl c : Nat) (st : Byte) (t dpa slot : Nat) (src h : W16) (s : State) :
    R.Keeps (homeEv k sl c st t dpa slot src h s) s := hR.logEv _ s

/-! ### Snoops -/

theorem ServeDrift.snoopExpired (id sl : Nat) (s : State) : R.Keeps (snoopExpired id sl s) s := by
  unfold Machine.snoopExpired
  split
  · rfl
  · next t _ =>
    extract_lets line own s1 s2 q s3 s4 s5
    have h1 : R.Keeps s1 s := by
      unfold s1
      split
      · exact hR.setEnt _ _ s
      · rfl
    have h3 : R.Keeps s3 s := (hR.count _ _ _ _).trans ((hR.updTrk _ _ s1).trans h1)
    clear_value s3
    have h5 : R.Keeps s5 s := (Drift.ite _ (hR.setReg _ _ _ s3) ((hR.setReg _ _ _ _).trans ((hR.setReg _ _ _ _).trans (hR.setReg _ _ _ s3)))).trans h3
    clear_value s5
    exact Drift.ite _ h5 ((hR.homeEv _ _ _ _ _ _ _ _ _ _).trans ((hR.setSlot _ _ _ s5).trans h5))

theorem ServeDrift.sendSnoop (id : Nat) (inv : Bool) (sl : Nat) (s : State) : R.Keeps (sendSnoop id inv sl s) s := by
  unfold Machine.sendSnoop
  split
  · rfl
  · split
    · exact hR.snoopExpired _ _ s
    · split
      · exact (hR.updTrk _ _ _).trans ((hR.count _ _ _ _).trans (hR.send _ s))
      · exact hR.snoopExpired _ _ s

theorem ServeDrift.sendSnoops (id : Nat) (inv : Bool) (l : List Nat) (s : State) : R.Keeps (sendSnoops id inv l s) s :=
  Drift.foldl (fun s x => hR.sendSnoop id inv x s) l s

/-! ### Translation -/

theorem ServeDrift.setTc (q : Nat) (l : List TcEnt) (s : State) : R.Keeps (s.setTc q l) s := by
  unfold State.setTc
  split
  · exact hR.anyPool s _
  · rfl

theorem ServeDrift.tcUse (q : Nat) (e : TcEnt) (s : State) : R.Keeps (tcUse q e s) s := hR.setTc _ _ s

theorem ServeDrift.tcDropLine (l : Nat) (s : State) : R.Keeps (tcDropLine l s) s := hR.anyPool s _

theorem ServeDrift.xlate (q : Nat) (h : W16) (c : Ctx) (op ca len : Nat) (nr fwd : Bool) (src : Option TenantId) (slot : Bool) (s : State) :
    R.Keeps (xlate q h c op ca len nr fwd src slot s).2 s := by
  unfold Machine.xlate
  split
  · rfl
  · split
    · rfl
    · split
      · rfl
      · simp only
        split
        · exact hR.tcUse _ _ s
        · split
          · exact (hR.tcUse _ _ _).trans (hR.count _ _ _ s)
          · exact hR.count _ _ _ s
          · exact hR.count _ _ _ s

theorem ServeDrift.tcInstall (q : Nat) (h : W16) (c : Ctx) (ca line : Nat) (b : Bytes) (s : State) : R.Keeps (tcInstall q h c ca line b s) s := by
  unfold Machine.tcInstall
  split
  · rfl
  · exact Drift.ite _ (hR.tcUse _ _ s) .rfl

theorem ServeDrift.xlatFault (q code : Nat) (h src : W16) (ca : Nat) (s : State) : R.Keeps (xlatFault q code h src ca s) s := by
  unfold Machine.xlatFault
  extract_lets s1 s2 s3 s4 t
  have h1 : R.Keeps s1 s := hR.count _ _ _ s
  clear_value s1
  have h4 : R.Keeps s4 s := (Drift.ite _ (Drift.ite _ (hR.setReg _ _ _ s1)
    ((hR.setReg _ _ _ _).trans ((hR.setReg _ _ _ _).trans ((hR.setReg _ _ _ _).trans (hR.setReg _ _ _ s1))))) .rfl).trans h1
  clear_value s4
  exact Drift.ite _ ((hR.homeEv _ _ _ _ _ _ _ _ _ _).trans h4) h4

/-! ### The way to the line home -/

theorem ServeDrift.refuseReq (who : Who) (r : ReqMsg) (q : Nat) (st : Byte) (k : Nat) (full : Bool) (s : State) : R.Keeps (refuseReq who r q st k full s) s := by
  unfold Machine.refuseReq
  split
  · exact hR.send _ s
  · exact hR.accAnswer _ _ _ _ s
  all_goals rfl

theorem ServeDrift.toHome (who : Who) (op : Nat) (r : ReqMsg) (q n : Nat) (g : Region) (m dpa pt : Nat) (slot : Option Nat) (s : State) :
    R.Keeps (toHome who op r q n g m dpa pt slot s) s :=
  Drift.ite _ ((hR.refuseReq _ _ _ _ _ _ _).trans (hR.free s _)) (Drift.ite _ ((hR.refuseReq _ _ _ _ _ _ _).trans (hR.count _ _ _ s))
    (Drift.ite _ (hR.refuseReq _ _ _ _ _ _ s) (Drift.ite _ (hR.refuseReq _ _ _ _ _ _ s) (hR.anyPool s _))))

theorem ServeDrift.accSpa (a : Acc) (s : State) : R.Keeps (accSpa a s) s := by
  unfold Machine.accSpa
  simp only
  split
  · exact hR.accAnswer _ _ _ _ s
  · split
    · exact hR.accAnswer _ _ _ _ s
    · split
      · exact hR.accAnswer _ _ _ _ s
      · split
        · exact hR.toHome _ _ _ _ _ _ _ _ _ _ s
        · exact (hR.send _ _).trans (hR.updAcc _ _ s)

theorem ServeDrift.request (who : Who) (op : Nat) (r : ReqMsg) (q : Nat) (src : Option TenantId) (slot : Option Nat) (s : State) :
    R.Keeps (request who op r q src slot s) s := by
  unfold Machine.request
  extract_lets isAcc ca len
  split
  · exact hR.refuseReq _ _ _ _ _ _ s
  · split
    · exact hR.refuseReq _ _ _ _ _ _ s
    · next c _ =>
      have hx := hR.xlate q r.handle c op ca len r.nr r.fwd src slot.isSome s
      generalize Machine.xlate q r.handle c op ca len r.nr r.fwd src slot.isSome s = x at hx ⊢
      obtain ⟨x, t⟩ := x
      cases x with
      | fail code st h => exact (hR.refuseReq _ _ _ _ _ _ _).trans ((hR.xlatFault _ _ _ _ _ _).trans hx)
      | miss line => exact (hR.accSpa _ _).trans ((hR.anyPool _ _).trans ((hR.newAcc _ _ _ _ _ _ t).trans hx))
      | ok n g m dpa pt =>
        refine Drift.ite _ ((hR.toHome _ _ _ _ _ _ _ _ _ _ t).trans hx) ?_
        have hc := (hR.count .XLAT_FWD_CNT q 1 t).trans hx
        cases who with
        | acc i => exact (hR.send _ _).trans ((hR.updAcc _ _ _).trans hc)
        | host e => exact (hR.send _ _).trans hc
        | wb e => exact (hR.send _ _).trans hc
        | victim e => exact (hR.send _ _).trans hc

theorem ServeDrift.startAcc (a : Acc) (s : State) : R.Keeps (startAcc a s) s := by
  unfold Machine.startAcc
  split
  · exact hR.accSpa _ s
  · split
    · exact hR.accAnswer _ _ _ _ s
    · exact hR.request _ _ _ _ _ _ s

end

end Sys2Proof.Machine
end

section
/-! PROOFS. What waits goes on: locks, ways, limits, answers to the device's own accesses, page-table readers, and a slot's sweep
(R54, R84, R154, R163 to R165, R208). -/

namespace Sys2Proof.Machine

variable {s : State}

/-! ### Ways and answers -/

theorem victimFree_pool {sl : SliceId} (hf : s.pool.fills.any (fun f => f.slice = sl.val && f.way = 8) = false) :
    victimFree sl s = wake .fill (fun t => t.slice = sl.val) (wake .way (fun t => t.slice = sl.val) s) := by
  have hnil : (s.pool.fills.filter fun f => f.slice = sl.val && f.way = 8) = [] :=
    List.filter_eq_nil_iff.2 fun f hm => by simpa using List.any_eq_false.1 hf f hm
  unfold victimFree
  rw [hnil]
  rfl

/-- No tracker that has been woken waits for what woke it. -/
theorem wait_ne_of_wake {w : Wait} (hw : w ≠ .ready) {p : Trk → Bool} {k : Trk} (hk : k ∈ (wake w p s).pool.trks) (ha : k.ans = none) (hp : p k = true) :
    k.wait ≠ w := by
  obtain ⟨t, -, rfl⟩ := List.mem_map.1 hk
  by_cases hc : (t.wait = w && t.ans.isNone && p t) = true
  · rw [if_pos hc]
    exact fun h => hw h.symm
  · rw [if_neg hc] at ha hp ⊢
    rintro rfl
    exact hc (by simp [ha, hp])

/-- A tracker that waits for nothing that a wake concerns keeps not waiting for it. -/
theorem wait_ne_wake {w w' : Wait} (hw : w' ≠ .ready) {p : Trk → Bool} {k : Trk} (hk : k ∈ (wake w p s).pool.trks)
    (h : ∀ t ∈ s.pool.trks, t.ans = k.ans → t.slice = k.slice → t.wait ≠ w') : k.wait ≠ w' := by
  obtain ⟨t, ht, rfl⟩ := List.mem_map.1 hk
  by_cases hc : (t.wait = w && t.ans.isNone && p t) = true
  · rw [if_pos hc]
    exact fun h => hw h.symm
  · rw [if_neg hc] at h ⊢
    exact h t ht rfl rfl

theorem accAnswer_accs {n : Nat} {st : Byte} {hint : Nat} {d : Bytes} {y : Acc} (hy : y ∈ (accAnswer n st hint d s).work.accs) (hn : y.n = n) :
    ∃ a ∈ s.work.accs, a.n = n ∧
      y = if st = stRETRY_BUSY ∧ !a.takesBusy then { a with st := 2, dueAt := s.time.nclk + nsec (hintWait hint), status := st }
          else { a with st := 3, status := st, res := d } := by
  obtain ⟨a, ha, rfl⟩ := List.mem_map.1 hy
  by_cases h : a.n = n
  · exact ⟨a, ha, h, by rw [if_pos h]⟩
  · rw [if_neg h] at hn
    exact absurd hn h

theorem startAcc_time (a : Acc) (s : State) : (startAcc a s).time = s.time := by
  have hp : OffStore State.time := offStore_of_fields (fun _ _ => rfl) (fun _ _ => rfl) (fun _ _ => rfl) (fun _ _ => rfl) (fun _ _ => rfl)
    (fun _ _ => rfl) (fun _ _ => rfl) (fun _ _ => rfl) (fun _ _ => rfl) (fun _ _ => rfl) (fun _ _ => rfl) (fun _ _ => rfl) (fun _ _ => rfl)
  have hR : ServeDrift (keptPart State.time) := { keptPart_store hp with
    anyPool := fun _ _ => rfl, free := fun _ _ => rfl, rgn := fun _ _ => rfl, accs := fun _ _ _ => rfl, comps := fun _ _ => rfl }
  exact hR.startAcc a s

/-! ### The sweep of a slot (R163) -/

/-- Entries of the directory only go; sweeps and slot states stay. -/
def dirShrinks : Drift where
  rel s t := t.pool.dir ⊆ s.pool.dir ∧ t.pool.slots = s.pool.slots ∧ t.pool.sweeps = s.pool.sweeps
  refl _ := ⟨List.Subset.refl _, rfl, rfl⟩
  trans _ _ _ h h' := ⟨List.Subset.trans h'.1 h.1, h'.2.1.trans h.2.1, h'.2.2.trans h.2.2⟩

theorem dirShrinks_of_pool {s t : State} (h : t.pool = s.pool) : dirShrinks.Keeps t s := by
  show t.pool.dir ⊆ s.pool.dir ∧ _
  rw [h]
  exact ⟨List.Subset.refl _, rfl, rfl⟩

theorem dirShrinks_store : StoreDrift dirShrinks where
  regs _ _ := dirShrinks_of_pool rfl
  count r u n s := dirShrinks_of_pool (count_keeps State.pool (fun _ _ => rfl) (fun _ _ => rfl) s r u n)
  logEv e s := dirShrinks_of_pool (logEv_pool s e)
  send m s := dirShrinks_of_pool (send_keeps State.pool (fun _ _ => rfl) (fun _ _ => rfl) (fun _ _ => rfl) (fun _ _ => rfl) s m)
  tier _ _ := dirShrinks_of_pool rfl
  mem _ _ := dirShrinks_of_pool rfl
  poison _ _ := dirShrinks_of_pool rfl
  upsets _ _ := dirShrinks_of_pool rfl
  chans _ _ := dirShrinks_of_pool rfl
  tags _ _ := dirShrinks_of_pool rfl
  tagc _ _ := dirShrinks_of_pool rfl
  pool _ _ hd hs hw := ⟨hd, hs, hw⟩

theorem mem_of_find {α : Type} {m : Sparse α} {k : Nat} {v : α} (h : m.find k = some v) : (k, v) ∈ m := by
  induction m with
  | nil => exact absurd h (by simp [Sparse.find])
  | cons x m ih =>
    obtain ⟨j, w⟩ := x
    rw [Sparse.find_cons] at h
    split at h
    · next hj =>
      cases h
      exact hj ▸ List.mem_cons_self
    · exact List.mem_cons_of_mem _ (ih h)

/-- What a table lists once a key has been set: the new entry, and old ones of other keys. -/
theorem mem_ins {α : Type} {m : Sparse α} {k : Nat} {v : α} {x : Nat × α} (h : x ∈ m.ins k v) : x = (k, v) ∨ x ∈ m ∧ x.1 ≠ k := by
  unfold Sparse.ins at h
  induction m with
  | nil => exact .inl (List.mem_singleton.1 h)
  | cons y m ih =>
    obtain ⟨j, w⟩ := y
    unfold Sparse.place at h
    split at h
    · next hj =>
      rcases List.mem_cons.1 h with rfl | h
      · exact .inr ⟨List.mem_cons_self, Nat.ne_of_lt hj⟩
      · exact (ih h).imp_right fun h => ⟨List.mem_cons_of_mem _ h.1, h.2⟩
    · have hrest : ∀ x ∈ m.filter (fun x => x.1 ≠ k), x ∈ (j, w) :: m ∧ x.1 ≠ k := fun x hx =>
        ⟨List.mem_cons_of_mem _ (List.mem_filter.1 hx).1, by simpa using (List.mem_filter.1 hx).2⟩
      rcases List.mem_cons.1 h with rfl | h
      · exact .inl rfl
      · split at h
        · exact .inr (hrest x h)
        · next hj =>
          rcases List.mem_cons.1 h with rfl | h
          · exact .inr ⟨List.mem_cons_self, hj⟩
          · exact .inr (hrest x h)

/-- A slot that has left an entry does not hold it. -/
theorem holds_leave (e : DirEnt) (x : Nat) : (e.leave x).holds x = false := by
  unfold DirEnt.leave
  split
  · simp [DirEnt.holds]
  · next h1 =>
    simp only
    split
    · next h2 =>
      unfold DirEnt.holds
      split_ifs <;> simp_all
    · next h2 =>
      unfold DirEnt.holds
      split
      · next h3 => simpa using fun h => h1 ⟨h3, h⟩
      · simp [h2]

/-- One entry's part of the sweep: what follows its slot's leave. -/
def sweepOwned (t : TenantId) (e : Nat × DirEnt) (s : State) : State :=
  if e.2.st = 2 then
    match s.region e.2.region with
    | some g =>
      let sl := s.homeSlice t (e.1 / 128)
      let (rs, s) := ownerMark e.2.region g e.1 false s
      match ensure sl (e.1 / 128) e.2.region g s with
      | (.ok, s) => (journalLines sl e.2.region g [e.1] rs (storeMarker sl t e.1 s)).2
      | (_, s) => poisonFlash e.1 s
    | none => s
  else s

theorem StoreDrift.sweepOwned {R : Drift} (hR : StoreDrift R) (t : TenantId) (e : Nat × DirEnt) (s : State) : R.Keeps (sweepOwned t e s) s := by
  unfold Machine.sweepOwned
  refine Drift.ite _ ?_ .rfl
  split
  · next g _ =>
    extract_lets sl
    have h2 := hR.ownerMark e.2.region g e.1 false s
    generalize Machine.ownerMark e.2.region g e.1 false s = x at h2 ⊢
    obtain ⟨rs, s2⟩ := x
    have h3 := hR.ensure sl (e.1 / 128) e.2.region g s2
    simp only
    generalize Machine.ensure sl (e.1 / 128) e.2.region g s2 = x at h3 ⊢
    obtain ⟨r, s3⟩ := x
    cases r with
    | ok => exact (hR.journalLines _ _ _ _ _ _).trans ((hR.storeMarker _ _ _ s3).trans (h3.trans h2))
    | wait w => exact (hR.poisonFlash _ s3).trans (h3.trans h2)
    | refuse st k => exact (hR.poisonFlash _ s3).trans (h3.trans h2)
  · rfl

theorem sweepSlot_eq (t : TenantId) (slot : Nat) (s : State) : sweepSlot t slot s = s.pool.dir.foldl (fun s e =>
    if e.2.tenant ≠ t ∨ !e.2.holds slot then s else sweepOwned t e (s.setEnt e.1 (e.2.leave slot))) s := rfl

/-- After the sweep no entry of the tenant holds the slot. -/
theorem sweep_clears (t : TenantId) (x : Nat) (l : List (Nat × DirEnt)) (s : State)
    (hs : ∀ e ∈ s.pool.dir, e.2.tenant = t → e.2.holds x = true → e ∈ l) :
    let u := l.foldl (fun s e => if e.2.tenant ≠ t ∨ !e.2.holds x then s else sweepOwned t e (s.setEnt e.1 (e.2.leave x))) s
    (∀ e ∈ u.pool.dir, e.2.tenant = t → e.2.holds x = false) ∧ u.pool.slots = s.pool.slots ∧ u.pool.sweeps = s.pool.sweeps := by
  induction l generalizing s with
  | nil => exact ⟨fun e he ht => Bool.eq_false_iff.2 fun hh => absurd (hs e he ht hh) List.not_mem_nil, rfl, rfl⟩
  | cons d l ih =>
    rw [List.foldl_cons]
    split
    · next hd =>
      refine ih s fun e he ht hh => ?_
      rcases List.mem_cons.1 (hs e he ht hh) with rfl | h
      · simp [ht, hh] at hd
      · exact h
    · obtain ⟨hdir, hslots, hsweeps⟩ := dirShrinks_store.sweepOwned t d (s.setEnt d.1 (d.2.leave x))
      obtain ⟨h1, h2, h3⟩ := ih (sweepOwned t d (s.setEnt d.1 (d.2.leave x))) fun e he ht hh => by
        rcases mem_ins (hdir he) with rfl | ⟨h, hne⟩
        · rw [holds_leave] at hh
          exact absurd hh (by simp)
        · rcases List.mem_cons.1 (hs e h ht hh) with rfl | h
          · exact absurd rfl hne
          · exact h
      exact ⟨h1, h2.trans hslots, h3.trans hsweeps⟩

theorem rejoinStart_effect {h : CmdHdr} {t : TenantId} {x : Nat} (hst : s.slotSt t x = 1) :
    (rejoinStart h t x s).slotSt t x = 2 ∧ (∃ w ∈ (rejoinStart h t x s).pool.sweeps, w.tenant = t ∧ w.slot = x ∧ w.reply = some h) ∧
      ∀ (l : Nat) (y : DirEnt), (rejoinStart h t x s).pool.dir.find l = some y → y.tenant = t → y.holds x = false := by
  unfold rejoinStart
  rw [if_neg (by simp [hst])]
  extract_lets q p1 s1
  obtain ⟨h1, h2, h3⟩ := sweep_clears t x (s1.setSlot t x 2).pool.dir (s1.setSlot t x 2) fun e he _ _ => he
  rw [← sweepSlot_eq] at h1 h2 h3
  refine ⟨?_, ?_, fun l y hl ht => h1 (l, y) (mem_of_find hl) ht⟩
  · unfold State.slotSt
    rw [h2]
    exact Sparse.get_put_self _ _ _ _
  · rw [h3]
    exact ⟨⟨t, x, some h, q⟩, List.mem_append_right _ List.mem_cons_self, rfl, rfl, rfl⟩

theorem slotRejoinCmd_of_ta {h : CmdHdr} {t : TenantId} {x : W16} (hc : s.classOf h.iss = .ta t) (hq : ∀ q : Quarter, h.iss ≠ .slotCmd q)
    (hx : x.toNat ≤ 511) : slotRejoinCmd h x s = rejoinStart h t x.toNat s := by
  have hrun : slotRejoinCmd h x s = slotRejoinRun h x s := by
    unfold slotRejoinCmd
    split
    · next q hi => exact absurd hi (hq q)
    all_goals rfl
  rw [hrun]
  unfold slotRejoinRun
  split
  · next q hi => exact absurd hi (hq q)
  all_goals
    extract_lets go
    rw [hc]
    exact if_neg (Nat.not_lt.2 hx)

end Sys2Proof.Machine
end

section
open Sys2Proof Sys2Proof.Machine

/-- Settles O15: what waits for a lock, a way, a limit, an answer, readers or a sweep goes on when that comes. -/
theorem whatWaitsGoesOn : Obligations.WhatWaitsGoesOn := by
  intro s hh
  refine ⟨fun l k hl hk => ?_, fun l hl => ?_, fun sl hf => ?_, fun sl k hv hk => ?_, fun a src tag st b d ha => ⟨fun hst => ?_, fun hst htb huniq => ?_⟩,
    fun a ha => ?_, fun k g hk hw hg => ⟨fun hany => ?_, fun hany => ?_⟩, fun h t x hc hq hx => ⟨fun hst => ?_, fun hst => ?_⟩, fun h t i q hw => ?_⟩
  · refine completes_of_pumped (lockGranted l) rfl hh ?_
    unfold lockGranted
    rw [if_neg (by simp [hl]), hk]
  · refine completes_of_pumped (lockGranted l) rfl hh ?_
    unfold lockGranted
    rw [if_pos hl]
  · refine completes_of_pumped (victimFree sl) rfl hh ?_
    rw [victimFree_pool hf]
    refine ⟨rfl, fun k hk hsl ha => ⟨?_, ?_⟩⟩
    · refine wait_ne_wake (by simp) hk fun t ht hta hts => ?_
      exact wait_ne_of_wake (by simp) ht (hta.trans ha) (by simpa [hts] using hsl)
    · exact wait_ne_of_wake (by simp) hk ha (by simpa using hsl)
  · refine completes_of_pumped (limitRelease sl) rfl hh ?_
    unfold limitRelease
    rw [if_pos hv, hk]
  · refine completes_of_pumped (poolAnswerRun src tag st b d) rfl hh ?_
    unfold poolAnswerRun
    rw [ha]
    refine ⟨fun y hy hn => ?_, rfl⟩
    obtain ⟨z, -, -, rfl⟩ := accAnswer_accs hy hn
    rw [if_neg fun h => hst h.1]
    exact ⟨rfl, rfl, rfl⟩
  · refine completes_of_pumped (poolAnswerRun src tag st b d) rfl hh ?_
    unfold poolAnswerRun
    rw [ha]
    refine ⟨fun y hy hn => ?_, rfl⟩
    obtain ⟨z, hz, hzn, rfl⟩ := accAnswer_accs hy hn
    rw [huniq z hz hzn, if_pos ⟨hst, by rw [htb]; rfl⟩]
    exact ⟨rfl, rfl⟩
  · refine completes_of_pumped (dmaRetry a.n) rfl hh ?_
    unfold dmaRetry
    rw [ha]
    exact ⟨(congrArg TimeSt.nclk (startAcc_time _ _)).symm ▸ le_advanceTo _ _, rfl⟩
  · refine completes_of_pumped (ptabAck k.id) rfl hh ?_
    unfold ptabAck
    rw [hk]
    simp only [hw, ne_eq, not_true_eq_false, if_false, hg, hany, Bool.false_eq_true]
  · refine completes_of_pumped (ptabAck k.id) rfl hh ?_
    unfold ptabAck
    rw [hk]
    simp only [hw, ne_eq, not_true_eq_false, if_false, hg, hany, if_true]
  · refine completes_of_pumped (slotRejoinCmd h x) rfl hh ?_
    rw [slotRejoinCmd_of_ta hc hq hx]
    exact rejoinStart_effect hst
  · refine completes_of_pumped (slotRejoinCmd h x) rfl hh ?_
    rw [slotRejoinCmd_of_ta hc hq hx]
    unfold rejoinStart
    rw [if_pos hst]
    exact ⟨reply_pool _ _ _ _ _ _ _, replyConflict_replied _ _ _ _ (by decide)⟩
  · refine completes_of_pumped (slotRejoinDoneRun t i.toNat) rfl hh ?_
    obtain ⟨v, hv⟩ : ∃ v : State, v = { s with pool := { s.pool with sweeps := s.pool.sweeps.filter fun x => !(x.tenant = t && x.slot = i.toNat) } } := ⟨_, rfl⟩
    have hrun : slotRejoinDoneRun t i.toNat s = replyOk h 0x301 [] (v.setSlot t i.toNat 0) := by
      rw [hv]
      unfold slotRejoinDoneRun
      rw [hw]
    have hpool : (replyOk h 0x301 [] (v.setSlot t i.toNat 0)).pool = (v.setSlot t i.toNat 0).pool := reply_pool _ _ _ _ _ _ _
    rw [hrun]
    refine ⟨?_, replyOk_replied _ h _ _, (reply_mem _ _ _ _ _ _ _).trans (hv ▸ rfl), fun w hm => ?_⟩
    · unfold State.slotSt
      rw [hpool]
      exact Sparse.get_put_self _ _ _ _
    · rw [hpool, hv] at hm
      have hne := (List.mem_filter.1 hm).2
      rintro ⟨ht, hs⟩
      simp [ht, hs] at hne

end

section
/-! PROOFS. What holders answer: snoops, flushes, evictions, their timers, and readers of page tables (R54, R55, R155 to R167). -/

namespace Sys2Proof.Machine

variable {s : State}

/-! ### A snoop that closes -/

theorem openSnoop_some {tag : W16} {t : TenantId} {x : Nat} {k : Trk} {w : Snp} (h : s.openSnoop tag t x = some (k, w)) :
    s.trk tag.toNat = some k ∧ k.tenant = t ∧ k.snoops.find? (fun z => z.slot = x) = some w := by
  unfold State.openSnoop at h
  split at h
  · next k' hk =>
    split at h
    · next ht =>
      obtain ⟨w', hw, hp⟩ := Option.map_eq_some_iff.1 h
      cases hp
      exact ⟨hk, ht, hw⟩
    · exact absurd h (by simp)
  · exact absurd h (by simp)

theorem trk_id {i : Nat} {k : Trk} (h : s.trk i = some k) : k.id = i := by simpa using List.find?_some h

/-- A tracker from which a slot's snoop has gone; it runs again once none is left. -/
def Trk.closed (z : Trk) (x : Nat) : Trk :=
  { z with snoops := z.snoops.filter fun y => y.slot ≠ x, wait := if (z.snoops.filter fun y => y.slot ≠ x) = [] then .ready else .snoop }

/-- The tracker of a closed snoop. -/
theorem closeSnoop_trk {i x : Nat} {j : Trk} (hj : j ∈ (closeSnoop i x s).pool.trks) (hi : j.id = i) :
    ∃ z ∈ s.pool.trks, z.id = i ∧ (z.wait = .snoop → z.ans = none → j = z.closed x) := by
  obtain ⟨y, hy, hjy⟩ := List.mem_map.1 hj
  obtain ⟨z, hz, hyz⟩ := List.mem_map.1 hy
  have hid : j.id = z.id := by
    rw [← hjy, ← hyz]
    split_ifs <;> rfl
  refine ⟨z, hz, hid ▸ hi, fun hw ha => ?_⟩
  rw [if_pos (hid ▸ hi)] at hyz
  have hyw : y.wait = .snoop := hyz ▸ hw
  have hya : y.ans = none := hyz ▸ ha
  have hyi : y.id = i := hyz ▸ hid ▸ hi
  have hys : y.snoops.isEmpty = decide ((z.snoops.filter fun y => y.slot ≠ x) = []) := by
    rw [← hyz, Bool.eq_iff_iff, List.isEmpty_iff, decide_eq_true_iff]
  unfold Trk.closed
  by_cases hn : (z.snoops.filter fun y => y.slot ≠ x) = []
  · rw [if_pos (by simp only [hyw, hya, hyi, hys, hn, decide_true, Option.isNone_none, Bool.and_self])] at hjy
    rw [if_pos hn, ← hjy, ← hyz]
  · rw [if_neg (by simp only [hys, hn, decide_false, Bool.and_false, Bool.false_eq_true, not_false_iff])] at hjy
    rw [if_neg hn, ← hjy, ← hyz, ← hw]

theorem closed_wait (z : Trk) (x : Nat) : ((z.closed x).snoops = [] → (z.closed x).wait = .ready) ∧ ((z.closed x).snoops ≠ [] → (z.closed x).wait = .snoop) :=
  ⟨fun h => if_pos h, fun h => if_neg h⟩

theorem leaveLine_find {l x : Nat} {keep : Bool} {y : DirEnt} (h : s.pool.dir.find l = some y) : (leaveLine l x keep s).pool.dir.find l =
    some (if keep then (if y.st = 2 ∧ y.owner = x then { y with st := 1, sharers := [x] } else y) else y.leave x) := by
  unfold leaveLine
  rw [h]
  exact Sparse.find_ins_self _ _ _

theorem leaveLine_rest (l x : Nat) (keep : Bool) (s : State) : (leaveLine l x keep s).mem = s.mem ∧ (leaveLine l x keep s).pool.trks = s.pool.trks := by
  unfold leaveLine
  split <;> exact ⟨rfl, rfl⟩

theorem fromHost_slot {m : HostMsg} {t : TenantId} {x : Nat} (he : s.edgeOk m.link m.src = true) (hs : s.slotOfSrc m.src = some (t, x))
    (f : TenantId → Nat → State → State) : fromHost m f s = f t x s := by
  unfold fromHost
  rw [if_neg (by simp [he]), hs]

/-! ### Answers to snoops -/

section
variable {h : HostMsg} {t : TenantId} {x : Nat} (hh : s.su.held = false) (he : s.edgeOk h.link h.src = true) (hs : s.slotOfSrc h.src = some (t, x))
include he hs

theorem invAckRun_eq {k : Trk} {w : Snp} (ho : s.openSnoop h.tag t x = some (k, w)) : invAckRun h s =
    if h.wbPending ∧ !w.gotWb then updSnp k.id x (fun z => { z with ackWb := true }) s else closeSnoop k.id x (leaveLine (k.dpa / 128) x false s) := by
  unfold invAckRun
  rw [fromHost_slot he hs]
  simp only [ho]

theorem shrAckRun_eq {k : Trk} {w : Snp} (ho : s.openSnoop h.tag t x = some (k, w)) :
    shrAckRun h s = closeSnoop k.id x (leaveLine (k.dpa / 128) x true s) := by
  unfold shrAckRun
  rw [fromHost_slot he hs]
  simp only [ho]

theorem datSnpRun_eq {k : Trk} {w : Snp} (ho : s.openSnoop h.tag t x = some (k, w)) : datSnpRun h s =
    closeSnoop k.id x (leaveLine (k.dpa / 128) x (!w.inv) (s.updTrk k.id fun t => { t with data := some (padTo 128 h.payload) })) := by
  unfold datSnpRun
  rw [fromHost_slot he hs]
  simp only [ho]

theorem late_eq (ho : s.openSnoop h.tag t x = none) : invAckRun h s = s.count .LATE_RSP_CNT (h.tag.toNat / 4096 % 4) ∧
    shrAckRun h s = s.count .LATE_RSP_CNT (h.tag.toNat / 4096 % 4) ∧ datSnpRun h s = s.count .LATE_RSP_CNT (h.tag.toNat / 4096 % 4) := by
  unfold invAckRun shrAckRun datSnpRun
  rw [fromHost_slot he hs, fromHost_slot he hs, fromHost_slot he hs]
  simp only [ho]
  exact ⟨rfl, rfl, rfl⟩

variable {k : Trk} {w : Snp} {y : DirEnt} (ho : s.openSnoop h.tag t x = some (k, w)) (hy : s.pool.dir.find (k.dpa / 128) = some y)
  (hw : k.wait = .snoop) (ha : k.ans = none) (hu : ∀ j ∈ s.pool.trks, j.id = k.id → j = k)

include hh ho hy hw ha hu

theorem invAck_completes (hwb : h.wbPending = false) : Completes (.invAck h) s fun u =>
    u.pool.dir.find (k.dpa / 128) = some (y.leave x) ∧ u.mem = s.mem ∧ ∀ j ∈ u.pool.trks, j.id = k.id →
      j.snoops = (k.snoops.filter fun z => z.slot ≠ x) ∧ (j.snoops = [] → j.wait = .ready) ∧ (j.snoops ≠ [] → j.wait = .snoop) := by
  refine completes_of_pumped (invAckRun h) rfl hh ?_
  rw [invAckRun_eq he hs ho, if_neg (by simp [hwb])]
  obtain ⟨hmem, htrks⟩ := leaveLine_rest (k.dpa / 128) x false s
  refine ⟨leaveLine_find hy, hmem, fun j hj hi => ?_⟩
  obtain ⟨z, hz, hzi, hcl⟩ := closeSnoop_trk hj hi
  obtain rfl := hu z (htrks ▸ hz) hzi
  rw [hcl hw ha]
  exact ⟨rfl, closed_wait z x⟩

omit hy in
theorem invAck_pending_completes (hwb : h.wbPending = true) (hgot : w.gotWb = false) : Completes (.invAck h) s fun u =>
    u.pool.dir = s.pool.dir ∧ u.mem = s.mem ∧ ∀ j ∈ u.pool.trks, j.id = k.id → j.wait = .snoop ∧ ∃ z ∈ j.snoops, z.slot = x ∧ z.ackWb = true := by
  refine completes_of_pumped (invAckRun h) rfl hh ?_
  rw [invAckRun_eq he hs ho, if_pos (by simp [hwb, hgot])]
  refine ⟨rfl, rfl, fun j hj hi => ?_⟩
  obtain ⟨z, hz, rfl⟩ := List.mem_map.1 hj
  by_cases hzi : z.id = k.id
  · obtain rfl := hu z hz hzi
    rw [if_pos rfl]
    have hf := (openSnoop_some ho).2.2
    have hslot : w.slot = x := by simpa using List.find?_some hf
    exact ⟨hw, _, List.mem_map.2 ⟨w, List.mem_of_find?_eq_some hf, rfl⟩, by rw [if_pos hslot]; exact ⟨hslot, rfl⟩⟩
  · rw [if_neg hzi] at hi
    exact absurd hi hzi

omit hw ha hu in
theorem shrAck_completes : Completes (.shrAck h) s fun u =>
    u.pool.dir.find (k.dpa / 128) = some (if y.st = 2 ∧ y.owner = x then { y with st := 1, sharers := [x] } else y) ∧ u.mem = s.mem := by
  refine completes_of_pumped (shrAckRun h) rfl hh ?_
  rw [shrAckRun_eq he hs ho]
  exact ⟨leaveLine_find hy, (leaveLine_rest _ _ _ _).1⟩

theorem datSnp_completes : Completes (.datSnp h) s fun u =>
    (u.pool.dir.find (k.dpa / 128) = some (if w.inv then y.leave x else if y.st = 2 ∧ y.owner = x then { y with st := 1, sharers := [x] } else y)) ∧
    ∀ j ∈ u.pool.trks, j.id = k.id → j.data = some (padTo 128 h.payload) ∧ (j.snoops = [] → j.wait = .ready) := by
  refine completes_of_pumped (datSnpRun h) rfl hh ?_
  rw [datSnpRun_eq he hs ho]
  refine ⟨?_, fun j hj hi => ?_⟩
  · refine (leaveLine_find (s := s.updTrk k.id fun t => { t with data := some (padTo 128 h.payload) }) hy).trans ?_
    cases w.inv <;> rfl
  · obtain ⟨z, hz, hzi, hcl⟩ := closeSnoop_trk hj hi
    rw [(leaveLine_rest _ _ _ _).2] at hz
    obtain ⟨z', hz', rfl⟩ := List.mem_map.1 hz
    by_cases h' : z'.id = k.id
    · obtain rfl := hu z' hz' h'
      rw [if_pos rfl] at hcl
      rw [hcl hw ha]
      exact ⟨rfl, (closed_wait _ x).1⟩
    · rw [if_neg h'] at hzi
      exact absurd hzi h'

end

/-! ### A snoop that expires (R160) -/

/-- What an expiry does to the pool. -/
theorem snoopExpired_pool {i x : Nat} {k : Trk} {y : DirEnt} (hk : s.trk i = some k) (hy : s.pool.dir.find (k.dpa / 128) = some y) :
    (snoopExpired i x s).pool.dir.find (k.dpa / 128) = some (y.leave x) ∧ (snoopExpired i x s).slotSt k.tenant x = 1 ∧
      (snoopExpired i x s).pool.trks = s.pool.trks.map fun t =>
        if t.id = i then { t with poisoned := t.poisoned || (decide (y.st = 2) && decide (y.owner = x)), snoops := t.snoops.filter fun z => z.slot ≠ x } else t := by
  obtain ⟨u, hu⟩ : ∃ u, u = snoopExpired i x s := ⟨_, rfl⟩
  rw [← hu]
  unfold snoopExpired at hu
  rw [hk] at hu
  dsimp -zeta only at hu
  extract_lets line own s1 s2 q s3 s4 s5 at hu
  have hown : own = (decide (y.st = 2) && decide (y.owner = x)) := by
    unfold own
    rw [hy]
  have hs1 : s1 = s.setEnt line (y.leave x) := by
    unfold s1
    rw [hy]
  have hs5 : s5.pool = s2.pool := by
    have h3 : s3.pool = s2.pool := count_pool _ _ _ _
    unfold s5
    split
    · exact h3
    · exact h3
  have hdir : s2.pool.dir.find line = some (y.leave x) := by
    unfold s2
    rw [hs1]
    exact Sparse.find_ins_self _ _ _
  have htrks : s2.pool.trks = s.pool.trks.map fun t =>
      if t.id = i then { t with poisoned := t.poisoned || own, snoops := t.snoops.filter fun z => z.slot ≠ x } else t := by
    unfold s2
    rw [hs1]
    rfl
  rw [hown] at htrks
  clear_value s5 s2
  rw [hu]
  split
  · next hst => exact ⟨by rw [hs5]; exact hdir, hst, by rw [hs5]; exact htrks⟩
  · have hpool : (homeEv .timeout k.slice 0 0 k.tenant.val k.dpa x 0 0 (s5.setSlot k.tenant x 1)).pool = (s5.setSlot k.tenant x 1).pool := logEv_pool _ _
    unfold State.slotSt
    rw [hpool]
    exact ⟨by rw [show (s5.setSlot k.tenant x 1).pool.dir = s5.pool.dir from rfl, hs5]; exact hdir, Sparse.get_put_self _ _ _ _,
      by rw [show (s5.setSlot k.tenant x 1).pool.trks = s5.pool.trks from rfl, hs5]; exact htrks⟩

theorem offStore_time : OffStore State.time := offStore_of_fields (fun _ _ => rfl) (fun _ _ => rfl) (fun _ _ => rfl) (fun _ _ => rfl) (fun _ _ => rfl)
  (fun _ _ => rfl) (fun _ _ => rfl) (fun _ _ => rfl) (fun _ _ => rfl) (fun _ _ => rfl) (fun _ _ => rfl) (fun _ _ => rfl) (fun _ _ => rfl)

theorem snoopTimeout_completes (hh : s.su.held = false) {k : Trk} {w : Snp} {y : DirEnt} {i : BitVec 9} (hk : s.trk k.id = some k)
    (hf : (k.snoops.find? fun z => z.slot = i.toNat) = some w) (hy : s.pool.dir.find (k.dpa / 128) = some y)
    (hw : k.wait = .snoop) (ha : k.ans = none) (hu : ∀ j ∈ s.pool.trks, j.id = k.id → j = k) : Completes (.snoopTimeout k.id i) s fun u =>
      w.at_ ≤ u.time.nclk ∧ u.slotSt k.tenant i.toNat = 1 ∧ u.pool.dir.find (k.dpa / 128) = some (y.leave i.toNat) ∧
      ∀ j ∈ u.pool.trks, j.id = k.id → j.poisoned = (k.poisoned || (decide (y.st = 2) && decide (y.owner = i.toNat))) ∧ (j.snoops = [] → j.wait = .ready) := by
  refine completes_of_pumped (snoopTimeoutRun k.id i.toNat) rfl hh ?_
  unfold snoopTimeoutRun
  rw [hk]
  dsimp only
  rw [hf]
  dsimp only
  have hadv : (advanceTo w.at_ s).pool = s.pool := advanceTo_pool _ _
  have hle : w.at_ ≤ (advanceTo w.at_ s).time.nclk := le_advanceTo _ _
  generalize advanceTo w.at_ s = v at hadv hle ⊢
  have hkv : v.trk k.id = some k := by
    unfold State.trk
    rw [hadv]
    exact hk
  obtain ⟨hdir, hslot, htrks⟩ := snoopExpired_pool (x := i.toNat) hkv (y := y) (by rw [hadv]; exact hy)
  have htime : (snoopExpired k.id i.toNat v).time = v.time := offStore_time.snoopExpired _ _ v
  refine ⟨?_, hslot, hdir, fun j hj hi => ?_⟩
  · rw [show (closeSnoop k.id i.toNat (snoopExpired k.id i.toNat v)).time = v.time from htime]
    exact hle
  · obtain ⟨z, hz, hzi, hcl⟩ := closeSnoop_trk hj hi
    rw [htrks, hadv] at hz
    obtain ⟨z', hz', rfl⟩ := List.mem_map.1 hz
    by_cases h' : z'.id = k.id
    · obtain rfl := hu z' hz' h'
      rw [if_pos rfl] at hcl
      rw [hcl hw ha]
      exact ⟨rfl, (closed_wait _ _).1⟩
    · rw [if_neg h'] at hzi
      exact absurd hzi h'

/-! ### Evictions (R155, R162) -/

section
variable {h : HostMsg} {t : TenantId} {x n m dpa : Nat} {g : Region} (hh : s.su.held = false) (he : s.edgeOk h.link h.src = true)
  (hs : s.slotOfSrc h.src = some (t, x)) (hr : s.regionOfSpa h.addr.toNat = some (n, g)) (hd : spaToDpa g h.addr.toNat = (m, dpa)) (h1 : g.kind = 1)
  (ht : g.tenant = t) (hme : s.isMe (g.memberId m) = true)
include he hs hr hd

/-- A WB of a slot that is UNRESPONSIVE is a stray. -/
theorem wbRun_stray (hst : s.slotSt t x = 1) (d : Bool) : wbRun h d s = strayWb h d (s.homeSlice g.tenant (dpa / 16384) / 4) s := by
  unfold wbRun
  rw [fromHost_slot he hs]
  simp only [hr, hd]
  exact if_pos (.inr (.inr (.inr hst)))

include h1 ht hme

/-- A WB of a slot that the entry records, and that no snoop asks, takes its turn on the line. -/
theorem wbRun_request (hno : (s.pool.trks.any fun k => k.dpa / 128 = dpa / 128 && k.tenant = t && k.snoops.any fun z => z.slot = x) = false)
    {y : DirEnt} (hst : s.slotSt t x ≠ 1) (hy : s.pool.dir.find (dpa / 128) = some y) (hx : y.holds x = true) (d : Bool) :
    wbRun h d s = wbRequest h d t x n dpa (s.homeSlice g.tenant (dpa / 16384)) s := by
  have hnone : (s.pool.trks.find? fun k => k.dpa / 128 = dpa / 128 && k.tenant = t && k.snoops.any fun z => z.slot = x) = none := by
    rw [List.find?_eq_none]
    intro k hk
    exact List.any_eq_false.1 hno k hk
  unfold wbRun
  rw [fromHost_slot he hs]
  simp only [hr, hd]
  rw [if_neg (by simp [h1, ht, hme, hst]), hnone]
  exact if_pos (.inl (by rw [hy]; exact hx))

end

theorem strayWb_effect (h : HostMsg) (d : Bool) (q : Nat) (s : State) :
    (strayWb h d q s).Sent { cls := .rsp, op := 3, dst := h.src, src := s.myId, tag := h.tag, status := if d then stPOISON else stOK } ∧
      (strayWb h d q s).mem = s.mem ∧ (strayWb h d q s).pool = s.pool :=
  ⟨send_sent _ _, (send_mem _ _).trans (count_mem _ _ _ _), (send_pool _ _).trans (count_pool _ _ _ _)⟩

theorem wbRequest_effect (h : HostMsg) (d : Bool) (t : TenantId) (x n dpa sl : Nat) (s : State) :
    (wbRequest h d t x n dpa sl s).mem = s.mem ∧ ∃ k : Trk, (wbRequest h d t x n dpa sl s).pool.trks = s.pool.trks ++ [k] ∧
      k.op = (if d then 0x40 else 0x41) ∧ k.dpa / 128 = dpa / 128 ∧ k.slot = some x ∧ k.wait = .ready ∧ k.r.payload = padTo 128 h.payload :=
  ⟨rfl, _, rfl, rfl, Nat.mul_div_cancel _ (by decide), rfl, rfl, rfl⟩

/-! ### Flushes (R167) -/

/-- The one flush's only slot leaves: no flush is left, and what waited for it runs again. -/
theorem flushLeave_last {f : Flush} (hf : s.pool.flushes = [f]) {sl x : Nat} (hsl : f.slice = sl) (hx : f.slots = [x]) :
    (flushLeave sl x s).pool.flushes = [] ∧ (flushLeave sl x s).mem = s.mem ∧ (flushLeave sl x s).pool.slots = s.pool.slots ∧
      (flushLeave sl x s).time = s.time ∧ ∀ k ∈ (flushLeave sl x s).pool.trks, k.slice = sl → k.ans = none → k.wait ≠ .flush := by
  have hfl : ((s.pool.flushes.map fun f => if f.slice = sl then { f with slots := f.slots.filter (· ≠ x) } else f).filter fun f => f.slots ≠ []) = [] := by
    simp [hf, hsl, hx]
  have hrun : flushLeave sl x s = wake .flush (fun t => t.slice = sl) { s with pool := { s.pool with flushes := [] } } := by
    unfold flushLeave
    rw [hfl]
    rfl
  rw [hrun]
  exact ⟨rfl, rfl, rfl, rfl, fun k hk hks ha => wait_ne_of_wake (by simp) hk ha (by simpa using hks)⟩

theorem flushTimeout_completes (hh : s.su.held = false) {f : Flush} (hf : s.pool.flushes = [f]) {sl : SliceId} {i : BitVec 9} (hsl : f.slice = sl.val)
    (hx : f.slots = [i.toNat]) : Completes (.flushTimeout sl i) s fun u =>
      f.at_ ≤ u.time.nclk ∧ u.pool.flushes = [] ∧ u.slotSt f.tenant i.toNat = 1 ∧ u.mem = s.mem := by
  have hfind : (s.pool.flushes.find? fun f => f.slice = sl.val && f.slots.contains i.toNat) = some f := by
    rw [hf]
    exact List.find?_cons_of_pos (by simp [hsl, hx])
  obtain ⟨d, hd⟩ : ∃ d, d = f.at_ + msec (max 1 (min 1000 (s.rfld .FLUSH_CFG (sl.val / 4) 9 0))) := ⟨_, rfl⟩
  obtain ⟨v, hv⟩ : ∃ v, v = if (advanceTo d s).slotSt f.tenant i.toNat = 1 then advanceTo d s
    else homeEv .timeout sl.val 0 0 f.tenant.val 0 i.toNat 0 0 ((advanceTo d s).setSlot f.tenant i.toNat 1) := ⟨_, rfl⟩
  have hrun : flushTimeoutRun sl i.toNat s = flushLeave sl.val i.toNat v := by
    unfold flushTimeoutRun
    rw [hfind]
    dsimp only
    rw [← hd, ← hv]
  have hvs : v.time = (advanceTo d s).time ∧ v.pool.flushes = s.pool.flushes ∧ v.mem = s.mem ∧ v.slotSt f.tenant i.toNat = 1 := by
    rw [hv]
    split
    · next hst => exact ⟨rfl, by rw [advanceTo_pool], advanceTo_mem _ _, hst⟩
    · refine ⟨logEv_time _ _, ?_, (logEv_mem _ _).trans (advanceTo_mem _ _), ?_⟩
      · exact (congrArg PoolSt.flushes (logEv_pool _ _)).trans (show (advanceTo d s).pool.flushes = _ by rw [advanceTo_pool])
      · unfold State.slotSt homeEv
        rw [logEv_pool]
        exact Sparse.get_put_self _ _ _ _
  obtain ⟨htime, hfl, hmem, hslot⟩ := hvs
  refine completes_of_pumped (flushTimeoutRun sl i.toNat) rfl hh ?_
  rw [hrun]
  obtain ⟨h1, h2, h3, h4, -⟩ := flushLeave_last (s := v) (hfl.trans hf) hsl hx
  refine ⟨?_, h1, ?_, h2.trans hmem⟩
  · rw [h4, htime]
    exact (hd ▸ Nat.le_add_right f.at_ _ : f.at_ ≤ d).trans (le_advanceTo d s)
  · unfold State.slotSt
    rw [h3]
    exact hslot

/-! ### Readers of page tables (R55) -/

theorem tcDropLine_drops (l : Nat) (s : State) (q : Quarter) : ∀ z ∈ (tcDropLine l s).pool.tcache[q], z.spaLine ≠ l := by
  intro z hz
  unfold tcDropLine at hz
  simp only [Fin.getElem_fin, Vector.getElem_map, List.mem_filter, decide_eq_true_eq] at hz
  exact hz.2

end Sys2Proof.Machine
end

section
open Sys2Proof Sys2Proof.Machine

/-- Settles O14: answers to snoops and flushes, evictions and their timers change the line's entry and let its request go on. -/
theorem holdersAnswer : Obligations.HoldersAnswer := by
  intro s h t x hh he hs
  refine ⟨fun k w y ho hy hw ha hu => ⟨invAck_completes hh he hs ho hy hw ha hu, invAck_pending_completes hh he hs ho hw ha hu,
    shrAck_completes hh he hs ho hy, datSnp_completes hh he hs ho hy hw ha hu, fun i hi hk => ?_⟩, fun ho => ?_,
    fun n g m dpa hr hd h1 ht hme hno => ⟨fun y hst hy hx => ⟨?_, ?_⟩, fun hst => ⟨?_, ?_⟩⟩, fun f hf hsl hten => ⟨fun hx => ?_, fun sl i hsl' hx _ => ?_⟩,
    fun hno => ?_⟩
  · obtain ⟨htrk, -, hfind⟩ := openSnoop_some ho
    subst hi
    exact snoopTimeout_completes hh (hk ▸ htrk) hfind hy hw ha hu
  · obtain ⟨h1, h2, h3⟩ := late_eq he hs ho
    exact ⟨completes_of_pumped _ rfl hh h1, completes_of_pumped _ rfl hh h2, completes_of_pumped _ rfl hh h3⟩
  · refine completes_of_pumped (wbRun h true) rfl hh ?_
    rw [wbRun_request he hs hr hd h1 ht hme hno hst hy hx true]
    exact wbRequest_effect h true t x n dpa _ s
  · refine completes_of_pumped (wbRun h false) rfl hh ?_
    rw [wbRun_request he hs hr hd h1 ht hme hno hst hy hx false]
    obtain ⟨hmem, k, htrks, hop, hdpa, hslot, hwait, -⟩ := wbRequest_effect h false t x n dpa (s.homeSlice g.tenant (dpa / 16384)) s
    exact ⟨hmem, k, htrks, hop, hdpa, hslot, hwait⟩
  · refine completes_of_pumped (wbRun h true) rfl hh ?_
    rw [wbRun_stray he hs hr hd hst true]
    exact strayWb_effect h true _ s
  · refine completes_of_pumped (wbRun h false) rfl hh ?_
    rw [wbRun_stray he hs hr hd hst false]
    exact strayWb_effect h false _ s
  · have hrun : flushAckRun h s = flushLeave h.tag.toNat x s := by
      unfold flushAckRun
      rw [fromHost_slot he hs]
      exact if_pos (by simp [hf, hsl, hten, hx])
    refine completes_of_pumped (flushAckRun h) rfl hh ?_
    rw [hrun]
    obtain ⟨h1, h2, -, -, h5⟩ := flushLeave_last hf hsl hx
    exact ⟨h1, h2, h5⟩
  · exact hten ▸ flushTimeout_completes hh hf hsl' hx
  · have hnone : (s.work.accs.find? fun a => a.agent = .xlat && a.st = 1 && a.addr = h.addr.toNat / 128 * 128) = none := by
      rw [List.find?_eq_none]
      exact fun a ha => by simpa using List.any_eq_false.1 hno a ha
    refine completes_of_pumped (snpInvReader h) rfl hh ?_
    unfold snpInvReader
    rw [if_neg (by simp [he])]
    dsimp only
    rw [hnone]
    refine ⟨send_sent _ _, fun q z hz => ?_⟩
    rw [send_pool] at hz
    exact tcDropLine_drops _ s q z hz

end

section
/-! PROOFS. The checks on a request's way, and the tracker it takes at its line home (R31, R69, R161, R309, R315, R321, R426, R486). -/

namespace Sys2Proof.Machine

variable {s : State} {r : ReqMsg}

/-! ### What the checks change -/

/-- A part of the state that a request's checks and refusals leave alone: they count, record a fault, move tokens, and use the translation cache. -/
structure OffChecks {α : Type} (p : State → α) : Prop where
  regs : ∀ s x, p { s with regs := x } = p s
  cnt64 : ∀ s x, p { s with cnt64 := x } = p s
  log : ∀ s x, p { s with log := x } = p s
  out : ∀ s x, p { s with out := x } = p s
  links : ∀ s x, p { s with links := x } = p s
  shp : ∀ s x, p { s with shp := x } = p s
  tc : ∀ s x, p { s with pool := { s.pool with tcache := x } } = p s

section
variable {α : Type} {p : State → α} (hp : OffChecks p)
include hp

theorem OffChecks.count (r : Reg) (u n : Nat) (s : State) : p (s.count r u n) = p s := count_keeps p hp.regs hp.cnt64 s r u n

theorem OffChecks.send (m : Msg) (s : State) : p (send m s) = p s := send_keeps p hp.regs hp.cnt64 hp.links hp.out s m

theorem OffChecks.logEv (e : Ev) (s : State) : p (logEv e s) = p s := logEv_keeps p hp.regs hp.cnt64 hp.log hp.out s e

theorem OffChecks.putMsg (l : LinkId) (q : Nat) (m : Msg) (s : State) : p (putMsg l q m s) = p s :=
  foldl_keeps p _ (fun s _ => putFlit_keeps p hp.regs hp.cnt64 hp.links hp.out s l _) _ s

theorem OffChecks.edgeDeny (l : LinkId) (src dst tag : W16) (a : Bool) (s : State) : p (edgeDeny l src dst tag a s) = p s :=
  ite_keeps _ ((hp.putMsg _ _ _ _).trans ((hp.out _ _).trans (hp.count _ _ _ s))) (hp.count _ _ _ s)

theorem OffChecks.debit (b q n : Nat) (s : State) : p (s.debit b q n) = p s := ite_keeps _ rfl (ite_keeps _ (hp.shp s _) (hp.shp s _))

theorem OffChecks.decideAdm (host svc : Nat) (l : LinkId) (n : Nat) (s : State) : p (decideAdm host svc l n s).2 = p s := by
  unfold Machine.decideAdm
  simp only
  split
  · exact (hp.debit _ _ _ _).trans ((hp.debit _ _ _ _).trans (hp.debit _ _ _ s))
  · exact ite_keeps _ (hp.count _ _ _ s) (ite_keeps _ (hp.count _ _ _ s) (ite_keeps _ (hp.count _ _ _ s) (hp.count _ _ _ s)))

theorem OffChecks.tcUse (q : Nat) (e : TcEnt) (s : State) : p (tcUse q e s) = p s := by
  unfold Machine.tcUse State.setTc
  split
  · exact hp.tc s _
  · rfl

theorem OffChecks.xlate (q : Nat) (h : W16) (c : Ctx) (op ca len : Nat) (nr fwd : Bool) (src : Option TenantId) (slot : Bool) (s : State) :
    p (xlate q h c op ca len nr fwd src slot s).2 = p s := by
  unfold Machine.xlate
  split
  · rfl
  · split
    · rfl
    · split
      · rfl
      · simp only
        split
        · exact hp.tcUse _ _ s
        · split
          · exact (hp.tcUse _ _ _).trans (hp.count _ _ _ s)
          · exact hp.count _ _ _ s
          · exact hp.count _ _ _ s

theorem OffChecks.xlatFault (q code : Nat) (h src : W16) (ca : Nat) (s : State) : p (xlatFault q code h src ca s) = p s := by
  have hset : ∀ r u v s, p (s.setReg r u v) = p s := fun r u v s => hp.regs s _
  unfold Machine.xlatFault
  extract_lets s1 s2 s3 s4 t
  have h1 : p s1 = p s := hp.count _ _ _ s
  clear_value s1
  have h4 : p s4 = p s := (ite_keeps _ (ite_keeps _ (hset _ _ _ s1)
    ((hset _ _ _ _).trans ((hset _ _ _ _).trans ((hset _ _ _ _).trans (hset _ _ _ s1))))) rfl).trans h1
  clear_value s4
  exact ite_keeps _ ((hp.logEv _ _).trans h4) h4

end

theorem offChecks_mem : OffChecks State.mem := by constructor <;> intro _ _ <;> rfl
theorem offChecks_rgn : OffChecks State.rgn := by constructor <;> intro _ _ <;> rfl
theorem offChecks_trks : OffChecks fun s : State => s.pool.trks := by constructor <;> intro _ _ <;> rfl
theorem offChecks_dir : OffChecks fun s : State => s.pool.dir := by constructor <;> intro _ _ <;> rfl

theorem debit_pool (b q n : Nat) (s : State) : (s.debit b q n).pool = s.pool := by
  unfold State.debit
  split_ifs <;> rfl

theorem decideAdm_pool (host svc : Nat) (l : LinkId) (n : Nat) (s : State) : (decideAdm host svc l n s).2.pool = s.pool := by
  unfold decideAdm
  simp only
  split
  · exact (debit_pool _ _ _ _).trans ((debit_pool _ _ _ _).trans (debit_pool _ _ _ s))
  · split_ifs <;> exact count_pool _ _ _ _

theorem putMsg_outs (l : LinkId) (q : Nat) (m : Msg) (s : State) : sentOut.Keeps (putMsg l q m s) s :=
  Drift.foldl (R := sentOut) (fun s _ => outs_putFlit s l _) _ s

theorem mem_emit (o : Out) (s : State) : o ∈ (emit o s).out := by simp

theorem putMsg_pool (l : LinkId) (q : Nat) (m : Msg) (s : State) : (putMsg l q m s).pool = s.pool :=
  foldl_keeps State.pool _ (fun s _ => putFlit_keeps State.pool (fun _ _ => rfl) (fun _ _ => rfl) (fun _ _ => rfl) (fun _ _ => rfl) s l _) _ s

/-- A message that is sent leaves the pool and memory, and is on record with some load. -/
theorem send_answers (m : Msg) (l : Nat) (s : State) :
    (send { m with load := l } s).Ans m ∧ (send { m with load := l } s).pool = s.pool ∧ (send { m with load := l } s).mem = s.mem :=
  ⟨⟨l, send_sent _ _⟩, send_pool _ _, send_mem _ _⟩

/-! ### The ingress -/

theorem reqArrive_edge (op : Nat) (h : s.edgeOk r.link r.src = false) :
    (reqArrive op r s).pool = s.pool ∧ (reqArrive op r s).mem = s.mem ∧ ((s.link r.link).dir = 3 →
      ∃ l : Nat, Out.msg r.link.val { cmpMsg r stNO_ACCESS 0 with load := l } ∈ (reqArrive op r s).out) := by
  have hrun : reqArrive op r s = edgeDeny r.link r.src r.dst r.tag true s := by
    unfold reqArrive
    exact if_pos (by simp [h])
  rw [hrun]
  refine ⟨?_, offChecks_mem.edgeDeny _ _ _ _ _ s, fun hd => ?_⟩
  · unfold edgeDeny
    simp only
    split
    · exact (putMsg_pool _ _ _ _).trans (count_pool _ _ _ _)
    · exact count_pool _ _ _ _
  · have hdir : ((s.count .EDGE_DENY_CNT r.link.val).link r.link).dir = 3 := by
      unfold State.link
      rw [count_links]
      exact hd
    unfold edgeDeny
    simp only
    rw [if_pos ⟨hdir, trivial⟩]
    exact ⟨_, putMsg_outs _ _ _ _ _ (mem_emit _ _)⟩

theorem reqArrive_transit (op : Nat) {p : Nat} (he : s.edgeOk r.link r.src = true) (hh : s.hears r.link r.dst = false)
    (hp : s.pickPort r.dst.toNat ((s.link r.link).dir = 1) = some p) : (reqArrive op r s).pool = s.pool ∧ (reqArrive op r s).mem = s.mem ∧
      ∃ m : Msg, Out.msg p m ∈ (reqArrive op r s).out ∧ m.cls = .req ∧ m.op = op ∧ m.src = r.src ∧ m.dst = r.dst ∧ m.tag = r.tag ∧
        m.handle = r.handle ∧ m.addr = r.addr.toNat ∧ m.len = r.len.toNat ∧ m.payload = r.payload := by
  obtain ⟨m, hm⟩ : ∃ m, m = { fwdMsg op r r.dst with flags := b2n r.fwd * 8 + b2n r.near * 4 + b2n r.nr * 2 + b2n r.wbPending } := ⟨_, rfl⟩
  have hrun : reqArrive op r s = if h : p < 24 then putMsg ⟨p, h⟩ 8 m (emit (.msg p m) s) else emit (.msg p m) s := by
    unfold reqArrive
    simp only
    rw [if_neg (by simp [he]), if_pos (by simp [hh]), ← hm]
    unfold transit
    rw [show m.dst = r.dst from hm ▸ rfl, hp]
  have hfields : m.cls = .req ∧ m.op = op ∧ m.src = r.src ∧ m.dst = r.dst ∧ m.tag = r.tag ∧
      m.handle = r.handle ∧ m.addr = r.addr.toNat ∧ m.len = r.len.toNat ∧ m.payload = r.payload := by
    rw [hm]
    exact ⟨rfl, rfl, rfl, rfl, rfl, rfl, rfl, rfl, rfl⟩
  rw [hrun]
  split
  · exact ⟨putMsg_pool _ _ _ _, offChecks_mem.putMsg _ _ _ _, m, putMsg_outs _ _ _ _ _ (mem_emit _ _), hfields⟩
  · exact ⟨rfl, rfl, m, mem_emit _ _, hfields⟩

section
variable (op : Nat) (he : s.edgeOk r.link r.src = true) (hh : s.hears r.link r.dst = true)
include he hh

theorem reqArrive_closed {h : Nat} (hc : s.closedHint = some h) : reqArrive op r s = send { cmpMsg r stRETRY_BUSY h with load := 15 } s := by
  unfold reqArrive
  simp only
  rw [if_neg (by simp [he]), if_neg (by simp [hh]), hc]

variable (hc : s.closedHint = none)
include hc

theorem reqArrive_fenced (h6 : s.pair.role = 6) (ha : r.dst = s.myAlias) :
    ∃ l, reqArrive op r s = send { cmpMsg r stEPOCH_CHANGED 0 with load := l } s := by
  unfold reqArrive
  simp only
  rw [if_neg (by simp [he]), if_neg (by simp [hh]), hc]
  exact ⟨_, if_pos ⟨h6, ha⟩⟩

theorem reqArrive_unserved (hsv : s.serving = false) (h6 : s.pair.role = 6 → r.dst ≠ s.myAlias) :
    ∃ h, reqArrive op r s = send { cmpMsg r stRETRY_BUSY h with load := 15 } s := by
  unfold reqArrive
  simp only
  rw [if_neg (by simp [he]), if_neg (by simp [hh]), hc]
  simp only
  rw [if_neg fun h => h6 h.1 h.2]
  exact ⟨_, if_pos (by simp [hsv])⟩

variable (hsv : s.serving = true) (h5 : s.pair.role = 5 → r.dst ≠ s.myAlias)
include hsv h5

theorem reqArrive_stranger (hn : s.hostEntry r.src = none) : ∃ l,
    reqArrive op r s = strangerEv r.src r.handle (send { cmpMsg r stNO_ACCESS 0 with load := l } (s.count .EDGE_DENY_CNT r.link.val)) := by
  have h6 : ¬s.pair.role = 6 := by
    unfold State.serving at hsv
    intro h
    simp [h] at hsv
  unfold reqArrive
  simp only
  rw [if_neg (by simp [he]), if_neg (by simp [hh]), hc]
  simp only
  rw [if_neg fun h => h6 h.1, if_neg (by simp [hsv]), if_neg fun h => h5 h.1 h.2, hn]
  exact ⟨_, rfl⟩

theorem reqArrive_host {e : Nat × Bytes} (hn : s.hostEntry r.src = some e) (hf : r.fwd = false) : reqArrive op r s = ingress op r e s := by
  refine reqArrive_eq_ingress he hh hc hsv (fun h => ?_) h5 hn hf
  unfold State.serving at hsv
  simp [h] at hsv

end

theorem strangerEv_rest (src h : W16) (s : State) : (strangerEv src h s).pool = s.pool ∧ (strangerEv src h s).mem = s.mem ∧
    sentOut.Keeps (strangerEv src h s) s := ⟨logEv_pool _ _, logEv_mem _ _, sentOut_logEv _ s⟩

/-! ### A request that has entered -/

section
variable {op : Nat} {a : State} {e : Nat × Bytes} (hin : Enters op r s a e)
include hin

theorem Enters.kept {α : Type} {p : State → α} (hp : OffChecks p) : p a = p s := by
  obtain ⟨-, -, -, -, -, -, -, -, hd⟩ := hin
  exact (congrArg (fun x : Adm × State => p x.2) hd).symm.trans (hp.decideAdm _ _ _ _ _)

theorem Enters.pool : a.pool = s.pool := by
  obtain ⟨-, -, -, -, -, -, -, -, hd⟩ := hin
  exact (congrArg (fun x : Adm × State => x.2.pool) hd).symm.trans (decideAdm_pool _ _ _ _ _)

theorem Enters.steers : reqArrive op r s = steer op r e a := by
  obtain ⟨he, hme, hc, hsv, h5, hf, hn, hneed, hd⟩ := hin
  rw [reqArrive_host op he (hears_of_isMe hme) hc hsv h5 hn hf]
  unfold ingress
  simp only [hneed, hd, ne_eq, not_true_eq_false, if_false]
  unfold admitted
  rw [if_neg (by simp [hf])]

theorem Enters.asks {q : Nat} (hq : a.homeOf r.handle = some q) :
    reqArrive op r s = request (.host e.1) op r q (tenantOfHost e.2) (slotOf e.2) a := by
  rw [hin.steers]
  unfold steer
  rw [hq]

end

/-! ### From the context's home to the line's -/

section
variable {op : Nat} {e : Nat × Bytes}

/-- A request of a host that is refused before it has a tracker. -/
theorem refuseReq_answers (e : Nat) (r : ReqMsg) (q : Nat) (st : Byte) (k : Nat) (full : Bool) (s : State) :
    (refuseReq (.host e) r q st k full s).Ans (cmpMsg r st k) ∧ (refuseReq (.host e) r q st k full s).pool = s.pool ∧
      (refuseReq (.host e) r q st k full s).mem = s.mem := send_answers _ _ s

theorem request_malformed {q : Nat} {st : Byte} (hf : formCheck op r = some st) (src : Option TenantId) (slot : Option Nat) :
    request (.host e.1) op r q src slot s = refuseReq (.host e.1) r q st 0 false s := by
  unfold request
  simp only [Bool.false_eq_true, if_false, hf]

variable (hf : formCheck op r = none) {x : Ctx} (hx : s.liveCtx r.handle = some x)
include hf hx

theorem request_fault {q code h : Nat} {st : Byte} {v : State} {src : Option TenantId} {slot : Option Nat}
    (hv : xlate q r.handle x op r.addr.toNat (reqBytes op r) r.nr r.fwd src slot.isSome s = (.fail code st h, v)) :
    request (.host e.1) op r q src slot s = refuseReq (.host e.1) r q st h false (xlatFault q code r.handle r.src r.addr.toNat v) := by
  unfold reqBytes at hv
  unfold request
  simp only [Bool.false_eq_true, if_false, hf, hx, hv]

theorem request_located {q n m dpa pt : Nat} {g : Region} {v : State} {src : Option TenantId} {slot : Option Nat}
    (hv : xlate q r.handle x op r.addr.toNat (reqBytes op r) r.nr r.fwd src slot.isSome s = (.ok n g m dpa pt, v)) (hme : v.isMe (g.memberId m) = true) :
    request (.host e.1) op r q src slot s = toHome (.host e.1) op r q n g m dpa pt slot v := by
  unfold reqBytes at hv
  unfold request
  simp only [Bool.false_eq_true, if_false, hf, hx, hv, hme, if_true]

end

/-- The tracker of a request as it arrives at its line home. -/
def newTrk (who : Who) (op : Nat) (r : ReqMsg) (n : Nat) (g : Region) (m dpa pt : Nat) (slot : Option Nat) (s : State) : Trk :=
  { id := s.freeTrk (s.blockHome g m (dpa / 16384) / 4), who := who, op := op, r := r, slot := if g.kind = 1 then slot else none,
    lk := if op = 0x10 then g.recordAt m (ruOf dpa) / 128 else dpa / 128, dpa := dpa, region := n, tenant := g.tenant,
    slice := s.blockHome g m (dpa / 16384), locked := false, wait := .ready, snoops := [], data := none, poisoned := false, dirPh := 0,
    near := false, upg := false, acks := [], ptLine := pt, made := false, sentInv := false, jwait := [], ans := none }

section
variable {who : Who} {op q n m dpa pt : Nat} {g : Region} {slot : Option Nat}
  (hsh : s.quarterShut (s.blockHome g m (dpa / 16384) / 4) = false) (hmt : s.mayTrack (s.blockHome g m (dpa / 16384) / 4) who = true)
  (hw : g.kind = 1 → s.pair.window = none)
include hsh hmt hw

theorem toHome_tracks (hs : g.kind = 1 → ∀ x, slot = some x → s.slotSt g.tenant x ≠ 1) : toHome who op r q n g m dpa pt slot s =
    { s with pool := { s.pool with trks := s.pool.trks ++ [newTrk who op r n g m dpa pt slot s] } } := by
  have hslot : ¬(g.kind = 1 ∧ (slot.any fun x => s.slotSt g.tenant x = 1) = true) := fun h => by
    obtain ⟨x, hx, hst⟩ := (Option.any_eq_true _ _).1 h.2
    exact hs h.1 x hx (by simpa using hst)
  unfold toHome
  simp only
  rw [if_neg (by simp [hsh]), if_neg (by simp [hmt]), if_neg fun h => by simp [hw h.1] at h, if_neg hslot]
  rfl

theorem toHome_unresponsive (h1 : g.kind = 1) {x : Nat} (hx : slot = some x) (hst : s.slotSt g.tenant x = 1) :
    toHome who op r q n g m dpa pt slot s = refuseReq who r q stNO_ACCESS 0 false s := by
  unfold toHome
  simp only
  rw [if_neg (by simp [hsh]), if_neg (by simp [hmt]), if_neg fun h => by simp [hw h.1] at h, if_pos ⟨h1, by simp [hx, hst]⟩]

end

theorem formCheck_unknown {op : Nat} (h : op = 0 ∨ 8 ≤ op) (h1 : op ≠ 0x10) (h2 : op ≠ 0x11) : formCheck op r = some stUNSUPPORTED := by
  unfold formCheck
  simp only
  refine if_pos ?_
  simp only [Bool.not_eq_true', Bool.or_eq_false_iff, Bool.and_eq_false_iff, decide_eq_false_iff_not]
  omega

/-- A request's command, whatever its opcode, is its arrival. -/
theorem request_completes (hh : s.su.held = false) {o : BitVec 5} {c : Instr × Nat} (hc : c ∈ (Instr.undefinedReqOpcode o r, o.toNat) :: requestOps r)
    {P : State → Prop} (h : P (reqArrive c.2 r s)) : Completes c.1 s P := by
  simp only [requestOps, List.mem_cons, List.not_mem_nil, or_false] at hc
  rcases hc with rfl | rfl | rfl | rfl | rfl | rfl | rfl | rfl | rfl | rfl <;> exact completes_of_pumped (reqArrive _ r) rfl hh h

/-- A request that has been located enters its line home in the state found there. -/
theorem Located.arrives {op : Nat} {v : State} {e : Nat × Bytes} {n : Nat} {g : Region} {m dpa : Nat} (hl : Located op r s v e n g m dpa)
    (hme : v.isMe (g.memberId m) = true) : (∃ q pt, reqArrive op r s = toHome (.host e.1) op r q n g m dpa pt (slotOf e.2) v) ∧
      v.mem = s.mem ∧ v.pool.trks = s.pool.trks ∧ v.pool.dir = s.pool.dir ∧ v.rgn = s.rgn := by
  obtain ⟨hf, a, x, q, pt, hin, hx, hq, hv⟩ := hl
  have hkept : ∀ {α : Type} {p : State → α}, OffChecks p → p v = p s := fun {α p} hp =>
    (congrArg (fun y : Xl × State => p y.2) hv).symm.trans ((hp.xlate _ _ _ _ _ _ _ _ _ _ _).trans (hin.kept hp))
  refine ⟨⟨q, pt, ?_⟩, hkept offChecks_mem, hkept offChecks_trks, hkept offChecks_dir, hkept offChecks_rgn⟩
  rw [hin.asks hq, request_located hf hx hv hme]

end Sys2Proof.Machine
end

section
open Sys2Proof Sys2Proof.Machine

/-- Settles O11: a request that fails a check is answered with its status, one for another device goes on, one that passes takes a tracker. -/
theorem requestsAreChecked : Obligations.RequestsAreChecked := by
  intro s r o hh
  refine ⟨fun c hc => ⟨fun he => ?_, fun p he hn hp => ?_, fun he hn => ⟨fun h hcl => ?_, fun hcl => ⟨fun h6 ha => ?_, fun hsv h6 => ?_, fun hsv h5 hno => ?_,
    fun e h a hsv h5 hho hf hneed hd => ?_⟩⟩, fun a e hin => ⟨fun hq => ?_, fun q st hq hf => ?_, fun q code h st x v hq hf hx hv => ?_⟩⟩,
    fun h1 h2 h3 => ?_, fun c hc v e n g m dpa => ⟨fun x hl hme hsh hmt h1 hw hx hst => ?_, fun hr => ?_⟩⟩
  · exact request_completes hh hc (reqArrive_edge c.2 he)
  · exact request_completes hh hc (reqArrive_transit c.2 he hn hp)
  · refine request_completes hh hc ?_
    rw [reqArrive_closed c.2 he hn hcl]
    exact ⟨send_sent _ _, send_pool _ _, send_mem _ _⟩
  · refine request_completes hh hc ?_
    obtain ⟨l, hl⟩ := reqArrive_fenced c.2 he hn hcl h6 ha
    rw [hl]
    exact send_answers _ l s
  · refine request_completes hh hc ?_
    obtain ⟨h, hl⟩ := reqArrive_unserved c.2 he hn hcl hsv h6
    rw [hl]
    exact ⟨⟨h, send_sent _ _⟩, send_pool _ _, send_mem _ _⟩
  · refine request_completes hh hc ?_
    obtain ⟨l, hl⟩ := reqArrive_stranger c.2 he hn hcl hsv h5 hno
    rw [hl]
    obtain ⟨⟨k, hsent⟩, hpool, hmem⟩ := send_answers (cmpMsg r stNO_ACCESS 0) l (s.count .EDGE_DENY_CNT r.link.val)
    obtain ⟨hp, hm, ho⟩ := strangerEv_rest r.src r.handle (send { cmpMsg r stNO_ACCESS 0 with load := l } (s.count .EDGE_DENY_CNT r.link.val))
    exact ⟨⟨k, sent_of_outs ho hsent⟩, hp.trans (hpool.trans (count_pool _ _ _ _)), hm.trans (hmem.trans (count_mem _ _ _ _))⟩
  · refine request_completes hh hc ?_
    rw [reqArrive_host c.2 he hn hcl hsv h5 hho hf, ingress_policed hneed hd]
    obtain ⟨hans, hpool, hmem⟩ := send_answers (cmpMsg r stPOLICED h) (a.loadLevel (r.link.val / 6) false) a
    have hap : a.pool = s.pool := (congrArg (fun x : Adm × State => x.2.pool) hd).symm.trans (decideAdm_pool _ _ _ _ _)
    have ham : a.mem = s.mem := (congrArg (fun x : Adm × State => x.2.mem) hd).symm.trans (offChecks_mem.decideAdm _ _ _ _ _)
    exact ⟨hans, hpool.trans hap, hmem.trans ham⟩
  · refine request_completes hh hc ?_
    rw [hin.steers]
    unfold steer
    rw [hq]
    obtain ⟨hans, hpool, hmem⟩ := send_answers (cmpMsg r stNO_ACCESS 0) (a.loadLevel (r.link.val / 6) false) (a.count .EDGE_DENY_CNT r.link.val)
    exact ⟨hans, hpool.trans ((count_pool _ _ _ _).trans hin.pool), hmem.trans ((count_mem _ _ _ _).trans (hin.kept offChecks_mem))⟩
  · refine request_completes hh hc ?_
    rw [hin.asks hq, request_malformed hf]
    obtain ⟨hans, hpool, hmem⟩ := refuseReq_answers e.1 r q st 0 false a
    exact ⟨hans, hpool.trans hin.pool, hmem.trans (hin.kept offChecks_mem)⟩
  · refine request_completes hh hc ?_
    rw [hin.asks hq, request_fault hf hx hv]
    obtain ⟨hans, hpool, hmem⟩ := refuseReq_answers e.1 r q st h false (xlatFault q code r.handle r.src r.addr.toNat v)
    have hkept : ∀ {α : Type} {p : State → α}, OffChecks p → p (xlatFault q code r.handle r.src r.addr.toNat v) = p s := fun {α p} hp =>
      (hp.xlatFault _ _ _ _ _ v).trans
        ((congrArg (fun y : Xl × State => p y.2) hv).symm.trans ((hp.xlate _ _ _ _ _ _ _ _ _ _ _).trans (hin.kept hp)))
    exact ⟨hans, (congrArg PoolSt.trks hpool).trans (hkept offChecks_trks), (congrArg PoolSt.dir hpool).trans (hkept offChecks_dir),
      hmem.trans (hkept offChecks_mem)⟩
  · refine formCheck_unknown (h1.imp (fun h => ?_) id) (fun h => h2 (BitVec.eq_of_toNat_eq h)) (fun h => h3 (BitVec.eq_of_toNat_eq h))
    exact congrArg BitVec.toNat h
  · refine request_completes hh (List.mem_cons_of_mem (Instr.undefinedReqOpcode o r, o.toNat) hc) ?_
    obtain ⟨⟨q, pt, hrun⟩, hmem, htrks, -⟩ := hl.arrives hme
    rw [hrun, toHome_unresponsive hsh hmt (fun _ => hw) h1 hx hst]
    obtain ⟨hans, hpool, hm⟩ := refuseReq_answers e.1 r q stNO_ACCESS 0 false v
    exact ⟨hans, (congrArg PoolSt.trks hpool).trans htrks, hm.trans hmem⟩
  · refine request_completes hh (List.mem_cons_of_mem (Instr.undefinedReqOpcode o r, o.toNat) hc) ?_
    obtain ⟨hl, hme, hsh, hmt, hw, hslot⟩ := hr
    obtain ⟨⟨q, pt, hrun⟩, hmem, htrks, hdir, hrgn⟩ := hl.arrives hme
    rw [hrun, toHome_tracks hsh hmt hw hslot]
    refine ⟨hmem, hdir, hrgn, newTrk (.host e.1) c.2 r n g m dpa pt (slotOf e.2) v, ?_, rfl, rfl, rfl, rfl, rfl, rfl, rfl, rfl, rfl, fun h1 => if_pos h1⟩
    rw [← htrks]

end

section
/-! PROOFS. What the line home, and everything that goes on with it, may do to the rest of the state (R31, R53, R78, R103, R120, R146 to R188). -/

namespace Sys2Proof.Machine

variable {s : State}

/-- A contribution that has passed every check is applied whole (R176, R181, R182, R185). `first`: it is the first of its RU in its generation. -/
def redTake (sl n : Nat) (g : Region) (m : Nat) (t : Trk) (first : Prop) [Decidable first] (s : State) : Done × State :=
  let p := t.r.payload
  let x := g.gen
  let gen := leAt p 0 4
  let c := leAt p 4 2
  let bank := gen % 2
  let ru := ruOf t.dpa
  let ra := g.recordAt m ru
  let q := sl / 4
  let (by_, bi) := bitmapAt c
  let data := g.bankAt m bank ru
  let lines := [data / 128, data / 128 + 1]
  let vals := contribution g p
  let sat := vals.any fun v => v.2.1
  let nan := vals.any fun v => v.2.2
  let s :=
    if first then
      let s := (g.recordLines m ru).foldl (fun s l => if l = ra / 128 then s else storeBytes sl g.tenant (l * 128) (zeros 128) s) s
      let r0 := Memory.readN s.mem ra 128
      let r0 := splice (splice (splice (splice r0 (4 * bank) (toLe 4 gen)) 8 [0, 0]) (10 + bank) [0]) 16 (zeros 112)
      storeBytes sl g.tenant ra r0 s
    else s
  let old (i : Nat) : Int := if first then 0 else sint 64 (leNat (Memory.readN s.mem (data + 8 * i) 8))
  let words := ((List.range 32).zip vals).flatMap fun v => toLe 8 (uint 64 (old v.1 + v.2.1))
  let s := storeBytes sl g.tenant data (words.take 128) s
  let s := storeBytes sl g.tenant (data + 128) (words.drop 128) s
  let cnt := leNat (Memory.readN s.mem (ra + 8) 2) + 1
  let fl := (Memory.read s.mem (ra + 10 + bank)).toNat ||| (b2n sat + 2 * b2n nan)
  let s := storeBytes sl g.tenant (ra + 8) (toLe 2 cnt) s
  let s := storeBytes sl g.tenant (ra + 10 + bank) [byte fl] s
  let s := storeBytes sl g.tenant (ra + by_) [byte (setBits (Memory.read s.mem (ra + by_)).toNat bi bi 1)] s
  let full := cnt = x.nOpen
  let x' := { x with accSat := x.accSat || sat, accNan := x.accNan || nan, ruDone := if full then x.ruDone + 1 else x.ruDone }
  let x' := if x'.ruDone = g.ruCount m ∧ x'.st = 8 then { x' with st := 9, reported := false } else x'
  let s := s.setRegion n { g with gen := x' }
  let s := s.count .RED_ADD_CNT q
  let s := if sat ∨ nan then s.count .RED_SATGRP_CNT q else s
  let rec_ := if first then g.recordLines m ru else [ra / 128, (ra + by_) / 128].dedup
  (⟨cmpMsg t.r stOK 0, rec_ ++ lines, if full then [stateRec n x'] else []⟩, s)

/-- A contribution whose unit's record, and its line of the bitmap, have been read: `noMap` where one of them is lost. -/
def redMapped (sl n : Nat) (g : Region) (m : Nat) (t : Trk) (first : Prop) [Decidable first] (noMap : Bool) (s : State) : Done × State :=
  let ru := ruOf t.dpa
  let ra := g.recordAt m ru
  let b := bitmapAt (leAt t.r.payload 4 2)
  let data := g.bankAt m (leAt t.r.payload 0 4 % 2) ru
  if !noMap ∧ !first ∧ bit (Memory.read s.mem (ra + b.1)).toNat b.2 then
    (⟨cmpMsg t.r stDUPLICATE 0, [], []⟩, s.count .RED_DUP_CNT (sl / 4))
  else
    let (bad, s) :=
      if noMap ∨ first then (noMap, s)
      else if (g.recordLines m ru).any fun l => s.poison.contains l then (true, s)
      else anyPoison sl g.tenant [data / 128, data / 128 + 1] s
    if bad then (⟨cmpMsg t.r stPOISON 0, [], []⟩, s) else redTake sl n g m t first s

/-- A contribution whose unit's record has been read: `noRec` where it is lost. -/
def redStamped (sl n : Nat) (g : Region) (m : Nat) (t : Trk) (noRec : Bool) (s : State) : Done × State :=
  let ru := ruOf t.dpa
  let ra := g.recordAt m ru
  let gen := leAt t.r.payload 0 4
  let by_ := (bitmapAt (leAt t.r.payload 4 2)).1
  let first := s.stamp g m ru (gen % 2) ≠ gen
  let (noMap, s) := if noRec ∨ first ∨ by_ < 128 then (noRec, s) else loadLine sl g.tenant ((ra + by_) / 128) s
  redMapped sl n g m t first noMap s

theorem redAdd_eq (sl n : Nat) (g : Region) (m : Nat) (t : Trk) (s : State) : redAdd sl n g m t s =
    redStamped sl n g m t (loadLine sl g.tenant (g.recordAt m (ruOf t.dpa) / 128) s).1 (loadLine sl g.tenant (g.recordAt m (ruOf t.dpa) / 128) s).2 := rfl

/-- Both branches keep what a relation says of the state they end in. -/
theorem Drift.iteSnd {R : Drift} {α : Type} (c : Prop) [Decidable c] {a b : α × State} {s : State} (ha : R.Keeps a.2 s) (hb : R.Keeps b.2 s) :
    R.Keeps (if c then a else b).2 s := by
  split <;> assumption

section
variable {R : Drift} (hR : ServeDrift R)
include hR

/-! ### The end of a request -/

theorem ServeDrift.finishTrk (id : Nat) (s : State) : R.Keeps (finishTrk id s) s := by
  unfold Machine.finishTrk
  split
  · rfl
  · next t _ =>
    split
    · rfl
    · next m _ =>
      extract_lets dur load q s1
      have h1 : R.Keeps s1 s := hR.anyPool s _
      clear_value s1
      split
      · exact (hR.send _ _).trans h1
      · exact (hR.send _ _).trans h1
      · exact (hR.accAnswer _ _ _ _ _).trans h1
      · exact h1

theorem ServeDrift.finishReady (s : State) : R.Keeps (finishReady s) s := by
  unfold Machine.finishReady
  extract_lets s1 go
  have h1 : R.Keeps s1 s := Drift.foldl (fun s i => hR.finishTrk i s) _ s
  clear_value s1
  exact (Drift.foldl (fun s p => hR.send _ s) _ _).trans (hR.anyPool s1 _ |>.trans h1)

theorem ServeDrift.complete (id sl n : Nat) (g : Region) (d : Done) (s : State) : R.Keeps (complete id sl n g d s) s := by
  have h1 := hR.journalLines sl n g d.lines d.extra s
  unfold Machine.complete
  generalize Machine.journalLines sl n g d.lines d.extra s = x at h1 ⊢
  obtain ⟨pages, s1⟩ := x
  simp only
  have h2 := (hR.updTrk id (fun t => { t with ans := some d.ans, jwait := pages, wait := if t.wait = .ptab then .ptab else .journal }) s1).trans h1
  split
  · exact Drift.ite _ ((hR.finishTrk _ _).trans h2) h2
  · exact h2

theorem ServeDrift.answer (id : Nat) (m : Msg) (s : State) : R.Keeps (answer id m s) s := (hR.finishTrk _ _).trans (hR.updTrk _ _ s)

theorem ServeDrift.refuse (id : Nat) (st : Byte) (k : Nat) (s : State) : R.Keeps (refuse id st k s) s := by
  unfold Machine.refuse
  split
  · exact hR.answer _ _ s
  · rfl

/-! ### Directory action -/

theorem ServeDrift.startVictim (sl vl : Nat) (e : DirEnt) (o : Option Nat) (s : State) : R.Keeps (startVictim sl vl e o s) s :=
  (hR.count _ _ _ _).trans (hR.anyPool s _)

theorem ServeDrift.unmake (t : Trk) (s : State) : R.Keeps (unmake t s) s := Drift.ite _ (hR.updDir _ s) .rfl

theorem ServeDrift.needEntry (id : Nat) (t : Trk) (s : State) : R.Keeps (needEntry id t s).2 s := by
  unfold Machine.needEntry
  extract_lets line set_ es made
  have hmade : ∀ u, R.Keeps (made u) u := fun u => hR.updTrk _ _ u
  clear_value made
  split
  · rfl
  · split
    · exact (hmade _).trans (hR.setEnt _ _ s)
    · split
      · exact hR.waitTrk _ _ s
      · split
        · exact (hmade _).trans ((hR.count _ _ _ _).trans ((hR.setEnt _ _ _).trans (hR.updDir _ s)))
        · split
          · exact hR.waitTrk _ _ s
          · exact (hR.waitTrk _ _ _).trans (hR.startVictim _ _ _ _ s)

theorem ServeDrift.predUpdate (t : Trk) (s : State) : R.Keeps (predUpdate t s) s := by
  unfold Machine.predUpdate
  split
  · exact Drift.ite _ (hR.setEnt _ _ s) .rfl
  · rfl

theorem ServeDrift.grant (n : Nat) (g : Region) (t : Trk) (own : Bool) (s : State) : R.Keeps (grant n g t own s) s := by
  unfold Machine.grant
  extract_lets line
  split
  · next r e _ _ =>
    refine Drift.ite _ ?_ (hR.setEnt _ _ s)
    extract_lets s1
    have h1 : R.Keeps s1 s := hR.setEnt _ _ s
    clear_value s1
    exact (hR.journalLines _ _ _ _ _ _).trans ((hR.ownerMark n g line true s1).trans h1)
  · rfl

theorem ServeDrift.applySnoop (id n : Nat) (g : Region) (s : State) : R.Keeps (applySnoop id n g s) s := by
  unfold Machine.applySnoop
  split
  · rfl
  · next t _ =>
    extract_lets dl own wrote
    have h1 : R.Keeps (if own = true then ([], s) else ownerMark n g dl false s).2 s := by
      split
      · rfl
      · exact hR.ownerMark n g dl false s
    generalize (if own = true then ([], s) else Machine.ownerMark n g dl false s) = x at h1 ⊢
    obtain ⟨rs, s1⟩ := x
    dsimp -zeta only
    extract_lets s2 s3 s5
    have h2 : R.Keeps s2 s := by
      unfold s2
      split
      · exact (hR.storeBytes _ _ _ _ _).trans h1
      · exact h1
    clear_value s2
    have h3 : R.Keeps s3 s := Drift.ite _ ((hR.storeMarker _ _ _ s2).trans h2) h2
    have h5 : R.Keeps s5 s := (hR.updTrk _ _ _).trans ((hR.journalLines t.slice n g (if wrote = true then [dl] else []) rs s3).trans h3)
    clear_value s5
    exact Drift.ite _ ((Drift.foldl (fun s m => hR.send m s) _ s5).trans h5) ((hR.anyPool s5 _).trans h5)

/-! ### Operations -/

theorem ServeDrift.ptabWrite (id : Nat) (g : Region) (t : Trk) (s : State) : R.Keeps (ptabWrite id g t s) s :=
  Drift.ite _ ((hR.waitTrk _ _ _).trans (hR.tcDropLine _ s)) .rfl

theorem ServeDrift.bypassEnd' (sl b : Nat) (g : Region) (w : Bool) {s t : State} (h : R.Keeps t s) : R.Keeps (bypassEnd sl b g w t) s :=
  (hR.bypassEnd sl b g w t).trans h

theorem ServeDrift.performLine (id n : Nat) (g : Region) (t : Trk) (s : State) : R.Keeps (performLine id n g t s) s := by
  unfold Machine.performLine
  extract_lets sl dl off fin
  have hfin : ∀ d w u, R.Keeps (fin d w u) u := fun d w u => (hR.complete _ _ _ _ _ _).trans (hR.bypassEnd _ _ _ _ u)
  have h1 : R.Keeps (if t.op = 5 ∨ (t.op = 6 ∧ t.r.len = 127) then (false, s) else loadLine sl g.tenant dl s).2 s := by
    split
    · rfl
    · exact hR.loadLine _ _ _ s
  generalize (if t.op = 5 ∨ (t.op = 6 ∧ t.r.len = 127) then (false, s) else Machine.loadLine sl g.tenant dl s) = x at h1 ⊢
  obtain ⟨bad, s1⟩ := x
  dsimp -zeta only
  extract_lets line
  have hwrite : ∀ b u, R.Keeps (Machine.ptabWrite id g t (Machine.storeBytes sl g.tenant t.dpa b u)) u := fun b u =>
    (hR.ptabWrite _ _ _ _).trans (hR.storeBytes _ _ _ _ u)
  have hown : R.Keeps (Machine.dirTouch sl g.tenant dl (Machine.grant n g t true (Machine.predUpdate t s1))) s1 :=
    (hR.dirTouch _ _ _ _).trans ((hR.grant _ _ _ _ _).trans (hR.predUpdate _ s1))
  clear_value fin
  refine Drift.ite _ ((hfin _ _ _).trans ((hR.unmake _ s1).trans h1)) (Drift.Keeps.trans ?_ h1)
  split
  · exact hfin _ _ _
  · exact (hfin _ _ _).trans ((hR.dirTouch _ _ _ _).trans (hR.grant _ _ _ _ s1))
  · exact (hfin _ _ _).trans hown
  · exact (hfin _ _ _).trans hown
  · exact (hfin _ _ _).trans (hwrite _ s1)
  · exact (hfin _ _ _).trans (hwrite _ s1)
  · have htouch : R.Keeps (Machine.dirTouch sl g.tenant dl (Machine.predUpdate t s1)) s1 := (hR.dirTouch _ _ _ _).trans (hR.predUpdate _ s1)
    refine Drift.ite _ ((hfin _ _ _).trans ((hR.count _ _ _ _).trans ((hR.grant _ _ _ _ _).trans htouch))) ?_
    generalize Machine.atomArgs (atomOp t.r.len.toNat) (atomSize t.r.len.toNat) t.r.payload = x
    obtain ⟨x, c⟩ := x
    exact (hfin _ _ _).trans (Drift.ite _ ((hwrite _ _).trans ((hR.count _ _ _ _).trans htouch)) ((hR.count _ _ _ _).trans htouch))

theorem ServeDrift.performWb (id n : Nat) (g : Region) (t : Trk) (s : State) : R.Keeps (performWb id n g t s) s := by
  unfold Machine.performWb
  extract_lets dl s1
  have h1 : R.Keeps s1 s := by
    unfold s1
    split
    · exact hR.setEnt _ _ s
    · rfl
  clear_value s1
  have h2 := (hR.ownerMark n g dl false s1).trans h1
  generalize Machine.ownerMark n g dl false s1 = x at h2 ⊢
  obtain ⟨rs, s2⟩ := x
  exact (hR.complete _ _ _ _ _ _).trans ((hR.bypassEnd _ _ _ _ _).trans (Drift.ite _ ((hR.storeBytes _ _ _ _ _).trans h2) h2))

theorem ServeDrift.endVictim (id : Nat) (t : Trk) (s : State) : R.Keeps (endVictim id t s) s := by
  unfold Machine.endVictim
  extract_lets s1 q s2
  have h2 : R.Keeps s2 s := (hR.anyPool s1 _).trans (hR.updDir _ s)
  clear_value s2
  split
  · exact (hR.wake _ _ _).trans h2
  · exact (hR.wake _ _ _).trans h2
  all_goals exact h2

/-! ### Reduction and computed regions -/

theorem ServeDrift.anyPoison (sl : Nat) (t : TenantId) (l : List Nat) (s : State) : R.Keeps (anyPoison sl t l s).2 s := by
  induction l generalizing s with
  | nil => rfl
  | cons a l ih =>
    have h1 := hR.loadLine sl t a s
    unfold Machine.anyPoison
    generalize Machine.loadLine sl t a s = x at h1 ⊢
    obtain ⟨p, s1⟩ := x
    simp only
    split
    · exact h1
    · exact (ih s1).trans h1

theorem ServeDrift.redData (sl : Nat) (g : Region) (m dpa len : Nat) (s : State) : R.Keeps (redData sl g m dpa len s).2 s := by
  unfold Machine.redData
  extract_lets x bank a
  split
  · rfl
  · have h1 := hR.loadLine sl g.tenant (g.recordAt m dpa / 128) s
    generalize Machine.loadLine sl g.tenant (g.recordAt m dpa / 128) s = y at h1 ⊢
    obtain ⟨p, s1⟩ := y
    simp only
    split
    · exact h1
    · split
      · exact h1
      · have h2 := (hR.loadLine sl g.tenant (a / 128) s1).trans h1
        generalize Machine.loadLine sl g.tenant (a / 128) s1 = y at h2 ⊢
        obtain ⟨p, s2⟩ := y
        simp only
        split <;> exact h2

theorem ServeDrift.redRead (sl : Nat) (g : Region) (m : Nat) (t : Trk) (s : State) : R.Keeps (redRead sl g m t s).2 s := by
  unfold Machine.redRead
  extract_lets x gen dat
  split
  · split
    · have h1 := hR.redData sl g m t.dpa (t.r.len.toNat + 1) s
      generalize Machine.redData sl g m t.dpa (t.r.len.toNat + 1) s = y at h1 ⊢
      obtain ⟨b, s1⟩ := y
      cases b <;> exact h1
    · split_ifs <;> rfl
  · have h1 := hR.loadLine sl g.tenant (g.recordAt m t.dpa / 128) s
    generalize Machine.loadLine sl g.tenant (g.recordAt m t.dpa / 128) s = y at h1 ⊢
    obtain ⟨p, s1⟩ := y
    simp only
    split <;> exact h1
  · rfl
  · rfl

theorem ServeDrift.redTake (sl n : Nat) (g : Region) (m : Nat) (t : Trk) (first : Prop) [Decidable first] (s : State) :
    R.Keeps (redTake sl n g m t first s).2 s := by
  unfold Machine.redTake
  generalize bitmapAt (leAt t.r.payload 4 2) = y
  obtain ⟨by_, bi⟩ := y
  dsimp -zeta only
  extract_lets p x gen c bank ru ra q data lines vals sat nan s0 r0 r1 s1 old words s3 s4 cnt fl s5 s6 s7 full x1 x2 s8 s9 s10 rec_
  have h0 : R.Keeps s0 s := Drift.foldl (fun s l => Drift.ite _ .rfl (hR.storeBytes _ _ _ _ s)) _ s
  clear_value s0
  have h1 : R.Keeps s1 s := Drift.ite _ ((hR.storeBytes _ _ _ _ s0).trans h0) .rfl
  clear_value s1
  have h4 : R.Keeps s4 s := (hR.storeBytes _ _ _ _ _).trans ((hR.storeBytes _ _ _ _ s1).trans h1)
  clear_value s4
  have h7 : R.Keeps s7 s := (hR.storeBytes _ _ _ _ _).trans ((hR.storeBytes _ _ _ _ _).trans ((hR.storeBytes _ _ _ _ s4).trans h4))
  clear_value s7
  have h9 : R.Keeps s9 s := (hR.count _ _ _ _).trans ((hR.rgn s7 _).trans h7)
  clear_value s9
  exact Drift.ite _ ((hR.count _ _ _ s9).trans h9) h9

theorem ServeDrift.redMapped (sl n : Nat) (g : Region) (m : Nat) (t : Trk) (first : Prop) [Decidable first] (b : Bool) (s : State) :
    R.Keeps (redMapped sl n g m t first b s).2 s := by
  unfold Machine.redMapped
  extract_lets ru ra y data
  split
  · exact hR.count _ _ _ s
  · have h1 : R.Keeps (if b = true ∨ first then (b, s) else if (g.recordLines m ru).any (fun l => s.poison.contains l) = true then (true, s)
        else Machine.anyPoison sl g.tenant [data / 128, data / 128 + 1] s).2 s := by
      split
      · rfl
      · split
        · rfl
        · exact hR.anyPoison _ _ _ s
    generalize (if b = true ∨ first then (b, s) else if (g.recordLines m ru).any (fun l => s.poison.contains l) = true then (true, s)
        else Machine.anyPoison sl g.tenant [data / 128, data / 128 + 1] s) = z at h1 ⊢
    obtain ⟨bad, s1⟩ := z
    simp only
    split
    · exact h1
    · exact (hR.redTake _ _ _ _ _ _ s1).trans h1

theorem ServeDrift.redStamped (sl n : Nat) (g : Region) (m : Nat) (t : Trk) (b : Bool) (s : State) : R.Keeps (redStamped sl n g m t b s).2 s := by
  unfold Machine.redStamped
  extract_lets ru ra gen by_ first
  exact (hR.redMapped _ _ _ _ _ first _ _).trans (Drift.iteSnd _ .rfl (hR.loadLine _ _ _ s))

theorem ServeDrift.redAdd (sl n : Nat) (g : Region) (m : Nat) (t : Trk) (s : State) : R.Keeps (redAdd sl n g m t s).2 s := by
  rw [redAdd_eq]
  exact (hR.redStamped _ _ _ _ _ _ _).trans (hR.loadLine _ _ _ s)

theorem ServeDrift.serveComputed (id n : Nat) (g : Region) (t : Trk) (s : State) : R.Keeps (serveComputed id n g t s) s := by
  unfold Machine.serveComputed
  extract_lets b mine s0
  have hwait : R.Keeps s0 s := hR.waitTrk _ _ s
  clear_value s0 mine
  refine Drift.ite _ ?_ (Drift.ite _ ((hR.comps s0 _).trans hwait) ((hR.comps s0 _).trans hwait))
  have h1 := hR.ensure t.slice b n g s
  generalize Machine.ensure t.slice b n g s = x at h1 ⊢
  obtain ⟨r, s1⟩ := x
  cases r with
  | wait w => exact (hR.waitTrk _ _ s1).trans h1
  | refuse st k => exact (hR.refuse _ _ _ s1).trans h1
  | ok =>
    dsimp -zeta only
    extract_lets s2
    have h2 : R.Keeps s2 s := (hR.bypassEnd t.slice b g false _).trans ((hR.loadLine _ _ _ _).trans ((hR.count _ _ _ s1).trans h1))
    clear_value s2
    exact Drift.ite _ ((hR.refuse _ _ _ s2).trans h2) ((hR.answer _ _ s2).trans h2)

/-! ### One tracker's run -/

theorem ServeDrift.directory (id : Nat) (t : Trk) (s : State) : R.Keeps (directory id t s).2 s := by
  unfold Machine.directory
  extract_lets line s0 e held s1 grants
  have h0 : R.Keeps s0 s := Drift.ite _ (hR.dirUse _ _ _ s) .rfl
  clear_value s0
  refine Drift.Keeps.trans ?_ h0
  refine Drift.iteSnd _ ?_ (Drift.iteSnd _ (Drift.iteSnd _ (hR.updTrk _ _ s0) (hR.waitTrk _ _ s0)) .rfl)
  have h1 : R.Keeps s1 s0 := (hR.homeEv _ _ _ _ _ _ _ _ _ _).trans (hR.count _ _ _ s0)
  clear_value s1
  refine Drift.iteSnd _ ((hR.refuse _ _ _ s1).trans h1) ?_
  have h2 : R.Keeps (if grants = true then Machine.needEntry id t s0 else (true, s0)).2 s0 := Drift.iteSnd _ (hR.needEntry _ _ s0) .rfl
  generalize (if grants = true then Machine.needEntry id t s0 else (true, s0)) = x at h2 ⊢
  obtain ⟨go, s2⟩ := x
  cases go with
  | false => exact h2
  | true =>
    refine Drift.Keeps.trans ?_ h2
    dsimp -zeta only
    split
    · exact hR.updTrk _ _ s2
    · next e _ =>
      extract_lets near upg s3 s4
      have h3 : R.Keeps s3 s2 := hR.updTrk _ _ s2
      have h4 : R.Keeps s4 s2 := by
        unfold s4
        split
        · exact (hR.sendSnoops _ _ _ s3).trans h3
        · exact h3
      clear_value s4
      split
      · exact Drift.iteSnd _ ((hR.updTrk _ _ s4).trans h4) ((hR.waitTrk _ _ s4).trans h4)
      · exact h4

theorem ServeDrift.perform (id n : Nat) (g : Region) (m : Nat) (s : State) : R.Keeps (perform id n g m s) s := by
  unfold Machine.perform
  split
  · rfl
  · next t _ =>
    extract_lets b
    refine Drift.ite _ ((hR.endVictim _ _ _).trans (hR.bypassEnd _ _ _ _ s)) (Drift.ite _ (hR.performWb _ _ _ _ s) (Drift.ite _ ?_
      (Drift.ite _ ?_ (Drift.ite _ ?_ (hR.performLine _ _ _ _ s)))))
    · exact (hR.complete _ _ _ _ _ _).trans ((hR.bypassEnd _ _ _ _ _).trans (hR.redAdd t.slice n g m t s))
    · exact (hR.complete _ _ _ _ _ _).trans ((hR.bypassEnd _ _ _ _ _).trans (hR.redRead t.slice g m t s))
    · have h1 := hR.redData t.slice g m t.dpa (t.r.len.toNat + 1) s
      generalize Machine.redData t.slice g m t.dpa (t.r.len.toNat + 1) s = x at h1 ⊢
      obtain ⟨d, s1⟩ := x
      cases d with
      | some d => exact (hR.complete _ _ _ _ _ _).trans ((hR.bypassEnd _ _ _ _ s1).trans h1)
      | none => exact (hR.complete _ _ _ _ _ _).trans ((hR.bypassEnd _ _ _ _ s1).trans h1)

/-- What a tracker does once its line is its own and it may begin: directory, blocks, operation. -/
def serveLocked (id : Nat) (t : Trk) (g : Region) (s : State) : State :=
  match (if g.kind = 1 then directory id t s else (true, s)) with
  | (false, s) => s
  | (true, s) =>
    let t' := (s.trk id).getD t
    let m := (s.memberOf g).getD 0
    let dry := t'.op = 0x41 ∨ (t'.op = 0x50 ∧ t'.data.isNone ∧ !t'.poisoned)
    match (if dry then (Res.ok, s) else ensureAll t.slice t.region g (needBlocks g m t) s) with
    | (.wait w, s) => s.waitTrk id w
    | (.refuse st h, s) => if t'.op = 0x50 then endVictim id t' s else refuse id st h s
    | (.ok, s) => perform id t.region g m (if g.kind = 1 then applySnoop id t.region g s else s)

theorem ServeDrift.serveLocked (id : Nat) (t : Trk) (g : Region) (s : State) : R.Keeps (serveLocked id t g s) s := by
  unfold Machine.serveLocked
  have h1 : R.Keeps (if g.kind = 1 then Machine.directory id t s else (true, s)).2 s := Drift.iteSnd _ (hR.directory _ _ s) .rfl
  generalize (if g.kind = 1 then Machine.directory id t s else (true, s)) = x at h1 ⊢
  obtain ⟨go, s1⟩ := x
  cases go with
  | false => exact h1
  | true =>
    refine Drift.Keeps.trans ?_ h1
    dsimp -zeta only
    extract_lets t' m dry
    have h2 : R.Keeps (if dry then (Res.ok, s1) else Machine.ensureAll t.slice t.region g (needBlocks g m t) s1).2 s1 :=
      Drift.iteSnd _ .rfl (hR.ensureAll _ _ _ _ s1)
    generalize (if dry then (Res.ok, s1) else Machine.ensureAll t.slice t.region g (needBlocks g m t) s1) = x at h2 ⊢
    obtain ⟨r, s2⟩ := x
    refine Drift.Keeps.trans ?_ h2
    cases r with
    | wait w => exact hR.waitTrk _ _ s2
    | refuse st k => exact Drift.ite _ (hR.endVictim _ _ s2) (hR.refuse _ _ _ s2)
    | ok => exact (hR.perform _ _ _ _ _).trans (Drift.ite _ (hR.applySnoop _ _ _ s2) .rfl)

/-- What a tracker of a region that is not computed does (R154). -/
def serveLine (id : Nat) (t : Trk) (g : Region) (s : State) : State :=
  let ahead := (s.pool.trks.takeWhile fun x => x.id ≠ id).any fun x => x.lk = t.lk && x.wait = .lock
  let early := if t.op = 0x10 then redCheck g t.r.payload else none
  if !t.locked ∧ early.isSome then
    refuse id (early.getD (0, 0)).1 (early.getD (0, 0)).2 (if (early.getD (0, 0)).1 = stSTALE_GENERATION then s.count .RED_STALE_CNT (t.slice / 4) else s)
  else if g.kind = 1 ∧ t.op < 0x40 ∧ s.pool.flushes.any (fun f => f.slice = t.slice) then s.waitTrk id .flush
  else if !t.locked ∧ (s.lockHeld t.lk ∨ ahead) then s.waitTrk id .lock
  else
    match (if t.dirPh = 0 then s.durableGate g t.op else .ok) with
    | .refuse st h => refuse id st h (s.updTrk id fun t => { t with locked := true })
    | .wait w => (s.updTrk id fun t => { t with locked := true }).waitTrk id w
    | .ok => serveLocked id t g (s.updTrk id fun t => { t with locked := true })

omit hR in
theorem serve_eq (id : Nat) (s : State) : serve id s = match s.trk id with
    | none => s
    | some t =>
      if t.ans.isSome then s
      else
        match s.region t.region with
        | none => refuse id stFATAL_REGION 0 s
        | some g => if g.kind = 3 then serveComputed id t.region g t s else serveLine id t g s := by
  rfl

theorem ServeDrift.serveLine (id : Nat) (t : Trk) (g : Region) (s : State) : R.Keeps (serveLine id t g s) s := by
  have hlock : R.Keeps (s.updTrk id fun t => { t with locked := true }) s := hR.updTrk _ _ s
  unfold Machine.serveLine
  extract_lets ahead early
  refine Drift.ite _ ((hR.refuse _ _ _ _).trans (Drift.ite _ (hR.count _ _ _ s) .rfl)) (Drift.ite _ (hR.waitTrk _ _ s) (Drift.ite _ (hR.waitTrk _ _ s) ?_))
  split
  · exact (hR.refuse _ _ _ _).trans hlock
  · exact (hR.waitTrk _ _ _).trans hlock
  · exact (hR.serveLocked _ _ _ _).trans hlock

theorem ServeDrift.serve (id : Nat) (s : State) : R.Keeps (serve id s) s := by
  rw [serve_eq]
  split
  · rfl
  · refine Drift.ite _ .rfl ?_
    split
    · exact hR.refuse _ _ _ s
    · exact Drift.ite _ (hR.serveComputed _ _ _ _ s) (hR.serveLine _ _ _ s)

theorem ServeDrift.runReady (n : Nat) (s : State) : R.Keeps (runReady n s) s := by
  induction n generalizing s with
  | zero => rfl
  | succ n ih =>
    unfold Machine.runReady
    split
    · exact (ih _).trans ((hR.serve _ _).trans (hR.waitTrk _ _ s))
    · rfl

/-! ### Everything of the pool that can go on -/

theorem ServeDrift.fixFills (s : State) : R.Keeps (fixFills s) s :=
  Drift.ite _ ((hR.wake _ _ _).trans ((hR.wake _ _ _).trans (hR.anyPool s _))) .rfl

theorem ServeDrift.flushDirty (sl : Nat) (s : State) : R.Keeps (flushDirty sl s) s :=
  Drift.foldl (fun _ _ => Drift.ite _ .rfl (Drift.getD fun _ ht => hR.evict _ _ _ ht)) _ s

theorem ServeDrift.emptyCache (sl : Nat) (s : State) : R.Keeps (emptyCache sl s) s := by
  unfold Machine.emptyCache
  extract_lets c q s1 clean s2
  have h1 : R.Keeps s1 s := (hR.flushDirty _ _).trans (hR.anyPool s _)
  clear_value s1
  have h2 : R.Keeps s2 s := (Drift.foldl (fun s x => (hR.dropBlock _ _).trans (hR.setTags _ _ _ s)) _ s1).trans h1
  clear_value s2
  exact Drift.ite _ .rfl (Drift.ite _ ((hR.wake _ _ _).trans ((hR.tagsInvalid _ _).trans ((hR.chans s2 _).trans h2))) h2)

theorem ServeDrift.evacNext (sl : Nat) (s : State) : R.Keeps (evacNext sl s) s := by
  unfold Machine.evacNext
  extract_lets mine gone s1
  have h1 : R.Keeps s1 s := Drift.ite _ .rfl (hR.updDir _ s)
  clear_value s1
  refine Drift.ite _ .rfl ?_
  split
  · exact (hR.startVictim _ _ _ _ s1).trans h1
  · exact h1

theorem ServeDrift.fixDirs (s : State) : R.Keeps (fixDirs s) s := by
  refine Drift.foldl (fun s c => Drift.ite _ (Drift.ite _ (hR.evacNext _ s) .rfl) ?_) _ s
  split
  · exact Drift.ite _ (hR.evacNext _ s) (hR.chans s _)
  · rfl

theorem ServeDrift.fixSets (s : State) : R.Keeps (fixSets s) s := by
  unfold Machine.fixSets
  extract_lets s1
  have h1 : R.Keeps s1 s := Drift.ite _ (hR.fixDirs s) .rfl
  clear_value s1
  exact Drift.ite _ ((Drift.foldl (fun s sl => hR.emptyCache _ s) _ s1).trans h1) h1

theorem ServeDrift.memDone (s : State) : R.Keeps (memDone s) s :=
  (hR.finishReady _).trans ((hR.runReady _ _).trans ((hR.fixSets _).trans (hR.fixFills s)))

theorem ServeDrift.xresume (w : XWait) (a : Acc) (s : State) : R.Keeps (xresume w a s) s := by
  unfold Machine.xresume
  extract_lets p1 s1 q src s2 s3
  have h1 : R.Keeps s1 s := (hR.dropAcc _ _).trans (hR.anyPool s _)
  clear_value s1
  refine Drift.Keeps.trans ?_ h1
  refine Drift.ite _ ?_ ((hR.refuseReq _ _ _ _ _ _ _).trans (hR.xlatFault _ _ _ _ _ s1))
  have h2 : R.Keeps s2 s1 := by
    unfold s2
    split
    · exact hR.tcInstall _ _ _ _ _ _ s1
    · rfl
  clear_value s2
  have h3 : R.Keeps s3 s1 := (hR.request _ _ _ _ _ _ s2).trans h2
  clear_value s3
  exact Drift.ite _ h3 ((hR.send _ _).trans ((hR.tcDropLine _ s3).trans h3))

theorem ServeDrift.memPump (n : Nat) (s : State) : R.Keeps (memPump n s) s := by
  induction n generalizing s with
  | zero => rfl
  | succ n ih =>
    unfold Machine.memPump
    extract_lets s1
    have h1 : R.Keeps s1 s := hR.memDone s
    clear_value s1
    split
    · split
      · exact (ih _).trans ((hR.xresume _ _ s1).trans h1)
      · exact h1
    · exact Drift.ite _ ((ih s1).trans h1) h1

theorem ServeDrift.beginAcc (ag : Agent) (op : Nat) (h : Option W16) (a len : Nat) (d : Bytes) (s : State) : R.Keeps (beginAcc ag op h a len d s) s :=
  (hR.memPump _ _).trans ((hR.startAcc _ _).trans (hR.newAcc ag op h a len d s))

end

end Sys2Proof.Machine
end

section
/-! PROOFS. Tasks: submitted through their checks, cancelled, and read back (R272, R279 to R283). -/

namespace Sys2Proof.Machine

variable {s : State}

/-! ### What the checks of a submission change (R280) -/

section
variable {R : Drift} (hR : ServeDrift R)
include hR

theorem ServeDrift.gatherLines (ag : Agent) (op : Nat) (h : Option W16) (d : Bytes) (l : List (Nat × Nat)) (s : State) :
    R.Keeps (gatherLines ag op h d l s).2 s := Drift.foldl (fun s _ => Drift.ite _ .rfl (hR.beginAcc _ _ _ _ _ _ s)) _ s

theorem ServeDrift.transStep (h : W16) (op ca : Nat) (s : State) : R.Keeps (transStep h op ca s).2 s := by
  unfold Machine.transStep
  split
  · rfl
  · next c _ =>
    extract_lets q go res
    have hres : ∀ x, R.Keeps (res x).2 x.2 := fun x => by
      obtain ⟨x, t⟩ := x
      cases x with
      | ok => rfl
      | fail => exact hR.xlatFault _ _ _ _ _ t
      | miss => rfl
    have hgo : ∀ u, R.Keeps (go u).2 u := fun u => hR.xlate _ _ _ _ _ _ _ _ _ _ u
    have h1 := hgo s
    clear_value go res
    generalize go s = x at h1 ⊢
    obtain ⟨x, t⟩ := x
    refine Drift.Keeps.trans ?_ h1
    cases x with
    | ok => rfl
    | fail => exact hR.xlatFault _ _ _ _ _ t
    | miss line =>
      dsimp -zeta only
      split
      · dsimp only
        exact hR.beginAcc _ _ _ _ _ _ t
      · next a _ =>
        have hfault := (hR.xlatFault q 4 h (t.dropAcc a.n).myId ca (t.dropAcc a.n)).trans (hR.dropAcc a.n t)
        refine Drift.iteSnd _ .rfl (Drift.iteSnd _ hfault ?_)
        have h2 := (hres _).trans ((hgo _).trans ((hR.tcInstall q h c ca line a.res (t.dropAcc a.n)).trans (hR.dropAcc a.n t)))
        generalize res (go (Machine.tcInstall q h c ca line a.res (t.dropAcc a.n))) = y at h2 ⊢
        obtain ⟨r, u⟩ := y
        exact Drift.ite _ h2 ((hR.send _ _).trans ((hR.tcDropLine _ u).trans h2))

theorem ServeDrift.bindArgs (h : W16) (t : Task) (p : Image) (l : List Nat) (s : State) : R.Keeps (bindArgs h t p l s).2 s := by
  induction l generalizing s with
  | nil => rfl
  | cons i l ih =>
    unfold Machine.bindArgs
    extract_lets d
    refine Drift.iteSnd _ (ih s) ?_
    have h1 := hR.transStep h (if p.written.contains i then 5 else 1) (t.tensorCa d) s
    generalize Machine.transStep h (if p.written.contains i then 5 else 1) (t.tensorCa d) s = x at h1 ⊢
    obtain ⟨x, u⟩ := x
    rcases x with _ | (st | y)
    · exact h1
    · exact h1
    · exact (ih u).trans h1

end

/-! ### A task that the checks pass on is the task submitted, but for its image and arguments -/

/-- The same task: of one context, queue and TAG, under one number. -/
def Task.Same (t x : Task) : Prop := t.ctx = x.ctx ∧ t.queue = x.queue ∧ t.tag = x.tag ∧ t.seq = x.seq

theorem submitRest_effect {R : Drift} (hR : ServeDrift R) (t : Task) (need : Nat) (s : State) :
    R.Keeps (submitRest t need s).2 s ∧ ∀ x, (submitRest t need s).1 = .ok x → x.Same t := by
  unfold submitRest
  extract_lets h p
  have h1 := hR.gatherLines (.task t.seq) 1 (some h) [] [(leAt t.desc 0x30 8, 128)] s
  generalize gatherLines (.task t.seq) 1 (some h) [] [(leAt t.desc 0x30 8, 128)] s = y at h1 ⊢
  obtain ⟨y, s1⟩ := y
  cases y with
  | none => exact ⟨h1, fun x hx => Sub.noConfusion hx⟩
  | some y =>
    obtain ⟨st, b⟩ := y
    dsimp -zeta only
    split
    · exact ⟨h1, fun x hx => Sub.noConfusion hx⟩
    · extract_lets t'
      have h2 := (hR.bindArgs h t' p (List.range p.nT) s1).trans h1
      generalize bindArgs h t' p (List.range p.nT) s1 = y at h2 ⊢
      obtain ⟨y, s2⟩ := y
      cases y with
      | none => exact ⟨h2, fun x hx => Sub.noConfusion hx⟩
      | some st =>
        dsimp -zeta only
        split
        · exact ⟨h2, fun x hx => Sub.noConfusion hx⟩
        · split
          · exact ⟨h2, fun x hx => Sub.noConfusion hx⟩
          · split
            · split
              · exact ⟨h2, fun x hx => by cases hx; exact ⟨rfl, rfl, rfl, rfl⟩⟩
              · exact ⟨h2, fun x hx => Sub.noConfusion hx⟩
            · exact ⟨h2, fun x hx => Sub.noConfusion hx⟩

theorem submitChecks_effect {R : Drift} (hR : ServeDrift R) (t : Task) (s : State) :
    R.Keeps (submitChecks t s).2 s ∧ ∀ x, (submitChecks t s).1 = .ok x → x.Same t := by
  have hfail : ∀ st, R.Keeps (Sub.fail st, s).2 s ∧ ∀ x, (Sub.fail st, s).1 = .ok x → x.Same t := fun st => ⟨.rfl, fun x hx => Sub.noConfusion hx⟩
  unfold submitChecks
  extract_lets d tn
  split
  · exact hfail _
  · split
    · exact hfail _
    · split
      · split
        · split
          · exact submitRest_effect hR _ _ s
          · exact hfail _
        · exact hfail _
      · split
        · exact hfail _
        · have h1 := hR.gatherLines (.task t.seq) 1 (some (s.handleOf t.ctx)) [] [(leAt d 0x48 8, leAt d 0x50 4)] s
          generalize gatherLines (.task t.seq) 1 (some (s.handleOf t.ctx)) [] [(leAt d 0x48 8, leAt d 0x50 4)] s = y at h1 ⊢
          obtain ⟨y, s1⟩ := y
          have hfail1 : ∀ st, R.Keeps (Sub.fail st, s1).2 s ∧ ∀ x, (Sub.fail st, s1).1 = .ok x → x.Same t :=
            fun st => ⟨h1, fun x hx => Sub.noConfusion hx⟩
          cases y with
          | none => exact ⟨h1, fun x hx => Sub.noConfusion hx⟩
          | some y =>
            obtain ⟨st, b⟩ := y
            dsimp -zeta only
            split
            · exact hfail1 _
            · split
              · exact hfail1 _
              · exact hfail1 _
              · split
                · obtain ⟨h2, h3⟩ := submitRest_effect hR { t with image := b } (workNeed (imageOf b) (Config.lowering b).1 (Config.lowering b).2) s1
                  exact ⟨h2.trans h1, h3⟩
                · exact hfail1 _

/-! ### The tasks a submission meets -/

/-- The commands under way, the number of the last task, and the tasks. -/
def State.submitted (s : State) : List CmdWait × Nat × List Task := (s.work.cmds, s.work.taskSeq, s.work.tasks)

theorem submitChecks_submitted (t : Task) (s : State) : (submitChecks t s).2.submitted = s.submitted :=
  (submitChecks_effect (R := keptPart State.submitted) { keptPart_store (offStore_of_fields (fun _ _ => rfl) (fun _ _ => rfl) (fun _ _ => rfl)
      (fun _ _ => rfl) (fun _ _ => rfl) (fun _ _ => rfl) (fun _ _ => rfl) (fun _ _ => rfl) (fun _ _ => rfl) (fun _ _ => rfl) (fun _ _ => rfl)
      (fun _ _ => rfl) (fun _ _ => rfl)) with
    anyPool := fun _ _ => rfl, free := fun _ _ => rfl, rgn := fun _ _ => rfl, accs := fun _ _ _ => rfl, comps := fun _ _ => rfl } t s).1

/-- The commands under way, the number of the last task, and the numbers of the tasks. -/
def State.numbered (s : State) : List CmdWait × Nat × List Nat := (s.work.cmds, s.work.taskSeq, s.work.tasks.map Task.seq)

theorem updTask_numbered {n : Nat} {f : Task → Task} (hf : ∀ t, t.seq = n → (f t).seq = n) (s : State) : (s.updTask n f).numbered = s.numbered := by
  have hmap : (s.updTask n f).work.tasks.map Task.seq = s.work.tasks.map Task.seq := by
    unfold State.updTask
    rw [List.map_map]
    refine List.map_congr_left fun t _ => ?_
    show Task.seq (if t.seq = n then f t else t) = t.seq
    split
    · next h => exact (hf t h).trans h.symm
    · rfl
  unfold State.numbered
  rw [hmap]
  rfl

theorem count_numbered (r : Reg) (u n : Nat) (s : State) : (s.count r u n).numbered = s.numbered :=
  count_keeps State.numbered (fun _ _ => rfl) (fun _ _ => rfl) s r u n

theorem finalise_numbered (n st : Nat) (b : Byte) (s : State) : (finalise n st b s).numbered = s.numbered := by
  have hsend : ∀ m s, (send m s).numbered = s.numbered := fun m s =>
    send_keeps State.numbered (fun _ _ => rfl) (fun _ _ => rfl) (fun _ _ => rfl) (fun _ _ => rfl) s m
  have hdel : ∀ t s, (deliver t s).numbered = s.numbered := fun t s => by
    unfold deliver
    split
    · exact updTask_numbered (by exact fun _ h => h) s
    · split
      · exact (hsend _ _).trans (updTask_numbered (by exact fun _ h => h) s)
      · rfl
  unfold finalise
  split
  · rfl
  · next t ht =>
    split
    · rfl
    · have hn : t.seq = n := by simpa using List.find?_some ht
      have hkill : ∀ ag u, (killAccs ag u).numbered = u.numbered := fun _ _ => rfl
      exact (hdel _ _).trans ((count_numbered _ _ _ _).trans ((hkill _ _).trans ((hkill _ _).trans (updTask_numbered (by exact fun _ _ => hn) s))))

theorem waitUpdate_numbered (s : State) : (waitUpdate s).numbered = s.numbered := by
  refine foldl_keeps State.numbered _ (fun s x => ?_) _ s
  split
  · split
    · rfl
    · split
      · exact (finalise_numbered _ _ _ _).trans (updTask_numbered (by exact fun _ h => h) s)
      · split
        · exact updTask_numbered (by exact fun _ h => h) s
        · rfl
  · rfl

/-- A task as it is submitted. -/
def Task.fresh (i qn : Nat) (d : Bytes) (n : Nat) : Task :=
  { ctx := i, queue := qn, tag := w32 (leAt d 0 4), desc := d, image := [], prog := none, st := 0, seq := n, op := 0, begun := false, lastSeen := false,
    failing := false, late := false, status := 0, flags := 0, cause := 0, opIndex := 0xFFFF, startNs := 0, endNs := 0, genAt := 0, wrote := [],
    advancing := [], recDone := false, phase := 0 }

/-- A new task is the last, under the next number. -/
theorem newTask_effect (i qn : Nat) (d : Bytes) (s : State) (hseq : ∀ y ∈ s.work.tasks, y.seq ≤ s.work.taskSeq) :
    (newTask i qn d s).1 = s.work.taskSeq + 1 ∧ (newTask i qn d s).2.work.taskSeq = s.work.taskSeq + 1 ∧ (newTask i qn d s).2.work.cmds = s.work.cmds ∧
      ∃ l, (newTask i qn d s).2.work.tasks = l ++ [Task.fresh i qn d (s.work.taskSeq + 1)] ∧ ∀ y ∈ l, y.seq ≠ s.work.taskSeq + 1 := by
  have hnum := waitUpdate_numbered s
  have hcmds : (waitUpdate s).work.cmds = s.work.cmds := congrArg Prod.fst hnum
  have htask : (waitUpdate s).work.taskSeq = s.work.taskSeq := congrArg (fun x => x.2.1) hnum
  have hseqs : (waitUpdate s).work.tasks.map Task.seq = s.work.tasks.map Task.seq := congrArg (fun x => x.2.2) hnum
  have hle : ∀ y ∈ (waitUpdate s).work.tasks, y.seq ≠ s.work.taskSeq + 1 := fun y hy => by
    obtain ⟨z, hz, hzy⟩ := List.mem_map.1 (hseqs ▸ List.mem_map_of_mem (f := Task.seq) hy)
    have := hseq z hz
    omega
  unfold newTask
  generalize waitUpdate s = u at hcmds htask hle
  simp only
  rw [← htask] at hle ⊢
  have hwork : ∀ v : State, (v.count .TASK_SUB_CNT).work = v.work := fun v => count_work _ _ _ _
  refine ⟨rfl, by rw [hwork], by rw [hwork]; exact hcmds, _, by rw [hwork]; rfl, fun y hy => hle y (List.mem_filter.1 hy).1⟩

/-- A task is found by its number where no task before it has that. -/
theorem taskBy_last {l : List Task} {x : Task} (ht : s.work.tasks = l ++ [x]) (hl : ∀ y ∈ l, y.seq ≠ x.seq) : s.taskBy x.seq = some x := by
  unfold State.taskBy
  rw [ht, List.find?_append, List.find?_eq_none.2 fun y hy => by simpa using hl y hy]
  simp

/-- The one command that submits the task is found. -/
theorem submitCmd_only {l : List CmdWait} {n : Nat} {h : CmdHdr} {d : Bytes} {t : Task} (hc : s.work.cmds = l ++ [⟨n, .taskSubmit h d⟩])
    (hno : ∀ w ∈ l, ∀ (k : CmdHdr) (b : Bytes), w.cmd ≠ .taskSubmit k b) (h1 : ctxIndex h.handle = t.ctx) (h2 : h.queue.toNat = t.queue)
    (h3 : w32 (leAt d 0 4) = t.tag) : s.submitCmd t = some (n, h) := by
  unfold State.submitCmd
  rw [hc, List.findSome?_append, List.findSome?_eq_none_iff.2 fun w hw => ?_]
  · simp [h1, h2, h3]
  · split
    · next k b hk => exact absurd hk (hno w hw k b)
    · rfl

/-! ### A task's submission (R280) -/

theorem submitStep_eq {n : Nat} {x : Task} (hx : s.taskBy n = some x) (hst : x.st = 0) : submitStep n s =
    match submitChecks x s with
    | (.wait, s) => s
    | (.fail st, s) =>
      match s.submitCmd x with
      | some (i, h) =>
        (dropAccs (.task n) { replySt h 0x131 st (cmdClose i s) with
          work := { (replySt h 0x131 st (cmdClose i s)).work with tasks := (replySt h 0x131 st (cmdClose i s)).work.tasks.filter fun x => x.seq ≠ n } }).count
          .TASK_FAIL_CNT
      | none => finalise n 5 st s
    | (.ok t, s) =>
      let t := settleWaits t s
      let s := dropAccs (.task n) (s.updTask n fun _ => { t with st := if s.waitsMet t then 2 else 1 })
      match s.submitCmd t with
      | some (i, h) => replyOk h 0x131 [] (cmdClose i s)
      | none => s := by
  unfold submitStep
  rw [hx]
  simp only [hst, ne_eq, not_true_eq_false, if_false] <;> rfl

/-- What an issuer reads of an answer that has gone stays as it is when a task is counted and forgotten. -/
theorem replied_count {h : CmdHdr} {cmd : Nat} {st : Byte} {code : Nat} {res : Bytes} (hr : s.Replied h cmd st code res) (c : Reg) (hc : c.info.cnt = true) :
    (s.count c).Replied h cmd st code res := by
  refine replied_of_speaks hr (said_store.count c 0 1 s) (fun a ha => ?_) fun r i hcnt hi => ?_
  · rw [count_coord]
    exact ha
  · exact (offSays_reg hcnt hi).count s c 0 1 hc (by decide)

section
variable {n i : Nat} {x : Task} {h : CmdHdr} (hx : s.taskBy n = some x) (hst : x.st = 0) (hn : x.seq = n)
include hx hst

theorem submitStep_waits (hc : (submitChecks x s).1 = .wait) : (submitStep n s).submitted = s.submitted := by
  have hsub := submitChecks_submitted x s
  rw [submitStep_eq hx hst]
  generalize submitChecks x s = y at hc hsub ⊢
  obtain ⟨y, u⟩ := y
  cases hc
  exact hsub

variable (hcmd : ∀ u : State, u.work.cmds = s.work.cmds → ∀ t : Task, t.Same x → u.submitCmd t = some (i, h))
include hcmd

theorem submitStep_fails {st : Byte} (hc : (submitChecks x s).1 = .fail st) : (submitStep n s).work.taskSeq = s.work.taskSeq ∧
    (submitStep n s).Replied h 0x131 st 0 [] ∧ ∀ y ∈ (submitStep n s).work.tasks, y.seq ≠ n := by
  have hsub := submitChecks_submitted x s
  rw [submitStep_eq hx hst]
  generalize submitChecks x s = y at hc hsub ⊢
  obtain ⟨y, u⟩ := y
  cases hc
  have hcu := hcmd u (congrArg Prod.fst hsub) x ⟨rfl, rfl, rfl, rfl⟩
  have hseq : u.work.taskSeq = s.work.taskSeq := congrArg (fun x => x.2.1) hsub
  simp only
  rw [hcu]
  simp only
  have hwork : (replySt h 0x131 st (cmdClose i u)).work = (cmdClose i u).work := reply_work _ _ _ _ _ _ _
  obtain ⟨hreply, v, hv⟩ : (replySt h 0x131 st (cmdClose i u)).Replied h 0x131 st 0 [] ∧ ∃ v, v = replySt h 0x131 st (cmdClose i u) :=
    ⟨replySt_replied_any h st (by decide), _, rfl⟩
  rw [← hv] at hwork hreply ⊢
  have htasks : ∀ y ∈ (dropAccs (.task n) { v with work := { v.work with tasks := v.work.tasks.filter fun x => x.seq ≠ n } }).work.tasks, y.seq ≠ n :=
    fun y hy => by simpa using (List.mem_filter.1 hy).2
  have hreply' : (dropAccs (.task n) { v with work := { v.work with tasks := v.work.tasks.filter fun x => x.seq ≠ n } }).Replied h 0x131 st 0 [] := hreply
  refine ⟨?_, replied_count hreply' .TASK_FAIL_CNT rfl, ?_⟩
  · rw [count_work]
    exact (congrArg WorkSt.taskSeq hwork).trans hseq
  · rw [count_work]
    exact htasks

include hn

theorem submitStep_passes {t : Task} (hc : (submitChecks x s).1 = .ok t) (hm : x ∈ s.work.tasks) : (submitStep n s).work.taskSeq = s.work.taskSeq ∧
    (submitStep n s).Replied h 0x131 0 0 [] ∧ ∃ y ∈ (submitStep n s).work.tasks, y.seq = n ∧ (y.st = 1 ∨ y.st = 2) := by
  have hsub := submitChecks_submitted x s
  have hsame : t.Same x := (submitChecks_effect (R := keptPart fun _ => ()) ⟨⟨fun _ _ => rfl, fun _ _ _ _ => rfl, fun _ _ => rfl, fun _ _ => rfl,
    fun _ _ => rfl, fun _ _ => rfl, fun _ _ => rfl, fun _ _ => rfl, fun _ _ => rfl, fun _ _ => rfl, fun _ _ => rfl, fun _ _ _ _ _ => rfl⟩,
    fun _ _ => rfl, fun _ _ => rfl, fun _ _ => rfl, fun _ _ _ => rfl, fun _ _ => rfl⟩ x s).2 t hc
  rw [submitStep_eq hx hst]
  generalize submitChecks x s = y at hc hsub ⊢
  obtain ⟨y, u⟩ := y
  cases hc
  have hseq : u.work.taskSeq = s.work.taskSeq := congrArg (fun x => x.2.1) hsub
  have htasks : u.work.tasks = s.work.tasks := congrArg (fun x => x.2.2) hsub
  dsimp -zeta only
  extract_lets t' v
  have hsame' : t'.Same x := hsame
  have hv : v.work.taskSeq = u.work.taskSeq ∧ v.work.cmds = u.work.cmds ∧ ∃ y ∈ v.work.tasks, y.seq = n ∧ (y.st = 1 ∨ y.st = 2) := by
    refine ⟨rfl, rfl, { t' with st := if u.waitsMet t' then 2 else 1 }, List.mem_map.2 ⟨x, htasks ▸ hm, if_pos hn⟩, hsame'.2.2.2.trans hn, ?_⟩
    show (if u.waitsMet t' = true then 2 else 1) = 1 ∨ (if u.waitsMet t' = true then 2 else 1) = 2
    split
    · exact .inr rfl
    · exact .inl rfl
  obtain ⟨hv1, hv2, y, hy, hyn, hyst⟩ := hv
  clear_value v
  rw [hcmd v (hv2.trans (congrArg Prod.fst hsub)) t' hsame']
  have hwork : (replyOk h 0x131 [] (cmdClose i v)).work = (cmdClose i v).work := reply_work _ _ _ _ _ _ _
  refine ⟨?_, replyOk_replied _ _ _ _, y, ?_, hyn, hyst⟩
  · exact (congrArg WorkSt.taskSeq hwork).trans (hv1.trans hseq)
  · exact (congrArg WorkSt.tasks hwork).symm ▸ hy

end

section
variable {h : CmdHdr} {t : TenantId} {c : Ctx} (hh : s.su.held = false) (hc : s.classOf h.iss = .ta t ∨ s.classOf h.iss = .host t)
  (hl : s.liveCtx h.handle = some c) (ht : c.tenant = t) (h8 : h.queue.toNat < 8)
include hh hc hl ht h8

theorem taskSubmit_refused_completes {d : Bytes} {q : Queue} (hk : s.kcoreEn = true) (hr : s.rings t = false) (hd : d.length = 128)
    (hq : s.cmdQueue h c = some q) (hroom : s.taskRoom (ctxIndex h.handle) = false) : Completes (.taskSubmit h d) s fun u =>
      u.work = s.work ∧ u.Replied h 0x131 stRETRY_BUSY 0 [] := by
  refine completes_of_pumped (taskSubmitRun h d) rfl hh ?_
  have hrun : taskSubmitRun h d s = replyBusy h 0x131 100000 s := by
    unfold taskSubmitRun
    rw [tenantHost_of_tenant hc, hl]
    simp only
    rw [if_neg (by simp [ht]), if_neg (by simp [hk, hr]), if_neg (by simp [hd, h8]), hq]
    exact if_pos (by simp [hroom])
  rw [hrun]
  have hreply := reply_replied s h 0x131 stRETRY_BUSY 0 (hintNs 100000) [] (.inr (.inr (by decide)))
  exact ⟨reply_work _ _ _ _ _ _ _, by simpa [replyBusy, stRETRY_BUSY, stSTATE_CONFLICT] using hreply⟩

theorem taskSubmit_absent_completes {d : Bytes} (hk : s.kcoreEn = true) (hr : s.rings t = false) (hd : d.length = 128) (hq : s.cmdQueue h c = none) :
    Completes (.taskSubmit h d) s fun u => u.work = s.work ∧ u.Replied h 0x131 3 0 [] := by
  refine completes_of_pumped (taskSubmitRun h d) rfl hh ?_
  have hrun : taskSubmitRun h d s = replyConflict h 0x131 0 s := by
    unfold taskSubmitRun
    rw [tenantHost_of_tenant hc, hl]
    simp only
    rw [if_neg (by simp [ht]), if_neg (by simp [hk, hr]), if_neg (by simp [hd, h8]), hq]
  rw [hrun]
  exact ⟨reply_work _ _ _ _ _ _ _, replyConflict_replied _ _ _ _ (by decide)⟩

theorem taskSubmit_completes {d : Bytes} {q : Queue} (hk : s.kcoreEn = true) (hr : s.rings t = false) (hd : d.length = 128)
    (hq : s.cmdQueue h c = some q) (hroom : s.taskRoom (ctxIndex h.handle) = true)
    (hno : ∀ w ∈ s.work.cmds, ∀ (k : CmdHdr) (b : Bytes), w.cmd ≠ .taskSubmit k b) (hseq : ∀ y ∈ s.work.tasks, y.seq ≤ s.work.taskSeq) :
    Completes (.taskSubmit h d) s fun u =>
      let v := newTask (ctxIndex h.handle) h.queue.toNat d (cmdOpen (.taskSubmit h d) s).2
      u.work.taskSeq = s.work.taskSeq + 1 ∧ ∃ x : Task, v.2.taskBy v.1 = some x ∧ x.st = 0 ∧ x.desc = d ∧
        match (submitChecks x v.2).1 with
        | .wait => ∃ y ∈ u.work.tasks, y.seq = v.1 ∧ y.st = 0
        | .fail st => u.Replied h 0x131 st 0 [] ∧ ∀ y ∈ u.work.tasks, y.seq ≠ v.1
        | .ok _ => u.Replied h 0x131 0 0 [] ∧ ∃ y ∈ u.work.tasks, y.seq = v.1 ∧ (y.st = 1 ∨ y.st = 2) := by
  refine completes_of_pumped (taskSubmitRun h d) rfl hh ?_
  have hrun : taskSubmitRun h d s = submitStep (newTask (ctxIndex h.handle) h.queue.toNat d (cmdOpen (.taskSubmit h d) s).2).1
      (newTask (ctxIndex h.handle) h.queue.toNat d (cmdOpen (.taskSubmit h d) s).2).2 := by
    unfold taskSubmitRun
    rw [tenantHost_of_tenant hc, hl]
    simp only
    rw [if_neg (by simp [ht]), if_neg (by simp [hk, hr]), if_neg (by simp [hd, h8]), hq]
    exact if_neg (by simp [hroom])
  rw [hrun]
  obtain ⟨hn, hts, hcmds, l, htasks, hl⟩ := newTask_effect (ctxIndex h.handle) h.queue.toNat d (cmdOpen (.taskSubmit h d) s).2 hseq
  generalize newTask (ctxIndex h.handle) h.queue.toNat d (cmdOpen (.taskSubmit h d) s).2 = v at hn hts hcmds htasks ⊢
  obtain ⟨n, v⟩ := v
  obtain ⟨x, hx⟩ : ∃ x, x = Task.fresh (ctxIndex h.handle) h.queue.toNat d (s.work.taskSeq + 1) := ⟨_, rfl⟩
  have hnx : x.seq = n := hx ▸ hn.symm
  have htasks : v.work.tasks = l ++ [x] := htasks.trans (by rw [hx]; rfl)
  have hby : v.taskBy n = some x := by
    rw [← hnx]
    exact taskBy_last htasks fun y hy => by rw [hx]; exact hl y hy
  have hst : x.st = 0 := hx ▸ rfl
  have hmem : x ∈ v.work.tasks := htasks ▸ List.mem_append_right _ List.mem_cons_self
  have hcmd : ∀ u : State, u.work.cmds = v.work.cmds → ∀ t : Task, t.Same x → u.submitCmd t = some ((cmdOpen (.taskSubmit h d) s).1, h) := by
    rintro u hu t ⟨h1, h2, h3, -⟩
    refine submitCmd_only (hu.trans hcmds) hno ?_ ?_ ?_
    · rw [h1, hx]
      rfl
    · rw [h2, hx]
      rfl
    · rw [h3, hx]
      rfl
  dsimp only
  refine ⟨?_, x, hby, hst, hx ▸ rfl, ?_⟩
  · refine Eq.trans ?_ hts
    cases hck : (submitChecks x v).1 with
    | wait => exact congrArg (fun x => x.2.1) (submitStep_waits hby hst hck)
    | fail st => exact (submitStep_fails hby hst hcmd hck).1
    | ok t => exact (submitStep_passes hby hst hnx hcmd hck hmem).1
  · cases hck : (submitChecks x v).1 with
    | wait =>
      have htk : (submitStep n v).work.tasks = v.work.tasks := congrArg (fun x => x.2.2) (submitStep_waits hby hst hck)
      exact ⟨x, htk ▸ hmem, hnx, hst⟩
    | fail st => exact (submitStep_fails hby hst hcmd hck).2
    | ok t => exact (submitStep_passes hby hst hnx hcmd hck hmem).2

omit hh in
theorem taskCancelRun_eq (tag : W32) : taskCancelRun h tag s = match s.taskNamed (ctxIndex h.handle) h.queue.toNat tag with
    | none => replySt h 0x132 stBAD_DESCRIPTOR s
    | some x =>
      if x.final then replyConflict h 0x132 x.st s
      else { s with work := { s.work with cancels := s.work.cancels ++ [(x.seq, h)] } } := by
  unfold taskCancelRun
  rw [tenantHost_of_tenant hc, onCtx_own hl ht (by simpa using h8)] <;> rfl

omit hh in
theorem taskQueryRun_eq {tag : W32} {x : Task} (hx : s.taskNamed (ctxIndex h.handle) h.queue.toNat tag = some x) : taskQueryRun h tag s =
    replyOk h 0x133 ([byte x.st, 0, 0, 0] ++ ((s.queue x.key).elim [] fun q => if x.final then taskRecord x q false else [])) s := by
  unfold taskQueryRun
  rw [tenantHost_of_tenant hc, onCtx_own hl ht (by simpa using h8), hx]
  simp only
  cases s.queue x.key <;> rfl

end

end Sys2Proof.Machine
end

section
open Sys2Proof Sys2Proof.Machine

/-- Settles O22: a task that is submitted passes its checks, waits, or is refused; one that is named is cancelled or read back. -/
theorem tasksAreSubmitted : Obligations.TasksAreSubmitted := by
  intro s h t c hh hc hl ht h8
  refine ⟨fun d q hk hr hd hq => ⟨taskSubmit_refused_completes hh hc hl ht h8 hk hr hd hq, taskSubmit_completes hh hc hl ht h8 hk hr hd hq⟩,
    fun d hk hr hd hq => taskSubmit_absent_completes hh hc hl ht h8 hk hr hd hq,
    fun tag x hx => ⟨fun hf => ?_, fun hf => ?_, fun hf => ?_, fun q hf hq => ?_⟩, fun tag hx => ?_⟩
  · refine completes_of_pumped (taskCancelRun h tag) rfl hh ?_
    rw [taskCancelRun_eq hc hl ht h8, hx]
    simp only [hf, Bool.false_eq_true, if_false]
  · refine completes_of_pumped (taskCancelRun h tag) rfl hh ?_
    rw [taskCancelRun_eq hc hl ht h8, hx]
    simp only [hf, if_true]
    exact ⟨reply_work _ _ _ _ _ _ _, replyConflict_replied _ _ _ _ (by decide)⟩
  · refine completes_of_pumped (taskQueryRun h tag) rfl hh ?_
    rw [taskQueryRun_eq hc hl ht h8 hx]
    refine ⟨reply_work _ _ _ _ _ _ _, ?_⟩
    have hr : ((s.queue x.key).elim [] fun q => if x.final then taskRecord x q false else []) = [] := by
      cases s.queue x.key
      · rfl
      · simp [hf]
    rw [hr]
    exact replyOk_replied _ _ _ _
  · refine completes_of_pumped (taskQueryRun h tag) rfl hh ?_
    rw [taskQueryRun_eq hc hl ht h8 hx, hq]
    simp only [Option.elim_some, hf, if_true]
    exact ⟨reply_work _ _ _ _ _ _ _, replyOk_replied _ _ _ _⟩
  · refine completes_of_pumped (taskCancelRun h tag) rfl hh ?_
    rw [taskCancelRun_eq hc hl ht h8, hx]
    exact ⟨reply_work _ _ _ _ _ _ _, replySt_replied _ _ _ _ (by decide) (by decide)⟩

end

section
/-! PROOFS. The flash carriers as they come and go (R108 to R111, R135 to R139, R386, R491). -/

namespace Sys2Proof.Machine

variable {s : State} {c : CarrierId}

/-! ### What leaves the carriers' own records -/

/-- A part of the state that events, results, superblocks, journal pages and FULL leave alone. -/
structure OffBooks {α : Type} (p : State → α) : Prop where
  regs : ∀ s x, p { s with regs := x } = p s
  cnt64 : ∀ s x, p { s with cnt64 := x } = p s
  log : ∀ s x, p { s with log := x } = p s
  out : ∀ s x, p { s with out := x } = p s
  books : ∀ s (sbs : Sparse Sb) (rem : List (Nat × Nat × Nat)) (st : Sparse Stream) (full : Bool),
    p { s with tier := { s.tier with sbs := sbs, remirror := rem, streams := st, full := full } } = p s

/-- A journal page that loses its copies on a carrier may ask for another copy, and nothing else. -/
theorem pageOff_asks (c : CarrierId) (q key : Nat) (j : JPage) (s : State) : ∃ r, (pageOff c q key j s).2 = s.updTier fun t => { t with remirror := r } := by
  unfold pageOff
  dsimp only
  split
  · exact ⟨s.tier.remirror, rfl⟩
  · split
    · split
      · exact ⟨_, rfl⟩
      · exact ⟨s.tier.remirror, rfl⟩
    · exact ⟨s.tier.remirror, rfl⟩

/-- The pages of a stream, with their copies on a carrier taken off, one after the other. -/
def pagesOff (c : CarrierId) (q key : Nat) (l : List JPage) (a : List JPage × State) : List JPage × State :=
  l.foldl (fun (a : List JPage × State) x =>
    let (p', s') := pageOff c q key x a.2
    (a.1 ++ [p'], s')) a

theorem pagesOff_keeps {α : Type} (p : State → α) (h : ∀ s r, p (s.updTier fun t => { t with remirror := r }) = p s) (c : CarrierId) (q key : Nat)
    (l : List JPage) (a : List JPage × State) : p (pagesOff c q key l a).2 = p a.2 := by
  induction l generalizing a with
  | nil => rfl
  | cons j l ih =>
    obtain ⟨r, hr⟩ := pageOff_asks c q key j a.2
    exact (ih _).trans ((congrArg p hr).trans (h a.2 r))

theorem remirrorFrom_eq (c : CarrierId) (s : State) : remirrorFrom c s = s.tier.streams.foldl (fun s e =>
    (pagesOff c (e.1 / 16) e.1 e.2.pages ([], s)).2.updTier fun t =>
      { t with streams := t.streams.ins e.1 { e.2 with pages := (pagesOff c (e.1 / 16) e.1 e.2.pages ([], s)).1 } })
    (s.updTier fun t => { t with remirror := t.remirror.filter fun x => x.2.2 ≠ c.val }) := rfl

theorem remirrorFrom_keeps {α : Type} (p : State → α)
    (h : ∀ s (r : List (Nat × Nat × Nat)) (st : Sparse Stream), p { s with tier := { s.tier with remirror := r, streams := st } } = p s)
    (c : CarrierId) (s : State) : p (remirrorFrom c s) = p s := by
  rw [remirrorFrom_eq]
  exact (foldl_keeps p _ (fun s e => (h _ _ _).trans (pagesOff_keeps p (fun s r => h s r s.tier.streams) _ _ _ _ _)) _ _).trans (h s _ s.tier.streams)

theorem OffTier.offBooks {α : Type} {p : State → α} (hp : OffTier p) : OffBooks p :=
  ⟨hp.regs, hp.cnt64, hp.log, hp.out, fun s _ _ _ _ => hp.tier s _⟩

section
variable {α : Type} {p : State → α} (hp : OffBooks p)
include hp

theorem OffBooks.result (r : Reg) (u : Nat) (st : Byte) (k : Nat) (s : State) : p (s.result r u st k) = p s := hp.regs s _

theorem OffBooks.logEv (e : Ev) (s : State) : p (logEv e s) = p s := logEv_keeps p hp.regs hp.cnt64 hp.log hp.out s e

theorem OffBooks.carEv (c : CarrierId) (k : EvKind) (cause : Nat) (s : State) : p (carEv c k cause s) = p s := hp.logEv _ s

theorem OffBooks.conflict (r : Reg) (u cls unit code : Nat) (s : State) : p (conflict r u cls unit code s) = p s :=
  (hp.regs _ _).trans (hp.logEv _ s)

theorem OffBooks.carDone (c : CarrierId) (st : Byte) (s : State) : p (carDone c st s) = p s := by
  unfold Machine.carDone
  exact ite_keeps _ (hp.regs s _) rfl

theorem OffBooks.updFull (s : State) : p (updFull s) = p s := by
  have hf : ∀ b, p (s.updTier fun t => { t with full := b }) = p s := fun b => hp.books s s.tier.sbs s.tier.remirror s.tier.streams b
  unfold Machine.updFull
  exact ite_keeps _ rfl (ite_keeps _ (hf _) (ite_keeps _ (hf _) rfl))

theorem OffBooks.dropErase (c : CarrierId) (s : State) : p (dropErase c s) = p s :=
  (hp.updFull _).trans (hp.books s _ s.tier.remirror s.tier.streams s.tier.full)

theorem OffBooks.remirrorFrom (c : CarrierId) (s : State) : p (remirrorFrom c s) = p s :=
  remirrorFrom_keeps p (fun s r st => hp.books s s.tier.sbs r st s.tier.full) c s

/-- A carrier that is set FAILED: the part is that of its own record changed. -/
theorem OffBooks.carFail (hc : (s.car c).st ≠ 7) (cause : Nat) : p (carFail c cause s) =
    p (s.updCar c fun k => { k with st := 7, wasFailed := true, waiting := false, holdAt := none }) := by
  unfold Machine.carFail
  dsimp only
  rw [if_neg hc]
  have h := (hp.carDone c stRETRY_BUSY _).trans (hp.carEv c .fault cause
    (s.updCar c fun k => { k with st := 7, wasFailed := true, waiting := false, holdAt := none }))
  exact ite_keeps _ ((hp.remirrorFrom _ _).trans ((hp.dropErase _ _).trans h)) h

end

theorem offBooks_car (c : CarrierId) : OffBooks fun s : State => s.car c := by constructor <;> intros <;> rfl
theorem offBooks_fence : OffBooks fun s : State => s.tier.fenceFirst := by constructor <;> intros <;> rfl
theorem offBooks_geo : OffBooks fun s : State => s.tier.geo := by constructor <;> intros <;> rfl
theorem offBooks_opened : OffBooks fun s : State => s.tier.opened := by constructor <;> intros <;> rfl
theorem offTier_pin : OffTier State.pin := by constructor <;> intros <;> rfl
theorem offTier_mem : OffTier State.mem := by constructor <;> intros <;> rfl
theorem offTier_time : OffTier State.time := by constructor <;> intros <;> rfl
theorem offTier_pair : OffTier State.pair := by constructor <;> intros <;> rfl
theorem offTier_still : OffTier State.Still := by constructor <;> intros <;> rfl

/-- Where nothing waits, the flash tier's bookkeeping is followed by nothing of the memory side. -/
theorem memPump_of_still {t : State} (hs : s.Still) (h : t.Still = s.Still) (n : Nat) : memPump n t = t := memPump_still (h ▸ hs) n

/-! ### Failing and attaching -/

/-- A carrier set FAILED reads so. -/
theorem carFail_self (cause : Nat) (s : State) (c : CarrierId) : ((carFail c cause s).car c).st = 7 := by
  by_cases h : (s.car c).st = 7
  · unfold carFail
    simp only [h, if_true]
  · rw [(offBooks_car c).carFail h, updCar_car_self]

theorem carFail_ne {d : CarrierId} (h : c ≠ d) (cause : Nat) (s : State) : (carFail c cause s).car d = s.car d := by
  by_cases hc : (s.car c).st = 7
  · unfold carFail
    simp only [hc, if_true]
  · exact ((offBooks_car d).carFail hc cause).trans (updCar_car_ne _ _ h)

theorem attach_ne {d : CarrierId} (h : c ≠ d) (s : State) : (attach c s).car d = s.car d :=
  ((offBooks_car d).carEv _ _ _ _).trans (((offBooks_car d).regs _ _).trans (((offBooks_car d).regs _ _).trans (updCar_car_ne _ _ h)))

/-- What waits to be attached does not touch a carrier in any other state. -/
theorem autoAttach_keeps {α : Type} (p : State → α) (h : ∀ d, (s.car d).st = 3 ∨ (s.car d).st = 6 → p (attach d s) = p s) : p (autoAttach s) = p s := by
  unfold autoAttach
  split
  next d hd =>
    have hm : s.mayAttach d = true := by
      have := List.find?_some hd
      simp only [Bool.and_eq_true] at this
      exact this.2
    simp only [State.mayAttach, Bool.and_eq_true, Bool.or_eq_true, decide_eq_true_eq] at hm
    exact ite_keeps _ (h d hm.1.1) rfl
  next => rfl

theorem autoAttach_car {d : CarrierId} (h3 : (s.car d).st ≠ 3) (h6 : (s.car d).st ≠ 6) : (autoAttach s).car d = s.car d :=
  autoAttach_keeps (fun t => t.car d) fun c hc => attach_ne (by rintro rfl; omega) s

theorem offBooks_attach {α : Type} {p : State → α} (hp : OffBooks p) (hc : ∀ s c f, p (State.updCar s c f) = p s) (c : CarrierId) (s : State) :
    p (attach c s) = p s :=
  (hp.carEv _ _ _ _).trans ((hp.regs _ _).trans ((hp.regs _ _).trans (hc s _ _)))

theorem autoAttach_fence (s : State) : (autoAttach s).tier.fenceFirst = s.tier.fenceFirst :=
  autoAttach_keeps (fun t => t.tier.fenceFirst) fun c _ => offBooks_attach offBooks_fence (fun _ _ _ => rfl) c s

/-! ### The lands of presence and ownership -/

/-- The bits of a number with one bit replaced. -/
theorem testBit_setBits (v i j : Nat) (x : Bool) : (setBits v i i (b2n x)).testBit j = if i = j then x else v.testBit j := by
  have hlo : v % 2 ^ i < 2 ^ i := Nat.mod_lt _ (Nat.two_pow_pos i)
  have hv : v = 2 ^ i * (v / 2 ^ i) + v % 2 ^ i := (Nat.div_add_mod v (2 ^ i)).symm
  have hx : b2n x % 2 = b2n x := by cases x <;> rfl
  have hs : setBits v i i (b2n x) = 2 ^ i * (2 * (v / 2 ^ i / 2) + b2n x) + v % 2 ^ i := by
    unfold setBits bits
    rw [show i + 1 - i = 1 by omega, pow_one, hx]
    have h2 := Nat.div_add_mod (v / 2 ^ i) 2
    generalize v / 2 ^ i = a at *
    generalize v % 2 ^ i = lo at *
    generalize 2 ^ i = w at *
    have h3 : v = w * (2 * (a / 2)) + a % 2 * w + lo := by rw [hv, ← h2]; simp only [h2]; rw [Nat.mul_comm (a % 2) w, ← Nat.mul_add, h2]
    rw [Nat.mul_add, Nat.mul_comm w (b2n x)]
    omega
  rw [hs, Nat.testBit_two_pow_mul_add _ hlo]
  conv => rhs; rw [hv, Nat.testBit_two_pow_mul_add _ hlo]
  by_cases hij : j < i
  · simp only [hij, if_true, if_neg (show ¬i = j by omega)]
  · simp only [hij, if_false]
    obtain ⟨k, rfl⟩ : ∃ k, j = i + k := ⟨j - i, by omega⟩
    rw [Nat.add_sub_cancel_left]
    cases k with
    | zero => cases x <;> simp [b2n, Nat.testBit_zero]
    | succ k =>
      rw [if_neg (by omega), Nat.testBit_succ, Nat.testBit_succ]
      congr 1
      cases x <;> simp only [b2n, Bool.false_eq_true, if_false, if_true] <;> omega

theorem bit_setBitV {n : Nat} (v : BitVec n) (i : Nat) (x : Bool) {j : Nat} (hj : j < n) :
    bit (setBitV v i x).toNat j = if i = j then x else bit v.toNat j := by
  unfold setBitV bit
  rw [BitVec.toNat_ofNat, Nat.testBit_mod_two_pow, testBit_setBits]
  simp [hj]

/-- A bit vector without a set bit is 0. -/
theorem eq_zero_of_bits {n : Nat} {v : BitVec n} (h : ∀ i, i < n → bit v.toNat i = false) : v = 0 := by
  refine BitVec.eq_of_getLsbD_eq fun i hi => ?_
  exact (h i hi).trans BitVec.getLsbD_zero.symm

theorem updFull_sbs (s : State) : (updFull s).tier.sbs = s.tier.sbs := by
  unfold updFull
  dsimp only
  split
  · rfl
  · split
    · rfl
    · split <;> rfl

section
variable (hh : s.su.held = false)
include hh

theorem carPrsntFall_completes (c : CarrierId) : Completes (.carPrsntFall c) s fun u =>
    u.present c = true ∧ (u.car c).st = (if !s.owned c then 1 else if s.tierOn then 2 else 0) ∧ ∀ d : CarrierId, d ≠ c → u.car d = s.car d := by
  refine completes_of_pumped (presentRun c) rfl hh ?_
  unfold presentRun carEnter
  obtain ⟨v, hv⟩ : ∃ v : State, v = { s with pin := { s.pin with carPrsntN := setBitV s.pin.carPrsntN c.val false } } := ⟨_, rfl⟩
  rw [← hv]
  have hp : v.present c = true := by
    rw [hv]
    show (!bit (setBitV s.pin.carPrsntN c.val false).toNat c.val) = true
    rw [bit_setBitV _ _ _ c.isLt, if_pos rfl]
    rfl
  have hold : v.owned c = s.owned c ∧ v.tierOn = s.tierOn ∧ ∀ d, v.car d = s.car d := by
    rw [hv]
    exact ⟨rfl, rfl, fun _ => rfl⟩
  obtain ⟨how, hon, hcar⟩ := hold
  refine ⟨hp, ?_, fun d hd => (updCar_car_ne _ _ (Ne.symm hd)).trans (hcar d)⟩
  dsimp only
  rw [updCar_car_self]
  simp only [hp, how, hon, Bool.not_true, Bool.false_eq_true, if_false]

theorem carPrsntRise_service (hst : s.Still) (h : (s.car c).st = 4 ∨ (s.car c).st = 5) : Completes (.carPrsntRise c) s fun u =>
    u.present c = false ∧ (u.car c).st = 7 ∧ (u.car c).wasFailed = true ∧ u.mem = s.mem := by
  refine completes_of_pumped (absentRun c) rfl hh ?_
  obtain ⟨v, hv⟩ : ∃ v : State, v = { s with pin := { s.pin with carPrsntN := setBitV s.pin.carPrsntN c.val true } } := ⟨_, rfl⟩
  have hcar : ∀ d, v.car d = s.car d := fun d => by rw [hv]; rfl
  have hmem : v.mem = s.mem := by rw [hv]
  have hstill : v.Still = s.Still := by rw [hv]; rfl
  have hpr : v.present c = false := by
    rw [hv]
    show (!bit (setBitV s.pin.carPrsntN c.val true).toNat c.val) = false
    rw [bit_setBitV _ _ _ c.isLt, if_pos rfl]
    rfl
  unfold absentRun
  rw [← hv]
  clear hv
  dsimp only
  rw [hcar, if_pos h]
  have hfail : (carFail c 0 v).car c = { v.car c with st := 7, wasFailed := true, waiting := false, holdAt := none } := by
    rw [(offBooks_car c).carFail (by rw [hcar]; omega), updCar_car_self]
  have hauto : (autoAttach (carFail c 0 v)).car c = (carFail c 0 v).car c := autoAttach_car (by simp [hfail]) (by simp [hfail])
  rw [memPump_of_still hst ((offTier_still.autoAttach _).trans ((offTier_still.carFail _ _ _).trans hstill))]
  refine ⟨?_, by rw [hauto, hfail], by rw [hauto, hfail], (offTier_mem.autoAttach _).trans ((offTier_mem.carFail _ _ _).trans hmem)⟩
  exact (congrArg (fun x : PinsIn => !bit x.carPrsntN.toNat c.val) ((offTier_pin.autoAttach _).trans (offTier_pin.carFail _ _ v))).trans hpr

theorem carPrsntRise_idle (h4 : (s.car c).st ≠ 4) (h5 : (s.car c).st ≠ 5) (h7 : (s.car c).st ≠ 7) : Completes (.carPrsntRise c) s fun u =>
    u.present c = false ∧ (u.car c).st = 0 ∧ ∀ d : CarrierId, d ≠ c → u.car d = s.car d := by
  refine completes_of_pumped (absentRun c) rfl hh ?_
  obtain ⟨v, hv⟩ : ∃ v : State, v = { s with pin := { s.pin with carPrsntN := setBitV s.pin.carPrsntN c.val true } } := ⟨_, rfl⟩
  have hcar : ∀ d, v.car d = s.car d := fun d => by rw [hv]; rfl
  have hpr : v.present c = false := by
    rw [hv]
    show (!bit (setBitV s.pin.carPrsntN c.val true).toNat c.val) = false
    rw [bit_setBitV _ _ _ c.isLt, if_pos rfl]
    rfl
  unfold absentRun
  rw [← hv]
  clear hv
  dsimp only
  rw [hcar, if_neg (by omega), if_neg h7]
  refine ⟨?_, ?_, fun d hd => ((offBooks_car d).carDone _ _ _).trans ((updCar_car_ne _ _ (Ne.symm hd)).trans (hcar d))⟩
  · exact (congrArg (fun x : PinsIn => !bit x.carPrsntN.toNat c.val) (offTier_pin.carDone c _ _)).trans hpr
  · rw [(offBooks_car c).carDone, updCar_car_self]

omit hh in
/-- The state with one CAR_OWN land changed. -/
theorem carOwn_land (s : State) (c : CarrierId) (x : Bool) : ∃ v : State, v = { s with pin := { s.pin with carOwn := setBitV s.pin.carOwn c.val x } } ∧
    (∀ d, v.owned d = if c = d then x else s.owned d) ∧ (∀ d, v.present d = s.present d) ∧ v.tier = s.tier ∧ v.pair = s.pair ∧ v.time = s.time ∧
    v.tierOn = s.tierOn := by
  refine ⟨_, rfl, fun d => ?_, fun _ => rfl, rfl, rfl, rfl, rfl⟩
  refine (bit_setBitV _ _ _ d.isLt).trans ?_
  simp only [Fin.ext_iff]
  rfl

omit hh in
theorem car_of_tier {v : State} (h : v.tier = s.tier) (d : CarrierId) : v.car d = s.car d := congrArg (fun x : TierSt => x.cars[d]) h

theorem carOwnRise_held (h : (s.car c).holdAt.isSome = true) : Completes (.carOwnRise c) s fun u =>
    u.owned c = true ∧ (u.car c).holdAt = none ∧ (u.car c).st = (s.car c).st := by
  refine completes_of_pumped (ownRise c) rfl hh ?_
  obtain ⟨v, hv, how, -, htier, -, -, -⟩ := carOwn_land s c true
  have hcar := car_of_tier htier c
  unfold ownRise
  rw [← hv]
  dsimp only
  rw [hcar, if_pos h, updCar_car_self, hcar]
  exact ⟨(how c).trans (if_pos rfl), rfl, rfl⟩

theorem carOwnRise_enters (hn : (s.car c).holdAt = none) (h1 : (s.car c).st = 1) (hp : s.present c = true) : Completes (.carOwnRise c) s fun u =>
    u.owned c = true ∧ (u.car c).st = (if s.tierOn then 2 else 0) := by
  refine completes_of_pumped (ownRise c) rfl hh ?_
  obtain ⟨v, hv, how, hpr, htier, -, -, hon⟩ := carOwn_land s c true
  have hcar := car_of_tier htier c
  have hown : v.owned c = true := (how c).trans (if_pos rfl)
  unfold ownRise
  rw [← hv]
  dsimp only
  rw [hcar, if_neg (by rw [hn]; decide), if_pos (Or.inl h1)]
  unfold carEnter
  rw [updCar_car_self]
  refine ⟨hown, ?_⟩
  simp only [hpr, hp, hown, hon, Bool.not_true, Bool.false_eq_true, if_false]

/-! ### CAR_OWN falls -/

omit hh in
/-- In service, the carrier's 1 ms begins. -/
theorem ownFall_service (h5 : s.pair.role ≠ 5) (h : (s.car c).st = 4 ∨ (s.car c).st = 5) :
    (∀ d, (ownFall c s).owned d = if c = d then false else s.owned d) ∧ (ownFall c s).car c = { s.car c with holdAt := some s.time.nclk } ∧
    (∀ d, c ≠ d → (ownFall c s).car d = s.car d) ∧ (ownFall c s).pair = s.pair ∧ (ownFall c s).time = s.time ∧
    (ownFall c s).tier.fenceFirst = some (match s.tier.fenceFirst with
      | some f => if s.time.nclk ≤ f + msec 1 then f else s.time.nclk
      | none => s.time.nclk) := by
  obtain ⟨v, hv, how, -, htier, hpair, htime, -⟩ := carOwn_land s c false
  have hcar := car_of_tier htier
  unfold ownFall
  rw [← hv]
  clear hv
  dsimp only
  rw [hcar, hpair, htime, if_neg (fun x => h5 x.1), if_pos h]
  refine ⟨how, ?_, fun d hd => (updCar_car_ne v _ hd).trans (hcar d), hpair, htime, ?_⟩
  · refine (updCar_car_self v c _).trans ?_
    rw [hcar]
  · show some (match v.tier.fenceFirst with | some f => if s.time.nclk ≤ f + msec 1 then f else s.time.nclk | none => s.time.nclk) = _
    rw [htier]

omit hh in
theorem carOwnFallRun_inactive (h1 : (ownFall c s).pair.role ≠ 1) : carOwnFallRun c s = ownFall c s := by
  unfold carOwnFallRun
  dsimp only
  split
  · exact if_neg fun x => h1 x.1
  · rfl

theorem carOwnFall_service (h1 : s.pair.role ≠ 1) (h5 : s.pair.role ≠ 5) (h : (s.car c).st = 4 ∨ (s.car c).st = 5) : Completes (.carOwnFall c) s fun u =>
    u.owned c = false ∧ (u.car c).st = (s.car c).st ∧ (u.car c).holdAt = some s.time.nclk ∧ u.tier.fenceFirst.isSome = true := by
  refine completes_of_pumped (carOwnFallRun c) rfl hh ?_
  obtain ⟨how, hcar, -, hpair, -, hfirst⟩ := ownFall_service h5 h
  rw [carOwnFallRun_inactive (by rw [hpair]; exact h1), hcar, hfirst]
  exact ⟨(how c).trans (if_pos rfl), rfl, rfl, rfl⟩

theorem carOwnFall_idle (h1 : s.pair.role ≠ 1) (h5 : s.pair.role ≠ 5) (c4 : (s.car c).st ≠ 4) (c5 : (s.car c).st ≠ 5) (c7 : (s.car c).st ≠ 7)
    (hp : s.present c = true) : Completes (.carOwnFall c) s fun u => u.owned c = false ∧ (u.car c).st = 1 := by
  refine completes_of_pumped (carOwnFallRun c) rfl hh ?_
  obtain ⟨v, hv, how, hpr, htier, hpair, -, -⟩ := carOwn_land s c false
  have hcar := car_of_tier htier c
  have hrun : ownFall c s = carDone c stRETRY_BUSY (v.updCar c fun k => { k with st := 1, why := 0, waiting := false }) := by
    unfold ownFall
    rw [← hv]
    dsimp only
    rw [hcar, hpair, if_neg (fun x => h5 x.1), if_neg (by omega), if_neg]
    rw [hpr, hp]
    simp [c7]
  rw [carOwnFallRun_inactive (by rw [hrun, offTier_pair.carDone]; exact fun x => h1 (hpair ▸ x)), hrun]
  refine ⟨?_, by rw [(offBooks_car c).carDone, updCar_car_self]⟩
  exact (congrArg (fun x : PinsIn => bit x.carOwn.toNat c.val) (offTier_pin.carDone c _ _)).trans ((how c).trans (if_pos rfl))

/-! ### Fencing, and the end of the 1 ms -/

omit hh in
/-- Answering a request that has failed sends at most, and leaves every part that neither the pool nor the device's accesses hold. -/
theorem refuse_keeps {α : Type} {p : State → α} (hp : OffTalk p) (hpool : ∀ s x, p { s with pool := x } = p s)
    (hwork : ∀ s x, p { s with work := x } = p s) (id : Nat) (st : Byte) (k : Nat) (s : State) : p (refuse id st k s) = p s := by
  have hfin : ∀ s, p (finishTrk id s) = p s := fun s => by
    unfold finishTrk
    split
    · rfl
    · dsimp only
      split
      · rfl
      · split
        · exact (hp.send _ _).trans (hpool s _)
        · exact (hp.send _ _).trans (hpool s _)
        · exact (hwork _ _).trans (hpool s _)
        · exact hpool s _
  unfold refuse
  split
  · exact (hfin _).trans (hpool s _)
  · rfl

omit hh in
/-- What fencing changes apart from the carriers and the role. -/
theorem fence_rest {α : Type} {p : State → α} (hp : OffTalk p) (hlog : ∀ s x, p { s with log := x } = p s) (hpool : ∀ s x, p { s with pool := x } = p s)
    (hwork : ∀ s x, p { s with work := x } = p s) (s : State) :
    p (fence s) = p (setRole 6 (((indices 8).foldl (fun s c => s.updCar c fun k =>
      { k with holdAt := none, st := if k.st = 0 ∨ k.st = 7 then k.st else 1, waiting := false }) s).updTier fun t => { t with fenceFirst := none })) := by
  unfold fence
  dsimp only
  refine (foldl_keeps p _ (fun s id => refuse_keeps hp hpool hwork id _ _ s) _ _).trans ?_
  exact logEv_keeps p hp.regs hp.cnt64 hlog hp.out _ _

omit hh in
theorem fence_effect (s : State) : (fence s).pair.role = 6 ∧ (fence s).tier.fenceFirst = none ∧
    ∀ d, ((fence s).car d).st = if (s.car d).st = 0 ∨ (s.car d).st = 7 then (s.car d).st else 1 := by
  have htier : OffTalk State.tier := by constructor <;> intro _ _ <;> rfl
  have ht := fence_rest htier (fun _ _ => rfl) (fun _ _ => rfl) (fun _ _ => rfl) s
  rw [htier.setRole (fun _ _ => rfl) (fun _ _ => rfl)] at ht
  refine ⟨?_, ?_, fun d => ?_⟩
  · rw [fence_rest offTalk_pair (fun _ _ => rfl) (fun _ _ => rfl) (fun _ _ => rfl) s, setRole_pair]
  · rw [ht]
    rfl
  · refine (congrArg (fun x : TierSt => x.cars[d].st) ht).trans ?_
    exact congrArg CarSt.st (foldl_indices (fun (s : State) d => s.car d)
      (fun s c => s.updCar c fun k => { k with holdAt := none, st := if k.st = 0 ∨ k.st = 7 then k.st else 1, waiting := false })
      (fun _ k => { k with holdAt := none, st := if k.st = 0 ∨ k.st = 7 then k.st else 1, waiting := false })
      (fun _ _ => updCar_car_self _ _ _) (fun _ _ _ hne => updCar_car_ne _ _ hne) s d)

theorem carOwnFall_fences {f : Nat} (h1 : s.pair.role = 1) (hf : s.tier.fenceFirst = some f) (hn : s.time.nclk ≤ f + msec 1)
    (h : (s.car c).st = 4 ∨ (s.car c).st = 5) (hown : ∀ d : CarrierId, d ≠ c → s.owned d = false)
    (hhold : ∀ (d : CarrierId) (x : Nat), d ≠ c → (s.car d).holdAt = some x → f ≤ x) (hfn : f ≤ s.time.nclk) :
    Completes (.carOwnFall c) s fun u => u.pair.role = 6 ∧
      (∀ d : CarrierId, (u.car d).st = (if (s.car d).st = 0 ∨ (s.car d).st = 7 then (s.car d).st else 1)) ∧ u.tier.fenceFirst = none := by
  refine completes_of_pumped (carOwnFallRun c) rfl hh ?_
  obtain ⟨how, hcar, hcar', hpair, htime, hfirst⟩ := ownFall_service (s := s) (c := c) (by omega) h
  have hff : (ownFall c s).tier.fenceFirst = some f := by rw [hfirst, hf]; exact congrArg some (if_pos hn)
  have hzero : (ownFall c s).pin.carOwn = 0 := eq_zero_of_bits fun i hi => by
    have := how ⟨i, hi⟩
    by_cases hic : c = ⟨i, hi⟩
    · exact this.trans (if_pos hic)
    · exact this.trans ((if_neg hic).trans (hown _ (Ne.symm hic)))
  have hall : (ownFall c s).allFell f = true := by
    unfold State.allFell
    rw [Bool.and_eq_true, decide_eq_true_eq, List.all_eq_true]
    refine ⟨hzero, fun d _ => ?_⟩
    by_cases hd : c = d
    · subst hd
      rw [hcar]
      exact decide_eq_true hfn
    · rw [hcar' d hd]
      split
      next x hx => exact decide_eq_true (hhold d x (Ne.symm hd) hx)
      next => rfl
  have hrun : carOwnFallRun c s = fence (ownFall c s) := by
    unfold carOwnFallRun
    dsimp only
    rw [hff]
    exact if_pos ⟨by rw [hpair]; exact h1, hall, by rw [htime]; exact hn⟩
  obtain ⟨hr, hnone, hst⟩ := fence_effect (ownFall c s)
  rw [hrun]
  refine ⟨hr, fun d => (hst d).trans ?_, hnone⟩
  by_cases hd : c = d
  · subst hd
    rw [hcar]
  · rw [hcar' d hd]

section
variable {f : Nat} (hf : s.tier.fenceFirst = some f) (hst : s.Still) (h : (s.car c).st = 4 ∨ (s.car c).st = 5) (hold : (s.car c).holdAt.isSome = true)
  (hown : s.owned c = false)
include hf h hold hown

omit hh hf h in
/-- The carriers that the end of the 1 ms finds not owned. -/
theorem mem_fallen : c ∈ (indices 8).filter fun d => (s.car d).holdAt.isSome && !s.owned d :=
  List.mem_filter.2 ⟨mem_indices c, by simp [hold, hown]⟩

include hst

omit h in
theorem carOwnHold_pulls (hz : s.pin.carOwn ≠ 0) : Completes .carOwnHoldExpire s fun u =>
    (u.car c).st = 7 ∧ f + msec 1 ≤ u.time.nclk ∧ u.tier.fenceFirst = none ∧ u.mem = s.mem := by
  refine completes_of_pumped ownHoldRun rfl hh ?_
  obtain ⟨x, hx, hadv⟩ := advanceTo_takes (f + msec 1) s
  have hfell : ∀ t : State, t.pin = s.pin → t.allFell f = false := fun t ht => by
    unfold State.allFell
    rw [ht, decide_eq_false hz, Bool.false_and]
  unfold ownHoldRun
  rw [hf]
  dsimp only
  rw [if_neg (fun y => by rw [hfell s rfl] at y; exact Bool.noConfusion y.2)]
  unfold carHoldRun
  rw [hf]
  dsimp only
  rw [hadv]
  obtain ⟨l, hl⟩ : ∃ l, l = (indices 8).filter fun d => (({ s with time := x } : State).car d).holdAt.isSome && !({ s with time := x } : State).owned d := ⟨_, rfl⟩
  rw [← hl]
  have hmem : c ∈ l := hl ▸ mem_fallen hold hown
  have hnd : l.Nodup := hl ▸ (nodup_indices 8).filter _
  obtain ⟨v, hv⟩ : ∃ v, v = ({ s with time := x } : State).updTier fun t => { t with fenceFirst := none } := ⟨_, rfl⟩
  rw [← hv, hfell v (by rw [hv]; rfl), if_neg (by decide)]
  have hfail : ∀ {α : Type} (p : State → α), OffTier p → p (autoAttach (l.foldl (fun s c => carFail c 0 s) v)) = p v := fun p hp =>
    (hp.autoAttach _).trans (foldl_keeps p _ (fun s d => hp.carFail d 0 s) l v)
  have hseven : ((l.foldl (fun s c => carFail c 0 s) v).car c).st = 7 := by
    have := foldl_touches (fun (s : State) d => (s.car d).st) (fun s d => carFail d 0 s) (fun _ _ => 7)
      (fun s d => carFail_self 0 s d) (fun s d e hne => congrArg CarSt.st (carFail_ne hne 0 s)) hnd v c
    exact this.trans (if_pos hmem)
  have hff : (l.foldl (fun s c => carFail c 0 s) v).tier.fenceFirst = none := by
    have hkeep : ∀ (s : State) d, (carFail d 0 s).tier.fenceFirst = s.tier.fenceFirst := fun s d => by
      by_cases h7 : (s.car d).st = 7
      · unfold carFail
        simp only [h7, if_true]
      · exact offBooks_fence.carFail h7 0
    rw [foldl_keeps (fun s : State => s.tier.fenceFirst) _ hkeep l v, hv]
    rfl
  rw [memPump_of_still hst ((hfail _ offTier_still).trans (by rw [hv]; rfl))]
  refine ⟨by rw [autoAttach_car (by omega) (by omega)]; exact hseven, ?_, (autoAttach_fence _).trans hff, (hfail _ offTier_mem).trans (by rw [hv]; rfl)⟩
  rw [hfail _ offTier_time, hv]
  exact hx

omit hst in
theorem carOwnHold_all (hz : s.pin.carOwn = 0) (hhold : ∀ (d : CarrierId) (x : Nat), (s.car d).holdAt = some x → f ≤ x) :
    Completes .carOwnHoldExpire s fun u =>
      (u.car c).st = 1 ∧ (∀ d : CarrierId, (s.car d).st ≠ 7 → (u.car d).st ≠ 7) ∧ u.tier.fenceFirst = none ∧
        (s.pair.role = 1 → u.pair.role = 6) ∧ (s.pair.role ≠ 1 → u.pair = s.pair ∧ u.mem = s.mem) := by
  refine completes_of_pumped ownHoldRun rfl hh ?_
  obtain ⟨x, hx, hadv⟩ := advanceTo_takes (f + msec 1) s
  have hfell : ∀ t : State, t.pin = s.pin → t.tier.cars = s.tier.cars → t.allFell f = true := fun t ht htier => by
    have hcar : ∀ d, t.car d = s.car d := fun d => congrArg (fun v : Vector CarSt 8 => v[d]) htier
    unfold State.allFell
    rw [ht, decide_eq_true hz, Bool.true_and, List.all_eq_true]
    intro d _
    rw [hcar]
    split
    next y hy => exact decide_eq_true (hhold d y hy)
    next => rfl
  unfold ownHoldRun
  rw [hf]
  dsimp only
  by_cases h1 : s.pair.role = 1
  · rw [if_pos ⟨h1, hfell s rfl rfl⟩, hadv]
    obtain ⟨hr, hnone, hfst⟩ := fence_effect { s with time := x }
    refine ⟨(hfst c).trans (if_neg ?_), fun d hd => ?_, hnone, fun _ => hr, fun hne => absurd h1 hne⟩
    · show ¬((s.car c).st = 0 ∨ (s.car c).st = 7)
      omega
    · rw [hfst d]
      show (if (s.car d).st = 0 ∨ (s.car d).st = 7 then (s.car d).st else 1) ≠ 7
      split <;> omega
  · rw [if_neg (fun y => h1 y.1)]
    unfold carHoldRun
    rw [hf]
    dsimp only
    rw [hadv]
    obtain ⟨l, hl⟩ : ∃ l, l = (indices 8).filter fun d => (({ s with time := x } : State).car d).holdAt.isSome && !({ s with time := x } : State).owned d := ⟨_, rfl⟩
    rw [← hl]
    have hmem : c ∈ l := hl ▸ mem_fallen hold hown
    have hnd : l.Nodup := hl ▸ (nodup_indices 8).filter _
    obtain ⟨v, hv⟩ : ∃ v, v = ({ s with time := x } : State).updTier fun t => { t with fenceFirst := none } := ⟨_, rfl⟩
    rw [← hv, hfell v (by rw [hv]; rfl) (by rw [hv]; rfl), if_pos rfl]
    have hone : ∀ d, ((l.foldl (fun s c => disown c s) v).car d).st = if d ∈ l then 1 else (v.car d).st := fun d =>
      foldl_touches (fun (s : State) d => (s.car d).st) (fun s d => disown d s) (fun _ _ => 1)
        (fun s d => congrArg CarSt.st (updCar_car_self s d _)) (fun s d e hne => congrArg CarSt.st (updCar_car_ne s _ hne)) hnd v d
    have hkeep : ∀ {α : Type} (p : State → α), (∀ s d, p (disown d s) = p s) → p (l.foldl (fun s c => disown c s) v) = p v :=
      fun p hp => foldl_keeps p _ hp l v
    refine ⟨(hone c).trans (if_pos hmem), fun d hd => ?_, ?_, fun h => absurd h h1, fun _ => ⟨?_, ?_⟩⟩
    · rw [hone d, hv]
      show (if d ∈ l then 1 else (s.car d).st) ≠ 7
      split <;> omega
    · exact (hkeep (fun s => s.tier.fenceFirst) fun _ _ => rfl).trans (by rw [hv]; rfl)
    · exact (hkeep State.pair fun _ _ => rfl).trans (by rw [hv]; rfl)
    · exact (hkeep State.mem fun _ _ => rfl).trans (by rw [hv]; rfl)

end

/-! ### Discovery -/

/-- The speeds of the four channels of an accepted carrier (R108). -/
def carSpeeds (r : CarrierReport) : List Nat :=
  (List.range 4).map fun i => if r.speeds.getD i 0 = 0 then 0 else if leAt r.desc 0x25 1 = 1 then 1 else r.speeds.getD i 0

omit hh in
theorem getD_carSpeeds (r : CarrierReport) {i : Nat} (hi : i < 4) :
    (carSpeeds r).getD i 0 = if r.speeds.getD i 0 = 0 then 0 else if leAt r.desc 0x25 1 = 1 then 1 else r.speeds.getD i 0 := by
  simp [carSpeeds, List.getD_eq_getElem?_getD, hi]

omit hh in
/-- The channels take their speeds; events go out. -/
theorem chanSpeeds_effect {α : Type} {p : State → α} (hp : OffBooks p) (r : CarrierReport) (s : State) :
    p (chanSpeeds c r s) = p (s.updCar c fun k => { k with speeds := carSpeeds r }) := by
  unfold chanSpeeds
  extract_lets slow sp' s1
  refine (foldl_keeps p _ (fun s i => ?_) _ s1).trans (congrArg p ?_)
  · exact ite_keeps _ (hp.logEv _ s) rfl
  · simp only [s1, sp', slow, carSpeeds]

/-- The record of an accepted carrier, before its channels are looked at: its wear tables stay where it is the same carrier. -/
def carAccepted (c : CarrierId) (r : CarrierReport) (s : State) : State :=
  let same := cut r.desc 8 16 = cut (s.car c).desc 8 16
  let s := s.updCar c fun k =>
    { k with desc := r.desc, why := 0, spares := if same then k.spares else [], retired := if same then k.retired else 0,
             worn := same && k.worn }
  let s := if same then s else s.updTier fun t => { t with sbs := t.sbs.map fun e =>
    (e.1, { e.2 with erases := e.2.erases.set c.val 0, reads := e.2.reads.set c.val 0 }) }
  chanSpeeds c r s

omit hh in
theorem discoveryRun_refuses {r : CarrierReport} (h2 : (s.car c).st = 2) (hw : s.refuseWhy c r ≠ 0) : discoveryRun c r s =
    carEv c .refused (s.refuseWhy c r) (s.updCar c fun k => { k with st := 8, why := s.refuseWhy c r, desc := r.desc }) := by
  unfold discoveryRun
  rw [if_neg (by omega)]
  exact if_pos hw

omit hh in
theorem discoveryRun_accepts {r : CarrierReport} (h2 : (s.car c).st = 2) (hw : s.refuseWhy c r = 0) : discoveryRun c r s =
    if ((List.range 4).any fun i => chanFitted r.desc i && ((carAccepted c r s).car c).speeds.getD i 0 = 0) then memPump 64 (carFail c 0 (carAccepted c r s))
    else
      let s := if (carAccepted c r s).tier.geo = [] then
          let s := (carAccepted c r s).updTier fun t => { t with geo := r.desc }
          s.setReg .USABLE_GRAN 0 (w32 s.geo.usable)
        else carAccepted c r s
      let s := s.updCar c fun k => { k with st := 3, waiting := s.rfld .FLASH_CFG 0 0 0 = 1 }
      memPump 64 (if s.tier.opened then autoAttach s else s) := by
  unfold discoveryRun
  rw [if_neg (by omega)]
  exact if_neg (fun x => x hw)

omit hh in
theorem carAccepted_rest {α : Type} {p : State → α} (hp : OffBooks p) (hc : ∀ s c f, p (State.updCar s c f) = p s) (r : CarrierReport) (s : State) :
    p (carAccepted c r s) = p s := by
  unfold carAccepted
  extract_lets same s1 s2
  have h1 : p s1 = p s := hc s _ _
  have h2 : p s2 = p s := ite_keeps _ h1 ((hp.books s1 _ s1.tier.remirror s1.tier.streams s1.tier.full).trans h1)
  exact (chanSpeeds_effect hp r s2).trans ((hc s2 _ _).trans h2)

omit hh in
theorem carAccepted_car (r : CarrierReport) (s : State) : ((carAccepted c r s).car c).st = (s.car c).st ∧ ((carAccepted c r s).car c).desc = r.desc ∧
    ∀ i, i < 4 → ((carAccepted c r s).car c).speeds.getD i 0 =
      if r.speeds.getD i 0 = 0 then 0 else if leAt r.desc 0x25 1 = 1 then 1 else r.speeds.getD i 0 := by
  unfold carAccepted
  extract_lets same s1 s2
  have h1 : (s1.car c).st = (s.car c).st ∧ (s1.car c).desc = r.desc := by
    rw [show s1.car c = _ from updCar_car_self s c _]
    exact ⟨rfl, rfl⟩
  have h2 : s2.car c = s1.car c := ite_keeps (p := fun s : State => s.car c) _ rfl rfl
  rw [chanSpeeds_effect (offBooks_car c), updCar_car_self, h2]
  exact ⟨h1.1, h1.2, fun i hi => getD_carSpeeds r hi⟩

theorem discovery_refuses {r : CarrierReport} (h2 : (s.car c).st = 2) (hw : s.refuseWhy c r ≠ 0) : Completes (.carrierDiscoveryDone c r) s fun u =>
    (u.car c).st = 8 ∧ (u.car c).why = s.refuseWhy c r ∧ u.tier.geo = s.tier.geo := by
  refine completes_of_pumped (discoveryRun c r) rfl hh ?_
  rw [discoveryRun_refuses h2 hw, (offBooks_car c).carEv, offBooks_geo.carEv, updCar_car_self]
  exact ⟨rfl, rfl, rfl⟩

theorem discovery_accepts {r : CarrierReport} (h2 : (s.car c).st = 2) (hst : s.Still) (hw : s.refuseWhy c r = 0)
    (hsp : ∀ i : Nat, i < 4 → r.speeds.getD i 0 ≠ 0) (ho : s.tier.opened = false) : Completes (.carrierDiscoveryDone c r) s fun u =>
      (u.car c).st = 3 ∧ (u.car c).desc = r.desc ∧ u.tier.geo = (if s.tier.geo = [] then r.desc else s.tier.geo) ∧
      ∀ i : Nat, i < 4 → (u.car c).speeds.getD i 0 = (if leAt r.desc 0x25 1 = 1 then 1 else r.speeds.getD i 0) := by
  refine completes_of_pumped (discoveryRun c r) rfl hh ?_
  obtain ⟨hast, hdesc, hspeeds⟩ := carAccepted_car (c := c) r s
  have hspeed : ∀ i, i < 4 → ((carAccepted c r s).car c).speeds.getD i 0 = if leAt r.desc 0x25 1 = 1 then 1 else r.speeds.getD i 0 := fun i hi =>
    (hspeeds i hi).trans (if_neg (hsp i hi))
  have hany : ((List.range 4).any fun i => chanFitted r.desc i && decide (((carAccepted c r s).car c).speeds.getD i 0 = 0)) = false := by
    rw [List.any_eq_false]
    intro i hi
    rw [hspeed i (List.mem_range.1 hi)]
    have := hsp i (List.mem_range.1 hi)
    split <;> simp_all
  rw [discoveryRun_accepts h2 hw, hany, if_neg (by decide)]
  have hgeo : (carAccepted c r s).tier.geo = s.tier.geo := carAccepted_rest offBooks_geo (fun _ _ _ => rfl) r s
  have hopen : (carAccepted c r s).tier.opened = false := (carAccepted_rest offBooks_opened (fun _ _ _ => rfl) r s).trans ho
  have hstill : (carAccepted c r s).Still = s.Still := carAccepted_rest offTier_still.offBooks (fun _ _ _ => rfl) r s
  generalize carAccepted c r s = a at *
  extract_lets a1 a2 v
  have h2c : a2.car c = a.car c := ite_keeps (p := fun s : State => s.car c) _ rfl rfl
  have h2o : a2.tier.opened = a.tier.opened := ite_keeps (p := fun s : State => s.tier.opened) _ rfl rfl
  have h2s : a2.Still = a.Still := ite_keeps (p := State.Still) _ rfl rfl
  have h2g : a2.tier.geo = if s.tier.geo = [] then r.desc else s.tier.geo := by
    unfold a2
    rw [hgeo]
    split
    · rfl
    · exact hgeo
  clear_value a2
  have hvo : v.tier.opened = false := h2o.trans hopen
  rw [hvo, if_neg (by decide), memPump_of_still hst (show v.Still = s.Still from h2s.trans hstill)]
  have hvc : v.car c = { a2.car c with st := 3, waiting := a2.rfld .FLASH_CFG 0 0 0 = 1 } := updCar_car_self a2 c _
  rw [hvc, h2c]
  exact ⟨rfl, hdesc, h2g, hspeed⟩

theorem discovery_fails {r : CarrierReport} (h2 : (s.car c).st = 2) (hst : s.Still) (hw : s.refuseWhy c r = 0)
    (hfit : chanFitted r.desc 0 = true) (h0 : r.speeds.getD 0 0 = 0) : Completes (.carrierDiscoveryDone c r) s fun u => (u.car c).st = 7 := by
  refine completes_of_pumped (discoveryRun c r) rfl hh ?_
  obtain ⟨-, -, hspeeds⟩ := carAccepted_car (c := c) r s
  have hany : ((List.range 4).any fun i => chanFitted r.desc i && decide (((carAccepted c r s).car c).speeds.getD i 0 = 0)) = true :=
    List.any_eq_true.2 ⟨0, by decide, by rw [hspeeds 0 (by decide), if_pos h0, hfit]; rfl⟩
  rw [discoveryRun_accepts h2 hw, hany, if_pos rfl,
    memPump_of_still hst ((offTier_still.carFail _ _ _).trans (carAccepted_rest offTier_still.offBooks (fun _ _ _ => rfl) r s))]
  exact carFail_self 0 _ c

/-! ### CAR_OFFLINE, CAR_ATTACH and the rebuild's end -/

omit hh in
/-- A carrier command in the wrong state changes nothing of the tier and answers STATE_CONFLICT with the state. -/
theorem carConflict_answers (c : CarrierId) (code : Nat) (s : State) : (conflict .CAR_CMD_RESULT c.val 4 c.val code s).tier = s.tier ∧
    (conflict .CAR_CMD_RESULT c.val 4 c.val code s).reg .CAR_CMD_RESULT c.val = w32 (code % 16 * 256 + 3) :=
  ⟨conflict_tier _ _ _ _ _ _, reg_result_self _ _ _ _ _⟩

section
variable (hb : s.isBusy .CAR_CMD_RESULT c.val = false) (hen : s.flashEn = true)
include hb hen

theorem carOffline_conflicts {force : Bool} (h : (s.car c).st ≠ 5) : Completes (.carOffline c force) s fun u =>
    u.tier = s.tier ∧ u.reg .CAR_CMD_RESULT c.val = w32 ((s.car c).st % 16 * 256 + 3) := by
  refine completes_of_pumped (carOfflineRun c force) rfl hh ?_
  unfold carOfflineRun
  rw [if_neg (by simp [hb]), if_neg (by simp [hen]), if_pos h]
  exact carConflict_answers c _ s

theorem carOffline_degraded {force : Bool} (h : (s.car c).st = 5) (h0 : s.tierCode ≠ 0) (hf : force = false ∨ s.tierCode ≠ 1) :
    Completes (.carOffline c force) s fun u => u.tier = s.tier ∧ u.reg .CAR_CMD_RESULT c.val = w32 (s.tierCode % 16 * 256 + 3) := by
  refine completes_of_pumped (carOfflineRun c force) rfl hh ?_
  unfold carOfflineRun
  rw [if_neg (by simp [hb]), if_neg (by simp [hen]), if_neg (by omega), if_pos ⟨h0, by simpa using hf⟩]
  exact carConflict_answers c _ s

omit hh hb hen in
/-- Pages whose copies on a carrier have been taken off wait for no program there. -/
theorem pagesOff_await (c : CarrierId) (q key : Nat) (l : List JPage) (a : List JPage × State) (ha : ∀ p ∈ a.1, c.val ∉ p.await) :
    ∀ p ∈ (pagesOff c q key l a).1, c.val ∉ p.await := by
  induction l generalizing a with
  | nil => exact ha
  | cons j l ih =>
    refine ih _ fun p hp => ?_
    rcases List.mem_append.1 hp with hp | hp
    · exact ha p hp
    · rw [List.mem_singleton.1 hp]
      unfold pageOff
      dsimp only
      split
      · intro hm
        rcases List.mem_append.1 hm with hm | hm
        · exact absurd rfl (of_decide_eq_true (List.mem_filter.1 hm).2)
        · obtain ⟨d, hd, hdc⟩ := Option.map_eq_some_iff.1 (Option.mem_toList.1 hm)
          have := List.find?_some hd
          simp only [Bool.and_eq_true, decide_eq_true_eq] at this
          exact this.1.1 (Fin.ext hdc)
      next hn =>
        have hn' : c.val ∉ j.await := by simpa using hn
        split
        · split <;> exact hn'
        · exact hn'

omit hh hb hen in
theorem remirrorFrom_await (c : CarrierId) (s : State) (k : Nat) : ∀ p ∈ ((remirrorFrom c s).stream k).pages, c.val ∉ p.await := by
  obtain ⟨f, hf⟩ : ∃ f : State → Nat × Stream → State, f = fun s e =>
    (pagesOff c (e.1 / 16) e.1 e.2.pages ([], s)).2.updTier fun t =>
      { t with streams := t.streams.ins e.1 { e.2 with pages := (pagesOff c (e.1 / 16) e.1 e.2.pages ([], s)).1 } } := ⟨_, rfl⟩
  have hsame : ∀ s (e : Nat × Stream), (f s e).tier.streams.find e.1 = some { e.2 with pages := (pagesOff c (e.1 / 16) e.1 e.2.pages ([], s)).1 } :=
    fun s e => by rw [hf]; exact Sparse.find_ins_self _ _ _
  have hother : ∀ s (e : Nat × Stream) j, j ≠ e.1 → (f s e).tier.streams.find j = s.tier.streams.find j := fun s e j hj => by
    rw [hf]
    refine (Sparse.find_ins_ne _ _ hj).trans ?_
    exact congrArg (fun x : Sparse Stream => x.find j) (pagesOff_keeps (fun s : State => s.tier.streams) (fun _ _ => rfl) _ _ _ _ _)
  have hall : ∀ (l : Sparse Stream) (s : State), (∀ v, s.tier.streams.find k = some v → (∃ e ∈ l, e.1 = k) ∨ ∀ p ∈ v.pages, c.val ∉ p.await) →
      ∀ v, (l.foldl f s).tier.streams.find k = some v → ∀ p ∈ v.pages, c.val ∉ p.await := by
    intro l
    induction l with
    | nil => exact fun s h v hv => (h v hv).resolve_left fun ⟨e, he, _⟩ => absurd he List.not_mem_nil
    | cons e l ih =>
      intro s h v hv
      refine ih (f s e) (fun v hv => ?_) v hv
      by_cases hk : k = e.1
      · rw [hk, hsame, Option.some.injEq] at hv
        rw [← hv]
        exact Or.inr (pagesOff_await c _ _ _ _ fun p hp => absurd hp List.not_mem_nil)
      · rw [hother s e k hk] at hv
        refine (h v hv).imp_left fun ⟨x, hx, hxk⟩ => ⟨x, ?_, hxk⟩
        exact (List.mem_cons.1 hx).resolve_left fun hxe => hk (hxe ▸ hxk.symm)
  have hin : ∀ (m : Sparse Stream) v, m.find k = some v → ∃ e ∈ m, e.1 = k := fun m v hv => by
    by_contra hno
    rw [Sparse.find_none_of_absent fun x hx hxk => hno ⟨x, hx, hxk⟩] at hv
    exact absurd hv (by simp)
  intro p hp
  unfold State.stream Sparse.get at hp
  rw [remirrorFrom_eq, ← hf] at hp
  cases hv : (s.tier.streams.foldl f (s.updTier fun t => { t with remirror := t.remirror.filter fun x => x.2.2 ≠ c.val })).tier.streams.find k with
  | none =>
    rw [hv] at hp
    exact absurd hp List.not_mem_nil
  | some v =>
    rw [hv] at hp
    exact hall s.tier.streams _ (by exact fun v hv => Or.inl (hin s.tier.streams v hv)) v hv p hp

theorem carOffline_begins {force : Bool} (hst : s.Still) (h : (s.car c).st = 5) (ht : s.tierCode = 0 ∨ (force = true ∧ s.tierCode = 1)) :
    Completes (.carOffline c force) s fun u => u.isBusy .CAR_CMD_RESULT c.val = true ∧ (u.car c).recLeft = s.tier.sbSeq ∧
      (∀ e ∈ u.tier.sbs, e.2.use ≠ 1) ∧ u.mem = s.mem ∧ ∀ (k : Nat) (p : JPage), p ∈ (u.stream k).pages → c.val ∉ p.await := by
  refine completes_of_pumped (carOfflineRun c force) rfl hh ?_
  unfold carOfflineRun
  rw [if_neg (by simp [hb]), if_neg (by simp [hen]), if_neg (by omega), if_neg (by
    rintro ⟨h0, hf⟩
    rcases ht with ht | ⟨rfl, ht⟩
    · exact h0 ht
    · simp [ht] at hf)]
  extract_lets v w
  have hwc : (w.car c).recLeft = s.tier.sbSeq := by
    rw [show w.car c = _ from updCar_car_self v c _]
    rfl
  have hws : ∀ e ∈ w.tier.sbs, e.2.use ≠ 1 := fun e he => by
    obtain ⟨x, -, rfl⟩ := List.mem_map.1 (show e ∈ s.tier.sbs.map fun e => (e.1, { e.2 with use := if e.2.use = 1 then 2 else e.2.use }) from he)
    dsimp only
    split <;> omega
  have hwb : w.isBusy .CAR_CMD_RESULT c.val = true := isBusy_busy s _ _
  have hwm : w.mem = s.mem := rfl
  have hwst : w.Still = s.Still := rfl
  clear_value w
  have hds : ∀ e ∈ (dropErase c w).tier.sbs, e.2.use ≠ 1 := fun e he => by
    unfold dropErase at he
    rw [show (updFull _).tier.sbs = _ from updFull_sbs _] at he
    obtain ⟨x, hx, rfl⟩ := List.mem_map.1 he
    dsimp only
    have := hws x hx
    split <;> omega
  have hrs : (remirrorFrom c (dropErase c w)).tier.sbs = (dropErase c w).tier.sbs := remirrorFrom_keeps (fun s : State => s.tier.sbs) (fun _ _ _ => rfl) c _
  rw [memPump_of_still hst ((offTier_still.remirrorFrom _ _).trans ((offTier_still.dropErase _ _).trans hwst))]
  refine ⟨?_, ?_, fun e he => hds e (hrs ▸ he), (offTier_mem.remirrorFrom _ _).trans ((offTier_mem.dropErase _ _).trans hwm), fun k p hp => remirrorFrom_await c _ k p hp⟩
  · refine (remirrorFrom_keeps (fun s : State => s.isBusy .CAR_CMD_RESULT c.val) (fun _ _ _ => rfl) c _).trans ?_
    exact (updFull_keeps (fun s : State => s.isBusy .CAR_CMD_RESULT c.val) (fun _ _ => rfl) _).trans hwb
  · rw [(offBooks_car c).remirrorFrom, (offBooks_car c).dropErase]
    exact hwc

theorem carAttach_conflicts (h3 : (s.car c).st ≠ 3) (h6 : (s.car c).st ≠ 6) : Completes (.carAttach c) s fun u =>
    u.tier = s.tier ∧ u.reg .CAR_CMD_RESULT c.val = w32 ((s.car c).st % 16 * 256 + 3) := by
  refine completes_of_pumped (carAttachRun c) rfl hh ?_
  unfold carAttachRun
  rw [if_neg (by simp [hb]), if_neg (by simp [hen]), if_pos ⟨h3, h6⟩]
  exact carConflict_answers c _ s

theorem carAttach_waits (h : (s.car c).st = 3 ∨ (s.car c).st = 6) (ho : s.tier.opened = true) (hm : s.mayAttach c = false) :
    Completes (.carAttach c) s fun u => u.tier = s.tier ∧ u.reg .CAR_CMD_RESULT c.val = w32 (s.tierCode % 16 * 256 + 3) := by
  refine completes_of_pumped (carAttachRun c) rfl hh ?_
  unfold carAttachRun
  rw [if_neg (by simp [hb]), if_neg (by simp [hen]), if_neg (by omega), if_neg (by simp [ho]), if_pos (by simp [hm])]
  exact carConflict_answers c _ s

omit hh hb hen in
/-- The register of a carrier is none of another carrier's. -/
theorem carReg_ne {q r : Reg} {d : CarrierId} (h : q.ctorIdx ≠ r.ctorIdx ∨ c ≠ d) : regKey q c.val ≠ regKey r d.val := fun hk => by
  obtain ⟨hq, hcd⟩ := regKey_inj (by omega) (by omega) hk
  exact h.elim (fun h => h hq) fun h => h (Fin.ext hcd)

omit hh hb hen in
/-- An event changes no register but the log's own. -/
theorem carEv_reg {r : Reg} {u : Nat} (hr : r.info.cnt = false) (hu : u < 65536) (k : EvKind) (cause : Nat) (s : State) :
    (carEv c k cause s).reg r u = s.reg r u := (offSays_reg hr hu).logEv (show 4 < 65536 by decide) s

omit hh hb hen in
/-- A carrier that is attached rebuilds: in part where it left in order, else in full (R139). -/
theorem attach_effect (c : CarrierId) (s : State) : ((attach c s).car c).st = 4 ∧ (attach c s).reg .REBUILD_DONE c.val = 0 ∧
    ((attach c s).car c).doneSb = (if descOurs (s.car c).desc && descSlot (s.car c).desc = c.val && (s.car c).recLeft ≠ 0 &&
      descLeft (s.car c).desc = (s.car c).recLeft && !(s.car c).wasFailed then (s.car c).recLeft else 0) := by
  have hcar : (attach c s).car c = _ := ((offBooks_car c).carEv c .state 0 _).trans (((offBooks_car c).regs _ _).trans
    (((offBooks_car c).regs _ _).trans (updCar_car_self s c _)))
  refine ⟨congrArg CarSt.st hcar, ?_, congrArg CarSt.doneSb hcar⟩
  unfold attach
  rw [carEv_reg rfl (by omega), reg_setReg_ne _ _ (carReg_ne (Or.inl (by decide))), reg_setReg_self]

theorem carAttach_attaches (hst : s.Still) (hm : s.mayAttach c = true) : Completes (.carAttach c) s fun u =>
    (u.car c).st = 4 ∧ u.reg .CAR_CMD_RESULT c.val = 0 ∧ u.reg .REBUILD_DONE c.val = 0 ∧ u.mem = s.mem ∧
      (u.car c).doneSb = (if descOurs (s.car c).desc && descSlot (s.car c).desc = c.val && (s.car c).recLeft ≠ 0 &&
        descLeft (s.car c).desc = (s.car c).recLeft && !(s.car c).wasFailed then (s.car c).recLeft else 0) := by
  refine completes_of_pumped (carAttachRun c) rfl hh ?_
  have hm' := hm
  simp only [State.mayAttach, Bool.and_eq_true, Bool.or_eq_true, decide_eq_true_eq] at hm'
  obtain ⟨⟨h36, ho⟩, -⟩ := hm'
  obtain ⟨h4, hdone, hsb⟩ := attach_effect c s
  unfold carAttachRun
  rw [if_neg (by simp [hb]), if_neg (by simp [hen]), if_neg (by omega), if_neg (by simp [ho]), if_neg (by simp [hm])]
  rw [memPump_of_still hst ((offTier_still.offBooks.result _ _ _ _ _).trans (offTier_still.attach _ _))]
  refine ⟨h4, reg_result_self _ _ _ _ _, (reg_setReg_ne _ _ (carReg_ne (Or.inl (by decide)))).trans hdone, offTier_mem.attach _ _, hsb⟩

end

theorem carOfflineDone_leaves (hst : s.Still) (hl : s.leaving c = true) : Completes (.carOfflineDone c) s fun u =>
    (u.car c).st = 6 ∧ (u.car c).desc = descWrite (s.car c).desc c (s.car c).recLeft ∧ u.reg .CAR_CMD_RESULT c.val = 0 ∧ u.mem = s.mem := by
  refine completes_of_pumped (carOfflineDoneRun c) rfl hh ?_
  unfold carOfflineDoneRun
  rw [if_neg (by simp [hl])]
  extract_lets v
  have hvc : v.car c = { s.car c with st := 6, desc := descWrite (s.car c).desc c (s.car c).recLeft, recSt := 6, wasFailed := false } := updCar_car_self s c _
  rw [memPump_of_still hst ((offTier_still.offBooks.result _ _ _ _ _).trans (offTier_still.offBooks.carEv _ _ _ v))]
  have hc : (((carEv c .state 0 v).result .CAR_CMD_RESULT c.val stOK).car c) = v.car c := (offBooks_car c).carEv _ _ _ v
  rw [hc, hvc]
  exact ⟨rfl, rfl, reg_result_self _ _ _ _ _, offTier_mem.offBooks.carEv _ _ _ v⟩

theorem carOfflineDone_ignored (hl : s.leaving c = false) : Completes (.carOfflineDone c) s fun u => u = s := by
  refine completes_of_pumped (carOfflineDoneRun c) rfl hh ?_
  unfold carOfflineDoneRun
  rw [if_pos (by simp [hl])]

theorem rebuildDone_online (hst : s.Still) (h4 : (s.car c).st = 4) : Completes (.rebuildDone c) s fun u =>
    (u.car c).st = 5 ∧ (u.car c).recLeft = 0 ∧ (u.car c).desc = descWrite (s.car c).desc c 0 ∧
      u.reg .REBUILD_DONE c.val = s.reg .REBUILD_TOTAL c.val ∧ u.mem = s.mem := by
  refine completes_of_pumped (rebuildRun c) rfl hh ?_
  unfold rebuildRun
  rw [if_neg (by omega)]
  extract_lets v w
  have hwc : w.car c = { s.car c with st := 5, desc := descWrite (s.car c).desc c 0, recLeft := 0, wasFailed := false, recSt := 5, doneSb := 0, wasUp := 0 } :=
    updCar_car_self s c _
  have hcar : (carEv c .state 0 w).car c = w.car c := (offBooks_car c).carEv _ _ _ w
  have hreg : (autoAttach (carEv c .state 0 w)).reg .REBUILD_DONE c.val = s.reg .REBUILD_TOTAL c.val := by
    refine (autoAttach_keeps (fun t => t.reg .REBUILD_DONE c.val) fun d hd => ?_).trans ((carEv_reg rfl (by omega) _ _ w).trans (reg_setReg_self _ _ _ _))
    have hne : c ≠ d := by
      rintro rfl
      rw [hcar, hwc] at hd
      simp at hd
    unfold attach
    rw [carEv_reg rfl (by omega), reg_setReg_ne _ _ (carReg_ne (Or.inl (by decide))), reg_setReg_ne _ _ (carReg_ne (Or.inr hne))]
    rfl
  rw [memPump_of_still hst ((offTier_still.autoAttach _).trans (offTier_still.offBooks.carEv _ _ _ w)),
    autoAttach_car (by simp [hcar, hwc]) (by simp [hcar, hwc]), hcar, hwc]
  exact ⟨rfl, rfl, rfl, hreg, (offTier_mem.autoAttach _).trans (offTier_mem.offBooks.carEv _ _ _ w)⟩

end

end Sys2Proof.Machine
end

section

open Sys2Proof Sys2Proof.Machine

/-- Settles O19: each event and each command of a carrier, by the state it finds the carrier in; the bookkeeping that follows leaves the carriers' records alone. -/
theorem carriersComeAndGo : Obligations.CarriersComeAndGo := by
  intro s c hh
  refine ⟨carPrsntFall_completes hh c, fun hst h => carPrsntRise_service hh hst h, fun h4 h5 h7 => carPrsntRise_idle hh h4 h5 h7,
    fun h1 h5 => ⟨fun h => carOwnFall_service hh h1 h5 h, fun c4 c5 c7 hp => carOwnFall_idle hh h1 h5 c4 c5 c7 hp⟩, ?_, ?_,
    fun h => carOwnRise_held hh h, fun hn h1 hp => carOwnRise_enters hh hn h1 hp, fun r h2 => ⟨?_, ?_, ?_⟩, fun hb hen => ⟨?_, ?_, ?_, ?_, ?_, ?_⟩,
    fun hst hl => carOfflineDone_leaves hh hst hl, fun hl => carOfflineDone_ignored hh hl, fun hst h4 => rebuildDone_online hh hst h4⟩
  · exact fun f hst hf h hold hown => ⟨fun hz => carOwnHold_pulls hh hf hst hold hown hz, fun hz hhold => carOwnHold_all hh hf h hold hown hz hhold⟩
  · exact fun f h1 hf hn h hown hhold hfn => carOwnFall_fences hh h1 hf hn h hown hhold hfn
  · exact fun hw => discovery_refuses hh h2 hw
  · exact fun hst hw hsp ho => discovery_accepts hh h2 hst hw hsp ho
  · exact fun hst hw hfit h0 => discovery_fails hh h2 hst hw hfit h0
  · exact fun force h => carOffline_conflicts hh hb hen h
  · exact fun force h h0 hf => carOffline_degraded hh hb hen h h0 hf
  · exact fun force hst h ht => carOffline_begins hh hb hen hst h ht
  · exact fun hst hm => carAttach_attaches hh hb hen hst hm
  · exact fun h3 h6 => carAttach_conflicts hh hb hen h3 h6
  · exact fun h ho hm => carAttach_waits hh hb hen h ho hm

end

section
/-! PROOFS. What the flash tier's work leaves alone: dense stripes and relocation (R122, R129 to R132), released superblocks (R129, R133),
journal pages (R120, R123). -/

namespace Sys2Proof.Machine

variable {s : State}

/-! ### Pages that are written -/

/-- A part of the state that writing pages leaves alone: superblocks that open and fill up, dense stripes, counters. -/
structure OffStripes {α : Type} (p : State → α) : Prop where
  count : ∀ s (r : Reg) u n, r.info.cnt = true → u < 65536 → p (s.count r u n) = p s
  stripes : ∀ s (sbs : Sparse Sb) (seq : Nat) (full : Bool) (dense : List DStripe),
    p { s with tier := { s.tier with sbs := sbs, sbSeq := seq, full := full, dense := dense } } = p s

theorem OffTier.offStripes {α : Type} {p : State → α} (hp : OffTier p) : OffStripes p := ⟨fun s r u n _ _ => hp.count r u n s, fun s _ _ _ _ => hp.tier s _⟩

section
variable {α : Type} {p : State → α} (hp : OffStripes p)
include hp

theorem OffStripes.flCount {r : Reg} (hr : r.info.cnt = true) (c : CarrierId) (sb n : Nat) (s : State) : p (flCount r c sb n s) = p s :=
  hp.count _ _ _ _ hr (by have := flUnit_lt c sb s; omega)

theorem OffStripes.setSb (i : Nat) (b : Sb) (s : State) : p (s.setSb i b) = p s := hp.stripes s _ s.tier.sbSeq s.tier.full s.tier.dense

theorem OffStripes.setDense (f : List DStripe → List DStripe) (s : State) : p (s.updTier fun x => { x with dense := f x.dense }) = p s :=
  hp.stripes s s.tier.sbs s.tier.sbSeq s.tier.full _

theorem OffStripes.updFull (s : State) : p (updFull s) = p s := by
  have hf : ∀ b, p (s.updTier fun t => { t with full := b }) = p s := fun b => hp.stripes s s.tier.sbs s.tier.sbSeq b s.tier.dense
  unfold Machine.updFull
  exact ite_keeps _ rfl (ite_keeps _ (hf _) (ite_keeps _ (hf _) rfl))

theorem OffStripes.openSb (kind : Nat) (t : TenantId) (s : State) : p (openSb kind t s).2 = p s := by
  unfold Machine.openSb
  split
  · rfl
  · exact (hp.updFull _).trans ((hp.stripes _ _ _ _ _).trans (hp.setSb _ _ s))

theorem OffStripes.takePage (kind : Nat) (t : TenantId) (n : Nat) (s : State) : p (takePage kind t n s).2 = p s := by
  unfold Machine.takePage
  cases (s.tier.sbs.find? fun e => e.2.use = 1 && e.2.kind = kind && e.2.tenant = t.val && !e.2.reloc).map Prod.fst with
  | some i => exact hp.setSb _ _ s
  | none =>
    dsimp only
    split
    · exact hp.openSb _ _ s
    · exact (hp.setSb _ _ _).trans (hp.openSb _ _ s)

theorem OffStripes.programStripe (d : DStripe) (s : State) : p (programStripe d s) = p s :=
  foldl_keeps p _ (fun s _ => (hp.flCount rfl _ _ _ _).trans (hp.flCount rfl _ _ _ s)) _ s

theorem OffStripes.denseAdd (q : Nat) (pg : DPage) {s t : State} (h : denseAdd q pg s = some t) : p t = p s := by
  unfold Machine.denseAdd at h
  dsimp only at h
  split at h
  · cases h
  · split at h
    · cases h
      exact ite_keeps _ ((hp.programStripe _ _).trans (hp.setDense _ s)) (hp.setDense _ s)
    · split at h
      · cases h
      · next sb page u hu =>
        cases h
        have hpage := hp.takePage 0 (tenOf pg.page.tenant) s.geo.pages s
        rw [hu] at hpage
        exact (hp.setDense (fun l => l ++ [⟨q, (tenOf pg.page.tenant).val, sb, page, [pg], u.time.nclk, false, false⟩]) u).trans hpage

end

/-! ### Relocation -/

/-- The valid pages of a superblock join new stripes, where a place is found. -/
def copyValid (i : Nat) (s : State) : State :=
  (s.validIn i).foldl (fun s e =>
    match s.tier.pages.find ((e.2.sb * 4096 + e.2.page) * 8 + e.2.carrier) with
    | some p => (denseAdd (wbQuarter (s.homeSlice (tenOf p.tenant) e.1)) ⟨p, .copy e.2, 0⟩ s).getD s
    | none => s) s

theorem relocate_eq (i : Nat) (s : State) : relocate i s =
    if ((s.sb i).use ≠ 1 ∧ (s.sb i).use ≠ 2) ∨ (s.sb i).reloc then s else releaseEmpty i (copyValid i (s.setSb i { s.sb i with reloc := true })) := rfl

/-- What holds through every page that joins a stripe holds when all have. -/
theorem copyValid_induction {P : State → Prop} (i : Nat) (hadd : ∀ q pg s t, P s → denseAdd q pg s = some t → P t) {s : State} (h : P s) : P (copyValid i s) := by
  unfold copyValid
  refine List.foldlRecOn _ _ (motive := P) h fun s h e _ => ?_
  split
  · cases ht : denseAdd (wbQuarter (s.homeSlice _ e.1)) _ s with
    | none => exact h
    | some t => exact hadd _ _ _ _ h ht
  · exact h

theorem OffStripes.copyValid {α : Type} {p : State → α} (hp : OffStripes p) (i : Nat) (s : State) : p (copyValid i s) = p s :=
  copyValid_induction (P := fun t => p t = p s) i (fun _ _ _ _ h ht => (hp.denseAdd _ _ ht).trans h) rfl

/-- A closed stripe that is being written stays so while pages join others. -/
theorem denseAdd_writing {d : DStripe} (hc : d.closed = true) {q : Nat} {pg : DPage} {s t : State} (hd : d ∈ s.tier.dense)
    (h : denseAdd q pg s = some t) : d ∈ t.tier.dense := by
  have hprog : ∀ (e : DStripe) s, (programStripe e s).tier = s.tier := fun e s =>
    foldl_keeps (fun s : State => s.tier) _ (fun s c => (count_tier _ _ _ _).trans (count_tier _ _ _ _)) _ _
  unfold denseAdd at h
  dsimp only at h
  split at h
  · cases h
  · split at h
    next e he =>
      cases h
      have hopen : d ≠ e := by
        rintro rfl
        have := List.find?_some he
        simp [hc] at this
      have hmem : d ∈ s.tier.dense.map fun x => if x = e then { e with pages := e.pages ++ [pg], closed := 7 ≤ e.pages.length + 1 } else x :=
        List.mem_map.2 ⟨d, hd, if_neg hopen⟩
      split
      · rw [hprog]
        exact hmem
      · exact hmem
    next =>
      split at h
      · cases h
      next sb page u hu =>
        cases h
        have hpage : u.tier.dense = s.tier.dense := by
          have hk : ∀ v : State, ∀ x, (v.updTier fun t => { t with sbs := x }).tier.dense = v.tier.dense := fun _ _ => rfl
          have hfull : ∀ v, (updFull v).tier.dense = v.tier.dense := fun v => by
            unfold updFull
            dsimp only
            split
            · rfl
            · split
              · rfl
              · split <;> rfl
          have : (takePage 0 (tenOf pg.page.tenant) s.geo.pages s).2.tier.dense = s.tier.dense := by
            unfold takePage openSb
            cases (s.tier.sbs.find? fun e => e.2.use = 1 && e.2.kind = 0 && e.2.tenant = (tenOf pg.page.tenant).val && !e.2.reloc).map Prod.fst with
            | some i => rfl
            | none =>
              cases s.pickSb with
              | none => rfl
              | some j => exact (hfull _).trans rfl
          rw [hu] at this
          exact this
        exact List.mem_append_left _ (hpage ▸ hd)

/-- A superblock is held where pages of it are valid, or a stripe is being written into it. -/
def State.holds (s : State) (i : Nat) : Prop := s.validIn i ≠ [] ∨ ∃ d ∈ s.tier.dense, d.sb = i ∧ d.closed = true

theorem releaseEmpty_held {i : Nat} (h : s.holds i) : releaseEmpty i s = s := by
  unfold releaseEmpty
  dsimp only
  rw [if_neg]
  rintro ⟨-, -, hw, hv⟩
  rcases h with h | ⟨d, hd, hi, -⟩
  · exact h hv
  · rw [Bool.not_eq_true', List.any_eq_false] at hw
    exact hw d hd (decide_eq_true hi)

theorem validIn_of_fmap {t : State} (h : t.tier.fmap = s.tier.fmap) (i : Nat) : t.validIn i = s.validIn i := by
  unfold State.validIn
  rw [h]

theorem offStripes_fmap : OffStripes fun s => s.tier.fmap :=
  ⟨fun s r u n _ _ => congrArg TierSt.fmap (count_tier s r u n), fun _ _ _ _ _ => rfl⟩

theorem denseAdd_holds {i q : Nat} {pg : DPage} {s t : State} (h : s.holds i) (ht : denseAdd q pg s = some t) : t.holds i := by
  refine h.imp (fun hv => ?_) fun ⟨d, hd, hi, hc⟩ => ⟨d, denseAdd_writing hc hd ht, hi, hc⟩
  rw [validIn_of_fmap (offStripes_fmap.denseAdd q pg ht)]
  exact hv

/-- A held superblock that is relocated is not released yet: writing its pages elsewhere is all that happens. -/
theorem OffStripes.relocate {α : Type} {p : State → α} (hp : OffStripes p) {i : Nat} (h : s.holds i) : p (relocate i s) = p s := by
  rw [relocate_eq]
  refine ite_keeps _ rfl ?_
  have hv : (Machine.copyValid i (s.setSb i { s.sb i with reloc := true })).holds i :=
    copyValid_induction i (fun _ _ _ _ h ht => denseAdd_holds h ht) h
  rw [releaseEmpty_held hv]
  exact (hp.copyValid i _).trans (hp.setSb _ _ s)

theorem relocate_holds {i : Nat} (h : s.holds i) : (relocate i s).holds i := by
  rw [relocate_eq]
  split
  · exact h
  · have hv : (copyValid i (s.setSb i { s.sb i with reloc := true })).holds i := copyValid_induction i (fun _ _ _ _ h ht => denseAdd_holds h ht) h
    rw [releaseEmpty_held hv]
    exact hv

theorem holds_of_tier {t : State} (i : Nat) (h : t.tier.fmap = s.tier.fmap) (hd : t.tier.dense = s.tier.dense) : t.holds i ↔ s.holds i := by
  unfold State.holds State.validIn
  rw [h, hd]

/-! ### Page reads that count (R131, R132) -/

theorem State.holds.flCount {i : Nat} (h : s.holds i) (r : Reg) (c : CarrierId) (sb n : Nat) : (flCount r c sb n s).holds i :=
  (holds_of_tier i (congrArg TierSt.fmap (count_tier _ _ _ _)) (congrArg TierSt.dense (count_tier _ _ _ _))).2 h

/-- A page read that counts, before the superblock's limit is looked at. -/
def readNoted (c : CarrierId) (i n : Nat) (s : State) : State :=
  let s := flCount .FL_RD_BYTES c i (18432 * n) (flCount .PAGE_RD_CNT c i n s)
  s.setSb i { s.sb i with reads := (s.sb i).reads.set c.val (satAdd 32 ((s.sb i).reads.getD c.val 0) n) }

theorem readCount_eq (c : CarrierId) (i n : Nat) (s : State) : ∃ P : Prop, ∃ _ : Decidable P,
    readCount c i n s = if P then relocate i ((readNoted c i n s).count .RELOC_RD_CNT) else readNoted c i n s := ⟨_, _, rfl⟩

theorem readNoted_holds {c : CarrierId} {i n j : Nat} (h : s.holds j) : (readNoted c i n s).holds j := (h.flCount .PAGE_RD_CNT c i n).flCount .FL_RD_BYTES c i (18432 * n)

theorem OffStripes.readNoted {α : Type} {p : State → α} (hp : OffStripes p) (c : CarrierId) (i n : Nat) (s : State) : p (readNoted c i n s) = p s :=
  (hp.setSb _ _ _).trans ((hp.flCount rfl _ _ _ _).trans (hp.flCount rfl _ _ _ s))

theorem count_holds {i : Nat} (h : s.holds i) (r : Reg) (u n : Nat) : (s.count r u n).holds i :=
  (holds_of_tier i (congrArg TierSt.fmap (count_tier _ _ _ _)) (congrArg TierSt.dense (count_tier _ _ _ _))).2 h

theorem OffStripes.readCount {α : Type} {p : State → α} (hp : OffStripes p) {i : Nat} (h : s.holds i) (c : CarrierId) (n : Nat) : p (readCount c i n s) = p s := by
  obtain ⟨P, hP, heq⟩ := readCount_eq c i n s
  rw [heq]
  exact ite_keeps _ ((hp.relocate (count_holds (readNoted_holds h) _ _ _)).trans ((hp.count _ _ _ _ rfl (by decide)).trans (hp.readNoted c i n s))) (hp.readNoted c i n s)

theorem readCount_holds {i : Nat} (h : s.holds i) (c : CarrierId) (n : Nat) : (readCount c i n s).holds i := by
  obtain ⟨P, hP, heq⟩ := readCount_eq c i n s
  rw [heq]
  split
  · exact relocate_holds (count_holds (readNoted_holds h) _ _ _)
  · exact readNoted_holds h

theorem relocWeak_eq (i : Nat) (s : State) : relocWeak i s =
    if (s.sb i).reloc ∨ ((s.sb i).use ≠ 1 ∧ (s.sb i).use ≠ 2) then s else relocate i (s.count .RELOC_RET_CNT) := rfl

theorem OffStripes.relocWeak {α : Type} {p : State → α} (hp : OffStripes p) {i : Nat} (h : s.holds i) : p (relocWeak i s) = p s := by
  rw [relocWeak_eq]
  exact ite_keeps _ rfl ((hp.relocate (count_holds h _ _ _)).trans (hp.count _ _ _ _ rfl (by decide)))

theorem relocWeak_holds {i : Nat} (h : s.holds i) : (relocWeak i s).holds i := by
  rw [relocWeak_eq]
  split
  · exact h
  · exact relocate_holds (count_holds h _ _ _)

/-! ### A superblock in use stays so -/

theorem mem_put {α : Type} [DecidableEq α] {d : α} {m : Sparse α} {k : Nat} {v : α} {x : Nat × α} (h : x ∈ m.put d k v) : x = (k, v) ∨ x ∈ m ∧ x.1 ≠ k := by
  have hnone : ∀ m : Sparse α, x ∈ m.place k none → x ∈ m ∧ x.1 ≠ k := fun m => by
    induction m with
    | nil => exact fun h => absurd h List.not_mem_nil
    | cons y m ih =>
      obtain ⟨j, w⟩ := y
      unfold Sparse.place
      split
      · intro h
        rcases List.mem_cons.1 h with h | h
        · subst h
          exact ⟨List.mem_cons_self, by dsimp only; omega⟩
        · exact ⟨List.mem_cons_of_mem _ (ih h).1, (ih h).2⟩
      · dsimp only
        split
        · intro h
          obtain ⟨h, hk⟩ := List.mem_filter.1 h
          exact ⟨List.mem_cons_of_mem _ h, of_decide_eq_true hk⟩
        next hj =>
          intro h
          rcases List.mem_cons.1 h with h | h
          · subst h
            exact ⟨List.mem_cons_self, hj⟩
          · obtain ⟨h, hk⟩ := List.mem_filter.1 h
            exact ⟨List.mem_cons_of_mem _ h, of_decide_eq_true hk⟩
  unfold Sparse.put at h
  split at h
  · exact Or.inr (hnone m h)
  · exact mem_ins h

/-- A superblock that holds pages, in every entry of it. -/
structure InUse (i : Nat) (s : State) : Prop where
  use : (s.sb i).use = 1 ∨ (s.sb i).use = 2
  all : ∀ e ∈ s.tier.sbs, e.1 = i → e.2.use ≠ 0

/-- A superblock that holds pages and is to be moved. -/
structure Marked (i : Nat) (s : State) : Prop extends InUse i s where
  reloc : (s.sb i).reloc = true

theorem setSb_sb_self (i : Nat) (b : Sb) (s : State) : (s.setSb i b).sb i = b := Sparse.get_put_self _ _ _ _
theorem setSb_sb_ne {i j : Nat} (h : i ≠ j) (b : Sb) (s : State) : (s.setSb j b).sb i = s.sb i := Sparse.get_put_ne _ _ _ _ h

theorem sb_of_sbs {t : State} (h : t.tier.sbs = s.tier.sbs) (i : Nat) : t.sb i = s.sb i := congrArg (fun x : Sparse Sb => x.get Sb.fresh i) h

theorem InUse.of_sbs {i : Nat} {t : State} (h : InUse i s) (ht : t.tier.sbs = s.tier.sbs) : InUse i t :=
  ⟨by rw [sb_of_sbs ht]; exact h.use, by rw [ht]; exact h.all⟩

theorem InUse.setSb {i j : Nat} {b : Sb} (h : InUse i s) (hb : j = i → b.use = 1 ∨ b.use = 2) : InUse i (s.setSb j b) := by
  refine ⟨?_, fun e he hei => ?_⟩
  · by_cases hj : j = i
    · subst hj
      rw [setSb_sb_self]
      exact hb rfl
    · rw [setSb_sb_ne (Ne.symm hj)]
      exact h.use
  · rcases mem_put he with rfl | ⟨he, -⟩
    · have := hb hei
      dsimp only
      omega
    · exact h.all e he hei

theorem InUse.count {i : Nat} (h : InUse i s) (r : Reg) (u n : Nat) : InUse i (s.count r u n) := h.of_sbs (congrArg TierSt.sbs (count_tier s r u n))

/-- A free superblock is none in use. -/
theorem pickSb_free {i j : Nat} (h : InUse i s) (hj : s.pickSb = some j) : j ≠ i := by
  have hfind : ∀ x, s.tier.sbs.find i = x → x.isSome = true := by
    rintro (_ | x) hx
    · have := h.use
      unfold State.sb Sparse.get at this
      rw [hx] at this
      exact absurd this (by decide)
    · rfl
  unfold State.pickSb at hj
  dsimp only at hj
  split at hj
  next k hk =>
    cases hj
    rintro rfl
    have := List.find?_some hk
    have h2 := hfind _ rfl
    rw [Option.isNone_iff_eq_none] at this
    rw [this] at h2
    exact absurd h2 (by decide)
  next =>
    refine List.foldlRecOn _ _ (motive := fun b : Option Nat => ∀ x, b = some x → x ≠ i) (fun x hx => absurd hx (by simp)) (fun b hb e he y hy => ?_) j hj
    have hei : e.1 ≠ i := fun hei => h.all e (List.mem_filter.1 he).1 hei (of_decide_eq_true (List.mem_filter.1 he).2)
    split at hy
    · exact Option.some.inj hy ▸ hei
    · split at hy
      · exact Option.some.inj hy ▸ hei
      · exact Option.some.inj hy ▸ hb _ rfl

theorem updFull_sb (i : Nat) (s : State) : (updFull s).sb i = s.sb i := sb_of_sbs (updFull_sbs s) i

/-- A page taken from some superblock changes no other superblock's mark, and frees none. -/
theorem takePage_marked {i k : Nat} {t : TenantId} {n : Nat} (h : InUse i s) :
    InUse i (takePage k t n s).2 ∧ ((takePage k t n s).2.sb i).reloc = (s.sb i).reloc := by
  have hset : ∀ (v : State) (j : Nat), InUse i v → (v.sb i).reloc = (s.sb i).reloc →
      InUse i (v.setSb j { v.sb j with next := (v.sb j).next + 1, use := if n ≤ (v.sb j).next + 1 then 2 else 1 }) ∧
        ((v.setSb j { v.sb j with next := (v.sb j).next + 1, use := if n ≤ (v.sb j).next + 1 then 2 else 1 }).sb i).reloc = (s.sb i).reloc := by
    intro v j hv hr
    refine ⟨hv.setSb fun _ => by dsimp only; split <;> simp, ?_⟩
    by_cases hj : j = i
    · subst hj
      rw [setSb_sb_self]
      exact hr
    · rw [setSb_sb_ne (Ne.symm hj)]
      exact hr
  unfold takePage
  cases (s.tier.sbs.find? fun e => e.2.use = 1 && e.2.kind = k && e.2.tenant = t.val && !e.2.reloc).map Prod.fst with
  | some j => exact hset s j h rfl
  | none =>
    unfold openSb
    cases hp : s.pickSb with
    | none => exact ⟨h, rfl⟩
    | some j =>
      have hji := pickSb_free h hp
      refine hset (updFull _) j ((InUse.of_sbs (h.setSb fun hj => absurd hj hji) rfl).of_sbs (updFull_sbs _)) ?_
      rw [updFull_sb]
      exact congrArg Sb.reloc (setSb_sb_ne (Ne.symm hji) _ s)

theorem denseAdd_marked {i q : Nat} {pg : DPage} {s t : State} (h : InUse i s) (ht : denseAdd q pg s = some t) : InUse i t ∧ (t.sb i).reloc = (s.sb i).reloc := by
  have hprog : ∀ (e : DStripe) s, (programStripe e s).tier = s.tier := fun e s =>
    foldl_keeps (fun s : State => s.tier) _ (fun s c => (count_tier _ _ _ _).trans (count_tier _ _ _ _)) _ _
  have hsame : ∀ u : State, u.tier.sbs = s.tier.sbs → InUse i u ∧ (u.sb i).reloc = (s.sb i).reloc := fun u hu =>
    ⟨h.of_sbs hu, congrArg Sb.reloc (sb_of_sbs hu i)⟩
  unfold denseAdd at ht
  dsimp only at ht
  split at ht
  · cases ht
  · split at ht
    · cases ht
      split
      · exact hsame _ (by rw [hprog]; rfl)
      · exact hsame _ rfl
    · split at ht
      · cases ht
      · next sb page u hu =>
        cases ht
        obtain ⟨h1, h2⟩ := takePage_marked (k := 0) (t := tenOf pg.page.tenant) (n := s.geo.pages) h
        rw [hu] at h1 h2
        exact ⟨h1.of_sbs rfl, h2⟩

/-- A held superblock in use that is relocated is marked, and stays in use. -/
theorem relocate_marks {i : Nat} (hu : InUse i s) (h : s.holds i) : Marked i (relocate i s) := by
  rw [relocate_eq]
  by_cases hr : (s.sb i).reloc = true
  · rw [if_pos (Or.inr hr)]
    exact ⟨hu, hr⟩
  · rw [if_neg (by have := hu.use; rintro (hx | hx); omega; exact hr hx)]
    have hm : Marked i (s.setSb i { s.sb i with reloc := true }) := ⟨hu.setSb fun _ => hu.use, by rw [setSb_sb_self]⟩
    have hv : (copyValid i (s.setSb i { s.sb i with reloc := true })).holds i := copyValid_induction i (fun _ _ _ _ h ht => denseAdd_holds h ht) h
    rw [releaseEmpty_held hv]
    exact copyValid_induction (P := Marked i) i (fun q pg s t hs ht => ⟨(denseAdd_marked hs.toInUse ht).1, (denseAdd_marked hs.toInUse ht).2.trans hs.reloc⟩) hm

/-- Reads of a superblock's pages keep it in use. -/
theorem readCount_inUse {c : CarrierId} {i n : Nat} (hu : InUse i s) (h : s.holds i) : InUse i (readCount c i n s) := by
  have hn : InUse i (readNoted c i n s) := ((hu.count .PAGE_RD_CNT _ n).count .FL_RD_BYTES _ (18432 * n)).setSb fun _ =>
    ((hu.count .PAGE_RD_CNT _ n).count .FL_RD_BYTES _ (18432 * n)).use
  obtain ⟨P, hP, heq⟩ := readCount_eq c i n s
  rw [heq]
  split
  · exact (relocate_marks (hn.count _ _ _) (count_holds (readNoted_holds h) _ _ _)).toInUse
  · exact hn

theorem relocWeak_marks {i : Nat} (hu : InUse i s) (h : s.holds i) : Marked i (relocWeak i s) := by
  rw [relocWeak_eq]
  split
  next hc =>
    refine ⟨hu, hc.resolve_right ?_⟩
    have := hu.use
    omega
  · exact relocate_marks (hu.count _ _ _) (count_holds h _ _ _)

end Sys2Proof.Machine
end

section
/-! PROOFS. The flash tier's work over time: fills, journal pages, dense stripes, checkpoints, collection, erases and scans (R117 to R132). -/

namespace Sys2Proof.Machine

variable {s : State}

/-! ### What releasing a superblock leaves alone -/

/-- A part of the state that the release of superblocks and the reclaiming of journal pages leave alone. -/
structure OffRelease {α : Type} (p : State → α) : Prop extends OffBooks p where
  kept : ∀ s (cars : Vector CarSt 8) (pages : Sparse Page) (logs : Vector Nat 24) (ckpts : List Ckpt) (gc : Option Nat),
    p { s with tier := { s.tier with cars := cars, pages := pages, logs := logs, ckpts := ckpts, gc := gc } } = p s

theorem OffTier.offRelease {α : Type} {p : State → α} (hp : OffTier p) : OffRelease p := ⟨hp.offBooks, fun s _ _ _ _ _ => hp.tier s _⟩

section
variable {α : Type} {p : State → α} (hp : OffRelease p)
include hp

theorem OffRelease.count (r : Reg) (u n : Nat) (s : State) : p (s.count r u n) = p s := count_keeps p hp.regs hp.cnt64 s r u n

theorem OffRelease.flCount (r : Reg) (c : CarrierId) (sb n : Nat) (s : State) : p (flCount r c sb n s) = p s := hp.count _ _ _ s

theorem OffRelease.updCar (c : CarrierId) (f : CarSt → CarSt) (s : State) : p (s.updCar c f) = p s :=
  hp.kept s _ s.tier.pages s.tier.logs s.tier.ckpts s.tier.gc

theorem OffRelease.setSb (i : Nat) (b : Sb) (s : State) : p (s.setSb i b) = p s := hp.books s _ s.tier.remirror s.tier.streams s.tier.full

theorem OffRelease.setStream (k : Nat) (x : Stream) (s : State) : p (s.setStream k x) = p s := hp.books s s.tier.sbs s.tier.remirror _ s.tier.full

theorem OffRelease.logAppend (w : Nat) (s : State) : p (logAppend w s) = p s := by
  have hlog : ∀ s l, p (s.updTier fun t => { t with logs := l }) = p s := fun s l => hp.kept s s.tier.cars s.tier.pages l s.tier.ckpts s.tier.gc
  have hck : ∀ s l, p (s.updTier fun t => { t with ckpts := l }) = p s := fun s l => hp.kept s s.tier.cars s.tier.pages s.tier.logs l s.tier.gc
  unfold Machine.logAppend
  split
  · exact ite_keeps _ ((hck _ _).trans (hlog _ _)) (hlog _ _)
  · rfl

theorem OffRelease.failed (c : CarrierId) (cause : Nat) (s : State) : p (carFail c cause s) = p s := by
  by_cases h : (s.car c).st = 7
  · unfold Machine.carFail
    simp only [h, if_true]
  · exact (hp.carFail h cause).trans (hp.updCar c _ s)

theorem OffRelease.checkWorn (c : CarrierId) (s : State) : p (checkWorn c s) = p s := by
  unfold Machine.checkWorn
  exact ite_keeps _ ((hp.carEv _ _ _ _).trans (hp.updCar c _ s)) rfl

theorem OffRelease.retire (c : CarrierId) (i : Nat) (s : State) : p (retire c i s) = p s := by
  unfold Machine.retire
  extract_lets k used
  split
  · exact hp.failed _ _ s
  · exact (hp.checkWorn _ _).trans ((hp.logAppend _ _).trans ((hp.setSb _ _ _).trans (hp.updCar c _ s)))

theorem OffRelease.releaseSb (i : Nat) (s : State) : p (releaseSb i s) = p s := by
  have hpages : ∀ s l, p (s.updTier fun t => { t with pages := l }) = p s := fun s l => hp.kept s s.tier.cars l s.tier.logs s.tier.ckpts s.tier.gc
  have hgc : ∀ s l, p (s.updTier fun t => { t with gc := l }) = p s := fun s l => hp.kept s s.tier.cars s.tier.pages s.tier.logs s.tier.ckpts l
  unfold Machine.releaseSb
  extract_lets b limit out s1 s2 er s3
  split
  · rfl
  · have h1 : p s1 = p s := hpages s _
    have h2 : p s2 = p s1 := ite_keeps _ ((hp.count _ _ _ _).trans (hgc s1 _)) rfl
    have h3 : p s3 = p s := (hp.setSb _ _ s2).trans (h2.trans h1)
    clear_value s3
    exact (hp.updFull _).trans ((foldl_keeps p _ (fun s c => hp.retire c i s) _ _).trans h3)

theorem OffRelease.releaseEmpty (i : Nat) (s : State) : p (releaseEmpty i s) = p s := ite_keeps _ (hp.releaseSb i s) rfl

theorem OffRelease.journalErase (s : State) : p (journalErase s) = p s := foldl_keeps p _ (fun s _ => ite_keeps _ (hp.releaseSb _ s) rfl) _ s

theorem OffRelease.reclaim (k : Nat) (s : State) : p (reclaim k s) = p s :=
  ite_keeps _ ((hp.journalErase _).trans ((hp.logAppend _ _).trans (hp.setStream _ _ s))) rfl

theorem OffRelease.obsolete (k b n : Nat) (s : State) : p (obsolete k b n s) = p s := (hp.reclaim _ _).trans (hp.setStream _ _ s)

theorem OffRelease.badMember (c : CarrierId) (i : Nat) (s : State) : p (badMember c i s) = p s :=
  ite_keeps _ (hp.retire c i s) (ite_keeps _ rfl (hp.setSb _ _ s))

/-- A write-back that has verified: the map points to the copy; the rest is bookkeeping. -/
theorem OffRelease.wbVerified (htags : ∀ s x, p { s with tags := x } = p s) (sl b n : Nat) (l : PLoc) (t : TenantId) (s : State) :
    p (wbVerified sl b n l t s) = p (s.updTier fun x => { x with fmap := x.fmap.ins b (.dense l) }) := by
  unfold Machine.wbVerified
  extract_lets old s1 st tg rd s2 s3
  have h1 : p s1 = p (s.updTier fun x => { x with fmap := x.fmap.ins b (.dense l) }) := hp.logAppend _ _
  have h2 : p s2 = p s1 := by
    unfold s2
    split
    · exact htags _ _
    · rfl
  clear_value s2 rd
  have h3 : p s3 = p s2 := hp.obsolete _ _ _ _
  clear_value s3
  clear_value old
  refine Eq.trans ?_ (h3.trans (h2.trans h1))
  split
  · exact hp.releaseEmpty _ _
  · rfl
  · rfl

/-- Relocation, whether the superblock is emptied by it or not. -/
theorem OffRelease.relocate (hs : OffStripes p) (i : Nat) (s : State) : p (relocate i s) = p s := by
  rw [relocate_eq]
  exact ite_keeps _ rfl ((hp.releaseEmpty _ _).trans ((hs.copyValid i _).trans (hs.setSb _ _ s)))

/-- A stripe that failed and is written again. -/
theorem OffRelease.redoStripe (hs : OffStripes p) (htags : ∀ s x, p { s with tags := x } = p s) (d : DStripe) (bad : List CarrierId) (s : State) :
    p (redoStripe d bad s) = p s := by
  have hdrop : ∀ pg s, p (dropWriteBack pg s) = p s := fun pg s => by
    unfold dropWriteBack
    dsimp only
    split
    · exact htags s _
    · rfl
  unfold Machine.redoStripe
  extract_lets s1 s2 s3 s4
  have h1 : p s1 = p s := hs.setDense _ s
  have h2 : p s2 = p s := (foldl_keeps p _ (fun s c => hp.badMember c d.sb s) bad s1).trans h1
  have h3 : p s3 = p s := ite_keeps _ h2 ((hp.relocate hs _ _).trans h2)
  clear_value s3
  have h4 : p s4 = p s := (foldl_keeps p _ (fun s pg => by
    split
    · exact getD_keeps fun t ht => hs.denseAdd _ _ ht
    · split
      next t ht => exact hs.denseAdd _ _ ht
      next => exact hdrop _ s) d.pages s3).trans h3
  clear_value s4
  exact (hp.releaseEmpty _ _).trans h4

end

theorem offRelease_fmap : OffRelease fun s => s.tier.fmap where
  regs _ _ := rfl
  cnt64 _ _ := rfl
  log _ _ := rfl
  out _ _ := rfl
  books _ _ _ _ _ := rfl
  kept _ _ _ _ _ _ := rfl

theorem offRelease_dense : OffRelease fun s => s.tier.dense where
  regs _ _ := rfl
  cnt64 _ _ := rfl
  log _ _ := rfl
  out _ _ := rfl
  books _ _ _ _ _ := rfl
  kept _ _ _ _ _ _ := rfl

theorem offStripes_wlAt : OffStripes fun s => s.tier.wlAt := ⟨fun s r u n _ _ => congrArg TierSt.wlAt (count_tier s r u n), fun _ _ _ _ _ => rfl⟩
theorem offStripes_gc : OffStripes fun s => s.tier.gc := ⟨fun s r u n _ _ => congrArg TierSt.gc (count_tier s r u n), fun _ _ _ _ _ => rfl⟩

/-- The carriers that pages are written to are not changed by it. -/
theorem offStripes_inServ : OffStripes State.inServ where
  count s r u n hr hu := by
    have hcar : ∀ c, (s.count r u n).car c = s.car c := fun c => congrArg (fun x : TierSt => x.cars[c]) (count_tier s r u n)
    have hbusy : ∀ c : CarrierId, (s.count r u n).isBusy .CAR_CMD_RESULT c.val = s.isBusy .CAR_CMD_RESULT c.val := fun c =>
      (offSays_isBusy (r := .CAR_CMD_RESULT) rfl (by omega)).count s r u n hr hu
    unfold State.inServ State.leaving
    simp only [hcar, hbusy]
  stripes _ _ _ _ _ := rfl

section
variable (hh : s.su.held = false)
include hh

/-! ### Collection, wear levelling and scans (R129 to R132) -/

omit hh in
/-- Superblocks found by one of the tier's searches hold valid data, in every entry of them. -/
theorem inUse_of_entry {i : Nat} (hall : ∀ e ∈ s.tier.sbs, e.1 = i → e.2 = s.sb i) {e : Nat × Sb} (he : e ∈ s.tier.sbs) (hei : e.1 = i)
    (hu : e.2.use = 1 ∨ e.2.use = 2) : InUse i s := by
  have := hall e he hei
  refine ⟨this ▸ hu, fun x hx hxi => ?_⟩
  rw [hall x hx hxi, ← this]
  omega

omit hh in
theorem gcPick_mem {i : Nat} (h : s.gcPick = some i) : ∃ e ∈ s.tier.sbs, e.1 = i ∧ e.2.use = 2 := by
  unfold State.gcPick at h
  obtain ⟨x, hx, rfl⟩ := Option.map_eq_some_iff.1 h
  refine List.foldlRecOn _ _ (motive := fun b : Option (Nat × Nat × Nat) => ∀ x, b = some x → ∃ e ∈ s.tier.sbs, e.1 = x.1 ∧ e.2.use = 2)
    (fun x hx => absurd hx (by simp)) (fun b hb e he y hy => ?_) x hx
  have hmem : ∃ e' ∈ s.tier.sbs, e'.1 = e.1 ∧ e'.2.use = 2 := by
    obtain ⟨hm, hp⟩ := List.mem_filter.1 he
    simp only [Bool.and_eq_true, decide_eq_true_eq] at hp
    exact ⟨e, hm, rfl, hp.1.1⟩
  split at hy
  · exact Option.some.inj hy ▸ hmem
  · dsimp only at hy
    split at hy
    · exact Option.some.inj hy ▸ hmem
    · exact hb y hy

omit hh in
theorem coldest_mem {c : CarrierId} {i : Nat} (h : s.coldest c = some i) : ∃ e ∈ s.tier.sbs, e.1 = i ∧ e.2.use = 2 := by
  unfold State.coldest at h
  obtain ⟨x, hx, rfl⟩ := Option.map_eq_some_iff.1 h
  refine List.foldlRecOn _ _ (motive := fun b : Option (Nat × Nat) => ∀ x, b = some x → ∃ e ∈ s.tier.sbs, e.1 = x.1 ∧ e.2.use = 2)
    (fun x hx => absurd hx (by simp)) (fun b hb e he y hy => ?_) x hx
  have hmem : ∃ e' ∈ s.tier.sbs, e'.1 = e.1 ∧ e'.2.use = 2 := by
    obtain ⟨hm, hp⟩ := List.mem_filter.1 he
    simp only [Bool.and_eq_true, decide_eq_true_eq] at hp
    exact ⟨e, hm, rfl, hp.1.1⟩
  dsimp only at hy
  split at hy
  · exact Option.some.inj hy ▸ hmem
  · split at hy
    · exact Option.some.inj hy ▸ hmem
    · exact hb y hy

theorem gcStart_collects {i : Nat} (hst : s.Still) (hall : ∀ e ∈ s.tier.sbs, e.1 = i → e.2 = s.sb i) (hpick : s.gcPick = some i)
    (hv : s.validIn i ≠ []) (h0 : s.geo.sbs ≠ 0) (hg : s.tier.gc = none) (h3 : s.tierCode ≠ 3) (h4 : s.tierCode ≠ 4)
    (hlow : s.sbsFree * 100 < 3 * s.geo.sbs) : Completes .gcStart s fun u =>
      u.tier.gc = some i ∧ (u.sb i).reloc = true ∧ u.tier.fmap = s.tier.fmap ∧ u.mem = s.mem := by
  refine completes_of_pumped gcRun rfl hh ?_
  unfold gcRun
  rw [if_pos ⟨h0, hlow, by rw [hg]; rfl, h3, h4⟩, hpick]
  dsimp only
  obtain ⟨e, he, hei, hu⟩ := gcPick_mem hpick
  obtain ⟨v, hv'⟩ : ∃ v, v = s.updTier fun t => { t with gc := some i } := ⟨_, rfl⟩
  have hheld : v.holds i := Or.inl (by rw [hv']; exact hv)
  have huse : InUse i v := (inUse_of_entry hall he hei (Or.inr hu)).of_sbs (by rw [hv']; rfl)
  rw [← hv', memPump_of_still hst ((offTier_still.offStripes.relocate hheld).trans (by rw [hv']; rfl))]
  refine ⟨(offStripes_gc.relocate hheld).trans ?_, (relocate_marks huse hheld).reloc, (offStripes_fmap.relocate hheld).trans ?_,
    (offTier_mem.offStripes.relocate hheld).trans ?_⟩ <;> rw [hv'] <;> rfl

theorem gcStart_ignored (hhigh : 3 * s.geo.sbs ≤ s.sbsFree * 100) : Completes .gcStart s fun u => u = s := by
  refine completes_of_pumped gcRun rfl hh ?_
  unfold gcRun
  rw [if_neg (by rintro ⟨-, h, -⟩; omega)]

section
variable {c : CarrierId} {i : Nat} (hst : s.Still) (hall : ∀ e ∈ s.tier.sbs, e.1 = i → e.2 = s.sb i) (hscrub : s.tier.scrubAll = false)
  (hc : (s.car c).st = 4 ∨ (s.car c).st = 5)
include hscrub

omit hscrub hh in
/-- The time that wear levelling was last done has passed by 10 s. -/
theorem wear_time (c : CarrierId) (s : State) : ∃ x : TimeSt, (if s.tier.wlAt[c] = 0 then s else advanceTo (s.tier.wlAt[c] + secs 10) s) = { s with time := x } ∧
    (s.tier.wlAt[c] ≠ 0 → s.tier.wlAt[c] + secs 10 ≤ x.nclk) := by
  by_cases h : s.tier.wlAt[c] = 0
  · exact ⟨s.time, if_pos h, fun h' => absurd h h'⟩
  · obtain ⟨x, hx, hadv⟩ := advanceTo_takes (s.tier.wlAt[c] + secs 10) s
    exact ⟨x, (if_neg h).trans hadv, fun _ => hx⟩

include hc hst hall in
theorem wearLevel_relocates (hsp : s.rfld .WL_DELTA 0 15 0 < s.eraseSpread c) (hcold : s.coldest c = some i) (hv : s.validIn i ≠ []) :
    Completes (.wearLevelCheck c) s fun u => (u.sb i).reloc = true ∧ u.tier.wlAt[c] = u.time.nclk ∧
      (s.tier.wlAt[c] ≠ 0 → s.tier.wlAt[c] + secs 10 ≤ u.time.nclk) ∧ u.mem = s.mem := by
  refine completes_of_pumped (wearRun c) rfl hh ?_
  obtain ⟨x, hadv, hx⟩ := wear_time c s
  obtain ⟨e, he, hei, hu⟩ := coldest_mem hcold
  unfold wearRun
  dsimp only
  rw [hadv, if_neg (by
    rintro (h | h | h)
    · exact absurd (hscrub.symm.trans h) (by decide)
    · exact absurd h (Nat.not_le.2 hsp)
    · exact absurd hc (by rintro (h' | h'); exact h.1 h'; exact h.2 h')), show ({ s with time := x } : State).coldest c = some i from hcold]
  dsimp only
  obtain ⟨w, hw⟩ : ∃ w, w = ({ s with time := x } : State).updTier fun t => { t with wlAt := t.wlAt.set c x.nclk } := ⟨_, rfl⟩
  have hheld : (w.count .RELOC_WL_CNT).holds i := count_holds (s := w) (Or.inl (by rw [hw]; exact hv)) _ _ _
  have huse : InUse i (w.count .RELOC_WL_CNT) := (InUse.of_sbs (inUse_of_entry hall he hei (Or.inr hu)) (t := w) (by rw [hw]; rfl)).count _ _ _
  have hwc : ∀ {α : Type} (p : State → α), OffTier p → p (relocate i (w.count .RELOC_WL_CNT)) = p w := fun p hp =>
    (hp.offStripes.relocate hheld).trans (hp.count _ _ _ _)
  rw [← hw, memPump_of_still hst ((hwc _ offTier_still).trans (by rw [hw]; rfl))]
  have htime : (relocate i (w.count .RELOC_WL_CNT)).time = x := (hwc _ offTier_time).trans (by rw [hw]; rfl)
  refine ⟨(relocate_marks huse hheld).reloc, ?_, by rw [htime]; exact hx, (hwc _ offTier_mem).trans (by rw [hw]; rfl)⟩
  rw [htime, offStripes_wlAt.relocate hheld, count_tier, hw]
  exact Vector.getElem_set_self ..

omit hscrub in
theorem wearLevel_even (hsp : s.eraseSpread c ≤ s.rfld .WL_DELTA 0 15 0) : Completes (.wearLevelCheck c) s fun u => u.tier = s.tier ∧ u.mem = s.mem := by
  refine completes_of_pumped (wearRun c) rfl hh ?_
  obtain ⟨x, hadv, -⟩ := wear_time c s
  have hrun : wearRun c s = { s with time := x } := by
    unfold wearRun
    dsimp only
    rw [hadv]
    exact if_pos (Or.inr (Or.inl hsp))
  rw [hrun]
  exact ⟨rfl, rfl⟩

omit hscrub hh in
/-- The ladder of a read that succeeds without reconstruction, or not at all, leaves the superblock held and in use. -/
theorem ladder_inUse {r : PageRead} (hr : r.stage = 1 ∨ r.stage = 2 ∨ r.stage = 3 ∨ r.stage = 5) (hu : InUse i s) (hheld : s.holds i) :
    InUse i (ladder c i r s) ∧ (ladder c i r s).holds i ∧ (r.stage = 2 ∨ r.stage = 3 → Marked i (ladder c i r s)) ∧
      ∀ {α : Type} (p : State → α), OffStripes p → p (ladder c i r s) = p s := by
  have h1 := readCount_inUse (c := c) (n := 1) hu hheld
  have h2 := readCount_holds hheld c 1
  have hp : ∀ {α : Type} (p : State → α), OffStripes p → p (readCount c i 1 s) = p s := fun p hp => hp.readCount hheld c 1
  have hfl : ∀ (q : Reg) (n : Nat) (v : State), InUse i v → InUse i (flCount q c i n v) := fun q n v hv => hv.count _ _ _
  unfold ladder
  generalize readCount c i 1 s = v at *
  rcases hr with hr | hr | hr | hr <;> simp only [hr]
  · exact ⟨hfl _ _ _ h1, h2.flCount _ _ _ _, by omega, fun p hp' => (hp'.flCount rfl _ _ _ _).trans (hp p hp')⟩
  · have hm := relocWeak_marks (hfl .READ_RETRY_CNT 1 _ h1) (h2.flCount .READ_RETRY_CNT c i 1)
    exact ⟨hm.toInUse, relocWeak_holds (h2.flCount _ _ _ _), fun _ => hm, fun p hp' =>
      (hp'.relocWeak (h2.flCount _ _ _ _)).trans ((hp'.flCount rfl _ _ _ _).trans (hp p hp'))⟩
  · have hm := relocWeak_marks (hfl .SOFT_DEC_CNT 1 _ h1) (h2.flCount .SOFT_DEC_CNT c i 1)
    exact ⟨hm.toInUse, relocWeak_holds (h2.flCount _ _ _ _), fun _ => hm, fun p hp' =>
      (hp'.relocWeak (h2.flCount _ _ _ _)).trans ((hp'.flCount rfl _ _ _ _).trans (hp p hp'))⟩
  · exact ⟨h1, h2, by omega, hp⟩

include hst hc hall in
omit hscrub in
theorem retentionScan_relocates {r : PageRead} (hu : (s.sb i).use = 1 ∨ (s.sb i).use = 2) (hv : s.validIn i ≠ [])
    (hr : r.stage = 2 ∨ r.stage = 3 ∨ r.stage = 5 ∨ (r.stage = 1 ∧ s.rfld .RET_THRESH 0 7 0 ≤ r.worstBits)) :
    Completes (.retentionScan c i r) s fun u => (u.sb i).reloc = true ∧ u.tier.fmap = s.tier.fmap ∧ u.mem = s.mem := by
  refine completes_of_pumped (retentionRun c i r) rfl hh ?_
  have hu0 : InUse i s := ⟨hu, fun e he hei => by rw [hall e he hei]; omega⟩
  unfold retentionRun
  extract_lets b valid lastOne s1 s2 s3
  have hub : b.use = 1 ∨ b.use = 2 := hu
  rw [if_neg (by rintro (h | h) <;> omega)]
  have hheld : s.holds i := Or.inl hv
  obtain ⟨hl1, hl2, hl3, hlp⟩ := ladder_inUse (c := c) (r := r) (by rcases hr with h | h | h | ⟨h, -⟩ <;> simp [h]) (readCount_inUse (c := c) (n := if b.next ≤ 1 then 0 else 1) hu0 hheld)
    (readCount_holds hheld c (if b.next ≤ 1 then 0 else 1))
  have h1 : InUse i s1 ∧ s1.holds i ∧ (r.stage = 2 ∨ r.stage = 3 → Marked i s1) ∧ ∀ {α : Type} (p : State → α), OffStripes p → p s1 = p s :=
    ⟨hl1, hl2, hl3, fun p hp => (hlp p hp).trans (hp.readCount hheld c _)⟩
  have hthr : s1.rfld .RET_THRESH 0 7 0 = s.rfld .RET_THRESH 0 7 0 :=
    h1.2.2.2 (fun s => s.rfld .RET_THRESH 0 7 0)
      ⟨fun s q u n hq hu => congrArg (fun x : W32 => fld x 7 0) ((offSays_reg (r := .RET_THRESH) (u := 0) rfl (by decide)).count s q u n hq hu), fun _ _ _ _ _ => rfl⟩
  clear_value s1
  obtain ⟨hi1, hh1, hm1, hp1⟩ := h1
  have h2 : InUse i s2 ∧ s2.holds i ∧ (r.stage ≠ 5 → Marked i s2) ∧ ∀ {α : Type} (p : State → α), OffStripes p → p s2 = p s := by
    unfold s2
    split
    · exact ⟨(relocWeak_marks hi1 hh1).toInUse, relocWeak_holds hh1, fun _ => relocWeak_marks hi1 hh1, fun p hp => (hp.relocWeak hh1).trans (hp1 p hp)⟩
    next hno =>
      refine ⟨hi1, hh1, fun h5 => hm1 ?_, hp1⟩
      rw [hthr] at hno
      rcases hr with hr | hr | hr | hr
      · exact Or.inl hr
      · exact Or.inr hr
      · exact absurd hr h5
      · exact absurd hr hno
  clear_value s2
  obtain ⟨hi2, hh2, hm2, hp2⟩ := h2
  have h3 : Marked i s3 ∧ ∀ {α : Type} (p : State → α), OffStripes p → p s3 = p s := by
    unfold s3
    split
    · exact ⟨relocWeak_marks hi2 hh2, fun p hp => (hp.relocWeak hh2).trans (hp2 p hp)⟩
    next h5 => exact ⟨hm2 h5, hp2⟩
  clear_value s3
  obtain ⟨hm3, hp3⟩ := h3
  have hlast : ∀ v : State, v = (if lastOne then s3.updTier fun t => { t with scrubAll := false } else s3) →
      v.Still = s3.Still ∧ (v.sb i).reloc = (s3.sb i).reloc ∧ v.tier.fmap = s3.tier.fmap ∧ v.mem = s3.mem := by
    rintro v rfl
    split <;> exact ⟨rfl, rfl, rfl, rfl⟩
  obtain ⟨hs4, hr4, hf4, hm4⟩ := hlast _ rfl
  rw [memPump_of_still hst (hs4.trans (hp3 _ offTier_still.offStripes))]
  exact ⟨hr4.trans hm3.reloc, hf4.trans (hp3 _ offStripes_fmap), hm4.trans (hp3 _ offTier_mem.offStripes)⟩

end

/-! ### Erases (R129, R130, R133) -/

omit hh in
theorem find_mapVal {α β : Type} (f : α → β) (m : Sparse α) (k : Nat) : Sparse.find (m.map fun e => (e.1, f e.2)) k = (m.find k).map f := by
  induction m with
  | nil => rfl
  | cons e m ih =>
    obtain ⟨j, v⟩ := e
    rw [List.map_cons, Sparse.find_cons, Sparse.find_cons, ih]
    split <;> rfl

omit hh in
/-- A carrier takes no part in the erases of a superblock that wait. -/
theorem dropErase_toErase (c : CarrierId) (i : Nat) (s : State) : ((dropErase c s).sb i).toErase = (s.sb i).toErase.filter (· ≠ c.val) := by
  unfold dropErase
  rw [updFull_sb]
  refine (congrArg (fun x : Option Sb => (x.getD Sb.fresh).toErase) (find_mapVal (fun b : Sb => { b with
    toErase := b.toErase.filter (· ≠ c.val), use := if b.use = 3 ∧ b.toErase.filter (· ≠ c.val) = [] then 0 else b.use }) s.tier.sbs i)).trans ?_
  unfold State.sb Sparse.get
  cases s.tier.sbs.find i <;> rfl

omit hh in
theorem logAppend_sb (w i : Nat) (s : State) : (logAppend w s).sb i = s.sb i := by
  unfold logAppend
  split
  · exact ite_keeps (p := fun s : State => s.sb i) _ rfl rfl
  · rfl

omit hh in
theorem checkWorn_sb (c : CarrierId) (i : Nat) (s : State) : (checkWorn c s).sb i = s.sb i := by
  unfold checkWorn
  exact ite_keeps (p := fun s : State => s.sb i) _ (sb_of_sbs (congrArg TierSt.sbs (logEv_tier _ _)) i) rfl

omit hh in
theorem flCount_sb (r : Reg) (c : CarrierId) (sb n i : Nat) (s : State) : (flCount r c sb n s).sb i = s.sb i :=
  sb_of_sbs (congrArg TierSt.sbs (count_tier _ _ _ _)) i

omit hh in
/-- The erase that failed: the member is retired, or its carrier has failed; the others still wait. -/
theorem retire_toErase (c : CarrierId) (i : Nat) (s : State) :
    ((retire c i s).sb i).toErase.filter (· ≠ c.val) = (s.sb i).toErase.filter (· ≠ c.val) := by
  unfold retire
  extract_lets k used
  split
  · unfold carFail
    extract_lets was v w
    have hv : v.sb i = s.sb i := sb_of_sbs (s := s.updCar c _) (congrArg TierSt.sbs (logEv_tier _ _)) i
    have hwv : w.sb i = v.sb i := ite_keeps (p := fun s : State => s.sb i) _ rfl rfl
    have hw : w.sb i = s.sb i := hwv.trans hv
    clear_value w
    split
    · rfl
    · split
      · rw [show (remirrorFrom c (dropErase c w)).sb i = (dropErase c w).sb i from
          remirrorFrom_keeps (fun s : State => s.sb i) (fun _ _ _ => rfl) c _, dropErase_toErase, hw, List.filter_filter]
        simp
      · rw [hw]
  · rw [checkWorn_sb, logAppend_sb, setSb_sb_self]
    rfl

theorem flashErase_completes (c : CarrierId) (i : Nat) (pass : Bool) (h3 : (s.sb i).use = 3) (hc : (s.sb i).toErase.contains c.val = true)
    (he : (s.sb i).erases.length = 8) (hr : (s.sb i).reads.length = 8) : Completes (.flashEraseDone c i pass) s fun u =>
      (u.sb i).toErase = ((s.sb i).toErase.filter (· ≠ c.val)) ∧ (u.sb i).use = (if ((s.sb i).toErase.filter (· ≠ c.val)) = [] then 0 else 3) ∧
      u.mem = s.mem ∧ (pass = true → (u.sb i).erases.getD c.val 0 = satAdd 16 ((s.sb i).erases.getD c.val 0) 1 ∧ (u.sb i).reads.getD c.val 0 = 0) := by
  refine completes_of_pumped (eraseRun c i pass) rfl hh ?_
  unfold eraseRun
  extract_lets b v0 v b' rest
  have hb3 : b.use = 3 := h3
  have hbc : b.toErase.contains c.val = true := hc
  rw [if_neg (by rw [hbc, hb3]; decide)]
  have hv : b'.toErase.filter (· ≠ c.val) = b.toErase.filter (· ≠ c.val) ∧ v.mem = s.mem ∧
      (pass = true → b'.erases.getD c.val 0 = satAdd 16 (b.erases.getD c.val 0) 1 ∧ b'.reads.getD c.val 0 = 0) := by
    unfold b' v v0
    cases pass with
    | true =>
      rw [if_pos rfl, checkWorn_sb, logAppend_sb, setSb_sb_self]
      refine ⟨rfl, ?_, fun _ => ⟨?_, ?_⟩⟩
      · exact (offTier_mem.offRelease.checkWorn _ _).trans ((offTier_mem.offRelease.logAppend _ _).trans ((count_mem _ _ _ _).trans (count_mem _ _ _ _)))
      · dsimp only
        rw [List.getD_eq_getElem?_getD, List.getElem?_set_self (by rw [he]; omega)]
        rfl
      · dsimp only
        rw [List.getD_eq_getElem?_getD, List.getElem?_set_self (by rw [hr]; omega)]
        rfl
    | false =>
      rw [if_neg (by decide), retire_toErase, flCount_sb]
      exact ⟨rfl, (offTier_mem.offRelease.retire _ _ _).trans (count_mem _ _ _ _), fun h => absurd h (by decide)⟩
  clear_value v b'
  obtain ⟨hrest, hm, hpass⟩ := hv
  rw [updFull_sb, setSb_sb_self]
  refine ⟨hrest, ?_, (offTier_mem.offStripes.updFull _).trans hm, hpass⟩
  rw [← hrest]

/-! ### Checkpoints (R126) -/

theorem checkpointInterval_completes (hg : s.tier.geo ≠ []) : Completes .checkpointInterval s fun u =>
    (∀ w : Nat, w < 24 → ∃ k ∈ u.tier.ckpts, k.what = w) ∧ u.tier.fmap = s.tier.fmap ∧ u.mem = s.mem := by
  refine completes_of_pumped ckptIntervalRun rfl hh ?_
  unfold ckptIntervalRun
  obtain ⟨x, hx⟩ := pace_eq_time 0x140 (secs s.ckptSecs) s
  rw [hx]
  dsimp only
  rw [if_neg hg]
  refine ⟨fun w hw => ?_, rfl, rfl⟩
  by_cases h : ∃ k ∈ s.tier.ckpts, k.what = w
  · obtain ⟨k, hk, hkw⟩ := h
    exact ⟨k, List.mem_append_left _ hk, hkw⟩
  · refine ⟨⟨w, s.tier.logs.toList.getD w 0⟩, List.mem_append_right _ (List.mem_map.2 ⟨w, List.mem_filter.2 ⟨List.mem_range.2 hw, ?_⟩, rfl⟩), rfl⟩
    rw [Bool.not_eq_true', List.any_eq_false]
    exact fun k hk hkw => h ⟨k, hk, of_decide_eq_true hkw⟩

omit hh in
/-- Where no request stands, nobody is woken. -/
theorem wake_of_nil {s : State} (h : s.pool.trks = []) (w : Wait) (p : Trk → Bool) : wake w p s = s := by
  unfold wake
  rw [h, List.map_nil, ← h]

theorem checkpointVerified_completes {k : Ckpt} {r : List Ckpt} (hst : s.Still) (hk : s.tier.ckpts = k :: r) (hw : k.what < 24)
    (hd : (s.tier.dense.filter fun d => d.okWait) = []) : Completes .checkpointVerified s fun u =>
      u.tier.ckpts = r ∧ u.tier.logs.toList.getD k.what 0 = s.tier.logs.toList.getD k.what 0 - k.covers ∧ u.tier.ckptPt = s.ptNs ∧
        (∀ d : CarrierId, (u.car d).recSt = (s.car d).st) ∧ u.mem = s.mem := by
  refine completes_of_pumped ckptVerifiedRun rfl hh ?_
  unfold ckptVerifiedRun
  rw [hk]
  dsimp -zeta only
  extract_lets v w
  have hwv : w = v := congrArg (fun l : List DStripe => l.foldl (fun s d => applyStripe d s) v) (show (v.tier.dense.filter fun d => d.okWait) = [] from hd)
  rw [hwv, wake_of_nil (by exact hst.1), memPump_of_still hst (show v.Still = s.Still from rfl)]
  refine ⟨rfl, ?_, rfl, fun d => ?_, rfl⟩
  · show (if h : k.what < 24 then s.tier.logs.set k.what (s.tier.logs[k.what] - k.covers) else s.tier.logs).toList.getD k.what 0 = _
    rw [dif_pos hw]
    simp [hw]
  · exact congrArg CarSt.recSt (Vector.getElem_map ..)

/-! ### Dense stripes (R122) -/

theorem denseStripeTimeout_completes {q : Quarter} {t : TenantId} {d : DStripe}
    (hd : (s.tier.dense.find? fun d => d.q = q.val && d.tenant = t.val && !d.closed) = some d) : Completes (.denseStripeTimeout q t) s fun u =>
      { d with closed := true } ∈ u.tier.dense ∧ d.since + usec 20 ≤ u.time.nclk ∧ u.mem = s.mem ∧ u.tier.fmap = s.tier.fmap := by
  refine completes_of_pumped (denseTimeoutRun q t) rfl hh ?_
  obtain ⟨x, hx, hadv⟩ := advanceTo_takes (d.since + usec 20) s
  unfold denseTimeoutRun
  rw [hd]
  dsimp only
  rw [hadv]
  obtain ⟨v, hv⟩ : ∃ v, v = ({ s with time := x } : State).updTier fun x => { x with dense := x.dense.map fun e => if e = d then { d with closed := true } else e } := ⟨_, rfl⟩
  rw [← hv]
  have hprog : (programStripe d v).tier = v.tier := foldl_keeps (fun s : State => s.tier) _ (fun s c => (count_tier _ _ _ _).trans (count_tier _ _ _ _)) _ _
  rw [hprog, offTier_time.offStripes.programStripe, offTier_mem.offStripes.programStripe, hv]
  exact ⟨List.mem_map.2 ⟨d, List.mem_of_find?_eq_some hd, if_pos rfl⟩, hx, rfl, rfl⟩

section
variable {q : Quarter} {t : TenantId} {d : DStripe} (hst : s.Still)
  (hd : (s.tier.dense.find? fun d => d.q = q.val && d.tenant = t.val && d.closed && !d.okWait) = some d)
include hd

omit hh hd in
/-- The pages of the stripe that has been programmed are read back; they hold its superblock, so nothing is released meanwhile. -/
theorem readBack_keeps (l : List CarrierId) {v : State} (hv : v.holds d.sb) :
    (l.foldl (fun s c => readCount c d.sb 1 s) v).holds d.sb ∧
      ∀ {α : Type} (p : State → α), OffStripes p → p (l.foldl (fun s c => readCount c d.sb 1 s) v) = p v := by
  induction l generalizing v with
  | nil => exact ⟨hv, fun _ _ => rfl⟩
  | cons c l ih =>
    obtain ⟨h1, h2⟩ := ih (readCount_holds hv c 1)
    exact ⟨h1, fun p hp => (h2 p hp).trans (hp.readCount hv c 1)⟩

omit hh in
/-- What a verified or failed stripe finds: the state after the counts, and the carriers that failed. -/
theorem denseVerifyRun_eq (prog hard : PassMask) (worst : List Nat) : ∃ v : State, (∀ {α : Type} (p : State → α), OffStripes p → p v = p s) ∧
    denseVerifyRun q t prog hard worst s =
      (let bad := s.inServ.filter fun c => (s.inServ.filter fun c => !bit prog.toNat c.val).contains c ||
        (s.inServ.filter fun c => !bit hard.toNat c.val || s.rfld .RET_THRESH 0 7 0 ≤ worst.getD c.val 0).contains c
      memPump 64 (if bad = [] then applyStripe d v else redoStripe d bad v)) := by
  have hmem := List.mem_of_find?_eq_some hd
  have hclosed : d.closed = true := by
    have := List.find?_some hd
    simp only [Bool.and_eq_true] at this
    exact this.1.2
  unfold denseVerifyRun
  rw [hd]
  dsimp -zeta only
  extract_lets pf vf s1 s2 bad bad'
  have h1 : s1.holds d.sb ∧ ∀ {α : Type} (p : State → α), OffStripes p → p s1 = p s := by
    refine ⟨?_, fun p hp => foldl_keeps p _ (fun s c => hp.flCount rfl c d.sb 1 s) pf s⟩
    exact List.foldlRecOn _ _ (motive := fun v : State => v.holds d.sb) (Or.inr ⟨d, hmem, rfl, hclosed⟩) fun v hv c _ => hv.flCount _ _ _ _
  clear_value s1
  obtain ⟨-, hp2⟩ := readBack_keeps s1.inServ h1.1
  have hs2 : ∀ {α : Type} (p : State → α), OffStripes p → p s2 = p s := fun p hp => (hp2 p hp).trans (h1.2 p hp)
  have hbad : bad = bad' := congrArg (fun l : List CarrierId => l.filter fun c => pf.contains c || vf.contains c) (hs2 _ offStripes_inServ)
  rw [hbad]
  exact ⟨s2, hs2, rfl⟩

include hst

theorem denseVerify_redoes {prog hard : PassMask} {worst : List Nat} {k : CarrierId} (hk : k ∈ s.inServ) (hf : bit prog.toNat k.val = false) :
    Completes (.denseVerifyDone q t prog hard worst) s fun u => u.tier.fmap = s.tier.fmap ∧ u.mem = s.mem := by
  refine completes_of_pumped (denseVerifyRun q t prog hard worst) rfl hh ?_
  obtain ⟨v, hv, heq⟩ := denseVerifyRun_eq hd prog hard worst
  rw [heq]
  extract_lets bad
  have hkb : k ∈ bad := List.mem_filter.2 ⟨hk, by
    rw [Bool.or_eq_true]
    exact Or.inl (List.contains_iff_mem.2 (List.mem_filter.2 ⟨hk, by rw [hf]; rfl⟩))⟩
  rw [if_neg (List.ne_nil_of_mem hkb)]
  have hp : ∀ {α : Type} (p : State → α), OffRelease p → OffStripes p → (∀ s x, p { s with tags := x } = p s) → p (redoStripe d bad v) = p s :=
    fun p hr hs ht => (hr.redoStripe hs ht d bad v).trans (hv p hs)
  rw [memPump_of_still hst (hp _ offTier_still.offRelease offTier_still.offStripes fun _ _ => rfl)]
  exact ⟨hp _ offRelease_fmap offStripes_fmap fun _ _ => rfl, hp _ offTier_mem.offRelease offTier_mem.offStripes fun _ _ => rfl⟩

theorem denseVerify_applies {prog hard : PassMask} {worst : List Nat} {pg : DPage} (hpg : d.pages = [pg]) (hwhy : pg.why = .writeBack)
    (hlive : s.pageLive pg.page = true) (hroom : s.logRoom (s.pageSlice pg.page) = true) (hby : s.inBypass (s.pageSlice pg.page) pg.page.block = false)
    (hok : ∀ k ∈ s.inServ, bit prog.toNat k.val = true ∧ bit hard.toNat k.val = true ∧ worst.getD k.val 0 < s.rfld .RET_THRESH 0 7 0) :
    Completes (.denseVerifyDone q t prog hard worst) s fun u =>
      u.tier.fmap.find pg.page.block = some (.dense ⟨s.dataCar d.sb d.page 0, d.sb, d.page⟩) ∧ d ∉ u.tier.dense ∧ u.mem = s.mem := by
  refine completes_of_pumped (denseVerifyRun q t prog hard worst) rfl hh ?_
  obtain ⟨v, hv, heq⟩ := denseVerifyRun_eq hd prog hard worst
  have hbad : (s.inServ.filter fun c => (s.inServ.filter fun c => !bit prog.toNat c.val).contains c ||
      (s.inServ.filter fun c => !bit hard.toNat c.val || s.rfld .RET_THRESH 0 7 0 ≤ worst.getD c.val 0).contains c) = [] := by
    have hpf : (s.inServ.filter fun c => !bit prog.toNat c.val) = [] := List.filter_eq_nil_iff.2 fun c hc => by simp [(hok c hc).1]
    have hvf : (s.inServ.filter fun c => !bit hard.toNat c.val || s.rfld .RET_THRESH 0 7 0 ≤ worst.getD c.val 0) = [] :=
      List.filter_eq_nil_iff.2 fun c hc => by
        have := (hok c hc).2.2
        rw [(hok c hc).2.1, Bool.not_true, Bool.false_or, decide_eq_true_eq]
        omega
    rw [hpf, hvf]
    simp
  have hslice : OffTier fun s : State => s.pageSlice pg.page := by constructor <;> intros <;> rfl
  have hpl : OffTier fun s : State => s.pageLive pg.page := by constructor <;> intros <;> rfl
  have hbp : OffTier fun s : State => s.pool := by constructor <;> intros <;> rfl
  have hlogs : OffStripes fun s => s.tier.logs := ⟨fun s r u n _ _ => congrArg TierSt.logs (count_tier s r u n), fun _ _ _ _ _ => rfl⟩
  have hgeo : OffStripes fun s => s.tier.geo := ⟨fun s r u n _ _ => congrArg TierSt.geo (count_tier s r u n), fun _ _ _ _ _ => rfl⟩
  rw [heq]
  dsimp only
  rw [hbad, if_pos rfl]
  unfold applyStripe
  have hall : (d.pages.all fun pg => v.logRoom (v.pageSlice pg.page)) = true := by
    rw [hpg, List.all_cons, List.all_nil, Bool.and_true, hv _ hslice.offStripes]
    unfold State.logRoom
    rw [hv _ hlogs]
    exact hroom
  rw [hall, if_pos rfl]
  extract_lets w
  have hw : ∀ {α : Type} (p : State → α), OffStripes p → p w = p s := fun p hp => (hp.setDense (fun l => l.filter fun e => e ≠ d) v).trans (hv p hp)
  have hwd : d ∉ w.tier.dense := fun hm => absurd rfl (of_decide_eq_true (List.mem_filter.1 hm).2)
  clear_value w
  have hplaced : d.placed = [(0, pg)] := by
    unfold DStripe.placed
    rw [hpg]
    rfl
  rw [hplaced, List.foldl_cons, List.foldl_nil]
  dsimp only
  obtain ⟨l, hl⟩ : ∃ l, l = (⟨w.dataCar d.sb d.page 0, d.sb, d.page⟩ : PLoc) := ⟨_, rfl⟩
  have hl' : l = ⟨s.dataCar d.sb d.page 0, d.sb, d.page⟩ := by
    rw [hl]
    unfold State.dataCar State.parity State.geo
    rw [hw _ hgeo]
  obtain ⟨y, hy⟩ : ∃ y, y = w.updTier fun x => { x with pages := x.pages.ins (pageKey l) { pg.page with seq := (w.sb d.sb).seq } } := ⟨_, rfl⟩
  obtain ⟨z, hz⟩ : ∃ z, z = wbVerified (w.pageSlice pg.page) pg.page.block pg.upTo l (tenOf pg.page.tenant) y := ⟨_, rfl⟩
  have hzp : ∀ {α : Type} (p : State → α), OffTier p → (∀ s x, p { s with tags := x } = p s) → p z = p s := fun p hp ht => by
    rw [hz, hp.offRelease.wbVerified ht, hy]
    exact (hp.tier _ _).trans ((hp.tier w _).trans (hw p hp.offStripes))
  have hver : pageVerified d 0 pg w = z := by
    unfold pageVerified
    dsimp only
    rw [hw _ hpl.offStripes, hlive, if_neg (by decide), hwhy, ← hl]
    dsimp only
    rw [← hy, ← hz]
    unfold bypassVerified
    have hb : z.inBypass (w.pageSlice pg.page) pg.page.block = false := by
      unfold State.inBypass
      rw [hzp _ hbp fun _ _ => rfl, hw _ hslice.offStripes]
      exact hby
    rw [hb, if_neg (by decide)]
  have hzf : z.tier.fmap.find pg.page.block = some (.dense l) := by
    rw [hz, offRelease_fmap.wbVerified fun _ _ => rfl]
    exact Sparse.find_ins_self _ _ _
  have hzd : z.tier.dense = w.tier.dense := by
    rw [hz, offRelease_dense.wbVerified fun _ _ => rfl, hy]
    rfl
  rw [hver, memPump_of_still hst ((offTier_still.offRelease.releaseEmpty _ _).trans (hzp _ offTier_still fun _ _ => rfl)),
    offRelease_fmap.releaseEmpty, offRelease_dense.releaseEmpty, offTier_mem.offRelease.releaseEmpty, hzf, hzd, hl']
  exact ⟨rfl, hwd, hzp _ offTier_mem fun _ _ => rfl⟩

end

/-! ### Journal pages (R118 to R121, R123) -/

omit hh in
theorem setStream_stream_self (k : Nat) (x : Stream) (s : State) : (s.setStream k x).stream k = x := by
  unfold State.stream Sparse.get
  rw [show (s.setStream k x).tier.streams.find k = some x from Sparse.find_ins_self _ _ _]
  rfl

omit hh in
theorem setStream_stream_ne {j k : Nat} (h : j ≠ k) (x : Stream) (s : State) : (s.setStream k x).stream j = s.stream j := by
  unfold State.stream Sparse.get
  rw [show (s.setStream k x).tier.streams.find j = s.tier.streams.find j from Sparse.find_ins_ne _ _ h]

omit hh in
theorem stream_of_tier {t : State} (h : t.tier.streams = s.tier.streams) (k : Nat) : t.stream k = s.stream k := by
  unfold State.stream
  rw [h]

omit hh in
theorem offStripes_mirrorOrder (q : Nat) : OffStripes fun s => s.mirrorOrder q where
  count s r u n hr hu := by
    have hcar : ∀ c, (s.count r u n).car c = s.car c := fun c => congrArg (fun x : TierSt => x.cars[c]) (count_tier s r u n)
    have hbusy : ∀ c : CarrierId, (s.count r u n).isBusy .CAR_CMD_RESULT c.val = s.isBusy .CAR_CMD_RESULT c.val := fun c =>
      (offSays_isBusy (r := .CAR_CMD_RESULT) rfl (by omega)).count s r u n hr hu
    unfold State.mirrorOrder State.leaving
    simp only [hcar, hbusy]
  stripes _ _ _ _ _ := rfl

omit hh in
/-- The open page of a stream closes: its two mirror programs start. -/
theorem closeJPage_closes {k : Nat} {p : JPage} (hp : (s.stream k).pages.getLast? = some p) (hc : p.closed = false) :
    ∃ y : JPage, ((closeJPage k s).stream k).pages.getLast? = some y ∧ y.closed = true ∧ y.seq = p.seq ∧ y.recs = p.recs ∧
      y.await = ((s.mirrorOrder (k / 16)).take 2).map Fin.val := by
  have hmir := (offStripes_mirrorOrder (k / 16)).takePage 2 (tenOf (k % 16)) s.geo.slcPages s
  unfold closeJPage
  dsimp only
  rw [hp]
  dsimp only
  rw [if_neg (by rw [hc]; decide), hmir]
  generalize takePage 2 (tenOf (k % 16)) s.geo.slcPages s = r
  have htier : ∀ (l : List CarrierId) (sb : Nat) (v : State),
      (l.foldl (fun s c => flCount .FL_PROG_BYTES c sb 18432 (flCount .PAGE_PROG_CNT c sb 1 s)) v).tier = v.tier := fun l sb v =>
    foldl_keeps (fun s : State => s.tier) _ (fun s c => (count_tier _ _ _ _).trans (count_tier _ _ _ _)) l v
  rw [stream_of_tier (congrArg TierSt.streams (htier _ _ _)), setStream_stream_self]
  exact ⟨_, List.getLast?_concat .., rfl, rfl, rfl, rfl⟩

omit hh in
theorem streamKey_quarter (q : Quarter) (t : TenantId) : streamKey q.val t / 16 = q.val := by
  unfold streamKey
  omega

theorem journalGroup_completes {q : Quarter} {t : TenantId} {p : JPage} (hst : s.Still) (hp : (s.stream (streamKey q.val t)).pages.getLast? = some p)
    (hc : p.closed = false) : Completes (.journalGroupExpire q t) s fun u =>
      p.since + nsec (s.rfld .JGROUP_NS 0 15 0) ≤ u.time.nclk ∧ u.mem = s.mem ∧
        ∃ y : JPage, (u.stream (streamKey q.val t)).pages.getLast? = some y ∧ y.closed = true ∧
          y.seq = p.seq ∧ y.recs = p.recs ∧ y.await = ((s.mirrorOrder q.val).take 2).map Fin.val := by
  refine completes_of_pumped (journalExpireRun q t) rfl hh ?_
  obtain ⟨x, hx, hadv⟩ := advanceTo_takes (p.since + nsec (s.rfld .JGROUP_NS 0 15 0)) s
  have hkeep : ∀ {α : Type} (f : State → α), OffTier f → f (closeJPage (streamKey q.val t) { s with time := x }) = f { s with time := x } := fun f hf =>
    closeJPage_keeps f hf.tier (fun s u n _ => hf.count _ _ _ s) (fun s u n _ => hf.count _ _ _ s) _ _
  have hclose := closeJPage_closes (s := { s with time := x }) (k := streamKey q.val t) hp hc
  rw [streamKey_quarter] at hclose
  unfold journalExpireRun
  dsimp only
  rw [hp]
  dsimp only
  rw [if_neg (by rw [hc]; decide), hadv, memPump_of_still hst (hkeep _ offTier_still)]
  exact ⟨by rw [hkeep _ offTier_time]; exact hx, hkeep _ offTier_mem, hclose⟩

/-- No journal superblock waits for its pages to be reclaimed. -/
def State.eraseIdle (s : State) : Prop := (s.tier.sbs.any fun e => e.2.kind = 2 && e.2.use = 2) = false

omit hh in
theorem journalErase_idle (h : s.eraseIdle) : journalErase s = s := by
  unfold journalErase
  refine List.foldlRecOn _ _ (motive := fun u => u = s) rfl fun u hu e he => ?_
  have hno := List.any_eq_false.1 h e he
  rw [if_neg, hu]
  rintro ⟨h2, h3, -⟩
  exact hno (by simp [h2, h3])

/-- A journal page whose records are all obsolete. -/
def JPage.spent (p : JPage) : Bool := p.ok && p.recs.all fun r => !r.live

omit hh in
theorem dropWhile_of_length {α : Type} (p : α → Bool) {l : List α} (h : ¬(l.dropWhile p).length < l.length) : l.dropWhile p = l :=
  (List.dropWhile_sublist p).eq_of_length_le (by omega)

omit hh in
/-- Pages at the reclaim point leave their stream; only the tier changes, and in it neither superblocks nor what is copied again. -/
theorem reclaim_idle (h : s.eraseIdle) (k : Nat) : ((reclaim k s).stream k).pages = (s.stream k).pages.dropWhile JPage.spent ∧
    (∀ j, j ≠ k → (reclaim k s).stream j = s.stream j) ∧ (reclaim k s).tier.sbs = s.tier.sbs ∧ (reclaim k s).tier.remirror = s.tier.remirror ∧
    ((∀ e ∈ s.tier.streams, e.1 = k → e.2 = s.stream k) → ∀ e ∈ (reclaim k s).tier.streams, e.1 = k → e.2 = (reclaim k s).stream k) ∧
    ∀ {α : Type} (p : State → α), (∀ s x, p { s with tier := x } = p s) → p (reclaim k s) = p s := by
  obtain ⟨v, hv⟩ : ∃ v, v = s.setStream k { s.stream k with pages := (s.stream k).pages.dropWhile JPage.spent } := ⟨_, rfl⟩
  have hlog : ∀ {α : Type} (p : State → α), (∀ s (l : Vector Nat 24) (c : List Ckpt), p { s with tier := { s.tier with logs := l, ckpts := c } } = p s) →
      p (logAppend (16 + 2 * (k / 16)) v) = p v := fun p hp => by
    unfold logAppend
    split
    · exact ite_keeps _ ((hp _ _ _).trans (hp v _ v.tier.ckpts)) (hp v _ v.tier.ckpts)
    · rfl
  have hrun : reclaim k s = if ((s.stream k).pages.dropWhile JPage.spent).length < (s.stream k).pages.length then logAppend (16 + 2 * (k / 16)) v else s := by
    have hidle : (logAppend (16 + 2 * (k / 16)) v).eraseIdle := by
      unfold State.eraseIdle
      rw [hlog (fun s : State => s.tier.sbs) fun _ _ _ => rfl, hv]
      exact h
    rw [← journalErase_idle hidle, hv]
    rfl
  have hself : ∀ w : State, w.tier.streams = v.tier.streams → w.stream k = { s.stream k with pages := (s.stream k).pages.dropWhile JPage.spent } := fun w hw =>
    (stream_of_tier hw k).trans (by rw [hv, setStream_stream_self])
  rw [hrun]
  split
  next hlt =>
    have hstr := hlog (fun s : State => s.tier.streams) fun _ _ _ => rfl
    have htk : ∀ {α : Type} (p : State → α), (∀ s x, p { s with tier := x } = p s) → p (logAppend (16 + 2 * (k / 16)) v) = p s := fun p hp =>
      (hlog p fun s l c => hp s _).trans (by rw [hv]; exact hp s _)
    refine ⟨congrArg Stream.pages (hself _ hstr), fun j hj => ?_, ?_, ?_, fun _ e he hek => ?_, htk⟩
    · rw [stream_of_tier hstr, hv, setStream_stream_ne hj]
    · rw [hlog (fun s : State => s.tier.sbs) fun _ _ _ => rfl, hv]
      rfl
    · rw [hlog (fun s : State => s.tier.remirror) fun _ _ _ => rfl, hv]
      rfl
    · rw [hself _ hstr]
      rw [hstr, hv] at he
      rcases mem_ins he with rfl | ⟨-, hne⟩
      · rfl
      · exact absurd hek hne
  next hge => exact ⟨(dropWhile_of_length _ hge).symm, fun _ _ => rfl, rfl, rfl, fun hu => hu, fun _ _ => rfl⟩

omit hh in
theorem durable_keeps {α : Type} (p : State → α) (hg : ∀ s x, p { s with rgn := x } = p s) (l : List JPage) (s : State) :
    p (l.foldl (fun s y => stateDurable y s) s) = p s := by
  refine foldl_keeps p _ (fun s y => foldl_keeps p _ (fun s r => ?_) _ s) l s
  split
  · unfold State.updRegion
    split
    · exact hg s _
    · rfl
  · rfl

omit hh in
/-- A stream's pages change, and what can be reclaimed is. -/
theorem journalStep_idle (h : s.eraseIdle) (k : Nat) (f : Stream → Stream) :
    ((journalStep k f s).stream k).pages = (f (s.stream k)).pages.dropWhile JPage.spent ∧
    (∀ j, j ≠ k → (journalStep k f s).stream j = s.stream j) ∧ (journalStep k f s).eraseIdle ∧ (journalStep k f s).tier.remirror = s.tier.remirror ∧
    (∀ e ∈ (journalStep k f s).tier.streams, e.1 = k → e.2 = (journalStep k f s).stream k) ∧
    ∀ {α : Type} (p : State → α), (∀ s x, p { s with tier := x } = p s) → (∀ s x, p { s with rgn := x } = p s) → p (journalStep k f s) = p s := by
  unfold journalStep
  extract_lets x y new
  have hd : ∀ {α : Type} (p : State → α), (∀ s x, p { s with rgn := x } = p s) →
      p (new.foldl (fun s p => stateDurable p s) (s.setStream k y)) = p (s.setStream k y) := fun p hp => durable_keeps p hp _ _
  have hstr := hd (fun s : State => s.tier.streams) fun _ _ => rfl
  have hidle : (new.foldl (fun s p => stateDurable p s) (s.setStream k y)).eraseIdle := by
    unfold State.eraseIdle
    rw [hd (fun s : State => s.tier.sbs) fun _ _ => rfl]
    exact h
  have hone : ∀ e ∈ (new.foldl (fun s p => stateDurable p s) (s.setStream k y)).tier.streams, e.1 = k →
      e.2 = (new.foldl (fun s p => stateDurable p s) (s.setStream k y)).stream k := fun e he hek => by
    rw [stream_of_tier hstr, setStream_stream_self]
    rw [hstr] at he
    rcases mem_ins he with rfl | ⟨-, hne⟩
    · rfl
    · exact absurd hek hne
  obtain ⟨h1, h2, h3, h4, h5, h6⟩ := reclaim_idle hidle k
  refine ⟨?_, fun j hj => ?_, ?_, ?_, h5 hone, fun p ht hg => ?_⟩
  · rw [h1, stream_of_tier hstr, setStream_stream_self]
  · rw [h2 j hj, stream_of_tier hstr, setStream_stream_ne hj]
  · unfold State.eraseIdle
    rw [h3]
    exact hidle
  · rw [h4, hd (fun s : State => s.tier.remirror) fun _ _ => rfl]
    rfl
  · exact (h6 p ht).trans ((hd p hg).trans (ht s _))

end

end Sys2Proof.Machine
end

section
/-! PROOFS. Journal programs, the journal's space and re-mirroring (R120, R121, R123), and fills from flash (R117, R128). -/

namespace Sys2Proof.Machine

variable {s : State}

theorem updPage_mem {i : Nat} {f : JPage → JPage} (hf : ∀ p, (f p).seq = p.seq) {x : Stream} {y : JPage} (hy : y ∈ (updPage i f x).pages) :
    ∃ p ∈ x.pages, y.seq = p.seq ∧ (y = if p.seq = i then f p else p) := by
  obtain ⟨p, hp, rfl⟩ := List.mem_map.1 hy
  refine ⟨p, hp, ?_, rfl⟩
  split
  · exact hf p
  · rfl

/-- The pages that stay in a stream after a step were there before it. -/
theorem journalStep_mem (h : s.eraseIdle) {k i : Nat} {f : JPage → JPage} (hf : ∀ p, (f p).seq = p.seq) {y : JPage}
    (hy : y ∈ ((journalStep k (updPage i f) s).stream k).pages) : ∃ p ∈ (s.stream k).pages, y.seq = p.seq ∧ (y = if p.seq = i then f p else p) := by
  rw [(journalStep_idle h k _).1] at hy
  exact updPage_mem hf ((List.dropWhile_sublist _).subset hy)

/-- A request's part of the state is none of the journal's. -/
theorem journalStep_pool (h : s.eraseIdle) (k : Nat) (f : Stream → Stream) : (journalStep k f s).pool = s.pool ∧ (journalStep k f s).Still = s.Still ∧
    (journalStep k f s).mem = s.mem ∧ (journalStep k f s).out = s.out := by
  obtain ⟨-, -, -, -, -, hp⟩ := journalStep_idle h k f
  exact ⟨hp State.pool (fun _ _ => rfl) fun _ _ => rfl, hp State.Still (fun _ _ => rfl) fun _ _ => rfl, hp State.mem (fun _ _ => rfl) fun _ _ => rfl,
    hp State.out (fun _ _ => rfl) fun _ _ => rfl⟩

section
variable (hh : s.su.held = false)
include hh

section
variable {q : Quarter} {t : TenantId} {c : CarrierId} {i : Nat} {p : JPage}
  (hf : (s.stream (streamKey q.val t)).pages.find? (fun y => y.seq = i) = some p)
  (hone : ∀ y ∈ (s.stream (streamKey q.val t)).pages, y.seq = i → y = p) (haw : p.await.contains c.val = true)
  (hre : (s.tier.remirror.any fun x => x.1 = streamKey q.val t && x.2.1 = i && x.2.2 = c.val) = false) (hidle : s.eraseIdle)
include hf haw hre

/-- The page as it stands once its program on a carrier has passed. -/
def JPage.programmed (c : CarrierId) (p : JPage) : JPage := { p with await := p.await.filter (· ≠ c.val), passed := p.passed ++ [c.val] }

omit hh in
theorem journalProgram_passes : journalProgramRun q t i c true s =
    memPump 64 (journalStep (streamKey q.val t) (updPage i (JPage.programmed c)) s) := by
  unfold journalProgramRun
  dsimp only
  rw [hf]
  dsimp only
  rw [hre, if_neg (by decide), haw, if_neg (by decide), if_pos rfl]
  rfl

include hone hidle

omit hh hf haw hre in
/-- The programmed page in its stream. -/
theorem programmed_stream {y : JPage} (hy : y ∈ ((journalStep (streamKey q.val t) (updPage i (JPage.programmed c)) s).stream (streamKey q.val t)).pages) :
    (y.seq = i → y = p.programmed c) ∧ (y.seq ≠ i → y ∈ (s.stream (streamKey q.val t)).pages) := by
  obtain ⟨p', hp', hs, hy'⟩ := journalStep_mem (f := JPage.programmed c) hidle (fun _ => rfl) hy
  refine ⟨fun h => ?_, fun h => ?_⟩
  · have hi : p'.seq = i := hs ▸ h
    rw [hy', if_pos hi, hone p' hp' hi]
  · rw [hy', if_neg (fun hi => h (hs.trans hi))]
    exact hp'

theorem journalProgram_passed (hst : s.Still) : Completes (.journalProgramDone q t i c true) s fun u =>
    u.mem = s.mem ∧ ∀ y ∈ (u.stream (streamKey q.val t)).pages, y.seq = i → y.await = (p.await.filter (· ≠ c.val)) ∧ y.passed = p.passed ++ [c.val] := by
  refine completes_of_pumped (journalProgramRun q t i c true) rfl hh ?_
  obtain ⟨-, hstill, hm, -⟩ := journalStep_pool hidle (streamKey q.val t) (updPage i (JPage.programmed c))
  rw [journalProgram_passes hf haw hre, memPump_of_still hst hstill]
  refine ⟨hm, fun y hy hi => ?_⟩
  rw [(programmed_stream hone hidle hy).1 hi]
  exact ⟨rfl, rfl⟩

section
variable {x : Trk} {m : Msg} {e : Nat} (ht : s.pool.trks = [x]) (hx : s.pool.xwaits = []) (hfl : s.pool.fills = []) (hpd : s.pool.pend = [])
  (hch : (indices 16).all (fun k => !s.resizing k && !s.emptying k) = true) (hwho : x.who = .host e) (hans : x.ans = some m) (hwait : x.wait = .journal)
  (hjw : x.jwait = [(streamKey q.val t, i)])

omit hh hf haw hre hone hidle in
/-- Where one request stands that waits for its journal pages, nothing but its answer can go. -/
theorem memPump_journal (ht : s.pool.trks = [x]) (hfl : s.pool.fills = [])
    (hch : (indices 16).all (fun k => !s.resizing k && !s.emptying k) = true) (hwait : x.wait = .journal) {w : State}
    (hw : finishReady s = w) (hwx : w.pool.xwaits = []) (hwc : w.chans = s.chans) : memPump 64 s = w := by
  have hset : settleTrks s = s := by
    unfold settleTrks
    rw [ht]
    unfold runReady
    rw [ht]
    simp [hwait]
  have hdone : memDone s = w := by
    unfold memDone
    rw [fixFills_nil hfl, fixSets_still hch, hset, hw]
  have hturn : ((indices 16).any fun c => w.dirTurn c) = false := by
    rw [List.any_eq_false]
    intro c hc
    have := List.all_eq_true.1 hch c hc
    simp only [Bool.and_eq_true, Bool.not_eq_true'] at this
    have he : w.emptying c = s.emptying c := by
      unfold State.emptying State.chan
      rw [hwc]
    unfold State.dirTurn
    simp [he, this.2]
  unfold memPump
  dsimp only
  rw [hdone, hwx, hturn]
  rfl

include ht hx hfl hpd hch hwho hans hwait hjw

theorem journalProgram_answers (hcl : p.closed = true) (hok : ∀ y ∈ (s.stream (streamKey q.val t)).pages, y.seq < i → y.ok = true)
    (hlast : p.await = [c.val]) : Completes (.journalProgramDone q t i c true) s fun u => u.Ans m ∧ u.pool.trks = [] := by
  refine completes_of_pumped (journalProgramRun q t i c true) rfl hh ?_
  have hmem := @programmed_stream s q t c i p hone hidle
  obtain ⟨hpool, -, -, -⟩ := journalStep_pool hidle (streamKey q.val t) (updPage i (JPage.programmed c))
  have hchans : (journalStep (streamKey q.val t) (updPage i (JPage.programmed c)) s).chans = s.chans :=
    (journalStep_idle hidle _ _).2.2.2.2.2 State.chans (fun _ _ => rfl) fun _ _ => rfl
  have hres : (indices 16).all (fun k => !(journalStep (streamKey q.val t) (updPage i (JPage.programmed c)) s).resizing k &&
      !(journalStep (streamKey q.val t) (updPage i (JPage.programmed c)) s).emptying k) = true :=
    ((journalStep_idle hidle _ _).2.2.2.2.2 (fun s : State => (indices 16).all fun k => !s.resizing k && !s.emptying k) (fun _ _ => rfl) fun _ _ => rfl).trans hch
  rw [journalProgram_passes hf haw hre]
  generalize journalStep (streamKey q.val t) (updPage i (JPage.programmed c)) s = v at *
  have hpage : v.pageOk (streamKey q.val t) i = true := by
    unfold State.pageOk
    rw [List.all_eq_true]
    intro y hy
    obtain ⟨hy, hle⟩ := List.mem_filter.1 hy
    by_cases hi : y.seq = i
    · rw [(hmem hy).1 hi]
      unfold JPage.ok JPage.programmed
      simp [hcl, hlast]
    · exact hok y ((hmem hy).2 hi) (by have := of_decide_eq_true hle; omega)
  have hvt : v.pool.trks = [x] := by rw [hpool]; exact ht
  have hmay : v.mayFinish x = true := by
    unfold State.mayFinish
    rw [hans, hwait, hjw]
    simp [hpage]
  obtain ⟨w, hw⟩ : ∃ w, w = finishTrk x.id v := ⟨_, rfl⟩
  have htrk : v.trk x.id = some x := by
    unfold State.trk
    rw [hvt]
    simp
  have hsend : ∃ l : Nat, w = send { m with load := l } { v with pool := { v.pool with trks := [] } } := by
    rw [hw]
    unfold finishTrk
    rw [htrk]
    dsimp only
    rw [hans]
    dsimp only
    rw [hwho, hvt, show ([x].filter fun y => decide (y.id ≠ x.id)) = [] by simp]
    exact ⟨_, rfl⟩
  obtain ⟨l, hwl⟩ := hsend
  have hwp : w.pool = { v.pool with trks := [] } := by rw [hwl, send_pool]
  have hfin : finishReady v = w := by
    have hwpend : w.pool.pend = [] := by rw [hwp, hpool]; exact hpd
    unfold finishReady
    rw [hvt]
    simp only [List.filter_cons, hmay, if_true, List.filter_nil, List.map_cons, List.map_nil, List.foldl_cons, List.foldl_nil]
    rw [← hw, hwpend, List.filter_nil, List.filter_nil, List.foldl_nil, ← hwpend]
  rw [memPump_journal hvt (by rw [hpool]; exact hfl) hres hwait hfin (by rw [hwp, hpool]; exact hx)
    (by rw [hwl, send_chans])]
  exact ⟨⟨l, hwl ▸ send_sent _ _⟩, by rw [hwp]⟩

omit hone hwho hans in
theorem journalProgram_waits {d : Nat} (hd : d ∈ p.await) (hdc : d ≠ c.val) : Completes (.journalProgramDone q t i c true) s fun u =>
    u.out = s.out ∧ u.pool.trks = [x] := by
  refine completes_of_pumped (journalProgramRun q t i c true) rfl hh ?_
  obtain ⟨hpages, -, -, -, -, hp⟩ := journalStep_idle hidle (streamKey q.val t) (updPage i (JPage.programmed c))
  obtain ⟨hpool, -, -, hout⟩ := journalStep_pool hidle (streamKey q.val t) (updPage i (JPage.programmed c))
  have hres := hp (fun s : State => (indices 16).all fun k => !s.resizing k && !s.emptying k) (fun _ _ => rfl) fun _ _ => rfl
  rw [journalProgram_passes hf haw hre]
  generalize journalStep (streamKey q.val t) (updPage i (JPage.programmed c)) s = v at *
  have hseq : p.seq = i := by simpa using List.find?_some hf
  have hnot : (p.programmed c).spent = false ∧ (p.programmed c).ok = false := by
    have hne : (p.await.filter (· ≠ c.val)).isEmpty = false := by
      rw [List.isEmpty_eq_false_iff]
      exact List.ne_nil_of_mem (List.mem_filter.2 ⟨hd, decide_eq_true hdc⟩)
    have hok : (p.programmed c).ok = false := by
      unfold JPage.ok JPage.programmed
      rw [hne, Bool.and_false]
    exact ⟨by unfold JPage.spent; rw [hok, Bool.false_and], hok⟩
  have hin : p.programmed c ∈ (v.stream (streamKey q.val t)).pages := by
    rw [hpages]
    have hpm : p.programmed c ∈ (updPage i (JPage.programmed c) (s.stream (streamKey q.val t))).pages :=
      List.mem_map.2 ⟨p, List.mem_of_find?_eq_some hf, if_pos hseq⟩
    rw [← List.takeWhile_append_dropWhile (p := JPage.spent) (l := (updPage i (JPage.programmed c) (s.stream (streamKey q.val t))).pages)] at hpm
    refine (List.mem_append.1 hpm).resolve_left fun hm => ?_
    exact absurd (hnot.1.symm.trans (List.mem_takeWhile_imp hm)) (by decide)
  have hpage : v.pageOk (streamKey q.val t) i = false := by
    unfold State.pageOk
    rw [List.all_eq_false]
    refine ⟨p.programmed c, List.mem_filter.2 ⟨hin, decide_eq_true ?_⟩, by rw [hnot.2]; decide⟩
    exact Nat.le_of_eq hseq
  have hvt : v.pool.trks = [x] := by rw [hpool]; exact ht
  have hmay : v.mayFinish x = false := by
    unfold State.mayFinish
    rw [hjw]
    simp [hpage]
  have hvpend : v.pool.pend = [] := by rw [hpool]; exact hpd
  have hfin : finishReady v = v := by
    unfold finishReady
    rw [hvt]
    simp only [List.filter_cons, hmay, Bool.false_eq_true, if_false, List.filter_nil, List.map_nil, List.foldl_nil, hvpend]
    rw [← hvpend]
  rw [memPump_journal hvt (by rw [hpool]; exact hfl) (hres.trans hch) hwait hfin (by rw [hpool]; exact hx) rfl]
  exact ⟨hout, hvt⟩

end

/-! A program that fails -/

omit hh hf haw hre hone hidle in
/-- A page with no copy on a carrier keeps its copies when that carrier goes. -/
theorem pageOff_absent {j : JPage} (ha : c.val ∉ j.await) (hp : c.val ∉ j.passed) (n key : Nat) (s : State) : pageOff c n key j s = (j, s) := by
  unfold pageOff
  dsimp only
  rw [if_neg (by simpa using ha), if_neg (by simpa using hp)]

omit hh hf haw hre hone hidle in
theorem pageOff_seq (n key : Nat) (j : JPage) (s : State) : (pageOff c n key j s).1.seq = j.seq := by
  unfold pageOff
  dsimp only
  split
  · rfl
  · split
    · split <;> rfl
    · rfl

omit hh hf haw hre hone hidle in
theorem pagesOff_mem (n key : Nat) (l : List JPage) (a : List JPage × State) {y : JPage} (hy : y ∈ (pagesOff c n key l a).1) :
    y ∈ a.1 ∨ ∃ j ∈ l, ∃ v, y = (pageOff c n key j v).1 := by
  induction l generalizing a with
  | nil => exact Or.inl hy
  | cons j l ih =>
    rcases ih _ hy with h | ⟨j', hj', v, hv⟩
    · rcases List.mem_append.1 h with h | h
      · exact Or.inl h
      · exact Or.inr ⟨j, List.mem_cons_self, a.2, List.mem_singleton.1 h⟩
    · exact Or.inr ⟨j', List.mem_cons_of_mem _ hj', v, hv⟩

/-- Every page of a stream with a SEQ has a program on one carrier to wait for, and no copy on another. -/
def Moved (k i : Nat) (c d : CarrierId) (s : State) : Prop :=
  ∀ e ∈ s.tier.streams, e.1 = k → ∀ y ∈ e.2.pages, y.seq = i → d.val ∈ y.await ∧ c.val ∉ y.await ∧ c.val ∉ y.passed

omit hh hf haw hre hone hidle in
theorem Moved.of_tier {k : Nat} {d : CarrierId} {v : State} (h : Moved k i c d s) (hv : v.tier.streams = s.tier.streams) : Moved k i c d v := by
  unfold Moved
  rw [hv]
  exact h

omit hh hf haw hre hone hidle in
/-- A carrier that leaves service changes nothing of pages that have no copy on it. -/
theorem Moved.remirrorFrom {k : Nat} {d : CarrierId} (h : Moved k i c d s) : Moved k i c d (remirrorFrom c s) := by
  rw [remirrorFrom_eq]
  refine List.foldlRecOn _ _ (motive := Moved k i c d) h fun v hv e he => ?_
  intro x hx hxk y hy hyi
  rcases mem_ins hx with rfl | ⟨hx, -⟩
  · obtain ⟨j, hj, w, rfl⟩ := (pagesOff_mem _ _ _ _ hy).resolve_left List.not_mem_nil
    have hji : j.seq = i := (pageOff_seq _ _ _ _).symm.trans hyi
    obtain ⟨h1, h2, h3⟩ := h e he hxk j hj hji
    rw [pageOff_absent h2 h3]
    exact ⟨h1, h2, h3⟩
  · have hstr : (pagesOff c (e.1 / 16) e.1 e.2.pages ([], v)).2.tier.streams = v.tier.streams :=
      pagesOff_keeps (fun s : State => s.tier.streams) (fun _ _ => rfl) _ _ _ _ _
    exact hv x (hstr ▸ hx) hxk y hy hyi

omit hh hf haw hre hone hidle in
theorem Moved.badMember {k : Nat} {d : CarrierId} (h : Moved k i c d s) (n : Nat) : Moved k i c d (badMember c n s) := by
  have hret : Moved k i c d (retire c n s) := by
    unfold retire
    extract_lets x used
    split
    · unfold carFail
      extract_lets was v w
      have hv : v.tier.streams = s.tier.streams := (congrArg TierSt.streams (logEv_tier _ _)).trans rfl
      have hw : w.tier.streams = v.tier.streams := ite_keeps (p := fun s : State => s.tier.streams) _ rfl rfl
      have hm : Moved k i c d w := h.of_tier (hw.trans hv)
      split
      · exact h
      · split
        · have hd : (dropErase c w).tier.streams = w.tier.streams := by
            unfold dropErase updFull
            exact ite_keeps (p := fun s : State => s.tier.streams) _ rfl (ite_keeps (p := fun s : State => s.tier.streams) _ rfl
              (ite_keeps (p := fun s : State => s.tier.streams) _ rfl rfl))
          exact (hm.of_tier hd).remirrorFrom
        · exact hm
    · have hlog : ∀ (w : Nat) (v : State), (logAppend w v).tier.streams = v.tier.streams := fun w v => by
        unfold logAppend
        split
        · exact ite_keeps (p := fun s : State => s.tier.streams) _ rfl rfl
        · rfl
      have hworn : ∀ v : State, (checkWorn c v).tier.streams = v.tier.streams := fun v => by
        unfold checkWorn
        exact ite_keeps (p := fun s : State => s.tier.streams) _ ((congrArg TierSt.streams (logEv_tier _ _)).trans rfl) rfl
      exact h.of_tier ((hworn _).trans (hlog _ _))
  unfold Machine.badMember
  dsimp only
  split
  · exact hret
  · split
    · exact h
    · exact h.of_tier rfl

theorem journalProgram_fails (hpass : c.val ∉ p.passed) (hst : s.Still) {d : CarrierId}
    (hd : ((s.mirrorOrder q.val).find? fun d => d ≠ c && !p.passed.contains d.val && !p.await.contains d.val) = some d) :
    Completes (.journalProgramDone q t i c false) s fun u =>
      u.mem = s.mem ∧ ∀ y ∈ (u.stream (streamKey q.val t)).pages, y.seq = i → d.val ∈ y.await ∧ c.val ∉ y.await := by
  refine completes_of_pumped (journalProgramRun q t i c false) rfl hh ?_
  have hdc : d ≠ c := by
    have := List.find?_some hd
    simp only [Bool.and_eq_true, decide_eq_true_eq] at this
    exact this.1.1
  obtain ⟨s1, hs1⟩ : ∃ s1, s1 = flCount .PROG_FAIL_CNT c p.sb 1 s := ⟨_, rfl⟩
  have ht1 : s1.tier = s.tier := by rw [hs1]; exact count_tier _ _ _ _
  have hother : ((s1.mirrorOrder q.val).find? fun d => d ≠ c && !p.passed.contains d.val && !p.await.contains d.val) = some d := by
    rw [hs1, (offStripes_mirrorOrder q.val).flCount rfl]
    exact hd
  have hidle1 : s1.eraseIdle := by
    unfold State.eraseIdle
    rw [ht1]
    exact hidle
  have h1 : ∀ {α : Type} (f : State → α), OffTier f → f s1 = f s := fun f hf => by rw [hs1]; exact hf.count _ _ _ _
  have hstr1 : s1.stream (streamKey q.val t) = s.stream (streamKey q.val t) := stream_of_tier (congrArg TierSt.streams ht1) _
  obtain ⟨g, hg⟩ : ∃ g : JPage → JPage, g = fun p => { p with await := p.await.filter (· ≠ c.val) ++ [d.val] } := ⟨_, rfl⟩
  obtain ⟨s2, hs2⟩ : ∃ s2, s2 = journalStep (streamKey q.val t) (updPage i g) s1 := ⟨_, rfl⟩
  obtain ⟨s3, h3⟩ : ∃ s3, s3 = flCount .FL_PROG_BYTES d p.sb 18432 (flCount .PAGE_PROG_CNT d p.sb 1 s2) := ⟨_, rfl⟩
  have hrun : journalProgramRun q t i c false s =
      memPump 64 (badMember c p.sb (s3.setSb p.sb { s3.sb p.sb with use := if (s3.sb p.sb).use = 1 then 2 else (s3.sb p.sb).use })) := by
    unfold journalProgramRun
    dsimp only
    rw [hf]
    dsimp only
    rw [hre, if_neg (by decide), haw, if_neg (by decide), if_neg (by decide), ← hs1, hother, h3, hs2, hg]
    rfl
  obtain ⟨-, -, -, -, huniq, hkeep⟩ := journalStep_idle hidle1 (streamKey q.val t) (updPage i g)
  rw [← hs2] at huniq hkeep
  have hm2 : Moved (streamKey q.val t) i c d s2 := by
    intro e he hek y hy hyi
    rw [huniq e he hek, hs2] at hy
    obtain ⟨j, hj, hjs, rfl⟩ := journalStep_mem hidle1 (fun p => by rw [hg]) hy
    have hji : j.seq = i := hjs.symm.trans hyi
    rw [hstr1] at hj
    rw [if_pos hji, hone j hj hji, hg]
    refine ⟨List.mem_append_right _ (List.mem_singleton.2 rfl), fun hm => ?_, hpass⟩
    rcases List.mem_append.1 hm with hm | hm
    · exact absurd rfl (of_decide_eq_true (List.mem_filter.1 hm).2)
    · exact hdc (Fin.ext (List.mem_singleton.1 hm)).symm
  have hm3 : Moved (streamKey q.val t) i c d s3 := hm2.of_tier (by rw [h3]; exact congrArg TierSt.streams ((count_tier _ _ _ _).trans (count_tier _ _ _ _)))
  have h3' : ∀ {α : Type} (f : State → α), OffTier f → (∀ s x, f { s with rgn := x } = f s) → f s3 = f s := fun f hf hg => by
    rw [h3]
    exact (hf.count _ _ _ _).trans ((hf.count _ _ _ _).trans ((hkeep f hf.tier hg).trans (h1 f hf)))
  rw [hrun]
  clear hrun h3 hs2 hkeep huniq
  have h4 : ∀ {α : Type} (f : State → α), OffTier f → (∀ s x, f { s with rgn := x } = f s) →
      f (badMember c p.sb (s3.setSb p.sb { s3.sb p.sb with use := if (s3.sb p.sb).use = 1 then 2 else (s3.sb p.sb).use })) = f s := fun f hf hg =>
    (hf.offRelease.badMember _ _ _).trans ((hf.offRelease.setSb _ _ s3).trans (h3' f hf hg))
  rw [memPump_of_still hst (h4 _ offTier_still fun _ _ => rfl)]
  refine ⟨h4 _ offTier_mem fun _ _ => rfl, fun y hy hyi => ?_⟩
  have hm4 := (Moved.of_tier hm3 (v := s3.setSb p.sb { s3.sb p.sb with use := if (s3.sb p.sb).use = 1 then 2 else (s3.sb p.sb).use }) rfl).badMember p.sb
  generalize badMember c p.sb (s3.setSb p.sb { s3.sb p.sb with use := if (s3.sb p.sb).use = 1 then 2 else (s3.sb p.sb).use }) = v at *
  unfold State.stream Sparse.get at hy
  cases hfind : v.tier.streams.find (streamKey q.val t) with
  | none =>
    rw [hfind] at hy
    exact absurd hy List.not_mem_nil
  | some z =>
    rw [hfind] at hy
    obtain ⟨ha, hb, -⟩ := hm4 _ (mem_of_find hfind) rfl y hy hyi
    exact ⟨ha, hb⟩

end

/-! ### The journal's space, and what is copied again -/

omit hh in
/-- Reclaiming streams one after the other: each gives up its spent pages, no other changes. -/
theorem reclaimAll_idle (l : List (Nat × Stream)) (h : s.eraseIdle) :
    (l.foldl (fun s e => reclaim e.1 s) s).eraseIdle ∧
    (∀ k, ((l.foldl (fun s e => reclaim e.1 s) s).stream k).pages =
      if ∃ e ∈ l, e.1 = k then (s.stream k).pages.dropWhile JPage.spent else (s.stream k).pages) ∧
    ∀ {α : Type} (p : State → α), (∀ s x, p { s with tier := x } = p s) → p (l.foldl (fun s e => reclaim e.1 s) s) = p s := by
  induction l generalizing s with
  | nil => exact ⟨h, fun k => by simp, fun _ _ => rfl⟩
  | cons e l ih =>
    obtain ⟨h1, h2, h3, -, -, hp⟩ := reclaim_idle h e.1
    have hi : (reclaim e.1 s).eraseIdle := by
      unfold State.eraseIdle
      rw [h3]
      exact h
    obtain ⟨a1, a2, a3⟩ := ih hi
    refine ⟨a1, fun k => ?_, fun p ht => (a3 p ht).trans (hp p ht)⟩
    rw [List.foldl_cons, a2 k]
    by_cases hk : e.1 = k
    · subst hk
      rw [h1, if_pos (⟨e, List.mem_cons_self, rfl⟩ : ∃ x ∈ e :: l, x.1 = e.1), List.dropWhile_idempotent]
      split <;> rfl
    · rw [h2 k (Ne.symm hk)]
      have : (∃ x ∈ e :: l, x.1 = k) ↔ ∃ x ∈ l, x.1 = k := by simp [hk]
      simp only [this]

theorem journalSpace_completes (hst : s.Still) (hidle : s.eraseIdle) : Completes .journalSpaceReclaimed s fun u =>
    u.mem = s.mem ∧ ∀ k : Nat, (u.stream k).pages = (s.stream k).pages.dropWhile fun p => p.ok && p.recs.all fun r => !r.live := by
  refine completes_of_pumped journalSpaceRun rfl hh ?_
  obtain ⟨-, hpages, hp⟩ := reclaimAll_idle s.tier.streams hidle
  have hstill := hp State.Still fun _ _ => rfl
  have htrks : (s.tier.streams.foldl (fun s e => reclaim e.1 s) s).pool.trks = [] := by rw [hp State.pool fun _ _ => rfl]; exact hst.1
  have hrun : journalSpaceRun s = s.tier.streams.foldl (fun s e => reclaim e.1 s) s := by
    unfold journalSpaceRun
    extract_lets v
    rw [wake_of_nil htrks, memPump_of_still hst hstill, ite_self]
  rw [hrun]
  refine ⟨hp State.mem fun _ _ => rfl, fun k => (hpages k).trans ?_⟩
  split
  · rfl
  next hno =>
    have hnil : (s.stream k).pages = [] := by
      unfold State.stream Sparse.get
      rw [Sparse.find_none_of_absent fun x hx hxk => hno ⟨x, hx, hxk⟩]
      rfl
    rw [hnil]
    rfl

omit hh in
/-- Pages copied again are safe, each in its stream, and stay so through the rest. -/
theorem remirrorAll_idle (l : List (Nat × Nat × Nat)) (h : s.eraseIdle) :
    let u := l.foldl (fun s x => journalStep x.1 (updPage x.2.1 fun p => { p with passed := p.passed ++ [x.2.2] }) s) s
    u.tier.remirror = s.tier.remirror ∧ (∀ x ∈ l, ∀ p ∈ (u.stream x.1).pages, p.seq = x.2.1 → x.2.2 ∈ p.passed) ∧
    (∀ k n c, (∀ p ∈ (s.stream k).pages, p.seq = n → c ∈ p.passed) → ∀ p ∈ (u.stream k).pages, p.seq = n → c ∈ p.passed) ∧
    ∀ {α : Type} (f : State → α), (∀ s x, f { s with tier := x } = f s) → (∀ s x, f { s with rgn := x } = f s) → f u = f s := by
  induction l generalizing s with
  | nil => exact ⟨rfl, fun x hx => absurd hx List.not_mem_nil, fun _ _ _ h => h, fun _ _ _ => rfl⟩
  | cons x l ih =>
    obtain ⟨-, hne, hi, hr, -, hp⟩ := journalStep_idle h x.1 (updPage x.2.1 fun p => { p with passed := p.passed ++ [x.2.2] })
    have hmem : ∀ p ∈ ((journalStep x.1 (updPage x.2.1 fun p => { p with passed := p.passed ++ [x.2.2] }) s).stream x.1).pages,
        ∃ j ∈ (s.stream x.1).pages, p.seq = j.seq ∧ (p = if j.seq = x.2.1 then { j with passed := j.passed ++ [x.2.2] } else j) := fun p hp =>
      journalStep_mem (f := fun p => { p with passed := p.passed ++ [x.2.2] }) h (fun _ => rfl) hp
    obtain ⟨a1, a2, a3, a4⟩ := ih hi
    have hkeep : ∀ k n c, (∀ p ∈ (s.stream k).pages, p.seq = n → c ∈ p.passed) →
        ∀ p ∈ ((journalStep x.1 (updPage x.2.1 fun p => { p with passed := p.passed ++ [x.2.2] }) s).stream k).pages, p.seq = n → c ∈ p.passed := by
      intro k n c hs p hpm hpn
      by_cases hk : k = x.1
      · subst hk
        obtain ⟨j, hj, hjs, rfl⟩ := hmem p hpm
        have hc := hs j hj (hjs.symm.trans hpn)
        split
        · exact List.mem_append_left _ hc
        · exact hc
      · rw [hne k hk] at hpm
        exact hs p hpm hpn
    refine ⟨a1.trans hr, fun y hy => ?_, fun k n c hs => a3 k n c (hkeep k n c hs), fun f ht hg => (a4 f ht hg).trans (hp f ht hg)⟩
    rcases List.mem_cons.1 hy with rfl | hy
    · refine a3 y.1 y.2.1 y.2.2 fun p hpm hpn => ?_
      obtain ⟨j, -, hjs, rfl⟩ := hmem p hpm
      rw [if_pos (hjs.symm.trans hpn)]
      exact List.mem_append_right _ (List.mem_singleton.2 rfl)
    · exact a2 y hy

theorem remirror_completes (hst : s.Still) (hidle : s.eraseIdle) : Completes .remirrorDone s fun u =>
    u.tier.remirror = [] ∧ u.mem = s.mem ∧ ∀ x ∈ s.tier.remirror, ∀ p ∈ (u.stream x.1).pages, p.seq = x.2.1 → x.2.2 ∈ p.passed := by
  refine completes_of_pumped remirrorRun rfl hh ?_
  unfold remirrorRun
  extract_lets l v
  obtain ⟨h1, h2, -, h4⟩ := remirrorAll_idle (s := v) l hidle
  rw [memPump_of_still hst (h4 State.Still (fun _ _ => rfl) fun _ _ => rfl)]
  exact ⟨h1, h4 State.mem (fun _ _ => rfl) fun _ _ => rfl, h2⟩

/-! ### Fills (R117, R127, R128) -/

omit hh in
theorem readCount_below {c : CarrierId} {i n : Nat} (h : satAdd 32 ((s.sb i).reads.getD c.val 0) n < (s.reg .RD_LIMIT).toNat) :
    readCount c i n s = readNoted c i n s := by
  have hreg : (readNoted c i n s).reg .RD_LIMIT = s.reg .RD_LIMIT := OffStripes.readNoted (p := fun s => s.reg .RD_LIMIT)
    ⟨fun s q u n hq hu => (offSays_reg (r := .RD_LIMIT) (u := 0) rfl (by decide)).count s q u n hq hu, fun _ _ _ _ _ => rfl⟩ c i n s
  have hsb : (flCount .FL_RD_BYTES c i (18432 * n) (flCount .PAGE_RD_CNT c i n s)).sb i = s.sb i :=
    sb_of_sbs (congrArg TierSt.sbs ((count_tier _ _ _ _).trans (count_tier _ _ _ _))) i
  unfold readCount
  dsimp only
  refine if_neg fun hc => ?_
  have h1 : ((readNoted c i n s).reg .RD_LIMIT).toNat ≤ satAdd 32 (((flCount .FL_RD_BYTES c i (18432 * n) (flCount .PAGE_RD_CNT c i n s)).sb i).reads.getD c.val 0) n := hc.1
  rw [hreg, hsb] at h1
  omega

omit hh in
/-- A fill that completes changes memory, poison and tags. -/
theorem install_rest {α : Type} (p : State → α) (hr : ∀ s x, p { s with regs := x } = p s) (hc : ∀ s x, p { s with cnt64 := x } = p s)
    (hm : ∀ s x y, p { s with mem := x, poison := y } = p s) (ht : ∀ s x, p { s with tags := x } = p s) (hg : ∀ s x, p { s with tagc := x } = p s)
    (sl set_ w b n : Nat) (t : TenantId) (s : State) : p (install sl set_ w b n t s) = p s := by
  have huse : ∀ v, p (tagcUse sl set_ true v) = p v := fun v => by
    unfold tagcUse
    extract_lets k l hit s1 w l' s2
    have h1 : p s1 = p v := ite_keeps _ (count_keeps p hr hc _ _ _ _) (count_keeps p hr hc _ _ _ _)
    clear_value s1
    exact (hg s2 _).trans ((count_keeps p hr hc _ _ _ _).trans h1)
  exact (huse _).trans ((ht _ _).trans ((count_keeps p hr hc _ _ _ _).trans (hm s _ _)))

omit hh in
theorem install_mem (sl set_ w b n : Nat) (t : TenantId) (s : State) :
    (install sl set_ w b n t s).mem = Memory.paste s.mem (b * 16384) 16384 (s.tierImage b n t).1 := by
  have huse : ∀ v : State, (tagcUse sl set_ true v).mem = v.mem := fun v => by
    unfold tagcUse
    extract_lets k l hit s1 w l' s2
    have h1 : s1.mem = v.mem := ite_keeps (p := State.mem) _ (count_mem _ _ _ _) (count_mem _ _ _ _)
    clear_value s1
    exact (count_mem _ _ _ _).trans h1
  exact (huse _).trans ((count_mem _ _ _ _).trans rfl)

omit hh in
theorem tierImage_of_tier {v : State} (h : v.tier = s.tier) (b n : Nat) (t : TenantId) : v.tierImage b n t = s.tierImage b n t := by
  unfold State.tierImage State.liveRecs
  rw [h]

section
variable {f : Fill} {g : Region} {l : PLoc} {r : PageRead} (ht : s.pool.trks = []) (hx : s.pool.xwaits = []) (hpd : s.pool.pend = [])
  (hch : (indices 16).all (fun k => !s.resizing k && !s.emptying k) = true) (hfl : s.pool.fills = [f]) (hway : f.way < 8)
  (hg : s.region f.region = some g) (hmap : s.tier.fmap.find f.block = some (.dense l)) (hcar : l.carrier < 8) (hrw : s.readWay l = 0)
  (hlim : satAdd 32 ((s.sb l.sb).reads.getD l.carrier 0) 1 < (s.reg .RD_LIMIT).toNat)

/-- The carrier of a page position, as a number below 8. -/
def PLoc.car (l : PLoc) : CarrierId := ⟨l.carrier % 8, Nat.mod_lt _ (by decide)⟩

include hfl hway hg hmap hrw in
omit hh in
theorem flashReadRun_eq : flashReadRun f.block r s =
    memPump 64 (wake .fill (fun x => x.slice = f.slice) ((install f.slice f.set_ f.way f.block f.region g.tenant
      (if (1 ≤ r.stage && r.stage ≤ (if (s.inServ.filter (· ≠ l.car)).length = 7 then 4 else 3)) && (match s.tier.pages.find (pageKey l) with
        | some p => p.block = f.block && p.region = f.region && p.tenant = g.tenant.val
        | none => false) then ladder l.car l.sb r s
      else blockLost f.slice f.block f.region l.carrier g.tenant (ladder l.car l.sb r s))).dropFill f.block f.slice)) := by
  unfold flashReadRun
  rw [hfl, List.find?_cons_of_pos (by simp; omega)]
  dsimp only
  rw [hg]
  dsimp only
  rw [hmap]
  dsimp only
  rw [hrw, if_pos rfl, if_neg (show f.way ≠ 9 by omega)] <;> rfl

include ht hx hpd hch hfl in
omit hh in
/-- What follows a fill, where nothing else waits. -/
theorem fillEnds {v : State} (hv : v.pool = s.pool)
    (hr : (indices 16).all (fun k => !v.resizing k && !v.emptying k) = (indices 16).all (fun k => !s.resizing k && !s.emptying k)) (n : Nat) (p : Trk → Bool) :
    memPump n (wake .fill p (v.dropFill f.block f.slice)) = v.dropFill f.block f.slice ∧ (v.dropFill f.block f.slice).pool.fills = [] := by
  have hfills : (v.dropFill f.block f.slice).pool.fills = [] := by
    show v.pool.fills.filter _ = []
    rw [hv, hfl]
    simp
  have htr : (v.dropFill f.block f.slice).pool.trks = [] := by
    show v.pool.trks = []
    rw [hv]
    exact ht
  refine ⟨?_, hfills⟩
  rw [wake_of_nil htr]
  refine memPump_still ⟨htr, ?_, hfills, ?_, ?_⟩ n
  · show v.pool.xwaits = []
    rw [hv]
    exact hx
  · show v.pool.pend = []
    rw [hv]
    exact hpd
  · exact hr.trans hch

/-- A part of the state that a page's read and its arrival leave alone. -/
structure OffFill {α : Type} (p : State → α) : Prop extends OffTier p where
  image : ∀ s x y, p { s with mem := x, poison := y } = p s
  tags : ∀ s x, p { s with tags := x } = p s
  tagc : ∀ s x, p { s with tagc := x } = p s

omit hh in
theorem OffFill.install {α : Type} {p : State → α} (hp : OffFill p) (sl set_ w b n : Nat) (t : TenantId) (s : State) :
    p (install sl set_ w b n t s) = p s := install_rest p hp.regs hp.cnt64 hp.image hp.tags hp.tagc _ _ _ _ _ _ s

include ht hx hpd hch hfl hway hg hmap hcar hrw hlim

theorem flashRead_fills {p : Page} {cells : Sparse Byte} {bad : List Nat} {newer : Bool} (hp : s.tier.pages.find (pageKey l) = some p)
    (hpb : p.block = f.block) (hpr : p.region = f.region) (hpt : p.tenant = g.tenant.val)
    (himg : s.tierImage f.block f.region g.tenant = (cells, bad, newer)) (h1 : r.stage = 1) : Completes (.flashReadDone f.block r) s fun u =>
      u.mem = Memory.paste s.mem (f.block * 16384) 16384 cells ∧ u.pool.fills = [] ∧ u.tier.fmap = s.tier.fmap := by
  refine completes_of_pumped (flashReadRun f.block r) rfl hh ?_
  have hlc : l.car.val = l.carrier := Nat.mod_eq_of_lt hcar
  have hlad : ladder l.car l.sb r s = flCount .CW_CORR_CNT l.car l.sb r.cwCorrected (readNoted l.car l.sb 1 s) := by
    unfold ladder
    rw [h1, readCount_below (by rw [hlc]; exact hlim)]
    rfl
  have hk : ∀ {α : Type} (q : State → α), OffStripes q → q (ladder l.car l.sb r s) = q s := fun q hq => by
    rw [hlad]
    exact (hq.flCount rfl _ _ _ _).trans (hq.readNoted _ _ _ s)
  have himage : (ladder l.car l.sb r s).tierImage f.block f.region g.tenant = s.tierImage f.block f.region g.tenant :=
    hk (fun s => s.tierImage f.block f.region g.tenant) ⟨fun s r u n _ _ => tierImage_of_tier (count_tier s r u n) _ _ _, fun _ _ _ _ _ => rfl⟩
  rw [flashReadRun_eq hfl hway hg hmap hrw, if_pos (by rw [h1, hp]; simp [hpb, hpr, hpt]; split <;> omega)]
  have hpool : OffFill State.pool := by constructor; constructor; all_goals intros; rfl
  have hres : OffFill fun s : State => (indices 16).all fun k => !s.resizing k && !s.emptying k := by constructor; constructor; all_goals intros; rfl
  have hv : ∀ {α : Type} (q : State → α), OffFill q → q (install f.slice f.set_ f.way f.block f.region g.tenant (ladder l.car l.sb r s)) = q s :=
    fun q hq => (hq.install _ _ _ _ _ _ _).trans (hk q hq.offStripes)
  obtain ⟨hrun, hfills⟩ := fillEnds ht hx hpd hch hfl (hv _ hpool) (hv _ hres) 64 fun x => decide (x.slice = f.slice)
  rw [hrun]
  refine ⟨?_, hfills, ?_⟩
  · refine (install_mem _ _ _ _ _ _ _).trans ?_
    rw [himage, himg, hk _ offTier_mem.offStripes]
  · refine (install_rest (fun s : State => s.tier.fmap) (fun _ _ => rfl) (fun _ _ => rfl) (fun _ _ _ => rfl) (fun _ _ => rfl) (fun _ _ => rfl) _ _ _ _ _ _ _).trans ?_
    exact hk _ offStripes_fmap

theorem flashRead_lost (h5 : r.stage = 5) : Completes (.flashReadDone f.block r) s fun u =>
    u.tier.fmap.find f.block = some .lost ∧ u.pool.fills = [] := by
  refine completes_of_pumped (flashReadRun f.block r) rfl hh ?_
  have hlc : l.car.val = l.carrier := Nat.mod_eq_of_lt hcar
  have hlad : ladder l.car l.sb r s = readNoted l.car l.sb 1 s := by
    unfold ladder
    rw [h5, readCount_below (by rw [hlc]; exact hlim)]
    rfl
  rw [flashReadRun_eq hfl hway hg hmap hrw, if_neg (by rw [h5]; split <;> simp), hlad]
  have hpool : OffFill State.pool := by constructor; constructor; all_goals intros; rfl
  have hres : OffFill fun s : State => (indices 16).all fun k => !s.resizing k && !s.emptying k := by constructor; constructor; all_goals intros; rfl
  have hlost : ∀ {α : Type} (q : State → α), OffTier q → q (blockLost f.slice f.block f.region l.carrier g.tenant (readNoted l.car l.sb 1 s)) = q s := fun q hq =>
    (hq.logEv _ _).trans ((hq.count _ _ _ _).trans ((hq.logAppend _ _).trans ((hq.tier _ _).trans (hq.offStripes.readNoted _ _ _ s))))
  have hfind : (blockLost f.slice f.block f.region l.carrier g.tenant (readNoted l.car l.sb 1 s)).tier.fmap.find f.block = some .lost := by
    unfold blockLost
    rw [offRelease_fmap.logEv, offRelease_fmap.count, offRelease_fmap.logAppend]
    exact Sparse.find_ins_self _ _ _
  generalize blockLost f.slice f.block f.region l.carrier g.tenant (readNoted l.car l.sb 1 s) = w at *
  have hv : ∀ {α : Type} (q : State → α), OffFill q → q (install f.slice f.set_ f.way f.block f.region g.tenant w) = q s :=
    fun q hq => (hq.install _ _ _ _ _ _ _).trans (hlost q hq.toOffTier)
  obtain ⟨hrun, hfills⟩ := fillEnds ht hx hpd hch hfl (hv _ hpool) (hv _ hres) 64 fun x => decide (x.slice = f.slice)
  rw [hrun]
  refine ⟨(congrArg (fun m : Sparse MapEnt => m.find f.block) ?_).trans hfind, hfills⟩
  exact install_rest (fun s : State => s.tier.fmap) (fun _ _ => rfl) (fun _ _ => rfl) (fun _ _ _ => rfl) (fun _ _ => rfl) (fun _ _ => rfl) _ _ _ _ _ _ _

end

end

end Sys2Proof.Machine
end

section

open Sys2Proof Sys2Proof.Machine

/-- Settles O18: each report of the flash tier by what it finds; a superblock that is relocated while something valid stands in it is not released, so the
map, the other superblocks and the carriers stay as they are. -/
theorem flashWorkCompletes : Obligations.FlashWorkCompletes := by
  intro s q t c i hh
  refine ⟨?_, fun p hst hp hc => journalGroup_completes hh hst hp hc, ?_, fun hst hidle => journalSpace_completes hh hst hidle,
    fun d hd => denseStripeTimeout_completes hh hd, ?_, fun hg => checkpointInterval_completes hh hg,
    fun k r hst hk hw hd => checkpointVerified_completes hh hst hk hw hd, ?_, fun pass h3 hc he hr => flashErase_completes hh c i pass h3 hc he hr, ?_, ?_,
    fun hst hidle => remirror_completes hh hst hidle⟩
  · intro f g l r ht hx hpd hch hfl hway hg hmap hcar hrw hlim
    exact ⟨fun p cells bad newer hp hpb hpr hpt himg h1 => flashRead_fills hh ht hx hpd hch hfl hway hg hmap hcar hrw hlim hp hpb hpr hpt himg h1,
      fun h5 => flashRead_lost hh ht hx hpd hch hfl hway hg hmap hcar hrw hlim h5⟩
  · intro p hf hone haw hpass hre hidle
    refine ⟨fun hst => journalProgram_passed hh hf hone haw hre hidle hst,
      fun d hst hd => journalProgram_fails hh hf hone haw hre hidle hpass hst hd, fun x m e ht hx hfl hpd hch hwho hans hwait hjw hcl hok => ⟨?_, ?_⟩⟩
    · exact fun hlast => journalProgram_answers hh hf hone haw hre hidle ht hx hfl hpd hch hwho hans hwait hjw hcl hok hlast
    · exact fun d hd hdc => journalProgram_waits hh hf haw hre hidle ht hx hfl hpd hch hwait hjw hd hdc
  · intro d pg prog hard worst hst hd
    exact ⟨fun hpg hwhy hlive hroom hby hok => denseVerify_applies hh hst hd hpg hwhy hlive hroom hby hok,
      fun k hk hfail => denseVerify_redoes hh hst hd hk hfail⟩
  · intro hst hall hpick hv h0 hg h3 h4
    exact ⟨fun hlow => gcStart_collects hh hst hall hpick hv h0 hg h3 h4 hlow, fun hhigh => gcStart_ignored hh hhigh⟩
  · intro hst hall hscrub hc
    exact ⟨fun hsp hcold hv => wearLevel_relocates hh hst hall hscrub hc hsp hcold hv, fun hsp => wearLevel_even hh hsp⟩
  · exact fun r hst hall hu hc hv hr => retentionScan_relocates hh hst hall hc hu hv hr

end

section
/-! PROOFS. An evacuation whose write-backs fail the channel (R95, R101). -/

namespace Sys2Proof.Machine

/-- A plain region of one member, this device as it stands after reset, from block 0 on. -/
def failingRegion : Region :=
  { st := 1, desc := zeros 4 ++ [1] ++ zeros 11 ++ toLe 8 (2 ^ 30) ++ zeros 40 ++ [63, 0] ++ zeros 14, cgen := 0, shadow := 0, shadowLen := 0,
    gen := GenSt.init, genDur := GenSt.init, matEpoch := 0, reply := none }

/-- Reset, with channel 0 ONLINE, seven uncorrectable errors of the last second on its list, and a dirty block of the region in way 0, whose first line
reads as an eighth; the flash tier is there to take the block. -/
def failingEvacuation : State :=
  { State.reset with
    rgn := { State.reset.rgn with tab := [(1, failingRegion)] }
    chans := State.reset.chans.set 0 { ChanSt.init with st := 2, ueAt := List.replicate 7 0 }
    tags := [(tagKey 0 0, ⟨true, true, false, false, 0, 0⟩ :: List.replicate 7 ⟨false, false, false, false, 0, 0⟩)]
    upsets := [(upsetKey 0 0, [1] ++ zeros 11 ++ [2] ++ zeros 163)]
    tier := { State.reset.tier with geo := [1], cars := Vector.replicate 8 { CarSt.init with st := 5 } } }

theorem failingEvacuation_ready : failingEvacuation.su.held = false ∧ failingEvacuation.isBusy .CH_CMD_RESULT 0 = false ∧
    (failingEvacuation.chan 0).st = 2 ∧ failingEvacuation.tierCode = 0 ∧ failingEvacuation.hasEntries 0 = false ∧ failingEvacuation.resizing 0 = false := by
  decide +kernel

theorem failingEvacuation_still : failingEvacuation.StillBut 0 := by
  unfold State.StillBut
  decide +kernel

/-- The block's first line fails when it is read for its write-back, and with it the channel. -/
theorem failingEvacuation_fails : ((flushDirty 0 ((failingEvacuation.busy .CH_CMD_RESULT 0).updChan 0 fun k => { k with st := 3, force := true })).chan 0).st = 5 := by
  decide +kernel

end Sys2Proof.Machine
end

section
open Sys2Proof Sys2Proof.Machine

/-- Refutes O10: the write-backs with which an evacuation begins read their lines from the channel, and the eighth uncorrectable error of a second sets it
FAILED (R95), so it need not be EVACUATING when the command has begun. -/
theorem not_channelsRunTheirCourse : ¬ Obligations.ChannelsRunTheirCourse := by
  intro h
  obtain ⟨hheld, hbusy, hst, htier, hent, hres⟩ := failingEvacuation_ready
  obtain ⟨-, hevac, -⟩ := h failingEvacuation 0 hheld
  obtain ⟨-, -, hbegin, -⟩ := hevac true hbusy
  obtain ⟨u, ⟨hu, hu3, -⟩, -⟩ := hbegin hst (Or.inl rfl) (by rw [htier]; decide) (by rw [htier]; decide) failingEvacuation_still hent hres
  have hfail := failingEvacuation_fails
  exact absurd (hu3.symm.trans ((congrArg (fun s : State => (s.chan 0).st) hu).trans hfail)) (by decide)

end

section
/-! PROOFS. What serving a request wears off: counters, idle ranks, the caches of tags and of the directory, and the ages and marks of tags
(R80, R81, R84, R89, R94, R152). With no upset symbol, a block that stands in DRAM is found there and its lines read as they are. -/

namespace Sys2Proof.Machine

variable {s t u : State}

/-- `t` is `s` but for counters, power-down of ranks, the caches of tags and of the directory, and the ages and marks of tags. -/
structure Worn (t s : State) : Prop where
  rest : ∃ r c k a g d, t = { s with regs := r, cnt64 := c, chans := k, tagc := a, tags := g, pool := { s.pool with dirc := d } }
  chan : ∀ c, ∃ pd, t.chan c = { s.chan c with pd := pd }
  ways : ∀ sl i b, wayOf (t.tagSet sl i) b = wayOf (s.tagSet sl i) b

namespace Worn

@[refl] theorem refl (s : State) : Worn s s := ⟨⟨_, _, _, _, _, _, rfl⟩, fun _ => ⟨_, rfl⟩, fun _ _ _ => rfl⟩

theorem trans (h : Worn u t) (h' : Worn t s) : Worn u s := by
  obtain ⟨⟨r, c, k, a, g, d, hr⟩, hc, hw⟩ := h
  obtain ⟨⟨r', c', k', a', g', d', hr'⟩, hc', hw'⟩ := h'
  refine ⟨⟨r, c, k, a, g, d, hr.trans (by rw [hr'])⟩, fun i => ?_, fun sl i b => (hw sl i b).trans (hw' sl i b)⟩
  obtain ⟨p, hp⟩ := hc i
  obtain ⟨p', hp'⟩ := hc' i
  exact ⟨p, by rw [hp, hp']⟩

/-- What no wear touches is kept. -/
theorem keeps {α : Type} {p : State → α} (h : Worn t s)
    (hp : ∀ s r c k a g d, p { s with regs := r, cnt64 := c, chans := k, tagc := a, tags := g, pool := { s.pool with dirc := d } } = p s) : p t = p s := by
  obtain ⟨r, c, k, a, g, d, rfl⟩ := h.rest
  exact hp s r c k a g d

theorem mem (h : Worn t s) : t.mem = s.mem := h.keeps fun _ _ _ _ _ _ _ => rfl
theorem poison (h : Worn t s) : t.poison = s.poison := h.keeps fun _ _ _ _ _ _ _ => rfl
theorem upsets (h : Worn t s) : t.upsets = s.upsets := h.keeps fun _ _ _ _ _ _ _ => rfl
theorem trks (h : Worn t s) : t.pool.trks = s.pool.trks := h.keeps (p := fun s => s.pool.trks) fun _ _ _ _ _ _ _ => rfl
theorem dir (h : Worn t s) : t.pool.dir = s.pool.dir := h.keeps (p := fun s => s.pool.dir) fun _ _ _ _ _ _ _ => rfl
theorem rgn (h : Worn t s) : t.rgn = s.rgn := h.keeps fun _ _ _ _ _ _ _ => rfl
theorem tier (h : Worn t s) : t.tier = s.tier := h.keeps fun _ _ _ _ _ _ _ => rfl
theorem trk (h : Worn t s) (i : Nat) : t.trk i = s.trk i := h.keeps (p := fun s => s.trk i) fun _ _ _ _ _ _ _ => rfl
theorem inBypass (h : Worn t s) (sl b : Nat) : t.inBypass sl b = s.inBypass sl b := h.keeps (p := fun s => s.inBypass sl b) fun _ _ _ _ _ _ _ => rfl
theorem pinned (h : Worn t s) (sl b : Nat) : t.pinned sl b = s.pinned sl b := h.keeps (p := fun s => s.pinned sl b) fun _ _ _ _ _ _ _ => rfl
theorem sliceList (h : Worn t s) (x : TenantId) : t.sliceList x = s.sliceList x := h.keeps (p := fun s => s.sliceList x) fun _ _ _ _ _ _ _ => rfl

theorem chanSt (h : Worn t s) (sl : Nat) : t.chanSt sl = s.chanSt sl := by
  obtain ⟨p, hp⟩ := h.chan (chanOf sl)
  unfold State.chanSt
  rw [hp]

theorem setIndex (h : Worn t s) (sl n b : Nat) : t.setIndex sl n b = s.setIndex sl n b := by
  obtain ⟨p, hp⟩ := h.chan (chanOf sl)
  unfold State.setIndex
  rw [hp]

theorem inPlace (h : Worn t s) (x : TenantId) (sl b : Nat) : t.InPlace x sl b ↔ s.InPlace x sl b := by
  unfold State.InPlace
  rw [h.chanSt, h.inBypass, h.pinned, h.setIndex, h.sliceList, h.ways]

/-- The sizes of caches and directories, and what stands beside the pool, are not worn. -/
theorem resizing (h : Worn t s) (c : ChanId) : t.resizing c = s.resizing c := by
  obtain ⟨p, hp⟩ := h.chan c
  have hx : t.exts c = s.exts c := h.keeps (p := fun s => s.exts c) fun _ _ _ _ _ _ _ => rfl
  unfold State.resizing State.setsOf State.cacheBase State.pinBase State.pinGran ChanSt.cap ChanSt.tagGran ChanSt.cap
  rw [hp, hx]

theorem emptying (h : Worn t s) (c : ChanId) : t.emptying c = s.emptying c := by
  obtain ⟨p, hp⟩ := h.chan c
  unfold State.emptying
  rw [hp]

theorem setMem (h : Worn t s) (m : Memory) : Worn { t with mem := m } { s with mem := m } := by
  obtain ⟨⟨r, c, k, a, g, d, rfl⟩, hc, hw⟩ := h
  exact ⟨⟨r, c, k, a, g, d, rfl⟩, hc, hw⟩

theorem setPoison (h : Worn t s) (p : List Nat) : Worn { t with poison := p } { s with poison := p } := by
  obtain ⟨⟨r, c, k, a, g, d, rfl⟩, hc, hw⟩ := h
  exact ⟨⟨r, c, k, a, g, d, rfl⟩, hc, hw⟩

end Worn

/-! ### What wears -/

theorem count_worn (r : Reg) (x n : Nat) (s : State) : Worn (s.count r x n) s := by
  unfold State.count
  split
  · split <;> exact ⟨⟨_, _, _, _, _, _, rfl⟩, fun _ => ⟨_, rfl⟩, fun _ _ _ => rfl⟩
  · rfl

theorem wakeRank_worn (sl line : Nat) (s : State) : Worn (wakeRank sl line s) s := by
  unfold wakeRank
  simp only
  split
  · refine ⟨⟨_, _, _, _, _, _, rfl⟩, fun c => ?_, fun _ _ _ => rfl⟩
    by_cases hc : chanOf sl = c
    · exact ⟨_, by rw [← hc, updChan_chan_self]⟩
    · exact ⟨(s.chan c).pd, updChan_chan_ne (s := s) _ hc⟩
  · rfl

theorem tagcUse_worn (sl i : Nat) (d : Bool) (s : State) : Worn (tagcUse sl i d s) s := by
  have hput : ∀ (t : State) (x : Sparse (List TcWay)), Worn { t with tagc := x } t := fun t x => ⟨⟨_, _, _, _, _, _, rfl⟩, fun _ => ⟨_, rfl⟩, fun _ _ _ => rfl⟩
  unfold tagcUse
  extract_lets k l hit s1 w l2 s2
  have h1 : Worn s1 s := by
    unfold s1
    split <;> exact count_worn _ _ _ s
  exact (hput _ _).trans ((count_worn _ _ _ s1).trans h1)

/-- A set is written whose valid ways hold the blocks they held. -/
theorem setTags_worn {sl i : Nat} {l : List Tag} (h : ∀ b, wayOf l b = wayOf (s.tagSet sl i) b) : Worn (s.setTags sl i l) s := by
  refine ⟨⟨_, _, _, _, _, _, rfl⟩, fun _ => ⟨_, rfl⟩, fun x j b => ?_⟩
  unfold State.setTags State.tagSet
  by_cases hk : tagKey x j = tagKey sl i
  · rw [hk, Sparse.get_put_self, h]
    rfl
  · rw [Sparse.get_put_ne _ _ _ _ hk]

/-- A set whose ways are changed one by one, each keeping its block, holds the blocks it held. -/
theorem wayOf_zipRange (l : List Tag) (f : Nat × Tag → Tag) (hf : ∀ x, (f x).v = x.2.v ∧ (f x).block = x.2.block) (b : Nat) :
    wayOf (((List.range l.length).zip l).map f) b = wayOf l b := by
  have hmap : l = ((List.range l.length).zip l).map Prod.snd := (List.map_snd_zip (by simp)).symm
  unfold wayOf
  conv_rhs => rw [hmap]
  rw [List.findIdx?_map, List.findIdx?_map]
  congr 1
  funext x
  simp [hf x]

theorem wayOf_touchWay (l : List Tag) (w b : Nat) : wayOf (touchWay l w) b = wayOf l b := by
  refine wayOf_zipRange l _ (fun x => ?_) b
  split
  · exact ⟨rfl, rfl⟩
  · split <;> exact ⟨rfl, rfl⟩

theorem wayOf_updWay (l : List Tag) (w : Nat) (f : Tag → Tag) (hf : ∀ x, (f x).v = x.v ∧ (f x).block = x.block) (b : Nat) :
    wayOf (updWay l w f) b = wayOf l b := by
  refine wayOf_zipRange l _ (fun x => ?_) b
  split
  · exact hf x.2
  · exact ⟨rfl, rfl⟩

theorem markDirty_worn (sl : Nat) (x : TenantId) (b : Nat) (s : State) : Worn (markDirty sl x b s) s := by
  unfold markDirty
  extract_lets st l
  split
  · split
    · rfl
    · refine (tagcUse_worn _ _ _ _).trans (setTags_worn fun c => wayOf_updWay _ _ _ (fun y => ?_) c)
      split <;> exact ⟨rfl, rfl⟩
  · rfl

theorem dirUse_worn (sl : Nat) (x : TenantId) (line : Nat) (s : State) : Worn (dirUse sl x line s) s := by
  have hput : ∀ (t : State) (y : Sparse (List Nat)), Worn { t with pool := { t.pool with dirc := y } } t :=
    fun t y => ⟨⟨_, _, _, _, _, _, rfl⟩, fun _ => ⟨_, rfl⟩, fun _ _ _ => rfl⟩
  unfold dirUse
  extract_lets k l hit s1 l2 s2
  have h1 : Worn s1 s := count_worn _ _ _ s
  clear_value s1
  have h2 : Worn s2 s1 := by
    unfold s2
    split
    · rfl
    · exact (count_worn _ _ _ _).trans (count_worn _ _ _ s1)
  exact (hput _ _).trans (h2.trans h1)

/-! ### Lines without upset symbols -/

theorem decodeErr_clean : decodeErr (zeros 176) = .good := by decide +kernel
theorem decodeErr_marker : decodeErr (xorBytes (zeros 176) markerErr) = .poisoned := by decide +kernel

theorem cleanLine_of_none (hu : s.upsets = []) (c line : Nat) : cleanLine c line s = s := by
  unfold cleanLine
  rw [hu]
  exact (by rw [← hu] : ({ s with upsets := [] } : State) = { s with upsets := s.upsets })

theorem lineErr_of_none (hu : s.upsets = []) (c line : Nat) (p : Bool) :
    s.lineErr c line p = if p then xorBytes (zeros 176) markerErr else zeros 176 := by
  unfold State.lineErr
  rw [hu]
  rfl

/-- A line reads POISON just where it holds the marker. -/
theorem readLine_of_none (hu : s.upsets = []) (c : ChanId) (line dl : Nat) (rasp : Bool) :
    readLine c line dl rasp s = (s.poison.contains dl, s.count .DDR_RD_BYTES c.val 128) := by
  have hw := count_worn .DDR_RD_BYTES c.val 128 s
  unfold readLine
  simp only
  rw [lineErr_of_none (hw.upsets.trans hu), hw.poison]
  cases s.poison.contains dl
  · simp only [Bool.false_eq_true, if_false, decodeErr_clean]
  · simp only [if_true, decodeErr_marker]

theorem loadLine_of_none (hu : s.upsets = []) {sl : Nat} (hc : s.chanSt sl = 2) (x : TenantId) (dl : Nat) :
    ∃ t, loadLine sl x dl s = (s.poison.contains dl, t) ∧ Worn t s := by
  have hw := wakeRank_worn sl (s.chLine sl x dl) s
  unfold loadLine
  rw [if_pos (.inl hc), readLine_of_none (hw.upsets.trans hu), hw.poison]
  exact ⟨_, rfl, (count_worn _ _ _ _).trans hw⟩

theorem readTagLine_of_none (hu : s.upsets = []) (c : ChanId) (i : Nat) (rasp : Bool) : readTagLine c i rasp s = s.count .DDR_RD_BYTES c.val 128 := by
  unfold readTagLine
  simp only
  rw [lineErr_of_none hu, if_neg (by simp), decodeErr_clean]

/-- Bytes that are stored change memory, and a whole line takes the marker away. -/
theorem storeBytes_worn (hu : s.upsets = []) (sl : Nat) (x : TenantId) (dpa : Nat) (b : Bytes) :
    Worn (storeBytes sl x dpa b s) { s with mem := Memory.writeN s.mem dpa b, poison := if b.length = 128 then delUp (dpa / 128) s.poison else s.poison } := by
  unfold storeBytes
  extract_lets dl s1 s2
  have h1 : Worn s1 s := by
    unfold s1
    rw [cleanLine_of_none hu]
    exact (count_worn _ _ _ _).trans (wakeRank_worn _ _ s)
  clear_value s1
  have h2 : Worn s2 { s with mem := Memory.writeN s.mem dpa b } := by
    refine (markDirty_worn _ _ _ _).trans ?_
    rw [h1.mem]
    exact h1.setMem _
  split
  · rw [h2.poison]
    exact h2.setPoison _
  · exact h2

/-! ### Blocks that stand in DRAM -/

theorem ensure_inPlace (hu : s.upsets = []) {sl b : Nat} {g : Region} (h : s.InPlace g.tenant sl b) (n : Nat) :
    ∃ t, ensure sl b n g s = (.ok, t) ∧ Worn t s := by
  obtain ⟨hc, -, hp⟩ := h
  unfold ensure
  simp only [hc]
  rw [if_neg (by decide), if_pos (by decide)]
  by_cases hpin : s.pinned sl b = true
  · exact ⟨s, by rw [if_pos hpin], .refl s⟩
  · rw [if_neg hpin]
    set i := s.setIndex sl (s.sliceList g.tenant).length b
    have hread : ∀ k : Bool, Worn (tagcUse sl i false (if k then s else readTagLine (chanOf sl) i false s)) s := fun k => by
      refine (tagcUse_worn _ _ _ _).trans ?_
      cases k
      · rw [readTagLine_of_none hu]
        exact count_worn _ _ _ s
      · exact .refl s
    generalize (s.tagc.get [] (sl * 2048 + i % 2048)).any (fun w => w.set_ = i) = k
    have hk := hread k
    generalize tagcUse sl i false (if k = true then s else readTagLine (chanOf sl) i false s) = v at hk ⊢
    obtain ⟨w, hw⟩ := Option.isSome_iff_exists.1 (hp.resolve_left hpin)
    rw [hk.ways, hw]
    exact ⟨_, rfl, (setTags_worn fun c => wayOf_touchWay _ _ c).trans hk⟩

theorem ensureAll_inPlace (n : Nat) (g : Region) {sl : Nat} (l : List Nat) : ∀ {s : State}, s.upsets = [] → (∀ b ∈ l, s.InPlace g.tenant sl b) →
    ∃ t, ensureAll sl n g l s = (.ok, t) ∧ Worn t s := by
  induction l with
  | nil => exact fun {s} _ _ => ⟨s, rfl, .refl s⟩
  | cons b r ih =>
    intro s hu h
    obtain ⟨t, ht, hw⟩ := ensure_inPlace hu (h b (by simp)) n
    obtain ⟨v, hv, hw'⟩ := ih (hw.upsets.trans hu) fun c hc => (hw.inPlace _ _ _).2 (h c (by simp [hc]))
    exact ⟨v, by unfold ensureAll; rw [ht]; exact hv, hw'.trans hw⟩

theorem bypassEnd_out {sl b : Nat} (h : s.inBypass sl b = false) (g : Region) (w : Bool) : bypassEnd sl b g w s = s := by
  unfold bypassEnd
  exact if_pos (by simpa [State.inBypass] using h)

end Sys2Proof.Machine
end

section
/-! PROOFS. One request where nothing else waits: its tracker runs, and once it has been answered, or waits, nothing more goes on
(R31 steps 9 to 13, R146, R154). -/

namespace Sys2Proof.Machine

variable {s u v w : State}

/-! ### States in which no tracker can run -/

/-- Nothing waits to go on, trackers apart. -/
def State.Free (s : State) : Prop := ({ s with pool := { s.pool with trks := [] } } : State).Idle

/-- Nothing can go on: nothing waits beside trackers, and no tracker is ready or has an answer that may go. -/
def State.Resting (s : State) : Prop := s.Free ∧ ∀ t ∈ s.pool.trks, t.wait ≠ .ready ∧ s.mayFinish t = false

theorem State.Idle.free (h : s.Idle) : s.Free := by
  obtain ⟨⟨-, hx, hf, hp, hr⟩, hrest⟩ := h
  exact ⟨⟨rfl, hx, hf, hp, hr⟩, hrest⟩

theorem Worn.free {t : State} (h : Worn t s) (hs : s.Free) : t.Free := by
  have hr : ∀ c, t.resizing c = s.resizing c := h.resizing
  have he : ∀ c, t.emptying c = s.emptying c := h.emptying
  obtain ⟨⟨-, hx, hf, hp, hst⟩, hrest⟩ := hs
  have hst' : (indices 16).all (fun c => !s.resizing c && !s.emptying c) = true := hst
  simp only [← hr, ← he] at hst'
  obtain ⟨r, c, k, a, g, d, rfl⟩ := h.rest
  exact ⟨⟨rfl, hx, hf, hp, hst'⟩, hrest⟩

theorem runReady_rests (h : ∀ t ∈ s.pool.trks, t.wait ≠ .ready) (n : Nat) : runReady n s = s := by
  cases n with
  | zero => rfl
  | succ n =>
    have hn : s.pool.trks.find? (fun t => t.wait = .ready) = none := List.find?_eq_none.2 fun t ht => by simpa using h t ht
    unfold runReady
    rw [hn]

theorem finishReady_rests (hp : s.pool.pend = []) (h : ∀ t ∈ s.pool.trks, s.mayFinish t = false) : finishReady s = s := by
  have hn : s.pool.trks.filter s.mayFinish = [] := List.filter_eq_nil_iff.2 fun t ht => by simp [h t ht]
  unfold finishReady
  simp only [hn, List.map_nil, List.foldl_nil, hp, List.filter_nil]
  rw [← hp]

/-- What follows the memory side in a round. -/
def afterMem (s : State) : State :=
  let s := loopBack s
  let s := s.work.cmds.foldl (fun s w => if s.work.cmds.any fun x => x.n = w.n then cmdGo w s else s) s
  let s := s.work.tasks.foldl (fun s t => taskStep t.seq s) s
  let s := s.work.queues.foldl (fun s e => cqStep e.1 (sqStep e.1 s)) s
  let s := s.work.comps.foldl (fun s c =>
    match s.work.comps.find? c.same with
    | some d => compStep d s
    | none => s) s
  jobRelease (txRelease (fenceStep (reportStep (genSteps (sendReports s)))))

theorem round_eq (s : State) : round s = afterMem (memPump 64 s) := by rfl

theorem loopBack_nil (h : s.coord.loop = []) : loopBack s = s := by
  unfold loopBack
  simp only [h, List.foldl_nil]
  exact (by rw [← h] : ({ s with coord := { s.coord with loop := [] } } : State) = { s with coord := { s.coord with loop := s.coord.loop } })

theorem sendReports_none (h : ∀ e ∈ s.rgn.tab, e.2.gen.st ≠ 9) : sendReports s = s :=
  List.foldlRecOn (motive := fun t => t = s) _ _ rfl fun t ht e he => by
    rw [ht]
    exact if_neg fun hc => h e he hc.2.1

theorem genSteps_none (h : ∀ e ∈ s.rgn.tab, e.2.gen.phase = 0) : genSteps s = s :=
  List.foldlRecOn (motive := fun t => t = s) _ _ rfl fun t ht e he => by
    rw [ht]
    exact if_neg fun hc => hc (h e he)

theorem State.Free.afterMem (h : s.Free) : afterMem s = s := by
  obtain ⟨-, hl, hx, hc, ht, hq, hk, hr, hj, hp, hg⟩ := h
  have hg' : ∀ e ∈ s.rgn.tab, e.2.gen.phase = 0 ∧ e.2.gen.st ≠ 9 := fun e he => by
    have he' := List.all_eq_true.1 hg e he
    simpa using he'
  have h1 : sendReports s = s := sendReports_none fun e he => (hg' e he).2
  have h2 : genSteps s = s := genSteps_none fun e he => (hg' e he).1
  have h3 : reportStep s = s := by unfold reportStep; rw [show s.work.report = none from hr]
  have h4 : fenceStep s = s := by unfold fenceStep; simp [show s.pair.role ≠ 6 from hp]
  have h5 : txRelease s = s := by unfold txRelease; split <;> simp [show s.coord.recTx = [] from hx]
  have h6 : jobRelease s = s := by unfold jobRelease; rw [show s.job.head = none from hj]
  unfold Machine.afterMem
  simp only [loopBack_nil (s := s) hl, show s.work.cmds = [] from hc, show s.work.tasks = [] from ht, show s.work.queues = [] from hq,
    show s.work.comps = [] from hk, List.foldl_nil, h1, h2, h3, h4, h5, h6]

/-- The memory side comes to rest in `w`, and stays there. -/
theorem memPump_rests (hm : memDone u = w) (hw : w.Free) (n : Nat) : memPump (n + 1) u = w := by
  obtain ⟨⟨-, hx, -, -, hr⟩, -⟩ := hw
  have hd : (indices 16).any (fun c => w.dirTurn c) = false := by
    refine List.any_eq_false.2 fun c hc => ?_
    have h := List.all_eq_true.1 hr c hc
    have he : w.emptying c = false := by
      simp only [Bool.and_eq_true, Bool.not_eq_true'] at h
      exact h.2
    simp [State.dirTurn, he]
  unfold memPump
  simp only [hm, show w.pool.xwaits = [] from hx, List.find?_nil, hd, Bool.false_eq_true, if_false]

theorem State.Resting.memDone (h : s.Resting) : memDone s = s := by
  obtain ⟨⟨⟨-, -, hf, hp, hr⟩, -⟩, ht⟩ := h
  unfold Machine.memDone
  rw [fixFills_nil (s := s) hf, fixSets_still (s := s) hr]
  unfold settleTrks
  rw [runReady_rests (s := s) fun t h => (ht t h).1, finishReady_rests (s := s) hp fun t h => (ht t h).2]

theorem State.Resting.round (h : s.Resting) : round s = s := by
  rw [round_eq, memPump_rests h.memDone h.1, h.1.afterMem]

theorem pumpN_resting (h : s.Resting) (n : Nat) : pumpN n s = s := by
  cases n with
  | zero => rfl
  | succ n => exact if_pos h.round

/-! ### A state with one tracker -/

/-- The state with this tracker, and no other. -/
def State.withTrk (s : State) (t : Trk) : State := { s with pool := { s.pool with trks := [t] } }

variable {t : Trk}

theorem updTrk_only (ht : s.pool.trks = [t]) (f : Trk → Trk) : s.updTrk t.id f = s.withTrk (f t) := by
  unfold State.updTrk State.withTrk
  simp [ht]

theorem trk_only (ht : s.pool.trks = [t]) : s.trk t.id = some t := by
  unfold State.trk
  simp [ht]

theorem withTrk_trks (s : State) (t : Trk) : (s.withTrk t).pool.trks = [t] := rfl

/-- The tracker runs once, and with it all there is to do is done. -/
theorem pump_serves (ht : t.wait = .ready) (hf : v.Free) (hs : serve t.id (v.withTrk { t with wait := .flush }) = w) (hw : w.Resting) :
    pump (v.withTrk t) = w := by
  have hm : memDone (v.withTrk t) = w := by
    obtain ⟨⟨-, -, hfl, -, hr⟩, -⟩ := hf
    have hfind : (v.withTrk t).pool.trks.find? (fun t => t.wait = .ready) = some t := by simp [withTrk_trks, ht]
    unfold Machine.memDone
    rw [fixFills_nil (s := v.withTrk t) hfl, fixSets_still (s := v.withTrk t) hr]
    unfold settleTrks
    rw [withTrk_trks]
    unfold runReady
    rw [hfind]
    simp only
    unfold State.waitTrk
    rw [updTrk_only (withTrk_trks v t)]
    have hrun : runReady (8 * [t].length + 63) w = w := runReady_rests (fun x hx => (hw.2 x hx).1) _
    have hfin : finishReady w = w := finishReady_rests hw.1.1.2.2.2.1 fun x hx => (hw.2 x hx).2
    exact (congrArg (fun x => finishReady (runReady (8 * [t].length + 63) x)) hs).trans ((congrArg finishReady hrun).trans hfin)
  have hround : round (v.withTrk t) = w := by rw [round_eq, memPump_rests hm hw.1, hw.1.afterMem]
  unfold pump
  show (if round (v.withTrk t) = v.withTrk t then v.withTrk t else pumpN 1023 (round (v.withTrk t))) = w
  rw [hround, pumpN_resting hw]
  split
  · next h => exact h.symm
  · rfl

/-! ### The request's way to its tracker -/

variable {op n m dpa : Nat} {r : ReqMsg} {e : Nat × Bytes} {g : Region}

theorem checkPte_region {k : Seg} {off pte line pt : Nat} {nr fwd slot : Bool} {src : Option TenantId} {ct : TenantId}
    (h : s.checkPte k off pte line op nr fwd src ct slot = .ok n g m dpa pt) : s.region n = some g := by
  unfold State.checkPte at h
  simp only at h
  iterate 4 (split at h; · cases h)
  next x hx =>
    iterate 6 (split at h; · cases h)
    cases h
    exact hx

theorem xlate_region {q pt : Nat} {h : W16} {c : Ctx} {ca len : Nat} {nr fwd slot : Bool} {src : Option TenantId}
    (hx : xlate q h c op ca len nr fwd src slot s = (.ok n g m dpa pt, v)) : v.region n = some g := by
  have hr : v.rgn = s.rgn := (congrArg (fun y : Xl × State => y.2.rgn) hx).symm.trans (offChecks_rgn.xlate q h c op ca len nr fwd src slot s)
  have hback : ∀ {t : State}, t.rgn = s.rgn → t.region n = some g → v.region n = some g := fun ht hg => by
    unfold State.region at hg ⊢
    rwa [hr, ← ht]
  unfold xlate at hx
  split at hx
  · cases hx
  · split at hx
    · cases hx
    · split at hx
      · cases hx
      · simp only at hx
        split at hx
        · exact hback rfl (checkPte_region (congrArg Prod.fst hx))
        · split at hx
          · refine hback ?_ (checkPte_region (congrArg Prod.fst hx))
            exact (offChecks_rgn.tcUse _ _ _).trans (offChecks_rgn.count _ _ _ s)
          · cases hx
          · cases hx

theorem Located.region (hl : Located op r s v e n g m dpa) : v.region n = some g := by
  obtain ⟨-, a, x, q, pt, -, -, -, hv⟩ := hl
  exact xlate_region hv

theorem Located.kept {α : Type} {p : State → α} (hl : Located op r s v e n g m dpa) (hp : OffChecks p) : p v = p s := by
  obtain ⟨-, a, x, q, pt, hin, -, -, hv⟩ := hl
  exact (congrArg (fun y : Xl × State => p y.2) hv).symm.trans ((hp.xlate _ _ _ _ _ _ _ _ _ _ _).trans (hin.kept hp))

theorem offChecks_idle : OffChecks State.Idle := by constructor <;> intro _ _ <;> rfl

/-- Where nothing waits, a request that reaches its line home runs alone. -/
theorem Reaches.arrives (hr : Reaches op r s v e n g m dpa) (hi : s.Idle) :
    ∃ pt, reqArrive op r s = v.withTrk (newTrk (.host e.1) op r n g m dpa pt (slotOf e.2) v) := by
  obtain ⟨hl, hme, hsh, hmt, hw, hs⟩ := hr
  obtain ⟨⟨q, pt, ha⟩, -, ht, -, -⟩ := hl.arrives hme
  have hnil : v.pool.trks = [] := ht.trans hi.1.1
  refine ⟨pt, ?_⟩
  rw [ha, toHome_tracks hsh hmt hw hs, hnil]
  rfl

end Sys2Proof.Machine
end

section
/-! PROOFS. A tracker that runs alone: from its line to its operation, and from the operation to its answer (R31 steps 10 to 13, R120, R154). -/

namespace Sys2Proof.Machine

variable {s u v w k : State} {t : Trk} {g : Region} {op n m dpa sl : Nat} {r : ReqMsg} {e : Nat × Bytes}

/-! ### From the line to the operation -/

theorem withTrk_withTrk (s : State) (t x : Trk) : (s.withTrk t).withTrk x = s.withTrk x := rfl

/-- A tracker that runs alone takes its line, and may begin. -/
theorem serve_begins (hreg : v.region t.region = some g) (hk : g.kind ≠ 3) (hc : t.op = 0x10 → redCheck g t.r.payload = none)
    (hf : g.kind = 1 → v.pool.flushes = []) (hl : t.locked = false) (ha : t.ans = none) (hgate : v.durableGate g t.op = .ok) :
    serve t.id (v.withTrk t) = serveLocked t.id t g (v.withTrk { t with locked := true }) := by
  have hearly : (if t.op = 0x10 then redCheck g t.r.payload else none) = none := by
    split
    · next h => exact hc h
    · rfl
  have hahead : (((v.withTrk t).pool.trks.takeWhile fun x => x.id ≠ t.id).any fun x => x.lk = t.lk && x.wait = .lock) = false := by
    simp [withTrk_trks]
  have hheld : (v.withTrk t).lockHeld t.lk = false := by
    unfold State.lockHeld
    simp [withTrk_trks, hl]
  have hflush : ¬(g.kind = 1 ∧ t.op < 0x40 ∧ ((v.withTrk t).pool.flushes.any fun f => f.slice = t.slice) = true) := fun h => by
    have hnil : (v.withTrk t).pool.flushes = [] := hf h.1
    simp [hnil] at h
  have hg : (if t.dirPh = 0 then (v.withTrk t).durableGate g t.op else .ok) = .ok := by
    split
    · exact hgate
    · rfl
  rw [serve_eq, trk_only (withTrk_trks v t)]
  have hnone : ¬t.ans.isSome = true := by simp [ha]
  simp only [if_neg hnone, show (v.withTrk t).region t.region = some g from hreg, if_neg hk]
  unfold serveLine
  simp only [hearly, Option.isSome_none, Bool.false_eq_true, and_false, if_false, hahead, hheld, or_self, if_neg hflush, hg,
    updTrk_only (withTrk_trks v t), withTrk_withTrk]

/-- A tracker of a line that is not tracked, its blocks in DRAM, comes to its operation. -/
theorem serveLocked_performs (hk : g.kind ≠ 1) (hop : t.op < 0x40) (hu : v.upsets = [])
    (hb : ∀ b ∈ needBlocks g ((v.memberOf g).getD 0) t, v.InPlace g.tenant t.slice b) : ∃ k, Worn k (v.withTrk { t with locked := true }) ∧
      serveLocked t.id t g (v.withTrk { t with locked := true }) = perform t.id t.region g ((v.memberOf g).getD 0) k := by
  obtain ⟨y, hy⟩ : ∃ y : Trk, y = { t with locked := true } := ⟨_, rfl⟩
  rw [← hy]
  obtain ⟨k, hens, hw⟩ := ensureAll_inPlace (s := v.withTrk y) t.region g (needBlocks g ((v.memberOf g).getD 0) t) hu hb
  refine ⟨k, hw, ?_⟩
  have hid : (v.withTrk y).trk t.id = some y := by
    have h := trk_only (withTrk_trks v y)
    rwa [show y.id = t.id by rw [hy]] at h
  have hop' : y.op = t.op := by rw [hy]
  have hdry : ¬(y.op = 0x41 ∨ (y.op = 0x50 ∧ y.data.isNone = true ∧ (!y.poisoned) = true)) := by omega
  unfold serveLocked
  simp only [if_neg hk, hid, Option.getD_some, if_neg hdry, show (v.withTrk y).memberOf g = v.memberOf g from rfl, hens]

/-- The tracker of a request that has been taken: what the request said, and nothing done for it. -/
structure Taken (op : Nat) (r : ReqMsg) (e : Nat × Bytes) (n : Nat) (g : Region) (dpa sl : Nat) (t : Trk) : Prop where
  who : t.who = .host e.1
  op : t.op = op
  r : t.r = r
  region : t.region = n
  dpa : t.dpa = dpa
  slice : t.slice = sl
  tenant : t.tenant = g.tenant
  slot : t.slot = if g.kind = 1 then slotOf e.2 else none
  wait : t.wait = .flush
  snoops : t.snoops = []
  data : t.data = none
  poisoned : t.poisoned = false
  dirPh : t.dirPh = 0
  near : t.near = false
  acks : t.acks = []
  made : t.made = false
  ans : t.ans = none

theorem Taken.lock (h : Taken op r e n g dpa sl t) : Taken op r e n g dpa sl { t with locked := true } := by
  obtain ⟨h1, h2, h3, h4, h5, h6, h7, h8, h9, h10, h11, h12, h13, h14, h15, h16, h17⟩ := h
  exact ⟨h1, h2, h3, h4, h5, h6, h7, h8, h9, h10, h11, h12, h13, h14, h15, h16, h17⟩

/-- Where nothing waits, what a request's tracker comes to in its one run is what the request comes to. -/
theorem Reaches.runs (hr : Reaches op r s v e n g m dpa) (hi : s.Idle) : ∃ t, Taken op r e n g dpa (v.blockHome g m (dpa / 16384)) t ∧ t.locked = false ∧
    ∀ w, serve t.id (v.withTrk t) = w → w.Resting → pump (reqArrive op r s) = w := by
  obtain ⟨pt, ha⟩ := hr.arrives hi
  have hf : v.Free := ((hr.1.kept offChecks_idle).mpr hi).free
  refine ⟨{ newTrk (.host e.1) op r n g m dpa pt (slotOf e.2) v with wait := .flush }, ?_, rfl, fun w hs hw => ?_⟩
  · exact ⟨rfl, rfl, rfl, rfl, rfl, rfl, rfl, rfl, rfl, rfl, rfl, rfl, rfl, rfl, rfl, rfl, rfl⟩
  · rw [ha]
    exact pump_serves (t := newTrk (.host e.1) op r n g m dpa pt (slotOf e.2) v) rfl hf hs hw

theorem answers_of_rest {c : Instr} {f : State → State} (hc : exec c s = pumped f s) (hh : s.su.held = false) {P : State → Prop}
    (hset : ∀ w, P w → P (settle w)) {w : State} (hp : pump (f s) = w) (hw : P w) : Answers c s P :=
  answers_of_live (fun s => pump (f s)) hc hh (hset _ (by rw [hp]; exact hw))

/-- Where nothing waits, a request of a line that is not tracked, its blocks in DRAM, is answered by its operation. -/
theorem Reaches.performs (hr : Reaches op r s v e n g m dpa) (hi : s.Idle) (hh : s.su.held = false) {c : Instr} (hc : exec c s = pumped (reqArrive op r) s)
    (hop : op < 0x40) (hk1 : g.kind ≠ 1) (hk3 : g.kind ≠ 3) (hred : op = 0x10 → redCheck g r.payload = none) (hgate : v.durableGate g op = .ok)
    (hu : v.upsets = [])
    (hb : ∀ t, Taken op r e n g dpa (v.blockHome g m (dpa / 16384)) t →
      ∀ b ∈ needBlocks g ((v.memberOf g).getD 0) t, v.InPlace g.tenant (v.blockHome g m (dpa / 16384)) b)
    {P : State → Prop} (hset : ∀ w, P w → P (settle w))
    (hp : ∀ t k, Taken op r e n g dpa (v.blockHome g m (dpa / 16384)) t → Worn k (v.withTrk t) →
      (perform t.id n g ((v.memberOf g).getD 0) k).Resting ∧ P (perform t.id n g ((v.memberOf g).getD 0) k)) : Answers c s P := by
  obtain ⟨t, ht, hl, hrun⟩ := hr.runs hi
  have hreg : v.region t.region = some g := by
    rw [ht.region]
    exact hr.1.region
  obtain ⟨k, hw, hperf⟩ := serveLocked_performs (t := t) hk1 (by rw [ht.op]; exact hop) hu (by rw [ht.slice]; exact hb t ht)
  have hbegin := serve_begins hreg hk3 (by rw [ht.op, ht.r]; exact hred) (fun h => absurd h hk1) hl ht.ans (by rw [ht.op]; exact hgate)
  rw [hperf, ht.region] at hbegin
  obtain ⟨hrest, hP⟩ := hp _ k ht.lock hw
  exact answers_of_rest hc hh hset (hrun _ hbegin hrest) hP

/-! ### From the operation to the answer -/

theorem journalLines_nothing {l : List Nat} {x : List JRec} (hd : g.durable = false ∨ (l = [] ∧ x = [])) (sl n : Nat) (s : State) :
    journalLines sl n g l x s = ([], s) := by
  unfold journalLines
  rw [if_pos (hd.imp_left fun h => by simp [h])]

/-- The answer has gone, with some load, and its tracker is free. -/
def Gone (w k : State) (x : Msg) : Prop := ∃ l : Nat, w = send { x with load := l } { k with pool := { k.pool with trks := [] } }

section
variable {x : Msg} (h : Gone w k x)
include h

theorem Gone.keeps {α : Type} {p : State → α} (hr : ∀ s y, p { s with regs := y } = p s) (hc : ∀ s y, p { s with cnt64 := y } = p s)
    (hk : ∀ s y, p { s with links := y } = p s) (ho : ∀ s y, p { s with out := y } = p s) (ht : ∀ s y, p { s with pool := { s.pool with trks := y } } = p s) :
    p w = p k := by
  obtain ⟨l, rfl⟩ := h
  exact (send_keeps p hr hc hk ho _ _).trans (ht _ _)

theorem Gone.mem : w.mem = k.mem := h.keeps (fun _ _ => rfl) (fun _ _ => rfl) (fun _ _ => rfl) (fun _ _ => rfl) fun _ _ => rfl

theorem Gone.trks : w.pool.trks = [] := by
  obtain ⟨l, rfl⟩ := h
  rw [send_pool]

theorem Gone.ans : w.Ans x := by
  obtain ⟨l, rfl⟩ := h
  exact ⟨l, send_sent _ _⟩

theorem Gone.resting (hf : k.Free) : w.Resting :=
  ⟨(h.keeps (p := State.Free) (fun _ _ => rfl) (fun _ _ => rfl) (fun _ _ => rfl) (fun _ _ => rfl) fun _ _ => rfl).mpr hf, by simp [h.trks]⟩

end

/-- An operation that is over: its answer goes if every page it waits for stands, else it stays with its tracker. -/
theorem complete_ends {d : Done} {n : Nat} {pages : List (Nat × Nat)} (hj : journalLines sl n g d.lines d.extra s = (pages, v)) (htr : v.pool.trks = [t])
    (hw : t.wait ≠ .ptab) {i : Nat} (hwho : t.who = .host i) :
    ((pages.all fun p => v.pageOk p.1 p.2) = true ∧ Gone (complete t.id sl n g d s) v d.ans) ∨ ((pages.all fun p => v.pageOk p.1 p.2) = false ∧
      complete t.id sl n g d s = v.withTrk { t with ans := some d.ans, jwait := pages, wait := .journal }) := by
  unfold complete
  rw [hj]
  simp only [updTrk_only htr, if_neg hw]
  obtain ⟨y, hy⟩ : ∃ y : Trk, y = { t with ans := some d.ans, jwait := pages, wait := .journal } := ⟨_, rfl⟩
  have hid : y.id = t.id := by rw [hy]
  have hans : y.ans = some d.ans := by rw [hy]
  have hwho' : y.who = .host i := by rw [hy]; exact hwho
  have htrk : (v.withTrk y).trk t.id = some y := hid ▸ trk_only (withTrk_trks v y)
  have hmay : (v.withTrk y).mayFinish y = pages.all fun p => v.pageOk p.1 p.2 := by
    rw [hy]
    simp only [State.mayFinish, Option.isSome_some, Bool.true_and]
    rfl
  rw [← hy, htrk]
  simp only [hmay]
  cases pages.all fun p => v.pageOk p.1 p.2 with
  | false => exact .inr ⟨rfl, rfl⟩
  | true =>
    refine .inl ⟨rfl, ?_⟩
    simp only [if_true]
    unfold finishTrk
    rw [htrk]
    simp only [hans, hwho', withTrk_trks, List.filter_cons, hid, ne_eq, not_true_eq_false, decide_false, Bool.false_eq_true, if_false, List.filter_nil]
    exact ⟨_, rfl⟩

/-- An answer that waits for nothing goes at once, and its tracker is free. -/
theorem complete_goes {d : Done} (hd : g.durable = false ∨ (d.lines = [] ∧ d.extra = [])) (htr : s.pool.trks = [t]) (hw : t.wait ≠ .ptab) {i : Nat}
    (hwho : t.who = .host i) (sl n : Nat) : Gone (complete t.id sl n g d s) s d.ans :=
  (complete_ends (journalLines_nothing hd sl n s) htr hw hwho).elim And.right fun h => by simp at h

end Sys2Proof.Machine
end

section
/-! PROOFS. The answer of a durable write: what its records do to the journal, and that it goes, or stays with its tracker until its page stands
(R118, R120, R123). -/

namespace Sys2Proof.Machine

variable {s u v w k : State} {t : Trk} {g : Region} {op n m dpa sl : Nat} {r : ReqMsg} {e : Nat × Bytes}

/-! ### The journal's length -/

/-- The pages of a table of streams. -/
def pagesIn (l : Sparse Stream) : Nat := (l.map fun e => e.2.pages.length).sum

theorem pagesIn_cons (y : Nat × Stream) (r : Sparse Stream) : pagesIn (y :: r) = y.2.pages.length + pagesIn r := by simp [pagesIn]

theorem get_cons_ne {j i : Nat} (h : j ≠ i) (z : Stream) (r : Sparse Stream) : Sparse.get (⟨0, []⟩ : Stream) ((j, z) :: r) i = Sparse.get ⟨0, []⟩ r i := by
  unfold Sparse.get
  rw [Sparse.find_cons, if_neg h]

theorem get_cons_self (i : Nat) (z : Stream) (r : Sparse Stream) : Sparse.get (⟨0, []⟩ : Stream) ((i, z) :: r) i = z := by
  unfold Sparse.get
  rw [Sparse.find_cons, if_pos rfl]
  rfl

/-- A stream taken out takes its pages with it. -/
theorem pagesIn_without (l : Sparse Stream) (i : Nat) : pagesIn (l.filter fun x => x.1 ≠ i) + (l.get ⟨0, []⟩ i).pages.length ≤ pagesIn l := by
  induction l with
  | nil => simp [pagesIn]
  | cons y r ih =>
    obtain ⟨j, z⟩ := y
    rw [pagesIn_cons]
    by_cases hji : j = i
    · rw [hji, List.filter_cons_of_neg (by simp), get_cons_self]
      simp only
      omega
    · rw [List.filter_cons_of_pos (by simpa using hji), pagesIn_cons, get_cons_ne hji]
      simp only
      omega

/-- A stream put in its place adds at most what it has more than the one found there. -/
theorem pagesIn_ins (l : Sparse Stream) (i : Nat) (x : Stream) : pagesIn (l.ins i x) + (l.get ⟨0, []⟩ i).pages.length ≤ pagesIn l + x.pages.length := by
  induction l with
  | nil => simp [Sparse.ins, Sparse.place, pagesIn]
  | cons y r ih =>
    obtain ⟨j, z⟩ := y
    have hf := pagesIn_without r i
    unfold Sparse.ins at ih ⊢
    unfold Sparse.place
    rw [pagesIn_cons]
    by_cases hlt : j < i
    · rw [if_pos hlt, pagesIn_cons, get_cons_ne (by omega)]
      simp only
      omega
    · rw [if_neg hlt]
      simp only
      by_cases hji : j = i
      · rw [if_pos hji, pagesIn_cons, hji, get_cons_self]
        simp only
        omega
      · rw [if_neg hji, pagesIn_cons, pagesIn_cons, get_cons_ne hji]
        simp only
        omega

theorem journalBytes_eq (s : State) : s.journalBytes = pagesIn s.tier.streams * 16384 := rfl

theorem setStream_pages (i : Nat) (x : Stream) (s : State) :
    pagesIn (s.setStream i x).tier.streams + (s.stream i).pages.length ≤ pagesIn s.tier.streams + x.pages.length := pagesIn_ins _ _ _

theorem offStripes_streams : OffStripes fun s => s.tier.streams := ⟨fun s r u n _ _ => congrArg TierSt.streams (count_tier s r u n), fun _ _ _ _ _ => rfl⟩

/-- The page with which another stands last in its stead. -/
theorem length_replaceLast {α : Type} {l : List α} {p : α} (h : l.getLast? = some p) (y : α) : (l.dropLast ++ [y]).length = l.length := by
  have hne : l ≠ [] := by
    rintro rfl
    simp at h
  have := List.length_pos_of_ne_nil hne
  simp
  omega

theorem closeJPage_pages (i : Nat) (s : State) : pagesIn (closeJPage i s).tier.streams ≤ pagesIn s.tier.streams := by
  have htier : ∀ (l : List CarrierId) (sb : Nat) (v : State),
      (l.foldl (fun s c => flCount .FL_PROG_BYTES c sb 18432 (flCount .PAGE_PROG_CNT c sb 1 s)) v).tier = v.tier := fun l sb v =>
    foldl_keeps (fun s : State => s.tier) _ (fun s c => (count_tier _ _ _ _).trans (count_tier _ _ _ _)) l v
  unfold closeJPage
  dsimp only
  split
  · next p hp =>
    split
    · rfl
    · rw [htier]
      have hpage := offStripes_streams.takePage 2 (tenOf (i % 16)) s.geo.slcPages s
      generalize takePage 2 (tenOf (i % 16)) s.geo.slcPages s = x at hpage ⊢
      have hset := setStream_pages i { s.stream i with pages := (s.stream i).pages.dropLast ++ [{ p with
        closed := true, sb := (x.1.getD (0, 0)).1, page := (x.1.getD (0, 0)).2, await := ((x.2.mirrorOrder (i / 16)).take 2).map Fin.val }] } x.2
      rw [stream_of_tier hpage, show x.2.tier.streams = s.tier.streams from hpage] at hset
      have hlen := length_replaceLast hp { p with
        closed := true, sb := (x.1.getD (0, 0)).1, page := (x.1.getD (0, 0)).2, await := ((x.2.mirrorOrder (i / 16)).take 2).map Fin.val }
      simp only at hset
      omega
  · rfl

/-- Records that join the journal take at most one page more. -/
theorem journalAdd_pages (q : Nat) (x : TenantId) (rs : List JRec) (s : State) :
    pagesIn (journalAdd q x rs s).2.tier.streams ≤ pagesIn s.tier.streams + 1 := by
  have hclose : ∀ (c : Prop) [Decidable c] i s, pagesIn (if c then closeJPage i s else s).tier.streams ≤ pagesIn s.tier.streams := fun c _ i s => by
    split
    · exact closeJPage_pages i s
    · exact le_refl _
  unfold journalAdd
  extract_lets i s1 y
  have h1 : pagesIn s1.tier.streams ≤ pagesIn s.tier.streams := hclose _ _ s
  have hy : y.pages.length = (s1.stream i).pages.length := rfl
  clear_value s1 y
  have hpair : ∀ (z : Stream × JPage) z', z.1.pages.length ≤ y.pages.length + 1 → z.1.pages.getLast? = some z.2 →
      pagesIn (s1.setStream i { z.1 with pages := z.1.pages.dropLast ++ [z'] }).tier.streams ≤ pagesIn s.tier.streams + 1 := fun z z' hz hl => by
    have hset : pagesIn (s1.setStream i { z.1 with pages := z.1.pages.dropLast ++ [z'] }).tier.streams + (s1.stream i).pages.length ≤
      pagesIn s1.tier.streams + (z.1.pages.dropLast ++ [z']).length := setStream_pages _ _ _
    have hlen := length_replaceLast hl z'
    omega
  split
  next z p hz =>
    have hopen : z.pages.length ≤ y.pages.length + 1 ∧ z.pages.getLast? = some p := by
      revert hz
      split
      · next q hq =>
        split <;> intro hz <;> cases hz
        · simp
        · exact ⟨Nat.le_succ _, hq⟩
      · intro hz
        cases hz
        simp
    exact le_trans (hclose _ _ _) (hpair (z, p) _ hopen.1 hopen.2)

/-! ### What records leave alone -/

section
variable {α : Type} {p : State → α} (ht : ∀ s x, p { s with tier := x } = p s) (hr : ∀ s x, p { s with regs := x } = p s)
  (hc : ∀ s x, p { s with cnt64 := x } = p s)
include ht hr hc

theorem journalAdd_keeps (q : Nat) (x : TenantId) (rs : List JRec) (s : State) : p (journalAdd q x rs s).2 = p s := by
  have hcount : ∀ (r : Reg) s u n, p (s.count r u n) = p s := fun r s u n => count_keeps p hr hc s r u n
  have hclose : ∀ (c : Prop) [Decidable c] i s, p (if c then closeJPage i s else s) = p s := fun c _ i s =>
    ite_keeps _ (closeJPage_keeps p ht (fun s u n _ => hcount _ s u n) (fun s u n _ => hcount _ s u n) i s) rfl
  unfold journalAdd
  extract_lets i s1 y
  have h1 : p s1 = p s := hclose _ _ s
  clear_value s1 y
  split
  exact (hclose _ _ _).trans ((ht _ _).trans h1)

/-- Records of a durable region wait for one page of its journal; short of the pressure mark nothing else goes on. -/
theorem journalLines_durable (hd : g.durable = true) {l : List Nat} (hl : l ≠ []) (hb : s.journalBytes + 2 ^ 20 < 12 * 2 ^ 30) (sl n : Nat) (x : List JRec) :
    ∃ pg, (journalLines sl n g l x s).1 = [pg] ∧ p (journalLines sl n g l x s).2 = p s := by
  have hpages := journalAdd_pages (sl / 4) g.tenant (l.map (fun l => s.lineRec l n) ++ x) s
  have hkeep := journalAdd_keeps ht hr hc (sl / 4) g.tenant (l.map (fun l => s.lineRec l n) ++ x) s
  unfold journalLines
  rw [if_neg (by simp [hd, hl])]
  generalize journalAdd (sl / 4) g.tenant (l.map (fun l => s.lineRec l n) ++ x) s = y at hpages hkeep ⊢
  obtain ⟨pg, v⟩ := y
  have hlow : v.journalBytes < 12 * 2 ^ 30 := by
    have h1 := journalBytes_eq v
    have h2 := journalBytes_eq s
    simp only at hpages
    omega
  have hpress : pressure pg.1 v = v := by
    unfold pressure
    exact if_pos hlow
  exact ⟨pg, rfl, (congrArg p hpress).trans hkeep⟩

end

/-! ### The answer of a durable write -/

/-- The answer stays with its tracker, which waits for its journal page. -/
structure Stays (w k : State) (x : Msg) : Prop where
  mem : w.mem = k.mem
  poison : w.poison = k.poison
  resting : k.Free → w.Resting
  trk : ∃ y ∈ w.pool.trks, y.ans = some x ∧ (y.jwait.all fun p => w.pageOk p.1 p.2) = false

/-- An answer with records of lines goes at once, or stays until its page stands. -/
theorem complete_durable {d : Done} (hd : g.durable = true) (hl : d.lines ≠ []) (hb : s.journalBytes + 2 ^ 20 < 12 * 2 ^ 30) (htr : s.pool.trks = [t])
    (hw : t.wait ≠ .ptab) {i : Nat} (hwho : t.who = .host i) (sl n : Nat) :
    (∃ v, v.mem = s.mem ∧ v.poison = s.poison ∧ (s.Free → v.Free) ∧ Gone (complete t.id sl n g d s) v d.ans) ∨ Stays (complete t.id sl n g d s) s d.ans := by
  have hkeep : ∀ {α : Type} {p : State → α} (ht : ∀ s x, p { s with tier := x } = p s) (hr : ∀ s x, p { s with regs := x } = p s)
      (hc : ∀ s x, p { s with cnt64 := x } = p s), _ := fun {α p} ht hr hc => journalLines_durable (s := s) (p := p) ht hr hc hd hl hb sl n d.extra
  obtain ⟨pg, hpg, hmem⟩ := hkeep (p := State.mem) (fun _ _ => rfl) (fun _ _ => rfl) (fun _ _ => rfl)
  obtain ⟨-, -, hpoison⟩ := hkeep (p := State.poison) (fun _ _ => rfl) (fun _ _ => rfl) (fun _ _ => rfl)
  obtain ⟨-, -, hfree⟩ := hkeep (p := State.Free) (fun _ _ => rfl) (fun _ _ => rfl) (fun _ _ => rfl)
  obtain ⟨-, -, htrks⟩ := hkeep (p := fun s => s.pool.trks) (fun _ _ => rfl) (fun _ _ => rfl) (fun _ _ => rfl)
  obtain ⟨pages, v, hj⟩ : ∃ pages v, journalLines sl n g d.lines d.extra s = (pages, v) := ⟨_, _, rfl⟩
  rw [hj] at hpg hmem hpoison hfree htrks
  refine (complete_ends hj (htrks.trans htr) hw hwho).imp (fun h => ⟨v, hmem, hpoison, hfree.mpr, h.2⟩) fun ⟨hwait, heq⟩ => ?_
  rw [heq]
  exact ⟨hmem, hpoison, fun hf => ⟨hfree.mpr hf, fun x hx => by
    rw [withTrk_trks, List.mem_singleton] at hx
    subst hx
    refine ⟨by simp, ?_⟩
    show (true && true && pages.all fun p => v.pageOk p.1 p.2) = false
    rw [hwait]
    rfl⟩, _, List.mem_singleton_self _, rfl, hwait⟩

end Sys2Proof.Machine
end

section
/-! PROOFS. Plain lines (R97, R120, R171): a read answers with the line's bytes, a write or an atomic changes just its own. -/

namespace Sys2Proof.Machine

variable {s u v w k : State} {t : Trk} {g : Region} {op n m dpa sl : Nat} {r : ReqMsg} {e : Nat × Bytes}

/-! ### The operations -/

theorem perform_line (htr : k.trk t.id = some t) (hop : t.op ≤ 7) (hk : g.kind ≠ 2) (n m : Nat) : perform t.id n g m k = performLine t.id n g t k := by
  unfold perform
  rw [htr]
  simp only
  rw [if_neg (by omega), if_neg (by omega), if_neg (by omega), if_neg (by omega), if_neg hk]

theorem Taken.host (h : Taken op r e n g dpa sl t) : t.wait ≠ .ptab := by
  rw [h.wait]
  decide

/-- What a plain operation finds: the tracker alone, its block in place, no upset symbol. -/
structure Ready (g : Region) (t : Trk) (k : State) : Prop where
  trks : k.pool.trks = [t]
  free : k.Free
  upsets : k.upsets = []
  place : k.InPlace g.tenant t.slice (t.dpa / 128 / 128)

theorem Worn.ready {k' : State} (h : Worn k' k) (hk : Ready g t k) : Ready g t k' :=
  ⟨h.trks.trans hk.trks, h.free hk.free, h.upsets.trans hk.upsets, (h.inPlace _ _ _).2 hk.place⟩

theorem Ready.out (h : Ready g t k) (w : Bool) : bypassEnd t.slice (t.dpa / 128 / 128) g w k = k := bypassEnd_out h.place.2.1 g w

theorem Ready.load (h : Ready g t k) : ∃ k', loadLine t.slice g.tenant (t.dpa / 128) k = (k.poison.contains (t.dpa / 128), k') ∧ Worn k' k :=
  loadLine_of_none h.upsets h.place.1 _ _

/-- A read of a line that holds the marker. -/
theorem performLine_poisoned (ht : Taken 1 r e n g dpa sl t) (hk : Ready g t k) (hp : k.poison.contains (t.dpa / 128) = true) :
    ∃ v, Worn v k ∧ Gone (performLine t.id n g t k) v (cmpMsg r stPOISON 0) := by
  obtain ⟨v, hv, hw⟩ := hk.load
  have hvr := hw.ready hk
  have hload : (if t.op = 5 ∨ (t.op = 6 ∧ t.r.len = 127) then (false, k) else loadLine t.slice g.tenant (t.dpa / 128) k) = (true, v) := by
    rw [if_neg (by simp [ht.op]), hv, hp]
  refine ⟨v, hw, ?_⟩
  unfold performLine
  simp only [hload, if_true]
  unfold unmake
  rw [ht.made, if_neg (by simp), hvr.out, ht.r]
  exact complete_goes (.inr ⟨rfl, rfl⟩) hvr.trks ht.host ht.who _ _

theorem performLine_read (ht : Taken 1 r e n g dpa sl t) (hk : Ready g t k) (hp : k.poison.contains (t.dpa / 128) = false) :
    ∃ v, Worn v k ∧ Gone (performLine t.id n g t k) v
      (datMsg 1 r (cut (Memory.readN k.mem (dpa / 128 * 128) 128) (dpa % 128) (r.len.toNat + 1)) r.len.toNat) := by
  obtain ⟨v, hv, hw⟩ := hk.load
  have hvr := hw.ready hk
  have hload : (if t.op = 5 ∨ (t.op = 6 ∧ t.r.len = 127) then (false, k) else loadLine t.slice g.tenant (t.dpa / 128) k) = (false, v) := by
    rw [if_neg (by simp [ht.op]), hv, hp]
  refine ⟨v, hw, ?_⟩
  unfold performLine
  simp only [hload, Bool.false_eq_true, if_false]
  rw [ht.op]
  simp only
  rw [hvr.out, ht.r, hw.mem, ht.dpa]
  exact complete_goes (.inr ⟨rfl, rfl⟩) hvr.trks ht.host ht.who _ _

/-! ### Writes -/

/-- What a write is answered with: OK at once, or once its journal page stands. -/
def Written (g : Region) (w : State) (x : Msg) : Prop :=
  (w.Ans x ∧ w.pool.trks = []) ∨ (g.durable = true ∧ ∃ y ∈ w.pool.trks, y.ans = some x ∧ (y.jwait.all fun p => w.pageOk p.1 p.2) = false)

theorem complete_writes {d : Done} (hl : d.lines ≠ []) (hk : Ready g t k) (hb : g.durable = true → k.journalBytes + 2 ^ 20 < 12 * 2 ^ 30)
    (hw : t.wait ≠ .ptab) {i : Nat} (hwho : t.who = .host i) (sl n : Nat) :
    (complete t.id sl n g d k).Resting ∧ (complete t.id sl n g d k).mem = k.mem ∧ (complete t.id sl n g d k).poison = k.poison ∧
      Written g (complete t.id sl n g d k) d.ans := by
  have hgone : ∀ v, v.mem = k.mem → v.poison = k.poison → v.Free → Gone (complete t.id sl n g d k) v d.ans → _ := fun v hm hp hf h =>
    (⟨h.resting hf, h.mem.trans hm,
      (h.keeps (p := State.poison) (fun _ _ => rfl) (fun _ _ => rfl) (fun _ _ => rfl) (fun _ _ => rfl) fun _ _ => rfl).trans hp, .inl ⟨h.ans, h.trks⟩⟩ :
      (complete t.id sl n g d k).Resting ∧ (complete t.id sl n g d k).mem = k.mem ∧ (complete t.id sl n g d k).poison = k.poison ∧
        Written g (complete t.id sl n g d k) d.ans)
  by_cases hd : g.durable = true
  · rcases complete_durable hd hl (hb hd) hk.trks hw hwho sl n with ⟨v, hm, hp, hf, h⟩ | h
    · exact hgone v hm hp (hf hk.free) h
    · exact ⟨h.resting hk.free, h.mem, h.poison, .inr ⟨hd, h.trk⟩⟩
  · exact hgone k rfl rfl hk.free (complete_goes (.inl (by simpa using hd)) hk.trks hw hwho sl n)

/-- The state with bytes stored from a DPA; a whole line takes the marker away. -/
def State.stored (s : State) (dpa : Nat) (b : Bytes) : State :=
  { s with mem := Memory.writeN s.mem dpa b, poison := if b.length = 128 then delUp (dpa / 128) s.poison else s.poison }

theorem Ready.store (h : Ready g t k) (b : Bytes) : Ready g t (storeBytes t.slice g.tenant t.dpa b k) ∧
    Worn (storeBytes t.slice g.tenant t.dpa b k) (k.stored t.dpa b) := by
  have hw := storeBytes_worn h.upsets t.slice g.tenant t.dpa b
  exact ⟨hw.ready ⟨h.trks, h.free, h.upsets, h.place⟩, hw⟩

theorem ptabWrite_plain (hp : g.ptab = false) (i : Nat) (t : Trk) (s : State) : ptabWrite i g t s = s := by
  unfold ptabWrite
  rw [hp, if_neg (by decide)]

theorem performLine_writes (ht : Taken op r e n g dpa sl t) (hop : op = 5 ∨ op = 6) (hk : Ready g t k) (hptab : g.ptab = false)
    (hb : g.durable = true → k.journalBytes + 2 ^ 20 < 12 * 2 ^ 30) (hp : op = 6 → k.poison.contains (t.dpa / 128) = false) :
    (performLine t.id n g t k).Resting ∧ (performLine t.id n g t k).mem = Memory.writeN k.mem dpa r.payload ∧
      (performLine t.id n g t k).poison = (k.stored dpa r.payload).poison ∧ Written g (performLine t.id n g t k) (cmpMsg r stOK 0) := by
  obtain ⟨k', hload, hw⟩ : ∃ k', (if t.op = 5 ∨ (t.op = 6 ∧ t.r.len = 127) then (false, k) else loadLine t.slice g.tenant (t.dpa / 128) k) = (false, k') ∧
      Worn k' k := by
    split
    · exact ⟨k, rfl, .refl k⟩
    · next h =>
      obtain ⟨k', hl, hw⟩ := hk.load
      have h6 : op = 6 := hop.resolve_left fun h5 => h (.inl (ht.op.trans h5))
      exact ⟨k', by rw [hl, hp h6], hw⟩
  obtain ⟨hv, hs⟩ := (hw.ready hk).store t.r.payload
  have heq : performLine t.id n g t k =
      complete t.id t.slice n g ⟨cmpMsg t.r stOK 0, [t.dpa / 128], []⟩ (storeBytes t.slice g.tenant t.dpa t.r.payload k') := by
    unfold performLine
    simp only [hload, Bool.false_eq_true, if_false]
    rw [ht.op]
    rcases hop with rfl | rfl <;> simp only [ptabWrite_plain hptab] <;> rw [hv.out]
  have hbytes : (storeBytes t.slice g.tenant t.dpa t.r.payload k').journalBytes = k.journalBytes := by
    rw [journalBytes_eq, journalBytes_eq, hs.tier, show (k'.stored t.dpa t.r.payload).tier = k'.tier from rfl, hw.tier]
  obtain ⟨hrest, hmem, hpo, hwr⟩ := complete_writes (d := ⟨cmpMsg t.r stOK 0, [t.dpa / 128], []⟩) (by simp) hv (by rw [hbytes]; exact hb) ht.host ht.who t.slice n
  rw [heq, ← ht.r, ← ht.dpa]
  refine ⟨hrest, hmem.trans ?_, hpo.trans ?_, hwr⟩
  · rw [hs.mem]
    unfold State.stored
    rw [hw.mem]
  · rw [hs.poison]
    unfold State.stored
    rw [hw.poison]

/-! ### Atomics -/

theorem dirTouch_dir (sl : Nat) (x : TenantId) (line : Nat) (s : State) : ∃ f, dirTouch sl x line s = s.updDir f := by
  unfold dirTouch
  split
  · exact ⟨id, rfl⟩
  · exact ⟨_, rfl⟩

theorem Ready.updDir (h : Ready g t k) (f : Sparse DirEnt → Sparse DirEnt) : Ready g t (k.updDir f) := ⟨h.trks, h.free, h.upsets, h.place⟩

/-- A far atomic reads its operand, and writes what comes of it. -/
theorem performLine_atomic (ht : Taken 7 r e n g dpa sl t) (hk : Ready g t k) (h1 : g.kind ≠ 1) (hd : g.durable = false) (hptab : g.ptab = false)
    (hp : k.poison.contains (t.dpa / 128) = false) :
    let o := atomOp r.len.toNat
    let z := atomSize r.len.toNat
    let old := leNat (cut (Memory.readN k.mem (dpa / 128 * 128) 128) (dpa % 128) z)
    let x := atomArgs o z r.payload
    ∃ v, v.Free ∧ v.mem = (if o ≠ 9 ∨ old = x.2 then Memory.writeN k.mem dpa (toLe z (atomNew o z old x.1 x.2)) else k.mem) ∧
      Gone (performLine t.id n g t k) v (if r.nr then cmpMsg r stOK 0 else datMsg 4 r (toLe z old)) := by
  intro o z old x
  obtain ⟨k', hl, hw⟩ := hk.load
  have hload : (if t.op = 5 ∨ (t.op = 6 ∧ t.r.len = 127) then (false, k) else loadLine t.slice g.tenant (t.dpa / 128) k) = (false, k') := by
    rw [if_neg (by simp [ht.op]), hl, hp]
  have hslot : t.slot = none := by rw [ht.slot, if_neg h1]
  have hpred : predUpdate t k' = k' := by
    unfold predUpdate
    rw [hslot]
  obtain ⟨f, hdir⟩ := dirTouch_dir t.slice g.tenant (t.dpa / 128) k'
  have hrd := (hw.ready hk).updDir f
  have hc := count_worn .ATOM_FAR_CNT (t.slice / 4) 1 (k'.updDir f)
  obtain ⟨c, hcdef⟩ : ∃ c, c = (k'.updDir f).count .ATOM_FAR_CNT (t.slice / 4) := ⟨_, rfl⟩
  rw [← hcdef] at hc
  have hcr := hc.ready hrd
  have hcmem : c.mem = k.mem := hc.mem.trans hw.mem
  obtain ⟨hv, hs⟩ := hcr.store (toLe z (atomNew o z old x.1 x.2))
  obtain ⟨y, hy⟩ : ∃ y, y = if (o ≠ 9 || old = x.2) = true then storeBytes t.slice g.tenant t.dpa (toLe z (atomNew o z old x.1 x.2)) c else c := ⟨_, rfl⟩
  have hyr : Ready g t y ∧ y.mem = if o ≠ 9 ∨ old = x.2 then Memory.writeN k.mem dpa (toLe z (atomNew o z old x.1 x.2)) else k.mem := by
    rw [hy]
    simp only [Bool.or_eq_true, decide_eq_true_eq]
    split
    · refine ⟨hv, hs.mem.trans ?_⟩
      unfold State.stored
      rw [hcmem, ht.dpa]
    · exact ⟨hcr, hcmem⟩
  have heq : performLine t.id n g t k = complete t.id t.slice n g
      ⟨if r.nr then cmpMsg r stOK 0 else datMsg 4 r (toLe z old), if (o ≠ 9 || old = x.2) = true then [dpa / 128] else [], []⟩ y := by
    have hout := hyr.1.out (o ≠ 9 || old = x.2)
    rw [hy] at hout ⊢
    unfold performLine
    simp only [hload, Bool.false_eq_true, if_false]
    rw [ht.op]
    simp only [hpred, hdir, ← hcdef, ht.near, Bool.false_eq_true, if_false, ptabWrite_plain hptab]
    simp only [ht.r, ht.dpa, hw.mem] at hout ⊢
    exact congrArg (complete t.id t.slice n g _) hout
  refine ⟨y, hyr.1.free, hyr.2, ?_⟩
  rw [heq]
  exact complete_goes (.inl hd) hyr.1.trks ht.host ht.who _ _

end Sys2Proof.Machine
end

section
/-! PROOFS. Requests of plain lines that wait for nothing (R31, R97, R120, R171): each is answered by its operation. -/

namespace Sys2Proof.Machine

variable {s v k : State} {t : Trk} {r : ReqMsg} {e : Nat × Bytes} {n : Nat} {g : Region} {m dpa op : Nat}

theorem durableGate_open (h : g.durable = true → v.tierCode ≠ 3 ∧ v.tierCode ≠ 4 ∧ v.tier.full = false ∧ v.journalBytes + 2 ^ 20 < 12 * 2 ^ 30) (op : Nat) :
    v.durableGate g op = .ok := by
  unfold State.durableGate
  split
  · rfl
  · next hd =>
    simp only [Bool.not_eq_true', not_or, Bool.not_eq_false] at hd
    obtain ⟨h3, h4, hfull, hb⟩ := h hd.1
    rw [if_neg (by simp [h3, h4]), if_neg (by simp [hfull]), if_neg (by omega)]

/-- The payload of a whole line. -/
theorem formCheck_line (h : formCheck 5 r = none) : r.payload.length = 128 := by
  by_contra hne
  have hsome : (formCheck 5 r).isSome = true := by
    unfold formCheck
    simp only [hne, decide_false, Bool.not_false, if_true]
    split_ifs <;> rfl
  rw [h] at hsome
  cases hsome

section
variable (hr : Reaches op r s v e n g m dpa) (hi : s.Idle) (hu : v.upsets = [])
  (hp : v.InPlace g.tenant (v.blockHome g m (dpa / 16384)) (dpa / 16384))
include hr hi hu hp

theorem Reaches.ready (ht : Taken op r e n g dpa (v.blockHome g m (dpa / 16384)) t) (hw : Worn k (v.withTrk t)) : Ready g t k := by
  refine ⟨hw.trks, hw.free ((hr.1.kept offChecks_idle).mpr hi).free, hw.upsets.trans hu, (hw.inPlace _ _ _).2 ?_⟩
  rw [ht.slice, ht.dpa, Nat.div_div_eq_div_mul]
  exact hp

/-- A request of a plain line comes to its operation. -/
theorem Reaches.plain (hh : s.su.held = false) {c : Instr} (hc : exec c s = pumped (reqArrive op r) s) (hop : op ≤ 7) (h0 : g.kind = 0)
    (hd : g.durable = true → v.tierCode ≠ 3 ∧ v.tierCode ≠ 4 ∧ v.tier.full = false ∧ v.journalBytes + 2 ^ 20 < 12 * 2 ^ 30)
    {P : State → Prop} (hset : ∀ w, P w → P (settle w))
    (hP : ∀ t k, Taken op r e n g dpa (v.blockHome g m (dpa / 16384)) t → Worn k (v.withTrk t) → Ready g t k →
      (performLine t.id n g t k).Resting ∧ P (performLine t.id n g t k)) : Answers c s P := by
  refine hr.performs hi hh hc (by omega) (by omega) (by omega) (fun h => by omega) (durableGate_open hd op) hu (fun t ht b hb => ?_) hset fun t k ht hw => ?_
  · unfold needBlocks at hb
    rw [if_neg (by omega), ht.dpa, List.mem_singleton] at hb
    rwa [hb]
  · rw [perform_line (trk_only hw.trks) (by rw [ht.op]; exact hop) (by omega)]
    exact hP t k ht hw (hr.ready hi hu hp ht hw)

end

/-! ### Reads, writes and atomics -/

section
variable (hh : s.su.held = false) (hi : s.Idle) (hu : v.upsets = [])
  (hd : g.durable = true → v.tierCode ≠ 3 ∧ v.tierCode ≠ 4 ∧ v.tier.full = false ∧ v.journalBytes + 2 ^ 20 < 12 * 2 ^ 30)
  (hp : v.InPlace g.tenant (v.blockHome g m (dpa / 16384)) (dpa / 16384)) (h0 : g.kind = 0)
include hh hi hu hd hp h0

theorem rdOnce_plain (hr : Reaches 1 r s v e n g m dpa) (hpo : v.poison.contains (dpa / 128) = false) : Answers (.rdOnce r) s fun t =>
    t.Ans (datMsg 1 r (cut (Memory.readN s.mem (dpa / 128 * 128) 128) (dpa % 128) (r.len.toNat + 1)) r.len.toNat) ∧ t.mem = s.mem ∧ t.pool.trks = [] := by
  refine hr.plain hi hu hp hh rfl (by omega) h0 hd (fun w h => h) fun t k ht hw hk => ?_
  have hmem : k.mem = s.mem := hw.mem.trans (hr.1.kept offChecks_mem)
  obtain ⟨u, hwu, hgone⟩ := performLine_read ht hk (by rw [hw.poison, ht.dpa]; exact hpo)
  rw [hmem] at hgone
  exact ⟨hgone.resting (hwu.ready hk).free, hgone.ans, hgone.mem.trans (hwu.mem.trans hmem), hgone.trks⟩

theorem rdOnce_poisoned (hr : Reaches 1 r s v e n g m dpa) (hpo : v.poison.contains (dpa / 128) = true) : Answers (.rdOnce r) s fun t =>
    t.Ans (cmpMsg r stPOISON 0) ∧ t.mem = s.mem ∧ t.pool.trks = [] := by
  refine hr.plain hi hu hp hh rfl (by omega) h0 hd (fun w h => h) fun t k ht hw hk => ?_
  have hmem : k.mem = s.mem := hw.mem.trans (hr.1.kept offChecks_mem)
  obtain ⟨u, hwu, hgone⟩ := performLine_poisoned ht hk (by rw [hw.poison, ht.dpa]; exact hpo)
  exact ⟨hgone.resting (hwu.ready hk).free, hgone.ans, hgone.mem.trans (hwu.mem.trans hmem), hgone.trks⟩

theorem wrLine_plain (hptab : g.ptab = false) (hr : Reaches 5 r s v e n g m dpa) : Answers (.wrLine r) s fun t =>
    t.mem = Memory.writeN s.mem dpa r.payload ∧ t.poison.contains (dpa / 128) = false ∧ Written g t (cmpMsg r stOK 0) := by
  refine hr.plain hi hu hp hh rfl (by omega) h0 hd (fun w h => h) fun t k ht hw hk => ?_
  have hmem : k.mem = s.mem := hw.mem.trans (hr.1.kept offChecks_mem)
  have hbytes : k.journalBytes = v.journalBytes := by rw [journalBytes_eq, hw.tier]; rfl
  obtain ⟨hrest, hm, hpo, hwr⟩ := performLine_writes ht (.inl rfl) hk hptab (fun h => by rw [hbytes]; exact (hd h).2.2.2) (fun h => by omega)
  refine ⟨hrest, hm.trans (by rw [hmem]), ?_, hwr⟩
  rw [hpo]
  unfold State.stored delUp
  simp [formCheck_line hr.1.1]

theorem wrPart_plain (hptab : g.ptab = false) (hr : Reaches 6 r s v e n g m dpa) (hpo : v.poison.contains (dpa / 128) = false) :
    Answers (.wrPart r) s fun t => t.mem = Memory.writeN s.mem dpa r.payload ∧
      (∀ a : Nat, a < dpa ∨ dpa + r.payload.length ≤ a → Memory.read t.mem a = Memory.read s.mem a) ∧ Written g t (cmpMsg r stOK 0) := by
  refine hr.plain hi hu hp hh rfl (by omega) h0 hd (fun w h => h) fun t k ht hw hk => ?_
  have hmem : k.mem = s.mem := hw.mem.trans (hr.1.kept offChecks_mem)
  have hbytes : k.journalBytes = v.journalBytes := by rw [journalBytes_eq, hw.tier]; rfl
  obtain ⟨hrest, hm, -, hwr⟩ := performLine_writes ht (.inr rfl) hk hptab (fun h => by rw [hbytes]; exact (hd h).2.2.2)
    (fun _ => by rw [hw.poison, ht.dpa]; exact hpo)
  rw [hmem] at hm
  exact ⟨hrest, hm, fun a ha => by rw [hm, Memory.read_writeN_out _ _ _ _ ha], hwr⟩

theorem atomic_plain (hptab : g.ptab = false) (hr : Reaches 7 r s v e n g m dpa) (hvol : g.durable = false) (hpo : v.poison.contains (dpa / 128) = false) :
    Answers (.atomic r) s fun t =>
      let o := atomOp r.len.toNat
      let z := atomSize r.len.toNat
      let old := leNat (cut (Memory.readN s.mem (dpa / 128 * 128) 128) (dpa % 128) z)
      let x := atomArgs o z r.payload
      t.mem = (if o ≠ 9 ∨ old = x.2 then Memory.writeN s.mem dpa (toLe z (atomNew o z old x.1 x.2)) else s.mem) ∧
      t.Ans (if r.nr then cmpMsg r stOK 0 else datMsg 4 r (toLe z old)) ∧ t.pool.trks = [] := by
  refine hr.plain hi hu hp hh rfl (by omega) h0 hd (fun w h => h) fun t k ht hw hk => ?_
  have hmem : k.mem = s.mem := hw.mem.trans (hr.1.kept offChecks_mem)
  obtain ⟨u, hf, hm, hgone⟩ := performLine_atomic ht hk (by omega) hvol hptab (by rw [hw.poison, ht.dpa]; exact hpo)
  rw [hmem] at hm hgone
  exact ⟨hgone.resting hf, hgone.mem.trans hm, hgone.ans, hgone.trks⟩

end

end Sys2Proof.Machine
end

section
/-! PROOFS. Bytes of memory and of records: what a stored range reads as, byte by byte and field by field, and numbers as bytes. -/

namespace Sys2Proof.Machine

/-! ### Ranges of memory -/

namespace Memory

variable {m m' : Memory}

theorem readN_eq (m : Memory) (a n : Nat) : m.readN a n = (List.range n).map fun i => m.read (a + i) := by
  induction n generalizing a with
  | zero => rfl
  | succ n ih =>
    rw [List.range_succ_eq_map, List.map_cons, List.map_map]
    refine List.cons_eq_cons.2 ⟨rfl, (ih (a + 1)).trans (List.map_congr_left fun i _ => ?_)⟩
    simp [Nat.add_right_comm, Nat.add_assoc]

theorem length_readN (m : Memory) (a n : Nat) : (m.readN a n).length = n := by rw [readN_eq]; simp

theorem getD_readN (m : Memory) (a : Nat) {n i : Nat} (h : i < n) : (m.readN a n).getD i 0 = m.read (a + i) := by
  rw [readN_eq, List.getD_eq_getElem _ _ (by simpa using h)]
  simp

/-- A range reads alike where its bytes do. -/
theorem readN_congr {a n : Nat} (h : ∀ c, a ≤ c → c < a + n → m.read c = m'.read c) : m.readN a n = m'.readN a n := by
  rw [readN_eq, readN_eq]
  refine List.map_congr_left fun i hi => h _ (by omega) ?_
  have := List.mem_range.1 hi
  omega

/-- A range apart from what is stored reads as before. -/
theorem readN_writeN_out {a c n : Nat} {b : Bytes} (h : c + n ≤ a ∨ a + b.length ≤ c) : (m.writeN a b).readN c n = m.readN c n :=
  readN_congr fun x _ _ => read_writeN_out m a b x (by omega)

theorem writeN_append (m : Memory) (a : Nat) (b d : Bytes) : m.writeN a (b ++ d) = (m.writeN a b).writeN (a + b.length) d := by
  induction b generalizing m a with
  | nil => rfl
  | cons x r ih =>
    refine (ih (m.write a x) (a + 1)).trans ?_
    rw [List.length_cons, Nat.add_right_comm, Nat.add_assoc a r.length 1]
    rfl

theorem read_writeN_in (m : Memory) (a : Nat) (b : Bytes) {i : Nat} (h : i < b.length) : (m.writeN a b).read (a + i) = b.getD i 0 := by
  rw [← getD_readN _ a h, readN_writeN]

/-- A field within what is stored. -/
theorem readN_writeN_in (m : Memory) (a : Nat) (b : Bytes) {i n : Nat} (h : i + n ≤ b.length) : (m.writeN a b).readN (a + i) n = cut b i n := by
  refine List.ext_getElem (by rw [length_readN, cut, List.length_take, List.length_drop]; omega) fun j h1 h2 => ?_
  rw [length_readN] at h1
  rw [← List.getD_eq_getElem _ 0, ← List.getD_eq_getElem _ 0, getD_readN _ _ h1, Nat.add_assoc, read_writeN_in _ _ _ (by omega)]
  simp [cut, List.getD_eq_getElem?_getD, h1]

end Memory

/-! ### Numbers as bytes -/

theorem leNat_toLe (k n : Nat) : leNat (toLe k n) = n % 256 ^ k := by
  induction k generalizing n with
  | zero => simp [toLe, leNat, Nat.mod_one]
  | succ k ih =>
    rw [toLe, leNat, ih, BitVec.toNat_ofNat, Nat.pow_succ' (m := 256), Nat.mod_mul]

theorem uint_lt (n : Nat) (i : Int) : uint n i < 2 ^ n := by
  unfold uint
  have h0 := Int.emod_nonneg i (show (2 : Int) ^ n ≠ 0 by positivity)
  have h1 := Int.emod_lt_of_pos i (show (0 : Int) < 2 ^ n by positivity)
  have h2 : ((2 ^ n : Nat) : Int) = 2 ^ n := by push_cast; rfl
  omega

/-- A byte with one bit set. -/
theorem bit_byte_setBits (v : Nat) {i : Nat} (h : i < 8) : bit (byte (setBits v i i 1)).toNat i = true := by
  unfold bit byte
  rw [BitVec.toNat_ofNat, Nat.testBit_mod_two_pow, show (1 : Nat) = b2n true from rfl, testBit_setBits]
  simp [h]

/-- Words of one length, one after another: the field of each is the word. -/
theorem cut_flatMap {α : Type} (f : α → Bytes) {k : Nat} (hf : ∀ x, (f x).length = k) (l : List α) {i : Nat} (h : i < l.length) :
    cut (l.flatMap f) (k * i) k = f l[i] := by
  induction l generalizing i with
  | nil => simp at h
  | cons x l ih =>
    cases i with
    | zero => simp [cut, List.take_left' (hf x)]
    | succ i =>
      have := ih (i := i) (by simpa using h)
      rw [List.flatMap_cons, List.getElem_cons_succ, ← this]
      unfold cut
      rw [List.drop_append, List.drop_eq_nil_of_le (by rw [hf]; nlinarith), hf, List.nil_append, Nat.mul_succ, Nat.add_sub_cancel]

/-! ### Fields written into a record -/

theorem length_splice {b x : Bytes} {o : Nat} (h : o + x.length ≤ b.length) : (splice b o x).length = b.length := by
  simp [splice, padTo, zeros]
  omega

theorem cut_splice_self (b x : Bytes) (o : Nat) : cut (splice b o x) o x.length = x := by
  have hp : (padTo o b).length = o := by simp [padTo, zeros]; omega
  unfold splice cut
  rw [List.append_assoc, List.drop_left' hp, List.take_left' rfl]

/-- A field before what is written stays. -/
theorem cut_splice_lt {b x : Bytes} {o i n : Nat} (hi : i + n ≤ o) (h : o ≤ b.length) : cut (splice b o x) i n = cut b i n := by
  have hp : padTo o b = b.take o := by simp [padTo, zeros, h]
  unfold splice cut
  rw [hp, List.append_assoc, List.drop_append_of_le_length (by simp; omega), List.take_append_of_le_length (by simp; omega), List.drop_take, List.take_take]
  congr 1
  omega

end Sys2Proof.Machine
end

section
/-! PROOFS. A contribution that is applied (R176, R179, R181, R182, R185): the record it opens, the words it adds, its count and its bit. -/

namespace Sys2Proof.Machine

variable {s v k : State} {t : Trk} {r : ReqMsg} {e : Nat × Bytes} {n : Nat} {g : Region} {m dpa op sl : Nat}

/-! ### Memory -/

/-- An RU's record as the first contribution of a generation opens it: its other lines zero, its stamp the generation's, its count 0. -/
def recordOpened (lines : List Nat) (ra bank gen : Nat) (m : Memory) : Memory :=
  let m := lines.foldl (fun m l => if l = ra / 128 then m else m.writeN (l * 128) (zeros 128)) m
  m.writeN ra (splice (splice (splice (splice (m.readN ra 128) (4 * bank) (toLe 4 gen)) 8 [0, 0]) (10 + bank) [0]) 16 (zeros 112))

/-- The words of an RU with a contribution's values added. -/
def summed (vals : List (Int × Bool × Bool)) (first : Prop) [Decidable first] (data : Nat) (m : Memory) : Bytes :=
  ((List.range 32).zip vals).flatMap fun x => toLe 8 (uint 64 ((if first then 0 else sint 64 (leNat (m.readN (data + 8 * x.1) 8))) + x.2.1))

/-- A record's count one higher, flags set, and a bit of its bitmap set. -/
def recordCounted (ra bank by_ bi fl : Nat) (m : Memory) : Memory :=
  let cnt := leNat (m.readN (ra + 8) 2) + 1
  let f := (m.read (ra + 10 + bank)).toNat ||| fl
  let m := (m.writeN (ra + 8) (toLe 2 cnt)).writeN (ra + 10 + bank) [byte f]
  m.writeN (ra + by_) [byte (setBits (m.read (ra + by_)).toNat bi bi 1)]

/-- Memory with the words of a contribution to an RU added, its record opened where it is the first. -/
def redSummed (g : Region) (m : Nat) (t : Trk) (first : Prop) [Decidable first] (M : Memory) : Memory :=
  let p := t.r.payload
  let data := g.bankAt m (leAt p 0 4 % 2) (ruOf t.dpa)
  let M := if first then recordOpened (g.recordLines m (ruOf t.dpa)) (g.recordAt m (ruOf t.dpa)) (leAt p 0 4 % 2) (leAt p 0 4) M else M
  let words := summed (contribution g p) first data M
  (M.writeN data (words.take 128)).writeN (data + 128) (words.drop 128)

/-- The count of an RU with a contribution. -/
def redCount (g : Region) (m : Nat) (t : Trk) (first : Prop) [Decidable first] (M : Memory) : Nat :=
  leNat ((redSummed g m t first M).readN (g.recordAt m (ruOf t.dpa) + 8) 2) + 1

/-- Memory after a contribution to an RU. -/
def redMemory (g : Region) (m : Nat) (t : Trk) (first : Prop) [Decidable first] (M : Memory) : Memory :=
  let b := bitmapAt (leAt t.r.payload 4 2)
  let vals := contribution g t.r.payload
  recordCounted (g.recordAt m (ruOf t.dpa)) (leAt t.r.payload 0 4 % 2) b.1 b.2 (b2n (vals.any fun v => v.2.1) + 2 * b2n (vals.any fun v => v.2.2))
    (redSummed g m t first M)

/-- The generation after a contribution that is the `cnt`th of its RU. -/
def redGen (g : Region) (m cnt : Nat) (p : Bytes) : GenSt :=
  let x := g.gen
  let vals := contribution g p
  let x' := { x with accSat := x.accSat || vals.any fun v => v.2.1, accNan := x.accNan || vals.any fun v => v.2.2,
                     ruDone := if cnt = x.nOpen then x.ruDone + 1 else x.ruDone }
  if x'.ruDone = g.ruCount m ∧ x'.st = 8 then { x' with st := 9, reported := false } else x'

/-! ### The state -/

theorem Worn.stores {M : Memory} (h : Worn v { k with mem := M }) (hu : k.upsets = []) (hp : k.poison = []) (sl : Nat) (x : TenantId) (a : Nat) (b : Bytes) :
    Worn (storeBytes sl x a b v) { k with mem := M.writeN a b } := by
  have hpo : v.poison = [] := h.poison.trans hp
  have hw := storeBytes_worn (h.upsets.trans hu) sl x a b
  rw [hpo, h.mem, show (if b.length = 128 then delUp (a / 128) [] else []) = ([] : List Nat) by simp [delUp]] at hw
  refine hw.trans ?_
  rw [← hpo]
  exact h.setMem _

/-- The other lines of a record are cleared. -/
theorem Worn.clears (hu : k.upsets = []) (hp : k.poison = []) (sl : Nat) (x : TenantId) (ra : Nat) (l : List Nat) : ∀ {v : State} {M : Memory},
    Worn v { k with mem := M } → Worn (l.foldl (fun s l => if l = ra / 128 then s else storeBytes sl x (l * 128) (zeros 128) s) v)
      { k with mem := l.foldl (fun (m : Memory) l => if l = ra / 128 then m else m.writeN (l * 128) (zeros 128)) M } := by
  induction l with
  | nil => exact fun h => h
  | cons y l ih =>
    intro v M h
    by_cases hy : y = ra / 128
    · rw [List.foldl_cons, List.foldl_cons, if_pos hy, if_pos hy]
      exact ih h
    · rw [List.foldl_cons, List.foldl_cons, if_neg hy, if_neg hy]
      exact ih (h.stores hu hp _ _ _ _)

theorem Worn.setRegion (h : Worn v s) (n : Nat) (g : Region) : Worn (v.setRegion n g) (s.setRegion n g) := by
  obtain ⟨⟨r, c, k, a, l, d, rfl⟩, hc, hw⟩ := h
  exact ⟨⟨r, c, k, a, l, d, rfl⟩, hc, hw⟩

/-- A contribution that is applied is answered OK; it changes its unit's memory and its region's generation. -/
theorem redTake_effect (hu : k.upsets = []) (hp : k.poison = []) (sl n : Nat) (g : Region) (m : Nat) (t : Trk) (first : Prop) [Decidable first] :
    ∃ v lines extra, redTake sl n g m t first k = (⟨cmpMsg t.r stOK 0, lines, extra⟩, v) ∧
      Worn v (({ k with mem := redMemory g m t first k.mem } : State).setRegion n
        { g with gen := redGen g m (redCount g m t first k.mem) t.r.payload }) := by
  unfold redTake redMemory
  dsimp -zeta only
  extract_lets p x gen c bank ru ra q data lines vals sat nan s0 r0 r1 s1 old words s2 s3 cnt fl s4 s5 s6 full x1 x2 s7 s8 s9 rec_ b vals'
  have h1 : Worn s1 { k with mem := if first then recordOpened (g.recordLines m ru) ra bank gen k.mem else k.mem } := by
    unfold s1
    split
    · have h : Worn s0 _ := Worn.clears hu hp sl g.tenant ra (g.recordLines m ru) (.refl k)
      unfold r1 r0
      rw [h.mem]
      exact h.stores hu hp _ _ _ _
    · exact .refl k
  have hwords : words = summed vals first data (if first then recordOpened (g.recordLines m ru) ra bank gen k.mem else k.mem) := by
    unfold words old
    rw [h1.mem]
    rfl
  clear_value s1 words
  have h3 : Worn s3 { k with mem := redSummed g m t first k.mem } := by
    have h := (h1.stores hu hp sl g.tenant data (words.take 128)).stores hu hp sl g.tenant (data + 128) (words.drop 128)
    have hm : redSummed g m t first k.mem = ((if first then recordOpened (g.recordLines m ru) ra bank gen k.mem else k.mem).writeN data
        (words.take 128)).writeN (data + 128) (words.drop 128) := by
      rw [hwords]
      rfl
    rw [hm]
    exact h
  have hcnt : cnt = redCount g m t first k.mem := by
    unfold cnt redCount
    rw [h3.mem]
  have hfl : fl = (Memory.read (redSummed g m t first k.mem) (ra + 10 + bank)).toNat ||| (b2n sat + 2 * b2n nan) := by
    unfold fl
    rw [h3.mem]
  clear_value s3 cnt fl
  have h5 := (h3.stores hu hp sl g.tenant (ra + 8) (toLe 2 cnt)).stores hu hp sl g.tenant (ra + 10 + bank) [byte fl]
  have h6 := h5.stores hu hp sl g.tenant (ra + (bitmapAt c).1)
    [byte (setBits (Memory.read s5.mem (ra + (bitmapAt c).1)).toNat (bitmapAt c).2 (bitmapAt c).2 1)]
  have h6' : Worn s6 { k with mem := redMemory g m t first k.mem } := by
    have hm : redMemory g m t first k.mem = (((redSummed g m t first k.mem).writeN (ra + 8) (toLe 2 cnt)).writeN (ra + 10 + bank) [byte fl]).writeN
        (ra + (bitmapAt c).1) [byte (setBits (Memory.read s5.mem (ra + (bitmapAt c).1)).toNat (bitmapAt c).2 (bitmapAt c).2 1)] := by
      rw [show s5.mem = _ from h5.mem, hcnt, hfl]
      unfold redMemory
      change recordCounted ra bank (bitmapAt c).1 (bitmapAt c).2 (b2n sat + 2 * b2n nan) (redSummed g m t first k.mem) = _
      unfold recordCounted redCount
      dsimp only
    rw [hm]
    exact h6
  have hx : x2 = redGen g m (redCount g m t first k.mem) t.r.payload := by
    rw [← hcnt]
    rfl
  refine ⟨s9, _, _, rfl, ?_⟩
  have h8 : Worn s8 (({ k with mem := redMemory g m t first k.mem } : State).setRegion n { g with gen := x2 }) :=
    (count_worn _ _ _ s7).trans (h6'.setRegion n _)
  rw [← hx]
  unfold s9
  split
  · exact (count_worn _ _ _ s8).trans h8
  · exact h8

end Sys2Proof.Machine
end

section
/-! PROOFS. What a contribution leaves in memory (R176, R179, R181, R182): its unit's words, the record's stamp, count and bit, and nothing else. -/

namespace Sys2Proof.Machine

variable {g : Region} {m : Nat} {t : Trk} {first : Prop} [Decidable first] {M : Memory} {ra n bank gen : Nat}

/-! ### A record that is opened -/

/-- The first line of a record as its generation opens it. -/
def recordImage (b : Bytes) (bank gen : Nat) : Bytes := splice (splice (splice (splice b (4 * bank) (toLe 4 gen)) 8 [0, 0]) (10 + bank) [0]) 16 (zeros 112)

section
variable {b : Bytes} (hb : b.length = 128) (hbank : bank < 2)
include hb hbank

theorem length_recordImage (gen : Nat) : (recordImage b bank gen).length = 128 ∧
    (splice (splice (splice b (4 * bank) (toLe 4 gen)) 8 [0, 0]) (10 + bank) [0]).length = 128 ∧
    (splice (splice b (4 * bank) (toLe 4 gen)) 8 [0, 0]).length = 128 ∧ (splice b (4 * bank) (toLe 4 gen)).length = 128 := by
  have h1 : (splice b (4 * bank) (toLe 4 gen)).length = 128 := by rw [length_splice (by rw [length_toLe]; omega), hb]
  have h2 : (splice (splice b (4 * bank) (toLe 4 gen)) 8 [0, 0]).length = 128 := by rw [length_splice (by rw [h1]; simp), h1]
  have h3 : (splice (splice (splice b (4 * bank) (toLe 4 gen)) 8 [0, 0]) (10 + bank) [0]).length = 128 := by
    rw [length_splice (by rw [h2]; simp; omega), h2]
  exact ⟨by unfold recordImage; rw [length_splice (by rw [h3]; simp [zeros]), h3], h3, h2, h1⟩

theorem recordImage_stamp (gen : Nat) : cut (recordImage b bank gen) (4 * bank) 4 = toLe 4 gen := by
  obtain ⟨-, h3, h2, h1⟩ := length_recordImage hb hbank gen
  unfold recordImage
  rw [cut_splice_lt (by omega) (by omega), cut_splice_lt (by omega) (by omega), cut_splice_lt (by omega) (by omega)]
  have h := cut_splice_self b (toLe 4 gen) (4 * bank)
  rwa [length_toLe] at h

theorem recordImage_count (gen : Nat) : cut (recordImage b bank gen) 8 2 = [0, 0] := by
  obtain ⟨-, h3, h2, h1⟩ := length_recordImage hb hbank gen
  unfold recordImage
  rw [cut_splice_lt (by omega) (by omega), cut_splice_lt (by omega) (by omega)]
  exact cut_splice_self _ [0, 0] 8

end

section
variable {lines : List Nat} (hbank : bank < 2)
include hbank

theorem recordOpened_out (hl : ∀ l ∈ lines, ra ≤ l * 128 ∧ l * 128 + 128 ≤ ra + n) (hn : 128 ≤ n) (M : Memory) {x : Nat}
    (hx : x < ra ∨ ra + n ≤ x) : (recordOpened lines ra bank gen M).read x = M.read x := by
  refine (Memory.read_writeN_out _ ra (recordImage _ bank gen) x ?_).trans ?_
  · rw [(length_recordImage (Memory.length_readN _ _ _) hbank gen).1]
    omega
  · refine List.foldlRecOn (motive := fun (y : Memory) => y.read x = M.read x) _ _ rfl fun y hy l hm => ?_
    have := hl l hm
    split
    · exact hy
    · rw [Memory.read_writeN_out _ _ _ _ (by simp [zeros]; omega)]
      exact hy

theorem recordOpened_stamp (M : Memory) : (recordOpened lines ra bank gen M).readN (ra + 4 * bank) 4 = toLe 4 gen := by
  refine (Memory.readN_writeN_in _ ra (recordImage _ bank gen) ?_).trans (recordImage_stamp (Memory.length_readN _ _ _) hbank gen)
  rw [(length_recordImage (Memory.length_readN _ _ _) hbank gen).1]
  omega

theorem recordOpened_count (M : Memory) : (recordOpened lines ra bank gen M).readN (ra + 8) 2 = [0, 0] := by
  refine (Memory.readN_writeN_in _ ra (recordImage _ bank gen) ?_).trans (recordImage_count (Memory.length_readN _ _ _) hbank gen)
  rw [(length_recordImage (Memory.length_readN _ _ _) hbank gen).1]
  omega

end

/-! ### Words that are added -/

theorem length_contribution (g : Region) (p : Bytes) : (contribution g p).length = 32 := by simp [contribution]

section
variable {vals : List (Int × Bool × Bool)} (hv : vals.length = 32)
include hv

theorem length_summed (data : Nat) (M : Memory) : (summed vals first data M).length = 256 := by
  have h : ∀ l : List (Nat × Int × Bool × Bool), (l.flatMap fun x => toLe 8 (uint 64 ((if first then 0 else sint 64 (leNat (M.readN (data + 8 * x.1) 8))) + x.2.1))).length
      = 8 * l.length := by
    intro l
    induction l with
    | nil => rfl
    | cons x l ih =>
      rw [List.flatMap_cons, List.length_append, length_toLe, ih, List.length_cons]
      omega
  unfold summed
  rw [h]
  simp [hv]

theorem cut_summed (data : Nat) (M : Memory) {i : Nat} (hi : i < 32) : leNat (cut (summed vals first data M) (8 * i) 8) =
    uint 64 ((if first then 0 else sint 64 (leNat (M.readN (data + 8 * i) 8))) + (vals.getD i (0, false, false)).1) := by
  have hlen : i < ((List.range 32).zip vals).length := by simp [hv, hi]
  have hget : ((List.range 32).zip vals)[i] = (i, vals.getD i (0, false, false)) := by simp [hv, hi]
  unfold summed
  rw [cut_flatMap _ (fun _ => length_toLe _ _) _ hlen, hget, leNat_toLe, Nat.mod_eq_of_lt]
  exact uint_lt 64 _

/-- The words stand where the unit's data lies, and nowhere else. -/
theorem wordsWritten (data : Nat) (M M' : Memory) : let w := summed vals first data M
    (M'.writeN data (w.take 128)).writeN (data + 128) (w.drop 128) = M'.writeN data w := by
  intro w
  have hlen : w.length = 256 := length_summed hv data M
  have h := Memory.writeN_append M' data (w.take 128) (w.drop 128)
  rw [List.take_append_drop, List.length_take, hlen] at h
  exact h.symm

end

/-! ### A record that counts a contribution -/

section
variable {by_ bi fl : Nat} (hbank : bank < 2)
include hbank

theorem recordCounted_out (bi fl : Nat) (M : Memory) {x : Nat} (hx : x < ra + 8 ∨ ra + 12 ≤ x) (hb : x ≠ ra + by_) :
    (recordCounted ra bank by_ bi fl M).read x = M.read x := by
  unfold recordCounted
  dsimp only
  rw [Memory.read_writeN_out _ _ _ _ (by simp; omega), Memory.read_writeN_out _ _ _ _ (by simp; omega),
    Memory.read_writeN_out _ _ _ _ (by rw [length_toLe]; omega)]

omit hbank in
theorem recordCounted_count (hby : 16 ≤ by_) (bi fl : Nat) (M : Memory) :
    leNat ((recordCounted ra bank by_ bi fl M).readN (ra + 8) 2) = (leNat (M.readN (ra + 8) 2) + 1) % 65536 := by
  unfold recordCounted
  dsimp only
  rw [Memory.readN_writeN_out (by simp; omega), Memory.readN_writeN_out (by simp)]
  have h := Memory.readN_writeN M (ra + 8) (toLe 2 (leNat (M.readN (ra + 8) 2) + 1))
  rw [length_toLe] at h
  rw [h, leNat_toLe]
  rfl

omit hbank in
theorem recordCounted_bit (bank by_ fl : Nat) (hbi : bi < 8) (M : Memory) : bit ((recordCounted ra bank by_ bi fl M).read (ra + by_)).toNat bi = true := by
  unfold recordCounted
  dsimp only
  rw [show ∀ (y : Memory) a b, Memory.read (y.writeN a [b]) a = b from fun y a b => Memory.read_write_self y a b]
  exact bit_byte_setBits _ hbi

end

/-! ### A contribution -/

/-- A unit's record and words lie apart, on lines of their own, and the contributor's bit lies in the record. -/
structure RedPlace (g : Region) (m : Nat) (t : Trk) : Prop where
  aligned : g.recordAt m (ruOf t.dpa) % 128 = 0
  lines : 1 ≤ g.recLines
  apart : g.bankAt m (leAt t.r.payload 0 4 % 2) (ruOf t.dpa) + 256 ≤ g.recordAt m (ruOf t.dpa) ∨
    g.recordAt m (ruOf t.dpa) + g.recLines * 128 ≤ g.bankAt m (leAt t.r.payload 0 4 % 2) (ruOf t.dpa)
  mapped : (bitmapAt (leAt t.r.payload 4 2)).1 < g.recLines * 128

theorem bitmapAt_bounds (c : Nat) : 16 ≤ (bitmapAt c).1 ∧ (bitmapAt c).2 < 8 := by
  unfold bitmapAt
  dsimp only
  split <;> omega

section
variable (h : RedPlace g m t)
include h

theorem recordLines_within : ∀ l ∈ g.recordLines m (ruOf t.dpa),
    g.recordAt m (ruOf t.dpa) ≤ l * 128 ∧ l * 128 + 128 ≤ g.recordAt m (ruOf t.dpa) + g.recLines * 128 := by
  intro l hl
  obtain ⟨i, hi, rfl⟩ := List.mem_map.1 hl
  have hi' := List.mem_range.1 hi
  have ha := h.aligned
  omega

/-- Memory with the record opened, where it is to be. -/
theorem opened_out (M : Memory) {x : Nat} (hx : x < g.recordAt m (ruOf t.dpa) ∨ g.recordAt m (ruOf t.dpa) + g.recLines * 128 ≤ x) :
    (if first then recordOpened (g.recordLines m (ruOf t.dpa)) (g.recordAt m (ruOf t.dpa)) (leAt t.r.payload 0 4 % 2) (leAt t.r.payload 0 4) M else M).read x
      = M.read x := by
  have hl := h.lines
  split
  · exact recordOpened_out (by omega) (recordLines_within h) (by omega) M hx
  · rfl

theorem redSummed_out (M : Memory) {x : Nat} (hx : x < g.recordAt m (ruOf t.dpa) ∨ g.recordAt m (ruOf t.dpa) + g.recLines * 128 ≤ x)
    (hd : x < g.bankAt m (leAt t.r.payload 0 4 % 2) (ruOf t.dpa) ∨ g.bankAt m (leAt t.r.payload 0 4 % 2) (ruOf t.dpa) + 256 ≤ x) :
    (redSummed g m t first M).read x = M.read x := by
  unfold redSummed
  dsimp only
  rw [wordsWritten (length_contribution _ _), Memory.read_writeN_out _ _ _ _ (by rw [length_summed (length_contribution _ _)]; exact hd)]
  exact opened_out h M hx

theorem redSummed_record (M : Memory) {o k : Nat} (hk : o + k ≤ g.recLines * 128) :
    (redSummed g m t first M).readN (g.recordAt m (ruOf t.dpa) + o) k = Memory.readN (if first then recordOpened (g.recordLines m (ruOf t.dpa))
      (g.recordAt m (ruOf t.dpa)) (leAt t.r.payload 0 4 % 2) (leAt t.r.payload 0 4) M else M) (g.recordAt m (ruOf t.dpa) + o) k := by
  have ha := h.apart
  unfold redSummed
  dsimp only
  rw [wordsWritten (length_contribution _ _), Memory.readN_writeN_out (by rw [length_summed (length_contribution _ _)]; omega)]

omit h in
theorem redSummed_word (M : Memory) {i : Nat} (hi : i < 32) :
    leNat ((redSummed g m t first M).readN (g.bankAt m (leAt t.r.payload 0 4 % 2) (ruOf t.dpa) + 8 * i) 8) =
      uint 64 ((if first then 0 else sint 64 (leNat (M.readN (g.bankAt m (leAt t.r.payload 0 4 % 2) (ruOf t.dpa) + 8 * i) 8))) +
        ((contribution g t.r.payload).getD i (0, false, false)).1) := by
  unfold redSummed
  dsimp only
  rw [wordsWritten (length_contribution _ _), Memory.readN_writeN_in _ _ _ (by rw [length_summed (length_contribution _ _)]; omega),
    cut_summed (length_contribution _ _) _ _ hi]
  by_cases hf : first
  · simp only [if_pos hf]
  · simp only [if_neg hf]

theorem redCount_eq (M : Memory) : redCount g m t first M = if first then 1 else leNat (M.readN (g.recordAt m (ruOf t.dpa) + 8) 2) + 1 := by
  have hl := h.lines
  unfold redCount
  rw [redSummed_record h M (by omega)]
  by_cases hf : first
  · rw [if_pos hf, if_pos hf, recordOpened_count (by omega)]
    rfl
  · rw [if_neg hf, if_neg hf]

/-- What is neither of the unit's record nor of its words stays. -/
theorem redMemory_out (M : Memory) {x : Nat} (hx : x < g.recordAt m (ruOf t.dpa) ∨ g.recordAt m (ruOf t.dpa) + g.recLines * 128 ≤ x)
    (hd : x < g.bankAt m (leAt t.r.payload 0 4 % 2) (ruOf t.dpa) ∨ g.bankAt m (leAt t.r.payload 0 4 % 2) (ruOf t.dpa) + 256 ≤ x) :
    (redMemory g m t first M).read x = M.read x := by
  have hl := h.lines
  have hm := h.mapped
  unfold redMemory
  dsimp only
  rw [recordCounted_out (by omega) _ _ _ (by omega) (by omega)]
  exact redSummed_out h M hx hd

theorem redMemory_word (M : Memory) {i : Nat} (hi : i < 32) :
    leNat ((redMemory g m t first M).readN (g.bankAt m (leAt t.r.payload 0 4 % 2) (ruOf t.dpa) + 8 * i) 8) =
      uint 64 ((if first then 0 else sint 64 (leNat (M.readN (g.bankAt m (leAt t.r.payload 0 4 % 2) (ruOf t.dpa) + 8 * i) 8))) +
        ((contribution g t.r.payload).getD i (0, false, false)).1) := by
  have hl := h.lines
  have hm := h.mapped
  have ha := h.apart
  refine (congrArg leNat ?_).trans (redSummed_word M hi)
  unfold redMemory
  dsimp only
  exact Memory.readN_congr fun c _ _ => recordCounted_out (by omega) _ _ _ (by omega) (by omega)

theorem redMemory_stamp (M : Memory) (hs : ¬first → leNat (M.readN (g.recordAt m (ruOf t.dpa) + 4 * (leAt t.r.payload 0 4 % 2)) 4) = leAt t.r.payload 0 4) :
    leNat ((redMemory g m t first M).readN (g.recordAt m (ruOf t.dpa) + 4 * (leAt t.r.payload 0 4 % 2)) 4) = leAt t.r.payload 0 4 := by
  have hl := h.lines
  have hb := (bitmapAt_bounds (leAt t.r.payload 4 2)).1
  have hkeep : (redMemory g m t first M).readN (g.recordAt m (ruOf t.dpa) + 4 * (leAt t.r.payload 0 4 % 2)) 4 =
      (redSummed g m t first M).readN (g.recordAt m (ruOf t.dpa) + 4 * (leAt t.r.payload 0 4 % 2)) 4 := by
    unfold redMemory
    dsimp only
    exact Memory.readN_congr fun c _ _ => recordCounted_out (by omega) _ _ _ (by omega) (by omega)
  have hin : 4 * (leAt t.r.payload 0 4 % 2) + 4 ≤ g.recLines * 128 := by omega
  rw [hkeep, redSummed_record h M hin]
  by_cases hf : first
  · rw [if_pos hf, recordOpened_stamp (Nat.mod_lt _ (by decide)), leNat_toLe, Nat.mod_eq_of_lt]
    have hlen : (cut t.r.payload 0 4).length ≤ 4 := List.length_take_le _ _
    exact lt_of_lt_of_le (leNat_lt (cut t.r.payload 0 4)) ((Nat.pow_le_pow_right Nat.two_pos (show _ ≤ 32 by omega)).trans (by norm_num))
  · rw [if_neg hf]
    exact hs hf

omit h in
theorem redMemory_count (M : Memory) (hc : redCount g m t first M < 65536) :
    leNat ((redMemory g m t first M).readN (g.recordAt m (ruOf t.dpa) + 8) 2) = redCount g m t first M := by
  have hb := (bitmapAt_bounds (leAt t.r.payload 4 2)).1
  unfold redMemory
  dsimp only
  rw [recordCounted_count hb]
  exact Nat.mod_eq_of_lt hc

omit h in
theorem redMemory_bit (g : Region) (m : Nat) (t : Trk) (M : Memory) : bit ((redMemory g m t first M).read
    (g.recordAt m (ruOf t.dpa) + (bitmapAt (leAt t.r.payload 4 2)).1)).toNat (bitmapAt (leAt t.r.payload 4 2)).2 = true := by
  unfold redMemory
  dsimp only
  exact recordCounted_bit _ _ _ (bitmapAt_bounds _).2 _

end

end Sys2Proof.Machine
end

section
/-! PROOFS. Contributions and reads of reduction regions (R176, R181, R182, R185, R187, R188), from their tracker to their answer. -/

namespace Sys2Proof.Machine

variable {s v k : State} {t : Trk} {r : ReqMsg} {e : Nat × Bytes} {n : Nat} {g : Region} {m dpa op sl : Nat}

/-! ### Lines that hold no marker -/

section
variable (hu : k.upsets = []) (hp : k.poison = []) (hc : k.chanSt sl = 2)
include hu hp hc

theorem loadLine_clean (x : TenantId) (dl : Nat) : ∃ v, loadLine sl x dl k = (false, v) ∧ Worn v k := by
  obtain ⟨v, hv, hw⟩ := loadLine_of_none hu hc x dl
  exact ⟨v, by rw [hv, hp]; rfl, hw⟩

omit hu hp hc in
theorem anyPoison_clean (x : TenantId) (l : List Nat) : ∀ {k : State}, k.upsets = [] → k.poison = [] → k.chanSt sl = 2 →
    ∃ v, anyPoison sl x l k = (false, v) ∧ Worn v k := by
  induction l with
  | nil => exact fun {k} _ _ _ => ⟨k, rfl, .refl k⟩
  | cons a l ih =>
    intro k hu hp hc
    obtain ⟨v, hv, hw⟩ := loadLine_clean hu hp hc x a
    obtain ⟨u, hu', hw'⟩ := ih (hw.upsets.trans hu) (hw.poison.trans hp) ((hw.chanSt sl).trans hc)
    refine ⟨u, ?_, hw'.trans hw⟩
    unfold anyPoison
    rw [hv]
    exact hu'

/-! ### The checks of a contribution -/

omit hu hp hc in
theorem Worn.stamp (h : Worn v k) (g : Region) (m a b : Nat) : v.stamp g m a b = k.stamp g m a b := by
  unfold State.stamp
  rw [h.mem]

omit hu hp hc in
theorem redMapped_congr {p q : Prop} [Decidable p] [Decidable q] (h : p ↔ q) (sl n : Nat) (g : Region) (m : Nat) (t : Trk) (b : Bool) (s : State) :
    redMapped sl n g m t p b s = redMapped sl n g m t q b s := by
  obtain rfl := propext h
  congr

variable {first : Prop} [Decidable first]

/-- The record, and its line of the bitmap, are read. -/
theorem redAdd_reads (n : Nat) {g : Region} {m : Nat} {t : Trk} (hf : first ↔ k.stamp g m (ruOf t.dpa) (leAt t.r.payload 0 4 % 2) ≠ leAt t.r.payload 0 4) :
    ∃ v, Worn v k ∧ redAdd sl n g m t k = redMapped sl n g m t first false v := by
  obtain ⟨v, hv, hw⟩ := loadLine_clean hu hp hc g.tenant (g.recordAt m (ruOf t.dpa) / 128)
  have hfirst : v.stamp g m (ruOf t.dpa) (leAt t.r.payload 0 4 % 2) ≠ leAt t.r.payload 0 4 ↔ first := by rw [hw.stamp]; exact hf.symm
  rw [redAdd_eq, hv]
  unfold redStamped
  dsimp only
  by_cases hmap : false = true ∨ v.stamp g m (ruOf t.dpa) (leAt t.r.payload 0 4 % 2) ≠ leAt t.r.payload 0 4 ∨ (bitmapAt (leAt t.r.payload 4 2)).1 < 128
  · rw [if_pos hmap]
    exact ⟨v, hw, redMapped_congr hfirst _ _ _ _ _ _ _⟩
  · obtain ⟨u, hu', hw'⟩ := loadLine_clean (hw.upsets.trans hu) (hw.poison.trans hp) ((hw.chanSt sl).trans hc) g.tenant
      ((g.recordAt m (ruOf t.dpa) + (bitmapAt (leAt t.r.payload 4 2)).1) / 128)
    rw [if_neg hmap, hu']
    exact ⟨u, hw'.trans hw, redMapped_congr hfirst _ _ _ _ _ _ _⟩

theorem redAdd_repeats (n : Nat) {g : Region} {m : Nat} {t : Trk} (hs : k.stamp g m (ruOf t.dpa) (leAt t.r.payload 0 4 % 2) = leAt t.r.payload 0 4)
    (hb : bit (Memory.read k.mem (g.recordAt m (ruOf t.dpa) + (bitmapAt (leAt t.r.payload 4 2)).1)).toNat (bitmapAt (leAt t.r.payload 4 2)).2 = true) :
    ∃ v, Worn v k ∧ redAdd sl n g m t k = (⟨cmpMsg t.r stDUPLICATE 0, [], []⟩, v) := by
  obtain ⟨v, hw, heq⟩ := redAdd_reads (first := False) (g := g) (m := m) (t := t) hu hp hc n (by simp [hs])
  refine ⟨_, (count_worn .RED_DUP_CNT (sl / 4) 1 v).trans hw, heq.trans ?_⟩
  unfold redMapped
  exact if_pos ⟨rfl, by simp, by rw [hw.mem]; exact hb⟩

/-- A contribution that its unit has not had is applied. -/
theorem redAdd_applies (n : Nat) {g : Region} {m : Nat} {t : Trk} (hf : first ↔ k.stamp g m (ruOf t.dpa) (leAt t.r.payload 0 4 % 2) ≠ leAt t.r.payload 0 4)
    (hb : first ∨ bit (Memory.read k.mem (g.recordAt m (ruOf t.dpa) + (bitmapAt (leAt t.r.payload 4 2)).1)).toNat (bitmapAt (leAt t.r.payload 4 2)).2 = false) :
    ∃ v lines extra, redAdd sl n g m t k = (⟨cmpMsg t.r stOK 0, lines, extra⟩, v) ∧ Worn v (({ k with mem := redMemory g m t first k.mem } : State).setRegion n
        { g with gen := redGen g m (redCount g m t first k.mem) t.r.payload }) := by
  obtain ⟨v, hw, heq⟩ := redAdd_reads hu hp hc n hf
  have hnew : ¬((!false) = true ∧ (!decide first) = true ∧
      bit (Memory.read v.mem (g.recordAt m (ruOf t.dpa) + (bitmapAt (leAt t.r.payload 4 2)).1)).toNat (bitmapAt (leAt t.r.payload 4 2)).2 = true) := by
    rintro ⟨-, h1, h2⟩
    rw [hw.mem] at h2
    rcases hb with h | h
    · simp [h] at h1
    · rw [h] at h2
      cases h2
  have hlines : ((g.recordLines m (ruOf t.dpa)).any fun l => v.poison.contains l) = false := by
    rw [hw.poison, hp]
    simp
  obtain ⟨u, hwu, hgood⟩ : ∃ u, Worn u k ∧ (if false = true ∨ first then (false, v)
      else if ((g.recordLines m (ruOf t.dpa)).any fun l => v.poison.contains l) = true then (true, v)
      else anyPoison sl g.tenant [g.bankAt m (leAt t.r.payload 0 4 % 2) (ruOf t.dpa) / 128,
        g.bankAt m (leAt t.r.payload 0 4 % 2) (ruOf t.dpa) / 128 + 1] v) = (false, u) := by
    by_cases h : first
    · exact ⟨v, hw, if_pos (.inr h)⟩
    · obtain ⟨u, hu', hw'⟩ := anyPoison_clean g.tenant [g.bankAt m (leAt t.r.payload 0 4 % 2) (ruOf t.dpa) / 128,
        g.bankAt m (leAt t.r.payload 0 4 % 2) (ruOf t.dpa) / 128 + 1] (hw.upsets.trans hu) (hw.poison.trans hp) ((hw.chanSt sl).trans hc)
      exact ⟨u, hw'.trans hw, by rw [if_neg (by simp [h]), hlines, if_neg (by simp), hu']⟩
  have htake : redMapped sl n g m t first false v = redTake sl n g m t first u := by
    unfold redMapped
    dsimp only
    rw [if_neg hnew, hgood]
    rfl
  obtain ⟨w, lines, extra, hres, hww⟩ := redTake_effect (hwu.upsets.trans hu) (hwu.poison.trans hp) sl n g m t first
  refine ⟨w, lines, extra, heq.trans (htake.trans hres), ?_⟩
  rw [hwu.mem] at hww
  exact hww.trans ((hwu.setMem _).setRegion n _)

/-! ### Reads -/

omit hu hp hc in
theorem redRead_state (g : Region) (m : Nat) {t : Trk} (h : leAt t.r.payload 6 1 % 4 = 2) : redRead sl g m t k =
    (⟨datMsg 1 t.r (padTo 32 (toLe 4 g.gen.gOpen ++ toLe 4 g.gen.gDone ++ toLe 2 g.gen.nOpen ++ [byte g.gen.st, byte g.gen.flags])) t.r.len.toNat, [], []⟩, k) := by
  unfold redRead
  rw [show bits (leAt t.r.payload 6 1) 1 0 = 2 by simp [bits, h]]
  rfl

omit hu hp hc in
theorem redRead_early {g : Region} {m : Nat} {t : Trk} (h : leAt t.r.payload 6 1 % 4 = 0) (ho : leAt t.r.payload 0 4 = g.gen.gOpen)
    (hd : g.gen.doneValid = true → leAt t.r.payload 0 4 ≠ g.gen.gDone) : redRead sl g m t k = (⟨cmpMsg t.r stRETRY_BUSY (hintNs 10000), [], []⟩, k) := by
  unfold redRead
  rw [show bits (leAt t.r.payload 6 1) 1 0 = 0 by simp [bits, h]]
  dsimp only
  rw [if_neg fun hx => hd hx.1 hx.2, if_pos (.inl ho)]
  rfl

theorem redRead_done {g : Region} {m : Nat} {t : Trk} (h : leAt t.r.payload 6 1 % 4 = 0) (hd : g.gen.doneValid = true)
    (hg : leAt t.r.payload 0 4 = g.gen.gDone) : ∃ v, Worn v k ∧ redRead sl g m t k =
      (⟨datMsg 1 t.r (if k.stamp g m t.dpa (g.gen.gDone % 2) = g.gen.gDone then Memory.readN k.mem (g.bankAt m (g.gen.gDone % 2) t.dpa) (t.r.len.toNat + 1)
        else zeros (t.r.len.toNat + 1)) t.r.len.toNat, [], []⟩, v) := by
  obtain ⟨v, hv, hw⟩ := loadLine_clean hu hp hc g.tenant (g.recordAt m t.dpa / 128)
  obtain ⟨u, hu', hw'⟩ := loadLine_clean (hw.upsets.trans hu) (hw.poison.trans hp) ((hw.chanSt sl).trans hc) g.tenant (g.bankAt m (g.gen.gDone % 2) t.dpa / 128)
  unfold redRead redData
  rw [show bits (leAt t.r.payload 6 1) 1 0 = 0 by simp [bits, h]]
  dsimp only
  rw [if_pos ⟨hd, hg⟩, if_neg (by simp [hd]), hv]
  simp only [Bool.false_eq_true, if_false, hw.stamp]
  by_cases hs : k.stamp g m t.dpa (g.gen.gDone % 2) = g.gen.gDone
  · refine ⟨u, hw'.trans hw, ?_⟩
    rw [if_neg (by simp [hs]), hu', if_pos hs, (hw'.trans hw).mem]
    rfl
  · refine ⟨v, hw, ?_⟩
    rw [if_pos hs, if_neg hs]

end

end Sys2Proof.Machine
end

section
/-! PROOFS. Requests of reduction regions that wait for nothing (R31, R181, R182, R185, R187, R188), and with them every request of an
untracked line. -/

namespace Sys2Proof.Machine

variable {s v k w : State} {t : Trk} {r : ReqMsg} {e : Nat × Bytes} {n : Nat} {g : Region} {m dpa op sl : Nat}

/-! ### The operations -/

theorem Ready.out_block (h : Ready g t k) (w : Bool) : bypassEnd t.slice (t.dpa / 16384) g w k = k := by
  have ho := h.out w
  rwa [Nat.div_div_eq_div_mul] at ho

theorem perform_add (ht : Taken 0x10 r e n g dpa sl t) (htr : k.trk t.id = some t) (m : Nat) : perform t.id n g m k =
    complete t.id t.slice n g (redAdd t.slice n g m t k).1
      (bypassEnd t.slice (t.dpa / 16384) g ((redAdd t.slice n g m t k).1.lines ≠ []) (redAdd t.slice n g m t k).2) := by
  unfold perform
  rw [htr]
  dsimp only
  rw [if_neg (by rw [ht.op]; decide), if_neg (by rw [ht.op]; decide), if_pos ht.op]

theorem perform_look (ht : Taken 0x11 r e n g dpa sl t) (htr : k.trk t.id = some t) (m : Nat) : perform t.id n g m k =
    complete t.id t.slice n g (redRead t.slice g m t k).1 (bypassEnd t.slice (t.dpa / 16384) g false (redRead t.slice g m t k).2) := by
  unfold perform
  rw [htr]
  dsimp only
  rw [if_neg (by rw [ht.op]; decide), if_neg (by rw [ht.op]; decide), if_neg (by rw [ht.op]; decide), if_pos ht.op]

/-- A region whose generation has another record, and is no nearer its end. -/
theorem State.Free.setRegion (h : k.Free) {x : Region} (hp : x.gen.phase = 0) (hs : x.gen.st ≠ 9) (n : Nat) : (k.setRegion n x).Free := by
  obtain ⟨hst, hl, hx, hc, ht, hq, hk, hr, hj, hp6, hg⟩ := h
  refine ⟨hst, hl, hx, hc, ht, hq, hk, hr, hj, hp6, List.all_eq_true.2 fun y hy => ?_⟩
  rcases mem_ins hy with rfl | ⟨hm, -⟩
  · simp [hp, hs]
  · exact List.all_eq_true.1 hg y hm

theorem State.Free.region (h : k.Free) (hr : k.region n = some g) : g.gen.phase = 0 ∧ g.gen.st ≠ 9 := by
  obtain ⟨-, -, -, -, -, -, -, -, -, -, hg⟩ := h
  have := List.all_eq_true.1 hg _ (mem_of_find hr)
  simpa using this

/-- A generation that is not over with a contribution keeps its state. -/
theorem redGen_open {cnt : Nat} (h1 : cnt = g.gen.nOpen → g.gen.ruDone + 1 ≠ g.ruCount m) (h2 : g.gen.ruDone ≠ g.ruCount m) (p : Bytes) :
    (redGen g m cnt p).phase = g.gen.phase ∧ (redGen g m cnt p).st = g.gen.st ∧
      (redGen g m cnt p).ruDone = if cnt = g.gen.nOpen then g.gen.ruDone + 1 else g.gen.ruDone := by
  unfold redGen
  dsimp only
  rw [if_neg fun h => by
    have h := h.1
    split at h
    · exact h1 ‹_› h
    · exact h2 h]
  exact ⟨rfl, rfl, rfl⟩

/-- Where nothing waits, a request of a reduction region, its blocks in DRAM, comes to its operation. -/
theorem Reaches.reduces (hr : Reaches op r s v e n g m dpa) (hi : s.Idle) (hu : v.upsets = [])
    (hp : v.InPlace g.tenant (v.blockHome g m (dpa / 16384)) (dpa / 16384)) (hh : s.su.held = false) {c : Instr} (hc : exec c s = pumped (reqArrive op r) s)
    (hop : op = 0x10 ∨ op = 0x11) (h2 : g.kind = 2) (hd : g.durable = false) (hred : op = 0x10 → redCheck g r.payload = none) (hm : v.memberOf g = some m)
    (hb : ∀ b ∈ g.redBlocks m (ruOf dpa) (if op = 0x10 then leAt r.payload 0 4 % 2 else g.gen.gDone % 2),
      v.InPlace g.tenant (v.blockHome g m (dpa / 16384)) b)
    {P : State → Prop} (hset : ∀ w, P w → P (settle w))
    (hP : ∀ t k, Taken op r e n g dpa (v.blockHome g m (dpa / 16384)) t → Worn k (v.withTrk t) → Ready g t k →
      (perform t.id n g m k).Resting ∧ P (perform t.id n g m k)) : Answers c s P := by
  refine hr.performs hi hh hc (by omega) (by omega) (by omega) hred (durableGate_open (fun h => by rw [hd] at h; cases h) op) hu
    (fun t ht b hb' => ?_) hset fun t k ht hw => ?_
  · rw [hm, Option.getD_some] at hb'
    unfold needBlocks at hb'
    rw [if_pos h2, ht.op, ht.dpa, ht.r] at hb'
    refine hb b ?_
    split <;> simp_all
  · rw [hm, Option.getD_some]
    exact hP t k ht hw (hr.ready hi hu hp ht hw)

/-! ### Contributions -/

section
variable (hh : s.su.held = false) (hi : s.Idle) (hu : v.upsets = []) (hp : v.InPlace g.tenant (v.blockHome g m (dpa / 16384)) (dpa / 16384))
  (h2 : g.kind = 2) (hd : g.durable = false) (hm : v.memberOf g = some m) (hpo : v.poison = [])
include hh hi hu hp h2 hd hm hpo

section
variable (hr : Reaches 0x10 r s v e n g m dpa) (hred : redCheck g r.payload = none)
  (hb : ∀ b ∈ g.redBlocks m (ruOf dpa) (leAt r.payload 0 4 % 2), v.InPlace g.tenant (v.blockHome g m (dpa / 16384)) b)
include hr hred hb

theorem redAdd_duplicate (hs : s.stamp g m (ruOf dpa) (leAt r.payload 0 4 % 2) = leAt r.payload 0 4)
    (hbit : bit (Memory.read s.mem (g.recordAt m (ruOf dpa) + (bitmapAt (leAt r.payload 4 2)).1)).toNat (bitmapAt (leAt r.payload 4 2)).2 = true) :
    Answers (.redAdd r) s fun t => t.Ans (cmpMsg r stDUPLICATE 0) ∧ t.mem = s.mem ∧ t.rgn = s.rgn := by
  refine hr.reduces hi hu hp hh rfl (.inl rfl) h2 hd (fun _ => hred) hm hb (fun w h => h) fun t k ht hw hk => ?_
  have hmem : k.mem = s.mem := hw.mem.trans (hr.1.kept offChecks_mem)
  have hrgn : k.rgn = s.rgn := hw.rgn.trans (hr.1.kept offChecks_rgn)
  obtain ⟨u, hwu, hadd⟩ := redAdd_repeats (g := g) (m := m) (t := t) hk.upsets (hw.poison.trans hpo) hk.place.1 n
    (by rw [ht.dpa, ht.r]; unfold State.stamp at hs ⊢; rw [hmem]; exact hs) (by rw [ht.dpa, ht.r, hmem]; exact hbit)
  have hku := hwu.ready hk
  rw [perform_add ht (trk_only hk.trks), hadd]
  dsimp only
  rw [hku.out_block, ht.r]
  have hgone := complete_goes (d := ⟨cmpMsg r stDUPLICATE 0, [], []⟩) (g := g) (.inl hd) hku.trks ht.host ht.who t.slice n
  exact ⟨hgone.resting hku.free, hgone.ans, hgone.mem.trans (hwu.mem.trans hmem),
    (hgone.keeps (p := State.rgn) (fun _ _ => rfl) (fun _ _ => rfl) (fun _ _ => rfl) (fun _ _ => rfl) fun _ _ => rfl).trans (hwu.rgn.trans hrgn)⟩

/-- A contribution that its unit has not had leaves the memory and the generation it comes to. -/
theorem redAdd_taken {first : Prop} [Decidable first] (hf : first ↔ s.stamp g m (ruOf dpa) (leAt r.payload 0 4 % 2) ≠ leAt r.payload 0 4)
    (hbit : first ∨ bit (Memory.read s.mem (g.recordAt m (ruOf dpa) + (bitmapAt (leAt r.payload 4 2)).1)).toNat (bitmapAt (leAt r.payload 4 2)).2 = false)
    {t₀ : Trk} (hdpa : t₀.dpa = dpa) (hr₀ : t₀.r = r)
    (h1 : redCount g m t₀ first s.mem = g.gen.nOpen → g.gen.ruDone + 1 ≠ g.ruCount m) (hru : g.gen.ruDone ≠ g.ruCount m) :
    Answers (.redAdd r) s fun t => t.Ans (cmpMsg r stOK 0) ∧ t.mem = redMemory g m t₀ first s.mem ∧
      t.region n = some { g with gen := redGen g m (redCount g m t₀ first s.mem) r.payload } := by
  refine hr.reduces hi hu hp hh rfl (.inl rfl) h2 hd (fun _ => hred) hm hb (fun w h => h) fun t k ht hw hk => ?_
  have hmem : k.mem = s.mem := hw.mem.trans (hr.1.kept offChecks_mem)
  obtain ⟨u, lines, extra, hadd, hwu⟩ := redAdd_applies (g := g) (m := m) (t := t) (first := first) hk.upsets (hw.poison.trans hpo) hk.place.1 n
    (by rw [ht.dpa, ht.r]; unfold State.stamp at hf ⊢; rw [hmem]; exact hf) (by rw [ht.dpa, ht.r, hmem]; exact hbit)
  have hM : redMemory g m t first k.mem = redMemory g m t₀ first s.mem := by
    unfold redMemory redSummed
    rw [ht.dpa, ht.r, hdpa, hr₀, hmem]
  have hC : redCount g m t first k.mem = redCount g m t₀ first s.mem := by
    unfold redCount redSummed
    rw [ht.dpa, ht.r, hdpa, hr₀, hmem]
  rw [hM, hC, ht.r] at hwu
  have hreg : k.region n = some g := by
    unfold State.region
    rw [hw.rgn]
    exact hr.1.region
  obtain ⟨hph, hst⟩ := hk.free.region hreg
  obtain ⟨hph', hst', -⟩ := redGen_open h1 hru r.payload
  obtain ⟨G, hG⟩ : ∃ G, G = redGen g m (redCount g m t₀ first s.mem) r.payload := ⟨_, rfl⟩
  obtain ⟨M, hMdef⟩ : ∃ M, M = redMemory g m t₀ first s.mem := ⟨_, rfl⟩
  rw [← hG] at hwu hph' hst' ⊢
  rw [← hMdef] at hwu ⊢
  have hmfree : ({ k with mem := M } : State).Free := hk.free
  have hfree : (({ k with mem := M } : State).setRegion n { g with gen := G }).Free :=
    hmfree.setRegion (x := { g with gen := G }) (hph'.trans hph) (fun h => hst (hst'.symm.trans h)) n
  have hku : Ready g t u := hwu.ready ⟨hk.trks, hfree, hk.upsets, hk.place⟩
  rw [perform_add ht (trk_only hk.trks), hadd]
  dsimp only
  rw [hku.out_block, ht.r]
  have hgone := complete_goes (d := ⟨cmpMsg r stOK 0, lines, extra⟩) (g := g) (.inl hd) hku.trks ht.host ht.who t.slice n
  refine ⟨hgone.resting hku.free, hgone.ans, hgone.mem.trans hwu.mem, ?_⟩
  refine (hgone.keeps (p := fun s => s.region n) (fun _ _ => rfl) (fun _ _ => rfl) (fun _ _ => rfl) (fun _ _ => rfl) fun _ _ => rfl).trans ?_
  unfold State.region
  rw [hwu.rgn]
  exact Sparse.find_ins_self _ _ _

end

/-! ### Reads -/

/-- A read of a reduction region is answered by what it comes to. -/
theorem redRead_answers (hr : Reaches 0x11 r s v e n g m dpa)
    (hb : ∀ b ∈ g.redBlocks m (ruOf dpa) (g.gen.gDone % 2), v.InPlace g.tenant (v.blockHome g m (dpa / 16384)) b) {x : Msg}
    (hx : ∀ t k, t.r = r → t.dpa = dpa → k.mem = s.mem → k.upsets = [] → k.poison = [] → k.chanSt t.slice = 2 →
      ∃ u, Worn u k ∧ redRead t.slice g m t k = (⟨x, [], []⟩, u)) :
    Answers (.redRead r) s fun t => t.Ans x ∧ t.mem = s.mem := by
  refine hr.reduces hi hu hp hh rfl (.inr rfl) h2 hd (fun h => by cases h) hm hb (fun w h => h) fun t k ht hw hk => ?_
  have hmem : k.mem = s.mem := hw.mem.trans (hr.1.kept offChecks_mem)
  obtain ⟨u, hwu, hread⟩ := hx t k ht.r ht.dpa hmem hk.upsets (hw.poison.trans hpo) hk.place.1
  have hku := hwu.ready hk
  rw [perform_look ht (trk_only hk.trks), hread]
  dsimp only
  rw [hku.out_block]
  have hgone := complete_goes (d := ⟨x, [], []⟩) (g := g) (.inl hd) hku.trks ht.host ht.who t.slice n
  exact ⟨hgone.resting hku.free, hgone.ans, hgone.mem.trans (hwu.mem.trans hmem)⟩

end

end Sys2Proof.Machine
end

section
open Sys2Proof Sys2Proof.Machine

/-- Settles O12: the tracker of a request where nothing else waits runs alone, and its operation reads or writes just its bytes. -/
theorem requestsAreServed : Obligations.RequestsAreServed := by
  intro s v r e n g m dpa hh hi hu hd hp
  refine ⟨fun h0 => ⟨fun hr => ⟨rdOnce_plain hh hi hu hd hp h0 hr, rdOnce_poisoned hh hi hu hd hp h0 hr⟩, fun hpt =>
    ⟨wrLine_plain hh hi hu hd hp h0 hpt, wrPart_plain hh hi hu hd hp h0 hpt, atomic_plain hh hi hu hd hp h0 hpt⟩⟩, fun h2 hvol =>
    ⟨fun gen c bank data ra by_ bi first hr hred hgen hc hbank hdata hra hbb hfirst hmo hra0 _ hby hrl hap hb hpo => ?_,
      fun hr hpo hmo hb => ⟨fun hsel => ?_, fun hsel hdv hg => ?_, fun hsel ho hne => ?_⟩⟩⟩
  · obtain ⟨rfl, rfl⟩ : by_ = (bitmapAt c).1 ∧ bi = (bitmapAt c).2 := by rw [← hbb]; exact ⟨rfl, rfl⟩
    subst hgen hc hbank hdata hra
    have hiff : first = true ↔ s.stamp g m (ruOf dpa) (leAt r.payload 0 4 % 2) ≠ leAt r.payload 0 4 := by
      rw [hfirst, decide_eq_true_iff]
      rfl
    refine ⟨fun hf hbit => redAdd_duplicate hh hi hu hp h2 hvol hmo hpo hr hred hb (by rw [hf] at hiff; simpa using hiff) hbit, fun hnew cnt hcnt h1 hru hlt => ?_⟩
    obtain ⟨t₀, rfl, rfl⟩ : ∃ t₀ : Trk, t₀.dpa = dpa ∧ t₀.r = r := ⟨newTrk (.host e.1) 0x10 r n g m dpa 0 none v, rfl, rfl⟩
    have hplace : RedPlace g m t₀ := ⟨hra0, hrl, hap, hby⟩
    have hcount : redCount g m t₀ (first = true) s.mem = cnt := (redCount_eq hplace s.mem).trans hcnt.symm
    obtain ⟨u, hu', hans, hmem, hreg⟩ := redAdd_taken hh hi hu hp h2 hvol hmo hpo hr hred hb hiff hnew rfl rfl (by rw [hcount]; exact h1) hru
    obtain ⟨-, hst, hdone⟩ := redGen_open (g := g) (m := m) h1 hru t₀.r.payload
    refine ⟨u, hu', hans, fun i hi' => ?_, ?_, ?_, ?_, fun x hx hxd => ?_, _, hreg, ?_, ?_⟩
    · rw [hmem]
      exact redMemory_word hplace s.mem hi'
    · rw [hmem]
      exact redMemory_stamp hplace s.mem fun hf => by_contra fun hne => hf (hiff.2 hne)
    · rw [hmem, redMemory_count _ (by rw [hcount]; exact hlt), hcount]
    · rw [hmem]
      exact redMemory_bit g m t₀ s.mem
    · rw [hmem]
      exact redMemory_out hplace s.mem hx hxd
    · rw [hcount]
      exact hdone
    · rw [hcount]
      exact hst
  · exact redRead_answers hh hi hu hp h2 hvol hmo hpo hr hb fun t k htr _ _ _ _ _ =>
      ⟨k, .refl k, by rw [redRead_state g m (by rw [htr]; exact hsel), htr]⟩
  · refine redRead_answers hh hi hu hp h2 hvol hmo hpo hr hb fun t k htr htd hmem hku hkp hkc => ?_
    obtain ⟨u, hw, hread⟩ := redRead_done (g := g) (m := m) (t := t) hku hkp hkc (by rw [htr]; exact hsel) hdv (by rw [htr]; exact hg)
    refine ⟨u, hw, hread.trans ?_⟩
    unfold State.stamp
    rw [htr, htd, hmem]
  · exact redRead_answers hh hi hu hp h2 hvol hmo hpo hr hb fun t k htr _ _ _ _ _ =>
      ⟨k, .refl k, by rw [redRead_early (by rw [htr]; exact hsel) (by rw [htr]; exact ho) (by rw [htr]; exact hne), htr]⟩

end

section
/-! PROOFS. The directory's part of a request of a tracked line that nobody must give up first (R150 to R156, R164, R170). -/

namespace Sys2Proof.Machine

variable {s u v w k z : State} {t : Trk} {r : ReqMsg} {e : Nat × Bytes} {n : Nat} {g : Region} {m dpa op sl x : Nat} {y : DirEnt}

/-! ### The directory beside the rest -/

/-- `z` is `k` but for the directory, and for what wears. -/
def Aside (z k : State) : Prop := ∃ d, Worn z (k.updDir d)

theorem Worn.updDir (h : Worn z k) (d : Sparse DirEnt → Sparse DirEnt) : Worn (z.updDir d) (k.updDir d) := by
  obtain ⟨⟨r, c, ch, a, l, dc, rfl⟩, hc, hw⟩ := h
  exact ⟨⟨r, c, ch, a, l, dc, rfl⟩, hc, hw⟩

theorem Worn.aside (h : Worn z k) : Aside z k := ⟨id, h⟩

theorem aside_updDir (d : Sparse DirEnt → Sparse DirEnt) (k : State) : Aside (k.updDir d) k := ⟨d, .refl _⟩

theorem Aside.trans (h : Aside z k) (h' : Aside k s) : Aside z s := by
  obtain ⟨d, hd⟩ := h
  obtain ⟨d', hd'⟩ := h'
  exact ⟨d ∘ d', hd.trans (hd'.updDir d)⟩

theorem Aside.keeps {α : Type} {p : State → α} (h : Aside z k)
    (hp : ∀ s r c k a g d, p { s with regs := r, cnt64 := c, chans := k, tagc := a, tags := g, pool := { s.pool with dirc := d } } = p s)
    (hd : ∀ s d, p (State.updDir s d) = p s) : p z = p k := by
  obtain ⟨d, hw⟩ := h
  exact (hw.keeps hp).trans (hd k d)

theorem Aside.mem (h : Aside z k) : z.mem = k.mem := h.keeps (fun _ _ _ _ _ _ _ => rfl) fun _ _ => rfl
theorem Aside.poison (h : Aside z k) : z.poison = k.poison := h.keeps (fun _ _ _ _ _ _ _ => rfl) fun _ _ => rfl
theorem Aside.trks (h : Aside z k) : z.pool.trks = k.pool.trks := h.keeps (p := fun s => s.pool.trks) (fun _ _ _ _ _ _ _ => rfl) fun _ _ => rfl

theorem Aside.ready (h : Aside z k) (hk : Ready g t k) : Ready g t z := by
  obtain ⟨d, hw⟩ := h
  exact hw.ready (hk.updDir d)

theorem Worn.dirGeom (h : Worn z k) (sl : Nat) : z.dirGeom sl = k.dirGeom sl := by
  obtain ⟨p, hp⟩ := h.chan (chanOf sl)
  unfold State.dirGeom
  rw [hp]

theorem Worn.dirIdx (h : Worn z k) (sl : Nat) (x : TenantId) (l : Nat) : z.dirIdx sl x l = k.dirIdx sl x l := by
  unfold State.dirIdx
  rw [h.dirGeom, h.sliceList]

theorem Worn.dirSet (h : Worn z k) (sl : Nat) (x : TenantId) (i : Nat) : z.dirSet sl x i = k.dirSet sl x i := by
  have hh : ∀ b, z.homeSlice x b = k.homeSlice x b := fun b => h.keeps (p := fun s => s.homeSlice x b) fun _ _ _ _ _ _ _ => rfl
  unfold State.dirSet
  simp only [h.dir, h.dirIdx, hh]

/-! ### Entries -/

theorem setEnt_find (s : State) (l : Nat) (y : DirEnt) : (s.setEnt l y).pool.dir.find l = some y := Sparse.find_ins_self _ _ _

/-- A table whose entries are changed each at its key. -/
theorem find_map_keyed {α : Type} {f : Nat × α → Nat × α} (hf : ∀ a, (f a).1 = a.1) (d : Sparse α) (i : Nat) :
    Sparse.find (d.map f) i = (d.find i).map fun a => (f (i, a)).2 := by
  induction d with
  | nil => rfl
  | cons a d ih =>
    obtain ⟨j, b⟩ := a
    have hj : f (j, b) = (j, (f (j, b)).2) := Prod.ext (hf (j, b)) rfl
    rw [List.map_cons, hj, Sparse.find_cons, Sparse.find_cons, ih]
    split
    · next h => rw [h]; rfl
    · rfl

theorem dirTouch_find (sl : Nat) (x : TenantId) {l : Nat} (h : s.pool.dir.find l = some y) :
    (dirTouch sl x l s).pool.dir.find l = some { y with lru := 0 } := by
  unfold dirTouch
  rw [h]
  refine (find_map_keyed (fun a => ?_) _ _).trans ?_
  · split
    · rfl
    · split <;> rfl
  · rw [h]
    simp

theorem dirTouch_aside (sl : Nat) (x : TenantId) (l : Nat) (s : State) : Aside (dirTouch sl x l s) s := by
  obtain ⟨f, hf⟩ := dirTouch_dir sl x l s
  rw [hf]
  exact aside_updDir f s

/-! ### The lookup -/

/-- A line's entry is there, or is made where its set has room. -/
theorem needEntry_makes (ht : k.pool.trks = [t]) {i : Trk} (hid : i.id = t.id) (hroom : k.pool.dir.find (i.dpa / 128) = none →
      (k.dirSet i.slice i.tenant (k.dirIdx i.slice i.tenant (i.dpa / 128))).length < (k.dirGeom i.slice).2) :
    ∃ b d y, needEntry i.id i k = (true, (k.updDir d).withTrk { t with made := b }) ∧ (k.updDir d).pool.dir.find (i.dpa / 128) = some y ∧
      (k.pool.dir.find (i.dpa / 128) = some y ∨ k.pool.dir.find (i.dpa / 128) = none ∧ ∃ c, y = .fresh i.tenant i.region c) := by
  unfold needEntry
  dsimp only
  cases hf : k.pool.dir.find (i.dpa / 128) with
  | some y =>
    refine ⟨t.made, id, y, ?_, hf, .inl rfl⟩
    rw [if_pos (by rfl)]
    unfold State.withTrk
    rw [← ht]
    rfl
  | none =>
    set c := freeLru (k.dirSet i.slice i.tenant (k.dirIdx i.slice i.tenant (i.dpa / 128)))
    refine ⟨true, fun d => d.ins (i.dpa / 128) (.fresh i.tenant i.region c), .fresh i.tenant i.region c, ?_, setEnt_find k _ _, .inr ⟨rfl, c, rfl⟩⟩
    rw [if_neg (by simp), if_pos (hroom hf), hid]
    exact congrArg (Prod.mk true) (updTrk_only (s := k.setEnt (i.dpa / 128) (.fresh i.tenant i.region c)) ht _)

theorem updTrk_withTrk {a : Trk} {i : Nat} (h : a.id = i) (s : State) (f : Trk → Trk) : (s.withTrk a).updTrk i f = s.withTrk (f a) := by
  rw [← h]
  exact updTrk_only (withTrk_trks s a) f

theorem trk_withTrk {a : Trk} {i : Nat} (h : a.id = i) (s : State) : (s.withTrk a).trk i = some a := by
  rw [← h]
  exact trk_only (withTrk_trks s a)

/-- The tracker of a request that the directory has let go on. -/
def Trk.granted (t : Trk) (made near upg : Bool) : Trk := { t with locked := true, made := made, dirPh := 2, near := near, upg := upg }

/-- A request goes on past the directory where nobody must give the line up first. -/
theorem directory_grants (ht : Taken op r e n g dpa sl t) (hop : op = 2 ∨ op = 3 ∨ op = 4 ∨ op = 7) (hx : t.slot = some x)
    (hroom : v.pool.dir.find (dpa / 128) = none → (v.dirSet sl g.tenant (v.dirIdx sl g.tenant (dpa / 128))).length < (v.dirGeom sl).2)
    (hold : ∀ y, v.pool.dir.find (dpa / 128) = some y → y.holds x = false)
    (hplan : ∀ y, v.pool.dir.find (dpa / 128) = some y → snoopPlan y op (some x) = none) :
    ∃ b z y, directory t.id t (v.withTrk { t with locked := true }) =
        (true, z.withTrk (t.granted b (decide (op = 7) && decide (y.pred < 2)) (decide (op = 4) && decide (y.st = 1) && y.holds x))) ∧
      Aside z (v.withTrk { t with locked := true }) ∧ z.pool.dir.find (dpa / 128) = some y ∧
      (v.pool.dir.find (dpa / 128) = some y ∨ v.pool.dir.find (dpa / 128) = none ∧ ∃ c, y = .fresh g.tenant n c) := by
  obtain ⟨tl, htl⟩ : ∃ tl : Trk, tl = { t with locked := true } := ⟨_, rfl⟩
  rw [← htl]
  have hid : tl.id = t.id := by rw [htl]
  have hw := dirUse_worn t.slice t.tenant (t.dpa / 128) (v.withTrk tl)
  obtain ⟨s1, hs1⟩ : ∃ s1, s1 = dirUse t.slice t.tenant (t.dpa / 128) (v.withTrk tl) := ⟨_, rfl⟩
  rw [← hs1] at hw
  have hdir : s1.pool.dir = v.pool.dir := hw.dir
  obtain ⟨b, d, y, hneed, hfind, hy⟩ := needEntry_makes (k := s1) (i := t) (hw.trks.trans rfl) hid.symm (by
    rw [hdir, hw.dirSet, hw.dirIdx, hw.dirGeom, ht.dpa, ht.slice, ht.tenant]
    exact hroom)
  rw [hdir, ht.dpa, ht.tenant, ht.region] at hy
  rw [ht.dpa] at hfind
  have hnone : (s1.pool.dir.find (t.dpa / 128)).any (fun e => t.slot.any fun r => e.holds r) = false := by
    rw [hdir, hx, ht.dpa]
    cases hf : v.pool.dir.find (dpa / 128) with
    | none => rfl
    | some y => simpa using hold y hf
  have hsnoop : snoopPlan y t.op t.slot = none := by
    rw [ht.op, hx]
    rcases hy with hf | ⟨-, c, rfl⟩
    · exact hplan y hf
    · rfl
  refine ⟨b, s1.updDir d, y, ?_, (aside_updDir d s1).trans hw.aside, hfind, hy⟩
  unfold directory
  dsimp only
  rw [if_pos ht.dirPh, if_pos ht.dirPh, ← hs1, if_neg (by rw [hnone]; simp), if_pos (by rw [ht.op]; rcases hop with rfl | rfl | rfl | rfl <;> rfl), hneed]
  dsimp only
  rw [show ((s1.updDir d).withTrk { tl with made := b }).pool.dir.find (t.dpa / 128) = some y by rw [ht.dpa]; exact hfind]
  dsimp only
  rw [hsnoop]
  dsimp only
  rw [updTrk_withTrk (by exact hid), trk_withTrk (by exact hid)]
  dsimp only
  rw [if_pos (by rw [htl]; exact ht.snoops), updTrk_withTrk (by exact hid), htl]
  have hnear : (decide (op = 7) && decide (y.pred < 2)) = (decide (t.op = 7) && t.slot.isSome && decide (y.pred < 2)) := by
    rw [ht.op, hx, Option.isSome_some, Bool.and_true]
  have hupg : (decide (op = 4) && decide (y.st = 1) && y.holds x) = (decide (t.op = 4) && decide (y.st = 1) && y.holds (t.slot.getD 0)) := by
    rw [ht.op, hx, Option.getD_some]
  rw [hnear, hupg]
  rfl

/-! ### On to the operation -/

theorem ownerMark_volatile (hd : g.durable = false) (n : Nat) (l : Nat) (b : Bool) (s : State) : ownerMark n g l b s = ([], s) := by
  unfold ownerMark
  rw [if_neg (by simp [hd])]

theorem withTrk_self {a : Trk} (h : k.pool.trks = [a]) : k.withTrk a = k := by
  unfold State.withTrk
  rw [← h]

/-- A tracker that no snoop has answered has nothing to write. -/
theorem applySnoop_nothing {a : Trk} (hd : g.durable = false) (ht : k.pool.trks = [a]) (hdata : a.data = none) (hp : a.poisoned = false) (ha : a.acks = [])
    (n : Nat) : applySnoop a.id n g k = k := by
  have hsame : ({ a with data := none, poisoned := false, acks := [] } : Trk) = a := by
    cases a
    simp_all
  unfold applySnoop
  rw [trk_only ht]
  dsimp only
  rw [ownerMark_volatile hd, ite_self, hdata, hp]
  simp only [Bool.false_eq_true, if_false, journalLines_nothing (.inl hd), updTrk_only ht, hsame, withTrk_self ht, if_true, ha, List.foldl_nil]

/-- A request that the directory lets go on comes to its operation. -/
theorem serveLocked_grants {a : Trk} (h1 : g.kind = 1) (hd : g.durable = false) (hdir : directory t.id t v = (true, z.withTrk a)) (hid : a.id = t.id)
    (hop : a.op < 0x40) (hsl : a.slice = t.slice) (hdpa : a.dpa = t.dpa) (hr : Ready g a (z.withTrk a)) (hdata : a.data = none) (hp : a.poisoned = false)
    (ha : a.acks = []) : ∃ k, serveLocked t.id t g v = perform t.id t.region g ((z.memberOf g).getD 0) k ∧ Worn k (z.withTrk a) := by
  have hneed : needBlocks g ((z.memberOf g).getD 0) t = [t.dpa / 16384] := by
    unfold needBlocks
    rw [if_neg (by omega)]
  have hplace := hr.place
  rw [Nat.div_div_eq_div_mul, hsl, hdpa] at hplace
  obtain ⟨k, hens, hw⟩ := ensureAll_inPlace t.region g [t.dpa / 16384] hr.upsets (by simpa using hplace)
  have hdry : ¬(a.op = 0x41 ∨ (a.op = 0x50 ∧ a.data.isNone = true ∧ (!a.poisoned) = true)) := by omega
  refine ⟨k, ?_, hw⟩
  unfold serveLocked
  rw [if_pos h1, hdir]
  dsimp only
  rw [trk_withTrk hid, Option.getD_some, if_neg hdry, show (z.withTrk a).memberOf g = z.memberOf g from rfl, hneed, hens]
  dsimp only
  rw [if_pos h1, ← hid, applySnoop_nothing hd (hw.trks.trans rfl) hdata hp ha]

end Sys2Proof.Machine
end

section
/-! PROOFS. Lines that are granted (R153, R155, R170): shared, owned, or owned for a near atomic; each answers with the line. -/

namespace Sys2Proof.Machine

variable {s u v w k z : State} {t a : Trk} {r : ReqMsg} {e : Nat × Bytes} {n : Nat} {g : Region} {m dpa op sl x : Nat} {y : DirEnt}

/-! ### What is written into an entry -/

section
variable (hx : a.slot = some x) (hy : s.pool.dir.find (a.dpa / 128) = some y)
include hx hy

theorem grant_shares (n : Nat) (g : Region) : grant n g a false s =
    s.setEnt (a.dpa / 128) { y with st := 1, sharers := insUp x (if y.st = 1 then y.sharers else []) } := by
  unfold grant
  dsimp only
  rw [hx, hy]
  rfl

theorem grant_owns (hd : g.durable = false) (n : Nat) : grant n g a true s = s.setEnt (a.dpa / 128) { y with st := 2, owner := x, sharers := [x] } := by
  unfold grant
  dsimp only
  rw [hx, hy]
  dsimp only
  rw [if_pos rfl, ownerMark_volatile hd, journalLines_nothing (.inl hd)]

theorem predUpdate_marks (hop : a.op = 3 ∨ a.op = 4 ∨ a.op = 7) : predUpdate a s =
    s.setEnt (a.dpa / 128) { y with pred := newPred y a.op a.sentInv x, laV := true, lastAtom := x } := by
  unfold predUpdate
  rw [hx, hy]
  exact if_pos hop

end

/-! ### The operations -/

/-- A tracker that the directory has let go on, with its line's entry. -/
structure Allowed (g : Region) (x : Nat) (y : DirEnt) (e : Nat × Bytes) (a : Trk) (k : State) : Prop extends Ready g a k where
  who : a.who = .host e.1
  slot : a.slot = some x
  wait : a.wait = .flush
  entry : k.pool.dir.find (a.dpa / 128) = some y
  clean : k.poison.contains (a.dpa / 128) = false

theorem Allowed.loads (h : Allowed g x y e a k) (h5 : a.op ≠ 5) (h6 : a.op ≠ 6) :
    ∃ k', (if a.op = 5 ∨ (a.op = 6 ∧ a.r.len = 127) then (false, k) else loadLine a.slice g.tenant (a.dpa / 128) k) = (false, k') ∧
      Ready g a k' ∧ Aside k' k ∧ k'.mem = k.mem ∧ k'.pool.dir.find (a.dpa / 128) = some y := by
  obtain ⟨k', hl, hw⟩ := h.load
  exact ⟨k', by rw [if_neg (by simp [h5, h6]), hl, h.clean], hw.ready h.toReady, hw.aside, hw.mem, by rw [hw.dir]; exact h.entry⟩

theorem setEnt_aside (l : Nat) (y : DirEnt) (s : State) : Aside (s.setEnt l y) s := aside_updDir _ s

/-- What a granted line comes to: the answer has gone, and beside the directory nothing has changed. -/
def Granted (w k : State) (a : Trk) (x : Msg) (P : DirEnt → Prop) : Prop :=
  ∃ z, Aside z k ∧ Gone w z x ∧ ∃ y, z.pool.dir.find (a.dpa / 128) = some y ∧ P y

theorem performLine_shares (h : Allowed g x y e a k) (hop : a.op = 2) (n : Nat) : Granted (performLine a.id n g a k) k a
    (datMsg 2 a.r (Memory.readN k.mem (a.dpa / 128 * 128) 128)) fun y' => y'.st = 1 ∧ y'.sharers = insUp x (if y.st = 1 then y.sharers else []) := by
  obtain ⟨k', hload, hr, hk, hmem, hy⟩ := h.loads (by omega) (by omega)
  have hg := grant_shares h.slot hy n g
  obtain ⟨z, hz⟩ : ∃ z, z = dirTouch a.slice g.tenant (a.dpa / 128) (grant n g a false k') := ⟨_, rfl⟩
  have hside : Aside z k' := by
    rw [hz, hg]
    exact (dirTouch_aside _ _ _ _).trans (setEnt_aside _ _ _)
  have hzr := hside.ready hr
  refine ⟨z, hside.trans hk, ?_, ?_⟩
  · unfold performLine
    simp only [hload, Bool.false_eq_true, if_false]
    rw [hop]
    rw [← hz, hzr.out, hmem]
    exact complete_goes (.inr ⟨rfl, rfl⟩) hzr.trks (by rw [h.wait]; decide) h.who _ _
  · rw [hz, hg]
    exact ⟨_, dirTouch_find _ _ (setEnt_find _ _ _), rfl, rfl⟩

theorem performLine_owns (h : Allowed g x y e a k) (hd : g.durable = false) (hop : a.op = 3 ∨ a.op = 4) (hupg : a.upg = false) (n : Nat) :
    Granted (performLine a.id n g a k) k a (datMsg 3 a.r (Memory.readN k.mem (a.dpa / 128 * 128) 128)) fun y' =>
      y'.st = 2 ∧ y'.owner = x ∧ y'.laV = true ∧ y'.lastAtom = x := by
  obtain ⟨k', hload, hr, hk, hmem, hy⟩ := h.loads (by omega) (by omega)
  have hp := predUpdate_marks h.slot hy (by omega)
  have hg := grant_owns h.slot (setEnt_find k' (a.dpa / 128) { y with pred := newPred y a.op a.sentInv x, laV := true, lastAtom := x }) hd n
  rw [← hp] at hg
  obtain ⟨z, hz⟩ : ∃ z, z = dirTouch a.slice g.tenant (a.dpa / 128) (grant n g a true (predUpdate a k')) := ⟨_, rfl⟩
  have hside : Aside z k' := by
    rw [hz, hg, hp]
    exact (dirTouch_aside _ _ _ _).trans ((setEnt_aside _ _ _).trans (setEnt_aside _ _ _))
  have hzr := hside.ready hr
  refine ⟨z, hside.trans hk, ?_, ?_⟩
  · have heq : performLine a.id n g a k = complete a.id a.slice n g ⟨datMsg 3 a.r (Memory.readN k'.mem (a.dpa / 128 * 128) 128), [], []⟩
        (bypassEnd a.slice (a.dpa / 128 / 128) g false z) := by
      unfold performLine
      simp only [hload, Bool.false_eq_true, if_false, hupg]
      rw [hz]
      rcases hop with ho | ho <;> rw [ho] <;> rfl
    rw [heq, hzr.out, hmem]
    exact complete_goes (.inr ⟨rfl, rfl⟩) hzr.trks (by rw [h.wait]; decide) h.who _ _
  · rw [hz, hg]
    exact ⟨_, dirTouch_find _ _ (setEnt_find _ _ _), rfl, rfl, rfl, rfl⟩

theorem performLine_near (h : Allowed g x y e a k) (hd : g.durable = false) (hop : a.op = 7) (hnear : a.near = true) (n : Nat) :
    Granted (performLine a.id n g a k) k a (datMsg 3 a.r (Memory.readN k.mem (a.dpa / 128 * 128) 128) 0 true) fun y' => y'.st = 2 ∧ y'.owner = x := by
  obtain ⟨k', hload, hr, hk, hmem, hy⟩ := h.loads (by omega) (by omega)
  have hp := predUpdate_marks h.slot hy (by omega)
  have ht := dirTouch_find a.slice g.tenant (setEnt_find k' (a.dpa / 128) { y with pred := newPred y a.op a.sentInv x, laV := true, lastAtom := x })
  rw [← hp] at ht
  have hg := grant_owns h.slot ht hd n
  obtain ⟨z, hz⟩ : ∃ z, z = (grant n g a true (dirTouch a.slice g.tenant (a.dpa / 128) (predUpdate a k'))).count .ATOM_NEAR_CNT (a.slice / 4) := ⟨_, rfl⟩
  have hw := count_worn .ATOM_NEAR_CNT (a.slice / 4) 1 (grant n g a true (dirTouch a.slice g.tenant (a.dpa / 128) (predUpdate a k')))
  rw [← hz] at hw
  have hside : Aside z k' := by
    refine hw.aside.trans ?_
    rw [hg, hp]
    exact (setEnt_aside _ _ _).trans ((dirTouch_aside _ _ _ _).trans (setEnt_aside _ _ _))
  have hzr := hside.ready hr
  refine ⟨z, hside.trans hk, ?_, ?_⟩
  · unfold performLine
    simp only [hload, Bool.false_eq_true, if_false]
    rw [hop]
    simp only [hnear, if_true]
    rw [← hz, hzr.out, hmem]
    exact complete_goes (.inr ⟨rfl, rfl⟩) hzr.trks (by rw [h.wait]; decide) h.who _ _
  · rw [hw.dir, hg]
    exact ⟨_, setEnt_find _ _ _, rfl, rfl⟩

end Sys2Proof.Machine
end

section
/-! PROOFS. Requests of tracked lines that wait for nothing (R153, R155, R161, R170): granted at once where nobody must give the line up. -/

namespace Sys2Proof.Machine

variable {s u v w k z : State} {t a : Trk} {r : ReqMsg} {e : Nat × Bytes} {n : Nat} {g : Region} {m dpa op sl x : Nat} {y : DirEnt}

theorem Granted.result {q : Msg} {P : DirEnt → Prop} (h : Granted w k a q P) (hk : Ready g a k) : w.Resting ∧ w.Ans q ∧ w.mem = k.mem ∧ w.pool.trks = [] ∧
    ∃ y, w.pool.dir.find (a.dpa / 128) = some y ∧ P y := by
  obtain ⟨z, hz, hg, y, hy, hP⟩ := h
  refine ⟨hg.resting (hz.ready hk).free, hg.ans, hg.mem.trans hz.mem, hg.trks, y, ?_, hP⟩
  exact (hg.keeps (p := fun s => s.pool.dir.find (a.dpa / 128)) (fun _ _ => rfl) (fun _ _ => rfl) (fun _ _ => rfl) (fun _ _ => rfl) fun _ _ => rfl).trans hy

theorem offChecks_flushes : OffChecks fun s : State => s.pool.flushes := by constructor <;> intro _ _ <;> rfl

theorem durableGate_volatile (hd : g.durable = false) (op : Nat) (v : State) : v.durableGate g op = .ok := by
  unfold State.durableGate
  rw [if_pos (.inl (by simp [hd]))]

section
variable (hh : s.su.held = false) (hi : s.Idle) (hfl : s.pool.flushes = []) (hu : v.upsets = [])
  (hp : v.InPlace g.tenant (v.blockHome g m (dpa / 16384)) (dpa / 16384)) (hpo : v.poison.contains (dpa / 128) = false) (h1 : g.kind = 1)
  (hd : g.durable = false) (hx : slotOf e.2 = some x)
include hh hi hfl hu hp hpo h1 hd hx

omit hh hpo in
/-- A request of a tracked line comes to the directory. -/
theorem Reaches.asks (hr : Reaches op r s v e n g m dpa) (hop : op < 0x10) : ∃ t, Taken op r e n g dpa (v.blockHome g m (dpa / 16384)) t ∧ t.slot = some x ∧
    v.region t.region = some g ∧ Ready g { t with locked := true } (v.withTrk { t with locked := true }) ∧
      ∀ w, serveLocked t.id t g (v.withTrk { t with locked := true }) = w → w.Resting → pump (reqArrive op r s) = w := by
  obtain ⟨t, ht, hl, hrun⟩ := hr.runs hi
  have hreg : v.region t.region = some g := by
    rw [ht.region]
    exact hr.1.region
  refine ⟨t, ht, by rw [ht.slot, if_pos h1, hx], hreg, hr.ready hi hu hp ht.lock (.refl _), fun w hw hrest => hrun w ?_ hrest⟩
  rw [serve_begins hreg (by omega) (fun h => by rw [ht.op] at h; omega) (fun _ => (hr.1.kept offChecks_flushes).trans hfl) hl ht.ans
    (durableGate_volatile hd _ v)]
  exact hw

/-- Where nobody must give the line up first, the request comes to its operation. -/
theorem Reaches.grants (hr : Reaches op r s v e n g m dpa) (hop : op = 2 ∨ op = 3 ∨ op = 4 ∨ op = 7) {c : Instr} (hc : exec c s = pumped (reqArrive op r) s)
    (hroom : s.pool.dir.find (dpa / 128) = none → (v.dirSet (v.blockHome g m (dpa / 16384)) g.tenant
      (v.dirIdx (v.blockHome g m (dpa / 16384)) g.tenant (dpa / 128))).length < (v.dirGeom (v.blockHome g m (dpa / 16384))).2)
    (hold : ∀ y, s.pool.dir.find (dpa / 128) = some y → y.holds x = false)
    (hplan : ∀ y, s.pool.dir.find (dpa / 128) = some y → snoopPlan y op (some x) = none) {P : State → Prop} (hset : ∀ w, P w → P (settle w))
    (hP : ∀ a k y, Allowed g x y e a k → a.op = op → a.r = r → a.dpa = dpa → k.mem = s.mem →
      (s.pool.dir.find (dpa / 128) = some y ∨ s.pool.dir.find (dpa / 128) = none ∧ y.st = 0 ∧ y.pred = 1) →
      a.near = (decide (op = 7) && decide (y.pred < 2)) → a.upg = (decide (op = 4) && decide (y.st = 1) && y.holds x) →
      (performLine a.id n g a k).Resting ∧ P (performLine a.id n g a k)) : Answers c s P := by
  obtain ⟨t, ht, hslot, hreg, hready, hrun⟩ := hr.asks hi hfl hu hp h1 hd hx (by omega)
  have hvdir : v.pool.dir = s.pool.dir := hr.1.kept offChecks_dir
  rw [← hvdir] at hroom hold hplan
  obtain ⟨b, z, y, hdir, hz, hy, hyv⟩ := directory_grants ht hop hslot hroom hold hplan
  obtain ⟨a, ha⟩ : ∃ a, a = t.granted b (decide (op = 7) && decide (y.pred < 2)) (decide (op = 4) && decide (y.st = 1) && y.holds x) := ⟨_, rfl⟩
  rw [← ha] at hdir
  have hzr := hz.ready hready
  have har : Ready g a (z.withTrk a) := by
    refine ⟨rfl, hzr.free, hzr.upsets, ?_⟩
    rw [ha]
    exact hzr.place
  have haop : a.op = op := by rw [ha]; exact ht.op
  have hadpa : a.dpa = dpa := by rw [ha]; exact ht.dpa
  have hid : a.id = t.id := by rw [ha]; rfl
  obtain ⟨k, hserve, hw⟩ := serveLocked_grants h1 hd hdir hid (by rw [haop]; omega) (by rw [ha]; rfl) (by rw [ha]; rfl) har (by rw [ha]; exact ht.data)
    (by rw [ha]; exact ht.poisoned) (by rw [ha]; exact ht.acks)
  have hkr := hw.ready har
  have hperf : perform t.id t.region g ((z.memberOf g).getD 0) k = performLine a.id n g a k := by
    rw [ht.region, ← hid]
    exact perform_line (trk_only hkr.trks) (by rw [haop]; omega) (by omega) n _
  have hall : Allowed g x y e a k := by
    refine ⟨hkr, by rw [ha]; exact ht.who, by rw [ha]; exact hslot, by rw [ha]; exact ht.wait, ?_, ?_⟩
    · rw [hw.dir, hadpa]
      exact hy
    · rw [hw.poison, hadpa, show (z.withTrk a).poison = z.poison from rfl, hz.poison]
      exact hpo
  obtain ⟨hrest, hres⟩ := hP a k y hall haop (by rw [ha]; exact ht.r) hadpa (hw.mem.trans (hz.mem.trans (hr.1.kept offChecks_mem)))
    (by
      rw [← hvdir]
      refine hyv.imp_right fun ⟨hn, c, hc⟩ => ⟨hn, ?_, ?_⟩ <;> rw [hc] <;> rfl)
    (by rw [ha]; rfl) (by rw [ha]; rfl)
  exact answers_of_rest hc hh hset (hrun _ (hserve.trans hperf) hrest) hres

end

end Sys2Proof.Machine
end

section
/-! PROOFS. A tracked line that one slot shares is asked for in O (R155, R161): the slot is snooped, and the request waits with its line locked. -/

namespace Sys2Proof.Machine

variable {s u v w k z : State} {t a : Trk} {r : ReqMsg} {e : Nat × Bytes} {n : Nat} {g : Region} {m dpa op sl x : Nat} {y : DirEnt}

/-- The snoop that takes a shared line from a slot. -/
def invSnoop (s : State) (g : Region) (t : Trk) (a : W16) : Msg :=
  { cls := .snp, op := 1, dst := a, src := s.myId, tag := w16 t.id, handle := w16 t.region, addr := dpaToSpa g ((s.memberOf g).getD 0) (t.dpa / 128 * 128) }

/-- A snoop goes out, and its request waits for the answer until the snoop expires. -/
theorem sendSnoop_waits {i : Nat} {h : W16} (ht : s.pool.trks = [t]) (hs : s.slotSt t.tenant i ≠ 1) (hh : s.slotHost t.tenant i = some h)
    (hg : s.region t.region = some g) : ∃ z q b c, z = (send (invSnoop s g t h) s).count .SNP_SENT_CNT (t.slice / 4) ∧
      q = ⟨i, z.time.nclk + usec (max 1 (min 10000 (z.rfld .HOME_CFG (t.slice / 4) 15 0))), true, false, false⟩ ∧
      c = { t with snoops := t.snoops ++ [q], sentInv := b } ∧ sendSnoop t.id true i s = z.withTrk c := by
  obtain ⟨z, hz⟩ : ∃ z, z = (send (invSnoop s g t h) s).count .SNP_SENT_CNT (t.slice / 4) := ⟨_, rfl⟩
  have hztr : z.pool.trks = [t] := by
    rw [hz, (count_worn _ _ _ _).trks, send_pool, ht]
  refine ⟨z, _, t.sentInv || (true && t.slot ≠ some i), _, hz, rfl, rfl, ?_⟩
  unfold sendSnoop
  rw [trk_only ht]
  dsimp only
  rw [if_neg hs, hh, hg]
  dsimp only
  rw [if_pos rfl]
  unfold invSnoop at hz
  rw [← hz, updTrk_only hztr]

/-- What a snooped request leaves: the snoop has gone, the line is locked, and the request waits for its answer. -/
structure Snooped (w v : State) (g : Region) (t : Trk) (i : Nat) (h : W16) : Prop where
  sent : w.Sent (invSnoop v g t h)
  mem : w.mem = v.mem
  dir : w.pool.dir = v.pool.dir
  resting : v.Free → w.Resting
  trk : ∃ z : Trk, w.pool.trks = [z] ∧ z.locked = true ∧ z.wait = .snoop ∧ z.ans = none ∧ z.snoops.map Snp.slot = [i] ∧
    ∀ q ∈ z.snoops, q.at_ = w.time.nclk + usec (max 1 (min 10000 (w.rfld .HOME_CFG (z.slice / 4) 15 0)))

theorem directory_snoops {i : Nat} {h : W16} (ht : Taken 3 r e n g dpa sl t) (hx : t.slot = some x) (hreg : v.region t.region = some g)
    (hy : v.pool.dir.find (dpa / 128) = some y) (hst : y.st = 1) (hone : y.sharers = [i]) (hold : y.holds x = false)
    (hs : v.slotSt g.tenant i ≠ 1) (hh : v.slotHost g.tenant i = some h) :
    ∃ w, directory t.id t (v.withTrk { t with locked := true }) = (false, w) ∧ Snooped w v g t i h := by
  obtain ⟨tl, htl⟩ : ∃ tl : Trk, tl = { t with locked := true } := ⟨_, rfl⟩
  rw [← htl]
  have hid : tl.id = t.id := by rw [htl]
  have hw := dirUse_worn t.slice t.tenant (t.dpa / 128) (v.withTrk tl)
  obtain ⟨s1, hs1⟩ : ∃ s1, s1 = dirUse t.slice t.tenant (t.dpa / 128) (v.withTrk tl) := ⟨_, rfl⟩
  rw [← hs1] at hw
  have hfind : s1.pool.dir.find (t.dpa / 128) = some y := by
    rw [hw.dir, ht.dpa]
    exact hy
  have hplan : snoopPlan y t.op t.slot = some (true, [i]) := by
    unfold snoopPlan
    rw [hst, ht.op, hone]
    rfl
  obtain ⟨near, hnear⟩ : ∃ c, c = (decide (t.op = 7) && t.slot.isSome && decide (y.pred < 2)) := ⟨_, rfl⟩
  obtain ⟨upg, hupg⟩ : ∃ c, c = (decide (t.op = 4) && decide (y.st = 1) && y.holds (t.slot.getD 0)) := ⟨_, rfl⟩
  obtain ⟨t2, ht2⟩ : ∃ t2 : Trk, t2 = { tl with dirPh := 1, near := near, upg := upg } := ⟨_, rfl⟩
  have h2 : s1.updTrk t.id (fun a => { a with dirPh := 1, near := near, upg := upg }) = s1.withTrk t2 := by
    rw [← hid, updTrk_only (hw.trks.trans rfl), ht2]
  have hid2 : t2.id = t.id := by rw [ht2]; exact hid
  have hten : t2.tenant = g.tenant := by rw [ht2, htl]; exact ht.tenant
  have hslot : (s1.withTrk t2).slotSt t2.tenant i ≠ 1 := by
    rw [hten, show (s1.withTrk t2).slotSt g.tenant i = s1.slotSt g.tenant i from rfl,
      hw.keeps (p := fun s => s.slotSt g.tenant i) fun _ _ _ _ _ _ _ => rfl]
    exact hs
  have hhost : (s1.withTrk t2).slotHost t2.tenant i = some h := by
    rw [hten]
    exact (hw.keeps (p := fun s => s.slotHost g.tenant i) fun _ _ _ _ _ _ _ => rfl).trans hh
  have hregion : (s1.withTrk t2).region t2.region = some g := by
    rw [show t2.region = t.region by rw [ht2, htl]]
    exact (hw.keeps (p := fun s => s.region t.region) fun _ _ _ _ _ _ _ => rfl).trans hreg
  obtain ⟨z, q, b, t3, hz, hq, ht3, hsend⟩ := sendSnoop_waits (withTrk_trks s1 t2) hslot hhost hregion
  rw [hid2] at hsend
  have hid3 : t3.id = t.id := by rw [ht3]; exact hid2
  have hsn : t3.snoops = [q] := by
    rw [ht3, show t2.snoops = [] by rw [ht2, htl]; exact ht.snoops]
    rfl
  have hdir : directory t.id t (v.withTrk tl) = (false, z.withTrk { t3 with wait := .snoop }) := by
    unfold directory
    dsimp only
    rw [if_pos ht.dirPh, if_pos ht.dirPh, ← hs1, hfind, if_neg (by simp [hx, hold]), if_pos (by rw [ht.op]; rfl)]
    rw [show needEntry t.id t s1 = (true, s1) by unfold needEntry; dsimp only; rw [hfind]; rfl]
    dsimp only
    rw [hfind]
    dsimp only
    rw [hplan, ← hnear, ← hupg, h2]
    dsimp only
    rw [show sendSnoops t.id true [i] (s1.withTrk t2) = sendSnoop t.id true i (s1.withTrk t2) from rfl, hsend, trk_withTrk hid3]
    dsimp only
    rw [if_neg (by rw [hsn]; simp)]
    unfold State.waitTrk
    rw [updTrk_withTrk hid3]
  have hkeep : ∀ {α : Type} {p : State → α}, (∀ s y, p { s with regs := y } = p s) → (∀ s y, p { s with cnt64 := y } = p s) →
      (∀ s y, p { s with links := y } = p s) → (∀ s y, p { s with out := y } = p s) → p z = p (s1.withTrk t2) := fun {α p} hr hc hl ho => by
    rw [hz, count_keeps p hr hc]
    exact send_keeps p hr hc hl ho _ _
  have hsaid : ∃ p, Out.msg p (invSnoop (s1.withTrk t2) g t2 h) ∈ z.out := by
    rw [hz, count_keeps State.out (fun _ _ => rfl) (fun _ _ => rfl)]
    exact send_sent _ _
  have hsame : invSnoop (s1.withTrk t2) g t2 h = invSnoop v g t h := by
    unfold invSnoop
    rw [hid2, show t2.region = t.region by rw [ht2, htl], show t2.dpa = t.dpa by rw [ht2, htl],
      show (s1.withTrk t2).myId = v.myId from hw.keeps (p := State.myId) fun _ _ _ _ _ _ _ => rfl,
      show (s1.withTrk t2).memberOf g = v.memberOf g from hw.keeps (p := fun s => s.memberOf g) fun _ _ _ _ _ _ _ => rfl]
  rw [hsame] at hsaid
  refine ⟨_, hdir, hsaid, ?_, ?_, fun hf => ⟨?_, fun a ha => ?_⟩, _, rfl, ?_, rfl, ?_, ?_, ?_⟩
  · exact (hkeep (p := State.mem) (fun _ _ => rfl) (fun _ _ => rfl) (fun _ _ => rfl) fun _ _ => rfl).trans hw.mem
  · exact (hkeep (p := fun s => s.pool.dir) (fun _ _ => rfl) (fun _ _ => rfl) (fun _ _ => rfl) fun _ _ => rfl).trans hw.dir
  · exact (hkeep (p := State.Free) (fun _ _ => rfl) (fun _ _ => rfl) (fun _ _ => rfl) fun _ _ => rfl).mpr (hw.free hf)
  · rw [withTrk_trks, List.mem_singleton] at ha
    subst ha
    refine ⟨by simp, ?_⟩
    unfold State.mayFinish
    rw [show t3.ans = none by rw [ht3, ht2, htl]; exact ht.ans]
    rfl
  · show t3.locked = true
    rw [ht3, ht2, htl]
  · show t3.ans = none
    rw [ht3, ht2, htl]
    exact ht.ans
  · show t3.snoops.map Snp.slot = [i]
    rw [hsn, hq]
    rfl
  · intro c hc
    rw [show ({ t3 with wait := .snoop } : Trk).snoops = t3.snoops from rfl, hsn, List.mem_singleton] at hc
    rw [hc, hq, show ({ t3 with wait := .snoop } : Trk).slice = t2.slice by rw [ht3]]
    rfl

/-- A shared or unheld line is shared further without a snoop. -/
theorem snoopPlan_shared (h : y.st = 0 ∨ y.st = 1) (i : Option Nat) : snoopPlan y 2 i = none := by
  unfold snoopPlan
  rcases h with h | h <;> rw [h] <;> rfl

/-- A line that nobody holds is asked for without a snoop. -/
theorem snoopPlan_unheld (h : y.st = 0) (op : Nat) (i : Option Nat) : snoopPlan y op i = none := by
  unfold snoopPlan
  rw [h]
  rfl

theorem serveLocked_waits (h1 : g.kind = 1) (hdir : directory t.id t v = (false, w)) : serveLocked t.id t g v = w := by
  unfold serveLocked
  rw [if_pos h1, hdir]

/-- A line that one other slot shares is asked for in O: that slot is snooped, and the request waits. -/
theorem Reaches.snoops (hr : Reaches 3 r s v e n g m dpa) (hh : s.su.held = false) (hi : s.Idle) (hfl : s.pool.flushes = []) (hu : v.upsets = [])
    (hp : v.InPlace g.tenant (v.blockHome g m (dpa / 16384)) (dpa / 16384)) (h1 : g.kind = 1) (hd : g.durable = false) (hx : slotOf e.2 = some x)
    (hy : s.pool.dir.find (dpa / 128) = some y) (hst : y.st = 1) {i : Nat} {h : W16} (hone : y.sharers = [i]) (hold : y.holds x = false)
    (hs : s.slotSt g.tenant i ≠ 1) (hhost : s.slotHost g.tenant i = some h) {P : State → Prop} (hset : ∀ w, P w → P (settle w))
    (hP : ∀ w t, Taken 3 r e n g dpa (v.blockHome g m (dpa / 16384)) t → Snooped w v g t i h → P w) : Answers (.rdOwn r) s P := by
  obtain ⟨t, ht, hslot, hreg, -, hrun⟩ := hr.asks hi hfl hu hp h1 hd hx (by decide)
  have hkept : v.pool.dir = s.pool.dir ∧ v.slotSt g.tenant i = s.slotSt g.tenant i ∧ v.slotHost g.tenant i = s.slotHost g.tenant i :=
    ⟨hr.1.kept offChecks_dir, hr.1.kept (p := fun s => s.slotSt g.tenant i) (by constructor <;> intro _ _ <;> rfl),
      hr.1.kept (p := fun s => s.slotHost g.tenant i) (by constructor <;> intro _ _ <;> rfl)⟩
  obtain ⟨hdir, hsl, hho⟩ := hkept
  obtain ⟨w, hw, hsn⟩ := directory_snoops ht hslot hreg (hdir ▸ hy) hst hone hold (hsl ▸ hs) (hho ▸ hhost)
  have hfree : v.Free := ((hr.1.kept offChecks_idle).mpr hi).free
  exact answers_of_rest rfl hh hset (hrun w (serveLocked_waits h1 hw) (hsn.resting hfree)) (hP w t ht hsn)

end Sys2Proof.Machine
end

section
open Sys2Proof Sys2Proof.Machine

/-- Settles O13: a request that nobody must answer first comes to its grant and is answered; one line shared by another slot is snooped with its tracker left
waiting, the line locked. -/
theorem trackedLinesAreGranted : Obligations.TrackedLinesAreGranted := by
  unfold Obligations.TrackedLinesAreGranted
  intro s v r e n g m dpa x hh hi hfl hu hp hpo h1 hd hx hroom hold
  have hnot : ∀ y, s.pool.dir.find (dpa / 128) = some y → y.holds x = false := fun y hy => (hold y hy).1
  refine ⟨fun hr => ?_, fun hfree => ⟨fun hr => ?_, fun hr => ?_, fun hr hpred => ?_⟩, fun y i h hy hst hone hs hhost hr => ?_⟩
  · refine hr.grants hh hi hfl hu hp hpo h1 hd hx (.inl rfl) rfl hroom hnot (fun y hy => snoopPlan_shared (hold y hy).2 _) (fun _ h => h)
      fun a k y ha hop har hdpa hmem hy _ _ => ?_
    obtain ⟨hrest, hans, hm, ht, y', hf, hst, hsh⟩ := (performLine_shares ha hop n).result ha.toReady
    rw [har, hdpa, hmem] at hans
    refine ⟨hrest, hans, hm.trans hmem, ht, y', hdpa ▸ hf, hst, ?_⟩
    rw [hsh]
    rcases hy with hy | ⟨hy, h0, -⟩
    · rw [hy]
    · rw [hy, if_neg (by omega)]
  · refine hr.grants hh hi hfl hu hp hpo h1 hd hx (.inr (.inl rfl)) rfl hroom hnot (fun y hy => snoopPlan_unheld (hfree y hy) _ _) (fun _ h => h)
      fun a k y ha hop har hdpa hmem _ _ hupg => ?_
    obtain ⟨hrest, hans, hm, ht, y', hf, hst, how, hla, hat⟩ := (performLine_owns ha hd (.inl hop) hupg n).result ha.toReady
    rw [har, hdpa, hmem] at hans
    exact ⟨hrest, hans, hm.trans hmem, ht, y', hdpa ▸ hf, hst, how, hla, hat⟩
  · refine hr.grants hh hi hfl hu hp hpo h1 hd hx (.inr (.inr (.inl rfl))) rfl hroom hnot (fun y hy => snoopPlan_unheld (hfree y hy) _ _) (fun _ h => h)
      fun a k y ha hop har hdpa hmem hy _ hupg => ?_
    have h0 : y.st = 0 := hy.elim (hfree y) fun ⟨_, h0, _⟩ => h0
    rw [h0] at hupg
    obtain ⟨hrest, hans, hm, ht, y', hf, hst, how, -⟩ := (performLine_owns ha hd (.inr hop) hupg n).result ha.toReady
    rw [har, hdpa, hmem] at hans
    exact ⟨hrest, hans, hm.trans hmem, ht, y', hdpa ▸ hf, hst, how⟩
  · refine hr.grants hh hi hfl hu hp hpo h1 hd hx (.inr (.inr (.inr rfl))) rfl hroom hnot (fun y hy => snoopPlan_unheld (hfree y hy) _ _) (fun _ h => h)
      fun a k y ha hop har hdpa hmem hy hnear _ => ?_
    have hp2 : y.pred < 2 := hy.elim (hpred y) fun ⟨_, _, h1⟩ => by omega
    obtain ⟨hrest, hans, hm, ht, y', hf, hst, how⟩ := (performLine_near ha hd hop (by rw [hnear]; simpa using hp2) n).result ha.toReady
    rw [har, hdpa, hmem] at hans
    exact ⟨hrest, hans, hm.trans hmem, ht, y', hdpa ▸ hf, hst, how⟩
  · refine hr.snoops hh hi hfl hu hp h1 hd hx hy hst hone (hnot y hy) hs hhost (fun _ h => h) fun w t ht hsn => ⟨⟨w16 t.id, ?_⟩, ?_, ?_, hsn.trk⟩
    · have hsent := hsn.sent
      unfold invSnoop at hsent
      rw [ht.region, ht.dpa, hr.1.kept (p := State.myId) (by constructor <;> intro _ _ <;> rfl), hr.1.kept (p := fun s => s.memberOf g) (by constructor <;> intro _ _ <;> rfl)] at hsent
      exact hsent
    · exact hsn.mem.trans (hr.1.kept offChecks_mem)
    · rw [hsn.dir, hr.1.kept offChecks_dir]
      exact hy

end
